-- ==== Sys2Proof/Word.lean ====
section
/-! DEFINITION. The word types of the KZ-1600: bytes, 32-bit words (R7) and 64-bit words. -/

namespace Sys2Proof

/-- A byte of memory. -/
abbrev Byte := BitVec 8

/-- A Word of a structure layout (R7), a 32-bit register. -/
abbrev Word := BitVec 32

/-- A 64-bit register, a Buoy word, an address. -/
abbrev Dword := BitVec 64

end Sys2Proof
end

