-- ==== Sys2Proof/Machine/Forms.lean ====
section
/-! DEFINITION. The operand forms of the commands: who issues, which register is named, what the host or the wire delivers. -/

namespace Sys2Proof.Machine

/-- The classes that issue Yadopex commands (R107): an instance's admin queue (the manager is instance 0) or the BMC. -/
inductive Issuer where
  | inst (iid : Fin 2048)
  | bmc
  deriving DecidableEq, Repr

/-- A Yadopex command as Keeper has read it: its entry words (R96), the indirect parameter block read for it (R105), and the
host data that its parameters name (an image, a table, a key blob). -/
structure AdminEntry where
  issuer : Issuer
  words : List Word
  block : List Word
  data : List Byte
  deriving DecidableEq, Repr

/-- The window a register access names: the manager control window (R27), or the instance window of a function (R142, R144). -/
inductive RegWindow where
  | control
  | inst (iid : Fin 2048)
  deriving DecidableEq, Repr

/-- A register access: the master (R3), the window, the byte offset, the size in bytes and whether every byte is enabled. -/
structure RegAccess where
  mid : BitVec 13
  window : RegWindow
  offset : BitVec 26
  size : Nat
  full : Bool
  deriving DecidableEq, Repr

/-- What the check code of a memory line says of a read (R313, R720): good data, a corrected error, or an uncorrectable one whose one
re-read gave good data or not. -/
inductive EccResult where
  | good | corrected | uncorrectable (rereadGood : Bool)
  deriving DecidableEq, Repr

/-- What a peer or a drive asks of LPDDR5X: a read, with what the check codes of its lines say of it (R313), or a write of data. -/
inductive PeerAccess where
  | read (ecc : EccResult) | write (data : List Byte)
  deriving DecidableEq, Repr

/-- How the handover of step 4 of R85 goes: how long admin fetch pauses, in microseconds, and whether the active pair suffers a device-fatal
fault before step 5 (R89). -/
structure Handover where
  pauseUs : Fin 50001
  fault : Bool
  deriving DecidableEq, Repr

/-- What a microword of a shipped bank does for its connection's protocol (R515 to R525): the manual gives those banks at the ring and
wire level and not word by word, so the steps that a microword realises are named with it. Host data is what the host delivers. -/
inductive ProtoStep where
  /-- the requester starts the oldest entry that it has not; none: the read of a segment failed (R517) -/
  | send (data : Option (List Byte))
  /-- the routine's RoCEv2 frame is taken; host data serves a READ (R517 to R519) -/
  | roce (icrcGood : Bool) (hostData : List Byte)
  /-- the responder acknowledges what it has received (R515) -/
  | ackNow
  /-- the local ACK timeout, the end of an RNR wait, and 55 us without a CNP (R517, R519) -/
  | ackTimeout
  | rnrResend
  | rateRise
  /-- NVMe over TCP: ICReq is sent, ICResp arrives, the connection fails to open (R522, R526) -/
  | icReq
  | icResp (good : Bool)
  | connectFail (cause : BitVec 3)
  /-- the oldest entry not sent is sent as a capsule (R522, R523) -/
  | submit (data : Option (List Byte))
  /-- the controller is ready for data of an entry, sends data of an entry, and completes an entry (R522, R523) -/
  | readyToTransfer (index ttag offset : Nat) (data : List Byte)
  | dataIn (index offset : Nat) (bytes : List Byte)
  | capsuleResp (index : Nat) (cqe : List Word)
  /-- digest errors, a TermReq, a TCP reset, a TLS record that fails (R522) -/
  | dataDigest (index : Nat)
  | headerDigest
  | termReq
  | tcpReset
  | recordFail
  /-- TCP: an RTO expires, three duplicate ACKs, an ACK that advances (R522) -/
  | tcpRto
  | tcpFast
  | tcpAck
  /-- the drive of a local attachment answers an entry; data is what a read has staged (R525) -/
  | driveDone (index : Nat) (cqe : List Word) (data : List Byte)
  deriving DecidableEq, Repr

/-- How a host read ends at the link (R156): data, poisoned data, data whose ECRC fails, or a completion without data. -/
inductive CplStatus where
  | good | poisoned | ecrc | refused
  deriving DecidableEq, Repr

/-- How the host reads of an entry's segments end (R153, R156, R192, R227): with the bytes, or with a completion that is poisoned, fails its ECRC or
refuses, or with none in time. -/
inductive SegRead where
  | data (bytes : List Byte)
  | poisoned | ecrc | refused | timedOut
  deriving DecidableEq, Repr

/-- What the host link layer sees (R156); a malformed request, or one whose ECRC is wrong, addresses a function. -/
inductive LinkError where
  | receiver | replayTimer | replayRollover | corrected | dataLink | flowControl | malformed (fn : Fin 2048) | ecrc (fn : Fin 2048)
  | uncorrectable
  deriving DecidableEq, Repr

/-- What a configuration read asks for: the values of R136, R139, R143 and R144, and the fields that the host sets. -/
inductive CfgItem where
  | vendorId | deviceId | classCode | serialNumber | nextFunction | totalVfs | initialVfs | firstVfOffset | vfStride | vfDeviceId
  | pageSizes | msixSize | msixBir | msixTable | msixPba | maxPayload | auxCurrent | pasidWidth | atsDepth | bar4Sizes | bar4Size
  | memSpace | busMaster | powerState | pmeEn | pmeStatus | msixEnable | vfEnable | numVfs | vfMse | ariCapable | cplTimeout | aspmL1
  | aerUncorrectable | aerCorrectable | aerSeverity | aerFirstError | aerHeader
  | maxReadRequest | requesterTags | completerTags | flrCapable | timeoutRanges | timeoutDisable | atomicRequester | atomicCompleter | ecrc
  | linkRates | linkWidth | aspmSupport | marginTiming | marginVoltage | noSoftReset | pmeSupport | d1d2 | pasidExecute | pasidPrivileged
  | atsPageAligned | ltr | l1Substates | tPowerOn | commonModeRestore | resizableBar | acsCapable | acsControl | ptmRequester | scaledFlowControl
  | flitMode | mctp | subsystemVendorId | subsystemId | barBytes (pair : Fin 3) | bar64 (pair : Fin 3) | barPrefetch (pair : Fin 3)
  | vfBarBytes | vfBar64 | vfBarPrefetch
  deriving DecidableEq, Repr

/-- A configuration request to a function (R67, R136): a read, or a write of a field that has no row of its own. -/
inductive CfgAccess where
  | read (item : CfgItem)
  | memSpace (on : Bool)
  | busMaster (on : Bool)
  | pmeEn (on : Bool)
  | clearPmeStatus
  | msixEnable (on : Bool)
  | vfMse (on : Bool)
  | ariCapable (on : Bool)
  | cplTimeout (encoding : BitVec 4)
  | aspmL1 (on : Bool)
  | bar4Size (log2 : BitVec 5)
  | acsControl (bits : BitVec 7)
  | clearAer
  deriving DecidableEq, Repr

/-- A received or transmitted Ethernet frame without its FCS, and whether its FCS is good. -/
structure WireFrame where
  bytes : List Byte
  fcsGood : Bool
  deriving DecidableEq, Repr

end Sys2Proof.Machine
end

