-- ==== Sys2Proof/Syntax.lean ====
section
/-! DEFINITION. The commands of the KZ-1600: one constructor for each row of spec/opcode_table.json, in the table's order. Each
docstring gives the row's rule and its summary; the operands are what the rule takes from outside the device. -/

namespace Sys2Proof

open Machine

/-- The steps of the table of operations and events. -/
inductive Instr where
  /-- REGISTER_WRITE (R9): A write to a register that has no row of its own, applied according to its access code, with refused accesses handled under R772 and bad masters under R773. -/
  | registerWrite (acc : Machine.RegAccess) (value : Dword)
  /-- RC_REGISTER_READ (R9): A read of an RC register returns its value and clears it. -/
  | rcRegisterRead (acc : Machine.RegAccess)
  /-- BLK_CTL_ENABLE_WRITE (R15): Writing 1 to a block's enable sets checking and starts its consistency check. -/
  | blkCtlEnableWrite (mid : BitVec 13) (block : Fin 32)
  /-- CONSISTENCY_CHECK_END (R15): A consistency check ends in acceptance, which sets ready and takes the claims, or in refusal, which stores a reason and applies any write held meanwhile. -/
  | consistencyCheckEnd (block : Fin 32)
  /-- BLK_CTL_DISABLE_WRITE (R16): Writing 0 to enable clears ready and releases the block's claims. -/
  | blkCtlDisableWrite (mid : BitVec 13) (block : Fin 32)
  /-- BLK_CTL_LOCK_WRITE (R19): Writing 1 to lock makes the block's RWL fields read-only until fundamental reset. -/
  | blkCtlLockWrite (mid : BitVec 13) (block : Fin 32) (enable : Bool)
  /-- AUX_SUPPLIES_GOOD (R764): AUX_PG rises: the straps are sampled and the device enters Standby, or secure boot starts when main supplies are already good. -/
  | auxSuppliesGood (strapBoot : BitVec 2) (strapRetainN strapMgpDis : Bool)
  /-- AUX_SUPPLIES_LOST (R764): AUX_PG falls or an always-on rail leaves tolerance: loss of main supplies is handled first, then every island stops and only Daymark runs. -/
  | auxSuppliesLost
  /-- MAIN_SUPPLIES_GOOD (R762): PWR confirms every main rail and starts secure boot or the ROM recovery loader. -/
  | mainSuppliesGood (strapBoot : BitVec 2) (strapRetainN strapMgpDis : Bool)
  /-- MAIN_SUPPLIES_LOST (R763): MAIN_PG falls or a main rail leaves tolerance for 2 µs: MRAM writes stop at a 64-byte boundary and the device enters Standby. -/
  | mainSuppliesLost
  /-- SEQUENCING_FAULT (R762): A rail rises before its group's turn: seq_fault is set, ES 504 is raised, and main supplies stay not good. -/
  | sequencingFault
  /-- RAIL_EXCURSION (R770): A rail is outside tolerance for less than 2 µs: PWR_EXCURSIONS counts it and ES 504 is raised. -/
  | railExcursion
  /-- KEEPER_LOCKSTEP_MISMATCH (R728): The two cores of a Keeper pair disagree: a device-fatal fault of that pair. -/
  | keeperLockstepMismatch (pair : Fin 2)
  /-- HEARTBEAT_TIMEOUT (R728): The active pair has not written RAS_HEARTBEAT within timeout_ms: a device-fatal fault of that pair. -/
  | heartbeatTimeout
  /-- REVALIDATION_END (R91): Revalidation of the live configuration ends, writes cause, and leaves or stays in Recovery. -/
  | revalidationEnd (block : Option (Fin 32))
  /-- STANDBY_PAIR_READY (R79): The standby pair finishes booting and verification, standby_pair_ready reads 1 and ES 3 is raised. -/
  | standbyPairReady
  /-- ISLAND_RESET_GO (R78): Writing go to GLB_ISLAND_RST checks the island and holds it in reset, or refuses with a GLB reason. -/
  | islandResetGo (mid : BitVec 13) (island : BitVec 6)
  /-- ISLAND_RESET_END (R80): After 10 µs the island reset ends, busy falls and ES 9 is raised. -/
  | islandResetEnd
  /-- DEV_START_SERVICE (R57): Opens tenant traffic and admin fetch from Provision or Recovery. -/
  | devStartService (e : AdminEntry)
  /-- DEV_SNAPSHOT_SAVE (R70): Writes the manager-set configuration into an MRAM snapshot slot, body first and header last, answering PENDING. -/
  | devSnapshotSave (e : AdminEntry)
  /-- SNAPSHOT_SAVE_END (R70): The MRAM write of a snapshot completes and DEV_SNAPSHOT_SAVE gets its final reply. -/
  | snapshotSaveEnd (slot : Fin 4)
  /-- DEV_SNAPSHOT_QUERY (R71): Returns the header fields of a snapshot slot. -/
  | devSnapshotQuery (e : AdminEntry)
  /-- DEV_SNAPSHOT_ERASE (R72): Zeroes a snapshot slot's header in one atomic write. -/
  | devSnapshotErase (e : AdminEntry)
  /-- DEV_IMAGE_STAGE (R82): Writes a firmware image into the inactive bank, answering PENDING. -/
  | devImageStage (e : AdminEntry)
  /-- IMAGE_STAGE_END (R82): The bank write ends; the bank is verified in order and marked staged or not staged, and the command answers. -/
  | imageStageEnd
  /-- DEV_IMAGE_ACTIVATE (R85): Resets the standby pair and has it load the staged bank for a handover. -/
  | devImageActivate (e : AdminEntry)
  /-- HANDOVER_REQUEST (R85): The standby pair requests handover: admin fetch pauses, the handover record is written, active_pair flips and the new pair resumes. -/
  | handoverRequest (course : Machine.Handover)
  /-- ACTIVATION_TIMEOUT (R88): Step 3 has not ended within 2 s: the activation aborts, and the command answers REFUSED 0x0009. -/
  | activationTimeout
  /-- DEV_IMAGE_QUERY (R92): Returns a firmware or microcode bank's header and last verification result. -/
  | devImageQuery (e : AdminEntry)
  /-- PERST_ASSERT (R73): PERST# asserted: resets the host scope, or the whole device without retention, and starts host-facing resets. -/
  | perstAssert
  /-- PERST_DEASSERT (R67): PERST# deasserted: link training and configuration space refill start, and held host-facing resets may end. -/
  | perstDeassert
  /-- HOT_RESET (R73): A hot reset clears the HOST and FUNC domains and the host-facing state of every instance. -/
  | hotReset
  /-- FLR_PF0 (R73): An FLR of PF0 clears VF Enable and resets every instance's host-facing state. -/
  | flrPf0
  /-- FLR_VF (R77): An FLR of a VF resets its instance's host-facing state and completes within 100 ms. -/
  | flrVf (vf : Fin 2048)
  /-- HOST_FACING_RESET_END (R779): A host-facing reset ends: the instance returns to Active or Unbound and receives Buoy message 0x02. -/
  | hostFacingResetEnd (iid : Fin 2048)
  /-- GENERATION_INCREMENT_DUE (R284): A deferred generation increment applies 4 ms after the previous one, releasing whatever waited on it. -/
  | generationIncrementDue (iid : Fin 2048)
  /-- ADMIN_COMMAND_FETCH (R114): Keeper fetches an eligible admin entry or BMC command and runs the acceptance checks in order. -/
  | adminCommandFetch (e : AdminEntry)
  /-- DEV_IDENTIFY (R122): Returns part, stepping, firmware version, target generation, active pair and mode. -/
  | devIdentify (e : AdminEntry)
  /-- DEV_NOP (R113): Answers SUCCESS; with fence it marks that every earlier command of the queue has ended. -/
  | devNop (e : AdminEntry)
  /-- DEV_CMD_ABORT (R123): Ends a PENDING abortable command of the same queue with REFUSED 0x000C. -/
  | devCmdAbort (e : AdminEntry)
  /-- DEV_CLAIM_QUERY (R776): Returns the holder word of a resource identifier. -/
  | devClaimQuery (e : AdminEntry)
  /-- RCL_QUERY_RES_WRITE (R135): Writing RCL_QUERY_RES selects the resource whose holder RCL_QUERY_HOLDER returns. -/
  | rclQueryResWrite (mid : BitVec 13) (value : Word)
  /-- UPSTREAM_LINK_CHANGE (R137): The host link trains, goes down or changes rate or width, and ES 64 is raised. -/
  | upstreamLinkChange (up : Bool) (rate : BitVec 4) (width : BitVec 5)
  /-- CONFIG_REQUEST (R67): A configuration request is answered, or retried with Request Retry Status until the configuration space is filled. -/
  | configRequest (fn : Fin 2048) (access : Machine.CfgAccess)
  /-- VF_ENABLE_SET (R140): VF Enable is set: ARI and NumVFs are sampled, the VFs are instantiated and eligible instances are bound. -/
  | vfEnableSet
  /-- VF_ENABLE_CLEAR (R277): VF Enable is cleared: every bound instance undergoes a host-facing reset. -/
  | vfEnableClear
  /-- NUMVFS_WRITE (R140): NumVFs is written: instances above it are reset, numvfs_bad is set or cleared, and instances are bound. -/
  | numvfsWrite (value : BitVec 16)
  /-- POWERSTATE_WRITE (R147): The host moves a function to D3hot, which stops its queues, or back to D0, which resumes them. -/
  | powerstateWrite (fn : Fin 2048) (d3hot : Bool)
  /-- PME_TURN_OFF (R149): PME_Turn_Off is answered with PME_TO_Ack, and WAKE# is armed for Standby. -/
  | pmeTurnOff
  /-- HOST_READ_COMPLETION (R285): A host read returns data, which is delivered to the unit that issued it or discarded for a stale generation. -/
  | hostReadCompletion (tag : BitVec 14) (status : Machine.CplStatus) (data : List Byte)
  /-- COMPLETION_TIMEOUT (R153): A non-posted request times out: AER is logged, the request ends with a host-read error and its tag is quarantined. -/
  | completionTimeout (tag : BitVec 14)
  /-- LATE_COMPLETION (R154): A completion for a quarantined tag is discarded and counted, and the tag is released. -/
  | lateCompletion (tag : BitVec 14)
  /-- TAG_QUARANTINE_EXPIRY (R154): A quarantined tag is released twice the timeout after its timeout was reported. -/
  | tagQuarantineExpiry (tag : BitVec 14)
  /-- PEER_WINDOW_REQUEST (R159): A memory request to BAR 4–5 is translated through a window, or treated as a miss under R160. -/
  | peerWindowRequest (rid : BitVec 16) (offset : BitVec 38) (bytes : BitVec 13) (access : Machine.PeerAccess) (atomic : Bool)
  /-- PEER_WIN_COMMIT (R161): Writing commit captures a window's shadow and checks it, then activates it at a transaction boundary or refuses it. -/
  | peerWinCommit (mid : BitVec 13) (window : Fin 64) (value : Word)
  /-- PEER_WIN_DRAINED (R162): The last request decoded under the old window completes, commit reads 0 and ES 76 is raised. -/
  | peerWinDrained (window : Fin 64)
  /-- L0P_NARROW (R150): Utilisation over the 64 µs average is low, so L0p narrows the transmit width. -/
  | l0pNarrow
  /-- L0P_WIDEN (R150): Utilisation or buffered host-bound data is high, so L0p widens to the negotiated width. -/
  | l0pWiden
  /-- L1_REQUEST (R150): After l1_idle_us of idle ring engines with nothing pending, the device requests ASPM L1. -/
  | l1Request
  /-- HST_PM_CFG_ENABLE (R167): Setting l0p_enable checks the L0p percentages and width. -/
  | hstPmCfgEnable (mid : BitVec 13) (value : Word)
  /-- HST_CPL_TIMEOUT_OVERRIDE (R168): Setting override checks value_us and applies it to every function. -/
  | hstCplTimeoutOverride (mid : BitVec 13) (value : Word)
  /-- SLOT_PRESENCE_CHANGE (R171): A drive's presence is detected or lost, which moves the slot between Empty and Off and raises ES 80 + 4p. -/
  | slotPresenceChange (port : Fin 4) (present : Bool)
  /-- SLOT_POWER_ON (R176): Writing power_on starts the power-up sequence, or is refused. -/
  | slotPowerOn (mid : BitVec 13) (port : Fin 4) (value : Word)
  /-- SLOT_POWER_GOOD (R172): Slot power good asserts, and slot PERST# is released 100 ms later. -/
  | slotPowerGood (port : Fin 4)
  /-- SLOT_POWER_GOOD_TIMEOUT (R171): No power good arrives within 100 ms: power_fault is set, power is removed and the slot goes Off. -/
  | slotPowerGoodTimeout (port : Fin 4)
  /-- SLOT_LINK_ACTIVE (R171): The downstream link becomes active and the drive is reported to the storage path. -/
  | slotLinkActive (port : Fin 4) (rate : BitVec 4) (width : BitVec 5)
  /-- SLOT_TRAINING_TIMEOUT (R171): No link within 100 ms of slot PERST# release: power is removed and the slot goes Off. -/
  | slotTrainingTimeout (port : Fin 4)
  /-- ATTENTION_BUTTON (R171): The attention button starts or cancels a removal. -/
  | attentionButton (port : Fin 4)
  /-- REMOVAL_TIMEOUT (R171): 5 s in Removal pending elapse: the storage path drains and power is removed. -/
  | removalTimeout (port : Fin 4)
  /-- REMOVAL_DRAIN_END (R175): The drive's commands have ended, or 10 s have passed; the rest complete failed and power is removed. -/
  | removalDrainEnd (port : Fin 4)
  /-- SLOT_POWER_FAULT (R171): A slot power fault latches, and a running port is contained. -/
  | slotPowerFault (port : Fin 4)
  /-- DPC_ERR_MESSAGE (R173): An ERR_FATAL or ERR_NONFATAL from the drive may trigger DPC. -/
  | dpcErrMessage (port : Fin 4) (severity : Fin 3) (source : BitVec 16)
  /-- SURPRISE_DOWN (R173): A link down or presence loss while Up triggers DPC. -/
  | surpriseDown (port : Fin 4)
  /-- DPC_SW_TRIGGER (R173): Writing sw_trigger contains the port. -/
  | dpcSwTrigger (mid : BitVec 13) (port : Fin 4) (value : Word)
  /-- DPC_RELEASE (R171): Writing 1 to triggered releases a contained port to Off or Empty. -/
  | dpcRelease (mid : BitVec 13) (port : Fin 4) (value : Word)
  /-- DRIVE_REQUEST (R170): A drive's own request reaches a granted window, or is discarded or completed UR. -/
  | driveRequest (port : Fin 4) (addr : BitVec 40) (bytes : BitVec 13) (access : Machine.PeerAccess)
  /-- DOORBELL_WRITE (R200): A submission-ring doorbell is checked and sets PI, and fetch of the new entries is issued. -/
  | doorbellWrite (iid : Fin 2048) (loc : BitVec 16) (value : Word)
  /-- EVQ_DOORBELL_WRITE (R205): An event or telemetry ring doorbell advances CI and may arm the vector. -/
  | evqDoorbellWrite (iid : Fin 2048) (loc : BitVec 16) (value : Word) (arm : Bool)
  /-- CONTEXT_FILL_COMPLETE (R204): The pager fills a queue context, and the doorbells held for that queue are acted on in order. -/
  | contextFillComplete (qid : BitVec 16) (ok : Bool)
  /-- TX_FRAME (R192): A fetched TX_FRAME entry is checked, its segments are read, and the frame enters egress, or the entry completes with an error. -/
  | txFrame (qid : BitVec 16) (words : List Word) (payload : Machine.SegRead)
  /-- RX_BUFFER (R194): A fetched RX_BUFFER entry posts a buffer, which frames waiting for that queue may fill. -/
  | rxBuffer (qid : BitVec 16) (words : List Word)
  /-- PAD_ENTRY (R188): A pad entry completes with status 0 and consumes its length, or completes BAD_LENGTH. -/
  | padEntry (qid : BitVec 16) (words : List Word)
  /-- COALESCE_TIMER_EXPIRY (R208): coalesce_time_us after the first accumulated notification, one event entry is posted for the queue. -/
  | coalesceTimerExpiry (qid : BitVec 16)
  /-- QUEUE_CREATE (R218): Creates a receive, transmit, sequencer work or telemetry queue and returns its QID and doorbell offset. -/
  | queueCreate (e : AdminEntry)
  /-- QUEUE_DESTROY (R220): Drains a queue, or forces it Free. -/
  | queueDestroy (e : AdminEntry)
  /-- QUEUE_DRAIN_END (R216): A Draining queue reaches CI = PI with nothing in flight, becomes Free and returns its QID. -/
  | queueDrainEnd (qid : BitVec 16)
  /-- QUEUE_MODIFY (R221): Changes the selected parts of a queue's context, or applies a new ring to an Aborted queue. -/
  | queueModify (e : AdminEntry)
  /-- QUEUE_QUERY (R222): Returns the 16 context words of a queue. -/
  | queueQuery (e : AdminEntry)
  /-- EVQ_CREATE (R223): Creates an event queue with its vector and coalescing. -/
  | evqCreate (e : AdminEntry)
  /-- EVQ_DESTROY (R224): Destroys an event queue that has no bound queues. -/
  | evqDestroy (e : AdminEntry)
  /-- EVQ_REARM (R212): Clears overflow, returns the drop count and posts catch-up entries. -/
  | evqRearm (e : AdminEntry)
  /-- QMG_CTX_SEL_WRITE (R239): Writing a QID takes a consistent snapshot of its context. -/
  | qmgCtxSelWrite (mid : BitVec 13) (qid : BitVec 16)
  /-- DMA_CHANNEL_CFG (R231): Binds a DMA channel to an owner MID and space mask, or releases it. -/
  | dmaChannelCfg (e : AdminEntry)
  /-- DMA_CH_START (R233): Writing start checks a channel and queues it, or refuses with a DMA reason. -/
  | dmaChStart (mid : BitVec 13) (n : BitVec 7)
  /-- DMA_CH_ABORT (R236): Writing abort stops a running or queued channel and writes its residue. -/
  | dmaChAbort (mid : BitVec 13) (n : BitVec 7)
  /-- DMA_CHANNEL_SCHEDULE (R229): An idle engine takes the next waiting channel in rotation and starts its run. -/
  | dmaChannelSchedule (engine : Fin 16)
  /-- DMA_BURST_COMPLETE (R230): A burst completes; the next burst or descriptor follows, or at end of count the status word is written and the source is raised. -/
  | dmaBurstComplete (engine : Fin 16) (host : Option (List Byte))
  /-- EVENT_SOURCE_EDGE (R243): A rising edge on a source sets its pending bit, or is merged, and may assert target lines. -/
  | eventSourceEdge (source : BitVec 9)
  /-- EVC_SRC_FORCE (R244): Writing force acts as a rising edge on the source. -/
  | evcSrcForce (mid : BitVec 13) (source : BitVec 9)
  /-- EVC_SRC_ENABLE (R246): Writing enable checks the source's target mask. -/
  | evcSrcEnable (mid : BitVec 13) (source : BitVec 9) (on : Bool)
  /-- EVC_PENDING_CLEAR (R244): Writing 1 to bits of EVC_PENDING clears those pending bits. -/
  | evcPendingClear (mid : BitVec 13) (k : Fin 16) (bits : Word)
  /-- EVC_CLAIM_READ (R247): Reading EVC_CLAIM returns and clears the lowest claimable source, or returns the spurious number. -/
  | evcClaimRead (mid : BitVec 13) (t : Fin 32)
  /-- TARGET_IDLE (R251): A target becomes idle, which bypasses its moderation hold. -/
  | targetIdle (t : Fin 4) (idle : Bool)
  /-- MODERATION_HOLD_EXPIRY (R251): A target's interval_ns hold ends, and its line may assert. -/
  | moderationHoldExpiry (t : Fin 32)
  /-- VECTOR_MODERATION_EXPIRY (R252): A vector's moderation timer expires, sending a held raise and restarting. -/
  | vectorModerationExpiry (iid : Fin 2048) (v : BitVec 11)
  /-- IDLE_HINT_WRITE (R254): Writing idle sends any held raise at once and marks the vector idle. -/
  | idleHintWrite (iid : Fin 2048) (v : BitVec 11) (idle : Bool)
  /-- MSIX_UNMASK (R255): Unmasking a vector whose PBA bit is set sends its message and restarts the timer. -/
  | msixUnmask (iid : Fin 2048) (v : BitVec 11)
  /-- BUOY_SEND (R257): Writing BUOY_SEND delivers a word to the other side and notifies it, or is discarded as an overrun. -/
  | buoySend (mid : BitVec 13) (internal : Bool) (n : BitVec 11) (word : Dword)
  /-- BUOY_RECV_READ (R258): A read of the upper half of BUOY_RECV returns the word and clears rx_full. -/
  | buoyRecvRead (mid : BitVec 13) (internal : Bool) (n : BitVec 11) (low : Bool)
  /-- BUOY_WITHDRAW (R259): Writing withdraw clears an unread outgoing word, or sets withdraw_too_late. -/
  | buoyWithdraw (mid : BitVec 13) (internal : Bool) (n : BitVec 11)
  /-- BUOY_DB_SEND (R256): Sets doorbell bits at the other side, which notify the receiver where unmasked. -/
  | buoyDbSend (mid : BitVec 13) (internal : Bool) (n : BitVec 11) (bits : Word)
  /-- BUOY_DB_RECV_CLEAR (R256): Writing 1 clears received doorbell bits. -/
  | buoyDbRecvClear (mid : BitVec 13) (internal : Bool) (n : BitVec 11) (bits : Word)
  /-- BUOY_VECTOR_ENABLE (R262): Writing enable checks that the Buoy vector lies in the instance's quota. -/
  | buoyVectorEnable (iid : Fin 2048) (vector : BitVec 16) (on : Bool)
  /-- BUOY_FORCE_CLEAR (R271): The active pair clears both words, both full flags and both doorbell registers of a channel. -/
  | buoyForceClear (mid : BitVec 13) (internal : Bool) (n : BitVec 11)
  /-- INS_CREATE (R296): Reserves quotas and state space, increments the generation and creates the admin queue of a new instance. -/
  | insCreate (e : AdminEntry)
  /-- INS_DESTROY (R302): Tears an instance down step by step and returns every reservation. -/
  | insDestroy (e : AdminEntry)
  /-- INS_RESET (R299): Performs a host-facing reset of an instance, optionally with a new admin ring. -/
  | insReset (e : AdminEntry)
  /-- INS_QUERY (R298): Returns an instance's state, quota and usage. -/
  | insQuery (e : AdminEntry)
  /-- INS_SET_QUOTA (R297): Applies a new quota record at once and notifies the instance. -/
  | insSetQuota (e : AdminEntry)
  /-- INS_SUSPEND (R300): Stops every Active queue of an instance once fetch and delivery in flight end. -/
  | insSuspend (e : AdminEntry)
  /-- INS_RESUME (R300): Returns every Stopped queue of an instance to Active. -/
  | insResume (e : AdminEntry)
  /-- INS_MGR_ADMIN_ENABLE (R309): Writing enable checks instance 0's admin ring and activates it when it is not already active. -/
  | insMgrAdminEnable (mid : BitVec 13) (value : Word)
  /-- INS_SEL_WRITE (R308): Writing an IID takes a snapshot of that instance record. -/
  | insSelWrite (mid : BitVec 13) (iid : Fin 2048)
  /-- FRAME_RECEIVE (R31): A frame arrives at a line port and crosses MAC, buffer allocation, parse, classify, lookups, state and action stages. -/
  | frameReceive (port : Fin 8) (bytes : List Byte)
  /-- FRAME_TAIL (R36): A frame's tail and FCS arrive: state commits for a good FCS, and a released frame with a bad FCS is ended with an inverted FCS. -/
  | frameTail (port : Fin 8) (fcsGood : Bool)
  /-- PAGE_FILL_COMPLETE (R38): A state page becomes resident and its parked packets re-enter stage 7 in order. -/
  | pageFillComplete (page : BitVec 30) (ecc : EccResult)
  /-- PARK_TIMEOUT (R336): A packet parked for max_park_us is removed and dropped. -/
  | parkTimeout (place : BitVec 16)
  /-- HOST_FILL_RETRY (R333): 1 ms after a failed host fill, the fill is retried once; a second failure poisons the page. -/
  | hostFillRetry (page : BitVec 30)
  /-- WRITE_BACK_COMPLETE (R333): A dirty page's write-back ends, or fails and is rehomed. -/
  | writeBackComplete (page : BitVec 30) (ok : Bool)
  /-- PAGE_EVICTION (R331): The pager evicts ahead of demand by a clock algorithm to keep free_target frames free. -/
  | pageEviction
  /-- PAGE_DEMOTION (R334): Below low_pct free, the pager demotes uncached LPDDR5X-homed pages to donations. -/
  | pageDemotion
  /-- PAGE_COPY_COMPLETE (R334): A page's demotion, migration or rehoming copy lands; parked packets re-enter and a revoke may end. -/
  | pageCopyComplete (page : BitVec 30)
  /-- PATROL_SCRUB_READ (R316): The patrol scrub reads a line and corrects it or handles an uncorrectable error under R315. -/
  | patrolScrubRead (line : BitVec 32) (ecc : EccResult)
  /-- PGR_PIN (R337): Pins pages and answers PENDING until they are cached. -/
  | pgrPin (e : AdminEntry)
  /-- PGR_UNPIN (R337): Unpins the named pages. -/
  | pgrUnpin (e : AdminEntry)
  /-- PGR_PREFETCH (R337): Queues fills as a hint, or discards pages to zero pages. -/
  | pgrPrefetch (e : AdminEntry)
  /-- MEM_DONATE (R338): Adds a host memory donation to the pager. -/
  | memDonate (e : AdminEntry)
  /-- MEM_REVOKE (R339): Migrates every page out of a donation, then releases it. -/
  | memRevoke (e : AdminEntry)
  /-- MEM_PEER_WINDOW (R341): Grants or releases an LPDDR5X region to peers, or programs a peer window. -/
  | memPeerWindow (e : AdminEntry)
  /-- BPM_POOL_CFG (R351): Recarves a buffer tier once the affected buffers are free. -/
  | bpmPoolCfg (e : AdminEntry)
  /-- BPM_SET_QUOTA (R352): Sets a requester's buffer minimum and maximums. -/
  | bpmSetQuota (e : AdminEntry)
  /-- ALLOC (R346): Allocates the smallest fitting buffer within the requester's quotas, or fails. -/
  | alloc (requester : BitVec 12) (length : BitVec 17)
  /-- SHARE (R347): Adds a holder to a buffer. -/
  | share (mid : BitVec 13) (ptr : Word) (requester holder : BitVec 12)
  /-- RELEASE (R348): Removes a holder; a freed buffer with no holders returns to its pool. -/
  | release (mid : BitVec 13) (ptr : Word) (requester : BitVec 12)
  /-- TRANSFER (R347): Moves last ownership and the charge of a buffer to another requester within its quota. -/
  | transfer (mid : BitVec 13) (ptr : Word) (requester dest : BitVec 12)
  /-- FREE (R348): Ends last ownership; the buffer returns to its pool when no holder remains. -/
  | free (mid : BitVec 13) (ptr : Word) (requester : BitVec 12)
  /-- PRS_GRAPH_WRITE (R367): Writes the parser's shadow bank and optionally checks it and swaps the banks. -/
  | prsGraphWrite (e : AdminEntry)
  /-- CLS_RULE_WRITE (R376): Creates or replaces a wildcard rule atomically. -/
  | clsRuleWrite (e : AdminEntry)
  /-- CLS_RULE_DELETE (R376): Deletes a wildcard rule by its handle. -/
  | clsRuleDelete (e : AdminEntry)
  /-- CLS_HASH_CFG (R380): Sets an instance's default action, hash, profile and exception queue. -/
  | clsHashCfg (e : AdminEntry)
  /-- CLS_INDIR_WRITE (R384): Writes indirection table entries, or replaces the whole page. -/
  | clsIndirWrite (e : AdminEntry)
  /-- CLS_EXC_POLICER (R379): Sets an instance's exception policer rate and burst. -/
  | clsExcPolicer (e : AdminEntry)
  /-- EXC_POLICER_REFILL (R378): Each 1 µs, every exception policer bucket gains rate ÷ 1,000,000 packets. -/
  | excPolicerRefill
  /-- TBL_CREATE (R388): Creates an exact-match table, or starts a shadow copy of a live table. -/
  | tblCreate (e : AdminEntry)
  /-- SHADOW_COPY_END (R405): The shadow copy ends Ready, or Free when an entry cannot be placed. -/
  | shadowCopyEnd (n : BitVec 8)
  /-- TBL_DESTROY (R406): Stops lookups in a table and frees its buckets. -/
  | tblDestroy (e : AdminEntry)
  /-- TBL_INSERT (R399): Places an entry, relocating entries along a cuckoo path if needed. -/
  | tblInsert (e : AdminEntry)
  /-- TBL_DELETE (R408): Frees an entry by key or by index. -/
  | tblDelete (e : AdminEntry)
  /-- TBL_SEARCH (R409): Returns the entry that matches a key. -/
  | tblSearch (e : AdminEntry)
  /-- TBL_NEXT (R410): Returns the first valid entry at or above an index. -/
  | tblNext (e : AdminEntry)
  /-- TBL_FLUSH_PORT (R412): Deletes every entry of a port, answering PENDING. -/
  | tblFlushPort (e : AdminEntry)
  /-- TABLE_FLUSH_END (R412): A port flush finishes its visit, replies with the entries deleted and raises ES 276. -/
  | tableFlushEnd (n : BitVec 8)
  /-- TBL_SHADOW_SWITCH (R404): Makes a Ready shadow's buckets serve the live table at one boundary. -/
  | tblShadowSwitch (e : AdminEntry)
  /-- LPM_ADD (R417): Adds or replaces a prefix atomically. -/
  | lpmAdd (e : AdminEntry)
  /-- LPM_DELETE (R417): Deletes a prefix atomically. -/
  | lpmDelete (e : AdminEntry)
  /-- LPM_VRF_CFG (R420): Enables or disables a VRF, sets its limits and default, or flushes it. -/
  | lpmVrfCfg (e : AdminEntry)
  /-- VRF_FLUSH_END (R420): A VRF flush deletes its last prefix and LPM_VRF_CFG gets its final reply. -/
  | vrfFlushEnd (n : BitVec 12)
  /-- LPM_NODE_REBUILD (R419): A trie node that failed parity is rebuilt from the prefix store. -/
  | lpmNodeRebuild
  /-- LEARN_CFG (R421): Sets a table's learn ring, rate, holdoff and ageing. -/
  | learnCfg (e : AdminEntry)
  /-- LEARN_TOKEN_REFILL (R424): A table's learn rate bucket gains tokens, and a waiting ageing scan resumes. -/
  | learnTokenRefill (n : BitVec 8)
  /-- AGEING_SCAN_VISIT (R425): The ageing scan visits an entry, clears hit, or posts an aged record. -/
  | ageingScanVisit (n : BitVec 8)
  /-- TBL_SEL_WRITE (R427): Writing a table number takes a snapshot of its descriptor. -/
  | tblSelWrite (mid : BitVec 13) (n : BitVec 8)
  /-- SWX_ACTION_WRITE (R453): Writes or deletes an action list or path, atomically. -/
  | swxActionWrite (e : AdminEntry)
  /-- SWX_TUNNEL_CFG (R442): Defines or deletes a tunnel profile. -/
  | swxTunnelCfg (e : AdminEntry)
  /-- SWX_MIRROR_CFG (R454): Defines or deletes a mirror session. -/
  | swxMirrorCfg (e : AdminEntry)
  /-- SWX_POLICER_CFG (R455): Defines or deletes a two-rate three-colour policer. -/
  | swxPolicerCfg (e : AdminEntry)
  /-- POLICER_REFILL (R450): Every 256 ns, policer buckets gain tokens. -/
  | policerRefill
  /-- ORDERED_SLOT_TIMEOUT (R452): An ordered Clove slot unresolved for 100 µs is skipped and counted. -/
  | orderedSlotTimeout (slot : Nat)
  /-- SWX_CNT_SEL_WRITE (R457): Writing a counter index snapshots it, optionally clearing it. -/
  | swxCntSelWrite (mid : BitVec 13) (k : BitVec 18) (clear : Bool)
  /-- SAFFRON_REQUEST (R547): A CIPHER frame or SAF port request enters Saffron and is encrypted or decrypted, checked for replay and verified. -/
  | saffronRequest (place : BitVec 16)
  /-- DERIVATION_COMPLETE (R541): A derived-key cache miss finishes its derivation and unwrap, and the waiting requests proceed. -/
  | derivationComplete (assoc : BitVec 20) (slotB : Bool)
  /-- SAF_ROOT_KEY_LOAD (R537): Loads, unwraps or erases a root key slot. -/
  | safRootKeyLoad (e : AdminEntry)
  /-- SAF_ASSOC_CREATE (R543): Creates a cipher association. -/
  | safAssocCreate (e : AdminEntry)
  /-- SAF_ASSOC_REKEY (R545): Loads a key slot or switches the active slot of an association. -/
  | safAssocRekey (e : AdminEntry)
  /-- SAF_ASSOC_DESTROY (R544): Destroys an association and invalidates its cache entries. -/
  | safAssocDestroy (e : AdminEntry)
  /-- SAF_OPKEY_ENROL (R555): Enrols an operator key hash in a slot. -/
  | safOpkeyEnrol (e : AdminEntry)
  /-- SAF_OPKEY_REVOKE (R555): Revokes an operator key slot. -/
  | safOpkeyRevoke (e : AdminEntry)
  /-- SAF_ASSOC_SEL_WRITE (R556): Writing an association number snapshots its record. -/
  | safAssocSelWrite (mid : BitVec 13) (assoc : BitVec 20)
  /-- CLOVE_DISPATCH (R467): The head frame of a dispatch queue is given to a free thread once its buffer transfer is accepted. -/
  | cloveDispatch (cluster : Fin 16)
  /-- PKT_LWBE (R471): Loads a big-endian word from the packet window. -/
  | pktLwbe (cluster : Fin 16) (thread : BitVec 7)
  /-- PKT_HEAD (R471): Prepends zero bytes to, or removes bytes from, the frame head. -/
  | pktHead (cluster : Fin 16) (thread : BitVec 7)
  /-- PKT_LEN (R471): Sets the frame length. -/
  | pktLen (cluster : Fin 16) (thread : BitVec 7)
  /-- PKT_EMIT (R472): Releases the frame to ingress stage 4 or egress stage 3. -/
  | pktEmit (cluster : Fin 16) (thread : BitVec 7)
  /-- PKT_DROP (R471): Drops the thread's frame. -/
  | pktDrop (cluster : Fin 16) (thread : BitVec 7)
  /-- PKT_NEW (R471): Makes an owned buffer the thread's frame. -/
  | pktNew (cluster : Fin 16) (thread : BitVec 7)
  /-- TBL_EM (R471): Exact-match lookup from a thread. -/
  | tblEm (cluster : Fin 16) (thread : BitVec 7)
  /-- TBL_LPM (R471): LPM lookup from a thread. -/
  | tblLpm (cluster : Fin 16) (thread : BitVec 7)
  /-- PGR_PAGE (R471): Sets the thread's current state page. -/
  | pgrPage (cluster : Fin 16) (thread : BitVec 7)
  /-- PGR_LW (R473): Loads a word of the current state page. -/
  | pgrLw (cluster : Fin 16) (thread : BitVec 7)
  /-- PGR_SW (R473): Stores a word to the current state page. -/
  | pgrSw (cluster : Fin 16) (thread : BitVec 7)
  /-- PGR_AMOADD (R473): Atomic add on a state page word. -/
  | pgrAmoadd (cluster : Fin 16) (thread : BitVec 7)
  /-- PGR_AMOSWAP (R473): Atomic swap on a state page word. -/
  | pgrAmoswap (cluster : Fin 16) (thread : BitVec 7)
  /-- PGR_PREF (R471): Starts a fill of a page as a hint. -/
  | pgrPref (cluster : Fin 16) (thread : BitVec 7)
  /-- MSG_LOCK (R476): Tries to lock a message register, recording a waiter when BUSY. -/
  | msgLock (cluster : Fin 16) (thread : BitVec 7)
  /-- MSG_UNLOCK (R477): Unlocks a message register and wakes its waiters. -/
  | msgUnlock (cluster : Fin 16) (thread : BitVec 7)
  /-- MSG_RD (R471): Reads a half of a held message register. -/
  | msgRd (cluster : Fin 16) (thread : BitVec 7)
  /-- MSG_WR (R471): Writes a half of a held message register. -/
  | msgWr (cluster : Fin 16) (thread : BitVec 7)
  /-- CLV_WAIT (R479): Returns pending wake causes, or makes the thread wait. -/
  | clvWait (cluster : Fin 16) (thread : BitVec 7)
  /-- CLV_DONE (R471): Drops any held frame, releases locks with poison and frees the thread. -/
  | clvDone (cluster : Fin 16) (thread : BitVec 7)
  /-- CLV_WAKE (R480): Posts a wake to another thread of the cluster. -/
  | clvWake (cluster : Fin 16) (thread : BitVec 7)
  /-- BUF_ALLOC (R471): Allocates a buffer for the cluster. -/
  | bufAlloc (cluster : Fin 16) (thread : BitVec 7)
  /-- BUF_SHARE (R471): SHARE on a buffer, by the cluster. -/
  | bufShare (cluster : Fin 16) (thread : BitVec 7)
  /-- BUF_RELEASE (R471): RELEASE on a buffer, by the cluster. -/
  | bufRelease (cluster : Fin 16) (thread : BitVec 7)
  /-- BUF_FREE (R471): FREE on a buffer, by the cluster. -/
  | bufFree (cluster : Fin 16) (thread : BitVec 7)
  /-- BUF_XFER (R471): TRANSFER of a buffer to another requester. -/
  | bufXfer (cluster : Fin 16) (thread : BitVec 7)
  /-- SUP_NEXT (R471): Pops the oldest supervisor notification. -/
  | supNext (cluster : Fin 16) (thread : BitVec 7)
  /-- SUP_ACT (R471): Restarts or resumes a Faulted thread. -/
  | supAct (cluster : Fin 16) (thread : BitVec 7)
  /-- SUP_FREL (R477): Force-releases a message register with poison. -/
  | supFrel (cluster : Fin 16) (thread : BitVec 7)
  /-- SUP_STATE (R471): Returns a thread's state. -/
  | supState (cluster : Fin 16) (thread : BitVec 7)
  /-- BASE_INSTRUCTION (R461): A thread executes a RISC-V base instruction or CSR access, which may fault under the address map. -/
  | baseInstruction (cluster : Fin 16) (thread : BitVec 7)
  /-- ECALL (R474): Posts notification 0x02 and leaves the thread Faulted. -/
  | ecall (cluster : Fin 16) (thread : BitVec 7)
  /-- EBREAK (R474): Halts the thread when debug halting is enabled, or faults it. -/
  | ebreak (cluster : Fin 16) (thread : BitVec 7)
  /-- BLOCKED_RESULT_RETURN (R464): The result of a blocking extension instruction returns and the thread runs again. -/
  | blockedResultReturn (cluster : Fin 16) (thread : BitVec 7)
  /-- COMPARE_REACHED (R479): A thread's armed compare is reached, and it wakes or latches the cause. -/
  | compareReached (cluster : Fin 16) (thread : BitVec 7)
  /-- WDOG_EXPIRY (R486): A watchdog period passes without a pet: expired is set and ES is raised. -/
  | wdogExpiry (cluster : Fin 16)
  /-- SUP_RESTART (R485): Writing sup_restart restarts the supervisor at its entry, releasing its locks with poison. -/
  | supRestart (mid : BitVec 13) (cluster : Fin 16)
  /-- CLV_WDOG_ENABLE (R486): Writing enable claims the comparator and starts the watchdog. -/
  | clvWdogEnable (mid : BitVec 13) (cluster : Fin 16) (on : Bool) (period : BitVec 16)
  /-- CLV_PROGRAM_LOAD (R488): Verifies and loads a Clove program, starts the supervisor and opens dispatch. -/
  | clvProgramLoad (e : AdminEntry)
  /-- CLV_PROGRAM_SWAP (R489): Loads a program into the other bank and switches dispatch to it. -/
  | clvProgramSwap (e : AdminEntry)
  /-- SWAP_DRAIN_END (R489): The last thread under the old bank is Free; the supervisor restarts on the new program and the swap replies. -/
  | swapDrainEnd (cluster : Fin 16)
  /-- CLV_PROGRAM_UNLOAD (R490): Stops dispatch, drains or restarts threads, and unloads the program. -/
  | clvProgramUnload (e : AdminEntry)
  /-- CLV_CLUSTER_MODE (R491): Sets a cluster to Narrow or Wide mode. -/
  | clvClusterMode (e : AdminEntry)
  /-- CLV_MSGREG_RELEASE (R478): Force-releases a message register from Keeper. -/
  | clvMsgregRelease (e : AdminEntry)
  /-- ROUTINE_START (R498): A sequencer takes the next trigger of a connection and starts its routine. -/
  | routineStart (seq : Fin 32) (conn : BitVec 16)
  /-- WORK_ENTRY_FETCH (R498): An entry fetched from a sequencer work ring becomes a trigger. -/
  | workEntryFetch (qid : BitVec 16) (words : List Word)
  /-- CONNECTION_TIMER_EXPIRY (R498): A connection's timer expires and queues a kind 2 trigger. -/
  | connectionTimerExpiry (conn : BitVec 16)
  /-- PORT_OPERATION_COMPLETE (R506): A posted port operation completes as a kind 3 trigger with its cookie and status. -/
  | portOperationComplete (drive : Bool) (index : BitVec 16) (data : Option (List Byte))
  /-- MICROWORD_EXECUTE (R505): A sequencer executes a microword: its nanoword ALU, port operations, flags and branch. -/
  | microwordExecute (seq : Fin 32) (conn : BitVec 16) (parity : Option Bool) (steps : List ProtoStep)
  /-- TRAP_RESUME (R510): PSQ_TRAP_CTL go with action 0 resumes the trapped routine. -/
  | trapResume (mid : BitVec 13) (seq : Fin 32) (slot : Fin 4)
  /-- TRAP_ABORT (R510): PSQ_TRAP_CTL go with action 1 aborts the routine and fails the connection. -/
  | trapAbort (mid : BitVec 13) (seq : Fin 32) (slot : Fin 4)
  /-- DRIVE_COMMAND_TIMEOUT (R525): A drive command outstanding for 30 s draws an NVMe Abort and completes DRIVE_TIMEOUT. -/
  | driveCommandTimeout (index : BitVec 16)
  /-- PSQ_UCODE_STAGE (R512): Verifies microcode and writes it into each named group's inactive banks. -/
  | psqUcodeStage (e : AdminEntry)
  /-- PSQ_BANK_SWAP (R514): Switches each named group to its staged bank at trap boundaries. -/
  | psqBankSwap (e : AdminEntry)
  /-- RDMA_QP_CREATE (R526): Creates an RDMA queue pair in Init. -/
  | rdmaQpCreate (e : AdminEntry)
  /-- RDMA_QP_MODIFY (R516): Moves a queue pair between its states. -/
  | rdmaQpModify (e : AdminEntry)
  /-- RDMA_QP_DESTROY (R526): Destroys a queue pair once its host transfers end. -/
  | rdmaQpDestroy (e : AdminEntry)
  /-- RDMA_MR_REGISTER (R526): Registers a memory region and returns its key. -/
  | rdmaMrRegister (e : AdminEntry)
  /-- RDMA_MR_DEREGISTER (R526): Deregisters a memory region once its transfers end. -/
  | rdmaMrDeregister (e : AdminEntry)
  /-- NVME_CTRL_CONNECT (R526): Connects an NVMe over TCP or RoCEv2 controller. -/
  | nvmeCtrlConnect (e : AdminEntry)
  /-- NVME_CTRL_DISCONNECT (R526): Disconnects an NVMe controller connection. -/
  | nvmeCtrlDisconnect (e : AdminEntry)
  /-- NVME_LOCAL_NS_ATTACH (R526): Attaches a block range of a local namespace to an instance. -/
  | nvmeLocalNsAttach (e : AdminEntry)
  /-- NVME_LOCAL_NS_DETACH (R526): Detaches a local namespace attachment once the drive answers. -/
  | nvmeLocalNsDetach (e : AdminEntry)
  /-- FRS_NODE_CFG (R582): Creates, changes or deletes a Fresnel node. -/
  | frsNodeCfg (e : AdminEntry)
  /-- FRS_SHAPER_CFG (R583): Sets or removes a token or credit-based shaper. -/
  | frsShaperCfg (e : AdminEntry)
  /-- FRS_GCL_WRITE (R580): Writes entries of a port's admin gate control list. -/
  | frsGclWrite (e : AdminEntry)
  /-- FRS_GCL_COMMIT (R581): Schedules the admin list to become operational at a switch time. -/
  | frsGclCommit (e : AdminEntry)
  /-- FRS_TELEMETRY_CFG (R585): Creates or deletes a depth telemetry subscription. -/
  | frsTelemetryCfg (e : AdminEntry)
  /-- SCHEDULER_CHOICE (R562): A root whose MAC can take a frame chooses an eligible leaf, debits its shapers and starts the frame. -/
  | schedulerChoice (root : Fin 9)
  /-- REFILL_EPOCH (R568): At each 256 ns epoch, token shapers gain tokens and pending shaper changes apply. -/
  | refillEpoch
  /-- GATE_EDGE (R574): A gate control list entry boundary opens or closes gates. -/
  | gateEdge (port : Fin 8)
  /-- GATE_STAGING (R576): 2 µs before a gate opens, the head frame of its class is staged in the reserve buffer. -/
  | gateStaging (port : Fin 8) (cls : Fin 8)
  /-- GCL_SWITCH (R577): At the switch time the admin list becomes operational, and the commit gets its reply. -/
  | gclSwitch (port : Fin 8)
  /-- LEAF_BELOW_MAX (R565): A leaf falls below leaf_max_bytes and fetch of its transmit queues resumes. -/
  | leafBelowMax (leaf : BitVec 15)
  /-- TELEMETRY_SAMPLE (R587): Each period, a subscription's leaves are sampled and entries are posted. -/
  | telemetrySample (sub : BitVec 8)
  /-- FRS_NODE_SEL_WRITE (R589): Writing a node number snapshots its record. -/
  | frsNodeSelWrite (mid : BitVec 13) (node : BitVec 16)
  /-- PORT_MODE_SET (R593): Reconfigures the line port mode, retraining the ports that change. -/
  | portModeSet (e : AdminEntry)
  /-- PORT_LINK_CHANGE (R593): A line port's link comes up or goes down, and ES 416 + p is raised. -/
  | portLinkChange (port : Fin 8) (up : Bool)
  /-- PORT_CFG (R597): Sets a port's admin state, tag extraction, flow control and maximum frame. -/
  | portCfg (e : AdminEntry)
  /-- PORT_STATS_READ (R608): Returns port counters and optionally clears them. -/
  | portStatsRead (e : AdminEntry)
  /-- PORT_PFC_CFG (R603): Makes a priority lossless with watermarks and headroom. -/
  | portPfcCfg (e : AdminEntry)
  /-- PAUSE_REPEAT (R605): Half of 0xFFFF quanta elapse while the account stays above xon, so the pause frame is resent. -/
  | pauseRepeat (port : Fin 8) (prio : Fin 8)
  /-- PAUSE_FRAME_RECEIVED (R606): A received pause or PFC frame stops or resumes classes. -/
  | pauseFrameReceived (port : Fin 8) (pfc : Bool) (enable : BitVec 8) (quanta : Vector (BitVec 16) 8)
  /-- PAUSE_EXPIRY (R606): A class's pause time expires and it resumes. -/
  | pauseExpiry (port : Fin 8) (cls : Fin 8)
  /-- MGP_FRAME_RECEIVED (R613): The management port accepts an MCTP or wake frame, or drops it. -/
  | mgpFrameReceived (frame : List Byte)
  /-- MGP_LINK_CHANGE (R611): The SGMII link changes or reports its speed and duplex. -/
  | mgpLinkChange (up : Bool) (speed : Fin 3) (full : Bool)
  /-- MGP_COLLISION (R612): A half-duplex collision jams and starts back-off, or discards the frame. -/
  | mgpCollision (frame : List Byte) (late : Bool)
  /-- BACKOFF_EXPIRY (R612): A back-off wait ends and the frame is retried. -/
  | backoffExpiry
  /-- MCTP_CONTROL_MESSAGE (R614): An MCTP control message, such as Set Endpoint ID, is answered. -/
  | mctpControlMessage (src : BitVec 8) (setEid : Option Byte) (complete : Bool)
  /-- SPDM_MESSAGE (R615): An SPDM message is served, or dropped where not served. -/
  | spdmMessage (src : BitVec 8) (complete : Bool)
  /-- YADOPEX (R616): A vendor-defined YADOPEX message queues a class B command and is answered with its reply. -/
  | yadopex (src : BitVec 8) (entry : List Word) (complete : Bool)
  /-- WAKE (R616): A WAKE message asserts WAKE# in Standby when armed. -/
  | wake (src : BitVec 8)
  /-- RECOVERY_WRITE (R616): Stores image bytes in the state cache under the ROM recovery loader. -/
  | recoveryWrite (src : BitVec 8) (offset : Word) (bytes : List Byte)
  /-- RECOVERY_COMMIT (R616): Verifies the assembled image, writes bank A and the boot record, and reboots. -/
  | recoveryCommit (src : BitVec 8) (length : Word)
  /-- TIME_ADJUST (R621): Sets, steps, changes the frequency of, or slews device time. -/
  | timeAdjust (e : AdminEntry)
  /-- SLEW_END (R621): A slew's duration ends and its rate contribution is removed. -/
  | slewEnd
  /-- TIME_PPS_CFG (R637): Enables or disables the PPS output and claims the ball. -/
  | timePpsCfg (e : AdminEntry)
  /-- PPS_EDGE (R637): The PPS output rises at a period boundary and falls width_ns later. -/
  | ppsEdge (wholeSecond : Bool)
  /-- TIME_IN_EDGE (R639): An edge on TIME_IN captures device time. -/
  | timeInEdge (falling : Bool)
  /-- PTM_EXCHANGE (R640): Each period, a PTM exchange records host and device time, or fails. -/
  | ptmExchange (host : Option Dword)
  /-- TIME_DAYMARK_ALARM (R645): Sets or clears the Daymark alarm. -/
  | timeDaymarkAlarm (e : AdminEntry)
  /-- DAYMARK_ALARM_FIRE (R645): Daymark reaches the alarm time, sets alarm_pending and may drive the ball or WAKE#. -/
  | daymarkAlarmFire
  /-- DAYMARK_FOLLOW_CHECK (R644): At each whole second, Daymark is compared with device time and reloaded when they differ. -/
  | daymarkFollowCheck
  /-- VBAT_LOSS (R641): VBAT falls below 1.8 V without other supplies, so Daymark restarts from 0. -/
  | vbatLoss
  /-- CAL_TABLE_WRITE (R633): Writes all three calibration table copies and optionally makes them live. -/
  | calTableWrite (e : AdminEntry)
  /-- CAL_TABLE_READ (R635): Reads a calibration table copy or the live values. -/
  | calTableRead (e : AdminEntry)
  /-- TIM_SNAP_CAPTURE (R620): Writing capture copies device time into the snapshot registers. -/
  | timSnapCapture (mid : BitVec 13)
  /-- TIM_SIDE_SEL_WRITE (R627): Writing an index selects a timestamp side record for reading. -/
  | timSideSelWrite (mid : BitVec 13) (index : BitVec 16)
  /-- LAN_REGION_ASSIGN (R681): Assigns a region and a state range to a renter, or releases it. -/
  | lanRegionAssign (e : AdminEntry)
  /-- LAN_IMAGE_LOAD (R673): Stages, verifies and configures a Fenxon image into a region. -/
  | lanImageLoad (e : AdminEntry) (readback : Bool)
  /-- INIT_TIMEOUT (R673): lx_ready has not risen within init_timeout_us, so the load fails and the region clears to Empty. -/
  | initTimeout (region : Fin 16)
  /-- LAN_REGION_QUIESCE (R681): Quiesces a region, or resumes it. -/
  | lanRegionQuiesce (e : AdminEntry)
  /-- LAN_REGION_UNLOAD (R675): Quiesces and clears a region. -/
  | lanRegionUnload (e : AdminEntry)
  /-- QUIESCE_DRAINED (R674): A quiescing region has returned its tokens, answered its memory and acknowledged, so its clock stops. -/
  | quiesceDrained (region : Fin 16) (readback : Bool)
  /-- QUIESCE_TIMEOUT (R674): After 10 ms, quiesce proceeds and drops the frames still in flight. -/
  | quiesceTimeout (region : Fin 16) (readback : Bool)
  /-- LAN_POWER_CAP (R680): Sets a region's power cap. -/
  | lanPowerCap (e : AdminEntry)
  /-- LAN_ALLOWANCE_SET (R680): Sets the operator's fabric allowance. -/
  | lanAllowanceSet (e : AdminEntry)
  /-- LAN_TAP_CFG (R681): Sets a tap's bypass action, hold time, depth and host queue. -/
  | lanTapCfg (e : AdminEntry)
  /-- REGION_RETURN (R659): A region returns or creates a frame on an output stream with a verdict. -/
  | regionReturn (region : Fin 16) (stream : Fin 3) (token : BitVec 16) (mark : BitVec 16) (verdict : Word) (bytes : List Byte)
  /-- TAP_HOLD_TIMEOUT (R658): A frame not returned within hold_us takes the bypass action and its token retires. -/
  | tapHoldTimeout (region : Fin 16) (slot : BitVec 12)
  /-- REGION_MEMORY_REQUEST (R662): A region issues a memory request, which is answered through the State Pager. -/
  | regionMemoryRequest (region : Fin 16) (write : Bool) (addr : BitVec 36) (lines : Fin 64) (tag : Fin 64) (data : List Byte)
  /-- REGION_REGISTER_ACCESS (R664): An access to a region's register window goes through rg_*. -/
  | regionRegisterAccess (mid : BitVec 13) (region : Fin 16) (reg : BitVec 12) (value : Option Word) (answer : Word)
  /-- REGION_REGISTER_TIMEOUT (R664): A region does not answer within 2 µs, and the access fails as for a stopped island. -/
  | regionRegisterTimeout (mid : BitVec 13) (region : Fin 16) (reg : BitVec 12) (value : Option Word)
  /-- LX_EVENT_EDGE (R651): A rising edge on lx_event raises ES 449 + 2r. -/
  | lxEventEdge (region : Fin 16)
  /-- CONFIG_SCRUB_PASS (R677): A configuration readback corrects single-bit errors or faults the region. -/
  | configScrubPass (region : Fin 16) (corrected : BitVec 16) (uncorrectable : Bool)
  /-- REGION_POWER_SAMPLE (R679): Each 1 µs sample updates the region's average and may enter stage 1 or trip. -/
  | regionPowerSample (region : Fin 16) (sample : BitVec 12)
  /-- THROTTLE_STAGE_2 (R679): 20 µs above the cap halves the region's clock. -/
  | throttleStage2 (region : Fin 16)
  /-- THROTTLE_RECOVERY (R679): 100 µs at or below 90 % of the cap restores a step of clock or leaves stage 1. -/
  | throttleRecovery (region : Fin 16)
  /-- POWER_TRIP (R679): A region over its limits stops and becomes Faulted. -/
  | powerTrip (region : Fin 16)
  /-- FLIT_RECEIVE (R690): A Spar flit is checked, acknowledged, delivered or forwarded, or NAKed. -/
  | flitReceive (port : Fin 4) (words : List Word)
  /-- REPLAY_TIMEOUT (R690): No acknowledgement advances for 4 µs, so the sender replays. -/
  | replayTimeout (port : Fin 4)
  /-- BEACON_SEND (R693): Every 1 ms each up Spar port sends a Beacon. -/
  | beaconSend
  /-- BEACON_RECEIVE (R693): A received Beacon updates the neighbour record, foreign state and time upstream. -/
  | beaconReceive (port : Fin 4) (body : List Byte)
  /-- SPR_JOIN (R695): Joins the fabric after 3 ms of Beacons, or refuses on conflict. -/
  | sprJoin (e : AdminEntry)
  /-- JOIN_WAIT_END (R695): 3 ms of joining Beacons end: the device joins or reports a conflict. -/
  | joinWaitEnd
  /-- SPR_LEAVE (R696): Stops injection, waits for requests and leaves the fabric. -/
  | sprLeave (e : AdminEntry)
  /-- SPR_ROUTE_WRITE (R700): Writes the next routing table. -/
  | sprRouteWrite (e : AdminEntry)
  /-- SPR_EPOCH_COMMIT (R699): Moves the routing tables to a new epoch. -/
  | sprEpochCommit (e : AdminEntry)
  /-- PREVIOUS_EPOCH_DISCARD (R699): 1 ms without a packet of the previous epoch discards its table. -/
  | previousEpochDiscard
  /-- SPR_REMOTE_GRANT (R706): Creates or revokes a grant of local state to remote devices. -/
  | sprRemoteGrant (e : AdminEntry)
  /-- SPR_CHAN_MAP_WRITE (R702): Writing valid checks and maps a Buoy channel to Spar. -/
  | sprChanMapWrite (mid : BitVec 13) (chan : Fin 64) (value : Word)
  /-- MAILBOX_PACKET_RECEIVE (R703): A mailbox packet is delivered, rejected or discarded as repeated. -/
  | mailboxPacketReceive (port : Fin 4) (packet : List Byte)
  /-- MAILBOX_RESEND (R703): Every 1 ms a rejected mailbox word is resent. -/
  | mailboxResend (chan : Fin 64)
  /-- REMOTE_REQUEST_RECEIVE (R707): A remote read or write request is checked against its grant and run through the pager. -/
  | remoteRequestReceive (port : Fin 4) (packet : List Byte)
  /-- REMOTE_RESPONSE_RECEIVE (R705): A response completes the channel's request with a completion word. -/
  | remoteResponseReceive (port : Fin 4) (packet : List Byte)
  /-- SPAR_REQUEST_TIMEOUT (R709): A request without a response after req_timeout_us completes TIMEOUT. -/
  | sparRequestTimeout (chan : Fin 64)
  /-- FRAME_PACKET_RECEIVE (R708): A Spar frame packet enters ingress stage 4 at its destination. -/
  | framePacketReceive (port : Fin 4) (packet : List Byte)
  /-- TIME_EXCHANGE (R711): Every 125 µs a follower measures its upstream and corrects or steps device time. -/
  | timeExchange (t1 t2 t3 t4 ts tr : Int)
  /-- LEAK_TICK (R720): Every leak_s seconds a resource counter above 0 decreases by 1. -/
  | leakTick (resource : BitVec 16)
  /-- RETIREMENT_START (R725): A resource's retirement starts, sounding Foghorn and entering Degraded Service. -/
  | retirementStart (kind : Fin 9)
  /-- RETIREMENT_END (R725): A retirement ends, a record is logged, ES 33 is raised, and the next of its kind starts. -/
  | retirementEnd (resource : BitVec 16)
  /-- RAS_RETIRE (R726): Retires a named resource. -/
  | rasRetire (e : AdminEntry)
  /-- RAS_RESTORE (R727): Self-tests a retired resource and returns it to service. -/
  | rasRestore (e : AdminEntry)
  /-- SELFTEST_END (R743): A self-test ends in pass or fail and its command replies. -/
  | selftestEnd (resource : BitVec 16) (pass : Bool)
  /-- RAS_THRESHOLD_SET (R727): Sets a kind's retirement configuration. -/
  | rasThresholdSet (e : AdminEntry)
  /-- RAS_FOGHORN_ACK (R732): Clears Foghorn causes and logs the acknowledgement. -/
  | rasFoghornAck (e : AdminEntry)
  /-- RAS_LOG_READ (R735): Returns fault log records. -/
  | rasLogRead (e : AdminEntry)
  /-- RAS_HEARTBEAT_WRITE (R728): A write by the active pair restarts the heartbeat timeout. -/
  | rasHeartbeatWrite (mid : BitVec 13)
  /-- RAS_CNT_SEL_WRITE (R738): Writing a resource snapshots its counter. -/
  | rasCntSelWrite (mid : BitVec 13) (resource : BitVec 16)
  /-- TST_PLACE_UNDER_TEST (R741): Takes a resource out of service for test, optionally running its self-test. -/
  | tstPlaceUnderTest (e : AdminEntry)
  /-- TST_RELEASE (R744): Returns a resource under test to service, optionally recalibrating it. -/
  | tstRelease (e : AdminEntry)
  /-- TST_PATTERN_CFG (R750): Sets a lane's pattern generator and checker. -/
  | tstPatternCfg (e : AdminEntry)
  /-- TST_LOOPBACK_CFG (R750): Sets a lane's loopback point. -/
  | tstLoopbackCfg (e : AdminEntry)
  /-- TST_RESULT_READ (R750): Returns and optionally clears a lane's checker counters. -/
  | tstResultRead (e : AdminEntry)
  /-- TST_LANE_CTL_ENABLE (R749): Writing gen_en, chk_en or a loopback checks the lane. -/
  | tstLaneCtlEnable (mid : BitVec 13) (lane : Fin 49) (value : Word)
  /-- TST_LANE_CLEAR (R756): Writing clear zeroes a lane's checker counters. -/
  | tstLaneClear (mid : BitVec 13) (lane : Fin 49)
  /-- CHECKER_LOCK (R747): 128 consecutive matching bits lock the checker, and counting starts. -/
  | checkerLock (lane : Fin 49)
  /-- CHECKER_LOCK_LOSS (R747): 64 errors in 256 bits lose lock, counted, with ES 500. -/
  | checkerLockLoss (lane : Fin 49)
  /-- CHECKER_DURATION_END (R747): duration_ms after first lock, counting stops, done is set and ES 501 is raised. -/
  | checkerDurationEnd (lane : Fin 49)
  /-- BYPASS (R751): TAP BYPASS instruction. -/
  | bypass
  /-- IDCODE (R751): TAP IDCODE instruction. -/
  | idcode
  /-- SAMPLE_PRELOAD (R751): TAP SAMPLE/PRELOAD instruction. -/
  | samplePreload
  /-- EXTEST (R751): TAP EXTEST disconnects every ball from its function, when the level allows. -/
  | extest
  /-- DBG_ACCESS (R754): Reads or writes a device address as MID 0x1040, within the debug level. -/
  | dbgAccess (addr : BitVec 40) (size : Nat) (full : Bool) (write : Option (List Byte))
  /-- KEEPER_DEBUG_HALT (R752): A Keeper core halts through its debug module, halting its pair and suspending the heartbeat. -/
  | keeperDebugHalt (core : Fin 4)
  /-- TST_CLV_HALT_WRITE (R753): Setting or clearing halt bits halts or resumes Clove threads. -/
  | tstClvHaltWrite (mid : BitVec 13) (cluster : Fin 16) (word : Fin 4) (value : Word)
  /-- TST_CLV_REG_DATA_WRITE (R753): Writes a register of a halted Clove thread. -/
  | tstClvRegDataWrite (mid : BitVec 13) (value : Word)
  /-- POWER_SAMPLE (R768): Every 10 µs the rails are sampled; an average above limit_w enters the throttle state. -/
  | powerSample (rails : Vector (BitVec 12 × BitVec 12) 11) (average : BitVec 16)
  /-- POWER_LIMIT_CLEAR (R768): The average stays below 95 % of limit_w for 10 ms, so the power-limit cause clears. -/
  | powerLimitClear
  /-- THERMAL_WARNING (R769): The junction reaches warn_c and ES 505 is raised. -/
  | thermalWarning (temps : Vector (BitVec 16) 16)
  /-- THERMAL_THROTTLE (R769): The junction reaches throttle_c, so the device enters Throttled. -/
  | thermalThrottle (temps : Vector (BitVec 16) 16)
  /-- THROTTLE_EXIT (R769): Every cause has cleared, the junction cool for 1 s, and full clocks are restored. -/
  | throttleExit (temps : Vector (BitVec 16) 16)
  /-- THERMAL_TRIP (R769): The junction reaches 108 °C: THERM_N goes low and main supplies are treated as lost. -/
  | thermalTrip (temps : Vector (BitVec 16) 16)
  /-- VBAT_SAMPLE (R764): Each minute VBAT is read, and a low reading raises ES 509. -/
  | vbatSample (mv : BitVec 12)
  /-- PWR_LIMIT_WRITE (R768): Writing limit_w checks its range and sets the power limit. -/
  | pwrLimitWrite (mid : BitVec 13) (value : Word)
  /-- PWR_THERM_CFG_WRITE (R771): Writing the thermal thresholds checks their order. -/
  | pwrThermCfgWrite (mid : BitVec 13) (value : Word)
  /-- SPAR_LINK_CHANGE (R718): A Spar port's link comes up or goes down, including the return of the link after a retrain, raising ES 480 + p and changing route membership and the time upstream. -/
  | sparLinkChange (port : Fin 4) (up : Bool)
  /-- HIGH_BER_EVENT (R720): A line lane reports a high-BER event or a block lock loss, which adds weight 8 to its counter and makes the port retrain once. -/
  | highBerEvent (lane : Fin 8)
  /-- KEEPER_MEMORY_ERROR (R728): A corrected or uncorrectable error in a Keeper pair's own caches or memories adds code 0x0E weight, or is a device-fatal fault of that pair. -/
  | keeperMemoryError (pair : Fin 2) (corrected : Bool)
  /-- HOST_LINK_ERROR (R156): The host link layer sees a flit with an uncorrectable FEC or CRC error, a replay timer timeout or rollover, a data link protocol error, or a RAM error in CI38, and logs it in AER. -/
  | hostLinkError (error : Machine.LinkError)
  /-- SMBUS_BUS_ERROR (R610): An SMBus transaction fails with a PEC error or a bus timeout, counted in MGP_SMB_ERRORS and raising ES 429. -/
  | smbusBusError
  /-- LX_READY_RISE (R673): The loaded region raises lx_ready, so the taps open, the region becomes Running and LAN_IMAGE_LOAD replies SUCCESS. -/
  | lxReadyRise (region : Fin 16)
  /-- UCODE_STAGE_END (R512): The MRAM and on-die writes of staged microcode finish, the bank is marked staged and PSQ_UCODE_STAGE gets its final reply. -/
  | ucodeStageEnd (group : Fin 4)
  /-- CAL_TABLE_WRITE_END (R633): The third calibration copy is written, the new values go live unless apply is 0, cal_nominal clears and CAL_TABLE_WRITE gets its final reply. -/
  | calTableWriteEnd
  /-- MODE_TRANSITION_END (R54): A mode transition completes within 2 ms, GLB_MODE.transition falls and ES 0 is raised, after which DEV_START_SERVICE and pending events may be taken. -/
  | modeTransitionEnd
  /-- KEEPER_DEBUG_RESUME (R752): The debug module resumes a halted Keeper pair, and admin fetch and the heartbeat timeout of R728 resume. -/
  | keeperDebugResume (core : Fin 4)
  /-- ACTIVATION_VERIFY_FAIL (R88): The staged bank fails verification at step 2 of R85, so the bank is marked not staged, the standby pair reboots from the active bank and DEV_IMAGE_ACTIVATE answers as R82 does for that fault. -/
  | activationVerifyFail
  deriving DecidableEq, Repr

end Sys2Proof
end

