-- ==== Sys2Proof/Config.lean ====
section
/-! DEFINITION. What one device fixes and the manual does not: values left open (free values), identities fused at manufacture,
and the published algorithms that the manual names without restating. Every constant is opaque: no proof can see its value. -/

namespace Sys2Proof.Config

/-- The n-th value that the manual leaves open (a timestamp, a random draw, a choice among equals; log entry 2). -/
opaque freeValue : Nat → BitVec 64

/-- The n-th byte string that the manual leaves open (a snapshot body in firmware's own format; log entry 2). -/
opaque freeBytes : Nat → List Byte

/-- PCI Vendor ID of Haldael (R136: assigned by PCI-SIG, not given; log entry 3). -/
opaque vendorId : BitVec 16

/-- IEEE 1149.1 IDCODE of the part (R751 names the instruction, not the code; log entry 3). -/
opaque idcode : BitVec 32

/-- The Device Serial Number, fused at manufacture (R136; log entry 3). -/
opaque serial : BitVec 64

/-- RSASSA-PKCS1-v1_5 over SHA-512 with the modulus and exponent of the signature block checks (R61, R62; log entry 4). -/
opaque signatureChecks : (message signature modulus exponent : List Byte) → Bool

/-- SHA-512 (R62; log entry 4). -/
opaque sha512 : List Byte → List Byte

/-- AEAD encryption by algorithm code: key, nonce, additional data, plaintext to ciphertext and tag (R533; log entry 4). -/
opaque aeadSeal : (alg : Nat) → (key nonce aad plain : List Byte) → List Byte × List Byte

/-- AEAD decryption by algorithm code: the plaintext, or none where the tag does not check (R533; log entry 4). -/
opaque aeadOpen : (alg : Nat) → (key nonce aad cipher tag : List Byte) → Option (List Byte)

/-- AES-XTS encryption of a data unit (R533; log entry 4). -/
opaque xtsEncrypt : (key tweak plain : List Byte) → List Byte

/-- AES-XTS decryption of a data unit (R533; log entry 4). -/
opaque xtsDecrypt : (key tweak cipher : List Byte) → List Byte

/-- AES-KW unwrap: the key data, or none where the integrity check fails (R537, R540; log entry 4). -/
opaque kwUnwrap : (kek wrapped : List Byte) → Option (List Byte)

/-- AES-KW wrap of key data under a key-encryption key (R540; log entry 4). -/
opaque kwWrap : (kek data : List Byte) → List Byte

/-- AES-CMAC with a 256-bit key (R539; log entry 4). -/
opaque cmac : (key message : List Byte) → List Byte

/-- The first three bytes of the AES-256 encryption of an all-zero block under a key (R537; log entry 4). -/
opaque keyCheck : List Byte → BitVec 24

/-- The set of eight cache entries in which a derived key falls (R541 gives no index; log entry 2). -/
opaque cacheSet : (root : Nat) → (context : List Byte) → (bits : Nat) → BitVec 15

/-- Bits ES and SCB that an association sets in a SecTAG (R533 names them; the record of R542 holds no field for them; log entry 2). -/
opaque secTagBits : (assoc : Nat) → BitVec 2

/-- The invariant CRC of a RoCEv2 frame (R515; log entry 4). -/
opaque icrc : (frame : List Byte) → BitVec 32

/-- The hashed part of a queue pair's UDP source port (R515 names a hash, not its input; log entry 2). -/
opaque rocePort : (qp : Nat) → BitVec 14

/-- The in-capsule data that the controller of a connection takes (R522; the controller reports it; log entry 47). -/
opaque capsuleLimit : (conn : Nat) → BitVec 16

/-- The MAXH2CDATA of the controller of a connection, above 4,096 (R522; the controller reports it; log entry 47). -/
opaque maxH2c : (conn : Nat) → BitVec 32

/-- The block size of a namespace is 4,096 bytes, not 512 (R524; the drive reports it; log entry 3). -/
opaque bigBlocks : (port nsid : Nat) → Bool

/-- An LPDDR5X range lies in the regions that the storage path has granted to a downstream port: their places are firmware's
(R170, R525; log entry 3). -/
opaque driveWindow : (port address bytes : Nat) → Bool

/-- SHA-256 as SPDM and Fenxon name it (log entry 4). -/
opaque sha256 : List Byte → List Byte

/-- Hash of the Haldael key, fused in key slot 0 at manufacture (R63; log entry 3). -/
opaque haldaelKeyHash : List Byte

/-- The nominal built-in calibration values (R631, R632): section type, record selector and word (log entry 11). -/
opaque calNominal : (section_ selector word : Nat) → BitVec 32

/-- Bytes in a record of the PHY equalisation section, in the Port die's own format (R631; log entry 11). -/
opaque equalisationBytes : Nat

/-- The digest of a key under which the learn filter holds it (R424; log entry 33). -/
opaque learnDigest : (table : Nat) → (key : List Byte) → BitVec 64

end Sys2Proof.Config
end

