-- ==== Sys2Proof/Machine/Regs.lean ====
section
/-! DEFINITION. The register map of the manager control window, written from the block maps and register headers of the
spec (R14, R27, R128, R134, R166, R176, R239, R240, R272, R273, R308, R353 to R356, R385, R386, R427, R428, R457, R493, R494,
R531, R556, R589, R609, R617, R646, R685, R716, R717, R738, R756, R770): one row per register with its offset, width, island,
reset domain and fields, a constant per register address (R) and per named field (F). -/

namespace Sys2Proof.Machine

/-- Register access codes (R9). -/
inductive Acc where
  | rw | ro | wo | w1c | w1s | rc | rwl
  deriving DecidableEq, Repr

/-- Reset domains (R11). -/
inductive Domain where
  | cold | fund | host | func | island
  deriving DecidableEq, Repr

/-- The clock island of a register: fixed, that of Clove cluster `index`, or that of Lantern region `index` (R27, R493, R685). -/
inductive IslandOf where
  | fixed (n : Nat) | cluster | region
  deriving DecidableEq, Repr

/-- One field of a register: its bits, its access code and its reset value. -/
structure RegField where
  hi : Nat
  lo : Nat
  acc : Acc
  rst : Nat
  deriving DecidableEq, Repr

/-- One row of a block map: register `name` at window offset `off + step * index` for `index < count` (R8). -/
structure RegDef where
  name : String
  off : Nat
  step : Nat
  count : Nat
  wide : Bool
  isl : IslandOf
  dom : Domain
  fields : List RegField
  deriving DecidableEq, Repr

/-- A named field of one register: its window offset and its bits. -/
structure FRef where
  addr : Nat
  hi : Nat
  lo : Nat
  deriving DecidableEq, Repr

/-! ## Register addresses: window offset of each register (R27: block number times 1 MiB plus block offset) -/

namespace R

def GLB_BLK_CTL : Nat := 0x0
def GLB_BLK_STATUS : Nat := 0x4
def GLB_MODE : Nat := 0x10
def GLB_RESET_CFG : Nat := 0x20
def GLB_BOOT_STATUS : Nat := 0x30
def GLB_SNAP_APPLY : Nat := 0x34
def GLB_ISLAND_RST : Nat := 0x40
def GLB_XING_DROP : Nat := 0x100
def GLB_XING_LAST : Nat := 0x104
def GLB_BAD_MASTER : Nat := 0x108
def GLB_BAD_MASTER_LAST : Nat := 0x10C
def GLB_BAD_MASTER_ADDR_LO : Nat := 0x110
def GLB_BAD_MASTER_ADDR_HI : Nat := 0x114
def GLB_CMD_FETCHED : Nat := 0x200
def GLB_CMD_FAILED : Nat := 0x204
def GLB_CMD_STALE : Nat := 0x208
def GLB_CMD_PENDING_NOW : Nat := 0x20C
def HST_BLK_CTL : Nat := 0x100000
def HST_BLK_STATUS : Nat := 0x100004
def HST_LINK_STATUS : Nat := 0x100010
def HST_PM_CFG : Nat := 0x100014
def HST_CPL_TIMEOUT : Nat := 0x100020
def HST_TAG_STATUS : Nat := 0x100024
def HST_SRIOV_STATUS : Nat := 0x100030
def HST_PEER_BAR_CFG : Nat := 0x100040
def HST_CPL_TIMEOUTS : Nat := 0x100100
def HST_LATE_CPL : Nat := 0x100104
def HST_DB_BAD : Nat := 0x100108
def HST_PEER_MISS : Nat := 0x10010C
def HST_PEER_REFUSED : Nat := 0x100110
def HST_L0P_CHANGES : Nat := 0x100114
def HST_L1_ENTRIES : Nat := 0x100118
def HST_PEER_WIN_CTL (n : Nat) : Nat := 0x101000 + n * 0x20
def HST_PEER_WIN_BASE (n : Nat) : Nat := 0x101004 + n * 0x20
def HST_PEER_WIN_SIZE (n : Nat) : Nat := 0x101008 + n * 0x20
def HST_PEER_WIN_TARGET (n : Nat) : Nat := 0x10100C + n * 0x20
def HST_PEER_WIN_RID (n : Nat) : Nat := 0x101010 + n * 0x20
def QMG_BLK_CTL : Nat := 0x200000
def QMG_BLK_STATUS : Nat := 0x200004
def QMG_CTX_SEL : Nat := 0x200010
def QMG_CTX_WORD (n : Nat) : Nat := 0x200040 + n * 0x4
def QMG_DB_RANGE : Nat := 0x200100
def QMG_DB_DISCARDED : Nat := 0x200104
def QMG_ENTRY_ERRORS : Nat := 0x200108
def QMG_STALE_DISCARD : Nat := 0x20010C
def QMG_EVQ_OVERFLOWS : Nat := 0x200110
def QMG_NOTIFY_DROPPED : Nat := 0x200114
def QMG_CTX_FILLS : Nat := 0x200118
def QMG_HOT_CTX : Nat := 0x20011C
def QMG_QUEUES_IN_USE : Nat := 0x200120
def DMA_BLK_CTL : Nat := 0x300000
def DMA_BLK_STATUS : Nat := 0x300004
def DMA_CH_CTL (n : Nat) : Nat := 0x301000 + n * 0x40
def DMA_CH_STATUS (n : Nat) : Nat := 0x301004 + n * 0x40
def DMA_CH_SRC_LO (n : Nat) : Nat := 0x301008 + n * 0x40
def DMA_CH_SRC_HI (n : Nat) : Nat := 0x30100C + n * 0x40
def DMA_CH_DST_LO (n : Nat) : Nat := 0x301010 + n * 0x40
def DMA_CH_DST_HI (n : Nat) : Nat := 0x301014 + n * 0x40
def DMA_CH_COUNT (n : Nat) : Nat := 0x301018 + n * 0x40
def DMA_CH_SPACE (n : Nat) : Nat := 0x30101C + n * 0x40
def DMA_CH_HOST (n : Nat) : Nat := 0x301020 + n * 0x40
def DMA_CH_CHAIN_LO (n : Nat) : Nat := 0x301024 + n * 0x40
def DMA_CH_CHAIN_HI (n : Nat) : Nat := 0x301028 + n * 0x40
def DMA_CH_WB_LO (n : Nat) : Nat := 0x30102C + n * 0x40
def DMA_CH_WB_HI (n : Nat) : Nat := 0x301030 + n * 0x40
def DMA_CH_RESIDUE (n : Nat) : Nat := 0x301034 + n * 0x40
def DMA_CH_OWNER (n : Nat) : Nat := 0x301038 + n * 0x40
def DMA_CH_DONE_DESC (n : Nat) : Nat := 0x30103C + n * 0x40
def EVC_BLK_CTL : Nat := 0x400000
def EVC_BLK_STATUS : Nat := 0x400004
def EVC_SRC_REASON : Nat := 0x400010
def EVC_EDGES_MERGED : Nat := 0x400100
def EVC_SPURIOUS : Nat := 0x400104
def EVC_BYPASS : Nat := 0x400108
def EVC_HOST_MSGS : Nat := 0x40010C
def EVC_HINT_BAD : Nat := 0x400110
def EVC_PENDING (k : Nat) : Nat := 0x401000 + k * 0x4
def EVC_CLAIM (t : Nat) : Nat := 0x401100 + t * 0x4
def EVC_TGT_CFG (t : Nat) : Nat := 0x401200 + t * 0x4
def EVC_SRC_CTL (n : Nat) : Nat := 0x402000 + n * 0x8
def EVC_SRC_MASK (n : Nat) : Nat := 0x402004 + n * 0x8
def EVC_HOST_MOD (i : Nat) : Nat := 0x404000 + i * 0x4
def BUOY_BLK_CTL : Nat := 0x500000
def BUOY_BLK_STATUS : Nat := 0x500004
def BUOY_FORCE_CLEAR : Nat := 0x500020
def BUOY_BIND (c : Nat) : Nat := 0x500100 + c * 0x4
def BUOY_INST_PENDING (k : Nat) : Nat := 0x500400 + k * 0x4
def BUOY_INT_PENDING (k : Nat) : Nat := 0x500500 + k * 0x4
def BUOY_OVERRUNS : Nat := 0x500600
def BUOY_BAD_MASTER : Nat := 0x500604
def BUOY_FORCE_CLEARS : Nat := 0x500608
def INS_BLK_CTL : Nat := 0x600000
def INS_BLK_STATUS : Nat := 0x600004
def INS_MGR_ADMIN_BASE_LO : Nat := 0x600010
def INS_MGR_ADMIN_BASE_HI : Nat := 0x600014
def INS_MGR_ADMIN_CFG : Nat := 0x600018
def INS_SEL : Nat := 0x600020
def INS_REC_WORD (n : Nat) : Nat := 0x600100 + n * 0x4
def INS_STALE_DISCARDS : Nat := 0x600200
def INS_RESETS : Nat := 0x600204
def INS_CREATES : Nat := 0x600208
def INS_DESTROYS : Nat := 0x60020C
def INS_IN_USE : Nat := 0x600210
def MEM_BLK_CTL : Nat := 0x700000
def MEM_BLK_STATUS : Nat := 0x700004
def MEM_PART_CFG : Nat := 0x700010
def MEM_SCRUB_CFG : Nat := 0x700014
def MEM_RETIRED : Nat := 0x700018
def MEM_MRAM_PROT : Nat := 0x70001C
def MEM_MRAM_DENIED : Nat := 0x700020
def MEM_CE (c : Nat) : Nat := 0x700400 + c * 0x10
def MEM_UE (c : Nat) : Nat := 0x700404 + c * 0x10
def MEM_SCRUB_PASSES (c : Nat) : Nat := 0x700408 + c * 0x10
def MEM_GRANT (g : Nat) : Nat := 0x700800 + g * 0x8
def MEM_GRANT_SIZE (g : Nat) : Nat := 0x700804 + g * 0x8
def PGR_BLK_CTL : Nat := 0x800000
def PGR_BLK_STATUS : Nat := 0x800004
def PGR_INTERNAL_SIZE : Nat := 0x800010
def PGR_MGR_SPACE : Nat := 0x800014
def PGR_CACHE_CFG : Nat := 0x800018
def PGR_PARK_CFG : Nat := 0x80001C
def PGR_LPD_WMARK : Nat := 0x800020
def PGR_MIG_RATE : Nat := 0x800024
def PGR_PARK_SSID_MAX : Nat := 0x800028
def PGR_SSID_SEL : Nat := 0x800030
def PGR_SSID_BASE : Nat := 0x800034
def PGR_SSID_SIZE : Nat := 0x800038
def PGR_FAULT_INFO : Nat := 0x800040
def PGR_FAULT_OFFSET_LO : Nat := 0x800044
def PGR_FAULT_OFFSET_HI : Nat := 0x800048
def PGR_FILLS_LPD : Nat := 0x800100
def PGR_FILLS_HOST : Nat := 0x800104
def PGR_EVICT_DIRTY : Nat := 0x800108
def PGR_PARKED : Nat := 0x80010C
def PGR_PARK_DROPS : Nat := 0x800110
def PGR_FAULTS : Nat := 0x800114
def PGR_BACKING_FULL : Nat := 0x800118
def PGR_POISONED : Nat := 0x80011C
def PGR_LOST_PAGES : Nat := 0x800120
def PGR_MIGRATED : Nat := 0x800124
def PGR_FREE_LPD : Nat := 0x800128
def PGR_PINNED : Nat := 0x80012C
def PGR_PARK_NOW : Nat := 0x800130
def PGR_DON_ADDR_LO (d : Nat) : Nat := 0x800800 + d * 0x10
def PGR_DON_ADDR_HI (d : Nat) : Nat := 0x800804 + d * 0x10
def PGR_DON_SIZE (d : Nat) : Nat := 0x800808 + d * 0x10
def PGR_DON_PAGES (d : Nat) : Nat := 0x80080C + d * 0x10
def BPM_BLK_CTL : Nat := 0x900000
def BPM_BLK_STATUS : Nat := 0x900004
def BPM_COUNT (k : Nat) : Nat := 0x900020 + k * 0x4
def BPM_FREE (k : Nat) : Nat := 0x900040 + k * 0x4
def BPM_BAD_PTR : Nat := 0x900060
def BPM_BAD_PTR_INFO : Nat := 0x900064
def BPM_REQ_SEL : Nat := 0x900070
def BPM_REQ_MIN : Nat := 0x900074
def BPM_REQ_MAX : Nat := 0x900078
def BPM_REQ_OVF_MAX : Nat := 0x90007C
def BPM_REQ_USED : Nat := 0x900080
def BPM_REQ_OVF_USED : Nat := 0x900084
def BPM_ALLOCS : Nat := 0x900100
def BPM_OVF_ALLOCS : Nat := 0x900104
def BPM_ALLOC_FAIL : Nat := 0x900108
def BPM_ALLOC_SHORT : Nat := 0x90010C
def BPM_BAD_PTRS : Nat := 0x900110
def PRS_BLK_CTL : Nat := 0xA00000
def PRS_BLK_STATUS : Nat := 0xA00004
def PRS_GRAPH_STATUS : Nat := 0xA00010
def PRS_FAIL_INFO : Nat := 0xA00020
def PRS_PACKETS : Nat := 0xA00100
def PRS_FAILS : Nat := 0xA00104
def PRS_FAIL_CODE (c : Nat) : Nat := 0xA00104 + c * 0x4
def PRS_NESTED : Nat := 0xA00120
def PRS_FRAGMENTS : Nat := 0xA00124
def PRS_COMMITS : Nat := 0xA00128
def CLS_BLK_CTL : Nat := 0xB00000
def CLS_BLK_STATUS : Nat := 0xB00004
def CLS_PARITY_INFO : Nat := 0xB00010
def CLS_INST_SEL : Nat := 0xB00020
def CLS_INST_HASH : Nat := 0xB00024
def CLS_INST_EXC : Nat := 0xB00028
def CLS_INST_POLICER : Nat := 0xB0002C
def CLS_INST_EXC_DROPS : Nat := 0xB00030
def CLS_LOOKUPS : Nat := 0xB00100
def CLS_NOMATCH_S0 : Nat := 0xB00104
def CLS_EXC_DELIVERED : Nat := 0xB00108
def CLS_EXC_DROPS : Nat := 0xB0010C
def CLS_EXC_NOQUEUE : Nat := 0xB00110
def CLS_DEST_BAD : Nat := 0xB00114
def CLS_INDIR_MISSES : Nat := 0xB00118
def CLS_RULES_IN_USE : Nat := 0xB0011C
def CLS_PARITY_ERRORS : Nat := 0xB00120
def TBL_BLK_CTL : Nat := 0xC00000
def TBL_BLK_STATUS : Nat := 0xC00004
def TBL_SEL : Nat := 0xC00010
def TBL_DESC_WORD (n : Nat) : Nat := 0xC00020 + n * 0x4
def TBL_PARITY_INFO : Nat := 0xC00060
def TBL_PARITY_INDEX : Nat := 0xC00064
def TBL_ONDIE_UNITS : Nat := 0xC00068
def TBL_LPD_ENTRIES : Nat := 0xC0006C
def TBL_LPM_V4 : Nat := 0xC00070
def TBL_LPM_V6 : Nat := 0xC00074
def TBL_VRF_SEL : Nat := 0xC00078
def TBL_VRF_V4 : Nat := 0xC0007C
def TBL_VRF_V6 : Nat := 0xC00080
def TBL_EM_LOOKUPS : Nat := 0xC00100
def TBL_EM_HITS : Nat := 0xC00104
def TBL_EM_MISS_DROPS : Nat := 0xC00108
def TBL_EM_INSERTS : Nat := 0xC0010C
def TBL_EM_DELETES : Nat := 0xC00110
def TBL_EM_RELOCATIONS : Nat := 0xC00114
def TBL_EM_REHASH : Nat := 0xC00118
def TBL_EM_PARITY : Nat := 0xC0011C
def TBL_EM_PAGE_PARKS : Nat := 0xC00120
def TBL_LPM_LOOKUPS : Nat := 0xC00124
def TBL_LPM_UPDATES : Nat := 0xC00128
def TBL_LPM_VRF_OFF : Nat := 0xC0012C
def TBL_LEARN_POSTED : Nat := 0xC00130
def TBL_LEARN_SUPPRESSED : Nat := 0xC00134
def TBL_LEARN_RATE_DROPS : Nat := 0xC00138
def TBL_AGED_POSTED : Nat := 0xC0013C
def SWX_BLK_CTL : Nat := 0xD00000
def SWX_BLK_STATUS : Nat := 0xD00004
def SWX_CNT_SEL : Nat := 0xD00010
def SWX_CNT_PKTS_LO : Nat := 0xD00018
def SWX_CNT_PKTS_HI : Nat := 0xD0001C
def SWX_CNT_BYTES_LO : Nat := 0xD00020
def SWX_CNT_BYTES_HI : Nat := 0xD00024
def SWX_POL_SEL : Nat := 0xD00030
def SWX_POL_GREEN : Nat := 0xD00034
def SWX_POL_YELLOW : Nat := 0xD00038
def SWX_POL_RED : Nat := 0xD0003C
def SWX_NO_DEST : Nat := 0xD00100
def SWX_TRANSFER_LIMIT : Nat := 0xD00104
def SWX_RECIRC_LIMIT : Nat := 0xD00108
def SWX_SIDE_DROPS : Nat := 0xD0010C
def SWX_NO_MEMBER : Nat := 0xD00110
def SWX_TTL_TRAPS : Nat := 0xD00114
def SWX_DECAP_NONE : Nat := 0xD00118
def SWX_ORDER_TIMEOUTS : Nat := 0xD0011C
def SWX_EDIT_ERRORS : Nat := 0xD00200
def SWX_MIRROR_DROPS : Nat := 0xD00204
def CLV_BLK_CTL : Nat := 0xE00000
def CLV_BLK_STATUS : Nat := 0xE00004
def CLV_NO_CLUSTER : Nat := 0xE00100
def CLV_CL_STATUS (k : Nat) : Nat := 0xE80000 + k * 0x8000
def CLV_CL_CTL (k : Nat) : Nat := 0xE80004 + k * 0x8000
def CLV_WDOG_CTL (k : Nat) : Nat := 0xE80008 + k * 0x8000
def CLV_SSID (k : Nat) : Nat := 0xE8000C + k * 0x8000
def CLV_DISPATCH_DEPTH (k : Nat) : Nat := 0xE80010 + k * 0x8000
def CLV_DISPATCHED (k : Nat) : Nat := 0xE80600 + k * 0x8000
def CLV_DONE (k : Nat) : Nat := 0xE80604 + k * 0x8000
def CLV_DROPS (k : Nat) : Nat := 0xE80608 + k * 0x8000
def CLV_DONE_DROPS (k : Nat) : Nat := 0xE8060C + k * 0x8000
def CLV_QUEUE_DROPS (k : Nat) : Nat := 0xE80610 + k * 0x8000
def CLV_FAULTS (k : Nat) : Nat := 0xE80614 + k * 0x8000
def CLV_ALL_WAITS (k : Nat) : Nat := 0xE80618 + k * 0x8000
def CLV_NOTIFY_DROPS (k : Nat) : Nat := 0xE8061C + k * 0x8000
def CLV_WAKE_DISCARDS (k : Nat) : Nat := 0xE80620 + k * 0x8000
def CLV_FORCE_RELEASES (k : Nat) : Nat := 0xE80624 + k * 0x8000
def CLV_HANDBACKS (k : Nat) : Nat := 0xE80628 + k * 0x8000
def CLV_WDOG_EXPIRED (k : Nat) : Nat := 0xE8062C + k * 0x8000
def PSQ_BLK_CTL : Nat := 0xF00000
def PSQ_BLK_STATUS : Nat := 0xF00004
def PSQ_GROUP_STATUS (g : Nat) : Nat := 0xF00010 + g * 0x4
def PSQ_TRAP_PENDING : Nat := 0xF00020
def PSQ_SEQ_STATUS (s : Nat) : Nat := 0xF00100 + s * 0x4
def PSQ_TRAP_CTL (s : Nat) : Nat := 0xF00200 + s * 0x4
def PSQ_ROUTINES : Nat := 0xF00400
def PSQ_TRAPS : Nat := 0xF00404
def PSQ_RX_DROPS : Nat := 0xF00408
def PSQ_NO_CONN : Nat := 0xF0040C
def PSQ_END_DROPS : Nat := 0xF00410
def PSQ_ICRC_BAD : Nat := 0xF00414
def PSQ_RETRANSMITS : Nat := 0xF00418
def PSQ_NAKS_SENT : Nat := 0xF0041C
def PSQ_CNP_SENT : Nat := 0xF00420
def PSQ_CNP_RECEIVED : Nat := 0xF00424
def PSQ_TCP_RETRANSMITS : Nat := 0xF00428
def PSQ_DIGEST_ERRORS : Nat := 0xF0042C
def PSQ_FLUSHED : Nat := 0xF00430
def PSQ_CONN_FAILURES : Nat := 0xF00434
def PSQ_CONNECTIONS : Nat := 0xF00438
def SAF_BLK_CTL : Nat := 0x1000000
def SAF_BLK_STATUS : Nat := 0x1000004
def SAF_ROOT_LOADED (k : Nat) : Nat := 0x1000010 + k * 0x4
def SAF_ASSOC_SEL : Nat := 0x1000018
def SAF_ASSOC_WORD (n : Nat) : Nat := 0x1000020 + n * 0x4
def SAF_CACHE_VALID : Nat := 0x1000060
def SAF_DERIVATIONS : Nat := 0x1000100
def SAF_CACHE_MISSES : Nat := 0x1000104
def SAF_AUTH_FAIL : Nat := 0x1000108
def SAF_REPLAY_DROPS : Nat := 0x100010C
def SAF_PAD_BAD : Nat := 0x1000110
def SAF_FORMAT : Nat := 0x1000114
def SAF_NO_ASSOC : Nat := 0x1000118
def SAF_SEQ_EXHAUSTED : Nat := 0x100011C
def SAF_UNWRAP_FAIL : Nat := 0x1000120
def SAF_KEYUPDATE_HOLDS : Nat := 0x1000124
def SAF_ASSOCS_IN_USE : Nat := 0x1000128
def FRS_BLK_CTL : Nat := 0x1100000
def FRS_BLK_STATUS : Nat := 0x1100004
def FRS_NODE_SEL : Nat := 0x1100010
def FRS_NODE_WORD (n : Nat) : Nat := 0x1100020 + n * 0x4
def FRS_INST_SEL : Nat := 0x1100040
def FRS_INST_DEFAULT : Nat := 0x1100044
def FRS_GCL_STATUS (p : Nat) : Nat := 0x1100080 + p * 0x4
def FRS_FRAMES : Nat := 0x1100100
def FRS_LEAF_MISMATCH : Nat := 0x1100104
def FRS_LEAF_DROPS : Nat := 0x1100108
def FRS_GATE_OVERSIZE : Nat := 0x110010C
def FRS_GUARD_HOLDS : Nat := 0x1100110
def FRS_GCL_SWITCHES : Nat := 0x1100114
def FRS_GCL_RESYNC : Nat := 0x1100118
def FRS_TELEMETRY_POSTED : Nat := 0x110011C
def MAC_BLK_CTL : Nat := 0x1200000
def MAC_BLK_STATUS : Nat := 0x1200004
def MAC_MODE : Nat := 0x1200010
def MAC_PORT_STATUS (p : Nat) : Nat := 0x1200100 + p * 0x4
def MAC_FC_STATE (p : Nat) : Nat := 0x1200140 + p * 0x4
def MAC_STAT (i : Nat) : Nat := 0x1210000 + i * 0x8
def MGP_BLK_CTL : Nat := 0x1300000
def MGP_BLK_STATUS : Nat := 0x1300004
def MGP_CFG : Nat := 0x1300010
def MGP_STATUS : Nat := 0x1300014
def MGP_MAC_LO : Nat := 0x1300018
def MGP_MAC_HI : Nat := 0x130001C
def MGP_SMB_CFG : Nat := 0x1300020
def MGP_RX_OTHER : Nat := 0x1300100
def MGP_LATE_COLL : Nat := 0x1300104
def MGP_EXCESS_COLL : Nat := 0x1300108
def MGP_COLLISIONS : Nat := 0x130010C
def MGP_MCTP_DROPS : Nat := 0x1300110
def MGP_SMB_ERRORS : Nat := 0x1300114
def TIM_BLK_CTL : Nat := 0x1400000
def TIM_BLK_STATUS : Nat := 0x1400004
def TIM_STATUS : Nat := 0x1400010
def TIM_SNAP_CTL : Nat := 0x1400014
def TIM_SNAP_SEC_LO : Nat := 0x1400018
def TIM_SNAP_SEC_HI : Nat := 0x140001C
def TIM_SNAP_NS : Nat := 0x1400020
def TIM_SNAP_FRAC : Nat := 0x1400024
def TIM_FREQ : Nat := 0x1400028
def TIM_INCR : Nat := 0x140002C
def TIM_CAL_STATUS : Nat := 0x1400030
def TIM_CAL_SEQ : Nat := 0x1400034
def TIM_PORT_CFG (p : Nat) : Nat := 0x1400040 + p * 0x4
def TIM_PPS_STATUS : Nat := 0x1400060
def TIM_IN_CFG : Nat := 0x140006C
def TIM_IN_SEC_LO : Nat := 0x1400070
def TIM_IN_SEC_HI : Nat := 0x1400074
def TIM_IN_NS : Nat := 0x1400078
def TIM_IN_FRAC : Nat := 0x140007C
def TIM_PTM_CFG : Nat := 0x1400080
def TIM_PTM_HOST_LO : Nat := 0x1400084
def TIM_PTM_HOST_HI : Nat := 0x1400088
def TIM_PTM_DEV_SEC_LO : Nat := 0x140008C
def TIM_PTM_DEV_SEC_HI : Nat := 0x1400090
def TIM_PTM_DEV_NS : Nat := 0x1400094
def TIM_PTM_DEV_FRAC : Nat := 0x1400098
def TIM_SIDE_SEL : Nat := 0x14000A0
def TIM_SIDE_WORD (n : Nat) : Nat := 0x14000A4 + n * 0x4
def TIM_STEPS : Nat := 0x1400100
def TIM_PPS_EDGES : Nat := 0x1400104
def TIM_IN_CAPTURES : Nat := 0x1400108
def TIM_ONE_STEP : Nat := 0x140010C
def TIM_SIDE_RECORDS : Nat := 0x1400110
def TIM_PTM_FAILS : Nat := 0x1400114
def TIM_DM_SEC_LO : Nat := 0x1400200
def TIM_DM_SEC_HI : Nat := 0x1400204
def TIM_DM_SUB : Nat := 0x1400208
def TIM_DM_CFG : Nat := 0x140020C
def TIM_DM_STATUS : Nat := 0x1400210
def TIM_DM_ALARM_LO : Nat := 0x1400214
def TIM_DM_ALARM_HI : Nat := 0x1400218
def LAN_BLK_CTL : Nat := 0x1500000
def LAN_BLK_STATUS : Nat := 0x1500004
def LAN_ALLOWANCE : Nat := 0x1500010
def LAN_CAP_SUM : Nat := 0x1500014
def LAN_REGION_STATUS (r : Nat) : Nat := 0x1501000 + r * 0x100
def LAN_IMAGE_ID (r : Nat) : Nat := 0x1501004 + r * 0x100
def LAN_POWER (r : Nat) : Nat := 0x1501008 + r * 0x100
def LAN_RANGE (r : Nat) : Nat := 0x150100C + r * 0x100
def LAN_IN_FRAMES (r : Nat) : Nat := 0x1501040 + r * 0x100
def LAN_OUT_FRAMES (r : Nat) : Nat := 0x1501044 + r * 0x100
def LAN_BYPASS (r : Nat) : Nat := 0x1501048 + r * 0x100
def LAN_TIMEOUTS (r : Nat) : Nat := 0x150104C + r * 0x100
def LAN_LATE_RETURNS (r : Nat) : Nat := 0x1501050 + r * 0x100
def LAN_BAD_TOKEN (r : Nat) : Nat := 0x1501054 + r * 0x100
def LAN_BAD_VERDICT (r : Nat) : Nat := 0x1501058 + r * 0x100
def LAN_MEM_FAULTS (r : Nat) : Nat := 0x150105C + r * 0x100
def LAN_SCRUB_CE (r : Nat) : Nat := 0x1501060 + r * 0x100
def LAN_THROTTLES (r : Nat) : Nat := 0x1501064 + r * 0x100
def LAN_TRIPS (r : Nat) : Nat := 0x1501068 + r * 0x100
def LAN_REG_TIMEOUTS (r : Nat) : Nat := 0x150106C + r * 0x100
def LAN_MBX_ERRORS (r : Nat) : Nat := 0x1501070 + r * 0x100
def SPR_BLK_CTL : Nat := 0x1600000
def SPR_BLK_STATUS : Nat := 0x1600004
def SPR_STATUS : Nat := 0x1600010
def SPR_FABRIC_ID : Nat := 0x1600014
def SPR_EPOCH : Nat := 0x1600018
def SPR_CFG : Nat := 0x160001C
def SPR_PORT_STATUS (p : Nat) : Nat := 0x1600020 + p * 0x4
def SPR_NBR_SERIAL_LO (p : Nat) : Nat := 0x1600040 + p * 0x8
def SPR_NBR_SERIAL_HI (p : Nat) : Nat := 0x1600044 + p * 0x8
def SPR_CHAN_MAP (c : Nat) : Nat := 0x1600100 + c * 0x8
def SPR_CHAN_BASE (c : Nat) : Nat := 0x1600104 + c * 0x8
def SPR_REPLAYS : Nat := 0x1600300
def SPR_RETRAIN_DROPS : Nat := 0x1600304
def SPR_DEGRADES : Nat := 0x1600308
def SPR_HOP_DROPS : Nat := 0x160030C
def SPR_FOREIGN_BEACONS : Nat := 0x1600310
def SPR_EPOCH_DROPS : Nat := 0x1600314
def SPR_NO_ROUTE : Nat := 0x1600318
def SPR_MBX_REJECTED : Nat := 0x160031C
def SPR_GRANT_DENIED : Nat := 0x1600320
def SPR_LATE_RESPONSES : Nat := 0x1600324
def SPR_TIME_STEPS : Nat := 0x1600328
def RAS_BLK_CTL : Nat := 0x1700000
def RAS_BLK_STATUS : Nat := 0x1700004
def RAS_FOGHORN : Nat := 0x1700010
def RAS_HEARTBEAT : Nat := 0x1700014
def RAS_HB_CFG : Nat := 0x1700018
def RAS_LOG_OLDEST : Nat := 0x170001C
def RAS_LOG_NEWEST : Nat := 0x1700020
def RAS_CNT_SEL : Nat := 0x1700024
def RAS_CNT_VALUE : Nat := 0x1700028
def RAS_KIND_CFG (k : Nat) : Nat := 0x1700040 + k * 0x4
def RAS_RET_LINE : Nat := 0x1700100
def RAS_RET_SPAR : Nat := 0x1700104
def RAS_RET_CHAN : Nat := 0x1700108
def RAS_RET_CORE (j : Nat) : Nat := 0x170010C + j * 0x4
def RAS_RET_SEQ : Nat := 0x170011C
def RAS_RET_MISC : Nat := 0x1700120
def RAS_RETIREMENTS : Nat := 0x1700200
def RAS_RESTORES : Nat := 0x1700204
def RAS_LOG_RECORDS : Nat := 0x1700208
def RAS_TAKEOVERS : Nat := 0x170020C
def RAS_LIMIT_HOLDS : Nat := 0x1700210
def TST_BLK_CTL : Nat := 0x1800000
def TST_BLK_STATUS : Nat := 0x1800004
def TST_DBG_CFG : Nat := 0x1800010
def TST_DBG_STATUS : Nat := 0x1800014
def TST_CLV_DBG_EN : Nat := 0x1800020
def TST_CLV_HALT (kw : Nat) : Nat := 0x1800100 + kw * 0x4
def TST_CLV_TRACE_PTR (k : Nat) : Nat := 0x1800300 + k * 0x4
def TST_CLV_REG_SEL : Nat := 0x1800400
def TST_CLV_REG_DATA : Nat := 0x1800404
def TST_PLACEMENTS : Nat := 0x1800500
def TST_SELFTEST_FAILS : Nat := 0x1800504
def TST_DBG_REFUSED : Nat := 0x1800508
def TST_TRACE_DROPS : Nat := 0x180050C
def TST_LANE_CTL (n : Nat) : Nat := 0x1801000 + n * 0x40
def TST_LANE_STATUS (n : Nat) : Nat := 0x1801004 + n * 0x40
def TST_USER_PAT_0 (n : Nat) : Nat := 0x1801008 + n * 0x40
def TST_USER_PAT_1 (n : Nat) : Nat := 0x180100C + n * 0x40
def TST_USER_PAT_2 (n : Nat) : Nat := 0x1801010 + n * 0x40
def TST_USER_PAT_3 (n : Nat) : Nat := 0x1801014 + n * 0x40
def TST_BITS_LO (n : Nat) : Nat := 0x1801018 + n * 0x40
def TST_BITS_HI (n : Nat) : Nat := 0x180101C + n * 0x40
def TST_ERRORS_LO (n : Nat) : Nat := 0x1801020 + n * 0x40
def TST_ERRORS_HI (n : Nat) : Nat := 0x1801024 + n * 0x40
def TST_LOCK_LOSSES (n : Nat) : Nat := 0x1801028 + n * 0x40
def PWR_BLK_CTL : Nat := 0x1900000
def PWR_BLK_STATUS : Nat := 0x1900004
def PWR_STATUS : Nat := 0x1900010
def PWR_STRAPS : Nat := 0x1900014
def PWR_THERM_CFG : Nat := 0x1900018
def PWR_LIMIT : Nat := 0x190001C
def PWR_TOTAL : Nat := 0x1900020
def PWR_VBAT : Nat := 0x1900024
def PWR_RAIL (k : Nat) : Nat := 0x1900100 + k * 0x4
def PWR_TEMP (s : Nat) : Nat := 0x1900200 + s * 0x4
def PWR_EXCURSIONS : Nat := 0x1900300
def PWR_THROTTLES : Nat := 0x1900304
def PWR_TRIPS : Nat := 0x1900308
def DNP_BLK_CTL : Nat := 0x1A00000
def DNP_BLK_STATUS : Nat := 0x1A00004
def DNP_SLOT_CTL (p : Nat) : Nat := 0x1A00100 + p * 0x40
def DNP_SLOT_STATUS (p : Nat) : Nat := 0x1A00104 + p * 0x40
def DNP_LINK_STATUS (p : Nat) : Nat := 0x1A00108 + p * 0x40
def DNP_DPC_STATUS (p : Nat) : Nat := 0x1A0010C + p * 0x40
def DNP_DPC_CTL (p : Nat) : Nat := 0x1A00110 + p * 0x40
def DNP_UPSTREAM_BAD (p : Nat) : Nat := 0x1A00120 + p * 0x40
def DNP_DPC_COUNT (p : Nat) : Nat := 0x1A00124 + p * 0x40
def DNP_AER_CORR (p : Nat) : Nat := 0x1A00128 + p * 0x40
def RCL_BLK_CTL : Nat := 0x1F00000
def RCL_BLK_STATUS : Nat := 0x1F00004
def RCL_QUERY_RES : Nat := 0x1F00010
def RCL_QUERY_HOLDER : Nat := 0x1F00014
def RCL_LAST_REFUSED_RES : Nat := 0x1F00018
def RCL_LAST_REFUSED_HOLDER : Nat := 0x1F0001C
def RCL_IN_USE : Nat := 0x1F00020
def RCL_REFUSALS : Nat := 0x1F00024

end R

/-! ## Named fields -/

namespace F

def GLB_BLK_CTL_lock : FRef := ⟨R.GLB_BLK_CTL, 31, 31⟩
def GLB_BLK_CTL_enable : FRef := ⟨R.GLB_BLK_CTL, 0, 0⟩
def GLB_BLK_STATUS_reason : FRef := ⟨R.GLB_BLK_STATUS, 31, 16⟩
def GLB_BLK_STATUS_checking : FRef := ⟨R.GLB_BLK_STATUS, 1, 1⟩
def GLB_BLK_STATUS_ready : FRef := ⟨R.GLB_BLK_STATUS, 0, 0⟩
def GLB_MODE_transition : FRef := ⟨R.GLB_MODE, 31, 31⟩
def GLB_MODE_rom_recovery : FRef := ⟨R.GLB_MODE, 18, 18⟩
def GLB_MODE_standby_pair_ready : FRef := ⟨R.GLB_MODE, 17, 17⟩
def GLB_MODE_active_pair : FRef := ⟨R.GLB_MODE, 16, 16⟩
def GLB_MODE_cause : FRef := ⟨R.GLB_MODE, 15, 8⟩
def GLB_MODE_retired_present : FRef := ⟨R.GLB_MODE, 7, 7⟩
def GLB_MODE_prev_mode : FRef := ⟨R.GLB_MODE, 6, 4⟩
def GLB_MODE_mode : FRef := ⟨R.GLB_MODE, 2, 0⟩
def GLB_RESET_CFG_recovery_auto : FRef := ⟨R.GLB_RESET_CFG, 1, 1⟩
def GLB_RESET_CFG_service_retention : FRef := ⟨R.GLB_RESET_CFG, 0, 0⟩
def GLB_BOOT_STATUS_step : FRef := ⟨R.GLB_BOOT_STATUS, 31, 24⟩
def GLB_BOOT_STATUS_fail_reason : FRef := ⟨R.GLB_BOOT_STATUS, 23, 16⟩
def GLB_BOOT_STATUS_snapshot_applied : FRef := ⟨R.GLB_BOOT_STATUS, 7, 7⟩
def GLB_BOOT_STATUS_fallback : FRef := ⟨R.GLB_BOOT_STATUS, 6, 6⟩
def GLB_BOOT_STATUS_bank_b_valid : FRef := ⟨R.GLB_BOOT_STATUS, 5, 5⟩
def GLB_BOOT_STATUS_bank_a_valid : FRef := ⟨R.GLB_BOOT_STATUS, 4, 4⟩
def GLB_BOOT_STATUS_running_bank : FRef := ⟨R.GLB_BOOT_STATUS, 3, 3⟩
def GLB_BOOT_STATUS_active_bank : FRef := ⟨R.GLB_BOOT_STATUS, 2, 2⟩
def GLB_SNAP_APPLY_valid : FRef := ⟨R.GLB_SNAP_APPLY, 31, 31⟩
def GLB_SNAP_APPLY_blocks_refused : FRef := ⟨R.GLB_SNAP_APPLY, 30, 26⟩
def GLB_SNAP_APPLY_created : FRef := ⟨R.GLB_SNAP_APPLY, 23, 12⟩
def GLB_SNAP_APPLY_skipped : FRef := ⟨R.GLB_SNAP_APPLY, 11, 0⟩
def GLB_ISLAND_RST_busy : FRef := ⟨R.GLB_ISLAND_RST, 31, 31⟩
def GLB_ISLAND_RST_result : FRef := ⟨R.GLB_ISLAND_RST, 23, 16⟩
def GLB_ISLAND_RST_go : FRef := ⟨R.GLB_ISLAND_RST, 8, 8⟩
def GLB_ISLAND_RST_island : FRef := ⟨R.GLB_ISLAND_RST, 5, 0⟩
def GLB_XING_LAST_valid : FRef := ⟨R.GLB_XING_LAST, 31, 31⟩
def GLB_XING_LAST_is_read : FRef := ⟨R.GLB_XING_LAST, 30, 30⟩
def GLB_XING_LAST_island : FRef := ⟨R.GLB_XING_LAST, 29, 24⟩
def GLB_XING_LAST_block : FRef := ⟨R.GLB_XING_LAST, 23, 19⟩
def GLB_XING_LAST_word_offset : FRef := ⟨R.GLB_XING_LAST, 17, 0⟩
def GLB_BAD_MASTER_LAST_valid : FRef := ⟨R.GLB_BAD_MASTER_LAST, 31, 31⟩
def GLB_BAD_MASTER_LAST_is_read : FRef := ⟨R.GLB_BAD_MASTER_LAST, 30, 30⟩
def GLB_BAD_MASTER_LAST_in_window : FRef := ⟨R.GLB_BAD_MASTER_LAST, 29, 29⟩
def GLB_BAD_MASTER_LAST_block : FRef := ⟨R.GLB_BAD_MASTER_LAST, 28, 24⟩
def GLB_BAD_MASTER_LAST_mid : FRef := ⟨R.GLB_BAD_MASTER_LAST, 12, 0⟩
def GLB_BAD_MASTER_ADDR_HI_v : FRef := ⟨R.GLB_BAD_MASTER_ADDR_HI, 7, 0⟩
def GLB_CMD_PENDING_NOW_v : FRef := ⟨R.GLB_CMD_PENDING_NOW, 8, 0⟩
def HST_BLK_CTL_lock : FRef := ⟨R.HST_BLK_CTL, 31, 31⟩
def HST_BLK_CTL_enable : FRef := ⟨R.HST_BLK_CTL, 0, 0⟩
def HST_BLK_STATUS_reason : FRef := ⟨R.HST_BLK_STATUS, 31, 16⟩
def HST_BLK_STATUS_checking : FRef := ⟨R.HST_BLK_STATUS, 1, 1⟩
def HST_BLK_STATUS_ready : FRef := ⟨R.HST_BLK_STATUS, 0, 0⟩
def HST_LINK_STATUS_tx_width : FRef := ⟨R.HST_LINK_STATUS, 26, 22⟩
def HST_LINK_STATUS_neg_width : FRef := ⟨R.HST_LINK_STATUS, 21, 17⟩
def HST_LINK_STATUS_flit : FRef := ⟨R.HST_LINK_STATUS, 16, 16⟩
def HST_LINK_STATUS_link_up : FRef := ⟨R.HST_LINK_STATUS, 4, 4⟩
def HST_LINK_STATUS_rate : FRef := ⟨R.HST_LINK_STATUS, 3, 0⟩
def HST_PM_CFG_l0p_enable : FRef := ⟨R.HST_PM_CFG, 31, 31⟩
def HST_PM_CFG_l0p_min_width : FRef := ⟨R.HST_PM_CFG, 30, 28⟩
def HST_PM_CFG_l0p_down_pct : FRef := ⟨R.HST_PM_CFG, 27, 20⟩
def HST_PM_CFG_l0p_up_pct : FRef := ⟨R.HST_PM_CFG, 19, 12⟩
def HST_PM_CFG_l1_idle_us : FRef := ⟨R.HST_PM_CFG, 11, 0⟩
def HST_CPL_TIMEOUT_override : FRef := ⟨R.HST_CPL_TIMEOUT, 31, 31⟩
def HST_CPL_TIMEOUT_value_us : FRef := ⟨R.HST_CPL_TIMEOUT, 25, 0⟩
def HST_TAG_STATUS_quarantined : FRef := ⟨R.HST_TAG_STATUS, 28, 16⟩
def HST_TAG_STATUS_in_use : FRef := ⟨R.HST_TAG_STATUS, 12, 0⟩
def HST_SRIOV_STATUS_ari_missing : FRef := ⟨R.HST_SRIOV_STATUS, 31, 31⟩
def HST_SRIOV_STATUS_vf_enable : FRef := ⟨R.HST_SRIOV_STATUS, 30, 30⟩
def HST_SRIOV_STATUS_numvfs_bad : FRef := ⟨R.HST_SRIOV_STATUS, 29, 29⟩
def HST_SRIOV_STATUS_num_vfs : FRef := ⟨R.HST_SRIOV_STATUS, 15, 0⟩
def HST_PEER_BAR_CFG_bar_disable : FRef := ⟨R.HST_PEER_BAR_CFG, 5, 5⟩
def HST_PEER_BAR_CFG_max_size : FRef := ⟨R.HST_PEER_BAR_CFG, 4, 0⟩
def HST_PEER_WIN_CTL_commit (n : Nat) : FRef := ⟨R.HST_PEER_WIN_CTL n, 31, 31⟩
def HST_PEER_WIN_CTL_active_enable (n : Nat) : FRef := ⟨R.HST_PEER_WIN_CTL n, 30, 30⟩
def HST_PEER_WIN_CTL_reason (n : Nat) : FRef := ⟨R.HST_PEER_WIN_CTL n, 23, 8⟩
def HST_PEER_WIN_CTL_write_en (n : Nat) : FRef := ⟨R.HST_PEER_WIN_CTL n, 2, 2⟩
def HST_PEER_WIN_CTL_read_en (n : Nat) : FRef := ⟨R.HST_PEER_WIN_CTL n, 1, 1⟩
def HST_PEER_WIN_CTL_enable (n : Nat) : FRef := ⟨R.HST_PEER_WIN_CTL n, 0, 0⟩
def HST_PEER_WIN_BASE_bar_offset (n : Nat) : FRef := ⟨R.HST_PEER_WIN_BASE n, 16, 0⟩
def HST_PEER_WIN_SIZE_size (n : Nat) : FRef := ⟨R.HST_PEER_WIN_SIZE n, 17, 0⟩
def HST_PEER_WIN_TARGET_target (n : Nat) : FRef := ⟨R.HST_PEER_WIN_TARGET n, 16, 0⟩
def HST_PEER_WIN_RID_rid_mask (n : Nat) : FRef := ⟨R.HST_PEER_WIN_RID n, 31, 16⟩
def HST_PEER_WIN_RID_rid (n : Nat) : FRef := ⟨R.HST_PEER_WIN_RID n, 15, 0⟩
def QMG_BLK_CTL_lock : FRef := ⟨R.QMG_BLK_CTL, 31, 31⟩
def QMG_BLK_CTL_enable : FRef := ⟨R.QMG_BLK_CTL, 0, 0⟩
def QMG_BLK_STATUS_reason : FRef := ⟨R.QMG_BLK_STATUS, 31, 16⟩
def QMG_BLK_STATUS_checking : FRef := ⟨R.QMG_BLK_STATUS, 1, 1⟩
def QMG_BLK_STATUS_ready : FRef := ⟨R.QMG_BLK_STATUS, 0, 0⟩
def QMG_CTX_SEL_busy : FRef := ⟨R.QMG_CTX_SEL, 31, 31⟩
def QMG_CTX_SEL_qid : FRef := ⟨R.QMG_CTX_SEL, 15, 0⟩
def DMA_BLK_CTL_lock : FRef := ⟨R.DMA_BLK_CTL, 31, 31⟩
def DMA_BLK_CTL_enable : FRef := ⟨R.DMA_BLK_CTL, 0, 0⟩
def DMA_BLK_STATUS_reason : FRef := ⟨R.DMA_BLK_STATUS, 31, 16⟩
def DMA_BLK_STATUS_checking : FRef := ⟨R.DMA_BLK_STATUS, 1, 1⟩
def DMA_BLK_STATUS_ready : FRef := ⟨R.DMA_BLK_STATUS, 0, 0⟩
def DMA_CH_CTL_start (n : Nat) : FRef := ⟨R.DMA_CH_CTL n, 31, 31⟩
def DMA_CH_CTL_abort (n : Nat) : FRef := ⟨R.DMA_CH_CTL n, 30, 30⟩
def DMA_CH_CTL_chain_en (n : Nat) : FRef := ⟨R.DMA_CH_CTL n, 2, 2⟩
def DMA_CH_CTL_wb_en (n : Nat) : FRef := ⟨R.DMA_CH_CTL n, 1, 1⟩
def DMA_CH_STATUS_reason (n : Nat) : FRef := ⟨R.DMA_CH_STATUS n, 31, 16⟩
def DMA_CH_STATUS_error_code (n : Nat) : FRef := ⟨R.DMA_CH_STATUS n, 15, 8⟩
def DMA_CH_STATUS_error (n : Nat) : FRef := ⟨R.DMA_CH_STATUS n, 4, 4⟩
def DMA_CH_STATUS_aborted (n : Nat) : FRef := ⟨R.DMA_CH_STATUS n, 3, 3⟩
def DMA_CH_STATUS_done (n : Nat) : FRef := ⟨R.DMA_CH_STATUS n, 2, 2⟩
def DMA_CH_STATUS_running (n : Nat) : FRef := ⟨R.DMA_CH_STATUS n, 1, 1⟩
def DMA_CH_STATUS_queued (n : Nat) : FRef := ⟨R.DMA_CH_STATUS n, 0, 0⟩
def DMA_CH_SPACE_src_space (n : Nat) : FRef := ⟨R.DMA_CH_SPACE n, 31, 30⟩
def DMA_CH_SPACE_dst_space (n : Nat) : FRef := ⟨R.DMA_CH_SPACE n, 29, 28⟩
def DMA_CH_SPACE_chain_space (n : Nat) : FRef := ⟨R.DMA_CH_SPACE n, 27, 26⟩
def DMA_CH_SPACE_state_space_id (n : Nat) : FRef := ⟨R.DMA_CH_SPACE n, 23, 8⟩
def DMA_CH_HOST_pasid_en (n : Nat) : FRef := ⟨R.DMA_CH_HOST n, 31, 31⟩
def DMA_CH_HOST_iid (n : Nat) : FRef := ⟨R.DMA_CH_HOST n, 30, 20⟩
def DMA_CH_HOST_pasid (n : Nat) : FRef := ⟨R.DMA_CH_HOST n, 19, 0⟩
def DMA_CH_OWNER_valid (n : Nat) : FRef := ⟨R.DMA_CH_OWNER n, 31, 31⟩
def DMA_CH_OWNER_allowed (n : Nat) : FRef := ⟨R.DMA_CH_OWNER n, 18, 16⟩
def DMA_CH_OWNER_mid (n : Nat) : FRef := ⟨R.DMA_CH_OWNER n, 12, 0⟩
def DMA_CH_DONE_DESC_v (n : Nat) : FRef := ⟨R.DMA_CH_DONE_DESC n, 15, 0⟩
def EVC_BLK_CTL_lock : FRef := ⟨R.EVC_BLK_CTL, 31, 31⟩
def EVC_BLK_CTL_enable : FRef := ⟨R.EVC_BLK_CTL, 0, 0⟩
def EVC_BLK_STATUS_reason : FRef := ⟨R.EVC_BLK_STATUS, 31, 16⟩
def EVC_BLK_STATUS_checking : FRef := ⟨R.EVC_BLK_STATUS, 1, 1⟩
def EVC_BLK_STATUS_ready : FRef := ⟨R.EVC_BLK_STATUS, 0, 0⟩
def EVC_SRC_REASON_reason : FRef := ⟨R.EVC_SRC_REASON, 31, 16⟩
def EVC_SRC_REASON_source : FRef := ⟨R.EVC_SRC_REASON, 8, 0⟩
def EVC_CLAIM_v (t : Nat) : FRef := ⟨R.EVC_CLAIM t, 15, 0⟩
def EVC_TGT_CFG_idle (t : Nat) : FRef := ⟨R.EVC_TGT_CFG t, 31, 31⟩
def EVC_TGT_CFG_line (t : Nat) : FRef := ⟨R.EVC_TGT_CFG t, 30, 30⟩
def EVC_TGT_CFG_interval_ns (t : Nat) : FRef := ⟨R.EVC_TGT_CFG t, 19, 0⟩
def EVC_SRC_CTL_force (n : Nat) : FRef := ⟨R.EVC_SRC_CTL n, 31, 31⟩
def EVC_SRC_CTL_pending (n : Nat) : FRef := ⟨R.EVC_SRC_CTL n, 30, 30⟩
def EVC_SRC_CTL_enable (n : Nat) : FRef := ⟨R.EVC_SRC_CTL n, 0, 0⟩
def EVC_HOST_MOD_interval_us (i : Nat) : FRef := ⟨R.EVC_HOST_MOD i, 15, 0⟩
def BUOY_BLK_CTL_lock : FRef := ⟨R.BUOY_BLK_CTL, 31, 31⟩
def BUOY_BLK_CTL_enable : FRef := ⟨R.BUOY_BLK_CTL, 0, 0⟩
def BUOY_BLK_STATUS_reason : FRef := ⟨R.BUOY_BLK_STATUS, 31, 16⟩
def BUOY_BLK_STATUS_checking : FRef := ⟨R.BUOY_BLK_STATUS, 1, 1⟩
def BUOY_BLK_STATUS_ready : FRef := ⟨R.BUOY_BLK_STATUS, 0, 0⟩
def BUOY_FORCE_CLEAR_go : FRef := ⟨R.BUOY_FORCE_CLEAR, 31, 31⟩
def BUOY_FORCE_CLEAR_internal : FRef := ⟨R.BUOY_FORCE_CLEAR, 11, 11⟩
def BUOY_FORCE_CLEAR_channel : FRef := ⟨R.BUOY_FORCE_CLEAR, 10, 0⟩
def BUOY_BIND_valid (c : Nat) : FRef := ⟨R.BUOY_BIND c, 31, 31⟩
def BUOY_BIND_mid_b (c : Nat) : FRef := ⟨R.BUOY_BIND c, 28, 16⟩
def BUOY_BIND_mid_a (c : Nat) : FRef := ⟨R.BUOY_BIND c, 12, 0⟩
def INS_BLK_CTL_lock : FRef := ⟨R.INS_BLK_CTL, 31, 31⟩
def INS_BLK_CTL_enable : FRef := ⟨R.INS_BLK_CTL, 0, 0⟩
def INS_BLK_STATUS_reason : FRef := ⟨R.INS_BLK_STATUS, 31, 16⟩
def INS_BLK_STATUS_checking : FRef := ⟨R.INS_BLK_STATUS, 1, 1⟩
def INS_BLK_STATUS_ready : FRef := ⟨R.INS_BLK_STATUS, 0, 0⟩
def INS_MGR_ADMIN_BASE_LO_v : FRef := ⟨R.INS_MGR_ADMIN_BASE_LO, 31, 12⟩
def INS_MGR_ADMIN_CFG_enable : FRef := ⟨R.INS_MGR_ADMIN_CFG, 31, 31⟩
def INS_MGR_ADMIN_CFG_active : FRef := ⟨R.INS_MGR_ADMIN_CFG, 30, 30⟩
def INS_MGR_ADMIN_CFG_ring_size_log2 : FRef := ⟨R.INS_MGR_ADMIN_CFG, 23, 16⟩
def INS_MGR_ADMIN_CFG_reason : FRef := ⟨R.INS_MGR_ADMIN_CFG, 15, 0⟩
def INS_SEL_busy : FRef := ⟨R.INS_SEL, 31, 31⟩
def INS_SEL_iid : FRef := ⟨R.INS_SEL, 10, 0⟩
def MEM_BLK_CTL_lock : FRef := ⟨R.MEM_BLK_CTL, 31, 31⟩
def MEM_BLK_CTL_enable : FRef := ⟨R.MEM_BLK_CTL, 0, 0⟩
def MEM_BLK_STATUS_reason : FRef := ⟨R.MEM_BLK_STATUS, 31, 16⟩
def MEM_BLK_STATUS_checking : FRef := ⟨R.MEM_BLK_STATUS, 1, 1⟩
def MEM_BLK_STATUS_ready : FRef := ⟨R.MEM_BLK_STATUS, 0, 0⟩
def MEM_PART_CFG_ovf_gib : FRef := ⟨R.MEM_PART_CFG, 7, 0⟩
def MEM_SCRUB_CFG_enable : FRef := ⟨R.MEM_SCRUB_CFG, 31, 31⟩
def MEM_SCRUB_CFG_period_h : FRef := ⟨R.MEM_SCRUB_CFG, 7, 0⟩
def MEM_MRAM_PROT_v : FRef := ⟨R.MEM_MRAM_PROT, 7, 0⟩
def MEM_GRANT_valid (g : Nat) : FRef := ⟨R.MEM_GRANT g, 31, 31⟩
def MEM_GRANT_base (g : Nat) : FRef := ⟨R.MEM_GRANT g, 16, 0⟩
def MEM_GRANT_SIZE_size (g : Nat) : FRef := ⟨R.MEM_GRANT_SIZE g, 16, 0⟩
def PGR_BLK_CTL_lock : FRef := ⟨R.PGR_BLK_CTL, 31, 31⟩
def PGR_BLK_CTL_enable : FRef := ⟨R.PGR_BLK_CTL, 0, 0⟩
def PGR_BLK_STATUS_reason : FRef := ⟨R.PGR_BLK_STATUS, 31, 16⟩
def PGR_BLK_STATUS_checking : FRef := ⟨R.PGR_BLK_STATUS, 1, 1⟩
def PGR_BLK_STATUS_ready : FRef := ⟨R.PGR_BLK_STATUS, 0, 0⟩
def PGR_INTERNAL_SIZE_v : FRef := ⟨R.PGR_INTERNAL_SIZE, 21, 0⟩
def PGR_MGR_SPACE_v : FRef := ⟨R.PGR_MGR_SPACE, 21, 0⟩
def PGR_CACHE_CFG_free_target : FRef := ⟨R.PGR_CACHE_CFG, 28, 16⟩
def PGR_CACHE_CFG_unpinned_floor : FRef := ⟨R.PGR_CACHE_CFG, 12, 0⟩
def PGR_PARK_CFG_max_park_us : FRef := ⟨R.PGR_PARK_CFG, 31, 16⟩
def PGR_PARK_CFG_page_max : FRef := ⟨R.PGR_PARK_CFG, 10, 0⟩
def PGR_LPD_WMARK_high_pct : FRef := ⟨R.PGR_LPD_WMARK, 15, 8⟩
def PGR_LPD_WMARK_low_pct : FRef := ⟨R.PGR_LPD_WMARK, 7, 0⟩
def PGR_MIG_RATE_v : FRef := ⟨R.PGR_MIG_RATE, 15, 0⟩
def PGR_PARK_SSID_MAX_v : FRef := ⟨R.PGR_PARK_SSID_MAX, 16, 0⟩
def PGR_SSID_SEL_v : FRef := ⟨R.PGR_SSID_SEL, 15, 0⟩
def PGR_SSID_BASE_valid : FRef := ⟨R.PGR_SSID_BASE, 31, 31⟩
def PGR_SSID_BASE_base : FRef := ⟨R.PGR_SSID_BASE, 21, 0⟩
def PGR_SSID_SIZE_size : FRef := ⟨R.PGR_SSID_SIZE, 21, 0⟩
def PGR_FAULT_INFO_valid : FRef := ⟨R.PGR_FAULT_INFO, 31, 31⟩
def PGR_FAULT_INFO_kind : FRef := ⟨R.PGR_FAULT_INFO, 30, 28⟩
def PGR_FAULT_INFO_ssid : FRef := ⟨R.PGR_FAULT_INFO, 15, 0⟩
def PGR_DON_SIZE_valid (d : Nat) : FRef := ⟨R.PGR_DON_SIZE d, 31, 31⟩
def PGR_DON_SIZE_revoking (d : Nat) : FRef := ⟨R.PGR_DON_SIZE d, 30, 30⟩
def PGR_DON_SIZE_size (d : Nat) : FRef := ⟨R.PGR_DON_SIZE d, 17, 0⟩
def BPM_BLK_CTL_lock : FRef := ⟨R.BPM_BLK_CTL, 31, 31⟩
def BPM_BLK_CTL_enable : FRef := ⟨R.BPM_BLK_CTL, 0, 0⟩
def BPM_BLK_STATUS_reason : FRef := ⟨R.BPM_BLK_STATUS, 31, 16⟩
def BPM_BLK_STATUS_checking : FRef := ⟨R.BPM_BLK_STATUS, 1, 1⟩
def BPM_BLK_STATUS_ready : FRef := ⟨R.BPM_BLK_STATUS, 0, 0⟩
def BPM_COUNT_v (k : Nat) : FRef := ⟨R.BPM_COUNT k, 28, 0⟩
def BPM_FREE_v (k : Nat) : FRef := ⟨R.BPM_FREE k, 28, 0⟩
def BPM_BAD_PTR_INFO_valid : FRef := ⟨R.BPM_BAD_PTR_INFO, 31, 31⟩
def BPM_BAD_PTR_INFO_operation : FRef := ⟨R.BPM_BAD_PTR_INFO, 27, 24⟩
def BPM_BAD_PTR_INFO_cause : FRef := ⟨R.BPM_BAD_PTR_INFO, 19, 16⟩
def BPM_BAD_PTR_INFO_mid : FRef := ⟨R.BPM_BAD_PTR_INFO, 12, 0⟩
def BPM_REQ_SEL_v : FRef := ⟨R.BPM_REQ_SEL, 11, 0⟩
def BPM_REQ_USED_v : FRef := ⟨R.BPM_REQ_USED, 28, 0⟩
def BPM_REQ_OVF_USED_v : FRef := ⟨R.BPM_REQ_OVF_USED, 28, 0⟩
def PRS_BLK_CTL_lock : FRef := ⟨R.PRS_BLK_CTL, 31, 31⟩
def PRS_BLK_CTL_enable : FRef := ⟨R.PRS_BLK_CTL, 0, 0⟩
def PRS_BLK_STATUS_reason : FRef := ⟨R.PRS_BLK_STATUS, 31, 16⟩
def PRS_BLK_STATUS_checking : FRef := ⟨R.PRS_BLK_STATUS, 1, 1⟩
def PRS_BLK_STATUS_ready : FRef := ⟨R.PRS_BLK_STATUS, 0, 0⟩
def PRS_GRAPH_STATUS_busy : FRef := ⟨R.PRS_GRAPH_STATUS, 31, 31⟩
def PRS_GRAPH_STATUS_active_bank : FRef := ⟨R.PRS_GRAPH_STATUS, 16, 16⟩
def PRS_GRAPH_STATUS_nodes : FRef := ⟨R.PRS_GRAPH_STATUS, 7, 0⟩
def PRS_FAIL_INFO_valid : FRef := ⟨R.PRS_FAIL_INFO, 31, 31⟩
def PRS_FAIL_INFO_code : FRef := ⟨R.PRS_FAIL_INFO, 26, 24⟩
def PRS_FAIL_INFO_source : FRef := ⟨R.PRS_FAIL_INFO, 19, 16⟩
def PRS_FAIL_INFO_node : FRef := ⟨R.PRS_FAIL_INFO, 15, 8⟩
def PRS_FAIL_INFO_offset : FRef := ⟨R.PRS_FAIL_INFO, 7, 0⟩
def CLS_BLK_CTL_lock : FRef := ⟨R.CLS_BLK_CTL, 31, 31⟩
def CLS_BLK_CTL_enable : FRef := ⟨R.CLS_BLK_CTL, 0, 0⟩
def CLS_BLK_STATUS_reason : FRef := ⟨R.CLS_BLK_STATUS, 31, 16⟩
def CLS_BLK_STATUS_checking : FRef := ⟨R.CLS_BLK_STATUS, 1, 1⟩
def CLS_BLK_STATUS_ready : FRef := ⟨R.CLS_BLK_STATUS, 0, 0⟩
def CLS_PARITY_INFO_valid : FRef := ⟨R.CLS_PARITY_INFO, 31, 31⟩
def CLS_PARITY_INFO_slot : FRef := ⟨R.CLS_PARITY_INFO, 15, 0⟩
def CLS_INST_SEL_v : FRef := ⟨R.CLS_INST_SEL, 10, 0⟩
def CLS_INST_EXC_v : FRef := ⟨R.CLS_INST_EXC, 15, 0⟩
def TBL_BLK_CTL_lock : FRef := ⟨R.TBL_BLK_CTL, 31, 31⟩
def TBL_BLK_CTL_enable : FRef := ⟨R.TBL_BLK_CTL, 0, 0⟩
def TBL_BLK_STATUS_reason : FRef := ⟨R.TBL_BLK_STATUS, 31, 16⟩
def TBL_BLK_STATUS_checking : FRef := ⟨R.TBL_BLK_STATUS, 1, 1⟩
def TBL_BLK_STATUS_ready : FRef := ⟨R.TBL_BLK_STATUS, 0, 0⟩
def TBL_SEL_busy : FRef := ⟨R.TBL_SEL, 31, 31⟩
def TBL_SEL_table : FRef := ⟨R.TBL_SEL, 7, 0⟩
def TBL_PARITY_INFO_valid : FRef := ⟨R.TBL_PARITY_INFO, 31, 31⟩
def TBL_PARITY_INFO_lpm : FRef := ⟨R.TBL_PARITY_INFO, 30, 30⟩
def TBL_PARITY_INFO_id : FRef := ⟨R.TBL_PARITY_INFO, 11, 0⟩
def TBL_VRF_SEL_v : FRef := ⟨R.TBL_VRF_SEL, 11, 0⟩
def TBL_VRF_V4_enabled : FRef := ⟨R.TBL_VRF_V4, 31, 31⟩
def TBL_VRF_V4_count : FRef := ⟨R.TBL_VRF_V4, 21, 0⟩
def TBL_VRF_V6_count : FRef := ⟨R.TBL_VRF_V6, 20, 0⟩
def SWX_BLK_CTL_lock : FRef := ⟨R.SWX_BLK_CTL, 31, 31⟩
def SWX_BLK_CTL_enable : FRef := ⟨R.SWX_BLK_CTL, 0, 0⟩
def SWX_BLK_STATUS_reason : FRef := ⟨R.SWX_BLK_STATUS, 31, 16⟩
def SWX_BLK_STATUS_checking : FRef := ⟨R.SWX_BLK_STATUS, 1, 1⟩
def SWX_BLK_STATUS_ready : FRef := ⟨R.SWX_BLK_STATUS, 0, 0⟩
def SWX_CNT_SEL_busy : FRef := ⟨R.SWX_CNT_SEL, 31, 31⟩
def SWX_CNT_SEL_clear : FRef := ⟨R.SWX_CNT_SEL, 30, 30⟩
def SWX_CNT_SEL_counter : FRef := ⟨R.SWX_CNT_SEL, 17, 0⟩
def SWX_POL_SEL_v : FRef := ⟨R.SWX_POL_SEL, 13, 0⟩
def CLV_BLK_CTL_lock : FRef := ⟨R.CLV_BLK_CTL, 31, 31⟩
def CLV_BLK_CTL_enable : FRef := ⟨R.CLV_BLK_CTL, 0, 0⟩
def CLV_BLK_STATUS_reason : FRef := ⟨R.CLV_BLK_STATUS, 31, 16⟩
def CLV_BLK_STATUS_checking : FRef := ⟨R.CLV_BLK_STATUS, 1, 1⟩
def CLV_BLK_STATUS_ready : FRef := ⟨R.CLV_BLK_STATUS, 0, 0⟩
def CLV_CL_STATUS_loaded (k : Nat) : FRef := ⟨R.CLV_CL_STATUS k, 31, 31⟩
def CLV_CL_STATUS_wide (k : Nat) : FRef := ⟨R.CLV_CL_STATUS k, 30, 30⟩
def CLV_CL_STATUS_swap_draining (k : Nat) : FRef := ⟨R.CLV_CL_STATUS k, 29, 29⟩
def CLV_CL_STATUS_active_bank (k : Nat) : FRef := ⟨R.CLV_CL_STATUS k, 28, 28⟩
def CLV_CL_STATUS_free_threads (k : Nat) : FRef := ⟨R.CLV_CL_STATUS k, 14, 8⟩
def CLV_CL_STATUS_retired_cores (k : Nat) : FRef := ⟨R.CLV_CL_STATUS k, 7, 0⟩
def CLV_CL_CTL_sup_restart (k : Nat) : FRef := ⟨R.CLV_CL_CTL k, 0, 0⟩
def CLV_WDOG_CTL_enable (k : Nat) : FRef := ⟨R.CLV_WDOG_CTL k, 31, 31⟩
def CLV_WDOG_CTL_expired (k : Nat) : FRef := ⟨R.CLV_WDOG_CTL k, 30, 30⟩
def CLV_WDOG_CTL_reason (k : Nat) : FRef := ⟨R.CLV_WDOG_CTL k, 29, 16⟩
def CLV_WDOG_CTL_period_us (k : Nat) : FRef := ⟨R.CLV_WDOG_CTL k, 15, 0⟩
def CLV_SSID_per_frame_ssid (k : Nat) : FRef := ⟨R.CLV_SSID k, 31, 31⟩
def CLV_SSID_ssid (k : Nat) : FRef := ⟨R.CLV_SSID k, 10, 0⟩
def CLV_DISPATCH_DEPTH_v (k : Nat) : FRef := ⟨R.CLV_DISPATCH_DEPTH k, 12, 0⟩
def PSQ_BLK_CTL_lock : FRef := ⟨R.PSQ_BLK_CTL, 31, 31⟩
def PSQ_BLK_CTL_enable : FRef := ⟨R.PSQ_BLK_CTL, 0, 0⟩
def PSQ_BLK_STATUS_reason : FRef := ⟨R.PSQ_BLK_STATUS, 31, 16⟩
def PSQ_BLK_STATUS_checking : FRef := ⟨R.PSQ_BLK_STATUS, 1, 1⟩
def PSQ_BLK_STATUS_ready : FRef := ⟨R.PSQ_BLK_STATUS, 0, 0⟩
def PSQ_GROUP_STATUS_swap_running (g : Nat) : FRef := ⟨R.PSQ_GROUP_STATUS g, 31, 31⟩
def PSQ_GROUP_STATUS_started (g : Nat) : FRef := ⟨R.PSQ_GROUP_STATUS g, 30, 30⟩
def PSQ_GROUP_STATUS_b_staged (g : Nat) : FRef := ⟨R.PSQ_GROUP_STATUS g, 17, 17⟩
def PSQ_GROUP_STATUS_a_staged (g : Nat) : FRef := ⟨R.PSQ_GROUP_STATUS g, 16, 16⟩
def PSQ_GROUP_STATUS_active_bank (g : Nat) : FRef := ⟨R.PSQ_GROUP_STATUS g, 8, 8⟩
def PSQ_GROUP_STATUS_retired (g : Nat) : FRef := ⟨R.PSQ_GROUP_STATUS g, 7, 0⟩
def PSQ_SEQ_STATUS_busy (s : Nat) : FRef := ⟨R.PSQ_SEQ_STATUS s, 31, 31⟩
def PSQ_SEQ_STATUS_slots (s : Nat) : FRef := ⟨R.PSQ_SEQ_STATUS s, 30, 28⟩
def PSQ_SEQ_STATUS_retired (s : Nat) : FRef := ⟨R.PSQ_SEQ_STATUS s, 27, 27⟩
def PSQ_SEQ_STATUS_queued (s : Nat) : FRef := ⟨R.PSQ_SEQ_STATUS s, 26, 16⟩
def PSQ_SEQ_STATUS_upc (s : Nat) : FRef := ⟨R.PSQ_SEQ_STATUS s, 13, 0⟩
def PSQ_TRAP_CTL_go (s : Nat) : FRef := ⟨R.PSQ_TRAP_CTL s, 31, 31⟩
def PSQ_TRAP_CTL_action (s : Nat) : FRef := ⟨R.PSQ_TRAP_CTL s, 4, 4⟩
def PSQ_TRAP_CTL_slot (s : Nat) : FRef := ⟨R.PSQ_TRAP_CTL s, 1, 0⟩
def SAF_BLK_CTL_lock : FRef := ⟨R.SAF_BLK_CTL, 31, 31⟩
def SAF_BLK_CTL_enable : FRef := ⟨R.SAF_BLK_CTL, 0, 0⟩
def SAF_BLK_STATUS_reason : FRef := ⟨R.SAF_BLK_STATUS, 31, 16⟩
def SAF_BLK_STATUS_checking : FRef := ⟨R.SAF_BLK_STATUS, 1, 1⟩
def SAF_BLK_STATUS_ready : FRef := ⟨R.SAF_BLK_STATUS, 0, 0⟩
def SAF_ASSOC_SEL_busy : FRef := ⟨R.SAF_ASSOC_SEL, 31, 31⟩
def SAF_ASSOC_SEL_assoc : FRef := ⟨R.SAF_ASSOC_SEL, 19, 0⟩
def FRS_BLK_CTL_lock : FRef := ⟨R.FRS_BLK_CTL, 31, 31⟩
def FRS_BLK_CTL_enable : FRef := ⟨R.FRS_BLK_CTL, 0, 0⟩
def FRS_BLK_STATUS_reason : FRef := ⟨R.FRS_BLK_STATUS, 31, 16⟩
def FRS_BLK_STATUS_checking : FRef := ⟨R.FRS_BLK_STATUS, 1, 1⟩
def FRS_BLK_STATUS_ready : FRef := ⟨R.FRS_BLK_STATUS, 0, 0⟩
def FRS_NODE_SEL_busy : FRef := ⟨R.FRS_NODE_SEL, 31, 31⟩
def FRS_NODE_SEL_node : FRef := ⟨R.FRS_NODE_SEL, 15, 0⟩
def FRS_INST_SEL_v : FRef := ⟨R.FRS_INST_SEL, 10, 0⟩
def FRS_INST_DEFAULT_v : FRef := ⟨R.FRS_INST_DEFAULT, 15, 0⟩
def FRS_GCL_STATUS_enabled (p : Nat) : FRef := ⟨R.FRS_GCL_STATUS p, 31, 31⟩
def FRS_GCL_STATUS_switch_pending (p : Nat) : FRef := ⟨R.FRS_GCL_STATUS p, 30, 30⟩
def FRS_GCL_STATUS_claim_held (p : Nat) : FRef := ⟨R.FRS_GCL_STATUS p, 29, 29⟩
def FRS_GCL_STATUS_count (p : Nat) : FRef := ⟨R.FRS_GCL_STATUS p, 26, 16⟩
def FRS_GCL_STATUS_entry (p : Nat) : FRef := ⟨R.FRS_GCL_STATUS p, 9, 0⟩
def MAC_BLK_CTL_lock : FRef := ⟨R.MAC_BLK_CTL, 31, 31⟩
def MAC_BLK_CTL_enable : FRef := ⟨R.MAC_BLK_CTL, 0, 0⟩
def MAC_BLK_STATUS_reason : FRef := ⟨R.MAC_BLK_STATUS, 31, 16⟩
def MAC_BLK_STATUS_checking : FRef := ⟨R.MAC_BLK_STATUS, 1, 1⟩
def MAC_BLK_STATUS_ready : FRef := ⟨R.MAC_BLK_STATUS, 0, 0⟩
def MAC_MODE_busy : FRef := ⟨R.MAC_MODE, 31, 31⟩
def MAC_MODE_ports100 : FRef := ⟨R.MAC_MODE, 15, 8⟩
def MAC_MODE_mode : FRef := ⟨R.MAC_MODE, 2, 0⟩
def MAC_PORT_STATUS_link_up (p : Nat) : FRef := ⟨R.MAC_PORT_STATUS p, 31, 31⟩
def MAC_PORT_STATUS_degraded (p : Nat) : FRef := ⟨R.MAC_PORT_STATUS p, 30, 30⟩
def MAC_PORT_STATUS_link_changed (p : Nat) : FRef := ⟨R.MAC_PORT_STATUS p, 29, 29⟩
def MAC_PORT_STATUS_width (p : Nat) : FRef := ⟨R.MAC_PORT_STATUS p, 19, 16⟩
def MAC_PORT_STATUS_lanes (p : Nat) : FRef := ⟨R.MAC_PORT_STATUS p, 15, 8⟩
def MAC_PORT_STATUS_rate (p : Nat) : FRef := ⟨R.MAC_PORT_STATUS p, 7, 0⟩
def MAC_FC_STATE_xoff_sent (p : Nat) : FRef := ⟨R.MAC_FC_STATE p, 15, 8⟩
def MAC_FC_STATE_stopped (p : Nat) : FRef := ⟨R.MAC_FC_STATE p, 7, 0⟩
def MGP_BLK_CTL_lock : FRef := ⟨R.MGP_BLK_CTL, 31, 31⟩
def MGP_BLK_CTL_enable : FRef := ⟨R.MGP_BLK_CTL, 0, 0⟩
def MGP_BLK_STATUS_reason : FRef := ⟨R.MGP_BLK_STATUS, 31, 16⟩
def MGP_BLK_STATUS_checking : FRef := ⟨R.MGP_BLK_STATUS, 1, 1⟩
def MGP_BLK_STATUS_ready : FRef := ⟨R.MGP_BLK_STATUS, 0, 0⟩
def MGP_CFG_force : FRef := ⟨R.MGP_CFG, 31, 31⟩
def MGP_CFG_speed : FRef := ⟨R.MGP_CFG, 5, 4⟩
def MGP_CFG_full_duplex : FRef := ⟨R.MGP_CFG, 0, 0⟩
def MGP_STATUS_link_up : FRef := ⟨R.MGP_STATUS, 31, 31⟩
def MGP_STATUS_speed : FRef := ⟨R.MGP_STATUS, 5, 4⟩
def MGP_STATUS_full_duplex : FRef := ⟨R.MGP_STATUS, 0, 0⟩
def MGP_SMB_CFG_fast : FRef := ⟨R.MGP_SMB_CFG, 8, 8⟩
def MGP_SMB_CFG_addr : FRef := ⟨R.MGP_SMB_CFG, 6, 0⟩
def TIM_BLK_CTL_lock : FRef := ⟨R.TIM_BLK_CTL, 31, 31⟩
def TIM_BLK_CTL_enable : FRef := ⟨R.TIM_BLK_CTL, 0, 0⟩
def TIM_BLK_STATUS_reason : FRef := ⟨R.TIM_BLK_STATUS, 31, 16⟩
def TIM_BLK_STATUS_checking : FRef := ⟨R.TIM_BLK_STATUS, 1, 1⟩
def TIM_BLK_STATUS_ready : FRef := ⟨R.TIM_BLK_STATUS, 0, 0⟩
def TIM_STATUS_time_valid : FRef := ⟨R.TIM_STATUS, 31, 31⟩
def TIM_STATUS_cal_nominal : FRef := ⟨R.TIM_STATUS, 30, 30⟩
def TIM_STATUS_slewing : FRef := ⟨R.TIM_STATUS, 29, 29⟩
def TIM_STATUS_daymark_valid : FRef := ⟨R.TIM_STATUS, 28, 28⟩
def TIM_SNAP_CTL_busy : FRef := ⟨R.TIM_SNAP_CTL, 31, 31⟩
def TIM_SNAP_CTL_capture : FRef := ⟨R.TIM_SNAP_CTL, 0, 0⟩
def TIM_SNAP_SEC_HI_v : FRef := ⟨R.TIM_SNAP_SEC_HI, 15, 0⟩
def TIM_SNAP_FRAC_v : FRef := ⟨R.TIM_SNAP_FRAC, 7, 0⟩
def TIM_CAL_STATUS_outcome : FRef := ⟨R.TIM_CAL_STATUS, 31, 29⟩
def TIM_CAL_STATUS_valid : FRef := ⟨R.TIM_CAL_STATUS, 26, 24⟩
def TIM_CAL_STATUS_rewritten : FRef := ⟨R.TIM_CAL_STATUS, 22, 20⟩
def TIM_CAL_STATUS_chosen : FRef := ⟨R.TIM_CAL_STATUS, 17, 16⟩
def TIM_PORT_CFG_one_step_sync (p : Nat) : FRef := ⟨R.TIM_PORT_CFG p, 0, 0⟩
def TIM_PPS_STATUS_enabled : FRef := ⟨R.TIM_PPS_STATUS, 31, 31⟩
def TIM_PPS_STATUS_period_ms : FRef := ⟨R.TIM_PPS_STATUS, 9, 0⟩
def TIM_IN_CFG_valid : FRef := ⟨R.TIM_IN_CFG, 31, 31⟩
def TIM_IN_CFG_overrun : FRef := ⟨R.TIM_IN_CFG, 30, 30⟩
def TIM_IN_CFG_falling : FRef := ⟨R.TIM_IN_CFG, 1, 1⟩
def TIM_IN_CFG_enable : FRef := ⟨R.TIM_IN_CFG, 0, 0⟩
def TIM_IN_SEC_HI_v : FRef := ⟨R.TIM_IN_SEC_HI, 15, 0⟩
def TIM_IN_FRAC_v : FRef := ⟨R.TIM_IN_FRAC, 7, 0⟩
def TIM_PTM_CFG_valid : FRef := ⟨R.TIM_PTM_CFG, 31, 31⟩
def TIM_PTM_CFG_enable : FRef := ⟨R.TIM_PTM_CFG, 16, 16⟩
def TIM_PTM_CFG_period_ms : FRef := ⟨R.TIM_PTM_CFG, 9, 0⟩
def TIM_PTM_DEV_SEC_HI_v : FRef := ⟨R.TIM_PTM_DEV_SEC_HI, 15, 0⟩
def TIM_PTM_DEV_FRAC_v : FRef := ⟨R.TIM_PTM_DEV_FRAC, 7, 0⟩
def TIM_SIDE_SEL_busy : FRef := ⟨R.TIM_SIDE_SEL, 31, 31⟩
def TIM_SIDE_SEL_index : FRef := ⟨R.TIM_SIDE_SEL, 15, 0⟩
def TIM_DM_SEC_HI_v : FRef := ⟨R.TIM_DM_SEC_HI, 15, 0⟩
def TIM_DM_SUB_v : FRef := ⟨R.TIM_DM_SUB, 14, 0⟩
def TIM_DM_CFG_follow : FRef := ⟨R.TIM_DM_CFG, 0, 0⟩
def TIM_DM_STATUS_daymark_valid : FRef := ⟨R.TIM_DM_STATUS, 31, 31⟩
def TIM_DM_STATUS_vbat_lost : FRef := ⟨R.TIM_DM_STATUS, 30, 30⟩
def TIM_DM_STATUS_alarm_pending : FRef := ⟨R.TIM_DM_STATUS, 29, 29⟩
def TIM_DM_STATUS_alarm_enabled : FRef := ⟨R.TIM_DM_STATUS, 28, 28⟩
def LAN_BLK_CTL_lock : FRef := ⟨R.LAN_BLK_CTL, 31, 31⟩
def LAN_BLK_CTL_enable : FRef := ⟨R.LAN_BLK_CTL, 0, 0⟩
def LAN_BLK_STATUS_reason : FRef := ⟨R.LAN_BLK_STATUS, 31, 16⟩
def LAN_BLK_STATUS_checking : FRef := ⟨R.LAN_BLK_STATUS, 1, 1⟩
def LAN_BLK_STATUS_ready : FRef := ⟨R.LAN_BLK_STATUS, 0, 0⟩
def LAN_ALLOWANCE_v : FRef := ⟨R.LAN_ALLOWANCE, 8, 0⟩
def LAN_CAP_SUM_v : FRef := ⟨R.LAN_CAP_SUM, 8, 0⟩
def LAN_REGION_STATUS_state (r : Nat) : FRef := ⟨R.LAN_REGION_STATUS r, 31, 28⟩
def LAN_REGION_STATUS_reason (r : Nat) : FRef := ⟨R.LAN_REGION_STATUS r, 27, 12⟩
def LAN_REGION_STATUS_renter (r : Nat) : FRef := ⟨R.LAN_REGION_STATUS r, 10, 0⟩
def LAN_POWER_cap (r : Nat) : FRef := ⟨R.LAN_POWER r, 31, 26⟩
def LAN_POWER_stage (r : Nat) : FRef := ⟨R.LAN_POWER r, 25, 24⟩
def LAN_POWER_clock_mhz (r : Nat) : FRef := ⟨R.LAN_POWER r, 23, 14⟩
def LAN_POWER_avg (r : Nat) : FRef := ⟨R.LAN_POWER r, 11, 0⟩
def LAN_RANGE_v (r : Nat) : FRef := ⟨R.LAN_RANGE r, 21, 0⟩
def SPR_BLK_CTL_lock : FRef := ⟨R.SPR_BLK_CTL, 31, 31⟩
def SPR_BLK_CTL_enable : FRef := ⟨R.SPR_BLK_CTL, 0, 0⟩
def SPR_BLK_STATUS_reason : FRef := ⟨R.SPR_BLK_STATUS, 31, 16⟩
def SPR_BLK_STATUS_checking : FRef := ⟨R.SPR_BLK_STATUS, 1, 1⟩
def SPR_BLK_STATUS_ready : FRef := ⟨R.SPR_BLK_STATUS, 0, 0⟩
def SPR_STATUS_joined : FRef := ⟨R.SPR_STATUS, 31, 31⟩
def SPR_STATUS_time_root : FRef := ⟨R.SPR_STATUS, 30, 30⟩
def SPR_STATUS_time_follow : FRef := ⟨R.SPR_STATUS, 29, 29⟩
def SPR_STATUS_holdover : FRef := ⟨R.SPR_STATUS, 28, 28⟩
def SPR_STATUS_distance : FRef := ⟨R.SPR_STATUS, 27, 24⟩
def SPR_STATUS_address : FRef := ⟨R.SPR_STATUS, 11, 0⟩
def SPR_EPOCH_previous : FRef := ⟨R.SPR_EPOCH, 17, 17⟩
def SPR_EPOCH_next : FRef := ⟨R.SPR_EPOCH, 16, 16⟩
def SPR_EPOCH_current : FRef := ⟨R.SPR_EPOCH, 15, 0⟩
def SPR_CFG_req_timeout_us : FRef := ⟨R.SPR_CFG, 15, 0⟩
def SPR_PORT_STATUS_link_up (p : Nat) : FRef := ⟨R.SPR_PORT_STATUS p, 31, 31⟩
def SPR_PORT_STATUS_foreign (p : Nat) : FRef := ⟨R.SPR_PORT_STATUS p, 30, 30⟩
def SPR_PORT_STATUS_degraded (p : Nat) : FRef := ⟨R.SPR_PORT_STATUS p, 29, 29⟩
def SPR_PORT_STATUS_enabled (p : Nat) : FRef := ⟨R.SPR_PORT_STATUS p, 28, 28⟩
def SPR_PORT_STATUS_nbr_address (p : Nat) : FRef := ⟨R.SPR_PORT_STATUS p, 23, 12⟩
def SPR_PORT_STATUS_nbr_port (p : Nat) : FRef := ⟨R.SPR_PORT_STATUS p, 11, 8⟩
def SPR_PORT_STATUS_nbr_distance (p : Nat) : FRef := ⟨R.SPR_PORT_STATUS p, 3, 0⟩
def SPR_CHAN_MAP_valid (c : Nat) : FRef := ⟨R.SPR_CHAN_MAP c, 31, 31⟩
def SPR_CHAN_MAP_request_mode (c : Nat) : FRef := ⟨R.SPR_CHAN_MAP c, 30, 30⟩
def SPR_CHAN_MAP_address (c : Nat) : FRef := ⟨R.SPR_CHAN_MAP c, 23, 12⟩
def SPR_CHAN_MAP_remote_chan (c : Nat) : FRef := ⟨R.SPR_CHAN_MAP c, 5, 0⟩
def SPR_CHAN_BASE_base (c : Nat) : FRef := ⟨R.SPR_CHAN_BASE c, 21, 0⟩
def RAS_BLK_CTL_lock : FRef := ⟨R.RAS_BLK_CTL, 31, 31⟩
def RAS_BLK_CTL_enable : FRef := ⟨R.RAS_BLK_CTL, 0, 0⟩
def RAS_BLK_STATUS_reason : FRef := ⟨R.RAS_BLK_STATUS, 31, 16⟩
def RAS_BLK_STATUS_checking : FRef := ⟨R.RAS_BLK_STATUS, 1, 1⟩
def RAS_BLK_STATUS_ready : FRef := ⟨R.RAS_BLK_STATUS, 0, 0⟩
def RAS_FOGHORN_sounding : FRef := ⟨R.RAS_FOGHORN, 31, 31⟩
def RAS_FOGHORN_power_thermal : FRef := ⟨R.RAS_FOGHORN, 4, 4⟩
def RAS_FOGHORN_takeover : FRef := ⟨R.RAS_FOGHORN, 3, 3⟩
def RAS_FOGHORN_device_fatal : FRef := ⟨R.RAS_FOGHORN, 2, 2⟩
def RAS_FOGHORN_limit_hold : FRef := ⟨R.RAS_FOGHORN, 1, 1⟩
def RAS_FOGHORN_retirement : FRef := ⟨R.RAS_FOGHORN, 0, 0⟩
def RAS_HB_CFG_timeout_ms : FRef := ⟨R.RAS_HB_CFG, 9, 0⟩
def RAS_CNT_SEL_busy : FRef := ⟨R.RAS_CNT_SEL, 31, 31⟩
def RAS_CNT_SEL_resource : FRef := ⟨R.RAS_CNT_SEL, 15, 0⟩
def RAS_CNT_VALUE_retired : FRef := ⟨R.RAS_CNT_VALUE, 31, 31⟩
def RAS_CNT_VALUE_retiring : FRef := ⟨R.RAS_CNT_VALUE, 30, 30⟩
def RAS_CNT_VALUE_under_test : FRef := ⟨R.RAS_CNT_VALUE, 29, 29⟩
def RAS_CNT_VALUE_limit_hold : FRef := ⟨R.RAS_CNT_VALUE, 28, 28⟩
def RAS_CNT_VALUE_counter : FRef := ⟨R.RAS_CNT_VALUE, 15, 0⟩
def RAS_KIND_CFG_auto_retire (k : Nat) : FRef := ⟨R.RAS_KIND_CFG k, 31, 31⟩
def RAS_KIND_CFG_warn_pct (k : Nat) : FRef := ⟨R.RAS_KIND_CFG k, 30, 24⟩
def RAS_KIND_CFG_leak_s (k : Nat) : FRef := ⟨R.RAS_KIND_CFG k, 23, 16⟩
def RAS_KIND_CFG_threshold (k : Nat) : FRef := ⟨R.RAS_KIND_CFG k, 15, 0⟩
def RAS_RET_MISC_ports : FRef := ⟨R.RAS_RET_MISC, 23, 20⟩
def RAS_RET_MISC_pairs : FRef := ⟨R.RAS_RET_MISC, 17, 16⟩
def RAS_RET_MISC_regions : FRef := ⟨R.RAS_RET_MISC, 15, 0⟩
def TST_BLK_CTL_lock : FRef := ⟨R.TST_BLK_CTL, 31, 31⟩
def TST_BLK_CTL_enable : FRef := ⟨R.TST_BLK_CTL, 0, 0⟩
def TST_BLK_STATUS_reason : FRef := ⟨R.TST_BLK_STATUS, 31, 16⟩
def TST_BLK_STATUS_checking : FRef := ⟨R.TST_BLK_STATUS, 1, 1⟩
def TST_BLK_STATUS_ready : FRef := ⟨R.TST_BLK_STATUS, 0, 0⟩
def TST_DBG_CFG_level : FRef := ⟨R.TST_DBG_CFG, 1, 0⟩
def TST_DBG_STATUS_selected : FRef := ⟨R.TST_DBG_STATUS, 31, 31⟩
def TST_DBG_STATUS_fused_min : FRef := ⟨R.TST_DBG_STATUS, 3, 2⟩
def TST_DBG_STATUS_level : FRef := ⟨R.TST_DBG_STATUS, 1, 0⟩
def TST_CLV_TRACE_PTR_wrapped (k : Nat) : FRef := ⟨R.TST_CLV_TRACE_PTR k, 31, 31⟩
def TST_CLV_TRACE_PTR_next (k : Nat) : FRef := ⟨R.TST_CLV_TRACE_PTR k, 10, 0⟩
def TST_CLV_REG_SEL_cluster : FRef := ⟨R.TST_CLV_REG_SEL, 19, 16⟩
def TST_CLV_REG_SEL_thread : FRef := ⟨R.TST_CLV_REG_SEL, 14, 8⟩
def TST_CLV_REG_SEL_reg : FRef := ⟨R.TST_CLV_REG_SEL, 5, 0⟩
def TST_LANE_CTL_gen_en (n : Nat) : FRef := ⟨R.TST_LANE_CTL n, 31, 31⟩
def TST_LANE_CTL_chk_en (n : Nat) : FRef := ⟨R.TST_LANE_CTL n, 30, 30⟩
def TST_LANE_CTL_clear (n : Nat) : FRef := ⟨R.TST_LANE_CTL n, 29, 29⟩
def TST_LANE_CTL_invert (n : Nat) : FRef := ⟨R.TST_LANE_CTL n, 28, 28⟩
def TST_LANE_CTL_loopback (n : Nat) : FRef := ⟨R.TST_LANE_CTL n, 27, 26⟩
def TST_LANE_CTL_gray (n : Nat) : FRef := ⟨R.TST_LANE_CTL n, 25, 25⟩
def TST_LANE_CTL_pattern (n : Nat) : FRef := ⟨R.TST_LANE_CTL n, 23, 20⟩
def TST_LANE_CTL_duration_ms (n : Nat) : FRef := ⟨R.TST_LANE_CTL n, 19, 0⟩
def TST_LANE_STATUS_reason (n : Nat) : FRef := ⟨R.TST_LANE_STATUS n, 31, 16⟩
def TST_LANE_STATUS_done (n : Nat) : FRef := ⟨R.TST_LANE_STATUS n, 4, 4⟩
def TST_LANE_STATUS_counting (n : Nat) : FRef := ⟨R.TST_LANE_STATUS n, 3, 3⟩
def TST_LANE_STATUS_lock (n : Nat) : FRef := ⟨R.TST_LANE_STATUS n, 2, 2⟩
def TST_LANE_STATUS_under_test (n : Nat) : FRef := ⟨R.TST_LANE_STATUS n, 0, 0⟩
def PWR_BLK_CTL_lock : FRef := ⟨R.PWR_BLK_CTL, 31, 31⟩
def PWR_BLK_CTL_enable : FRef := ⟨R.PWR_BLK_CTL, 0, 0⟩
def PWR_BLK_STATUS_reason : FRef := ⟨R.PWR_BLK_STATUS, 31, 16⟩
def PWR_BLK_STATUS_checking : FRef := ⟨R.PWR_BLK_STATUS, 1, 1⟩
def PWR_BLK_STATUS_ready : FRef := ⟨R.PWR_BLK_STATUS, 0, 0⟩
def PWR_STATUS_main_good : FRef := ⟨R.PWR_STATUS, 31, 31⟩
def PWR_STATUS_aux_good : FRef := ⟨R.PWR_STATUS, 30, 30⟩
def PWR_STATUS_seq_fault : FRef := ⟨R.PWR_STATUS, 29, 29⟩
def PWR_STATUS_throttled : FRef := ⟨R.PWR_STATUS, 28, 28⟩
def PWR_STATUS_tripped : FRef := ⟨R.PWR_STATUS, 27, 27⟩
def PWR_STATUS_vbat_low : FRef := ⟨R.PWR_STATUS, 26, 26⟩
def PWR_STATUS_rails : FRef := ⟨R.PWR_STATUS, 15, 0⟩
def PWR_STRAPS_mgp_dis : FRef := ⟨R.PWR_STRAPS, 3, 3⟩
def PWR_STRAPS_retain_n : FRef := ⟨R.PWR_STRAPS, 2, 2⟩
def PWR_STRAPS_boot : FRef := ⟨R.PWR_STRAPS, 1, 0⟩
def PWR_THERM_CFG_throttle_c : FRef := ⟨R.PWR_THERM_CFG, 15, 8⟩
def PWR_THERM_CFG_warn_c : FRef := ⟨R.PWR_THERM_CFG, 7, 0⟩
def PWR_LIMIT_limit_w : FRef := ⟨R.PWR_LIMIT, 8, 0⟩
def PWR_TOTAL_v : FRef := ⟨R.PWR_TOTAL, 15, 0⟩
def PWR_VBAT_v : FRef := ⟨R.PWR_VBAT, 11, 0⟩
def PWR_RAIL_in_tolerance (k : Nat) : FRef := ⟨R.PWR_RAIL k, 31, 31⟩
def PWR_RAIL_current (k : Nat) : FRef := ⟨R.PWR_RAIL k, 27, 16⟩
def PWR_RAIL_voltage (k : Nat) : FRef := ⟨R.PWR_RAIL k, 11, 0⟩
def PWR_TEMP_v (s : Nat) : FRef := ⟨R.PWR_TEMP s, 15, 0⟩
def DNP_BLK_CTL_lock : FRef := ⟨R.DNP_BLK_CTL, 31, 31⟩
def DNP_BLK_CTL_enable : FRef := ⟨R.DNP_BLK_CTL, 0, 0⟩
def DNP_BLK_STATUS_reason : FRef := ⟨R.DNP_BLK_STATUS, 31, 16⟩
def DNP_BLK_STATUS_checking : FRef := ⟨R.DNP_BLK_STATUS, 1, 1⟩
def DNP_BLK_STATUS_ready : FRef := ⟨R.DNP_BLK_STATUS, 0, 0⟩
def DNP_SLOT_CTL_pwr_ind (p : Nat) : FRef := ⟨R.DNP_SLOT_CTL p, 10, 9⟩
def DNP_SLOT_CTL_attn_ind (p : Nat) : FRef := ⟨R.DNP_SLOT_CTL p, 8, 7⟩
def DNP_SLOT_CTL_power_on (p : Nat) : FRef := ⟨R.DNP_SLOT_CTL p, 6, 6⟩
def DNP_SLOT_CTL_presence_int_en (p : Nat) : FRef := ⟨R.DNP_SLOT_CTL p, 3, 3⟩
def DNP_SLOT_CTL_button_int_en (p : Nat) : FRef := ⟨R.DNP_SLOT_CTL p, 2, 2⟩
def DNP_SLOT_CTL_pwr_fault_int_en (p : Nat) : FRef := ⟨R.DNP_SLOT_CTL p, 1, 1⟩
def DNP_SLOT_CTL_link_int_en (p : Nat) : FRef := ⟨R.DNP_SLOT_CTL p, 0, 0⟩
def DNP_SLOT_STATUS_reason (p : Nat) : FRef := ⟨R.DNP_SLOT_STATUS p, 31, 16⟩
def DNP_SLOT_STATUS_dpc_triggered (p : Nat) : FRef := ⟨R.DNP_SLOT_STATUS p, 8, 8⟩
def DNP_SLOT_STATUS_dll_active (p : Nat) : FRef := ⟨R.DNP_SLOT_STATUS p, 7, 7⟩
def DNP_SLOT_STATUS_presence (p : Nat) : FRef := ⟨R.DNP_SLOT_STATUS p, 6, 6⟩
def DNP_SLOT_STATUS_power_good (p : Nat) : FRef := ⟨R.DNP_SLOT_STATUS p, 5, 5⟩
def DNP_SLOT_STATUS_link_changed (p : Nat) : FRef := ⟨R.DNP_SLOT_STATUS p, 4, 4⟩
def DNP_SLOT_STATUS_presence_changed (p : Nat) : FRef := ⟨R.DNP_SLOT_STATUS p, 3, 3⟩
def DNP_SLOT_STATUS_button_pressed (p : Nat) : FRef := ⟨R.DNP_SLOT_STATUS p, 2, 2⟩
def DNP_SLOT_STATUS_power_fault (p : Nat) : FRef := ⟨R.DNP_SLOT_STATUS p, 1, 1⟩
def DNP_LINK_STATUS_dll_active (p : Nat) : FRef := ⟨R.DNP_LINK_STATUS p, 9, 9⟩
def DNP_LINK_STATUS_width (p : Nat) : FRef := ⟨R.DNP_LINK_STATUS p, 8, 4⟩
def DNP_LINK_STATUS_rate (p : Nat) : FRef := ⟨R.DNP_LINK_STATUS p, 3, 0⟩
def DNP_DPC_STATUS_triggered (p : Nat) : FRef := ⟨R.DNP_DPC_STATUS p, 31, 31⟩
def DNP_DPC_STATUS_trigger_reason (p : Nat) : FRef := ⟨R.DNP_DPC_STATUS p, 18, 16⟩
def DNP_DPC_STATUS_source_id (p : Nat) : FRef := ⟨R.DNP_DPC_STATUS p, 15, 0⟩
def DNP_DPC_CTL_sw_trigger (p : Nat) : FRef := ⟨R.DNP_DPC_CTL p, 2, 2⟩
def DNP_DPC_CTL_trigger_on_nonfatal (p : Nat) : FRef := ⟨R.DNP_DPC_CTL p, 1, 1⟩
def DNP_DPC_CTL_enable (p : Nat) : FRef := ⟨R.DNP_DPC_CTL p, 0, 0⟩
def RCL_BLK_CTL_lock : FRef := ⟨R.RCL_BLK_CTL, 31, 31⟩
def RCL_BLK_CTL_enable : FRef := ⟨R.RCL_BLK_CTL, 0, 0⟩
def RCL_BLK_STATUS_reason : FRef := ⟨R.RCL_BLK_STATUS, 31, 16⟩
def RCL_BLK_STATUS_checking : FRef := ⟨R.RCL_BLK_STATUS, 1, 1⟩
def RCL_BLK_STATUS_ready : FRef := ⟨R.RCL_BLK_STATUS, 0, 0⟩

end F

/-! ## The rows of each block map -/

def regsGLB : List RegDef := [
  ⟨"GLB_BLK_CTL", 0x0, 0x0, 1, false, .fixed 42, .fund, [⟨31, 31, .w1s, 0⟩, ⟨0, 0, .rw, 0⟩]⟩,
  ⟨"GLB_BLK_STATUS", 0x4, 0x0, 1, false, .fixed 42, .fund, [⟨31, 16, .ro, 0⟩, ⟨1, 1, .ro, 0⟩, ⟨0, 0, .ro, 0⟩]⟩,
  ⟨"GLB_MODE", 0x10, 0x0, 1, false, .fixed 42, .cold, [⟨31, 31, .ro, 0⟩, ⟨18, 18, .ro, 0⟩, ⟨17, 17, .ro, 0⟩, ⟨16, 16, .ro, 0⟩, ⟨15, 8, .ro, 0⟩, ⟨7, 7, .ro, 0⟩, ⟨6, 4, .ro, 0⟩, ⟨2, 0, .ro, 0⟩]⟩,
  ⟨"GLB_RESET_CFG", 0x20, 0x0, 1, false, .fixed 42, .cold, [⟨1, 1, .rwl, 1⟩, ⟨0, 0, .rwl, 1⟩]⟩,
  ⟨"GLB_BOOT_STATUS", 0x30, 0x0, 1, false, .fixed 42, .fund, [⟨31, 24, .ro, 0⟩, ⟨23, 16, .ro, 0⟩, ⟨7, 7, .ro, 0⟩, ⟨6, 6, .ro, 0⟩, ⟨5, 5, .ro, 0⟩, ⟨4, 4, .ro, 0⟩, ⟨3, 3, .ro, 0⟩, ⟨2, 2, .ro, 0⟩]⟩,
  ⟨"GLB_SNAP_APPLY", 0x34, 0x0, 1, false, .fixed 42, .fund, [⟨31, 31, .ro, 0⟩, ⟨30, 26, .ro, 0⟩, ⟨23, 12, .ro, 0⟩, ⟨11, 0, .ro, 0⟩]⟩,
  ⟨"GLB_ISLAND_RST", 0x40, 0x0, 1, false, .fixed 42, .fund, [⟨31, 31, .ro, 0⟩, ⟨23, 16, .ro, 0⟩, ⟨8, 8, .w1s, 0⟩, ⟨5, 0, .rw, 0⟩]⟩,
  ⟨"GLB_XING_DROP", 0x100, 0x0, 1, false, .fixed 42, .fund, [⟨31, 0, .rc, 0⟩]⟩,
  ⟨"GLB_XING_LAST", 0x104, 0x0, 1, false, .fixed 42, .fund, [⟨31, 31, .w1c, 0⟩, ⟨30, 30, .ro, 0⟩, ⟨29, 24, .ro, 0⟩, ⟨23, 19, .ro, 0⟩, ⟨17, 0, .ro, 0⟩]⟩,
  ⟨"GLB_BAD_MASTER", 0x108, 0x0, 1, false, .fixed 42, .fund, [⟨31, 0, .rc, 0⟩]⟩,
  ⟨"GLB_BAD_MASTER_LAST", 0x10C, 0x0, 1, false, .fixed 42, .fund, [⟨31, 31, .w1c, 0⟩, ⟨30, 30, .ro, 0⟩, ⟨29, 29, .ro, 0⟩, ⟨28, 24, .ro, 0⟩, ⟨12, 0, .ro, 0⟩]⟩,
  ⟨"GLB_BAD_MASTER_ADDR_LO", 0x110, 0x0, 1, false, .fixed 42, .fund, [⟨31, 0, .ro, 0⟩]⟩,
  ⟨"GLB_BAD_MASTER_ADDR_HI", 0x114, 0x0, 1, false, .fixed 42, .fund, [⟨7, 0, .ro, 0⟩]⟩,
  ⟨"GLB_CMD_FETCHED", 0x200, 0x0, 1, false, .fixed 42, .fund, [⟨31, 0, .rc, 0⟩]⟩,
  ⟨"GLB_CMD_FAILED", 0x204, 0x0, 1, false, .fixed 42, .fund, [⟨31, 0, .rc, 0⟩]⟩,
  ⟨"GLB_CMD_STALE", 0x208, 0x0, 1, false, .fixed 42, .fund, [⟨31, 0, .rc, 0⟩]⟩,
  ⟨"GLB_CMD_PENDING_NOW", 0x20C, 0x0, 1, false, .fixed 42, .fund, [⟨8, 0, .ro, 0⟩]⟩]

def regsHST : List RegDef := [
  ⟨"HST_BLK_CTL", 0x100000, 0x0, 1, false, .fixed 38, .host, [⟨31, 31, .w1s, 0⟩, ⟨0, 0, .rw, 0⟩]⟩,
  ⟨"HST_BLK_STATUS", 0x100004, 0x0, 1, false, .fixed 38, .host, [⟨31, 16, .ro, 0⟩, ⟨1, 1, .ro, 0⟩, ⟨0, 0, .ro, 0⟩]⟩,
  ⟨"HST_LINK_STATUS", 0x100010, 0x0, 1, false, .fixed 38, .host, [⟨26, 22, .ro, 0⟩, ⟨21, 17, .ro, 0⟩, ⟨16, 16, .ro, 0⟩, ⟨4, 4, .ro, 0⟩, ⟨3, 0, .ro, 0⟩]⟩,
  ⟨"HST_PM_CFG", 0x100014, 0x0, 1, false, .fixed 38, .fund, [⟨31, 31, .rw, 1⟩, ⟨30, 28, .rw, 2⟩, ⟨27, 20, .rw, 40⟩, ⟨19, 12, .rw, 80⟩, ⟨11, 0, .rw, 100⟩]⟩,
  ⟨"HST_CPL_TIMEOUT", 0x100020, 0x0, 1, false, .fixed 38, .fund, [⟨31, 31, .rw, 0⟩, ⟨25, 0, .rw, 50000⟩]⟩,
  ⟨"HST_TAG_STATUS", 0x100024, 0x0, 1, false, .fixed 38, .host, [⟨28, 16, .ro, 0⟩, ⟨12, 0, .ro, 0⟩]⟩,
  ⟨"HST_SRIOV_STATUS", 0x100030, 0x0, 1, false, .fixed 38, .host, [⟨31, 31, .ro, 0⟩, ⟨30, 30, .ro, 0⟩, ⟨29, 29, .ro, 0⟩, ⟨15, 0, .ro, 0⟩]⟩,
  ⟨"HST_PEER_BAR_CFG", 0x100040, 0x0, 1, false, .fixed 38, .cold, [⟨5, 5, .rwl, 0⟩, ⟨4, 0, .rwl, 8⟩]⟩,
  ⟨"HST_CPL_TIMEOUTS", 0x100100, 0x0, 1, false, .fixed 38, .fund, [⟨31, 0, .rc, 0⟩]⟩,
  ⟨"HST_LATE_CPL", 0x100104, 0x0, 1, false, .fixed 38, .fund, [⟨31, 0, .rc, 0⟩]⟩,
  ⟨"HST_DB_BAD", 0x100108, 0x0, 1, false, .fixed 38, .fund, [⟨31, 0, .rc, 0⟩]⟩,
  ⟨"HST_PEER_MISS", 0x10010C, 0x0, 1, false, .fixed 38, .fund, [⟨31, 0, .rc, 0⟩]⟩,
  ⟨"HST_PEER_REFUSED", 0x100110, 0x0, 1, false, .fixed 38, .fund, [⟨31, 0, .rc, 0⟩]⟩,
  ⟨"HST_L0P_CHANGES", 0x100114, 0x0, 1, false, .fixed 38, .fund, [⟨31, 0, .rc, 0⟩]⟩,
  ⟨"HST_L1_ENTRIES", 0x100118, 0x0, 1, false, .fixed 38, .fund, [⟨31, 0, .rc, 0⟩]⟩,
  ⟨"HST_PEER_WIN_CTL", 0x101000, 0x20, 64, false, .fixed 38, .fund, [⟨31, 31, .w1s, 0⟩, ⟨30, 30, .ro, 0⟩, ⟨23, 8, .ro, 0⟩, ⟨2, 2, .rw, 0⟩, ⟨1, 1, .rw, 0⟩, ⟨0, 0, .rw, 0⟩]⟩,
  ⟨"HST_PEER_WIN_BASE", 0x101004, 0x20, 64, false, .fixed 38, .fund, [⟨16, 0, .rw, 0⟩]⟩,
  ⟨"HST_PEER_WIN_SIZE", 0x101008, 0x20, 64, false, .fixed 38, .fund, [⟨17, 0, .rw, 0⟩]⟩,
  ⟨"HST_PEER_WIN_TARGET", 0x10100C, 0x20, 64, false, .fixed 38, .fund, [⟨16, 0, .rw, 0⟩]⟩,
  ⟨"HST_PEER_WIN_RID", 0x101010, 0x20, 64, false, .fixed 38, .fund, [⟨31, 16, .rw, 0⟩, ⟨15, 0, .rw, 0⟩]⟩]

def regsQMG : List RegDef := [
  ⟨"QMG_BLK_CTL", 0x200000, 0x0, 1, false, .fixed 39, .fund, [⟨31, 31, .w1s, 0⟩, ⟨0, 0, .rw, 0⟩]⟩,
  ⟨"QMG_BLK_STATUS", 0x200004, 0x0, 1, false, .fixed 39, .fund, [⟨31, 16, .ro, 0⟩, ⟨1, 1, .ro, 0⟩, ⟨0, 0, .ro, 0⟩]⟩,
  ⟨"QMG_CTX_SEL", 0x200010, 0x0, 1, false, .fixed 39, .fund, [⟨31, 31, .ro, 0⟩, ⟨15, 0, .rw, 0⟩]⟩,
  ⟨"QMG_CTX_WORD", 0x200040, 0x4, 16, false, .fixed 39, .fund, [⟨31, 0, .ro, 0⟩]⟩,
  ⟨"QMG_DB_RANGE", 0x200100, 0x0, 1, false, .fixed 39, .fund, [⟨31, 0, .rc, 0⟩]⟩,
  ⟨"QMG_DB_DISCARDED", 0x200104, 0x0, 1, false, .fixed 39, .fund, [⟨31, 0, .rc, 0⟩]⟩,
  ⟨"QMG_ENTRY_ERRORS", 0x200108, 0x0, 1, false, .fixed 39, .fund, [⟨31, 0, .rc, 0⟩]⟩,
  ⟨"QMG_STALE_DISCARD", 0x20010C, 0x0, 1, false, .fixed 39, .fund, [⟨31, 0, .rc, 0⟩]⟩,
  ⟨"QMG_EVQ_OVERFLOWS", 0x200110, 0x0, 1, false, .fixed 39, .fund, [⟨31, 0, .rc, 0⟩]⟩,
  ⟨"QMG_NOTIFY_DROPPED", 0x200114, 0x0, 1, false, .fixed 39, .fund, [⟨31, 0, .rc, 0⟩]⟩,
  ⟨"QMG_CTX_FILLS", 0x200118, 0x0, 1, false, .fixed 39, .fund, [⟨31, 0, .rc, 0⟩]⟩,
  ⟨"QMG_HOT_CTX", 0x20011C, 0x0, 1, false, .fixed 39, .fund, [⟨31, 0, .ro, 0⟩]⟩,
  ⟨"QMG_QUEUES_IN_USE", 0x200120, 0x0, 1, false, .fixed 39, .fund, [⟨31, 0, .ro, 0⟩]⟩]

def regsDMA : List RegDef := [
  ⟨"DMA_BLK_CTL", 0x300000, 0x0, 1, false, .fixed 39, .fund, [⟨31, 31, .w1s, 0⟩, ⟨0, 0, .rw, 0⟩]⟩,
  ⟨"DMA_BLK_STATUS", 0x300004, 0x0, 1, false, .fixed 39, .fund, [⟨31, 16, .ro, 0⟩, ⟨1, 1, .ro, 0⟩, ⟨0, 0, .ro, 0⟩]⟩,
  ⟨"DMA_CH_CTL", 0x301000, 0x40, 128, false, .fixed 39, .fund, [⟨31, 31, .w1s, 0⟩, ⟨30, 30, .w1s, 0⟩, ⟨2, 2, .rw, 0⟩, ⟨1, 1, .rw, 0⟩]⟩,
  ⟨"DMA_CH_STATUS", 0x301004, 0x40, 128, false, .fixed 39, .fund, [⟨31, 16, .ro, 0⟩, ⟨15, 8, .ro, 0⟩, ⟨4, 4, .w1c, 0⟩, ⟨3, 3, .w1c, 0⟩, ⟨2, 2, .w1c, 0⟩, ⟨1, 1, .ro, 0⟩, ⟨0, 0, .ro, 0⟩]⟩,
  ⟨"DMA_CH_SRC_LO", 0x301008, 0x40, 128, false, .fixed 39, .fund, [⟨31, 0, .rw, 0⟩]⟩,
  ⟨"DMA_CH_SRC_HI", 0x30100C, 0x40, 128, false, .fixed 39, .fund, [⟨31, 0, .rw, 0⟩]⟩,
  ⟨"DMA_CH_DST_LO", 0x301010, 0x40, 128, false, .fixed 39, .fund, [⟨31, 0, .rw, 0⟩]⟩,
  ⟨"DMA_CH_DST_HI", 0x301014, 0x40, 128, false, .fixed 39, .fund, [⟨31, 0, .rw, 0⟩]⟩,
  ⟨"DMA_CH_COUNT", 0x301018, 0x40, 128, false, .fixed 39, .fund, [⟨31, 0, .rw, 0⟩]⟩,
  ⟨"DMA_CH_SPACE", 0x30101C, 0x40, 128, false, .fixed 39, .fund, [⟨31, 30, .rw, 0⟩, ⟨29, 28, .rw, 0⟩, ⟨27, 26, .rw, 0⟩, ⟨23, 8, .rw, 0⟩]⟩,
  ⟨"DMA_CH_HOST", 0x301020, 0x40, 128, false, .fixed 39, .fund, [⟨31, 31, .rw, 0⟩, ⟨30, 20, .rw, 0⟩, ⟨19, 0, .rw, 0⟩]⟩,
  ⟨"DMA_CH_CHAIN_LO", 0x301024, 0x40, 128, false, .fixed 39, .fund, [⟨31, 0, .rw, 0⟩]⟩,
  ⟨"DMA_CH_CHAIN_HI", 0x301028, 0x40, 128, false, .fixed 39, .fund, [⟨31, 0, .rw, 0⟩]⟩,
  ⟨"DMA_CH_WB_LO", 0x30102C, 0x40, 128, false, .fixed 39, .fund, [⟨31, 0, .rw, 0⟩]⟩,
  ⟨"DMA_CH_WB_HI", 0x301030, 0x40, 128, false, .fixed 39, .fund, [⟨31, 0, .rw, 0⟩]⟩,
  ⟨"DMA_CH_RESIDUE", 0x301034, 0x40, 128, false, .fixed 39, .fund, [⟨31, 0, .ro, 0⟩]⟩,
  ⟨"DMA_CH_OWNER", 0x301038, 0x40, 128, false, .fixed 39, .fund, [⟨31, 31, .ro, 0⟩, ⟨18, 16, .ro, 0⟩, ⟨12, 0, .ro, 0⟩]⟩,
  ⟨"DMA_CH_DONE_DESC", 0x30103C, 0x40, 128, false, .fixed 39, .fund, [⟨15, 0, .ro, 0⟩]⟩]

def regsEVC : List RegDef := [
  ⟨"EVC_BLK_CTL", 0x400000, 0x0, 1, false, .fixed 39, .fund, [⟨31, 31, .w1s, 0⟩, ⟨0, 0, .rw, 0⟩]⟩,
  ⟨"EVC_BLK_STATUS", 0x400004, 0x0, 1, false, .fixed 39, .fund, [⟨31, 16, .ro, 0⟩, ⟨1, 1, .ro, 0⟩, ⟨0, 0, .ro, 0⟩]⟩,
  ⟨"EVC_SRC_REASON", 0x400010, 0x0, 1, false, .fixed 39, .fund, [⟨31, 16, .ro, 0⟩, ⟨8, 0, .ro, 0⟩]⟩,
  ⟨"EVC_EDGES_MERGED", 0x400100, 0x0, 1, false, .fixed 39, .fund, [⟨31, 0, .rc, 0⟩]⟩,
  ⟨"EVC_SPURIOUS", 0x400104, 0x0, 1, false, .fixed 39, .fund, [⟨31, 0, .rc, 0⟩]⟩,
  ⟨"EVC_BYPASS", 0x400108, 0x0, 1, false, .fixed 39, .fund, [⟨31, 0, .rc, 0⟩]⟩,
  ⟨"EVC_HOST_MSGS", 0x40010C, 0x0, 1, false, .fixed 39, .fund, [⟨31, 0, .rc, 0⟩]⟩,
  ⟨"EVC_HINT_BAD", 0x400110, 0x0, 1, false, .fixed 39, .fund, [⟨31, 0, .rc, 0⟩]⟩,
  ⟨"EVC_PENDING", 0x401000, 0x4, 16, false, .fixed 39, .fund, [⟨31, 0, .w1c, 0⟩]⟩,
  ⟨"EVC_CLAIM", 0x401100, 0x4, 32, false, .fixed 39, .fund, [⟨15, 0, .ro, 65535⟩]⟩,
  ⟨"EVC_TGT_CFG", 0x401200, 0x4, 32, false, .fixed 39, .fund, [⟨31, 31, .ro, 0⟩, ⟨30, 30, .ro, 0⟩, ⟨19, 0, .rw, 0⟩]⟩,
  ⟨"EVC_SRC_CTL", 0x402000, 0x8, 512, false, .fixed 39, .fund, [⟨31, 31, .w1s, 0⟩, ⟨30, 30, .ro, 0⟩, ⟨0, 0, .rw, 0⟩]⟩,
  ⟨"EVC_SRC_MASK", 0x402004, 0x8, 512, false, .fixed 39, .fund, [⟨31, 0, .rw, 0⟩]⟩,
  ⟨"EVC_HOST_MOD", 0x404000, 0x4, 2048, false, .fixed 39, .fund, [⟨15, 0, .rw, 0⟩]⟩]

def regsBUOY : List RegDef := [
  ⟨"BUOY_BLK_CTL", 0x500000, 0x0, 1, false, .fixed 42, .fund, [⟨31, 31, .w1s, 0⟩, ⟨0, 0, .rw, 0⟩]⟩,
  ⟨"BUOY_BLK_STATUS", 0x500004, 0x0, 1, false, .fixed 42, .fund, [⟨31, 16, .ro, 0⟩, ⟨1, 1, .ro, 0⟩, ⟨0, 0, .ro, 0⟩]⟩,
  ⟨"BUOY_FORCE_CLEAR", 0x500020, 0x0, 1, false, .fixed 42, .fund, [⟨31, 31, .w1s, 0⟩, ⟨11, 11, .w1s, 0⟩, ⟨10, 0, .w1s, 0⟩]⟩,
  ⟨"BUOY_BIND", 0x500100, 0x4, 64, false, .fixed 42, .fund, [⟨31, 31, .rwl, 0⟩, ⟨28, 16, .rwl, 0⟩, ⟨12, 0, .rwl, 0⟩]⟩,
  ⟨"BUOY_INST_PENDING", 0x500400, 0x4, 64, false, .fixed 42, .fund, [⟨31, 0, .ro, 0⟩]⟩,
  ⟨"BUOY_INT_PENDING", 0x500500, 0x4, 2, false, .fixed 42, .fund, [⟨31, 0, .ro, 0⟩]⟩,
  ⟨"BUOY_OVERRUNS", 0x500600, 0x0, 1, false, .fixed 42, .fund, [⟨31, 0, .rc, 0⟩]⟩,
  ⟨"BUOY_BAD_MASTER", 0x500604, 0x0, 1, false, .fixed 42, .fund, [⟨31, 0, .rc, 0⟩]⟩,
  ⟨"BUOY_FORCE_CLEARS", 0x500608, 0x0, 1, false, .fixed 42, .fund, [⟨31, 0, .rc, 0⟩]⟩]

def regsINS : List RegDef := [
  ⟨"INS_BLK_CTL", 0x600000, 0x0, 1, false, .fixed 42, .fund, [⟨31, 31, .w1s, 0⟩, ⟨0, 0, .rw, 0⟩]⟩,
  ⟨"INS_BLK_STATUS", 0x600004, 0x0, 1, false, .fixed 42, .fund, [⟨31, 16, .ro, 0⟩, ⟨1, 1, .ro, 0⟩, ⟨0, 0, .ro, 0⟩]⟩,
  ⟨"INS_MGR_ADMIN_BASE_LO", 0x600010, 0x0, 1, false, .fixed 42, .host, [⟨31, 12, .rw, 0⟩]⟩,
  ⟨"INS_MGR_ADMIN_BASE_HI", 0x600014, 0x0, 1, false, .fixed 42, .host, [⟨31, 0, .rw, 0⟩]⟩,
  ⟨"INS_MGR_ADMIN_CFG", 0x600018, 0x0, 1, false, .fixed 42, .host, [⟨31, 31, .rw, 0⟩, ⟨30, 30, .ro, 0⟩, ⟨23, 16, .rw, 0⟩, ⟨15, 0, .ro, 0⟩]⟩,
  ⟨"INS_SEL", 0x600020, 0x0, 1, false, .fixed 42, .fund, [⟨31, 31, .ro, 0⟩, ⟨10, 0, .rw, 0⟩]⟩,
  ⟨"INS_REC_WORD", 0x600100, 0x4, 28, false, .fixed 42, .fund, [⟨31, 0, .ro, 0⟩]⟩,
  ⟨"INS_STALE_DISCARDS", 0x600200, 0x0, 1, false, .fixed 42, .fund, [⟨31, 0, .rc, 0⟩]⟩,
  ⟨"INS_RESETS", 0x600204, 0x0, 1, false, .fixed 42, .fund, [⟨31, 0, .rc, 0⟩]⟩,
  ⟨"INS_CREATES", 0x600208, 0x0, 1, false, .fixed 42, .fund, [⟨31, 0, .rc, 0⟩]⟩,
  ⟨"INS_DESTROYS", 0x60020C, 0x0, 1, false, .fixed 42, .fund, [⟨31, 0, .rc, 0⟩]⟩,
  ⟨"INS_IN_USE", 0x600210, 0x0, 1, false, .fixed 42, .fund, [⟨31, 0, .ro, 0⟩]⟩]

def regsMEM : List RegDef := [
  ⟨"MEM_BLK_CTL", 0x700000, 0x0, 1, false, .fixed 43, .fund, [⟨31, 31, .w1s, 0⟩, ⟨0, 0, .rw, 0⟩]⟩,
  ⟨"MEM_BLK_STATUS", 0x700004, 0x0, 1, false, .fixed 43, .fund, [⟨31, 16, .ro, 0⟩, ⟨1, 1, .ro, 0⟩, ⟨0, 0, .ro, 0⟩]⟩,
  ⟨"MEM_PART_CFG", 0x700010, 0x0, 1, false, .fixed 43, .fund, [⟨7, 0, .rwl, 16⟩]⟩,
  ⟨"MEM_SCRUB_CFG", 0x700014, 0x0, 1, false, .fixed 43, .fund, [⟨31, 31, .rw, 1⟩, ⟨7, 0, .rw, 24⟩]⟩,
  ⟨"MEM_RETIRED", 0x700018, 0x0, 1, false, .fixed 43, .fund, [⟨31, 0, .ro, 0⟩]⟩,
  ⟨"MEM_MRAM_PROT", 0x70001C, 0x0, 1, false, .fixed 43, .fund, [⟨7, 0, .rw, 0⟩]⟩,
  ⟨"MEM_MRAM_DENIED", 0x700020, 0x0, 1, false, .fixed 43, .fund, [⟨31, 0, .rc, 0⟩]⟩,
  ⟨"MEM_CE", 0x700400, 0x10, 32, false, .fixed 43, .fund, [⟨31, 0, .rc, 0⟩]⟩,
  ⟨"MEM_UE", 0x700404, 0x10, 32, false, .fixed 43, .fund, [⟨31, 0, .rc, 0⟩]⟩,
  ⟨"MEM_SCRUB_PASSES", 0x700408, 0x10, 32, false, .fixed 43, .fund, [⟨31, 0, .ro, 0⟩]⟩,
  ⟨"MEM_GRANT", 0x700800, 0x8, 64, false, .fixed 43, .fund, [⟨31, 31, .ro, 0⟩, ⟨16, 0, .ro, 0⟩]⟩,
  ⟨"MEM_GRANT_SIZE", 0x700804, 0x8, 64, false, .fixed 43, .fund, [⟨16, 0, .ro, 0⟩]⟩]

def regsPGR : List RegDef := [
  ⟨"PGR_BLK_CTL", 0x800000, 0x0, 1, false, .fixed 35, .fund, [⟨31, 31, .w1s, 0⟩, ⟨0, 0, .rw, 0⟩]⟩,
  ⟨"PGR_BLK_STATUS", 0x800004, 0x0, 1, false, .fixed 35, .fund, [⟨31, 16, .ro, 0⟩, ⟨1, 1, .ro, 0⟩, ⟨0, 0, .ro, 0⟩]⟩,
  ⟨"PGR_INTERNAL_SIZE", 0x800010, 0x0, 1, false, .fixed 35, .fund, [⟨21, 0, .rwl, 131072⟩]⟩,
  ⟨"PGR_MGR_SPACE", 0x800014, 0x0, 1, false, .fixed 35, .fund, [⟨21, 0, .rwl, 8192⟩]⟩,
  ⟨"PGR_CACHE_CFG", 0x800018, 0x0, 1, false, .fixed 35, .fund, [⟨28, 16, .rw, 64⟩, ⟨12, 0, .rw, 1024⟩]⟩,
  ⟨"PGR_PARK_CFG", 0x80001C, 0x0, 1, false, .fixed 35, .fund, [⟨31, 16, .rw, 1000⟩, ⟨10, 0, .rw, 256⟩]⟩,
  ⟨"PGR_LPD_WMARK", 0x800020, 0x0, 1, false, .fixed 35, .fund, [⟨15, 8, .rw, 5⟩, ⟨7, 0, .rw, 2⟩]⟩,
  ⟨"PGR_MIG_RATE", 0x800024, 0x0, 1, false, .fixed 35, .fund, [⟨15, 0, .rw, 8000⟩]⟩,
  ⟨"PGR_PARK_SSID_MAX", 0x800028, 0x0, 1, false, .fixed 35, .fund, [⟨16, 0, .rw, 4096⟩]⟩,
  ⟨"PGR_SSID_SEL", 0x800030, 0x0, 1, false, .fixed 35, .fund, [⟨15, 0, .rw, 0⟩]⟩,
  ⟨"PGR_SSID_BASE", 0x800034, 0x0, 1, false, .fixed 35, .fund, [⟨31, 31, .ro, 0⟩, ⟨21, 0, .ro, 0⟩]⟩,
  ⟨"PGR_SSID_SIZE", 0x800038, 0x0, 1, false, .fixed 35, .fund, [⟨21, 0, .ro, 0⟩]⟩,
  ⟨"PGR_FAULT_INFO", 0x800040, 0x0, 1, false, .fixed 35, .fund, [⟨31, 31, .w1c, 0⟩, ⟨30, 28, .ro, 0⟩, ⟨15, 0, .ro, 0⟩]⟩,
  ⟨"PGR_FAULT_OFFSET_LO", 0x800044, 0x0, 1, false, .fixed 35, .fund, [⟨31, 0, .ro, 0⟩]⟩,
  ⟨"PGR_FAULT_OFFSET_HI", 0x800048, 0x0, 1, false, .fixed 35, .fund, [⟨31, 0, .ro, 0⟩]⟩,
  ⟨"PGR_FILLS_LPD", 0x800100, 0x0, 1, false, .fixed 35, .fund, [⟨31, 0, .rc, 0⟩]⟩,
  ⟨"PGR_FILLS_HOST", 0x800104, 0x0, 1, false, .fixed 35, .fund, [⟨31, 0, .rc, 0⟩]⟩,
  ⟨"PGR_EVICT_DIRTY", 0x800108, 0x0, 1, false, .fixed 35, .fund, [⟨31, 0, .rc, 0⟩]⟩,
  ⟨"PGR_PARKED", 0x80010C, 0x0, 1, false, .fixed 35, .fund, [⟨31, 0, .rc, 0⟩]⟩,
  ⟨"PGR_PARK_DROPS", 0x800110, 0x0, 1, false, .fixed 35, .fund, [⟨31, 0, .rc, 0⟩]⟩,
  ⟨"PGR_FAULTS", 0x800114, 0x0, 1, false, .fixed 35, .fund, [⟨31, 0, .rc, 0⟩]⟩,
  ⟨"PGR_BACKING_FULL", 0x800118, 0x0, 1, false, .fixed 35, .fund, [⟨31, 0, .rc, 0⟩]⟩,
  ⟨"PGR_POISONED", 0x80011C, 0x0, 1, false, .fixed 35, .fund, [⟨31, 0, .rc, 0⟩]⟩,
  ⟨"PGR_LOST_PAGES", 0x800120, 0x0, 1, false, .fixed 35, .fund, [⟨31, 0, .rc, 0⟩]⟩,
  ⟨"PGR_MIGRATED", 0x800124, 0x0, 1, false, .fixed 35, .fund, [⟨31, 0, .rc, 0⟩]⟩,
  ⟨"PGR_FREE_LPD", 0x800128, 0x0, 1, false, .fixed 35, .fund, [⟨31, 0, .ro, 0⟩]⟩,
  ⟨"PGR_PINNED", 0x80012C, 0x0, 1, false, .fixed 35, .fund, [⟨31, 0, .ro, 0⟩]⟩,
  ⟨"PGR_PARK_NOW", 0x800130, 0x0, 1, false, .fixed 35, .fund, [⟨31, 0, .ro, 0⟩]⟩,
  ⟨"PGR_DON_ADDR_LO", 0x800800, 0x10, 64, false, .fixed 35, .fund, [⟨31, 0, .ro, 0⟩]⟩,
  ⟨"PGR_DON_ADDR_HI", 0x800804, 0x10, 64, false, .fixed 35, .fund, [⟨31, 0, .ro, 0⟩]⟩,
  ⟨"PGR_DON_SIZE", 0x800808, 0x10, 64, false, .fixed 35, .fund, [⟨31, 31, .ro, 0⟩, ⟨30, 30, .ro, 0⟩, ⟨17, 0, .ro, 0⟩]⟩,
  ⟨"PGR_DON_PAGES", 0x80080C, 0x10, 64, false, .fixed 35, .fund, [⟨31, 0, .ro, 0⟩]⟩]

def regsBPM : List RegDef := [
  ⟨"BPM_BLK_CTL", 0x900000, 0x0, 1, false, .fixed 34, .fund, [⟨31, 31, .w1s, 0⟩, ⟨0, 0, .rw, 0⟩]⟩,
  ⟨"BPM_BLK_STATUS", 0x900004, 0x0, 1, false, .fixed 34, .fund, [⟨31, 16, .ro, 0⟩, ⟨1, 1, .ro, 0⟩, ⟨0, 0, .ro, 0⟩]⟩,
  ⟨"BPM_COUNT", 0x900020, 0x4, 8, false, .fixed 34, .fund, [⟨28, 0, .ro, 0⟩]⟩,
  ⟨"BPM_FREE", 0x900040, 0x4, 8, false, .fixed 34, .fund, [⟨28, 0, .ro, 0⟩]⟩,
  ⟨"BPM_BAD_PTR", 0x900060, 0x0, 1, false, .fixed 34, .fund, [⟨31, 0, .ro, 0⟩]⟩,
  ⟨"BPM_BAD_PTR_INFO", 0x900064, 0x0, 1, false, .fixed 34, .fund, [⟨31, 31, .w1c, 0⟩, ⟨27, 24, .ro, 0⟩, ⟨19, 16, .ro, 0⟩, ⟨12, 0, .ro, 0⟩]⟩,
  ⟨"BPM_REQ_SEL", 0x900070, 0x0, 1, false, .fixed 34, .fund, [⟨11, 0, .rw, 0⟩]⟩,
  ⟨"BPM_REQ_MIN", 0x900074, 0x0, 1, false, .fixed 34, .fund, [⟨31, 0, .ro, 0⟩]⟩,
  ⟨"BPM_REQ_MAX", 0x900078, 0x0, 1, false, .fixed 34, .fund, [⟨31, 0, .ro, 0⟩]⟩,
  ⟨"BPM_REQ_OVF_MAX", 0x90007C, 0x0, 1, false, .fixed 34, .fund, [⟨31, 0, .ro, 0⟩]⟩,
  ⟨"BPM_REQ_USED", 0x900080, 0x0, 1, false, .fixed 34, .fund, [⟨28, 0, .ro, 0⟩]⟩,
  ⟨"BPM_REQ_OVF_USED", 0x900084, 0x0, 1, false, .fixed 34, .fund, [⟨28, 0, .ro, 0⟩]⟩,
  ⟨"BPM_ALLOCS", 0x900100, 0x0, 1, false, .fixed 34, .fund, [⟨31, 0, .rc, 0⟩]⟩,
  ⟨"BPM_OVF_ALLOCS", 0x900104, 0x0, 1, false, .fixed 34, .fund, [⟨31, 0, .rc, 0⟩]⟩,
  ⟨"BPM_ALLOC_FAIL", 0x900108, 0x0, 1, false, .fixed 34, .fund, [⟨31, 0, .rc, 0⟩]⟩,
  ⟨"BPM_ALLOC_SHORT", 0x90010C, 0x0, 1, false, .fixed 34, .fund, [⟨31, 0, .rc, 0⟩]⟩,
  ⟨"BPM_BAD_PTRS", 0x900110, 0x0, 1, false, .fixed 34, .fund, [⟨31, 0, .rc, 0⟩]⟩]

def regsPRS : List RegDef := [
  ⟨"PRS_BLK_CTL", 0xA00000, 0x0, 1, false, .fixed 32, .fund, [⟨31, 31, .w1s, 0⟩, ⟨0, 0, .rw, 0⟩]⟩,
  ⟨"PRS_BLK_STATUS", 0xA00004, 0x0, 1, false, .fixed 32, .fund, [⟨31, 16, .ro, 0⟩, ⟨1, 1, .ro, 0⟩, ⟨0, 0, .ro, 0⟩]⟩,
  ⟨"PRS_GRAPH_STATUS", 0xA00010, 0x0, 1, false, .fixed 32, .fund, [⟨31, 31, .ro, 0⟩, ⟨16, 16, .ro, 0⟩, ⟨7, 0, .ro, 0⟩]⟩,
  ⟨"PRS_FAIL_INFO", 0xA00020, 0x0, 1, false, .fixed 32, .fund, [⟨31, 31, .w1c, 0⟩, ⟨26, 24, .ro, 0⟩, ⟨19, 16, .ro, 0⟩, ⟨15, 8, .ro, 0⟩, ⟨7, 0, .ro, 0⟩]⟩,
  ⟨"PRS_PACKETS", 0xA00100, 0x0, 1, false, .fixed 32, .fund, [⟨31, 0, .rc, 0⟩]⟩,
  ⟨"PRS_FAILS", 0xA00104, 0x0, 1, false, .fixed 32, .fund, [⟨31, 0, .rc, 0⟩]⟩,
  ⟨"PRS_FAIL_CODE", 0xA00108, 0x4, 6, false, .fixed 32, .fund, [⟨31, 0, .rc, 0⟩]⟩,
  ⟨"PRS_NESTED", 0xA00120, 0x0, 1, false, .fixed 32, .fund, [⟨31, 0, .rc, 0⟩]⟩,
  ⟨"PRS_FRAGMENTS", 0xA00124, 0x0, 1, false, .fixed 32, .fund, [⟨31, 0, .rc, 0⟩]⟩,
  ⟨"PRS_COMMITS", 0xA00128, 0x0, 1, false, .fixed 32, .fund, [⟨31, 0, .rc, 0⟩]⟩]

def regsCLS : List RegDef := [
  ⟨"CLS_BLK_CTL", 0xB00000, 0x0, 1, false, .fixed 32, .fund, [⟨31, 31, .w1s, 0⟩, ⟨0, 0, .rw, 0⟩]⟩,
  ⟨"CLS_BLK_STATUS", 0xB00004, 0x0, 1, false, .fixed 32, .fund, [⟨31, 16, .ro, 0⟩, ⟨1, 1, .ro, 0⟩, ⟨0, 0, .ro, 0⟩]⟩,
  ⟨"CLS_PARITY_INFO", 0xB00010, 0x0, 1, false, .fixed 32, .fund, [⟨31, 31, .w1c, 0⟩, ⟨15, 0, .ro, 0⟩]⟩,
  ⟨"CLS_INST_SEL", 0xB00020, 0x0, 1, false, .fixed 32, .fund, [⟨10, 0, .rw, 0⟩]⟩,
  ⟨"CLS_INST_HASH", 0xB00024, 0x0, 1, false, .fixed 32, .fund, [⟨31, 0, .ro, 0⟩]⟩,
  ⟨"CLS_INST_EXC", 0xB00028, 0x0, 1, false, .fixed 32, .fund, [⟨15, 0, .ro, 0⟩]⟩,
  ⟨"CLS_INST_POLICER", 0xB0002C, 0x0, 1, false, .fixed 32, .fund, [⟨31, 0, .ro, 0⟩]⟩,
  ⟨"CLS_INST_EXC_DROPS", 0xB00030, 0x0, 1, false, .fixed 32, .fund, [⟨31, 0, .ro, 0⟩]⟩,
  ⟨"CLS_LOOKUPS", 0xB00100, 0x0, 1, false, .fixed 32, .fund, [⟨31, 0, .rc, 0⟩]⟩,
  ⟨"CLS_NOMATCH_S0", 0xB00104, 0x0, 1, false, .fixed 32, .fund, [⟨31, 0, .rc, 0⟩]⟩,
  ⟨"CLS_EXC_DELIVERED", 0xB00108, 0x0, 1, false, .fixed 32, .fund, [⟨31, 0, .rc, 0⟩]⟩,
  ⟨"CLS_EXC_DROPS", 0xB0010C, 0x0, 1, false, .fixed 32, .fund, [⟨31, 0, .rc, 0⟩]⟩,
  ⟨"CLS_EXC_NOQUEUE", 0xB00110, 0x0, 1, false, .fixed 32, .fund, [⟨31, 0, .rc, 0⟩]⟩,
  ⟨"CLS_DEST_BAD", 0xB00114, 0x0, 1, false, .fixed 32, .fund, [⟨31, 0, .rc, 0⟩]⟩,
  ⟨"CLS_INDIR_MISSES", 0xB00118, 0x0, 1, false, .fixed 32, .fund, [⟨31, 0, .rc, 0⟩]⟩,
  ⟨"CLS_RULES_IN_USE", 0xB0011C, 0x0, 1, false, .fixed 32, .fund, [⟨31, 0, .ro, 0⟩]⟩,
  ⟨"CLS_PARITY_ERRORS", 0xB00120, 0x0, 1, false, .fixed 32, .fund, [⟨31, 0, .rc, 0⟩]⟩]

def regsTBL : List RegDef := [
  ⟨"TBL_BLK_CTL", 0xC00000, 0x0, 1, false, .fixed 35, .fund, [⟨31, 31, .w1s, 0⟩, ⟨0, 0, .rw, 0⟩]⟩,
  ⟨"TBL_BLK_STATUS", 0xC00004, 0x0, 1, false, .fixed 35, .fund, [⟨31, 16, .ro, 0⟩, ⟨1, 1, .ro, 0⟩, ⟨0, 0, .ro, 0⟩]⟩,
  ⟨"TBL_SEL", 0xC00010, 0x0, 1, false, .fixed 35, .fund, [⟨31, 31, .ro, 0⟩, ⟨7, 0, .rw, 0⟩]⟩,
  ⟨"TBL_DESC_WORD", 0xC00020, 0x4, 12, false, .fixed 35, .fund, [⟨31, 0, .ro, 0⟩]⟩,
  ⟨"TBL_PARITY_INFO", 0xC00060, 0x0, 1, false, .fixed 35, .fund, [⟨31, 31, .w1c, 0⟩, ⟨30, 30, .ro, 0⟩, ⟨11, 0, .ro, 0⟩]⟩,
  ⟨"TBL_PARITY_INDEX", 0xC00064, 0x0, 1, false, .fixed 35, .fund, [⟨31, 0, .ro, 0⟩]⟩,
  ⟨"TBL_ONDIE_UNITS", 0xC00068, 0x0, 1, false, .fixed 35, .fund, [⟨31, 0, .ro, 0⟩]⟩,
  ⟨"TBL_LPD_ENTRIES", 0xC0006C, 0x0, 1, false, .fixed 35, .fund, [⟨31, 0, .ro, 0⟩]⟩,
  ⟨"TBL_LPM_V4", 0xC00070, 0x0, 1, false, .fixed 35, .fund, [⟨31, 0, .ro, 0⟩]⟩,
  ⟨"TBL_LPM_V6", 0xC00074, 0x0, 1, false, .fixed 35, .fund, [⟨31, 0, .ro, 0⟩]⟩,
  ⟨"TBL_VRF_SEL", 0xC00078, 0x0, 1, false, .fixed 35, .fund, [⟨11, 0, .rw, 0⟩]⟩,
  ⟨"TBL_VRF_V4", 0xC0007C, 0x0, 1, false, .fixed 35, .fund, [⟨31, 31, .ro, 0⟩, ⟨21, 0, .ro, 0⟩]⟩,
  ⟨"TBL_VRF_V6", 0xC00080, 0x0, 1, false, .fixed 35, .fund, [⟨20, 0, .ro, 0⟩]⟩,
  ⟨"TBL_EM_LOOKUPS", 0xC00100, 0x0, 1, false, .fixed 35, .fund, [⟨31, 0, .rc, 0⟩]⟩,
  ⟨"TBL_EM_HITS", 0xC00104, 0x0, 1, false, .fixed 35, .fund, [⟨31, 0, .rc, 0⟩]⟩,
  ⟨"TBL_EM_MISS_DROPS", 0xC00108, 0x0, 1, false, .fixed 35, .fund, [⟨31, 0, .rc, 0⟩]⟩,
  ⟨"TBL_EM_INSERTS", 0xC0010C, 0x0, 1, false, .fixed 35, .fund, [⟨31, 0, .rc, 0⟩]⟩,
  ⟨"TBL_EM_DELETES", 0xC00110, 0x0, 1, false, .fixed 35, .fund, [⟨31, 0, .rc, 0⟩]⟩,
  ⟨"TBL_EM_RELOCATIONS", 0xC00114, 0x0, 1, false, .fixed 35, .fund, [⟨31, 0, .rc, 0⟩]⟩,
  ⟨"TBL_EM_REHASH", 0xC00118, 0x0, 1, false, .fixed 35, .fund, [⟨31, 0, .rc, 0⟩]⟩,
  ⟨"TBL_EM_PARITY", 0xC0011C, 0x0, 1, false, .fixed 35, .fund, [⟨31, 0, .rc, 0⟩]⟩,
  ⟨"TBL_EM_PAGE_PARKS", 0xC00120, 0x0, 1, false, .fixed 35, .fund, [⟨31, 0, .rc, 0⟩]⟩,
  ⟨"TBL_LPM_LOOKUPS", 0xC00124, 0x0, 1, false, .fixed 35, .fund, [⟨31, 0, .rc, 0⟩]⟩,
  ⟨"TBL_LPM_UPDATES", 0xC00128, 0x0, 1, false, .fixed 35, .fund, [⟨31, 0, .rc, 0⟩]⟩,
  ⟨"TBL_LPM_VRF_OFF", 0xC0012C, 0x0, 1, false, .fixed 35, .fund, [⟨31, 0, .rc, 0⟩]⟩,
  ⟨"TBL_LEARN_POSTED", 0xC00130, 0x0, 1, false, .fixed 35, .fund, [⟨31, 0, .rc, 0⟩]⟩,
  ⟨"TBL_LEARN_SUPPRESSED", 0xC00134, 0x0, 1, false, .fixed 35, .fund, [⟨31, 0, .rc, 0⟩]⟩,
  ⟨"TBL_LEARN_RATE_DROPS", 0xC00138, 0x0, 1, false, .fixed 35, .fund, [⟨31, 0, .rc, 0⟩]⟩,
  ⟨"TBL_AGED_POSTED", 0xC0013C, 0x0, 1, false, .fixed 35, .fund, [⟨31, 0, .rc, 0⟩]⟩]

def regsSWX : List RegDef := [
  ⟨"SWX_BLK_CTL", 0xD00000, 0x0, 1, false, .fixed 32, .fund, [⟨31, 31, .w1s, 0⟩, ⟨0, 0, .rw, 0⟩]⟩,
  ⟨"SWX_BLK_STATUS", 0xD00004, 0x0, 1, false, .fixed 32, .fund, [⟨31, 16, .ro, 0⟩, ⟨1, 1, .ro, 0⟩, ⟨0, 0, .ro, 0⟩]⟩,
  ⟨"SWX_CNT_SEL", 0xD00010, 0x0, 1, false, .fixed 32, .fund, [⟨31, 31, .ro, 0⟩, ⟨30, 30, .w1s, 0⟩, ⟨17, 0, .rw, 0⟩]⟩,
  ⟨"SWX_CNT_PKTS_LO", 0xD00018, 0x0, 1, false, .fixed 32, .fund, [⟨31, 0, .ro, 0⟩]⟩,
  ⟨"SWX_CNT_PKTS_HI", 0xD0001C, 0x0, 1, false, .fixed 32, .fund, [⟨31, 0, .ro, 0⟩]⟩,
  ⟨"SWX_CNT_BYTES_LO", 0xD00020, 0x0, 1, false, .fixed 32, .fund, [⟨31, 0, .ro, 0⟩]⟩,
  ⟨"SWX_CNT_BYTES_HI", 0xD00024, 0x0, 1, false, .fixed 32, .fund, [⟨31, 0, .ro, 0⟩]⟩,
  ⟨"SWX_POL_SEL", 0xD00030, 0x0, 1, false, .fixed 32, .fund, [⟨13, 0, .rw, 0⟩]⟩,
  ⟨"SWX_POL_GREEN", 0xD00034, 0x0, 1, false, .fixed 32, .fund, [⟨31, 0, .ro, 0⟩]⟩,
  ⟨"SWX_POL_YELLOW", 0xD00038, 0x0, 1, false, .fixed 32, .fund, [⟨31, 0, .ro, 0⟩]⟩,
  ⟨"SWX_POL_RED", 0xD0003C, 0x0, 1, false, .fixed 32, .fund, [⟨31, 0, .ro, 0⟩]⟩,
  ⟨"SWX_NO_DEST", 0xD00100, 0x0, 1, false, .fixed 32, .fund, [⟨31, 0, .rc, 0⟩]⟩,
  ⟨"SWX_TRANSFER_LIMIT", 0xD00104, 0x0, 1, false, .fixed 32, .fund, [⟨31, 0, .rc, 0⟩]⟩,
  ⟨"SWX_RECIRC_LIMIT", 0xD00108, 0x0, 1, false, .fixed 32, .fund, [⟨31, 0, .rc, 0⟩]⟩,
  ⟨"SWX_SIDE_DROPS", 0xD0010C, 0x0, 1, false, .fixed 32, .fund, [⟨31, 0, .rc, 0⟩]⟩,
  ⟨"SWX_NO_MEMBER", 0xD00110, 0x0, 1, false, .fixed 32, .fund, [⟨31, 0, .rc, 0⟩]⟩,
  ⟨"SWX_TTL_TRAPS", 0xD00114, 0x0, 1, false, .fixed 32, .fund, [⟨31, 0, .rc, 0⟩]⟩,
  ⟨"SWX_DECAP_NONE", 0xD00118, 0x0, 1, false, .fixed 32, .fund, [⟨31, 0, .rc, 0⟩]⟩,
  ⟨"SWX_ORDER_TIMEOUTS", 0xD0011C, 0x0, 1, false, .fixed 32, .fund, [⟨31, 0, .rc, 0⟩]⟩,
  ⟨"SWX_EDIT_ERRORS", 0xD00200, 0x0, 1, false, .fixed 33, .fund, [⟨31, 0, .rc, 0⟩]⟩,
  ⟨"SWX_MIRROR_DROPS", 0xD00204, 0x0, 1, false, .fixed 33, .fund, [⟨31, 0, .rc, 0⟩]⟩]

def regsCLV : List RegDef := [
  ⟨"CLV_BLK_CTL", 0xE00000, 0x0, 1, false, .fixed 0, .fund, [⟨31, 31, .w1s, 0⟩, ⟨0, 0, .rw, 0⟩]⟩,
  ⟨"CLV_BLK_STATUS", 0xE00004, 0x0, 1, false, .fixed 0, .fund, [⟨31, 16, .ro, 0⟩, ⟨1, 1, .ro, 0⟩, ⟨0, 0, .ro, 0⟩]⟩,
  ⟨"CLV_NO_CLUSTER", 0xE00100, 0x0, 1, false, .fixed 0, .fund, [⟨31, 0, .rc, 0⟩]⟩,
  ⟨"CLV_CL_STATUS", 0xE80000, 0x8000, 16, false, .cluster, .island, [⟨31, 31, .ro, 0⟩, ⟨30, 30, .ro, 0⟩, ⟨29, 29, .ro, 0⟩, ⟨28, 28, .ro, 0⟩, ⟨14, 8, .ro, 0⟩, ⟨7, 0, .ro, 0⟩]⟩,
  ⟨"CLV_CL_CTL", 0xE80004, 0x8000, 16, false, .cluster, .island, [⟨0, 0, .w1s, 0⟩]⟩,
  ⟨"CLV_WDOG_CTL", 0xE80008, 0x8000, 16, false, .cluster, .island, [⟨31, 31, .rw, 0⟩, ⟨30, 30, .w1c, 0⟩, ⟨29, 16, .ro, 0⟩, ⟨15, 0, .rw, 1000⟩]⟩,
  ⟨"CLV_SSID", 0xE8000C, 0x8000, 16, false, .cluster, .island, [⟨31, 31, .ro, 0⟩, ⟨10, 0, .ro, 0⟩]⟩,
  ⟨"CLV_DISPATCH_DEPTH", 0xE80010, 0x8000, 16, false, .cluster, .island, [⟨12, 0, .ro, 0⟩]⟩,
  ⟨"CLV_DISPATCHED", 0xE80600, 0x8000, 16, false, .cluster, .island, [⟨31, 0, .rc, 0⟩]⟩,
  ⟨"CLV_DONE", 0xE80604, 0x8000, 16, false, .cluster, .island, [⟨31, 0, .rc, 0⟩]⟩,
  ⟨"CLV_DROPS", 0xE80608, 0x8000, 16, false, .cluster, .island, [⟨31, 0, .rc, 0⟩]⟩,
  ⟨"CLV_DONE_DROPS", 0xE8060C, 0x8000, 16, false, .cluster, .island, [⟨31, 0, .rc, 0⟩]⟩,
  ⟨"CLV_QUEUE_DROPS", 0xE80610, 0x8000, 16, false, .cluster, .island, [⟨31, 0, .rc, 0⟩]⟩,
  ⟨"CLV_FAULTS", 0xE80614, 0x8000, 16, false, .cluster, .island, [⟨31, 0, .rc, 0⟩]⟩,
  ⟨"CLV_ALL_WAITS", 0xE80618, 0x8000, 16, false, .cluster, .island, [⟨31, 0, .rc, 0⟩]⟩,
  ⟨"CLV_NOTIFY_DROPS", 0xE8061C, 0x8000, 16, false, .cluster, .island, [⟨31, 0, .rc, 0⟩]⟩,
  ⟨"CLV_WAKE_DISCARDS", 0xE80620, 0x8000, 16, false, .cluster, .island, [⟨31, 0, .rc, 0⟩]⟩,
  ⟨"CLV_FORCE_RELEASES", 0xE80624, 0x8000, 16, false, .cluster, .island, [⟨31, 0, .rc, 0⟩]⟩,
  ⟨"CLV_HANDBACKS", 0xE80628, 0x8000, 16, false, .cluster, .island, [⟨31, 0, .rc, 0⟩]⟩,
  ⟨"CLV_WDOG_EXPIRED", 0xE8062C, 0x8000, 16, false, .cluster, .island, [⟨31, 0, .rc, 0⟩]⟩]

def regsPSQ : List RegDef := [
  ⟨"PSQ_BLK_CTL", 0xF00000, 0x0, 1, false, .fixed 37, .fund, [⟨31, 31, .w1s, 0⟩, ⟨0, 0, .rw, 0⟩]⟩,
  ⟨"PSQ_BLK_STATUS", 0xF00004, 0x0, 1, false, .fixed 37, .fund, [⟨31, 16, .ro, 0⟩, ⟨1, 1, .ro, 0⟩, ⟨0, 0, .ro, 0⟩]⟩,
  ⟨"PSQ_GROUP_STATUS", 0xF00010, 0x4, 4, false, .fixed 37, .fund, [⟨31, 31, .ro, 0⟩, ⟨30, 30, .ro, 0⟩, ⟨17, 17, .ro, 0⟩, ⟨16, 16, .ro, 0⟩, ⟨8, 8, .ro, 0⟩, ⟨7, 0, .ro, 0⟩]⟩,
  ⟨"PSQ_TRAP_PENDING", 0xF00020, 0x0, 1, false, .fixed 37, .fund, [⟨31, 0, .ro, 0⟩]⟩,
  ⟨"PSQ_SEQ_STATUS", 0xF00100, 0x4, 32, false, .fixed 37, .fund, [⟨31, 31, .ro, 0⟩, ⟨30, 28, .ro, 0⟩, ⟨27, 27, .ro, 0⟩, ⟨26, 16, .ro, 0⟩, ⟨13, 0, .ro, 0⟩]⟩,
  ⟨"PSQ_TRAP_CTL", 0xF00200, 0x4, 32, false, .fixed 37, .fund, [⟨31, 31, .w1s, 0⟩, ⟨4, 4, .rw, 0⟩, ⟨1, 0, .rw, 0⟩]⟩,
  ⟨"PSQ_ROUTINES", 0xF00400, 0x0, 1, false, .fixed 37, .fund, [⟨31, 0, .rc, 0⟩]⟩,
  ⟨"PSQ_TRAPS", 0xF00404, 0x0, 1, false, .fixed 37, .fund, [⟨31, 0, .rc, 0⟩]⟩,
  ⟨"PSQ_RX_DROPS", 0xF00408, 0x0, 1, false, .fixed 37, .fund, [⟨31, 0, .rc, 0⟩]⟩,
  ⟨"PSQ_NO_CONN", 0xF0040C, 0x0, 1, false, .fixed 37, .fund, [⟨31, 0, .rc, 0⟩]⟩,
  ⟨"PSQ_END_DROPS", 0xF00410, 0x0, 1, false, .fixed 37, .fund, [⟨31, 0, .rc, 0⟩]⟩,
  ⟨"PSQ_ICRC_BAD", 0xF00414, 0x0, 1, false, .fixed 37, .fund, [⟨31, 0, .rc, 0⟩]⟩,
  ⟨"PSQ_RETRANSMITS", 0xF00418, 0x0, 1, false, .fixed 37, .fund, [⟨31, 0, .rc, 0⟩]⟩,
  ⟨"PSQ_NAKS_SENT", 0xF0041C, 0x0, 1, false, .fixed 37, .fund, [⟨31, 0, .rc, 0⟩]⟩,
  ⟨"PSQ_CNP_SENT", 0xF00420, 0x0, 1, false, .fixed 37, .fund, [⟨31, 0, .rc, 0⟩]⟩,
  ⟨"PSQ_CNP_RECEIVED", 0xF00424, 0x0, 1, false, .fixed 37, .fund, [⟨31, 0, .rc, 0⟩]⟩,
  ⟨"PSQ_TCP_RETRANSMITS", 0xF00428, 0x0, 1, false, .fixed 37, .fund, [⟨31, 0, .rc, 0⟩]⟩,
  ⟨"PSQ_DIGEST_ERRORS", 0xF0042C, 0x0, 1, false, .fixed 37, .fund, [⟨31, 0, .rc, 0⟩]⟩,
  ⟨"PSQ_FLUSHED", 0xF00430, 0x0, 1, false, .fixed 37, .fund, [⟨31, 0, .rc, 0⟩]⟩,
  ⟨"PSQ_CONN_FAILURES", 0xF00434, 0x0, 1, false, .fixed 37, .fund, [⟨31, 0, .rc, 0⟩]⟩,
  ⟨"PSQ_CONNECTIONS", 0xF00438, 0x0, 1, false, .fixed 37, .fund, [⟨31, 0, .ro, 0⟩]⟩]

def regsSAF : List RegDef := [
  ⟨"SAF_BLK_CTL", 0x1000000, 0x0, 1, false, .fixed 36, .fund, [⟨31, 31, .w1s, 0⟩, ⟨0, 0, .rw, 0⟩]⟩,
  ⟨"SAF_BLK_STATUS", 0x1000004, 0x0, 1, false, .fixed 36, .fund, [⟨31, 16, .ro, 0⟩, ⟨1, 1, .ro, 0⟩, ⟨0, 0, .ro, 0⟩]⟩,
  ⟨"SAF_ROOT_LOADED", 0x1000010, 0x4, 2, false, .fixed 36, .fund, [⟨31, 0, .ro, 0⟩]⟩,
  ⟨"SAF_ASSOC_SEL", 0x1000018, 0x0, 1, false, .fixed 36, .fund, [⟨31, 31, .ro, 0⟩, ⟨19, 0, .rw, 0⟩]⟩,
  ⟨"SAF_ASSOC_WORD", 0x1000020, 0x4, 12, false, .fixed 36, .fund, [⟨31, 0, .ro, 0⟩]⟩,
  ⟨"SAF_CACHE_VALID", 0x1000060, 0x0, 1, false, .fixed 36, .fund, [⟨31, 0, .ro, 0⟩]⟩,
  ⟨"SAF_DERIVATIONS", 0x1000100, 0x0, 1, false, .fixed 36, .fund, [⟨31, 0, .rc, 0⟩]⟩,
  ⟨"SAF_CACHE_MISSES", 0x1000104, 0x0, 1, false, .fixed 36, .fund, [⟨31, 0, .rc, 0⟩]⟩,
  ⟨"SAF_AUTH_FAIL", 0x1000108, 0x0, 1, false, .fixed 36, .fund, [⟨31, 0, .rc, 0⟩]⟩,
  ⟨"SAF_REPLAY_DROPS", 0x100010C, 0x0, 1, false, .fixed 36, .fund, [⟨31, 0, .rc, 0⟩]⟩,
  ⟨"SAF_PAD_BAD", 0x1000110, 0x0, 1, false, .fixed 36, .fund, [⟨31, 0, .rc, 0⟩]⟩,
  ⟨"SAF_FORMAT", 0x1000114, 0x0, 1, false, .fixed 36, .fund, [⟨31, 0, .rc, 0⟩]⟩,
  ⟨"SAF_NO_ASSOC", 0x1000118, 0x0, 1, false, .fixed 36, .fund, [⟨31, 0, .rc, 0⟩]⟩,
  ⟨"SAF_SEQ_EXHAUSTED", 0x100011C, 0x0, 1, false, .fixed 36, .fund, [⟨31, 0, .rc, 0⟩]⟩,
  ⟨"SAF_UNWRAP_FAIL", 0x1000120, 0x0, 1, false, .fixed 36, .fund, [⟨31, 0, .rc, 0⟩]⟩,
  ⟨"SAF_KEYUPDATE_HOLDS", 0x1000124, 0x0, 1, false, .fixed 36, .fund, [⟨31, 0, .rc, 0⟩]⟩,
  ⟨"SAF_ASSOCS_IN_USE", 0x1000128, 0x0, 1, false, .fixed 36, .fund, [⟨31, 0, .ro, 0⟩]⟩]

def regsFRS : List RegDef := [
  ⟨"FRS_BLK_CTL", 0x1100000, 0x0, 1, false, .fixed 33, .fund, [⟨31, 31, .w1s, 0⟩, ⟨0, 0, .rw, 0⟩]⟩,
  ⟨"FRS_BLK_STATUS", 0x1100004, 0x0, 1, false, .fixed 33, .fund, [⟨31, 16, .ro, 0⟩, ⟨1, 1, .ro, 0⟩, ⟨0, 0, .ro, 0⟩]⟩,
  ⟨"FRS_NODE_SEL", 0x1100010, 0x0, 1, false, .fixed 33, .fund, [⟨31, 31, .ro, 0⟩, ⟨15, 0, .rw, 0⟩]⟩,
  ⟨"FRS_NODE_WORD", 0x1100020, 0x4, 8, false, .fixed 33, .fund, [⟨31, 0, .ro, 0⟩]⟩,
  ⟨"FRS_INST_SEL", 0x1100040, 0x0, 1, false, .fixed 33, .fund, [⟨10, 0, .rw, 0⟩]⟩,
  ⟨"FRS_INST_DEFAULT", 0x1100044, 0x0, 1, false, .fixed 33, .fund, [⟨15, 0, .ro, 0⟩]⟩,
  ⟨"FRS_GCL_STATUS", 0x1100080, 0x4, 8, false, .fixed 33, .fund, [⟨31, 31, .ro, 0⟩, ⟨30, 30, .ro, 0⟩, ⟨29, 29, .ro, 0⟩, ⟨26, 16, .ro, 0⟩, ⟨9, 0, .ro, 0⟩]⟩,
  ⟨"FRS_FRAMES", 0x1100100, 0x0, 1, false, .fixed 33, .fund, [⟨31, 0, .rc, 0⟩]⟩,
  ⟨"FRS_LEAF_MISMATCH", 0x1100104, 0x0, 1, false, .fixed 33, .fund, [⟨31, 0, .rc, 0⟩]⟩,
  ⟨"FRS_LEAF_DROPS", 0x1100108, 0x0, 1, false, .fixed 33, .fund, [⟨31, 0, .rc, 0⟩]⟩,
  ⟨"FRS_GATE_OVERSIZE", 0x110010C, 0x0, 1, false, .fixed 33, .fund, [⟨31, 0, .rc, 0⟩]⟩,
  ⟨"FRS_GUARD_HOLDS", 0x1100110, 0x0, 1, false, .fixed 33, .fund, [⟨31, 0, .rc, 0⟩]⟩,
  ⟨"FRS_GCL_SWITCHES", 0x1100114, 0x0, 1, false, .fixed 33, .fund, [⟨31, 0, .rc, 0⟩]⟩,
  ⟨"FRS_GCL_RESYNC", 0x1100118, 0x0, 1, false, .fixed 33, .fund, [⟨31, 0, .rc, 0⟩]⟩,
  ⟨"FRS_TELEMETRY_POSTED", 0x110011C, 0x0, 1, false, .fixed 33, .fund, [⟨31, 0, .rc, 0⟩]⟩]

def regsMAC : List RegDef := [
  ⟨"MAC_BLK_CTL", 0x1200000, 0x0, 1, false, .fixed 44, .fund, [⟨31, 31, .w1s, 0⟩, ⟨0, 0, .rw, 0⟩]⟩,
  ⟨"MAC_BLK_STATUS", 0x1200004, 0x0, 1, false, .fixed 44, .fund, [⟨31, 16, .ro, 0⟩, ⟨1, 1, .ro, 0⟩, ⟨0, 0, .ro, 0⟩]⟩,
  ⟨"MAC_MODE", 0x1200010, 0x0, 1, false, .fixed 44, .fund, [⟨31, 31, .ro, 0⟩, ⟨15, 8, .ro, 0⟩, ⟨2, 0, .ro, 0⟩]⟩,
  ⟨"MAC_PORT_STATUS", 0x1200100, 0x4, 8, false, .fixed 44, .fund, [⟨31, 31, .ro, 0⟩, ⟨30, 30, .ro, 0⟩, ⟨29, 29, .w1c, 0⟩, ⟨19, 16, .ro, 0⟩, ⟨15, 8, .ro, 0⟩, ⟨7, 0, .ro, 0⟩]⟩,
  ⟨"MAC_FC_STATE", 0x1200140, 0x4, 8, false, .fixed 44, .fund, [⟨15, 8, .ro, 0⟩, ⟨7, 0, .ro, 0⟩]⟩,
  ⟨"MAC_STAT", 0x1210000, 0x8, 1024, true, .fixed 44, .fund, [⟨63, 0, .ro, 0⟩]⟩]

def regsMGP : List RegDef := [
  ⟨"MGP_BLK_CTL", 0x1300000, 0x0, 1, false, .fixed 47, .cold, [⟨31, 31, .w1s, 0⟩, ⟨0, 0, .rw, 0⟩]⟩,
  ⟨"MGP_BLK_STATUS", 0x1300004, 0x0, 1, false, .fixed 47, .cold, [⟨31, 16, .ro, 0⟩, ⟨1, 1, .ro, 0⟩, ⟨0, 0, .ro, 0⟩]⟩,
  ⟨"MGP_CFG", 0x1300010, 0x0, 1, false, .fixed 47, .cold, [⟨31, 31, .rw, 0⟩, ⟨5, 4, .rw, 0⟩, ⟨0, 0, .rw, 0⟩]⟩,
  ⟨"MGP_STATUS", 0x1300014, 0x0, 1, false, .fixed 47, .cold, [⟨31, 31, .ro, 0⟩, ⟨5, 4, .ro, 0⟩, ⟨0, 0, .ro, 0⟩]⟩,
  ⟨"MGP_MAC_LO", 0x1300018, 0x0, 1, false, .fixed 47, .cold, [⟨31, 0, .ro, 0⟩]⟩,
  ⟨"MGP_MAC_HI", 0x130001C, 0x0, 1, false, .fixed 47, .cold, [⟨31, 0, .ro, 0⟩]⟩,
  ⟨"MGP_SMB_CFG", 0x1300020, 0x0, 1, false, .fixed 47, .cold, [⟨8, 8, .rwl, 0⟩, ⟨6, 0, .rwl, 50⟩]⟩,
  ⟨"MGP_RX_OTHER", 0x1300100, 0x0, 1, false, .fixed 47, .cold, [⟨31, 0, .rc, 0⟩]⟩,
  ⟨"MGP_LATE_COLL", 0x1300104, 0x0, 1, false, .fixed 47, .cold, [⟨31, 0, .rc, 0⟩]⟩,
  ⟨"MGP_EXCESS_COLL", 0x1300108, 0x0, 1, false, .fixed 47, .cold, [⟨31, 0, .rc, 0⟩]⟩,
  ⟨"MGP_COLLISIONS", 0x130010C, 0x0, 1, false, .fixed 47, .cold, [⟨31, 0, .rc, 0⟩]⟩,
  ⟨"MGP_MCTP_DROPS", 0x1300110, 0x0, 1, false, .fixed 47, .cold, [⟨31, 0, .rc, 0⟩]⟩,
  ⟨"MGP_SMB_ERRORS", 0x1300114, 0x0, 1, false, .fixed 47, .cold, [⟨31, 0, .rc, 0⟩]⟩]

def regsTIM : List RegDef := [
  ⟨"TIM_BLK_CTL", 0x1400000, 0x0, 1, false, .fixed 46, .cold, [⟨31, 31, .w1s, 0⟩, ⟨0, 0, .rw, 0⟩]⟩,
  ⟨"TIM_BLK_STATUS", 0x1400004, 0x0, 1, false, .fixed 46, .cold, [⟨31, 16, .ro, 0⟩, ⟨1, 1, .ro, 0⟩, ⟨0, 0, .ro, 0⟩]⟩,
  ⟨"TIM_STATUS", 0x1400010, 0x0, 1, false, .fixed 46, .cold, [⟨31, 31, .ro, 0⟩, ⟨30, 30, .ro, 0⟩, ⟨29, 29, .ro, 0⟩, ⟨28, 28, .ro, 0⟩]⟩,
  ⟨"TIM_SNAP_CTL", 0x1400014, 0x0, 1, false, .fixed 46, .cold, [⟨31, 31, .ro, 0⟩, ⟨0, 0, .w1s, 0⟩]⟩,
  ⟨"TIM_SNAP_SEC_LO", 0x1400018, 0x0, 1, false, .fixed 46, .cold, [⟨31, 0, .ro, 0⟩]⟩,
  ⟨"TIM_SNAP_SEC_HI", 0x140001C, 0x0, 1, false, .fixed 46, .cold, [⟨15, 0, .ro, 0⟩]⟩,
  ⟨"TIM_SNAP_NS", 0x1400020, 0x0, 1, false, .fixed 46, .cold, [⟨31, 0, .ro, 0⟩]⟩,
  ⟨"TIM_SNAP_FRAC", 0x1400024, 0x0, 1, false, .fixed 46, .cold, [⟨7, 0, .ro, 0⟩]⟩,
  ⟨"TIM_FREQ", 0x1400028, 0x0, 1, false, .fixed 46, .cold, [⟨31, 0, .ro, 0⟩]⟩,
  ⟨"TIM_INCR", 0x140002C, 0x0, 1, false, .fixed 46, .cold, [⟨31, 0, .ro, 0⟩]⟩,
  ⟨"TIM_CAL_STATUS", 0x1400030, 0x0, 1, false, .fixed 46, .cold, [⟨31, 29, .ro, 0⟩, ⟨26, 24, .ro, 0⟩, ⟨22, 20, .ro, 0⟩, ⟨17, 16, .ro, 3⟩]⟩,
  ⟨"TIM_CAL_SEQ", 0x1400034, 0x0, 1, false, .fixed 46, .cold, [⟨31, 0, .ro, 0⟩]⟩,
  ⟨"TIM_PORT_CFG", 0x1400040, 0x4, 8, false, .fixed 46, .cold, [⟨0, 0, .rw, 0⟩]⟩,
  ⟨"TIM_PPS_STATUS", 0x1400060, 0x0, 1, false, .fixed 46, .cold, [⟨31, 31, .ro, 0⟩, ⟨9, 0, .ro, 0⟩]⟩,
  ⟨"TIM_IN_CFG", 0x140006C, 0x0, 1, false, .fixed 46, .cold, [⟨31, 31, .w1c, 0⟩, ⟨30, 30, .w1c, 0⟩, ⟨1, 1, .rw, 0⟩, ⟨0, 0, .rw, 0⟩]⟩,
  ⟨"TIM_IN_SEC_LO", 0x1400070, 0x0, 1, false, .fixed 46, .cold, [⟨31, 0, .ro, 0⟩]⟩,
  ⟨"TIM_IN_SEC_HI", 0x1400074, 0x0, 1, false, .fixed 46, .cold, [⟨15, 0, .ro, 0⟩]⟩,
  ⟨"TIM_IN_NS", 0x1400078, 0x0, 1, false, .fixed 46, .cold, [⟨31, 0, .ro, 0⟩]⟩,
  ⟨"TIM_IN_FRAC", 0x140007C, 0x0, 1, false, .fixed 46, .cold, [⟨7, 0, .ro, 0⟩]⟩,
  ⟨"TIM_PTM_CFG", 0x1400080, 0x0, 1, false, .fixed 46, .cold, [⟨31, 31, .w1c, 0⟩, ⟨16, 16, .rw, 0⟩, ⟨9, 0, .rw, 1000⟩]⟩,
  ⟨"TIM_PTM_HOST_LO", 0x1400084, 0x0, 1, false, .fixed 46, .cold, [⟨31, 0, .ro, 0⟩]⟩,
  ⟨"TIM_PTM_HOST_HI", 0x1400088, 0x0, 1, false, .fixed 46, .cold, [⟨31, 0, .ro, 0⟩]⟩,
  ⟨"TIM_PTM_DEV_SEC_LO", 0x140008C, 0x0, 1, false, .fixed 46, .cold, [⟨31, 0, .ro, 0⟩]⟩,
  ⟨"TIM_PTM_DEV_SEC_HI", 0x1400090, 0x0, 1, false, .fixed 46, .cold, [⟨15, 0, .ro, 0⟩]⟩,
  ⟨"TIM_PTM_DEV_NS", 0x1400094, 0x0, 1, false, .fixed 46, .cold, [⟨31, 0, .ro, 0⟩]⟩,
  ⟨"TIM_PTM_DEV_FRAC", 0x1400098, 0x0, 1, false, .fixed 46, .cold, [⟨7, 0, .ro, 0⟩]⟩,
  ⟨"TIM_SIDE_SEL", 0x14000A0, 0x0, 1, false, .fixed 46, .cold, [⟨31, 31, .ro, 0⟩, ⟨15, 0, .rw, 0⟩]⟩,
  ⟨"TIM_SIDE_WORD", 0x14000A4, 0x4, 4, false, .fixed 46, .cold, [⟨31, 0, .ro, 0⟩]⟩,
  ⟨"TIM_STEPS", 0x1400100, 0x0, 1, false, .fixed 46, .cold, [⟨31, 0, .rc, 0⟩]⟩,
  ⟨"TIM_PPS_EDGES", 0x1400104, 0x0, 1, false, .fixed 46, .cold, [⟨31, 0, .rc, 0⟩]⟩,
  ⟨"TIM_IN_CAPTURES", 0x1400108, 0x0, 1, false, .fixed 46, .cold, [⟨31, 0, .rc, 0⟩]⟩,
  ⟨"TIM_ONE_STEP", 0x140010C, 0x0, 1, false, .fixed 46, .cold, [⟨31, 0, .rc, 0⟩]⟩,
  ⟨"TIM_SIDE_RECORDS", 0x1400110, 0x0, 1, false, .fixed 46, .cold, [⟨31, 0, .rc, 0⟩]⟩,
  ⟨"TIM_PTM_FAILS", 0x1400114, 0x0, 1, false, .fixed 46, .cold, [⟨31, 0, .rc, 0⟩]⟩,
  ⟨"TIM_DM_SEC_LO", 0x1400200, 0x0, 1, false, .fixed 47, .cold, [⟨31, 0, .ro, 0⟩]⟩,
  ⟨"TIM_DM_SEC_HI", 0x1400204, 0x0, 1, false, .fixed 47, .cold, [⟨15, 0, .ro, 0⟩]⟩,
  ⟨"TIM_DM_SUB", 0x1400208, 0x0, 1, false, .fixed 47, .cold, [⟨14, 0, .ro, 0⟩]⟩,
  ⟨"TIM_DM_CFG", 0x140020C, 0x0, 1, false, .fixed 47, .cold, [⟨0, 0, .rw, 1⟩]⟩,
  ⟨"TIM_DM_STATUS", 0x1400210, 0x0, 1, false, .fixed 47, .cold, [⟨31, 31, .ro, 0⟩, ⟨30, 30, .w1c, 0⟩, ⟨29, 29, .w1c, 0⟩, ⟨28, 28, .ro, 0⟩]⟩,
  ⟨"TIM_DM_ALARM_LO", 0x1400214, 0x0, 1, false, .fixed 47, .cold, [⟨31, 0, .ro, 0⟩]⟩,
  ⟨"TIM_DM_ALARM_HI", 0x1400218, 0x0, 1, false, .fixed 47, .cold, [⟨31, 0, .ro, 0⟩]⟩]

def regsLAN : List RegDef := [
  ⟨"LAN_BLK_CTL", 0x1500000, 0x0, 1, false, .fixed 16, .fund, [⟨31, 31, .w1s, 0⟩, ⟨0, 0, .rw, 0⟩]⟩,
  ⟨"LAN_BLK_STATUS", 0x1500004, 0x0, 1, false, .fixed 16, .fund, [⟨31, 16, .ro, 0⟩, ⟨1, 1, .ro, 0⟩, ⟨0, 0, .ro, 0⟩]⟩,
  ⟨"LAN_ALLOWANCE", 0x1500010, 0x0, 1, false, .fixed 16, .fund, [⟨8, 0, .ro, 312⟩]⟩,
  ⟨"LAN_CAP_SUM", 0x1500014, 0x0, 1, false, .fixed 16, .fund, [⟨8, 0, .ro, 0⟩]⟩,
  ⟨"LAN_REGION_STATUS", 0x1501000, 0x100, 16, false, .region, .island, [⟨31, 28, .ro, 0⟩, ⟨27, 12, .ro, 0⟩, ⟨10, 0, .ro, 0⟩]⟩,
  ⟨"LAN_IMAGE_ID", 0x1501004, 0x100, 16, false, .region, .island, [⟨31, 0, .ro, 0⟩]⟩,
  ⟨"LAN_POWER", 0x1501008, 0x100, 16, false, .region, .island, [⟨31, 26, .ro, 16⟩, ⟨25, 24, .ro, 0⟩, ⟨23, 14, .ro, 0⟩, ⟨11, 0, .ro, 0⟩]⟩,
  ⟨"LAN_RANGE", 0x150100C, 0x100, 16, false, .region, .island, [⟨21, 0, .ro, 0⟩]⟩,
  ⟨"LAN_IN_FRAMES", 0x1501040, 0x100, 16, false, .region, .island, [⟨31, 0, .rc, 0⟩]⟩,
  ⟨"LAN_OUT_FRAMES", 0x1501044, 0x100, 16, false, .region, .island, [⟨31, 0, .rc, 0⟩]⟩,
  ⟨"LAN_BYPASS", 0x1501048, 0x100, 16, false, .region, .island, [⟨31, 0, .rc, 0⟩]⟩,
  ⟨"LAN_TIMEOUTS", 0x150104C, 0x100, 16, false, .region, .island, [⟨31, 0, .rc, 0⟩]⟩,
  ⟨"LAN_LATE_RETURNS", 0x1501050, 0x100, 16, false, .region, .island, [⟨31, 0, .rc, 0⟩]⟩,
  ⟨"LAN_BAD_TOKEN", 0x1501054, 0x100, 16, false, .region, .island, [⟨31, 0, .rc, 0⟩]⟩,
  ⟨"LAN_BAD_VERDICT", 0x1501058, 0x100, 16, false, .region, .island, [⟨31, 0, .rc, 0⟩]⟩,
  ⟨"LAN_MEM_FAULTS", 0x150105C, 0x100, 16, false, .region, .island, [⟨31, 0, .rc, 0⟩]⟩,
  ⟨"LAN_SCRUB_CE", 0x1501060, 0x100, 16, false, .region, .island, [⟨31, 0, .rc, 0⟩]⟩,
  ⟨"LAN_THROTTLES", 0x1501064, 0x100, 16, false, .region, .island, [⟨31, 0, .rc, 0⟩]⟩,
  ⟨"LAN_TRIPS", 0x1501068, 0x100, 16, false, .region, .island, [⟨31, 0, .rc, 0⟩]⟩,
  ⟨"LAN_REG_TIMEOUTS", 0x150106C, 0x100, 16, false, .region, .island, [⟨31, 0, .rc, 0⟩]⟩,
  ⟨"LAN_MBX_ERRORS", 0x1501070, 0x100, 16, false, .region, .island, [⟨31, 0, .rc, 0⟩]⟩]

def regsSPR : List RegDef := [
  ⟨"SPR_BLK_CTL", 0x1600000, 0x0, 1, false, .fixed 45, .fund, [⟨31, 31, .w1s, 0⟩, ⟨0, 0, .rw, 0⟩]⟩,
  ⟨"SPR_BLK_STATUS", 0x1600004, 0x0, 1, false, .fixed 45, .fund, [⟨31, 16, .ro, 0⟩, ⟨1, 1, .ro, 0⟩, ⟨0, 0, .ro, 0⟩]⟩,
  ⟨"SPR_STATUS", 0x1600010, 0x0, 1, false, .fixed 45, .fund, [⟨31, 31, .ro, 0⟩, ⟨30, 30, .ro, 0⟩, ⟨29, 29, .ro, 0⟩, ⟨28, 28, .ro, 0⟩, ⟨27, 24, .ro, 0⟩, ⟨11, 0, .ro, 0⟩]⟩,
  ⟨"SPR_FABRIC_ID", 0x1600014, 0x0, 1, false, .fixed 45, .fund, [⟨31, 0, .ro, 0⟩]⟩,
  ⟨"SPR_EPOCH", 0x1600018, 0x0, 1, false, .fixed 45, .fund, [⟨17, 17, .ro, 0⟩, ⟨16, 16, .ro, 0⟩, ⟨15, 0, .ro, 0⟩]⟩,
  ⟨"SPR_CFG", 0x160001C, 0x0, 1, false, .fixed 45, .fund, [⟨15, 0, .rw, 1000⟩]⟩,
  ⟨"SPR_PORT_STATUS", 0x1600020, 0x4, 4, false, .fixed 45, .fund, [⟨31, 31, .ro, 0⟩, ⟨30, 30, .ro, 0⟩, ⟨29, 29, .ro, 0⟩, ⟨28, 28, .ro, 0⟩, ⟨23, 12, .ro, 0⟩, ⟨11, 8, .ro, 0⟩, ⟨3, 0, .ro, 0⟩]⟩,
  ⟨"SPR_NBR_SERIAL_LO", 0x1600040, 0x8, 4, false, .fixed 45, .fund, [⟨31, 0, .ro, 0⟩]⟩,
  ⟨"SPR_NBR_SERIAL_HI", 0x1600044, 0x8, 4, false, .fixed 45, .fund, [⟨31, 0, .ro, 0⟩]⟩,
  ⟨"SPR_CHAN_MAP", 0x1600100, 0x8, 64, false, .fixed 45, .fund, [⟨31, 31, .rw, 0⟩, ⟨30, 30, .rw, 0⟩, ⟨23, 12, .rw, 0⟩, ⟨5, 0, .rw, 0⟩]⟩,
  ⟨"SPR_CHAN_BASE", 0x1600104, 0x8, 64, false, .fixed 45, .fund, [⟨21, 0, .rw, 0⟩]⟩,
  ⟨"SPR_REPLAYS", 0x1600300, 0x0, 1, false, .fixed 45, .fund, [⟨31, 0, .rc, 0⟩]⟩,
  ⟨"SPR_RETRAIN_DROPS", 0x1600304, 0x0, 1, false, .fixed 45, .fund, [⟨31, 0, .rc, 0⟩]⟩,
  ⟨"SPR_DEGRADES", 0x1600308, 0x0, 1, false, .fixed 45, .fund, [⟨31, 0, .rc, 0⟩]⟩,
  ⟨"SPR_HOP_DROPS", 0x160030C, 0x0, 1, false, .fixed 45, .fund, [⟨31, 0, .rc, 0⟩]⟩,
  ⟨"SPR_FOREIGN_BEACONS", 0x1600310, 0x0, 1, false, .fixed 45, .fund, [⟨31, 0, .rc, 0⟩]⟩,
  ⟨"SPR_EPOCH_DROPS", 0x1600314, 0x0, 1, false, .fixed 45, .fund, [⟨31, 0, .rc, 0⟩]⟩,
  ⟨"SPR_NO_ROUTE", 0x1600318, 0x0, 1, false, .fixed 45, .fund, [⟨31, 0, .rc, 0⟩]⟩,
  ⟨"SPR_MBX_REJECTED", 0x160031C, 0x0, 1, false, .fixed 45, .fund, [⟨31, 0, .rc, 0⟩]⟩,
  ⟨"SPR_GRANT_DENIED", 0x1600320, 0x0, 1, false, .fixed 45, .fund, [⟨31, 0, .rc, 0⟩]⟩,
  ⟨"SPR_LATE_RESPONSES", 0x1600324, 0x0, 1, false, .fixed 45, .fund, [⟨31, 0, .rc, 0⟩]⟩,
  ⟨"SPR_TIME_STEPS", 0x1600328, 0x0, 1, false, .fixed 45, .fund, [⟨31, 0, .rc, 0⟩]⟩]

def regsRAS : List RegDef := [
  ⟨"RAS_BLK_CTL", 0x1700000, 0x0, 1, false, .fixed 47, .cold, [⟨31, 31, .w1s, 0⟩, ⟨0, 0, .rw, 0⟩]⟩,
  ⟨"RAS_BLK_STATUS", 0x1700004, 0x0, 1, false, .fixed 47, .cold, [⟨31, 16, .ro, 0⟩, ⟨1, 1, .ro, 0⟩, ⟨0, 0, .ro, 0⟩]⟩,
  ⟨"RAS_FOGHORN", 0x1700010, 0x0, 1, false, .fixed 47, .cold, [⟨31, 31, .ro, 0⟩, ⟨4, 4, .w1c, 0⟩, ⟨3, 3, .w1c, 0⟩, ⟨2, 2, .w1c, 0⟩, ⟨1, 1, .w1c, 0⟩, ⟨0, 0, .w1c, 0⟩]⟩,
  ⟨"RAS_HEARTBEAT", 0x1700014, 0x0, 1, false, .fixed 47, .cold, [⟨31, 0, .wo, 0⟩]⟩,
  ⟨"RAS_HB_CFG", 0x1700018, 0x0, 1, false, .fixed 47, .cold, [⟨9, 0, .rw, 100⟩]⟩,
  ⟨"RAS_LOG_OLDEST", 0x170001C, 0x0, 1, false, .fixed 47, .cold, [⟨31, 0, .ro, 0⟩]⟩,
  ⟨"RAS_LOG_NEWEST", 0x1700020, 0x0, 1, false, .fixed 47, .cold, [⟨31, 0, .ro, 0⟩]⟩,
  ⟨"RAS_CNT_SEL", 0x1700024, 0x0, 1, false, .fixed 47, .cold, [⟨31, 31, .ro, 0⟩, ⟨15, 0, .rw, 0⟩]⟩,
  ⟨"RAS_CNT_VALUE", 0x1700028, 0x0, 1, false, .fixed 47, .cold, [⟨31, 31, .ro, 0⟩, ⟨30, 30, .ro, 0⟩, ⟨29, 29, .ro, 0⟩, ⟨28, 28, .ro, 0⟩, ⟨15, 0, .ro, 0⟩]⟩,
  ⟨"RAS_KIND_CFG", 0x1700044, 0x4, 8, false, .fixed 47, .cold, [⟨31, 31, .rw, 1⟩, ⟨30, 24, .rw, 75⟩, ⟨23, 16, .rw, 10⟩, ⟨15, 0, .rw, 256⟩]⟩,
  ⟨"RAS_RET_LINE", 0x1700100, 0x0, 1, false, .fixed 47, .cold, [⟨31, 0, .ro, 0⟩]⟩,
  ⟨"RAS_RET_SPAR", 0x1700104, 0x0, 1, false, .fixed 47, .cold, [⟨31, 0, .ro, 0⟩]⟩,
  ⟨"RAS_RET_CHAN", 0x1700108, 0x0, 1, false, .fixed 47, .cold, [⟨31, 0, .ro, 0⟩]⟩,
  ⟨"RAS_RET_CORE", 0x170010C, 0x4, 4, false, .fixed 47, .cold, [⟨31, 0, .ro, 0⟩]⟩,
  ⟨"RAS_RET_SEQ", 0x170011C, 0x0, 1, false, .fixed 47, .cold, [⟨31, 0, .ro, 0⟩]⟩,
  ⟨"RAS_RET_MISC", 0x1700120, 0x0, 1, false, .fixed 47, .cold, [⟨23, 20, .ro, 0⟩, ⟨17, 16, .ro, 0⟩, ⟨15, 0, .ro, 0⟩]⟩,
  ⟨"RAS_RETIREMENTS", 0x1700200, 0x0, 1, false, .fixed 47, .cold, [⟨31, 0, .rc, 0⟩]⟩,
  ⟨"RAS_RESTORES", 0x1700204, 0x0, 1, false, .fixed 47, .cold, [⟨31, 0, .rc, 0⟩]⟩,
  ⟨"RAS_LOG_RECORDS", 0x1700208, 0x0, 1, false, .fixed 47, .cold, [⟨31, 0, .rc, 0⟩]⟩,
  ⟨"RAS_TAKEOVERS", 0x170020C, 0x0, 1, false, .fixed 47, .cold, [⟨31, 0, .rc, 0⟩]⟩,
  ⟨"RAS_LIMIT_HOLDS", 0x1700210, 0x0, 1, false, .fixed 47, .cold, [⟨31, 0, .rc, 0⟩]⟩]

def regsTST : List RegDef := [
  ⟨"TST_BLK_CTL", 0x1800000, 0x0, 1, false, .fixed 42, .fund, [⟨31, 31, .w1s, 0⟩, ⟨0, 0, .rw, 0⟩]⟩,
  ⟨"TST_BLK_STATUS", 0x1800004, 0x0, 1, false, .fixed 42, .fund, [⟨31, 16, .ro, 0⟩, ⟨1, 1, .ro, 0⟩, ⟨0, 0, .ro, 0⟩]⟩,
  ⟨"TST_DBG_CFG", 0x1800010, 0x0, 1, false, .fixed 42, .fund, [⟨1, 0, .rwl, 2⟩]⟩,
  ⟨"TST_DBG_STATUS", 0x1800014, 0x0, 1, false, .fixed 42, .fund, [⟨31, 31, .ro, 0⟩, ⟨3, 2, .ro, 0⟩, ⟨1, 0, .ro, 2⟩]⟩,
  ⟨"TST_CLV_DBG_EN", 0x1800020, 0x0, 1, false, .fixed 42, .fund, [⟨31, 0, .rw, 0⟩]⟩,
  ⟨"TST_CLV_HALT", 0x1800100, 0x4, 128, false, .fixed 42, .fund, [⟨31, 0, .rw, 0⟩]⟩,
  ⟨"TST_CLV_TRACE_PTR", 0x1800300, 0x4, 16, false, .fixed 42, .fund, [⟨31, 31, .ro, 0⟩, ⟨10, 0, .ro, 0⟩]⟩,
  ⟨"TST_CLV_REG_SEL", 0x1800400, 0x0, 1, false, .fixed 42, .fund, [⟨19, 16, .rw, 0⟩, ⟨14, 8, .rw, 0⟩, ⟨5, 0, .rw, 0⟩]⟩,
  ⟨"TST_CLV_REG_DATA", 0x1800404, 0x0, 1, false, .fixed 42, .fund, [⟨31, 0, .rw, 0⟩]⟩,
  ⟨"TST_PLACEMENTS", 0x1800500, 0x0, 1, false, .fixed 42, .fund, [⟨31, 0, .rc, 0⟩]⟩,
  ⟨"TST_SELFTEST_FAILS", 0x1800504, 0x0, 1, false, .fixed 42, .fund, [⟨31, 0, .rc, 0⟩]⟩,
  ⟨"TST_DBG_REFUSED", 0x1800508, 0x0, 1, false, .fixed 42, .fund, [⟨31, 0, .rc, 0⟩]⟩,
  ⟨"TST_TRACE_DROPS", 0x180050C, 0x0, 1, false, .fixed 42, .fund, [⟨31, 0, .rc, 0⟩]⟩,
  ⟨"TST_LANE_CTL", 0x1801000, 0x40, 49, false, .fixed 42, .fund, [⟨31, 31, .rw, 0⟩, ⟨30, 30, .rw, 0⟩, ⟨29, 29, .w1s, 0⟩, ⟨28, 28, .rw, 0⟩, ⟨27, 26, .rw, 0⟩, ⟨25, 25, .rw, 1⟩, ⟨23, 20, .rw, 5⟩, ⟨19, 0, .rw, 0⟩]⟩,
  ⟨"TST_LANE_STATUS", 0x1801004, 0x40, 49, false, .fixed 42, .fund, [⟨31, 16, .ro, 0⟩, ⟨4, 4, .ro, 0⟩, ⟨3, 3, .ro, 0⟩, ⟨2, 2, .ro, 0⟩, ⟨0, 0, .ro, 0⟩]⟩,
  ⟨"TST_USER_PAT_0", 0x1801008, 0x40, 49, false, .fixed 42, .fund, [⟨31, 0, .rw, 0⟩]⟩,
  ⟨"TST_USER_PAT_1", 0x180100C, 0x40, 49, false, .fixed 42, .fund, [⟨31, 0, .rw, 0⟩]⟩,
  ⟨"TST_USER_PAT_2", 0x1801010, 0x40, 49, false, .fixed 42, .fund, [⟨31, 0, .rw, 0⟩]⟩,
  ⟨"TST_USER_PAT_3", 0x1801014, 0x40, 49, false, .fixed 42, .fund, [⟨31, 0, .rw, 0⟩]⟩,
  ⟨"TST_BITS_LO", 0x1801018, 0x40, 49, false, .fixed 42, .fund, [⟨31, 0, .ro, 0⟩]⟩,
  ⟨"TST_BITS_HI", 0x180101C, 0x40, 49, false, .fixed 42, .fund, [⟨31, 0, .ro, 0⟩]⟩,
  ⟨"TST_ERRORS_LO", 0x1801020, 0x40, 49, false, .fixed 42, .fund, [⟨31, 0, .ro, 0⟩]⟩,
  ⟨"TST_ERRORS_HI", 0x1801024, 0x40, 49, false, .fixed 42, .fund, [⟨31, 0, .ro, 0⟩]⟩,
  ⟨"TST_LOCK_LOSSES", 0x1801028, 0x40, 49, false, .fixed 42, .fund, [⟨31, 0, .ro, 0⟩]⟩]

def regsPWR : List RegDef := [
  ⟨"PWR_BLK_CTL", 0x1900000, 0x0, 1, false, .fixed 47, .cold, [⟨31, 31, .w1s, 0⟩, ⟨0, 0, .rw, 0⟩]⟩,
  ⟨"PWR_BLK_STATUS", 0x1900004, 0x0, 1, false, .fixed 47, .cold, [⟨31, 16, .ro, 0⟩, ⟨1, 1, .ro, 0⟩, ⟨0, 0, .ro, 0⟩]⟩,
  ⟨"PWR_STATUS", 0x1900010, 0x0, 1, false, .fixed 47, .cold, [⟨31, 31, .ro, 0⟩, ⟨30, 30, .ro, 0⟩, ⟨29, 29, .ro, 0⟩, ⟨28, 28, .ro, 0⟩, ⟨27, 27, .ro, 0⟩, ⟨26, 26, .ro, 0⟩, ⟨15, 0, .ro, 0⟩]⟩,
  ⟨"PWR_STRAPS", 0x1900014, 0x0, 1, false, .fixed 47, .cold, [⟨3, 3, .ro, 0⟩, ⟨2, 2, .ro, 0⟩, ⟨1, 0, .ro, 0⟩]⟩,
  ⟨"PWR_THERM_CFG", 0x1900018, 0x0, 1, false, .fixed 47, .cold, [⟨15, 8, .rwl, 100⟩, ⟨7, 0, .rwl, 95⟩]⟩,
  ⟨"PWR_LIMIT", 0x190001C, 0x0, 1, false, .fixed 47, .cold, [⟨8, 0, .rw, 250⟩]⟩,
  ⟨"PWR_TOTAL", 0x1900020, 0x0, 1, false, .fixed 47, .cold, [⟨15, 0, .ro, 0⟩]⟩,
  ⟨"PWR_VBAT", 0x1900024, 0x0, 1, false, .fixed 47, .cold, [⟨11, 0, .ro, 0⟩]⟩,
  ⟨"PWR_RAIL", 0x1900100, 0x4, 14, false, .fixed 47, .cold, [⟨31, 31, .ro, 0⟩, ⟨27, 16, .ro, 0⟩, ⟨11, 0, .ro, 0⟩]⟩,
  ⟨"PWR_TEMP", 0x1900200, 0x4, 16, false, .fixed 47, .cold, [⟨15, 0, .ro, 0⟩]⟩,
  ⟨"PWR_EXCURSIONS", 0x1900300, 0x0, 1, false, .fixed 47, .cold, [⟨31, 0, .rc, 0⟩]⟩,
  ⟨"PWR_THROTTLES", 0x1900304, 0x0, 1, false, .fixed 47, .cold, [⟨31, 0, .rc, 0⟩]⟩,
  ⟨"PWR_TRIPS", 0x1900308, 0x0, 1, false, .fixed 47, .cold, [⟨31, 0, .rc, 0⟩]⟩]

def regsDNP : List RegDef := [
  ⟨"DNP_BLK_CTL", 0x1A00000, 0x0, 1, false, .fixed 45, .fund, [⟨31, 31, .w1s, 0⟩, ⟨0, 0, .rw, 0⟩]⟩,
  ⟨"DNP_BLK_STATUS", 0x1A00004, 0x0, 1, false, .fixed 45, .fund, [⟨31, 16, .ro, 0⟩, ⟨1, 1, .ro, 0⟩, ⟨0, 0, .ro, 0⟩]⟩,
  ⟨"DNP_SLOT_CTL", 0x1A00100, 0x40, 4, false, .fixed 45, .fund, [⟨10, 9, .rw, 3⟩, ⟨8, 7, .rw, 3⟩, ⟨6, 6, .rw, 0⟩, ⟨3, 3, .rw, 0⟩, ⟨2, 2, .rw, 0⟩, ⟨1, 1, .rw, 0⟩, ⟨0, 0, .rw, 0⟩]⟩,
  ⟨"DNP_SLOT_STATUS", 0x1A00104, 0x40, 4, false, .fixed 45, .fund, [⟨31, 16, .ro, 0⟩, ⟨8, 8, .ro, 0⟩, ⟨7, 7, .ro, 0⟩, ⟨6, 6, .ro, 0⟩, ⟨5, 5, .ro, 0⟩, ⟨4, 4, .w1c, 0⟩, ⟨3, 3, .w1c, 0⟩, ⟨2, 2, .w1c, 0⟩, ⟨1, 1, .w1c, 0⟩]⟩,
  ⟨"DNP_LINK_STATUS", 0x1A00108, 0x40, 4, false, .fixed 45, .fund, [⟨9, 9, .ro, 0⟩, ⟨8, 4, .ro, 0⟩, ⟨3, 0, .ro, 0⟩]⟩,
  ⟨"DNP_DPC_STATUS", 0x1A0010C, 0x40, 4, false, .fixed 45, .fund, [⟨31, 31, .w1c, 0⟩, ⟨18, 16, .ro, 0⟩, ⟨15, 0, .ro, 0⟩]⟩,
  ⟨"DNP_DPC_CTL", 0x1A00110, 0x40, 4, false, .fixed 45, .fund, [⟨2, 2, .w1s, 0⟩, ⟨1, 1, .rw, 1⟩, ⟨0, 0, .rw, 1⟩]⟩,
  ⟨"DNP_UPSTREAM_BAD", 0x1A00120, 0x40, 4, false, .fixed 45, .fund, [⟨31, 0, .rc, 0⟩]⟩,
  ⟨"DNP_DPC_COUNT", 0x1A00124, 0x40, 4, false, .fixed 45, .fund, [⟨31, 0, .rc, 0⟩]⟩,
  ⟨"DNP_AER_CORR", 0x1A00128, 0x40, 4, false, .fixed 45, .fund, [⟨31, 0, .rc, 0⟩]⟩]

def regsRCL : List RegDef := [
  ⟨"RCL_BLK_CTL", 0x1F00000, 0x0, 1, false, .fixed 42, .fund, [⟨31, 31, .w1s, 0⟩, ⟨0, 0, .rw, 0⟩]⟩,
  ⟨"RCL_BLK_STATUS", 0x1F00004, 0x0, 1, false, .fixed 42, .fund, [⟨31, 16, .ro, 0⟩, ⟨1, 1, .ro, 0⟩, ⟨0, 0, .ro, 0⟩]⟩,
  ⟨"RCL_QUERY_RES", 0x1F00010, 0x0, 1, false, .fixed 42, .fund, [⟨31, 0, .rw, 0⟩]⟩,
  ⟨"RCL_QUERY_HOLDER", 0x1F00014, 0x0, 1, false, .fixed 42, .fund, [⟨31, 0, .ro, 0⟩]⟩,
  ⟨"RCL_LAST_REFUSED_RES", 0x1F00018, 0x0, 1, false, .fixed 42, .fund, [⟨31, 0, .ro, 0⟩]⟩,
  ⟨"RCL_LAST_REFUSED_HOLDER", 0x1F0001C, 0x0, 1, false, .fixed 42, .fund, [⟨31, 0, .ro, 0⟩]⟩,
  ⟨"RCL_IN_USE", 0x1F00020, 0x0, 1, false, .fixed 42, .fund, [⟨31, 0, .ro, 0⟩]⟩,
  ⟨"RCL_REFUSALS", 0x1F00024, 0x0, 1, false, .fixed 42, .fund, [⟨31, 0, .rc, 0⟩]⟩]

/-- The rows of block number `b` (R13). -/
def blockRegs (b : Nat) : List RegDef :=
  match b with
  | 0x0 => regsGLB
  | 0x1 => regsHST
  | 0x2 => regsQMG
  | 0x3 => regsDMA
  | 0x4 => regsEVC
  | 0x5 => regsBUOY
  | 0x6 => regsINS
  | 0x7 => regsMEM
  | 0x8 => regsPGR
  | 0x9 => regsBPM
  | 0xA => regsPRS
  | 0xB => regsCLS
  | 0xC => regsTBL
  | 0xD => regsSWX
  | 0xE => regsCLV
  | 0xF => regsPSQ
  | 0x10 => regsSAF
  | 0x11 => regsFRS
  | 0x12 => regsMAC
  | 0x13 => regsMGP
  | 0x14 => regsTIM
  | 0x15 => regsLAN
  | 0x16 => regsSPR
  | 0x17 => regsRAS
  | 0x18 => regsTST
  | 0x19 => regsPWR
  | 0x1A => regsDNP
  | 0x1F => regsRCL
  | _ => []

end Sys2Proof.Machine
end

