-- ==== Sys2Proof/Machine/Util.lean ====
section
/-! DEFINITION. Bit fields (R5), little-endian structures (R6, R7), serial-number comparison (R774), CRC-32C (R382) and the
sparse maps that State is written in. -/

namespace Sys2Proof.Machine

/-- Bits [hi:lo] of n (R5). -/
def field (n hi lo : Nat) : Nat := (n >>> lo) % 2 ^ (hi + 1 - lo)

/-- n with bits [hi:lo] replaced by the low bits of v. -/
def putField (n hi lo v : Nat) : Nat :=
  n - (field n hi lo) * 2 ^ lo + (v % 2 ^ (hi + 1 - lo)) * 2 ^ lo

/-- Bit i of n. -/
def bitAt (n i : Nat) : Bool := n.testBit i

/-- 1 for true, 0 for false. -/
def b2n (b : Bool) : Nat := if b then 1 else 0

/-- The 32-bit word of value n mod 2^32. -/
def w32 (n : Nat) : Word := BitVec.ofNat 32 n

/-- Word i of a structure, 0 past its end. -/
def wd (ws : List Word) (i : Nat) : Nat := (ws.getD i 0).toNat

/-- The 64-bit value of words i (low) and i + 1. -/
def dwd (ws : List Word) (i : Nat) : Nat := wd ws i + wd ws (i + 1) * 2 ^ 32

/-- ws with word i set to v; unchanged where ws has no word i. -/
def setWd (ws : List Word) (i v : Nat) : List Word := ws.set i (w32 v)

/-- The 32-bit register arithmetic of ring indices (R179). -/
def add32 (a b : Nat) : Nat := (a + b) % 2 ^ 32

/-- a - b modulo 2^32 (R179). -/
def sub32 (a b : Nat) : Nat := (a % 2 ^ 32 + 2 ^ 32 - b % 2 ^ 32) % 2 ^ 32

/-- R774: sequence a is later than sequence b. -/
def later (a b : Nat) : Bool := 1 ≤ sub32 a b && sub32 a b ≤ 2 ^ 31 - 1

/-- n + k, held at 2^w - 1 (a counter that saturates). -/
def satAdd (w n k : Nat) : Nat := min (n + k) (2 ^ w - 1)

/-- The four bytes of a word, low byte first (R6). -/
def wordBytes (w : Word) : List Byte :=
  [w.extractLsb' 0 8, w.extractLsb' 8 8, w.extractLsb' 16 8, w.extractLsb' 24 8]

/-- A structure's bytes, word 0 at the lowest address (R7). -/
def wordsBytes (ws : List Word) : List Byte := ws.flatMap wordBytes

/-- The words of a byte string, little-endian; a short tail is padded with zeros. -/
def bytesWords : List Byte → List Word
  | [] => []
  | [a] => [a.setWidth 32]
  | [a, b] => [(b ++ a).setWidth 32]
  | [a, b, c] => [(c ++ b ++ a).setWidth 32]
  | a :: b :: c :: d :: rest => (d ++ c ++ b ++ a) :: bytesWords rest

/-- The number that bytes spell in network order (R6). -/
def beNat (bs : List Byte) : Nat := bs.foldl (fun n b => n * 256 + b.toNat) 0

/-- The number that bytes spell in little-endian order (R6). -/
def leNat (bs : List Byte) : Nat := bs.foldr (fun b n => n * 256 + b.toNat) 0

/-- n as k bytes in network order. -/
def beBytes (k n : Nat) : List Byte :=
  (List.range k).map fun i => BitVec.ofNat 8 (n >>> (8 * (k - 1 - i)))

/-- n as k bytes, low byte first. -/
def leBytes (k n : Nat) : List Byte :=
  (List.range k).map fun i => BitVec.ofNat 8 (n >>> (8 * i))

/-- k bytes of bs from offset o, zeros past its end. -/
def slice (bs : List Byte) (o k : Nat) : List Byte :=
  let t := (bs.drop o).take k
  t ++ List.replicate (k - t.length) 0

/-- One bit step of CRC-32C with the reflected polynomial 0x1EDC_6F41 (R382). -/
def crcBit (c : Word) : Word := if c.getLsbD 0 then (c >>> 1) ^^^ 0x82F63B78#32 else c >>> 1

/-- One byte step of CRC-32C. -/
def crcByte (c : Word) (b : Byte) : Word :=
  crcBit (crcBit (crcBit (crcBit (crcBit (crcBit (crcBit (crcBit (c ^^^ b.setWidth 32))))))))

/-- R382: CRC-32C with a seed as its initial value, complemented at the end. -/
def crc32cSeed (seed : Word) (bs : List Byte) : Word := ~~~(bs.foldl crcByte seed)

/-- CRC-32C of a structure: the initial value is all ones (log entry 8). -/
def crc32c (bs : List Byte) : Word := crc32cSeed 0xFFFFFFFF#32 bs

/-- The 16-bit one's-complement sum over network-order words, folded. -/
def sum16 : List Byte → Nat
  | [] => 0
  | [a] => a.toNat * 256
  | a :: b :: r =>
    let t := a.toNat * 256 + b.toNat + sum16 r
    t % 65536 + t / 65536

/-- The PASID of a parameter word with pasid in [31:12] and pasid_en in [11]. -/
def pasidWord (w : Nat) : Option Nat := if bitAt w 11 then some (field w 31 12) else none

/-- A sparse map by number, in rising order of its keys. -/
abbrev NMap (α : Type) := List (Nat × α)

/-- The entry of key k. -/
def lookup {α : Type} (m : NMap α) (k : Nat) : Option α :=
  match m with
  | [] => none
  | (a, v) :: t => if a = k then some v else lookup t k

/-- The entry of key k, or d where the map lists none. -/
def lookupD {α : Type} (m : NMap α) (k : Nat) (d : α) : α := (lookup m k).getD d

/-- m with key k bound to v. -/
def insertKey {α : Type} (m : NMap α) (k : Nat) (v : α) : NMap α :=
  match m with
  | [] => [(k, v)]
  | (a, w) :: t =>
    if k < a then (k, v) :: (a, w) :: t
    else if k = a then (k, v) :: t
    else (a, w) :: insertKey t k v

/-- m without key k. -/
def eraseKey {α : Type} (m : NMap α) (k : Nat) : NMap α := m.filter fun p => p.1 != k

/-- m with the entry of key k changed by f, where it has one. -/
def modifyKey {α : Type} (m : NMap α) (k : Nat) (f : α → α) : NMap α :=
  match lookup m k with
  | some v => insertKey m k (f v)
  | none => m

/-- The numbers 0 to n - 1 that satisfy p, in rising order. -/
def numsWhere (n : Nat) (p : Nat → Bool) : List Nat := (List.range n).filter p

end Sys2Proof.Machine
end

