-- ==== Sys2Proof/Machine/Mem.lean ====
section
/-! DEFINITION. Byte memories in one canonical form: addresses strictly rising, no entry equal to what an unlisted address reads
as, which is 0 (log entry 10). The MRAM, the LPDDR5X data space, the packet buffer, Clove local memory and state pages are held
so (R30, R310, R320). -/

namespace Sys2Proof.Machine

/-- A byte memory: the cells that do not read 0, by rising address. -/
abbrev Mem := List Host.Cell

/-- The byte at address a. -/
def Mem.rd (m : Mem) (a : Nat) : Byte :=
  match m with
  | [] => 0#8
  | (k, b) :: t => if k = a then b else Mem.rd t a

/-- n bytes from address a. -/
def Mem.bytes (m : Mem) (a n : Nat) : List Byte := (List.range n).map fun i => Mem.rd m (a + i)

/-- The cells that n bytes at address a add: those that are not 0. -/
def Mem.cells (a : Nat) (bs : List Byte) : Mem :=
  match bs with
  | [] => []
  | b :: t => if b = 0#8 then Mem.cells (a + 1) t else (a, b) :: Mem.cells (a + 1) t

/-- m with bytes bs stored from address a. -/
def Mem.write (m : Mem) (a : Nat) (bs : List Byte) : Mem :=
  m.filter (fun c => decide (c.1 < a)) ++ (Mem.cells a bs ++ m.filter (fun c => decide (a + bs.length ≤ c.1)))

/-- m with n bytes from address a reading 0. -/
def Mem.clear (m : Mem) (a n : Nat) : Mem := m.filter fun c => decide (c.1 < a) || decide (a + n ≤ c.1)

/-- The canonical form. -/
def Mem.wf : Mem → Bool
  | [] => true
  | (k, b) :: t => b != 0#8 && (t.all fun c => decide (k < c.1)) && Mem.wf t

/-- The little-endian word at address a (R6, R7). -/
def Mem.word (m : Mem) (a : Nat) : Nat := leNat (Mem.bytes m a 4)

/-- k words from address a. -/
def Mem.words (m : Mem) (a k : Nat) : List Word := (List.range k).map fun i => w32 (Mem.word m (a + 4 * i))

end Sys2Proof.Machine
end

