-- ==== Sys2Proof/Machine/TypesPkt.lean ====
section
/-! DEFINITION. A frame inside the device: its bytes, tags, parse result, recorded edits and place in its action list (R31, R41,
R363, R364, R431, R446). -/

namespace Sys2Proof.Machine

/-- An action entry (R430): opcode, operand A, words 1 to 3. -/
structure Act where
  op : Nat
  a : Nat
  w1 : Nat
  w2 : Nat
  w3 : Nat
  deriving DecidableEq, Repr

/-- A tag of the stack (R440): an S-tag or a C-tag, and its TCI. -/
structure Tag where
  isS : Bool
  tci : Nat
  deriving DecidableEq, Repr

/-- What the parser reports of a frame (R363, R364). -/
structure ParseInfo where
  /-- references 0 to 7: offset in the parse view -/
  refs : List (Option Nat) := List.replicate 8 none
  tunnel : Bool := false
  nested : Bool := false
  fragment : Bool := false
  l3Ok : Bool := false
  l4Ok : Bool := false
  failCode : Nat := 0
  hdrCount : Nat := 0
  /-- kinds of references 1, 5, 2 and 6 -/
  kinds : List Nat := [0, 0, 0, 0]
  /-- offset of the kind 5 header whose bytes 4 to 6 are the tunnel key -/
  keyRef : Option Nat := none
  /-- the tags as extracted -/
  tags : List Tag := []
  /-- the frame length as R346 estimates it -/
  length : Nat := 0
  deriving DecidableEq, Repr

/-- A tag edit in list order (R440): a push, or a set of PCP and DEI, of VID, or of both. -/
inductive TagEdit where
  | push (t : Tag)
  | set (pcp vid : Bool) (tci : Nat)
  /-- DEI is set in the outermost tag (R450) -/
  | dei
  deriving DecidableEq, Repr

/-- The edits recorded for a frame, applied in the order of R446. -/
structure Edits where
  decap : Bool := false
  pops : Nat := 0
  /-- destination and source MAC addresses of ROUTE -/
  route : Option (List Byte) := none
  tagOps : List TagEdit := []
  /-- the words of the tunnel profile as it stood at the ENCAP (R442), and the key override -/
  encap : Option (List Word × Option Nat) := none
  deriving DecidableEq, Repr

/-- Where a frame is bound. -/
inductive Dest where
  | none
  | queue (inst loc : Nat)
  | port (port leaf : Nat)
  deriving DecidableEq, Repr

/-- The transmit entry that a frame completes (R190, R192): queue, its queue_gen, its instance and the instance's generation (R217, R285), index, units, word 0, tag, notify, ts_req. -/
structure TxRef where
  q : Nat
  gen : Nat
  iid : Nat
  igen : Nat
  index : Nat
  units : Nat
  w0 : Nat
  tag : Nat
  notify : Bool
  tsReq : Bool
  deriving DecidableEq, Repr

/-- What waits for a good FCS (R35): a counter, a learn record, a policer's tokens and colour, a counter register with the event that its count
raises, a drop count of an owner, the hit bit of an exact-match entry, a token of an exception policer or a drop by it, the record of a
parse failure. -/
inductive Commit where
  | reg (register : Nat) (event : Option Nat)
  | drop (owner : Nat)
  | hit (table index : Nat)
  | excToken (inst : Nat)
  | excDrop (inst : Nat)
  | parseFail (word : Nat)
  | count (counter bytes : Nat)
  | learn (table : Nat) (words : List Word) (digest : Nat)
  | colour (policer colour c p : Nat)
  deriving DecidableEq, Repr

/-- A frame in the device. -/
structure Pkt where
  /-- the frame's number; its FCS result is held under it -/
  frame : Nat := 0
  /-- buffer pointer (R343) -/
  ptr : Nat := 0
  data : List Byte := []
  tags : List Tag := []
  /-- start-table source (R366) -/
  source : Nat := 0
  /-- line port on which it arrived -/
  inPort : Option Nat := none
  /-- timestamp: instant, and uncertain (R624, R625) -/
  ts : Nat := 0
  tsUncertain : Bool := true
  side : Nat := 0xFFFF
  egress : Bool := false
  /-- destination or source instance of the metadata block (R364) -/
  inst : Nat := 0
  info : ParseInfo := {}
  hash : Nat := 0
  mark : Nat := 0
  dest : Dest := .none
  edits : Edits := {}
  /-- what is left of the current list, the number of lists entered (R432), the owner of the list, reparses done (R436) -/
  acts : List Act := []
  lists : Nat := 0
  owner : Nat := 0
  reparses : Nat := 0
  /-- it left the action stage for a Lantern tap before its tail (R32, R36) -/
  released : Bool := false
  /-- the parser bank under which it was parsed (R368) -/
  bank : Nat := 0
  /-- state page: SSID and page (R391) -/
  page : Option (Nat × Nat) := none
  tx : Option TxRef := none
  priority : Nat := 0
  /-- the leaf that a sequencer's EMIT names; 0 for none (R506, R563) -/
  leaf : Nat := 0
  /-- an ordered Clove slot that it holds (R452) -/
  ordered : Option Nat := none
  /-- a copy made by MIRROR or SAMPLE: the requester that holds the buffer for it (R449) -/
  holder : Option Nat := none
  /-- sessions that copy it as it leaves egress (R447) -/
  copies : List Nat := []
  /-- bytes that threads have prepended over its life, and the buffer that the first prepend took (R471) -/
  prepended : Nat := 0
  headBuf : Option Nat := none
  /-- associations that encrypt or decrypt it after its edits (R41, R433) -/
  ciphers : List (Nat × Bool) := []
  deriving DecidableEq, Repr

end Sys2Proof.Machine
end

