-- ==== Sys2Proof/Machine/TypesClv.lean ====
section
/-! DEFINITION. The state of the Clove packet engines (spec file 12). -/

namespace Sys2Proof.Machine

/-- A frame on its way to a Clove cluster: the frame, the cluster mask of its action, `ordered`, its side, and, once dispatched, the
descriptor and the dispatch sequence that it keeps when it is handed back (R466 to R469). -/
structure CloveFrame where
  pkt : Pkt
  mask : Nat
  ordered : Bool
  desc : List Word := []
  seq : Nat := 0
  deriving DecidableEq, Repr

/-- A thread (R458 to R465). States: 0 Absent, 1 Free, 2 Running, 3 Blocked, 4 Waiting, 5 Faulted, 6 Halted. -/
structure Thread where
  state : Nat := 1
  /-- the state before a debug halt (R464) -/
  before : Nat := 1
  pc : Nat := 0
  /-- registers x0 to x31; x0 is never written -/
  x : List Word := List.replicate 32 0#32
  tcmp : Nat := 0
  armed : Bool := false
  wakeEn : Nat := 0
  spage : Nat := 0
  cause : Nat := 0
  /-- wake causes latched, bits 0 to 3 of R479 -/
  latched : Nat := 0
  /-- the frame that it holds; its length is that of its data -/
  frame : Option Pkt := none
  /-- the frame as it was dispatched (R469) -/
  orig : Option CloveFrame := none
  /-- other buffers that it has allocated or shared and not given up (R464, R469) -/
  bufs : List Nat := []
  bank : Nat := 0
  seq : Nat := 0
  /-- the register and value that a Blocked thread waits for, and whether it has returned while the thread is Halted (R465) -/
  result : Option (Nat × Nat) := none
  returned : Bool := false
  /-- the destination register of the CLV.WAIT that it waits in (R479) -/
  waitRd : Nat := 0
  deriving DecidableEq, Repr

/-- A program in a bank of a cluster (R487): code, entries, flags and SSID instance. -/
structure Program where
  code : List Byte := []
  thrEntry : Nat := 0
  supEntry : Nat := 0
  perFrame : Bool := false
  usesTimer : Bool := false
  ssid : Nat := 0
  deriving DecidableEq, Repr

/-- A message register (R476). -/
structure MsgReg where
  value : Nat := 0
  locked : Bool := false
  owner : Nat := 0
  poisoned : Bool := false
  waiters : List Nat := []
  deriving DecidableEq, Repr

/-- A wait inside a program command: a swap whose image is being written, or whose old bank drains, or an unload (R489, R490). -/
inductive ClvBusy where
  | none | writing | draining | unloading
  deriving DecidableEq, Repr

/-- A cluster. -/
structure Cluster where
  wide : Bool := false
  loaded : Bool := false
  bank : Nat := 0
  progs : NMap Program := []
  threads : NMap Thread := []
  /-- local memory of the eight cores, by core * 2^18 + offset -/
  mem : Mem := []
  msgs : NMap MsgReg := []
  queue : List CloveFrame := []
  notes : List (List Word) := []
  /-- a notification has been dropped since the queue was last emptied (R483) -/
  noteLost : Bool := false
  seq : Nat := 0
  retired : List Nat := []
  busy : ClvBusy := .none
  /-- cores in ALL_WAIT (R484) -/
  allWait : List Nat := []
  /-- the watchdog was written since its period began (R486) -/
  petted : Bool := false
  deriving DecidableEq, Repr

/-- A slot of an ordered sequence (R452): cluster mask and hash, and, once its thread has emitted, the frame with the word of its
PKT.EMIT. -/
structure OrdSlot where
  mask : Nat
  hash : Nat
  out : Option (Pkt × Nat) := none
  deriving DecidableEq, Repr

/-- The Clove clusters by number, and the ordered slots in dispatch order. -/
structure ClvSt where
  clusters : NMap Cluster := []
  slots : NMap OrdSlot := []
  nextSlot : Nat := 0
  deriving DecidableEq, Repr

end Sys2Proof.Machine
end

