-- ==== Sys2Proof/Machine/TypesCore.lean ====
section
/-! DEFINITION. The state of start-up, commands, claims, the host endpoint, queues, DMA, events, Buoy and instances (spec files
02 to 07) that lies outside the registers. -/

namespace Sys2Proof.Machine

/-- The phase of a Keeper pair (R52, R79, R82, R85, R90): running the device, standby and ready, booting as standby, held in an
island reset, held in reset as retired, or loading a staged bank for a handover (R85 step 2). -/
inductive PairPhase where
  | active | ready | booting | islandReset | held | activating | off
  deriving DecidableEq, Repr

/-- What is known of a firmware or microcode bank's last verification (R82, R92). -/
structure BankInfo where
  verified : Bool := false
  staged : Bool := false
  bodyCrc : Word := 0#32
  deriving DecidableEq, Repr

/-- What a Keeper pair runs: its firmware bank (0 A, 1 B) and that firmware's version (R61, R64). -/
structure Running where
  bank : Nat := 0
  major : Nat := 0
  minor : Nat := 0
  deriving DecidableEq, Repr

/-- An event of R52 that changes the mode while main supplies last (R52, R53): a fatal fault, a retirement, the return of the last
retired resource, the first resource placed under test, the last one released, a move to Service with its cause of R777, PERST# without
service retention, and a fatal fault whose takeover came with a handover record (R89). -/
inductive ModeEvent where
  | fatal | handed | retire | returned | test | tested | service (cause : Nat) | perst
  deriving DecidableEq, Repr

/-- A wait inside DEV_IMAGE_ACTIVATE (R85): the steps before handover, or none; faulted says that a fatal fault of the active pair has ended
them and the answer waits for the takeover (R89). -/
structure Activation where
  running : Bool := false
  commitSvn : Bool := false
  faulted : Bool := false
  deriving DecidableEq, Repr

/-- Power, start-up, update and reset state (spec file 02 and 22). -/
structure Boot where
  /-- fused minimum security_version for image types 1 to 4, and 5 for fabric images (R62, R673) -/
  fuses : NMap Nat := []
  /-- PERST# asserted -/
  perst : Bool := true
  /-- boot complete: step 15 of R64 reached since the last start -/
  booted : Bool := false
  pairA : PairPhase := .off
  pairB : PairPhase := .off
  bankA : BankInfo := {}
  bankB : BankInfo := {}
  /-- the firmware that each pair runs or last ran -/
  runA : Running := {}
  runB : Running := {}
  /-- version of the active pair's firmware: major and minor (R61) -/
  fwMajor : Nat := 0
  fwMinor : Nat := 0
  activation : Activation := {}
  /-- a recovery takeover waits for a standby pair that is still booting (R90) -/
  takeoverWaits : Bool := false
  /-- the active pair has failed and its fault waits for the end of a transition (R53) -/
  fatalWaits : Bool := false
  /-- a revalidation of the live configuration runs (R91), and whether one has ended since the fault (R57) -/
  revalidating : Bool := false
  revalidated : Bool := false
  /-- the configuration is frozen with no standby pair (R52, R730) -/
  frozen : Bool := false
  /-- the mode that the transition in progress enters, with its cause (R54), the events that wait for its end (R53), and the Foghorn
  messages that do (R731) -/
  target : Option (Nat × Nat) := none
  events : List ModeEvent := []
  fogWaits : Nat := 0
  /-- islands held in reset by GLB_ISLAND_RST (R80), and islands whose clocks are gated (R68) -/
  islandHeld : Option Nat := none
  gated : Bool := true
  /-- WAKE# armed for Standby and WAKE# asserted (R149) -/
  wakeArmed : Bool := false
  wakeAsserted : Bool := false
  /-- EXTEST has disconnected every ball (R751) -/
  extest : Bool := false
  /-- THERM_N driven low (R769) -/
  thermLow : Bool := false
  /-- the debug module has halted the pair that runs the device (R752) -/
  keeperHalted : Bool := false
  /-- event sources with a rate limit that have been raised (R95, R773) -/
  limited : List Nat := []
  /-- event sources raised by the always-on island while the event controller has no power (log entry 14) -/
  heldEs : List Nat := []
  deriving DecidableEq, Repr

/-- A kind of object that commands lock (R115). -/
inductive LockKind where
  | queue | inst | firmware | snapshot | dma | donation | grant | peerWindow | pin | tier | requester | table | vrf
  | graph | rule | hash | indirection | policer | actionList | tunnel | mirror | cluster | msgReg | group | conn | mr | drive
  | rootKey | assoc | opKey | node | gcl | telemetry | port | time | pps | alarm | cal | region | allowance | spar | sparGrant
  | resource | kind | log | lpm | learn | foghorn
  deriving DecidableEq, Repr

/-- An object locked by a command (R115). -/
structure Lock where
  kind : LockKind
  id : Nat
  deriving DecidableEq, Repr

/-- A Yadopex command in hand (R96): issuer, header fields, parameter words, entry words, host data and ring index. -/
structure Cmd where
  issuer : Issuer
  opcode : Nat
  tag : Nat
  target : Nat
  gen : Nat
  /-- the issuer's own generation when the command was fetched (R285); 0 for the BMC -/
  igen : Nat
  checkOnly : Bool
  notify : Bool
  fence : Bool
  index : Nat
  units : Nat
  entry : List Word
  params : List Word
  data : List Byte
  deriving DecidableEq, Repr

/-- A command answered PENDING (R99), with the objects that it locks and the counts that its final reply will carry. -/
structure PendCmd where
  cmd : Cmd
  locks : List Lock
  note : List Nat := []
  deriving DecidableEq, Repr

/-- Commands and claims (spec file 03). -/
structure Commands where
  pend : List PendCmd := []
  /-- the admin pause of R87 -/
  paused : Bool := false
  /-- claims held: resource identifier and holder word (R130) -/
  claims : NMap Nat := []
  /-- writes of a block's BLK_CTL that wait for its consistency check, by block: the last of each (R18) -/
  heldCtl : NMap Nat := []
  /-- BMC commands whose MCTP message is complete and not yet taken (R116) -/
  bmcQueue : List (List Word) := []
  /-- the round of R116: the last fetch was the manager's, and the other queues fetched from in this round -/
  managerLast : Bool := false
  served : List Issuer := []
  /-- commands that have ended under R111 and whose beginnings have yet to be undone (R100) -/
  ended : List PendCmd := []
  deriving DecidableEq, Repr

/-- The unit that issued a host read (R153, R285). -/
inductive ReadUnit where
  | ringFetch (qid : Nat)
  | pageFill (page : Nat)
  | dma (channel : Nat)
  deriving DecidableEq, Repr

/-- A non-posted request outstanding, or its tag in quarantine (R151, R154). -/
structure TagReq where
  iid : Nat
  gen : Nat
  qgen : Nat
  unit : ReadUnit
  quarantined : Bool
  deriving DecidableEq, Repr

/-- A host read that waits for a tag (R151): what its tag will hold, its PASID, address and byte count. -/
structure ReadReq where
  req : TagReq
  pasid : Option Nat
  addr : Nat
  count : Nat
  deriving DecidableEq, Repr

/-- An AER record of a function (R156): error name and whether it was completed UR. -/
inductive AerError where
  | receiver | replayTimer | replayRollover | correctedInternal | completionTimeout | unexpectedCompletion
  | unsupportedPosted | unsupportedNonPosted | poisoned | ecrc | malformed | flowControl | dataLink | uncorrectableInternal
  deriving DecidableEq, Repr

/-- Configuration space of one function that the model's rules read (R136, R139, R140, R147 to R152). -/
structure FnCfg where
  d3hot : Bool := false
  pmeEn : Bool := false
  pmeStatus : Bool := false
  memSpace : Bool := false
  busMaster : Bool := false
  msixEnable : Bool := false
  /-- an FLR is in progress (R77) -/
  flr : Bool := false
  aer : List AerError := []
  /-- the header log: the first four words of the TLP of the first error (R136), which the model leaves open (log entry 2) -/
  header : Nat := 0
  deriving DecidableEq, Repr

/-- A slot of a downstream port (R171). -/
inductive Slot where
  | empty | off | powering | training | up | removal | draining | contained
  deriving DecidableEq, Repr

/-- The active copy of a peer window (R161): enabled, read, write, BAR offset, size, target (2 MiB units), Requester ID, mask. -/
structure PeerWin where
  enabled : Bool := false
  readEn : Bool := false
  writeEn : Bool := false
  base : Nat := 0
  size : Nat := 0
  target : Nat := 0
  rid : Nat := 0
  ridMask : Nat := 0
  deriving DecidableEq, Repr

/-- Host endpoint and downstream ports (spec file 04). -/
structure HostSt where
  fns : NMap FnCfg := []
  /-- the configuration space of PF0 has been filled (R67) -/
  filled : Bool := false
  numVfs : Nat := 0
  vfEnable : Bool := false
  /-- VF Memory Space Enable of PF0's SR-IOV capability -/
  vfMse : Bool := false
  ariCapable : Bool := false
  /-- ARI Capable Hierarchy as sampled when VF Enable was set (R140) -/
  ariSampled : Bool := false
  /-- Device Control 2 completion timeout encoding of PF0 (R152) -/
  cplTimeout : Nat := 0
  /-- ASPM L1 enabled in PF0's Link Control (R150) -/
  l1Enabled : Bool := false
  /-- ACS Control of PF0: source validation, P2P request and completion redirect, upstream forwarding (R136) -/
  acs : Nat := 0
  /-- log2 of the largest size of BAR index 4-5 in GiB, as sampled when configuration space was filled (R158, HST_PEER_BAR_CFG) -/
  barMax : Nat := 8
  /-- BAR index 4-5 size in GiB as Resizable BAR sets it, and whether the BAR is absent (R158) -/
  bar4GiB : Nat := 64
  bar4Absent : Bool := false
  wins : NMap PeerWin := []
  /-- the window that requests decoded before the boundary still use, while commit reads 1 (R162) -/
  oldWins : NMap PeerWin := []
  tags : NMap TagReq := []
  /-- tags never issued start here; released tags in the order of their release (R155) -/
  nextTag : Nat := 0
  released : List Nat := []
  /-- reads that wait for a tag, in order (R151) -/
  queued : List ReadReq := []
  slots : NMap Slot := []
  /-- ports whose slot PERST# is released (R172), drives reported to the storage path (R171), and drives marked as failed targets (R174) -/
  perstFree : List Nat := []
  targets : List Nat := []
  failed : List Nat := []
  deriving DecidableEq, Repr

/-- A posted receive buffer (R194): ring index, word 0, units, tag, address, bytes, notify flag. -/
structure RxBuf where
  index : Nat
  w0 : Nat
  units : Nat
  tag : Nat
  addr : Nat
  bytes : Nat
  notify : Bool
  deriving DecidableEq, Repr

/-- What a receive completion reports of a frame (R195). -/
structure RxMeta where
  rxError : Bool := false
  tsValid : Bool := false
  vlanStripped : Bool := false
  l3Ok : Bool := false
  l4Ok : Bool := false
  tunnel : Bool := false
  timestamp : Nat := 0
  tsSide : Nat := 0
  hash : Nat := 0
  vlanTci : Nat := 0
  mark : Nat := 0
  deriving DecidableEq, Repr

/-- A frame that waits for a receive buffer (R196): buffer pointer, the requester that holds it for a copy, bytes, report. -/
structure RxFrame where
  ptr : Nat
  holder : Option Nat
  bytes : List Byte
  info : RxMeta
  /-- the state page to which it holds a reference: SSID and page (R39) -/
  page : Option (Nat × Nat) := none
  deriving DecidableEq, Repr

/-- An entry fetched from a submission ring and not complete (R216): ring index, units, word 0, tag, notify flag. -/
structure Taken where
  index : Nat
  units : Nat
  w0 : Nat
  tag : Nat
  notify : Bool
  deriving DecidableEq, Repr

/-- The final completion of an entry that has yet to be written: it waits for the entries before it (R190). -/
structure Done where
  index : Nat
  units : Nat
  w0 : Nat
  writes : List (Nat × Word)
  status : Nat
  reason : Nat
  tag : Nat
  notify : Bool
  deriving DecidableEq, Repr

/-- A queue context (R214) with the queue engine's own state for it. Ring types: 1 admin, 2 receive, 3 transmit, 4 sequencer work,
5 telemetry, 6 event (R186, R214); states: 0 Free, 1 Active, 2 Draining, 3 Aborted, 4 Stopped. -/
structure QCtx where
  type : Nat := 0
  sizeLog2 : Nat := 0
  state : Nat := 0
  iid : Nat := 0
  qgen : Nat := 0
  loc : Nat := 0
  base : Nat := 0
  pi : Nat := 0
  ci : Nat := 0
  fi : Nat := 0
  evq : Nat := 0xFFFF
  vector : Nat := 0xFFFF
  pasid : Nat := 0
  pasidEn : Bool := false
  armed : Bool := false
  overflow : Bool := false
  notifyAll : Bool := false
  rxScatter : Bool := false
  ciWbEn : Bool := false
  wakeOnRx : Bool := false
  ciWb : Nat := 0
  coalTime : Nat := 0
  coalCount : Nat := 0
  drops : Nat := 0
  entryErrors : Nat := 0
  instGen : Nat := 0
  stale : Nat := 0
  /-- the context is hot (R215), and the doorbells held until it is (R204) or until resumption (R202) -/
  hot : Bool := true
  heldDb : List (Nat × Bool) := []
  /-- receive buffers posted and not consumed, and frames waiting for one with their buffers (R196) -/
  rxBufs : List RxBuf := []
  rxWait : List RxFrame := []
  /-- notifications accumulated for the bound event queue (R208): count, last status, last tag -/
  accCount : Nat := 0
  accStatus : Nat := 0
  accTag : Nat := 0
  /-- the CI last posted for this queue (R212), and admin entries complete out of ring order (R182): index and units -/
  lastPosted : Nat := 0
  doneAhead : List (Nat × Nat) := []
  /-- entries fetched and still in flight (R216), and completions that wait for those before them (R190) -/
  taken : List Taken := []
  ready : List Done := []
  deriving DecidableEq, Repr

/-- A DMA channel's run (R229, R237): the addresses and bytes left of the current descriptor, its flags, the next descriptor, the
descriptors completed, and the host instance generation at the start. -/
structure DmaRun where
  src : Nat := 0
  dst : Nat := 0
  left : Nat := 0
  intFlag : Bool := false
  lastFlag : Bool := true
  next : Nat := 0
  doneDesc : Nat := 0
  gen : Nat := 0
  /-- a descriptor is to be loaded from next; an abort waits for the current burst (R236) -/
  load : Bool := false
  aborting : Bool := false
  deriving DecidableEq, Repr

/-- The 16 DMA engines (R229): the run of each busy channel, and per engine the channel it runs and the channel it last served. -/
structure DmaSt where
  runs : NMap DmaRun := []
  running : NMap Nat := []
  lastServed : NMap Nat := []
  deriving DecidableEq, Repr

/-- A host vector's moderation state and MSI-X entry (R252 to R255). -/
structure Vec where
  masked : Bool := true
  pba : Bool := false
  timer : Bool := false
  held : Bool := false
  idle : Bool := false
  addr : Nat := 0
  data : Nat := 0
  deriving DecidableEq, Repr

/-- The event controller beyond its registers (R250, R251): targets idle, targets whose hold runs. -/
structure EvcSt where
  idle : List Nat := []
  hold : List Nat := []
  /-- host vectors, keyed by IID * 4096 + vector -/
  vecs : NMap Vec := []
  deriving DecidableEq, Repr

/-- One side of a Buoy channel (R256): the word and doorbell bits it has received, its mask and its sticky status bits. -/
structure BuoySide where
  rx : Nat := 0
  rxFull : Bool := false
  dbRecv : Nat := 0
  dbMask : Nat := 0xFFFFFFFF
  overrun : Bool := false
  tooLate : Bool := false
  /-- low half of a 32-bit write of BUOY_SEND -/
  sendLo : Nat := 0
  deriving DecidableEq, Repr

/-- A Buoy channel: side a is the instance or mid_a, side b is Keeper or mid_b (R263, R267). -/
structure BuoyChan where
  a : BuoySide := {}
  b : BuoySide := {}
  vecEnable : Bool := false
  vector : Nat := 0
  reason : Nat := 0
  deriving DecidableEq, Repr

/-- The mailboxes (spec file 06): instance channels by IID, internal channels, and the words that Keeper holds for each instance
(R270). -/
structure BuoySt where
  inst : NMap BuoyChan := []
  int : NMap BuoyChan := []
  held : NMap (List Nat) := []
  deriving DecidableEq, Repr

/-- What waits on a deferred generation increment (R284): nothing more, the creation of the instance's admin queue (INS_CREATE),
the teardown of INS_DESTROY, or the reply of INS_RESET. -/
inductive IncWait where
  | plain | create | destroy
  deriving DecidableEq, Repr

/-- An instance (R275 to R291). State codes: 0 Free, 1 Unbound, 2 Active, 3 Suspended, 4 Resetting, 5 Destroying. -/
structure Inst where
  state : Nat := 0
  gen : Nat := 1
  quota : List Word := List.replicate 12 0#32
  /-- an increment was applied within the last 4 ms, and the increments that wait (R284) -/
  recent : Bool := false
  waits : List IncWait := []
  adminQid : Nat := 0
  adminBase : Nat := 0
  adminLog2 : Nat := 0
  adminPasid : Nat := 0
  stale : Nat := 0
  /-- INS_DESTROY has freed the queues and waits for the instance's regions (R302 step 3) -/
  tearing : Bool := false
  /-- queues_aborted of the identity page (R145) -/
  aborted : Bool := false
  /-- the host-facing reset waits for PERST# to be deasserted (R779), and a generation increment of it waits -/
  perstHeld : Bool := false
  deriving DecidableEq, Repr

end Sys2Proof.Machine
end

