-- ==== Sys2Proof/Machine/TypesFab.lean ====
section
/-! DEFINITION. The state of the Lantern regions and the Spar fabric (spec files 18 and 19). -/

namespace Sys2Proof.Machine

/-- A tap's configuration (R681): bypass_drop, hold_us, depth, transmit queue (0xFFFF for none). -/
structure Tap where
  drop : Bool := false
  hold : Nat := 1000
  depth : Nat := 1024
  queue : Nat := 0xFFFF
  deriving DecidableEq, Repr

/-- A frame in flight at a region's tap by slot (R654): its sequence, tap, and the frame. -/
structure InFlight where
  seq : Nat
  tap : Nat
  pkt : Pkt
  deriving DecidableEq, Repr

/-- A loaded image, from its container header (R668). -/
structure FenxonImage where
  imageId : Nat := 0
  clock : Nat := 0
  minCap : Nat := 0
  ports : Nat := 0
  initTimeout : Nat := 0
  svn : Nat := 0
  keySlot : Nat := 0
  deriving DecidableEq, Repr

/-- What a quiesce leads to (R667): a load, Quiesced or an unload. -/
inductive QuiesceFor where
  | load | rest | unload
  deriving DecidableEq, Repr

/-- A memory request of a region (R662): write or read, byte offset, bytes, tag, data of a write. -/
structure RegionReq where
  write : Bool
  off : Nat
  n : Nat
  tag : Nat
  data : List Byte
  deriving DecidableEq, Repr

/-- A Lantern region (R649 to R680). States: 0 Unassigned, 1 Empty, 2 Loading, 3 Running, 4 Quiescing, 5 Quiesced, 6 Unloading,
7 Faulted, 8 Retired. -/
structure Region where
  state : Nat := 0
  reason : Nat := 0
  renter : Nat := 0
  /-- range: first unit and size in 2 MiB units, in the renter's range -/
  base : Nat := 0
  size : Nat := 0
  taps : List Tap := [{}, {}, {}]
  image : Option FenxonImage := none
  /-- a load whose image is staged and verified (R673 steps 1 and 2): the state before it, and whether the readback of step 5 will match -/
  staging : Option (Nat × Bool) := none
  /-- the image that a load is bringing, once it has verified -/
  incoming : Option FenxonImage := none
  cap : Nat := 16
  stage : Nat := 0
  clock : Nat := 0
  /-- the last 64 supply samples, newest first, in 10 mW units (R678) -/
  samples : List Nat := []
  flight : NMap InFlight := []
  /-- next sequence by slot -/
  seqs : NMap Nat := []
  /-- tokens retired by a timeout: slot * 16 + sequence (R658) -/
  late : List Nat := []
  quiesce : Option QuiesceFor := none
  /-- memory requests that wait for their pages, oldest first (R663) -/
  waits : List RegionReq := []
  deriving DecidableEq, Repr

/-- The regions and the allowance in 0.25 W units (R680). -/
structure LanSt where
  regions : NMap Region := []
  allowance : Nat := 312
  deriving DecidableEq, Repr

/-- A grant to remote devices (R706). -/
structure SparGrant where
  addrMask : Nat
  addr : Nat
  midMask : Nat
  mid : Nat
  read : Bool
  write : Bool
  ssid : Nat
  offset : Nat
  pages : Nat
  deriving DecidableEq, Repr

/-- A grant as a list of numbers, for a revoke that may be undone (R100). -/
def SparGrant.note (g : SparGrant) : List Nat :=
  [g.addrMask, g.addr, g.midMask, g.mid, if g.read then 1 else 0, if g.write then 1 else 0, g.ssid, g.offset, g.pages]

/-- The grant that such a list spells. -/
def SparGrant.ofNote (v : List Nat) : SparGrant :=
  { addrMask := v.getD 0 0, addr := v.getD 1 0, midMask := v.getD 2 0, mid := v.getD 3 0, read := v.getD 4 0 = 1, write := v.getD 5 0 = 1,
    ssid := v.getD 6 0, offset := v.getD 7 0, pages := v.getD 8 0 }

/-- A Spar packet (R691): class, hops, destination, source, epoch, flow, MID, mailbox sequence, channels, body. -/
structure SparPkt where
  cls : Nat
  hops : Nat
  dst : Nat
  src : Nat
  epoch : Nat
  flow : Nat
  mid : Nat
  mseq : Nat
  dstChan : Nat
  srcChan : Nat
  body : List Byte
  deriving DecidableEq, Repr

/-- A flit's own part (R688): channel, first, last, payload; the port whose buffer it leaves when it is sent (R689), and the packet buffer
that its acknowledgement frees (R704). -/
structure SparFlit where
  vc : Nat
  first : Bool
  last : Bool
  payload : List Byte
  source : Option Nat := none
  buf : Option Nat := none
  deriving DecidableEq, Repr

/-- Where the rest of an arriving packet goes (R692, R697): up to this device, out of a port, or nowhere. -/
inductive SparPath where
  | here
  | out (port : Nat)
  | drop
  deriving DecidableEq, Repr

/-- What a Beacon says of a neighbour (R693). -/
structure Beacon where
  fabric : Nat := 0
  addr : Nat := 0
  joined : Bool := false
  serial : Nat := 0
  port : Nat := 0
  epoch : Nat := 0
  distance : Nat := 15
  root : Nat := 0
  deriving DecidableEq, Repr

/-- A Spar port (R687 to R694). -/
structure SparPort where
  up : Bool := false
  degraded : Bool := false
  /-- sequence of the next flit sent, last sequence acknowledged, next sequence expected, flits sent and not acknowledged with the oldest
  first, replays since an acknowledgement advanced, and whether a flit has been refused since the last good one (R690) -/
  txSeq : Nat := 0
  acked : Nat := 4095
  rxSeq : Nat := 0
  kept : List SparFlit := []
  replays : Nat := 0
  nak : Bool := false
  /-- credits held by virtual channel (R689) -/
  credits : List Nat := [64, 192, 1024, 768]
  /-- flits that wait to be sent -/
  waiting : List SparFlit := []
  /-- the packet that arrives on each virtual channel: its path and its bytes so far -/
  arriving : NMap (SparPath × List Byte) := []
  /-- the neighbour's last Beacon -/
  nbr : Option Beacon := none
  deriving DecidableEq, Repr

/-- A Spar channel (R702 to R705): the request outstanding, the mailbox word that the remote has not read, whether it has left the
device and whether it was rejected, the sequence of the last word or request sent and of the last word received, the word received that the
local master has not read, and its sender. -/
structure SparChan where
  request : Option Nat := none
  sent : Bool := false
  rejected : Bool := false
  mseq : Nat := 0
  lastIn : Option Nat := none
  owed : Option SparPkt := none
  deriving DecidableEq, Repr

/-- What waits at the Spar engine for a page that cannot be reached (R704, R707): a request that its grant admits, a response, or a request
of channel `chan` whose local lines are still to be read. -/
inductive SparHeld where
  | request (p : SparPkt) (g : SparGrant)
  | response (p : SparPkt)
  | ask (chan mid w : Nat)
  deriving DecidableEq, Repr

/-- The Spar fabric. -/
structure SparSt where
  joined : Bool := false
  joining : Bool := false
  leaving : Bool := false
  timeRoot : Bool := false
  timeFollow : Bool := false
  holdover : Bool := false
  addr : Nat := 0
  fabric : Nat := 0
  portMask : Nat := 0
  epoch : Nat := 0
  current : NMap Nat := []
  previous : Option (NMap Nat) := none
  next : Option (NMap Nat) := none
  ports : NMap SparPort := []
  grants : NMap SparGrant := []
  chans : NMap SparChan := []
  /-- requests and responses that wait for a page, oldest first (R707) -/
  held : List SparHeld := []
  /-- upstream port of time (R710) -/
  upstream : Option Nat := none
  deriving DecidableEq, Repr

end Sys2Proof.Machine
end

