-- ==== Sys2Proof/Machine/TypesFrs.lean ====
section
/-! DEFINITION. The state of the Fresnel scheduler (spec file 15). -/

namespace Sys2Proof.Machine

/-- A shaper (R568, R570): kind 1 token or 2 credit-based, rate in kb/s, bucket or hi_credit in bytes, overhead. -/
structure Shaper where
  kind : Nat
  rate : Nat
  bucket : Nat
  overhead : Int
  /-- restart_empty of the command that set it -/
  empty : Bool
  deriving DecidableEq, Repr

/-- A frame in a leaf: the frame as egress stages 3 and 4 left it, the instant of its entry, whether its hold by the guard band has
been counted (R574, R587). -/
structure LeafFrame where
  pkt : Pkt
  entered : Nat
  held : Bool := false
  deriving DecidableEq, Repr

/-- A node (R559 to R570, R582, R590). Kinds: 0 root, 1 interior, 2 leaf. -/
structure Node where
  kind : Nat
  parent : Nat := 0xFFFF
  weighted : Bool := true
  slot : Nat := 0
  weight : Nat := 1
  port : Nat := 0
  portDefault : Bool := false
  instDefault : Bool := false
  cls : Nat := 0
  owner : Nat := 0
  maxBytes : Nat := 262144
  shaper : Option Shaper := none
  /-- a shaper change that applies at the next refill epoch: the new shaper or its removal, and whether tokens are set (R569) -/
  next : Option (Option Shaper × Bool) := none
  /-- tokens in 2^-16 byte (token) or credit in units of 10^-9 byte (credit-based) -/
  tokens : Int := 0
  deficit : Int := 0
  /-- the child of its weighted group at which the round stands, and whether its quantum of this visit is given (R561) -/
  round : Nat := 0
  given : Bool := false
  frames : List LeafFrame := []
  /-- bytes of the frames queued -/
  bytes : Nat := 0
  closing : Bool := false
  deriving DecidableEq, Repr

/-- A gate control list (R573, R577): entries (gates, interval in 1/256 ns), cycle in 1/256 ns, overhead, base instant. -/
structure Gcl where
  enable : Bool := false
  entries : List (Nat × Nat) := []
  cycle : Nat := 0
  overhead : Int := 0
  base : Nat := 0
  deriving DecidableEq, Repr

/-- A port's gates (R572 to R579): admin list, operational list with its current entry, pending list with its switch instant, the
classes staged (R576), and the longest openings in 1/256 ns by class, none for no limit (R575). -/
structure Gates where
  admin : NMap (Nat × Nat) := []
  oper : Gcl := {}
  entry : Nat := 0
  pending : Option (Gcl × Nat) := none
  staged : List Nat := []
  open_ : List (Option Nat) := []
  claimed : Bool := false
  deriving DecidableEq, Repr

/-- What a subscription has seen at a leaf since its last sample (R587). -/
structure LeafStat where
  maxSojourn : Nat := 0
  sent : Nat := 0
  dropped : Nat := 0
  deriving DecidableEq, Repr

/-- A telemetry subscription (R585 to R588). -/
structure Telemetry where
  owner : Nat
  first : Nat
  count : Nat
  period : Nat
  ring : Nat
  stats : NMap LeafStat := []
  deriving DecidableEq, Repr

/-- Fresnel: nodes by number, gates by port, subscriptions, default leaves by instance. -/
structure FrsSt where
  nodes : NMap Node := []
  gates : NMap Gates := []
  subs : NMap Telemetry := []
  instDefault : NMap Nat := []
  deriving DecidableEq, Repr

end Sys2Proof.Machine
end

