-- ==== Sys2Proof/Machine/TypesFwd.lean ====
section
/-! DEFINITION. The state of the parser, the classifier, the table engines and the action stage (spec files 09 to 11). -/

namespace Sys2Proof.Machine

/-- A bank of the parse graph (R358, R365, R366): nodes and profiles that are not all zero, and the start table. -/
structure PrsBank where
  nodes : NMap (List Word) := []
  profiles : NMap (List Word) := []
  start : List Word := List.replicate 16 0#32
  deriving DecidableEq, Repr

/-- The parser (R358 to R368). -/
structure PrsSt where
  active : PrsBank := {}
  shadow : PrsBank := {}
  /-- the model's own: swaps so far, which number the active bank, and earlier active banks under which a frame in the device was parsed (R368) -/
  swaps : Nat := 0
  old : NMap PrsBank := []
  deriving DecidableEq, Repr

/-- A rule slot (R369 to R376). -/
structure Rule where
  valid : Bool
  seq : Nat
  owner : Nat
  priority : Nat
  stage : Nat
  profile : Nat
  kind : Nat
  value : Nat
  mark : Nat
  key : List Word
  mask : List Word
  /-- written by the manager, and so part of a snapshot (R322) -/
  manager : Bool := false
  /-- the active copy fails parity (R375) -/
  parityBad : Bool := false
  deriving DecidableEq, Repr

/-- An instance's classifier configuration (R377 to R380): parameter words 0 to 3 and the Toeplitz key, and its policer. -/
structure ClsInst where
  w0 : Nat := 0x1000009F
  excQueue : Nat := 0xFFFF
  profile : Nat := 0
  seed : Nat := 0xFFFFFFFF
  toeplitz : List Byte := List.replicate 52 0#8
  rate : Nat := 10000
  burst : Nat := 1024
  /-- tokens in units of 1/65,536 packet -/
  tokens : Nat := 1024 * 65536
  drops : Nat := 0
  deriving DecidableEq, Repr

/-- The classifier. -/
structure ClsSt where
  rules : NMap Rule := []
  insts : NMap ClsInst := []
  deriving DecidableEq, Repr

/-- The state of an exact-match table (R405). -/
inductive TblState where
  | free | live | copying | ready
  deriving DecidableEq, Repr

/-- An exact-match entry that is valid or fails parity (R391): words and key, hit kept apart. -/
structure EmEntry where
  statePage : Nat
  port : Nat
  owner : Nat
  action : Nat
  hit : Bool
  key : List Byte
  parityBad : Bool := false
  deriving DecidableEq, Repr

/-- LEARN_CFG of a table (R421) with its bucket, in records, and the entry that the ageing scan visits next. -/
structure Learn where
  enable : Bool := false
  ring : Nat := 0
  rate : Nat := 1000
  holdoff : Nat := 1
  age : Nat := 0
  tokens : Nat := 1000
  scan : Nat := 0
  /-- the scan waits for a token (R425) -/
  waits : Bool := false
  deriving DecidableEq, Repr

/-- An exact-match table (R388 to R405). -/
structure EmTable where
  state : TblState := .free
  /-- TBL_CREATE parameter words 0 to 5 -/
  words : List Word := []
  partner : Nat := 0xFF
  entries : NMap EmEntry := []
  relocs : Nat := 0
  /-- first unit of its pages in the device-internal range (placements 1 and 2) -/
  base : Nat := 0
  /-- a flush runs: the port, and the owner unless all owners (R412) -/
  flush : Option (Nat × Option Nat) := none
  learn : Learn := {}
  deriving DecidableEq, Repr

/-- A VRF (R420): enabled, limits, default result, flushing. -/
structure Vrf where
  enable : Bool := false
  v4Max : Nat := 0
  v6Max : Nat := 0
  default : Nat := 0x20000000
  flushing : Bool := false
  deriving DecidableEq, Repr

/-- A prefix of the store (R419): VRF, family, length, address bytes, result, and whether its trie node fails parity. -/
structure Prefix where
  vrf : Nat
  v6 : Bool
  length : Nat
  address : List Byte
  result : Nat
  deriving DecidableEq, Repr

/-- The table engines. -/
structure TblSt where
  tables : NMap EmTable := []
  /-- VRF 0 at boot is enabled with both limits at the maximum (R420) -/
  vrfs : NMap Vrf := [(0, { enable := true, v4Max := 2097152, v6Max := 1048576 })]
  prefixes : List Prefix := []
  /-- trie nodes that fail parity: VRF, family, depth in bits, address bits (R419) -/
  badNodes : List (Nat × Bool × Nat × List Byte) := []
  /-- learn filter slots: slot, table and digest (R424) -/
  filter : NMap (Nat × Nat) := []
  deriving DecidableEq, Repr

/-- A two-rate three-colour policer (R450): parameter words 1 to 5, bucket levels in units of 1/2^20 byte, colour counts. -/
structure Policer where
  cir : Nat
  pir : Nat
  cbs : Nat
  pbs : Nat
  overhead : Int
  red : Nat
  yellow : Nat
  /-- tokens in units of 1/31,250,000 byte, of which a refill adds a rate in kb/s times 1,000 -/
  c : Nat
  p : Nat
  /-- rates that apply at the next refill -/
  nextCir : Nat
  nextPir : Nat
  green : Nat := 0
  yellows : Nat := 0
  reds : Nat := 0
  deriving DecidableEq, Repr

/-- A mirror session (R447, R454): words 1 to 3. -/
structure Mirror where
  w1 : Nat
  w2 : Nat
  sampleN : Nat
  deriving DecidableEq, Repr

/-- The action stage (R430 to R455). -/
structure SwxSt where
  /-- action lists: owner and entries -/
  lists : NMap (Nat × List Act) := []
  paths : NMap (List Nat) := []
  /-- tunnel profiles: parameter words 1 to 25 -/
  tunnels : NMap (List Word) := []
  mirrors : NMap Mirror := []
  policers : NMap Policer := []
  /-- counters: packets and bytes -/
  counters : NMap (Nat × Nat) := []
  /-- drop counts by the owner of the list or rule that dropped (R371, R433) -/
  drops : NMap Nat := []
  deriving DecidableEq, Repr

/-- Where a frame waits for its tail (R33, R34, R36): before the parser, in its action list, or for its host queue. -/
inductive HoldAt where
  | parse
  | acts
  | deliver (inst loc : Nat)
  deriving DecidableEq, Repr

/-- Frames between their first byte and their release (R31 to R36). -/
structure PipeSt where
  /-- the number of the next frame -/
  nextFrame : Nat := 1
  /-- the frame that each line port is receiving: its number (0 for one that goes no further), its bytes, and whether it was found
  longer than its buffer (R346) -/
  arriving : NMap (Nat × List Byte × Bool) := []
  /-- FCS results by frame number -/
  fcs : NMap Bool := []
  /-- frames that wait for their tails -/
  held : List (HoldAt × Pkt) := []
  /-- frames whose transmission has started and whose tails are awaited: line port, bytes, frame -/
  sending : List (Nat × List Byte × Nat) := []
  /-- what waits for the FCS of a frame that has gone on (R35) -/
  commits : List (Nat × Commit) := []
  deriving DecidableEq, Repr

end Sys2Proof.Machine
end

