-- ==== Sys2Proof/Machine/TypesMem.lean ====
section
/-! DEFINITION. The state of the memories, the State Pager and the buffer pools (spec file 08). -/

namespace Sys2Proof.Machine

/-- The memories (R310, R320, R342): MRAM, LPDDR5X data by LPDDR5X address, packet-buffer payload by byte, the state cache by
frame * 4,096, and the donated host memory as the device last wrote it (R338). -/
structure MemSt where
  mram : Mem := []
  ddr : Mem := []
  pbuf : Mem := []
  cache : Mem := []
  donated : Mem := []
  /-- regions granted to peers by grant number: base and size in 2 MiB units (R341) -/
  grants : NMap (Nat × Nat) := []
  /-- grants whose range is being vacated -/
  vacating : List Nat := []
  deriving DecidableEq, Repr

/-- The home of a state page (R328): none for a zero page, an LPDDR5X frame, or a donation and the page within it. -/
inductive Home where
  | zero
  | ddr (frame : Nat)
  | host (donation page : Nat)
  deriving DecidableEq, Repr

/-- A state page that differs from an unpinned zero page (R328). -/
structure Page where
  home : Home := .zero
  pinned : Bool := false
  dirty : Bool := false
  poisoned : Bool := false
  /-- a fill runs, with the number of host fills that have failed for it (R333) -/
  filling : Bool := false
  fails : Nat := 0
  /-- a write-back runs -/
  writing : Bool := false
  /-- the home reserved for a demotion, migration or rehoming, and whether its copy runs (R317, R334, R339, R341) -/
  reserve : Option Home := none
  moving : Bool := false
  /-- a write-back failed with no other home to be found: the page stays cached, dirty and unevictable (R333) -/
  stuck : Bool := false
  /-- state-cache frame -/
  cached : Option Nat := none
  /-- when it was last used, in the order of uses (R334); 0 before its first -/
  used : Nat := 0
  /-- it becomes a zero page once the references in flight to it have ended (R337) -/
  discard : Bool := false
  deriving DecidableEq, Repr

/-- Where a parked frame goes on (R37, R383, R397). -/
inductive Resume where
  | action
  | spread (inst : Nat)
  | state
  deriving DecidableEq, Repr

/-- A parked frame: the page it waits for (SSID and page number), where it goes on, the frame (R37, R38). -/
structure Parked where
  ssid : Nat
  page : Nat
  resume : Resume
  pkt : Pkt
  deriving DecidableEq, Repr

/-- A host memory donation (R338): address, size in 2 MiB units, PASID word, revoking, pages reserved elsewhere. -/
structure Donation where
  addr : Nat := 0
  size : Nat := 0
  pasid : Nat := 0
  revoking : Bool := false
  pages : Nat := 0
  deriving DecidableEq, Repr

/-- The State Pager (R323 to R341). -/
structure PgrSt where
  /-- ranges by SSID: base and size in 2 MiB units (R324) -/
  ranges : NMap (Nat × Nat) := []
  /-- pages by device-virtual page number: base * 512 + page -/
  pages : NMap Page := []
  /-- parked frames in arrival order -/
  parked : List Parked := []
  /-- fills that wait for a slot of R333, in the order of the misses, by page number -/
  waiting : List Nat := []
  donations : NMap Donation := []
  /-- pages with a reserved home, by page number, in the order in which they are copied -/
  moves : List Nat := []
  /-- demotion runs until high_pct is free (R334) -/
  demoting : Bool := false
  /-- level-2 tables of the reserved units (R327), as runs: first unit, number of units, LPDDR5X frame of the first table -/
  tables : List (Nat × Nat × Nat) := []
  /-- uses of pages so far (R334) -/
  uses : Nat := 0
  deriving DecidableEq, Repr

/-- A packet buffer that is allocated (R347). -/
structure Buf where
  /-- last owner while not freed -/
  owner : Option Nat
  holders : List Nat := []
  /-- the requester to whom it is charged -/
  charge : Nat
  /-- priority and bytes of the received frame that it holds (R602) -/
  prio : Nat := 0
  bytes : Nat := 0
  deriving DecidableEq, Repr

/-- A requester's quota in 4 KiB units (R345). -/
structure Quota where
  min : Nat
  max : Nat
  ovf : Nat
  deriving DecidableEq, Repr

/-- The buffer pool manager (R342 to R352). -/
structure BpmSt where
  /-- buffers per class of the on-die and of the overflow tier -/
  carve0 : List Nat := [32768, 16384, 4096, 184]
  carve1 : List Nat := [0, 2097152, 419430, 131072]
  /-- a new carve that waits for its addresses to be free (R351) -/
  next0 : Option (List Nat) := none
  next1 : Option (List Nat) := none
  bufs : NMap Buf := []
  /-- quotas that differ from the defaults of R345 -/
  quotas : NMap Quota := []
  deriving DecidableEq, Repr

end Sys2Proof.Machine
end

