-- ==== Sys2Proof/Machine/TypesNet.lean ====
section
/-! DEFINITION. The state of the line ports and the management port (spec file 16). -/

namespace Sys2Proof.Machine

/-- A lossless priority (R603): watermarks, and headroom as rounded up to 4 KiB. -/
structure Lossless where
  xoff : Nat
  xon : Nat
  headroom : Nat
  deriving DecidableEq, Repr

/-- A line port (R592 to R607). -/
structure LinePort where
  /-- PORT_CFG parameter word 1 (R597) -/
  cfg : Nat := 0xE00005EE
  lossless : NMap Lossless := []
  /-- priorities in xoff, sent (R605), and classes stopped by the peer (R606) -/
  xoffSent : List Nat := []
  stopped : List Nat := []
  /-- counters of R607 that are not 0 -/
  stats : NMap Nat := []
  /-- the lanes that the port uses; empty while none can serve (R595) -/
  lanes : List Nat := []
  up : Bool := false
  degraded : Bool := false
  /-- a degrade or a restore retrains the port (R594, R595) -/
  retraining : Bool := false
  deriving DecidableEq, Repr

/-- The line ports. -/
structure MacSt where
  /-- mode and ports at 100 Gb/s (R592, R593) -/
  mode : Nat := 0
  mask100 : Nat := 0
  ports : NMap LinePort := []
  /-- lanes retired (R595) -/
  retired : List Nat := []
  deriving DecidableEq, Repr

/-- The management port and the MCTP endpoint (R611 to R616). -/
structure MgpSt where
  eid : Nat := 0
  link : Bool := false
  /-- speed and duplex that the PHY reports in band (R611) -/
  inSpeed : Nat := 2
  inFull : Bool := true
  /-- the PHY has a link -/
  phyUp : Bool := false
  /-- the frame that last collided, its collisions so far, and the slots that it backs off (R612) -/
  sending : Option (List Byte × Nat × Nat) := none
  /-- MCTP messages that await Keeper (R615): source EID, message type, and the EID that a Set Endpoint ID assigns; a request of a code
that Keeper does not serve (R616) stands as 0x7E00 + its code, its status from bit 16 -/
  waiting : List (Nat × Nat × Option Nat) := []
  /-- board record words (R766) as read at auxiliary power good; none where it does not hold -/
  mac : Nat := 0
  deriving DecidableEq, Repr

end Sys2Proof.Machine
end

