-- ==== Sys2Proof/Machine/TypesOut.lean ====
section
/-! DEFINITION. What the device sends to the world outside it: the record that the model keeps of host writes, messages, frames
and pin changes, in the order in which the rules give them (R189 and the rules named at each constructor). -/

namespace Sys2Proof.Machine

/-- One thing that leaves the device. -/
inductive Out where
  /-- words written over an entry of a ring in host memory, in this order (R98, R99, R189): queue, ring index, PASID, word and value -/
  | entryWrite (qid index : Nat) (pasid : Option Nat) (writes : List (Nat × Word))
  /-- the answer to a class B command: the entry as replied (R616) -/
  | bmcReply (words : List Word)
  /-- CI write-back (R214): queue, PASID, address, CI, queue_gen -/
  | ciWriteBack (qid : Nat) (pasid : Option Nat) (addr ci qgen : Nat)
  /-- one unit of a device-produced ring (R206, R213): queue, index, PASID, its words -/
  | eventEntry (qid index : Nat) (pasid : Option Nat) (words : List Word)
  /-- an MSI-X message (R252): instance, vector, address, data -/
  | msix (iid vector addr data : Nat)
  /-- PM_PME of a function (R148) -/
  | pme (iid : Nat)
  /-- bytes written to host memory for an instance (R195, R237, R306, R506): instance, PASID, address, bytes -/
  | hostWrite (iid : Nat) (pasid : Option Nat) (addr : Nat) (bytes : List Byte)
  /-- a host read issued under a tag (R151, R306): tag, instance, PASID, address, byte count -/
  | hostRead (tag iid : Nat) (pasid : Option Nat) (addr count : Nat)
  /-- the answer to a configuration request (R67): function, and its value or Request Retry Status -/
  | configAnswer (fn : Nat) (value : Option Nat)
  /-- the answer to a register read -/
  | readData (mid : Nat) (value : Nat)
  /-- a completion with Unsupported Request status (R156) -/
  | unsupported (fn : Nat)
  /-- a drive's own read completed with Unsupported Request status (R170) -/
  | driveUr (port : Nat)
  /-- a peer's or a drive's read completed with Completer Abort (R315) -/
  | peerAbort (addr : Nat)
  /-- the answer to a peer-window read, or a drive's read (R170), or the acceptance of a peer-window write, at an LPDDR5X address (R159) -/
  | peerData (addr : Nat) (bytes : List Byte)
  /-- PME_TO_Ack (R149) -/
  | pmeToAck
  /-- a request for ASPM L1, with the LTR reported in us (R150) -/
  | l1Request (ltrUs : Nat)
  /-- a slot's power enable and its PERST#, asserted or not (R171 to R173) -/
  | slotPower (port : Nat) (on : Bool)
  | slotPerst (port : Nat) (asserted : Bool)
  /-- Keeper's first configuration request to a drive, retried while it answers Request Retry Status (R172) -/
  | driveConfig (port : Nat)
  /-- a frame started on a line port (R41): port, bytes, whether its FCS is inverted (R36) -/
  | lineFrame (port : Nat) (bytes : List Byte) (badFcs : Bool)
  /-- a pause or PFC frame sent (R605): port, class-enable vector (all ones for 802.3x), quanta per class -/
  | pauseFrame (port : Nat) (classes : Nat) (quanta : List Nat)
  /-- a message sent by the management endpoint (R614 to R616): destination EID, message type, body -/
  | mctp (eid type : Nat) (body : List Byte)
  /-- a pulse or level on the PPS_ALARM ball (R637, R645) -/
  | ppsBall (level : Bool)
  /-- a Spar packet or flit sent on a port (R688 to R693): port, words -/
  | sparFlit (port : Nat) (words : List Word)
  /-- a command posted to a downstream drive, or an NVMe Abort for one (R525): port, drive command -/
  | drive (port : Nat) (words : List Word)
  /-- an NVMe over TCP or RoCEv2 PDU sent on a connection (R522): connection, bytes as the transport carries them -/
  | pdu (conn : Nat) (bytes : List Byte)
  /-- a frame handed to a Lantern region (R652): region, stream, slot, sequence, bytes -/
  | regionFrame (region stream slot seq : Nat) (bytes : List Byte)
  /-- an answer on a region's memory or register port (R662, R664): region, tag, status, data -/
  | regionAnswer (region tag status : Nat) (bytes : List Byte)
  /-- an access on a region's register port (R664): region, register, the value written -/
  | regionReg (region addr : Nat) (value : Option Nat)
  /-- a signal to a region (R651, R665, R674): region, signal number -/
  | regionSignal (region signal : Nat)
  /-- the interrupt line of an event target (R250) -/
  | targetLine (target : Nat) (level : Bool)
  /-- data shifted out of the debug access port (R751, R754) -/
  | tap (value : Nat)
  /-- a wake posted to a Clove thread is visible to it only in State; the jam of a collision (R612) and its retry are sent here -/
  | sgmii (bytes : List Byte) (jam : Bool)
  deriving DecidableEq, Repr

end Sys2Proof.Machine
end

