-- ==== Sys2Proof/Machine/TypesPsq.lean ====
section
/-! DEFINITION. The state of the protocol sequencers (spec file 13). -/

namespace Sys2Proof.Machine

/-- A microcode bank of a group (R502, R511): microwords, nanowords, start points, context format. -/
structure Ucode where
  staged : Bool := false
  /-- the result of the bank's last verification (R62, R92) and the CRC of the body then in it -/
  verified : Bool := false
  bodyCrc : Word := 0#32
  format : Nat := 0
  entries : List Nat := []
  micro : List Word := []
  nano : List (List Word) := []
  deriving DecidableEq, Repr

/-- A control-store group (R496, R502, R514). Banks: 0 A, 1 B. -/
structure Group where
  banks : NMap Ucode := []
  active : Nat := 0
  started : Bool := false
  swapping : Bool := false
  /-- the member sequencers that have switched to the new bank (R514) -/
  switched : List Nat := []
  deriving DecidableEq, Repr

/-- A fetched work entry (R498, R506, R520, R523): queue, ring index, units, words, and the words that the routine has stored. For the
transports: its first PSN and number of packets once it has been started, and the response bytes received. -/
structure WorkEntry where
  q : Nat
  /-- the queue's generation, its instance and the instance's generation, as they were when the entry was fetched (R217, R285) -/
  gen : Nat := 0
  iid : Nat := 0
  igen : Nat := 0
  index : Nat
  units : Nat
  words : List Word
  stored : List Nat := []
  first : Option Nat := none
  pkts : Nat := 0
  got : Nat := 0
  deriving DecidableEq, Repr

/-- A trigger (R498): kind, connection, frame, status, cookie and result, owner generation. -/
structure Trigger where
  kind : Nat
  conn : Nat
  frame : Option Pkt := none
  status : Nat := 0
  cookie : Nat := 0
  result : Nat := 0
  gen : Nat := 0
  deriving DecidableEq, Repr

/-- A posted port operation (R506): port, sub-operation, arguments and owner generation. -/
structure PostedOp where
  conn : Nat
  port : Nat
  sub : Nat
  args : List Dword
  gen : Nat
  deriving DecidableEq, Repr

/-- A routine: the micro-state, the context window, the frame, the entry in the window (R498 to R506). -/
structure Routine where
  conn : Nat
  kind : Nat
  bank : Nat
  upc : Nat
  g : List Dword := List.replicate 32 0#64
  imm : Nat := 0
  flags : Nat := 1
  link : List Nat := []
  ctx : List Byte := []
  /-- the context access faults with this kind (R324, R508) -/
  ctxFault : Option Nat := none
  frame : Option Pkt := none
  entry : Option WorkEntry := none
  iid : Nat := 0
  gen : Nat := 0
  deriving DecidableEq, Repr

/-- A full trap slot: the frame of R509 as Keeper sees it, and the routine. -/
structure TrapSlot where
  words : List Word
  routine : Routine
  deriving DecidableEq, Repr

/-- A sequencer (R496 to R499, R509). -/
structure Sequencer where
  retired : Bool := false
  queue : List Trigger := []
  /-- the routines that run, by connection -/
  running : NMap Routine := []
  /-- the micro-PC last executed -/
  upc : Nat := 0
  slots : NMap TrapSlot := []
  /-- a routine that stands at a trap for which no slot is free, with cause and code -/
  stopped : Option (Routine × Nat × Nat) := none
  deriving DecidableEq, Repr

/-- The kinds of connection (R497). -/
inductive ConnKind where
  | qp | nvme | local
  deriving DecidableEq, Repr

/-- A connection (R497, R516, R526). QP states: 0 Reset, 1 Init, 2 RTR, 3 RTS, 4 Error; the same 4 marks a connection that has
failed. -/
structure Conn where
  kind : ConnKind
  group : Nat
  owner : Nat
  gen : Nat
  /-- the QIDs of its rings; 65536 for none -/
  send : Nat := 65536
  recv : Nat := 65536
  leaf : Nat := 0
  state : Nat := 1
  /-- the parameter words of its last commands by number (R526) -/
  params : NMap Word := []
  timer : Bool := false
  entries : List WorkEntry := []
  /-- a command that destroys it waits -/
  closing : Bool := false
  /-- NVMe over TCP: ICResp has arrived -/
  connected : Bool := false
  /-- variables of R517 to R519: oldest unacknowledged, next and expected PSN, retries left, RNR retries left, whether a gap has been
  answered, rate in kb/s (0 for the port's), packets received and not acknowledged, messages received -/
  una : Nat := 0
  nxt : Nat := 0
  epsn : Nat := 0
  retries : Nat := 0
  rnr : Nat := 0
  nakSent : Bool := false
  rate : Nat := 0
  unacked : Nat := 0
  msn : Nat := 0
  /-- a SEND in progress: its receive entry and the bytes placed; a WRITE in progress: address, key, bytes left (R518) -/
  rx : Option (WorkEntry × Nat) := none
  wr : Option (Nat × Nat × Nat) := none
  /-- packets sent and not acknowledged, by PSN; the requests of READ entries apart (R517) -/
  sent : List (Nat × List Byte) := []
  /-- a CNP has been sent, or acted on, before (R519) -/
  cnpSent : Bool := false
  cnpSeen : Bool := false
  /-- successive RTOs of a TCP connection (R522) -/
  rtos : Nat := 0
  deriving DecidableEq, Repr

/-- A registered memory region (R526). -/
structure MemRegion where
  variant : Nat
  owner : Nat
  addr : Nat
  bytes : Nat
  rights : Nat
  pasid : Nat
  valid : Bool := true
  deriving DecidableEq, Repr

/-- A command outstanding at a drive (R525): port, connection, cookie, and the ring index of the entry that it serves. -/
structure DriveCmd where
  port : Nat
  conn : Nat
  cookie : Nat
  entry : Option Nat
  words : List Word
  deriving DecidableEq, Repr

/-- The sequencers. -/
structure PsqSt where
  groups : NMap Group := []
  seqs : NMap Sequencer := []
  conns : NMap Conn := []
  regions : NMap MemRegion := []
  posted : List PostedOp := []
  drive : List DriveCmd := []
  /-- receive entries fetched and not consumed, by QID: QPs may share a receive ring (R526) -/
  recvs : NMap (List WorkEntry) := []
  deriving DecidableEq, Repr

end Sys2Proof.Machine
end

