-- ==== Sys2Proof/Machine/TypesRas.lean ====
section
/-! DEFINITION. The state of fault counting, retirement, test and power (spec files 20 to 22) that lies outside the registers. -/

namespace Sys2Proof.Machine

/-- Fault counters, retirement and the fault log (R719 to R735). Resources are R719 identifiers. -/
structure RasSt where
  /-- the leaky-bucket counters that are above 0 -/
  counters : NMap Nat := []
  /-- resources retired, and resources held in service by the limit of their kind -/
  retired : List Nat := []
  limitHold : List Nat := []
  /-- retirements that wait, in the order of their threshold crossings, and those that run, one of a kind -/
  queued : List Nat := []
  running : List Nat := []
  /-- per resource and class 0 code (resource * 256 + code): events that the next record will carry in merged (R734) -/
  merged : NMap Nat := []
  /-- the fault log holds a record; the oldest and newest sequences stand in RAS_LOG_OLDEST and RAS_LOG_NEWEST (R733) -/
  logged : Bool := false
  deriving DecidableEq, Repr

/-- Resources under test and the debug access port (R740 to R755). Resources are R740 identifiers. -/
structure TstSt where
  underTest : List Nat := []
  /-- trace buffers by owner (cluster k, or 16 + c for KCc): records by slot (R753) -/
  trace : NMap (NMap Dword) := []
  keeperPtr : NMap Nat := []
  /-- device time of the last record of a buffer: a record of the same time may fall in its cycle -/
  traceAt : NMap Nat := []
  /-- the fused minimum debug level (R754) -/
  dbgMin : Nat := 0
  deriving DecidableEq, Repr

/-- Power (R762 to R769). -/
structure PwrSt where
  /-- the levels on the strap balls and on MAIN_PG (R764, R765) -/
  strapBoot : Nat := 0
  strapRetainN : Bool := true
  strapMgpDis : Bool := false
  mainPg : Bool := false
  /-- the power-limit and the thermal cause of the throttle state (R769) -/
  limitCause : Bool := false
  thermalCause : Bool := false
  deriving DecidableEq, Repr

end Sys2Proof.Machine
end

