-- ==== Sys2Proof/Machine/TypesSaf.lean ====
section
/-! DEFINITION. The state of the Saffron cipher engine (spec file 14). -/

namespace Sys2Proof.Machine

/-- Who asks for a cipher operation (R533, R546): a frame of a CIPHER action, or a SAF port operation of a sequencer (sequencer's
connection, arguments). -/
inductive SafReq where
  | frame (pkt : Pkt) (encrypt reparse : Bool)
  | port (conn gen : Nat) (args : List Dword)
  deriving DecidableEq, Repr

/-- A request in Saffron with its association (R541, R546, R549): not yet entered; entered with a key slot, the record and the
sequence that it took; or, a frame, ready to be returned behind an earlier one (R452). -/
structure SafWait where
  /-- the model's own: numbers requests as they come -/
  id : Nat
  assoc : Nat
  req : SafReq
  slot : Option Nat := none
  record : List Word := []
  seq : Nat := 0
  ready : Option Pkt := none
  deriving DecidableEq, Repr

/-- An entry of the derived-key cache (R541): root slot, context and length, and the ready key and salt. -/
structure SafKey where
  root : Nat
  context : List Byte
  bits : Nat
  key : List Byte × List Byte
  deriving DecidableEq, Repr

/-- Saffron: root keys by slot, association records of 64 words, the key cache in order of last use, requests that wait. -/
structure SafSt where
  roots : NMap (List Byte) := []
  assocs : NMap (List Word) := []
  cache : List SafKey := []
  waiting : List SafWait := []
  nextId : Nat := 0
  /-- key slots (association * 2 + slot) that have raised their warning (R552) -/
  warned : List Nat := []
  deriving DecidableEq, Repr

end Sys2Proof.Machine
end

