-- ==== Sys2Proof/Machine/TypesSnap.lean ====
section
/-! DEFINITION. The configuration that a snapshot holds (R69, R70, R322, R780). -/

namespace Sys2Proof.Machine

/-- What a snapshot records, which the manual leaves to Keeper firmware's own format: the manager's settings in every block and the quota
record and admin ring of every instance. -/
structure SnapConfig where
  /-- CRC-32C of the body that stands for it in MRAM -/
  bodyCrc : Word := 0#32
  /-- registers by window offset with the bits of them that hold configuration -/
  regs : List (Nat × Nat × Nat) := []
  insts : NMap Inst := []
  prs : PrsSt := {}
  rules : NMap Rule := []
  clsInst : Option ClsInst := none
  tables : NMap EmTable := []
  vrfs : NMap Vrf := []
  lists : NMap (Nat × List Act) := []
  paths : NMap (List Nat) := []
  tunnels : NMap (List Word) := []
  mirrors : NMap Mirror := []
  policers : NMap Policer := []
  nodes : NMap Node := []
  gates : NMap Gates := []
  instDefault : NMap Nat := []
  portMode : Nat := 0
  mask100 : Nat := 0
  ports : NMap LinePort := []
  carve0 : List Nat := []
  carve1 : List Nat := []
  quotas : NMap Quota := []
  allowance : Nat := 312
  /-- regions as assigned, with their caps and taps (R680, R681) -/
  regions : NMap Region := []
  /-- fabric membership, routes, epoch and grants (R695, R700, R706) -/
  spr : SparSt := {}
  /-- TIM_PPS_STATUS and the pulse's width (R637) -/
  pps : Nat × Nat := (0, 0)
  subs : NMap Telemetry := []
  /-- clusters in 8-bank mode (R491) -/
  wide : List Nat := []
  /-- regions granted to peers, base and size, and the windows in force (R161, R341) -/
  grants : List (Nat × Nat) := []
  wins : NMap PeerWin := []
  /-- claims on output balls and reserve buffers that the configuration holds: resource and holder (R133) -/
  claims : List (Nat × Nat) := []
  deriving DecidableEq, Repr

end Sys2Proof.Machine
end

