-- ==== Sys2Proof/Machine/TypesTime.lean ====
section
/-! DEFINITION. The state of the time unit and of Daymark (spec file 17) that lies outside the registers. -/

namespace Sys2Proof.Machine

/-- Device time and Daymark (R618 to R645). -/
structure TimeSt where
  /-- device time runs: step 14 of R64 has been reached since main supplies good (R619) -/
  running : Bool := false
  /-- device time in units of 2^-32 ns (R618, R619) -/
  t : Nat := 0
  /-- the frequency adjustment in 1/256 ppb (R621) -/
  freq : Int := 0
  /-- the running slew: its offset in 1/256 ns and its duration in us (R621) -/
  slew : Option (Int × Nat) := none
  /-- the live calibration table, header included; empty for nominal values (R632) -/
  live : List Byte := []
  /-- side records by index, and the index that the next one takes (R627) -/
  side : NMap (List Word) := []
  sideNext : Nat := 0
  /-- PPS output width in ns (R637), and the level of the PPS_ALARM ball -/
  ppsWidth : Nat := 0
  ppsBall : Bool := false
  /-- the alarm drives the ball, asserts WAKE#, and its WAKE# waits for auxiliary power (R645) -/
  alarmBall : Bool := false
  alarmWake : Bool := false
  alarmHeld : Bool := false
  /-- progress towards Daymark's next tick, in units of 10^-17 s, while its crystal counts (R641, R642) -/
  dmPhase : Nat := 0
  deriving DecidableEq, Repr

end Sys2Proof.Machine
end

