-- ==== Sys2Proof/Machine/State.lean ====
section
/-! DEFINITION. The state of the KZ-1600 as plain data, its reset, and the reasons for which a step stops. -/

namespace Sys2Proof.Machine

/-- The state of the device. -/
structure State where
  /-- registers by window offset; one not listed holds its reset value (Regs.lean) -/
  regs : NMap Dword
  boot : Boot
  cmds : Commands
  host : HostSt
  /-- queue contexts by QID (R214) -/
  queues : NMap QCtx
  dma : DmaSt
  evc : EvcSt
  buoy : BuoySt
  /-- instances by IID (R275) -/
  insts : NMap Inst
  mem : MemSt
  pgr : PgrSt
  bpm : BpmSt
  prs : PrsSt
  cls : ClsSt
  tbl : TblSt
  swx : SwxSt
  pipe : PipeSt
  time : TimeSt
  ras : RasSt
  tst : TstSt
  pwr : PwrSt
  clv : ClvSt
  psq : PsqSt
  saf : SafSt
  frs : FrsSt
  mac : MacSt
  mgp : MgpSt
  lan : LanSt
  spr : SparSt
  /-- what the snapshots in MRAM hold, by slot (R70) -/
  snaps : NMap SnapConfig
  /-- the model's own: how many free values have been drawn (log entry 2) -/
  fresh : Nat
  /-- the model's own: what has left the device, newest first (log entry 5) -/
  out : List Out
  /-- the commands that wait, first in first out -/
  pending : List Instr
  deriving DecidableEq, Repr

/-- Reasons for which the device stops. No rule of the manual stops it; a device without power stays in State and its commands
change nothing (log entry 1), so no step raises this reason. -/
inductive Fault where
  /-- never raised -/
  | unreachable
  deriving DecidableEq, Repr

/-- Reasons for which the model gives a command no effect. -/
inductive Refusal where
  /-- raised by exec for a command that has no meaning yet; safe -/
  | notModelled (mnemonic : String)
  deriving DecidableEq, Repr

/-- The device after reset: without power, every register at the value its header gives, nothing in any memory, nothing waiting
(log entry 6). -/
def State.reset : State where
  regs := []
  boot := {}
  cmds := {}
  host := {}
  queues := []
  dma := {}
  evc := {}
  buoy := {}
  insts := []
  mem := {}
  pgr := {}
  bpm := {}
  prs := {}
  cls := {}
  tbl := {}
  swx := {}
  pipe := {}
  time := {}
  ras := {}
  tst := {}
  pwr := {}
  clv := {}
  psq := {}
  saf := {}
  frs := {}
  mac := {}
  mgp := {}
  lan := {}
  spr := {}
  snaps := []
  fresh := 0
  out := []
  pending := []

end Sys2Proof.Machine
end

