-- ==== Sys2Proof/Machine/Ops.lean ====
section
/-! DEFINITION. The named operations over registers, event sources, claims, host vectors and free values. -/

namespace Sys2Proof.Machine

/-! ## Registers -/

/-- The row of the register map that holds window offset a, with the register's index in its array (R8, R27). -/
def regDefAt (a : Nat) : Option (RegDef × Nat) :=
  let hit := (blockRegs (a / 0x100000)).find? fun d =>
    d.off ≤ a && (if d.step = 0 then a = d.off else (a - d.off) % d.step = 0 && (a - d.off) / d.step < d.count)
  hit.map fun d => (d, if d.step = 0 then 0 else (a - d.off) / d.step)

/-- The reset value that a register's fields give. -/
def fieldsReset (fs : List RegField) : Nat := fs.foldl (fun n f => n + f.rst <<< f.lo) 0

/-- The reset value of the register at window offset a; 0 where none lies there. -/
def regReset (a : Nat) : Nat :=
  match regDefAt a with
  | some (d, _) => fieldsReset d.fields
  | none => 0

/-- The value that the register at window offset a holds. -/
def State.reg (s : State) (a : Nat) : Nat :=
  match lookup s.regs a with
  | some v => v.toNat
  | none => regReset a

/-- s with the register at window offset a holding v. -/
def State.setReg (s : State) (a v : Nat) : State :=
  { s with regs := insertKey s.regs a (BitVec.ofNat 64 v) }

/-- The value of a field. -/
def State.rf (s : State) (f : FRef) : Nat := field (s.reg f.addr) f.hi f.lo

/-- Whether a one-bit field reads 1. -/
def State.rfb (s : State) (f : FRef) : Bool := s.rf f == 1

/-- s with a field holding v. -/
def State.setF (s : State) (f : FRef) (v : Nat) : State :=
  s.setReg f.addr (putField (s.reg f.addr) f.hi f.lo v)

/-- A counter counts k; every 32-bit counter saturates at 0xFFFF_FFFF (R128, R134, R239 and the other register maps). -/
def State.bumpBy (s : State) (a k : Nat) : State := s.setReg a (satAdd 32 (s.reg a) k)

/-- A counter counts one. -/
def State.bump (s : State) (a : Nat) : State := s.bumpBy a 1

/-- The registers that p selects return to their reset values (R11). -/
def State.resetRegs (s : State) (p : RegDef → Nat → Bool) : State :=
  { s with regs := s.regs.filter fun e =>
      match regDefAt e.1 with
      | some (d, i) => !p d i
      | none => true }

/-- The clock island of a register (R27, R493, R685). -/
def islandOf (d : RegDef) (i : Nat) : Nat :=
  match d.isl with
  | .fixed n => n
  | .cluster => i
  | .region => 16 + i

/-! ## Free values and what leaves the device -/

/-- The next value that the manual leaves open, and s with it drawn (log entry 2). -/
def State.draw (s : State) : Nat × State :=
  ((Config.freeValue s.fresh).toNat, { s with fresh := s.fresh + 1 })

/-- The next byte string that the manual leaves open (log entry 2). -/
def State.drawBytes (s : State) : List Byte × State := (Config.freeBytes s.fresh, { s with fresh := s.fresh + 1 })

/-- s with one more thing that has left the device. -/
def State.emit (s : State) (o : Out) : State := { s with out := o :: s.out }

/-! ## Event sources (R243 to R251) -/

/-- The sources whose pending bit is 1, in rising order (EVC_PENDING_k). -/
def State.pendingSources (s : State) : List Nat :=
  (List.range 16).flatMap fun k =>
    let w := s.reg (R.EVC_PENDING k)
    if w = 0 then [] else (numsWhere 32 (bitAt w)).map fun b => 32 * k + b

/-- Source n is claimable by target t: pending, enabled and in the target mask (R247). -/
def State.claimable (s : State) (t n : Nat) : Bool :=
  s.rfb (F.EVC_SRC_CTL_enable n) && bitAt (s.reg (R.EVC_SRC_MASK n)) t

/-- The lowest source that target t may claim (R247). -/
def State.claimFor (s : State) (t : Nat) : Option Nat := s.pendingSources.find? (s.claimable t)

/-- Target t is idle: a Keeper core in WFI, or a supervisor that waits (R251). -/
def State.targetIdle (s : State) (t : Nat) : Bool :=
  if 4 ≤ t && t < 20 then (lookupD (lookupD s.clv.clusters (t - 4) {}).threads 0 {}).state == 4 else s.evc.idle.contains t

/-- Target t's interrupt line follows what it may claim, through its hold and its idleness (R250, R251). -/
def State.settleLine (s : State) (t : Nat) : State :=
  let want := (s.claimFor t).isSome
  let line := s.rfb (F.EVC_TGT_CFG_line t)
  if want && !line then
    if s.evc.hold.contains t then
      if s.targetIdle t then
        ((s.setF (F.EVC_TGT_CFG_line t) 1).bump R.EVC_BYPASS).emit (.targetLine t true)
      else s
    else (s.setF (F.EVC_TGT_CFG_line t) 1).emit (.targetLine t true)
  else if !want && line then
    let s := (s.setF (F.EVC_TGT_CFG_line t) 0).emit (.targetLine t false)
    if s.rf (F.EVC_TGT_CFG_interval_ns t) = 0 then s
    else { s with evc := { s.evc with hold := t :: s.evc.hold.filter (· != t) } }
  else s

/-! ## Clove threads (R458 to R465, R479 to R484) -/

/-- Cluster k. -/
def State.cl (s : State) (k : Nat) : Cluster := lookupD s.clv.clusters k {}

/-- s with cluster k replaced. -/
def State.setCl (s : State) (k : Nat) (c : Cluster) : State :=
  { s with clv := { s.clv with clusters := insertKey s.clv.clusters k c } }

/-- Thread n is Absent: its core is retired, the whole cluster with core 0, or the mode is Narrow (R458, R469). -/
def Cluster.absent (c : Cluster) (n : Nat) : Bool :=
  c.retired.contains (n / 16) || c.retired.contains 0 || (!c.wide && n % 16 ≥ 8)

/-- Thread n of a cluster. -/
def Cluster.th (c : Cluster) (n : Nat) : Thread :=
  if c.absent n then { state := 0 } else lookupD c.threads n {}

/-- s with thread n of cluster k replaced. -/
def State.setTh (s : State) (k n : Nat) (t : Thread) : State :=
  let c := s.cl k
  s.setCl k { c with threads := insertKey c.threads n t }

/-- Thread n of cluster k. -/
def State.th (s : State) (k n : Nat) : Thread := (s.cl k).th n

/-- The wake causes that CLV.WAIT would return to a thread: the compare and the enabled causes (R479). -/
def State.wakeCauses (s : State) (k n : Nat) : Nat :=
  let t := s.th k n
  let level := if n != 0 then 0 else
    b2n (!(s.cl k).notes.isEmpty) * 16 + b2n (s.claimFor (4 + k)).isSome * 32
  (t.latched % 16 + level) &&& (t.wakeEn % 32 * 2 + 1)

/-- Register r of a thread set to v; x0 ignores writes. -/
def Thread.wr (t : Thread) (r v : Nat) : Thread := if r = 0 then t else { t with x := t.x.set r (w32 v) }

/-- A Waiting thread to which a cause is due runs again with the causes in rd and clv_cause (R464, R479). -/
def State.tryWake (s : State) (k n : Nat) : State :=
  let t := s.th k n
  let w := s.wakeCauses k n
  if t.state = 4 && w != 0 then
    s.setTh k n ({ t with state := 2, cause := w, latched := t.latched - (t.latched &&& w) }.wr t.waitRd w)
  else s

/-- A wake cause (a bit of R479) is latched at a thread and may wake it. -/
def State.latchWake (s : State) (k n bit : Nat) : State :=
  let t := s.th k n
  if t.state < 2 then s
  else (s.setTh k n { t with latched := t.latched ||| 2 ^ bit }).tryWake k n

/-- A posted wake (R480): discarded and counted for an Absent or Free thread. -/
def State.postWake (s : State) (k n : Nat) : State :=
  if (s.th k n).state < 2 then s.bump (R.CLV_WAKE_DISCARDS k) else s.latchWake k n 1

/-- Every served target's line is brought up to date; targets 20 to 31 are never served (R245, R250). A Clove supervisor that waits for
a claimable event is woken (R479). -/
def State.settleLines (s : State) : State :=
  (List.range 16).foldl (fun s k => s.tryWake k 0) ((List.range 20).foldl State.settleLine s)

/-- Main supplies are good (R762). -/
def State.mainOn (s : State) : Bool := s.rfb F.PWR_STATUS_main_good

/-- A rising edge on source n (R243). While the event controller has no power the edge is held (log entry 14). -/
def State.raiseEs (s : State) (n : Nat) : State :=
  if !s.mainOn then { s with boot := { s.boot with heldEs := n :: s.boot.heldEs.filter (· != n) } } else
  let a := R.EVC_PENDING (n / 32)
  if bitAt (s.reg a) (n % 32) then s.bump R.EVC_EDGES_MERGED
  else (s.setReg a (s.reg a + 2 ^ (n % 32))).settleLines

/-- A source that is raised at most once per 1 ms (R95, R131, R773): raised the first time; later, whether 1 ms has passed is a
value left open (log entry 7). -/
def State.raiseLimited (s : State) (n : Nat) : State :=
  if s.boot.limited.contains n then
    let (v, s) := s.draw
    if v % 2 = 1 then s.raiseEs n else s
  else ({ s with boot := { s.boot with limited := n :: s.boot.limited } }).raiseEs n

/-- A block has stopped: its last consistency check refused it (R781; log entry 57). -/
def State.blkStopped (s : State) (b : Nat) : Bool :=
  field (s.reg (b * 2 ^ 20 + 4)) 0 0 = 0 && field (s.reg (b * 2 ^ 20 + 4)) 31 16 != 0

/-! ## Modes and instances -/

/-- GLB_MODE.mode (R48): 0 Standby, 1 Provision, 2 Service, 3 Degraded Service, 4 Maintenance, 5 Recovery. -/
def State.mode (s : State) : Nat := s.rf F.GLB_MODE_mode

/-- The state of instance i (R275, R276): instance 0 is Active once it is created. -/
def State.inst (s : State) (i : Nat) : Inst := lookupD s.insts i {}

/-- s with instance i replaced. -/
def State.setInst (s : State) (i : Nat) (v : Inst) : State := { s with insts := insertKey s.insts i v }

/-- The generation after g: it wraps from 0xFFFF to 0x0001 (R282). -/
def nextGen (g : Nat) : Nat := if g ≥ 0xFFFF then 1 else g + 1

/-- Vectors in the instance's quota; instance 0 has PF0's 2,048 (R145, R291). -/
def State.vectorQuota (s : State) (i : Nat) : Nat :=
  if i = 0 then 2048 else field (wd (s.inst i).quota 1) 22 16

/-- Configuration of function f. -/
def State.fn (s : State) (f : Nat) : FnCfg := lookupD s.host.fns f {}

/-- s with the configuration of function f replaced. -/
def State.setFn (s : State) (f : Nat) (c : FnCfg) : State :=
  { s with host := { s.host with fns := insertKey s.host.fns f c } }

/-! ## Host vectors (R252 to R255) -/

/-- Vector v of instance i. -/
def State.vec (s : State) (i v : Nat) : Vec := lookupD s.evc.vecs (i * 4096 + v) {}

/-- s with vector v of instance i replaced. -/
def State.setVec (s : State) (i v : Nat) (x : Vec) : State :=
  { s with evc := { s.evc with vecs := insertKey s.evc.vecs (i * 4096 + v) x } }

/-- One MSI-X message is sent and the moderation timer starts at EVC_HOST_MOD_i (R252). A vector beyond the quota never fires (R144), and one that
has been masked since it was raised becomes pending in its place (R255). -/
def State.sendVec (s : State) (i v : Nat) : State :=
  let x := s.vec i v
  if v ≥ s.vectorQuota i then s.setVec i v { x with held := false }
  else if x.masked || !(s.fn i).msixEnable then s.setVec i v { x with held := false, pba := true }
  else
  let s := s.setVec i v { x with timer := s.rf (F.EVC_HOST_MOD_interval_us i) != 0, held := false, pba := false }
  (s.bump R.EVC_HOST_MSGS).emit (.msix i v x.addr x.data)

/-- A raise of a host vector (R252, R254, R255). A vector beyond the quota never fires (R144). -/
def State.raiseVec (s : State) (i v : Nat) : State :=
  let x := s.vec i v
  if v ≥ s.vectorQuota i then s
  else if x.masked || !(s.fn i).msixEnable then s.setVec i v { x with pba := true }
  else if x.idle then ((s.setVec i v { x with idle := false }).sendVec i v).bump R.EVC_BYPASS
  else if x.timer then s.setVec i v { x with held := true }
  else s.sendVec i v

/-! ## Claims (R129 to R134) -/

/-- The claims held (RCL_IN_USE). -/
def State.claimCount (s : State) : Nat := s.cmds.claims.length

/-- The holder word of R130. -/
def holderWord (block feature mid : Nat) : Nat := 2 ^ 31 + block * 2 ^ 24 + feature * 2 ^ 16 + mid

/-- Why a claim of a resource for a holder is refused, with the holder word to record (R131, R134); none where it is satisfied. An update lock
that is held refuses a second update of its own block and feature too (R94). -/
def State.claimFault (s : State) (res holder : Nat) : Option (Nat × Nat) :=
  if !s.rfb F.RCL_BLK_STATUS_ready then some (0x1F03, 0)
  else match lookup s.cmds.claims res with
    | some h => if field h 28 16 = field holder 28 16 && field res 31 24 != 4 then none else some (0x1F01, h)
    | none => if s.claimCount ≥ 4096 then some (0x1F02, 0) else none

/-- A refused claim is counted, recorded and raises ES 14 (R131). -/
def State.claimRefused (s : State) (res holder : Nat) : State :=
  (((s.bump R.RCL_REFUSALS).setReg R.RCL_LAST_REFUSED_RES res).setReg R.RCL_LAST_REFUSED_HOLDER holder).raiseLimited 14

/-- A claim is taken; one that its holder already has is left as it was (R131). Reaching 4,096 claims raises ES 15 (R95). -/
def State.takeClaim (s : State) (res holder : Nat) : State :=
  match lookup s.cmds.claims res with
  | some _ => s
  | none =>
    let s := { s with cmds := { s.cmds with claims := insertKey s.cmds.claims res holder } }
    if s.claimCount = 4096 then s.raiseEs 15 else s

/-- The first of several claims that is refused: its resource, reason and holder (R125, R132). -/
def State.firstRefused (s : State) : List (Nat × Nat) → Option (Nat × Nat × Nat)
  | [] => none
  | (res, h) :: rest =>
    match s.claimFault res h with
    | some (reason, holder) => some (res, reason, holder)
    | none => s.firstRefused rest

/-- All the claims that a function needs are taken at once, or none is (R125). -/
def State.takeClaims (s : State) (cs : List (Nat × Nat)) : State := cs.foldl (fun s c => s.takeClaim c.1 c.2) s

/-- A claim is released (R133). -/
def State.dropClaim (s : State) (res : Nat) : State :=
  { s with cmds := { s.cmds with claims := eraseKey s.cmds.claims res } }

/-- Every claim whose holder word satisfies p is released (R133). -/
def State.dropClaims (s : State) (p : Nat → Bool) : State :=
  { s with cmds := { s.cmds with claims := s.cmds.claims.filter fun c => !p c.2 } }

/-- A resource identifier names a class and an index of R129 (R776). -/
def claimKnown (res : Nat) : Bool :=
  let c := field res 31 24
  let i := field res 23 0
  match c with
  | 1 => i = 0
  | 2 => i < 2048
  | 3 => i < 8
  | 4 => i ≤ 4 || (0x10 ≤ i && i ≤ 0x2F) || i = 0x30
  | 5 => i ≤ 254
  | 6 =>
    let k := i / 256
    let n := i % 256
    match k with
    | 1 => n < 8
    | 2 => n < 8
    | 3 => n < 32
    | 4 => n < 128
    | 5 => n < 32
    | 6 => n < 16
    | 7 => n < 2
    | 8 => n < 4
    | 9 => n < 16
    | 10 => n < 16
    | 11 => n < 1
    | _ => false
  | _ => false

end Sys2Proof.Machine
end

