-- ==== Sys2Proof/Machine/OpsFn.lean ====
section
/-! DEFINITION. The host functions: which exist, which requests they take, and their AER (R136 to R156). -/

namespace Sys2Proof.Machine

/-- VFs are instantiated (R67, R140). -/
def State.vfsOn (s : State) : Bool :=
  s.host.vfEnable && s.host.ariSampled && decide (s.host.numVfs ≤ 2047) && !s.rfb F.GLB_MODE_rom_recovery

/-- Function f exists: PF0, or a VF that is instantiated (R139, R140). -/
def State.fnExists (s : State) (f : Nat) : Bool := f = 0 || (s.vfsOn && decide (f ≤ s.host.numVfs))

/-- The host's memory requests reach function f: the link is up and Memory Space is enabled; not under the ROM recovery loader (R67). -/
def State.fnOpen (s : State) (f : Nat) : Bool :=
  s.mainOn && !s.boot.perst && s.rfb F.HST_LINK_STATUS_link_up && s.fnExists f && !s.rfb F.GLB_MODE_rom_recovery
    && (if f = 0 then (s.fn 0).memSpace else s.host.vfMse)

/-- A function's queues are served: it and PF0 are in D0 (R147). -/
def State.fnD0 (s : State) (f : Nat) : Bool := !(s.fn f).d3hot && !(s.fn 0).d3hot

/-- The device may read and write host memory for instance i. -/
def State.dmaOpen (s : State) (i : Nat) : Bool :=
  s.mainOn && !s.boot.perst && s.rfb F.HST_LINK_STATUS_link_up && s.fnExists i && (s.fn i).busMaster

/-- A master is where its requests come from: a host function that is open, or a master inside the device. -/
def State.masterOpen (s : State) (mid : Nat) : Bool := if mid < 0x800 then s.fnOpen mid else s.mainOn

/-- A default severity of R156. -/
inductive Severity where
  | correctable | advisory | nonfatal | fatal
  deriving DecidableEq, Repr

/-- The default severity of an error (R156). -/
def AerError.severity : AerError → Severity
  | .receiver | .replayTimer | .replayRollover | .correctedInternal => .correctable
  | .unexpectedCompletion | .unsupportedPosted | .poisoned => .advisory
  | .completionTimeout | .unsupportedNonPosted | .ecrc => .nonfatal
  | .malformed | .flowControl | .dataLink | .uncorrectableInternal => .fatal

/-- Bit positions of the errors in the two AER status registers (PCI Express Base; log entry 29). -/
def aerBit : AerError → Option Nat × Option Nat
  | .receiver => (none, some 0)
  | .replayTimer => (none, some 12)
  | .replayRollover => (none, some 8)
  | .correctedInternal => (none, some 14)
  | .completionTimeout => (some 14, none)
  | .unexpectedCompletion => (some 16, some 13)
  | .unsupportedPosted => (some 20, some 13)
  | .unsupportedNonPosted => (some 20, none)
  | .poisoned => (some 12, some 13)
  | .ecrc => (some 19, none)
  | .malformed => (some 18, none)
  | .flowControl => (some 13, none)
  | .dataLink => (some 4, none)
  | .uncorrectableInternal => (some 22, none)

/-- The first error logged that has a bit in the uncorrectable status: the First Error Pointer names it (R136). -/
def firstError (es : List AerError) : Option Nat := es.findSome? fun e => (aerBit e).1

/-- An error is logged in a function's AER and raises ES 65 or 66 (R156, R177); the first that the First Error Pointer names fills the header
log (R136). -/
def State.aer (s : State) (f : Nat) (e : AerError) : State :=
  let c := s.fn f
  let first := (firstError c.aer).isNone && (aerBit e).1.isSome
  let (v, s) := if first then s.draw else (c.header, s)
  (s.setFn f { c with aer := c.aer ++ [e], header := v }).raiseEs (match e.severity with
    | .correctable | .advisory => 65
    | .nonfatal | .fatal => 66)

/-- An unsupported posted request: Advisory Non-Fatal (R156; log entry 29). -/
def State.urPosted (s : State) (f : Nat) : State := s.aer f .unsupportedPosted

/-- An unsupported non-posted request: completed UR, Non-fatal (R156). -/
def State.urRead (s : State) (f : Nat) : State := (s.aer f .unsupportedNonPosted).emit (.unsupported f)

end Sys2Proof.Machine
end

