-- ==== Sys2Proof/Machine/OpsTime.lean ====
section
/-! DEFINITION. Operations of the time unit, Daymark and the calibration table (R618 to R645). -/

namespace Sys2Proof.Machine

/-- Units of device time in a second (R619). -/
def unitsPerSec : Nat := 10 ^ 9 * 2 ^ 32

/-- Seconds of device time (R618). -/
def timeSec (t : Nat) : Nat := t / unitsPerSec % 2 ^ 48

/-- Nanoseconds of device time. -/
def timeNs (t : Nat) : Nat := t / 2 ^ 32 % 10 ^ 9

/-- The fraction of device time in 1/256 ns: bits [31:24] of the accumulator (R619). -/
def timeFrac (t : Nat) : Nat := t / 2 ^ 24 % 256

/-- Device time of given seconds, nanoseconds and fraction. -/
def timeOf (sec ns frac : Nat) : Nat := sec * unitsPerSec + ns * 2 ^ 32 + frac * 2 ^ 24

/-- Device time now; it holds 0 until step 14 of R64 (R619). -/
def State.now (s : State) : Nat := if s.time.running then s.time.t else 0

/-- An instant offset from t by d in 1/256 ns; an instant before 0 reads 0 (log entry 12). -/
def timeAdd (t : Nat) (d : Int) : Nat := (Int.ofNat t + d * 2 ^ 24).toNat

/-- A timestamp is uncertain while time is not valid or the live table holds nominal values (R625). -/
def State.timeUncertain (s : State) : Bool := !s.rfb F.TIM_STATUS_time_valid || s.rfb F.TIM_STATUS_cal_nominal

/-- The compact timestamp of instant t (R625): low word and high word as one 64-bit value. -/
def compactTs (t : Nat) (uncertain : Bool) : Nat := (timeSec t % 2 ^ 32) * 2 ^ 32 + b2n uncertain * 2 ^ 31 + timeNs t

/-- The compact timestamp of the present. -/
def State.stamp (s : State) : Nat := compactTs s.now s.timeUncertain

/-- A signed 32-bit field. -/
def sint32 (n : Nat) : Int := (BitVec.ofNat 32 n).toInt

/-- A signed 64-bit field. -/
def sint64 (n : Nat) : Int := (BitVec.ofNat 64 n).toInt

/-- A signed value as a 32-bit register shows it. -/
def word32 (i : Int) : Nat := (BitVec.ofInt 32 i).toNat

/-- The nearest integer to n / d; of two equally near, the free choice up (log entry 2). -/
def roundDiv (n : Int) (d : Nat) (up : Bool) : Int :=
  let q := (2 * n + d) / (2 * d)
  if (2 * n + d) % (2 * d) = 0 && !up then q - 1 else q

/-- The sum a of frequency adjustment and slew as a fraction: numerator and denominator, in 1/256 ppb (R619, R621). -/
def rateOf (freq : Int) (slew : Option (Int × Nat)) : Int × Nat :=
  match slew with
  | none => (freq, 1)
  | some (off, us) => (freq * us + off * 10 ^ 6, us)

/-- R622: a stays within 500,000 ppb either way. -/
def rateOk (freq : Int) (slew : Option (Int × Nat)) : Bool :=
  let (n, d) := rateOf freq slew
  n ≤ 128000000 * (d : Int) && -(128000000 * (d : Int)) ≤ n

/-- TIM_FREQ, TIM_INCR and TIM_STATUS.slewing follow a (R619). -/
def State.showRate (s : State) : State :=
  let (n, d) := rateOf s.time.freq s.time.slew
  let (v, s) := s.draw
  let s := s.setReg R.TIM_FREQ (word32 (roundDiv n d (v % 2 = 1)))
  let s := s.setReg R.TIM_INCR (word32 (roundDiv (n * 2 ^ 24) (10 ^ 9 * d) (bitAt v 1)))
  s.setF F.TIM_STATUS_slewing (b2n s.time.slew.isSome)

/-- One CI46 cycle: device time gains 2^32 + TIM_INCR units (R619). -/
def State.timeCycle (s : State) : State :=
  if s.time.running then
    let t := (Int.ofNat s.time.t + 2 ^ 32 + sint32 (s.reg R.TIM_INCR)).toNat
    { s with time := { s.time with t := t % (2 ^ 48 * unitsPerSec) } }
  else s

/-! ## Daymark (R641 to R645) -/

/-- Daymark's seconds. -/
def State.dmSec (s : State) : Nat := s.reg R.TIM_DM_SEC_LO + s.rf F.TIM_DM_SEC_HI_v * 2 ^ 32

/-- s with Daymark's seconds and sub-second set. -/
def State.setDm (s : State) (sec sub : Nat) : State :=
  ((s.setReg R.TIM_DM_SEC_LO (sec % 2 ^ 32)).setReg R.TIM_DM_SEC_HI (sec / 2 ^ 32 % 2 ^ 16)).setReg R.TIM_DM_SUB (sub % 2 ^ 15)

/-- The section of a table: its record count and byte offset, where the directory lists type k (R631). -/
def calSection (tbl : List Byte) (k : Nat) : Option (Nat × Nat) :=
  let w := fun i => leNat (slice tbl (4 * i) 4)
  let n := field (w 1) 15 0
  ((List.range n).find? fun j => field (w (16 + 2 * j)) 31 16 = k).map fun j =>
    (field (w (16 + 2 * j)) 15 0, w (17 + 2 * j))

/-- Word w of record r of section k. -/
def calWord (tbl : List Byte) (k r w : Nat) : Option Nat :=
  match calSection tbl k with
  | some (n, off) => if r < n then some (leNat (slice tbl (off + 16 * r + 4 * w) 4)) else none
  | none => none

/-- The record number of a delay section for a port, width and rate. -/
def calRecord (tbl : List Byte) (k port width rate : Nat) : Option Nat :=
  match calSection tbl k with
  | some (n, off) => (List.range n).find? fun r =>
      let w := leNat (slice tbl (off + 16 * r) 4)
      field w 31 28 = port && field w 27 24 = width && field w 7 0 = rate
  | none => none

/-- A delay of the live table, in 1/256 ns: section 1 or 2, word 1 rx_delay or word 2 tx_delay; nominal where the table has no
record (R631; log entry 11). -/
def State.liveDelay (s : State) (k port width rate w : Nat) : Int :=
  match calRecord s.time.live k port width rate with
  | some r => sint32 ((calWord s.time.live k r w).getD 0)
  | none => (Config.calNominal k (port * 65536 + width * 256 + rate) w).toInt

/-- A time pin delay of the live table: word 0 PPS output, word 1 TIME_IN input (R631). -/
def State.pinDelay (s : State) (w : Nat) : Int :=
  match calWord s.time.live 5 0 w with
  | some n => sint32 n
  | none => (Config.calNominal 5 0 w).toInt

/-- The live Daymark trim in 0.01 ppm (R631, R642). -/
def State.dmTrim (s : State) : Int :=
  match calWord s.time.live 4 0 0 with
  | some n => (BitVec.ofNat 16 n).toInt
  | none => (Config.calNominal 4 0 0).toInt

/-- 10^-9 s of Daymark's crystal: 32,768 ticks a second, corrected by the trim (R641, R642; log entry 13). -/
def State.dmCycle (s : State) : State :=
  let p := s.time.dmPhase + (32768 * (10 ^ 8 + s.dmTrim)).toNat
  if p < 10 ^ 17 then { s with time := { s.time with dmPhase := p } }
  else
    let sub := s.rf F.TIM_DM_SUB_v + 1
    let s := { s with time := { s.time with dmPhase := p - 10 ^ 17 } }
    if sub < 2 ^ 15 then s.setDm s.dmSec sub else s.setDm (s.dmSec + 1) 0

/-- The PPS_ALARM ball takes a level (R637, R645). -/
def State.setPpsBall (s : State) (level : Bool) : State :=
  if s.time.ppsBall = level then s else { s with time := { s.time with ppsBall := level } }.emit (.ppsBall level)

/-! ## Writes of MRAM (R320, R321) -/

/-- The bit of MEM_MRAM_PROT that stands for the area of an MRAM offset; none for a reserved area (R320, R353). -/
def mramArea (a : Nat) : Option Nat :=
  if a < 0x4000 then some 0
  else if 0x10000 ≤ a && a < 0xD0000 then some 1
  else if 0x100000 ≤ a && a < 0x200000 then some 2
  else if 0x200000 ≤ a && a < 0x300000 then some 3
  else if 0x300000 ≤ a && a < 0x800000 then some 4
  else if 0x800000 ≤ a && a < 0x4000000 then some 5
  else if 0x4000000 ≤ a && a < 0x6000000 then some 6
  else if 0x6000000 ≤ a && a < 0x8000000 then some 7
  else none

/-- The bit of an area reads 1 while a write of firmware's, the boot ROM's or the loader's runs there, and 0 after it (R321). -/
def State.markMram (s : State) (a : Nat) (on : Bool) : State :=
  match mramArea a with
  | some b => s.setReg R.MEM_MRAM_PROT (putField (s.reg R.MEM_MRAM_PROT) b b (b2n on))
  | none => s

/-- Firmware, the boot ROM or the loader writes MRAM, and the write completes (R321). -/
def State.putMram (s : State) (a : Nat) (bs : List Byte) : State :=
  { s with mem := { s.mem with mram := Mem.write s.mem.mram a bs } }.markMram a false

/-! ## Calibration copies (R630 to R633) -/

/-- MRAM offset of calibration copy k (R320). -/
def calOffset (k : Nat) : Nat := 0x10000 + k * 0x40000

/-- CRC-32C over words 0-14 and bytes 64 to length - 1 (R630). -/
def calCrc (tbl : List Byte) : Nat := (crc32c (tbl.take 60 ++ tbl.drop 64)).toNat

/-- A copy is valid: magic, length in range, CRC (R630). -/
def calValid (tbl : List Byte) : Bool :=
  leNat (slice tbl 0 4) = 0x4B5A434C && 256 ≤ tbl.length && tbl.length ≤ 262144 && tbl.length % 64 = 0
    && leNat (slice tbl 60 4) = calCrc tbl

/-- The bytes of copy k as its header gives their number. -/
def State.calCopy (s : State) (k : Nat) : List Byte :=
  let len := Mem.word s.mem.mram (calOffset k + 12)
  Mem.bytes s.mem.mram (calOffset k) (min len 262144)

/-- The valid copies with their numbers. -/
def State.calValids (s : State) : List (Nat × List Byte) :=
  ((List.range 3).map fun k => (k, s.calCopy k)).filter fun c => calValid c.2 && Mem.word s.mem.mram (calOffset c.1 + 12) ≤ 262144

/-- The sequence of a table. -/
def calSeq (tbl : List Byte) : Nat := leNat (slice tbl 8 4)

/-- The element of a list whose sequence is later than every other's (R774), if there is one. -/
def latestBy {α : Type} (seq : α → Nat) (l : List α) : Option α :=
  l.find? fun a => (l.filter fun b => seq b = seq a).length = 1 && l.all fun b => seq b = seq a || later (seq a) (seq b)

/-- The latest sequence of a list that is not empty (R774): the one later than every other, else the largest as an unsigned value. -/
def latestSeq (seqs : List Nat) : Nat :=
  (latestBy id seqs).getD (seqs.foldl max 0)

/-- The sequence after the latest of a list; 1 for an empty list. -/
def nextSeq (seqs : List Nat) : Nat := if seqs.isEmpty then 1 else add32 (latestSeq seqs) 1

/-- A table becomes live (R634): its Daymark trim and delays apply to events from now on. -/
def State.calLive (s : State) (tbl : List Byte) : State :=
  (({ s with time := { s.time with live := tbl } }).setReg R.TIM_CAL_SEQ (if tbl = [] then 0 else calSeq tbl)).setF
    F.TIM_STATUS_cal_nominal (b2n (tbl = []))

/-- Step 10 of R64: the live values are settled from the three copies (R632). The outcome is answered for the fault log. -/
def State.calLoad (s : State) : Nat × State :=
  let v := s.calValids
  let same := fun (a b : Nat × List Byte) => a.2 = b.2
  let pick : Nat × Option (Nat × List Byte) :=
    match v with
    | [] => (4, none)
    | a :: rest =>
      if rest.all (same a) then (0, some a)
      else
        match v.find? fun x => (v.filter (same x)).length = 2 with
        | some x => (1, some x)
        | none =>
          match latestBy (fun x => calSeq x.2) v with
          | some x => (2, some x)
          | none => (3, none)
  match pick with
  | (outcome, none) =>
    let s := s.calLive []
    let s := s.setReg R.TIM_CAL_STATUS (outcome * 2 ^ 29 + (v.foldl (fun n c => n + 2 ^ c.1) 0) * 2 ^ 24 + 3 * 2 ^ 16)
    (outcome, (s.raiseEs 435).raiseEs 436)
  | (outcome, some x) =>
    let bad := (List.range 3).filter fun k => !(v.any fun c => c.1 = k && c.2 = x.2)
    let s := bad.foldl (fun s k => s.putMram (calOffset k) x.2) s
    let s := s.calLive x.2
    let s := s.setReg R.TIM_CAL_STATUS (outcome * 2 ^ 29 + (v.foldl (fun n c => n + 2 ^ c.1) 0) * 2 ^ 24
      + (bad.foldl (fun n k => n + 2 ^ k) 0) * 2 ^ 20 + x.1 * 2 ^ 16)
    (outcome, if outcome = 0 then s else s.raiseEs 435)

/-- The port, width and rate of a line delay record lie in R592. -/
def lineRateOk (port width rate : Nat) : Bool :=
  (width = 8 && port = 0 && rate = 16) || (width = 4 && port < 2 && rate = 8) || (width = 2 && port < 4 && rate = 4)
    || (width = 1 && port < 8 && (rate = 2 || rate = 1))

/-- The port, width and rate of a Spar delay record lie in R687. -/
def sparRateOk (port width rate : Nat) : Bool := port < 4 && ((width = 2 && rate = 2) || (width = 1 && rate = 1))

/-- A delay lies within 1,000 ns (R633). -/
def delayOk (n : Nat) : Bool := -256000 ≤ sint32 n && sint32 n ≤ 256000

/-- The sections of a supplied table as type, count, offset and end (R631). -/
def calSections (tbl : List Byte) : List (Nat × Nat × Nat × Nat) :=
  let w := fun i => leNat (slice tbl (4 * i) 4)
  (List.range (field (w 1) 15 0)).map fun j =>
    let k := field (w (16 + 2 * j)) 31 16
    let n := field (w (16 + 2 * j)) 15 0
    let off := w (17 + 2 * j)
    (k, n, off, off + n * (if k = 3 then Config.equalisationBytes else 16))

/-- The fault of a table supplied to CAL_TABLE_WRITE, in the order of R633: a TIM reason, or none. -/
def calFault (tbl : List Byte) (blockBytes : Nat) : Option Nat :=
  let w := fun i => leNat (slice tbl (4 * i) 4)
  let len := w 3
  let n := field (w 1) 15 0
  let secs := calSections tbl
  let kinds := secs.map (·.1)
  if w 0 != 0x4B5A434C || field (w 1) 31 16 != 1 || len < 256 || len > 262144 || len % 64 != 0 || len > blockBytes
      || n < 1 || n > 64 || kinds.any (fun k => k < 1 || k > 5) || kinds.any (fun k => (kinds.filter (· = k)).length != 1)
      || secs.any (fun x => x.2.2.1 % 16 != 0) then some 0x1401
  else if w 15 != calCrc (tbl.take len) then some 0x1402
  else if secs.any (fun x => x.2.2.2 > len || (x.2.1 != 0 && (x.2.2.1 < 64 + 8 * n || secs.any fun y =>
      y.1 != x.1 && x.2.2.1 < y.2.2.2 && y.2.2.1 < x.2.2.2))) then some 0x1407
  else if secs.any (fun x => (List.range x.2.1).any fun r =>
      let d := fun i => leNat (slice tbl (x.2.2.1 + 16 * r + 4 * i) 4)
      if x.1 = 1 || x.1 = 2 then
        !delayOk (d 1) || !delayOk (d 2)
          || !((if x.1 = 1 then lineRateOk else sparRateOk) (field (d 0) 31 28) (field (d 0) 27 24) (field (d 0) 7 0))
      else if x.1 = 5 then !delayOk (d 0) || !delayOk (d 1)
      else if x.1 = 4 then
        let t := (BitVec.ofNat 16 (d 0)).toInt
        t < -20000 || 20000 < t
      else false) then some 0x1408
  else none

end Sys2Proof.Machine
end

