-- ==== Sys2Proof/Machine/OpsQueue.lean ====
section
/-! DEFINITION. The operations of the queue manager: contexts, doorbells, completions, notifications and event entries
(R178 to R217). -/

namespace Sys2Proof.Machine

/-- The context of QID q; one that State does not list is Free and was never created. -/
def State.q (s : State) (q : Nat) : QCtx := lookupD s.queues q {}

/-- s with the context of QID q replaced. -/
def State.setQ (s : State) (q : Nat) (c : QCtx) : State := { s with queues := insertKey s.queues q c }

/-- The PASID of the queue's ring and buffer accesses, when set (R214, R306). -/
def QCtx.pas (c : QCtx) : Option Nat := if c.pasidEn then some c.pasid else none

/-- Units of a ring (R178). -/
def QCtx.size (c : QCtx) : Nat := 2 ^ c.sizeLog2

/-- The QID of local queue l of instance i, if it is not Free. -/
def State.findQ (s : State) (i l : Nat) : Option Nat :=
  (s.queues.find? fun e => e.2.iid = i && e.2.loc = l && e.2.state != 0).map (·.1)

/-- The contexts that are not Free (QMG_QUEUES_IN_USE). -/
def State.queuesInUse (s : State) : Nat := (s.queues.filter fun e => e.2.state != 0).length

/-- The hot contexts (QMG_HOT_CTX). -/
def State.hotCount (s : State) : Nat := (s.queues.filter fun e => e.2.state != 0 && e.2.hot).length

/-- The lap parity of the entry at index i (R184). -/
def lapParity (c : QCtx) (i : Nat) : Nat := field i c.sizeLog2 c.sizeLog2

/-- Word 8 of a context (R214). -/
def ctxFlags (c : QCtx) : Nat :=
  c.pasid * 2 ^ 12 + b2n c.pasidEn * 2 ^ 11 + b2n c.armed * 2 ^ 10 + b2n c.overflow * 2 ^ 9 + b2n c.notifyAll * 2 ^ 8
    + b2n c.rxScatter * 8 + b2n c.ciWbEn * 4 + b2n c.wakeOnRx

/-- The 16 words of a context (R214). -/
def ctxWords (c : QCtx) : List Word :=
  [ w32 (c.type * 2 ^ 24 + c.sizeLog2 * 2 ^ 16 + c.state * 2 ^ 13 + c.iid), w32 (c.qgen * 2 ^ 16 + c.loc),
    w32 c.base, w32 (c.base / 2 ^ 32), w32 c.pi, w32 c.ci, w32 c.fi, w32 (c.evq * 2 ^ 16 + c.vector), w32 (ctxFlags c),
    w32 c.ciWb, w32 (c.ciWb / 2 ^ 32), w32 (c.coalTime * 2 ^ 16 + c.coalCount), w32 c.drops, w32 c.entryErrors,
    w32 (c.instGen * 2 ^ 16), w32 c.stale ]

/-- queue_gen is a 16-bit count (R214, R216). -/
def nextQgen (g : Nat) : Nat := (g + 1) % 2 ^ 16

/-! ## Power management events -/

/-- WAKE# is asserted in Standby where it is armed (R149). -/
def State.assertWake (s : State) : State :=
  if s.mode = 0 && s.rfb F.PWR_STATUS_aux_good && s.boot.wakeArmed then
    ({ s with boot := { s.boot with wakeAsserted := true } }).raiseEs 77
  else s

/-- A function in D3hot with PME_En at 1 sends PM_PME, not again until PME_Status is cleared (R148). -/
def State.pmeOf (s : State) (f : Nat) : State :=
  let c := s.fn f
  if c.d3hot && c.pmeEn && !c.pmeStatus then ((s.setFn f { c with pmeStatus := true }).emit (.pme f)).raiseEs 77 else s

/-- A wake source of instance i: its function's, or PF0's in place of a VF in D0 under a PF0 in D3hot (R148). -/
def State.pmeWake (s : State) (i : Nat) : State :=
  if (s.fn i).d3hot then s.pmeOf i else if (s.fn 0).d3hot then s.pmeOf 0 else s

/-! ## Device-produced rings (R206 to R213) -/

/-- One unit is posted at PI; an armed queue raises its vector (R207, R209). -/
def State.postUnit (s : State) (e : Nat) (body : List Word) : State :=
  let c := s.q e
  let w0 := putField (wd body 0) 31 31 (1 - lapParity c c.pi)
  let s := (s.setQ e { c with pi := add32 c.pi 1, armed := false }).emit (.eventEntry e c.pi c.pas (setWd body 0 w0))
  if c.armed then s.raiseVec c.iid c.vector else s

/-- n notifications fall due on ring e: the overflow marker, the drop or the post (R210, R211). A ring that is not Active posts
nothing (log entry 9). R210 gives the marker's queue_gen no value, and does not say whether posting it clears `armed`: the model writes 0 and leaves
`armed` as it was (DESIGN CHOICE, log entry 60). -/
def State.postDue (s : State) (e n : Nat) (body : List Word) : State :=
  let c := s.q e
  if c.state != 1 then s
  else if c.overflow then
    (s.setQ e { c with drops := satAdd 32 c.drops n }).bumpBy R.QMG_NOTIFY_DROPPED n
  else if sub32 c.pi c.ci = c.size - 1 then
    let ts := s.stamp
    let w0 := (1 - lapParity c c.pi) * 2 ^ 31 + 0x02 * 2 ^ 16
    let marker := [w32 w0, w32 0xFFFF, 0#32, 0#32, w32 ts, w32 (ts / 2 ^ 32), w32 c.drops] ++ List.replicate 9 0#32
    let s := (s.setQ e { c with pi := add32 c.pi 1, overflow := true, drops := satAdd 32 c.drops n }).emit
      (.eventEntry e c.pi c.pas marker)
    (((s.raiseVec c.iid c.vector).bumpBy R.QMG_NOTIFY_DROPPED n).bump R.QMG_EVQ_OVERFLOWS).raiseEs 225
  else s.postUnit e body

/-- An entry that falls due on ring e would be posted: the ring is Active, has not overflowed and has room (R210, R211). -/
def State.postsDue (s : State) (e : Nat) : Bool :=
  let c := s.q e
  c.state = 1 && !c.overflow && sub32 c.pi c.ci != c.size - 1

/-- The event entry of kind k that reports count notifications of queue q (R206). -/
def State.eventBody (s : State) (q kind count : Nat) : List Word :=
  let c := s.q q
  let ts := s.stamp
  [w32 (kind * 2 ^ 16 + count), w32 (c.qgen * 2 ^ 16 + c.loc), w32 c.ci, w32 (c.accStatus * 2 ^ 16 + c.accTag),
    w32 ts, w32 (ts / 2 ^ 32)] ++ List.replicate 10 0#32

/-- The event queue that queue q reports to. -/
def State.evqOf (s : State) (q : Nat) : Option Nat :=
  let c := s.q q
  if c.evq = 0xFFFF then none
  else (s.findQ c.iid c.evq).filter fun e => (s.q e).type = 6

/-- The notifications accumulated for queue q are posted as one kind 0x01 entry (R208). -/
def State.postNotify (s : State) (q : Nat) : State :=
  match s.evqOf q with
  | none => s
  | some e =>
    let body := s.eventBody q 0x01 (s.q q).accCount
    let n := (s.q q).accCount
    let ci := (s.q q).ci
    let posted := s.postsDue e
    let c := s.q q
    let s := s.setQ q { c with accCount := 0, lastPosted := if posted then ci else c.lastPosted }
    s.postDue e n body

/-- One notification of queue q: accumulated, and posted when coalesce_count have accumulated (R208). -/
def State.notify (s : State) (q status tag : Nat) : State :=
  match s.evqOf q with
  | none => s
  | some e =>
    let c := s.q q
    let s := s.setQ q { c with accCount := c.accCount + 1, accStatus := status, accTag := tag }
    let e := s.q e
    if e.coalCount ≤ 1 || c.accCount + 1 ≥ e.coalCount then s.postNotify q else s

/-! ## Completions on submission rings (R182, R189, R190) -/

/-- CI moves past every entry that is complete and contiguous from it (R182). -/
def advanceCi (ci : Nat) (done : List (Nat × Nat)) : Nat → Nat × List (Nat × Nat)
  | 0 => (ci, done)
  | fuel + 1 =>
    match done.find? (·.1 = ci) with
    | some (i, u) => advanceCi (add32 ci u) (done.filter (·.1 != i)) fuel
    | none => (ci, done)

/-- A final completion is written: result words, word 3, word 0 with the inverse of the lap parity, CI, the CI write-back, the
notification (R184, R189, R198). A status of BAD_OPCODE, BAD_LENGTH or BAD_PARAM counts as an entry error (R214, R239, R241). -/
def State.writeDone (s : State) (q : Nat) (d : Done) : State :=
  let c := s.q q
  let word0 := putField d.w0 31 31 (1 - lapParity c d.index)
  let s := s.emit (.entryWrite q d.index c.pas (d.writes ++ [(3, w32 (d.status * 2 ^ 16 + d.reason)), (0, w32 word0)]))
  let done := c.doneAhead ++ [(d.index, d.units)]
  let (ci, rest) := advanceCi c.ci done done.length
  let bad := d.status = 0x10 || d.status = 0x11 || d.status = 0x12
  let s := s.setQ q { c with
    ci := ci, doneAhead := rest, entryErrors := if bad then satAdd 32 c.entryErrors 1 else c.entryErrors
    drops := if c.type = 3 && d.status = 0x0102 then satAdd 32 c.drops 1 else c.drops }
  let s := if bad then (s.bump R.QMG_ENTRY_ERRORS).raiseEs 224 else s
  let s := if c.ciWbEn && ci != c.ci then s.emit (.ciWriteBack q c.pas c.ciWb ci c.qgen) else s
  if d.notify then s.notify q d.status d.tag else s

/-- The completions that CI has come to are written in ring order (R190). -/
def State.writeReady (s : State) (q : Nat) : Nat → State
  | 0 => s
  | fuel + 1 =>
    let c := s.q q
    match c.ready.find? (·.index = c.ci) with
    | none => s
    | some d => ((s.setQ q { c with ready := c.ready.filter (·.index != c.ci) }).writeDone q d).writeReady q fuel

/-- The entry at index idx that consumes units is complete. On receive, transmit and sequencer work rings its completion is written
when every earlier one has been (R190). -/
def State.completeEntry (s : State) (q idx units w0 : Nat) (writes : List (Nat × Word)) (status reason tag : Nat)
    (notify : Bool) : State :=
  let c := s.q q
  let d : Done := { index := idx, units := units, w0 := w0, writes := writes, status := status, reason := reason, tag := tag, notify := notify }
  let c := { c with taken := c.taken.filter (·.index != idx) }
  let s := s.setQ q c
  if c.type = 1 then s.writeDone q d
  else if idx != c.ci then s.setQ q { c with ready := c.ready ++ [d] }
  else (s.writeDone q d).writeReady q c.ready.length

/-- Units of a queue's entries in flight (R216). -/
def QCtx.inFlight (c : QCtx) : Nat := c.taken.foldl (fun n t => n + t.units) 0

/-- The ring engine fetches the entry at fi: fi moves past its units, and the entry is in flight. -/
def State.takeUnits (s : State) (q units w0 tag : Nat) (notify : Bool) : State :=
  let c := s.q q
  s.setQ q { c with fi := add32 c.fi units, taken := c.taken ++ [{ index := c.fi, units := units, w0 := w0, tag := tag, notify := notify }] }

/-! ## QIDs and hot contexts -/

/-- The first Free QID at or after a start point; which one the pool gives is left open (log entry 2). -/
def State.freeQid (s : State) : Option Nat × State :=
  let (v, s) := s.draw
  let used := s.queuesInUse
  let hit := (List.range (used + 1)).find? fun k => (s.q ((v + k) % 65536)).state = 0
  (if used ≥ 65536 then none else hit.map fun k => (v + k) % 65536, s)

/-- Room for one more hot context: with 8,192 hot another is evicted first, and which one is left open (R215). -/
def State.makeHotRoom (s : State) : State :=
  if s.hotCount < 8192 then s
  else
    let hots := (s.queues.filter fun e => e.2.state != 0 && e.2.hot).map (·.1)
    let (v, s) := s.draw
    let k := hots.getD (v % hots.length) 0
    s.setQ k { s.q k with hot := false }

/-! ## Doorbells (R199 to R205) -/

/-- A submission-ring doorbell with value v on an Active queue (R200). -/
def State.ringPi (s : State) (q v : Nat) : State :=
  let c := s.q q
  if sub32 v c.ci ≤ c.size && sub32 v c.ci ≥ sub32 c.pi c.ci then s.setQ q { c with pi := v % 2 ^ 32 }
  else (s.bump R.QMG_DB_RANGE).raiseEs 226

/-- A device-produced ring's doorbell: CI, then arm (R205, R209). -/
def State.ringCi (s : State) (q v : Nat) (arm : Bool) : State :=
  let c := s.q q
  if sub32 v c.ci ≤ sub32 c.pi c.ci then
    let s := s.setQ q { c with ci := v % 2 ^ 32 }
    if !arm then s
    else
      let s := s.setQ q { s.q q with armed := true }
      if c.pi % 2 ^ 32 = v % 2 ^ 32 then s else s.raiseVec c.iid c.vector
  else (s.bump R.QMG_DB_RANGE).raiseEs 226

/-- A doorbell on a queue whose context is hot, by state (R202). -/
def State.applyDoorbell (s : State) (q v : Nat) (arm : Bool) : State :=
  let c := s.q q
  if c.state = 1 then (if c.type ≥ 5 then s.ringCi q v arm else s.ringPi q v)
  else if c.state = 4 then s.setQ q { c with heldDb := c.heldDb ++ [(v, arm)] }
  else s.bump R.QMG_DB_DISCARDED

/-- A doorbell on queue q: held in order while the context is not hot (R204). -/
def State.doorbell (s : State) (q v : Nat) (arm : Bool) : State :=
  let c := s.q q
  if !c.hot && c.state != 0 then s.setQ q { c with heldDb := c.heldDb ++ [(v, arm)] }
  else s.applyDoorbell q v arm

/-- The doorbells held for queue q are acted on in order (R202, R204). -/
def State.replayDoorbells (s : State) (q : Nat) : State :=
  let c := s.q q
  let s := s.setQ q { c with heldDb := [] }
  c.heldDb.foldl (fun s d => s.applyDoorbell q d.1 d.2) s

/-! ## States of queues (R216) -/

/-- A queue goes to Aborted under a host-facing reset, and the frames that waited for it count as dropped (R74, R75, R216). -/
def abortedQ (c : QCtx) : QCtx :=
  if c.state = 1 || c.state = 2 || c.state = 4 then
    { c with state := 3, qgen := nextQgen c.qgen, heldDb := [], rxBufs := [], rxWait := [], accCount := 0, doneAhead := [],
             taken := [], ready := [], drops := satAdd 32 c.drops c.rxWait.length }
  else c

/-- A queue goes to Free; its queue_gen is kept for the next creation (R216). -/
def freedQ (c : QCtx) (bump : Bool) : QCtx :=
  { ({} : QCtx) with qgen := if bump then nextQgen c.qgen else c.qgen }

/-- A queue starts on its ring with PI, CI and fi at 0 (R216, R280). -/
def startedQ (c : QCtx) : QCtx :=
  { c with state := 1, pi := 0, ci := 0, fi := 0, doneAhead := [], rxBufs := [], heldDb := [], accCount := 0, lastPosted := 0,
           taken := [], ready := [], overflow := false, armed := false, hot := true }

/-- The frames that waited for a queue that is destroyed or aborted are dropped with it (R75, R216). -/
def State.abortQueues (s : State) (i : Nat) : State :=
  { s with queues := s.queues.map fun e => if e.2.iid = i && e.2.state != 0 then (e.1, abortedQ e.2) else e }

/-- Every Active queue of instance i goes to Stopped (R216). -/
def State.stopQueues (s : State) (i : Nat) : State :=
  { s with queues := s.queues.map fun e => if e.2.iid = i && e.2.state = 1 then (e.1, { e.2 with state := 4 }) else e }

/-- Every Stopped queue of instance i goes to Active and its recorded doorbells are acted on, once its context is hot (R202, R204, R216). -/
def State.resumeQueues (s : State) (i : Nat) : State :=
  let mine := (s.queues.filter fun e => e.2.iid = i && e.2.state = 4).map (·.1)
  mine.foldl (fun s q =>
    let s := s.setQ q { s.q q with state := 1 }
    if (s.q q).hot then s.replayDoorbells q else s) s

/-! ## Pads (R187, R188) -/

/-- A pad entry at index idx of queue q whose header names len units (R188): it completes with status 0 and consumes its length
when that is the distance to the ring end and lies within PI; otherwise it completes with BAD_LENGTH and consumes one unit. -/
def State.padEntry (s : State) (q len tag w0 : Nat) : State :=
  let c := s.q q
  let good := len = c.size - c.fi % c.size && len ≤ sub32 c.pi c.fi
  let units := if good then len else 1
  (s.takeUnits q units w0 tag false).completeEntry q c.fi units w0 [] (if good then 0 else 0x11) 0 tag false

/-! ## Stale results (R217, R285) -/

/-- A result for an earlier life of queue q is discarded (R217). -/
def State.staleQueue (s : State) (q : Nat) : State :=
  let c := s.q q
  ((s.setQ q { c with stale := satAdd 32 c.stale 1 }).bump R.QMG_STALE_DISCARD).raiseEs 227

/-- A result for instance i is discarded for its generation; q names the queue that it names, if any (R217, R285). -/
def State.staleDiscard (s : State) (i : Nat) (q : Option Nat) : State :=
  let v := s.inst i
  let s := (s.setInst i { v with stale := satAdd 32 v.stale 1 }).bump R.INS_STALE_DISCARDS
  match q with
  | none => s
  | some q => s.staleQueue q

/-- A result that carries a queue_gen, and an instance with its generation, is stale (R217, R285). -/
def State.staleRef (s : State) (q qgen iid igen : Nat) : Bool :=
  let c := s.q q
  c.state = 0 || c.state = 3 || c.qgen != qgen || c.iid != iid || (s.inst iid).gen != igen

/-- Such a result is discarded: for its instance where the generation has changed, else for its queue alone. -/
def State.dropRef (s : State) (q iid igen : Nat) : State :=
  if (s.inst iid).gen != igen then s.staleDiscard iid (some q) else s.staleQueue q

end Sys2Proof.Machine
end

