-- ==== Sys2Proof/Machine/OpsCmd.lean ====
section
/-! DEFINITION. Yadopex commands: the catalogue, the acceptance checks, replies and PENDING commands (R96 to R121). -/

namespace Sys2Proof.Machine

/-- The Modes column of the catalogue (R113). -/
inductive ModesCol where
  | any | provRec | normal | normalRec
  deriving DecidableEq, Repr

/-- A row of the catalogue (R113). Every command may be issued by the manager; inst and bmc say whether class I and class B may. -/
structure CatRow where
  opcode : Nat
  inst : Bool
  bmc : Bool
  modes : ModesCol
  deriving DecidableEq, Repr

/-- Rows of the catalogue, part 1 of 3 (R113). -/
def catalogue1 : List CatRow := [
  ⟨0x0000, true, true, .any⟩,
  ⟨0x0001, true, false, .any⟩,
  ⟨0x0008, true, false, .any⟩,
  ⟨0x0010, false, false, .provRec⟩,
  ⟨0x0020, false, false, .any⟩,
  ⟨0x0021, false, false, .normalRec⟩,
  ⟨0x0022, false, true, .any⟩,
  ⟨0x0030, false, false, .any⟩,
  ⟨0x0031, false, true, .any⟩,
  ⟨0x0032, false, false, .any⟩,
  ⟨0x0040, false, true, .any⟩,
  ⟨0x0100, false, false, .any⟩,
  ⟨0x0101, false, false, .any⟩,
  ⟨0x0102, false, false, .any⟩,
  ⟨0x0103, true, false, .any⟩,
  ⟨0x0104, false, false, .any⟩,
  ⟨0x0105, false, false, .any⟩,
  ⟨0x0106, false, false, .any⟩,
  ⟨0x0200, true, false, .any⟩,
  ⟨0x0201, true, false, .any⟩,
  ⟨0x0202, true, false, .any⟩,
  ⟨0x0203, true, false, .any⟩,
  ⟨0x0210, true, false, .any⟩,
  ⟨0x0211, true, false, .any⟩,
  ⟨0x0212, true, false, .any⟩,
  ⟨0x0220, false, false, .any⟩,
  ⟨0x0300, false, false, .any⟩,
  ⟨0x0301, false, false, .any⟩,
  ⟨0x0302, false, false, .any⟩,
  ⟨0x0310, true, false, .any⟩,
  ⟨0x0311, true, false, .any⟩,
  ⟨0x0312, true, false, .any⟩,
  ⟨0x0320, false, false, .any⟩,
  ⟨0x0321, false, false, .any⟩,
  ⟨0x0400, false, false, .any⟩,
  ⟨0x0401, false, false, .any⟩,
  ⟨0x0410, true, false, .any⟩,
  ⟨0x0411, true, false, .any⟩]

/-- Rows of the catalogue, part 2 of 3 (R113). -/
def catalogue2 : List CatRow := [
  ⟨0x0412, true, false, .any⟩,
  ⟨0x0413, true, false, .any⟩,
  ⟨0x0414, false, false, .any⟩,
  ⟨0x0415, false, false, .any⟩,
  ⟨0x0420, false, false, .any⟩,
  ⟨0x0421, false, false, .any⟩,
  ⟨0x0422, false, false, .any⟩,
  ⟨0x0430, false, false, .any⟩,
  ⟨0x0500, false, false, .any⟩,
  ⟨0x0510, true, false, .any⟩,
  ⟨0x0511, true, false, .any⟩,
  ⟨0x0520, true, false, .any⟩,
  ⟨0x0521, true, false, .any⟩,
  ⟨0x0530, false, false, .any⟩,
  ⟨0x0600, false, false, .any⟩,
  ⟨0x0610, false, false, .any⟩,
  ⟨0x0620, false, false, .any⟩,
  ⟨0x0630, false, false, .any⟩,
  ⟨0x0700, false, false, .any⟩,
  ⟨0x0701, false, false, .normal⟩,
  ⟨0x0702, false, false, .any⟩,
  ⟨0x0703, false, false, .any⟩,
  ⟨0x0710, false, false, .any⟩,
  ⟨0x0800, false, false, .any⟩,
  ⟨0x0801, false, false, .normal⟩,
  ⟨0x0810, true, false, .any⟩,
  ⟨0x0811, true, false, .any⟩,
  ⟨0x0812, true, false, .any⟩,
  ⟨0x0813, true, false, .any⟩,
  ⟨0x0814, true, false, .any⟩,
  ⟨0x0820, true, false, .any⟩,
  ⟨0x0821, true, false, .any⟩,
  ⟨0x0830, false, false, .any⟩,
  ⟨0x0831, false, false, .any⟩,
  ⟨0x0900, false, false, .any⟩,
  ⟨0x0910, true, false, .any⟩,
  ⟨0x0911, true, false, .any⟩,
  ⟨0x0912, true, false, .any⟩]

/-- Rows of the catalogue, part 3 of 3 (R113). -/
def catalogue3 : List CatRow := [
  ⟨0x0920, false, false, .any⟩,
  ⟨0x0921, false, false, .any⟩,
  ⟨0x0A00, false, false, .any⟩,
  ⟨0x0A01, false, false, .any⟩,
  ⟨0x0A10, false, false, .any⟩,
  ⟨0x0A11, false, false, .any⟩,
  ⟨0x0A20, true, false, .any⟩,
  ⟨0x0B00, false, false, .any⟩,
  ⟨0x0B01, false, false, .any⟩,
  ⟨0x0B02, false, true, .any⟩,
  ⟨0x0B03, false, false, .any⟩,
  ⟨0x0B10, false, false, .any⟩,
  ⟨0x0B11, false, false, .any⟩,
  ⟨0x0B12, false, false, .any⟩,
  ⟨0x0B20, false, true, .any⟩,
  ⟨0x0B21, false, false, .any⟩,
  ⟨0x0C00, false, false, .any⟩,
  ⟨0x0C01, true, false, .normal⟩,
  ⟨0x0C02, true, false, .any⟩,
  ⟨0x0C03, true, false, .any⟩,
  ⟨0x0C04, false, false, .any⟩,
  ⟨0x0C05, false, false, .any⟩,
  ⟨0x0C06, false, false, .any⟩,
  ⟨0x0D00, false, false, .any⟩,
  ⟨0x0D01, false, false, .any⟩,
  ⟨0x0D02, false, false, .any⟩,
  ⟨0x0D03, false, false, .any⟩,
  ⟨0x0D04, false, false, .any⟩,
  ⟨0x0E00, false, true, .any⟩,
  ⟨0x0E01, false, false, .normal⟩,
  ⟨0x0E02, false, false, .normal⟩,
  ⟨0x0E03, false, false, .any⟩,
  ⟨0x0E04, false, true, .any⟩,
  ⟨0x0F00, false, false, .normal⟩,
  ⟨0x0F01, false, false, .normal⟩,
  ⟨0x0F02, false, false, .any⟩,
  ⟨0x0F03, false, false, .any⟩,
  ⟨0x0F04, false, true, .any⟩]

/-- The catalogue row of an opcode; every opcode absent from it answers BAD_OPCODE (R113). -/
def catRow (op : Nat) : Option CatRow := (catalogue1 ++ catalogue2 ++ catalogue3).find? (·.opcode = op)

/-- How a command's own check 10 and its effect end: done with result words, still running (with the counts of its final reply), or refused with a status, a reason and
result words. The state of a refusal differs only by what a refused claim leaves behind (R100, R131). -/
inductive Res where
  | ok (s : State) (ws : List Word)
  | pend (s : State)
  | pendNote (s : State) (note : List Nat)
  | bad (s : State) (status reason : Nat) (ws : List Word)

/-- REFUSED with a reason (R101). -/
def refuse (s : State) (reason : Nat) : Res := .bad s 0x20 reason []

/-- BAD_PARAM, naming the first offending entry word (R101). -/
def badParam (s : State) (word : Nat) : Res := .bad s 0x12 0 [w32 word]

/-- NOT_FOUND, NO_RESOURCE, QUOTA_EXCEEDED, BUSY and SIGNATURE_FAIL (R101). -/
def notFound (s : State) : Res := .bad s 0x18 0 []
def noResource (s : State) : Res := .bad s 0x14 0 []
def quotaExceeded (s : State) : Res := .bad s 0x15 0 []
def busy (s : State) : Res := .bad s 0x17 0 []
def sigFail (s : State) : Res := .bad s 0x1A 0 []

/-- A command as its chapter defines it: the parameter and result words that it needs (R97), the objects that it locks (R115),
whether it supports indirect (R105) and whether its body runs without the generation check (R109, R122). -/
structure CmdSpec where
  opcode : Nat
  needs : Cmd → Nat
  locks : State → Cmd → List Lock
  indirect : Bool
  noGen : Bool
  body : Cmd → State → Res

/-- The MID of an issuer (R107). -/
def issuerMid : Issuer → Nat
  | .inst i => i.val
  | .bmc => 0x1042

/-- The command that an entry spells (R96), fetched at ring index idx. -/
def cmdOf (s : State) (e : AdminEntry) (opcode idx : Nat) : Cmd :=
  let w0 := wd e.words 0
  { issuer := e.issuer, opcode := opcode, tag := field (wd e.words 1) 31 16, target := field (wd e.words 2) 10 0,
    gen := field (wd e.words 2) 31 16,
    igen := match e.issuer with
      | .inst i => (s.inst i.val).gen
      | .bmc => 0,
    checkOnly := bitAt w0 19, notify := bitAt w0 17, fence := bitAt w0 16, index := idx,
    units := field (wd e.words 1) 15 0, entry := e.words,
    params := if bitAt w0 18 then e.block.take (wd e.words 6 / 4) else (e.words.drop 4).take (16 * field (wd e.words 1) 15 0 - 4), data := e.data }

/-- The command carries `indirect` (R105). -/
def Cmd.indirect (c : Cmd) : Bool := bitAt (wd c.entry 0) 18

/-- Parameter word n. -/
def Cmd.p (c : Cmd) (n : Nat) : Nat := wd c.params n

/-- The PENDING commands of an issuer. -/
def State.pendOf (s : State) (i : Issuer) : List PendCmd := s.cmds.pend.filter fun p => p.cmd.issuer = i

/-- The admin queue of instance i: local queue 0 (R2). -/
def State.adminQ (s : State) (i : Nat) : Option Nat := s.findQ i 0

/-- The modes in which an issuer's commands are fetched (R48, R49, R110), with Keeper able to fetch (R85, R752). -/
def State.fetchOpen (s : State) (i : Issuer) : Bool :=
  s.boot.booted && !s.cmds.paused && !s.boot.keeperHalted && !s.boot.takeoverWaits && !s.boot.fatalWaits && !s.boot.frozen
    && !s.rfb F.GLB_MODE_rom_recovery
    && (match i with
      | .inst i => if i.val = 0 then s.mode ≥ 1 else s.mode = 2 || s.mode = 3 || s.mode = 4
      | .bmc => s.mode ≥ 1)

/-- An issuer certainly has an entry or a message to fetch: none of its commands is PENDING, so that no fence holds it (R103, R116). -/
def State.waitsFetch (s : State) (i : Issuer) : Bool :=
  s.fetchOpen i && (s.pendOf i).isEmpty
    && (match i with
      | .inst j =>
        match s.adminQ j.val with
        | some q => (s.q q).state = 1 && (s.q q).fi != (s.q q).pi
        | none => false
      | .bmc => !s.cmds.bmcQueue.isEmpty)

/-- The issuers other than the manager that may have an entry to fetch. -/
def State.otherIssuers (s : State) : List Issuer :=
  .bmc :: s.queues.filterMap fun e =>
    if h : e.2.iid < 2048 then (if e.2.type = 1 && e.2.iid != 0 && e.2.state = 1 then some (.inst ⟨e.2.iid, h⟩) else none) else none

/-- The manager as an issuer. -/
def Issuer.manager : Issuer := .inst 0

/-- It is an issuer's turn (R116): the manager has every second fetch, and in a round each other queue has one. -/
def State.inTurn (s : State) (i : Issuer) : Bool :=
  if i = Issuer.manager then !(s.cmds.managerLast && s.otherIssuers.any s.waitsFetch)
  else
    !(!s.cmds.managerLast && s.waitsFetch Issuer.manager)
      && !(s.cmds.served.contains i && s.otherIssuers.any fun j => !s.cmds.served.contains j && s.waitsFetch j)

/-- A fetch from an issuer's queue takes its place in the round (R116). -/
def State.turn (s : State) (i : Issuer) : State :=
  if i = Issuer.manager then { s with cmds := { s.cmds with managerLast := true } }
  else { s with cmds := { s.cmds with managerLast := false, served := if s.cmds.served.contains i then [i] else i :: s.cmds.served } }

/-- An issuer's next entry is eligible for fetch (R103, R116, R118, R775): below the PENDING limits, with a doorbelled entry in an Active
admin queue, in its turn, and not a fenced command while an earlier one is PENDING. -/
def State.eligible (s : State) (e : AdminEntry) : Bool :=
  s.fetchOpen e.issuer && s.inTurn e.issuer && (s.pendOf e.issuer).length < 16 && s.cmds.pend.length < 256
    && !(bitAt (wd e.words 0) 16 && !(s.pendOf e.issuer).isEmpty)
    && (match e.issuer with
      | .inst i =>
        match s.adminQ i.val with
        | some q => (s.q q).state = 1 && (s.q q).fi != (s.q q).pi
        | none => false
      | .bmc => s.cmds.bmcQueue.head? == some e.words)

/-- The ring index at which an issuer's next entry stands, with the units up to PI and to the ring end; a BMC message brings its
own length (R97, R226). -/
def State.entrySpan (s : State) (e : AdminEntry) : Nat × Nat :=
  match e.issuer with
  | .inst i =>
    match s.adminQ i.val with
    | some q => ((s.q q).fi, min (sub32 (s.q q).pi (s.q q).fi) ((s.q q).size - (s.q q).fi % (s.q q).size))
    | none => (0, 0)
  | .bmc => (0, e.words.length / 16)

/-- The writes of a reply: result word n into entry word 4 + n (R98). -/
def resultWrites (ws : List Word) : List (Nat × Word) := (List.range ws.length).map fun n => (4 + n, ws.getD n 0#32)

/-- The final reply of a command (R98, R104), the counters of R128, and the notification. -/
def State.answer (s : State) (c : Cmd) (consumed status reason : Nat) (ws : List Word) : State :=
  let s := if status = 0 then s else s.bump R.GLB_CMD_FAILED
  let s := if status = 0x16 then s.bump R.GLB_CMD_STALE else s
  match c.issuer with
  | .inst i =>
    match s.adminQ i.val with
    | some q =>
      if (s.inst i.val).gen = c.igen && (s.q q).state != 3 then
        s.completeEntry q c.index consumed (wd c.entry 0) (resultWrites ws) status reason c.tag c.notify
      else s.staleDiscard i.val (some q)
    | none => s.staleDiscard i.val none
  | .bmc =>
    let e := (List.range c.entry.length).map fun k =>
      if k = 0 then w32 (putField (wd c.entry 0) 31 31 (1 - field (wd c.entry 0) 31 31))
      else if k = 3 then w32 (status * 2 ^ 16 + reason)
      else if 4 ≤ k && k < 4 + ws.length then ws.getD (k - 4) 0#32
      else c.entry.getD k 0#32
    s.emit (.bmcReply e)

/-- A command has had its final reply: DEV_IMAGE_STAGE and DEV_IMAGE_ACTIVATE raise an event however they end (R95); a check_only one
changes nothing (R106). -/
def State.opEnded (s : State) (c : Cmd) : State :=
  if c.checkOnly then s
  else if c.opcode = 0x0020 then s.raiseEs 5
  else if c.opcode = 0x0021 then s.raiseEs 6
  else s

/-- A command ends with its final reply (R95, R98). -/
def State.reply (s : State) (c : Cmd) (consumed status reason : Nat) (ws : List Word) : State :=
  (s.answer c consumed status reason ws).opEnded c

/-- The PENDING reply (R99): word 3 alone, in a slot that stays the device's. Reaching 256 PENDING commands raises ES 11. -/
def State.replyPending (s : State) (c : Cmd) (locks : List Lock) (note : List Nat := []) : State :=
  let s := match c.issuer with
    | .inst i =>
      match s.adminQ i.val with
      | some q => s.emit (.entryWrite q c.index (s.q q).pas [(3, w32 0x00010000)])
      | none => s
    | .bmc => s
  let s := { s with cmds := { s.cmds with pend := s.cmds.pend ++ [{ cmd := c, locks := locks, note := note }] } }
  if s.cmds.pend.length = 256 then s.raiseEs 11 else s

/-- A PENDING command ends with its final reply and its locks are released (R99, R115); a QUEUE_DESTROY raises ES 229 (R241). -/
def State.finish (s : State) (p : PendCmd) (status reason : Nat) (ws : List Word) : State :=
  let s := { s with cmds := { s.cmds with pend := s.cmds.pend.filter (· != p) } }
  let s := s.reply p.cmd p.cmd.units status reason ws
  if p.cmd.opcode = 0x0201 then s.raiseEs 229 else s

/-- The first PENDING command that satisfies p. -/
def State.findPend (s : State) (p : PendCmd → Bool) : Option PendCmd := s.cmds.pend.find? p

/-- The first PENDING command of an opcode ends, where there is one. -/
def State.finishOp (s : State) (op : Nat) (status reason : Nat) (ws : List Word) : State :=
  match s.findPend (·.cmd.opcode = op) with
  | some p => s.finish p status reason ws
  | none => s

/-- A lock is held by a PENDING command (R115). -/
def State.locked (s : State) (l : Lock) : Bool := s.cmds.pend.any fun p => p.locks.contains l

/-- The mode check of R110: the answer is MODE_FORBIDS where this fails. DEV_START_SERVICE follows R57 instead. -/
def modeServes (s : State) (row : CatRow) : Bool :=
  let m := s.mode
  let inCol := match row.modes with
    | .any => true
    | .provRec => m = 1 || m = 5
    | .normal => m = 2 || m = 3 || m = 4
    | .normalRec => m ≥ 2
  row.opcode = 0x0010 || (inCol && (m != 5 || row.opcode < 0x100 || row.opcode = 0x0E00))

/-- The first reserved header field that is not 0: its entry word (R96, R114 check 3). -/
def headerFault (e : AdminEntry) : Option Nat :=
  if field (wd e.words 0) 30 20 != 0 then some 0
  else if field (wd e.words 2) 15 11 != 0 then some 2
  else if wd e.words 3 != 0 then some 3
  else none

/-- Issuer class and target (R107, R108). -/
def issuerAllowed (row : CatRow) (c : Cmd) : Bool :=
  match c.issuer with
  | .inst i => if i.val = 0 then true else row.inst && c.target = i.val
  | .bmc => row.bmc && c.target = 0

/-- Locks that stand against a command: its own objects, and its target instance while an INS command holds it (R114 check 9,
R115). INS_QUERY and DEV_IDENTIFY pass an instance lock. -/
def State.lockedOut (s : State) (locks : List Lock) (c : Cmd) : Bool :=
  locks.any s.locked || (c.opcode != 0x0103 && c.opcode != 0x0000 && s.locked ⟨.inst, c.target⟩)

/-- The answer of the acceptance checks 3 to 9 (R114), if one fails: status, reason, result words and units consumed. -/
def acceptFault (s : State) (spec : CmdSpec) (row : CatRow) (e : AdminEntry) (c : Cmd) : Option (Nat × Nat × List Word × Nat) :=
  match headerFault e with
  | some w => some (0x12, 0, [w32 w], c.units)
  | none =>
    if !issuerAllowed row c then some (0x13, 0, [], c.units)
    else if !modeServes s row then some (0x1B, 0, [], c.units)
    else if !spec.noGen && c.gen != (s.inst c.target).gen then some (0x16, 0, [], c.units)
    else if c.units * 16 < 4 + spec.needs c then some (0x11, 0, [], 1)
    else if (s.pendOf c.issuer).any (·.cmd.tag = c.tag) then some (0x20, 0x0E, [], c.units)
    else if s.lockedOut (spec.locks s c) c then some (0x17, 0, [], c.units)
    else if c.indirect && (!spec.indirect || c.issuer = .bmc) then some (0x12, 0, [w32 0], c.units)
    else if c.indirect && wd e.words 4 % 64 != 0 then some (0x12, 0, [w32 4], c.units)
    else if c.indirect && (wd e.words 6 % 64 != 0 || wd e.words 6 < 64 || wd e.words 6 > 2 ^ 20) then some (0x12, 0, [w32 6], c.units)
    else none

/-- The words that a command needs in its entry: with `indirect`, the block's address and length, or the results (R97, R105). -/
def Cmd.needsBlock (c : Cmd) (direct results : Nat) : Nat := max results (if c.indirect then 3 else direct)

/-- A block shorter than n words answers BAD_PARAM for its length (R105; log entry 32). -/
def Cmd.shortBlock (c : Cmd) (n : Nat) : Bool := c.indirect && c.params.length < n

/-- Every set bit of n lies in mask. -/
def fits (n mask : Nat) : Bool := n &&& mask == n

/-- The first parameter word with a reserved bit set, of those that a list names with the bits that they use (R101). -/
def Cmd.reserved (c : Cmd) (ws : List (Nat × Nat)) : Option Nat := (ws.find? fun w => !fits (c.p w.1) w.2).map (·.1)

/-- BAD_PARAM for parameter word n: entry word 4 + n (R96, R101). -/
def badP (s : State) (n : Nat) : Res := badParam s (4 + n)

/-- A body that first refuses reserved bits; BAD_PARAM names the first offending word, be it one that the body refuses (R101). -/
def Cmd.checked (c : Cmd) (s : State) (ws : List (Nat × Nat)) (body : Unit → Res) : Res :=
  match c.reserved ws with
  | none => body ()
  | some n => match body () with
    | .bad _ 0x12 _ (w :: _) => badParam s (min w.toNat (4 + n))
    | _ => badP s n

/-- The first of a list of refusals whose condition holds, or the body. -/
def guards (gs : List (Bool × (Unit → Res))) (body : Unit → Res) : Res :=
  match gs with
  | [] => body ()
  | (b, r) :: t => if b then r () else guards t body

/-- With check_only a command whose image verifies only after its acceptance answers as that verification would (R106). -/
def Cmd.tried (c : Cmd) (s : State) (fault : Option (Nat × Nat × List Word)) (body : Unit → Res) : Res :=
  match if c.checkOnly then fault else none with
  | some (st, rs, ws) => .bad s st rs ws
  | none => body ()

/-- A claim that a command needs is refused: its answer carries the resource and its holder (R102). -/
def claimAnswer (s : State) (res reason holder : Nat) : Res :=
  .bad (s.claimRefused res holder) 0x20 reason (if reason = 0x1F01 then [w32 res, w32 holder] else [])

/-- A body that needs claims: all are taken, or the first that fails refuses (R102, R125, R131). -/
def withClaims (s : State) (cs : List (Nat × Nat)) (body : State → Res) : Res :=
  match s.firstRefused cs with
  | some (res, reason, holder) => claimAnswer s res reason holder
  | none => body (s.takeClaims cs)

/-- The issuer's MID of a command. -/
def Cmd.mid (c : Cmd) : Nat := issuerMid c.issuer

/-- The command comes from the manager. -/
def Cmd.fromManager (c : Cmd) : Bool :=
  match c.issuer with
  | .inst i => i.val = 0
  | .bmc => false

/-- The words of a result. -/
def results (ns : List Nat) : List Word := ns.map w32

end Sys2Proof.Machine
end

