-- ==== Sys2Proof/Machine/OpsLog.lean ====
section
/-! DEFINITION. Records of the fault log and how they are written (R723, R733, R734). -/

namespace Sys2Proof.Machine

/-- MRAM offset of the log and its slots. -/
def logBase : Nat := 0x300000
def logSlots : Nat := 81920

/-- The record at an MRAM offset is valid: its sequence. -/
def State.logSeqAt (s : State) (a : Nat) : Option Nat :=
  let ws := Mem.words s.mem.mram a 16
  if field (wd ws 0) 31 24 = 0xFA && wd ws 15 = (crc32c (wordsBytes (ws.take 15))).toNat then some (wd ws 1) else none

/-- What a record reports beyond its type. -/
structure Record where
  cls : Nat := 0xFF
  block : Nat := 0x17
  res : Nat := 0xFFFF
  code : Nat := 0
  counter : Nat := 0
  merged : Nat := 0
  retry : Nat := 0
  mid : Option Nat := none
  detail : List Nat := []

/-- A record is written to the fault log by the active pair's firmware (R733); none runs without main supplies or under the ROM recovery
loader. -/
def State.log (s : State) (type : Nat) (x : Record) : State :=
  if !s.mainOn || s.rfb F.GLB_MODE_rom_recovery then s
  else
    let seq := if s.ras.logged then add32 (s.reg R.RAS_LOG_NEWEST) 1 else 1
    let a := logBase + seq % logSlots * 64
    let above := (s.logSeqAt a).isSome
    let ws := results [0xFA * 2 ^ 24 + x.cls * 2 ^ 16 + x.block * 2 ^ 8 + type, seq, timeSec s.now % 2 ^ 32,
      b2n (!s.rfb F.TIM_STATUS_time_valid) * 2 ^ 31 + timeSec s.now / 2 ^ 32, timeNs s.now, x.res * 2 ^ 16 + x.code,
      x.counter * 2 ^ 16 + min x.merged 0xFFFF, x.retry * 2 ^ 24 + s.mode * 2 ^ 21 + (match x.mid with
        | some m => 2 ^ 13 + m
        | none => 0)] ++ ((List.range 6).map fun k => w32 (x.detail.getD k 0)) ++ [0#32]
    let s := s.putMram a (wordsBytes (ws ++ [crc32c (wordsBytes ws)]))
    let oldest := if !s.ras.logged then seq else if sub32 seq (s.reg R.RAS_LOG_OLDEST) ≥ logSlots then add32 (s.reg R.RAS_LOG_OLDEST) 1
      else s.reg R.RAS_LOG_OLDEST
    let s := { s with ras := { s.ras with logged := true } }
    let s := ((s.setReg R.RAS_LOG_OLDEST oldest).setReg R.RAS_LOG_NEWEST seq).bump R.RAS_LOG_RECORDS
    let s := if above then s.raiseLimited 39 else s
    if type = 1 && 1 ≤ x.cls && x.cls ≤ 3 then s.raiseEs 38 else s

/-- The record of a fault (R734): each class 0 code writes at most one for a resource in a second, which carries those between; whether a
second has passed is left open (log entry 7). -/
def State.faultRecord (s : State) (x : Record) (force : Bool) : State :=
  if x.cls != 0 then s.log 1 { x with merged := 1 }
  else
    let key := x.res * 256 + x.code
    match lookup s.ras.merged key with
    | none => { s with ras := { s.ras with merged := insertKey s.ras.merged key 0 } }.log 1 { x with merged := 1 }
    | some n =>
      let (v, s) := s.draw
      if v % 2 = 1 || force then { s with ras := { s.ras with merged := insertKey s.ras.merged key 0 } }.log 1 { x with merged := n + 1 }
      else { s with ras := { s.ras with merged := insertKey s.ras.merged key (n + 1) } }

/-- A fault of a unit that is not retirable, reported by a block: it is logged and adds to no counter (R723). Its class, 0 or 1, and its code
are left open (log entry 7). -/
def State.faultElse (s : State) (block : Nat) (detail : List Nat) : State :=
  let (c, s) := s.draw
  let (v, s) := s.draw
  s.faultRecord { cls := c % 2, block := block, code := v % 65536, detail := detail } false

end Sys2Proof.Machine
end

