-- ==== Sys2Proof/Machine/OpsPort.lean ====
section
/-! DEFINITION. Operations of the line ports: modes and lanes, counters, pause and PFC accounts (R592 to R607). -/

namespace Sys2Proof.Machine

/-- Line port p. -/
def State.port (s : State) (p : Nat) : LinePort := lookupD s.mac.ports p {}

/-- s with line port p replaced. -/
def State.setPort (s : State) (p : Nat) (v : LinePort) : State :=
  { s with mac := { s.mac with ports := insertKey s.mac.ports p v } }

/-- Lanes of each port of a mode (R592). -/
def modeLanes (mode : Nat) : Nat := 8 / 2 ^ min mode 3

/-- The ports that exist in a mode. -/
def modePorts (mode : Nat) : Nat := 2 ^ min mode 3

/-- The lanes that port p of a mode is given. -/
def lanesOf (mode p : Nat) : List Nat := (List.range (modeLanes mode)).map fun k => p * modeLanes mode + k

/-- Line port p exists in the current mode. -/
def State.portExists (s : State) (p : Nat) : Bool := p < modePorts s.mac.mode

/-- Gb/s ÷ 100 of one lane of port p (R592). -/
def State.laneRate (s : State) (p : Nat) : Nat := if s.mac.mode = 3 && bitAt s.mac.mask100 p then 1 else 2

/-- The lanes a port of given lanes uses with some of them retired: it halves until its lower good part holds none (R595). -/
def servingLanes (ls retired : List Nat) : Nat → List Nat
  | 0 => []
  | fuel + 1 =>
    if ls.all fun l => !retired.contains l then ls
    else if ls.length ≤ 1 then []
    else
      let lo := ls.take (ls.length / 2)
      let hi := ls.drop (ls.length / 2)
      if lo.all fun l => !retired.contains l then lo
      else if hi.all fun l => !retired.contains l then hi
      else
        let a := servingLanes lo retired fuel
        if a.isEmpty then servingLanes hi retired fuel else a

/-- Rate of port p in Gb/s ÷ 100 at the lanes it uses. -/
def State.portRate (s : State) (p : Nat) : Nat := (s.port p).lanes.length * s.laneRate p

/-- Rate of port p in kb/s. -/
def State.portKbps (s : State) (p : Nat) : Nat := s.portRate p * 100000000

/-- Full rate of root p in kb/s, all of its lanes serving; root 8 has the device's rate (log entry 36). -/
def State.fullKbps (s : State) (p : Nat) : Nat := if p < 8 then modeLanes s.mac.mode * s.laneRate p * 100000000 else 1600000000

/-- Counter k of port p counts n; it saturates (R607). -/
def State.statBy (s : State) (p k n : Nat) : State :=
  let v := s.port p
  s.setPort p { v with stats := insertKey v.stats k (satAdd 64 (lookupD v.stats k 0) n) }

/-- Counter k of port p counts one. -/
def State.stat (s : State) (p k : Nat) : State := s.statBy p k 1

/-- fc_mode of a port: 0 none, 1 pause, 2 PFC (R597). -/
def LinePort.fcMode (v : LinePort) : Nat := field v.cfg 16 15

/-- admin_up of a port. -/
def LinePort.adminUp (v : LinePort) : Bool := bitAt v.cfg 31

/-- pass_control of a port. -/
def LinePort.passControl (v : LinePort) : Bool := bitAt v.cfg 28

/-- The S-tag TPID of a port. -/
def LinePort.tpid (v : LinePort) : Nat := if bitAt v.cfg 27 then 0x9100 else 0x88A8

/-- max_frame of a port, FCS included. -/
def LinePort.maxFrame (v : LinePort) : Nat := field v.cfg 13 0

/-- The priority account of port p: bytes received and still held, charged to the port (R602). -/
def State.account (s : State) (p prio : Nat) : Nat :=
  let all := (s.port p).fcMode = 1
  s.bpm.bufs.foldl (fun n e => if e.2.charge = 0x800 + p && (all || e.2.prio = prio) then n + e.2.bytes else n) 0

/-- A pause or PFC frame for one priority is sent (R605). -/
def State.sendPause (s : State) (p prio quanta : Nat) : State :=
  if (s.port p).fcMode = 1 then (s.stat p 42).emit (.pauseFrame p 0xFFFF [quanta])
  else ((s.stat p 43).stat p (44 + prio)).emit (.pauseFrame p (2 ^ prio) [quanta])

/-- One lossless priority follows its account through xoff and xon (R605). -/
def State.settleAccount (s : State) (p prio : Nat) : State :=
  let v := s.port p
  match lookup v.lossless prio with
  | none => s
  | some l =>
    if v.fcMode = 0 then s
    else
      let a := s.account p prio
      if a ≥ l.xoff && !v.xoffSent.contains prio then
        ((s.setPort p { v with xoffSent := prio :: v.xoffSent }).sendPause p prio 0xFFFF).raiseEs 424
      else if a ≤ l.xon && v.xoffSent.contains prio then
        ((s.setPort p { v with xoffSent := v.xoffSent.filter (· != prio) }).sendPause p prio 0).raiseEs 424
      else s

/-- Every lossless priority of port p follows its account. -/
def State.settlePort (s : State) (p : Nat) : State :=
  (s.port p).lossless.foldl (fun s e => s.settleAccount p e.1) s

/-- The account of the requester that a buffer was charged to is settled. -/
def State.settleRequester (s : State) (r : Nat) : State :=
  if 0x800 ≤ r && r < 0x808 then s.settlePort (r - 0x800) else s

end Sys2Proof.Machine
end

