-- ==== Sys2Proof/Machine/OpsMem.lean ====
section
/-! DEFINITION. Operations of the buffer pool manager (R342 to R352) and of the State Pager (R323 to R341). -/

namespace Sys2Proof.Machine

/-! ## Buffer pools -/

/-- Size of a class in 256-byte units (R342, R343). -/
def classUnits (c : Nat) : Nat := [1, 8, 40, 256].getD c 256

/-- Size of a class in bytes. -/
def classBytes (c : Nat) : Nat := classUnits c * 256

/-- First 256-byte unit of class c in a carve. -/
def carveBase (carve : List Nat) (c : Nat) : Nat :=
  (List.range c).foldl (fun n i => n + carve.getD i 0 * classUnits i) 0

/-- Units of 256 bytes that a carve takes. -/
def carveUnits (carve : List Nat) : Nat := carveBase carve 4

/-- The class whose buffers start at a unit of a carve, if one does. -/
def carveClass (carve : List Nat) (u : Nat) : Option Nat :=
  (List.range 4).find? fun c =>
    carveBase carve c ≤ u && u < carveBase carve (c + 1) && (u - carveBase carve c) % classUnits c = 0

/-- The carve of a tier: 0 on-die, 1 overflow. -/
def BpmSt.carve (b : BpmSt) (tier : Nat) : List Nat := if tier = 0 then b.carve0 else b.carve1

/-- The carve that waits on a tier. -/
def BpmSt.nextCarve (b : BpmSt) (tier : Nat) : Option (List Nat) := if tier = 0 then b.next0 else b.next1

/-- Pointer fields (R343). -/
def ptrClass (p : Nat) : Nat := field p 31 30

/-- The tier of a pointer. -/
def ptrTier (p : Nat) : Nat := field p 29 29

/-- The unit that a pointer names. -/
def ptrUnit (p : Nat) : Nat := field p 28 0

/-- The pointer of a class, tier and unit. -/
def mkPtr (c tier u : Nat) : Nat := c * 2 ^ 30 + tier * 2 ^ 29 + u

/-- A requester number of R344. -/
def requesterKnown (r : Nat) : Bool :=
  r < 0x808 || (0x808 ≤ r && r ≤ 0x80B) || (0x810 ≤ r && r ≤ 0x833) || r = 0x840 || r = 0x841

/-- The overflow partition in 4 KiB units (R311). -/
def State.ovfPages (s : State) : Nat := s.rf F.MEM_PART_CFG_ovf_gib * 2 ^ 18

/-- A requester's quota (R345): an instance's minimum and maximum come from its quota record (R293). -/
def State.quota (s : State) (r : Nat) : Quota :=
  if r < 0x800 then
    let w := wd (s.inst r).quota 4
    let ovf := (lookupD s.bpm.quotas r ⟨0, 0, 0⟩).ovf
    if r = 0 then ⟨0, 23437, ovf⟩ else ⟨field w 15 0, field w 31 16, ovf⟩
  else if r < 0x808 then lookupD s.bpm.quotas r ⟨512, 23437, s.ovfPages⟩
  else lookupD s.bpm.quotas r ⟨0, 2048, 0⟩

/-- Units of a tier charged to a requester. -/
def State.bufUsed (s : State) (r tier : Nat) : Nat :=
  s.bpm.bufs.foldl (fun n e => if e.2.charge = r && ptrTier e.1 = tier && e.2.owner.isSome
    then n + classUnits (ptrClass e.1) else n) 0

/-- The requesters that have a minimum: line ports, instances with a quota record, and those set by BPM_SET_QUOTA. -/
def State.minRequesters (s : State) : List Nat :=
  ((List.range 8).map (0x800 + ·)) ++ (s.insts.filter fun e => e.1 != 0 && e.2.state != 0).map (·.1)
    ++ (s.bpm.quotas.filter fun e => 0x808 ≤ e.1).map (·.1)

/-- The sum of all minimums in 4 KiB units (R352). -/
def State.minSum (s : State) : Nat := s.minRequesters.foldl (fun n r => n + (s.quota r).min) 0

/-- Use above its minimum of a requester that uses u units of 256 bytes. -/
def aboveMin (q : Quota) (u : Nat) : Nat := u - q.min * 16

/-- Units of the shared part of the on-die pool in use (R345). -/
def State.sharedUsed (s : State) : Nat :=
  let rs := (s.bpm.bufs.map (·.2.charge)).eraseDups
  rs.foldl (fun n r => n + aboveMin (s.quota r) (s.bufUsed r 0)) 0

/-- A requester may be charged units more in a tier (R345). -/
def State.quotaAllows (s : State) (r tier units : Nat) : Bool :=
  let q := s.quota r
  let u := s.bufUsed r tier
  if tier = 1 then decide (u + units ≤ q.ovf * 16)
  else
    decide (u + units ≤ q.max * 16)
      && decide (s.sharedUsed + (aboveMin q (u + units) - aboveMin q u) ≤ carveUnits s.bpm.carve0 - s.minSum * 16)

/-- The first number that satisfies p, from v upward modulo n. -/
def searchFrom (p : Nat → Bool) (n v : Nat) : Nat → Option Nat
  | 0 => none
  | fuel + 1 => if p (v % n) then some (v % n) else searchFrom p n (v + 1) fuel

/-- A buffer of class c of a tier stands free and may be allocated (R351). -/
def State.bufFree (s : State) (tier c k : Nat) : Bool :=
  let carve := s.bpm.carve tier
  let u := carveBase carve c + k * classUnits c
  (lookup s.bpm.bufs (mkPtr c tier u)).isNone &&
    (match s.bpm.nextCarve tier with
      | none => true
      | some n => carveClass n u == some c)

/-- Allocated buffers of class c of a tier. -/
def State.bufCount (s : State) (tier c : Nat) : Nat :=
  (s.bpm.bufs.filter fun e => ptrClass e.1 = c && ptrTier e.1 = tier).length

/-- A free buffer of class c of a tier for requester r, if its quota allows one; which one is left open (log entry 2). -/
def State.pickBuf (s : State) (r tier c : Nat) : Option Nat × State :=
  let carve := s.bpm.carve tier
  let n := carve.getD c 0
  if n = 0 || !s.quotaAllows r tier (classUnits c) then (none, s)
  else
    let (v, s) := s.draw
    ((searchFrom (s.bufFree tier c) n v n).map fun k => mkPtr c tier (carveBase carve c + k * classUnits c), s)

/-- The first of several tiers and classes that gives a buffer (R346). -/
def State.pickFrom (s : State) (r : Nat) : List (Nat × Nat) → Option Nat × State
  | [] => (none, s)
  | (tier, c) :: t =>
    let (p, s) := s.pickBuf r tier c
    match p with
    | some p => (some p, s)
    | none => s.pickFrom r t

/-- The smallest class that holds a frame of len bytes; 4 where none does (R346). -/
def classFor (len : Nat) : Nat := if len ≤ 256 then 0 else if len ≤ 2048 then 1 else if len ≤ 10240 then 2 else if len ≤ 65536 then 3 else 4

/-- ALLOC (R346, R347): a pointer, or none on failure. -/
def State.allocBuf (s : State) (r len : Nat) : Option Nat × State :=
  let cs := (List.range 4).filter fun c => classFor len ≤ c
  let (p, s) := s.pickFrom r ((cs.map fun c => (0, c)) ++ cs.map fun c => (1, c))
  match p with
  | none => (none, s.bump R.BPM_ALLOC_FAIL)
  | some p =>
    let s := { s with bpm := { s.bpm with bufs := insertKey s.bpm.bufs p { owner := some r, charge := r } } }
    let s := s.bump R.BPM_ALLOCS
    (some p, if ptrTier p = 1 then s.bump R.BPM_OVF_ALLOCS else s)

/-- The byte of packet-buffer or overflow memory at which a buffer starts (R311, R342). -/
def ptrByte (p : Nat) : Nat := ptrUnit p * 256

/-- A frame's bytes stand in its buffer: on-die in the packet buffer, overflow in the overflow partition. -/
def State.storeBuf (s : State) (p : Nat) (bs : List Byte) : State :=
  if ptrTier p = 0 then { s with mem := { s.mem with pbuf := Mem.write s.mem.pbuf (ptrByte p) bs } }
  else { s with mem := { s.mem with ddr := Mem.write s.mem.ddr (4 * 2 ^ 30 + ptrByte p) bs } }

/-- Why an operation on a pointer by a requester is refused (R343, R349): the cause code, or none. holderOk says whether a holder may
perform it. -/
def State.ptrFault (s : State) (p r : Nat) (holderOk ownerOk : Bool) : Option Nat :=
  let c := ptrClass p
  let carve := s.bpm.carve (ptrTier p)
  let u := ptrUnit p
  if u < carveBase carve c || u ≥ carveBase carve (c + 1) then some 1
  else if (u - carveBase carve c) % classUnits c != 0 then some 2
  else match lookup s.bpm.bufs p with
    | none => some 3
    | some b => if (ownerOk && b.owner == some r) || (holderOk && b.holders.contains r) then none else some 4

/-- A refused buffer operation is recorded and counted (R349). -/
def State.badPtr (s : State) (p op cause mid : Nat) : State :=
  ((s.setReg R.BPM_BAD_PTR p).setReg R.BPM_BAD_PTR_INFO (2 ^ 31 + op * 2 ^ 24 + cause * 2 ^ 16 + mid)).bump R.BPM_BAD_PTRS

/-- The default overflow carve, where it exceeds the overflow partition, is cut in proportion (R342: the total may not exceed the partition;
DESIGN CHOICE, log entry 62). -/
def State.fitCarve (s : State) : State :=
  let g := s.rf F.MEM_PART_CFG_ovf_gib
  if carveUnits s.bpm.carve1 ≤ g * 2 ^ 22 then s else { s with bpm := { s.bpm with carve1 := s.bpm.carve1.map fun n => n * g / 16 } }

/-- Every buffer whose class a carve changes is free (R351). -/
def State.carveReady (s : State) (tier : Nat) (n : List Nat) : Bool :=
  (s.bpm.bufs.all fun e => ptrTier e.1 != tier || carveClass n (ptrUnit e.1) == some (ptrClass e.1))

/-- A carve that waits is applied in one step once its addresses are free, and BPM_POOL_CFG answers (R351). -/
def State.settleCarve (s : State) (tier : Nat) : State :=
  match s.bpm.nextCarve tier with
  | none => s
  | some n =>
    if !s.carveReady tier n then s
    else
      let s := { s with bpm := if tier = 0 then { s.bpm with carve0 := n, next0 := none } else { s.bpm with carve1 := n, next1 := none } }
      match s.findPend fun p => p.cmd.opcode = 0x0320 && p.cmd.p 0 % 2 = tier with
      | some p => s.finish p 0 0 []
      | none => s

/-- s with the buffer of pointer p replaced; it returns to its pool when it is freed and no holder remains (R348). -/
def State.putBuf (s : State) (p : Nat) (b : Buf) : State :=
  if b.owner.isNone && b.holders.isEmpty then
    ({ s with bpm := { s.bpm with bufs := eraseKey s.bpm.bufs p } }).settleCarve (ptrTier p)
  else { s with bpm := { s.bpm with bufs := insertKey s.bpm.bufs p b } }

/-- SHARE (R347): the pointer's buffer gains a holder; an eighth, and a number that is no requester (R344), are refused. Answers whether it succeeded. -/
def State.shareBuf (s : State) (p by_ holder mid : Nat) : Bool × State :=
  match s.ptrFault p by_ true true with
  | some c => (false, s.badPtr p 1 c mid)
  | none =>
    let b := lookupD s.bpm.bufs p ⟨none, [], 0, 0, 0⟩
    if b.holders.length ≥ 7 || !requesterKnown holder then (false, s) else (true, s.putBuf p { b with holders := b.holders ++ [holder] })

/-- RELEASE (R347). -/
def State.releaseBuf (s : State) (p by_ mid : Nat) : Bool × State :=
  match s.ptrFault p by_ true false with
  | some c => (false, s.badPtr p 2 c mid)
  | none =>
    let b := lookupD s.bpm.bufs p ⟨none, [], 0, 0, 0⟩
    (true, (s.putBuf p { b with holders := b.holders.erase by_ }))

/-- TRANSFER (R347): refused with nothing changed where the quota of the new owner would be exceeded, to which the old owner's charge no longer
counts, or where the new owner is no requester (R344). -/
def State.transferBuf (s : State) (p by_ dest mid : Nat) : Bool × State :=
  match s.ptrFault p by_ false true with
  | some c => (false, s.badPtr p 3 c mid)
  | none =>
    let b := lookupD s.bpm.bufs p ⟨none, [], 0, 0, 0⟩
    let bare := { s with bpm := { s.bpm with bufs := eraseKey s.bpm.bufs p } }
    if !requesterKnown dest || !bare.quotaAllows dest (ptrTier p) (classUnits (ptrClass p)) then (false, s)
    else (true, (s.putBuf p { b with owner := some dest, charge := dest }).settleRequester by_)

/-- FREE (R347, R348). -/
def State.freeBufBy (s : State) (p by_ mid : Nat) : Bool × State :=
  match s.ptrFault p by_ false true with
  | some c => (false, s.badPtr p 4 c mid)
  | none =>
    let b := lookupD s.bpm.bufs p ⟨none, [], 0, 0, 0⟩
    (true, (s.putBuf p { b with owner := none }).settleRequester by_)

/-- The device frees a frame's buffer on behalf of its last owner. -/
def State.freeFrame (s : State) (p : Nat) : State :=
  match lookup s.bpm.bufs p with
  | some b => (s.putBuf p { b with owner := none }).settleRequester b.charge
  | none => s

/-- A frame gives up its buffer: its last owner frees it, or a copy's hold is released (R348, R449). -/
def State.endHold (s : State) (p : Nat) (holder : Option Nat) : State :=
  match holder with
  | none => s.freeFrame p
  | some h => match lookup s.bpm.bufs p with
    | some b => s.putBuf p { b with holders := b.holders.erase h }
    | none => s

/-- The buffer that holds a frame's prepended bytes is freed (R471). -/
def State.freeHead (s : State) (p : Pkt) : State :=
  match p.headBuf with
  | some h => s.freeFrame h
  | none => s

/-- The buffer of a frame moves to a requester without regard to its quota (R350). -/
def State.moveFrame (s : State) (p dest : Nat) : State :=
  match lookup s.bpm.bufs p with
  | some b => (s.putBuf p { b with owner := some dest, charge := dest }).settleRequester b.charge
  | none => s

/-- Every hold of a requester is released and every buffer of which it is last owner is freed, but those that keep names (R350). -/
def State.purgeRequester (s : State) (r : Nat) (keep : List Nat) : State :=
  s.bpm.bufs.foldl
    (fun s e =>
      if keep.contains e.1 then s
      else s.putBuf e.1 { e.2 with
        owner := if e.2.owner == some r then none else e.2.owner, holders := e.2.holders.filter (· != r) }) s

/-! ## The State Pager -/

/-- The device-internal range's SSID (R323). -/
def internalSsid : Nat := 0x810

/-- An SSID of a Lantern region, whose range lies inside its renter's (R323, R325). -/
def regionSsid (ssid : Nat) : Bool := 0x800 ≤ ssid && ssid < 0x810

/-- The base and size of an SSID's range in 2 MiB units; one that is not reserved has size 0. -/
def State.rangeOf (s : State) (ssid : Nat) : Nat × Nat := lookupD s.pgr.ranges ssid (0, 0)

/-- Device-virtual page number of page k of an SSID (R324). -/
def State.pageKey (s : State) (ssid k : Nat) : Nat := (s.rangeOf ssid).1 * 512 + k

/-- The page of a key; one not listed is an unpinned zero page. -/
def State.page (s : State) (key : Nat) : Page := lookupD s.pgr.pages key {}

/-- The SSID whose range holds a page number of the device's space, a region's being its renter's (R327). -/
def State.ssidOf (s : State) (key : Nat) : Nat :=
  ((s.pgr.ranges.find? fun e => !regionSsid e.1 && e.2.1 * 512 ≤ key && key < (e.2.1 + e.2.2) * 512).map (·.1)).getD 0

/-- s with a page replaced. -/
def State.setPage (s : State) (key : Nat) (p : Page) : State :=
  { s with pgr := { s.pgr with pages := insertKey s.pgr.pages key p } }

/-- A page is homed in a donation. -/
def Page.onHost (p : Page) : Bool :=
  match p.home with
  | .host _ _ => true
  | _ => false

/-- A use of a page with a home (R334). -/
def State.touch (s : State) (key : Nat) : State :=
  let n := s.pgr.uses + 1
  let s := s.setPage key { s.page key with used := n }
  { s with pgr := { s.pgr with uses := n } }

/-- A state fault (R324): counted and recorded. -/
def State.stateFault (s : State) (kind ssid off : Nat) : State :=
  (((s.bump R.PGR_FAULTS).setReg R.PGR_FAULT_INFO (2 ^ 31 + kind * 2 ^ 28 + ssid)).setReg R.PGR_FAULT_OFFSET_LO
    (off % 2 ^ 32)).setReg R.PGR_FAULT_OFFSET_HI (off / 2 ^ 32)

/-- Frames of LPDDR5X data (R310). -/
def lpdFrames : Nat := 65011712

/-- First frame of the pager partition (R311). -/
def State.pagerFirst (s : State) : Nat := (4 + s.rf F.MEM_PART_CFG_ovf_gib) * 2 ^ 18

/-- A frame belongs to a granted region (R341). -/
def State.granted (s : State) (f : Nat) : Bool :=
  s.mem.grants.any fun g => g.2.1 * 512 ≤ f && f < (g.2.1 + g.2.2) * 512

/-- The LPDDR5X frame of a home. -/
def Home.frame : Home → Option Nat
  | .ddr f => some f
  | _ => none

/-- The page of donation d that a home is. -/
def Home.donPage (d : Nat) : Home → Option Nat
  | .host k p => if k = d then some p else none
  | _ => none

/-- The donation in which a home lies. -/
def Home.donation : Home → Option Nat
  | .host k _ => some k
  | _ => none

/-- The LPDDR5X frames that homes take and those that are reserved for homes. -/
def State.homes (s : State) : List Nat :=
  s.pgr.pages.filterMap (·.2.home.frame) ++ s.pgr.pages.filterMap fun e => e.2.reserve.bind Home.frame

/-- Frames of the pager partition (R311). -/
def State.pagerFrames (s : State) : Nat := lpdFrames - s.pagerFirst

/-- LPDDR5X channel c is retired, retires or is under test: no frame of it is taken (R317, R743). -/
def State.chanOut (s : State) (c : Nat) : Bool :=
  bitAt (s.reg R.MEM_RETIRED) c || s.ras.running.contains (0x300 + c) || s.tst.underTest.contains (0x300 + c)

/-- Channels out of service. -/
def State.chansOut (s : State) : Nat := (numsWhere 32 s.chanOut).length

/-- Frames that stand in for those of the firmware and overflow partitions on channels out of service (R317). -/
def State.substitutes (s : State) : Nat := s.chansOut * (32768 + s.rf F.MEM_PART_CFG_ovf_gib * 2 ^ 13)

/-- The unit whose level-2 table stands in an LPDDR5X frame (R327). -/
def State.tableUnit (s : State) (f : Nat) : Option Nat :=
  (s.pgr.tables.find? fun t => t.2.2 ≤ f && f < t.2.2 + t.2.1).map fun t => t.1 + (f - t.2.2)

/-- The LPDDR5X frame of a unit's level-2 table (R327). -/
def State.tableFrame (s : State) (u : Nat) : Option Nat :=
  (s.pgr.tables.find? fun t => t.1 ≤ u && u < t.1 + t.2.1).map fun t => t.2.2 + (u - t.1)

/-- Where the taken stretch ends that frame f lies in: a home's, a granted region's, a level-2 table's or one of a channel out of service. -/
def State.takenEnd (s : State) (homes : List Nat) (f : Nat) : Option Nat :=
  match s.mem.grants.find? (fun g => g.2.1 * 512 ≤ f && f < (g.2.1 + g.2.2) * 512), s.pgr.tables.find? (fun t => t.2.2 ≤ f && f < t.2.2 + t.2.1) with
  | some g, _ => some ((g.2.1 + g.2.2) * 512)
  | none, some t => some (t.2.2 + t.2.1)
  | none, none => if homes.contains f || s.chanOut (f % 32) then some (f + 1) else none

/-- The first frame above f at which a taken stretch begins. -/
def State.takenNext (s : State) (homes : List Nat) (f : Nat) : Nat :=
  let starts := homes ++ s.mem.grants.map (fun g => g.2.1 * 512) ++ s.pgr.tables.map (·.2.2)
    ++ (numsWhere 32 s.chanOut).map fun c => f + (c + 32 - f % 32) % 32
  (starts.filter (f < ·)).foldl min lpdFrames

/-- Level-2 tables for n units from u on, in free frames of the pager partition from frame f on (R327). -/
def State.tableRuns (s : State) (homes : List Nat) (u n f : Nat) : Nat → List (Nat × Nat × Nat)
  | 0 => []
  | fuel + 1 =>
    if n = 0 then []
    else if f ≥ lpdFrames then s.tableRuns homes u n (s.pagerFirst + 4096) fuel
    else match s.takenEnd homes f with
      | some e => s.tableRuns homes u n e fuel
      | none =>
        let k := min n (s.takenNext homes f - f)
        (u, k, f) :: s.tableRuns homes (u + k) (n - k) (f + k) fuel

/-- Each of n units from u on gets a level-2 table; which frames they take is left open (log entry 2). -/
def State.placeTables (s : State) (u n : Nat) : State :=
  let (v, s) := s.draw
  let homes := s.homes
  let first := s.pagerFirst + 4096
  let runs := s.tableRuns homes u n (first + v % (lpdFrames - first)) (2 * (n + homes.length + s.mem.grants.length + s.pgr.tables.length) + 8)
  { s with pgr := { s.pgr with tables := s.pgr.tables ++ runs } }

/-- The runs of level-2 tables that stand in frames for which p holds are placed anew (R317, R341). -/
def State.moveTables (s : State) (p : Nat → Bool) : State :=
  let hit := fun (t : Nat × Nat × Nat) => (List.range t.2.1).any fun i => p (t.2.2 + i)
  let gone := s.pgr.tables.filter hit
  gone.foldl (fun s t => s.placeTables t.1 t.2.1) { s with pgr := { s.pgr with tables := s.pgr.tables.filter fun t => !hit t } }

/-- Free frames of the pager partition (PGR_FREE_LPD): less the directory, one level-2 table for each reserved unit, homes, granted
regions, retired channels and the frames that stand in for them (R311, R317, R327, R341). -/
def State.freeLpd (s : State) : Nat :=
  let units := s.pgr.ranges.foldl (fun n e => if regionSsid e.1 then n else n + e.2.2) 0
  let grants := s.mem.grants.foldl (fun n g => n + g.2.2 * 512) 0
  let lost := s.chansOut * (s.pagerFrames / 32)
  s.pagerFrames - 4096 - units - (s.homes.filter fun f => !s.granted f && !s.chanOut (f % 32)).length - grants - lost - s.substitutes

/-- Pages homed in donation d (PGR_DON_PAGES). -/
def State.donPages (s : State) (d : Nat) : List Nat := s.pgr.pages.filterMap (·.2.home.donPage d)

/-- Pages of donation d that homes take or that are reserved. -/
def State.donUsed (s : State) (d : Nat) : List Nat :=
  s.donPages d ++ s.pgr.pages.filterMap fun e => e.2.reserve.bind (Home.donPage d)

/-- Free pages of the donations that take new homes: those not being revoked (R339). -/
def State.freeDon (s : State) : Nat :=
  s.pgr.donations.foldl (fun n e => if e.2.revoking then n else n + (e.2.size * 512 - (s.donUsed e.1).length)) 0

/-- A free LPDDR5X home; which frame it is, is left open (log entry 2). -/
def State.takeLpd (s : State) : Option Home × State :=
  if s.freeLpd = 0 then (none, s)
  else
    let (v, s) := s.draw
    let used := s.homes
    let first := s.pagerFirst + 4096
    let ok := fun k =>
      let f := first + k
      !used.contains f && !s.granted f && !s.chanOut (f % 32) && (s.tableUnit f).isNone
    let n := lpdFrames - first
    ((searchFrom ok n v n).map fun k => .ddr (first + k), s)

/-- A free page of a donation other than one. -/
def State.takeDonBut (s : State) (d : Option Nat) : Option Home :=
  let hit := s.pgr.donations.find? fun e => !e.2.revoking && some e.1 != d && (s.donUsed e.1).length < e.2.size * 512
  hit.bind fun e =>
    let used := s.donUsed e.1
    ((List.range (used.length + 1)).find? fun k => !used.contains k).map fun k => .host e.1 k

/-- A free page of a donation. -/
def State.takeDon (s : State) : Option Home := s.takeDonBut none

/-- Free frames of the pager partition lie above a percentage of it (R330, R334). -/
def State.lpdAbove (s : State) (pct : Nat) : Bool := decide (s.freeLpd * 100 > pct * s.pagerFrames)

/-- A home for a page (R330): LPDDR5X while free frames lie above low_pct, else a donation, else what LPDDR5X has left. -/
def State.takeHome (s : State) : Option Home × State :=
  if s.lpdAbove (s.rf F.PGR_LPD_WMARK_low_pct) then s.takeLpd
  else match s.takeDon with
    | some h => (some h, s)
    | none => s.takeLpd

/-- Another home for a page that must leave its own (R318, R333): an LPDDR5X frame while one is free, else a donation other than d. -/
def State.takeOther (s : State) (d : Option Nat) : Option Home × State :=
  let (h, t) := s.takeLpd
  if h.isSome then (h, t) else (s.takeDonBut d, s)

/-! ### Page tables as LPDDR5X shows them (R327, R328) -/

/-- The words of the level-1 entry of a unit (R327). -/
def State.dirWords (s : State) (u : Nat) : Nat × Nat :=
  match s.tableFrame u with
  | some f => (f, 2 ^ 31 + s.ssidOf (u * 512))
  | none => (0, 0)

/-- The words of a page table entry (R328). -/
def Page.words (p : Page) : Nat × Nat :=
  let home := match p.home with
    | .zero => 0
    | .ddr f => f
    | .host d k => d * 2 ^ 26 + k
  let zero := p.home == .zero && p.cached.isNone && !p.poisoned
  (home, 2 ^ 31 + b2n zero * 2 ^ 30 + b2n p.pinned * 2 ^ 29 + b2n p.dirty * 2 ^ 28 + b2n p.poisoned * 2 ^ 27
    + b2n (p.filling || p.writing || p.moving) * 2 ^ 26 + b2n p.cached.isSome * 2 ^ 25 + b2n p.onHost * 2 ^ 24 + p.cached.getD 0)

/-- A byte of an entry of two words. -/
def entryByte (w : Nat × Nat) (i : Nat) : Byte := BitVec.ofNat 8 ((w.1 + w.2 * 2 ^ 32) / 2 ^ (8 * i))

/-- A range of LPDDR5X meets the directory or a level-2 table. -/
def State.tableMeets (s : State) (a n : Nat) : Bool :=
  let d := s.pagerFirst * 4096
  (d < a + n && a < d + 2 ^ 24) || s.pgr.tables.any fun t => t.2.2 * 4096 < a + n && a < (t.2.2 + t.2.1) * 4096

/-- The byte that a read of LPDDR5X gives: of the directory and of level-2 tables, that of their entries. -/
def State.ddrByte (s : State) (a : Nat) : Byte :=
  let d := s.pagerFirst * 4096
  if d ≤ a && a < d + 2 ^ 24 then entryByte (s.dirWords ((a - d) / 8)) ((a - d) % 8)
  else match s.tableUnit (a / 4096) with
    | some u => entryByte (s.page (u * 512 + a % 4096 / 8)).words (a % 8)
    | none => Mem.rd s.mem.ddr a

/-- The bytes that a read of LPDDR5X gives. -/
def State.ddrBytes (s : State) (a n : Nat) : List Byte :=
  if s.tableMeets a n then (List.range n).map fun i => s.ddrByte (a + i) else Mem.bytes s.mem.ddr a n

/-- The bytes of a page's home. -/
def State.homeBytes (s : State) (h : Home) : List Byte :=
  match h with
  | .zero => List.replicate 4096 0#8
  | .ddr f => Mem.bytes s.mem.ddr (f * 4096) 4096
  | .host d p => Mem.bytes s.mem.donated ((lookupD s.pgr.donations d {}).addr + p * 4096) 4096

/-- Bytes are written to a page's home. -/
def State.writeHome (s : State) (h : Home) (bs : List Byte) : State :=
  match h with
  | .zero => s
  | .ddr f => { s with mem := { s.mem with ddr := Mem.write s.mem.ddr (f * 4096) bs } }
  | .host d p =>
    let don : Donation := lookupD s.pgr.donations d {}
    let a := don.addr + p * 4096
    { s with mem := { s.mem with donated := Mem.write s.mem.donated a bs } }.emit (.hostWrite 0 (pasidWord don.pasid) a bs)

/-- The state-cache frames in use. -/
def State.cachedFrames (s : State) : List Nat := s.pgr.pages.filterMap (·.2.cached)

/-- The current bytes of a page. -/
def State.pageBytes (s : State) (p : Page) : List Byte :=
  match p.cached with
  | some f => Mem.bytes s.mem.cache (f * 4096) 4096
  | none => s.homeBytes p.home

/-- A page of a donation that is evicted while free frames lie above high_pct is rehomed to LPDDR5X, and so is dirty (R334). -/
def State.rehomeHost (s : State) (key : Nat) : State :=
  let p := s.page key
  match p.home with
  | .host _ _ =>
    if p.reserve.isNone && s.lpdAbove (s.rf F.PGR_LPD_WMARK_high_pct) then
      let (h, s) := s.takeLpd
      match h with
      | some h => (s.setPage key { p with home := h, dirty := true }).bump R.PGR_MIGRATED
      | none => s
    else s
  | _ => s

/-- A cached page leaves the state cache: a dirty one is written back first (R329, R331). -/
def State.dropCached (s : State) (key : Nat) : State :=
  let p := s.page key
  match p.cached with
  | none => s
  | some f =>
    let bs := Mem.bytes s.mem.cache (f * 4096) 4096
    let s := if p.dirty then (s.writeHome p.home bs).bump R.PGR_EVICT_DIRTY else s
    let s := { s with mem := { s.mem with cache := Mem.clear s.mem.cache (f * 4096) 4096 } }
    s.setPage key { p with cached := none, dirty := false, writing := false }

/-- A cached page is written back and stays cached, clean. -/
def State.cleanPage (s : State) (key : Nat) : State :=
  let p := s.page key
  let s := if p.dirty then (s.writeHome p.home (s.pageBytes p)).bump R.PGR_EVICT_DIRTY else s
  s.setPage key { p with dirty := false, writing := false }

/-- A cached page is evicted within a step. -/
def State.evict (s : State) (key : Nat) : State := (s.rehomeHost key).dropCached key

/-- The frames that the device holds past stage 7 and before an egress leaf (R31): waiting for their tails, with Clove, a sequencer, Saffron or a
tap. -/
def State.heldPast (s : State) : List Pkt :=
  s.pipe.held.map (·.2)
    ++ s.clv.clusters.flatMap (fun e => e.2.queue.map (·.pkt) ++ e.2.threads.filterMap (·.2.frame))
    ++ s.clv.slots.filterMap (fun e => e.2.out.map (·.1))
    ++ s.psq.seqs.flatMap (fun e => e.2.queue.filterMap (·.frame) ++ e.2.running.filterMap (·.2.frame)
      ++ e.2.slots.filterMap (·.2.routine.frame) ++ (e.2.stopped.bind (·.1.frame)).toList)
    ++ s.saf.waiting.flatMap (fun w => w.ready.toList ++ (match w.req with
      | .frame p _ _ => [p]
      | .port _ _ _ => []))
    ++ s.lan.regions.flatMap fun e => e.2.flight.map (·.2.pkt)

/-- The pages to which a frame in stages 8 to 10 holds a reference, by page number (R39). -/
def State.references (s : State) : List Nat :=
  (s.heldPast.filterMap (·.page) ++ s.queues.flatMap fun e => e.2.rxWait.filterMap (·.page)).map fun x => s.pageKey x.1 x.2

/-- Host fills and write-backs may run (R333). -/
def State.hostPaging (s : State) : Bool := (s.fn 0).busMaster && s.rfb F.HST_LINK_STATUS_link_up

/-- A frame is parked on a page. -/
def State.parkedOn (s : State) (key : Nat) : Bool := s.pgr.parked.any fun x => s.pageKey x.ssid x.page = key

/-- The pages that eviction may take: cached, not pinned, not referenced, not in transit, not one whose write-back waits for the host (R39,
R331, R333). -/
def State.evictable (s : State) : List Nat :=
  let refs := s.references
  (s.pgr.pages.filter fun e => e.2.cached.isSome && !e.2.pinned && !e.2.writing && !e.2.moving && !e.2.filling && !e.2.stuck
    && !(e.2.dirty && e.2.onHost && !s.hostPaging) && !refs.contains e.1 && !s.parkedOn e.1).map (·.1)

/-- Room for one more cached page; which page the clock algorithm takes is left open (log entry 2). -/
def State.makeCacheRoom (s : State) : State :=
  if s.cachedFrames.length < 8192 then s
  else
    let es := s.evictable
    let (v, s) := s.draw
    match es[v % max 1 es.length]? with
    | some k => s.evict k
    | none => s

/-- The pages that a PGR_PIN, PGR_UNPIN or PGR_PREFETCH command names, by page number (R337). -/
def State.namedPages (s : State) (c : Cmd) : List Nat :=
  let first := s.pageKey c.target ((c.p 0 + c.p 1 * 2 ^ 32) / 4096)
  (List.range (c.p 2 % 2 ^ 17)).map (first + ·)

/-- Nothing of the page is still to be brought to the state cache: it is cached, a zero page or poisoned (R330, R337; log entry 42). -/
def Page.settled (p : Page) : Bool := p.cached.isSome || p.home == .zero || p.poisoned

/-- Each PGR_PIN whose pages are all settled answers (R337). -/
def State.pinDone (s : State) : State :=
  (s.cmds.pend.filter (·.cmd.opcode = 0x0310)).foldl
    (fun s p => if (s.namedPages p.cmd).all fun k => (s.page k).settled then s.finish p 0 0 (results [p.note.headD 0]) else s) s

/-- A page is installed in a free state-cache frame, with the bytes bs (R330, R333). Frames parked on it re-enter when its fill ends. -/
def State.install (s : State) (key : Nat) (bs : List Byte) (dirty : Bool) : State :=
  let s := s.makeCacheRoom
  let used := s.cachedFrames
  let (v, s) := s.draw
  match searchFrom (fun f => !used.contains f) 8192 v 8192 with
  | none => s
  | some f =>
    let s := { s with mem := { s.mem with cache := Mem.write s.mem.cache (f * 4096) bs } }
    ((s.setPage key { s.page key with cached := some f, dirty := dirty, fails := 0 }).touch key).pinDone

/-- Why an access of an SSID at an offset is a state fault before its page is looked at (R323, R324). -/
def State.rangeFault (s : State) (ssid off : Nat) : Option Nat :=
  if ssid > 0x810 then some 2
  else if off ≥ (s.rangeOf ssid).2 * 2 ^ 21 then some 1
  else none

/-- How an access that does not park reaches its page (log entry 20): a fault kind, or the page present in the state cache where it is
written or has a home. A fill runs within the step. -/
def State.reach (s : State) (ssid off : Nat) (write : Bool) : Option Nat × State :=
  match s.rangeFault ssid off with
  | some k => (some k, s.stateFault k ssid off)
  | none =>
    let key := s.pageKey ssid (off / 4096)
    let p := s.page key
    if p.poisoned then (some 3, s.stateFault 3 ssid off)
    else if p.cached.isSome then (none, (if write then s.setPage key { p with dirty := true } else s).touch key)
    else match p.home with
      | .zero =>
        if !write then (none, s)
        else
          let (h, s) := s.takeHome
          match h with
          | none => (some 4, (s.bump R.PGR_BACKING_FULL).stateFault 4 ssid off)
          | some h => (none, (s.setPage key { p with home := h }).install key (List.replicate 4096 0#8) true)
      | .ddr _ => (none, (s.bump R.PGR_FILLS_LPD).install key (s.homeBytes p.home) write)
      | .host _ _ => (none, (s.bump R.PGR_FILLS_HOST).install key (s.homeBytes p.home) write)

/-- An access that does not park waits: its page lies in a donation while the host is not reached (R333). -/
def State.reachWaits (s : State) (ssid off : Nat) : Bool :=
  let p := s.page (s.pageKey ssid (off / 4096))
  (s.rangeFault ssid off).isNone && !p.poisoned && p.cached.isNone && p.onHost && !s.hostPaging

/-- n bytes of an SSID from an offset, within one page. -/
def State.ssBytes (s : State) (ssid off n : Nat) : List Byte :=
  let p := s.page (s.pageKey ssid (off / 4096))
  match p.cached with
  | some f => Mem.bytes s.mem.cache (f * 4096 + off % 4096) n
  | none => slice (s.homeBytes p.home) (off % 4096) n

/-- Bytes are stored in a cached page. -/
def State.ssStore (s : State) (ssid off : Nat) (bs : List Byte) : State :=
  match (s.page (s.pageKey ssid (off / 4096))).cached with
  | some f => { s with mem := { s.mem with cache := Mem.write s.mem.cache (f * 4096 + off % 4096) bs } }
  | none => s

/-- A read of n bytes within one page: a fault kind, or the bytes. -/
def State.ssRead (s : State) (ssid off n : Nat) : Except Nat (List Byte) × State :=
  let (f, s) := s.reach ssid off false
  match f with
  | some k => (.error k, s)
  | none => (.ok (s.ssBytes ssid off n), s)

/-- A write of bytes within one page: a fault kind, or none. -/
def State.ssWrite (s : State) (ssid off : Nat) (bs : List Byte) : Option Nat × State :=
  let (f, s) := s.reach ssid off true
  match f with
  | some k => (some k, s)
  | none => (none, s.ssStore ssid off bs)

/-- A page becomes a zero page: its home and its frame are freed, and `pinned` is kept (R326, R337). -/
def State.zeroPage (s : State) (key : Nat) : State :=
  let p := s.page key
  let s := match p.cached with
    | some f => { s with mem := { s.mem with cache := Mem.clear s.mem.cache (f * 4096) 4096 } }
    | none => s
  let s := match p.home with
    | .ddr f => { s with mem := { s.mem with ddr := Mem.clear s.mem.ddr (f * 4096) 4096 } }
    | _ => s
  let s := { s with pgr := { s.pgr with waiting := s.pgr.waiting.filter (· != key), moves := s.pgr.moves.filter (· != key) } }
  if p.pinned then s.setPage key { pinned := true }
  else { s with pgr := { s.pgr with pages := eraseKey s.pgr.pages key } }

/-- A page is poisoned (R332). -/
def State.poison (s : State) (key : Nat) : State :=
  let p := s.page key
  let s := match p.cached with
    | some f => { s with mem := { s.mem with cache := Mem.clear s.mem.cache (f * 4096) 4096 } }
    | none => s
  (s.setPage key { home := p.home, pinned := p.pinned, poisoned := true }).bump R.PGR_POISONED

/-- A range is reserved for an SSID, with a level-2 table for each unit that no other range holds (R325 to R327). -/
def State.reserveRange (s : State) (ssid base size : Nat) : State :=
  let s := if regionSsid ssid then s else s.placeTables base size
  { s with pgr := { s.pgr with ranges := insertKey s.pgr.ranges ssid (base, size) } }

/-- A range is released: every frame that it held is free and its pages are zero pages (R326). -/
def State.releaseRange (s : State) (ssid : Nat) : State :=
  let (base, size) := s.rangeOf ssid
  let mine := (s.pgr.pages.filter fun e => base * 512 ≤ e.1 && e.1 < (base + size) * 512).map (·.1)
  let s := mine.foldl (fun s k => (s.setPage k { s.page k with pinned := false }).zeroPage k) s
  let s := if regionSsid ssid then s
    else { s with pgr := { s.pgr with tables := s.pgr.tables.filter fun t => !(base ≤ t.1 && t.1 < base + size) } }
  { s with pgr := { s.pgr with ranges := eraseKey s.pgr.ranges ssid } }

/-- The lowest run of free units of a length in the 4 TiB space (R325). -/
def State.findRange (s : State) (size : Nat) : Option Nat :=
  let taken := (s.pgr.ranges.filter fun e => !regionSsid e.1).map (·.2)
  let starts := 0 :: taken.map fun r => r.1 + r.2
  let ok := fun b => decide (b + size ≤ 2097152) && taken.all fun r => decide (b + size ≤ r.1) || decide (r.1 + r.2 ≤ b)
  (starts.filter ok).foldl (fun m b => match m with
    | none => some b
    | some x => some (min x b)) none

/-- Pinned pages in all, and of an SSID (PGR_PINNED, R337). -/
def State.pinnedOf (s : State) (ssid : Nat) : Nat :=
  let (base, size) := s.rangeOf ssid
  (s.pgr.pages.filter fun e => e.2.pinned && base * 512 ≤ e.1 && e.1 < (base + size) * 512).length

/-- Pinned pages in all. -/
def State.pinnedAll (s : State) : Nat := (s.pgr.pages.filter (·.2.pinned)).length

end Sys2Proof.Machine
end

