-- ==== Sys2Proof/Machine/OpsReg.lean ====
section
/-! DEFINITION. Who reaches a register, and what a failed crossing or a bad master leaves behind (R24, R29, R772, R773). -/

namespace Sys2Proof.Machine

/-- A MID that R3 assigns (R4). -/
def midAssigned (m : Nat) : Bool :=
  m < 0x1000 || (0x1000 ≤ m && m ≤ 0x1003) || (0x1010 ≤ m && m ≤ 0x1042)

/-- A MID that reaches the manager control window (R29). -/
def windowMid (m : Nat) : Bool := m = 0 || (0x1000 ≤ m && m ≤ 0x1003) || m = 0x1040

/-- A bad master's request (R773); addr is the device address that it named, if any. -/
def State.badMaster (s : State) (mid : Nat) (read : Bool) (addr : Option Nat) : State :=
  let inWin := match addr with
    | some a => 0x40000000 ≤ a && a < 0x42000000
    | none => false
  let a := addr.getD 0
  let s := s.bump R.GLB_BAD_MASTER
  let s := s.setReg R.GLB_BAD_MASTER_LAST (2 ^ 31 + b2n read * 2 ^ 30 + b2n inWin * 2 ^ 29
    + (if inWin then (a - 0x40000000) / 2 ^ 20 else 0) * 2 ^ 24 + mid)
  ((s.setReg R.GLB_BAD_MASTER_ADDR_LO (a % 2 ^ 32)).setReg R.GLB_BAD_MASTER_ADDR_HI (a / 2 ^ 32 % 256)).raiseLimited 16

/-- Bytes written to LPDDR5X by a master other than the pager: a write that meets a page table is discarded and logged as a bad master's (R327). -/
def State.ddrWrite (s : State) (mid a : Nat) (bs : List Byte) : State :=
  if s.tableMeets a bs.length then s.badMaster mid false (some (0x4000000000 + a))
  else { s with mem := { s.mem with ddr := Mem.write s.mem.ddr a bs } }

/-- Clock island i is stopped, held in reset, retired or without power (R24, R68, R80). -/
def State.islandDown (s : State) (i : Nat) : Bool :=
  (decide (i < 47) && !s.mainOn) || (decide (i < 32) && s.boot.gated) || s.boot.islandHeld == some i
    || (decide (i < 16) && (s.cl i).retired.contains 0)
    || (decide (16 ≤ i) && decide (i < 32) && (lookupD s.lan.regions (i - 16) {}).state == 8)

/-- A failed crossing (R24), logged as a fault of the block accessed (R723). -/
def State.crossingFailed (s : State) (a island : Nat) (read : Bool) : State :=
  let last := 2 ^ 31 + b2n read * 2 ^ 30 + island * 2 ^ 24 + a / 2 ^ 20 * 2 ^ 19 + a % 2 ^ 20 / 4
  ((((s.bump R.GLB_XING_DROP).setReg R.GLB_XING_LAST last).raiseLimited 10).faultElse (a / 2 ^ 20) [last])

/-- The island of window offset a: its register's, its cluster's or region's in the arrays of CLV and LAN (R493, R685), or its block's. -/
def islandAt (a : Nat) : Nat :=
  match regDefAt a with
  | some (d, i) => islandOf d i
  | none =>
    let b := a / 2 ^ 20
    let o := a % 2 ^ 20
    if b = 0x0E && 0x80000 ≤ o then (o - 0x80000) / 0x8000
    else if b = 0x15 && 0x80000 ≤ o && o < 0xC0000 then 16 + (o - 0x80000) / 0x4000
    else if b = 0x15 && 0x1000 ≤ o && o < 0x2000 then 16 + (o - 0x1000) / 0x100
    else match regDefAt (b * 2 ^ 20) with
    | some (d, i) => islandOf d i
    | none => 42

/-- The debug level in force (R754). -/
def State.dbgLevel (s : State) : Nat := max (s.rf F.TST_DBG_CFG_level) s.tst.dbgMin

/-- What the debug level lets the debug port reach in the control window (R754): at level 1 all but writes of SAF and MEM_MRAM_PROT, at
level 2 reads of GLB, RAS and TST. -/
def State.dbgWindow (s : State) (a : Nat) (read : Bool) : Bool :=
  let b := a / 2 ^ 20
  match s.dbgLevel with
  | 0 => true
  | 1 => read || (b != 0x10 && a != R.MEM_MRAM_PROT)
  | _ => read && [0x00, 0x17, 0x18].contains b

/-- An access that the debug level refuses (R754): counted; ES 503 at most once per 1 ms. -/
def State.dbgRefused (s : State) : State := (s.bump R.TST_DBG_REFUSED).raiseLimited 503

/-- PF0's BARs are answered with Unsupported Request: the ROM recovery loader runs (R67). -/
def State.loaderUr (s : State) (mid : Nat) : Bool :=
  mid = 0 && s.mainOn && !s.boot.perst && s.rfb F.HST_LINK_STATUS_link_up && s.rfb F.GLB_MODE_rom_recovery

/-- A memory write that a function which is not open does not take: under the ROM recovery loader it is an Unsupported Request (R67). -/
def State.closedWrite (s : State) (mid : Nat) : State := if s.loaderUr mid then s.urPosted mid else s

/-- A memory read that a function which is not open does not take. -/
def State.closedRead (s : State) (mid : Nat) : State := if s.loaderUr mid then s.urRead mid else s

/-- How a request for window offset a ends before it reaches the register: a host function that is not open, a bad master, the debug level, a
failed crossing, or not at all. -/
inductive Gate where
  | open_
  | closed
  | badMaster
  | level
  | crossing (island : Nat)
  deriving DecidableEq, Repr

/-- The gate of a request for window offset a from a master (R24, R29, R754). -/
def State.gate (s : State) (mid a : Nat) (read : Bool) : Gate :=
  if !windowMid mid then .badMaster
  else if mid = 0 && !s.fnOpen 0 then .closed
  else if mid = 0x1040 && !s.dbgWindow a read then .level
  else if s.islandDown (islandAt a) then .crossing (islandAt a)
  else .open_

/-- A register write whose meaning is body, behind its gate. -/
def State.gatedWrite (s : State) (mid a : Nat) (body : State → State) : State :=
  match s.gate mid a false with
  | .open_ => body s
  | .closed => s.closedWrite mid
  | .level => s.dbgRefused
  | .badMaster => s.badMaster mid false (some (0x40000000 + a))
  | .crossing i => s.crossingFailed a i false

/-- What a register read answers, and its effect, behind its gate: body is both where the gate is open. -/
def State.gatedValue (s : State) (mid a : Nat) (body : State → Nat × State) : Nat × State :=
  match s.gate mid a true with
  | .open_ => body s
  | .closed => (0, s)
  | .level => (0, s.dbgRefused)
  | .badMaster => (0, s.badMaster mid true (some (0x40000000 + a)))
  | .crossing i => (0xFFFFFFFF, s.crossingFailed a i true)

/-- A register read whose value and effect are body, behind its gate: it answers what was read. -/
def State.gatedRead (s : State) (mid a : Nat) (body : State → Nat × State) : State :=
  if s.gate mid a true = .closed then s.closedRead mid
  else
    let (v, s) := s.gatedValue mid a body
    s.emit (.readData mid v)

/-- The Keeper core that a MID stands for under R86: a core of the active pair is named by its own number and by that of the same
position of the other pair; none for a core of the pair that is not active. -/
def State.keeperCore (s : State) (mid : Nat) : Option Nat :=
  if 0x1000 ≤ mid && mid ≤ 0x1003 && (mid - 0x1000) / 2 = s.rf F.GLB_MODE_active_pair then some ((mid - 0x1000) % 2) else none

/-- A master of the active Keeper pair. -/
def State.activeKeeper (s : State) (mid : Nat) : Bool := (s.keeperCore mid).isSome

/-- Two MIDs name one master, under R86 for Keeper cores. -/
def State.sameMaster (s : State) (bound mid : Nat) : Bool :=
  if 0x1000 ≤ bound && bound ≤ 0x1003 then s.keeperCore mid == some ((bound - 0x1000) % 2) else bound == mid

end Sys2Proof.Machine
end

