-- ==== Sys2Proof/Machine/OpsBuoy.lean ====
section
/-! DEFINITION. Operations of the Buoy mailboxes (R256 to R271) and the queueing of sequencer triggers (R497 to R499). -/

namespace Sys2Proof.Machine

/-! ## Sequencers -/

/-- Group g. -/
def State.group (s : State) (g : Nat) : Group := lookupD s.psq.groups g {}

/-- s with group g replaced. -/
def State.setGroup (s : State) (g : Nat) (v : Group) : State := { s with psq := { s.psq with groups := insertKey s.psq.groups g v } }

/-- Sequencer q. -/
def State.seq (s : State) (q : Nat) : Sequencer := lookupD s.psq.seqs q {}

/-- s with sequencer q replaced. -/
def State.setSeq (s : State) (q : Nat) (v : Sequencer) : State := { s with psq := { s.psq with seqs := insertKey s.psq.seqs q v } }

/-- Connection c, where it exists. -/
def State.conn (s : State) (c : Nat) : Option Conn := lookup s.psq.conns c

/-- s with connection c replaced. -/
def State.setConn (s : State) (c : Nat) (v : Conn) : State := { s with psq := { s.psq with conns := insertKey s.psq.conns c v } }

/-- The sequencer that serves connection c of group g: member c mod 8, or the next that is not retired (R497). -/
def State.seqFor (s : State) (g c : Nat) : Option Nat :=
  ((List.range 8).map fun k => 8 * g + (c + k) % 8).find? fun q => !(s.seq q).retired

/-- Connections (R526). -/
def State.connCount (s : State) : Nat := s.psq.conns.length

/-- A trigger joins its sequencer's queue (R498); room is held back for every kind but frames (R499). -/
def State.trigger (s : State) (g : Nat) (t : Trigger) : State :=
  match s.seqFor g t.conn with
  | none => s
  | some q =>
    let v := s.seq q
    s.setSeq q { v with queue := v.queue ++ [t] }

/-! ## Channels -/

/-- A channel: an instance's, or an internal one. -/
inductive ChanId where
  | inst (i : Nat)
  | int (c : Nat)
  deriving DecidableEq, Repr

/-- The channel of an identity. -/
def State.chan (s : State) (c : ChanId) : BuoyChan :=
  match c with
  | .inst i => lookupD s.buoy.inst i {}
  | .int c => lookupD s.buoy.int c {}

/-- s with a channel replaced. -/
def State.setChan (s : State) (c : ChanId) (v : BuoyChan) : State :=
  match c with
  | .inst i => { s with buoy := { s.buoy with inst := insertKey s.buoy.inst i v } }
  | .int c => { s with buoy := { s.buoy with int := insertKey s.buoy.int c v } }

/-- Side a (true) or b (false) of a channel. -/
def BuoyChan.side (v : BuoyChan) (a : Bool) : BuoySide := if a then v.a else v.b

/-- A channel with one side replaced. -/
def BuoyChan.setSide (v : BuoyChan) (a : Bool) (x : BuoySide) : BuoyChan := if a then { v with a := x } else { v with b := x }

/-- The MID at one side of a channel: an instance's channel joins it with Keeper (R263), an internal one is bound by BUOY_BIND
(R267). -/
def State.sideMid (s : State) (c : ChanId) (a : Bool) : Nat :=
  match c with
  | .inst i => if a then i else 0x1000
  | .int c => if a then s.rf (F.BUOY_BIND_mid_a c) else s.rf (F.BUOY_BIND_mid_b c)

/-- The side of a channel that a master has: side a first; none where the channel is not bound to it (R263, R267). -/
def State.sideOf (s : State) (c : ChanId) (mid : Nat) : Option Bool :=
  match c with
  | .inst i => if mid = i then some true else if s.activeKeeper mid then some false else none
  | .int c =>
    if !s.rfb (F.BUOY_BIND_valid c) then none
    else if s.sameMaster (s.rf (F.BUOY_BIND_mid_a c)) mid then some true
    else if s.sameMaster (s.rf (F.BUOY_BIND_mid_b c)) mid then some false
    else none

/-- The notification of a receiver (R261). word is what a micro-event carries. -/
def State.buoyNotify (s : State) (c : ChanId) (toA : Bool) (word : Nat) : State :=
  match c with
  | .inst i =>
    if toA then
      let v := s.chan c
      let s := if v.vecEnable then s.raiseVec i v.vector else s
      s.pmeWake i
    else s.raiseEs 496
  | .int _ =>
    let m := s.sideMid c toA
    if 0x1000 ≤ m && m ≤ 0x1003 then s.raiseEs 497
    else if 0x800 ≤ m && m < 0x1000 then s.postWake ((m - 0x800) / 128) (m % 128)
    else if 0x1010 ≤ m && m < 0x1020 then s.emit (.regionSignal (m - 0x1010) 1)
    else if 0x1020 ≤ m && m < 0x1040 then
      let q := m - 0x1020
      let v := s.seq q
      s.setSeq q { v with queue := v.queue ++ [{ kind := 7, conn := 0, result := word }] }
    else s

/-- A word arrives at one side of a channel whose rx_full is 0: rx_full rises (R257, R261). -/
def State.buoyDeliver (s : State) (c : ChanId) (toA : Bool) (w : Nat) : State :=
  let v := s.chan c
  (s.setChan c (v.setSide toA { v.side toA with rx := w, rxFull := true })).buoyNotify c toA w

/-- A word is sent from one side: discarded as an overrun while the sender's tx_full reads 1 (R257), and lost while the block has stopped
(R781). -/
def State.buoySend (s : State) (c : ChanId) (fromA : Bool) (w : Nat) : State :=
  let v := s.chan c
  if s.blkStopped 0x05 then s
  else if (v.side !fromA).rxFull then
    ((s.setChan c (v.setSide fromA { v.side fromA with overrun := true })).bump R.BUOY_OVERRUNS).raiseEs 498
  else s.buoyDeliver c (!fromA) w

/-- Doorbell bits arrive at one side: they latch, and one that rises unmasked notifies (R256, R261). -/
def State.buoyRing (s : State) (c : ChanId) (toA : Bool) (bits : Nat) : State :=
  let v := s.chan c
  let x := v.side toA
  let fresh := bits - (bits &&& x.dbRecv)
  if s.blkStopped 0x05 then s else
  let s := s.setChan c (v.setSide toA { x with dbRecv := x.dbRecv ||| bits })
  if (fresh - (fresh &&& x.dbMask)) != 0 then s.buoyNotify c toA 0 else s

/-- Both words, both full flags and both received doorbells of a channel are cleared (R271). -/
def State.buoyForceClear (s : State) (c : ChanId) : State :=
  let v := s.chan c
  let clr := fun (x : BuoySide) => { x with rx := 0, rxFull := false, dbRecv := 0 }
  s.setChan c { v with a := clr v.a, b := clr v.b }

/-- A channel's outgoing word is withdrawn while it is unread; otherwise withdraw_too_late is set (R259). -/
def State.buoyWithdraw (s : State) (c : ChanId) (fromA : Bool) : State :=
  let v := s.chan c
  if (v.side !fromA).rxFull then s.setChan c (v.setSide (!fromA) { v.side !fromA with rx := 0, rxFull := false })
  else s.setChan c (v.setSide fromA { v.side fromA with tooLate := true })

/-- A bad master at a Buoy channel (R263, R267). -/
def State.buoyBadMaster (s : State) : State := (s.bump R.BUOY_BAD_MASTER).raiseEs 499

/-- A channel's receive word is read by one side; taken says whether the read clears the flag (R258). -/
def State.buoyTake (s : State) (c : ChanId) (a taken : Bool) : Nat × State :=
  let v := s.chan c
  let x := v.side a
  if !x.rxFull then (0, s)
  else (x.rx, if taken then s.setChan c (v.setSide a { x with rxFull := false }) else s)

/-! ## Words of instance channels (R265, R266, R270) -/

/-- A word of an instance channel: generation, message code, payload. -/
def instWord (gen code payload : Nat) : Nat := gen * 2 ^ 48 + code * 2 ^ 40 + payload

/-- Keeper sends a message to an instance: at once, or it is held, without its generation, until the word before it is read (R270, log entry 27). -/
def State.keeperSend (s : State) (i code payload : Nat) : State :=
  if (s.chan (.inst i)).a.rxFull then
    { s with buoy := { s.buoy with held := insertKey s.buoy.held i (lookupD s.buoy.held i [] ++ [instWord 0 code payload]) } }
  else s.buoyDeliver (.inst i) true (instWord (s.inst i).gen code payload)

/-- When an instance's word has been read, withdrawn or cleared, Keeper sends the next message that it holds, with the instance's generation of that
moment (R265, R270). -/
def State.keeperNext (s : State) (i : Nat) : State :=
  match lookupD s.buoy.held i [] with
  | [] => s
  | w :: t =>
    let rest := if t.isEmpty then eraseKey s.buoy.held i else insertKey s.buoy.held i t
    if (s.chan (.inst i)).a.rxFull then s
    else ({ s with buoy := { s.buoy with held := rest } }).buoyDeliver (.inst i) true (instWord (s.inst i).gen 0 w)

/-- Keeper reads a word that an instance sent (R265, R266): PING is answered in kind, another code with 0x7F; a word of another
generation is discarded. -/
def State.keeperRead (s : State) (i : Nat) : State :=
  let (w, s) := s.buoyTake (.inst i) false true
  let code := field w 47 40
  if field w 63 48 != (s.inst i).gen then s
  else if code = 0x01 then s.keeperSend i 0x01 (field w 39 0)
  else s.keeperSend i 0x7F code

/-- A host-facing reset clears an instance's channel but the Keeper-side mask (R264). -/
def State.buoyHostReset (s : State) (i : Nat) : State :=
  let v := s.chan (.inst i)
  let s := s.setChan (.inst i) { b := { dbMask := v.b.dbMask } }
  { s with buoy := { s.buoy with held := eraseKey s.buoy.held i } }

end Sys2Proof.Machine
end

