-- ==== Sys2Proof/Machine/OpsHost.lean ====
section
/-! DEFINITION. Operations of the host endpoint: tags, peer windows, downstream slots (R136 to R177). -/

namespace Sys2Proof.Machine

/-! ## Tags (R151 to R155) -/

/-- The tags of the link's mode: 14 bits in flit mode, 10 bits otherwise. -/
def State.tagSpace (s : State) : Nat := if s.rfb F.HST_LINK_STATUS_flit then 16384 else 1024

/-- The next tag: one never issued, else the one released longest ago (R155). -/
def State.freeTag (s : State) : Option (Nat × HostSt) :=
  let h := s.host
  if h.nextTag < s.tagSpace then some (h.nextTag, { h with nextTag := h.nextTag + 1 })
  else match h.released.find? (decide <| · < s.tagSpace) with
    | some t => some (t, { h with released := h.released.erase t })
    | none => none

/-- A tag may be taken: fewer than 4,096 requests are outstanding and one is free (R151). -/
def State.openTag (s : State) : Option (Nat × HostSt) := if s.host.tags.length ≥ 4096 then none else s.freeTag

/-- A host read goes out under a tag, or waits for one (R151). -/
def State.issueRead (s : State) (x : ReadReq) : State :=
  match s.openTag with
  | none => { s with host := { s.host with queued := s.host.queued ++ [x] } }
  | some (t, h) => ({ s with host := { h with tags := insertKey h.tags t x.req } }).emit (.hostRead t x.req.iid x.pasid x.addr x.count)

/-- A host read for a unit (R151). -/
def State.hostRead (s : State) (iid qgen : Nat) (u : ReadUnit) (pasid : Option Nat) (addr count : Nat) : State :=
  s.issueRead { req := { iid := iid, gen := (s.inst iid).gen, qgen := qgen, unit := u, quarantined := false }, pasid := pasid, addr := addr, count := count }

/-- A host read whose data the step brings with it: it goes out under a tag, which is free again at once (R105, R151, R155, R192). -/
def State.readNow (s : State) (iid : Nat) (pasid : Option Nat) (addr count : Nat) : State :=
  match s.openTag with
  | none => s
  | some (t, h) => ({ s with host := { h with released := h.released ++ [t] } }).emit (.hostRead t iid pasid addr count)

/-- A tag whose request has not been completed in time (R153, R154): AER, ES 74, the count, and the quarantine. -/
def State.tagTimeout (s : State) (t : Nat) (r : TagReq) : State :=
  let s := ((s.aer r.iid .completionTimeout).bump R.HST_CPL_TIMEOUTS).raiseEs 74
  { s with host := { s.host with tags := insertKey s.host.tags t { r with quarantined := true } } }

/-- A tag is released, and the read that has waited longest takes it (R151, R154, R155). -/
def State.releaseTag (s : State) (t : Nat) : State :=
  let h := s.host
  let s := { s with host := { h with tags := eraseKey h.tags t, released := h.released ++ [t], queued := h.queued.drop 1 } }
  match h.queued.head? with
  | none => s
  | some x => s.issueRead x

/-- The generation of the queue that a read serves. -/
def State.unitQgen (s : State) (u : ReadUnit) : Nat :=
  match u with
  | .ringFetch q => (lookupD s.queues q {}).qgen
  | _ => 0

/-- A read carries the generations of the present (R217, R285); a page is no instance's host-facing state, and its fill carries none
(R286). -/
def State.current (s : State) (r : TagReq) : Bool :=
  match r.unit with
  | .pageFill _ => true
  | _ => r.gen = (s.inst r.iid).gen && r.qgen = s.unitQgen r.unit

/-- The tag of the current read outstanding for a unit. -/
def State.tagOf (s : State) (u : ReadUnit) : Option Nat :=
  (s.host.tags.find? fun e => e.2.unit == u && !e.2.quarantined && s.current e.2).map (·.1)

/-- A current read for a unit is outstanding, or waits for a tag. -/
def State.asked (s : State) (u : ReadUnit) : Bool :=
  (s.tagOf u).isSome || s.host.queued.any fun x => x.req.unit == u && s.current x.req

/-- The read outstanding for a unit has been answered. -/
def State.readDone (s : State) (u : ReadUnit) : State :=
  match s.tagOf u with
  | some t => s.releaseTag t
  | none => s

/-- The leaf that a transmit queue's frames enter where no action names one: its context's, its instance's default, or port 0's default
(R563; log entry 35). -/
def State.queueLeaf (s : State) (q : Nat) : Nat :=
  let c := s.q q
  if c.coalCount != 0 then c.coalCount
  else match lookup s.frs.instDefault c.iid with
    | some l => l
    | none => ((s.frs.nodes.find? fun e => e.2.portDefault && e.2.port = 0).map (·.1)).getD 4096

/-- The leaf of a transmit queue holds leaf_max_bytes or more (R565). -/
def State.leafFull (s : State) (q : Nat) : Bool :=
  match lookup s.frs.nodes (s.queueLeaf q) with
  | some n => decide (n.bytes ≥ n.maxBytes)
  | none => false

/-- The ring engines serve an instance's data rings in the current mode (R48, R49). -/
def State.trafficOn (s : State) (i : Nat) : Bool :=
  s.mainOn && !s.rfb F.GLB_MODE_rom_recovery && (decide (s.mode ≥ 2) || (s.mode = 1 && i = 0))

/-- The connection that a work ring serves: the lowest-numbered bound to it (R526). -/
def State.ringConn (s : State) (q : Nat) : Option Nat := (s.psq.conns.find? fun e => e.2.send = q || e.2.recv = q).map (·.1)

/-- A work ring is fetched: it is bound, and the sequencer's queue has room (R499, R526). -/
def State.workOpen (s : State) (q : Nat) : Bool :=
  match s.ringConn q with
  | none => false
  | some c =>
    match s.seqFor ((s.conn c).map (·.group) |>.getD 0) c with
    | some k => decide ((s.seq k).queue.length < 1024)
    | none => true

/-- A ring engine that has entries to fetch has a read outstanding for them (R151, R216). -/
def State.ensureFetch (s : State) (q : Nat) : State :=
  let c := s.q q
  if (c.state = 1 || c.state = 2) && c.type ≤ 4 && c.hot && c.fi != c.pi && (c.type = 1 || s.trafficOn c.iid) && s.dmaOpen c.iid && s.fnD0 c.iid && !(c.type = 3 && s.leafFull q) && (c.type != 4 || s.workOpen q) && !s.asked (.ringFetch q) then
    s.hostRead c.iid c.qgen (.ringFetch q) c.pas (c.base + c.fi % c.size * 64) 64
  else s

/-- An entry of queue q has arrived: its read is answered, and the next is issued. -/
def State.fetched (s : State) (q : Nat) : State := (s.readDone (.ringFetch q)).ensureFetch q

/-! ## Commands are fetched (R96 to R118) -/

/-- A command is fetched: fi moves past its units, the next entry's read is issued, and the round goes on (R116, R201). -/
def State.takeEntry (s : State) (c : Cmd) (units : Nat) : State :=
  let s := s.turn c.issuer
  match c.issuer with
  | .inst i =>
    match s.adminQ i.val with
    | some q => (s.takeUnits q units (wd c.entry 0) c.tag c.notify).fetched q
    | none => s
  | .bmc => { s with cmds := { s.cmds with bmcQueue := s.cmds.bmcQueue.drop 1 } }

/-- The block of a command that carries `indirect` is read from the issuer's memory (R105, R306). -/
def State.readBlock (s : State) (c : Cmd) : State :=
  match c.issuer with
  | .inst i => if c.indirect then s.readNow i.val ((s.adminQ i.val).bind fun q => (s.q q).pas) (dwd c.entry 4) (wd c.entry 6) else s
  | .bmc => s

/-- The image whose address and length stand in parameter words 1 to 3 is read from its issuer's memory (R82, R306, R488, R512, R671), under the
PASID that the command gives, or the admin ring's. -/
def State.readImage (s : State) (c : Cmd) (pasid : Option (Option Nat)) : State :=
  match c.issuer with
  | .inst i => s.readNow i.val (pasid.getD ((s.adminQ i.val).bind fun q => (s.q q).pas)) (c.p 1 + c.p 2 * 2 ^ 32) (c.p 3)
  | .bmc => s

/-- A fetched command runs its acceptance checks (R114), its own check 10 and its effect, and is answered (R98, R99). With
check_only every check runs and nothing changes (R106); such a SUCCESS carries no result words (DESIGN CHOICE, log entry 58). An entry of
another opcode is not this command. -/
def State.runCmd (s : State) (spec : CmdSpec) (e : AdminEntry) : State :=
  if wd e.words 0 % 2 ^ 16 != spec.opcode || !s.eligible e then s
  else
    let (idx, span) := s.entrySpan e
    let c := cmdOf s e spec.opcode idx
    let s := s.bump R.GLB_CMD_FETCHED
    if c.units = 0 || c.units > 64 || c.units > span then
      (s.takeEntry c 1).reply c 1 0x11 0 []
    else
      match catRow spec.opcode with
      | none => (s.takeEntry c 1).reply c 1 0x10 0 []
      | some row =>
        match acceptFault s spec row e c with
        | some (st, rs, ws, units) => (s.takeEntry c units).reply c units st rs ws
        | none =>
          let s := (s.takeEntry c c.units).readBlock c
          match spec.body c s with
          | .ok s' ws => if c.checkOnly then s.reply c c.units 0 0 [] else s'.reply c c.units 0 0 ws
          | .pend s' => if c.checkOnly then s.reply c c.units 0 0 [] else s'.replyPending c (spec.locks s c)
          | .pendNote s' note => if c.checkOnly then s.reply c c.units 0 0 [] else s'.replyPending c (spec.locks s c) note
          | .bad s' st rs ws => if c.checkOnly then s.reply c c.units st rs ws else s'.reply c c.units st rs ws

/-! ## Peer windows (R158 to R165) -/

/-- The active copy of window n. -/
def State.win (s : State) (n : Nat) : PeerWin := lookupD s.host.wins n {}

/-- The shadow copy of window n, from its registers (R161). -/
def State.winShadow (s : State) (n : Nat) : PeerWin :=
  { enabled := s.rfb (F.HST_PEER_WIN_CTL_enable n), readEn := s.rfb (F.HST_PEER_WIN_CTL_read_en n),
    writeEn := s.rfb (F.HST_PEER_WIN_CTL_write_en n), base := s.reg (R.HST_PEER_WIN_BASE n) % 2 ^ 17,
    size := s.reg (R.HST_PEER_WIN_SIZE n) % 2 ^ 18, target := s.reg (R.HST_PEER_WIN_TARGET n) % 2 ^ 17,
    rid := s.reg (R.HST_PEER_WIN_RID n) % 2 ^ 16, ridMask := s.reg (R.HST_PEER_WIN_RID n) / 2 ^ 16 }

/-- Why a commit of window n is refused (R163). R163 gives its four conditions no order: 0x0104 is looked at first, then 0x0101, 0x0102 and 0x0103
(DESIGN CHOICE, log entry 59). -/
def State.winFault (s : State) (n : Nat) (w : PeerWin) : Option Nat :=
  if !w.enabled then none
  else if w.size = 0 then some 0x0104
  else if s.host.wins.any fun e => e.1 != n && e.2.enabled && decide (e.2.base < w.base + w.size)
      && decide (w.base < e.2.base + e.2.size) then some 0x0101
  else if s.host.bar4Absent || w.base + w.size > s.host.bar4GiB * 512 then some 0x0102
  else if !(s.mem.grants.any fun g => !s.mem.vacating.contains g.1 && decide (g.2.1 ≤ w.target) && decide (w.target + w.size ≤ g.2.1 + g.2.2)) then some 0x0103
  else none

/-- A commit of window n (R161 to R165): the captured copy becomes active at once and commit reads 1 until the requests decoded
under the old window end, or the commit is refused. -/
def State.winCommit (s : State) (n : Nat) : State :=
  if s.rfb (F.HST_PEER_WIN_CTL_commit n) then s
  else
    let w := s.winShadow n
    match s.winFault n w with
    | some r =>
      ((((s.setF (F.HST_PEER_WIN_CTL_commit n) 0).setF (F.HST_PEER_WIN_CTL_enable n) 0).setF
        (F.HST_PEER_WIN_CTL_reason n) r).bump R.HST_PEER_REFUSED).raiseEs 76
    | none =>
      let old := s.win n
      let s := { s with host := { s.host with
        wins := insertKey s.host.wins n w, oldWins := insertKey s.host.oldWins n old } }
      ((s.setF (F.HST_PEER_WIN_CTL_commit n) 1).setF (F.HST_PEER_WIN_CTL_reason n) 0).setF
        (F.HST_PEER_WIN_CTL_active_enable n) (b2n w.enabled)

/-- The LPDDR5X address of a request through window w (R159). -/
def winHit (w : PeerWin) (off len rid : Nat) (write : Bool) : Option Nat :=
  if w.enabled && decide (w.base * 2 ^ 21 ≤ off) && decide (off + len ≤ (w.base + w.size) * 2 ^ 21) && (rid &&& w.ridMask) == (w.rid &&& w.ridMask)
      && (if write then w.writeEn else w.readEn) then some (w.target * 2 ^ 21 + (off - w.base * 2 ^ 21))
  else none

/-- The address that a peer's request reaches through any window. -/
def State.peerAddr (s : State) (off len rid : Nat) (write : Bool) : Option Nat :=
  (s.host.wins.map (·.2)).findSome? fun w => winHit w off len rid write

/-! ## Downstream slots (R171 to R176) -/

/-- The slot of port p. -/
def State.slot (s : State) (p : Nat) : Slot := lookupD s.host.slots p .empty

/-- s with the slot of port p in a state. -/
def State.setSlot (s : State) (p : Nat) (x : Slot) : State := { s with host := { s.host with slots := insertKey s.host.slots p x } }

/-- A drive runs on port p: the slot is Up, or on its way out of Up (R171, R175). -/
def Slot.live : Slot → Bool
  | .up | .removal | .draining => true
  | _ => false

/-- dll_active changes. -/
def State.slotLink (s : State) (p : Nat) (up : Bool) : State :=
  let s := ((s.setF (F.DNP_SLOT_STATUS_dll_active p) (b2n up)).setF (F.DNP_LINK_STATUS_dll_active p) (b2n up)).setF
    (F.DNP_SLOT_STATUS_link_changed p) 1
  if s.rfb (F.DNP_SLOT_CTL_link_int_en p) then s.raiseEs (83 + 4 * p) else s

/-- A work entry completes on its ring, unless its result is stale (R189, R217, R285, R506). -/
def State.completeWork (s : State) (e : WorkEntry) (writes : List (Nat × Word)) (status reason : Nat) : State :=
  let w0 := wd e.words 0
  if s.staleRef e.q e.gen e.iid e.igen then s.dropRef e.q e.iid e.igen
  else s.completeEntry e.q e.index e.units w0 writes status reason (field (wd e.words 1) 31 16) (bitAt w0 17 || (s.q e.q).notifyAll)

/-- The entry at a ring index of a connection completes, and leaves the connection (R506, R525). -/
def State.completeAt (s : State) (c index : Nat) (writes : List (Nat × Word)) (status reason : Nat) : State :=
  match s.conn c with
  | none => s
  | some v =>
    match v.entries.find? (·.index = index) with
    | none => s
    | some e => (s.setConn c { v with entries := v.entries.filter (·.index != index) }).completeWork e writes status reason

end Sys2Proof.Machine
end

