-- ==== Sys2Proof/Machine/OpsDma.lean ====
section
/-! DEFINITION. The DMA engines (R228 to R238). -/

namespace Sys2Proof.Machine

/-- The run of channel n. -/
def State.run (s : State) (n : Nat) : Option DmaRun := lookup s.dma.runs n

/-- s with the run of channel n replaced; its registers show the residue of the current descriptor and the descriptors completed (R237). -/
def State.setRun (s : State) (n : Nat) (r : DmaRun) : State :=
  (({ s with dma := { s.dma with runs := insertKey s.dma.runs n r } }).setReg (R.DMA_CH_RESIDUE n) r.left).setReg (R.DMA_CH_DONE_DESC n) (r.doneDesc % 2 ^ 16)

/-- s without a run of channel n. -/
def State.endRun (s : State) (n : Nat) : State := { s with dma := { s.dma with runs := eraseKey s.dma.runs n } }

/-- A 64-bit value held in two registers. -/
def State.reg64 (s : State) (lo hi : Nat) : Nat := s.reg lo + s.reg hi * 2 ^ 32

/-- The packet buffer and LPDDR5X ranges of the device address map (R30). -/
def physOk (a n : Nat) : Bool :=
  (decide (0x80000000 ≤ a) && decide (a + n ≤ 0x80000000 + 96000000))
    || (decide (0x4000000000 ≤ a) && decide (a + n ≤ 0x4000000000 + 248 * 2 ^ 30))

/-- A space and range that a channel may use (R233). -/
def spaceOk (owner space a n iid : Nat) : Bool :=
  match space with
  | 0 => physOk a n
  | 1 => owner ≥ 0x800 || owner = 0 || iid = owner
  | 2 => decide (a + n ≤ 2 ^ 42)
  | _ => false

/-- Why a start of channel n is refused (R233). -/
def State.startFault (s : State) (n : Nat) : Option Nat :=
  let owner := s.rf (F.DMA_CH_OWNER_mid n)
  let mask := s.rf (F.DMA_CH_OWNER_allowed n)
  let chain := s.rfb (F.DMA_CH_CTL_chain_en n)
  let sp := s.rf (F.DMA_CH_SPACE_src_space n)
  let dp := s.rf (F.DMA_CH_SPACE_dst_space n)
  let cp := s.rf (F.DMA_CH_SPACE_chain_space n)
  let iid := s.rf (F.DMA_CH_HOST_iid n)
  let src := s.reg64 (R.DMA_CH_SRC_LO n) (R.DMA_CH_SRC_HI n)
  let dst := s.reg64 (R.DMA_CH_DST_LO n) (R.DMA_CH_DST_HI n)
  let ch := s.reg64 (R.DMA_CH_CHAIN_LO n) (R.DMA_CH_CHAIN_HI n)
  let cnt := s.reg (R.DMA_CH_COUNT n)
  let lantern := 0x1010 ≤ owner && owner < 0x1020
  let allowed := fun x => x < 3 && bitAt mask x && (!lantern || x = 2)
  if cnt = 0 && !chain then some 0x0301
  else if !(allowed sp && allowed dp && (!chain || allowed cp)) then some 0x0302
  else if !(if chain then spaceOk owner cp ch 32 iid && (sp != 1 && dp != 1 || spaceOk owner 1 0 0 iid)
      else spaceOk owner sp src cnt iid && spaceOk owner dp dst cnt iid) then some 0x0303
  else if (chain && ch % 32 != 0) || (s.rfb (F.DMA_CH_CTL_wb_en n) && s.reg64 (R.DMA_CH_WB_LO n) (R.DMA_CH_WB_HI n) % 8 != 0)
    then some 0x0304
  else none

/-- The bytes of a device physical range (R30). -/
def State.physRead (s : State) (a n : Nat) : List Byte :=
  if a < 0x4000000000 then Mem.bytes s.mem.pbuf (a - 0x80000000) n else s.ddrBytes (a - 0x4000000000) n

/-- Bytes written to a device physical range; page tables are written by the pager alone (R327). -/
def State.physWrite (s : State) (mid a : Nat) (bs : List Byte) : State :=
  if a < 0x4000000000 then { s with mem := { s.mem with pbuf := Mem.write s.mem.pbuf (a - 0x80000000) bs } }
  else s.ddrWrite mid (a - 0x4000000000) bs

/-- The PASID of channel c's host accesses, when set (R240). -/
def State.dmaPasid (s : State) (c : Nat) : Option Nat :=
  if s.rfb (F.DMA_CH_HOST_pasid_en c) then some (s.rf (F.DMA_CH_HOST_pasid c)) else none

/-- n bytes read by channel c from a space: an error code of R238, or the bytes. Host data is what the host delivers. -/
def State.dmaRead (s : State) (c space a n : Nat) (host : Option (List Byte)) : Except Nat (List Byte) × State :=
  match space with
  | 0 => (if physOk a n then .ok (s.physRead a n) else .error 0x12, s)
  | 1 =>
    let s := s.readDone (.dma c)
    match host with
    | some bs => (.ok (slice bs 0 n), s)
    | none => (.error 0x10, s)
  | _ =>
    let (r, s) := s.ssRead (s.rf (F.DMA_CH_SPACE_state_space_id c)) a n
    match r with
    | .ok bs => (.ok bs, s)
    | .error _ => (.error 0x14, s)

/-- Bytes written by channel c to a space: an error code of R238, or none. -/
def State.dmaWrite (s : State) (c space a : Nat) (bs : List Byte) : Option Nat × State :=
  match space with
  | 0 => if physOk a bs.length then (none, s.physWrite (s.rf (F.DMA_CH_OWNER_mid c)) a bs) else (some 0x12, s)
  | 1 => (none, s.emit (.hostWrite (s.rf (F.DMA_CH_HOST_iid c)) (s.dmaPasid c) a bs))
  | _ =>
    let (r, s) := s.ssWrite (s.rf (F.DMA_CH_SPACE_state_space_id c)) a bs
    (r.map fun _ => 0x14, s)

/-- A channel raises its source (R235); an owning thread or region learns of it (R479, R653). -/
def State.dmaRaise (s : State) (n : Nat) : State :=
  let s := s.raiseEs (96 + n)
  let m := s.rf (F.DMA_CH_OWNER_mid n)
  if 0x800 ≤ m && m < 0x1000 then s.latchWake ((m - 0x800) / 128) (m % 128) 3
  else if 0x1010 ≤ m && m < 0x1020 then s.emit (.regionSignal (m - 0x1010) 2)
  else s

/-- A run of channel n ends: the status word is written and the source raised (R235 to R238). The status word goes to the space of
the destination (log entry 30). -/
def State.dmaEnd (s : State) (n residue err : Nat) (aborted : Bool) : State :=
  let done := (s.run n).elim 0 (·.doneDesc)
  let gen := (s.run n).elim (s.inst (s.rf (F.DMA_CH_HOST_iid n))).gen (·.gen)
  let ok := err = 0 && !aborted
  let s := s.endRun n
  let s := { s with dma := { s.dma with running := s.dma.running.filter fun e => e.2 != n } }
  let s := ((s.setReg (R.DMA_CH_RESIDUE n) residue).setReg (R.DMA_CH_DONE_DESC n) (done % 2 ^ 16)).setF (F.DMA_CH_CTL_start n) 0
  let s := (s.setF (F.DMA_CH_STATUS_running n) 0).setF (F.DMA_CH_STATUS_queued n) 0
  let s := (s.setF (F.DMA_CH_STATUS_error_code n) err)
  let s := if ok then s.setF (F.DMA_CH_STATUS_done n) 1 else s
  let s := if aborted then s.setF (F.DMA_CH_STATUS_aborted n) 1 else s
  let s := if err != 0 then s.setF (F.DMA_CH_STATUS_error n) 1 else s
  let w := residue + err * 2 ^ 32 + b2n ok * 2 ^ 40 + b2n aborted * 2 ^ 41 + b2n (err != 0) * 2 ^ 42 + done % 2 ^ 16 * 2 ^ 48
  let iid := s.rf (F.DMA_CH_HOST_iid n)
  let s := if s.rfb (F.DMA_CH_CTL_wb_en n) then
      if s.rf (F.DMA_CH_SPACE_dst_space n) = 1 && gen != (s.inst iid).gen then s.staleDiscard iid none else
      (s.dmaWrite n (s.rf (F.DMA_CH_SPACE_dst_space n)) (s.reg64 (R.DMA_CH_WB_LO n) (R.DMA_CH_WB_HI n)) (leBytes 8 w)).2
    else s
  s.dmaRaise n

/-- The read that channel n needs of the host next is issued (R151). -/
def State.dmaAsk (s : State) (n : Nat) : State :=
  match s.run n with
  | none => s
  | some r =>
    let iid := s.rf (F.DMA_CH_HOST_iid n)
    if r.load && s.rf (F.DMA_CH_SPACE_chain_space n) = 1 then s.hostRead iid 0 (.dma n) (s.dmaPasid n) r.next 32
    else if !r.load && s.rf (F.DMA_CH_SPACE_src_space n) = 1 then
      s.hostRead iid 0 (.dma n) (s.dmaPasid n) r.src (min r.left (min (4096 - r.src % 4096) (4096 - r.dst % 4096)))
    else s

/-- The channels of engine e that wait, in the order in which R229 takes them. -/
def State.dmaNext (s : State) (e : Nat) : Option Nat :=
  let last := lookupD s.dma.lastServed e 7
  ((List.range 8).map fun k => 8 * e + (last + 1 + k) % 8).find? fun n => s.rfb (F.DMA_CH_STATUS_queued n)

/-- A run of channel n uses host memory (R238). -/
def State.dmaHosts (s : State) (n : Nat) : Bool :=
  s.rf (F.DMA_CH_SPACE_src_space n) = 1 || s.rf (F.DMA_CH_SPACE_dst_space n) = 1
    || (s.rfb (F.DMA_CH_CTL_chain_en n) && s.rf (F.DMA_CH_SPACE_chain_space n) = 1)

/-- The next burst of channel n is one whose host read is not out under a tag yet (R151). -/
def State.dmaWaits (s : State) (n : Nat) : Bool :=
  match s.run n with
  | none => false
  | some r => s.rf (if r.load then F.DMA_CH_SPACE_chain_space n else F.DMA_CH_SPACE_src_space n) = 1 && (s.tagOf (.dma n)).isNone

/-- The next burst of channel n touches a state page that waits for the host (R333). -/
def State.dmaPages (s : State) (n : Nat) : Bool :=
  let waits := s.reachWaits (s.rf (F.DMA_CH_SPACE_state_space_id n))
  match s.run n with
  | none => false
  | some r =>
    if r.load then s.rf (F.DMA_CH_SPACE_chain_space n) = 2 && waits r.next
    else (s.rf (F.DMA_CH_SPACE_src_space n) = 2 && waits r.src) || (s.rf (F.DMA_CH_SPACE_dst_space n) = 2 && waits r.dst)

/-- One burst of channel n, or the load of its next descriptor (R230, R234). -/
def State.dmaBurst (s : State) (n : Nat) (host : Option (List Byte)) : State :=
  match s.run n with
  | none => s
  | some r =>
    let iid := s.rf (F.DMA_CH_HOST_iid n)
    if s.dmaHosts n && r.gen != (s.inst iid).gen then s.dmaEnd n r.left 0x13 false
    else if r.load then
      let (d, s) := s.dmaRead n (s.rf (F.DMA_CH_SPACE_chain_space n)) r.next 32 host
      match d with
      | .error e => s.dmaEnd n r.left e false
      | .ok bs =>
        let ws := bytesWords bs
        let cnt := wd ws 4
        let owner := s.rf (F.DMA_CH_OWNER_mid n)
        if cnt = 0 then s.dmaEnd n 0 0x11 false
        else if !(spaceOk owner (s.rf (F.DMA_CH_SPACE_src_space n)) (dwd ws 0) cnt iid
            && spaceOk owner (s.rf (F.DMA_CH_SPACE_dst_space n)) (dwd ws 2) cnt iid) then s.dmaEnd n cnt 0x12 false
        else (s.setRun n { r with
          src := dwd ws 0, dst := dwd ws 2, left := cnt, load := false, intFlag := bitAt (wd ws 5) 31,
          lastFlag := bitAt (wd ws 5) 30, next := dwd ws 6 }).dmaAsk n
    else
      let k := min r.left (min (4096 - r.src % 4096) (4096 - r.dst % 4096))
      let (d, s) := s.dmaRead n (s.rf (F.DMA_CH_SPACE_src_space n)) r.src k host
      match d with
      | .error e => s.dmaEnd n r.left e false
      | .ok bs =>
        let (e, s) := s.dmaWrite n (s.rf (F.DMA_CH_SPACE_dst_space n)) r.dst bs
        match e with
        | some e => s.dmaEnd n r.left e false
        | none =>
          let r := { r with src := r.src + k, dst := r.dst + k, left := r.left - k }
          if r.left != 0 then
            if r.aborting then (s.setRun n r).dmaEnd n r.left 0 true else (s.setRun n r).dmaAsk n
          else
            let r := if s.rfb (F.DMA_CH_CTL_chain_en n) then { r with doneDesc := r.doneDesc + 1 } else r
            let s := s.setRun n r
            if r.lastFlag then s.dmaEnd n 0 0 false
            else if r.aborting then s.dmaEnd n 0 0 true
            else
              let s := if r.intFlag then s.dmaRaise n else s
              (s.setRun n { r with load := true }).dmaAsk n

/-- `abort` of channel n (R236). -/
def State.dmaAbort (s : State) (n : Nat) : State :=
  if s.rfb (F.DMA_CH_STATUS_queued n) then s.dmaEnd n (s.reg (R.DMA_CH_COUNT n)) 0 true
  else match s.run n with
    | some r => if r.load then s.dmaEnd n r.left 0 true else s.setRun n { r with aborting := true }
    | none => s

/-- A channel is released: a run ends as an abort does, and the channel is unbound (R231, R675). -/
def State.dmaRelease (s : State) (n : Nat) : State :=
  let s := if s.rfb (F.DMA_CH_STATUS_queued n) then s.dmaEnd n (s.reg (R.DMA_CH_COUNT n)) 0 true
    else match s.run n with
      | some r => s.dmaEnd n r.left 0 true
      | none => s
  s.setReg (R.DMA_CH_OWNER n) 0

/-- Every channel owned by a MID is released. -/
def State.dmaReleaseMid (s : State) (mid : Nat) : State :=
  (List.range 128).foldl
    (fun s n => if s.rfb (F.DMA_CH_OWNER_valid n) && s.rf (F.DMA_CH_OWNER_mid n) = mid then s.dmaRelease n else s) s

end Sys2Proof.Machine
end

