-- ==== Sys2Proof/Machine/Dma.lean ====
section
/-! DEFINITION. Meanings of the DMA engines (R228 to R238). -/

namespace Sys2Proof.Machine

/-- DMA_CHANNEL_CFG (R231). -/
def dmaChannelCfgSpec : CmdSpec where
  opcode := 0x0220
  needs := fun _ => 2
  locks := fun _ c => [⟨.dma, c.p 0 % 128⟩]
  indirect := false
  noGen := false
  body := fun c s =>
    c.checked s [(0, 0x8000007F), (1, 0x71FFF)] fun _ =>
      let n := c.p 0 % 128
      if bitAt (c.p 0) 31 then
        if s.rfb (F.DMA_CH_STATUS_running n) then busy s else .ok (s.dmaRelease n) []
      else if !midAssigned (c.p 1 % 2 ^ 13) then badP s 1
      else .ok (s.setReg (R.DMA_CH_OWNER n) (2 ^ 31 + c.p 1)) []

/-- DMA_CHANNEL_CFG (R231). -/
def execDmaChannelCfg (e : AdminEntry) (s : State) : Host.Outcome State Fault Refusal := .next (s.runCmd dmaChannelCfgSpec e)

/-- A write of a channel register by a master (R24, R232): the owner or a Keeper core; any other is a bad master. -/
def State.dmaWriteBy (s : State) (mid n off : Nat) (body : State → State) : State :=
  if s.islandDown 39 then s.crossingFailed (R.DMA_CH_CTL n + off) 39 false
  else if (s.rfb (F.DMA_CH_OWNER_valid n) && s.rf (F.DMA_CH_OWNER_mid n) = mid) || (0x1000 ≤ mid && mid ≤ 0x1003) then body s
  else if 0x1010 ≤ mid && mid < 0x1020 then s.bump (R.LAN_MBX_ERRORS (mid - 0x1010))
  else s.badMaster mid false (some (0x40000000 + R.DMA_CH_CTL n + off))

/-- `start` of channel n is written (R233). -/
def State.dmaStart (s : State) (n : Nat) : State :=
  let refuse := fun (r : Nat) => (s.setF (F.DMA_CH_STATUS_reason n) r)
  if !s.rfb (F.DMA_CH_OWNER_valid n) then (refuse 0x0305).setF (F.DMA_CH_CTL_start n) 0
  else if s.rfb (F.DMA_CH_CTL_start n) then refuse 0x0306
  else match s.startFault n with
    | some r => (refuse r).setF (F.DMA_CH_CTL_start n) 0
    | none => (s.setF (F.DMA_CH_CTL_start n) 1).setF (F.DMA_CH_STATUS_queued n) 1

/-- DMA_CH_START (R233). -/
def execDmaChStart (mid : BitVec 13) (n : BitVec 7) (s : State) : Host.Outcome State Fault Refusal :=
  .next (s.dmaWriteBy mid.toNat n.toNat 0 fun s => s.dmaStart n.toNat)

/-- DMA_CH_ABORT (R236). -/
def execDmaChAbort (mid : BitVec 13) (n : BitVec 7) (s : State) : Host.Outcome State Fault Refusal :=
  .next (s.dmaWriteBy mid.toNat n.toNat 0 fun s => s.dmaAbort n.toNat)

/-- DMA_CHANNEL_SCHEDULE (R229): an idle engine takes the next channel that waits. -/
def execDmaChannelSchedule (engine : Fin 16) (s : State) : Host.Outcome State Fault Refusal :=
  let e := engine.val
  .next <|
    if (lookup s.dma.running e).isSome then s
    else match s.dmaNext e with
      | none => s
      | some n =>
        let chain := s.rfb (F.DMA_CH_CTL_chain_en n)
        let s := { s with dma := { s.dma with
          running := insertKey s.dma.running e n, lastServed := insertKey s.dma.lastServed e (n % 8) } }
        let s := (s.setF (F.DMA_CH_STATUS_queued n) 0).setF (F.DMA_CH_STATUS_running n) 1
        let r : DmaRun := {
          src := s.reg64 (R.DMA_CH_SRC_LO n) (R.DMA_CH_SRC_HI n), dst := s.reg64 (R.DMA_CH_DST_LO n) (R.DMA_CH_DST_HI n),
          left := s.reg (R.DMA_CH_COUNT n), next := s.reg64 (R.DMA_CH_CHAIN_LO n) (R.DMA_CH_CHAIN_HI n), load := chain,
          gen := (s.inst (s.rf (F.DMA_CH_HOST_iid n))).gen }
        (s.setRun n r).dmaAsk n

/-- DMA_BURST_COMPLETE (R230): the engine's channel moves one burst; host is what a read of host memory delivered, or none where it
failed. -/
def execDmaBurstComplete (engine : Fin 16) (host : Option (List Byte)) (s : State) : Host.Outcome State Fault Refusal :=
  .next (match lookup s.dma.running engine.val with
    | some n => if s.dmaWaits n || (host.isNone && s.dmaPages n) then s else s.dmaBurst n host
    | none => s)

end Sys2Proof.Machine
end

