-- ==== Sys2Proof/Machine/OpsPsq.lean ====
section
/-! DEFINITION. Operations on sequencer connections (R497 to R501, R507, R510, R516, R528, R530). -/

namespace Sys2Proof.Machine

/-! ## Ends of frames (R36, R191) -/

/-- A transmit entry completes, unless its result is stale (R191, R193, R217, R285). -/
def State.completeTx (s : State) (x : TxRef) (writes : List (Nat × Word)) (status reason : Nat) : State :=
  let c := s.q x.q
  if s.staleRef x.q x.gen x.iid x.igen then s.dropRef x.q x.iid x.igen
  else s.completeEntry x.q x.index x.units x.w0 writes status reason x.tag (x.notify || c.notifyAll)

/-- A frame gives up its buffer. -/
def State.endBuf (s : State) (p : Pkt) : State := (s.freeHead p).endHold p.ptr p.holder

/-- A frame ends without being sent: its buffer is freed, and its transmit entry, if it has one, completes DROPPED with a reason
(R191). -/
def State.dropPkt (s : State) (p : Pkt) (reason : Nat) : State :=
  let s := s.endBuf p
  match p.tx with
  | some x => s.completeTx x [] 0x0102 reason
  | none => s

/-! ## Connections -/

/-- Offset of the context of connection c in the device-internal range: the connection area follows the indirection tables (R497; log
entry 31). -/
def connOff (c : Nat) : Nat := 0x800000 + c * 256

/-- The drive port that a local attachment names (R526). -/
def Conn.drivePort (c : Conn) : Nat := field (lookupD c.params 0 0#32).toNat 17 16

/-- Every entry that a connection holds completes with a status, in ring order (R516, R526). -/
def State.flushEntries (s : State) (c status : Nat) : State :=
  match s.conn c with
  | none => s
  | some v =>
    let shared := s.psq.conns.any fun e => e.1 != c && e.2.recv = v.recv && e.2.state != 4
    let posted := if v.recv = 65536 || shared then [] else lookupD s.psq.recvs v.recv []
    let mine := v.entries ++ (match v.rx with
      | some x => [x.1]
      | none => []) ++ posted
    let s := s.setConn c { v with entries := [], rx := none, wr := none, sent := [] }
    let s := if posted.isEmpty then s else { s with psq := { s.psq with recvs := eraseKey s.psq.recvs v.recv } }
    let s := mine.foldl (fun s e => s.completeWork e [] status 0) s
    if status = 0x0206 then s.bumpBy R.PSQ_FLUSHED mine.length else s

/-- The NVMe controller connection whose capsules a queue pair carries (R522, R526). -/
def State.nvmeOn (s : State) (qp : Nat) : Option (Nat × Conn) :=
  s.psq.conns.find? fun e => e.2.kind == .nvme && bitAt (lookupD e.2.params 0 0#32).toNat 24 && (lookupD e.2.params 1 0#32).toNat % 2 ^ 16 = qp

/-- An NVMe controller connection has failed: what it holds completes NVME_TRANSPORT (R523). -/
def State.nvmeFail (s : State) (c : Nat) : State :=
  match s.conn c with
  | some v => (s.setConn c { v with state := 4, timer := false }).flushEntries c 0x0210
  | none => s

/-- The controller connection that a queue pair carries, if any, fails with it (R523). -/
def State.transportLost (s : State) (qp : Nat) : State :=
  match s.nvmeOn qp with
  | some (n, v) => if v.state = 4 then s else (s.bump R.PSQ_CONN_FAILURES).nvmeFail n
  | none => s

/-- A QP enters Error: its entries complete FLUSHED (R516). -/
def State.qpError (s : State) (c : Nat) : State :=
  match s.conn c with
  | none => s
  | some v => if v.state = 4 then s else ((s.setConn c { v with state := 4, timer := false }).flushEntries c 0x0206).transportLost c

/-- A connection fails (R510, R522, R523): a QP enters Error, an NVMe controller connection completes what it holds NVME_TRANSPORT, a
local attachment completes the entry in hand DRIVE_ERROR. -/
def State.connFail (s : State) (c : Nat) : State :=
  match s.conn c with
  | none => s
  | some v =>
    let s := s.bump R.PSQ_CONN_FAILURES
    match v.kind with
    | .qp => s.qpError c
    | .nvme => s.nvmeFail c
    | .local =>
      match v.entries with
      | [] => s
      | e :: t => (s.setConn c { v with entries := t }).completeWork e [] 0x0214 0

/-- The frame of a routine or trigger is dropped. -/
def State.dropFrame (s : State) (f : Option Pkt) : State :=
  match f with
  | some p => (s.freeHead p).freeFrame p.ptr
  | none => s

/-- The queued triggers and running routines of a connection end with it. -/
def State.forgetConn (s : State) (c : Nat) : State :=
  let s := (List.range 32).foldl
    (fun s q =>
      let v := s.seq q
      let s := (v.queue.filter (·.conn = c)).foldl (fun s t => s.dropFrame t.frame) s
      let s := s.dropFrame ((lookup v.running c).bind (·.frame))
      s.setSeq q { v with queue := v.queue.filter (·.conn != c), running := eraseKey v.running c,
                          slots := v.slots.filter fun e => e.2.routine.conn != c }) s
  { s with psq := { s.psq with conns := eraseKey s.psq.conns c, posted := s.psq.posted.filter (·.conn != c) } }

/-- Connection c is held by a trap: one of its routines stands in a trap slot or waits for one (R509). -/
def Sequencer.trapped (v : Sequencer) (c : Nat) : Bool :=
  v.slots.any (·.2.routine.conn = c) || (match v.stopped with
    | some x => x.1.conn = c
    | none => false)

/-- A connection has host transfers, drive commands or routines in progress, or its trigger of kind 6 is still to run. -/
def State.connBusy (s : State) (c : Nat) : Bool :=
  s.psq.posted.any (·.conn = c) || s.psq.drive.any (·.conn = c)
    || (List.range 32).any fun q =>
      let v := s.seq q
      (lookup v.running c).isSome || v.trapped c
        || (!v.retired && (s.group (q / 8)).started && v.queue.any fun t => t.conn = c && (t.kind = 3 || t.kind = 6))

/-- Connections that are being destroyed and have nothing left in progress end, and their commands with them (R526). -/
def State.settleConn (s : State) (c : Nat) : State :=
  match s.conn c with
  | none => s
  | some v =>
    if !v.closing || s.connBusy c then s
    else
      let s := (s.flushEntries c (match v.kind with
        | .qp => 0x0206
        | .nvme => 0x0210
        | .local => 0x0101)).forgetConn c
      match s.findPend (fun p => (p.cmd.opcode = 0x0812 || p.cmd.opcode = 0x0821 || p.cmd.opcode = 0x0831)
          && wd p.cmd.params 0 % 2 ^ 16 = c) with
      | some p => s.finish p 0 0 []
      | none => s

/-- A connection is being destroyed: its entries complete with a status, its trigger of kind 6 is queued, and it ends when nothing of
it is in progress (R498, R526). -/
def State.closeConn (s : State) (c status : Nat) : State :=
  match s.conn c with
  | none => s
  | some v =>
    let s := (s.flushEntries c status).transportLost c
    let s := s.setConn c { (s.conn c).getD v with closing := true, state := 4 }
    let runs := (lookupD s.psq.groups v.group {}).started
    (if runs then s.trigger v.group { kind := 6, conn := c, gen := (s.inst v.owner).gen } else s).settleConn c

/-- A host-facing reset of an instance acts on its connections (R528): QPs enter Error without writing their rings, NVMe controller
connections end, local attachments stay. -/
def State.connHostReset (s : State) (i : Nat) : State :=
  s.psq.conns.foldl
    (fun s e =>
      if e.2.owner != i then s
      else match e.2.kind with
        | .qp =>
          let s := s.setConn e.1 { e.2 with state := 4, timer := false, entries := [], rx := none, wr := none, sent := [] }
          { s with psq := { s.psq with recvs := eraseKey s.psq.recvs e.2.recv } }
        | .nvme => (s.setConn e.1 { e.2 with entries := [] }).closeConn e.1 0x0210
        | .local => s.setConn e.1 { e.2 with entries := [] }) s

end Sys2Proof.Machine
end

