-- ==== Sys2Proof/Machine/OpsLan.lean ====
section
/-! DEFINITION. Operations on Lantern regions: states, clearing, unloading, retirement (R662, R666, R667, R675, R676, R680). -/

namespace Sys2Proof.Machine

/-- Region r. -/
def State.region (s : State) (r : Nat) : Region := lookupD s.lan.regions r {}

/-- s with region r replaced. -/
def State.setRegion (s : State) (r : Nat) (v : Region) : State := { s with lan := { s.lan with regions := insertKey s.lan.regions r v } }

/-- Region r enters a state: ES 448 + 2r, and Keeper's message to the renter for Empty, Running, Quiesced, Faulted and Retired
(R667, R686). -/
def State.lanEnter (s : State) (r st : Nat) : State :=
  let v := s.region r
  let s := (s.setRegion r { v with state := st }).raiseEs (448 + 2 * r)
  if st = 1 || st = 3 || st = 5 || st = 7 || st = 8 then s.keeperSend v.renter 0x05 r else s

/-- A region counts against the allowance (R678). -/
def Region.loaded (v : Region) : Bool := 2 ≤ v.state && v.state ≤ 7

/-- The sum of the loaded caps but one region's (R47, R680). -/
def State.capOthers (s : State) (r : Nat) : Nat :=
  (s.lan.regions.filter fun e => e.1 != r && e.2.loaded).foldl (fun n e => n + e.2.cap) 0

/-- The sum of the loaded caps (LAN_CAP_SUM). -/
def State.capSum (s : State) : Nat := (s.lan.regions.filter fun e => e.2.loaded).foldl (fun n e => n + e.2.cap) 0

/-- The update lock of region r (R649). -/
def lanLock (r : Nat) : Nat := 0x04000020 + r

/-- The PENDING command of an opcode on region r. -/
def State.lanPend (s : State) (op r : Nat) : Option PendCmd := s.findPend fun p => p.cmd.opcode = op && p.cmd.p 0 % 16 = r

/-- The PENDING command of an opcode on region r ends; a load gives up its lock. -/
def State.lanFinish (s : State) (op r status reason : Nat) (ws : List Word) : State :=
  match s.lanPend op r with
  | none => s
  | some p => (if op = 0x0C01 then s.dropClaim (lanLock r) else s).finish p status reason ws

/-- The frames in flight at a region are lost (R674). -/
def State.lanLose (s : State) (r : Nat) : State :=
  let fs := (s.region r).flight
  let s := s.setRegion r { s.region r with flight := [] }
  fs.foldl (fun s e => (s.bump (R.LAN_TIMEOUTS r)).dropPkt e.2.pkt 0x1500) s

/-- The configuration of region r is cleared, its block SRAM zeroed and its clock stopped (R666, R673, R675). -/
def State.lanClear (s : State) (r : Nat) : State :=
  let s := s.lanLose r
  s.setRegion r { s.region r with image := none, incoming := none, staging := none, clock := 0, stage := 0, samples := [], quiesce := none, waits := [] }

/-- What region r holds outside itself is released (R350, R675). -/
def State.lanRelease (s : State) (r : Nat) : State :=
  let m := 0x1010 + r
  let s := (List.range 64).foldl
    (fun s c => if s.rfb (F.BUOY_BIND_valid c) && (s.rf (F.BUOY_BIND_mid_a c) = m || s.rf (F.BUOY_BIND_mid_b c) = m) then s.buoyForceClear (.int c) else s) s
  (s.dmaReleaseMid m).purgeRequester (0x820 + r) []

/-- Region r passes through Unloading to Empty (R667, R675). -/
def State.lanUnload (s : State) (r : Nat) : State :=
  ((((s.lanEnter r 6).lanClear r).lanRelease r).lanEnter r 1).lanFinish 0x0C03 r 0 0 []

/-- A Running region starts to quiesce (R674). -/
def State.lanQuiesce (s : State) (r : Nat) (q : QuiesceFor) : State :=
  ((s.setRegion r { s.region r with quiesce := some q }).lanEnter r 4).emit (.regionSignal r 3)

/-- A region's load ended with its command (R111, R675): a region that quiesces for it will unload, and one that loads is Empty. -/
def State.lanStale (s : State) (p : PendCmd) : State :=
  let r := p.cmd.p 0 % 16
  if p.cmd.opcode != 0x0C01 then s
  else
    let s := s.dropClaim (lanLock r)
    let v := s.region r
    if v.staging.isSome && v.state != 2 then s.setRegion r { v with staging := none }
    else if v.state = 4 then s.setRegion r { v with quiesce := some .unload, incoming := none }
    else if v.state = 2 then s.lanUnload r
    else s

/-- Region r becomes Unassigned, or stays Retired with no renter (R667, R682). -/
def State.lanFree (s : State) (r : Nat) : State :=
  let v := s.region r
  let s := { s with pgr := { s.pgr with ranges := eraseKey s.pgr.ranges (0x800 + r) } }
  let s := s.setRegion r { v with renter := 0, base := 0, size := 0, taps := [{}, {}, {}] }
  if v.state = 1 then s.lanEnter r 0 else s

/-- Region r retires (R676). -/
def State.lanRetire (s : State) (r : Nat) : State :=
  let v := s.region r
  if v.state = 0 || v.state = 8 then s
  else
    let load := (s.lanPend 0x0C01 r).isSome
    let s := (s.lanClear r).lanRelease r
    let s := if load then s.setRegion r { s.region r with reason := 0x150C } else s
    let s := s.lanEnter r 8
    ((s.lanFinish 0x0C01 r 0x20 0x150C []).lanFinish 0x0C02 r 0x20 0x1502 (results [8])).lanFinish 0x0C03 r 0x20 0x1502 (results [8])

end Sys2Proof.Machine
end

