-- ==== Sys2Proof/Machine/OpsRas.lean ====
section
/-! DEFINITION. Modes of the device, Foghorn, the fault log and the leaky-bucket counters (R48 to R54, R719 to R735, R777). -/

namespace Sys2Proof.Machine

/-! ## Resources (R719) -/

/-- The kind and the index of a resource identifier. -/
def resKind (r : Nat) : Nat := r / 256
def resIndex (r : Nat) : Nat := r % 256

/-- A retirable resource. -/
def resKnown (r : Nat) : Bool := decide (r % 256 < [0, 8, 8, 32, 128, 32, 16, 2, 4].getD (r / 256) 0)

/-- The block that reports a kind's faults (R13, R733). -/
def resBlock (r : Nat) : Nat := [0x17, 0x12, 0x16, 0x07, 0x0E, 0x0F, 0x15, 0x00, 0x1A].getD (r / 256) 0x17

/-- A resource is retired, or its retirement has started (R725). -/
def State.isRetired (s : State) (r : Nat) : Bool := s.ras.retired.contains r || s.ras.running.contains r

/-- A resource is retired, retires or is under test (R743). -/
def State.isOut (s : State) (r : Nat) : Bool := s.isRetired r || s.tst.underTest.contains r

/-- Any resource is retired (R52). -/
def State.anyRetired (s : State) : Bool := !s.ras.retired.isEmpty || !s.ras.running.isEmpty

/-- GLB_MODE.retired_present and the RAS_RET registers and MEM_RETIRED follow the retired resources (R738). -/
def State.showRetired (s : State) : State :=
  let bits := fun (kind base : Nat) =>
    s.ras.retired.foldl (fun n r => if resKind r = kind && base ≤ resIndex r && resIndex r < base + 32 then n + 2 ^ (resIndex r - base) else n) 0
  let s := s.setF F.GLB_MODE_retired_present (b2n s.anyRetired)
  let s := (((s.setReg R.RAS_RET_LINE (bits 1 0)).setReg R.RAS_RET_SPAR (bits 2 0)).setReg R.RAS_RET_CHAN (bits 3 0)).setReg R.MEM_RETIRED (bits 3 0)
  let s := (List.range 4).foldl (fun s j => s.setReg (R.RAS_RET_CORE j) (bits 4 (32 * j))) s
  (s.setReg R.RAS_RET_SEQ (bits 5 0)).setReg R.RAS_RET_MISC (bits 6 0 + bits 7 0 * 2 ^ 16 + bits 8 0 * 2 ^ 20)

/-! ## Modes (R48 to R54, R777) -/

/-- Service, or Degraded Service if any resource is retired (R52). -/
def State.serviceMode (s : State) : Nat := if s.anyRetired then 3 else 2

/-- The mode that an event of R52 leads to from the current one with its cause; none where the mode stays. -/
def State.modeFor (s : State) (e : ModeEvent) : Option (Nat × Nat) :=
  let m := s.mode
  match e with
  | .fatal | .handed => if 1 ≤ m && m ≤ 4 then some (5, 0x0C) else none
  | .retire => if m = 2 then some (3, 0x08) else none
  | .returned => if m = 3 && !s.anyRetired then some (2, 0x09) else none
  | .test => if m = 2 || m = 3 then some (4, 0x0A) else none
  | .tested => if m = 4 && s.tst.underTest.isEmpty then some (s.serviceMode, 0x0B) else none
  | .service cause => if m = 1 || m = 5 then some (s.serviceMode, cause) else none
  | .perst => none

/-- The mode changes; where it stays as it was, neither prev_mode nor cause is written (R777). -/
def State.setMode (s : State) (mode cause : Nat) : State :=
  let s := if s.mode = mode then s
    else ((s.setF F.GLB_MODE_prev_mode s.mode).setF F.GLB_MODE_mode mode).setF F.GLB_MODE_cause cause
  s.setF F.GLB_MODE_retired_present (b2n s.anyRetired)

/-- The order in which pending events are taken (R53). -/
def ModeEvent.rank : ModeEvent → Nat
  | .fatal | .handed => 0
  | .retire => 1
  | _ => 2

/-- The event that is taken next: the first of the lowest rank (R53). -/
def nextEvent (es : List ModeEvent) : Option ModeEvent :=
  [0, 1, 2].findSome? fun k => es.find? (·.rank = k)

/-! ## Foghorn (R731) -/

/-- Keeper sends Buoy message 0x04 to every Active instance (R266, R731). -/
def State.fogMessages (s : State) : State :=
  (s.insts.filter fun e => e.2.state = 2).foldl (fun s e => s.keeperSend e.1 0x04 s.mode) s

/-- Foghorn sounds with a cause. The messages carry the mode after a transition in progress. -/
def State.foghorn (s : State) (cause : Nat) : State :=
  if bitAt (s.reg R.RAS_FOGHORN) cause then s
  else
    let s := ((s.setReg R.RAS_FOGHORN (s.reg R.RAS_FOGHORN + 2 ^ cause)).setF F.RAS_FOGHORN_sounding 1).raiseEs 32
    if !s.mainOn then s
    else if s.rfb F.GLB_MODE_transition then { s with boot := { s.boot with fogWaits := s.boot.fogWaits + 1 } }
    else s.fogMessages

/-- Foghorn causes are cleared; FOGHORN_N rises when none is left. -/
def State.fogClear (s : State) (mask : Nat) : State :=
  let v := s.reg R.RAS_FOGHORN % 32
  let v := v - (v &&& mask)
  s.setReg R.RAS_FOGHORN (if v = 0 then 0 else 2 ^ 31 + v)

/-! ## The fault log (R733, R734) -/

/-- The sequences of the valid records that the MRAM holds. -/
def State.logSeqs (s : State) : List Nat :=
  (s.mem.mram.filter fun c => logBase ≤ c.1 && c.1 < logBase + logSlots * 64 && (c.1 - logBase) % 64 = 3 && c.2 == 0xFA#8).filterMap
    fun c => s.logSeqAt (c.1 - 3)

/-- At boot, firmware resumes after the valid record whose sequence is the latest (R733). -/
def State.logResume (s : State) : State :=
  let seqs := s.logSeqs
  if seqs.isEmpty then
    ({ s with ras := { s.ras with logged := false } }.setReg R.RAS_LOG_OLDEST 0).setReg R.RAS_LOG_NEWEST 0
  else
    let new := latestSeq seqs
    let back := seqs.foldl (fun n x => if sub32 new x < logSlots then max n (sub32 new x) else n) 0
    ({ s with ras := { s.ras with logged := true } }.setReg R.RAS_LOG_OLDEST (sub32 new back)).setReg R.RAS_LOG_NEWEST new

/-! ## Counters (R720 to R723) -/

/-- Class and weight of a fault code (R720). -/
def faultOf (code : Nat) : Nat × Nat :=
  match code with
  | 0x01 => (1, 8)
  | 0x02 => (2, 0)
  | 0x03 => (0, 1)
  | 0x04 => (1, 8)
  | 0x05 => (0, 1)
  | 0x06 => (1, 16)
  | 0x07 => (2, 0)
  | 0x08 => (0, 1)
  | 0x09 => (1, 32)
  | 0x0A => (2, 0)
  | 0x0B => (1, 16)
  | 0x0C => (0, 1)
  | 0x0D => (1, 64)
  | 0x0E => (0, 1)
  | 0x0F => (3, 128)
  | 0x10 => (0, 1)
  | 0x11 => (1, 32)
  | _ => (0, 0)

/-- A resource's counter. -/
def State.counter (s : State) (r : Nat) : Nat := lookupD s.ras.counters r 0

/-- s with a resource's counter holding v. -/
def State.setCounter (s : State) (r v : Nat) : State :=
  { s with ras := { s.ras with counters := if v = 0 then eraseKey s.ras.counters r else insertKey s.ras.counters r v } }

/-- A resource is retired, or its retirement is queued, running or held (R725). -/
def State.retireBusy (s : State) (r : Nat) : Bool := s.isRetired r || s.ras.queued.contains r || s.ras.limitHold.contains r

/-- A retirement is queued; it starts within 1 ms (R722, R725). -/
def State.queueRetire (s : State) (r : Nat) : State :=
  if s.retireBusy r then s else { s with ras := { s.ras with queued := s.ras.queued ++ [r] } }

/-- A fault event adds its weight to a resource's counter (R720 to R722): it is logged, warns, and may queue a retirement. Answers whether
the threshold is reached with auto_retire at 1. -/
def State.weigh (s : State) (code r retry : Nat) (detail : List Nat) : Bool × State :=
  let (cls, weight) := faultOf code
  let k := resKind r
  let old := s.counter r
  let new := min (old + weight) 65535
  let thr := s.rf (F.RAS_KIND_CFG_threshold k)
  let warn := s.rf (F.RAS_KIND_CFG_warn_pct k) * thr
  let auto := s.rfb (F.RAS_KIND_CFG_auto_retire k)
  let crossed := decide (old < thr) && decide (thr ≤ new)
  let s := s.setCounter r new
  let s := if old * 100 < warn && warn ≤ new * 100 then s.raiseEs 34 else s
  let s := s.faultRecord { cls := cls, block := resBlock r, res := r, code := code, counter := new, retry := retry, detail := detail } (crossed && !auto)
  (auto && decide (thr ≤ new) && weight != 0, if crossed && !auto then s.raiseEs 35 else s)

/-- A fault of a class below 3 (R721, R722). -/
def State.fault (s : State) (code r retry : Nat) (detail : List Nat) : State :=
  let (due, s) := s.weigh code r retry detail
  if due || (faultOf code).1 = 2 then s.queueRetire r else s

end Sys2Proof.Machine
end

