-- ==== Sys2Proof/Machine/OpsKeeper.lean ====
section
/-! DEFINITION. The two Keeper pairs: which one runs the device, takeover, and device-fatal faults (R79, R88 to R91, R728 to R730,
R782). -/

namespace Sys2Proof.Machine

/-- The pair that runs the device: 0 A, 1 B. -/
def State.activePair (s : State) : Nat := s.rf F.GLB_MODE_active_pair

/-- The R719 identifier of a pair. -/
def pairRes (p : Nat) : Nat := 0x700 + p

/-- The pair that runs secure boot: A, or B when A is retired (R782). -/
def State.bootPair (s : State) : Nat := if s.isRetired (pairRes 0) && !s.isRetired (pairRes 1) then 1 else 0

/-- The phase of a pair. -/
def State.pair (s : State) (p : Nat) : PairPhase := if p = 0 then s.boot.pairA else s.boot.pairB

/-- s with a pair in a phase; GLB_MODE.standby_pair_ready follows the standby pair, and a change raises ES 3 (R79, R95). -/
def State.setPair (s : State) (p : Nat) (x : PairPhase) : State :=
  let s := { s with boot := if p = 0 then { s.boot with pairA := x } else { s.boot with pairB := x } }
  let r := b2n (s.pair (1 - s.activePair) == .ready)
  if s.rf F.GLB_MODE_standby_pair_ready = r then s else (s.setF F.GLB_MODE_standby_pair_ready r).raiseEs 3

/-- The standby pair is reset and boots from the bank named active, or stays held where it is retired or under test (R79, R729, R743). -/
def State.rebootPair (s : State) (p : Nat) : State :=
  s.setPair p (if s.isRetired (pairRes p) || s.tst.underTest.contains (pairRes p) then .held else .booting)

/-- GLB_BOOT_STATUS and the running version follow the active pair (R82, R90). -/
def State.showRunning (s : State) : State :=
  let r := if s.activePair = 0 then s.boot.runA else s.boot.runB
  ({ s with boot := { s.boot with fwMajor := r.major, fwMinor := r.minor } }).setF F.GLB_BOOT_STATUS_running_bank r.bank

/-- An activation that a fatal fault of the active pair ended is answered, now that the other pair has taken over (R89): its claim is released;
the staged bank stays staged. -/
def State.answerFaulted (s : State) : State :=
  if !s.boot.activation.faulted then s
  else (({ s with boot := { s.boot with activation := {} } }).dropClaim 0x04000000).finishOp 0x0021 0x20 0x0009 []

/-- The other pair takes over the device (R85 step 5, R90): it becomes active, the old one is reset, and revalidation of the live
configuration runs. -/
def State.takeOver (s : State) : State :=
  let old := s.activePair
  let s := s.setF F.GLB_MODE_active_pair (1 - old)
  let s := { s with boot := { s.boot with takeoverWaits := false, revalidating := true, revalidated := false } }
  let s := { s with boot := if old = 0 then { s.boot with pairB := .active } else { s.boot with pairA := .active } }
  (s.showRunning.rebootPair old).answerFaulted

/-- The other pair takes the device over in order, with no fault (R85 steps 4 to 6, R724): admin fetch pauses and resumes, ES 7 each. -/
def State.handOver (s : State) : State :=
  let old := s.activePair
  let s := (({ s with cmds := { s.cmds with paused := true } }).raiseEs 7).setF F.GLB_MODE_active_pair (1 - old)
  let s := { s with boot := if old = 0 then { s.boot with pairB := .active } else { s.boot with pairA := .active } }
  ({ s.showRunning with cmds := { s.cmds with paused := false } }).raiseEs 7

/-- DEV_IMAGE_ACTIVATE ends before its handover (R88, R89): its claim is released, the standby pair is reset and boots again. -/
def State.endActivation (s : State) (status reason : Nat) (ws : List Word := []) : State :=
  let s := ({ s with boot := { s.boot with activation := {} } }).dropClaim 0x04000000
  (s.finishOp 0x0021 status reason ws).rebootPair (1 - s.activePair)

/-- No pair is left to take over: the configuration is frozen (R52, R730). -/
def State.freeze (s : State) : State := ({ s with boot := { s.boot with frozen := true, takeoverWaits := false } }).foghorn 2

/-- Both pairs come out of reset: the one that boots is active, the other waits for step 8 of R64 or stays held (R51, R782). With both
retired nothing runs. -/
def State.pairsUp (s : State) : State :=
  if s.isRetired (pairRes 0) && s.isRetired (pairRes 1) then { s with boot := { s.boot with frozen := true } }
  else
    let b := s.bootPair
    let s := (s.setF F.GLB_MODE_active_pair b).setPair b .active
    s.setPair (1 - b) (if s.isRetired (pairRes (1 - b)) then .held else .off)

/-- Secure boot, or the ROM recovery loader, starts again (R782): both pairs are reset. -/
def State.restartBoot (s : State) : State :=
  let s := (s.foghorn 2).pairsUp
  if s.rfb F.GLB_MODE_rom_recovery then { s with mgp := { s.mgp with waiting := [] }, mem := { s.mem with cache := [] } }
  else s.setF F.GLB_BOOT_STATUS_step 1

/-- The fatal fault of the pair that runs the device is taken (R52, R53, R89, R90, R729): the other pair takes over at once, or once it has
booted; an activation is answered after that. -/
def State.fatalTaken (s : State) : State :=
  let a := s.boot.activation
  let s := { s with boot := { s.boot with fatalWaits := false, activation := { a with faulted := a.running } } }
  let other := 1 - s.activePair
  if s.pair other == .held || s.pair other == .off then s.freeze
  else
    let s := ((s.foghorn 3).raiseEs 37).bump R.RAS_TAKEOVERS
    let s := s.log 5 { block := 0, res := pairRes s.activePair }
    let s := { s with boot := { s.boot with revalidating := false, revalidated := false } }
    if s.pair other == .ready then s.takeOver
    else { s.rebootPair other with boot := { (s.rebootPair other).boot with takeoverWaits := true } }

/-! ## Mode transitions (R52 to R54) -/

/-- Pending events are taken while no transition runs (R53, R54); PERST# without service retention restarts the device once its turn has
come, at the end of the transition (perstRestart). -/
def State.takeEvents (s : State) : Nat → State
  | 0 => s
  | fuel + 1 =>
    if s.rfb F.GLB_MODE_transition then s
    else match nextEvent s.boot.events with
      | none => s
      | some .perst => s
      | some e =>
        let s := { s with boot := { s.boot with events := s.boot.events.erase e } }
        let s := if e = .fatal then s.fatalTaken else s
        match s.modeFor e with
        | none => s.takeEvents fuel
        | some t => ({ s with boot := { s.boot with target := some t } }).setF F.GLB_MODE_transition 1

/-- An event of R52 arises. -/
def State.modeEvent (s : State) (e : ModeEvent) : State :=
  let s := { s with boot := { s.boot with events := s.boot.events ++ [e] } }
  s.takeEvents s.boot.events.length

/-- A mode transition ends (R53, R54). -/
def State.endTransition (s : State) : State :=
  match s.boot.target with
  | none => s
  | some (m, cause) =>
    let s := { s with boot := { s.boot with
      target := none, revalidated := if m = 5 then s.boot.revalidated else false } }
    let s := ((s.setMode m cause).setF F.GLB_MODE_transition 0).raiseEs 0
    let s := (List.range s.boot.fogWaits).foldl (fun s _ => s.fogMessages) s
    let s := { s with boot := { s.boot with fogWaits := 0 } }
    s.takeEvents s.boot.events.length

/-! ## Faults of the pairs -/

/-- A fatal fault of the pair that runs the device (R52, R729): an event of R52, taken when no transition runs (R53). Under secure boot or the
ROM recovery loader the boot starts again (R782). -/
def State.fatalActive (s : State) : State :=
  if s.boot.frozen then s
  else if s.rfb F.GLB_MODE_rom_recovery || (s.mode = 1 && !s.boot.booted) then s.restartBoot
  else if s.boot.takeoverWaits || s.boot.fatalWaits then s
  else { s with boot := { s.boot with fatalWaits := true } }.modeEvent .fatal

/-- A fatal fault of the other pair (R88, R729, R730). -/
def State.fatalStandby (s : State) (p : Nat) : State :=
  let s := if s.boot.activation.running && !s.boot.activation.faulted then s.endActivation 0x20 0x0009 else s
  if s.boot.takeoverWaits then (s.setPair p .held).freeze else s.rebootPair p

/-- A retirement ends: its record, ES 33 and its count (R725). -/
def State.retireEnded (s : State) (r : Nat) : State :=
  ((s.log 3 { block := resBlock r, res := r }).raiseEs 33).bump R.RAS_RETIREMENTS

/-- The limit of a kind allows one more retirement (R319, R724). -/
def State.retireAllowed (s : State) (r : Nat) : Bool :=
  if resKind r = 3 then decide (((s.ras.retired ++ s.ras.running).filter fun x => resKind x = 3 && x != r).length < 8)
  else if resKind r = 7 then !s.isRetired (pairRes (1 - resIndex r))
  else true

/-- A retirement that the limit forbids leaves the resource in service (R725). -/
def State.holdAtLimit (s : State) (r : Nat) : State :=
  (({ s with ras := { s.ras with limitHold := s.ras.limitHold ++ [r] } }.log 8 { block := resBlock r, res := r }).foghorn 1).bump R.RAS_LIMIT_HOLDS

/-- A device-fatal fault of a Keeper pair, code 0x0F (R728, R729), with what it leads to: counted, and the pair retired where its counter
reaches the threshold. -/
def State.pairFaultBy (s : State) (p : Nat) (detail : List Nat) (act : State → State) : State :=
  if !s.mainOn || s.pair p == .off || s.pair p == .held then s
  else
    let (due, s) := s.weigh 0x0F (pairRes p) 0 detail
    let due := due && !s.retireBusy (pairRes p)
    let go := due && s.retireAllowed (pairRes p)
    let s := if due && !go then s.holdAtLimit (pairRes p) else s
    let s := if go then ({ s with ras := { s.ras with retired := s.ras.retired ++ [pairRes p] } }).showRetired else s
    let s := act s
    if go then (((s.log 2 { block := 0, res := pairRes p }).modeEvent .retire).foghorn 0).retireEnded (pairRes p) else s

/-- A device-fatal fault of a Keeper pair (R88 to R90, R728, R729). -/
def State.pairFault (s : State) (p : Nat) (detail : List Nat) : State :=
  s.pairFaultBy p detail fun s => if p = s.activePair then s.fatalActive else s.fatalStandby p

end Sys2Proof.Machine
end

