-- ==== Sys2Proof/Machine/OpsIns.lean ====
section
/-! DEFINITION. Operations on instances: generations, host-facing resets, binding, pools (R74 to R76, R275 to R293, R779). -/

namespace Sys2Proof.Machine

/-- Instances created and not destroyed, instance 0 among them (INS_IN_USE). -/
def State.instsInUse (s : State) : Nat := (s.insts.filter fun e => e.2.state != 0).length

/-- The conditions of R277 for the VF of instance i to be bound. -/
def State.bindOk (s : State) (i : Nat) : Bool := s.vfsOn && decide (i ≤ s.host.numVfs)

/-- What an update whose command has ended under R111 leaves behind: its claims are released (R133), and an activation ends as R88 has it. -/
def State.updateStale (s : State) (p : PendCmd) : State :=
  match p.cmd.opcode with
  | 0x0020 => (s.dropClaim 0x04000000).markMram (0x4000000 + (1 - s.rf F.GLB_BOOT_STATUS_running_bank) * 0x2000000) false
  | 0x0021 => if s.boot.activation.faulted then s.answerFaulted else if s.boot.activation.running then s.endActivation 0 0 else s
  | 0x0030 => s.markMram 0x800000 false
  | 0x0800 => ((List.range 4).filter (bitAt (p.cmd.p 0))).foldl (fun s g => (s.dropClaim (0x04000001 + g)).markMram (0x100000 * (2 - (s.group g).active)) false) s
  | 0x0B21 => (s.dropClaim 0x04000030).markMram 0x10000 false
  | 0x0E02 => s.dropClaim (0x06000000 + p.cmd.p 0 % 65536)
  | _ => s.lanStale p

/-- A PENDING command whose target's generation changes ends with STALE_GENERATION, but for those of R111; what it had begun is undone as
the event ends (R100, State.undoStale). -/
def State.endStale (s : State) (i : Nat) : State :=
  let mine := s.cmds.pend.filter fun p =>
    p.cmd.target = i && p.cmd.opcode != 0x0100 && p.cmd.opcode != 0x0101 && p.cmd.opcode != 0x0102
  let s := { s with cmds := { s.cmds with ended := s.cmds.ended ++ mine } }
  mine.foldl (fun s p => (s.finish p 0x16 0 []).updateStale p) s

/-- The generation of instance i increments (R282), and what depended on the old one ends (R111). -/
def State.bumpGen (s : State) (i : Nat) : State :=
  let v := s.inst i
  (s.setInst i { v with gen := nextGen v.gen, recent := true }).endStale i

/-- The admin queue of instance i goes to Active on the ring last set (R280). -/
def State.startAdmin (s : State) (i : Nat) : State :=
  let v := s.inst i
  let c := s.q v.adminQid
  let s := s.setInst i { v with aborted := false }
  s.setQ v.adminQid { startedQ c with
    type := 1, sizeLog2 := v.adminLog2, iid := i, loc := 0, base := v.adminBase, evq := c.evq, vector := c.vector,
    pasid := field v.adminPasid 31 12, pasidEn := bitAt v.adminPasid 11 }

/-- An increment is due for instance i (R284): it applies now, or waits its turn with what depends on it. Answers whether it
applied. -/
def State.incGen (s : State) (i : Nat) (w : IncWait) : Bool × State :=
  let v := s.inst i
  if v.recent then (false, s.setInst i { v with waits := v.waits ++ [w] }) else (true, s.bumpGen i)

/-- The frames that wait for an instance's queues are dropped with their buffers (R75, R216). -/
def State.dropWaiting (s : State) (i : Nat) : State :=
  let mine := s.queues.filter fun e => e.2.iid = i && e.2.state != 0
  mine.foldl (fun s e => e.2.rxWait.foldl (fun s f => s.endHold f.ptr f.holder) s) s

/-- Telemetry subscriptions of an owner, or on a ring, are deleted; each raises ES 404 (R588). -/
def State.dropSubs (s : State) (p : Telemetry → Bool) : State :=
  let n := (s.frs.subs.filter fun e => p e.2).length
  let s := { s with frs := { s.frs with subs := s.frs.subs.filter fun e => !p e.2 } }
  (List.range n).foldl (fun s _ => s.raiseEs 404) s

/-- The host-facing state of instance i is reset, its generation apart; ES 12 (R74, R95, R255, R264, R528, R588). -/
def State.hostFacing (s : State) (i : Nat) : State :=
  let s := (s.bump R.INS_RESETS).raiseEs 12
  let s := s.setInst i { s.inst i with aborted := true }
  let s := (s.dropWaiting i).abortQueues i
  let s := { s with evc := { s.evc with vecs := s.evc.vecs.filter fun e => e.1 / 4096 != i } }
  let s := { s with host := { s.host with queued := s.host.queued.filter fun x => x.req.iid != i || (match x.req.unit with
    | .pageFill _ => true
    | _ => false) } }
  let s := ((s.buoyHostReset i).connHostReset i).dropSubs (·.owner = i)
  let mine := s.dma.runs.filter fun e =>
    s.rf (F.DMA_CH_HOST_iid e.1) = i && s.dmaHosts e.1
  mine.foldl (fun s e => s.dmaEnd e.1 e.2.left 0x13 false) s

/-- A host-facing reset of instance i by an event (R277, R304); strong says that the event also resets an Unbound instance: FLR of PF0,
PERST# or hot reset. -/
def State.hostReset (s : State) (i : Nat) (strong : Bool) : State :=
  let v := s.inst i
  if i = 0 then
    if v.state = 0 then s
    else (((s.incGen 0 .plain).2.hostFacing 0).setF F.INS_MGR_ADMIN_CFG_active 0).setF F.INS_MGR_ADMIN_CFG_enable 0
  else if v.state = 2 || v.state = 3 then
    let s := (s.incGen i .plain).2.hostFacing i
    s.setInst i { s.inst i with state := 4, perstHeld := s.boot.perst }
  else if v.state = 1 then (if strong then (s.incGen i .plain).2.hostFacing i else s)
  else if v.state = 4 then
    let s := (s.incGen i .plain).2
    s.setInst i { s.inst i with perstHeld := s.boot.perst }
  else if v.state = 5 then (s.incGen i .plain).2
  else s

/-- A host-facing reset of every instance that an event reaches. -/
def State.hostResetAll (s : State) (strong : Bool) (p : Nat → Bool) : State :=
  (s.insts.map (·.1)).foldl (fun s i => if p i then s.hostReset i strong else s) s

/-- An Unbound instance whose conditions have become true binds (R76, R277, R280); an admin queue that waits for the increment of INS_CREATE is
created Active when that applies (R284). -/
def State.bindInst (s : State) (i : Nat) : State :=
  let v := s.inst i
  if i != 0 && v.state = 1 && s.bindOk i then
    let s := s.setInst i { v with state := 2 }
    if v.waits.contains .create then s else s.startAdmin i
  else s

/-- Every Unbound instance whose conditions hold binds. -/
def State.bindAll (s : State) : State := (s.insts.map (·.1)).foldl State.bindInst s

/-- A host-facing reset of instance i, or an FLR of its function, has ended (R77, R277, R299, R779). -/
def State.hostResetEnd (s : State) (i : Nat) : State :=
  let s := if (s.fn i).flr then s.setFn i { s.fn i with flr := false } else s
  let v := s.inst i
  if v.state != 4 || s.boot.perst || !v.waits.isEmpty then s
  else
    let s := if s.bindOk i then ((s.setInst i { v with state := 2, perstHeld := false }).startAdmin i).keeperSend i 0x02 v.gen
      else s.setInst i { v with state := 1, perstHeld := false }
    match s.findPend (fun p => p.cmd.opcode = 0x0102 && p.cmd.target = i) with
    | some p => s.finish p 0 0 (results [v.gen * 2 ^ 16])
    | none => s

/-! ## Pools (R288 to R293) -/

/-- Minimum and maximum fields of pool 1, 2, 3, 4, 5, 6 and 9 in a quota record (R291); pools 7 and 8 reserve their maximum. -/
def quotaMin (q : List Word) (pool : Nat) : Nat :=
  match pool with
  | 1 => max 1 (field (wd q 0) 31 16)
  | 2 => field (wd q 1) 30 24
  | 3 => field (wd q 1) 12 8
  | 4 => wd q 2
  | 5 => field (wd q 9) 16 0
  | 6 => field (wd q 4) 15 0
  | 7 => if field (wd q 5) 20 0 = 0 then 2097152 else field (wd q 5) 20 0
  | 8 => field (wd q 6) 12 0
  | 9 => field (wd q 7) 20 0
  | _ => 0

/-- The maximum of a pool in a quota record. -/
def quotaMax (q : List Word) (pool : Nat) : Nat :=
  match pool with
  | 1 => field (wd q 0) 15 0
  | 2 => field (wd q 1) 22 16
  | 3 => field (wd q 1) 4 0
  | 4 => wd q 3
  | 5 => field (wd q 10) 16 0
  | 6 => field (wd q 4) 31 16
  | 7 => quotaMin q 7
  | 8 => quotaMin q 8
  | 9 => field (wd q 8) 20 0
  | _ => 0

/-- Lantern regions that an instance rents. -/
def State.regionsOf (s : State) (i : Nat) : Nat := (s.lan.regions.filter fun e => e.2.state != 0 && e.2.renter = i).length

/-- The host vectors that instance i uses (R289): those that its event queues and its Buoy channel raise (log entry 61). -/
def State.vectorsUsed (s : State) (i : Nat) : List Nat :=
  let b := s.chan (.inst i)
  (((s.queues.filter fun e => e.2.iid = i && e.2.state != 0 && e.2.type = 6).map (·.2.vector)) ++ (if b.vecEnable then [b.vector] else [])).eraseDups

/-- What instance i uses of a pool, in the pool's unit. -/
def State.poolUse (s : State) (i pool : Nat) : Nat :=
  match pool with
  | 1 => (s.queues.filter fun e => e.2.iid = i && e.2.state != 0).length
  | 2 => if i = 0 then 0 else (s.vectorsUsed i).length
  | 3 => s.regionsOf i
  | 4 => (s.tbl.tables.filter fun t => t.2.state == .live).foldl (fun n t => n + (t.2.entries.filter fun e => e.2.owner = i).length) 0
  | 5 => (s.cls.rules.filter fun e => e.2.valid && e.2.owner = i).length
  | 6 => (s.bufUsed i 0 + 15) / 16
  | 7 => (s.rangeOf i).2
  | 8 => s.pinnedOf i
  | 9 => (s.saf.assocs.filter fun e => bitAt (wd e.2 0) 31 && field (wd e.2 0) 10 0 = i).length
  | _ => 0

/-- The sum limit of minimums of a pool (R288); pool 7 is bounded by its range, pool 8 by its own total. -/
def poolMinLimit (pool : Nat) : Nat := [0, 61440, 65536, 16, 268435456, 49152, 16384, 0, 4096, 786432].getD pool 0

/-- The device total of a pool (R288), instance 0's keep apart. -/
def poolTotal (pool : Nat) : Nat := [0, 61440, 65536, 16, 0, 49152, 23437, 0, 8192, 1048576].getD pool 0

/-- Instances 1 to 2047 that exist. -/
def State.tenants (s : State) : List Nat := (s.insts.filter fun e => e.1 != 0 && e.2.state != 0).map (·.1)

/-- The sum of the minimums of a pool over every instance but one. -/
def State.minOthers (s : State) (i pool : Nat) : Nat :=
  s.tenants.foldl (fun n j => if j = i then n else n + quotaMin (s.inst j).quota pool) 0

/-- What the other instances use, or have reserved if that is more. -/
def State.heldOthers (s : State) (i pool : Nat) : Nat :=
  s.tenants.foldl (fun n j => if j = i then n else n + max (s.poolUse j pool) (quotaMin (s.inst j).quota pool)) 0

/-- Instance i may use n more of a pool: within its minimum always; above it up to its maximum and to what no one has reserved (R289);
instance 0 has no maximum and keeps 4,096 QIDs and 16,384 rules of its own (R288, R290). -/
def State.poolAllows (s : State) (i pool n : Nat) : Option Bool :=
  let q := (s.inst i).quota
  let u := s.poolUse i pool + n
  if i != 0 && u > quotaMax q pool then some true
  else if i != 0 && u ≤ quotaMin q pool then none
  else
    let keep := if pool = 1 then 4096 else if pool = 5 then 16384 else 0
    let mgr := if i = 0 then 0 else s.poolUse 0 pool - keep
    let own := if i = 0 then u - keep else u
    if s.heldOthers i pool + mgr + own ≤ poolTotal pool then none else some false

/-- Instance i may not raise one more vector: the pool has none left for it (R289). PF0's vectors are no part of the pool (R145, R288). -/
def State.vectorShort (s : State) (i v : Nat) : Bool := i != 0 && !(s.vectorsUsed i).contains v && (s.poolAllows i 2 1).isSome

/-- A quota record's first field outside its range (R101, R291): its word. -/
def quotaRange (q : List Word) : Option Nat :=
  let w := wd q
  if field (w 0) 31 16 > 6144 || field (w 0) 15 0 = 0 || field (w 0) 15 0 > 6144 then some 0
  else if !fits (w 1) 0x7F7F1F1F || field (w 1) 30 24 > 64 || field (w 1) 22 16 = 0 || field (w 1) 22 16 > 64 || field (w 1) 12 8 > 16
      || field (w 1) 4 0 > 16 then some 1
  else if field (w 4) 31 16 = 0 || field (w 4) 31 16 > 23437 || field (w 4) 15 0 > 16384 then some 4
  else if !fits (w 5) 0x3FFFFF || w 5 > 2097151 then some 5
  else if !fits (w 6) 0x1FFF || w 6 > 4096 then some 6
  else if !fits (w 7) 0x1FFFFF || w 7 > 786432 then some 7
  else if !fits (w 8) 0x1FFFFF || w 8 > 1048576 then some 8
  else if !fits (w 9) 0x1FFFF || w 9 > 49152 then some 9
  else if !fits (w 10) 0x1FFFF || w 10 > 65536 then some 10
  else if w 11 != 0 then some 11
  else none

/-- Some minimum lies above its maximum (R294). -/
def quotaOrder (q : List Word) : Bool := [1, 2, 3, 4, 5, 6, 9].any fun k => decide (quotaMin q k > quotaMax q k)

/-- The lowest pool that cannot hold a record's reservations for instance i (R296). -/
def State.poolShort (s : State) (i : Nat) (q : List Word) (withSpace : Bool) : Option Nat :=
  [1, 2, 3, 4, 5, 6, 7, 8, 9].find? fun k =>
    if k = 7 then withSpace && (s.findRange (quotaMin q 7)).isNone
    else
      decide (s.minOthers i k + quotaMin q k > poolMinLimit k)
        || (k != 4 && k != 8 && decide (s.heldOthers i k + (if i = 0 then 0 else max (quotaMin q k) (s.poolUse i k))
              + (s.poolUse 0 k - (if k = 1 then 4096 else if k = 5 then 16384 else 0)) > poolTotal k))

/-- The usage record of instance i (R292). -/
def State.usage (s : State) (i : Nat) : List Word :=
  let u := fun k => s.poolUse i k
  results [u 1, u 2 * 2 ^ 16 + u 3, 0, u 4, u 6 * 2 ^ 16, u 7 % 2 ^ 22, u 8, 0, u 9, 0, u 5, 0]

/-- An instance is bound to its function (R145, R277, R298, R305): it exists, is not being destroyed, and its VF is there. -/
def State.bound (s : State) (i : Nat) : Bool := i = 0 || ((s.inst i).state != 0 && (s.inst i).state != 5 && s.bindOk i)

/-- The result words of INS_QUERY (R298). -/
def State.instRecord (s : State) (i : Nat) : List Word :=
  let v := s.inst i
  results [v.gen * 2 ^ 16 + v.state * 2 ^ 11 + i, b2n (s.bound i) * 2 ^ 16 + v.adminQid, v.stale, 0] ++ v.quota ++ s.usage i

end Sys2Proof.Machine
end

