-- ==== Sys2Proof/Machine/OpsPrs.lean ====
section
/-! DEFINITION. The parser (R358 to R368) and the classifier's keys, matching and hashes (R365, R370, R380 to R383). -/

namespace Sys2Proof.Machine

/-! ## Parse graph -/

/-- Word i of node n of a bank. -/
def PrsBank.node (b : PrsBank) (n i : Nat) : Nat := wd (lookupD b.nodes n []) i

/-- Node n of a bank is valid. -/
def PrsBank.nodeOk (b : PrsBank) (n : Nat) : Bool := n < 254 && bitAt (b.node n 0) 31

/-- Valid nodes of a bank. -/
def PrsBank.count (b : PrsBank) : Nat := (numsWhere 254 b.nodeOk).length

/-- Word i of key profile n of a bank. -/
def PrsBank.profile (b : PrsBank) (n : Nat) : List Word := lookupD b.profiles n (List.replicate 16 0#32)

/-- Byte i of the parse view: bytes beyond the frame or beyond byte 255 read 0. -/
def viewByte (v : List Byte) (i : Nat) : Nat := if i < 256 then (v.getD i 0#8).toNat else 0

/-- Bytes of the parse view. -/
def viewBytes (v : List Byte) (o k : Nat) : List Byte := (List.range k).map fun i => BitVec.ofNat 8 (viewByte v (o + i))

/-- Length of the header of node n at offset o (R359). -/
def PrsBank.hdrLen (b : PrsBank) (n : Nat) (v : List Byte) (o : Nat) : Nat :=
  let w := b.node n 1
  field w 31 24 + ((((viewByte v (o + field w 23 16)) &&& field w 15 8) >>> field w 7 5) <<< field w 1 0)

/-- The node after node n for the header at offset o (R359). -/
def PrsBank.nextNode (b : PrsBank) (n : Nat) (v : List Byte) (o : Nat) : Nat :=
  let w2 := b.node n 2
  let sel := beNat (viewBytes v (o + field w2 31 24) 2) &&& field w2 15 0
  let hit := (List.range 16).find? fun t =>
    let w := b.node n (3 + t)
    bitAt w 0 && field w 31 16 = sel
  match hit with
  | some t => if field w2 15 0 = 0 then field (b.node n 0) 7 0 else field (b.node n (3 + t)) 15 8
  | none => field (b.node n 0) 7 0

/-- The parse in progress. -/
structure ParseRun where
  info : ParseInfo := {}
  inner : Bool := false
  /-- the node and the offset at which it ended -/
  node : Nat := 0
  off : Nat := 0
  /-- the L4 header to be summed: kind, offset, whether the L3 reference is the inner one -/
  l4 : Option (Nat × Nat × Bool) := none
  deriving DecidableEq, Repr

/-- A reference is filled by the first header that may fill it (R363). -/
def fillRef (r : List (Option Nat)) (k o : Nat) : List (Option Nat) :=
  match r.getD k none with
  | some _ => r
  | none => r.set k (some o)

/-- The reference that a layer fills on a side. -/
def refOf (layer : Nat) (inner : Bool) : Option Nat :=
  match layer with
  | 0 => some (if inner then 4 else 0)
  | 1 => some (if inner then 5 else 1)
  | 2 => some (if inner then 6 else 2)
  | 3 => some 3
  | _ => none

/-- The place of a reference among the kinds that R364 reports. -/
def kindSlot (r : Nat) : Option Nat :=
  match r with
  | 1 => some 0
  | 5 => some 1
  | 2 => some 2
  | 6 => some 3
  | _ => none

/-- A header of node n, length len, at offset o is recorded (R360, R363). -/
def ParseRun.take (p : ParseRun) (b : PrsBank) (n o len : Nat) (v : List Byte) : ParseRun :=
  let w0 := b.node n 0
  let kind := field w0 23 20
  let i := p.info
  let r := refOf (field w0 26 24) p.inner
  let fresh := match r with
    | some k => (i.refs.getD k none).isNone
    | none => false
  let refs := match r with
    | some k => fillRef i.refs k o
    | none => i.refs
  let kinds := match r.bind kindSlot with
    | some s => if fresh then i.kinds.set s kind else i.kinds
    | none => i.kinds
  { p with
    l4 := if kind = 3 || kind = 4 then some (kind, o, p.inner) else p.l4
    info := { i with
      refs := refs.set 7 (some (o + len)), kinds := kinds, hdrCount := i.hdrCount + 1,
      l3Ok := if kind = 1 then sum16 (viewBytes v o len) == 0xFFFF else i.l3Ok,
      fragment := i.fragment || (kind == 1 && (beNat (viewBytes v (o + 6) 2) &&& 0x3FFF) != 0),
      keyRef := if kind = 5 && i.keyRef.isNone then some o else i.keyRef } }

/-- The parse fails with a code (R361). -/
def ParseRun.fail (p : ParseRun) (code n o : Nat) : ParseRun := { p with info := { p.info with failCode := code }, node := n, off := o }

/-- The parse from node n at offset o of a frame of len bytes (R359 to R363). -/
def parseFrom (b : PrsBank) (v : List Byte) (len : Nat) (p : ParseRun) (n o : Nat) : Nat → ParseRun
  | 0 => p.fail 4 n o
  | fuel + 1 =>
    if p.info.hdrCount = 16 then p.fail 4 n o
    else
      let h := b.hdrLen n v o
      let kind := field (b.node n 0) 23 20
      let ver := viewByte v o / 16
      if o + h > 256 then p.fail 2 n o
      else if o + h > len then p.fail 3 n o
      else if h = 0 then p.fail 5 n o
      else if (kind = 1 && (ver != 4 || h < 20)) || (kind = 2 && ver != 6) then p.fail 6 n o
      else
        let q := p.take b n o h v
        let ts := bitAt (b.node n 0) 30
        if ts && q.info.tunnel then { q with info := { q.info with nested := true } }
        else
          let q := if ts then { q with inner := true, info := { q.info with tunnel := true } } else q
          if kind = 1 && (beNat (viewBytes v (o + 6) 2) &&& 0x3FFF) != 0 then q
          else
            let nx := b.nextNode n v o
            if nx = 0xFF then q
            else if b.nodeOk nx then parseFrom b v len q nx (o + h) fuel
            else q.fail 1 n o

/-- The L4 checksum of the innermost TCP or UDP header over the whole frame, with the pseudo-header of its L3 reference (R360). -/
def l4Good (data : List Byte) (p : ParseRun) : Bool :=
  match p.l4 with
  | none => false
  | some (kind, o, inner) =>
    let l3 := p.info.refs.getD (if inner then 5 else 1) none
    let k3 := p.info.kinds.getD (if inner then 1 else 0) 0
    match l3 with
    | none => false
    | some a =>
      let v6 := k3 == 2
      let stop := if v6 then a + 40 + beNat (slice data (a + 4) 2) else a + beNat (slice data (a + 2) 2)
      let n := stop - o
      let proto := if kind = 3 then 6 else 17
      let pseudo := if v6 then slice data (a + 8) 32 ++ beBytes 4 n ++ beBytes 4 proto
        else slice data (a + 12) 8 ++ beBytes 2 proto ++ beBytes 2 n
      if k3 = 1 && kind = 4 && beNat (slice data (o + 6) 2) = 0 then true
      else (k3 = 1 || v6) && stop ≤ data.length && sum16 (pseudo ++ slice data o n) == 0xFFFF

/-- The parse of a frame under a bank from a start-table source (R359 to R366). -/
def runParse (b : PrsBank) (source : Nat) (data : List Byte) : ParseRun :=
  let st := wd b.start source
  let p : ParseRun := {}
  if !bitAt st 31 || !b.nodeOk (field st 7 0) then p.fail 1 (field st 7 0) 0
  else
    let q := parseFrom b (data.take 256) data.length p (field st 7 0) 0 18
    { q with info := { q.info with l4Ok := l4Good data q } }

/-! ## Keys -/

/-- The first tag of a kind. -/
def tagTci (ts : List Tag) (isS : Bool) : Option Nat := (ts.find? fun t => t.isS == isS).map (·.tci)

/-- The metadata block (R364); inst is bytes 16 and 17. -/
def metaBlock (source inst : Nat) (i : ParseInfo) : List Byte :=
  let refs := (List.range 8).foldl (fun n r => n + b2n (i.refs.getD r none).isSome * 2 ^ r) 0
  let flags := b2n i.tunnel + b2n i.nested * 2 + b2n i.fragment * 4 + b2n i.l3Ok * 8 + b2n (tagTci i.tags false).isSome * 16
    + b2n (tagTci i.tags true).isSome * 32 + b2n (i.failCode != 0) * 64
  beBytes 2 source ++ beBytes 1 refs ++ beBytes 1 flags ++ beBytes 2 ((tagTci i.tags false).getD 0)
    ++ beBytes 2 ((tagTci i.tags true).getD 0) ++ beBytes 1 i.hdrCount ++ i.kinds.map (BitVec.ofNat 8)
    ++ beBytes 1 i.failCode ++ beBytes 2 i.length ++ beBytes 2 inst ++ List.replicate 14 0#8

/-- The bytes that a descriptor copies (R365). -/
def descBytes (d : Nat) (view md : List Byte) (i : ParseInfo) : List Byte :=
  let o := field d 23 16
  let w := field d 15 8
  if bitAt d 30 then slice md o w
  else match i.refs.getD (field d 29 27) none with
    | some r => viewBytes view (r + o) w
    | none => List.replicate w 0#8

/-- The key that a profile builds (R365). -/
def buildKey (profile : List Word) (view md : List Byte) (i : ParseInfo) : List Byte :=
  profile.foldl
    (fun key d =>
      let d := d.toNat
      if !bitAt d 31 then key
      else
        let bs := descBytes d view md i
        key.take (d % 256) ++ bs ++ key.drop (d % 256 + bs.length)) (List.replicate 64 0#8)

/-- The bank of a number: the active one, or an earlier one (R368). -/
def PrsSt.bank (v : PrsSt) (n : Nat) : PrsBank := if n = v.swaps then v.active else lookupD v.old n v.active

/-- A bank becomes the active one and its copy the shadow (R367); an earlier bank is kept while a frame that was parsed under it is in the
device (R368). -/
def State.swapBank (s : State) (b : PrsBank) : State :=
  let used := (s.heldPast ++ s.pgr.parked.map (·.pkt)).map (·.bank)
  let old := (insertKey s.prs.old s.prs.swaps s.prs.active).filter fun e => used.contains e.1
  { s with prs := { active := b, shadow := b, swaps := s.prs.swaps + 1, old := old } }

/-- The key of a frame under a profile of its bank (R365, R368). -/
def State.frameKey (s : State) (p : Pkt) (profile : Nat) : List Byte :=
  buildKey ((s.prs.bank p.bank).profile profile) p.data (metaBlock p.source p.inst p.info) p.info

/-! ## Rules -/

/-- A rule slot. -/
def State.rule (s : State) (k : Nat) : Option Rule := (lookup s.cls.rules k).filter (·.valid)

/-- A rule matches a key (R370). -/
def ruleHits (r : Rule) (profile : Nat) (key : List Word) : Bool :=
  r.profile == profile && (List.range 16).all fun i => (key.getD i 0 &&& r.mask.getD i 0) == r.key.getD i 0

/-- A failed parity check of a slot is recorded (R375, R723). -/
def State.ruleParity (s : State) (k : Nat) : State :=
  (((s.setReg R.CLS_PARITY_INFO (2 ^ 31 + k)).bump R.CLS_PARITY_ERRORS).raiseEs 258).faultElse 0x0B [k]

/-- The rule that a stage matches: highest priority, then lowest slot (R369, R370). -/
def State.classify (s : State) (stage owner profile : Nat) (key : List Byte) : Option (Nat × Rule) × State :=
  let ws := bytesWords key
  let cand := s.cls.rules.filter fun e => e.2.valid && e.2.stage = stage && (stage != 1 || e.2.owner = owner)
  let s := (cand.filter (·.2.parityBad)).foldl (fun s e => s.ruleParity e.1) s
  let hits := cand.filter fun e => !e.2.parityBad && ruleHits e.2 profile ws
  (hits.foldl (fun m e => match m with
    | none => some e
    | some b => if e.2.priority > b.2.priority then some e else some b) none, s)

/-! ## Hashes -/

/-- The classifier configuration of instance i. -/
def State.clsInst (s : State) (i : Nat) : ClsInst := lookupD s.cls.insts i {}

/-- s with the classifier configuration of instance i replaced. -/
def State.setClsInst (s : State) (i : Nat) (c : ClsInst) : State := { s with cls := { s.cls with insts := insertKey s.cls.insts i c } }

/-- One byte string compares greater than another. -/
def bytesGt : List Byte → List Byte → Bool
  | [], _ => false
  | _ :: _, [] => true
  | a :: s, b :: t => if a.toNat = b.toNat then bytesGt s t else a.toNat > b.toNat

/-- The hash input (R381). -/
def hashInput (fields : Nat) (view : List Byte) (i : ParseInfo) : List Byte :=
  let inner := bitAt fields 7 && i.tunnel
  let l3 := i.refs.getD (if inner then 5 else 1) none
  let k3 := i.kinds.getD (if inner then 1 else 0) 0
  let l4 := i.refs.getD (if inner then 6 else 2) none
  let k4 := i.kinds.getD (if inner then 3 else 2) 0
  let at3 := fun (o4 n4 o6 n6 : Nat) =>
    match l3 with
    | none => []
    | some a => if k3 = 1 then viewBytes view (a + o4) n4 else if k3 = 2 then viewBytes view (a + o6) n6 else []
  let at4 := fun (o : Nat) =>
    match l4 with
    | none => []
    | some a => if (k4 = 3 || k4 = 4) && !i.fragment then viewBytes view (a + o) 2 else []
  let sa := at3 12 4 8 16
  let da := at3 16 4 24 16
  let sp := at4 0
  let dp := at4 2
  let swap := bitAt fields 8 && bytesGt (sa ++ sp) (da ++ dp)
  let use := fun (b : Nat) (x : List Byte) => if bitAt fields b then x else []
  let flow := match l3 with
    | some a => if k3 = 2 then beBytes 3 (beNat (viewBytes view (a + 1) 3) % 2 ^ 20) else []
    | none => []
  let tkey := match i.keyRef with
    | some a => viewBytes view (a + 4) 3
    | none => []
  use 0 (if swap then da else sa) ++ use 1 (if swap then sa else da) ++ use 2 (at3 9 1 6 1) ++ use 3 (if swap then dp else sp)
    ++ use 4 (if swap then sp else dp) ++ use 5 flow ++ use 6 tkey

/-- The Toeplitz hash (R382). -/
def toeplitz (key input : List Byte) : Nat :=
  let bit := fun (bs : List Byte) (i : Nat) => ((bs.getD (i / 8) 0#8).toNat >>> (7 - i % 8)) % 2
  (List.range (input.length * 8)).foldl
    (fun h i =>
      if bit input i = 0 then h
      else h ^^^ (List.range 32).foldl (fun w k => w * 2 + bit key (i + k)) 0) 0

/-- The hash of a frame under an instance's configuration (R380 to R382). -/
def State.frameHash (s : State) (inst : Nat) (p : Pkt) : Nat :=
  let c := s.clsInst inst
  let input := hashInput (field c.w0 8 0) p.data p.info
  if input.isEmpty then 0
  else if bitAt c.w0 28 then (crc32cSeed (w32 c.seed) input).toNat
  else toeplitz c.toeplitz input

/-! ## Indirection tables (R383) -/

/-- Offset of the indirection entry e of instance i in the device-internal range: page i (log entry 31). -/
def indirOff (i e : Nat) : Nat := i * 4096 + e * 2

/-- Instance i's indirection table holds 0x8000 throughout and its spreading has its defaults (R379, R380, R383). -/
def State.clsCreate (s : State) (i : Nat) : State :=
  ((s.setClsInst i {}).ssWrite internalSsid (indirOff i 0) ((List.replicate 2048 [0x00#8, 0x80#8]).flatten)).2

/-! ## Exceptions (R378) -/

/-- The tokens of 1 us at a rate, in units of 1/65,536 packet (R378). -/
def excGain (rate : Nat) : Nat := (rate * 65536 * 2 + 10 ^ 6) / (2 * 10 ^ 6)

end Sys2Proof.Machine
end

