-- ==== Sys2Proof/Machine/OpsTbl.lean ====
section
/-! DEFINITION. The table engines: exact-match tables, the LPM trie, learning (R388 to R425). -/

namespace Sys2Proof.Machine

/-! ## Exact-match tables -/

/-- Table t; one not listed is Free. -/
def State.table (s : State) (t : Nat) : EmTable := lookupD s.tbl.tables t {}

/-- s with table t replaced. -/
def State.setTable (s : State) (t : Nat) (v : EmTable) : State := { s with tbl := { s.tbl with tables := insertKey s.tbl.tables t v } }

/-- s with table t Free. -/
def State.freeTable (s : State) (t : Nat) : State := { s with tbl := { s.tbl with tables := eraseKey s.tbl.tables t } }

/-- Fields of the parameter words (R388). -/
def EmTable.placement (t : EmTable) : Nat := field (wd t.words 1) 31 30

/-- key_class of a table. -/
def EmTable.keyClass (t : EmTable) : Nat := field (wd t.words 1) 29 28

/-- A scope 1 table. -/
def EmTable.scoped (t : EmTable) : Bool := bitAt (wd t.words 1) 27

/-- buckets_log2 of a table. -/
def EmTable.log2 (t : EmTable) : Nat := field (wd t.words 1) 20 16

/-- Bytes of a key of a class (R388). -/
def keyBytesOf (cls : Nat) : Nat := [8, 24, 56].getD cls 56

/-- Slot units of an entry of a class (R390). -/
def slotUnits (cls : Nat) : Nat := 2 ^ cls

/-- Capacity in entries. -/
def EmTable.capacity (t : EmTable) : Nat := 4 * 2 ^ t.log2

/-- Bytes of a bucket (R390). -/
def EmTable.bucketBytes (t : EmTable) : Nat := 64 * slotUnits t.keyClass

/-- 2 MiB units that a table of words ws takes in the device-internal range (R389, R390). -/
def tableUnits (ws : List Word) : Nat :=
  let t : EmTable := { words := ws }
  if t.placement = 0 then 0 else (2 ^ t.log2 * t.bucketBytes + 2 ^ 21 - 1) / 2 ^ 21

/-- A page belongs to a table of placement 1, whose pages keep their LPDDR5X homes (R389). -/
def State.firmPage (s : State) (key : Nat) : Bool :=
  let b := (s.rangeOf internalSsid).1
  s.tbl.tables.any fun e => e.2.state != .free && e.2.placement = 1 && decide ((b + e.2.base) * 512 ≤ key)
    && decide (key < (b + e.2.base + tableUnits e.2.words) * 512)

/-- A key cut to a table's class. -/
def EmTable.key (t : EmTable) (k : List Byte) : List Byte := slice k 0 (keyBytesOf t.keyClass)

/-- The two buckets of a key (R393). -/
def EmTable.buckets (t : EmTable) (iid : Nat) (key : List Byte) : Nat × Nat :=
  let input := (if t.scoped then beBytes 2 iid else []) ++ key
  let h := fun w => (crc32cSeed (w32 (wd t.words w)) input).toNat % 2 ^ t.log2
  (h 2, if h 2 = h 3 then h 2 ^^^ 1 else h 3)

/-- The indexes of a bucket's slots. -/
def bucketSlots (b : Nat) : List Nat := [4 * b, 4 * b + 1, 4 * b + 2, 4 * b + 3]

/-- An entry matches a key (R394). -/
def EmTable.hits (t : EmTable) (iid : Nat) (key : List Byte) (i : Nat) : Bool :=
  match lookup t.entries i with
  | some e => !e.parityBad && e.key == key && (!t.scoped || e.owner == iid)
  | none => false

/-- The index of a key's entry; of two copies that in b1 (R394, R400). -/
def EmTable.find (t : EmTable) (iid : Nat) (key : List Byte) : Option Nat :=
  let (a, b) := t.buckets iid key
  (bucketSlots a ++ bucketSlots b).find? (t.hits iid key)

/-- The other bucket of the entry at index i in bucket b (R399). -/
def EmTable.other (t : EmTable) (i b : Nat) : Option Nat :=
  match lookup t.entries i with
  | some e =>
    if e.parityBad then none
    else
      let (x, y) := t.buckets e.owner e.key
      some (if x = b then y else x)
  | none => none

/-- The search for a relocation path, breadth first (R399 step 3): the buckets to visit with the slots that lead to them, the buckets
seen, and the visits left. It answers the slots of the path, the free one last. -/
def EmTable.search (t : EmTable) (todo : List (Nat × List Nat)) (seen : List Nat) : Nat → Option (List Nat)
  | 0 => none
  | fuel + 1 =>
    match todo with
    | [] => none
    | (b, path) :: rest =>
      match (bucketSlots b).find? fun i => (lookup t.entries i).isNone with
      | some i => some (path ++ [i])
      | none =>
        if path.length ≥ 32 then t.search rest seen fuel
        else
          let next := (bucketSlots b).filterMap fun i => (t.other i b).map fun o => (o, path ++ [i])
          let (fresh, seen) := next.foldl
            (fun (a : List (Nat × List Nat) × List Nat) n => if a.2.contains n.1 then a else (a.1 ++ [n], n.1 :: a.2)) ([], seen)
          t.search (rest ++ fresh) seen fuel

/-- The moves of a path run from its free end backwards; the first slot of the path is then free (R399 step 5). -/
def EmTable.shift (t : EmTable) : List Nat → EmTable
  | a :: b :: rest =>
    let t := t.shift (b :: rest)
    match lookup t.entries a with
    | some e => { t with entries := insertKey (eraseKey t.entries a) b e }
    | none => t
  | _ => t

/-- Where an insert ends: the entry exists, no path, or the table with the entry, its index, the moves and whether it replaced one. -/
inductive Placed where
  | fault
  | full
  | at_ (t : EmTable) (index moves : Nat) (old : Option Nat) (path : List Nat)

/-- Placement of an entry (R399). -/
def EmTable.place (t : EmTable) (e : EmEntry) (replace : Bool) : Placed :=
  let (a, b) := t.buckets e.owner e.key
  match t.find e.owner e.key with
  | some i =>
    if replace then .at_ { t with entries := insertKey t.entries i e } i 0 (some ((lookup t.entries i).elim 0 (·.owner))) [i]
    else .fault
  | none =>
    match t.search [(a, []), (b, [])] [a, b] 2048 with
    | none => .full
    | some path =>
      let t := t.shift path
      let i := path.headD 0
      let n := path.length - 1
      .at_ { t with entries := insertKey t.entries i e, relocs := (t.relocs + n) % 2 ^ 32 } i n none path

/-- Words 0 and 1 of an entry (R391), with its parity. -/
def EmEntry.words (e : EmEntry) : List Word :=
  let w1 := 2 ^ 31 + e.port * 2 ^ 27 + e.owner * 2 ^ 16 + e.action
  let ones := fun (n : Nat) => (numsWhere 32 (bitAt n)).length
  let par := (ones e.statePage + ones w1 + (e.key.map fun b => ones b.toNat).foldl (· + ·) 0) % 2
  results [par * 2 ^ 31 + b2n e.hit * 2 ^ 30 + e.statePage, w1]

/-- The offset of the entry at index i in the device-internal range. -/
def EmTable.offset (t : EmTable) (i : Nat) : Nat := t.base * 2 ^ 21 + i / 4 * t.bucketBytes + i % 4 * 16 * slotUnits t.keyClass

/-- The page of bucket b, by number in the device-internal range (R397). -/
def EmTable.bucketPage (t : EmTable) (b : Nat) : Nat := (t.base * 2 ^ 21 + b * t.bucketBytes) / 4096

/-- The slot at index i of table t is written into its page, where the table has pages (R389, R391). Pages of placement 1 take
LPDDR5X homes. -/
def State.storeSlot (s : State) (t i : Nat) : State :=
  let v := s.table t
  if v.placement = 0 then s
  else
    let off := v.offset i
    let key := s.pageKey internalSsid (off / 4096)
    let s := if v.placement = 1 && (s.page key).home == .zero then
        let (h, s) := s.takeLpd
        match h with
        | some h => (s.setPage key { s.page key with home := h }).install key (List.replicate 4096 0#8) true
        | none => s
      else s
    let bs := match lookup v.entries i with
      | some e => wordsBytes e.words ++ e.key
      | none => List.replicate (16 * slotUnits v.keyClass) 0#8
    (s.ssWrite internalSsid off bs).2

/-- Valid entries of a table. -/
def EmTable.count (t : EmTable) : Nat := (t.entries.filter fun e => !e.2.parityBad).length

/-- A table's valid entries stand at load_warn_pct of its capacity, or above (R429). -/
def EmTable.loaded (t : EmTable) : Bool :=
  decide (t.count * 100 ≥ (if field (wd t.words 5) 7 0 = 0 then 90 else field (wd t.words 5) 7 0) * t.capacity)

/-- ES 278 when a Live table, which stood at before, has come to load_warn_pct of its capacity (R429). -/
def State.loadWarn (s : State) (t : Nat) (before : EmTable) : State :=
  if (s.table t).state == .live && (s.table t).loaded && !before.loaded then s.raiseEs 278 else s

/-- The capacity of pool 4 (R392). -/
def State.emCapacity (s : State) : Nat := (s.tbl.tables.filter fun t => t.2.state == .live).foldl (fun n t => n + t.2.capacity) 0

/-- An owner may be charged one more entry (R289, R407): none, or whether its own quota stands against it. -/
def State.emAllows (s : State) (i : Nat) : Option Bool :=
  let q := (s.inst i).quota
  let u := s.poolUse i 4 + 1
  if i != 0 && u > quotaMax q 4 then some true
  else if i != 0 && u ≤ quotaMin q 4 then none
  else if s.heldOthers i 4 + (if i = 0 then 0 else s.poolUse 0 4) + u ≤ s.emCapacity then none
  else some false

/-- A parity failure of an entry is recorded (R395, R723). -/
def State.emParity (s : State) (t i : Nat) : State :=
  ((((s.setReg R.TBL_PARITY_INFO (2 ^ 31 + t)).setReg R.TBL_PARITY_INDEX i).bump R.TBL_EM_PARITY).raiseEs 273).faultElse 0x0C [t, i]

/-- The hit bit of an entry is set (R391, R396). -/
def State.markHit (s : State) (t i : Nat) : State :=
  let v := s.table t
  match lookup v.entries i with
  | some e => if e.hit then s else (s.setTable t { v with entries := insertKey v.entries i { e with hit := true } }).storeSlot t i
  | none => s

/-- A lookup's outcome under the first key_bytes of a key (R393, R396): a hit with its index and entry, or a miss; its counts and its hit
bit apart. -/
def State.emFind (s : State) (t iid : Nat) (key : List Byte) : Option (Nat × EmEntry) × State :=
  let v := s.table t
  let key := v.key key
  if v.state != .live then (none, s)
  else
    let (a, b) := v.buckets iid key
    let bad := (bucketSlots a ++ bucketSlots b).filter fun i => (lookup v.entries i).any (·.parityBad)
    let s := bad.foldl (fun s i => s.emParity t i) s
    match v.find iid key with
    | none => (none, s)
    | some i => ((lookup v.entries i).map fun e => (i, e), s)

/-- A lookup whose counts and hit bit wait for nothing (R396). -/
def State.emLookup (s : State) (t iid : Nat) (key : List Byte) : Option (Nat × EmEntry) × State :=
  let (hit, s) := (s.bump R.TBL_EM_LOOKUPS).emFind t iid key
  match hit with
  | some (i, e) => (some (i, e), (s.bump R.TBL_EM_HITS).markHit t i)
  | none => (none, s)

/-! ## Longest-prefix match (R414 to R420) -/

/-- VRF v. -/
def State.vrf (s : State) (v : Nat) : Vrf := lookupD s.tbl.vrfs v {}

/-- s with VRF v replaced. -/
def State.setVrf (s : State) (v : Nat) (x : Vrf) : State := { s with tbl := { s.tbl with vrfs := insertKey s.tbl.vrfs v x } }

/-- The first n bits of two byte strings agree. -/
def bitsAgree (n : Nat) (a b : List Byte) : Bool :=
  let l := max a.length b.length * 8
  n = 0 || beNat (slice a 0 (l / 8)) >>> (l - n) == beNat (slice b 0 (l / 8)) >>> (l - n)

/-- Bits of an address beyond a prefix length are 0 (R417). -/
def hostBitsClear (len : Nat) (a : List Byte) : Bool := beNat a % 2 ^ (a.length * 8 - len) == 0

/-- The depth in bits of the node that holds a prefix of a length: strides of 16 and then 8 (R415). -/
def nodeDepth (len : Nat) : Nat := if len ≤ 16 then 0 else 16 + (len - 17) / 8 * 8

/-- Prefixes of a VRF and family. -/
def State.prefixCount (s : State) (vrf : Option Nat) (v6 : Bool) : Nat :=
  (s.tbl.prefixes.filter fun p => p.v6 == v6 && (vrf.isNone || vrf == some p.vrf)).length

/-- A lookup of an address (R416, R419): the route result, its counts apart. -/
def State.lpmFind (s : State) (vrf : Nat) (v6 : Bool) (addr : List Byte) : Nat × State :=
  let x := s.vrf vrf
  if !x.enable then (2 * 2 ^ 28, s)
  else
    let bad := s.tbl.badNodes.filter fun n => n.1 = vrf && n.2.1 == v6 && bitsAgree n.2.2.1 n.2.2.2 addr
    let cut := bad.foldl (fun m n => min m n.2.2.1) 1000
    let s := if bad.isEmpty then s
      else
        let s := ((s.setReg R.TBL_PARITY_INFO (2 ^ 31 + 2 ^ 30 + vrf)).setReg R.TBL_PARITY_INDEX 0).bump R.TBL_EM_PARITY
        (s.raiseEs 273).faultElse 0x0C [2 ^ 30 + vrf, 0]
    let hits := s.tbl.prefixes.filter fun p => p.vrf = vrf && p.v6 == v6 && nodeDepth p.length < cut && bitsAgree p.length p.address addr
    let best := hits.foldl (fun (m : Option Prefix) p => match m with
      | none => some p
      | some q => if p.length > q.length then some p else some q) none
    (match best with
      | some p => p.result
      | none => x.default, s)

/-- A lookup whose counts wait for nothing (R416). -/
def State.lpmLookup (s : State) (vrf : Nat) (v6 : Bool) (addr : List Byte) : Nat × State :=
  let s := s.bump R.TBL_LPM_LOOKUPS
  (if (s.vrf vrf).enable then s else s.bump R.TBL_LPM_VRF_OFF).lpmFind vrf v6 addr

/-- A prefix is the same as another. -/
def samePrefix (a b : Prefix) : Bool := a.vrf == b.vrf && a.v6 == b.v6 && a.length == b.length && a.address == b.address

/-- A prefix enters the store, replacing its equal (R417). -/
def State.addPrefix (s : State) (p : Prefix) : State :=
  ({ s with tbl := { s.tbl with prefixes := (s.tbl.prefixes.filter fun q => !samePrefix p q) ++ [p] } }).bump R.TBL_LPM_UPDATES

/-! ## Learning (R421 to R425) -/

/-- One learn record falls due on a table's ring (R206, R423). -/
def State.postLearn (s : State) (t : Nat) (body : List Word) : State :=
  match s.findQ 0 (s.table t).learn.ring with
  | some e => if (s.q e).type = 5 then s.postDue e 1 body else s
  | none => s

/-- The body of a learn record (R423). -/
def State.learnBody (s : State) (kind t port old iid : Nat) (key : List Byte) : List Word :=
  results [kind * 2 ^ 16 + t * 2 ^ 8 + port * 2 ^ 4 + old, (s.inst iid).gen * 2 ^ 16 + iid] ++ bytesWords (slice key 0 56)

/-- A table's learn bucket gives one token, or has none. -/
def State.learnToken (s : State) (t : Nat) : Bool × State :=
  let v := s.table t
  if v.learn.tokens = 0 then (false, s)
  else (true, s.setTable t { v with learn := { v.learn with tokens := v.learn.tokens - 1 } })

/-- A new or move record passes the filter and the rate bucket (R424). Whether holdoff_ms has passed since the report that the filter
holds is left open (log entry 33). -/
def State.learn (s : State) (t : Nat) (body : List Word) (digest : Nat) : State :=
  let slot := digest % 65536
  let (v, s) := s.draw
  if lookup s.tbl.filter slot == some (t, digest) && v % 2 = 1 then s.bump R.TBL_LEARN_SUPPRESSED
  else
    let (ok, s) := s.learnToken t
    if !ok then (s.bump R.TBL_LEARN_RATE_DROPS).raiseLimited 274
    else ((({ s with tbl := { s.tbl with filter := insertKey s.tbl.filter slot (t, digest) } }).postLearn t body).bump
      R.TBL_LEARN_POSTED)

/-- The ageing scan visits one entry (R425). -/
def State.ageVisit (s : State) (t : Nat) : State :=
  let v := s.table t
  let l := v.learn
  if v.state != .live || !l.enable || l.age = 0 then s
  else
    let on := { l with scan := (l.scan + 1) % v.capacity, waits := false }
    match lookup v.entries l.scan with
    | none => s.setTable t { v with learn := on }
    | some e =>
      if e.parityBad then s.setTable t { v with learn := on }
      else if e.hit then
        (s.setTable t { v with learn := on, entries := insertKey v.entries l.scan { e with hit := false } }).storeSlot t l.scan
      else if l.tokens = 0 then s.setTable t { v with learn := { l with waits := true } }
      else
        let s := s.setTable t { v with learn := { on with tokens := l.tokens - 1 } }
        (s.postLearn t (s.learnBody 0x22 t e.port 0xF e.owner e.key)).bump R.TBL_AGED_POSTED

end Sys2Proof.Machine
end

