-- ==== Sys2Proof/Machine/OpsSwx.lean ====
section
/-! DEFINITION. Switching: header edits, tunnels, policers (R438 to R451). -/

namespace Sys2Proof.Machine

/-! ## Tag stacks and edits -/

/-- A frame with its edits applied: bytes without the stack, the stack, and whether the bytes begin with an L2 header at offset 0 and
an L3 header at an offset, of a kind (1 IPv4, 2 IPv6, 0 other). -/
structure Edited where
  data : List Byte
  tags : List Tag
  hasL2 : Bool
  l3 : Option Nat
  kind : Nat
  deriving DecidableEq, Repr

/-- The bytes of a stack, outermost first, with an S-tag TPID (R441, R600). -/
def tagBytes (tpid : Nat) (ts : List Tag) : List Byte :=
  ts.flatMap fun t => beBytes 2 (if t.isS then tpid else 0x8100) ++ beBytes 2 t.tci

/-- Bytes with a stack written after the source MAC address. -/
def withTags (tpid : Nat) (ts : List Tag) (d : List Byte) : List Byte := if ts.isEmpty then d else d.take 12 ++ tagBytes tpid ts ++ d.drop 12

/-- A frame with its stack written after the source MAC address (R441). -/
def Edited.bytes (e : Edited) : List Byte := withTags 0x88A8 e.tags e.data

/-- Where DECAP cuts: reference 4, else reference 5, with a tunnel present (R444). -/
def decapCut (i : ParseInfo) : Option Nat :=
  match i.refs.getD 3 none with
  | none => none
  | some _ =>
    match i.refs.getD 4 none with
    | some a => some a
    | none => i.refs.getD 5 none

/-- DECAP (R444). -/
def doDecap (p : Pkt) (on : Bool) : Edited :=
  let i := p.info
  match if on then decapCut i else none with
  | some c =>
    { data := p.data.drop c, tags := [], hasL2 := (i.refs.getD 4 none).isSome, l3 := (i.refs.getD 5 none).map (· - c),
      kind := if (i.refs.getD 5 none).isSome then i.kinds.getD 1 0 else 0 }
  | none =>
    { data := p.data, tags := p.tags, hasL2 := (i.refs.getD 0 none).isSome || (i.refs.getD 1 none).isNone, l3 := i.refs.getD 1 none,
      kind := if (i.refs.getD 1 none).isSome then i.kinds.getD 0 0 else 0 }

/-- The bytes from o on replaced by bs. -/
def overwrite (d : List Byte) (o : Nat) (bs : List Byte) : List Byte := d.take o ++ bs ++ d.drop (o + bs.length)

/-- The IPv4 header checksum over a header whose checksum bytes are 0. -/
def ipSum (h : List Byte) : List Byte := beBytes 2 (0xFFFF - sum16 h)

/-- The TTL or hop limit is decremented, and the IPv4 header checksum corrected (R445). -/
def decTtl (d : List Byte) (o kind : Nat) : List Byte :=
  if kind = 1 then
    let d := overwrite d (o + 8) (beBytes 1 ((slice d (o + 8) 1).headD 0 - 1#8).toNat)
    let n := (slice d o 1).headD 0#8 |>.toNat
    let d := overwrite d (o + 10) [0, 0]
    overwrite d (o + 10) (ipSum (slice d o (n % 16 * 4)))
  else if kind = 2 then overwrite d (o + 7) (beBytes 1 ((slice d (o + 7) 1).headD 0 - 1#8).toNat)
  else d

/-- ROUTE (R445): the addresses are set, an L2 header written where there is none. -/
def doRoute (e : Edited) (macs : List Byte) : Edited :=
  let d := match e.l3 with
    | some o => decTtl e.data o e.kind
    | none => e.data
  if e.hasL2 then { e with data := overwrite d 0 macs }
  else { e with
    data := macs ++ beBytes 2 (if e.kind = 2 then 0x86DD else 0x0800) ++ d, hasL2 := true, l3 := e.l3.map (· + 14) }

/-- A tag edit (R433, R440); none where a push finds two tags. -/
def doTag (ts : List Tag) (op : TagEdit) : Option (List Tag) :=
  match op, ts with
  | .push t, ts => if ts.length ≥ 2 then none else some (t :: ts)
  | .set _ _ _, [] => some []
  | .dei, [] => some []
  | .dei, t :: rest => some ({ t with tci := putField t.tci 12 12 1 } :: rest)
  | .set pcp vid tci, t :: rest =>
    let a := if pcp then putField t.tci 15 12 (field tci 15 12) else t.tci
    let b := if vid then putField a 11 0 (field tci 11 0) else a
    some ({ t with tci := b } :: rest)

/-- The edits before ENCAP, in the order of R446; none where a tag edit fails. -/
def preEncap (p : Pkt) : Option Edited :=
  let e := doDecap p p.edits.decap
  if p.edits.pops > e.tags.length then none
  else
    let e := { e with tags := e.tags.drop p.edits.pops }
    let e := match p.edits.route with
      | some m => doRoute e m
      | none => e
    (p.edits.tagOps.foldl (fun (ts : Option (List Tag)) op => ts.bind fun ts => doTag ts op) (some e.tags)).map fun ts =>
      { e with tags := ts }

/-! ## Tunnels (R442, R443) -/

/-- The tunnel header of a profile that stands after the outer UDP header, or after the outer IP header for GRE. -/
def tunnelHeader (w : List Word) (key : Option Nat) (proto : Nat) : List Byte :=
  let w1 := wd w 0
  let k := key.getD (wd w 2)
  match field w1 31 28 with
  | 1 => [0x08#8, 0, 0, 0] ++ beBytes 3 k ++ [0]
  | 2 =>
    let n := field (wd w 24) 3 0
    beBytes 1 n ++ [0] ++ beBytes 2 0x6558 ++ beBytes 3 k ++ [0] ++ slice (wordsBytes ((w.drop 16).take 8)) 0 (4 * n)
  | 3 => if bitAt w1 9 then [0x20#8, 0] ++ beBytes 2 proto ++ beBytes 4 k else [0, 0] ++ beBytes 2 proto
  | _ =>
    let two := bitAt w1 8
    let label := fun (lab tc bottom : Nat) => beBytes 4 (lab * 2 ^ 12 + tc * 2 ^ 9 + bottom * 2 ^ 8 + field w1 23 16)
    let lab := match key with
      | some k => k % 2 ^ 20
      | none => field (wd w 2) 31 12
    label lab (field (wd w 2) 11 9) (if two then 0 else 1)
      ++ (if two then label (field (wd w 3) 31 12) (field (wd w 3) 11 9) 1 else [])

/-- The destination port of a profile's type (R442). -/
def tunnelPort (w : List Word) : Nat :=
  let p := field (wd w 1) 31 16
  if p != 0 then p
  else match field (wd w 0) 31 28 with
    | 1 => 4789
    | 2 => 6081
    | _ => 6635

/-- The outer headers of a profile before a payload (R443); free fills what R443 leaves open: identification, ECN and flow label. -/
def outerHeaders (w : List Word) (key : Option Nat) (payload : List Byte) (proto dscp hash free : Nat) : List Byte :=
  let w1 := wd w 0
  let gre := field w1 31 28 = 3
  let th := tunnelHeader w key proto
  let sport := if bitAt w1 24 then field (wd w 1) 15 0 else 0xC000 + hash % 2 ^ 14
  let udp := if gre then [] else beBytes 2 sport ++ beBytes 2 (tunnelPort w) ++ beBytes 2 (8 + th.length + payload.length) ++ [0, 0]
  let n := udp.length + th.length + payload.length
  let d := if bitAt w1 25 then dscp else field w1 15 10
  let tos := d * 4 + free / 2 ^ 16 % 4
  let ipProto := if gre then 47 else 17
  let src := wordsBytes ((w.drop 4).take 4)
  let dst := wordsBytes ((w.drop 8).take 4)
  let ip := if bitAt w1 27 then
      beBytes 4 (6 * 2 ^ 28 + tos * 2 ^ 20 + free / 2 ^ 18 % 2 ^ 20) ++ beBytes 2 n ++ beBytes 1 ipProto ++ beBytes 1 (field w1 23 16)
        ++ src ++ dst
    else
      let h := [0x45#8] ++ beBytes 1 tos ++ beBytes 2 (20 + n) ++ beBytes 2 free ++ beBytes 2 (b2n (bitAt w1 26) * 0x4000)
        ++ beBytes 1 (field w1 23 16) ++ beBytes 1 ipProto ++ [0, 0] ++ src.take 4 ++ dst.take 4
      overwrite h 10 (ipSum h)
  wordsBytes ((w.drop 12).take 3) ++ beBytes 2 (if bitAt w1 27 then 0x86DD else 0x0800) ++ ip ++ udp ++ th

/-- The DSCP of a frame's L3 header. -/
def Edited.dscp (e : Edited) : Nat :=
  match e.l3 with
  | some o =>
    if e.kind = 1 then beNat (slice e.data (o + 1) 1) / 4
    else if e.kind = 2 then beNat (slice e.data o 2) / 64 % 64 else 0
  | none => 0

/-- ENCAP under a profile's words 1 to 25 (R443); none for a frame that its type cannot carry. -/
def doEncap (w : List Word) (key : Option Nat) (hash free : Nat) (e : Edited) : Option Edited :=
  let type := field (wd w 0) 31 28
  let ip := e.kind = 1 || e.kind = 2
  let proto := if e.hasL2 then 0x6558 else if e.kind = 2 then 0x86DD else 0x0800
  let payload : Option (List Byte) :=
    if type = 0 then none
    else if type = 4 then (if ip then some (e.data.drop (e.l3.getD 0)) else none)
    else if e.hasL2 then some e.bytes
    else if type = 3 && ip then some e.data else none
  payload.map fun pl =>
    { data := outerHeaders w key pl proto e.dscp hash free ++ pl, hasL2 := true, l3 := some 14,
      tags := if bitAt (wd w 0) 7 then [{ isS := false, tci := field (wd w 15) 15 0 }] else [],
      kind := if bitAt (wd w 0) 27 then 2 else 1 }

/-- A frame with all its edits (R446); none where an edit fails. -/
def State.edited (s : State) (p : Pkt) : Option Edited × State :=
  match p.edits.encap with
  | none => (preEncap p, s)
  | some (words, key) =>
    let (v, s) := s.draw
    ((preEncap p).bind fun e => doEncap words key p.hash v e, s)

/-- ENCAP under a profile (R442, R443). -/
def State.encapOf (s : State) (prof : Nat) (key : Option Nat) : Option (List Word × Option Nat) :=
  some (lookupD s.swx.tunnels prof [], key)

/-- Length without FCS of a frame with the edits recorded so far (R450). -/
def State.editedLen (s : State) (p : Pkt) : Nat :=
  match (s.edited p).1 with
  | some e => e.bytes.length
  | none => p.data.length + 4 * p.tags.length

/-! ## Policers (R450, R451) -/

/-- Bytes in the unit of a policer's buckets. -/
def polUnit : Nat := 31250000

/-- A frame of n bytes is metered: colour 0 green, 1 yellow, 2 red, and what it takes from the committed and the peak bucket. -/
def Policer.meter (v : Policer) (n : Nat) : Nat × Nat × Nat :=
  let b := (Int.ofNat n + v.overhead).toNat * polUnit
  if v.p < b then (2, 0, 0) else if v.c < b then (1, 0, b) else (0, b, b)

/-- One refill of 256 ns (R450): the rates that were set last apply from here. -/
def Policer.refill (v : Policer) : Policer :=
  { v with
    cir := v.nextCir, pir := v.nextPir, c := min (v.c + v.nextCir * 1000) (v.cbs * polUnit),
    p := min (v.p + v.nextPir * 1000) (v.pbs * polUnit) }

/-- A colour is counted. -/
def Policer.count (v : Policer) (colour : Nat) : Policer :=
  match colour with
  | 0 => { v with green := satAdd 32 v.green 1 }
  | 1 => { v with yellows := satAdd 32 v.yellows 1 }
  | _ => { v with reds := satAdd 32 v.reds 1 }

/-- s with policer k replaced. -/
def State.setPolicer (s : State) (k : Nat) (v : Policer) : State := { s with swx := { s.swx with policers := insertKey s.swx.policers k v } }

/-- What waited for a good FCS is committed (R35, R451). -/
def State.commit (s : State) (c : Commit) : State :=
  match c with
  | .reg r es => match es with
    | some e => (s.bump r).raiseLimited e
    | none => s.bump r
  | .drop owner => { s with swx := { s.swx with drops := insertKey s.swx.drops owner (lookupD s.swx.drops owner 0 + 1) } }
  | .hit t i => s.markHit t i
  | .excToken _ => s
  | .excDrop i => ((s.setClsInst i { s.clsInst i with drops := satAdd 32 (s.clsInst i).drops 1 }).bump R.CLS_EXC_DROPS).raiseLimited 259
  | .parseFail w => if s.rfb F.PRS_FAIL_INFO_valid then s else (s.setReg R.PRS_FAIL_INFO w).raiseEs 257
  | .count k bytes =>
    let (a, b) := lookupD s.swx.counters k (0, 0)
    { s with swx := { s.swx with counters := insertKey s.swx.counters k ((a + 1) % 2 ^ 64, (b + bytes) % 2 ^ 64) } }
  | .learn t ws d => s.learn t ws d
  | .colour k col _ _ =>
    match lookup s.swx.policers k with
    | some v => s.setPolicer k (v.count col)
    | none => s

/-- What waited for the FCS of a frame that failed it: tokens return to their buckets (R35, R378, R451). -/
def State.uncommit (s : State) (c : Commit) : State :=
  match c with
  | .colour k _ a b =>
    match lookup s.swx.policers k with
    | some v => s.setPolicer k { v with c := min (v.c + a) (v.cbs * polUnit), p := min (v.p + b) (v.pbs * polUnit) }
    | none => s
  | .excToken i => s.setClsInst i { s.clsInst i with tokens := min ((s.clsInst i).tokens + 65536) ((s.clsInst i).burst * 65536) }
  | _ => s

/-- The FCS result of a frame, where it is known; a frame that came from no line port needs none. -/
def State.fcsOf (s : State) (p : Pkt) : Option Bool := if p.frame = 0 then some true else lookup s.pipe.fcs p.frame

/-- Something is committed now, or when the frame's FCS is known. -/
def State.commitFor (s : State) (p : Pkt) (c : Commit) : State :=
  match s.fcsOf p with
  | some true => s.commit c
  | some false => s.uncommit c
  | none => { s with pipe := { s.pipe with commits := s.pipe.commits ++ [(p.frame, c)] } }

/-- A frame counts in a register, which may raise an event, once its FCS is good (R35). -/
def State.bumpFor (s : State) (p : Pkt) (r : Nat) (event : Option Nat := none) : State := s.commitFor p (.reg r event)

/-- The parser's counters and its fault record for a frame (R385). -/
def State.countParse (s : State) (p : Pkt) (source : Nat) (r : ParseRun) : State :=
  let s := s.bumpFor p R.PRS_PACKETS
  let s := if r.info.nested then s.bumpFor p R.PRS_NESTED else s
  let s := if r.info.fragment then s.bumpFor p R.PRS_FRAGMENTS else s
  let c := r.info.failCode
  if c = 0 then s
  else ((s.bumpFor p R.PRS_FAILS).bumpFor p (R.PRS_FAIL_CODE c)).commitFor p
    (.parseFail (2 ^ 31 + c * 2 ^ 24 + source * 2 ^ 16 + r.node * 2 ^ 8 + r.off % 256))

/-- A frame that reaches an instance's exception policer passes and takes a token, or is dropped and counted (R378). -/
def State.excPass (s : State) (p : Pkt) (i : Nat) : Bool × State :=
  let c := s.clsInst i
  if c.tokens ≥ 65536 then (true, (s.setClsInst i { c with tokens := c.tokens - 65536 }).commitFor p (.excToken i))
  else (false, s.commitFor p (.excDrop i))

end Sys2Proof.Machine
end

