-- ==== Sys2Proof/Machine/OpsFrs.lean ====
section
/-! DEFINITION. Fresnel: leaves, choices, shapers, gates, telemetry, and what the line MAC does to a frame that starts (R559 to R588,
R600, R601, R624 to R628). -/

namespace Sys2Proof.Machine

/-! ## Nodes -/

/-- Node n. -/
def State.node (s : State) (n : Nat) : Option Node := lookup s.frs.nodes n

/-- s with node n replaced. -/
def State.setNode (s : State) (n : Nat) (v : Node) : State := { s with frs := { s.frs with nodes := insertKey s.frs.nodes n v } }

/-- The children of node n, by number. -/
def nodeChildren (m : NMap Node) (n : Nat) : NMap Node := m.filter fun e => e.2.kind != 0 && e.2.parent = n

/-- The default leaf of a port (R564). -/
def State.portDefault (s : State) (port : Nat) : Option Nat := (s.frs.nodes.find? fun e => e.2.portDefault && e.2.port = port).map (·.1)

/-- The leaf that a frame enters (R563): named by its action, by its transmit queue, by its source instance, or its port's default. -/
def State.leafFor (s : State) (p : Pkt) (port leaf : Nat) : Option Nat × State :=
  let queue := match p.tx with
    | some x => (s.q x.q).coalCount
    | none => 0
  let inst := if p.source = 12 then lookupD s.frs.instDefault p.inst 0 else 0
  let named := if leaf != 0 then leaf else if p.leaf != 0 then p.leaf else if queue != 0 then queue else inst
  if named = 0 then (s.portDefault port, s)
  else match s.node named with
    | some n => if n.kind = 2 && n.port = port && !n.closing then (some named, s) else (s.portDefault port, s.bump R.FRS_LEAF_MISMATCH)
    | none => (s.portDefault port, s.bump R.FRS_LEAF_MISMATCH)

/-- A drop at a leaf is counted for the subscriptions that watch it (R587). -/
def State.leafStat (s : State) (leaf : Nat) (f : LeafStat → LeafStat) : State :=
  { s with frs := { s.frs with subs := s.frs.subs.map fun e =>
    if e.2.first ≤ leaf && leaf < e.2.first + e.2.count
    then (e.1, { e.2 with stats := insertKey e.2.stats leaf (f (lookupD e.2.stats leaf {})) }) else e } }

/-- A frame as egress stage 4 left it enters its leaf, or is dropped for the leaf's depth (R563, R565). -/
def State.enterLeaf (s : State) (p : Pkt) (port leaf : Nat) : State :=
  let (l, s) := s.leafFor p port leaf
  match l with
  | none => (s.bump R.FRS_LEAF_DROPS).dropPkt p 0x1100
  | some l =>
    match s.node l with
    | none => (s.bump R.FRS_LEAF_DROPS).dropPkt p 0x1100
    | some n =>
      let len := p.data.length
      if p.tx.isNone && n.bytes + len > n.maxBytes then
        ((((s.bump R.FRS_LEAF_DROPS).leafStat l fun x => { x with dropped := x.dropped + 1 }).raiseLimited 403).dropPkt p 0x1100)
      else s.setNode l { n with frames := n.frames ++ [{ pkt := p, entered := s.now }], bytes := n.bytes + len }

/-! ## Gates (R572 to R579) -/

/-- The gates of a port. -/
def State.gates (s : State) (p : Nat) : Gates := lookupD s.frs.gates p {}

/-- s with the gates of a port replaced, and its status register with them. -/
def State.setGates (s : State) (p : Nat) (g : Gates) : State :=
  ({ s with frs := { s.frs with gates := insertKey s.frs.gates p g } }).setReg (R.FRS_GCL_STATUS p)
    (b2n g.oper.enable * 2 ^ 31 + b2n g.pending.isSome * 2 ^ 30 + b2n g.claimed * 2 ^ 29 + g.oper.entries.length * 2 ^ 16 + g.entry)

/-- Device time in 1/256 ns. -/
def State.now256 (s : State) : Nat := s.now / 2 ^ 24

/-- The starts of a list's entries within its cycle, those past the cycle's end cut away (R574). -/
def Gcl.starts (g : Gcl) : List Nat :=
  ((g.entries.foldl (fun (a : List Nat × Nat) e => (a.1 ++ [a.2], a.2 + e.2)) ([], 0)).1).filter (decide <| · < max g.cycle 1)

/-- The entry that a list stands in at an instant (R574). -/
def Gcl.entryAt (g : Gcl) (t : Nat) : Nat :=
  let pos := (t - g.base) % max g.cycle 1
  (g.starts.filter (decide <| · ≤ pos)).length - 1

/-- The gates that a list gives at an instant; all open while it is disabled. -/
def Gcl.bitsAt (g : Gcl) (t : Nat) : Nat := if g.enable then (g.entries.getD (g.entryAt t) (255, 0)).1 else 255

/-- The gates of a port as its lists will run, a pending switch included (R574). -/
def Gates.bitsAt (g : Gates) (t : Nat) : Nat :=
  match g.pending with
  | some (n, sw) => if t ≥ sw then n.bitsAt t else g.oper.bitsAt t
  | none => g.oper.bitsAt t

/-- The instants in the two cycles after t at which a list may change its gates. -/
def Gcl.edges (g : Gcl) (t : Nat) : List Nat :=
  let n := (t - g.base) / max g.cycle 1
  [n, n + 1, n + 2].flatMap fun k => g.starts.map fun x => g.base + k * g.cycle + x

/-- The next instant at which the gate of class c closes; none where it does not (R574). -/
def Gates.closeAfter (g : Gates) (t c : Nat) : Option Nat :=
  let es := g.oper.edges t ++ (match g.pending with
    | some (n, sw) => sw :: n.edges (max t sw)
    | none => [])
  (es.filter fun x => t < x && !bitAt (g.bitsAt x) c).foldl (fun (m : Option Nat) x => match m with
    | none => some x
    | some y => some (min x y)) none

/-- The gate bits in force on a port, by the entry that it stands in. -/
def Gates.now (g : Gates) : Nat := if g.oper.enable then (g.oper.entries.getD g.entry (255, 0)).1 else 255

/-- The lengths of a list's entries within its cycle. -/
def Gcl.spans (g : Gcl) : List (Nat × Nat) :=
  let st := g.starts
  (List.range st.length).map fun k => ((g.entries.getD k (0, 0)).1, st.getD (k + 1) g.cycle - st.getD k 0)

/-- The longest continuous open time of class c over a list that repeats; none for one that never closes (R575). -/
def Gcl.longest (g : Gcl) (c : Nat) : Option Nat :=
  if !g.enable then none
  else
    let sp := g.spans ++ g.spans
    if sp.all fun x => bitAt x.1 c then none
    else some (sp.foldl (fun (a : Nat × Nat) x => if bitAt x.1 c then (a.1 + x.2, max a.2 (a.1 + x.2)) else (0, a.2)) (0, 0)).2

/-- A transmission of n counted bytes on a port fits in a time of d in 1/256 ns. -/
def State.fits256 (s : State) (port n d : Nat) : Bool := decide (n * 8 * 256 ≤ d * (s.portRate port * 100))

/-- Counted length of a frame: its length plus a signed overhead (R567). -/
def counted (len : Nat) (overhead : Int) : Nat := (Int.ofNat len + overhead).toNat

/-- The gate of a class is open and a head frame passes the guard band (R562, R574). -/
def State.gatePasses (s : State) (port c len : Nat) : Bool :=
  if port ≥ 8 then true
  else
    let g := s.gates port
    bitAt g.now c && (match g.closeAfter s.now256 c with
      | some x => s.fits256 port (counted len g.oper.overhead) (x - s.now256)
      | none => true)

/-! ## Shapers -/

/-- A shaper lets its node send (R568, R570). -/
def Node.shaped (n : Node) : Bool :=
  match n.shaper with
  | none => true
  | some sh => if sh.kind = 1 then decide (0 < n.tokens) else decide (0 ≤ n.tokens)

/-- A frame's start debits a node's shaper (R562, R568, R570); r is the port's full rate in
kb/s: at a reduced rate R596 scales the slope with it, and the quotient is the same. -/
def Node.debit (n : Node) (len r : Nat) : Node :=
  match n.shaper with
  | none => n
  | some sh =>
    let b := counted len sh.overhead
    if sh.kind = 1 then { n with tokens := n.tokens - b * 65536 }
    else { n with tokens := n.tokens - b * 10 ^ 9 * (r - sh.rate) / max r 1 }

/-- round(rate × 2.097152) units of 2^-16 byte (R568). -/
def epochGain (rate : Nat) : Nat := (rate * 2097152 + 500000) / 10 ^ 6

/-- One refill epoch of a node (R568 to R570); rising says that its credit may rise: no gate or pause holds it. num / den is its
port's rate as a part of the full rate, by which an idle slope is scaled (R596). -/
def Node.epoch (n : Node) (rising : Bool) (num den : Nat) : Node :=
  let (n, set) := match n.next with
    | none => (n, false)
    | some (none, _) => ({ n with shaper := none, next := none, tokens := 0 }, true)
    | some (some sh, reset) =>
      ({ n with shaper := some sh, next := none, tokens := if reset then (if sh.kind = 1 && !sh.empty then sh.bucket * 65536 else 0) else n.tokens },
        reset)
  match n.shaper with
  | none => n
  | some sh =>
    if set then n
    else if sh.kind = 1 then { n with tokens := min (n.tokens + epochGain sh.rate) (sh.bucket * 65536) }
    else if n.frames.isEmpty then
      { n with tokens := if 0 < n.tokens then 0 else min 0 (n.tokens + sh.rate * 32000 * num / max den 1) }
    else if rising then { n with tokens := min (n.tokens + sh.rate * 32000 * num / max den 1) (sh.bucket * 10 ^ 9) }
    else n

/-! ## Choosing (R561, R562) -/

/-- A frame may start on a port before its tail only where the port is no faster than the one that it came from (R601). -/
def State.tailOk (s : State) (port : Nat) (p : Pkt) : Bool :=
  (s.fcsOf p).isSome || (match p.inPort with
    | some q => decide (s.portRate port ≤ s.portRate q)
    | none => true)

/-- A leaf is eligible but for its ancestors (R562). -/
def State.leafOk (s : State) (port : Nat) (n : Node) : Bool :=
  match n.frames with
  | [] => false
  | f :: _ =>
    s.gatePasses port n.cls f.pkt.data.length && !(s.port port).stopped.contains n.cls && n.shaped && s.tailOk port f.pkt

/-- The leaf that node n would send from, the length of its head, and the nodes with the round that chose it; none where n is not
eligible. fuel bounds the depth, and rounds the visits of deficit round robin. -/
def State.pick (s : State) (port rounds : Nat) : Nat → NMap Node → Nat → Option (Nat × Nat × NMap Node)
  | 0, _, _ => none
  | fuel + 1, m, k =>
    match lookup m k with
    | none => none
    | some n =>
      if n.kind = 2 then (if s.leafOk port n then some (k, (n.frames.head?.elim 0 (·.pkt.data.length)), m) else none)
      else if !n.shaped then none
      else
        let kids := nodeChildren m k
        let strict := (List.range 4).findSome? fun slot =>
          (kids.find? fun e => !e.2.weighted && e.2.slot = slot).bind fun e => s.pick port rounds fuel m e.1
        match strict with
        | some r => some r
        | none =>
          let ring := (kids.filter (·.2.weighted)).map (·.1)
          let order := ring.filter (n.round ≤ ·) ++ ring.filter (· < n.round)
          let rec visit (m : NMap Node) (order : List Nat) (left : Nat) : Option (Nat × Nat × NMap Node) :=
            match left with
            | 0 => none
            | left + 1 =>
              match order with
              | [] => none
              | c :: rest =>
                match lookup m c, lookup m k with
                | some v, some par =>
                  match s.pick port rounds fuel m c with
                  | none => visit (insertKey m k { par with round := rest.headD c, given := false }) (rest ++ [c]) left
                  | some (leaf, len, m') =>
                    let d : Int := if par.given && par.round = c then v.deficit else v.deficit + (v.weight * 64 : Nat)
                    if d ≥ (len + 24 : Nat) then
                      let m' := modifyKey m' c fun x => { x with deficit := d - (len + 24 : Nat) }
                      some (leaf, len, modifyKey m' k fun x => { x with round := c, given := true })
                    else
                      let m := insertKey m c { v with deficit := d }
                      visit (insertKey m k { par with round := rest.headD c, given := false }) (rest ++ [c]) left
                | _, _ => none
          if ring.all fun c => (s.pick port rounds fuel m c).isNone then none else visit m order rounds

/-- The ancestors of a node, itself first. -/
def pathUp (m : NMap Node) : Nat → Nat → List Nat
  | 0, _ => []
  | fuel + 1, k =>
    match lookup m k with
    | none => []
    | some n => k :: (if n.kind = 0 then [] else pathUp m fuel n.parent)

/-- A node's subtree holds no frame. -/
def subtreeEmpty (m : NMap Node) : Nat → Nat → Bool
  | 0, _ => true
  | fuel + 1, k =>
    match lookup m k with
    | none => true
    | some n => if n.kind = 2 then n.frames.isEmpty else (nodeChildren m k).all fun e => subtreeEmpty m fuel e.1

/-- A frame has left node k: a child that empties loses its deficit, and a credit-based shaper its credit above 0 (R561, R570). -/
def emptied (m : NMap Node) (k : Nat) : NMap Node :=
  if !subtreeEmpty m 7 k then m
  else modifyKey m k fun x =>
    { x with deficit := 0, tokens := if x.kind = 2 && x.shaper.any (·.kind = 2) then min x.tokens 0 else x.tokens }

/-- The heads of a port's leaves that can never pass their gates are dropped (R575). -/
def State.dropOversizeGates (s : State) (port : Nat) : State :=
  if port ≥ 8 then s
  else
    let g := s.gates port
    s.frs.nodes.foldl
      (fun s e =>
        match e.2.frames with
        | [] => s
        | f :: rest =>
          let e := (e.1, (s.node e.1).getD e.2)
          let above := e.2.kind = 2 && e.2.port = port && (match g.open_.getD e.2.cls none with
            | some d => !s.fits256 port (counted f.pkt.data.length g.oper.overhead) d
            | none => false)
          if !above then s
          else
            let s := s.setNode e.1 { e.2 with frames := rest, bytes := e.2.bytes - f.pkt.data.length }
            let s := { s with frs := { s.frs with nodes := (pathUp s.frs.nodes 7 e.1).foldl emptied s.frs.nodes } }
            let s := ((s.bump R.FRS_GATE_OVERSIZE).leafStat e.1 fun x => { x with dropped := x.dropped + 1 }).raiseLimited 401
            s.dropPkt f.pkt 0x1110) s

/-- The heads that the guard band holds are counted once (R574). -/
def State.countHolds (s : State) (port : Nat) : State :=
  if port ≥ 8 then s
  else
    let g := s.gates port
    s.frs.nodes.foldl
      (fun s e =>
        match e.2.frames with
        | [] => s
        | f :: rest =>
          if e.2.kind = 2 && e.2.port = port && !f.held && bitAt g.now e.2.cls && !s.gatePasses port e.2.cls f.pkt.data.length then
            (s.setNode e.1 { e.2 with frames := { f with held := true } :: rest }).bump R.FRS_GUARD_HOLDS
          else s) s

/-- A root chooses: the frame that it starts and the leaf that it leaves, every shaper on its path debited (R561, R562). -/
def State.choose (s : State) (root : Nat) : Option (Nat × LeafFrame) × State :=
  let s := (s.dropOversizeGates root).countHolds root
  let rounds := (nodeChildren s.frs.nodes root).length * 200 + 100000
  match s.pick root rounds 7 s.frs.nodes root with
  | none => (none, s)
  | some (leaf, len, m) =>
    match lookup m leaf with
    | none => (none, s)
    | some n =>
      match n.frames with
      | [] => (none, s)
      | f :: rest =>
        let m := insertKey m leaf { n with frames := rest, bytes := n.bytes - len }
        let r := s.fullKbps root
        let m := (pathUp m 7 leaf).foldl (fun m k => emptied (modifyKey m k fun x => x.debit len r) k) m
        let ns := (s.now - f.entered) / 2 ^ 32
        let s := ({ s with frs := { s.frs with nodes := m } }).bump R.FRS_FRAMES
        let s := s.leafStat leaf fun x => { x with sent := x.sent + 1, maxSojourn := max x.maxSojourn (min ns (2 ^ 32 - 1)) }
        (some (leaf, f), s)

/-! ## Timestamps and the line MAC (R600, R607, R624 to R628) -/

/-- The instant of a timestamp point on a port with its delay applied, whether it is uncertain, and the delay (R624, R625). -/
def State.portStamp (s : State) (p : Nat) (tx : Bool) : Nat × Bool × Int :=
  let w := (s.port p).lanes.length
  let r := s.portRate p
  let d := s.liveDelay 1 p w r (if tx then 2 else 1)
  let un := s.timeUncertain || ((s.port p).degraded && (calRecord s.time.live 1 p w r).isNone)
  (timeAdd s.now (if tx then d else -d), un, d)

/-- A side record is made (R627): its index. -/
def State.sideRecord (s : State) (t source : Nat) (tx : Bool) (delay : Int) : Nat × State :=
  let k := s.time.sideNext
  let ws := results [timeSec t % 2 ^ 32, timeSec t / 2 ^ 32 * 2 ^ 16 + b2n tx * 2 ^ 15 + source * 2 ^ 8 + timeFrac t, timeNs t,
    (word32 delay)]
  (k, { (s.bump R.TIM_SIDE_RECORDS) with time := { s.time with side := insertKey s.time.side k ws, sideNext := (k + 1) % 65535 } })

/-- The side word of a completion (R626). -/
def sideWord (t source index : Nat) : Nat := timeFrac t * 2 ^ 24 + source * 2 ^ 16 + index

/-- Offset of the PTP header of an event message in a frame whose tags are removed (R628). -/
def ptpOffset (d : List Byte) : Option Nat :=
  let et := beNat (slice d 12 2)
  let at_ := fun o => if beNat (slice d (o + 1) 1) % 16 = 2 && beNat (slice d o 1) % 16 < 4 then some o else none
  if et = 0x88F7 then at_ 14
  else if et = 0x0800 && beNat (slice d 23 1) = 17 then
    let h := beNat (slice d 14 1) % 16 * 4
    if beNat (slice d (14 + h + 2) 2) = 319 then at_ (14 + h + 8) else none
  else if et = 0x86DD && beNat (slice d 20 1) = 17 then
    if beNat (slice d 56 2) = 319 then at_ 62 else none
  else none

/-- Bytes of the tags at the head of a frame as it stands on the line. -/
def lineTagBytes (d : List Byte) : Nat :=
  let isTag := fun o => let e := beNat (slice d o 2); e = 0x8100 || e = 0x88A8 || e = 0x9100
  if isTag 12 then (if isTag 16 then 8 else 4) else 0

/-- A Sync message on a port with one_step_sync carries its own timestamp (R628). -/
def State.oneStep (s : State) (p : Nat) (d : List Byte) (t : Nat) : List Byte × State :=
  let n := lineTagBytes d
  match ptpOffset (d.take 12 ++ d.drop (12 + n)) with
  | none => (d, s)
  | some o0 =>
    let o := o0 + n
    if !s.rfb (F.TIM_PORT_CFG_one_step_sync p) || beNat (slice d o 1) % 16 != 0 || bitAt (beNat (slice d (o + 6) 1)) 1 then (d, s)
    else
      let e := overwrite d (o + 34) (beBytes 6 (timeSec t) ++ beBytes 4 (timeNs t))
      let e := overwrite e (o + 8) (beBytes 8 ((beNat (slice d (o + 8) 8) + timeFrac t * 256) % 2 ^ 64))
      let e := if beNat (slice d (12 + n) 2) = 0x88F7 || beNat (slice d (o - 2) 2) = 0 then e
        else
          let body := fun (x : List Byte) => (if o % 2 = 0 then [] else [0#8]) ++ slice x o (x.length - o)
          let c := 0xFFFF - beNat (slice d (o - 2) 2)
          let m := sum16 (beBytes 2 c ++ beBytes 2 (0xFFFF - sum16 (body d)) ++ beBytes 2 (sum16 (body e)))
          overwrite e (o - 2) (beBytes 2 (if m = 0xFFFF then 0xFFFF else 0xFFFF - m))
      (e, s.bump R.TIM_ONE_STEP)

/-- The size counter of a frame of n bytes with its FCS (R607). -/
def sizeStat (n : Nat) : Nat :=
  if n ≤ 64 then 20 else if n ≤ 127 then 21 else if n ≤ 255 then 22 else if n ≤ 511 then 23 else if n ≤ 1023 then 24
  else if n ≤ 1518 then 25 else if n ≤ 2047 then 26 else if n ≤ 4095 then 27 else 28

/-- A good frame is counted at a port; base is 0 for reception and 32 for transmission (R607). -/
def State.countFrame (s : State) (p base : Nat) (line : List Byte) : State :=
  let n := line.length + 4
  let d := slice line 0 6
  let kind := if d == List.replicate 6 0xFF#8 then 9 else if (d.headD 0).getLsbD 0 then 8 else 7
  let tag := fun o => beNat (slice line o 2)
  let s := (((s.stat p base).statBy p (base + 1) n).stat p (base + kind)).stat p (base + sizeStat n)
  let st := tag 12 = 0x88A8 || tag 12 = 0x9100
  let s := if st then s.stat p (base + 29) else s
  if tag 12 = 0x8100 || (st && tag 16 = 0x8100) then s.stat p (base + 30) else s

/-- A transmit completion's timestamp words (R193, R626). -/
def tsWords (on : Bool) (t : Nat) (un : Bool) (side : Nat) : List (Nat × Word) :=
  if on then [(4, w32 (compactTs t un)), (5, w32 (compactTs t un / 2 ^ 32)), (6, w32 side)] else []

/-- A frame starts at the MAC of a line port (R600, R607, R624, R628): it is sent, its buffer is freed, and its transmit entry completes.
A frame above max_frame is dropped, or completes OVERSIZE. A frame whose tail is awaited leaves when it comes (R36). -/
def State.startLine (s : State) (port : Nat) (p : Pkt) : State :=
  if p.data.length + 4 > (s.port port).maxFrame then
    let s := s.stat port 37
    match p.tx with
    | some x => (s.endBuf p).completeTx x [] 0x0103 0
    | none => s.endBuf p
  else
    let (t, un, delay) := s.portStamp port true
    let (bytes, s) := s.oneStep port p.data t
    let line := slice bytes 0 (max 60 bytes.length)
    let n := lineTagBytes p.data
    let ptp := (ptpOffset (p.data.take 12 ++ p.data.drop (12 + n))).isSome
    let ask := p.tx.any (·.tsReq)
    let (side, s) := if ptp || ask then s.sideRecord t port true delay else (0xFFFF, s)
    let s := match s.fcsOf p with
      | some ok =>
        let s := if ok then s else s.stat port 34
        (s.countFrame port 32 line).emit (.lineFrame port line !ok)
      | none => { s with pipe := { s.pipe with sending := s.pipe.sending ++ [(port, line, p.frame)] } }
    let s := s.endBuf p
    match p.tx with
    | some x => s.completeTx x (tsWords x.tsReq t un (sideWord t port side)) 0 0
    | none => s

/-! ## Gate lists in time -/

/-- The longest openings of a port are computed anew (R575, R596). -/
def State.settleOpenings (s : State) (p : Nat) : State :=
  let g := s.gates p
  s.setGates p { g with open_ := (List.range 8).map g.oper.longest }

/-- The claim of time-gate hold on a port's reserve buffer (R579). -/
def gateClaim (p mid : Nat) : Nat × Nat := (0x03000000 + p, holderWord 0x11 0x01 mid)

/-- Gates on port p give up its reserve buffer, where they hold it (R133, R579). -/
def State.dropGateClaim (s : State) (p : Nat) : State :=
  match lookup s.cmds.claims (0x03000000 + p) with
  | some h => if field h 28 16 = 0x1101 then s.dropClaim (0x03000000 + p) else s
  | none => s

/-- The pending list of a port takes over (R577, R579, R581). -/
def State.gclSwitch (s : State) (p : Nat) : State :=
  let g := s.gates p
  match g.pending with
  | none => s
  | some (n, sw) =>
    let s := if n.enable then s else s.dropGateClaim p
    let s := (s.setGates p { g with oper := n, entry := 0, pending := none, claimed := n.enable, staged := [] }).settleOpenings p
    let s := (s.bump R.FRS_GCL_SWITCHES).raiseEs 400
    let t := sw * 2 ^ 24
    match s.findPend (fun c => c.cmd.opcode = 0x0A11 && wd c.cmd.params 0 % 16 = p) with
    | some c => s.finish c 0 0 (timeWords4 t)
    | none => s
where
  /-- An instant as the reply of R581 gives it. -/
  timeWords4 (t : Nat) : List Word := results [timeSec t % 2 ^ 32, timeSec t / 2 ^ 32, timeNs t, timeFrac t]

/-- A step of device time moves every operational list to the entry that the new time names, and makes a switch that it passes (R578). -/
def State.gclResync (s : State) : State :=
  let on := s.frs.gates.filter fun e => e.2.oper.enable || e.2.pending.isSome
  if on.isEmpty then s
  else
    let s := on.foldl
      (fun s e =>
        let g := s.gates e.1
        let passed := match g.pending with
          | some (_, sw) => decide (sw ≤ s.now256)
          | none => false
        let s := if passed then s.gclSwitch e.1 else s
        let g := s.gates e.1
        if g.oper.enable then s.setGates e.1 { g with entry := g.oper.entryAt s.now256 } else s) s
    (s.bump R.FRS_GCL_RESYNC).raiseEs 402

/-! ## Steps of device time -/

/-- Device time takes a value by a set or a step, and the gate lists follow it (R578, R621, R623). -/
def State.setTime (s : State) (t : Nat) : State :=
  (((({ s with time := { s.time with t := t, running := true } }).setF F.TIM_STATUS_time_valid 1).bump R.TIM_STEPS).raiseEs 434).gclResync

/-- The instant that a step reaches; outside device time's range it is left open (log entry 12). -/
def State.stepped (s : State) (off : Int) : Nat × State :=
  let t : Int := Int.ofNat s.now + off * 2 ^ 24
  if 0 ≤ t && t < 2 ^ 48 * unitsPerSec then (t.toNat, s)
  else
    let (v, s) := s.draw
    (v % (2 ^ 48 * unitsPerSec), s)

end Sys2Proof.Machine
end

