-- ==== Sys2Proof/Machine/OpsPgr.lean ====
section
/-! DEFINITION. Fills and parking of the State Pager (R330 to R336). -/

namespace Sys2Proof.Machine

/-- A fill of a page starts, or waits for a slot of R333. A page that another access has made resident has its parked frames left. -/
def State.startFill (s : State) (key : Nat) : State :=
  let p := s.page key
  if p.filling || p.moving || p.home == .zero || p.poisoned || s.pgr.waiting.contains key then s
  else if p.cached.isSome then (if s.parkedOn key then s.setPage key { p with filling := true } else s)
  else
    let fills := s.pgr.pages.filter (·.2.filling)
    let host := p.onHost
    let slot := fills.length < 4096 && (!host || ((fills.filter (·.2.onHost)).length < 1024 && s.hostPaging))
    if !slot then { s with pgr := { s.pgr with waiting := s.pgr.waiting ++ [key] } }
    else
      let s := s.setPage key { p with filling := true }
      match p.home with
      | .host d k =>
        let don : Donation := lookupD s.pgr.donations d {}
        (s.hostRead 0 0 (.pageFill key) (pasidWord don.pasid) (don.addr + k * 4096) 4096).bump R.PGR_FILLS_HOST
      | _ => s.bump R.PGR_FILLS_LPD

/-- Fills that wait start in the order of the misses while slots are free (R333). -/
def State.startWaiting (s : State) : State :=
  let w := s.pgr.waiting
  w.foldl State.startFill { s with pgr := { s.pgr with waiting := [] } }

/-- A page has become resident with its home's bytes, or with bytes that the host returned (R38, R333). -/
def State.fillPage (s : State) (key : Nat) (bs : Option (List Byte)) : State :=
  let p := s.page key
  let s := if p.cached.isSome || p.poisoned then s else s.install key (slice (bs.getD (s.homeBytes p.home)) 0 4096) false
  (s.setPage key { s.page key with filling := false }).startWaiting

/-- A frame parks on a page of an SSID within the limits of R335, or is dropped and counted. -/
def State.park (s : State) (p : Pkt) (ssid page : Nat) (r : Resume) : State :=
  let all := s.pgr.parked
  let mine := all.filter (·.ssid = ssid)
  if all.length ≥ 65536 || mine.length ≥ s.reg R.PGR_PARK_SSID_MAX
      || (mine.filter (·.page = page)).length ≥ s.rf F.PGR_PARK_CFG_page_max then (s.bump R.PGR_PARK_DROPS).dropPkt p 0x0800
  else
    let x : Parked := { ssid := ssid, page := page, resume := r, pkt := p }
    let s := { s with pgr := { s.pgr with parked := all ++ [x] } }
    (s.bump R.PGR_PARKED).startFill (s.pageKey ssid page)

/-- The frames parked on a page leave their queue, in arrival order. -/
def State.unpark (s : State) (key : Nat) : List Parked × State :=
  let mine := s.pgr.parked.filter fun x => s.pageKey x.ssid x.page = key
  (mine, { s with pgr := { s.pgr with parked := s.pgr.parked.filter fun x => s.pageKey x.ssid x.page != key } })

/-- A page is poisoned and the frames parked on it are dropped (R332). -/
def State.poisonPage (s : State) (key : Nat) : State :=
  let (ps, s) := (s.poison key).unpark key
  (ps.foldl (fun s x => (s.bump R.PGR_PARK_DROPS).dropPkt x.pkt 0x0800) s).pinDone

/-- A host fill has failed (R333): it is retried once, and a second failure poisons the page. -/
def State.fillFailed (s : State) (key : Nat) : State :=
  let p := s.page key
  if !p.filling then s
  else if p.cached.isSome then (s.setPage key { p with filling := false, fails := 0 }).startWaiting
  else if p.fails = 0 then s.setPage key { p with fails := 1 }
  else (((s.setPage key { p with filling := false, fails := 0 }).stateFault 5 (s.ssidOf key)
    ((key - s.pageKey (s.ssidOf key) 0) * 4096)).poisonPage key).startWaiting

end Sys2Proof.Machine
end

