-- ==== Sys2Proof/Machine/OpsRx.lean ====
section
/-! DEFINITION. Frames that leave the action stage: to a receive queue, to a leaf, to a Clove cluster, a sequencer, Saffron or a
Lantern tap (R43, R44, R195 to R197, R374, R441, R466, R499, R656). -/

namespace Sys2Proof.Machine

/-! ## Receive queues (R195 to R197) -/

/-- A frame as a host queue receives it, with its report (R195, R441, R446); none where an edit fails. -/
def State.rxImage (s : State) (p : Pkt) (ok : Bool) : Option RxFrame × State :=
  let (e, s) := s.edited p
  (e.map fun e =>
    let strip := match e.tags with
      | [t] => !t.isS
      | _ => false
    let data := if strip then e.data else withTags 0x88A8 e.tags e.data
    { ptr := p.ptr, holder := p.holder, bytes := data, page := p.page,
      info := { rxError := !ok, tsValid := p.inPort.isSome, vlanStripped := strip, l3Ok := p.info.l3Ok, l4Ok := p.info.l4Ok,
                tunnel := p.edits.decap && (decapCut p.info).isSome, timestamp := compactTs p.ts p.tsUncertain,
                tsSide := sideWord p.ts (p.inPort.getD 0) p.side, hash := p.hash,
                vlanTci := if strip then (e.tags.headD { isS := false, tci := 0 }).tci else 0, mark := p.mark } }, s)

/-- Posted buffers that hold n bytes: one, or as many as a scatter takes (R197); none where the posted ones do not. -/
def takeBufs (bufs : List RxBuf) (n : Nat) : Option (List RxBuf) :=
  match bufs with
  | [] => none
  | b :: t => if n ≤ b.bytes then some [b] else (takeBufs t (n - b.bytes)).map (b :: ·)

/-- The words that a receive completion writes (R195). -/
def rxWords (m : RxMeta) (more : Bool) (n : Nat) : List (Nat × Word) :=
  let w2 := b2n m.rxError * 2 ^ 31 + b2n more * 2 ^ 30 + b2n m.tsValid * 2 ^ 29 + b2n m.vlanStripped * 2 ^ 28 + b2n m.l3Ok * 2 ^ 27
    + b2n m.l4Ok * 2 ^ 26 + b2n m.tunnel * 2 ^ 25 + n
  let t := fun k => if m.tsValid then k else 0
  [(2, w32 w2), (4, w32 (t m.timestamp)), (5, w32 (t (m.timestamp / 2 ^ 32))), (6, w32 m.hash), (7, w32 (m.vlanTci * 2 ^ 16 + m.mark)),
    (8, w32 (t m.tsSide)), (9, 0#32)]

/-- A frame fills buffers: payload first, then each completion in ring order (R189, R195, R197, R198). -/
def State.rxFill (s : State) (q : Nat) (m : RxMeta) : List Byte → List RxBuf → State
  | _, [] => s
  | data, b :: t =>
    let n := min b.bytes data.length
    let c := s.q q
    let s := s.emit (.hostWrite c.iid c.pas b.addr (data.take n))
    let s := s.completeEntry q b.index b.units b.w0 (rxWords m (!t.isEmpty) n) 0 0 b.tag (b.notify || c.notifyAll)
    s.rxFill q m (data.drop n) t

/-- A frame for a queue is dropped and counted in its context (R196). -/
def State.rxDrop (s : State) (q : Nat) (f : RxFrame) : State :=
  let c := s.q q
  (s.setQ q { c with drops := satAdd 32 c.drops 1 }).endHold f.ptr f.holder

/-- Queue q takes frames: it is Active or Draining, its function is in D0 and may write host memory (R147, R216). -/
def State.rxOpen (s : State) (q : Nat) : Bool :=
  let c := s.q q
  (c.state = 1 || c.state = 2) && s.dmaOpen c.iid && s.fnD0 c.iid

/-- The frames that wait for queue q are delivered in order while buffers are posted (R196). -/
def State.rxDrain (s : State) (q : Nat) : Nat → State
  | 0 => s
  | fuel + 1 =>
    let c := s.q q
    if !s.rxOpen q then s
    else match c.rxWait with
      | [] => s
      | f :: rest =>
        if !c.rxBufs.isEmpty && !c.rxScatter && (takeBufs (c.rxBufs.take 1) f.bytes.length).isNone then
          ((s.setQ q { c with rxWait := rest }).rxDrop q f).rxDrain q fuel
        else match takeBufs c.rxBufs f.bytes.length with
          | none => s
          | some bs =>
            let s := s.setQ q { c with rxWait := rest, rxBufs := c.rxBufs.drop bs.length }
            ((s.rxFill q f.info f.bytes bs).endHold f.ptr f.holder).rxDrain q fuel

/-- A frame reaches an open queue: it is delivered, or waits charged to its owner, or is dropped and counted (R196, R197). -/
def State.rxQueue (s : State) (q : Nat) (f : RxFrame) : State :=
  let c := s.q q
  let t := (s.setQ q { c with rxWait := c.rxWait ++ [f] }).rxDrain q (c.rxWait.length + 1)
  if !(t.q q).rxWait.contains f then t
  else match f.holder, lookup s.bpm.bufs f.ptr with
    | none, some b =>
      if b.charge = c.iid || s.quotaAllows c.iid (ptrTier f.ptr) (classUnits (ptrClass f.ptr)) then t.moveFrame f.ptr c.iid
      else s.rxDrop q f
    | _, _ => t

/-- A frame is delivered to a local queue of an instance (R75, R147, R148, R303, R374); its FCS is known. -/
def State.deliver (s : State) (inst loc : Nat) (p : Pkt) (ok : Bool) : State :=
  let bad := fun (s : State) => (s.bumpFor p R.CLS_DEST_BAD (some 261)).dropPkt p 0x0D00
  let v := s.inst inst
  if v.state = 0 || v.state = 5 then bad s
  else match s.findQ inst loc with
    | none => bad s
    | some q =>
      let c := s.q q
      if c.type != 2 then bad s
      else
        let (f, s) := s.rxImage p ok
        match f with
        | none => (s.bumpFor p R.SWX_EDIT_ERRORS).dropPkt p 0x0D00
        | some f =>
          let s := s.freeHead p
          let s := match p.tx with
            | some x => s.completeTx x [] 0 0
            | none => s
          if !s.fnD0 inst then (if c.wakeOnRx then s.pmeWake inst else s).rxDrop q f
          else if c.state = 3 || v.state = 1 || v.state = 4 || (s.mode = 1 && inst != 0) then s.rxDrop q f else s.rxQueue q f

/-- A frame is delivered, or waits for its FCS result, which its completion reports (R36, R195). -/
def State.deliverTail (s : State) (inst loc : Nat) (p : Pkt) : State :=
  match s.fcsOf p with
  | some ok => s.deliver inst loc p ok
  | none => { s with pipe := { s.pipe with held := s.pipe.held ++ [(.deliver inst loc, p)] } }

/-! ## Line ports -/

/-- A frame crosses egress stage 4: its edits are applied with a port's S-tag TPID; none where they fail or leave no L2 header
(R441, R444, R446). -/
def State.stage4 (s : State) (p : Pkt) (tpid : Nat) : Option Pkt × State :=
  let (e, s) := s.edited p
  match e with
  | some e => if e.hasL2 then (some { p with data := withTags tpid e.tags e.data, tags := [], edits := {} }, s) else (none, s)
  | none => (none, s)

/-! ## Hand-offs -/

/-- Free dispatch threads of cluster k. -/
def State.freeThreads (s : State) (k : Nat) : Nat :=
  let c := s.cl k
  ((List.range 128).filter fun n => n != 0 && (c.th n).state == 1).length

/-- Cluster k takes frames (R466). -/
def State.cloveOpen (s : State) (k : Nat) : Bool :=
  let c := s.cl k
  c.loaded && !c.retired.contains 0 && !s.islandDown k && c.busy != .unloading

/-- A frame is offered to the clusters of its mask (R466, R467). -/
def State.cloveOffer (s : State) (f : CloveFrame) : State :=
  let ks := (numsWhere 16 (bitAt f.mask)).filter s.cloveOpen
  let free := fun k => s.freeThreads k - (s.cl k).queue.length
  let best := ks.foldl (fun (m : Option Nat) k => match m with
    | none => some k
    | some b => if free k > free b then some k else some b) none
  let least := ks.foldl (fun (m : Option Nat) k => match m with
    | none => some k
    | some b => if (s.cl k).queue.length < (s.cl b).queue.length then some k else some b) none
  let pick := if best.any fun k => free k > 0 then best else least
  match pick with
  | none => (s.bump R.CLV_NO_CLUSTER).dropPkt f.pkt 0x0E00
  | some k =>
    let c := s.cl k
    if c.queue.length ≥ 4096 then (s.bump (R.CLV_QUEUE_DROPS k)).dropPkt f.pkt 0x0E00
    else s.setCl k { c with queue := c.queue ++ [f] }

/-- The connection that a SEQUENCER action's operand names; with operand 0, the QP of the group that the frame's BTH names (R501). -/
def State.seqTarget (s : State) (p : Pkt) (g conn : Nat) : Option Nat :=
  if conn != 0 then some conn
  else (p.info.refs.getD 2 none).bind fun o =>
    let k := beNat (slice p.data (o + 13) 3)
    match s.conn k with
    | some c => if c.kind == .qp && c.group = g then some k else none
    | none => none

/-- A frame is handed to the sequencer of a connection (R433, R498, R499, R501). -/
def State.seqOffer (s : State) (p : Pkt) (g named : Nat) : State :=
  let gone := fun (s : State) => (s.bump R.PSQ_RX_DROPS).dropPkt p 0x0F00
  match s.seqTarget p g named with
  | none => (s.bump R.PSQ_NO_CONN).dropPkt p 0x0F00
  | some conn =>
  match s.conn conn, s.seqFor g conn with
  | some c, some q =>
    if c.group != g || (s.seq q).queue.length ≥ 1024 then gone s
    else s.trigger g { kind := 0, conn := conn, frame := some p, gen := (s.inst c.owner).gen }
  | _, _ => gone s

/-- A request comes to Saffron (R533). -/
def State.safQueue (s : State) (assoc : Nat) (r : SafReq) : State :=
  { s with saf := { s.saf with waiting := s.saf.waiting ++ [{ id := s.saf.nextId, assoc := assoc, req := r }], nextId := s.saf.nextId + 1 } }

/-- A frame comes to Saffron for an association (R433, R547). -/
def State.safOffer (s : State) (p : Pkt) (assoc : Nat) (encrypt reparse : Bool) : State := s.safQueue assoc (.frame p encrypt reparse)

/-- A frame is handed to a region's tap under a token, or answers that it must take the bypass action (R656; log entry 40). -/
def State.tapOffer (s : State) (p : Pkt) (r tap : Nat) : Bool × State :=
  let v := s.region r
  let t := v.taps.getD tap {}
  let by_ := match lookup s.bpm.bufs p.ptr with
    | some b => b.owner.getD 0
    | none => 0
  let full := (v.flight.filter fun e => e.2.tap = tap).length ≥ t.depth || v.flight.length ≥ 4096
  let declared := match v.image with
    | some i => bitAt i.ports tap
    | none => false
  if v.state != 3 || !declared || full || p.holder.isSome then (false, s.bump (R.LAN_BYPASS r))
  else
    let (ok, s') := s.transferBuf p.ptr by_ (0x820 + r) (0x1010 + r)
    if !ok then (false, s.bump (R.LAN_BYPASS r))
    else
      let (x, s) := s'.draw
      match searchFrom (fun k => (lookup v.flight k).isNone) 4096 x 4096 with
      | none => (false, s.bump (R.LAN_BYPASS r))
      | some k =>
        let q := lookupD v.seqs k 0
        let i : InFlight := { seq := q, tap := tap, pkt := p }
        let late := v.late.filter (· != k * 16 + q)
        let s := s.setRegion r { v with flight := insertKey v.flight k i, seqs := insertKey v.seqs k ((q + 1) % 15), late := late }
        (true, (s.bump (R.LAN_IN_FRAMES r)).emit (.regionFrame r tap k q p.data))

end Sys2Proof.Machine
end

