-- ==== Sys2Proof/Machine/OpsPipe.lean ====
section
/-! DEFINITION. The pipelines: MAC to action stage, egress classify to a leaf, loopback (R31 to R41, R346, R359 to R383, R430 to
R449). -/

namespace Sys2Proof.Machine

/-! ## Ends of a frame's lists -/

/-- Provision closes the ways of a frame but those from and to queues of instance 0 (R48). -/
def State.provisionShut (s : State) (p : Pkt) : Bool := s.mode = 1 && p.tx.isNone

/-- A frame is dropped by an action or a rule of an owner, and counted in its drop count (R371, R433). -/
def State.ownDrop (s : State) (owner : Nat) (p : Pkt) (reason : Nat) : State := (s.commitFor p (.drop owner)).dropPkt p reason

/-- A local queue of an instance is a receive queue that R374 delivers to, or holds frames for. -/
def State.takesRx (s : State) (inst loc : Nat) : Bool :=
  let v := s.inst inst
  v.state != 0 && v.state != 1 && v.state != 4 && v.state != 5 && (s.findQ inst loc).any fun q => (s.q q).type = 2 && (s.q q).state != 3

/-- A frame reaches the exception path of an instance with a mark (R377, R378). -/
def State.exception (s : State) (p : Pkt) (inst mark : Nat) : State :=
  let (ok, s) := s.excPass p inst
  if !ok then s.dropPkt p 0x0B00
  else
    let q := (s.clsInst inst).excQueue
    if q = 0xFFFF then (s.bumpFor p R.CLS_EXC_NOQUEUE (some 260)).dropPkt p 0x0B00
    else (if s.takesRx inst q then s.bumpFor p R.CLS_EXC_DELIVERED else s).deliverTail inst q { p with mark := mark }

/-! ## Copies (R447 to R449) -/

/-- Where a session sends a copy of a frame: to a queue (1) of an instance or to a leaf (0) of a port, and the tunnel profile that a path
member adds (R438, R439, R447). -/
def State.mirrorDest (s : State) (p : Pkt) (m : Mirror) : Option (Nat × Nat × Nat × Option Nat) :=
  match field m.w1 31 30 with
  | 0 => some (0, field m.w2 31 28, m.w1 % 2 ^ 16, none)
  | 1 => some (1, field m.w1 26 16, m.w1 % 2 ^ 16, none)
  | _ =>
    let ms := lookupD s.swx.paths (m.w1 % 2 ^ 14) []
    let n := ms.length
    let at_ := (List.range n).map fun k => ms.getD ((p.hash / 2 ^ 16 + k) % n) 0
    (at_.find? fun x => field x 31 30 = 1 || (s.port (x % 8)).up).map fun x =>
      match field x 31 30 with
      | 1 => (1, field x 26 16, x % 2 ^ 16, none)
      | 2 => (0, x % 8, field x 17 3, some (field x 29 18))
      | _ => (0, x % 8, field x 17 3, none)

/-- A leaf has room for a frame of n bytes (R565). -/
def State.leafRoom (s : State) (p : Pkt) (port leaf n : Nat) : Bool :=
  match (s.leafFor p port leaf).1.bind s.node with
  | some v => decide (v.bytes + n ≤ v.maxBytes)
  | none => false

/-- A copy of a frame with its bytes goes to a session's destination, sharing the original's buffer; its encapsulation takes a header
buffer (R449). -/
def State.sendCopy (s : State) (p : Pkt) (bytes : List Byte) (session : Nat) : State :=
  match lookup s.swx.mirrors session with
  | none => s
  | some m =>
    let lost := fun (s : State) => s.bumpFor p R.SWX_MIRROR_DROPS
    let trunc := field m.w2 13 0
    let cut := if trunc = 0 then bytes else bytes.take trunc
    let prof := field m.w2 27 16
    match (s.mirrorDest p m).filter fun d => d.1 = 1 || !s.provisionShut p with
    | none => lost s
    | some (kind, a, b, via) =>
      let by_ := match lookup s.bpm.bufs p.ptr with
        | some x => x.owner.getD 0
        | none => 0
      let holder := if kind = 1 then a else 0x800 + a
      let encap := if prof != 0xFFF then s.encapOf prof none else via.bind fun k => s.encapOf k none
      let (head, t) := if encap.isSome then s.allocBuf holder 256 else (none, s)
      if encap.isSome && head.isNone then lost t
      else
        let c : Pkt := {
          frame := p.frame, ptr := p.ptr, data := cut, source := p.source, inPort := p.inPort, ts := p.ts,
          tsUncertain := p.tsUncertain, side := p.side, hash := p.hash, mark := p.mark, holder := some holder, headBuf := head,
          edits := { encap := encap } }
        let (ok, s') := t.shareBuf p.ptr by_ holder holder
        if !ok then lost (t.freeHead c)
        else if kind = 1 then s'.deliverTail a b c
        else
          let (x, s') := s'.stage4 c (s'.port a).tpid
          match x with
          | some x => if s'.leafRoom x a b x.data.length then s'.enterLeaf x a b else lost (s'.endBuf c)
          | none => lost (s'.endBuf c)

/-- The frame as received, with its extracted tags written back (R447). -/
def State.asReceived (s : State) (p : Pkt) : List Byte :=
  withTags (match p.inPort with
    | some q => (s.port q).tpid
    | none => 0x88A8) p.tags p.data

/-! ## Destinations -/

/-- A frame on the egress side, edited, passes its ciphers and enters a leaf; copies are taken as it leaves (R41, R447, R563). -/
def State.leaveEgress (s : State) (p : Pkt) (port leaf : Nat) : State :=
  match p.ciphers with
  | (a, enc) :: rest => s.safOffer { p with ciphers := rest, dest := .port port leaf, acts := [] } a enc false
  | [] =>
    let s := p.copies.foldl (fun s m => s.sendCopy p p.data m) s
    s.enterLeaf { p with copies := [] } port leaf

/-- A frame is sent to a line port, or to the loopback root 8, through egress stage 4. -/
def State.sendPort (s : State) (p : Pkt) (port leaf : Nat) : State :=
  let (x, s) := s.stage4 p (if port < 8 then (s.port port).tpid else 0x88A8)
  match x with
  | none => (s.bumpFor p R.SWX_EDIT_ERRORS).dropPkt p 0x0D00
  | some x => s.leaveEgress x port leaf

/-- A frame that its FCS has failed goes no further, but one already released goes on to its egress or ring with the error (R36). -/
def State.fcsBars (s : State) (p : Pkt) : Bool := s.fcsOf p == some false && !p.released

/-- A frame whose lists have ended goes where they decided (R431). -/
def State.finishActs (s : State) (p : Pkt) : State :=
  if s.fcsBars p then s.dropPkt p 0x0D00
  else match p.dest with
    | .none => (s.bumpFor p R.SWX_NO_DEST).dropPkt p 0x0D00
    | .queue i q => if p.egress then s.sendPort p 8 0 else s.deliverTail i q p
    | .port k l => if s.provisionShut p then s.dropPkt p 0x0D00 else s.sendPort p k l

/-! ## Paths and spreading (R383, R438, R439) -/

/-- The member that a path gives a hash: the first from member hash [31:16] mod count whose port is up. -/
def State.pathMember (s : State) (path hash : Nat) : Option Nat :=
  let ms := lookupD s.swx.paths path []
  let n := ms.length
  ((List.range n).map fun k => ms.getD ((hash / 2 ^ 16 + k) % n) 0).find? fun x => field x 31 30 = 1 || (s.port (x % 8)).up

/-- A path member as a forwarding decision. -/
def State.onMember (s : State) (p : Pkt) (x : Nat) : Pkt :=
  match field x 31 30 with
  | 1 => { p with dest := .queue (field x 26 16) (x % 2 ^ 16) }
  | 2 => { p with dest := .port (x % 8) (field x 17 3), edits := { p.edits with encap := s.encapOf (field x 29 18) none } }
  | _ => { p with dest := .port (x % 8) (field x 17 3) }

/-- How a frame finds a state page (R37, R38, R332): poisoned; missing, or with frames parked on it that go first; or there. -/
inductive PageHit where
  | poisoned
  | missing
  | there
  deriving DecidableEq, Repr

/-- How a frame finds page k of an SSID. -/
def State.pageHit (s : State) (ssid k : Nat) : PageHit :=
  let key := s.pageKey ssid k
  let pg := s.page key
  if pg.poisoned then .poisoned
  else if (pg.cached.isNone && pg.home != .zero) || s.parkedOn key then .missing
  else .there

/-- A frame that needs a poisoned page is dropped with a state fault (R324, R332). -/
def State.pageLost (s : State) (ssid k : Nat) (p : Pkt) : State := (s.stateFault 3 ssid (k * 4096)).dropPkt p 0x0800

/-- A page that a frame uses counts as used where it is cached (R334). -/
def State.usePage (s : State) (ssid k : Nat) : State :=
  let key := s.pageKey ssid k
  if (s.page key).cached.isSome then s.touch key else s

/-- What spreading for an instance answers: how its table's page is found, and the entry (R383). -/
def State.spreadEntry (s : State) (inst : Nat) (p : Pkt) : PageHit × Nat × State :=
  match s.pageHit internalSsid inst with
  | .missing => (.missing, 0, s.bumpFor p R.CLS_INDIR_MISSES)
  | h => (h, leNat (s.ssBytes internalSsid (indirOff inst (s.frameHash inst p % 2048)) 2), s.usePage internalSsid inst)

/-- A frame that a rule spreads for an instance is delivered, parks, or is dropped (R37, R383). -/
def State.spread (s : State) (inst : Nat) (p : Pkt) : State :=
  let p := { p with hash := s.frameHash inst p }
  let (h, w, s) := s.spreadEntry inst p
  match h with
  | .missing => s.park p internalSsid inst (.spread inst)
  | .poisoned => s.pageLost internalSsid inst p
  | .there =>
    match w / 2 ^ 14 with
    | 0 => s.deliverTail inst (w % 2 ^ 14) p
    | 1 => match s.pathMember (w % 2 ^ 14) p.hash with
      | some x => s.finishActs (s.onMember p x)
      | none => (s.bumpFor p R.SWX_NO_MEMBER).dropPkt p 0x0D00
    | _ => s.ownDrop inst p 0x0B00

/-! ## Action lists (R430 to R437) -/

/-- Whole-frame actions (R33). -/
def wholeFrame (a : Act) : Bool := a.op = 0x50 || a.op = 0x52 || a.op = 0x53

/-- Hand-offs (R31 stage 9). -/
def handsOff (op : Nat) : Bool := op = 0x50 || op = 0x51 || op = 0x52 || op = 0x53

/-- Actions that run on the egress side (R433). -/
def onEgress (op : Nat) : Bool := op != 0x13 && op != 0x15 && op != 0x30 && op != 0x53

/-- A frame enters a list, its sixth apart (R432). -/
def State.enterList (s : State) (p : Pkt) (k : Nat) : Option Pkt :=
  if p.lists ≥ 5 then none
  else
    let (owner, acts) := lookupD s.swx.lists k (0, [])
    some { p with lists := p.lists + 1, acts := acts, owner := owner }

/-- What one action leaves: the frame goes on with its next action, or it has gone another way. -/
inductive Acted where
  | go (s : State) (p : Pkt)
  | gone (s : State)

/-- A transfer to a list (R432). -/
def transfer (s : State) (p : Pkt) (k : Nat) : Acted :=
  match s.enterList p k with
  | some p => .go s p
  | none => .gone ((s.bumpFor p R.SWX_TRANSFER_LIMIT).dropPkt p 0x0D00)

/-- A route result or a path is applied (R417, R433). -/
def viaPath (s : State) (p : Pkt) (path : Nat) : Acted :=
  match s.pathMember path p.hash with
  | some x => .go s (s.onMember p x)
  | none => .gone ((s.bumpFor p R.SWX_NO_MEMBER).dropPkt p 0x0D00)

/-- Stage 7 (R31, R37): the state page of a hit is in the state cache, or the frame parks, or faults and is dropped. -/
def State.stage7 (s : State) (p : Pkt) (r : Resume) : Acted :=
  match p.page with
  | none => .go s p
  | some (ssid, k) =>
    match s.rangeFault ssid (k * 4096) with
    | some f => .gone ((s.stateFault f ssid (k * 4096)).dropPkt p 0x0800)
    | none =>
      match s.pageHit ssid k with
      | .poisoned => .gone (s.pageLost ssid k p)
      | .missing => .gone (s.park p ssid k r)
      | .there => .go (s.usePage ssid k) p

/-- The address that an LPM lookup reads from a reference (R414): family and bytes. -/
def lpmAddress (p : Pkt) (inner : Bool) : Option (Bool × List Byte) :=
  (p.info.refs.getD (if inner then 5 else 1) none).bind fun o =>
    match p.info.kinds.getD (if inner then 1 else 0) 0 with
    | 1 => some (false, slice p.data (o + 16) 4)
    | 2 => some (true, slice p.data (o + 24) 16)
    | _ => none

/-- A frame's lookup of an address (R35, R416). -/
def State.lpmFor (s : State) (p : Pkt) (vrf : Nat) (v6 : Bool) (addr : List Byte) : Nat × State :=
  let s := s.bumpFor p R.TBL_LPM_LOOKUPS
  (if (s.vrf vrf).enable then s else s.bumpFor p R.TBL_LPM_VRF_OFF).lpmFind vrf v6 addr

/-- A frame's exact-match lookup (R35, R396). -/
def State.emFor (s : State) (p : Pkt) (t iid : Nat) (key : List Byte) : Option (Nat × EmEntry) × State :=
  let (hit, s) := (s.bumpFor p R.TBL_EM_LOOKUPS).emFind t iid key
  match hit with
  | some (i, e) => (some (i, e), (s.bumpFor p R.TBL_EM_HITS).commitFor p (.hit t i))
  | none => (none, s)

/-- LPM_LOOKUP (R414 to R417, R433). -/
def doLpm (s : State) (p : Pkt) (a : Act) : Acted :=
  match lpmAddress p (bitAt a.a 13) with
  | none => .go s p
  | some (v6, addr) =>
    let (r, s) := s.lpmFor p (a.a % 2 ^ 12) v6 addr
    match r / 2 ^ 28 with
    | 0 => transfer s p (r % 2 ^ 16)
    | 1 => viaPath s p (r % 2 ^ 16)
    | _ => .gone (s.ownDrop p.owner p 0x0D00)

/-- EM_LOOKUP (R394 to R397, R422, R433, R434). here is the frame with this action still in front. -/
def doEm (s : State) (here p : Pkt) (a : Act) : Acted :=
  let t := a.a % 256
  let v := s.table t
  let key := v.key (s.frameKey p (field a.a 13 8))
  let (b1, b2) := v.buckets p.inst key
  let pages := if v.state != .live || v.placement = 0 then [] else [v.bucketPage b1, v.bucketPage b2]
  match pages.find? (s.pageHit internalSsid · == .poisoned), pages.find? (s.pageHit internalSsid · == .missing) with
  | some k, _ => .gone (s.pageLost internalSsid k p)
  | none, some k => .gone ((s.bumpFor p R.TBL_EM_PAGE_PARKS).park here internalSsid k .action)
  | none, none =>
    let s := pages.foldl (fun s k => s.usePage internalSsid k) s
    let (hit, s) := s.emFor p t p.inst key
    let learns := bitAt a.a 16 && v.learn.enable && v.state == .live
    let record := fun (s : State) (kind old : Nat) =>
      if !learns then s
      else
        s.commitFor p (.learn t (s.learnBody kind t p.source old p.inst key) (Config.learnDigest t key).toNat)
    -- R434: a lookup in parallel runs whose result a transfer discards
    let parallel := fun (s : State) =>
      match p.acts with
      | b :: _ => if b.op = 0x02 then
          match lpmAddress p (bitAt b.a 13) with
          | some (v6, addr) => (s.lpmFor p (b.a % 2 ^ 12) v6 addr).2
          | none => s
        else s
      | [] => s
    match hit with
    | some (_, e) =>
      let s := if e.port != 0xF && e.port != p.source then record s 0x21 e.port else s
      let p := if e.statePage = 0x3FFFFFFF then p else { p with page := some (e.owner, e.statePage) }
      match transfer (parallel s) p e.action with
      | .gone s => .gone s
      | .go s p => s.stage7 p .state
    | none =>
      let s := record s 0x20 0xF
      match field (wd v.words 4) 31 28 with
      | 1 => if v.words.isEmpty then .go s p else transfer (parallel s) p (wd v.words 4 % 2 ^ 16)
      | 2 => .gone ((s.bumpFor p R.TBL_EM_MISS_DROPS).ownDrop p.owner p 0x0D00)
      | _ => .go s p

/-- The TTL or hop limit that ROUTE acts on, if it is 0 or 1 (R445). -/
def ttlSpent (p : Pkt) : Bool :=
  let inner := (p.edits.decap || p.acts.any (·.op = 0x30)) && (decapCut p.info).isSome
  match p.info.refs.getD (if inner then 5 else 1) none with
  | none => false
  | some o =>
    match p.info.kinds.getD (if inner then 1 else 0) 0 with
    | 1 => decide (beNat (slice p.data (o + 8) 1) ≤ 1)
    | 2 => decide (beNat (slice p.data (o + 7) 1) ≤ 1)
    | _ => false

/-- POLICE (R450, R451). -/
def doPolice (s : State) (p : Pkt) (k : Nat) : Acted :=
  match lookup s.swx.policers k with
  | none => .go s p
  | some v =>
    let (col, c, pk) := v.meter (s.editedLen p)
    let s := (s.setPolicer k { v with c := v.c - c, p := v.p - pk }).commitFor p (.colour k col c pk)
    let act := if col = 2 then v.red else if col = 1 then v.yellow else 1
    match act with
    | 0 => .gone (s.ownDrop p.owner p 0x0D00)
    | 1 => .go s p
    | _ => .go s { p with edits := { p.edits with tagOps := p.edits.tagOps ++ [.dei] } }

/-- A copy action for a session (R447, R448). -/
def doCopy (s : State) (p : Pkt) (session : Nat) : Acted :=
  if p.egress then .go s { p with copies := p.copies ++ [session] } else .go (s.sendCopy p (s.asReceived p) session) p

/-- One action runs on a frame whose later actions stand in p (R433). here has this action still in front. -/
def doAct (s : State) (here p : Pkt) (a : Act) : Acted :=
  let edit := fun (e : Edits) => Acted.go s { p with edits := e }
  let tag := fun (t : TagEdit) => edit { p.edits with tagOps := p.edits.tagOps ++ [t] }
  if p.egress && !onEgress a.op then .gone ((s.bumpFor p R.SWX_SIDE_DROPS).dropPkt p 0x0D00)
  else match a.op with
    | 0x01 => doEm s here p a
    | 0x02 => doLpm s p a
    | 0x10 => .go s { p with dest := .queue (a.a % 2 ^ 11) (a.w1 % 2 ^ 16) }
    | 0x11 => .go s { p with dest := .port (a.a % 16) (a.w1 % 2 ^ 16) }
    | 0x12 => viaPath s p (a.a % 2 ^ 14)
    | 0x13 =>
      let i := a.a % 2 ^ 11
      let (h, w, s) := s.spreadEntry i p
      let p := { p with hash := s.frameHash i p }
      match h with
      | .missing => .gone (s.park here internalSsid i .action)
      | .poisoned => .gone (s.pageLost internalSsid i p)
      | .there => match w / 2 ^ 14 with
        | 0 => .go s { p with dest := .queue i (w % 2 ^ 14) }
        | 1 => viaPath s p (w % 2 ^ 14)
        | _ => .gone (s.ownDrop i p 0x0B00)
    | 0x14 => .gone (s.ownDrop p.owner p 0x0D00)
    | 0x15 => .gone (s.exception p 0 (a.a % 2 ^ 16))
    | 0x20 => edit { p.edits with pops := p.edits.pops + 1 }
    | 0x21 => tag (.push { isS := bitAt a.a 16, tci := a.a % 2 ^ 16 })
    | 0x22 => tag (.set (bitAt a.a 17) (bitAt a.a 16) (a.a % 2 ^ 16))
    | 0x30 =>
      let s := if (p.info.refs.getD 3 none).isNone then s.bumpFor p R.SWX_DECAP_NONE else s
      .go s { p with edits := { p.edits with decap := true } }
    | 0x31 => edit { p.edits with encap := s.encapOf (a.a % 2 ^ 12) (if bitAt a.w1 31 then some (a.w1 % 2 ^ 24) else none) }
    | 0x32 =>
      if ttlSpent p then .gone ((s.bumpFor p R.SWX_TTL_TRAPS).exception p 0 0xE401)
      else edit { p.edits with route := some (wordsBytes (results [a.w1, a.w2, a.w3])) }
    | 0x38 => .go s { p with mark := a.a % 2 ^ 16 }
    | 0x39 => .go (s.commitFor p (.count (a.a % 2 ^ 18) (p.data.length + 4 * p.tags.length))) p
    | 0x40 => doCopy s p (a.a % 32)
    | 0x41 =>
      let n := match lookup s.swx.mirrors (a.a % 32) with
        | some m => if m.sampleN = 0 then 2 ^ 24 else m.sampleN
        | none => 2 ^ 24
      let (v, s) := s.draw
      if v % 2 ^ 24 * n < 2 ^ 24 then doCopy s p (a.a % 32) else .go s p
    | 0x48 => doPolice s p (a.a % 2 ^ 14)
    | 0x50 =>
      if p.egress then .go s { p with ciphers := p.ciphers ++ [(a.w1 % 2 ^ 20, bitAt a.a 0)] }
      else .gone (s.safOffer p (a.w1 % 2 ^ 20) (bitAt a.a 0) (bitAt a.a 1))
    | 0x51 =>
      let r := a.a % 16
      let tap := b2n (bitAt a.a 4)
      let (ok, s) := s.tapOffer { p with released := p.released || (s.fcsOf p).isNone } r tap
      if ok then .gone s
      else if ((s.region r).taps.getD tap {}).drop then .gone (s.dropPkt p 0x150E) else .go s p
    | 0x52 => .gone (s.cloveOffer { pkt := { p with acts := [] }, mask := a.a % 2 ^ 16, ordered := bitAt a.a 16 })
    | 0x53 => .gone (s.seqOffer { p with acts := [] } (a.a % 4) (a.w1 % 2 ^ 16))
    | _ => .go s { p with acts := [] }

/-- A frame runs its actions (R431); a list that holds a whole-frame action waits for the tail (R32, R33). fuel bounds eight entries of
five lists. -/
def State.runActs : Nat → State → Pkt → State
  | 0, s, p => s.finishActs p
  | fuel + 1, s, p =>
    if p.acts.any wholeFrame && (s.fcsOf p).isNone then
      { s with pipe := { s.pipe with held := s.pipe.held ++ [(.acts, p)] } }
    else if s.fcsBars p || (p.acts.any wholeFrame && s.fcsOf p == some false) then s.dropPkt p 0x0D00
    else match p.acts with
      | [] => s.finishActs p
      | a :: rest =>
        if s.provisionShut p && handsOff a.op then s.dropPkt p 0x0D00
        else match doAct s p { p with acts := rest } a with
        | .go s p => s.runActs fuel p
        | .gone s => s

/-- A frame runs the actions that it holds. -/
def State.acts (s : State) (p : Pkt) : State := s.runActs 64 p

/-- A frame starts at a list that a rule or a verdict names. -/
def State.actList (s : State) (p : Pkt) (k : Nat) : State :=
  match transfer s p k with
  | .go s p => s.acts p
  | .gone s => s

/-! ## Ingress (R31, R369 to R377) -/

/-- Stage 1 of the classifier for a destination instance (R369, R371, R372, R374). -/
def State.stage1 (s : State) (p : Pkt) (i : Nat) : State :=
  let v := s.inst i
  if v.state = 0 || v.state = 5 then (s.bumpFor p R.CLS_DEST_BAD (some 261)).dropPkt p 0x0B00
  else if v.state = 1 || v.state = 4 then s.ownDrop i p 0x0B00
  else
    let p := { p with inst := i }
    let c := s.clsInst i
    let p := { p with hash := s.frameHash i p }
    let (m, s) := (s.bumpFor p R.CLS_LOOKUPS).classify 1 i c.profile (s.frameKey p c.profile)
    match m with
    | none => match field c.w0 30 29 with
      | 0 => s.spread i p
      | 1 => s.exception p i 0xE300
      | _ => s.ownDrop i p 0x0B00
    | some (_, r) =>
      let p := { p with mark := r.mark }
      match r.kind with
      | 0 => s.deliverTail i r.value p
      | 2 => s.spread i p
      | 3 => s.exception p i r.mark
      | _ => s.ownDrop i p 0x0B00

/-- Ingress stages 4 to 8 (R31): parse, classify, lookups, actions. -/
def State.ingress (s : State) (p : Pkt) : State :=
  let r := runParse s.prs.active p.source p.data
  let s := s.countParse p p.source r
  let p := { p with egress := false, inst := 0, bank := s.prs.swaps, info := { r.info with tags := p.tags, length := p.info.length } }
  let p := { p with hash := s.frameHash 0 p }
  if r.info.failCode != 0 then s.exception p 0 (0xE100 + r.info.failCode)
  else
    let prof := field (wd s.prs.active.start p.source) 21 16
    let (m, s) := (s.bumpFor p R.CLS_LOOKUPS).classify 0 0 prof (s.frameKey p prof)
    match m with
    | none => (s.bumpFor p R.CLS_NOMATCH_S0).exception p 0 0xE200
    | some (_, r) =>
      let p := { p with mark := r.mark }
      match r.kind with
      | 1 => s.actList p (r.value % 2 ^ 16)
      | 2 => s.spread 0 p
      | 3 => s.exception p 0 r.mark
      | 5 => s.stage1 p (r.value % 2 ^ 11)
      | _ => s.ownDrop 0 p 0x0B00

/-! ## Egress (R41, R372, R373) -/

/-- Where a frame goes that egress classify leaves unchanged: the port of its leaf (R563; log entry 35). -/
def State.defaultExit (s : State) (p : Pkt) : Dest :=
  let l := if p.leaf != 0 then p.leaf else match p.tx with
    | some x => s.queueLeaf x.q
    | none => lookupD s.frs.instDefault p.inst 0
  match s.node l with
  | some n => .port n.port l
  | none => .port 0 0

/-- Egress stage 3 and on, for a frame of a source instance. -/
def State.egress (s : State) (p : Pkt) : State :=
  let start := wd s.prs.active.start 12
  let r := runParse s.prs.active 12 p.data
  let s := s.countParse p 12 r
  let p := { p with egress := true, source := 12, bank := s.prs.swaps, info := { r.info with tags := p.tags, length := p.data.length } }
  let p := { p with hash := s.frameHash p.inst p }
  if r.info.failCode != 0 then
    if bitAt start 30 then s.dropPkt p 0x0A10 else s.finishActs { p with dest := s.defaultExit p }
  else
    let prof := field start 21 16
    let (m, s) := (s.bumpFor p R.CLS_LOOKUPS).classify 2 0 prof (s.frameKey p prof)
    match m with
    | none => s.finishActs { p with dest := s.defaultExit p }
    | some (_, r) =>
      let p := { p with mark := r.mark }
      match r.kind with
      | 1 => s.actList p (r.value % 2 ^ 16)
      | _ => s.ownDrop 0 p 0x0B10

/-! ## Parked and held frames -/

/-- A parked frame goes on (R38). -/
def State.resumeParked (s : State) (x : Parked) : State :=
  match x.resume with
  | .action => s.acts x.pkt
  | .spread i => s.spread i x.pkt
  | .state => match s.stage7 x.pkt .state with
    | .go s p => s.acts p
    | .gone s => s

/-- Every frame parked on a page that is resident goes on in arrival order (R38). -/
def State.releasePage (s : State) (key : Nat) : State :=
  let (ps, s) := s.unpark key
  ps.foldl State.resumeParked s

/-- The frames parked on pages of a range that has been released find it gone, in arrival order (R303, R324, R326). -/
def State.releaseGone (s : State) (ssid : Nat) : State :=
  let ps := s.pgr.parked.filter (·.ssid = ssid)
  ps.foldl State.resumeParked { s with pgr := { s.pgr with parked := s.pgr.parked.filter (·.ssid != ssid) } }

/-- A frame that waited for its tail goes on, or is dropped for a bad FCS; a host queue receives it with its error (R36). -/
def State.resumeHeld (s : State) (h : HoldAt) (p : Pkt) (ok : Bool) : State :=
  match h with
  | .parse => if ok then s.ingress p else s.dropPkt p 0x0D00
  | .acts => if ok then s.acts p else s.dropPkt p 0x0D00
  | .deliver i q => s.deliver i q p ok

/-- The FCS result of a frame is known (R35, R36): commits settle, its copies and itself go on, what is being sent ends. -/
def State.tail (s : State) (frame : Nat) (ok : Bool) : State :=
  let s := { s with pipe := { s.pipe with fcs := insertKey s.pipe.fcs frame ok } }
  let cs := s.pipe.commits.filter (·.1 = frame)
  let s := { s with pipe := { s.pipe with commits := s.pipe.commits.filter (·.1 != frame) } }
  let s := cs.foldl (fun s c => if ok then s.commit c.2 else s.uncommit c.2) s
  let hs := s.pipe.held.filter (·.2.frame = frame)
  let s := { s with pipe := { s.pipe with held := s.pipe.held.filter (·.2.frame != frame) } }
  let ts := s.pipe.sending.filter (·.2.2 = frame)
  let s := { s with pipe := { s.pipe with sending := s.pipe.sending.filter (·.2.2 != frame) } }
  let s := ts.foldl (fun s t => ((if ok then s else s.stat t.1 34).countFrame t.1 32 t.2.1).emit (.lineFrame t.1 t.2.1 !ok)) s
  hs.foldl (fun s h => s.resumeHeld h.1 h.2 ok) s

/-! ## Reception (R346, R598, R599, R605, R624) -/

/-- The tags that a port extracts, and the frame without them (R599). -/
def LinePort.extract (v : LinePort) (d : List Byte) : List Tag × List Byte :=
  let at_ := fun o => beNat (slice d o 2)
  let tci := fun o => beNat (slice d (o + 2) 2)
  let isS := at_ 12 = v.tpid && bitAt v.cfg 30
  let c := fun o => at_ o = 0x8100 && bitAt v.cfg 29
  if isS && c 16 then ([{ isS := true, tci := tci 12 }, { isS := false, tci := tci 16 }], d.take 12 ++ d.drop 20)
  else if isS then ([{ isS := true, tci := tci 12 }], d.take 12 ++ d.drop 16)
  else if c 12 then ([{ isS := false, tci := tci 12 }], d.take 12 ++ d.drop 16)
  else ([], d)

/-- The length for which a line frame takes a buffer: as its IP header gives it in cut-through, or its own (R346). -/
def State.estimate (s : State) (port : Nat) (d : List Byte) (cut : Bool) : Nat :=
  if !cut then d.length
  else
    let l2 := 14 + lineTagBytes d
    match beNat (slice d (l2 - 2) 2) with
    | 0x0800 => l2 + beNat (slice d (l2 + 2) 2)
    | 0x86DD => l2 + 40 + beNat (slice d (l2 + 4) 2)
    | _ => (s.port port).maxFrame

/-- The data path is cut-through (R32, R34, R48). -/
def State.cutThrough (s : State) (port : Nat) : Bool :=
  s.mode = 2 || s.mode = 3 || (s.mode = 4 && !((s.port port).lanes.any fun l => s.tst.underTest.contains (0x100 + l)))

/-- The data path runs (R48, R49). -/
def State.dataOn (s : State) : Bool := s.mainOn && s.mode ≥ 1 && !s.rfb F.GLB_MODE_rom_recovery

/-- Headroom lets a frame of a lossless priority past its quota (R605): the account stands above xoff and below xoff + headroom. -/
def State.inHeadroom (s : State) (port prio len : Nat) : Option Bool :=
  let v := s.port port
  let k := if v.fcMode = 1 then 0 else prio
  if v.fcMode = 0 then none
  else (lookup v.lossless k).bind fun l =>
    let a := s.account port k
    if a < l.xoff then none else some (decide (a + len ≤ l.xoff + l.headroom))

/-- A buffer for a frame in headroom: any that stands free on die, whatever the quotas say (R605). -/
def State.allocAny (s : State) (r len : Nat) : Option Nat × State :=
  let (v, s) := s.draw
  let hit := ((List.range 4).filter fun c => classFor len ≤ c).findSome? fun c =>
    let n := s.bpm.carve0.getD c 0
    (searchFrom (s.bufFree 0 c) n v n).map fun k => mkPtr c 0 (carveBase s.bpm.carve0 c + k * classUnits c)
  match hit with
  | none => (none, s.bump R.BPM_ALLOC_FAIL)
  | some p => (some p, ({ s with bpm := { s.bpm with bufs := insertKey s.bpm.bufs p { owner := some r, charge := r } } }).bump R.BPM_ALLOCS)

/-- A buffer for a frame that a line port receives (R346, R605). -/
def State.allocLine (s : State) (port prio len : Nat) : Option Nat × State :=
  match s.inHeadroom port prio len with
  | some false => (none, s)
  | some true =>
    let (p, t) := s.allocBuf (0x800 + port) len
    if p.isSome then (p, t) else s.allocAny (0x800 + port) len
  | none => s.allocBuf (0x800 + port) len

/-- A line port receives a frame (R598 to R602, R624, R627): one that the MAC drops or consumes goes no further. -/
def State.receive (s : State) (port : Nat) (bytes : List Byte) : State :=
  let v := s.port port
  let note := fun (s : State) (k : Nat) (short : Bool) =>
    { s with pipe := { s.pipe with arriving := insertKey s.pipe.arriving port (k, bytes, short) } }
  let n := bytes.length + 4
  if n < 64 || n > v.maxFrame || (beNat (slice bytes 12 2) = 0x8808 && !v.passControl) then note s 0 false
  else
    let (tags, data) := v.extract bytes
    let prio := match tags with
      | t :: _ => field t.tci 15 13
      | [] => field v.cfg 19 17
    let est := s.estimate port data (s.cutThrough port)
    let (ptr, s) := s.allocLine port prio est
    match ptr with
    | none => note (s.stat port 31) 0 false
    | some ptr =>
      if data.length > classBytes (ptrClass ptr) then note (s.freeFrame ptr) 0 true
      else
        let b : Buf := { lookupD s.bpm.bufs ptr ⟨none, [], 0, 0, 0⟩ with prio := if v.fcMode = 1 then 0 else prio, bytes := data.length }
        let s := ((s.putBuf ptr b).storeBuf ptr data).settleAccount port (if v.fcMode = 1 then 0 else prio)
        let (t, un, delay) := s.portStamp port false
        let plain := bytes.take 12 ++ bytes.drop (12 + lineTagBytes bytes)
        let (side, s) := if (ptpOffset plain).isSome then s.sideRecord t port false delay else (0xFFFF, s)
        let k := s.pipe.nextFrame
        let p : Pkt := {
          frame := k, ptr := ptr, data := data, tags := tags, source := port, inPort := some port, ts := t,
          tsUncertain := un, side := side, info := { length := est } }
        let s := note { s with pipe := { s.pipe with nextFrame := k + 1 } } k false
        if s.cutThrough port then s.ingress p else { s with pipe := { s.pipe with held := s.pipe.held ++ [(.parse, p)] } }

end Sys2Proof.Machine
end

