-- ==== Sys2Proof/Machine/OpsSpar.lean ====
section
/-! DEFINITION. The Spar fabric: flits and link retry, routing, the packets of each class, channels and time (R687 to R718). -/

namespace Sys2Proof.Machine

/-! ## Ports and flits (R687 to R690) -/

/-- Spar port p. -/
def State.sport (s : State) (p : Nat) : SparPort := lookupD s.spr.ports p {}

/-- s with Spar port p replaced. -/
def State.setSport (s : State) (p : Nat) (v : SparPort) : State :=
  { s with spr := { s.spr with ports := insertKey s.spr.ports p v } }

/-- The neighbour's record of port p; empty before a Beacon has arrived. -/
def SparPort.beacon (v : SparPort) : Beacon := v.nbr.getD {}

/-- Port p is enabled by the port mask of SPR_JOIN (R695). -/
def State.sportEnabled (s : State) (p : Nat) : Bool := bitAt s.spr.portMask p

/-- The neighbour of port p reports another fabric (R694). -/
def State.foreign (s : State) (p : Nat) : Bool :=
  match (s.sport p).nbr with
  | some b => b.fabric != s.spr.fabric
  | none => false

/-- Port p carries more than Beacons: its link is up and its neighbour is joined to this fabric (R694). -/
def State.carries (s : State) (p : Nat) : Bool :=
  let v := s.sport p
  v.up && v.nbr.isSome && !s.foreign p && v.beacon.joined

/-- Words 0 to 34 of a flit (R688). -/
def flitWords (f : SparFlit) (seq ack : Nat) (nak : Bool) (creditVc credits : Nat) : List Word :=
  let ws := results [f.vc * 2 ^ 30 + b2n f.first * 2 ^ 29 + b2n f.last * 2 ^ 28 + seq % 4096 * 2 ^ 16 + ack % 4096 * 16 + b2n nak * 8,
    creditVc * 2 ^ 30 + credits % 1024 * 2 ^ 20] ++ bytesWords (slice f.payload 0 128)
  ws ++ [crc32c (wordsBytes ws)]

/-- An idle flit: acknowledgement and returned credits alone (R688). -/
def idleFlit : SparFlit := { vc := 0, first := false, last := false, payload := [] }

/-- A flit leaves on port p with a sequence number. -/
def State.putFlit (s : State) (p : Nat) (f : SparFlit) (seq creditVc credits : Nat) : State :=
  let v := s.sport p
  s.emit (.sparFlit p (flitWords f seq (v.rxSeq + 4095) v.nak creditVc credits))

/-- An idle flit acknowledges and returns credits of a virtual channel (R689, R690). -/
def State.sparAck (s : State) (p vc credits : Nat) : State := s.putFlit p idleFlit ((s.sport p).txSeq + 4095) vc credits

/-- The first flit that waits on a port and holds a credit, within 512 not acknowledged (R689, R690). -/
def SparPort.ready (v : SparPort) : Option SparFlit :=
  if v.kept.length ≥ 512 then none else v.waiting.find? fun f => decide (0 < v.credits.getD f.vc 0)

/-- Flits that wait on port p are sent while they may; a relayed flit gives its credit back to the port on which it came. -/
def State.sparPump (s : State) (p : Nat) : Nat → State
  | 0 => s
  | fuel + 1 =>
    let v := s.sport p
    if !v.up then s
    else match v.ready with
      | none => s
      | some f =>
        let s := s.putFlit p f v.txSeq 0 0
        let s := s.setSport p { v with
          txSeq := (v.txSeq + 1) % 4096, kept := v.kept ++ [f], waiting := v.waiting.erase f,
          credits := v.credits.set f.vc (v.credits.getD f.vc 0 - 1) }
        let s := match f.source with
          | some q => s.sparAck q f.vc 1
          | none => s
        s.sparPump p fuel

/-- Flits that never leave: a frame's buffer is freed, and a relayed flit gives its credit back to the port on which it came (R689). -/
def State.sparLose (s : State) (fs : List SparFlit) : State :=
  fs.foldl
    (fun s f =>
      let s := match f.buf with
        | some b => s.freeFrame b
        | none => s
      match f.source with
      | some q => s.sparAck q f.vc 1
      | none => s) s

/-- Flits join those that wait on port p; a port that is down takes none. -/
def State.sparQueue (s : State) (p : Nat) (fs : List SparFlit) : State :=
  let v := s.sport p
  if !v.up then s.sparLose fs
  else (s.setSport p { v with waiting := v.waiting ++ fs }).sparPump p (v.waiting.length + fs.length)

/-- An acknowledgement frees the flits that it covers, with the buffer that the last flit of a frame frees (R690, R704). -/
def State.sparAcked (s : State) (p ack : Nat) : State :=
  let v := s.sport p
  let k := (ack + 4096 - v.acked) % 4096
  if k = 0 || k > v.kept.length then s
  else
    let done := v.kept.take k
    let s := s.setSport p { v with kept := v.kept.drop k, acked := ack, replays := 0 }
    done.foldl
      (fun s f => match f.buf with
        | some b => s.freeFrame b
        | none => s) s

/-- The Spar lanes of port p as R719 resources. -/
def sparLanes (p : Nat) : List Nat := [0x200 + 2 * p, 0x200 + 2 * p + 1]

/-- A fault event on both lanes of port p (R690, R720). -/
def State.sparFault (s : State) (p code : Nat) : State := (sparLanes p).foldl (fun s r => s.fault code r 0 [p]) s

/-- The link state of a port begins anew: sequences and credits at their first values, nothing kept, waiting or arriving. -/
def SparPort.restart (v : SparPort) (up : Bool) : SparPort := { up := up, degraded := v.degraded, nbr := v.nbr }

/-- The link of port p is lost: the flits not acknowledged and those behind them are dropped and counted (R690). -/
def State.sparDown (s : State) (p : Nat) : State :=
  let v := s.sport p
  let s := (s.setSport p (v.restart false)).bumpBy R.SPR_RETRAIN_DROPS v.kept.length
  s.sparLose (v.kept.map ({ · with source := none }) ++ v.waiting)

/-! ## Packets (R691) -/

/-- Header words of a packet (R691). -/
def SparPkt.head (p : SparPkt) : List Word :=
  results [p.cls * 2 ^ 28 + p.hops % 16 * 2 ^ 24 + p.dst * 2 ^ 12 + p.src, p.epoch * 2 ^ 16 + p.flow,
    p.body.length * 2 ^ 16 + p.mid, p.mseq * 2 ^ 24 + p.dstChan * 2 ^ 8 + p.srcChan]

/-- The bytes of a packet. -/
def SparPkt.bytes (p : SparPkt) : List Byte := wordsBytes p.head ++ p.body

/-- The packet that bytes spell. -/
def sparParse (bs : List Byte) : SparPkt :=
  let ws := bytesWords (slice bs 0 16)
  { cls := field (wd ws 0) 31 28, hops := field (wd ws 0) 27 24, dst := field (wd ws 0) 23 12, src := field (wd ws 0) 11 0,
    epoch := field (wd ws 1) 31 16, flow := field (wd ws 1) 15 0, mid := field (wd ws 2) 12 0, mseq := field (wd ws 3) 31 24,
    dstChan := field (wd ws 3) 13 8, srcChan := field (wd ws 3) 5 0, body := slice bs 16 (field (wd ws 2) 30 16) }

/-- The virtual channel of a class (R689). -/
def sparVc (cls : Nat) : Nat := if cls < 2 then 0 else if cls = 2 then 1 else if cls = 5 then 3 else 2

/-- Bytes cut into pieces of 128. -/
def pieces128 (bs : List Byte) : Nat → List (List Byte)
  | 0 => []
  | fuel + 1 => if bs.length ≤ 128 then [bs] else bs.take 128 :: pieces128 (bs.drop 128) fuel

/-- The flits of a packet, the last of which frees a buffer. -/
def sparFlits (p : SparPkt) (buf : Option Nat) : List SparFlit :=
  let ps := pieces128 p.bytes (p.bytes.length + 1)
  (List.range ps.length).map fun k =>
    { vc := sparVc p.cls, first := k = 0, last := k + 1 = ps.length, payload := ps.getD k [], buf := if k + 1 = ps.length then buf else none }

/-! ## Routing (R697, R698) -/

/-- The flow hash of a packet (R698). -/
def sparFlow (src chan cls : Nat) : Nat := (crc32c (beBytes 2 src ++ [BitVec.ofNat 8 chan, BitVec.ofNat 8 cls])).toNat % 65536

/-- The table of an epoch, if the device holds one (R697, R700). -/
def State.sparTable (s : State) (epoch : Nat) : Option (NMap Nat) :=
  if epoch = s.spr.epoch then some s.spr.current
  else if (epoch + 1) % 65536 = s.spr.epoch then s.spr.previous
  else if epoch = (s.spr.epoch + 1) % 65536 then s.spr.next
  else none

/-- The port on which a packet of an epoch, destination and flow leaves (R697, R698): none where there is none, counted by what is
missing. -/
def State.sparRoute (s : State) (epoch dst flow : Nat) : Option Nat × State :=
  match s.sparTable epoch with
  | none => (none, (s.bump R.SPR_EPOCH_DROPS).raiseLimited 487)
  | some t =>
    let e := lookupD t dst 0
    let ports := numsWhere 4 fun p => bitAt e p && (s.sport p).up && !s.foreign p
    match (if bitAt e 31 then ports[flow % max 1 ports.length]? else none) with
    | some p => if s.carries p then (some p, s) else (none, s.bump R.SPR_NO_ROUTE)
    | none => (none, s.bump R.SPR_NO_ROUTE)

/-- A packet of this device is routed: it is given its epoch and flow (R691, R697). -/
def State.sparLaunch (s : State) (p : SparPkt) : Option (Nat × SparPkt) × State :=
  let q := { p with src := s.spr.addr, hops := 0, epoch := s.spr.epoch, flow := sparFlow s.spr.addr p.srcChan p.cls }
  let (port, s) := s.sparRoute q.epoch q.dst q.flow
  (port.map fun k => (k, q), s)

/-- A packet of this device is sent; answers whether a route was found. -/
def State.sparSend (s : State) (p : SparPkt) : Bool × State :=
  let (r, s) := s.sparLaunch p
  match r with
  | some (port, q) => (true, s.sparQueue port (sparFlits q none))
  | none => (false, s)

/-! ## Time (R710 to R712) -/

/-- The upstream port: the lowest time distance of a neighbour, the lowest port on a tie (R710). -/
def State.sparUpstream (s : State) : Option Nat :=
  if !s.spr.joined || !s.spr.timeFollow || s.spr.timeRoot then none
  else
    let ok := numsWhere 4 fun p => s.sportEnabled p && s.carries p && decide ((s.sport p).beacon.distance ≤ 13)
    let best := ok.foldl (fun n p => min n (s.sport p).beacon.distance) 15
    ok.find? fun p => (s.sport p).beacon.distance = best

/-- The device's own time distance (R710). -/
def State.sparDistance (s : State) : Nat :=
  if !s.spr.joined then 15
  else if s.spr.timeRoot then 0
  else match s.spr.upstream with
    | some p => (s.sport p).beacon.distance + 1
    | none => 15

/-- The address of the time root that the device follows. -/
def State.sparRoot (s : State) : Nat :=
  if s.spr.timeRoot then s.spr.addr
  else match s.spr.upstream with
    | some p => (s.sport p).beacon.root
    | none => 0

/-- The upstream is chosen anew: a change raises ES 489, and a follower left with none holds over (R710, R712). -/
def State.settleUpstream (s : State) : State :=
  let u := s.sparUpstream
  if u = s.spr.upstream then s
  else ({ s with spr := { s.spr with upstream := u, holdover := u.isNone && s.spr.timeFollow && !s.spr.timeRoot } }).raiseEs 489

/-- The width of port p in lanes. -/
def SparPort.width (v : SparPort) : Nat := if v.degraded then 1 else 2

/-- The Spar lane delay of port p, in 1/256 ns (R631, R711). -/
def State.sparDelay (s : State) (p : Nat) (tx : Bool) : Int :=
  let w := (s.sport p).width
  s.liveDelay 2 p w w (if tx then 2 else 1)

/-- A follower's offset from its upstream, in 1/256 ns (R711): the exchange t1 to t4, the upstream's later send time and its receipt. -/
def sparOffset (t1 t2 t3 t4 ts tr : Int) : Int := tr - (ts + ((t4 - t1) - (t3 - t2)) / 2)

/-- Device time is corrected by an offset: stepped beyond 1 us, else by a frequency adjustment, whose value is the time unit's own
(R711; log entry 2). -/
def State.sparCorrect (s : State) (off : Int) : State :=
  if 256000 < off || off < -256000 then
    let (t, s) := s.stepped (-off)
    ((s.setTime t).bump R.SPR_TIME_STEPS).raiseEs 490
  else
    let (v, s) := s.draw
    ({ s with time := { s.time with freq := Int.ofNat (v % 256000001) - 128000000 } }).showRate

/-! ## Beacons (R693, R694) -/

/-- The body of this device's Beacon on port p (R693; log entry 50). -/
def State.beaconBody (s : State) (p : Nat) : List Byte :=
  let n := Config.serial.toNat
  wordsBytes (results [s.spr.fabric, s.spr.addr, b2n s.spr.joined, n, n / 2 ^ 32, p, s.spr.epoch, s.sparDistance * 2 ^ 16 + s.sparRoot])

/-- The Beacon that a body spells. -/
def beaconOf (bs : List Byte) : Beacon :=
  let ws := bytesWords (slice bs 0 32)
  { fabric := wd ws 0, addr := wd ws 1 % 4096, joined := bitAt (wd ws 2) 0, serial := dwd ws 3, port := wd ws 5 % 4, epoch := wd ws 6 % 65536,
    distance := field (wd ws 7) 19 16, root := field (wd ws 7) 11 0 }

/-- A Beacon is sent on an enabled port whose link is up (R693). -/
def State.sendBeacon (s : State) (p : Nat) : State :=
  if !(s.sport p).up || !s.sportEnabled p then s
  else
    let q : SparPkt := {
      cls := 0, hops := 0, dst := 0, src := s.spr.addr, epoch := s.spr.epoch, flow := 0, mid := 0x1041, mseq := 0, dstChan := 0, srcChan := 0,
      body := s.beaconBody p }
    s.sparQueue p (sparFlits q none)

/-- A Beacon is received (R693, R694, R710). -/
def State.takeBeacon (s : State) (p : Nat) (b : Beacon) : State :=
  let v := s.sport p
  let changed := match v.nbr with
    | some o => { o with epoch := 0 } != { b with epoch := 0 }
    | none => true
  let s := s.setSport p { v with nbr := some b }
  let s := if changed then s.raiseEs 484 else s
  let s := if b.fabric != s.spr.fabric then s.bump R.SPR_FOREIGN_BEACONS else s
  s.settleUpstream

/-! ## Channels (R702 to R705) -/

/-- Spar channel c. -/
def State.schan (s : State) (c : Nat) : SparChan := lookupD s.spr.chans c {}

/-- s with Spar channel c replaced. -/
def State.setSchan (s : State) (c : Nat) (v : SparChan) : State := { s with spr := { s.spr with chans := insertKey s.spr.chans c v } }

/-- Whether side a of internal channel c is the engine's (MID 0x1041), where the channel is bound to it (R702). -/
def State.engineSide (s : State) (c : Nat) : Option Bool :=
  if !s.rfb (F.BUOY_BIND_valid c) then none
  else if s.rf (F.BUOY_BIND_mid_a c) = 0x1041 then some true
  else if s.rf (F.BUOY_BIND_mid_b c) = 0x1041 then some false
  else none

/-- The SSID, the buffer requester and the MID of a channel's local master; none for a MID without state space (R704). -/
def State.localMaster (s : State) (mid : Nat) : Option (Nat × Nat) :=
  if 0x800 ≤ mid && mid < 0x1000 then
    let k := (mid - 0x800) / 128
    some (((lookupD (s.cl k).progs (s.cl k).bank {}).ssid), 0x810 + k)
  else if 0x1010 ≤ mid && mid < 0x1020 then some (0x800 + (mid - 0x1010), 0x820 + (mid - 0x1010))
  else if 0x1000 ≤ mid && mid ≤ 0x1003 then some (0x810, 0x840)
  else none

/-- A completion word (R705): op, status, state fault kind, and the request's lines - 1. -/
def completionWord (w status kind low : Nat) : Nat := field w 63 60 * 2 ^ 60 + status * 2 ^ 56 + kind % 16 * 2 ^ 52 + low % 256

/-- A request under grant g waits for its page. -/
def SparHeld.under (g : Nat) : SparHeld → Bool
  | .request p _ => decide (field (leNat (slice p.body 0 8)) 59 52 = g)
  | .response _ => false
  | .ask _ _ _ => false

/-- A revoke answers once no request under its grant is in flight (R706). -/
def State.settleGrants (s : State) : State :=
  (s.cmds.pend.filter (·.cmd.opcode = 0x0D04)).foldl
    (fun s p => if s.spr.held.any (SparHeld.under (p.cmd.p 0 % 256)) then s else s.finish p 0 0 []) s

/-- The device leaves the fabric once none of its requests is in flight: it serves and relays no longer and sends Beacons with `joined` 0
(R696). -/
def State.settleLeave (s : State) : State :=
  if !s.spr.leaving || s.spr.chans.any (fun e => e.2.request.isSome) then s
  else
    let s := { s with spr := { s.spr with joined := false, leaving := false, held := [] } }
    (((List.range 4).foldl State.sendBeacon s.settleUpstream).finishOp 0x0D01 0 0 []).settleGrants

/-- A channel's request completes: its completion word arrives in the local master's receive word (R705). What stands for the lines of a
request that names none is left open (log entry 2). -/
def State.sparComplete (s : State) (c w status kind : Nat) : State :=
  let s := s.setSchan c { s.schan c with request := none }
  let (low, s) := if field w 63 60 < 2 then (w, s) else s.draw
  let s := match s.engineSide c with
    | some a => s.buoyDeliver (.int c) (!a) (completionWord w status kind low)
    | none => s
  s.settleLeave

/-- Lines of a state space are read or written in order: a fault kind, or the bytes. -/
def State.readLines (s : State) (ssid off : Nat) : Nat → Except Nat (List Byte) × State
  | 0 => (.ok [], s)
  | n + 1 =>
    let (r, s) := s.ssRead ssid off 64
    match r with
    | .error k => (.error k, s)
    | .ok bs =>
      let (t, s) := s.readLines ssid (off + 64) n
      match t with
      | .error k => (.error k, s)
      | .ok rest => (.ok (bs ++ rest), s)

/-- Lines written in order: the fault kind at which they stop, or none. -/
def State.writeLines (s : State) (ssid off : Nat) (bs : List Byte) : Nat → Option Nat × State
  | 0 => (none, s)
  | n + 1 =>
    let (r, s) := s.ssWrite ssid off (slice bs 0 64)
    match r with
    | some k => (some k, s)
    | none => s.writeLines ssid (off + 64) (bs.drop 64) n

/-- A page of the n lines of a state space from an offset cannot be reached yet (R37, R707). -/
def State.linesWait (s : State) (ssid off n : Nat) : Bool :=
  (List.range ((off % 4096 + n * 64 + 4095) / 4096)).any fun k => s.reachWaits ssid ((off / 4096 + k) * 4096)

/-- Device-virtual offset of a request's local lines (R704). -/
def State.localLine (s : State) (c w : Nat) : Nat := s.reg (R.SPR_CHAN_BASE c) % 2 ^ 22 * 2 ^ 21 + field w 29 8 * 64

/-- A packet of channel c with a class, mailbox sequence and body, to the remote of its map (R691). -/
def State.chanPkt (s : State) (c cls mid mseq : Nat) (body : List Byte) : SparPkt :=
  { cls := cls, hops := 0, dst := s.rf (F.SPR_CHAN_MAP_address c), src := s.spr.addr, epoch := 0, flow := 0, mid := mid, mseq := mseq,
    dstChan := s.rf (F.SPR_CHAN_MAP_remote_chan c), srcChan := c, body := body }

/-- A request's packet is sent and its channel waits for the response, or it completes NO_ROUTE (R696, R698). -/
def State.sparAsk (s : State) (c w : Nat) (p : SparPkt) : State :=
  let (ok, s) := s.sparSend p
  if ok then s.setSchan c { s.schan c with request := some w } else s.sparComplete c w 1 0

/-- s with one thing more that waits for a page. -/
def State.sparHold (s : State) (h : SparHeld) : State := { s with spr := { s.spr with held := s.spr.held ++ [h] } }

/-- A write request sends its local lines, or completes LOCAL_FAULT where they cannot be read (R704, R705). -/
def State.sparAskWrite (s : State) (c mid w ssid : Nat) : State :=
  let (r, s) := s.readLines ssid (s.localLine c w) (w % 256 + 1)
  match r with
  | .error k => s.sparComplete c w 5 k
  | .ok bs => s.sparAsk c w (s.chanPkt c 3 mid (s.schan c).mseq (leBytes 8 w ++ bs))

/-- A request word of channel c runs (R704). -/
def State.sparRequest (s : State) (c mid w : Nat) : State :=
  let op := field w 63 60
  let n := ((s.schan c).mseq + 1) % 256
  let s := s.setSchan c { s.schan c with mseq := n }
  if !s.spr.joined || s.spr.leaving then s.sparComplete c w 1 0
  else match s.localMaster mid with
    | none => s.sparComplete c w 5 2
    | some (ssid, requester) =>
      if op = 0 then s.sparAsk c w (s.chanPkt c 3 mid n (leBytes 8 w))
      else if op = 1 then
        if s.linesWait ssid (s.localLine c w) (w % 256 + 1) then
          let s := s.setSchan c { s.schan c with request := some w }
          s.sparHold (.ask c mid w)
        else s.sparAskWrite c mid w ssid
      else if op = 2 then
        let ptr := field w 31 0
        let len := field w 59 46
        let alone := match lookup s.bpm.bufs ptr with
          | some b => b.holders.isEmpty
          | none => false
        if (s.ptrFault ptr requester false true).isSome || !alone || len < 14 || len > 9600 || len > classBytes (ptrClass ptr)
            || field w 45 32 != 0 then s.sparComplete c w 5 0
        else
          let bytes := if ptrTier ptr = 0 then Mem.bytes s.mem.pbuf (ptrByte ptr) len else Mem.bytes s.mem.ddr (4 * 2 ^ 30 + ptrByte ptr) len
          let (r, s) := s.sparLaunch (s.chanPkt c 5 mid n bytes)
          match r with
          | none => s.sparComplete c w 1 0
          | some (port, q) =>
            let (ok, s) := s.transferBuf ptr requester (0x808 + port) mid
            if !ok then s.sparComplete c w 5 0
            else (s.setSchan c { s.schan c with request := some w }).sparQueue port (sparFlits q (some ptr))
      else s.sparComplete c w 5 0

/-- The body of a mailbox packet: its kind (0 a word, 1 doorbell bits, 2 the word has been read, 3 it is rejected) and a value (log
entry 50). -/
def mailBody (kind v : Nat) : List Byte := leBytes 8 kind ++ leBytes 8 v

/-- The word of a mailbox channel leaves for the remote; with no route it waits for the next resend (R696, R703). -/
def State.sparMail (s : State) (c mid w : Nat) : State :=
  let (ok, s) := s.sparSend (s.chanPkt c 2 mid (s.schan c).mseq (mailBody 0 w))
  s.setSchan c { s.schan c with sent := (s.schan c).sent || ok, rejected := !ok }

/-- The engine's work on Spar channel c: a word to take, doorbell bits to carry, a word that the local master has read (R702 to R704). -/
def State.sparKick (s : State) (c : Nat) : State :=
  match (if s.rfb (F.SPR_CHAN_MAP_valid c) then s.engineSide c else none) with
  | none => s
  | some a =>
    let mid := s.sideMid (.int c) (!a)
    let mine := (s.chan (.int c)).side a
    let theirs := (s.chan (.int c)).side !a
    if s.rfb (F.SPR_CHAN_MAP_request_mode c) then
      if mine.rxFull && (s.schan c).request.isNone && !theirs.rxFull then
        let (w, s) := s.buoyTake (.int c) a true
        s.sparRequest c mid w
      else s
    else if !s.spr.joined || s.spr.leaving then s
    else
      let s := match (s.schan c).owed with
        | some q =>
          if theirs.rxFull then s
          else
            let (_, s) := s.sparSend { q with dst := q.src, dstChan := q.srcChan, srcChan := c, mid := mid, body := mailBody 2 0 }
            s.setSchan c { s.schan c with owed := none }
        | none => s
      let s := if mine.dbRecv = 0 then s else
        let (ok, s) := s.sparSend (s.chanPkt c 2 mid 0 (mailBody 1 mine.dbRecv))
        if ok then s.setChan (.int c) ((s.chan (.int c)).setSide a { (s.chan (.int c)).side a with dbRecv := 0 }) else s
      if mine.rxFull && !(s.schan c).sent && !(s.schan c).rejected then
        (s.setSchan c { s.schan c with mseq := ((s.schan c).mseq + 1) % 256 }).sparMail c mid mine.rx
      else s

/-- The engine looks at a channel after a mailbox operation. -/
def State.sparAfter (s : State) (c : ChanId) : State :=
  match c with
  | .int n => s.sparKick n
  | .inst _ => s

/-- A word sent on a channel, with what the Spar engine does of it (R257, R702). -/
def State.mailSend (s : State) (c : ChanId) (fromA : Bool) (w : Nat) : State := (s.buoySend c fromA w).sparAfter c

/-- Doorbell bits sent on a channel, with what the Spar engine does of them. -/
def State.mailRing (s : State) (c : ChanId) (toA : Bool) (bits : Nat) : State := (s.buoyRing c toA bits).sparAfter c

/-- A channel's receive word is read, with what the Spar engine does then (R258, R703, R704). -/
def State.mailTake (s : State) (c : ChanId) (a taken : Bool) : Nat × State :=
  let (w, s) := s.buoyTake c a taken
  (w, s.sparAfter c)

/-- A channel's word is withdrawn; one that has left for a remote device no longer can be (R259, R703). -/
def State.mailWithdraw (s : State) (c : ChanId) (fromA : Bool) : State :=
  match c with
  | .inst i => (s.buoyWithdraw c fromA).keeperNext i
  | .int n =>
    let v := s.chan c
    if (s.schan n).sent && s.engineSide n == some (!fromA) then
      s.setChan c (v.setSide fromA { v.side fromA with tooLate := true })
    else (s.buoyWithdraw c fromA).setSchan n { s.schan n with rejected := false }

/-- BUOY_FORCE_CLEAR clears the word that a Spar channel holds as well (R271, R703). -/
def State.mailForceClear (s : State) (c : ChanId) : State :=
  let s := s.buoyForceClear c
  match c with
  | .inst i => s.keeperNext i
  | .int n => if (lookup s.spr.chans n).isSome then s.setSchan n { s.schan n with sent := false, rejected := false, owed := none } else s

/-! ## Packets that arrive -/

/-- A mailbox packet (R703). -/
def State.takeMail (s : State) (p : SparPkt) : State :=
  let c := p.dstChan
  let kind := leNat (slice p.body 0 8)
  let v := leNat (slice p.body 8 8)
  let ok := s.rfb (F.SPR_CHAN_MAP_valid c) && !s.rfb (F.SPR_CHAN_MAP_request_mode c) && s.rf (F.SPR_CHAN_MAP_address c) = p.src
    && s.rf (F.SPR_CHAN_MAP_remote_chan c) = p.srcChan
  let x := s.schan c
  match (if ok then s.engineSide c else none) with
  | none =>
    if kind < 2 then
      ((s.bump R.SPR_MBX_REJECTED).sparSend { p with dst := p.src, dstChan := p.srcChan, srcChan := c, body := mailBody (if kind = 0 then 3 else 4) 0 }).2
    else s
  | some a =>
    match kind with
    | 0 =>
      if x.lastIn = some p.mseq then s
      else if ((s.chan (.int c)).side !a).rxFull then
        ((s.bump R.SPR_MBX_REJECTED).sparSend { p with dst := p.src, dstChan := p.srcChan, srcChan := c, body := mailBody 3 0 }).2
      else (s.setSchan c { x with lastIn := some p.mseq, owed := some p }).buoyDeliver (.int c) (!a) v
    | 1 => s.buoyRing (.int c) (!a) (v % 2 ^ 32)
    | 2 =>
      if x.mseq = p.mseq && x.sent then
        let (_, s) := s.buoyTake (.int c) a true
        (s.setSchan c { x with sent := false, rejected := false }).sparKick c
      else s
    | 3 => if x.mseq = p.mseq && x.sent then s.setSchan c { x with rejected := true } else s
    | _ => s

/-- The answer to a request or a frame. -/
def State.sparReply (s : State) (p : SparPkt) (w status kind : Nat) (data : List Byte) : State :=
  (s.sparSend { p with
    cls := 4, dst := p.src, dstChan := p.srcChan, srcChan := p.dstChan, mid := 0x1041,
    body := leBytes 8 (completionWord w status kind w) ++ data }).2

/-- A request that grant g admits runs through the pager (R707), or waits where a page that it names cannot be reached (R37). -/
def State.runRequest (s : State) (p : SparPkt) (g : SparGrant) : State :=
  let w := leNat (slice p.body 0 8)
  let lines := w % 256 + 1
  let off := g.offset * 4096 + field w 51 30 * 64
  if s.linesWait g.ssid off lines then s.sparHold (.request p g)
  else if field w 63 60 = 1 then
    let (r, s) := s.writeLines g.ssid off (p.body.drop 8) lines
    match r with
    | some k => s.sparReply p w 3 k []
    | none => s.sparReply p w 0 0 []
  else
    let (r, s) := s.readLines g.ssid off lines
    match r with
    | .error k => s.sparReply p w 3 k []
    | .ok bs => s.sparReply p w 0 0 bs

/-- A request is checked against its grant and run through the pager (R707). -/
def State.takeRequest (s : State) (p : SparPkt) : State :=
  let w := leNat (slice p.body 0 8)
  let lines := w % 256 + 1
  let denied := fun (s : State) => ((s.bump R.SPR_GRANT_DENIED).raiseLimited 488).sparReply p w 2 0 []
  match lookup s.spr.grants (field w 59 52) with
  | none => denied s
  | some g =>
    let at_ := field w 51 30
    let write := field w 63 60 = 1
    if (p.src &&& g.addrMask) != (g.addr &&& g.addrMask) || (p.mid &&& g.midMask) != (g.mid &&& g.midMask)
        || !(if write then g.write else g.read) || at_ + lines > g.pages * 64 then denied s
    else s.runRequest p g

/-- A response completes its channel's request, or is late (R705, R709). -/
def State.takeResponse (s : State) (p : SparPkt) : State :=
  let c := p.dstChan
  let x := s.schan c
  match (if x.mseq = p.mseq then x.request else none) with
  | none => s.bump R.SPR_LATE_RESPONSES
  | some w =>
    let r := leNat (slice p.body 0 8)
    let status := field r 59 56
    let kind := field r 55 52
    if field w 63 60 = 0 && status = 0 then
      match (s.engineSide c).bind fun a => s.localMaster (s.sideMid (.int c) (!a)) with
      | none => s.sparComplete c w 5 2
      | some (ssid, _) =>
        if s.linesWait ssid (s.localLine c w) (w % 256 + 1) then s.sparHold (.response p)
        else
        let (f, s) := s.writeLines ssid (s.localLine c w) (p.body.drop 8) (w % 256 + 1)
        match f with
        | some k => s.sparComplete c w 5 k
        | none => s.sparComplete c w 0 0
    else s.sparComplete c w status kind

/-- What waits for a page is tried again (R707); what still waits is held anew. -/
def State.sparServe (s : State) : State :=
  let hs := s.spr.held
  let s := hs.foldl
    (fun s h => match h with
      | .request p g => s.runRequest p g
      | .response p => s.takeResponse p
      | .ask c mid w =>
        if (s.schan c).request != some w then s
        else match s.localMaster mid with
          | none => s.sparComplete c w 5 2
          | some (ssid, _) =>
            if s.linesWait ssid (s.localLine c w) (w % 256 + 1) then s.sparHold h
            else s.sparAskWrite c mid w ssid) { s with spr := { s.spr with held := [] } }
  s.settleGrants

/-- A frame packet is released whole into ingress stage 4 (R708). -/
def State.takeFrame (s : State) (port : Nat) (p : SparPkt) : State :=
  let w := 2 * 2 ^ 60
  let (ptr, s) := s.allocBuf (0x808 + port) p.body.length
  match ptr with
  | none => s.sparReply p w 6 0 []
  | some ptr =>
    let s := (s.storeBuf ptr p.body).sparReply p w 0 0 []
    s.ingress {
      ptr := ptr, data := p.body, source := 8 + port, mark := 0x8000 + p.src, ts := s.now, tsUncertain := s.timeUncertain,
      info := { length := p.body.length } }

/-- A time packet of a follower is answered: the two-way exchange's times and then the send time, each 10 bytes of seconds and
nanoseconds (R711; log entry 50). -/
def State.takeTime (s : State) (port : Nat) (p : SparPkt) : State :=
  if leNat (slice p.body 0 8) != 0 then s
  else
    let rx := timeAdd s.now (-(s.sparDelay port false))
    let tx := timeAdd s.now (s.sparDelay port true)
    let q := { p with dst := p.src, src := s.spr.addr, dstChan := 0, srcChan := 0, hops := 0 }
    let s := s.sparQueue port (sparFlits { q with body := leBytes 8 1 ++ leBytes 16 rx ++ leBytes 16 tx } none)
    s.sparQueue port (sparFlits { q with body := leBytes 8 2 ++ leBytes 16 tx } none)

/-- A whole packet for this device has arrived on port p. -/
def State.sparTake (s : State) (port : Nat) (p : SparPkt) : State :=
  if p.cls = 0 then s.takeBeacon port (beaconOf p.body)
  else if !s.spr.joined || !s.carries port then s
  else if p.cls = 1 then s.takeTime port p
  else if p.dst != s.spr.addr then s
  else match p.cls with
    | 2 => s.takeMail p
    | 3 => s.takeRequest p
    | 4 => s.takeResponse p
    | 5 => s.takeFrame port p
    | _ => s

/-! ## Flits that arrive (R690, R692) -/

/-- Where a packet goes whose header has arrived on port p (R692, R697): hops never pass 14 on the way. -/
def State.sparPath (s : State) (port : Nat) (h : SparPkt) : SparPath × State :=
  if h.cls < 2 then (.here, s)
  else if !s.spr.joined || !s.carries port then (.drop, s)
  else if h.dst = s.spr.addr then (.here, s)
  else if h.hops + 1 ≥ 15 then (.drop, s.bump R.SPR_HOP_DROPS)
  else
    let (q, s) := s.sparRoute h.epoch h.dst h.flow
    match q with
    | some q => (.out q, s)
    | none => (.drop, s)

/-- The first flit of a relayed packet, with one more in hops (R692). -/
def hopOn (payload : List Byte) : List Byte :=
  match payload with
  | a :: b :: c :: d :: rest => a :: b :: c :: (d + 1#8) :: rest
  | x => x

/-- A flit has been accepted on port p: it is delivered or relayed, and its credit returned when it leaves (R689, R692). -/
def State.flitBody (s : State) (port : Nat) (f : SparFlit) : State :=
  let here := lookup (s.sport port).arriving f.vc
  let (path, sofar, s) : SparPath × List Byte × State :=
    if f.first then
      let (x, s) := s.sparPath port (sparParse f.payload)
      (x, [], s)
    else match here with
      | some (x, bs) => (x, bs, s)
      | none => (.drop, [], s)
  let v := s.sport port
  let whole := sofar ++ f.payload
  let s := s.setSport port { v with
    arriving := if f.last then eraseKey v.arriving f.vc else insertKey v.arriving f.vc (path, if path == .here then whole else []) }
  match path with
  | .drop => s.sparAck port f.vc 1
  | .here =>
    let s := s.sparAck port f.vc 1
    if f.last then s.sparTake port (sparParse whole) else s
  | .out q =>
    let payload := if f.first then hopOn f.payload else f.payload
    let g : SparFlit := { f with payload := payload, source := some port, buf := none }
    (s.sparAck port f.vc 0).sparQueue q [g]

/-- Every flit not acknowledged is replayed; the sixteenth replay retrains the link (R690). -/
def State.sparReplay (s : State) (p : Nat) : State :=
  let v := s.sport p
  if !v.up || v.kept.isEmpty then s
  else if v.replays + 1 ≥ 16 then
    let s := (s.bump R.SPR_REPLAYS).sparFault p 0x03
    (((((s.sparDown p).raiseEs (480 + p)).raiseEs 491)).sparFault p 0x04).settleUpstream
  else
    let s := s.setSport p { v with replays := v.replays + 1 }
    let s := (List.range v.kept.length).foldl
      (fun s k => s.putFlit p (v.kept.getD k idleFlit) (v.acked + 1 + k) 0 0) s
    (s.bump R.SPR_REPLAYS).sparFault p 0x03

/-- A flit that is not accepted: `nak` is set, and sent once (R690). -/
def State.sparNak (s : State) (p : Nat) : State :=
  let v := s.sport p
  if v.nak then s else (s.setSport p { v with nak := true }).sparAck p 0 0

/-- A flit arrives on port p (R688 to R690). -/
def State.flitIn (s : State) (p : Nat) (ws : List Word) : State :=
  if !(s.sport p).up then s
  else if ws.length != 35 || wd ws 34 != (crc32c (wordsBytes (ws.take 34))).toNat then s.sparNak p
  else
    let w0 := wd ws 0
    let vc := field w0 31 30
    let first := bitAt w0 29
    let last := bitAt w0 28
    let s := s.sparAcked p (field w0 15 4)
    let v := s.sport p
    let back := field (wd ws 1) 31 30
    let s := s.setSport p { v with credits := v.credits.set back (v.credits.getD back 0 + field (wd ws 1) 29 20) }
    let s := if bitAt w0 3 then s.sparReplay p else s
    let s := s.sparPump p (s.sport p).waiting.length
    let v := s.sport p
    if !v.up then s
    else if vc = 0 && !first && !last then s
    else if field w0 27 16 != v.rxSeq then s.sparNak p
    else
      let s := s.setSport p { v with rxSeq := (v.rxSeq + 1) % 4096, nak := false }
      s.flitBody p { vc := vc, first := first, last := last, payload := wordsBytes ((ws.drop 2).take 32) }

/-! ## Links (R687, R718) -/

/-- Lanes of port p that are out of service (R687, R743). -/
def State.sparLost (s : State) (p : Nat) : Nat := ((sparLanes p).filter s.isOut).length

/-- The link of port p comes up or goes down (R718); with both lanes out of service it stays down (R724). -/
def State.sparLink (s : State) (p : Nat) (up : Bool) : State :=
  let v := s.sport p
  if v.up = up || (up && s.sparLost p = 2) then s
  else
    let s := if up then s.setSport p (v.restart true) else s.sparDown p
    (s.raiseEs (480 + p)).settleUpstream

/-- The width of port p follows its lanes: with one out of service it goes on over the other, the flits not acknowledged are replayed
and the degrade is counted; with both it is down (R687, R724). -/
def State.sparRelane (s : State) (p : Nat) : State :=
  let v := s.sport p
  let n := s.sparLost p
  let s := s.setSport p { v with degraded := n != 0 }
  if n = 2 then s.sparLink p false
  else if n = 1 && !v.degraded then
    (List.range v.kept.length).foldl (fun s k => s.putFlit p (v.kept.getD k idleFlit) (v.acked + 1 + k) 0 0) (s.bump R.SPR_DEGRADES)
  else s

end Sys2Proof.Machine
end

