-- ==== Sys2Proof/Machine/Events.lean ====
section
/-! DEFINITION. Meanings of the event controller, host vectors and Buoy mailboxes (R243 to R274). -/

namespace Sys2Proof.Machine

/-! ## Event sources, targets and claims -/

/-- Sources that nothing in the device raises (R95, R177, R241, R387, R429, R557, R591, R610, R647, R718, R739, R771). -/
def neverRaised (n : Nat) : Bool :=
  [(17, 31), (40, 63), (78, 79), (230, 255), (262, 271), (279, 287), (392, 399), (405, 415), (431, 431), (440, 447), (492, 495), (511, 511)].any
    fun r => decide (r.1 ≤ n) && decide (n ≤ r.2)

/-- EVENT_SOURCE_EDGE (R243): a source that is never raised has no edge. -/
def execEventSourceEdge (source : BitVec 9) (s : State) : Host.Outcome State Fault Refusal :=
  .next (if neverRaised source.toNat then s else s.raiseEs source.toNat)

/-- EVC_SRC_FORCE (R244). -/
def execEvcSrcForce (mid : BitVec 13) (source : BitVec 9) (s : State) : Host.Outcome State Fault Refusal :=
  .next (s.gatedWrite mid.toNat (R.EVC_SRC_CTL source.toNat) fun s => s.raiseEs source.toNat)

/-- Why a source enable is refused (R246). -/
def srcFault (mask : Nat) : Option Nat :=
  if mask / 2 ^ 20 != 0 then some 0x0401 else if mask = 0 then some 0x0402 else none

/-- A write of `enable` of a source (R246). -/
def State.srcEnable (s : State) (n : Nat) (on : Bool) : State :=
  if !on then (s.setF (F.EVC_SRC_CTL_enable n) 0).settleLines
  else match srcFault (s.reg (R.EVC_SRC_MASK n)) with
    | some r => (s.setF (F.EVC_SRC_CTL_enable n) 0).setReg R.EVC_SRC_REASON (r * 2 ^ 16 + n)
    | none => (s.setF (F.EVC_SRC_CTL_enable n) 1).settleLines

/-- EVC_SRC_ENABLE (R246). -/
def execEvcSrcEnable (mid : BitVec 13) (source : BitVec 9) (on : Bool) (s : State) : Host.Outcome State Fault Refusal :=
  .next (s.gatedWrite mid.toNat (R.EVC_SRC_CTL source.toNat) fun s => s.srcEnable source.toNat on)

/-- Pending bits are cleared by software (R244). -/
def State.clearPending (s : State) (k bits : Nat) : State :=
  let w := s.reg (R.EVC_PENDING k)
  (s.setReg (R.EVC_PENDING k) (w - (w &&& bits))).settleLines

/-- EVC_PENDING_CLEAR (R244). -/
def execEvcPendingClear (mid : BitVec 13) (k : Fin 16) (bits : Word) (s : State) : Host.Outcome State Fault Refusal :=
  .next (s.gatedWrite mid.toNat (R.EVC_PENDING k.val) fun s => s.clearPending k.val bits.toNat)

/-- A claim by target t (R247): the source, or the spurious number. -/
def State.claim (s : State) (t : Nat) : Nat × State :=
  match s.claimFor t with
  | some n => (n, s.clearPending (n / 32) (2 ^ (n % 32)))
  | none => (0xFFFF, s.bump R.EVC_SPURIOUS)

/-- A master is target t's own (R249): the Keeper core of R86, or the supervisor. -/
def State.ownsTarget (s : State) (t mid : Nat) : Bool :=
  if t < 4 then s.sameMaster (0x1000 + t) mid else t < 20 && mid = 0x800 + (t - 4) * 128

/-- A read of EVC_CLAIM_t by a master (R247, R249). -/
def State.claimRead (s : State) (mid t : Nat) : Nat × State := if s.ownsTarget t mid then s.claim t else (0xFFFF, s)

/-- EVC_CLAIM_READ (R247): a supervisor reads it through its cluster's alias, other masters through the control window. -/
def execEvcClaimRead (mid : BitVec 13) (t : Fin 32) (s : State) : Host.Outcome State Fault Refusal :=
  .next <|
    if s.ownsTarget t.val mid.toNat && 4 ≤ t.val then
      let (v, s) := s.claim t.val
      s.emit (.readData mid.toNat v)
    else s.gatedRead mid.toNat (R.EVC_CLAIM t.val) fun s => s.claimRead mid.toNat t.val

/-- TARGET_IDLE (R251): a Keeper core enters or leaves WFI. A supervisor's idleness is that of its thread. -/
def execTargetIdle (t : Fin 4) (idle : Bool) (s : State) : Host.Outcome State Fault Refusal :=
  let rest := s.evc.idle.filter (· != t.val)
  .next ({ s with evc := { s.evc with idle := if idle then t.val :: rest else rest } }).settleLines

/-- MODERATION_HOLD_EXPIRY (R251). -/
def execModerationHoldExpiry (t : Fin 32) (s : State) : Host.Outcome State Fault Refusal :=
  .next ({ s with evc := { s.evc with hold := s.evc.hold.filter (· != t.val) } }).settleLines

/-! ## Host vectors -/

/-- VECTOR_MODERATION_EXPIRY (R252): a held raise is sent and the timer restarts. -/
def execVectorModerationExpiry (iid : Fin 2048) (v : BitVec 11) (s : State) : Host.Outcome State Fault Refusal :=
  let x := s.vec iid.val v.toNat
  .next <|
    if !x.timer then s
    else if x.held then (s.setVec iid.val v.toNat { x with timer := false }).sendVec iid.val v.toNat
    else s.setVec iid.val v.toNat { x with timer := false }

/-- A write of a vector's idle hint (R253 to R255). -/
def State.hint (s : State) (i v : Nat) (idle : Bool) : State :=
  if v ≥ s.vectorQuota i then s.bump R.EVC_HINT_BAD
  else if !idle then s
  else
    let x := s.vec i v
    if x.held && (x.masked || !(s.fn i).msixEnable) then s.setVec i v { x with idle := true, held := false, pba := true }
    else if x.held then ((s.setVec i v { x with idle := false }).sendVec i v).bump R.EVC_BYPASS
    else s.setVec i v { x with idle := true }

/-- IDLE_HINT_WRITE (R254). -/
def execIdleHintWrite (iid : Fin 2048) (v : BitVec 11) (idle : Bool) (s : State) : Host.Outcome State Fault Refusal :=
  .next (if s.fnOpen iid.val then s.hint iid.val v.toNat idle else s)

/-- A vector is unmasked: one whose PBA bit is set is sent at once (R255). -/
def State.msixUnmask (s : State) (i v : Nat) : State :=
  let x := s.vec i v
  let s := s.setVec i v { x with masked := false }
  if x.pba && (s.fn i).msixEnable && decide (v < s.vectorQuota i) then s.sendVec i v else s

/-- MSIX_UNMASK (R255). -/
def execMsixUnmask (iid : Fin 2048) (v : BitVec 11) (s : State) : Host.Outcome State Fault Refusal :=
  .next (if s.fnOpen iid.val then s.msixUnmask iid.val v.toNat else s)

/-! ## Buoy -/

/-- The channel of an operand pair. -/
def chanOf (internal : Bool) (n : Nat) : ChanId := if internal then .int (n % 64) else .inst n

/-- A master's access of a Buoy channel: its side, a bad-master record (R263, R267), or a region's error count (R665). -/
def State.atChan (s : State) (mid : Nat) (c : ChanId) (body : Bool → State → State) : State :=
  if !s.masterOpen mid then s
  else match s.sideOf c mid with
    | some a => body a s
    | none => if 0x1010 ≤ mid && mid < 0x1020 then s.bump (R.LAN_MBX_ERRORS (mid - 0x1010)) else s.buoyBadMaster

/-- BUOY_SEND (R257). -/
def execBuoySend (mid : BitVec 13) (internal : Bool) (n : BitVec 11) (word : Dword) (s : State) :
    Host.Outcome State Fault Refusal :=
  let c := chanOf internal n.toNat
  .next (s.atChan mid.toNat c fun a s => s.mailSend c a word.toNat)

/-- A receive word is read and its flag clears or stays (R258): an instance's read frees Keeper to send the next word that it holds,
and Keeper answers what it reads. -/
def State.buoyRecv (s : State) (mid : Nat) (c : ChanId) (a low : Bool) : Nat × State :=
  let taken := !low && mid != 0x1040
  let (v, t) := s.buoyTake c a taken
  let full := ((s.chan c).side a).rxFull
  match c with
  | .inst i =>
    if !(taken && full) then (v, t) else if a then (v, t.keeperNext i) else (v, s.keeperRead i)
  | .int _ => (v, t.sparAfter c)

/-- A receive word is read by a master: all of it, or its lower half. -/
def State.buoyRead (s : State) (mid : Nat) (c : ChanId) (a low : Bool) : State :=
  let (v, s) := s.buoyRecv mid c a low
  s.emit (.readData mid (if low then v % 2 ^ 32 else v))

/-- BUOY_RECV_READ (R258): low says that only the lower half is read. -/
def execBuoyRecvRead (mid : BitVec 13) (internal : Bool) (n : BitVec 11) (low : Bool) (s : State) :
    Host.Outcome State Fault Refusal :=
  let c := chanOf internal n.toNat
  .next (s.atChan mid.toNat c fun a s => s.buoyRead mid.toNat c a low)

/-- BUOY_WITHDRAW (R259). -/
def execBuoyWithdraw (mid : BitVec 13) (internal : Bool) (n : BitVec 11) (s : State) : Host.Outcome State Fault Refusal :=
  let c := chanOf internal n.toNat
  .next (s.atChan mid.toNat c fun a s => s.mailWithdraw c a)

/-- BUOY_DB_SEND (R256). -/
def execBuoyDbSend (mid : BitVec 13) (internal : Bool) (n : BitVec 11) (bits : Word) (s : State) :
    Host.Outcome State Fault Refusal :=
  let c := chanOf internal n.toNat
  .next (s.atChan mid.toNat c fun a s => s.mailRing c (!a) bits.toNat)

/-- Received doorbell bits of one side are cleared. -/
def State.buoyDbClear (s : State) (c : ChanId) (a : Bool) (bits : Nat) : State :=
  let v := s.chan c
  let x := v.side a
  s.setChan c (v.setSide a { x with dbRecv := x.dbRecv - (x.dbRecv &&& bits) })

/-- BUOY_DB_RECV_CLEAR (R256). -/
def execBuoyDbRecvClear (mid : BitVec 13) (internal : Bool) (n : BitVec 11) (bits : Word) (s : State) :
    Host.Outcome State Fault Refusal :=
  let c := chanOf internal n.toNat
  .next (s.atChan mid.toNat c fun a s => s.buoyDbClear c a bits.toNat)

/-- A write of BUOY_VECTOR (R262); BUOY_STATUS.reason keeps the last refusal (R273). A vector for which the pool has
nothing left is refused as one outside the quota is (log entry 61). -/
def State.buoyVector (s : State) (i vector : Nat) (on : Bool) : State :=
  let v := s.chan (.inst i)
  if on && (decide (vector ≥ s.vectorQuota i) || s.vectorShort i vector) then
    s.setChan (.inst i) { v with vecEnable := false, vector := vector, reason := 0x0503 }
  else s.setChan (.inst i) { v with vecEnable := on, vector := vector }

/-- BUOY_VECTOR_ENABLE (R262). -/
def execBuoyVectorEnable (iid : Fin 2048) (vector : BitVec 16) (on : Bool) (s : State) : Host.Outcome State Fault Refusal :=
  .next (if s.fnOpen iid.val then s.buoyVector iid.val vector.toNat on else s)

/-- BUOY_FORCE_CLEAR (R271): only the active pair's write acts. -/
def execBuoyForceClear (mid : BitVec 13) (internal : Bool) (n : BitVec 11) (s : State) : Host.Outcome State Fault Refusal :=
  .next (s.gatedWrite mid.toNat R.BUOY_FORCE_CLEAR fun s =>
    if s.activeKeeper mid.toNat then (s.mailForceClear (chanOf internal n.toNat)).bump R.BUOY_FORCE_CLEARS else s)

end Sys2Proof.Machine
end

