-- ==== Sys2Proof/Machine/OpsChan.lean ====
section
/-! DEFINITION. DMA channels and Buoy channels as a master inside the device reaches them through an alias (R232, R240, R256, R461, R665). -/

namespace Sys2Proof.Machine

/-- A register's value after software writes v over old (R9, R10): RW fields take it, W1C fields clear where it has ones. -/
def fieldsWrite (locked : Bool) (fs : List RegField) (old v : Nat) : Nat :=
  fs.foldl
    (fun n f =>
      let x := field v f.hi f.lo
      let o := field n f.hi f.lo
      match f.acc with
      | .rw => putField n f.hi f.lo x
      | .rwl => if locked then n else putField n f.hi f.lo x
      | .w1c => putField n f.hi f.lo (o - (o &&& x))
      | _ => n) old

/-- A write of a register that has no effect beyond its own fields. -/
def State.plainWrite (s : State) (a v : Nat) (locked : Bool := false) : State :=
  match regDefAt a with
  | some (d, _) => s.setReg a (fieldsWrite locked d.fields (s.reg a) v)
  | none => s

/-! ## DMA channels -/

/-- A MID owns DMA channel n (R232). -/
def State.ownsDma (s : State) (mid n : Nat) : Bool := s.rfb (F.DMA_CH_OWNER_valid n) && s.rf (F.DMA_CH_OWNER_mid n) = mid

/-- A read of a register of channel n at an offset from its base (R240). -/
def State.dmaRegRead (s : State) (n off : Nat) : Nat := s.reg (R.DMA_CH_CTL n + off % 64 / 4 * 4)

/-- A write of a register of channel n (R233, R236, R240). -/
def State.dmaRegWrite (s : State) (n off v : Nat) : State :=
  let s := s.plainWrite (R.DMA_CH_CTL n + off % 64 / 4 * 4) v
  if off % 64 / 4 != 0 then s
  else
    let s := if bitAt v 31 then s.dmaStart n else s
    if bitAt v 30 then s.dmaAbort n else s

/-! ## Buoy channels -/

/-- BUOY_STATUS of one side (R257 to R259, R262). -/
def BuoyChan.status (v : BuoyChan) (a : Bool) : Nat :=
  let x := v.side a
  (if a then v.reason else 0) * 2 ^ 16 + b2n x.tooLate * 16 + b2n x.overrun * 4 + b2n x.rxFull * 2 + b2n (v.side !a).rxFull

/-- A 32-bit read of a channel's register by one side (R256, R258). -/
def State.chanRead (s : State) (c : ChanId) (a : Bool) (off : Nat) : Nat × State :=
  let v := s.chan c
  match off / 4 with
  | 2 => ((s.mailTake c a false).1 % 2 ^ 32, s)
  | 3 =>
    let (w, s) := s.mailTake c a true
    (w / 2 ^ 32, s)
  | 4 => (v.status a, s)
  | 5 => ((v.side a).dbMask, s)
  | 7 => ((v.side a).dbRecv, s)
  | 8 => (b2n v.vecEnable * 2 ^ 31 + v.vector, s)
  | _ => (0, s)

/-- A 32-bit write of a channel's register by one side (R256 to R259). -/
def State.chanWrite (s : State) (c : ChanId) (a : Bool) (off v : Nat) : State :=
  let ch := s.chan c
  let x := ch.side a
  match off / 4 with
  | 0 => s.setChan c (ch.setSide a { x with sendLo := v })
  | 1 => s.mailSend c a (v * 2 ^ 32 + x.sendLo)
  | 4 =>
    let s := s.setChan c (ch.setSide a { x with tooLate := x.tooLate && !bitAt v 4, overrun := x.overrun && !bitAt v 2 })
    if bitAt v 3 then s.mailWithdraw c a else s
  | 5 => s.setChan c (ch.setSide a { x with dbMask := v })
  | 6 => s.mailRing c (!a) v
  | 7 => s.buoyDbClear c a v
  | _ => s

end Sys2Proof.Machine
end

