-- ==== Sys2Proof/Machine/OpsImg.lean ====
section
/-! DEFINITION. Verification of signed images (R61 to R63, R82, R554). -/

namespace Sys2Proof.Machine

/-- MRAM offset of operator key slot k, 1 to 4 (R554). -/
def opKeyOffset (k : Nat) : Nat := 0x3000 + (k - 1) * 128

/-- The record of operator key slot k. -/
def State.opKey (s : State) (k : Nat) : List Word := Mem.words s.mem.mram (opKeyOffset k) 32

/-- The state of an operator key slot: 0 empty, 1 enrolled, 2 revoked; a record whose CRC fails counts as empty. -/
def State.opKeyState (s : State) (k : Nat) : Nat :=
  let r := s.opKey k
  if wd r 31 = (crc32c (wordsBytes (r.take 31))).toNat then field (wd r 0) 31 30 else 0

/-- The key hash of a key slot that may verify (R62, R63, R555). -/
def State.keyHash (s : State) (k : Nat) : Option (List Byte) :=
  if k = 0 then some Config.haldaelKeyHash
  else if k ≤ 4 && s.opKeyState k = 1 then some (wordsBytes ((s.opKey k).drop 2 |>.take 16))
  else none

/-- A signature block over a message verifies under a key slot (R61, R62). -/
def State.signed (s : State) (slot : Nat) (msg block : List Byte) : Bool :=
  let modulus := slice block 512 512
  let exponent := slice block 1024 4
  match s.keyHash slot with
  | some h => Config.sha512 (modulus ++ exponent) == h && Config.signatureChecks msg (slice block 0 512) modulus exponent
  | none => false

/-- A key slot may verify an image type (R63). -/
def slotServes (type slot : Nat) : Bool := if type ≤ 2 then slot = 0 else slot ≤ 4 && (slot != 0 || type = 3)

/-- Header word i of an image. -/
def imgWord (img : List Byte) (i : Nat) : Nat := leNat (slice img (4 * i) 4)

/-- CRC-32C of an image's body. -/
def imgBodyCrc (img : List Byte) : Word := crc32c ((img.drop 64).take (imgWord img 2))

/-- The fault of a header (R82 step 1). -/
def imgHeaderBad (type : Nat) (img : List Byte) : Bool :=
  let n := imgWord img 2
  imgWord img 0 != 0x4B5A494D || field (imgWord img 1) 31 24 != type || imgWord img 15 != (crc32c (slice img 0 60)).toNat || n = 0 || n % 64 != 0

/-- The running firmware is older than the version that an image needs (R93). -/
def State.fwTooOld (s : State) (major minor : Nat) : Bool :=
  decide (s.boot.fwMajor * 65536 + s.boot.fwMinor < major * 65536 + minor)

/-- The first fault of an image in the order of R82: its status, reason and result words. layout gives a fault of the type's own format;
word is the entry word that names the length. -/
def State.imageFault (s : State) (type : Nat) (img : List Byte) (layout : List Byte → Option Nat) (word : Nat) :
    Option (Nat × Nat × List Word) :=
  let n := imgWord img 2
  let slot := field (imgWord img 1) 23 16
  if imgHeaderBad type img then some (0x20, 0x0006, [])
  else match layout img with
    | some r => some (0x20, r, [])
    | none =>
      if img.length != 64 + n + 1088 then some (0x12, 0, [w32 word])
      else if !slotServes type slot || !s.signed slot (slice img 0 (64 + n)) (slice img (64 + n) 1088) then some (0x1A, 0, [])
      else if field (imgWord img 1) 15 0 < lookupD s.boot.fuses type 0 then some (0x20, 0x0007, [])
      else if s.fwTooOld (field (imgWord img 5) 31 16) (field (imgWord img 5) 15 0) then some (0x20, 0x0008, [])
      else none

/-- A body that needs an image to verify. -/
def withImage (s : State) (f : Option (Nat × Nat × List Word)) (body : Unit → Res) : Res :=
  match f with
  | some (st, r, ws) => .bad s st r ws
  | none => body ()

end Sys2Proof.Machine
end

