-- ==== Sys2Proof/Machine/OpsRv.lean ====
section
/-! DEFINITION. The RISC-V base that Clove threads run (R461, R474): expansion of compressed words, arithmetic, and the Clove extension's
encodings (R470). -/

namespace Sys2Proof.Machine

/-! ## Compressed words -/

/-- An I-type word. -/
def rvI (imm rs1 f3 rd op : Nat) : Nat := imm % 4096 * 2 ^ 20 + rs1 * 2 ^ 15 + f3 * 2 ^ 12 + rd * 2 ^ 7 + op

/-- An R-type word. -/
def rvR (f7 rs2 rs1 f3 rd op : Nat) : Nat := f7 * 2 ^ 25 + rs2 * 2 ^ 20 + rs1 * 2 ^ 15 + f3 * 2 ^ 12 + rd * 2 ^ 7 + op

/-- An S-type word. -/
def rvS (imm rs2 rs1 f3 op : Nat) : Nat :=
  field imm 11 5 * 2 ^ 25 + rs2 * 2 ^ 20 + rs1 * 2 ^ 15 + f3 * 2 ^ 12 + field imm 4 0 * 2 ^ 7 + op

/-- A B-type word. -/
def rvB (imm rs2 rs1 f3 : Nat) : Nat :=
  field imm 12 12 * 2 ^ 31 + field imm 10 5 * 2 ^ 25 + rs2 * 2 ^ 20 + rs1 * 2 ^ 15 + f3 * 2 ^ 12 + field imm 4 1 * 2 ^ 8
    + field imm 11 11 * 2 ^ 7 + 0x63

/-- A J-type word. -/
def rvJ (imm rd : Nat) : Nat :=
  field imm 20 20 * 2 ^ 31 + field imm 10 1 * 2 ^ 21 + field imm 11 11 * 2 ^ 20 + field imm 19 12 * 2 ^ 12 + rd * 2 ^ 7 + 0x6F

/-- n of w bits, sign-extended to 32 bits. -/
def sext (w n : Nat) : Nat := if bitAt n (w - 1) then n % 2 ^ w + (2 ^ 32 - 2 ^ w) else n % 2 ^ w

/-- The jump offset of C.J and C.JAL. -/
def cJump (h : Nat) : Nat :=
  sext 12 (field h 12 12 * 2 ^ 11 + field h 11 11 * 2 ^ 4 + field h 10 9 * 2 ^ 8 + field h 8 8 * 2 ^ 10 + field h 7 7 * 2 ^ 6
    + field h 6 6 * 2 ^ 7 + field h 5 3 * 2 + field h 2 2 * 2 ^ 5)

/-- The branch offset of C.BEQZ and C.BNEZ. -/
def cBranch (h : Nat) : Nat :=
  sext 9 (field h 12 12 * 2 ^ 8 + field h 11 10 * 2 ^ 3 + field h 6 5 * 2 ^ 6 + field h 4 3 * 2 + field h 2 2 * 2 ^ 5)

/-- Quadrant 0. -/
def expandC0 (h : Nat) : Option Nat :=
  let rd := 8 + field h 4 2
  let rs := 8 + field h 9 7
  let off := field h 12 10 * 8 + field h 6 6 * 4 + field h 5 5 * 64
  match field h 15 13 with
  | 0 =>
    let imm := field h 12 11 * 16 + field h 10 7 * 64 + field h 6 6 * 4 + field h 5 5 * 8
    if imm = 0 then none else some (rvI imm 2 0 rd 0x13)
  | 2 => some (rvI off rs 2 rd 0x03)
  | 6 => some (rvS off rd rs 2 0x23)
  | _ => none

/-- The arithmetic words of quadrant 1. -/
def expandCAlu (h : Nat) : Option Nat :=
  let rd := 8 + field h 9 7
  let rs := 8 + field h 4 2
  let imm := sext 6 (field h 12 12 * 32 + field h 6 2)
  match field h 11 10 with
  | 0 => if bitAt h 12 then none else some (rvI (field h 6 2) rd 5 rd 0x13)
  | 1 => if bitAt h 12 then none else some (rvI (0x400 + field h 6 2) rd 5 rd 0x13)
  | 2 => some (rvI imm rd 7 rd 0x13)
  | _ =>
    if bitAt h 12 then none
    else match field h 6 5 with
      | 0 => some (rvR 0x20 rs rd 0 rd 0x33)
      | 1 => some (rvR 0 rs rd 4 rd 0x33)
      | 2 => some (rvR 0 rs rd 6 rd 0x33)
      | _ => some (rvR 0 rs rd 7 rd 0x33)

/-- Quadrant 1. -/
def expandC1 (h : Nat) : Option Nat :=
  let rd := field h 11 7
  let imm := sext 6 (field h 12 12 * 32 + field h 6 2)
  match field h 15 13 with
  | 0 => some (rvI imm rd 0 rd 0x13)
  | 1 => some (rvJ (cJump h) 1)
  | 2 => some (rvI imm 0 0 rd 0x13)
  | 3 =>
    if rd = 2 then
      let x := sext 10 (field h 12 12 * 512 + field h 6 6 * 16 + field h 5 5 * 64 + field h 4 3 * 128 + field h 2 2 * 32)
      if x = 0 then none else some (rvI x 2 0 2 0x13)
    else if imm = 0 then none
    else some (imm % 2 ^ 20 * 2 ^ 12 + rd * 2 ^ 7 + 0x37)
  | 4 => expandCAlu h
  | 5 => some (rvJ (cJump h) 0)
  | 6 => some (rvB (cBranch h) 0 (8 + field h 9 7) 0)
  | _ => some (rvB (cBranch h) 0 (8 + field h 9 7) 1)

/-- Quadrant 2. -/
def expandC2 (h : Nat) : Option Nat :=
  let rd := field h 11 7
  let rs := field h 6 2
  match field h 15 13 with
  | 0 => if bitAt h 12 then none else some (rvI rs rd 1 rd 0x13)
  | 2 => if rd = 0 then none else some (rvI (field h 12 12 * 32 + field h 6 4 * 4 + field h 3 2 * 64) 2 2 rd 0x03)
  | 4 =>
    if !bitAt h 12 then
      if rs = 0 then (if rd = 0 then none else some (rvI 0 rd 0 0 0x67)) else some (rvR 0 rs 0 0 rd 0x33)
    else if rs = 0 then (if rd = 0 then some 0x00100073 else some (rvI 0 rd 0 1 0x67))
    else some (rvR 0 rs rd 0 rd 0x33)
  | 6 => some (rvS (field h 12 9 * 4 + field h 8 7 * 64) rs 2 2 0x23)
  | _ => none

/-- The 32-bit word for which a compressed word stands; none for a word that the published base reserves. -/
def expandC (h : Nat) : Option Nat :=
  match h % 4 with
  | 0 => expandC0 h
  | 1 => expandC1 h
  | 2 => expandC2 h
  | _ => none

/-! ## Arithmetic -/

/-- A register's value as a signed number. -/
def rvInt (n : Nat) : Int := (BitVec.ofNat 32 n).toInt

/-- A signed number as a register holds it. -/
def rvNat (i : Int) : Nat := (BitVec.ofInt 32 i).toNat

/-- OP and OP-IMM with funct7 0 or, where alt, 0x20. -/
def rvAlu (f3 : Nat) (alt : Bool) (a b : Nat) : Nat :=
  match f3 with
  | 0 => if alt then (a + 2 ^ 32 - b) % 2 ^ 32 else (a + b) % 2 ^ 32
  | 1 => a <<< (b % 32) % 2 ^ 32
  | 2 => b2n (decide (rvInt a < rvInt b))
  | 3 => b2n (decide (a < b))
  | 4 => a ^^^ b
  | 5 => if alt then rvNat (rvInt a >>> (b % 32)) else a >>> (b % 32)
  | 6 => a ||| b
  | _ => a &&& b

/-- The M extension. -/
def rvMul (f3 a b : Nat) : Nat :=
  match f3 with
  | 0 => a * b % 2 ^ 32
  | 1 => rvNat (rvInt a * rvInt b / 2 ^ 32)
  | 2 => rvNat (rvInt a * Int.ofNat b / 2 ^ 32)
  | 3 => a * b / 2 ^ 32
  | 4 => if b = 0 then 2 ^ 32 - 1 else rvNat ((rvInt a).tdiv (rvInt b))
  | 5 => if b = 0 then 2 ^ 32 - 1 else a / b
  | 6 => if b = 0 then a else rvNat ((rvInt a).tmod (rvInt b))
  | _ => if b = 0 then a else a % b

/-- A branch is taken; none for a funct3 that names none. -/
def rvBranch (f3 a b : Nat) : Option Bool :=
  match f3 with
  | 0 => some (a == b)
  | 1 => some (a != b)
  | 4 => some (decide (rvInt a < rvInt b))
  | 5 => some (decide (rvInt b ≤ rvInt a))
  | 6 => some (decide (a < b))
  | 7 => some (decide (b ≤ a))
  | _ => none

/-- Immediates of I, S, B and J words, as 32-bit values. -/
def immI (w : Nat) : Nat := sext 12 (field w 31 20)
def immS (w : Nat) : Nat := sext 12 (field w 31 25 * 32 + field w 11 7)
def immB (w : Nat) : Nat := sext 13 (field w 31 31 * 2 ^ 12 + field w 7 7 * 2 ^ 11 + field w 30 25 * 32 + field w 11 8 * 2)
def immJ (w : Nat) : Nat := sext 21 (field w 31 31 * 2 ^ 20 + field w 19 12 * 2 ^ 12 + field w 20 20 * 2 ^ 11 + field w 30 21 * 2)

/-! ## The Clove extension (R470, R471) -/

/-- The instructions that the table of commands names one by one, and the base with its CSR accesses. -/
inductive ClvOp where
  | pktLwbe | pktHead | pktLen | pktEmit | pktDrop | pktNew | tblEm | tblLpm | pgrPage | pgrLw | pgrSw | pgrAmoadd | pgrAmoswap | pgrPref
  | msgLock | msgUnlock | msgRd | msgWr | clvWait | clvDone | clvWake | bufAlloc | bufShare | bufRelease | bufFree | bufXfer
  | supNext | supAct | supFrel | supState | ecall | ebreak | base
  deriving DecidableEq, Repr

/-- The instruction of a funct3 and funct7 of the extension, with the register fields that it uses: rd, rs1, rs2. -/
def extOp (f3 f7 : Nat) : Option (ClvOp × Bool × Bool × Bool) :=
  match f3, f7 with
  | 0, 0 => some (.pktLwbe, true, true, false)
  | 0, 1 => some (.pktHead, false, true, false)
  | 0, 2 => some (.pktLen, false, true, false)
  | 0, 3 => some (.pktEmit, false, true, false)
  | 0, 4 => some (.pktDrop, false, false, false)
  | 0, 5 => some (.pktNew, false, true, true)
  | 1, 0 => some (.tblEm, true, true, true)
  | 1, 1 => some (.tblLpm, true, true, true)
  | 1, 2 => some (.pgrPage, false, true, false)
  | 1, 3 => some (.pgrLw, true, true, false)
  | 1, 4 => some (.pgrSw, false, true, true)
  | 1, 5 => some (.pgrAmoadd, true, true, true)
  | 1, 6 => some (.pgrAmoswap, true, true, true)
  | 1, 7 => some (.pgrPref, false, true, false)
  | 2, 0 => some (.msgLock, true, true, false)
  | 2, 1 => some (.msgUnlock, false, true, false)
  | 2, 2 => some (.msgRd, true, true, false)
  | 2, 3 => some (.msgWr, false, true, true)
  | 3, 0 => some (.clvWait, true, false, false)
  | 3, 1 => some (.clvDone, false, false, false)
  | 3, 2 => some (.clvWake, false, true, false)
  | 4, 0 => some (.bufAlloc, true, true, false)
  | 4, 1 => some (.bufShare, false, true, false)
  | 4, 2 => some (.bufRelease, false, true, false)
  | 4, 3 => some (.bufFree, false, true, false)
  | 4, 4 => some (.bufXfer, false, true, true)
  | 5, 0 => some (.supNext, true, true, false)
  | 5, 1 => some (.supAct, false, true, true)
  | 5, 2 => some (.supFrel, true, true, false)
  | 5, 3 => some (.supState, true, true, false)
  | _, _ => none

/-- Which row a word is. A word of the extension with an unused register field that is not 0, or with an unlisted combination, faults as a
base word does (R470). -/
def clvOpOf (w : Nat) : ClvOp :=
  if w = 0x00000073 then .ecall
  else if w = 0x00100073 then .ebreak
  else if w % 128 = 0x0B then
    match extOp (field w 14 12) (field w 31 25) with
    | some (op, rd, rs1, rs2) =>
      if (rd || field w 11 7 = 0) && (rs1 || field w 19 15 = 0) && (rs2 || field w 24 20 = 0) then op else .base
    | none => .base
  else .base

end Sys2Proof.Machine
end

