-- ==== Sys2Proof/Machine/OpsClv.lean ====
section
/-! DEFINITION. Operations of the Clove packet engines: memories of a thread, faults and notifications, message registers, dispatch and
emission, programs (R458 to R495). -/

namespace Sys2Proof.Machine

/-! ## Slices, descriptors, programs -/

/-- Bytes of a thread's slice (R458). -/
def Cluster.sliceSize (c : Cluster) : Nat := if c.wide then 16384 else 32768

/-- The address of thread n's slice (R462). -/
def Cluster.sliceBase (c : Cluster) (n : Nat) : Nat := 0x80000 + n % 16 * c.sliceSize

/-- A range lies in thread n's slice (R462). -/
def Cluster.inSlice (c : Cluster) (n a size : Nat) : Bool := decide (c.sliceBase n ≤ a) && decide (a + size ≤ c.sliceBase n + c.sliceSize)

/-- The place of an address of local memory in the cluster's memory. -/
def localOff (n a : Nat) : Nat := n / 16 * 2 ^ 18 + (a - 0x80000)

/-- Bytes of thread n's local memory. -/
def State.sliceRead (s : State) (k n a size : Nat) : List Byte := Mem.bytes (s.cl k).mem (localOff n a) size

/-- Bytes written to thread n's local memory. -/
def State.sliceWrite (s : State) (k n a : Nat) (bs : List Byte) : State :=
  let c := s.cl k
  s.setCl k { c with mem := Mem.write c.mem (localOff n a) bs }

/-- Thread n's slice is zeroed. -/
def State.zeroSlice (s : State) (k n : Nat) : State :=
  let c := s.cl k
  s.setCl k { c with mem := Mem.clear c.mem (localOff n (c.sliceBase n)) c.sliceSize }

/-- Word i of thread n's descriptor (R468). -/
def State.descWord (s : State) (k n i : Nat) : Nat := leNat (s.sliceRead k n ((s.cl k).sliceBase n + 4 * i) 4)

/-- s with word i of thread n's descriptor replaced. -/
def State.setDesc (s : State) (k n i v : Nat) : State := s.sliceWrite k n ((s.cl k).sliceBase n + 4 * i) (leBytes 4 v)

/-- The program in a bank of cluster k. -/
def State.prog (s : State) (k bank : Nat) : Program := lookupD (s.cl k).progs bank {}

/-- The program that thread n runs. -/
def State.progOf (s : State) (k n : Nat) : Program := s.prog k (s.th k n).bank

/-- The instance of a descriptor's metadata (R364). -/
def State.descInst (s : State) (k n : Nat) : Nat := beNat (s.sliceRead k n ((s.cl k).sliceBase n + 16) 2)

/-- clv_ssid (R463, R473). -/
def State.clvSsid (s : State) (k n : Nat) : Nat := if (s.progOf k n).perFrame then s.descInst k n else (s.progOf k n).ssid

/-- The buffer requester of cluster k (R344). -/
def clvReq (k : Nat) : Nat := 0x810 + k

/-- The MID of thread n of cluster k (R458). -/
def clvMid (k n : Nat) : Nat := 0x800 + k * 128 + n

/-! ## Trace (R753) -/

/-- Whether a record of an owner's trace buffer is in excess of the one that its cycle takes (R753): no other cycle has begun for certain
where device time stands as at the last record, and then it is left open (log entry 2). -/
def State.traceExcess (s : State) (owner : Nat) : Bool × State :=
  if lookup s.tst.traceAt owner = some s.now then
    let (v, s) := s.draw
    (v % 2 = 1, s)
  else (false, s)

/-- A record of cluster k's trace buffer, where thread n's bit is set; one in excess is counted (R753). -/
def State.clvTrace (s : State) (k n pc : Nat) (dispatch : Bool) : State :=
  if !bitAt (s.reg (R.TST_CLV_HALT (k * 8 + 4 + n / 32))) (n % 32) then s
  else
    let (excess, s) := s.traceExcess k
    if excess then s.bump R.TST_TRACE_DROPS
    else
    let p := s.reg (R.TST_CLV_TRACE_PTR k)
    let slot := p % 2048
    let now := timeSec s.now * 10 ^ 9 + timeNs s.now
    let w := pc + n * 2 ^ 32 + b2n dispatch * 2 ^ 39 + field now 31 8 * 2 ^ 40
    let buf := insertKey (lookupD s.tst.trace k []) slot (BitVec.ofNat 64 w)
    let s := { s with tst := { s.tst with trace := insertKey s.tst.trace k buf, traceAt := insertKey s.tst.traceAt k s.now } }
    s.setReg (R.TST_CLV_TRACE_PTR k) ((if slot = 2047 || bitAt p 31 then 2 ^ 31 else 0) + (slot + 1) % 2048)

/-! ## Notifications and faults (R475, R482 to R485) -/

/-- A notification is queued for the supervisor, or dropped (R482, R483). -/
def State.clvNotify (s : State) (k n cause detail addr : Nat) : State :=
  let c := s.cl k
  let t := s.th k n
  if c.notes.length ≥ 64 then
    let s := s.bump (R.CLV_NOTIFY_DROPS k)
    if c.noteLost then s else (s.setCl k { c with noteLost := true }).raiseEs (288 + 4 * k + 3)
  else
    let e := results [cause * 2 ^ 24 + detail * 2 ^ 16 + n, t.pc, addr, b2n t.frame.isSome * 2 ^ 31 + t.seq]
    (s.setCl k { c with notes := c.notes ++ [e] }).tryWake k 0

/-- A thread stops Faulted with a notification; the supervisor's own stop raises its source (R464, R485). -/
def State.clvStop (s : State) (k n cause detail addr : Nat) : State :=
  let s := (s.setTh k n { s.th k n with state := 5, result := none, returned := false }).clvNotify k n cause detail addr
  if n = 0 then s.raiseEs (288 + 4 * k) else s

/-- A fault of a code, with the state fault kind of code 4 (R475, R482). -/
def State.clvFault (s : State) (k n code kind addr : Nat) : State :=
  (s.bump (R.CLV_FAULTS k)).clvStop k n 0x01 (kind * 16 + code) addr

/-! ## Message registers (R476 to R478) -/

/-- Message register m of cluster k. -/
def State.msg (s : State) (k m : Nat) : MsgReg := lookupD (s.cl k).msgs m {}

/-- s with message register m replaced. -/
def State.setMsg (s : State) (k m : Nat) (v : MsgReg) : State :=
  let c := s.cl k
  s.setCl k { c with msgs := insertKey c.msgs m v }

/-- A locked register is released: its waiters are woken and, by other means than MSG.UNLOCK, it is poisoned (R477). -/
def State.releaseMsg (s : State) (k m : Nat) (poison : Bool) : State :=
  let v := s.msg k m
  if !v.locked then s
  else
    let s := s.setMsg k m { v with locked := false, poisoned := poison, waiters := [] }
    v.waiters.foldl (fun s w => s.latchWake k w 2) s

/-- A force-release: the value that SUP.FREL returns (R471, R477). -/
def State.forceRelease (s : State) (k m : Nat) : Nat × State :=
  let v := s.msg k m
  let word := b2n v.locked * 2 ^ 31 + b2n (v.locked && (s.th k v.owner).state = 6) * 2 ^ 30 + v.owner
  if v.locked then (word, (s.releaseMsg k m true).bump (R.CLV_FORCE_RELEASES k)) else (word, s)

/-- Every lock that a thread holds is released with poison (R477). -/
def State.releaseLocks (s : State) (k n : Nat) : State :=
  (numsWhere 64 fun m => (s.msg k m).locked && (s.msg k m).owner = n).foldl (fun s m => s.releaseMsg k m true) s

/-! ## Emission and order (R452, R472) -/

/-- A frame that a thread has emitted goes on, as the word of its PKT.EMIT says (R437, R472). -/
def State.cloveOut (s : State) (p : Pkt) (w : Nat) : State :=
  let p := { p with
    edits := {}, acts := [], lists := 0, owner := 0, reparses := 0, page := none, dest := .none, ordered := none, side := p.side
    info := { length := p.data.length } }
  if bitAt w 31 then s.egress { p with inst := w % 2 ^ 11 } else s.ingress { p with source := field w 19 16 }

/-- The first slot of the sequence of a mask and hash (R452). -/
def State.firstSlot (s : State) (mask hash : Nat) : Option (Nat × OrdSlot) :=
  s.clv.slots.find? fun e => e.2.mask = mask && e.2.hash = hash

/-- A slot is removed. -/
def State.dropSlot (s : State) (k : Nat) : State := { s with clv := { s.clv with slots := eraseKey s.clv.slots k } }

/-- The frames at the head of a sequence that have been emitted leave in dispatch order. -/
def State.orderOut (s : State) (mask hash : Nat) : Nat → State
  | 0 => s
  | fuel + 1 =>
    match s.firstSlot mask hash with
    | some (k, x) =>
      match x.out with
      | some (p, w) => ((s.dropSlot k).cloveOut p w).orderOut mask hash fuel
      | none => s
    | none => s

/-- The slot of a frame that will not be emitted is resolved (R452). -/
def State.resolveSlot (s : State) (o : Option Nat) : State :=
  match o.bind fun k => (lookup s.clv.slots k).map fun x => (k, x) with
  | some (k, x) => (s.dropSlot k).orderOut x.mask x.hash s.clv.slots.length
  | none => s

/-- A thread's frame leaves: at once, or in the order of its slot; one whose slot was skipped is late (R452). -/
def State.cloveEmit (s : State) (p : Pkt) (w : Nat) : State :=
  match p.ordered with
  | none => s.cloveOut p w
  | some k =>
    match lookup s.clv.slots k with
    | none => (s.bump R.SWX_ORDER_TIMEOUTS).cloveOut p w
    | some x =>
      ({ s with clv := { s.clv with slots := insertKey s.clv.slots k { x with out := some (p, w) } } }).orderOut x.mask x.hash
        (s.clv.slots.length + 1)

/-- A thread's frame is dropped with a counter (R471). -/
def State.cloveDrop (s : State) (k n counter : Nat) : State :=
  let t := s.th k n
  match t.frame with
  | none => s
  | some p => (((s.setTh k n { t with frame := none }).bump counter).dropPkt p 0x0E00).resolveSlot p.ordered

/-! ## Threads (R464, R484) -/

/-- The buffers of a thread that the cluster holds or owns are given up (R464, R469). -/
def State.giveUpBufs (s : State) (k n : Nat) : State :=
  let r := clvReq k
  let s := (s.th k n).bufs.foldl
    (fun s b => match lookup s.bpm.bufs b with
      | some x => if x.owner == some r then s.freeFrame b else s.putBuf b { x with holders := x.holders.erase r }
      | none => s) s
  s.setTh k n { s.th k n with bufs := [] }

/-- A thread becomes Free. -/
def State.freeThread (s : State) (k n : Nat) : State :=
  s.setTh k n { s.th k n with state := 1, frame := none, orig := none, latched := 0, armed := false, result := none, returned := false, bufs := [] }

/-- A thread is restarted: its frame dropped, its holds and its locks released; it is Free (R464). -/
def State.restartThread (s : State) (k n : Nat) : State :=
  (((s.cloveDrop k n (R.CLV_DROPS k)).giveUpBufs k n).releaseLocks k n).freeThread k n

/-- The supervisor starts at its entry of a bank (R460, R485). -/
def State.startSup (s : State) (k bank : Nat) : State :=
  let t := s.th k 0
  if t.state = 0 then s
  else
    let halted := t.state = 6
    s.setTh k 0 { t with
      state := if halted then 6 else 2, before := 2, pc := (s.prog k bank).supEntry, bank := bank, result := none, returned := false }

/-- The supervisor is restarted, with its locks released with poison (R485). -/
def State.restartSup (s : State) (k : Nat) : State := (s.releaseLocks k 0).startSup k (s.th k 0).bank

/-- Core c of cluster k is in ALL_WAIT (R484). -/
def State.inAllWait (s : State) (k c : Nat) : Bool :=
  let ts := (List.range 16).map fun j => s.th k (16 * c + j)
  ts.any (fun t => t.state = 4) && ts.all fun t => t.state < 2 || (t.state = 4 && !t.armed && t.wakeEn = 0)

/-- ALL_WAIT is raised by each core that enters it (R484). -/
def State.settleWaits (s : State) (k : Nat) : State :=
  (List.range 8).foldl
    (fun s c =>
      let cl := s.cl k
      let on := s.inAllWait k c
      if on = cl.allWait.contains c then s
      else if !on then s.setCl k { cl with allWait := cl.allWait.filter (· != c) }
      else
        let s := (s.setCl k { cl with allWait := c :: cl.allWait }).bump (R.CLV_ALL_WAITS k)
        if c = 0 && (s.th k 0).state = 4 then s.raiseEs (288 + 4 * k + 1) else s.clvNotify k 0 0x03 c 0) s

/-- Every dispatch thread of cluster k is Free or Absent. -/
def State.clvIdle (s : State) (k : Nat) : Bool := (List.range 127).all fun j => (s.th k (j + 1)).state < 2

/-- The claim of the comparator of cluster k (R481). -/
def comparator (k : Nat) : Nat := 0x02000000 + k * 128 + 127

/-- A claim held by a feature of the CLV block is released. -/
def State.dropClvClaim (s : State) (k feature : Nat) : State :=
  match lookup s.cmds.claims (comparator k) with
  | some h => if field h 28 16 = 0x0E * 256 + feature then s.dropClaim (comparator k) else s
  | none => s

/-- An unload that waits ends once its threads are Free (R490). -/
def State.settleUnload (s : State) (k : Nat) : State :=
  let c := s.cl k
  if c.busy != .unloading || !s.clvIdle k then s
  else
    let s := s.releaseLocks k 0
    let s := (List.range 128).foldl (fun s n => if (s.th k n).state = 0 then s else s.freeThread k n) s
    let c := s.cl k
    let s := (s.setCl k { c with loaded := false, progs := [], bank := 0, busy := .none, notes := [], noteLost := false }).dropClvClaim k 1
    let s := s.purgeRequester (clvReq k) []
    match s.findPend fun p => p.cmd.opcode = 0x0702 && p.cmd.p 0 % 16 = k with
    | some p => s.finish p 0 0 []
    | none => s

/-- What follows every step of a cluster: cores that wait, an unload that waits. -/
def State.clvSettle (s : State) (k : Nat) : State := (s.settleWaits k).settleUnload k

/-! ## Dispatch (R466 to R468) -/

/-- The free thread that takes the next frame: the lowest of the core with the most free, the lowest core on a tie (R467). -/
def State.pickThread (s : State) (k : Nat) : Option Nat :=
  let free := fun c => numsWhere 16 fun j => !(c = 0 && j = 0) && (s.th k (16 * c + j)).state == 1
  let best := (List.range 8).foldl
    (fun (m : Nat × List Nat) c => if (free c).length > m.2.length then (c, free c) else m) (0, [])
  best.2.head?.map fun j => 16 * best.1 + j

/-- The descriptor of a frame (R468). -/
def descOf (p : Pkt) (ordered : Bool) (seq : Nat) : List Word :=
  let ref := fun i => match p.info.refs.getD i none with
    | some o => o
    | none => 0xFFFF
  bytesWords (metaBlock p.source p.inst p.info)
    ++ results [p.mark % 2 ^ 16 * 2 ^ 16 + p.data.length, p.ptr, p.hash,
        (match p.page with
          | some (_, k) => 2 ^ 31 + k
          | none => 0),
        ref 1 * 2 ^ 16 + ref 0, ref 3 * 2 ^ 16 + ref 2, ref 5 * 2 ^ 16 + ref 4, ref 7 * 2 ^ 16 + ref 6,
        b2n ordered * 2 ^ 31 + b2n p.egress * 2 ^ 30 + seq]
    ++ List.replicate 15 0#32

/-- An ordered frame takes its slot at dispatch; one handed back keeps it (R452). -/
def State.takeSlot (s : State) (f : CloveFrame) : Pkt × State :=
  if !f.ordered || f.pkt.ordered.isSome then (f.pkt, s)
  else
    let k := s.clv.nextSlot
    let x : OrdSlot := { mask := f.mask, hash := f.pkt.hash }
    ({ f.pkt with ordered := some k }, { s with clv := { s.clv with slots := insertKey s.clv.slots k x, nextSlot := k + 1 } })

/-- A frame's buffer comes to the cluster, within its quota (R467). A frame handed back stands there already. -/
def State.toCluster (s : State) (k ptr : Nat) : Bool × State :=
  match lookup s.bpm.bufs ptr with
  | none => (false, s)
  | some b =>
    match b.owner with
    | some o => if o = clvReq k then (true, s) else s.transferBuf ptr o (clvReq k) 0x1000
    | none => (false, s)

/-- The head frame of cluster k's dispatch queue is given to a free thread (R467, R468). -/
def State.cloveDispatch (s : State) (k : Nat) : State :=
  let c := s.cl k
  match c.queue, (if s.cloveOpen k then s.pickThread k else none) with
  | f :: rest, some n =>
    let (ok, s) := s.toCluster k f.pkt.ptr
    if !ok then s
    else
      let again := !f.desc.isEmpty
      let (p, s) := s.takeSlot f
      let seq := if again then f.seq else c.seq
      let desc := if again then f.desc else descOf p f.ordered seq
      let c := s.cl k
      let s := s.setCl k { c with queue := rest, seq := if again then c.seq else (c.seq + 1) % 65536 }
      let base := c.sliceBase n
      let s := s.sliceWrite k n base (wordsBytes desc)
      let t := s.th k n
      let x := ((t.x.set 2 (w32 (base + c.sliceSize))).set 10 (w32 base)).set 11 (w32 p.data.length)
      let pc := (s.prog k c.bank).thrEntry
      let s := s.setTh k n { t with
        state := 2, pc := pc, x := x, armed := false, wakeEn := 1, spage := wd desc 11 % 2 ^ 30, latched := 0
        frame := some p, orig := some { f with pkt := p, desc := desc, seq := seq }, bank := c.bank, seq := seq, result := none
        returned := false, bufs := [] }
      (s.bump (R.CLV_DISPATCHED k)).clvTrace k n pc true
  | _, _ => s

/-- Frames that waited for cluster k are offered to the other clusters of their masks (R469, R490). The buffer of one that is handed back moves
to the cluster that takes it, outside its quota (R350); the slot of one that none takes is resolved. -/
def State.reoffer (s : State) (k : Nat) (fs : List CloveFrame) : State :=
  fs.foldl
    (fun s f =>
      let mask := if bitAt f.mask k then f.mask - 2 ^ k else f.mask
      let before := (List.range 16).map fun j => (s.cl j).queue.length
      let s := s.cloveOffer { f with mask := mask }
      match (List.range 16).find? fun j => decide ((s.cl j).queue.length > before.getD j 0) with
      | some j => if f.desc.isEmpty then s else s.moveFrame f.pkt.ptr (clvReq j)
      | none => if f.desc.isEmpty then s else s.resolveSlot f.pkt.ordered) s

/-! ## Retirement of cores (R469) -/

/-- The frames that the threads of cores hold, in sequence order, as they were dispatched. -/
def State.heldFrames (s : State) (k : Nat) (cores : List Nat) : List CloveFrame :=
  let ts := (cores.flatMap fun c => (List.range 16).map (16 * c + ·)).filterMap fun n => (s.th k n).frame.bind fun _ => (s.th k n).orig
  ts.mergeSort fun a b => a.seq ≤ b.seq

/-- What a retired thread's frame holds beyond the frame as it was dispatched is freed: the buffer of its prepended bytes, or all of a frame
that the thread has made itself (R469, R471). -/
def State.dropOwn (s : State) (k n : Nat) : State :=
  let t := s.th k n
  match t.frame, t.orig with
  | some p, some f => if p.headBuf = f.pkt.headBuf then s else s.freeHead p
  | some p, none => s.endBuf p
  | none, _ => s

/-- Core c of cluster k is retired (R469): its frames re-enter the queue, its locks are poisoned, its other buffers freed. Core 0 retires
the whole cluster, whose frames go to the other clusters of their masks. -/
def State.retireCore (s : State) (k core : Nat) : State :=
  let cores := if core = 0 then List.range 8 else [core]
  let back := s.heldFrames k cores
  let threads := cores.flatMap fun c => (List.range 16).map (16 * c + ·)
  let s := threads.foldl (fun s n => if (s.th k n).state = 0 then s else
      ((((s.dropOwn k n).setTh k n { s.th k n with frame := none }).giveUpBufs k n).releaseLocks k n).freeThread k n) s
  let s := s.bumpBy (R.CLV_HANDBACKS k) back.length
  let c := s.cl k
  if core != 0 then (s.setCl k { c with retired := core :: c.retired.filter (· != core), queue := back ++ c.queue }).clvSettle k
  else
    let all := back ++ c.queue
    let s := s.setCl k { c with retired := core :: c.retired.filter (· != core), queue := [], loaded := false, progs := [] }
    let s := s.reoffer k all
    let s := (s.dropClvClaim k 1).dropClvClaim k 2
    ((s.setF (F.CLV_WDOG_CTL_enable k) 0).purgeRequester (clvReq k) []).clvSettle k

end Sys2Proof.Machine
end

