-- ==== Sys2Proof/Machine/OpsEcc.lean ====
section
/-! DEFINITION. What a read of the LPDDR5X does when its check code fails (R313, R315, R720), and the copies that rehome pages (R317,
R318, R334, R339). -/

namespace Sys2Proof.Machine

/-! ## Frames whose buffer is lost (R315) -/

/-- The frames for which hit holds are dropped before Clove clusters, in their threads and in ordered slots. -/
def State.loseClove (s : State) (hit : Pkt → Bool) : State :=
  let s := s.clv.clusters.foldl (fun s e =>
    let s := s.setCl e.1 { s.cl e.1 with queue := (s.cl e.1).queue.filter fun x => !hit x.pkt }
    let s := (e.2.queue.filter (hit ·.pkt)).foldl (fun s x => (s.dropPkt x.pkt 0x0700).resolveSlot x.pkt.ordered) s
    (e.2.threads.filter fun t => t.2.frame.any hit).foldl
      (fun s t =>
        let s := s.setTh e.1 t.1 { s.th e.1 t.1 with frame := none }
        match t.2.frame with
        | some p => (s.dropPkt p 0x0700).resolveSlot p.ordered
        | none => s) s) s
  s.clv.slots.foldl (fun s e => match e.2.out with
    | some (p, _) => if hit p then (s.dropPkt p 0x0700).resolveSlot (some e.1) else s
    | none => s) s

/-- A routine loses a frame for which hit holds. -/
def Routine.lose (r : Routine) (hit : Pkt → Bool) : Routine := if r.frame.any hit then { r with frame := none } else r

/-- The frames for which hit holds are dropped in sequencers. -/
def State.loseRoutine (s : State) (hit : Pkt → Bool) : State :=
  s.psq.seqs.foldl
    (fun s e =>
      let v := e.2
      let gone := v.queue.filterMap (·.frame) ++ v.running.filterMap (·.2.frame) ++ v.slots.filterMap (·.2.routine.frame)
        ++ (v.stopped.bind (·.1.frame)).toList
      if !gone.any hit then s
      else
        let s := s.setSeq e.1 { v with
          queue := v.queue.filter fun t => !t.frame.any hit, running := v.running.map fun r => (r.1, r.2.lose hit)
          slots := v.slots.map fun t => (t.1, { t.2 with routine := t.2.routine.lose hit }), stopped := v.stopped.map fun x => (x.1.lose hit, x.2) }
        (gone.filter hit).foldl (fun s p => s.dropPkt p 0x0700) s) s

/-- The frames for which hit holds are dropped in Saffron and at the taps of Lantern regions. -/
def State.loseHandOff (s : State) (hit : Pkt → Bool) : State :=
  let mine := fun (w : SafWait) => w.ready.toList ++ (match w.req with
    | .frame p _ _ => [p]
    | .port _ _ _ => [])
  let gone := s.saf.waiting.filter fun w => (mine w).any hit
  let s := { s with saf := { s.saf with waiting := s.saf.waiting.filter fun w => !(mine w).any hit } }
  let s := gone.foldl (fun s w => match (mine w).find? hit with
    | some p => s.dropPkt p 0x0700
    | none => s) s
  s.lan.regions.foldl (fun s e =>
    let fs := e.2.flight.filter fun f => hit f.2.pkt
    let s := if fs.isEmpty then s else s.setRegion e.1 { e.2 with flight := e.2.flight.filter fun f => !hit f.2.pkt }
    fs.foldl (fun s f => s.dropPkt f.2.pkt 0x0700) s) s

/-- The frame in a buffer is dropped wherever it waits, and the buffer returns to its pool (R315). -/
def State.loseBuffer (s : State) (ptr : Nat) : State :=
  let hit := fun (p : Pkt) => p.ptr == ptr
  let lv := s.frs.nodes.filter fun e => e.2.frames.any fun f => hit f.pkt
  let s := lv.foldl (fun s e =>
    let gone := e.2.frames.filter fun f => hit f.pkt
    let s := s.setNode e.1 { e.2 with
      frames := e.2.frames.filter (fun f => !hit f.pkt), bytes := e.2.bytes - gone.foldl (fun n f => n + f.pkt.data.length) 0 }
    gone.foldl (fun s f => s.dropPkt f.pkt 0x0700) s) s
  let pk := s.pgr.parked.filter (hit ·.pkt)
  let s := { s with pgr := { s.pgr with parked := s.pgr.parked.filter fun x => !hit x.pkt } }
  let s := pk.foldl (fun s x => s.dropPkt x.pkt 0x0700) s
  let hd := s.pipe.held.filter (hit ·.2)
  let s := { s with pipe := { s.pipe with held := s.pipe.held.filter fun x => !hit x.2 } }
  let s := hd.foldl (fun s x => s.dropPkt x.2 0x0700) s
  let qs := s.queues.filter fun e => e.2.rxWait.any (·.ptr = ptr)
  let s := qs.foldl (fun s e =>
    let s := s.setQ e.1 { e.2 with rxWait := e.2.rxWait.filter (·.ptr != ptr) }
    (e.2.rxWait.filter (·.ptr = ptr)).foldl (fun s f => s.endHold f.ptr f.holder) s) s
  let s := ((s.loseClove hit).loseRoutine hit).loseHandOff hit
  match lookup s.bpm.bufs ptr with
  | some b => s.putBuf ptr { b with owner := none, holders := [] }
  | none => s

/-- The page that is homed in an LPDDR5X frame. -/
def State.pageAt (s : State) (frame : Nat) : Option Nat := (s.pgr.pages.find? fun e => e.2.home == .ddr frame).map (·.1)

/-- The level-2 table of a unit is rebuilt (R315): from the state cache, and from the homes that can still be read, those of a donation only
while the host is reached; a page that cannot be placed is poisoned (DEDUCED, log entry 62). -/
def State.rebuildTable (s : State) (u : Nat) : State :=
  let lost := s.pgr.pages.filter fun e => e.1 / 512 = u && e.2.cached.isNone && !e.2.poisoned && e.2.onHost && !s.hostPaging
  (lost.map (·.1)).foldl State.poisonPage s

/-- An uncorrectable error has the consequence of its partition (R315). The directory is rebuilt from the level-2 tables without trace; a
granted region is left to the peer that reads it. -/
def State.lostLine (s : State) (a : Nat) : State :=
  let f := a / 4096
  if a < 4 * 2 ^ 30 then s.pairFault s.activePair [a % 2 ^ 32, a / 2 ^ 32]
  else if f < s.pagerFirst then
    let u := (a - 4 * 2 ^ 30) / 256
    let hit := s.bpm.bufs.find? fun e => ptrTier e.1 = 1 && ptrUnit e.1 ≤ u && u < ptrUnit e.1 + classUnits (ptrClass e.1)
    match hit with
    | some e => s.loseBuffer e.1
    | none => s
  else match s.pageAt f with
    | some k => s.poisonPage k
    | none => match s.tableUnit f with
      | some u => s.rebuildTable u
      | none => s

/-- A read of the line at an LPDDR5X address (R315, R720). -/
def State.eccRead (s : State) (a : Nat) (r : EccResult) : State :=
  let ch := a / 4096 % 32
  match r with
  | .good => s
  | .corrected => (s.bump (R.MEM_CE ch)).fault 0x05 (0x300 + ch) 0 [a % 2 ^ 32, a / 2 ^ 32]
  | .uncorrectable true => (s.bump (R.MEM_CE ch)).fault 0x05 (0x300 + ch) 1 [a % 2 ^ 32, a / 2 ^ 32]
  | .uncorrectable false => ((s.bump (R.MEM_UE ch)).fault 0x06 (0x300 + ch) 2 [a % 2 ^ 32, a / 2 ^ 32]).lostLine a

/-- The access is a write. -/
def PeerAccess.isWrite : PeerAccess → Bool
  | .write _ => true
  | .read _ => false

/-- How many bytes the access touches: those asked for, or those that it writes. -/
def PeerAccess.count (bytes : Nat) : PeerAccess → Nat
  | .write bs => bs.length
  | .read _ => bytes

/-- A peer or a drive reads n bytes of LPDDR5X: the data, or a Completer Abort where they are lost (R315). -/
def State.peerRead (s : State) (a n : Nat) (ecc : EccResult) : State :=
  let s := s.eccRead a ecc
  if ecc == .uncorrectable false then s.emit (.peerAbort a) else s.emit (.peerData a (Mem.bytes s.mem.ddr a n))

/-! ## Copies of pages -/

/-- The next page of the copies that wait begins its copy, one at a time (R334). -/
def State.startMove (s : State) : State :=
  if s.pgr.pages.any (·.2.moving) then s
  else
    let live := s.pgr.moves.filter fun k => (s.page k).reserve.isSome
    let s := { s with pgr := { s.pgr with moves := live } }
    match live with
    | [] => s
    | k :: _ => s.setPage k { s.page k with moving := true }

/-- Homes are reserved for pages, each taken by pick, and their copies wait their turn; a page that finds no home is answered. -/
def State.reserveMoves (s : State) (pick : State → Option Home × State) (keys : List Nat) : List Nat × State :=
  keys.foldl
    (fun (a : List Nat × State) k =>
      let (lost, s) := a
      let p := s.page k
      if p.reserve.isSome || p.home == .zero then (lost, s)
      else
        let (h, s) := pick s
        match h with
        | none => (lost ++ [k], s)
        | some h => (lost, { s.setPage k { p with reserve := some h } with pgr := { (s.setPage k { p with reserve := some h }).pgr with
            moves := (s.setPage k { p with reserve := some h }).pgr.moves ++ [k] } }))
    ([], s)

/-- The reservations of pages are given up; frames parked behind a copy wait for a fill. -/
def State.cancelMoves (s : State) (keys : List Nat) : State :=
  let s := keys.foldl (fun s k => s.setPage k { s.page k with reserve := none, moving := false }) s
  let s := { s with pgr := { s.pgr with moves := s.pgr.moves.filter fun k => !keys.contains k } }
  (keys.filter s.parkedOn).foldl State.startFill s

/-- A donation is given up: the device makes no further access to it (R339). -/
def State.dropDonation (s : State) (d : Nat) : State :=
  { s with pgr := { s.pgr with donations := eraseKey s.pgr.donations d } }

/-- A donation that is being revoked and has become empty is released, and its command answers (R339). -/
def State.revokeDone (s : State) (d : Nat) : State :=
  if (lookup s.pgr.donations d).any (·.revoking) && (s.donPages d).isEmpty then
    match s.findPend fun p => p.cmd.opcode = 0x0301 && p.cmd.p 0 % 64 = d with
    | some p => (s.dropDonation d).finish p 0 0 (results p.note)
    | none => s.dropDonation d
  else s

/-- A region of the pager partition being granted has no page left in it: it is zeroed and granted (R341). -/
def State.grantDone (s : State) (g : Nat) : State :=
  match lookup s.mem.grants g with
  | none => s
  | some (base, size) =>
    if s.mem.vacating.contains g && !(s.pgr.pages.any fun e => e.2.home.frame.any fun f => base * 512 ≤ f && f < (base + size) * 512) then
      let s := { s with mem := { s.mem with
        vacating := s.mem.vacating.filter (· != g), ddr := Mem.clear s.mem.ddr (base * 2 ^ 21) (size * 2 ^ 21) } }
      let s := (s.setReg (R.MEM_GRANT g) (2 ^ 31 + base)).setReg (R.MEM_GRANT_SIZE g) size
      match s.findPend fun p => p.cmd.opcode = 0x0302 && p.cmd.p 0 % 4 = 0 && p.cmd.p 1 = base with
      | some p => s.finish p 0 0 []
      | none => s
    else s

/-- What may have waited for pages to leave a donation or a region, and the copies that wait, are looked at again. -/
def State.settleMoves (s : State) : State :=
  let s := (s.pgr.donations.map (·.1)).foldl State.revokeDone s
  ((s.mem.grants.map (·.1)).foldl State.grantDone s).startMove

/-- A page that PGR_PREFETCH discards (R337). -/
def State.askDiscard (s : State) (k : Nat) : State := s.setPage k { s.page k with discard := true }

/-- Discarded pages without references in flight are zero pages, to the frames parked on them too (R337). -/
def State.settleDiscards (s : State) : State :=
  let refs := s.references
  let ks := (s.pgr.pages.filter fun e => e.2.discard && !refs.contains e.1).map (·.1)
  if ks.isEmpty then s else (ks.foldl (fun s k => (s.zeroPage k).releasePage k) s).startWaiting.pinDone.settleMoves

/-- The copy of a page lands in its reserved home (R334, R339): a cached page stays cached, and with packets parked on it the copy is also
installed in the state cache and they re-enter; a pinned page is brought to it too (R337). -/
def State.landMove (s : State) (key : Nat) : State :=
  let p := s.page key
  match p.reserve with
  | none => s.setPage key { p with moving := false }
  | some h =>
    let s := s.writeHome h (s.homeBytes p.home)
    let s := match p.home with
      | .ddr f => { s with mem := { s.mem with ddr := Mem.clear s.mem.ddr (f * 4096) 4096 } }
      | _ => s
    let s := (s.setPage key { p with home := h, reserve := none, moving := false }).bump R.PGR_MIGRATED
    let s := { s with pgr := { s.pgr with moves := s.pgr.moves.filter (· != key) } }
    let s := if s.parkedOn key then (s.fillPage key none).releasePage key
      else if p.pinned && p.cached.isNone then s.startFill key
      else s
    s.settleMoves

/-- Every donation is withdrawn at once (R340). -/
def State.withdrawDonations (s : State) : State :=
  let keys := (s.pgr.pages.filter (·.2.onHost)).map (·.1)
  let s := keys.foldl (fun s k =>
    let p := s.page k
    if p.cached.isSome then
      let (h, s) := s.takeLpd
      match h with
      | some h => s.setPage k { p with home := h, dirty := true, reserve := none, moving := false }
      | none => (s.poisonPage k).bump R.PGR_LOST_PAGES
    else (s.poisonPage k).bump R.PGR_LOST_PAGES) s
  let cut := fun (e : Nat × Page) => if e.2.onHost then (e.1, { e.2 with home := .zero }) else e
  let s := { s with pgr := { s.pgr with donations := [], pages := s.pgr.pages.map cut } }
  let away := (s.pgr.pages.filter fun e => e.2.reserve.any fun h => (h.frame).isNone).map (·.1)
  (s.cancelMoves away).startMove

end Sys2Proof.Machine
end

