-- ==== Sys2Proof/Machine/OpsRing.lean ====
section
/-! DEFINITION. Operations of the ring engines on fetched entries, and the ends of queues (R185 to R197, R216, R220, R226, R227). -/

namespace Sys2Proof.Machine

/-- The ring engine may fetch the next entry of data ring q, of a type (R48, R203, R216, R565). -/
def State.mayFetch (s : State) (q type : Nat) : Bool :=
  let c := s.q q
  (c.state = 1 || c.state = 2) && c.type = type && c.hot && c.fi != c.pi && s.trafficOn c.iid && s.dmaOpen c.iid && s.fnD0 c.iid
    && !(c.type = 3 && s.leafFull q) && (c.type != 4 || s.workOpen q)

/-- The entry at fi of queue q is fetched and complete at once with a status. -/
def State.endEntry (s : State) (q units : Nat) (words : List Word) (status reason : Nat) : State :=
  let c := s.q q
  let w0 := wd words 0
  let tag := field (wd words 1) 31 16
  let notify := bitAt w0 17 || c.notifyAll
  ((s.takeUnits q units w0 tag notify).completeEntry q c.fi units w0 [] status reason tag notify).fetched q

/-- The length of an entry breaks R226 in a case that consumes one unit: 0, above 64, past the ring end or PI, or below need. -/
def QCtx.lengthBad (c : QCtx) (len need : Nat) : Bool :=
  len = 0 || len > 64 || len > c.size - c.fi % c.size || len > sub32 c.pi c.fi || len < need

/-- An entry of a data ring is read (R186, R226): a pad is left to its own row; another opcode, or a bad length, ends it; otherwise body
runs on its length. need is the units that the opcode needs. -/
def State.readEntry (s : State) (q type : Nat) (words : List Word) (mine : Nat → Bool) (need : Nat) (body : Nat → State) : State :=
  if !s.mayFetch q type then s
  else
    let c := s.q q
    let op := wd words 0 % 2 ^ 16
    let len := wd words 1 % 2 ^ 16
    if op = 0xFFFF then s
    else if c.lengthBad len 0 then s.endEntry q 1 words 0x11 0
    else if !mine op then s.endEntry q 1 words 0x10 0
    else if len < need then s.endEntry q 1 words 0x11 0
    else body len

/-- The first of the words named with their allowed bits that has another bit set. -/
def reservedWord (words : List Word) (ws : List (Nat × Nat)) : Option Nat := (ws.find? fun w => !fits (wd words w.1) w.2).map (·.1)

/-! ## Checksums on transmission (R192) -/

/-- The L3 header of a frame that starts with its L2 header: offset and kind, 1 IPv4, 2 IPv6. -/
def l3At (d : List Byte) : Option (Nat × Nat) :=
  let l2 := 14 + lineTagBytes d
  match beNat (slice d (l2 - 2) 2) with
  | 0x0800 => some (l2, 1)
  | 0x86DD => some (l2, 2)
  | _ => none

/-- The IPv4 header checksum is inserted. -/
def putL3Sum (d : List Byte) : List Byte :=
  match l3At d with
  | some (o, 1) =>
    let n := beNat (slice d o 1) % 16 * 4
    let d := overwrite d (o + 10) [0, 0]
    if d.length < o + n then d else overwrite d (o + 10) (ipSum (slice d o n))
  | _ => d

/-- The TCP or UDP checksum is inserted. -/
def putL4Sum (d : List Byte) : List Byte :=
  match l3At d with
  | none => d
  | some (o, kind) =>
    let hl := if kind = 1 then beNat (slice d o 1) % 16 * 4 else 40
    let stop := if kind = 1 then o + beNat (slice d (o + 2) 2) else o + 40 + beNat (slice d (o + 4) 2)
    let proto := beNat (slice d (if kind = 1 then o + 9 else o + 6) 1)
    let at_ := if proto = 6 then some 16 else if proto = 17 then some 6 else none
    match at_ with
    | none => d
    | some k =>
      let b := o + hl
      let n := stop - b
      if stop > d.length || n < k + 2 then d
      else
        let pseudo := if kind = 1 then slice d (o + 12) 8 ++ beBytes 2 proto ++ beBytes 2 n
          else slice d (o + 8) 32 ++ beBytes 4 n ++ beBytes 4 proto
        let d := overwrite d (b + k) [0, 0]
        let v := 0xFFFF - sum16 (pseudo ++ slice d b n)
        overwrite d (b + k) (beBytes 2 (if v = 0 && proto = 17 then 0xFFFF else v))

/-! ## The host tap (R657, R660) -/

/-- The region whose host tap a transmit queue is bound to (R660). -/
def State.hostTap (s : State) (q : Nat) : Option Nat :=
  let c := s.q q
  (s.lan.regions.find? fun e => e.2.state != 0 && e.2.renter = c.iid && (e.2.taps.getD 2 {}).queue = c.loc).map (·.1)

/-- A transmit frame goes to the host tap of region r: its entry completes at the hand-over, or at the bypass action (R657, R660). -/
def State.hostTapFrame (s : State) (r q : Nat) (p : Pkt) (x : TxRef) : State :=
  let bare := { p with tx := none, leaf := s.queueLeaf q }
  let (ok, s) := s.tapOffer bare r 2
  if ok then s.completeTx x [] 0 0
  else if ((s.region r).taps.getD 2 {}).drop then s.dropPkt { p with tx := some x } 0x150E
  else (s.completeTx x [] 0 0).egress bare

/-! ## Ends of queues (R216, R220, R223) -/

/-- What else ends with queue q: telemetry subscriptions on it, frames that wait for it, and its place in its connections
(R216, R526, R588). -/
def State.unbindQueue (s : State) (q : Nat) : State :=
  let c := s.q q
  let s := c.rxWait.foldl (fun s f => s.endHold f.ptr f.holder) s
  let s := if c.type = 5 then s.dropSubs fun t => t.owner = c.iid && t.ring = c.loc else s
  { s with psq := { s.psq with conns := s.psq.conns.map fun e =>
      (e.1, { e.2 with send := if e.2.send = q then 65536 else e.2.send, recv := if e.2.recv = q then 65536 else e.2.recv }) } }

/-- Queue q becomes Free and its QID returns to the pool (R216). -/
def State.freeQueue (s : State) (q : Nat) (bump : Bool) : State :=
  let s := s.unbindQueue q
  s.setQ q (freedQ (s.q q) bump)

/-- The entries of queue q that are fetched and not complete complete ABORTED (R191, R216). -/
def State.abortEntries (s : State) (q : Nat) : State :=
  (s.q q).taken.foldl (fun s t => s.completeEntry q t.index t.units t.w0 [] 0x0101 0 t.tag (t.notify)) s

/-- The posted buffers of receive queue q complete ABORTED (R216). -/
def State.abortBuffers (s : State) (q : Nat) : State :=
  let bufs := (s.q q).rxBufs
  let s := s.setQ q { s.q q with rxBufs := [] }
  bufs.foldl (fun s b => s.completeEntry q b.index b.units b.w0 [] 0x0101 0 b.tag (b.notify || (s.q q).notifyAll)) s

/-- The Stopped queues of instance i go on where its function and the instance both allow it: fetch resumes from fi (R147, R216, R300). -/
def State.resumeServing (s : State) (i : Nat) : State :=
  if !s.fnD0 i || (s.inst i).state = 3 then s
  else
    let s := s.resumeQueues i
    let mine := (s.queues.filter fun e => e.2.iid = i && e.2.state = 1).map (·.1)
    mine.foldl (fun s q => (s.rxDrain q ((s.q q).rxWait.length + 1)).ensureFetch q) s

/-- Why a queue command is refused for its instance's state (R219): Free and Destroying always, Resetting for a creation. -/
def State.wrongState (s : State) (i : Nat) (creates : Bool) : Bool :=
  let n := (s.inst i).state
  n = 0 || n = 5 || (creates && n = 4)

/-- WRONG_STATE with the state code (R219, R294). -/
def wrongStateAnswer (s : State) (i : Nat) : Res := .bad s 0x20 0x0605 (results [(s.inst i).state])

end Sys2Proof.Machine
end

