-- ==== Sys2Proof/Machine/OpsRun.lean ====
section
/-! DEFINITION. How a Clove thread executes one instruction: fetch, loads and stores under its address map, CSRs, the base, and the way an
instruction ends (R461 to R465, R474, R475). -/

namespace Sys2Proof.Machine

/-! ## Ends of an instruction -/

/-- How an instruction of a thread ends: it writes rd and goes on behind itself or at a target, it blocks with a result, it leaves the
thread in a state of its own, or it faults with a code, a state fault kind and an address. What a fault leaves in the state is what the
unit that refused has recorded. -/
inductive ClvEnd where
  | next (s : State) (rd val : Nat)
  | jump (s : State) (rd val target : Nat)
  | block (s : State) (rd val : Nat)
  | stay (s : State)
  | fault (s : State) (code kind addr : Nat)

/-- A thread's instruction of len bytes ends. -/
def State.clvEnd (s : State) (k n len : Nat) (e : ClvEnd) : State :=
  match e with
  | .next s rd v =>
    let t := s.th k n
    s.setTh k n ({ t with pc := (t.pc + len) % 2 ^ 32 }.wr rd v)
  | .jump s rd v target =>
    let t := s.th k n
    (s.setTh k n ({ t with pc := target % 2 ^ 32 }.wr rd v)).clvTrace k n t.pc false
  | .block s rd v =>
    let t := s.th k n
    s.setTh k n { t with state := 3, pc := (t.pc + len) % 2 ^ 32, result := some (rd, v), returned := false }
  | .stay s => s
  | .fault s code kind addr => s.clvFault k n code kind addr

/-- The instruction at thread n's pc as a 32-bit word, and its length in bytes; none where it cannot be fetched. -/
def State.clvFetch (s : State) (k n : Nat) : Option (Nat × Nat) :=
  let pc := (s.th k n).pc
  let code := (s.progOf k n).code
  if pc % 2 != 0 || pc + 2 > code.length then none
  else
    let h := leNat (slice code pc 2)
    if h % 4 != 3 then some ((expandC h).getD 0, 2)
    else if pc + 4 > code.length then none
    else some (leNat (slice code pc 4), 4)

/-- Thread n of cluster k is Running and its next instruction is of row op: body gives its effect, from its word (R464). -/
def State.clvRun (s : State) (k n : Nat) (op : ClvOp) (body : State → Nat → ClvEnd) : State :=
  if s.islandDown k || (s.th k n).state != 2 then s
  else match s.clvFetch k n with
    | none => if op = .base then (s.clvFault k n 9 0 (s.th k n).pc).clvSettle k else s
    | some (w, len) => if clvOpOf w = op then (s.clvEnd k n len (body s w)).clvSettle k else s

/-- Register r of thread n. -/
def State.xreg (s : State) (k n r : Nat) : Nat := wd (s.th k n).x r

/-- The operands of an instruction word: rd, and the values of rs1 and rs2. -/
def rdOf (w : Nat) : Nat := field w 11 7
def State.rs1 (s : State) (k n w : Nat) : Nat := s.xreg k n (field w 19 15)
def State.rs2 (s : State) (k n w : Nat) : Nat := s.xreg k n (field w 24 20)

/-! ## The packet window -/

/-- The thread's frame takes new bytes; its buffer holds them while no byte has been prepended. -/
def State.setFrame (s : State) (k n : Nat) (p : Pkt) : State :=
  let s := s.setTh k n { s.th k n with frame := some p }
  if p.headBuf.isNone then s.storeBuf p.ptr p.data else s

/-- The descriptor's length follows the frame (R471). -/
def State.setLength (s : State) (k n len : Nat) : State :=
  s.setDesc k n 8 (putField (s.descWord k n 8) 15 0 len)

/-- Bytes of the frame at a window offset, where they lie below its length (R461). -/
def State.windowRead (s : State) (k n off size : Nat) : Option (List Byte) :=
  match (s.th k n).frame with
  | some p => if off + size ≤ p.data.length then some (slice p.data off size) else none
  | none => none

/-! ## Loads and stores (R461, R462) -/

/-- The window of peripherals. -/
def inPeriph (a : Nat) : Bool := 0x200000 ≤ a && a < 0x210000

/-- The Buoy channel and side of an alias address, where the thread has one (R461). -/
def State.buoyAlias (s : State) (mid a : Nat) : Option (ChanId × Bool) :=
  let c := (a - 0x204000) / 0x20
  (s.sideOf (.int c) mid).map fun side => (.int c, side)

/-- A load of size bytes: a fault code, or the value. -/
def State.clvLoad (s : State) (k n a size : Nat) : Except Nat Nat × State :=
  let c := s.cl k
  let mid := clvMid k n
  if a % size != 0 then (.error 6, s)
  else if a < 0x20000 then
    let code := (s.progOf k n).code
    if a + size ≤ code.length then (.ok (leNat (slice code a size)), s) else (.error 8, s)
  else if 0x80000 ≤ a && a < 0xC0000 then
    if c.inSlice n a size then (.ok (leNat (s.sliceRead k n a size)), s) else (.error 1, s)
  else if 0x100000 ≤ a && a < 0x110000 then
    match s.windowRead k n (a - 0x100000) size with
    | some bs => (.ok (leNat bs), s)
    | none => (.error 2, s)
  else if !inPeriph a || size != 4 then (.error 8, s)
  else if a = 0x200000 then
    if n = 0 then
      let (v, s) := s.claim (4 + k)
      (.ok v, s)
    else (.ok 0xFFFF, s)
  else if 0x201000 ≤ a && a < 0x203000 then
    let ch := (a - 0x201000) / 0x40
    if s.ownsDma mid ch then (.ok (s.dmaRegRead ch ((a - 0x201000) % 0x40)), s) else (.error 8, s)
  else if 0x204000 ≤ a && a < 0x204800 then
    match s.buoyAlias mid a with
    | some (ch, side) =>
      let (v, s) := s.chanRead ch side ((a - 0x204000) % 0x20)
      (.ok v, s)
    | none => (.error 8, s)
  else (.error 8, s)

/-- A store of size bytes: a fault code, or none. -/
def State.clvStore (s : State) (k n a size v : Nat) : Option Nat × State :=
  let c := s.cl k
  let mid := clvMid k n
  if a % size != 0 then (some 6, s)
  else if 0x80000 ≤ a && a < 0xC0000 then
    if c.inSlice n a size then (none, s.sliceWrite k n a (leBytes size v)) else (some 1, s)
  else if 0x100000 ≤ a && a < 0x110000 then
    let off := a - 0x100000
    match (s.th k n).frame with
    | some p =>
      if off + size ≤ p.data.length then (none, s.setFrame k n { p with data := overwrite p.data off (leBytes size v) }) else (some 2, s)
    | none => (some 2, s)
  else if !inPeriph a || size != 4 then (some 8, s)
  else if a = 0x200004 then
    if n = 0 then (none, s.setCl k { c with petted := true }) else (some 8, s)
  else if 0x201000 ≤ a && a < 0x203000 then
    let ch := (a - 0x201000) / 0x40
    if s.ownsDma mid ch then (none, s.dmaRegWrite ch ((a - 0x201000) % 0x40) v) else (some 8, s)
  else if 0x204000 ≤ a && a < 0x204800 then
    match s.buoyAlias mid a with
    | some (ch, side) => (none, s.chanWrite ch side ((a - 0x204000) % 0x20) v)
    | none => (some 8, s)
  else (some 8, s)

/-! ## CSRs (R463) -/

/-- clv_now: device time in nanoseconds. -/
def State.clvNow (s : State) : Nat := timeSec s.now * 10 ^ 9 + timeNs s.now

/-- A thread's CSR; none where the address is no CSR of R463. -/
def State.csrRead (s : State) (k n a : Nat) : Option Nat :=
  let c := s.cl k
  let t := s.th k n
  match a with
  | 0xFC0 => some (k * 2 ^ 20 + n / 16 * 2 ^ 16 + n % 16 * 2 ^ 8 + b2n c.wide)
  | 0xFC1 => some (c.sliceBase n)
  | 0xFC2 => some (s.clvNow % 2 ^ 32)
  | 0xFC3 => some (s.clvNow / 2 ^ 32 % 2 ^ 32)
  | 0xFC4 => some (s.clvSsid k n)
  | 0x7C0 => some t.tcmp
  | 0x7C1 => some (b2n t.armed)
  | 0x7C2 => some t.wakeEn
  | 0x7C3 => some t.spage
  | 0x7C4 => some t.cause
  | _ => none

/-- A CSR write; none where the CSR is read-only (R463, R481). -/
def State.csrWrite (s : State) (k n a v : Nat) : Option State :=
  let t := s.th k n
  match a with
  | 0x7C0 => some (s.setTh k n { t with tcmp := v })
  | 0x7C1 => some (s.setTh k n { t with armed := bitAt v 0 && (s.progOf k n).usesTimer })
  | 0x7C2 => some (s.setTh k n { t with wakeEn := v % 32 })
  | 0x7C3 => some (s.setTh k n { t with spage := v % 2 ^ 30 })
  | _ => none

/-- A Zicsr instruction (R463, R474). -/
def State.csrOp (s : State) (k n w : Nat) : ClvEnd :=
  let f3 := field w 14 12
  let r1 := field w 19 15
  let src := if f3 ≥ 4 then r1 else s.xreg k n r1
  let a := field w 31 20
  match s.csrRead k n a with
  | none => .fault s 5 0 0
  | some old =>
    if f3 % 4 != 1 && r1 = 0 then .next s (rdOf w) old
    else
      let new := match f3 % 4 with
        | 1 => src
        | 2 => old ||| src
        | _ => old - (old &&& src)
      match s.csrWrite k n a new with
      | some s => .next s (rdOf w) old
      | none => .fault s 5 0 0

/-! ## The base (R461, R474) -/

/-- A load instruction. -/
def State.loadOp (s : State) (k n w : Nat) : ClvEnd :=
  let f3 := field w 14 12
  let a := (s.rs1 k n w + immI w) % 2 ^ 32
  if f3 = 3 || f3 > 5 then .fault s 5 0 0
  else
    let size := 2 ^ (f3 % 4)
    let (r, s) := s.clvLoad k n a size
    match r with
    | .error c => .fault s c 0 a
    | .ok v => .next s (rdOf w) (if f3 < 2 then sext (8 * size) v else v)

/-- A store instruction. -/
def State.storeOp (s : State) (k n w : Nat) : ClvEnd :=
  let f3 := field w 14 12
  let a := (s.rs1 k n w + immS w) % 2 ^ 32
  if f3 > 2 then .fault s 5 0 0
  else
    let size := 2 ^ f3
    let (r, s) := s.clvStore k n a size (s.rs2 k n w % 2 ^ (8 * size))
    match r with
    | some c => .fault s c 0 a
    | none => .next s 0 0

/-- An instruction of the RISC-V base, M and Zicsr, but ECALL and EBREAK; any other word is illegal (R474, R475). -/
def State.baseOp (s : State) (k n len w : Nat) : ClvEnd :=
  let pc := (s.th k n).pc
  let f3 := field w 14 12
  let f7 := field w 31 25
  let a := s.rs1 k n w
  let b := s.rs2 k n w
  let rd := rdOf w
  match w % 128 with
  | 0x37 => .next s rd (field w 31 12 * 4096)
  | 0x17 => .next s rd ((pc + field w 31 12 * 4096) % 2 ^ 32)
  | 0x6F => .jump s rd (pc + len) (pc + immJ w)
  | 0x67 => if f3 = 0 then .jump s rd (pc + len) ((a + immI w) % 2 ^ 32 / 2 * 2) else .fault s 5 0 0
  | 0x63 =>
    match rvBranch f3 a b with
    | some true => .jump s 0 0 (pc + immB w)
    | some false => .next s 0 0
    | none => .fault s 5 0 0
  | 0x03 => s.loadOp k n w
  | 0x23 => s.storeOp k n w
  | 0x13 =>
    if f3 = 1 then (if f7 = 0 then .next s rd (rvAlu 1 false a (field w 24 20)) else .fault s 5 0 0)
    else if f3 = 5 then (if f7 = 0 || f7 = 0x20 then .next s rd (rvAlu 5 (f7 = 0x20) a (field w 24 20)) else .fault s 5 0 0)
    else .next s rd (rvAlu f3 false a (immI w))
  | 0x33 =>
    if f7 = 0 then .next s rd (rvAlu f3 false a b)
    else if f7 = 1 then .next s rd (rvMul f3 a b)
    else if f7 = 0x20 && (f3 = 0 || f3 = 5) then .next s rd (rvAlu f3 true a b)
    else .fault s 5 0 0
  | 0x0F => if f3 ≤ 1 then .next s 0 0 else .fault s 5 0 0
  | 0x73 => if f3 % 4 = 0 then .fault s 5 0 0 else s.csrOp k n w
  | _ => .fault s 5 0 0

end Sys2Proof.Machine
end

