-- ==== Sys2Proof/Machine/Clove.lean ====
section
/-! DEFINITION. Meanings of the Clove packet engines: dispatch, the instructions of a thread, waits and wakes, programs (R458 to R495). -/

namespace Sys2Proof.Machine

/-- CLOVE_DISPATCH (R467, R468). -/
def execCloveDispatch (cluster : Fin 16) (s : State) : Host.Outcome State Fault Refusal :=
  .next ((s.cloveDispatch cluster.val).clvSettle cluster.val)

/-- ORDERED_SLOT_TIMEOUT (R452): a slot whose thread has neither emitted nor dropped its frame is skipped. -/
def execOrderedSlotTimeout (slot : Nat) (s : State) : Host.Outcome State Fault Refusal :=
  .next <|
    match lookup s.clv.slots slot with
    | some x => if x.out.isNone then s.resolveSlot (some slot) else s
    | none => s

/-! ## PKT -/

/-- PKT.LWBE (R471). -/
def pktLwbe (k n : Nat) (s : State) (w : Nat) : ClvEnd :=
  let a := s.rs1 k n w
  match s.windowRead k n a 4 with
  | some bs => .next s (rdOf w) (beNat bs)
  | none => .fault s 2 0 a

/-- PKT_LWBE (R471). -/
def execPktLwbe (cluster : Fin 16) (thread : BitVec 7) (s : State) : Host.Outcome State Fault Refusal :=
  .next (s.clvRun cluster.val thread.toNat .pktLwbe (pktLwbe cluster.val thread.toNat))

/-- PKT.HEAD (R471). -/
def pktHead (k n : Nat) (s : State) (w : Nat) : ClvEnd :=
  let v := s.rs1 k n w
  let d := rvInt v
  match (s.th k n).frame with
  | none => .fault s 2 0 0
  | some p =>
    if d < 0 then
      let cut := (-d).toNat
      if cut + 14 > p.data.length then .fault s 2 0 0
      else
        let q := { p with data := p.data.drop cut }
        .block ((s.setFrame k n q).setLength k n q.data.length) 0 0
    else
      let d := d.toNat
      if p.prepended + d > 256 then .fault s 2 0 0
      else if d = 0 then .block s 0 0
      else
        let (h, s') := if p.headBuf.isSome then (p.headBuf, s) else s.allocBuf (clvReq k) 256
        match h with
        | none => .fault s' 7 0 0
        | some h =>
          let q := { p with data := List.replicate d 0#8 ++ p.data, prepended := p.prepended + d, headBuf := some h }
          .block ((s'.setFrame k n q).setLength k n q.data.length) 0 0

/-- PKT_HEAD (R471). -/
def execPktHead (cluster : Fin 16) (thread : BitVec 7) (s : State) : Host.Outcome State Fault Refusal :=
  .next (s.clvRun cluster.val thread.toNat .pktHead (pktHead cluster.val thread.toNat))

/-- PKT.LEN (R471). -/
def pktLen (k n : Nat) (s : State) (w : Nat) : ClvEnd :=
  let len := s.rs1 k n w
  match (s.th k n).frame with
  | none => .fault s 2 0 0
  | some p =>
    if len < 14 || len > classBytes (ptrClass p.ptr) + p.prepended then .fault s 2 0 0
    else .next ((s.setFrame k n { p with data := slice p.data 0 len }).setLength k n len) 0 0

/-- PKT_LEN (R471). -/
def execPktLen (cluster : Fin 16) (thread : BitVec 7) (s : State) : Host.Outcome State Fault Refusal :=
  .next (s.clvRun cluster.val thread.toNat .pktLen (pktLen cluster.val thread.toNat))

/-- The tags that a descriptor gives (R472). -/
def State.descTags (s : State) (k n : Nat) : List Tag :=
  let md := s.sliceRead k n ((s.cl k).sliceBase n) 32
  let flags := beNat (slice md 3 1)
  (if bitAt flags 5 then [{ isS := true, tci := beNat (slice md 6 2) }] else [])
    ++ (if bitAt flags 4 then [{ isS := false, tci := beNat (slice md 4 2) }] else [])

/-- PKT.EMIT (R471, R472): the frame leaves with the length, buffer, mark and tags of the descriptor; where the thread has named another
buffer there, it keeps the frame's own. -/
def pktEmit (k n : Nat) (s : State) (w : Nat) : ClvEnd :=
  let v := s.rs1 k n w
  let t := s.th k n
  match t.frame with
  | none => .fault s 2 0 0
  | some p =>
    let w8 := s.descWord k n 8
    let len := w8 % 2 ^ 16
    let ptr := s.descWord k n 9
    let data := if ptr = p.ptr then p.data
      else if ptrTier ptr = 0 then Mem.bytes s.mem.pbuf (ptrByte ptr) (classBytes (ptrClass ptr))
      else Mem.bytes s.mem.ddr (4 * 2 ^ 30 + ptrByte ptr) (classBytes (ptrClass ptr))
    if len < 14 || len > data.length then .fault s 2 0 0
    else if !bitAt v 31 && field v 19 16 > 13 then .fault s 5 0 0
    else if ptr != p.ptr && (s.ptrFault ptr (clvReq k) false true).isSome then .fault s 7 0 0
    else
      let q := { p with data := data.take len, ptr := ptr, mark := w8 / 2 ^ 16, tags := s.descTags k n }
      let bufs := if ptr = p.ptr then t.bufs else t.bufs.erase ptr ++ [p.ptr]
      let s := s.setTh k n { t with frame := none, orig := none, bufs := bufs }
      .next (s.cloveEmit q v) 0 0

/-- PKT_EMIT (R471, R472). -/
def execPktEmit (cluster : Fin 16) (thread : BitVec 7) (s : State) : Host.Outcome State Fault Refusal :=
  .next (s.clvRun cluster.val thread.toNat .pktEmit (pktEmit cluster.val thread.toNat))

/-- PKT.DROP (R471). -/
def pktDrop (k n : Nat) (s : State) (_ : Nat) : ClvEnd :=
  if (s.th k n).frame.isNone then .fault s 2 0 0 else .next (s.cloveDrop k n (R.CLV_DROPS k)) 0 0

/-- PKT_DROP (R471). -/
def execPktDrop (cluster : Fin 16) (thread : BitVec 7) (s : State) : Host.Outcome State Fault Refusal :=
  .next (s.clvRun cluster.val thread.toNat .pktDrop (pktDrop cluster.val thread.toNat))

/-- PKT.NEW (R471). -/
def pktNew (k n : Nat) (s : State) (w : Nat) : ClvEnd :=
  let ptr := s.rs1 k n w
  let len := s.rs2 k n w
  let t := s.th k n
  if t.frame.isSome || len < 14 || len > classBytes (ptrClass ptr) then .fault s 2 0 0
  else
    let alone := match lookup s.bpm.bufs ptr with
      | some b => b.holders.isEmpty
      | none => false
    if (s.ptrFault ptr (clvReq k) false true).isSome || !alone then .fault s 7 0 0
    else
      let data := if ptrTier ptr = 0 then Mem.bytes s.mem.pbuf (ptrByte ptr) len else Mem.bytes s.mem.ddr (4 * 2 ^ 30 + ptrByte ptr) len
      let s := s.setTh k n { t with frame := some { ptr := ptr, data := data, ts := s.now, tsUncertain := s.timeUncertain }, orig := none, bufs := t.bufs.erase ptr }
      let s := s.sliceWrite k n ((s.cl k).sliceBase n) (List.replicate 128 0#8)
      .next ((s.setDesc k n 8 len).setDesc k n 9 ptr) 0 0

/-- PKT_NEW (R471). -/
def execPktNew (cluster : Fin 16) (thread : BitVec 7) (s : State) : Host.Outcome State Fault Refusal :=
  .next (s.clvRun cluster.val thread.toNat .pktNew (pktNew cluster.val thread.toNat))

/-! ## TBL and PGR -/

/-- TBL.EM (R471). -/
def tblEm (k n : Nat) (s : State) (w : Nat) : ClvEnd :=
  let a := s.rs1 k n w
  let t := s.rs2 k n w % 256
  if a % 64 != 0 || !(s.cl k).inSlice n a 72 then .fault s 1 0 a
  else if (s.table t).state != .live then .block s (rdOf w) 0xFFFFFFFE
  else
    let (hit, s) := s.emLookup t (s.descInst k n) (s.sliceRead k n a 64)
    match hit with
    | none => .block s (rdOf w) 0xFFFFFFFF
    | some (i, e) => .block (s.sliceWrite k n (a + 64) (wordsBytes (({ e with hit := true }.words).take 2))) (rdOf w) i

/-- TBL_EM (R471). -/
def execTblEm (cluster : Fin 16) (thread : BitVec 7) (s : State) : Host.Outcome State Fault Refusal :=
  .next (s.clvRun cluster.val thread.toNat .tblEm (tblEm cluster.val thread.toNat))

/-- TBL.LPM (R416, R471). -/
def tblLpm (k n : Nat) (s : State) (w : Nat) : ClvEnd :=
  let a := s.rs1 k n w
  let v := s.rs2 k n w
  if !(s.cl k).inSlice n a 16 then .fault s 1 0 a
  else
    let v6 := bitAt v 31
    let (r, s) := s.lpmLookup (v % 2 ^ 12) v6 (s.sliceRead k n a (if v6 then 16 else 4))
    .block s (rdOf w) r

/-- TBL_LPM (R471). -/
def execTblLpm (cluster : Fin 16) (thread : BitVec 7) (s : State) : Host.Outcome State Fault Refusal :=
  .next (s.clvRun cluster.val thread.toNat .tblLpm (tblLpm cluster.val thread.toNat))

/-- PGR.PAGE (R471). -/
def pgrPage (k n : Nat) (s : State) (w : Nat) : ClvEnd :=
  .next (s.setTh k n { s.th k n with spage := s.rs1 k n w % 2 ^ 30 }) 0 0

/-- PGR_PAGE (R471). -/
def execPgrPage (cluster : Fin 16) (thread : BitVec 7) (s : State) : Host.Outcome State Fault Refusal :=
  .next (s.clvRun cluster.val thread.toNat .pgrPage (pgrPage cluster.val thread.toNat))

/-- An access of a word of the current page (R473): misaligned offsets fault, then state faults; f gives the word that is stored, if
one is, and what rd takes. -/
def pgrWord (k n : Nat) (s : State) (w rd : Nat) (f : Nat → Option Nat × Nat) : ClvEnd :=
  let o := s.rs1 k n w % 4096
  let off := (s.th k n).spage * 4096 + o
  let ssid := s.clvSsid k n
  if o % 4 != 0 then .fault s 6 0 off
  else if s.reachWaits ssid off then .stay s
  else
    let (r, s) := s.ssRead ssid off 4
    match r with
    | .error e => .fault s 4 e off
    | .ok bs =>
      let (new, v) := f (leNat bs)
      match new with
      | none => .block s rd v
      | some x =>
        let (e, s) := s.ssWrite ssid off (leBytes 4 x)
        match e with
        | some e => .fault s 4 e off
        | none => .block s rd v

/-- PGR.LW (R471, R473). -/
def pgrLw (k n : Nat) (s : State) (w : Nat) : ClvEnd := pgrWord k n s w (rdOf w) fun old => (none, old)

/-- PGR_LW (R473). -/
def execPgrLw (cluster : Fin 16) (thread : BitVec 7) (s : State) : Host.Outcome State Fault Refusal :=
  .next (s.clvRun cluster.val thread.toNat .pgrLw (pgrLw cluster.val thread.toNat))

/-- PGR.SW (R471, R473). -/
def pgrSw (k n : Nat) (s : State) (w : Nat) : ClvEnd := pgrWord k n s w 0 fun _ => (some (s.rs2 k n w), 0)

/-- PGR_SW (R473). -/
def execPgrSw (cluster : Fin 16) (thread : BitVec 7) (s : State) : Host.Outcome State Fault Refusal :=
  .next (s.clvRun cluster.val thread.toNat .pgrSw (pgrSw cluster.val thread.toNat))

/-- PGR.AMOADD (R471, R473). -/
def pgrAmoadd (k n : Nat) (s : State) (w : Nat) : ClvEnd :=
  pgrWord k n s w (rdOf w) fun old => (some ((old + s.rs2 k n w) % 2 ^ 32), old)

/-- PGR_AMOADD (R473). -/
def execPgrAmoadd (cluster : Fin 16) (thread : BitVec 7) (s : State) : Host.Outcome State Fault Refusal :=
  .next (s.clvRun cluster.val thread.toNat .pgrAmoadd (pgrAmoadd cluster.val thread.toNat))

/-- PGR.AMOSWAP (R471, R473). -/
def pgrAmoswap (k n : Nat) (s : State) (w : Nat) : ClvEnd := pgrWord k n s w (rdOf w) fun old => (some (s.rs2 k n w), old)

/-- PGR_AMOSWAP (R473). -/
def execPgrAmoswap (cluster : Fin 16) (thread : BitVec 7) (s : State) : Host.Outcome State Fault Refusal :=
  .next (s.clvRun cluster.val thread.toNat .pgrAmoswap (pgrAmoswap cluster.val thread.toNat))

/-- PGR.PREF (R471). -/
def pgrPref (k n : Nat) (s : State) (w : Nat) : ClvEnd :=
  let page := s.rs1 k n w % 2 ^ 30
  let ssid := s.clvSsid k n
  if (s.rangeFault ssid (page * 4096)).isSome then .next s 0 0
  else
    let key := s.pageKey ssid page
    .next (if (s.page key).settled then s else s.startFill key) 0 0

/-- PGR_PREF (R471). -/
def execPgrPref (cluster : Fin 16) (thread : BitVec 7) (s : State) : Host.Outcome State Fault Refusal :=
  .next (s.clvRun cluster.val thread.toNat .pgrPref (pgrPref cluster.val thread.toNat))

/-! ## MSG -/

/-- MSG.LOCK (R476). -/
def msgLock (k n : Nat) (s : State) (w : Nat) : ClvEnd :=
  let m := s.rs1 k n w % 64
  let v := s.msg k m
  if !v.locked then
    .next (s.setMsg k m { v with locked := true, owner := n, poisoned := false, waiters := [] }) (rdOf w) (if v.poisoned then 4 else 0)
  else
    let s' := s.setMsg k m { v with waiters := v.waiters.filter (· != n) ++ [n] }
    .next s' (rdOf w) (1 + b2n ((s.th k v.owner).state = 6) * 2 + v.owner * 2 ^ 8)

/-- MSG_LOCK (R476). -/
def execMsgLock (cluster : Fin 16) (thread : BitVec 7) (s : State) : Host.Outcome State Fault Refusal :=
  .next (s.clvRun cluster.val thread.toNat .msgLock (msgLock cluster.val thread.toNat))

/-- Thread n holds message register m. -/
def State.holdsMsg (s : State) (k n m : Nat) : Bool := (s.msg k m).locked && (s.msg k m).owner = n

/-- MSG.UNLOCK (R471, R477). -/
def msgUnlock (k n : Nat) (s : State) (w : Nat) : ClvEnd :=
  let m := s.rs1 k n w % 64
  if s.holdsMsg k n m then .next (s.releaseMsg k m false) 0 0 else .fault s 3 0 0

/-- MSG_UNLOCK (R477). -/
def execMsgUnlock (cluster : Fin 16) (thread : BitVec 7) (s : State) : Host.Outcome State Fault Refusal :=
  .next (s.clvRun cluster.val thread.toNat .msgUnlock (msgUnlock cluster.val thread.toNat))

/-- MSG.RD (R471). -/
def msgRd (k n : Nat) (s : State) (w : Nat) : ClvEnd :=
  let r := s.rs1 k n w
  let m := r % 64
  if s.holdsMsg k n m then .next s (rdOf w) (if bitAt r 6 then (s.msg k m).value / 2 ^ 32 else (s.msg k m).value % 2 ^ 32)
  else .fault s 3 0 0

/-- MSG_RD (R471). -/
def execMsgRd (cluster : Fin 16) (thread : BitVec 7) (s : State) : Host.Outcome State Fault Refusal :=
  .next (s.clvRun cluster.val thread.toNat .msgRd (msgRd cluster.val thread.toNat))

/-- MSG.WR (R471). -/
def msgWr (k n : Nat) (s : State) (w : Nat) : ClvEnd :=
  let r := s.rs1 k n w
  let m := r % 64
  let v := s.msg k m
  let x := s.rs2 k n w
  let value := if bitAt r 6 then v.value % 2 ^ 32 + x * 2 ^ 32 else v.value / 2 ^ 32 * 2 ^ 32 + x
  if s.holdsMsg k n m then .next (s.setMsg k m { v with value := value }) 0 0 else .fault s 3 0 0

/-- MSG_WR (R471). -/
def execMsgWr (cluster : Fin 16) (thread : BitVec 7) (s : State) : Host.Outcome State Fault Refusal :=
  .next (s.clvRun cluster.val thread.toNat .msgWr (msgWr cluster.val thread.toNat))

/-! ## CLV -/

/-- A thread's compare is reached (R479). -/
def State.compareDue (s : State) (k n : Nat) : Bool :=
  let t := s.th k n
  t.armed && decide (0 ≤ rvInt (s.clvNow + 2 ^ 32 - t.tcmp))

/-- A compare that is reached is latched and disarmed. -/
def State.takeCompare (s : State) (k n : Nat) : State :=
  if s.compareDue k n then (s.setTh k n { s.th k n with armed := false }).latchWake k n 0 else s

/-- CLV.WAIT (R479). -/
def clvWait (k n : Nat) (s : State) (w : Nat) : ClvEnd :=
  let s := s.takeCompare k n
  let c := s.wakeCauses k n
  let t := s.th k n
  if c != 0 then .next (s.setTh k n { t with cause := c, latched := t.latched - (t.latched &&& c) }) (rdOf w) c
  else .stay (s.setTh k n { t with state := 4, pc := (t.pc + 4) % 2 ^ 32, waitRd := rdOf w }).settleLines

/-- CLV_WAIT (R251, R479): a supervisor that waits is idle, and its line asserts through a hold. -/
def execClvWait (cluster : Fin 16) (thread : BitVec 7) (s : State) : Host.Outcome State Fault Refusal :=
  .next (s.clvRun cluster.val thread.toNat .clvWait (clvWait cluster.val thread.toNat))

/-- CLV.DONE (R460, R471): the supervisor starts again at its entry; another thread becomes Free. -/
def clvDone (k n : Nat) (s : State) (_ : Nat) : ClvEnd :=
  let s := ((s.bump (R.CLV_DONE k)).cloveDrop k n (R.CLV_DONE_DROPS k)).releaseLocks k n
  .stay (if n = 0 then s.startSup k (s.th k 0).bank else s.freeThread k n)

/-- CLV_DONE (R471). -/
def execClvDone (cluster : Fin 16) (thread : BitVec 7) (s : State) : Host.Outcome State Fault Refusal :=
  .next (s.clvRun cluster.val thread.toNat .clvDone (clvDone cluster.val thread.toNat))

/-- CLV.WAKE (R471, R480). -/
def clvWake (k n : Nat) (s : State) (w : Nat) : ClvEnd := .next (s.postWake k (s.rs1 k n w % 128)) 0 0

/-- CLV_WAKE (R480). -/
def execClvWake (cluster : Fin 16) (thread : BitVec 7) (s : State) : Host.Outcome State Fault Refusal :=
  .next (s.clvRun cluster.val thread.toNat .clvWake (clvWake cluster.val thread.toNat))

/-! ## BUF -/

/-- BUF.ALLOC (R346, R471). -/
def bufAlloc (k n : Nat) (s : State) (w : Nat) : ClvEnd :=
  let len := s.rs1 k n w
  let (p, s) := s.allocBuf (clvReq k) len
  match p with
  | some p => .block (s.setTh k n { s.th k n with bufs := (s.th k n).bufs ++ [p] }) (rdOf w) p
  | none => .block s (rdOf w) 0xFFFFFFFF

/-- BUF_ALLOC (R471). -/
def execBufAlloc (cluster : Fin 16) (thread : BitVec 7) (s : State) : Host.Outcome State Fault Refusal :=
  .next (s.clvRun cluster.val thread.toNat .bufAlloc (bufAlloc cluster.val thread.toNat))

/-- A buffer operation of a thread: it blocks, or faults where BPM refuses it (R471, R475). -/
def bufEnd (k n ptr : Nat) (add : Bool) (r : Bool × State) : ClvEnd :=
  let (ok, s) := r
  if !ok then .fault s 7 0 0
  else
    let t := s.th k n
    .block (s.setTh k n { t with bufs := if add then t.bufs ++ [ptr] else t.bufs.erase ptr }) 0 0

/-- BUF_SHARE (R347, R471). -/
def execBufShare (cluster : Fin 16) (thread : BitVec 7) (s : State) : Host.Outcome State Fault Refusal :=
  let (k, n) := (cluster.val, thread.toNat)
  .next (s.clvRun k n .bufShare fun s w =>
    bufEnd k n (s.rs1 k n w) true (s.shareBuf (s.rs1 k n w) (clvReq k) (clvReq k) (clvMid k n)))

/-- BUF_RELEASE (R347, R471). -/
def execBufRelease (cluster : Fin 16) (thread : BitVec 7) (s : State) : Host.Outcome State Fault Refusal :=
  let (k, n) := (cluster.val, thread.toNat)
  .next (s.clvRun k n .bufRelease fun s w =>
    bufEnd k n (s.rs1 k n w) false (s.releaseBuf (s.rs1 k n w) (clvReq k) (clvMid k n)))

/-- BUF_FREE (R347, R471). -/
def execBufFree (cluster : Fin 16) (thread : BitVec 7) (s : State) : Host.Outcome State Fault Refusal :=
  let (k, n) := (cluster.val, thread.toNat)
  .next (s.clvRun k n .bufFree fun s w =>
    bufEnd k n (s.rs1 k n w) false (s.freeBufBy (s.rs1 k n w) (clvReq k) (clvMid k n)))

/-- BUF_XFER (R347, R471). -/
def execBufXfer (cluster : Fin 16) (thread : BitVec 7) (s : State) : Host.Outcome State Fault Refusal :=
  let (k, n) := (cluster.val, thread.toNat)
  .next (s.clvRun k n .bufXfer fun s w =>
    bufEnd k n (s.rs1 k n w) false (s.transferBuf (s.rs1 k n w) (clvReq k) (s.rs2 k n w % 2 ^ 12) (clvMid k n)))

/-! ## SUP -/

/-- A SUP instruction: code 5 for a dispatch thread (R471). -/
def supOnly (n : Nat) (s : State) (body : Unit → ClvEnd) : ClvEnd := if n = 0 then body () else .fault s 5 0 0

/-- SUP.NEXT (R471, R482). -/
def supNext (k n : Nat) (s : State) (w : Nat) : ClvEnd :=
  supOnly n s fun _ =>
    let a := s.rs1 k n w
    let c := s.cl k
    if a % 16 != 0 || !c.inSlice n a 16 then .fault s 1 0 a
    else match c.notes with
      | [] => .next s (rdOf w) 0
      | e :: rest =>
        let s := s.setCl k { c with notes := rest, noteLost := c.noteLost && !rest.isEmpty }
        .next (s.sliceWrite k n a (wordsBytes e)) (rdOf w) 1

/-- SUP_NEXT (R471). -/
def execSupNext (cluster : Fin 16) (thread : BitVec 7) (s : State) : Host.Outcome State Fault Refusal :=
  .next (s.clvRun cluster.val thread.toNat .supNext (supNext cluster.val thread.toNat))

/-- SUP.ACT (R464, R471). -/
def supAct (k n : Nat) (s : State) (w : Nat) : ClvEnd :=
  supOnly n s fun _ =>
    let m := s.rs1 k n w % 128
    let t := s.th k m
    let v := s.rs2 k n w
    if t.state != 5 || v > 1 then .next s 0 0
    else if v = 0 then .next (s.restartThread k m) 0 0
    else
      let len := match s.clvFetch k m with
        | some (_, len) => len
        | none => 4
      .next (s.setTh k m { t with state := 2, pc := (t.pc + len) % 2 ^ 32 }) 0 0

/-- SUP_ACT (R464, R471). -/
def execSupAct (cluster : Fin 16) (thread : BitVec 7) (s : State) : Host.Outcome State Fault Refusal :=
  .next (s.clvRun cluster.val thread.toNat .supAct (supAct cluster.val thread.toNat))

/-- SUP.FREL (R471, R477). -/
def supFrel (k n : Nat) (s : State) (w : Nat) : ClvEnd :=
  supOnly n s fun _ =>
    let (v, s) := s.forceRelease k (s.rs1 k n w % 64)
    .next s (rdOf w) v

/-- SUP_FREL (R477). -/
def execSupFrel (cluster : Fin 16) (thread : BitVec 7) (s : State) : Host.Outcome State Fault Refusal :=
  .next (s.clvRun cluster.val thread.toNat .supFrel (supFrel cluster.val thread.toNat))

/-- CLV_THREAD_STATE_k_n (R464, R493). -/
def State.threadWord (s : State) (k n : Nat) : Nat :=
  let t := s.th k n
  t.state * 2 ^ 29 + b2n t.frame.isSome * 2 ^ 28 + t.bank * 2 ^ 27 + t.seq

/-- SUP.STATE (R471). -/
def supState (k n : Nat) (s : State) (w : Nat) : ClvEnd :=
  supOnly n s fun _ => .next s (rdOf w) (s.threadWord k (s.rs1 k n w % 128))

/-- SUP_STATE (R471). -/
def execSupState (cluster : Fin 16) (thread : BitVec 7) (s : State) : Host.Outcome State Fault Refusal :=
  .next (s.clvRun cluster.val thread.toNat .supState (supState cluster.val thread.toNat))

/-! ## The base (R461, R474) -/

/-- BASE_INSTRUCTION (R461, R474, R475): the instruction at the pc, where it is of the base, or cannot be fetched, or is illegal. -/
def execBaseInstruction (cluster : Fin 16) (thread : BitVec 7) (s : State) : Host.Outcome State Fault Refusal :=
  let (k, n) := (cluster.val, thread.toNat)
  .next (s.clvRun k n .base fun s w =>
    s.baseOp k n (match s.clvFetch k n with
      | some (_, len) => len
      | none => 4) w)

/-- ECALL (R474). -/
def execEcall (cluster : Fin 16) (thread : BitVec 7) (s : State) : Host.Outcome State Fault Refusal :=
  let (k, n) := (cluster.val, thread.toNat)
  .next (s.clvRun k n .ecall fun s _ => .stay (s.clvStop k n 0x02 0 0))

/-- A thread is halted by the debug port (R464, R495). -/
def State.haltThread (s : State) (k n : Nat) : State :=
  let t := s.th k n
  if t.state = 0 || t.state = 6 then s
  else ((s.setTh k n { t with before := t.state, state := 6 }).clvNotify k n 0x04 0 0).raiseEs (288 + 4 * k + 2)

/-- A halted thread is resumed (R464, R465): a result that has returned is written, a compare that was reached is taken. -/
def State.resumeThread (s : State) (k n : Nat) : State :=
  let t := s.th k n
  if t.state != 6 then s
  else
    let t := match (if t.returned then t.result else none) with
      | some (rd, v) => { t with state := 2, result := none, returned := false }.wr rd v
      | none => { t with state := t.before }
    ((s.setTh k n t).tryWake k n).settleLines

/-- EBREAK (R474). -/
def execEbreak (cluster : Fin 16) (thread : BitVec 7) (s : State) : Host.Outcome State Fault Refusal :=
  let (k, n) := (cluster.val, thread.toNat)
  .next (s.clvRun k n .ebreak fun s _ =>
    if bitAt (s.reg R.TST_CLV_DBG_EN) k then
      let a := R.TST_CLV_HALT (k * 8 + n / 32)
      .stay ((s.setReg a (s.reg a ||| 2 ^ (n % 32))).haltThread k n)
    else .fault s 5 0 0)

/-! ## Events of threads -/

/-- BLOCKED_RESULT_RETURN (R464, R465). -/
def execBlockedResultReturn (cluster : Fin 16) (thread : BitVec 7) (s : State) : Host.Outcome State Fault Refusal :=
  let (k, n) := (cluster.val, thread.toNat)
  let t := s.th k n
  .next <|
    match t.result with
    | none => s
    | some (rd, v) =>
      if t.state = 3 then (s.setTh k n ({ t with state := 2, result := none }.wr rd v)).clvSettle k
      else if t.state = 6 then s.setTh k n { t with returned := true }
      else s

/-- COMPARE_REACHED (R465, R479). -/
def execCompareReached (cluster : Fin 16) (thread : BitVec 7) (s : State) : Host.Outcome State Fault Refusal :=
  .next ((s.takeCompare cluster.val thread.toNat).clvSettle cluster.val)

/-- SUP_RESTART (R485). -/
def State.supRestart (s : State) (k : Nat) : State := if (s.cl k).loaded then (s.restartSup k).clvSettle k else s

/-- SUP_RESTART (R485). -/
def execSupRestart (mid : BitVec 13) (cluster : Fin 16) (s : State) : Host.Outcome State Fault Refusal :=
  .next (s.gatedWrite mid.toNat (R.CLV_CL_CTL cluster.val) fun s => s.supRestart cluster.val)

/-- A write of `enable` and `period_us` of CLV_WDOG_CTL_k (R486, R492). -/
def State.wdogEnable (s : State) (mid k : Nat) (on : Bool) (period : Nat) : State :=
  let s := s.setF (F.CLV_WDOG_CTL_period_us k) period
  if !on then (s.setF (F.CLV_WDOG_CTL_enable k) 0).dropClvClaim k 2
  else if period < 10 then ((s.setF (F.CLV_WDOG_CTL_enable k) 0).dropClvClaim k 2).setF (F.CLV_WDOG_CTL_reason k) 0x0E08
  else
    let h := holderWord 0x0E 0x02 mid
    match s.claimFault (comparator k) h with
    | some (r, holder) =>
      (((s.claimRefused (comparator k) holder).setF (F.CLV_WDOG_CTL_enable k) 0).dropClvClaim k 2).setF (F.CLV_WDOG_CTL_reason k) r
    | none =>
      let s := (s.takeClaim (comparator k) h).setF (F.CLV_WDOG_CTL_enable k) 1
      s.setCl k { s.cl k with petted := false }

/-- CLV_WDOG_ENABLE (R486). -/
def execClvWdogEnable (mid : BitVec 13) (cluster : Fin 16) (on : Bool) (period : BitVec 16) (s : State) :
    Host.Outcome State Fault Refusal :=
  .next (s.gatedWrite mid.toNat (R.CLV_WDOG_CTL cluster.val) fun s => s.wdogEnable mid.toNat cluster.val on period.toNat)

/-- WDOG_EXPIRY (R486): the period of cluster k's watchdog ends; without a pet it has expired. -/
def execWdogExpiry (cluster : Fin 16) (s : State) : Host.Outcome State Fault Refusal :=
  let k := cluster.val
  .next <|
    if !s.rfb (F.CLV_WDOG_CTL_enable k) || s.islandDown k then s
    else if (s.cl k).petted then s.setCl k { s.cl k with petted := false }
    else ((s.setF (F.CLV_WDOG_CTL_expired k) 1).bump (R.CLV_WDOG_EXPIRED k)).raiseEs (288 + 4 * k + 3)

/-! ## Programs (R487 to R492) -/

/-- Word i of a program's own header (R487). -/
def progWord (img : List Byte) (i : Nat) : Nat := imgWord img (16 + i)

/-- IMAGE_LAYOUT (R487). -/
def progLayout (img : List Byte) : Option Nat :=
  let n := progWord img 2
  let entry := imgWord img 3
  if progWord img 0 != 0x434C5650 || n < 4 || n > 131072 || n % 4 != 0 || n + 64 > imgWord img 2 || progWord img 3 ≥ n
      || entry < 64 || entry - 64 ≥ n then some 0x0E04
  else none

/-- The program of an image (R487). -/
def progOfImage (img : List Byte) (ssid : Nat) : Program :=
  { code := slice img 128 (progWord img 2), thrEntry := imgWord img 3 - 64, supEntry := progWord img 3, perFrame := bitAt (progWord img 1) 5,
    usesTimer := bitAt (progWord img 1) 4, ssid := ssid }

/-- The cluster is retired or its island in reset (R492). -/
def State.clvGone (s : State) (k : Nat) : Bool := (s.cl k).retired.contains 0 || s.islandDown k

/-- The checks that CLV_PROGRAM_LOAD and CLV_PROGRAM_SWAP share once their image has verified (R487, R492), and the claims (R481, R488). -/
def clvLoadChecks (s : State) (c : Cmd) (feature : Nat) (img : List Byte) (body : State → Res) : Res :=
  let k := c.p 0 % 16
  let ssid := field (c.p 0) 26 16
  let cl := s.cl k
  let mode := progWord img 1 % 4
  let st := (s.inst ssid).state
  let update := (0x04000010 + k, holderWord 0x0E feature c.mid)
  let claims := update :: (if cl.wide && bitAt (progWord img 1) 4 then [(comparator k, holderWord 0x0E 0x01 c.mid)] else [])
  guards [(mode = 3 || (mode = 1 && cl.wide) || (mode = 2 && !cl.wide), fun _ => refuse s 0x0E03),
      (!bitAt (progWord img 1) 5 && ssid != 0 && (st = 0 || st = 5), fun _ => refuse s 0x0E05)] fun _ => withClaims s claims body

/-- CLV_PROGRAM_LOAD (R488). -/
def clvProgramLoadSpec : CmdSpec where
  opcode := 0x0700
  needs := fun _ => 4
  locks := fun _ c => [⟨.cluster, c.p 0 % 16⟩]
  indirect := false
  noGen := false
  body := fun c s =>
    c.checked s [(0, 0x07FF000F)] fun _ =>
      let k := c.p 0 % 16
      let img := slice c.data 0 (c.p 3)
      guards [(c.p 1 % 64 != 0, fun _ => badP s 1), (c.p 3 = 0, fun _ => badP s 3), (s.clvGone k, fun _ => refuse s 0x0E06),
          ((s.cl k).loaded, fun _ => refuse s 0x0E01)] fun _ =>
        let s := s.readImage c none
        withImage s (s.imageFault 3 img progLayout 7) fun _ =>
          clvLoadChecks s c 0x03 img fun s =>
            let cl := s.cl k
            let s := s.setCl k { cl with
              loaded := true, bank := 0, progs := [(0, progOfImage img (field (c.p 0) 26 16))], mem := [], msgs := [], notes := []
              noteLost := false, busy := .none }
            .pend (s.startSup k 0)

/-- CLV_PROGRAM_LOAD (R488): the program is written and started within the step. -/
def execClvProgramLoad (e : AdminEntry) (s : State) : Host.Outcome State Fault Refusal :=
  let s := s.runCmd clvProgramLoadSpec e
  .next (match s.findPend (·.cmd.opcode = 0x0700) with
    | some p => (s.dropClaim (0x04000010 + p.cmd.p 0 % 16)).finish p 0 0 []
    | none => s)

/-- CLV_PROGRAM_SWAP (R489). -/
def clvProgramSwapSpec : CmdSpec where
  opcode := 0x0701
  needs := fun _ => 4
  locks := fun _ c => [⟨.cluster, c.p 0 % 16⟩]
  indirect := false
  noGen := false
  body := fun c s =>
    c.checked s [(0, 0x07FF000F)] fun _ =>
      let k := c.p 0 % 16
      let img := slice c.data 0 (c.p 3)
      guards [(c.p 1 % 64 != 0, fun _ => badP s 1), (c.p 3 = 0, fun _ => badP s 3), (s.clvGone k, fun _ => refuse s 0x0E06),
          (!(s.cl k).loaded, fun _ => refuse s 0x0E02), ((s.cl k).busy == .draining || (s.cl k).busy == .writing, fun _ => refuse s 0x0E07)] fun _ =>
        let s := s.readImage c none
        withImage s (s.imageFault 3 img progLayout 7) fun _ =>
          clvLoadChecks s c 0x04 img fun s =>
            let cl := s.cl k
            let new := 1 - cl.bank
            .pend (s.setCl k { cl with progs := insertKey cl.progs new (progOfImage img (field (c.p 0) 26 16)), busy := .writing })

/-- The image of a swap stands in the bank not in use: the cluster switches to it (R489). -/
def State.swapSwitch (s : State) (k : Nat) : State :=
  let c := s.cl k
  if c.busy == .writing then s.setCl k { c with bank := 1 - c.bank, busy := .draining } else s

/-- DEV_CMD_ABORT of a swap before its switch: the new bank is discarded and the claims are released (R489). -/
def State.abortSwap (s : State) (k : Nat) : State :=
  let c := s.cl k
  let s := (s.setCl k { c with progs := eraseKey c.progs (1 - c.bank), busy := .none }).dropClaim (0x04000010 + k)
  if (s.prog k c.bank).usesTimer then s else s.dropClvClaim k 1

/-- CLV_PROGRAM_SWAP (R489): the switch follows on an idle step, or with SWAP_DRAIN_END, which brings the final reply (log entry 58). -/
def execClvProgramSwap (e : AdminEntry) (s : State) : Host.Outcome State Fault Refusal := .next (s.runCmd clvProgramSwapSpec e)

/-- SWAP_DRAIN_END (R489). -/
def execSwapDrainEnd (cluster : Fin 16) (s : State) : Host.Outcome State Fault Refusal :=
  let k := cluster.val
  let s := s.swapSwitch k
  let c := s.cl k
  .next <|
    if c.busy != .draining || (List.range 127).any (fun j => (s.th k (j + 1)).state ≥ 2 && (s.th k (j + 1)).bank != c.bank) then s
    else
      let s := (s.zeroSlice k 0).startSup k c.bank
      let c := s.cl k
      let s := s.setCl k { c with busy := .none, progs := eraseKey c.progs (1 - c.bank) }
      let s := if (s.prog k c.bank).usesTimer then s else s.dropClvClaim k 1
      match s.findPend fun p => p.cmd.opcode = 0x0701 && p.cmd.p 0 % 16 = k with
      | some p => ((s.dropClaim (0x04000010 + k)).finish p 0 0 []).clvSettle k
      | none => (s.dropClaim (0x04000010 + k)).clvSettle k

/-- CLV_PROGRAM_UNLOAD (R490). -/
def clvProgramUnloadSpec : CmdSpec where
  opcode := 0x0702
  needs := fun _ => 1
  locks := fun _ c => [⟨.cluster, c.p 0 % 16⟩]
  indirect := false
  noGen := false
  body := fun c s =>
    c.checked s [(0, 0x10F)] fun _ =>
      let k := c.p 0 % 16
      guards [(s.clvGone k, fun _ => refuse s 0x0E06), (!(s.cl k).loaded, fun _ => refuse s 0x0E02)] fun _ =>
        let cl := s.cl k
        let s := (s.setCl k { cl with busy := .unloading, queue := [] }).reoffer k cl.queue
        .pend (if bitAt (c.p 0) 8 then
          (List.range 128).foldl (fun s n => if n != 0 && (s.th k n).state ≥ 2 then s.restartThread k n else s) s
        else s)

/-- CLV_PROGRAM_UNLOAD (R490): it ends once every dispatch thread is Free. -/
def execClvProgramUnload (e : AdminEntry) (s : State) : Host.Outcome State Fault Refusal :=
  .next ((List.range 16).foldl State.settleUnload (s.runCmd clvProgramUnloadSpec e))

/-- DEV_CMD_ABORT of an unload that waits: dispatch opens again (R490). -/
def State.abortUnload (s : State) (k : Nat) : State := s.setCl k { s.cl k with busy := .none }

/-- CLV_CLUSTER_MODE (R491). -/
def clvClusterModeSpec : CmdSpec where
  opcode := 0x0703
  needs := fun _ => 1
  locks := fun _ c => [⟨.cluster, c.p 0 % 16⟩]
  indirect := false
  noGen := false
  body := fun c s =>
    c.checked s [(0, 0x10F)] fun _ =>
      let k := c.p 0 % 16
      guards [(s.clvGone k, fun _ => refuse s 0x0E06), ((s.cl k).loaded, fun _ => refuse s 0x0E01)] fun _ =>
        .ok (s.setCl k { s.cl k with wide := bitAt (c.p 0) 8 }) []

/-- CLV_CLUSTER_MODE (R491). -/
def execClvClusterMode (e : AdminEntry) (s : State) : Host.Outcome State Fault Refusal := .next (s.runCmd clvClusterModeSpec e)

/-- CLV_MSGREG_RELEASE (R477, R478). -/
def clvMsgregReleaseSpec : CmdSpec where
  opcode := 0x0710
  needs := fun _ => 1
  locks := fun _ c => [⟨.msgReg, c.p 0 % 16 * 64 + field (c.p 0) 21 16⟩]
  indirect := false
  noGen := false
  body := fun c s =>
    c.checked s [(0, 0x3F000F)] fun _ =>
      let k := c.p 0 % 16
      guards [(s.clvGone k, fun _ => refuse s 0x0E06)] fun _ =>
        let (v, s) := s.forceRelease k (field (c.p 0) 21 16)
        .ok (s.clvSettle k) (results [v])

/-- CLV_MSGREG_RELEASE (R478). -/
def execClvMsgregRelease (e : AdminEntry) (s : State) : Host.Outcome State Fault Refusal := .next (s.runCmd clvMsgregReleaseSpec e)

end Sys2Proof.Machine
end

