-- ==== Sys2Proof/Machine/OpsNet.lean ====
section
/-! DEFINITION. Port modes, links and lane degrade with the Fresnel trees that follow them, and the management endpoint's answers
(R564, R566, R592 to R596, R611 to R616). -/

namespace Sys2Proof.Machine

/-! ## Fresnel trees of the ports -/

/-- A leaf that is being deleted goes once its frames have left, and its FRS_NODE_CFG replies (R582). -/
def State.settleLeaf (s : State) (l : Nat) : State :=
  match s.node l with
  | none => s
  | some n =>
    if !n.closing || !n.frames.isEmpty then s
    else
      let s := { s with frs := { s.frs with
        nodes := eraseKey s.frs.nodes l, instDefault := s.frs.instDefault.filter (·.2 != l) } }
      match s.findPend (fun p => p.cmd.opcode = 0x0A00 && wd p.cmd.params 0 % 2 ^ 16 = l) with
      | some p => s.finish p 0 0 []
      | none => s

/-- Every frame queued on a port's leaves is dropped and counted (R566, R593). -/
def State.dropPortFrames (s : State) (port : Nat) : State :=
  (s.frs.nodes.filter fun e => e.2.kind = 2 && e.2.port = port).foldl
    (fun s e =>
      let s := s.setNode e.1 { e.2 with frames := [], bytes := 0, deficit := 0 }
      let s := e.2.frames.foldl (fun s f =>
        ((s.bump R.FRS_LEAF_DROPS).leafStat e.1 fun x => { x with dropped := x.dropped + 1 }).dropPkt f.pkt 0x1100) s
      s.settleLeaf e.1) s

/-- A port's nodes are deleted with their frames; a deletion that waits replies (R566). -/
def State.deletePortNodes (s : State) (port : Nat) : State :=
  let s := s.dropPortFrames port
  let gone := (s.frs.nodes.filter fun e => e.2.port = port).map (·.1)
  { s with frs := { s.frs with
    nodes := s.frs.nodes.filter (fun e => e.2.port != port)
    instDefault := s.frs.instDefault.filter fun e => !gone.contains e.2 } }

/-- A root and its default leaf are created (R564). -/
def State.addRoot (s : State) (port : Nat) : State :=
  let root : Node := { kind := 0, port := port }
  let leaf : Node := { kind := 2, parent := port, port := port, portDefault := true }
  let s := if (s.node port).isSome then s else s.setNode port root
  if (s.portDefault port).isSome then s else s.setNode (4096 + port) leaf

/-! ## Links, modes and lanes -/

/-- The lanes of a port that can serve (R595). -/
def State.servingOf (s : State) (mode p : Nat) : List Nat := servingLanes (lanesOf mode p) s.mac.retired 4

/-- The link of port p comes up or goes down (R593, R607, R610). -/
def State.setLink (s : State) (p : Nat) (up : Bool) : State :=
  let v := s.port p
  if v.up = up then s
  else
    let s := s.setPort p { v with up := up }
    let s := if up then s else s.stat p 70
    (s.setF (F.MAC_PORT_STATUS_link_changed p) 1).raiseEs (416 + p)

/-- Ports whose lanes and rate a mode change alters (R593), of those that exist before or after it. -/
def State.affected (s : State) (mode mask : Nat) : List Nat :=
  (List.range (max (modePorts s.mac.mode) (modePorts mode))).filter fun p =>
    let there := fun m => decide (p < modePorts m)
    let rate := fun m k => modeLanes m * (if m = 3 && bitAt k p then 1 else 2)
    there s.mac.mode != there mode || s.mac.mode != mode || rate s.mac.mode s.mac.mask100 != rate mode mask

/-- The ports take a mode (R592, R593, R566): affected ports lose their links and their frames, removed ports their nodes; new ports
get roots and default leaves. -/
def State.enterPortMode (s : State) (mode mask : Nat) : State :=
  let hit := s.affected mode mask
  let s := hit.foldl (fun s p => (s.dropPortFrames p).setLink p false) s
  let gone := hit.filter fun p => decide (modePorts mode ≤ p)
  let s := gone.foldl (fun s p => s.deletePortNodes p) s
  let s := { s with mac := { s.mac with mode := mode, mask100 := mask } }
  let s := gone.foldl
    (fun s p => s.setPort p { s.port p with lanes := [], degraded := false, retraining := false, stopped := [] }) s
  (List.range (modePorts mode)).foldl
    (fun s p =>
      let ls := s.servingOf mode p
      let v := s.port p
      let v := if hit.contains p then { v with stopped := [], retraining := false } else v
      let s := s.setPort p { v with lanes := ls, degraded := ls.length < modeLanes mode }
      s.addRoot p) s

/-- The port of a line lane in the current mode. -/
def State.lanePort (s : State) (lane : Nat) : Nat := lane / modeLanes s.mac.mode

/-- A degrade or a restore of any port runs (R594). -/
def State.retrainingAny (s : State) : Bool := s.mac.ports.any fun e => e.2.retraining

/-- The lanes of a port follow the lanes retired (R595, R596): a change retrains it, with its longest openings computed anew. -/
def State.relane (s : State) (p : Nat) : State :=
  let v := s.port p
  let ls := s.servingOf s.mac.mode p
  if !s.portExists p || ls = v.lanes then s
  else
    let less := decide (ls.length < v.lanes.length)
    let s := s.setPort p { v with
      lanes := ls, degraded := ls.length < modeLanes s.mac.mode, retraining := !ls.isEmpty }
    let s := (s.setLink p false).settleOpenings p
    (if less then s.stat p 71 else s).raiseEs 425

/-- A line lane is retired or placed under test, or comes back (R595, R596, R743). -/
def State.setLane (s : State) (lane : Nat) (good : Bool) : State :=
  let r := s.mac.retired.filter (· != lane)
  let s := { s with mac := { s.mac with retired := if good then r else lane :: r } }
  s.relane (s.lanePort lane)

/-! ## The management endpoint (R611 to R616) -/

/-- Speed and duplex of the management port: forced, or as the PHY reports (R611). -/
def State.mgpSpeed (s : State) : Nat × Bool :=
  if s.rfb F.MGP_CFG_force then (s.rf F.MGP_CFG_speed, s.rfb F.MGP_CFG_full_duplex) else (s.mgp.inSpeed, s.mgp.inFull)

/-- The management port works: auxiliary power, not strapped off, and its link up. -/
def State.mgpUp (s : State) : Bool := s.rfb F.PWR_STATUS_aux_good && !s.pwr.strapMgpDis && s.mgp.link

/-- The link of the management port follows what the PHY reports; 1000 Mb/s at half duplex leaves it down (R611). -/
def State.mgpLink (s : State) (up : Bool) : State :=
  let (speed, full) := s.mgpSpeed
  let half := speed = 2 && !full
  let on := up && s.rfb F.PWR_STATUS_aux_good && !s.pwr.strapMgpDis && !half
  let s := if up && half then s.setF F.MGP_BLK_STATUS_reason 0x1301 else s
  let s := ((s.setF F.MGP_STATUS_link_up (b2n on)).setF F.MGP_STATUS_speed speed).setF F.MGP_STATUS_full_duplex (b2n full)
  if s.mgp.link = on then s else ({ s with mgp := { s.mgp with link := on } }).raiseEs 427

/-- Who answers MCTP (R614, R615): nobody without auxiliary power; the standby supervisor or the ROM loader, or Keeper unless it is
halted. -/
inductive MctpHost where
  | nobody | supervisor | loader | keeper | stalled
  deriving DecidableEq, Repr

/-- The answerer of MCTP messages in this state. -/
def State.mctpHost (s : State) : MctpHost :=
  if !s.rfb F.PWR_STATUS_aux_good then .nobody
  else if s.mode = 0 then .supervisor
  else if s.rfb F.GLB_MODE_rom_recovery then .loader
  else if s.boot.keeperHalted || s.boot.takeoverWaits then .stalled
  else .keeper

/-- An MCTP message is dropped (R615). -/
def State.mctpDrop (s : State) : State := (s.bump R.MGP_MCTP_DROPS).raiseEs 428

/-- Messages that await Keeper (R615). -/
def State.mctpWaiting (s : State) : Nat := s.mgp.waiting.length + s.cmds.bmcQueue.length

/-- A control or SPDM message is answered; the published protocols give the body (log entry 4). -/
def State.mctpAnswer (s : State) (src type : Nat) (setEid : Option Nat) : State :=
  let s := match setEid with
    | some e => { s with mgp := { s.mgp with eid := e } }
    | none => s
  let (body, s) := s.drawBytes
  s.emit (.mctp src type body)

/-- A Haldael vendor-defined response (R616). -/
def State.vendorAnswer (s : State) (src code status detail : Nat) (body : List Byte) : State :=
  s.emit (.mctp src 0x7E ([0x7E#8] ++ beBytes 2 Config.vendorId.toNat ++ beBytes 1 (code + 0x80) ++ beBytes 1 status ++ beBytes 1 detail
    ++ beBytes 2 body.length ++ body))

/-- A request of a code that Keeper does not serve: it answers status 1, or 4 while the one before it is unanswered (R616). -/
def State.unserved (s : State) (src code : Nat) : State :=
  match s.mctpHost with
  | .stalled =>
    if s.mctpWaiting ≥ 16 then s.mctpDrop
    else
      let st := if s.mgp.waiting.any fun m => m.2.1 % 256 = code && m.2.1 ≥ 0x7E00 then 4 else 1
      { s with mgp := { s.mgp with waiting := s.mgp.waiting ++ [(src, 0x7E00 + st * 2 ^ 16 + code, none)] } }
  | _ => s.vendorAnswer src code 1 0 []

/-- Messages held while no Keeper could take them are answered in order. -/
def State.mctpServe (s : State) : State :=
  let w := s.mgp.waiting
  w.foldl (fun s m => if m.2.1 < 0x7E00 then s.mctpAnswer m.1 m.2.1 m.2.2 else s.vendorAnswer m.1 (m.2.1 % 256) (m.2.1 / 2 ^ 16) 0 []) { s with mgp := { s.mgp with waiting := [] } }

end Sys2Proof.Machine
end

