-- ==== Sys2Proof/Machine/Fresnel.lean ====
section
/-! DEFINITION. Meanings of Fresnel's commands and events but the choice itself (R559 to R590). -/

namespace Sys2Proof.Machine

/-! ## Nodes (R560, R582, R584) -/

/-- Interior nodes on the way from a node to its root, itself among them. -/
def State.interiorUp (s : State) (k : Nat) : Nat :=
  ((pathUp s.frs.nodes 8 k).filter fun n => (s.node n).any (·.kind = 1)).length

/-- Interior nodes below a node on the longest way down, itself among them. -/
def interiorDown (m : NMap Node) : Nat → Nat → Nat
  | 0, _ => 0
  | fuel + 1, k =>
    match lookup m k with
    | none => 0
    | some n => if n.kind = 2 then 0 else (nodeChildren m k).foldl (fun a e => max a (interiorDown m fuel e.1)) 0 + b2n (n.kind = 1)

/-- The nodes of a subtree. -/
def subtree (m : NMap Node) : Nat → Nat → List Nat
  | 0, _ => []
  | fuel + 1, k => k :: (nodeChildren m k).flatMap fun e => subtree m fuel e.1

/-- The node's part of the sum of idle slopes: a credit-based shaper in force, or the one that replaces it (R571). -/
def Node.slope (n : Node) : Nat :=
  let sh := match n.next with
    | some (x, _) => x
    | none => n.shaper
  match sh with
  | some x => if x.kind = 2 then x.rate else 0
  | none => 0

/-- The idle slopes on a port, those of some nodes apart (R571). -/
def State.slopes (s : State) (port : Nat) (but : List Nat) : Nat :=
  s.frs.nodes.foldl (fun n e => if e.2.kind = 2 && e.2.port = port && !but.contains e.1 then n + e.2.slope else n) 0

/-- FRS_NODE_CFG parameter words as they describe a node. -/
structure NodeCfg where
  node : Nat
  weighted : Bool
  slot : Nat
  parent : Nat
  weight : Nat
  portDefault : Bool
  instDefault : Bool
  cls : Nat
  owner : Nat
  maxBytes : Nat

/-- The configuration that a command gives. -/
def Cmd.nodeCfg (c : Cmd) : NodeCfg where
  node := field (c.p 0) 15 0
  weighted := bitAt (c.p 1) 28
  slot := field (c.p 1) 26 25
  parent := field (c.p 1) 15 0
  weight := c.p 2
  portDefault := bitAt (c.p 3) 29
  instDefault := bitAt (c.p 3) 28
  cls := field (c.p 3) 24 22
  owner := field (c.p 3) 10 0
  maxBytes := if c.p 4 = 0 then 262144 else c.p 4

/-- Why a node's configuration is refused (R584), in the order of the reasons. -/
def State.nodeFault (s : State) (x : NodeCfg) : Option Nat :=
  let m := s.frs.nodes
  let sub := if (s.node x.node).isSome then subtree m 6 x.node else [x.node]
  match s.node x.parent with
  | none => some 0x1101
  | some par =>
    let moved := (s.node x.node).any fun n => n.port != par.port
    let leaves := sub.filter fun k => (s.node k).any (·.kind = 2)
    if par.kind = 2 then some 0x1101
    else if !x.weighted && (nodeChildren m x.parent).any (fun e => e.1 != x.node && !e.2.weighted && e.2.slot = x.slot) then some 0x1102
    else if !sub.contains x.parent && s.interiorUp x.parent + (if x.node ≥ 4096 then 0 else max 1 (interiorDown m 7 x.node)) > 4 then some 0x1103
    else if sub.contains x.parent then some 0x1104
    else if moved && leaves.any (fun k => (s.node k).any fun n => !n.frames.isEmpty) then some 0x1105
    else if moved && leaves.any (fun k => (s.node k).any (·.portDefault)) then some 0x1106
    else if moved && s.slopes par.port leaves + leaves.foldl (fun n k => n + ((s.node k).map Node.slope).getD 0) 0 > s.fullKbps par.port then
      some 0x1109
    else none

/-- A node is created or changed (R582). -/
def State.putNode (s : State) (x : NodeCfg) : State :=
  let port := ((s.node x.parent).map (·.port)).getD 0
  let leaf := decide (x.node ≥ 4096)
  let sub := if (s.node x.node).isSome then subtree s.frs.nodes 6 x.node else []
  let n := (s.node x.node).getD { kind := if leaf then 2 else 1 }
  let n := { n with parent := x.parent, weighted := x.weighted, slot := x.slot, weight := if x.weighted then x.weight else n.weight }
  let n := if leaf then { n with cls := x.cls, owner := x.owner, maxBytes := x.maxBytes, instDefault := x.instDefault } else n
  let s := s.setNode x.node n
  let s := { s with frs := { s.frs with
    nodes := s.frs.nodes.map fun e => if sub.contains e.1 || e.1 = x.node then (e.1, { e.2 with port := port }) else e } }
  if !leaf then s
  else
    let s := if !x.portDefault then s
      else { s with frs := { s.frs with
        nodes := s.frs.nodes.map fun e => if e.2.kind = 2 && e.2.port = port then (e.1, { e.2 with portDefault := e.1 == x.node }) else e } }
    let d := s.frs.instDefault.filter (·.2 != x.node)
    if x.instDefault then { s with frs := { s.frs with
        nodes := s.frs.nodes.map (fun e => if e.1 != x.node && e.2.kind = 2 && e.2.owner = x.owner then (e.1, { e.2 with instDefault := false }) else e)
        instDefault := insertKey d x.owner x.node } }
    else { s with frs := { s.frs with instDefault := d } }

/-- FRS_NODE_CFG (R582). -/
def frsNodeCfgSpec : CmdSpec where
  opcode := 0x0A00
  needs := fun c => if bitAt (c.p 0) 31 then 1 else if field (c.p 0) 15 0 ≥ 4096 then 5 else 3
  locks := fun _ c => [⟨.node, field (c.p 0) 15 0⟩]
  indirect := false
  noGen := false
  body := fun c s =>
    let k := field (c.p 0) 15 0
    if bitAt (c.p 0) 31 then
      c.checked s [(0, 0x8000FFFF)] fun _ =>
        guards [(k < 16 || k > 32767, fun _ => badP s 0)] fun _ =>
          match s.node k with
          | none => notFound s
          | some n =>
            guards [(n.portDefault, fun _ => refuse s 0x1106), (!(nodeChildren s.frs.nodes k).isEmpty, fun _ => refuse s 0x1107)] fun _ =>
              let s := { s.setNode k { n with closing := true } with frs := { s.frs with
                nodes := insertKey s.frs.nodes k { n with closing := true }, instDefault := s.frs.instDefault.filter (·.2 != k) } }
              if n.frames.isEmpty then .ok (s.settleLeaf k) [] else .pend s
    else
      let leaf := decide (k ≥ 4096)
      c.checked s ([(0, 0x8000FFFF), (1, 0x1600FFFF), (2, 0xFFFF)] ++ (if leaf then [(3, 0x31C007FF)] else [])) fun _ =>
        let x := c.nodeCfg
        guards [(k < 16 || k > 32767, fun _ => badP s 0), (x.weighted && x.weight = 0, fun _ => badP s 2),
            (leaf && (x.maxBytes < 2048 || x.maxBytes > 16777216), fun _ => badP s 4)] fun _ =>
          match s.nodeFault x with
          | some r => refuse s r
          | none =>
            let full := x.weighted && ((nodeChildren s.frs.nodes x.parent).filter fun e => e.1 != k && e.2.weighted).length ≥ 1024
            if full then noResource s else .ok (s.putNode x) []

/-- FRS_NODE_CFG (R582). -/
def execFrsNodeCfg (e : AdminEntry) (s : State) : Host.Outcome State Fault Refusal := .next (s.runCmd frsNodeCfgSpec e)

/-! ## Shapers (R568 to R571, R583) -/

/-- A signed 7-bit overhead. -/
def overhead7 (n : Nat) : Int := (BitVec.ofNat 7 n).toInt

/-- FRS_SHAPER_CFG (R583). -/
def frsShaperCfgSpec : CmdSpec where
  opcode := 0x0A01
  needs := fun c => if bitAt (c.p 0) 31 then 1 else 4
  locks := fun _ c => [⟨.node, field (c.p 0) 15 0⟩]
  indirect := false
  noGen := false
  body := fun c s =>
    let k := field (c.p 0) 15 0
    let kind := field (c.p 0) 29 28
    let remove := bitAt (c.p 0) 31
    c.checked s ([(0, 0xF000FFFF)] ++ (if remove then [] else [(3, 0x7F)])) fun _ =>
      match s.node k with
      | none => notFound s
      | some n =>
        if remove then .ok (s.setNode k { n with next := some (none, false) }) []
        else
          let oh := overhead7 (c.p 3)
          guards [(kind != 1 && kind != 2, fun _ => badP s 0), (c.p 1 < 64 || c.p 1 > 1600000000, fun _ => badP s 1),
              (c.p 2 < 64 || c.p 2 > 16777216, fun _ => badP s 2), (oh < -32, fun _ => badP s 3),
              (kind = 2 && n.kind != 2, fun _ => refuse s 0x1108),
              (kind = 2 && s.slopes n.port [k] + c.p 1 > s.fullKbps n.port, fun _ => refuse s 0x1109)] fun _ =>
            let sh : Shaper := { kind := kind, rate := c.p 1, bucket := c.p 2, overhead := oh, empty := bitAt (c.p 0) 30 }
            let before := match n.next with
              | some (x, _) => x
              | none => n.shaper
            let waits := match n.next with
              | some (some _, b) => b
              | _ => false
            let fresh := waits || !(before.any fun b => b.kind = kind && (kind = 2 || b.bucket = c.p 2))
            let n := if kind = 2 && n.shaper.any (·.kind = 2) then
                { n with tokens := min n.tokens (c.p 2 * 10 ^ 9 : Nat), shaper := n.shaper.map fun b => { b with bucket := c.p 2 } }
              else n
            .ok (s.setNode k { n with next := some (some sh, fresh) }) []

/-- FRS_SHAPER_CFG (R583). -/
def execFrsShaperCfg (e : AdminEntry) (s : State) : Host.Outcome State Fault Refusal := .next (s.runCmd frsShaperCfgSpec e)

/-- REFILL_EPOCH (R568 to R570). -/
def execRefillEpoch (s : State) : Host.Outcome State Fault Refusal :=
  .next (if !s.time.running then s else
    { s with frs := { s.frs with nodes := s.frs.nodes.map fun e =>
        let p := e.2.port
        let open_ := p ≥ 8 || (bitAt (s.gates p).now e.2.cls && !(s.port p).stopped.contains e.2.cls)
        let (num, den) := if p < 8 then (s.portRate p, modeLanes s.mac.mode * s.laneRate p) else (1, 1)
        (e.1, e.2.epoch open_ num den) } })

/-! ## Gate lists (R573 to R581) -/

/-- FRS_GCL_WRITE (R580; log entry 37 for its control word). -/
def frsGclWriteSpec : CmdSpec where
  opcode := 0x0A10
  needs := fun c => c.needsBlock 1 0
  locks := fun _ c => [⟨.gcl, c.p 0 % 16⟩]
  indirect := true
  noGen := false
  body := fun c s =>
    c.checked s [(0, 0x03FF0FFF)] fun _ =>
      let port := c.p 0 % 16
      let first := field (c.p 0) 25 16
      let count := field (c.p 0) 11 0
      let at_ := if c.indirect then 16 else 1
      guards [(port ≥ 8 || count = 0 || first + count > 1024, fun _ => badP s 0),
          (c.shortBlock (at_ + 2 * count), fun _ => badParam s 6), (at_ + 2 * count > c.params.length, fun _ => badP s 0)] fun _ =>
        match (List.range count).find? fun k => field (c.p (at_ + 2 * k)) 23 8 != 0 with
        | some k => badP s (at_ + 2 * k)
        | none =>
          let g := s.gates port
          let put := fun (m : NMap (Nat × Nat)) (k : Nat) =>
            insertKey m (first + k) (c.p (at_ + 2 * k) % 256, c.p (at_ + 2 * k + 1) * 256 + field (c.p (at_ + 2 * k)) 31 24)
          .ok (s.setGates port { g with admin := (List.range count).foldl put g.admin }) []

/-- FRS_GCL_WRITE (R580). -/
def execFrsGclWrite (e : AdminEntry) (s : State) : Host.Outcome State Fault Refusal := .next (s.runCmd frsGclWriteSpec e)

/-- The switch instant of a list with a base and a cycle, accepted at an instant, all in 1/256 ns (R577). -/
def switchAt (base cycle accepted : Nat) : Nat :=
  let least := accepted + 10000 * 256
  if base ≥ least then base else base + (least - base + cycle - 1) / max cycle 1 * cycle

/-- FRS_GCL_COMMIT (R577, R579, R581). -/
def frsGclCommitSpec : CmdSpec where
  opcode := 0x0A11
  needs := fun _ => 7
  locks := fun _ c => [⟨.port, c.p 0 % 16⟩]
  indirect := false
  noGen := false
  body := fun c s =>
    c.checked s [(0, 0x87FF000F), (2, 0xFF00007F), (4, 0xFFFF), (6, 0xFF)] fun _ =>
      let port := c.p 0 % 16
      let count := field (c.p 0) 26 16
      let enable := bitAt (c.p 0) 31
      let cycle := c.p 1 * 256 + field (c.p 2) 31 24
      let oh := overhead7 (c.p 2 % 128)
      let g := s.gates port
      let entries := (List.range count).map fun k => lookupD g.admin k (0, 0)
      guards [(port ≥ 8 || count = 0 || count > 1024, fun _ => badP s 0), (oh < -32, fun _ => badP s 2), (c.p 5 ≥ 10 ^ 9, fun _ => badP s 5),
          (cycle < 256000, fun _ => refuse s 0x110A), (entries.any fun e => e.2 < 32 * 256, fun _ => refuse s 0x110B)] fun _ =>
        let base := ((c.p 3 + c.p 4 * 2 ^ 32) * 10 ^ 9 + c.p 5) * 256 + c.p 6
        let sw := switchAt base cycle ((s.now + 2 ^ 24 - 1) / 2 ^ 24)
        let list : Gcl := { enable := enable, entries := entries, cycle := cycle, overhead := oh, base := sw }
        let go := fun (s : State) => Res.pend (s.setGates port { g with pending := some (list, sw), claimed := g.claimed || enable })
        if enable then withClaims s [gateClaim port c.mid] go else go s

/-- FRS_GCL_COMMIT (R581). -/
def execFrsGclCommit (e : AdminEntry) (s : State) : Host.Outcome State Fault Refusal := .next (s.runCmd frsGclCommitSpec e)

/-- A commit that waits is discarded with the claim that it took (R581). -/
def State.gclDiscard (s : State) (port : Nat) : State :=
  let g := s.gates port
  let s := if g.claimed && !g.oper.enable then s.dropGateClaim port else s
  s.setGates port { g with pending := none, claimed := g.oper.enable }

/-- GCL_SWITCH (R577). -/
def execGclSwitch (port : Fin 8) (s : State) : Host.Outcome State Fault Refusal := .next (s.gclSwitch port.val)

/-- GATE_EDGE (R574): the operational list enters its next entry, or its first at the cycle's end. -/
def execGateEdge (port : Fin 8) (s : State) : Host.Outcome State Fault Refusal :=
  .next <|
    let g := s.gates port.val
    if !g.oper.enable then s
    else
      let k := if g.entry + 1 < g.oper.starts.length then g.entry + 1 else 0
      let bits := (g.oper.entries.getD k (255, 0)).1
      s.setGates port.val { g with entry := k, staged := g.staged.filter fun c => !bitAt bits c }

/-- GATE_STAGING (R576): the head frame of a class whose gate opens within 2 us is staged; it stays charged to its last owner. -/
def execGateStaging (port : Fin 8) (cls : Fin 8) (s : State) : Host.Outcome State Fault Refusal :=
  .next <|
    let g := s.gates port.val
    let waits := s.frs.nodes.any fun e => e.2.kind = 2 && e.2.port = port.val && e.2.cls = cls.val && !e.2.frames.isEmpty
    if g.oper.enable && waits && !bitAt g.now cls.val && !g.staged.contains cls.val then
      s.setGates port.val { g with staged := cls.val :: g.staged } else s

/-! ## Depth and telemetry (R565, R585 to R590) -/

/-- LEAF_BELOW_MAX (R565): fetch of the leaf's transmit queues resumes. -/
def execLeafBelowMax (leaf : BitVec 15) (s : State) : Host.Outcome State Fault Refusal :=
  .next ((s.queues.filter fun e => e.2.type = 3 && e.2.state = 1).foldl
    (fun s e => if s.queueLeaf e.1 = leaf.toNat then s.ensureFetch e.1 else s) s)

/-- Entries in a time that a list of subscriptions posts, as a fraction in entries per us (R586). -/
def subsRate (l : List (Nat × Nat)) : Nat × Nat := l.foldl (fun (a : Nat × Nat) x => (a.1 * x.2 + x.1 * a.2, a.2 * x.2)) (0, 1)

/-- FRS_TELEMETRY_CFG (R585, R586). -/
def frsTelemetryCfgSpec : CmdSpec where
  opcode := 0x0A20
  needs := fun c => if bitAt (c.p 0) 31 then 1 else 4
  locks := fun _ c => [⟨.telemetry, c.p 0 % 256⟩]
  indirect := false
  noGen := false
  body := fun c s =>
    let sub := c.p 0 % 256
    let del := bitAt (c.p 0) 31
    c.checked s ([(0, 0x800000FF)] ++ (if del then [] else [(1, 0x007FFFFF), (2, 0xFFFF), (3, 0xFFFF)])) fun _ =>
      let known := (lookup s.frs.subs sub).any (·.owner = c.target)
      if del then
        if known then .ok { s with frs := { s.frs with subs := eraseKey s.frs.subs sub } } (results [sub]) else notFound s
      else
        let count := field (c.p 1) 22 16
        let first := c.p 1 % 2 ^ 16
        let rest := (s.frs.subs.filter (·.1 != sub)).map fun e => (e.2.count, e.2.period)
        let (a, b) := subsRate ((count, c.p 2) :: rest)
        let leaves := (List.range count).map (first + ·)
        let owned := fun k => (s.node k).any fun n => n.kind = 2 && (c.target = 0 || n.owner = c.target)
        guards [(sub != 255 && !known, fun _ => notFound s), (count = 0 || count > 64 || first < 4096 || first + count > 32768, fun _ => badP s 1),
            (c.p 2 = 0, fun _ => badP s 2),
            (leaves.any fun k => !owned k, fun _ => if c.target = 0 then notFound s else refuse s 0x110C),
            (sub = 255 && s.frs.subs.length ≥ 255, fun _ => refuse s 0x110D),
            (!((s.findQ c.target (c.p 3)).any fun q => (s.q q).state = 1 && (s.q q).type = 5), fun _ => refuse s 0x110E),
            (a > 16 * b, fun _ => refuse s 0x110F)] fun _ =>
          let (v, s') := s.draw
          let (k, s) := if sub = 255 then ((searchFrom (fun k => (lookup s.frs.subs k).isNone) 255 v 255).getD 0, s') else (sub, s)
          let t : Telemetry := { owner := c.target, first := first, count := count, period := c.p 2, ring := c.p 3 }
          .ok { s with frs := { s.frs with subs := insertKey s.frs.subs k t } } (results [k])

/-- FRS_TELEMETRY_CFG (R585). -/
def execFrsTelemetryCfg (e : AdminEntry) (s : State) : Host.Outcome State Fault Refusal := .next (s.runCmd frsTelemetryCfgSpec e)

/-- The entry of a leaf in a sample, word 0's phase apart (R587). -/
def State.sampleBody (s : State) (sub leaf : Nat) (x : LeafStat) : List Word :=
  let n := (s.node leaf).getD { kind := 2 }
  let age := match n.frames with
    | [] => 0
    | f :: _ => min ((s.now - f.entered) / 2 ^ 32) (2 ^ 32 - 1)
  let gates := if n.port < 8 then (s.gates n.port).now else 255
  let ts := s.stamp
  results [0x30 * 2 ^ 16, sub * 2 ^ 16 + leaf, n.frames.length, n.bytes, age, x.maxSojourn, x.sent, x.dropped, ts % 2 ^ 32, ts / 2 ^ 32,
    b2n ((s.port n.port).stopped.contains n.cls) * 2 ^ 16 + n.cls * 2 ^ 8 + gates, 0, 0, 0, 0, 0]

/-- TELEMETRY_SAMPLE (R587): the leaves are sampled at one instant and one entry for each is posted. -/
def execTelemetrySample (sub : BitVec 8) (s : State) : Host.Outcome State Fault Refusal :=
  .next <|
    match lookup s.frs.subs sub.toNat with
    | none => s
    | some t =>
      match s.findQ t.owner t.ring with
      | none => s
      | some q =>
        let bodies := (List.range t.count).map fun k => s.sampleBody sub.toNat (t.first + k) (lookupD t.stats (t.first + k) {})
        let s := { s with frs := { s.frs with subs := insertKey s.frs.subs sub.toNat { t with stats := [] } } }
        bodies.foldl (fun s b => (if s.postsDue q then s.bump R.FRS_TELEMETRY_POSTED else s).postDue q 1 b) s

/-- The record of a node (R590). -/
def State.nodeRecord (s : State) (k : Nat) : List Word :=
  match s.node k with
  | none => List.replicate 8 0#32
  | some n =>
    let sh := n.shaper.getD { kind := 0, rate := 0, bucket := 0, overhead := 0, empty := false }
    results [2 ^ 31 + n.kind * 2 ^ 29 + b2n n.portDefault * 2 ^ 28 + b2n (n.weighted && n.kind != 0) * 2 ^ 27 + n.slot * 2 ^ 25 + n.cls * 2 ^ 22
        + n.port * 2 ^ 16 + (if n.kind = 0 then 0xFFFF else n.parent),
      n.weight * 2 ^ 16 + (nodeChildren s.frs.nodes k).length,
      sh.kind * 2 ^ 30 + b2n sh.empty * 2 ^ 29 + (BitVec.ofInt 7 sh.overhead).toNat * 2 ^ 22 + n.owner, sh.rate, sh.bucket,
      if n.kind = 2 then n.maxBytes else 0, n.frames.length, n.bytes]

/-- FRS_NODE_SEL is written: the record is shown (R589). -/
def State.nodeSel (s : State) (k : Nat) : State :=
  let s := s.setReg R.FRS_NODE_SEL (k % 2 ^ 16)
  let r := s.nodeRecord (k % 2 ^ 16)
  (List.range 8).foldl (fun s i => s.setReg (R.FRS_NODE_WORD i) (wd r i)) s

/-- FRS_NODE_SEL_WRITE (R589). -/
def execFrsNodeSelWrite (mid : BitVec 13) (node : BitVec 16) (s : State) : Host.Outcome State Fault Refusal :=
  .next (s.gatedWrite mid.toNat R.FRS_NODE_SEL fun s => s.nodeSel node.toNat)

end Sys2Proof.Machine
end

