-- ==== Sys2Proof/Machine/OpsSaf.lean ====
section
/-! DEFINITION. Operations of the Saffron cipher engine: records, keys, the four protocols, replay, order (R533 to R553). -/

namespace Sys2Proof.Machine

/-! ## Association records (R542) -/

/-- The record of an association; all zero where there is none. -/
def State.assoc (s : State) (a : Nat) : List Word := lookupD s.saf.assocs a (List.replicate 64 0#32)

/-- s with an association's record replaced. -/
def State.setAssoc (s : State) (a : Nat) (r : List Word) : State := { s with saf := { s.saf with assocs := insertKey s.saf.assocs a r } }

/-- Fields of word 0 of a record. -/
def safValid (r : List Word) : Bool := bitAt (wd r 0) 31
def safOut (r : List Word) : Bool := bitAt (wd r 0) 30
def safProto (r : List Word) : Nat := field (wd r 0) 29 27
def safAlg (r : List Word) : Nat := field (wd r 0) 26 24
def safSeq64 (r : List Word) : Bool := bitAt (wd r 0) 23
def safPlain (r : List Word) : Bool := bitAt (wd r 0) 22
def safRoot (r : List Word) : Nat := field (wd r 0) 21 16
def safOwner (r : List Word) : Nat := field (wd r 0) 10 0

/-- Fields of word 1 of a record. -/
def safWindow (r : List Word) : Nat := field (wd r 1) 15 8
def safActive (r : List Word) : Nat := field (wd r 1) 7 7
def safHold (r : List Word) : Bool := bitAt (wd r 1) 6
def safAn (r : List Word) : Nat := field (wd r 1) 5 4
def safSci (r : List Word) : Bool := bitAt (wd r 1) 3

/-- The SCI's eight wire bytes. -/
def safSciBytes (r : List Word) : List Byte := wordsBytes [w32 (wd r 3), w32 (wd r 4)]

/-- Word i of key slot k. -/
def slotWord (r : List Word) (k i : Nat) : Nat := wd r (12 + 20 * k + i)

/-- A record with word i of key slot k replaced. -/
def setSlotWord (r : List Word) (k i v : Nat) : List Word := setWd r (12 + 20 * k + i) v

def slotLoaded (r : List Word) (k : Nat) : Bool := bitAt (slotWord r k 0) 31
def slotEpoch (r : List Word) (k : Nat) : Nat := slotWord r k 1
def slotSeq (r : List Word) (k : Nat) : Nat := slotWord r k 2 + slotWord r k 3 * 2 ^ 32
def slotMap (r : List Word) (k : Nat) : Nat := slotWord r k 4 + slotWord r k 5 * 2 ^ 32

/-- A record with a key slot's sequence and bitmap replaced. -/
def setSlotSeq (r : List Word) (k seq map : Nat) : List Word :=
  setSlotWord (setSlotWord (setSlotWord (setSlotWord r k 2 seq) k 3 (seq / 2 ^ 32)) k 4 map) k 5 (map / 2 ^ 32)

/-- The pairs that Saffron supports (R533). -/
def safPair (proto alg : Nat) : Bool :=
  match proto with
  | 1 => alg ≤ 1
  | 2 => alg ≤ 2
  | 3 => alg ≤ 2
  | 4 => alg = 3 || alg = 4
  | _ => false

/-! ## Keys (R539 to R541) -/

/-- The root key of a slot. -/
def State.rootKey (s : State) (k : Nat) : Option (List Byte) := lookup s.saf.roots k

/-- The context of a key slot (R539). -/
def safContext (a : Nat) (r : List Word) (k : Nat) : List Byte :=
  beBytes 2 (safOwner r) ++ beBytes 2 (field (wd r 1) 31 16) ++ beBytes 4 a ++ beBytes 4 (slotEpoch r k)

/-- L of a record's derivation. -/
def safBits (r : List Word) : Nat := if safAlg r = 4 then 512 else 256

/-- The derivation of R539. -/
def derive (root context : List Byte) (bits : Nat) : List Byte :=
  (List.range (bits / 128)).flatMap fun i =>
    slice (Config.cmac root (beBytes 4 (i + 1) ++ beBytes 4 0x4B5A5346 ++ [0] ++ context ++ beBytes 4 bits)) 0 16

/-- The 48 bytes that a key slot's blob wraps (R540): 8 words of key, 3 of salt. -/
def blobPlain (key : List Word) : List Byte := wordsBytes key ++ List.replicate 4 0

/-- A key slot's blob under a root key (R540). -/
def State.blob (s : State) (a : Nat) (r : List Word) (k : Nat) (key : List Word) : List Word :=
  if safProto r = 4 then List.replicate 14 0#32
  else
    let kek := derive ((s.rootKey (safRoot r)).getD []) (safContext a r k) 256
    (List.range 14).map fun i => w32 (leNat (slice (Config.kwWrap kek (blobPlain key)) (4 * i) 4))

/-- The key and salt of a key slot (R540): none where the unwrap fails or filler bytes are not 0. -/
def State.slotKey (s : State) (a : Nat) (r : List Word) (k : Nat) : Option (List Byte × List Byte) :=
  let d := derive ((s.rootKey (safRoot r)).getD []) (safContext a r k) (safBits r)
  if safProto r = 4 then some (d, [])
  else
    (Config.kwUnwrap d (wordsBytes ((List.range 14).map fun i => w32 (slotWord r k (6 + i))))).bind fun b =>
      let n := if safAlg r = 0 then 16 else 32
      if (slice b n (32 - n)).all (· == 0#8) && (slice b 44 4).all (· == 0#8) then some (slice b 0 n, slice b 32 12) else none

/-- Entries of the cache for a root, context and length. -/
def SafKey.isFor (e : SafKey) (root : Nat) (ctx : List Byte) (bits : Nat) : Bool := e.root = root && e.context == ctx && e.bits = bits

/-- A key in the cache, which then counts as last used (R541). -/
def State.cacheHit (s : State) (a : Nat) (r : List Word) (k : Nat) : Option (List Byte × List Byte) × State :=
  let mine := fun (e : SafKey) => e.isFor (safRoot r) (safContext a r k) (safBits r)
  match s.saf.cache.find? mine with
  | some e => (some e.key, { s with saf := { s.saf with cache := s.saf.cache.filter (fun e => !mine e) ++ [e] } })
  | none => (none, s)

/-- A key enters the cache; a full set loses its least recently used entry (R541). -/
def State.cachePut (s : State) (e : SafKey) : State :=
  let set := fun (x : SafKey) => Config.cacheSet x.root x.context x.bits
  let c := s.saf.cache.filter fun x => !x.isFor e.root e.context e.bits
  let mates := c.filter fun x => set x == set e
  let c := if mates.length < 8 then c else c.filter fun x => some x != mates.head?
  { s with saf := { s.saf with cache := c ++ [e] } }

/-- Cache entries that satisfy p are invalidated (R541). -/
def State.cacheDrop (s : State) (p : SafKey → Bool) : State := { s with saf := { s.saf with cache := s.saf.cache.filter fun e => !p e } }

/-- An entry belongs to an association, or to its key slot of an epoch. -/
def SafKey.ofAssoc (e : SafKey) (a : Nat) : Bool := beNat (slice e.context 4 4) = a

/-- An entry belongs to an instance (R302 step 4). -/
def SafKey.ofInst (e : SafKey) (i : Nat) : Bool := beNat (slice e.context 0 2) = i

/-! ## Sequences and replay (R551, R552) -/

/-- The last sequence number of a record. -/
def safLast (r : List Word) : Nat := if safSeq64 r || safProto r = 3 then 2 ^ 64 - 1 else 2 ^ 32 - 1

/-- A sequence n is refused by the replay check of a key slot (R551). -/
def replayed (r : List Word) (k n : Nat) : Bool :=
  let seq := slotSeq r k
  if n > seq then false
  else safWindow r = 0 || decide (n + safWindow r < seq + 1) || bitAt (slotMap r k) (seq - n)

/-- The record in which a request's replay state stands: the association's own while its key slot is the one that the request took. -/
def State.liveRec (s : State) (w : SafWait) (k : Nat) : List Word :=
  let r := s.assoc w.assoc
  if safValid r && slotEpoch r k = slotEpoch w.record k && slotLoaded r k then r else w.record

/-- A verified sequence n is recorded (R551). -/
def State.accept (s : State) (w : SafWait) (k n : Nat) : State :=
  let r := s.liveRec w k
  if r != s.assoc w.assoc then s
  else
    let seq := slotSeq r k
    s.setAssoc w.assoc (if n > seq then setSlotSeq r k n ((slotMap r k <<< min (n - seq) 64 ||| 1) % 2 ^ 64)
      else setSlotSeq r k seq (slotMap r k ||| 2 ^ (seq - n)))

/-- The 64-bit sequence of an ESP packet (R547: RFC 4303, Appendix A). -/
def espSeq (r : List Word) (k low : Nat) : Nat :=
  if !safSeq64 r then low
  else
    let seq := slotSeq r k
    let th := seq / 2 ^ 32
    let tl := seq % 2 ^ 32
    let w := max 1 (safWindow r)
    if tl + 1 ≥ w then (if low ≥ tl + 1 - w then th else th + 1) % 2 ^ 32 * 2 ^ 32 + low
    else (if low ≥ sub32 (tl + 1) w then th - 1 else th) * 2 ^ 32 + low

/-- The 64-bit packet number of a MACsec frame with XPN (R533: IEEE 802.1AE). -/
def xpnSeq (r : List Word) (k low : Nat) : Nat :=
  if !safSeq64 r then low
  else
    let lowest := slotSeq r k + 1 - safWindow r
    let h := lowest / 2 ^ 32
    (if lowest % 2 ^ 32 ≥ 2 ^ 31 && low < 2 ^ 31 then h + 1 else h) * 2 ^ 32 + low

/-- An outbound key slot's sequence stands at seq: its warning and its stop are raised once (R552). -/
def State.seqMarks (s : State) (a k seq : Nat) : State :=
  let r := s.assoc a
  let s := if seq ≥ dwd r 5 && !s.saf.warned.contains (a * 2 + k) then
      ({ s with saf := { s.saf with warned := (a * 2 + k) :: s.saf.warned } }).raiseEs 386
    else s
  if seq = safLast r then s.raiseEs 387 else s

/-- An outbound request takes the next sequence of a key slot; none where the slot has stopped (R546, R552). -/
def State.takeSeq (s : State) (a k : Nat) : Option Nat × State :=
  let r := s.assoc a
  let n := slotSeq r k
  if n ≥ safLast r then (none, s)
  else (some n, (s.setAssoc a (setSlotSeq r k (n + 1) (slotMap r k))).seqMarks a k (n + 1))

/-! ## MACsec (R533, R547) -/

/-- Bytes XORed one by one. -/
def xorBytes (a b : List Byte) : List Byte := List.zipWith (· ^^^ ·) a b

/-- The nonce of MACsec. -/
def secNonce (r : List Word) (salt : List Byte) (n : Nat) : List Byte :=
  if safSeq64 r then xorBytes (beBytes 4 (wd r 2) ++ beBytes 8 n) salt else safSciBytes r ++ beBytes 4 n

/-- The SecTAG of a frame with n bytes of user data. -/
def secTag (a : Nat) (r : List Word) (seq n : Nat) : List Byte :=
  let bits := (Config.secTagBits a).toNat
  let tci := bits / 2 * 64 + b2n (safSci r) * 32 + bits % 2 * 16 + (if safPlain r then 0 else 12) + safAn r
  beBytes 2 0x88E5 ++ beBytes 1 tci ++ beBytes 1 (if n < 48 then n else 0) ++ beBytes 4 seq ++ (if safSci r then safSciBytes r else [])

/-- A frame protected by MACsec. -/
def secSeal (a : Nat) (r : List Word) (seq : Nat) (key salt d : List Byte) : List Byte :=
  let body := d.drop 12
  let head := d.take 12 ++ secTag a r seq body.length
  let nonce := secNonce r salt seq
  if safPlain r then head ++ body ++ slice (Config.aeadSeal (safAlg r) key nonce (head ++ body) []).2 0 16
  else
    let (ct, icv) := Config.aeadSeal (safAlg r) key nonce head body
    head ++ slice ct 0 body.length ++ slice icv 0 16

/-- The SecTAG of a received frame, where it has the form that its association needs: AN, PN, tag bytes, user data bytes (R547). -/
def secForm (r : List Word) (d : List Byte) : Option (Nat × Nat × Nat × Nat) :=
  let tci := beNat (slice d 14 1)
  let sl := beNat (slice d 15 1)
  let tag := if bitAt tci 5 then 16 else 8
  let n := if sl = 0 then d.length - 12 - tag - 16 else sl
  if beNat (slice d 12 2) != 0x88E5 || bitAt tci 7 || bitAt tci 5 != safSci r || sl ≥ 48 || d.length < 12 + tag + 16 + n || n = 0 then none
  else some (tci % 4, beNat (slice d 16 4), tag, n)

/-- A frame checked and stripped of MACsec. -/
def secOpen (r : List Word) (seq : Nat) (key salt d : List Byte) (tag n : Nat) : Option (List Byte) :=
  let head := d.take (12 + tag)
  let body := slice d (12 + tag) n
  let icv := slice d (12 + tag + n) 16
  let nonce := secNonce r salt seq
  if safPlain r then (Config.aeadOpen (safAlg r) key nonce (head ++ body) [] icv).map fun _ => d.take 12 ++ body
  else (Config.aeadOpen (safAlg r) key nonce head body icv).map fun p => d.take 12 ++ slice p 0 n

/-! ## ESP (R533, R547) -/

/-- The IP header that ESP protects (R547): offset, header bytes, kind 1 IPv4 or 2 IPv6, and the bytes of payload that its length
field gives; none where the frame does not have that form. -/
def espHeader (p : Pkt) (d : List Byte) : Option (Nat × Nat × Nat × Nat) :=
  let at_ := if p.egress then
      let l2 := 14 + lineTagBytes d
      match beNat (slice d (l2 - 2) 2) with
      | 0x0800 => some (l2, 1)
      | 0x86DD => some (l2, 2)
      | _ => none
    else (p.info.refs.getD 1 none).map fun o => (o, p.info.kinds.getD 0 0)
  at_.bind fun (o, kind) =>
    if kind = 1 then
      let hl := beNat (slice d o 1) % 16 * 4
      let len := beNat (slice d (o + 2) 2)
      if hl < 20 || len < hl || d.length < o + len then none else some (o, hl, 1, len - hl)
    else if kind = 2 then
      let len := beNat (slice d (o + 4) 2)
      let nh := beNat (slice d (o + 6) 1)
      if [0, 43, 44, 51, 60, 135, 139, 140].contains nh || d.length < o + 40 + len then none else some (o, 40, 2, len)
    else none

/-- An IP header with its protocol and payload length replaced and its checksum corrected. -/
def espIp (h : List Byte) (kind proto len : Nat) : List Byte :=
  if kind = 1 then
    let h := overwrite (overwrite (overwrite h 2 (beBytes 2 (h.length + len))) 9 (beBytes 1 proto)) 10 [0, 0]
    overwrite h 10 (ipSum h)
  else overwrite (overwrite h 4 (beBytes 2 len)) 6 (beBytes 1 proto)

/-- The additional data of ESP. -/
def espAad (r : List Word) (seq : Nat) : List Byte :=
  beBytes 4 (wd r 2) ++ (if safSeq64 r then beBytes 8 seq else beBytes 4 seq)

/-- A frame protected by ESP in transport mode. -/
def espSeal (r : List Word) (seq : Nat) (key salt d : List Byte) (x : Nat × Nat × Nat × Nat) : List Byte :=
  let (o, hl, kind, n) := x
  let h := slice d o hl
  let proto := beNat (slice h (if kind = 1 then 9 else 6) 1)
  let pad := (4 - (n + 2) % 4) % 4
  let plain := slice d (o + hl) n ++ (List.range pad).map (fun i => BitVec.ofNat 8 (i + 1)) ++ beBytes 1 pad ++ beBytes 1 proto
  let iv := beBytes 8 seq
  let (ct, icv) := Config.aeadSeal (safAlg r) key (slice salt 0 4 ++ iv) (espAad r seq) plain
  let body := beBytes 4 (wd r 2) ++ beBytes 4 seq ++ iv ++ slice ct 0 plain.length ++ slice icv 0 16
  d.take o ++ espIp h kind 50 body.length ++ body

/-- What an ESP check answers: the frame, a failed authentication, or bad padding. -/
inductive Opened where
  | good (d : List Byte)
  | auth
  | pad

/-- A frame checked and stripped of ESP. -/
def espOpen (r : List Word) (seq : Nat) (key salt d : List Byte) (x : Nat × Nat × Nat × Nat) : Opened :=
  let (o, hl, kind, n) := x
  let b := o + hl
  match Config.aeadOpen (safAlg r) key (slice salt 0 4 ++ slice d (b + 8) 8) (espAad r seq) (slice d (b + 16) (n - 32)) (slice d (b + n - 16) 16) with
  | none => .auth
  | some plain =>
    let m := n - 32
    let plain := slice plain 0 m
    let pad := beNat (slice plain (m - 2) 1)
    if pad + 2 > m || slice plain (m - 2 - pad) pad != (List.range pad).map (fun i => BitVec.ofNat 8 (i + 1)) then .pad
    else
      let body := plain.take (m - 2 - pad)
      .good (d.take o ++ espIp (slice d o hl) kind (beNat (slice plain (m - 1) 1)) body.length ++ body)

/-- A received ESP frame has the form that its association needs: its sequence's low half (R547). -/
def espForm (r : List Word) (d : List Byte) (x : Nat × Nat × Nat × Nat) : Option Nat :=
  let (o, hl, kind, n) := x
  let proto := beNat (slice d (o + if kind = 1 then 9 else 6) 1)
  if proto != 50 || n < 36 || n % 4 != 0 || beNat (slice d (o + hl) 4) != wd r 2 then none else some (beNat (slice d (o + hl + 4) 4))

/-! ## TLS and XTS (R547) -/

/-- A TLS record of a plaintext. -/
def tlsSeal (alg seq : Nat) (key iv plain : List Byte) (inner : Nat) : List Byte :=
  let head := beBytes 1 23 ++ beBytes 2 0x0303 ++ beBytes 2 (plain.length + 17)
  let (ct, tag) := Config.aeadSeal alg key (xorBytes iv (beBytes 12 seq)) head (plain ++ beBytes 1 inner)
  head ++ slice ct 0 (plain.length + 1) ++ slice tag 0 16

/-- A byte string without its trailing zeros. -/
def stripZeros (d : List Byte) : List Byte := (d.reverse.dropWhile (· == 0#8)).reverse

/-- A TLS record opened: its plaintext and inner type; none where it does not verify or holds no inner type. -/
def tlsOpen (alg seq : Nat) (key iv rec : List Byte) : Option (List Byte × Nat) :=
  let n := rec.length - 21
  (Config.aeadOpen alg key (xorBytes iv (beBytes 12 seq)) (rec.take 5) (slice rec 5 n) (slice rec (5 + n) 16)).bind fun p =>
    let p := stripZeros (slice p 0 n)
    p.getLast?.map fun t => (p.dropLast, t.toNat)

/-- Data units through XTS from a first block. -/
def xtsRun (enc : Bool) (key d : List Byte) (unit first : Nat) : List Byte :=
  (List.range (d.length / unit)).flatMap fun u =>
    let x := slice d (u * unit) unit
    slice (if enc then Config.xtsEncrypt key (leBytes 16 (first + u)) x else Config.xtsDecrypt key (leBytes 16 (first + u)) x) 0 unit

/-! ## Ends of a request -/

/-- A frame comes back from Saffron and goes on (R433, R436, R547). -/
def State.safReturn (s : State) (p : Pkt) (reparse : Bool) : State :=
  if p.egress then
    match p.dest with
    | .port k l => s.leaveEgress p k l
    | _ => s.finishActs p
  else if !reparse then s.acts p
  else if p.reparses ≥ 3 then (s.bump R.SWX_RECIRC_LIMIT).dropPkt p 0x0D00
  else s.ingress { p with reparses := p.reparses + 1, acts := [], dest := .none, edits := {} }

/-- The request at a place of the list ends. -/
def State.safDrop (s : State) (w : SafWait) : State := { s with saf := { s.saf with waiting := s.saf.waiting.filter fun x => x.id != w.id } }

/-- Frames of an association that are ready leave in the order in which Saffron took them (R452). -/
def State.safFlush (s : State) (a : Nat) : Nat → State
  | 0 => s
  | fuel + 1 =>
    match s.saf.waiting.find? (fun w => w.assoc = a) with
    | none => s
    | some w =>
      match w.ready, w.req with
      | some p, .frame _ _ reparse => ((s.safDrop w).safReturn p reparse).safFlush a fuel
      | _, _ => s

/-- A port request ends: a completion trigger with its cookie, status and reason, and result (R506, R548). -/
def State.safDone (s : State) (conn gen : Nat) (args : List Dword) (status reason result : Nat) : State :=
  let cookie := field ((args.getD 3 0).toNat) 63 48
  let s := { s with psq := { s.psq with posted := match s.psq.posted.find? (fun (o : PostedOp) => o.conn = conn && o.port = 5 && o.args == args) with
    | some o => s.psq.posted.erase o
    | none => s.psq.posted } }
  match s.conn conn with
  | none => s
  | some c => (s.trigger c.group { kind := 3, conn := conn, status := status * 2 ^ 16 + reason, cookie := cookie, result := result, gen := gen }).settleConn conn

/-- A frame's request ends with the frame lost. -/
def State.safLose (s : State) (w : SafWait) (p : Pkt) (reason : Nat) : State :=
  let s := (s.safDrop w).dropPkt p reason
  s.safFlush w.assoc s.saf.waiting.length

/-- A frame's request ends with the frame ready to be returned. -/
def State.safReady (s : State) (w : SafWait) (p : Pkt) : State :=
  let s := { s with saf := { s.saf with waiting := s.saf.waiting.map fun (x : SafWait) => if x.id = w.id then { x with ready := some p } else x } }
  s.safFlush w.assoc s.saf.waiting.length

/-- An authentication failure (R550). -/
def State.authFail (s : State) : State := (s.bump R.SAF_AUTH_FAIL).raiseLimited 384

/-- A replayed frame (R551). -/
def State.replayDrop (s : State) : State := (s.bump R.SAF_REPLAY_DROPS).raiseLimited 385

/-- The frame of a routine of a connection: the one that runs, or the one that stands in a trap slot. -/
def State.connFrame (s : State) (c : Nat) : Option Pkt :=
  (List.range 32).findSome? fun q =>
    let v := s.seq q
    match lookup v.running c with
    | some r => r.frame
    | none => (v.slots.find? fun e => e.2.routine.conn = c).bind (·.2.routine.frame)

/-- The bytes of that frame replaced. -/
def State.setConnFrame (s : State) (c : Nat) (d : List Byte) : State :=
  (List.range 32).foldl (fun s q =>
    let v := s.seq q
    let put := fun (r : Routine) => { r with frame := r.frame.map fun p => { p with data := d } }
    if (lookup v.running c).isSome || v.slots.any (·.2.routine.conn = c) then
      s.setSeq q { v with running := modifyKey v.running c put,
                          slots := v.slots.map fun e => if e.2.routine.conn = c then (e.1, { e.2 with routine := put e.2.routine }) else e }
    else s) s

/-- Bytes read for a SAF port request: from a device address, or from the frame window (R548). -/
def State.safRead (s : State) (conn : Nat) (a : Dword) (n : Nat) : Option (List Byte) :=
  if bitAt a.toNat 63 then
    (s.connFrame conn).bind fun p => if field a.toNat 39 0 + n ≤ p.data.length then some (slice p.data (field a.toNat 39 0) n) else none
  else if physOk (field a.toNat 39 0) n then some (s.physRead (field a.toNat 39 0) n) else none

/-- Bytes written for a SAF port request; false where the place does not exist. -/
def State.safWrite (s : State) (conn : Nat) (a : Dword) (bs : List Byte) : Bool × State :=
  let o := field a.toNat 39 0
  if bitAt a.toNat 63 then
    match s.connFrame conn with
    | some p => if o + bs.length ≤ p.data.length then (true, s.setConnFrame conn (overwrite p.data o bs)) else (false, s)
    | none => (false, s)
  else if physOk o bs.length then (true, s.physWrite 0x1020 o bs) else (false, s)

/-! ## Processing -/

/-- A frame's bytes as a cipher sees them: the extracted tags written back. -/
def State.wireBytes (s : State) (p : Pkt) : List Byte :=
  withTags (match p.inPort with
    | some q => (s.port q).tpid
    | none => 0x88A8) p.tags p.data

/-- An entered frame is processed under its key (R547, R550). -/
def State.safFrame (s : State) (w : SafWait) (k : Nat) (p : Pkt) (key : List Byte × List Byte) : State :=
  let r := w.record
  let keep := fun (s : State) (p : Pkt) => (s.storeBuf p.ptr p.data).safReady w p
  if safProto r = 1 then
    if safOut r then keep s { p with data := secSeal w.assoc r w.seq key.1 key.2 (s.wireBytes p), tags := [] }
    else
      match secForm r p.data with
      | none => (s.bump R.SAF_FORMAT).safLose w p 0x1000
      | some (_, _, tag, n) =>
        if replayed (s.liveRec w k) k w.seq then s.replayDrop.safLose w p 0x1000
        else match secOpen r w.seq key.1 key.2 p.data tag n with
          | none => (s.storeBuf p.ptr (overwrite p.data (12 + tag) (List.replicate n 0))).authFail.safLose w p 0x1000
          | some d =>
            let (tags, d) := match p.inPort with
              | some q => if p.egress then ([], d) else (s.port q).extract d
              | none => ([], d)
            keep (s.accept w k w.seq) { p with data := d, tags := tags }
  else
    match espHeader p p.data with
    | none => (s.bump R.SAF_FORMAT).safLose w p 0x1000
    | some x =>
      if safOut r then keep s { p with data := espSeal r w.seq key.1 key.2 p.data x }
      else if replayed (s.liveRec w k) k w.seq then s.replayDrop.safLose w p 0x1000
      else match espOpen r w.seq key.1 key.2 p.data x with
        | .auth => (s.storeBuf p.ptr (overwrite p.data (x.1 + x.2.1 + 16) (List.replicate (x.2.2.2 - 32) 0))).authFail.safLose w p 0x1000
        | .pad => ((s.accept w k w.seq).bump R.SAF_PAD_BAD).safLose w p 0x1000
        | .good d => keep (s.accept w k w.seq) { p with data := d }

/-- The data unit of an XTS request of a connection (R525, R547). -/
def State.xtsUnit (s : State) (conn : Nat) : Nat :=
  match s.conn conn with
  | some c => if Config.bigBlocks (field (lookupD c.params 0 0#32).toNat 17 16) (lookupD c.params 1 0#32).toNat then 4096 else 512
  | none => 512

/-- A SAF port request has a length that its protocol takes (R547). -/
def State.safLength (s : State) (r : List Word) (conn : Nat) (args : List Dword) : Bool :=
  let n := field (args.getD 3 0).toNat 31 0
  if safProto r = 4 then
    let u := s.xtsUnit conn
    n % u = 0 && 1 ≤ n / u && n / u ≤ 256
  else if safOut r then 1 ≤ n && n ≤ 16384
  else
    match (if n ≤ 16640 then s.safRead conn (args.getD 1 0) n else none) with
    | some d => n ≥ 22 && beNat (slice d 0 3) = 0x170303 && beNat (slice d 3 2) + 5 = n
    | none => decide (22 ≤ n ∧ n ≤ 16640)

/-- An entered port request is processed under its key (R547 to R550). -/
def State.safPort (s : State) (w : SafWait) (conn gen : Nat) (args : List Dword) (key : List Byte × List Byte) : State :=
  let r := w.record
  let a0 := (args.getD 0 0).toNat
  let cnt := field (args.getD 3 0).toNat 31 0
  let done := fun (s : State) (st rs res : Nat) => (s.safDrop w).safDone conn gen args st rs res
  match s.safRead conn (args.getD 1 0) cnt with
  | none => done s 0x12 0 0
  | some d =>
    let put := fun (s : State) (bs : List Byte) (res : Nat) =>
      let (ok, s) := s.safWrite conn (args.getD 2 0) bs
      if ok then done s 0 0 res else done s 0x12 0 0
    if safProto r = 4 then put s (xtsRun (safOut r) key.1 d (s.xtsUnit conn) (field a0 39 0)) 0
    else if safOut r then put s (tlsSeal (safAlg r) w.seq key.1 key.2 d ([23, 21, 22, 23].getD (field a0 42 41) 23)) 0
    else
      let k := w.slot.getD 0
      let live := s.liveRec w k
      let n := slotSeq live k
      match tlsOpen (safAlg r) n key.1 key.2 d with
      | none =>
        let s := (s.safWrite conn (args.getD 2 0) (List.replicate cnt 0)).2
        (done s.authFail 0x1C 0 0).connFail conn
      | some (plain, inner) =>
        let s := if live == s.assoc w.assoc then s.setAssoc w.assoc (setSlotSeq live k (n + 1) 0) else s
        let s := if inner = 22 && plain.headD 0#8 == 24#8 then
            ((s.setAssoc w.assoc (setWd (s.assoc w.assoc) 1 (wd (s.assoc w.assoc) 1 ||| 64))).bump R.SAF_KEYUPDATE_HOLDS).raiseEs 388
          else s
        put s plain (inner * 2 ^ 32 + plain.length)

/-- An entered request whose key cannot be unwrapped fails (R540). -/
def State.safUnwrapFail (s : State) (w : SafWait) : State :=
  let s := (s.bump R.SAF_UNWRAP_FAIL).raiseEs 389
  match w.req with
  | .frame p _ _ => s.safLose w p 0x1000
  | .port c g args => (s.safDrop w).safDone c g args 0x20 0x100D 0

/-- An entered request is processed under a key; a TLS record that finds its association held goes back to wait (R549). -/
def State.safRun (s : State) (w : SafWait) (key : List Byte × List Byte) : State :=
  match w.req with
  | .frame p _ _ => s.safFrame w (w.slot.getD 0) p key
  | .port c g args =>
    if safProto w.record = 3 && !safOut w.record && safHold (s.assoc w.assoc) then
      { s with saf := { s.saf with waiting := s.saf.waiting.map fun (x : SafWait) => if x.id = w.id then { x with slot := none } else x } }
    else s.safPort w c g args key

/-! ## Entry (R546, R547, R551, R552, R553) -/

/-- A request takes its key slot and its sequence, and is processed or waits for a derivation (R541, R546). -/
def State.safTake (s : State) (w : SafWait) (k seq : Nat) : State :=
  let r := s.assoc w.assoc
  let e : SafWait := { w with slot := some k, record := r, seq := seq }
  let behind := s.saf.waiting.any fun x => x.assoc = w.assoc && x.slot = some k && x.ready.isNone
  let s := { s with saf := { s.saf with waiting := s.saf.waiting.map fun (x : SafWait) => if x.id = w.id then e else x } }
  if behind then s
  else
    let (hit, s) := s.cacheHit w.assoc r k
    match hit with
    | some key => s.safRun e key
    | none => s.bump R.SAF_CACHE_MISSES

/-- A frame enters Saffron. -/
def State.safEnterFrame (s : State) (w : SafWait) (p : Pkt) (encrypt : Bool) : State :=
  let r := s.assoc w.assoc
  let unusable := fun (s : State) => (s.bump R.SAF_NO_ASSOC).safLose w p 0x1000
  let format := fun (s : State) => (s.bump R.SAF_FORMAT).safLose w p 0x1000
  let outward := fun (k : Nat) =>
    if !slotLoaded r k then unusable s
    else match s.takeSeq w.assoc k with
      | (some n, s) => s.safTake w k n
      | (none, s) => (s.bump R.SAF_SEQ_EXHAUSTED).safLose w p 0x1000
  let inward := fun (k n : Nat) =>
    if !slotLoaded r k then unusable s
    else if replayed r k n then s.replayDrop.safLose w p 0x1000
    else s.safTake w k n
  if !safValid r || safOut r != encrypt || safProto r > 2 then unusable s
  else if safProto r = 1 then
    if encrypt then (if p.data.length < 12 then format s else outward (safActive r))
    else if !p.tags.isEmpty then format s
    else match secForm r p.data with
      | none => format s
      | some (an, pn, _, _) => inward (an % 2) (xpnSeq r (an % 2) pn)
  else match espHeader p p.data with
    | none => format s
    | some x =>
      if encrypt then outward 0
      else match espForm r p.data x with
        | none => format s
        | some low => inward 0 (espSeq r 0 low)

/-- A port request enters Saffron. -/
def State.safEnterPort (s : State) (w : SafWait) (conn gen : Nat) (args : List Dword) : State :=
  let r := s.assoc w.assoc
  let a0 := (args.getD 0 0).toNat
  let done := fun (s : State) (st rs : Nat) => (s.safDrop w).safDone conn gen args st rs 0
  let k := safActive r
  let owner := ((s.conn conn).map (·.owner)).getD 2048
  if !safValid r || safOwner r != owner || safProto r < 3 || safOut r != !bitAt a0 43 || !slotLoaded r k then done s 0x20 0x100D
  else if safProto r = 3 && !safOut r && safHold r then s
  else if !s.safLength r conn args then done s 0x11 0
  else if safProto r = 3 && safOut r && field a0 42 41 = 3 then done s 0x12 0
  else if safProto r = 4 then s.safTake w k 0
  else if safOut r then
    match s.takeSeq w.assoc k with
    | (some n, s) => s.safTake w k n
    | (none, s) => done s 0x20 0x100C
  else s.safTake w k 0

/-- The requests of an instance's associations end: their frames are dropped, and no port learns of them (R302 step 4, R303). -/
def State.dropSaf (s : State) (i : Nat) : State :=
  let mine := s.saf.waiting.filter fun w => safValid (s.assoc w.assoc) && safOwner (s.assoc w.assoc) = i
  let s := { s with saf := { s.saf with waiting := s.saf.waiting.filter fun w => !mine.contains w } }
  mine.foldl (fun s w => match w.req with
    | .frame p _ _ => (s.bump R.SAF_NO_ASSOC).dropPkt (w.ready.getD p) 0x1000
    | .port .. => s) s

/-- The owner of association a is being destroyed: what Saffron does for it is discarded (R303). -/
def State.safDying (s : State) (a : Nat) : Bool := safValid (s.assoc a) && (s.inst (safOwner (s.assoc a))).state = 5

/-- The request at a place of Saffron's list enters, where every earlier request of its association has (R546). -/
def State.safEnter (s : State) (place : Nat) : State :=
  match s.saf.waiting[place]? with
  | none => s
  | some w =>
    if s.safDying w.assoc then s.dropSaf (safOwner (s.assoc w.assoc))
    else if w.slot.isSome || (s.saf.waiting.take place).any (fun x => x.assoc = w.assoc && x.slot.isNone) then s
    else match w.req with
      | .frame p enc _ => s.safEnterFrame w p enc
      | .port c g args => s.safEnterPort w c g args

/-- A derivation of a key slot has ended (R541): the entry is cached, and the requests that waited run in order. -/
def State.derived (s : State) (a k : Nat) : State :=
  let ws := s.saf.waiting.filter fun w => w.assoc = a && w.slot = some k && w.ready.isNone
  if s.safDying a then s.dropSaf (safOwner (s.assoc a)) else
  match ws with
  | [] => s
  | w :: _ =>
    let same := ws.takeWhile fun x => slotEpoch x.record k = slotEpoch w.record k && safContext a x.record k == safContext a w.record k
    let s := s.bump R.SAF_DERIVATIONS
    match s.slotKey a w.record k with
    | none => same.foldl State.safUnwrapFail s
    | some key =>
      let s := s.cachePut { root := safRoot w.record, context := safContext a w.record k, bits := safBits w.record, key := key }
      same.foldl (fun s x => s.safRun x key) s

end Sys2Proof.Machine
end

