-- ==== Sys2Proof/Machine/OpsDestroy.lean ====
section
/-! DEFINITION. The removal of an instance with work in flight (R302, R303, R675). -/

namespace Sys2Proof.Machine

/-- The instance's queues are forced to Free (R302 step 2). -/
def State.freeQueues (s : State) (i : Nat) : State :=
  ((s.queues.filter fun e => e.2.iid = i && e.2.state != 0).map (·.1)).foldl (fun s q => (s.freeQueue q true).raiseEs 229) s

/-- The exact-match entries that the instance owns leave their tables, and their slots are written empty (R302 step 4). -/
def State.dropEntries (s : State) (i : Nat) : State :=
  s.tbl.tables.foldl
    (fun s t =>
      let gone := (t.2.entries.filter fun (e : Nat × EmEntry) => e.2.owner = i).map (·.1)
      let v := s.table t.1
      let s := s.setTable t.1 { v with entries := v.entries.filter fun (e : Nat × EmEntry) => e.2.owner != i }
      gone.foldl (fun s k => s.storeSlot t.1 k) s) s

/-- What the instance owns outside the queues is removed (R302 step 4). -/
def State.removeOwned (s : State) (i : Nat) : State :=
  let s := ((s.psq.conns.filter fun e => e.2.owner = i).map (·.1)).foldl (fun s c => s.forgetConn c) s
  let s := { s with psq := { s.psq with regions := s.psq.regions.filter fun e => e.2.owner != i } }
  let s := s.dropSaf i
  let s := { s with saf := { s.saf with assocs := s.saf.assocs.filter fun e => !(safValid e.2 && safOwner e.2 = i) } }
  let s := { s with cls := { s.cls with rules := s.cls.rules.map fun (e : Nat × Rule) => (e.1, { e.2 with valid := e.2.valid && e.2.owner != i }) } }
  (s.dropEntries i).cacheDrop (·.ofInst i)

/-- INS_DESTROY once its regions are unloaded (R302 steps 4 to 8). -/
def State.destroyEnd (s : State) (i : Nat) : State :=
  let mine := (s.lan.regions.filter fun e => e.2.state != 0 && e.2.renter = i).map (·.1)
  let s := (((s.removeOwned i).releaseRange i).releaseGone i).settleMoves
  let s := (s.dropClaims fun h => h % 2 ^ 13 = i).dmaReleaseMid i
  let s := mine.foldl State.lanFree s
  let v := s.inst i
  let s := (s.setInst i { v with state := 0, quota := List.replicate 12 0#32, adminQid := 0, tearing := false }).bump R.INS_DESTROYS
  match s.findPend (fun p => p.cmd.opcode = 0x0101 && p.cmd.target = i) with
  | some p => (s.finish p 0 0 []).raiseEs 13
  | none => s

/-- INS_DESTROY goes on when none of the instance's regions is loaded any more (R302 steps 3 and 4, R675): a region that has come to rest, or has
faulted, is unloaded. -/
def State.settleDestroy (s : State) (i : Nat) : State :=
  if (s.inst i).state != 5 || !(s.inst i).tearing then s
  else
    let at_ := fun (s : State) (p : Nat → Bool) => (s.lan.regions.filter fun e => e.2.renter = i && p e.2.state).map (·.1)
    let s := (at_ s fun st => st = 5 || st = 7).foldl State.lanUnload s
    if (at_ s fun st => 2 ≤ st && st ≤ 7).isEmpty then s.destroyEnd i else s

/-- Every INS_DESTROY that waits for its regions. -/
def State.settleDestroys (s : State) : State :=
  ((s.insts.filter fun e => e.2.state = 5 && e.2.tearing).map (·.1)).foldl State.settleDestroy s

/-- INS_DESTROY after its generation increment (R302 steps 2 and 3): every queue is freed; a Running region quiesces to be unloaded, and one that
quiesces already, or loads, is unloaded too. -/
def State.destroyRest (s : State) (i : Nat) : State :=
  let s := s.freeQueues i
  let s := s.setInst i { s.inst i with tearing := true }
  let mine := (s.lan.regions.filter fun e => e.2.renter = i).map (·.1)
  let s := mine.foldl
    (fun s r =>
      let v := s.region r
      match v.state with
      | 2 => s.lanUnload r
      | 3 => s.lanQuiesce r .unload
      | 4 => s.setRegion r { v with quiesce := some .unload, incoming := none, staging := none }
      | _ => s) s
  s.settleDestroy i

end Sys2Proof.Machine
end

