-- ==== Sys2Proof/Machine/Pipeline.lean ====
section
/-! DEFINITION. Meanings of reception, the frame tail, the scheduler's choice and parked packets (R31 to R41, R336, R562). -/

namespace Sys2Proof.Machine

/-- Line port p carries traffic. -/
def State.lineOpen (s : State) (p : Nat) : Bool := s.dataOn && s.portExists p && (s.port p).up && (s.port p).adminUp

/-- FRAME_RECEIVE (R31, R598): a frame without its FCS begins to arrive and crosses the ingress stages; its tail follows with
FRAME_TAIL. -/
def execFrameReceive (port : Fin 8) (bytes : List Byte) (s : State) : Host.Outcome State Fault Refusal :=
  .next (if s.lineOpen port.val && (lookup s.pipe.arriving port.val).isNone then s.receive port.val bytes else s)

/-- The MAC's counters at a frame's tail (R598, R607). -/
def State.countTail (s : State) (port : Nat) (bytes : List Byte) (ok : Bool) : State :=
  let n := bytes.length + 4
  if n < 64 then s.stat port (if ok then 3 else 4)
  else if n > (s.port port).maxFrame then s.stat port (if ok then 5 else 6)
  else if ok then s.countFrame port 0 bytes else s.stat port 2

/-- FRAME_TAIL (R35, R36). -/
def execFrameTail (port : Fin 8) (fcsGood : Bool) (s : State) : Host.Outcome State Fault Refusal :=
  .next <|
    match lookup s.pipe.arriving port.val with
    | none => s
    | some (k, bytes, short) =>
      let s := { s with pipe := { s.pipe with arriving := eraseKey s.pipe.arriving port.val } }
      let s := s.countTail port.val bytes fcsGood
      if short then s.bump R.BPM_ALLOC_SHORT else if k = 0 then s else s.tail k fcsGood

/-- A looped frame enters ingress as source 13; its transmit entry completes (R41, R193, R366; log entry 41). -/
def State.loopback (s : State) (p : Pkt) : State :=
  let s := match p.tx with
    | some x => s.completeTx x (tsWords x.tsReq s.now s.timeUncertain (sideWord s.now 13 0xFFFF)) 0 0
    | none => s
  s.ingress { p with tx := none, source := 13, inPort := none, info := { length := p.data.length } }

/-- SCHEDULER_CHOICE (R561, R562): a root whose MAC can take a frame. -/
def execSchedulerChoice (root : Fin 9) (s : State) : Host.Outcome State Fault Refusal :=
  .next <|
    let r := root.val
    if (s.node r).isNone || !s.dataOn || (r < 8 && !s.lineOpen r) then s
    else
      let (c, s) := s.choose r
      let s := (s.frs.nodes.filter (·.2.closing)).foldl (fun s e => s.settleLeaf e.1) s
      match c with
      | none => s
      | some (_, f) => if r < 8 then s.startLine r f.pkt else s.loopback f.pkt

/-- PAGE_FILL_COMPLETE (R38, R333): a page whose home is in LPDDR5X, or which another access has brought, becomes resident for the frames
parked on it; a page of a donation comes with HOST_READ_COMPLETION. The read of the home may find errors (R315): a page whose data is lost is poisoned. -/
def execPageFillComplete (page : BitVec 30) (ecc : EccResult) (s : State) : Host.Outcome State Fault Refusal :=
  .next <|
    let k := page.toNat
    let p := s.page k
    match p.home.frame with
    | none => if p.filling && p.cached.isSome then (s.fillPage k none).releasePage k else s
    | some f =>
      if !p.filling then s
      else if p.cached.isSome then (s.fillPage k none).releasePage k
      else
        let s := s.eccRead (f * 4096) ecc
        if (s.page k).poisoned then s.startWaiting else (s.fillPage k none).releasePage k

/-- PARK_TIMEOUT (R335, R336): the packet at a place of the park buffer has been parked for max_park_us. -/
def execParkTimeout (place : BitVec 16) (s : State) : Host.Outcome State Fault Refusal :=
  .next <|
    match s.pgr.parked[place.toNat]? with
    | none => s
    | some x =>
      (({ s with pgr := { s.pgr with parked := s.pgr.parked.eraseIdx place.toNat } }).bump R.PGR_PARK_DROPS).dropPkt x.pkt 0x0800

end Sys2Proof.Machine
end

