-- ==== Sys2Proof/Machine/Lantern.lean ====
section
/-! DEFINITION. Meanings of the Lantern regions' commands and events (R649 to R686). -/

namespace Sys2Proof.Machine

/-! ## Frames at the taps (R654 to R660) -/

/-- A frame of a region takes its tap's bypass action (R657). -/
def State.tapBypass (s : State) (r : Nat) (f : InFlight) : State :=
  if ((s.region r).taps.getD f.tap {}).drop then s.dropPkt f.pkt 0x150E
  else if f.tap = 2 then s.egress f.pkt
  else s.acts f.pkt

/-- The frames in flight at region r take their bypass actions (R667). -/
def State.lanBypassAll (s : State) (r : Nat) : State :=
  let fs := (s.region r).flight
  let s := s.setRegion r { s.region r with flight := [] }
  fs.foldl (fun s e => (s.bump (R.LAN_BYPASS r)).tapBypass r e.2) s

/-- A returned frame with the bytes that the region sent, in its own buffer where they fit (R659). -/
def State.tapBytes (s : State) (r : Nat) (p : Pkt) (bytes : List Byte) : Option Pkt × State :=
  if bytes.length ≤ classBytes (ptrClass p.ptr) then (some { p with data := bytes }, s.storeBuf p.ptr bytes)
  else
    let (k, s) := s.allocBuf (0x820 + r) bytes.length
    match k with
    | none => (none, s.dropPkt p 0x1500)
    | some k => (some { p with ptr := k, data := bytes, holder := none, headBuf := none }, (s.endBuf p).storeBuf k bytes)

/-- The verdict on a frame (R655). -/
def State.tapVerdict (s : State) (r stream : Nat) (p : Pkt) (v : Nat) : State :=
  let kind := field v 31 30
  let value := v % 2 ^ 16
  let renter := (s.region r).renter
  if kind = 2 then s.dropPkt p 0x1500
  else if kind = 3 then (s.bump (R.LAN_BAD_VERDICT r)).dropPkt p 0x1500
  else if stream = 2 then
    if kind = 0 then s.deliver renter value p true else s.egress { p with inst := renter }
  else if stream = 0 && bitAt v 29 then
    if p.reparses ≥ 3 then (s.bumpFor p R.SWX_RECIRC_LIMIT).dropPkt p 0x0D00
    else s.ingress { p with reparses := p.reparses + 1, acts := [], dest := .none, edits := {} }
  else if kind = 1 then s.actList p value
  else s.acts p

/-- A frame that a region creates on hst_out (R654, R660). -/
def State.tapCreated (s : State) (r : Nat) (mark v : Nat) (bytes : List Byte) : State :=
  if bytes.length < 14 || bytes.length > 16384 then s.bump (R.LAN_BAD_VERDICT r)
  else
    let (k, s) := s.allocBuf (0x820 + r) bytes.length
    match k with
    | none => s
    | some k =>
      (s.storeBuf k bytes).tapVerdict r 2 { ptr := k, data := bytes, source := 12, mark := mark, inst := (s.region r).renter, ts := s.now
                                            tsUncertain := s.timeUncertain } v

/-- A frame returns on stream t of region r with a token (R655, R658, R659). -/
def State.tapReturn (s : State) (r t token mark v : Nat) (bytes : List Byte) : State :=
  let g := s.region r
  let slot := token % 4096
  let seq := token / 4096
  let declared := match g.image with
    | some i => bitAt i.ports t
    | none => false
  if (g.state != 3 && g.state != 4) || !declared then s
  else
    let s := s.bump (R.LAN_OUT_FRAMES r)
    if seq = 15 then (if t = 2 then s.tapCreated r mark v bytes else s.bump (R.LAN_BAD_TOKEN r))
    else match (lookup g.flight slot).filter fun f => f.seq = seq && f.tap = t with
      | none =>
        if g.late.contains (slot * 16 + seq) then
          (s.setRegion r { g with late := g.late.filter (· != slot * 16 + seq) }).bump (R.LAN_LATE_RETURNS r)
        else s.bump (R.LAN_BAD_TOKEN r)
      | some f =>
        let s := s.setRegion r { g with flight := eraseKey g.flight slot }
        let p := { f.pkt with mark := mark }
        if bitAt v 28 then s.tapVerdict r t p v
        else if bytes.length < 14 || bytes.length > 16384 then (s.bump (R.LAN_BAD_VERDICT r)).dropPkt p 0x1500
        else match s.tapBytes r p bytes with
          | (none, s) => s
          | (some p, s) => s.tapVerdict r t p v

/-- REGION_RETURN (R655, R658, R659). -/
def execRegionReturn (region : Fin 16) (stream : Fin 3) (token mark : BitVec 16) (verdict : Word) (bytes : List Byte) (s : State) :
    Host.Outcome State Fault Refusal := .next (s.tapReturn region.val stream.val token.toNat mark.toNat verdict.toNat bytes)

/-- TAP_HOLD_TIMEOUT (R658). -/
def execTapHoldTimeout (region : Fin 16) (slot : BitVec 12) (s : State) : Host.Outcome State Fault Refusal :=
  let r := region.val
  let g := s.region r
  .next <|
    match lookup g.flight slot.toNat with
    | none => s
    | some f =>
      let s := s.setRegion r { g with flight := eraseKey g.flight slot.toNat, late := (slot.toNat * 16 + f.seq) :: g.late }
      (s.bump (R.LAN_TIMEOUTS r)).tapBypass r f

/-! ## Memory, registers and events (R651, R662 to R664) -/

/-- A port of a region that its image declares, while its clock runs. -/
def Region.live (g : Region) (port : Nat) : Bool :=
  (g.state = 3 || g.state = 4) && (match g.image with
    | some i => bitAt i.ports port
    | none => false)

/-- A memory request of region r fails with a status (R662). -/
def State.lanMemFault (s : State) (r tag k : Nat) : State := (s.bump (R.LAN_MEM_FAULTS r)).emit (.regionAnswer r tag k [])

/-- A memory request of region r is answered (R662). -/
def State.lanMemory (s : State) (r : Nat) (q : RegionReq) : State :=
  if q.write then
    match s.ssWrite (0x800 + r) q.off (slice q.data 0 q.n) with
    | (some k, s) => s.lanMemFault r q.tag k
    | (none, s) => s.emit (.regionAnswer r q.tag 0 [])
  else
    match s.ssRead (0x800 + r) q.off q.n with
    | (.error k, s) => s.lanMemFault r q.tag k
    | (.ok bs, s) => s.emit (.regionAnswer r q.tag 0 bs)

/-- The requests of region r whose pages can be reached are answered, in the order issued (R663). -/
def State.lanServe (s : State) (r : Nat) : State :=
  let qs := (s.region r).waits
  if qs.isEmpty then s
  else
  let s := s.setRegion r { s.region r with waits := qs.filter fun q => s.reachWaits (0x800 + r) q.off }
  (qs.filter fun q => !s.reachWaits (0x800 + r) q.off).foldl (fun s q => s.lanMemory r q) s

/-- REGION_MEMORY_REQUEST (R662, R663): a request whose tag still waits for its response is discarded; one whose page must wait waits. -/
def execRegionMemoryRequest (region : Fin 16) (write : Bool) (addr : BitVec 36) (lines tag : Fin 64) (data : List Byte) (s : State) :
    Host.Outcome State Fault Refusal :=
  let r := region.val
  let g := s.region r
  let off := addr.toNat * 64
  let n := (lines.val + 1) * 64
  .next <|
    if !g.live 3 then s
    else if g.waits.any (·.tag = tag.val) then s.bump (R.LAN_MEM_FAULTS r)
    else if off % 4096 + n > 4096 then s.lanMemFault r tag.val 6
    else (s.setRegion r { g with waits := g.waits ++ [{ write := write, off := off, n := n, tag := tag.val, data := data }] }).lanServe r

/-- The window offset of register n of a region's register window (R685). -/
def regionWindow (r n : Nat) : Nat := 0x1580000 + r * 0x4000 + n * 4

/-- An access of a region's register window that the region does not answer (R24, R664). -/
def State.regionSilent (s : State) (mid r n : Nat) (read : Bool) : State :=
  let s := (s.bump (R.LAN_REG_TIMEOUTS r)).crossingFailed (regionWindow r n) (16 + r) read
  if read then s.emit (.readData mid 0xFFFFFFFF) else s

/-- An access of a region's register window by a master (R664). -/
def State.regionAccess (s : State) (mid r n : Nat) (value : Option Nat) (answer : Option Nat) : State :=
  let read := value.isNone
  if !windowMid mid then
    let s := s.badMaster mid read (some (0x40000000 + regionWindow r n))
    if read then s.emit (.readData mid 0) else s
  else match (if (s.region r).state = 3 && (s.region r).live 6 then answer else none) with
    | none => s.regionSilent mid r n read
    | some v =>
      let s := s.emit (.regionReg r n value)
      if read then s.emit (.readData mid v) else s

/-- REGION_REGISTER_ACCESS (R664): value is what is written, none for a read; answer is what the region's logic reads back. -/
def execRegionRegisterAccess (mid : BitVec 13) (region : Fin 16) (reg : BitVec 12) (value : Option Word) (answer : Word) (s : State) :
    Host.Outcome State Fault Refusal :=
  .next (s.regionAccess mid.toNat region.val reg.toNat (value.map (·.toNat)) (some answer.toNat))

/-- REGION_REGISTER_TIMEOUT (R664). -/
def execRegionRegisterTimeout (mid : BitVec 13) (region : Fin 16) (reg : BitVec 12) (value : Option Word) (s : State) :
    Host.Outcome State Fault Refusal :=
  .next (s.regionAccess mid.toNat region.val reg.toNat (value.map (·.toNat)) none)

/-- LX_EVENT_EDGE (R651, R686). -/
def execLxEventEdge (region : Fin 16) (s : State) : Host.Outcome State Fault Refusal :=
  .next (if (s.region region.val).live 7 then s.raiseEs (449 + 2 * region.val) else s)

/-! ## Faults, scrubbing and power (R677 to R680) -/

/-- Region r is Faulted with a cause (R667): the clock stops and the frames in flight take bypass. Commands that wait for it end: an
unload goes on. -/
def State.lanFault (s : State) (r reason : Nat) : State :=
  let v := s.region r
  if v.state < 3 || v.state > 5 then s
  else
    let s := (s.setRegion r { v with reason := reason, clock := 0, quiesce := none, incoming := none, waits := [] }).lanEnter r 7
    let s := s.lanBypassAll r
    let s := (s.lanFinish 0x0C01 r 0x20 0x1502 (results [7])).lanFinish 0x0C02 r 0x20 0x1502 (results [7])
    if (s.lanPend 0x0C03 r).isSome then s.lanUnload r else s

/-- CONFIG_SCRUB_PASS (R677): the single-bit errors corrected, and whether an uncorrectable one was found. -/
def execConfigScrubPass (region : Fin 16) (corrected : BitVec 16) (uncorrectable : Bool) (s : State) : Host.Outcome State Fault Refusal :=
  let r := region.val
  .next <|
    if (s.region r).state < 3 || (s.region r).state > 5 then s
    else
      let s := (List.range corrected.toNat).foldl (fun s _ => (s.bump (R.LAN_SCRUB_CE r)).fault 0x0C (0x600 + r) 1 []) s
      if uncorrectable then (s.lanFault r 0x1510).fault 0x0D (0x600 + r) 0 [] else s

/-- The 64 us average of a region's samples (R678). -/
def Region.avg (v : Region) : Nat := v.samples.foldl (· + ·) 0 / 64

/-- The cap that governs a region, in 5 mW units: in the throttle state half of the cap set, but no less than 2 W (R679, R769). -/
def State.cap5 (s : State) (v : Region) : Nat := if s.rfb F.PWR_STATUS_throttled then max 400 (v.cap * 25) else v.cap * 50

/-- REGION_POWER_SAMPLE (R678, R679): the sample in 10 mW units. -/
def execRegionPowerSample (region : Fin 16) (sample : BitVec 12) (s : State) : Host.Outcome State Fault Refusal :=
  let r := region.val
  let v := s.region r
  .next <|
    if v.state < 3 || v.state > 5 then s
    else
      let v := { v with samples := (sample.toNat :: v.samples).take 64 }
      let s := s.setRegion r v
      if 4 * sample.toNat > 3 * s.cap5 v then ((s.bump (R.LAN_TRIPS r)).setRegion r { v with stage := 3 }).lanFault r 0x1511
      else if v.stage = 0 && 2 * v.avg > s.cap5 v then
        ((s.setRegion r { v with stage := 1 }).bump (R.LAN_THROTTLES r)).emit (.regionSignal r 4)
      else s

/-- THROTTLE_STAGE_2 (R679): the average has stayed above the cap for 20 us more. -/
def execThrottleStage2 (region : Fin 16) (s : State) : Host.Outcome State Fault Refusal :=
  let r := region.val
  let v := s.region r
  .next <|
    if (v.stage != 1 && v.stage != 2) || 2 * v.avg ≤ s.cap5 v || (v.state != 3 && v.state != 4) then s
    else
      let s := s.setRegion r { v with stage := 2, clock := max (min 100 v.clock) (v.clock / 2) }
      if v.stage = 1 then s.raiseEs (448 + 2 * r) else s

/-- THROTTLE_RECOVERY (R679): the average has stayed at or below 90 % of the cap for 100 us. -/
def execThrottleRecovery (region : Fin 16) (s : State) : Host.Outcome State Fault Refusal :=
  let r := region.val
  let v := s.region r
  let full := (v.image.map (·.clock)).getD 0
  .next <|
    if v.avg * 20 > s.cap5 v * 9 then s
    else if v.stage = 1 then (s.setRegion r { v with stage := 0 }).emit (.regionSignal r 5)
    else if v.stage = 2 && (v.state = 3 || v.state = 4) then
      let c := min full (v.clock * 2)
      s.setRegion r { v with clock := c, stage := if c = full then 1 else 2 }
    else s

/-- POWER_TRIP (R679): the average has stayed above the cap for 1 ms at 100 MHz. -/
def execPowerTrip (region : Fin 16) (s : State) : Host.Outcome State Fault Refusal :=
  let r := region.val
  let v := s.region r
  .next <|
    if v.stage != 2 || 2 * v.avg ≤ s.cap5 v || v.clock > 100 || (v.state != 3 && v.state != 4) then s
    else ((s.bump (R.LAN_TRIPS r)).setRegion r { v with stage := 3 }).lanFault r 0x1511

/-! ## Assignment and power commands (R680 to R683) -/

/-- REGION_STATE, with the state code (R683). -/
def regionState (s : State) (r : Nat) : Res := .bad s 0x20 0x1502 (results [(s.region r).state])

/-- What the other instances still lack of their lantern_min (R682). -/
def State.lanternShort (s : State) (i : Nat) : Nat :=
  s.tenants.foldl (fun n j => if j = i then n else n + (quotaMin (s.inst j).quota 3 - s.regionsOf j)) 0

/-- Unassigned regions that are not retired. -/
def State.freeRegions (s : State) : Nat := ((List.range 16).filter fun r => (s.region r).state = 0 && !s.isRetired (0x600 + r)).length

/-- LAN_REGION_ASSIGN (R681, R682). -/
def lanRegionAssignSpec : CmdSpec where
  opcode := 0x0C00
  needs := fun c => if bitAt (c.p 0) 31 then 1 else 3
  locks := fun _ c => [⟨.region, c.p 0 % 16⟩]
  indirect := false
  noGen := false
  body := fun c s =>
    let release := bitAt (c.p 0) 31
    c.checked s ([(0, 0x87FF000F)] ++ if release then [] else [(1, 0x3FFFFF), (2, 0x3FFFFF)]) fun _ =>
      let r := c.p 0 % 16
      let i := field (c.p 0) 26 16
      let v := s.region r
      if release then (if v.state = 1 || v.state = 8 then .ok (s.lanFree r) [] else regionState s r)
      else
        let (base, size) := s.rangeOf i
        guards [(c.p 2 = 0 || c.p 2 > 2097151, fun _ => badP s 2), (v.state != 0, fun _ => refuse s 0x1501),
            (i != 0 && s.regionsOf i + 1 > quotaMax (s.inst i).quota 3, fun _ => quotaExceeded s),
            (c.p 1 + c.p 2 > size, fun _ => refuse s 0x1503),
            (decide (s.freeRegions < s.lanternShort i + b2n (!s.isRetired (0x600 + r))), fun _ => refuse s 0x1504)] fun _ =>
          let s := (s.setRegion r { v with renter := i, base := c.p 1, size := c.p 2, taps := [{}, {}, {}] }).reserveRange (0x800 + r) (base + c.p 1) (c.p 2)
          .ok (s.lanEnter r 1) []

/-- LAN_REGION_ASSIGN (R681). -/
def execLanRegionAssign (e : AdminEntry) (s : State) : Host.Outcome State Fault Refusal := .next (s.runCmd lanRegionAssignSpec e)

/-- A body on a region that the target instance rents (R681). -/
def Cmd.onRegion (c : Cmd) (s : State) (r : Nat) (body : Unit → Res) : Res :=
  if (s.region r).state = 0 || (s.region r).renter != c.target then notFound s else body ()

/-- LAN_POWER_CAP (R680). -/
def lanPowerCapSpec : CmdSpec where
  opcode := 0x0C04
  needs := fun _ => 1
  locks := fun _ c => [⟨.region, c.p 0 % 16⟩]
  indirect := false
  noGen := false
  body := fun c s =>
    c.checked s [(0, 0x3F0F)] fun _ =>
      let r := c.p 0 % 16
      let cap := field (c.p 0) 13 8
      c.onRegion s r fun _ =>
        let v := s.region r
        guards [(cap < 8 || cap > 32, fun _ => badP s 0), (decide (cap < ((v.image.map (·.minCap)).getD 0)), fun _ => refuse s 0x1507),
            (decide (s.capOthers r + cap > s.lan.allowance), fun _ => refuse s 0x1508)] fun _ => .ok (s.setRegion r { v with cap := cap }) []

/-- LAN_POWER_CAP (R680). -/
def execLanPowerCap (e : AdminEntry) (s : State) : Host.Outcome State Fault Refusal := .next (s.runCmd lanPowerCapSpec e)

/-- LAN_ALLOWANCE_SET (R680). -/
def lanAllowanceSetSpec : CmdSpec where
  opcode := 0x0C05
  needs := fun _ => 1
  locks := fun _ _ => [⟨.allowance, 0⟩]
  indirect := false
  noGen := false
  body := fun c s =>
    c.checked s [(0, 0x1FF)] fun _ =>
      guards [(c.p 0 > 312, fun _ => badP s 0), (decide (c.p 0 < s.capSum), fun _ => refuse s 0x1509)] fun _ =>
        .ok { s with lan := { s.lan with allowance := c.p 0 } } []

/-- LAN_ALLOWANCE_SET (R680). -/
def execLanAllowanceSet (e : AdminEntry) (s : State) : Host.Outcome State Fault Refusal := .next (s.runCmd lanAllowanceSetSpec e)

/-- A local queue may feed the host tap of region r (R684). -/
def State.tapQueueOk (s : State) (r i loc : Nat) : Bool :=
  (match s.findQ i loc with
    | some q => (s.q q).type = 3 && (s.q q).state = 1
    | none => false)
    && s.lan.regions.all fun e => e.1 = r || e.2.state = 0 || e.2.renter != i || (e.2.taps.getD 2 {}).queue != loc

/-- LAN_TAP_CFG (R681). -/
def lanTapCfgSpec : CmdSpec where
  opcode := 0x0C06
  needs := fun _ => 4
  locks := fun _ c => [⟨.region, c.p 0 % 16⟩]
  indirect := false
  noGen := false
  body := fun c s =>
    c.checked s [(0, 0x30F), (1, 0x8000FFFF), (2, 0x7FF), (3, 0xFFFF)] fun _ =>
      let r := c.p 0 % 16
      let t := field (c.p 0) 9 8
      let hold := c.p 1 % 2 ^ 16
      c.onRegion s r fun _ =>
        guards [(t = 3, fun _ => badP s 0), (hold = 0, fun _ => badP s 1), (c.p 2 = 0 || c.p 2 > 1024, fun _ => badP s 2),
            (t = 2 && c.p 3 != 0xFFFF && !s.tapQueueOk r c.target (c.p 3), fun _ => refuse s 0x150D)] fun _ =>
          let tap : Tap := { drop := bitAt (c.p 1) 31, hold := hold, depth := c.p 2, queue := if t = 2 then c.p 3 else 0xFFFF }
          .ok (s.setRegion r { s.region r with taps := (s.region r).taps.set t tap }) []

/-- LAN_TAP_CFG (R681). -/
def execLanTapCfg (e : AdminEntry) (s : State) : Host.Outcome State Fault Refusal := .next (s.runCmd lanTapCfgSpec e)

/-! ## Loading (R668 to R674) -/

/-- The image that a container's header gives (R668). -/
def fenxonOf (img : List Byte) : FenxonImage :=
  { imageId := imgWord img 12, clock := field (imgWord img 3) 31 16, minCap := field (imgWord img 3) 15 8, ports := imgWord img 8 % 256
    initTimeout := imgWord img 11, svn := field (imgWord img 1) 15 0, keySlot := field (imgWord img 1) 23 16 }

/-- A header field of a container out of its range (R668, R684). -/
def fenxonLayout (img : List Byte) : Bool :=
  let w := imgWord img
  let slot := field (w 1) 23 16
  let clock := field (w 3) 31 16
  let cap := field (w 3) 15 8
  field (w 1) 31 24 != 1 || slot = 0 || slot > 4 || w 2 = 0 || w 2 % 64 != 0 || w 2 > 50331648 || clock < 100 || clock > 800 || cap < 8 || cap > 32
    || !fits (w 3) 0xFFFFFF00 || !fits (w 8) 0xFFFF00FF || field (w 8) 31 16 != 1 || !fits (w 9) 0x3FFFF || !fits (w 10) 0xFFFF03FF || w 11 = 0
    || w 11 > 1000000 || (List.range 17).any fun k => w (14 + k) != 0

/-- The first fault of a container in the order of R82, with the checks of R680 and R684: its status, reason and result words. -/
def State.fenxonFault (s : State) (r : Nat) (img : List Byte) : Option (Nat × Nat × List Word) :=
  let w := imgWord img
  let n := w 2
  let slot := field (w 1) 23 16
  if w 0 != 0x4B5A4658 || w 31 != (crc32c (slice img 0 124)).toNat || w 13 != (crc32c (slice img 128 n)).toNat then some (0x20, 0x0006, [])
  else if fenxonLayout img then some (0x20, 0x1505, [])
  else if w 9 > 163840 || field (w 10) 31 16 > 8192 || field (w 10) 9 0 > 640 then some (0x20, 0x1506, [])
  else if img.length != 128 + n + 1088 then some (0x12, 0, [w32 7])
  else if !s.signed slot (slice img 0 (128 + n)) (slice img (128 + n) 1088) then some (0x1A, 0, [])
  else if field (w 1) 15 0 < lookupD s.boot.fuses 5 0 then some (0x20, 0x0007, [])
  else if s.fwTooOld (field (w 5) 31 16) (field (w 5) 15 0) then some (0x20, 0x0008, [])
  else if (s.region r).cap < field (w 3) 15 8 then some (0x20, 0x1507, [])
  else if s.capOthers r + (s.region r).cap > s.lan.allowance then some (0x20, 0x1508, [])
  else none

/-- Region r, Loading, is configured with the image that has verified (R673 steps 4 to 7). good is whether the readback matches. -/
def State.lanConfigure (s : State) (r : Nat) (good : Bool) : State :=
  let i := (s.region r).incoming
  let s := s.lanClear r
  if !good then ((s.setRegion r { s.region r with reason := 0x150A }).lanEnter r 1).lanFinish 0x0C01 r 0x20 0x150A []
  else (s.setRegion r { s.region r with incoming := i, clock := (i.map (·.clock)).getD 0 }).emit (.regionSignal r 0)

/-- A load is accepted (R667, R673 step 1): the container is staged. -/
def State.lanStage (s : State) (r : Nat) (good : Bool) : State :=
  let v := s.region r
  let s := s.setRegion r { v with staging := some (v.state, good) }
  if v.state = 3 then s else s.lanEnter r 2

/-- The staged container has been verified (R667, R673 step 2): the load goes on, or ends. A region that has left the state in which it
took the load has no room for it (DESIGN CHOICE, log entry 58). -/
def State.lanLoad (s : State) (r : Nat) (img : List Byte) (good : Bool) : State :=
  let s := s.setRegion r { s.region r with staging := none }
  let running := (s.region r).state = 3
  match if running || (s.region r).state = 2 then s.fenxonFault r img else some (0x20, 0x1502, results [(s.region r).state]) with
  | some (st, rs, ws) =>
    let s := if (s.region r).state = 2 then (s.lanClear r).lanEnter r 1 else s
    s.lanFinish 0x0C01 r st rs ws
  | none =>
    let s := s.setRegion r { s.region r with incoming := some (fenxonOf img) }
    if running then ((s.setRegion r { s.region r with quiesce := some .load }).lanEnter r 4).emit (.regionSignal r 3)
    else s.lanConfigure r good

/-- Staging and verification of region r's load have ended (R673 step 2). -/
def State.lanStaged (s : State) (r : Nat) : State :=
  match (s.region r).staging, s.lanPend 0x0C01 r with
  | some (_, good), some p => s.lanLoad r (slice p.cmd.data 0 (p.cmd.p 3)) good
  | _, _ => s

/-- DEV_CMD_ABORT of a load that is staged or verified: the region is as it was (R672). -/
def State.abortLoad (s : State) (r : Nat) : State :=
  let v := s.region r
  let was := (v.staging.map (·.1)).getD v.state
  let s := (s.setRegion r { v with staging := none }).dropClaim (lanLock r)
  if was = v.state then s else s.lanEnter r was

/-- LAN_IMAGE_LOAD (R673, R681). -/
def lanImageLoadSpec : CmdSpec where
  opcode := 0x0C01
  needs := fun _ => 5
  locks := fun _ c => [⟨.region, c.p 0 % 16⟩]
  indirect := false
  noGen := false
  body := fun c s =>
    c.checked s [(0, 0x8000000F), (4, 0xFFFFF800)] fun _ =>
      let r := c.p 0 % 16
      let v := s.region r
      guards [(bitAt (c.p 0) 31 && !c.fromManager, fun _ => .bad s 0x13 0 [])] fun _ =>
        c.onRegion s r fun _ =>
          guards [(c.p 1 % 64 != 0, fun _ => badP s 1), (c.p 3 = 0, fun _ => badP s 3),
              (v.state = 8 || s.isRetired (0x600 + r), fun _ => refuse s 0x150C),
              (v.state != 1 && v.state != 3 && v.state != 5, fun _ => regionState s r)] fun _ =>
            withClaims s [(lanLock r, holderWord 0x15 0x01 c.mid)] fun s =>
              let s := s.readImage c (some (pasidWord (c.p 4)))
              c.tried s (s.fenxonFault r (slice c.data 0 (c.p 3))) fun _ => .pend s

/-- LAN_IMAGE_LOAD (R673): the container is staged and verified by the next idle step, or by the region's next event of R673, which can only
follow it (log entry 58); readback says whether step 5 finds what was written. -/
def execLanImageLoad (e : AdminEntry) (readback : Bool) (s : State) : Host.Outcome State Fault Refusal :=
  let t := s.runCmd lanImageLoadSpec e
  .next <|
    match t.findPend (fun p => p.cmd.opcode = 0x0C01 && !s.cmds.pend.contains p) with
    | some p => t.lanStage (p.cmd.p 0 % 16) readback
    | none => t

/-- LX_READY_RISE (R651, R673 step 9). -/
def execLxReadyRise (region : Fin 16) (s : State) : Host.Outcome State Fault Refusal :=
  let r := region.val
  let s := s.lanStaged r
  let v := s.region r
  .next <|
    match (if v.state = 2 then v.incoming else none) with
    | none => s
    | some i =>
      let s := (s.setRegion r { v with image := some i, incoming := none }).lanEnter r 3
      let raise := match s.lanPend 0x0C01 r with
        | some p => bitAt (p.cmd.p 0) 31 && decide (lookupD s.boot.fuses 5 0 < i.svn)
        | none => false
      let s := if raise then { s with boot := { s.boot with fuses := insertKey s.boot.fuses 5 i.svn } } else s
      s.lanFinish 0x0C01 r 0 0 (results [i.imageId, i.svn])

/-- INIT_TIMEOUT (R673). -/
def execInitTimeout (region : Fin 16) (s : State) : Host.Outcome State Fault Refusal :=
  let r := region.val
  let s := s.lanStaged r
  let v := s.region r
  .next <|
    if v.state != 2 || v.incoming.isNone then s
    else
      let s := s.lanClear r
      ((s.setRegion r { s.region r with reason := 0x150B }).lanEnter r 1).lanFinish 0x0C01 r 0x20 0x150B []

/-! ## Quiescing and unloading (R674, R675) -/

/-- LAN_REGION_QUIESCE (R681, R683). -/
def lanRegionQuiesceSpec : CmdSpec where
  opcode := 0x0C02
  needs := fun _ => 1
  locks := fun _ c => [⟨.region, c.p 0 % 16⟩]
  indirect := false
  noGen := false
  body := fun c s =>
    c.checked s [(0, 0x8000000F)] fun _ =>
      let r := c.p 0 % 16
      let v := s.region r
      c.onRegion s r fun _ =>
        if bitAt (c.p 0) 31 then
          if v.state = 5 then .ok (((s.setRegion r { v with clock := (v.image.map (·.clock)).getD 0 }).lanEnter r 3).emit (.regionSignal r 6)) []
          else regionState s r
        else if v.state = 3 then .pend (s.lanQuiesce r .rest)
        else regionState s r

/-- LAN_REGION_QUIESCE (R681). -/
def execLanRegionQuiesce (e : AdminEntry) (s : State) : Host.Outcome State Fault Refusal := .next (s.runCmd lanRegionQuiesceSpec e)

/-- LAN_REGION_UNLOAD (R675, R683). -/
def lanRegionUnloadSpec : CmdSpec where
  opcode := 0x0C03
  needs := fun _ => 1
  locks := fun _ c => [⟨.region, c.p 0 % 16⟩]
  indirect := false
  noGen := false
  body := fun c s =>
    c.checked s [(0, 0xF)] fun _ =>
      let r := c.p 0
      let v := s.region r
      c.onRegion s r fun _ =>
        if v.state = 3 then .pend (s.lanQuiesce r .unload)
        else if v.state = 5 || v.state = 7 then .pend s
        else regionState s r

/-- LAN_REGION_UNLOAD (R675): a region whose clock stands is cleared within the step. -/
def execLanRegionUnload (e : AdminEntry) (s : State) : Host.Outcome State Fault Refusal :=
  let t := s.runCmd lanRegionUnloadSpec e
  .next <|
    match t.findPend (fun p => p.cmd.opcode = 0x0C03 && !s.cmds.pend.contains p) with
    | some p => if (t.region (p.cmd.p 0)).state = 4 then t else t.lanUnload (p.cmd.p 0)
    | none => t

/-- A quiesce has ended: the clock stops, and the region goes where its command asks (R667, R674). -/
def State.lanQuiesced (s : State) (r : Nat) (good : Bool) : State :=
  let v := s.region r
  match v.quiesce with
  | some .load => ((s.setRegion r { v with quiesce := none, clock := 0 }).lanEnter r 2).lanConfigure r good
  | some .unload => s.lanUnload r
  | _ => ((s.setRegion r { v with quiesce := none, clock := 0 }).lanEnter r 5).lanFinish 0x0C02 r 0 0 []

/-- QUIESCE_DRAINED (R674): the region has acknowledged; readback is of a load that follows. -/
def execQuiesceDrained (region : Fin 16) (readback : Bool) (s : State) : Host.Outcome State Fault Refusal :=
  let s := s.lanStaged region.val
  let v := s.region region.val
  .next (if v.state = 4 && v.flight.isEmpty && v.waits.isEmpty then (s.lanQuiesced region.val readback).settleDestroys else s)

/-- QUIESCE_TIMEOUT (R674): 10 ms have passed; the frames still in flight are dropped. -/
def execQuiesceTimeout (region : Fin 16) (readback : Bool) (s : State) : Host.Outcome State Fault Refusal :=
  let s := s.lanStaged region.val
  let r := region.val
  .next (if (s.region r).state = 4 then (((s.setRegion r { s.region r with waits := [] }).lanLose r).lanQuiesced region.val readback).settleDestroys else s)

end Sys2Proof.Machine
end

