-- ==== Sys2Proof/Machine/Memory.lean ====
section
/-! DEFINITION. Meanings of the memories, the State Pager and the buffer pools (R310 to R352). -/

namespace Sys2Proof.Machine

/-! ## Events of the pager -/

/-- HOST_FILL_RETRY (R333): a host fill that failed once is issued again; it waits while host paging cannot run. -/
def execHostFillRetry (page : BitVec 30) (s : State) : Host.Outcome State Fault Refusal :=
  .next <|
    let k := page.toNat
    let p := s.page k
    match p.home with
    | .host d n =>
      if p.filling && p.fails = 1 && s.hostPaging && !s.asked (.pageFill k) then
        let don : Donation := lookupD s.pgr.donations d {}
        s.hostRead 0 0 (.pageFill k) (pasidWord don.pasid) (don.addr + n * 4096) 4096
      else s
    | _ => s

/-- WRITE_BACK_COMPLETE (R329, R333): the page leaves the cache, but stays, clean, where it has been pinned or referenced meanwhile; or a
write-back that failed rehomes it, and with no other home it stays cached, dirty and unevictable. -/
def execWriteBackComplete (page : BitVec 30) (ok : Bool) (s : State) : Host.Outcome State Fault Refusal :=
  .next <|
    let k := page.toNat
    let p := s.page k
    if !p.writing || p.cached.isNone || (p.onHost && !s.hostPaging) then s
    else if ok then (if p.pinned || s.references.contains k then s.cleanPage k else s.dropCached k)
    else
      let (h, s) := s.takeOther (p.home.donation)
      match h with
      | some h => s.setPage k { p with home := h, writing := false, dirty := true }
      | none => s.setPage k { p with writing := false, stuck := true, dirty := true }

/-- PAGE_EVICTION (R331): while fewer than free_target frames are free, one page leaves the cache; a dirty one is written back first.
Which page the clock takes is left open (log entry 2). -/
def execPageEviction (s : State) : Host.Outcome State Fault Refusal :=
  .next <|
    let es := s.evictable
    if s.cachedFrames.length + s.rf F.PGR_CACHE_CFG_free_target ≤ 8192 then s
    else
      let (v, s) := s.draw
      match es[v % max 1 es.length]? with
      | none => s
      | some k =>
        let s := s.rehomeHost k
        let p := s.page k
        if p.dirty then s.setPage k { p with writing := true } else s.dropCached k

/-- The page with the least recent use (R334). -/
def leastUsed (ps : List (Nat × Page)) : Option Nat :=
  (ps.foldl (fun (m : Option (Nat × Page)) e => match m with
    | some x => if e.2.used < x.2.used then some e else m
    | none => some e) none).map (·.1)

/-- PAGE_DEMOTION (R334): from below low_pct until high_pct is free, the uncached page homed in LPDDR5X that was least recently used is given
a home in a donation and its copy waits its turn. -/
def execPageDemotion (s : State) : Host.Outcome State Fault Refusal :=
  .next <|
    let go := (s.pgr.demoting || decide (s.freeLpd * 100 < s.rf F.PGR_LPD_WMARK_low_pct * s.pagerFrames))
      && decide (s.freeLpd * 100 < s.rf F.PGR_LPD_WMARK_high_pct * s.pagerFrames)
    let s := { s with pgr := { s.pgr with demoting := go } }
    let ps := s.pgr.pages.filter fun e => (e.2.home.frame).isSome && e.2.cached.isNone && e.2.reserve.isNone && !e.2.filling && !e.2.poisoned
        && !s.firmPage e.1
    if !go then s
    else
      match leastUsed ps, s.takeDon with
      | some k, some h =>
        let s := s.setPage k { s.page k with reserve := some h }
        { s with pgr := { s.pgr with moves := s.pgr.moves ++ [k] } }.startMove
      | _, _ => s

/-- PAGE_COPY_COMPLETE (R334, R339). -/
def execPageCopyComplete (page : BitVec 30) (s : State) : Host.Outcome State Fault Refusal :=
  .next (if (s.page page.toNat).moving then s.landMove page.toNat else s)

/-- PATROL_SCRUB_READ (R315, R316): the patrol reads a 64-byte line; the last line of a channel ends its pass. -/
def execPatrolScrubRead (line : BitVec 32) (ecc : EccResult) (s : State) : Host.Outcome State Fault Refusal :=
  .next <|
    let a := line.toNat * 64
    let f := a / 4096
    let ch := f % 32
    if !s.mainOn || !s.rfb F.MEM_SCRUB_CFG_enable || f ≥ lpdFrames || s.ras.retired.contains (0x300 + ch) then s
    else
      let s := if f + 32 ≥ lpdFrames && a % 4096 = 4032 then s.bump (R.MEM_SCRUB_PASSES ch) else s
      s.eccRead a ecc

/-! ## PGR_PIN, PGR_UNPIN, PGR_PREFETCH (R337) -/

/-- The checks that the three commands share: the offset, the number of pages, the range. -/
def pgrChecks (c : Cmd) (s : State) (most : Nat) (body : Unit → Res) : Res :=
  let off := c.p 0 + c.p 1 * 2 ^ 32
  let n := c.p 2 % 2 ^ 17
  guards [(c.p 0 % 4096 != 0, fun _ => badP s 0), (n = 0 || n > most, fun _ => badP s 2),
    (off + n * 4096 > (s.rangeOf c.target).2 * 2 ^ 21, fun _ => refuse s 0x0801)] body

/-- PGR_PIN (R337). -/
def pgrPinSpec : CmdSpec where
  opcode := 0x0310
  needs := fun _ => 3
  locks := fun _ _ => []
  indirect := false
  noGen := false
  body := fun c s =>
    c.checked s [(2, 0x1FFFF)] fun _ => pgrChecks c s 4096 fun _ =>
      let ks := s.namedPages c
      let fresh := ks.filter fun k => !(s.page k).pinned
      let n := fresh.length
      guards [(c.target != 0 && decide (s.pinnedOf c.target + n > wd (s.inst c.target).quota 6 % 2 ^ 13), fun _ => refuse s 0x0802),
          (s.pinnedAll + n + s.rf F.PGR_CACHE_CFG_unpinned_floor > 8192, fun _ => refuse s 0x0803)] fun _ =>
        let s := fresh.foldl (fun s k => s.setPage k { s.page k with pinned := true }) s
        let s := ks.foldl (fun s k => if (s.page k).settled then s else s.startFill k) s
        if ks.all fun k => (s.page k).settled then .ok s (results [n]) else .pendNote s (n :: fresh)

/-- PGR_PIN (R337). -/
def execPgrPin (e : AdminEntry) (s : State) : Host.Outcome State Fault Refusal := .next (s.runCmd pgrPinSpec e)

/-- A page without a mark of its own is no longer listed. -/
def State.tidyPage (s : State) (k : Nat) : State :=
  if { s.page k with used := 0 } == {} then { s with pgr := { s.pgr with pages := eraseKey s.pgr.pages k } } else s

/-- PGR_UNPIN (R337). -/
def pgrUnpinSpec : CmdSpec where
  opcode := 0x0311
  needs := fun _ => 3
  locks := fun _ _ => []
  indirect := false
  noGen := false
  body := fun c s =>
    c.checked s [(2, 0x1FFFF)] fun _ => pgrChecks c s 65536 fun _ =>
      let ks := (s.namedPages c).filter fun k => (s.page k).pinned
      .ok (ks.foldl (fun s k => (s.setPage k { s.page k with pinned := false }).tidyPage k) s) (results [ks.length])

/-- PGR_UNPIN (R337). -/
def execPgrUnpin (e : AdminEntry) (s : State) : Host.Outcome State Fault Refusal := .next (s.runCmd pgrUnpinSpec e)

/-- A page is queued as a hint for the state cache while the hint's 1,024 slots and a fill slot are free. -/
def State.hintFill (a : Nat × State) (k : Nat) : Nat × State :=
  let (n, s) := a
  let p := s.page k
  if n ≥ 1024 || p.settled || p.filling || p.moving || (s.pgr.pages.filter (·.2.filling)).length ≥ 4096 then a
  else
    let t := s.startFill k
    if (t.page k).filling then (n + 1, t) else a

/-- A page is queued as a hint for an LPDDR5X home. -/
def State.hintHome (a : Nat × State) (k : Nat) : Nat × State :=
  let (n, s) := a
  let p := s.page k
  if n ≥ 1024 || !p.onHost || p.reserve.isSome then a
  else
    let (h, t) := s.takeLpd
    match h with
    | none => a
    | some h =>
      let t := t.setPage k { p with reserve := some h }
      (n + 1, { t with pgr := { t.pgr with moves := t.pgr.moves ++ [k] } })


/-- PGR_PREFETCH (R337). -/
def pgrPrefetchSpec : CmdSpec where
  opcode := 0x0312
  needs := fun _ => 4
  locks := fun _ _ => []
  indirect := false
  noGen := false
  body := fun c s =>
    c.checked s [(2, 0x1FFFF), (3, 3)] fun _ => guards [(c.p 3 = 3, fun _ => badP s 3)] fun _ => pgrChecks c s 65536 fun _ =>
      let ks := s.namedPages c
      match c.p 3 with
      | 0 =>
        let (n, s) := ks.foldl State.hintFill (0, s)
        .ok s (results [n])
      | 1 =>
        let (n, s) := ks.foldl State.hintHome (0, s)
        .ok s.startMove (results [n])
      | _ => .ok ((ks.foldl State.askDiscard s).settleDiscards) []

/-- PGR_PREFETCH (R337). -/
def execPgrPrefetch (e : AdminEntry) (s : State) : Host.Outcome State Fault Refusal := .next (s.runCmd pgrPrefetchSpec e)

/-! ## Donations and grants (R338 to R341) -/

/-- MEM_DONATE (R338). -/
def memDonateSpec : CmdSpec where
  opcode := 0x0300
  needs := fun _ => 4
  locks := fun _ _ => []
  indirect := false
  noGen := false
  body := fun c s =>
    c.checked s [(2, 0x3FFFF), (3, 0xFFFFF800)] fun _ =>
      let a := c.p 0 + c.p 1 * 2 ^ 32
      guards [(c.p 2 = 0 || c.p 2 > 131072, fun _ => badP s 2), (s.pgr.donations.length ≥ 64, fun _ => refuse s 0x0804),
          (a % 2 ^ 21 != 0, fun _ => refuse s 0x0805)] fun _ =>
        let d := ((List.range 64).find? fun d => (lookup s.pgr.donations d).isNone).getD 0
        let don : Donation := { addr := a, size := c.p 2, pasid := c.p 3 }
        .ok { s with pgr := { s.pgr with donations := insertKey s.pgr.donations d don } } (results [d, c.p 2 * 512])

/-- MEM_DONATE (R338). -/
def execMemDonate (e : AdminEntry) (s : State) : Host.Outcome State Fault Refusal := .next (s.runCmd memDonateSpec e)

/-- The pages homed in donation d, by page number. -/
def State.pagesOfDon (s : State) (d : Nat) : List Nat := (s.pgr.pages.filter fun e => (e.2.home.donPage d).isSome).map (·.1)

/-- MEM_REVOKE (R339). -/
def memRevokeSpec : CmdSpec where
  opcode := 0x0301
  needs := fun _ => 1
  locks := fun _ c => [⟨.donation, c.p 0 % 64⟩]
  indirect := false
  noGen := false
  body := fun c s =>
    c.checked s [(0, 0x3F)] fun _ =>
      let d := c.p 0
      match lookup s.pgr.donations d with
      | none => notFound s
      | some don =>
        let n := (s.donPages d).length
        let s' := { s with pgr := { s.pgr with donations := insertKey s.pgr.donations d { don with revoking := true, pages := n } } }
        let there := (s.pgr.pages.filter fun e => e.2.reserve.any fun h => (h.donPage d).isSome).map (·.1)
        let (_, s') := (s'.cancelMoves there).reserveMoves State.takeHome there
        let free := s'.freeLpd + s'.freeDon
        if free < n then .bad s 0x20 0x0806 (results [n - free])
        else .pendNote ((s'.reserveMoves State.takeHome (s.pagesOfDon d)).2) [n]

/-- MEM_REVOKE (R339): a donation that is empty has its final reply behind PENDING. -/
def execMemRevoke (e : AdminEntry) (s : State) : Host.Outcome State Fault Refusal := .next (s.runCmd memRevokeSpec e).settleMoves

/-- MEM_REVOKE is aborted (R339): pages already moved stay moved and the donation stays with the rest. -/
def State.abortRevoke (s : State) (d : Nat) : State :=
  match lookup s.pgr.donations d with
  | none => s
  | some don =>
    let s := { s with pgr := { s.pgr with donations := insertKey s.pgr.donations d { don with revoking := false, pages := 0 } } }
    (s.cancelMoves (s.pagesOfDon d)).startMove

/-- Two ranges of units overlap. -/
def unitsMeet (a n b m : Nat) : Bool := decide (a < b + m) && decide (b < a + n)

/-- A grant of a region (R341): the page tables in it are moved, its pages are given other homes, and it is zeroed and granted once they have
left. -/
def State.grantRegion (s : State) (base size : Nat) : Res :=
  let g := ((List.range 64).find? fun g => (lookup s.mem.grants g).isNone).getD 0
  let inside := fun (h : Home) => h.frame.any fun f => base * 512 ≤ f && f < (base + size) * 512
  let homed := (s.pgr.pages.filter fun e => inside e.2.home).map (·.1)
  let bound := (s.pgr.pages.filter fun e => e.2.reserve.any inside).map (·.1)
  let t := { s with mem := { s.mem with grants := insertKey s.mem.grants g (base, size), vacating := g :: s.mem.vacating } }
  let t := t.moveTables fun f => base * 512 ≤ f && f < (base + size) * 512
  let units := fun (s : State) => s.pgr.tables.foldl (fun n r => n + r.2.1) 0
  let (lost, t) := (t.cancelMoves bound).reserveMoves State.takeHome (bound ++ homed.filter fun k => !bound.contains k)
  if !lost.isEmpty || units t < units s then refuse s 0x0705 else .pend t

/-- A window, active, still draining or in its shadow, targets a region (R341). -/
def State.windowTargets (s : State) (base size : Nat) : Bool :=
  let hit := fun (w : PeerWin) => w.enabled && unitsMeet w.target w.size base size
  (s.host.wins.any fun e => hit e.2) || (s.host.oldWins.any fun e => hit e.2) || (List.range 64).any fun n => hit (s.winShadow n)

/-- A window's shadow is written and committed (R161, R341), once a commit that drains still has ended (R164). -/
def State.programWindow (s : State) (n : Nat) (c : Cmd) : Res :=
  let s' := (((s.setReg (R.HST_PEER_WIN_BASE n) (c.p 1)).setReg (R.HST_PEER_WIN_SIZE n) (c.p 2)).setReg (R.HST_PEER_WIN_TARGET n) (c.p 3)).setReg
    (R.HST_PEER_WIN_RID n) (c.p 4)
  let s' := s'.setReg (R.HST_PEER_WIN_CTL n) (putField (s'.reg (R.HST_PEER_WIN_CTL n)) 2 0 (c.p 5))
  if s.rfb (F.HST_PEER_WIN_CTL_commit n) then .pendNote s' [1] else
  let s' := s'.winCommit n
  if s'.rfb (F.HST_PEER_WIN_CTL_commit n) then .pend s' else .bad s' 0x20 (s'.rf (F.HST_PEER_WIN_CTL_reason n)) []

/-- MEM_PEER_WINDOW (R341). -/
def memPeerWindowSpec : CmdSpec where
  opcode := 0x0302
  needs := fun c => if c.p 0 % 4 = 2 then 6 else 3
  locks := fun _ c => if c.p 0 % 4 = 2 then [⟨.peerWindow, field (c.p 0) 21 16⟩] else [⟨.grant, c.p 1⟩]
  indirect := false
  noGen := false
  body := fun c s =>
    let n := field (c.p 0) 21 16
    let masks := if c.p 0 % 4 = 2 then [(0, 0x3F0003), (1, 0x1FFFF), (2, 0x3FFFF), (3, 0x1FFFF), (5, 7)]
      else [(0, 0x3F0003), (1, 0x1FFFF), (2, 0x1FFFF)]
    c.checked s masks fun _ =>
      let base := c.p 1
      let size := c.p 2
      match c.p 0 % 4 with
      | 0 =>
        guards [(base * 512 < s.pagerFirst + 4096 || base * 512 ≥ lpdFrames, fun _ => badP s 1),
            (size = 0 || (base + size) * 512 > lpdFrames, fun _ => badP s 2),
            (s.mem.grants.length ≥ 64 || s.mem.grants.any (fun g => unitsMeet base size g.2.1 g.2.2), fun _ => refuse s 0x0703)] fun _ =>
          s.grantRegion base size
      | 1 =>
        match s.mem.grants.find? fun g => g.2.1 = base && g.2.2 = size && !s.mem.vacating.contains g.1 with
        | none => notFound s
        | some g =>
          guards [(s.windowTargets base size, fun _ => refuse s 0x0704)] fun _ =>
            let s := { s with mem := { s.mem with grants := eraseKey s.mem.grants g.1, ddr := Mem.clear s.mem.ddr (base * 2 ^ 21) (size * 2 ^ 21) } }
            .ok ((s.setReg (R.MEM_GRANT g.1) 0).setReg (R.MEM_GRANT_SIZE g.1) 0) []
      | 2 => s.programWindow n c
      | _ => badP s 0

/-- MEM_PEER_WINDOW (R341): a grant with nothing to vacate has its final reply behind PENDING. -/
def execMemPeerWindow (e : AdminEntry) (s : State) : Host.Outcome State Fault Refusal := .next (s.runCmd memPeerWindowSpec e).settleMoves

/-! ## Buffer pools (R346 to R352) -/

/-- BPM_POOL_CFG (R351). -/
def bpmPoolCfgSpec : CmdSpec where
  opcode := 0x0320
  needs := fun _ => 5
  locks := fun _ c => [⟨.tier, c.p 0 % 2⟩]
  indirect := false
  noGen := false
  body := fun c s =>
    c.checked s [(0, 1), (1, 0x1FFFFFFF), (2, 0x1FFFFFFF), (3, 0x1FFFFFFF), (4, 0x1FFFFFFF)] fun _ =>
      let n := [c.p 1, c.p 2, c.p 3, c.p 4]
      let limit := if c.p 0 = 0 then 375000 else s.rf F.MEM_PART_CFG_ovf_gib * 2 ^ 22
      guards [(carveUnits n > limit, fun _ => refuse s 0x0901)] fun _ =>
        let s' := { s with bpm := if c.p 0 = 0 then { s.bpm with next0 := some n } else { s.bpm with next1 := some n } }
        if s'.carveReady (c.p 0) n then .ok (s'.settleCarve (c.p 0)) [] else .pend s'

/-- BPM_POOL_CFG (R351). -/
def execBpmPoolCfg (e : AdminEntry) (s : State) : Host.Outcome State Fault Refusal := .next (s.runCmd bpmPoolCfgSpec e)

/-- BPM_POOL_CFG is aborted: allocation from the old carve is restored (R351). -/
def State.abortCarve (s : State) (tier : Nat) : State :=
  { s with bpm := if tier = 0 then { s.bpm with next0 := none } else { s.bpm with next1 := none } }

/-- BPM_SET_QUOTA (R352). -/
def bpmSetQuotaSpec : CmdSpec where
  opcode := 0x0321
  needs := fun _ => 4
  locks := fun _ c => [⟨.requester, field (c.p 0) 11 0⟩]
  indirect := false
  noGen := false
  body := fun c s =>
    c.checked s [(0, 0x80000FFF), (1, 0xFFFF), (2, 0xFFFF), (3, 0x1FFFFFF)] fun _ =>
      let r := field (c.p 0) 11 0
      let only := bitAt (c.p 0) 31
      let old := s.quota r
      let q : Quota := if only then { old with ovf := c.p 3 } else ⟨c.p 1, c.p 2, c.p 3⟩
      let s' := { s with bpm := { s.bpm with quotas := insertKey s.bpm.quotas r q } }
      guards [(!requesterKnown r, fun _ => badP s 0), (decide (r < 0x800) && !only, fun _ => refuse s 0x0902),
        (s'.minSum > 23437, fun _ => refuse s 0x0903)] fun _ => .ok s' []

/-- BPM_SET_QUOTA (R352). -/
def execBpmSetQuota (e : AdminEntry) (s : State) : Host.Outcome State Fault Refusal := .next (s.runCmd bpmSetQuotaSpec e)

/-- ALLOC (R346, R347): by a requester of R344, for a frame of a length. -/
def execAlloc (requester : BitVec 12) (length : BitVec 17) (s : State) : Host.Outcome State Fault Refusal :=
  .next (if s.mainOn && requesterKnown requester.toNat then (s.allocBuf requester.toNat length.toNat).2 else s)

/-- A buffer operation that a master asks for (R4, R773): with a MID that is never assigned it is refused as a bad master's. -/
def State.bufBy (s : State) (mid : Nat) (body : State → State) : State :=
  if !s.mainOn then s else if !midAssigned mid then s.badMaster mid false none else body s

/-- SHARE (R347, R349). -/
def execShare (mid : BitVec 13) (ptr : Word) (requester holder : BitVec 12) (s : State) : Host.Outcome State Fault Refusal :=
  .next (s.bufBy mid.toNat fun s => (s.shareBuf ptr.toNat requester.toNat holder.toNat mid.toNat).2)

/-- RELEASE (R347 to R349). -/
def execRelease (mid : BitVec 13) (ptr : Word) (requester : BitVec 12) (s : State) : Host.Outcome State Fault Refusal :=
  .next (s.bufBy mid.toNat fun s => (s.releaseBuf ptr.toNat requester.toNat mid.toNat).2)

/-- TRANSFER (R347, R349). -/
def execTransfer (mid : BitVec 13) (ptr : Word) (requester dest : BitVec 12) (s : State) : Host.Outcome State Fault Refusal :=
  .next (s.bufBy mid.toNat fun s => (s.transferBuf ptr.toNat requester.toNat dest.toNat mid.toNat).2)

/-- FREE (R347 to R349). -/
def execFree (mid : BitVec 13) (ptr : Word) (requester : BitVec 12) (s : State) : Host.Outcome State Fault Refusal :=
  .next (s.bufBy mid.toNat fun s => (s.freeBufBy ptr.toNat requester.toNat mid.toNat).2)

end Sys2Proof.Machine
end

