-- ==== Sys2Proof/Machine/Spar.lean ====
section
/-! DEFINITION. Meanings of the Spar fabric's commands and events (R687 to R718). -/

namespace Sys2Proof.Machine

/-! ## Links, flits and packets -/

/-- SPAR_LINK_CHANGE (R687, R718). -/
def execSparLinkChange (port : Fin 4) (up : Bool) (s : State) : Host.Outcome State Fault Refusal :=
  .next (if s.mainOn then s.sparLink port.val up else s)

/-- FLIT_RECEIVE (R688 to R692). -/
def execFlitReceive (port : Fin 4) (words : List Word) (s : State) : Host.Outcome State Fault Refusal :=
  .next (if s.mainOn then s.flitIn port.val words else s)

/-- REPLAY_TIMEOUT (R690): no acknowledgement has advanced for 4 us. -/
def execReplayTimeout (port : Fin 4) (s : State) : Host.Outcome State Fault Refusal :=
  .next (if s.mainOn then s.sparReplay port.val else s)

/-- BEACON_SEND (R693). -/
def execBeaconSend (s : State) : Host.Outcome State Fault Refusal :=
  .next (if s.mainOn then (List.range 4).foldl State.sendBeacon s else s)

/-- BEACON_RECEIVE (R693, R694, R710): the 32-byte body of a Beacon that has arrived whole. -/
def execBeaconReceive (port : Fin 4) (body : List Byte) (s : State) : Host.Outcome State Fault Refusal :=
  .next (if s.mainOn && (s.sport port.val).up then s.takeBeacon port.val (beaconOf body) else s)

/-- A packet of a class that has arrived whole on a port (R691). -/
def State.packetOf (s : State) (port cls : Nat) (bytes : List Byte) : State :=
  let p := sparParse bytes
  if s.mainOn && (s.sport port).up && p.cls = cls then s.sparTake port p else s

/-- MAILBOX_PACKET_RECEIVE (R703). -/
def execMailboxPacketReceive (port : Fin 4) (packet : List Byte) (s : State) : Host.Outcome State Fault Refusal :=
  .next (s.packetOf port.val 2 packet)

/-- REMOTE_REQUEST_RECEIVE (R707). -/
def execRemoteRequestReceive (port : Fin 4) (packet : List Byte) (s : State) : Host.Outcome State Fault Refusal :=
  .next (s.packetOf port.val 3 packet)

/-- REMOTE_RESPONSE_RECEIVE (R705, R709). -/
def execRemoteResponseReceive (port : Fin 4) (packet : List Byte) (s : State) : Host.Outcome State Fault Refusal :=
  .next (s.packetOf port.val 4 packet)

/-- FRAME_PACKET_RECEIVE (R708). -/
def execFramePacketReceive (port : Fin 4) (packet : List Byte) (s : State) : Host.Outcome State Fault Refusal :=
  .next (s.packetOf port.val 5 packet)

/-- MAILBOX_RESEND (R703): a word that was rejected, or for which no route was found, is sent again. -/
def execMailboxResend (chan : Fin 64) (s : State) : Host.Outcome State Fault Refusal :=
  let c := chan.val
  .next <|
    match (if s.rfb (F.SPR_CHAN_MAP_valid c) then s.engineSide c else none) with
    | none => s
    | some a =>
      let mine := (s.chan (.int c)).side a
      if (s.schan c).rejected && mine.rxFull && s.spr.joined && !s.spr.leaving then s.sparMail c (s.sideMid (.int c) (!a)) mine.rx else s

/-- SPAR_REQUEST_TIMEOUT (R696, R709). -/
def execSparRequestTimeout (chan : Fin 64) (s : State) : Host.Outcome State Fault Refusal :=
  .next <|
    match (s.schan chan.val).request with
    | some w => s.sparComplete chan.val w 4 0
    | none => s

/-- TIME_EXCHANGE (R711): the four times of an exchange, the upstream's later send time and its receipt, in 1/256 ns, this device's own
without the lane delays. -/
def execTimeExchange (t1 t2 t3 t4 ts tr : Int) (s : State) : Host.Outcome State Fault Refusal :=
  .next <|
    match s.spr.upstream with
    | some p =>
      if s.mainOn && s.time.running then
        let rx := s.sparDelay p false
        s.sparCorrect (sparOffset (t1 + s.sparDelay p true) t2 t3 (t4 - rx) ts (tr - rx))
      else s
    | none => s

/-! ## Commands -/

/-- Ports of a mask with a Spar lane under test (R695). -/
def State.sparUnderTest (s : State) (mask : Nat) : Bool :=
  (numsWhere 4 (bitAt mask)).any fun p => (sparLanes p).any fun r => s.tst.underTest.contains r

/-- What SPR_JOIN sets, as it stands (R695). -/
def State.sparIdentity (s : State) : List Nat :=
  [b2n s.spr.timeRoot, b2n s.spr.timeFollow, s.spr.portMask, s.spr.addr, s.spr.fabric, b2n s.spr.holdover]

/-- A join that ends without SUCCESS leaves what it found (R100). -/
def State.unjoin (s : State) (note : List Nat) : State :=
  match note with
  | [root, follow, mask, addr, fabric, hold] => { s with spr := { s.spr with
      timeRoot := root = 1, timeFollow := follow = 1, portMask := mask, addr := addr, fabric := fabric, holdover := hold = 1 } }
  | _ => s

/-- SPR_JOIN (R695). -/
def sprJoinSpec : CmdSpec where
  opcode := 0x0D00
  needs := fun _ => 2
  locks := fun _ _ => [⟨.spar, 0⟩]
  indirect := false
  noGen := false
  body := fun c s =>
    c.checked s [(0, 0xCF000FFF)] fun _ =>
      let mask := field (c.p 0) 27 24
      guards [(s.spr.joined, fun _ => refuse s 0x1602), (s.sparUnderTest mask, fun _ => refuse s 0x160A)] fun _ =>
        .pendNote { s with spr := { s.spr with
          joining := true, timeRoot := bitAt (c.p 0) 31, timeFollow := bitAt (c.p 0) 30, portMask := mask, addr := field (c.p 0) 11 0
          fabric := c.p 1, holdover := false } } s.sparIdentity

/-- SPR_JOIN (R695): it answers when JOIN_WAIT_END comes. -/
def execSprJoin (e : AdminEntry) (s : State) : Host.Outcome State Fault Refusal := .next (s.runCmd sprJoinSpec e)

/-- The serial of a neighbour that has this device's fabric and address under another serial (R695). -/
def State.sparConflict (s : State) : Option Nat :=
  (List.range 4).findSome? fun p =>
    match (s.sport p).nbr with
    | some b => if s.sportEnabled p && b.fabric = s.spr.fabric && b.addr = s.spr.addr && b.serial != Config.serial.toNat then some b.serial else none
    | none => none

/-- JOIN_WAIT_END (R695): the device joins, or the join is refused for a conflict. -/
def execJoinWaitEnd (s : State) : Host.Outcome State Fault Refusal :=
  .next <|
    if !s.spr.joining then s
    else
      let s := { s with spr := { s.spr with joining := false } }
      match s.sparConflict with
      | some n =>
        let note := ((s.findPend (·.cmd.opcode = 0x0D00)).map (·.note)).getD []
        ((s.raiseEs 485).unjoin note).finishOp 0x0D00 0x20 0x1603 (results [n, n / 2 ^ 32])
      | none =>
        let s := ({ s with spr := { s.spr with joined := true } }).settleUpstream
        (List.range 64).foldl State.sparKick (s.finishOp 0x0D00 0 0 [])

/-- A Spar command that a device answers only while it is joined (R715). -/
def whenJoined (s : State) (body : Unit → Res) : Res := guards [(!s.spr.joined, fun _ => refuse s 0x1601)] body

/-- SPR_LEAVE (R696). -/
def sprLeaveSpec : CmdSpec where
  opcode := 0x0D01
  needs := fun _ => 0
  locks := fun _ _ => [⟨.spar, 0⟩]
  indirect := false
  noGen := false
  body := fun _ s => whenJoined s fun _ => .pend { s with spr := { s.spr with leaving := true } }

/-- SPR_LEAVE (R696): with no request in flight it ends at once. -/
def execSprLeave (e : AdminEntry) (s : State) : Host.Outcome State Fault Refusal := .next (s.runCmd sprLeaveSpec e).settleLeave

/-- The entries of a SPR_ROUTE_WRITE: entry words start at parameter word 1, or at block word 16 (R700). -/
def Cmd.routes (c : Cmd) (n : Nat) : List Nat := (List.range n).map fun k => c.p ((if c.indirect then 16 else 1) + k)

/-- SPR_ROUTE_WRITE (R700). -/
def sprRouteWriteSpec : CmdSpec where
  opcode := 0x0D02
  needs := fun c => c.needsBlock (1 + c.p 0 % 8192) 0
  locks := fun _ _ => [⟨.spar, 1⟩]
  indirect := true
  noGen := false
  body := fun c s => whenJoined s fun _ =>
    c.checked s [(0, 0x8FFF1FFF)] fun _ =>
      let first := field (c.p 0) 27 16
      let n := c.p 0 % 8192
      let es := c.routes n
      let base := if c.indirect then 16 else 1
      guards [(n = 0 || first + n > 4096, fun _ => badP s 0),
          (c.shortBlock (16 + n), fun _ => badParam s 6),
          (es.any (fun e => !fits e 0x8000000F), fun _ => badP s (base + (es.findIdx fun e => !fits e 0x8000000F))),
          ((decide (first ≤ s.spr.addr) && decide (s.spr.addr < first + n) && bitAt (es.getD (s.spr.addr - first) 0) 31), fun _ => refuse s 0x1605)] fun _ =>
        let old := if bitAt (c.p 0) 31 then [] else s.spr.next.getD []
        let new := (List.range n).foldl
          (fun m k =>
            let e := es.getD k 0
            if e = 0 then eraseKey m (first + k) else insertKey m (first + k) e) old
        .ok { s with spr := { s.spr with next := some new } } []

/-- SPR_ROUTE_WRITE (R700). -/
def execSprRouteWrite (e : AdminEntry) (s : State) : Host.Outcome State Fault Refusal := .next (s.runCmd sprRouteWriteSpec e)

/-- SPR_EPOCH_COMMIT (R699). -/
def sprEpochCommitSpec : CmdSpec where
  opcode := 0x0D03
  needs := fun _ => 1
  locks := fun _ _ => [⟨.spar, 1⟩]
  indirect := false
  noGen := false
  body := fun c s => whenJoined s fun _ =>
    c.checked s [(0, 0xFFFF)] fun _ =>
      let want := (s.spr.epoch + 1) % 65536
      match s.spr.next with
      | none => refuse s 0x1604
      | some t =>
        if c.p 0 != want then refuse s 0x1604
        else
          let spr := { s.spr with epoch := want, previous := some s.spr.current, current := t, next := none }
          .ok ({ s with spr := spr }.raiseEs 486) []

/-- SPR_EPOCH_COMMIT (R699). -/
def execSprEpochCommit (e : AdminEntry) (s : State) : Host.Outcome State Fault Refusal := .next (s.runCmd sprEpochCommitSpec e)

/-- PREVIOUS_EPOCH_DISCARD (R699). -/
def execPreviousEpochDiscard (s : State) : Host.Outcome State Fault Refusal :=
  .next { s with spr := { s.spr with previous := none } }

/-- SPR_REMOTE_GRANT (R706). -/
def sprRemoteGrantSpec : CmdSpec where
  opcode := 0x0D04
  needs := fun c => if bitAt (c.p 0) 31 then 1 else 6
  locks := fun _ c => [⟨.sparGrant, c.p 0 % 256⟩]
  indirect := false
  noGen := false
  body := fun c s => whenJoined s fun _ =>
    let g := c.p 0 % 256
    if bitAt (c.p 0) 31 then
      c.checked s [(0, 0x800000FF)] fun _ =>
        match lookup s.spr.grants g with
        | none => notFound s
        | some x => .pendNote { s with spr := { s.spr with grants := eraseKey s.spr.grants g } } x.note
    else
      c.checked s [(0, 0x800000FF), (1, 0x0FFF0FFF), (2, 0x1FFF1FFF), (3, 0xC000FFFF), (4, 0x3FFFFFFF), (5, 0x1FFFF)] fun _ =>
        let ssid := c.p 3 % 65536
        let pages := c.p 5
        guards [(ssid > 0x0810, fun _ => badP s 3), (pages = 0 || pages > 65536, fun _ => badP s 5),
            (ssid = 0x0810 || (c.p 4 + pages) * 4096 > (s.rangeOf ssid).2 * 2 ^ 21, fun _ => refuse s 0x1606),
            ((lookup s.spr.grants g).isSome, fun _ => refuse s 0x1607)] fun _ =>
          let x : SparGrant := {
            addrMask := field (c.p 1) 27 16, addr := field (c.p 1) 11 0, midMask := field (c.p 2) 28 16, mid := field (c.p 2) 12 0,
            read := bitAt (c.p 3) 31, write := bitAt (c.p 3) 30, ssid := ssid, offset := c.p 4, pages := pages }
          .ok { s with spr := { s.spr with grants := insertKey s.spr.grants g x } } []

/-- SPR_REMOTE_GRANT (R706): a revoke ends at once where no request under the grant waits for its page. -/
def execSprRemoteGrant (e : AdminEntry) (s : State) : Host.Outcome State Fault Refusal :=
  .next (s.runCmd sprRemoteGrantSpec e).settleGrants

/-! ## SPR_CHAN_MAP -/

/-- A write of SPR_CHAN_MAP_c (R702). -/
def State.chanMap (s : State) (c v : Nat) : State :=
  let v := v &&& 0xC0FFF03F
  let s := s.setReg (R.SPR_CHAN_MAP c) v
  if !bitAt v 31 then s
  else if (s.engineSide c).isSome then s.sparKick c
  else (s.setF (F.SPR_CHAN_MAP_valid c) 0).setF F.SPR_BLK_STATUS_reason 0x1608

/-- SPR_CHAN_MAP_WRITE (R702). -/
def execSprChanMapWrite (mid : BitVec 13) (chan : Fin 64) (value : Word) (s : State) : Host.Outcome State Fault Refusal :=
  .next (s.gatedWrite mid.toNat (R.SPR_CHAN_MAP chan.val) fun s => s.chanMap chan.val value.toNat)

end Sys2Proof.Machine
end

