-- ==== Sys2Proof/Machine/Tables.lean ====
section
/-! DEFINITION. Meanings of the table engines (R388 to R427). -/

namespace Sys2Proof.Machine

/-! ## Creating and destroying tables -/

/-- The claim on table t's update lock (R129, R778). -/
def tblClaim (t feature mid : Nat) : Nat × Nat := (0x05000000 + t, holderWord 0x0C feature mid)

/-- The lowest run of free units of the device-internal range after the indirection tables, the connection area and Saffron's area (log
entry 31). -/
def State.internalRun (s : State) (n : Nat) : Option Nat :=
  let taken := (s.tbl.tables.map fun e => (e.2.base, tableUnits e.2.words)).filter (·.2 != 0)
  let starts := 140 :: taken.map fun r => r.1 + r.2
  let ok := fun b => decide (b + n ≤ (s.rangeOf internalSsid).2) && taken.all fun r => decide (b + n ≤ r.1) || decide (r.1 + r.2 ≤ b)
  (starts.filter ok).foldl (fun m b => match m with
    | none => some b
    | some x => some (min x b)) none

/-- A limit of R389 is exceeded with one more table of words ws. -/
def State.capacityOver (s : State) (ws : List Word) : Bool :=
  let all := (s.tbl.tables.map (·.2)) ++ [{ words := ws }]
  let sum := fun (p : EmTable → Bool) (f : EmTable → Nat) => (all.filter p).foldl (fun n t => n + f t) 0
  sum (·.placement = 0) (fun t => t.capacity * slotUnits t.keyClass) > 8388608
    || sum (·.placement = 1) (·.capacity) > 268435456 || sum (fun t => t.placement != 0) (·.capacity) > 4294967296

/-- The pages of a table's buckets are zero pages again. -/
def State.freeBuckets (s : State) (t : EmTable) : State :=
  let n := tableUnits t.words
  let b := (s.rangeOf internalSsid).1 + t.base
  let mine := (s.pgr.pages.filter fun e => b * 512 ≤ e.1 && e.1 < (b + n) * 512).map (·.1)
  mine.foldl State.zeroPage s

/-- TBL_CREATE (R388, R389, R402, R405). -/
def tblCreateSpec : CmdSpec where
  opcode := 0x0400
  needs := fun _ => 6
  locks := fun _ _ => []
  indirect := false
  noGen := false
  body := fun c s =>
    c.checked s [(0, 0x80FF00FF), (1, 0xF81F0000), (4, 0xF000FFFF), (5, 0xFF)] fun _ =>
      let n := c.p 0 % 256
      let ws := c.params.take 6
      let v : EmTable := { words := ws }
      let of_ := field (c.p 0) 23 16
      let live := s.table of_
      let top := [21, 26, 30].getD v.placement 0
      let pct := c.p 5
      guards [(n = 255, fun _ => badP s 0), (v.placement = 3 || v.keyClass = 3, fun _ => badP s 1),
          (v.log2 < 10 || v.log2 > top, fun _ => badP s 1), (c.p 2 = c.p 3, fun _ => badP s 2),
          (field (c.p 4) 31 28 > 2, fun _ => badP s 4), (pct != 0 && (pct < 50 || pct > 100), fun _ => badP s 5),
          ((s.table n).state != .free, fun _ => refuse s 0x0C01),
          (bitAt (c.p 0) 31 && (live.state != .live || live.keyClass != v.keyClass || live.scoped != v.scoped || live.partner != 0xFF),
            fun _ => refuse s 0x0C08),
          (s.capacityOver ws, fun _ => refuse s 0x0C02)] fun _ =>
        match s.internalRun (tableUnits ws) with
        | none => noResource s
        | some b =>
          let b := if v.placement = 0 then 0 else b
          if bitAt (c.p 0) 31 then
            withClaims s [tblClaim of_ 0x01 c.mid] fun s =>
              .pend ((s.setTable n { v with state := .copying, base := b, partner := of_ }).setTable of_ { live with partner := n })
          else .ok (s.setTable n { v with state := .live, base := b }) (results [n, v.capacity])

/-- TBL_CREATE (R388). -/
def execTblCreate (e : AdminEntry) (s : State) : Host.Outcome State Fault Refusal := .next (s.runCmd tblCreateSpec e)

/-- A shadow's number, buckets and lock are freed (R404, R405). -/
def State.dropShadow (s : State) (n : Nat) : State :=
  let v := s.table n
  let live := s.table v.partner
  ((s.setTable v.partner { live with partner := 0xFF }).freeTable n).dropClaim (0x05000000 + v.partner)

/-- The PENDING TBL_CREATE of table n. -/
def State.createOf (s : State) (n : Nat) : Option PendCmd :=
  s.findPend fun p => p.cmd.opcode = 0x0400 && wd p.cmd.params 0 % 256 = n

/-- The copy of a live table's entries into its shadow, in ascending index order (R402): the shadow, or the live index at which it
failed. -/
def copyEntries (t : EmTable) : NMap EmEntry → Except Nat EmTable
  | [] => .ok t
  | (i, e) :: rest =>
    if e.parityBad then copyEntries t rest
    else match t.place e false with
      | .full => .error i
      | .fault => copyEntries t rest
      | .at_ t _ _ _ _ => copyEntries t rest

/-- SHADOW_COPY_END (R402, R405): the copy of shadow n ends Ready, or Free where an entry could not be placed. -/
def execShadowCopyEnd (n : BitVec 8) (s : State) : Host.Outcome State Fault Refusal :=
  let n := n.toNat
  let v := s.table n
  .next <|
    if v.state != .copying then s
    else match copyEntries v (s.table v.partner).entries with
      | .ok t =>
        let s := (s.setTable n { t with state := .ready }).raiseEs 275
        let s := t.entries.foldl (fun s e => s.storeSlot n e.1) s
        (match s.createOf n with
          | some p => s.finish p 0 0 (results [n, v.capacity])
          | none => s)
      | .error i =>
        let p := s.createOf n
        let s := ((((s.freeBuckets v).dropShadow n).bump R.TBL_EM_REHASH).raiseEs 272).raiseEs 275
        (match p with
          | some p => s.finish p 0x19 0 (results [i])
          | none => s)

/-- An action list names table t (R406). -/
def State.tableNamed (s : State) (t : Nat) : Bool :=
  s.swx.lists.any fun l => l.2.2.any fun a => a.op = 0x01 && a.a % 256 = t

/-- TBL_DESTROY (R405, R406). -/
def tblDestroySpec : CmdSpec where
  opcode := 0x0401
  needs := fun _ => 1
  locks := fun _ c => [⟨.table, c.p 0 % 256⟩]
  indirect := false
  noGen := false
  body := fun c s =>
    c.checked s [(0, 0xFF)] fun _ =>
      let n := c.p 0
      let v := s.table n
      match v.state with
      | .free => refuse s 0x0C05
      | .live =>
        guards [(v.partner != 0xFF, fun _ => refuse s 0x0C08), (s.tableNamed n, fun _ => refuse s 0x0C0F)] fun _ =>
          .pend ((s.freeBuckets v).freeTable n)
      | _ =>
        let p := s.createOf n
        let s := (s.freeBuckets v).dropShadow n
        .pend (match p with
          | some p => (s.finish p 0x20 0x000C []).raiseEs 275
          | none => s)

/-- TBL_DESTROY (R406): it answers PENDING, and its final reply once the buckets are free. -/
def execTblDestroy (e : AdminEntry) (s : State) : Host.Outcome State Fault Refusal :=
  .next ((s.runCmd tblDestroySpec e).finishOp 0x0401 0 0 [])

/-! ## Entries -/

/-- How a record of a batch ends: applied with its result words, or refused. -/
inductive RecEnd where
  | ok (s : State) (ws : List Word)
  | bad (s : State) (status reason : Nat) (ws : List Word)

/-- A record's outcome as a command's. -/
def RecEnd.res : RecEnd → Res
  | .ok s ws => .ok s ws
  | .bad s st r ws => .bad s st r ws

/-- BAD_PARAM for parameter word n of a record. -/
def recParam (s : State) (n : Nat) : RecEnd := .bad s 0x12 0 (results [4 + n])

/-- REFUSED for a record. -/
def recRefuse (s : State) (r : Nat) : RecEnd := .bad s 0x20 r []

/-- The first refusal of a record that holds, or the body. -/
def recGuards (gs : List (Bool × RecEnd)) (body : Unit → RecEnd) : RecEnd :=
  match gs with
  | [] => body ()
  | (b, r) :: t => if b then r else recGuards t body

/-- The key of a record (words 3 to 16) for a table. -/
def recKey (t : EmTable) (ws : List Word) : List Byte := t.key (wordsBytes ((ws.drop 3).take 14))

/-- A record's key words beyond key_bytes are not 0: the first such word. -/
def keyTail (t : EmTable) (ws : List Word) : Option Nat :=
  (List.range 14).find? fun j => 4 * j ≥ keyBytesOf t.keyClass && wd ws (3 + j) != 0

/-- REHASH_NEEDED from the live table (0) or its shadow (1) (R399, R403). -/
def State.rehash (s : State) (which : Nat) : RecEnd := .bad ((s.bump R.TBL_EM_REHASH).raiseEs 272) 0x19 0 (results [which])

/-- The slots of a path are written into their pages. -/
def State.storePath (s : State) (t : Nat) (path : List Nat) : State := path.foldl (fun s i => s.storeSlot t i) s

/-- TBL_INSERT of one record into table n for an owner (R399, R403, R407). -/
def State.emInsert (s : State) (n owner : Nat) (manager : Bool) (ws : List Word) : RecEnd :=
  let v := s.table n
  let w := wd ws
  let port := field (w 2) 30 27
  let page := w 1
  let e : EmEntry := { statePage := page, port := port, owner := owner, action := field (w 2) 15 0, hit := false, key := recKey v ws }
  let flushing := match v.flush with
    | some (p, _) => p == port
    | none => false
  recGuards [(!fits (w 0) 0x800000FF, recParam s 0), (!fits (w 1) 0x3FFFFFFF, recParam s 1), (!fits (w 2) 0x7800FFFF, recParam s 2),
      (port = 14, recParam s 2), (v.state == .free, recRefuse s 0x0C05), (!manager && !v.scoped, recRefuse s 0x0C06),
      ((keyTail v ws).isSome, recParam s (3 + (keyTail v ws).getD 0)), (flushing, recRefuse s 0x0C07),
      (page != 0x3FFFFFFF && decide (page ≥ (s.rangeOf owner).2 * 512), recRefuse s 0x0C0E)] fun _ =>
    match v.place e (bitAt (w 0) 31) with
    | .fault => recRefuse s 0x0C04
    | .full => s.rehash 0
    | .at_ t i moves old path =>
      let charge := if v.state == .live && old != some owner then s.emAllows owner else none
      match charge with
      | some true => .bad s 0x15 0 []
      | some false => .bad s 0x14 0 []
      | none =>
        let both := v.state == TblState.live && v.partner != 0xFF && (s.table v.partner).state == TblState.ready
        let mirror := if both then (s.table v.partner).place e true else .fault
        match mirror with
        | .full => s.rehash 1
        | m =>
          let s := (s.setTable n t).storePath n path
          let s := match m with
            | .at_ t2 _ _ _ path2 => if both then (s.setTable v.partner t2).storePath v.partner path2 else s
            | _ => s
          .ok (((s.bump R.TBL_EM_INSERTS).bumpBy R.TBL_EM_RELOCATIONS moves).loadWarn n v) (results [i, moves])

/-- An entry of table n leaves its slot, and its copy in a Ready shadow with it (R403, R408). -/
def State.emErase (s : State) (n i : Nat) : State :=
  let v := s.table n
  let e := lookup v.entries i
  let s := (s.setTable n { v with entries := eraseKey v.entries i }).storeSlot n i
  let s := match e with
    | some e =>
      let m := s.table v.partner
      if v.state == TblState.live && v.partner != 0xFF && m.state == TblState.ready && !e.parityBad then
        match m.find e.owner e.key with
        | some j => (s.setTable v.partner { m with entries := eraseKey m.entries j }).storeSlot v.partner j
        | none => s
      else s
    | none => s
  s.bump R.TBL_EM_DELETES

/-- TBL_DELETE of one record (R408). -/
def State.emDelete (s : State) (n owner : Nat) (manager : Bool) (ws : List Word) : RecEnd :=
  let v := s.table n
  let byIndex := bitAt (wd ws 0) 31
  recGuards [(!fits (wd ws 0) 0x800000FF, recParam s 0), (v.state == .free, recRefuse s 0x0C05),
      (!manager && !v.scoped, recRefuse s 0x0C06), (byIndex && !manager, .bad s 0x13 0 []),
      (byIndex && decide (wd ws 1 ≥ v.capacity), recParam s 1),
      (!byIndex && (keyTail v ws).isSome, recParam s (3 + (keyTail v ws).getD 0))] fun _ =>
    let hit := if byIndex then (if (lookup v.entries (wd ws 1)).isSome then some (wd ws 1) else none)
      else (v.find owner (recKey v ws)).filter fun i => (lookup v.entries i).any (·.owner = owner)
    match hit with
    | none => .bad s 0x18 0 []
    | some i => .ok (s.emErase n i) (results [i])

/-- The records of a block are applied in order up to the first that fails (R413): the state, the records applied and the answer of the
record that failed. -/
def runRecords (f : State → List Word → RecEnd) (s : State) (done : Nat) : List (List Word) → State × Nat × Nat
  | [] => (s, done, 0)
  | r :: rest =>
    match f s r with
    | .ok s _ => runRecords f s (done + 1) rest
    | .bad t st reason _ => (t, done, st * 2 ^ 16 + reason)

/-- A batch of records of size words each from block word 16 (R413). -/
def batch (c : Cmd) (s : State) (size maxCount mask : Nat) (f : State → List Word → RecEnd) : Res :=
  let n := c.p 0 % 2 ^ 16
  guards [(!fits (c.p 0) mask, fun _ => badP s 0), (n = 0 || n > maxCount, fun _ => badP s 0),
      (c.shortBlock (16 + n * size), fun _ => badParam s 6)] fun _ =>
    let recs := (List.range n).map fun k => (List.range size).map fun i => c.params.getD (16 + k * size + i) 0#32
    let (s, done, last) := runRecords f s 0 recs
    .ok s (results [done, last])

/-- A record's words with the table of its batch in word 0 (R413; log entry 34). -/
def withTable (ws : List Word) (t : Nat) : List Word := setWd ws 0 (wd ws 0 / 256 * 256 + t)

/-- A record of a table's batch, of 32 words: words 17 to 31 are 0 (R413). -/
def tableRecord (f : List Word → RecEnd) (s : State) (ws : List Word) : RecEnd :=
  match (List.range 15).find? fun j => wd ws (17 + j) != 0 with
  | some j => recParam s (17 + j)
  | none => f ws

/-- TBL_INSERT (R399, R407, R413). -/
def tblInsertSpec : CmdSpec where
  opcode := 0x0410
  needs := fun c => c.needsBlock 17 2
  locks := fun _ _ => []
  indirect := true
  noGen := false
  body := fun c s =>
    if c.indirect then
      let t := field (c.p 0) 23 16
      batch c s 32 8191 0xFFFFFF fun s r => tableRecord (s.emInsert t c.target c.fromManager) s (withTable r t)
    else (s.emInsert (c.p 0 % 256) c.target c.fromManager c.params).res

/-- TBL_INSERT (R407). -/
def execTblInsert (e : AdminEntry) (s : State) : Host.Outcome State Fault Refusal := .next (s.runCmd tblInsertSpec e)

/-- TBL_DELETE (R408, R413). -/
def tblDeleteSpec : CmdSpec where
  opcode := 0x0411
  needs := fun c => c.needsBlock (if bitAt (c.p 0) 31 then 2 else 17) 2
  locks := fun _ _ => []
  indirect := true
  noGen := false
  body := fun c s =>
    if c.indirect then
      let t := field (c.p 0) 23 16
      batch c s 32 8191 0xFFFFFF fun s r => tableRecord (s.emDelete t c.target c.fromManager) s (withTable r t)
    else (s.emDelete (c.p 0 % 256) c.target c.fromManager c.params).res

/-- TBL_DELETE (R408). -/
def execTblDelete (e : AdminEntry) (s : State) : Host.Outcome State Fault Refusal := .next (s.runCmd tblDeleteSpec e)

/-- TBL_SEARCH (R409). -/
def tblSearchSpec : CmdSpec where
  opcode := 0x0412
  needs := fun _ => 17
  locks := fun _ _ => []
  indirect := false
  noGen := false
  body := fun c s =>
    c.checked s [(0, 0xFF)] fun _ =>
      let v := s.table (c.p 0)
      guards [(v.state == .free, fun _ => refuse s 0x0C05), (!c.fromManager && !v.scoped, fun _ => refuse s 0x0C06),
          ((keyTail v c.params).isSome, fun _ => badP s (3 + (keyTail v c.params).getD 0))] fun _ =>
        match v.find c.target (recKey v c.params) with
        | none => notFound s
        | some i =>
          match lookup v.entries i with
          | some e => if e.owner = c.target then .ok s (results [i] ++ e.words) else notFound s
          | none => notFound s

/-- TBL_SEARCH (R409). -/
def execTblSearch (e : AdminEntry) (s : State) : Host.Outcome State Fault Refusal := .next (s.runCmd tblSearchSpec e)

/-- TBL_NEXT (R410). -/
def tblNextSpec : CmdSpec where
  opcode := 0x0413
  needs := fun _ => 18
  locks := fun _ _ => []
  indirect := false
  noGen := false
  body := fun c s =>
    c.checked s [(0, 0xFF)] fun _ =>
      let v := s.table (c.p 0)
      guards [(v.state == .free, fun _ => refuse s 0x0C05), (!c.fromManager && !v.scoped, fun _ => refuse s 0x0C06)] fun _ =>
        match v.entries.find? fun e => e.1 ≥ c.p 1 && !e.2.parityBad && (c.fromManager || e.2.owner = c.target) with
        | none => notFound s
        | some (i, e) => .ok s (results [i, v.relocs] ++ e.words ++ bytesWords (slice e.key 0 56))

/-- TBL_NEXT (R410). -/
def execTblNext (e : AdminEntry) (s : State) : Host.Outcome State Fault Refusal := .next (s.runCmd tblNextSpec e)

/-- TBL_FLUSH_PORT (R412). -/
def tblFlushPortSpec : CmdSpec where
  opcode := 0x0414
  needs := fun _ => 2
  locks := fun _ c => [⟨.table, c.p 0 % 256⟩]
  indirect := false
  noGen := false
  body := fun c s =>
    c.checked s [(0, 0x800000FF), (1, 0xF)] fun _ =>
      let n := c.p 0 % 256
      let v := s.table n
      if v.state != .live then refuse s 0x0C05
      else withClaims s [tblClaim n 0x02 c.mid] fun s =>
        .pend (s.setTable n { v with flush := some (c.p 1, if bitAt (c.p 0) 31 then none else some c.target) })

/-- TBL_FLUSH_PORT (R412). -/
def execTblFlushPort (e : AdminEntry) (s : State) : Host.Outcome State Fault Refusal := .next (s.runCmd tblFlushPortSpec e)

/-- The PENDING flush of table n. -/
def State.flushOf (s : State) (n : Nat) : Option PendCmd :=
  s.findPend fun p => p.cmd.opcode = 0x0414 && wd p.cmd.params 0 % 256 = n

/-- TABLE_FLUSH_END (R412): every entry of the port and owner is deleted, and the command replies with their number. -/
def execTableFlushEnd (n : BitVec 8) (s : State) : Host.Outcome State Fault Refusal :=
  let n := n.toNat
  let v := s.table n
  .next <|
    match v.flush with
    | none => s
    | some (port, owner) =>
      let gone := v.entries.filter fun e =>
        !e.2.parityBad && e.2.port = port && (match owner with
          | some o => e.2.owner = o
          | none => true)
      let s := s.setTable n { v with flush := none }
      let s := gone.foldl (fun s e => s.emErase n e.1) s
      let s := (s.dropClaim (0x05000000 + n)).raiseEs 276
      match s.flushOf n with
      | some p => s.finish p 0 0 (results [gone.length])
      | none => s

/-- TBL_SHADOW_SWITCH (R404): the shadow's buckets serve the live number. -/
def tblShadowSwitchSpec : CmdSpec where
  opcode := 0x0415
  needs := fun _ => 1
  locks := fun _ c => [⟨.table, c.p 0 % 256⟩]
  indirect := false
  noGen := false
  body := fun c s =>
    c.checked s [(0, 0xFF)] fun _ =>
      let n := c.p 0
      let v := s.table n
      if v.state != .ready then refuse s 0x0C05
      else
        let live := s.table v.partner
        let ws := live.words.take 1 ++ ((v.words.drop 1).take 3) ++ live.words.drop 4
        let s := s.freeBuckets live
        let s := (s.freeTable n).setTable v.partner { live with
          words := ws, entries := v.entries, base := v.base, partner := 0xFF, relocs := v.relocs }
        .ok ((s.dropClaim (0x05000000 + v.partner)).loadWarn v.partner live) []

/-- TBL_SHADOW_SWITCH (R404). -/
def execTblShadowSwitch (e : AdminEntry) (s : State) : Host.Outcome State Fault Refusal := .next (s.runCmd tblShadowSwitchSpec e)

/-! ## Longest-prefix match -/

/-- A route result whose kind or reserved bits are wrong (R417). -/
def routeBad (r : Nat) : Bool := !fits r 0xF000FFFF || field r 31 28 > 2

/-- The prefix of a record (R417). -/
def recPrefix (ws : List Word) : Prefix :=
  let v6 := bitAt (wd ws 0) 31
  { vrf := field (wd ws 0) 11 0, v6 := v6, length := field (wd ws 0) 23 16,
    address := wordsBytes ((ws.drop 2).take (if v6 then 4 else 1)), result := wd ws 1 }

/-- The fault of a prefix record, if any: its first offending word, given what is wrong with word 1, or its host bits (R101, R417). -/
def State.prefixFault (s : State) (ws : List Word) (bad1 : Bool) : Option RecEnd :=
  let p := recPrefix ws
  let zero := (List.range 8).find? fun j => decide (j ≥ if p.v6 then 6 else 3) && wd ws j != 0
  if !fits (wd ws 0) 0x80FF0FFF || p.length > (if p.v6 then 128 else 32) then some (recParam s 0)
  else if bad1 then some (recParam s 1)
  else match zero with
    | some j => some (recParam s j)
    | none => if !hostBitsClear p.length p.address then some (recRefuse s 0x0C09) else none

/-- LPM_ADD of one record (R414, R417, R418). -/
def State.lpmAdd (s : State) (ws : List Word) : RecEnd :=
  match s.prefixFault ws (routeBad (wd ws 1)) with
    | some r => r
    | none =>
      let p := recPrefix ws
      let v := s.vrf p.vrf
      if !v.enable then recRefuse s 0x0C0B
      else if s.tbl.prefixes.any (samePrefix p) then .ok (s.addPrefix p) []
      else if s.prefixCount (some p.vrf) p.v6 ≥ (if p.v6 then v.v6Max else v.v4Max) then recRefuse (s.raiseEs 277) 0x0C0A
      else if s.prefixCount none p.v6 ≥ (if p.v6 then 1048576 else 2097152) then .bad s 0x14 0 []
      else .ok (s.addPrefix p) []

/-- LPM_ADD (R413, R417). -/
def lpmAddSpec : CmdSpec where
  opcode := 0x0420
  needs := fun c => c.needsBlock 8 (if c.indirect then 2 else 0)
  locks := fun _ _ => []
  indirect := true
  noGen := false
  body := fun c s =>
    if c.indirect then batch c s 8 32766 0xFFFF fun s r => s.lpmAdd r
    else (s.lpmAdd c.params).res

/-- LPM_ADD (R417). -/
def execLpmAdd (e : AdminEntry) (s : State) : Host.Outcome State Fault Refusal := .next (s.runCmd lpmAddSpec e)

/-- LPM_DELETE (R417). -/
def lpmDeleteSpec : CmdSpec where
  opcode := 0x0421
  needs := fun _ => 8
  locks := fun _ _ => []
  indirect := false
  noGen := false
  body := fun c s =>
    match s.prefixFault c.params (c.p 1 != 0) with
      | some r => r.res
      | none =>
        let p := recPrefix c.params
        if !s.tbl.prefixes.any (samePrefix p) then notFound s
        else .ok (({ s with tbl := { s.tbl with prefixes := s.tbl.prefixes.filter fun q => !samePrefix p q } }).bump
          R.TBL_LPM_UPDATES) []

/-- LPM_DELETE (R417). -/
def execLpmDelete (e : AdminEntry) (s : State) : Host.Outcome State Fault Refusal := .next (s.runCmd lpmDeleteSpec e)

/-- LPM_VRF_CFG (R420). -/
def lpmVrfCfgSpec : CmdSpec where
  opcode := 0x0422
  needs := fun _ => 4
  locks := fun _ c => [⟨.vrf, c.p 0 % 2 ^ 12⟩]
  indirect := false
  noGen := false
  body := fun c s =>
    c.checked s [(0, 0xC0000FFF), (1, 0x3FFFFF), (2, 0x1FFFFF)] fun _ =>
      let n := c.p 0 % 2 ^ 12
      let on := bitAt (c.p 0) 31
      let flush := bitAt (c.p 0) 30
      let v4 := s.prefixCount (some n) false
      let v6 := s.prefixCount (some n) true
      guards [(c.p 1 > 2097152, fun _ => badP s 1), (c.p 2 > 1048576, fun _ => badP s 2), (routeBad (c.p 3), fun _ => badP s 3),
          (!on && (s.vrf n).enable && v4 + v6 != 0, fun _ => refuse s 0x0C10),
          (c.p 1 < v4 || c.p 2 < v6, fun _ => refuse (s.raiseEs 277) 0x0C0A)] fun _ =>
        let old := s.vrf n
        let s := s.setVrf n { enable := on, v4Max := c.p 1, v6Max := c.p 2, default := c.p 3, flushing := flush }
        if flush then .pendNote s [b2n old.enable, old.v4Max, old.v6Max, old.default] else .ok s []

/-- LPM_VRF_CFG (R420). -/
def execLpmVrfCfg (e : AdminEntry) (s : State) : Host.Outcome State Fault Refusal := .next (s.runCmd lpmVrfCfgSpec e)

/-- VRF_FLUSH_END (R420). -/
def execVrfFlushEnd (n : BitVec 12) (s : State) : Host.Outcome State Fault Refusal :=
  let n := n.toNat
  let v := s.vrf n
  .next <|
    if !v.flushing then s
    else
      let gone := s.prefixCount (some n) false + s.prefixCount (some n) true
      let s := { s with tbl := { s.tbl with prefixes := s.tbl.prefixes.filter fun p => p.vrf != n } }
      let s := ((s.setVrf n { v with flushing := false }).bumpBy R.TBL_LPM_UPDATES gone).raiseEs 276
      match s.findPend (fun p => p.cmd.opcode = 0x0422 && wd p.cmd.params 0 % 2 ^ 12 = n) with
      | some p => s.finish p 0 0 []
      | none => s

/-- LPM_NODE_REBUILD (R419): the first trie node that failed parity is rebuilt from the store. -/
def execLpmNodeRebuild (s : State) : Host.Outcome State Fault Refusal :=
  .next { s with tbl := { s.tbl with badNodes := s.tbl.badNodes.drop 1 } }

/-! ## Learning and ageing -/

/-- LEARN_CFG (R421). -/
def learnCfgSpec : CmdSpec where
  opcode := 0x0430
  needs := fun _ => 5
  locks := fun _ c => [⟨.learn, c.p 0 % 256⟩]
  indirect := false
  noGen := false
  body := fun c s =>
    c.checked s [(0, 0x800000FF), (1, 0xFFFF), (3, 0xFFFF), (4, 0xFFFF)] fun _ =>
      let n := c.p 0 % 256
      let v := s.table n
      let ring := match s.findQ 0 (c.p 1) with
        | some q => (s.q q).state = 1 && (s.q q).type = 5
        | none => false
      guards [(c.p 2 < 1000 || c.p 2 > 10000000, fun _ => badP s 2), (c.p 3 = 0, fun _ => badP s 3),
          (v.state == .free, fun _ => refuse s 0x0C05), (!ring, fun _ => refuse s 0x0C0D)] fun _ =>
        .ok (s.setTable n { v with
          learn := { v.learn with
            enable := bitAt (c.p 0) 31, ring := c.p 1, rate := c.p 2, holdoff := c.p 3, age := c.p 4, tokens := c.p 2 } }) []

/-- LEARN_CFG (R421). -/
def execLearnCfg (e : AdminEntry) (s : State) : Host.Outcome State Fault Refusal := .next (s.runCmd learnCfgSpec e)

/-- LEARN_TOKEN_REFILL (R424, R425): a table's bucket gains one token, up to one second's depth, and a waiting scan resumes. -/
def execLearnTokenRefill (n : BitVec 8) (s : State) : Host.Outcome State Fault Refusal :=
  let n := n.toNat
  let v := s.table n
  .next <|
    if v.state == .free then s
    else
      let s := s.setTable n { v with learn := { v.learn with tokens := min (v.learn.tokens + 1) v.learn.rate } }
      if v.learn.waits then s.ageVisit n else s

/-- AGEING_SCAN_VISIT (R425). -/
def execAgeingScanVisit (n : BitVec 8) (s : State) : Host.Outcome State Fault Refusal := .next (s.ageVisit n.toNat)

/-! ## The descriptor snapshot -/

/-- The code of a table's state (R405). -/
def TblState.code : TblState → Nat
  | .free => 0
  | .live => 1
  | .copying => 2
  | .ready => 3

/-- The 12 descriptor words of a table (R427). -/
def EmTable.descriptor (t : EmTable) : List Word :=
  let l := t.learn
  (List.range 6).map (fun i => t.words.getD i 0#32) ++ results [t.state.code * 2 ^ 29 + t.partner * 2 ^ 16, t.count,
    b2n l.enable * 2 ^ 31 + l.ring, l.rate, l.holdoff, l.age]

/-- A write of TBL_SEL (R427). -/
def State.tblSel (s : State) (n : Nat) : State :=
  let ws := (s.table n).descriptor
  (List.range 12).foldl (fun s k => s.setReg (R.TBL_DESC_WORD k) (wd ws k)) (s.setF F.TBL_SEL_table n)

/-- TBL_SEL_WRITE (R427). -/
def execTblSelWrite (mid : BitVec 13) (n : BitVec 8) (s : State) : Host.Outcome State Fault Refusal :=
  .next (s.gatedWrite mid.toNat R.TBL_SEL fun s => s.tblSel n.toNat)

end Sys2Proof.Machine
end

