-- ==== Sys2Proof/Machine/OpsStale.lean ====
section
/-! DEFINITION. What an abort of a PENDING command leaves (R123), and what a command that ends STALE_GENERATION leaves (R100, R111). -/

namespace Sys2Proof.Machine

/-- QUEUE_DESTROY is aborted (R216): the queue takes doorbells again. -/
def State.abortDestroy (s : State) (q : Nat) : State :=
  if (s.q q).state = 2 then (s.setQ q { s.q q with state := 1 }).ensureFetch q else s

/-- TBL_CREATE is aborted while it copies (R405): the shadow's buckets and lock are freed. -/
def State.abortCopy (s : State) (n : Nat) : State := ((s.freeBuckets (s.table n)).dropShadow n).raiseEs 275

/-- TBL_FLUSH_PORT stops before any deletion. -/
def State.stopFlush (s : State) (n : Nat) : State := ((s.setTable n { s.table n with flush := none }).dropClaim (0x05000000 + n)).raiseEs 276

/-- TBL_FLUSH_PORT is aborted (R412): it stops at the next bucket, after as many deletions as it had made, which is left open. -/
def State.abortFlush (s : State) (n : Nat) : State :=
  let v := s.table n
  match v.flush with
  | none => s
  | some (port, owner) =>
    let gone := v.entries.filter fun e =>
      !e.2.parityBad && e.2.port = port && (match owner with
        | some o => e.2.owner = o
        | none => true)
    let (k, s) := s.draw
    let s := s.setTable n { v with flush := none }
    let s := (gone.take (k % (gone.length + 1))).foldl (fun s e => s.emErase n e.1) s
    (s.dropClaim (0x05000000 + n)).raiseEs 276

/-- What an abort of a PENDING command leaves (R123 and the rules of the chapters); none for a command that is not abortable. -/
def State.aborted (s : State) (p : PendCmd) : Option State :=
  let w := p.cmd.p 0
  match p.cmd.opcode with
  | 0x0201 => some (s.abortDestroy (p.note.headD 0))
  | 0x0301 => some (s.abortRevoke (w % 64))
  | 0x0320 => some (s.abortCarve (w % 2))
  | 0x0400 => if (s.table (w % 256)).state == .copying then some (s.abortCopy (w % 256)) else none
  | 0x0414 => some (s.abortFlush (w % 256))
  | 0x0701 => if (s.cl (w % 16)).busy == .writing then some (s.abortSwap (w % 16)) else none
  | 0x0702 => some (s.abortUnload (w % 16))
  | 0x0A11 => some (s.gclDiscard (w % 8))
  | 0x0C01 => if (s.region (w % 16)).staging.isSome then some (s.abortLoad (w % 16)) else none
  | _ => none

/-- A grant that is being vacated is given up: its pages stay where they are (R100, R341). -/
def State.cancelGrant (s : State) (base : Nat) : State :=
  match s.mem.grants.find? fun g => s.mem.vacating.contains g.1 && g.2.1 = base with
  | none => s
  | some g =>
    let inside := fun (f : Nat) => base * 512 ≤ f && f < (base + g.2.2) * 512
    let mine := (s.pgr.pages.filter fun e => e.2.home.frame.any fun f => inside f).map (·.1)
    let s := { s with mem := { s.mem with grants := eraseKey s.mem.grants g.1, vacating := s.mem.vacating.filter (· != g.1) } }
    (s.cancelMoves mine).startMove

/-- What a command that has ended STALE_GENERATION had begun is undone (R100, R111). An update in hand leaves what State.updateStale says, a
load what State.lanStale says; a command that no abort stops, and whose effect the device carries out by itself from its acceptance on,
runs to its end without a further answer (DESIGN CHOICE, log entry 58). -/
def State.undo (s : State) (p : PendCmd) : State :=
  let w := p.cmd.p 0
  match p.cmd.opcode with
  | 0x0301 => s.abortRevoke (w % 64)
  | 0x0302 => if w % 4 = 0 then s.cancelGrant (p.cmd.p 1) else s
  | 0x0310 => p.note.tail.foldl (fun s k => (s.setPage k { s.page k with pinned := false }).tidyPage k) s
  | 0x0320 => s.abortCarve (w % 2)
  | 0x0400 => if (s.table (w % 256)).state == .copying then s.abortCopy (w % 256) else s
  | 0x0414 => s.stopFlush (w % 256)
  | 0x0422 =>
    match p.note with
    | [on, v4, v6, d] => (s.setVrf (w % 2 ^ 12) { enable := on = 1, v4Max := v4, v6Max := v6, default := d, flushing := false }).raiseEs 276
    | _ => s
  | 0x0701 => if (s.cl (w % 16)).busy == .writing then s.abortSwap (w % 16) else s
  | 0x0702 => s.abortUnload (w % 16)
  | 0x0A00 =>
    match s.node (w % 65536) with
    | some n =>
      let s := s.setNode (w % 65536) { n with closing := false }
      if n.instDefault then { s with frs := { s.frs with instDefault := insertKey s.frs.instDefault n.owner (w % 65536) } } else s
    | none => s
  | 0x0A11 => s.gclDiscard (w % 8)
  | 0x0D00 => ({ s with spr := { s.spr with joining := false } }).unjoin p.note
  | 0x0D04 => { s with spr := { s.spr with grants := insertKey s.spr.grants (w % 256) (SparGrant.ofNote p.note) } }
  | 0x0D01 => { s with spr := { s.spr with leaving := false } }
  | _ => s

/-- The beginnings of the commands that R111 has ended in this step are undone (R100). -/
def State.undoStale (s : State) : State :=
  let ps := s.cmds.ended
  ps.foldl State.undo { s with cmds := { s.cmds with ended := [] } }

end Sys2Proof.Machine
end

