-- ==== Sys2Proof/Machine/Host.lean ====
section
/-! DEFINITION. Meanings of the host endpoint's and the downstream ports' events and registers (R136 to R177). -/

namespace Sys2Proof.Machine

/-! ## The upstream link and configuration space (R67, R136 to R140) -/

/-- Whatever waited for the host to be reachable, or for a tag, goes on (R151, R216, R333). -/
def State.kickHost (s : State) : State := ((s.queues.map (·.1)).foldl State.ensureFetch s).startWaiting

/-- A rate and width of R137. -/
def linkShape (rate width : Nat) : Bool := 1 ≤ rate && rate ≤ 7 && [1, 2, 4, 8, 16].contains width

/-- The upstream link comes up, changes or goes down (R137, HST_LINK_STATUS, ES 64). -/
def State.linkChange (s : State) (up : Bool) (rate width : Nat) : State :=
  if !s.mainOn || (up && (s.boot.perst || !linkShape rate width)) then s
  else
    let v := if up then width * 2 ^ 22 + width * 2 ^ 17 + b2n (decide (6 ≤ rate)) * 2 ^ 16 + 16 + rate else 0
    if s.reg R.HST_LINK_STATUS = v then s
    else
      ((s.setReg R.HST_LINK_STATUS v).raiseEs 64).kickHost

/-- UPSTREAM_LINK_CHANGE (R137). -/
def execUpstreamLinkChange (up : Bool) (rate : BitVec 4) (width : BitVec 5) (s : State) : Host.Outcome State Fault Refusal :=
  .next (s.linkChange up rate.toNat width.toNat)

/-- The configuration space is filled (R67, R158): HST_PEER_BAR_CFG is sampled, and BAR index 4-5 takes its initial size. -/
def State.fillConfig (s : State) : State :=
  let m := min (s.rf F.HST_PEER_BAR_CFG_max_size) 8
  { s with host := { s.host with filled := true, barMax := m, bar4GiB := min 64 (2 ^ m), bar4Absent := s.rfb F.HST_PEER_BAR_CFG_bar_disable } }

/-- The boot ROM, or firmware, may fill the configuration space (R67). -/
def State.mayFill (s : State) : Bool :=
  s.mainOn && !s.boot.perst && (s.rfb F.GLB_MODE_rom_recovery || decide (s.rf F.GLB_BOOT_STATUS_step ≥ 2))

/-- The AER status that a list of logged errors gives. -/
def aerStatus (pick : AerError → Option Nat) (es : List AerError) : Nat :=
  es.foldl (fun n e => match pick e with
    | some b => n ||| 2 ^ b
    | none => n) 0

/-- Word i of the board record (R766); none where the record does not hold. -/
def State.boardWord (s : State) (i : Nat) : Option Nat :=
  let w := fun k => Mem.word s.mem.mram (0x2000 + 4 * k)
  if w 0 = 0x4B5A4252 && w 1023 = (crc32c (Mem.bytes s.mem.mram 0x2000 4092)).toNat then some (w i) else none

/-- The bytes that a BAR pair of PF0 decodes (R141, R158). -/
def State.barBytes (s : State) (pair : Nat) : Nat :=
  match pair with
  | 0 => 64 * 2 ^ 20
  | 1 => 16 * 2 ^ 20
  | _ => if s.host.bar4Absent then 0 else s.host.bar4GiB * 2 ^ 30

/-- A BAR pair of PF0 is there (R158). -/
def State.barThere (s : State) (pair : Nat) : Bool := pair < 2 || !s.host.bar4Absent

/-- What the capabilities of R136 to R141 report, which nothing changes but the board record and the BAR sizes. The values are counts and sizes where
the rule names a number, 1 and 0 for what is there and what is absent, and these sets of bits: tags 0b11 for 10 and 14 bits; completion timeout
ranges A to D 0xF; AtomicOps FetchAdd and Swap of 32 and 64 bits and CAS of 32, 64 and 128 bits 0x7F; rates 2.5 to 128 GT/s 0x7F; ASPM L1 0b10;
ACS Source Validation, P2P Request Redirect, P2P Completion Redirect and Upstream Forwarding 0x1D; PME from D3hot 0x08 and D3cold 0x10. -/
def State.capability (s : State) (pf : Bool) (item : CfgItem) : Nat :=
  let only := fun (n : Nat) => if pf then n else 0
  match item with
  | .vendorId => Config.vendorId.toNat
  | .deviceId => if pf then 0x1600 else 0x1601
  | .classCode => 0x020000
  | .subsystemVendorId => field ((s.boardWord 1).getD 0) 15 0
  | .subsystemId => field ((s.boardWord 1).getD 0) 31 16
  | .serialNumber => only Config.serial.toNat
  | .totalVfs | .initialVfs => only 2047
  | .firstVfOffset | .vfStride => only 1
  | .vfDeviceId => only 0x1601
  | .pageSizes => only 0x1F
  | .msixSize => if pf then 2048 else 64
  | .msixBir => if pf then 2 else 0
  | .msixTable => if pf then 0x0F00000 else 0x3000
  | .msixPba => if pf then 0x0F80000 else 0x3800
  | .maxPayload => 512
  | .maxReadRequest => 4096
  | .requesterTags | .completerTags => 3
  | .timeoutRanges => 0xF
  | .atomicRequester => 0x7F
  | .flrCapable | .ecrc | .noSoftReset | .atsPageAligned => 1
  | .linkRates => only 0x7F
  | .linkWidth => only 16
  | .aspmSupport => only 2
  | .marginTiming | .marginVoltage => only 32
  | .auxCurrent => 375
  | .pmeSupport => if pf then 0x18 else 0x08
  | .pasidWidth => 20
  | .ltr | .ptmRequester | .scaledFlowControl | .flitMode | .mctp => only 1
  | .l1Substates => only 0xF
  | .tPowerOn => only 50
  | .commonModeRestore => only 30
  | .resizableBar => only 4
  | .acsCapable => only 0x1D
  | .barBytes k => only (s.barBytes k.val)
  | .bar64 k => only (b2n (s.barThere k.val))
  | .barPrefetch k => only (b2n (k.val = 2 && s.barThere 2))
  | .vfBarBytes => only 0x10000
  | .vfBar64 => only 1
  | _ => 0

/-- The uncorrectable errors that are Fatal by default, as AER's severity register has them (R156; log entry 29). -/
def fatalMask : Nat := 2 ^ 22 + 2 ^ 18 + 2 ^ 13 + 2 ^ 4

/-- A value of configuration space (R136, R139, R143, R144, R158). -/
def State.cfgRead (s : State) (f : Nat) (item : CfgItem) : Nat :=
  let pf : Bool := f = 0
  let only := fun (n : Nat) => if pf then n else 0
  let c := s.fn f
  match item with
  | .bar4Sizes => if s.host.bar4Absent then 0 else only (2 ^ (s.host.barMax + 1) - 1)
  | .bar4Size => if s.host.bar4Absent then 0 else only s.host.bar4GiB
  | .memSpace => if pf then b2n c.memSpace else 0
  | .busMaster => b2n c.busMaster
  | .powerState => if c.d3hot then 3 else 0
  | .pmeEn => b2n c.pmeEn
  | .pmeStatus => b2n c.pmeStatus
  | .msixEnable => b2n c.msixEnable
  | .vfEnable => only (b2n s.host.vfEnable)
  | .numVfs => only s.host.numVfs
  | .vfMse => only (b2n s.host.vfMse)
  | .ariCapable => only (b2n s.host.ariCapable)
  | .cplTimeout => only s.host.cplTimeout
  | .aspmL1 => only (b2n s.host.l1Enabled)
  | .acsControl => only s.host.acs
  | .aerUncorrectable => aerStatus (aerBit · |>.1) c.aer
  | .aerCorrectable => aerStatus (aerBit · |>.2) c.aer
  | .aerSeverity => fatalMask
  | .aerFirstError => (firstError c.aer).getD 0
  | .aerHeader => c.header
  | _ => s.capability pf item

/-- MSI-X Enable rises: the vectors of the function that are pending and unmasked are sent (R254). -/
def State.msixOn (s : State) (f : Nat) : State :=
  (s.evc.vecs.filter fun e => e.1 / 4096 = f && e.2.pba && !e.2.masked).foldl (fun s e => s.sendVec f (e.1 % 4096)) s

/-- A field of configuration space is written. -/
def State.cfgWrite (s : State) (f : Nat) (a : CfgAccess) : State :=
  let c := s.fn f
  let pf := fun (h : HostSt) => if f = 0 then { s with host := h } else s
  match a with
  | .read _ => s
  | .memSpace b => if f = 0 then s.setFn f { c with memSpace := b } else s
  | .busMaster b => if c.busMaster = b then s else (s.setFn f { c with busMaster := b }).kickHost
  | .pmeEn b => s.setFn f { c with pmeEn := b }
  | .clearPmeStatus => s.setFn f { c with pmeStatus := false }
  | .msixEnable b =>
    let s := s.setFn f { c with msixEnable := b }
    if b && !c.msixEnable then s.msixOn f else s
  | .vfMse b => pf { s.host with vfMse := b }
  | .ariCapable b => pf { s.host with ariCapable := b }
  | .cplTimeout e => pf { s.host with cplTimeout := e.toNat }
  | .aspmL1 b => pf { s.host with l1Enabled := b }
  | .acsControl b => pf { s.host with acs := b.toNat &&& 0x1D }
  | .bar4Size k => if k.toNat ≤ s.host.barMax then pf { s.host with bar4GiB := 2 ^ k.toNat } else s
  | .clearAer => s.setFn f { c with aer := [], header := 0 }

/-- A configuration request is answered, or retried while the configuration space has yet to be filled or an FLR runs; when within its
20 ms the fill takes place is left open (R67, R77; log entry 2). -/
def State.configRequest (s : State) (f : Nat) (a : CfgAccess) : State :=
  if !s.mainOn || s.boot.perst || !s.rfb F.HST_LINK_STATUS_link_up then s
  else
    let s := if s.host.filled || !s.mayFill then s
      else
        let (v, s) := s.draw
        if v % 2 = 1 then s.fillConfig else s
    if !s.host.filled || (s.fn f).flr then s.emit (.configAnswer f none)
    else if !s.fnExists f then s.emit (.unsupported f)
    else
      let s := s.cfgWrite f a
      s.emit (.configAnswer f (some (match a with
        | .read item => s.cfgRead f item
        | _ => 0)))

/-- CONFIG_REQUEST (R67, R136). -/
def execConfigRequest (fn : Fin 2048) (access : CfgAccess) (s : State) : Host.Outcome State Fault Refusal :=
  .next (s.configRequest fn.val access)

/-! ## VFs (R139, R140) -/

/-- The host can write configuration space: it is filled and the link is up. -/
def State.cfgOpen (s : State) (f : Nat) : Bool :=
  s.mainOn && !s.boot.perst && s.rfb F.HST_LINK_STATUS_link_up && s.host.filled && s.fnExists f && !(s.fn f).flr

/-- HST_SRIOV_STATUS follows VF Enable and NumVFs; ES 73 is raised as ari_missing or numvfs_bad is set (R140). -/
def State.showVfs (s : State) : State :=
  let h := s.host
  let ari := h.vfEnable && !h.ariSampled
  let bad := h.vfEnable && decide (h.numVfs > 2047)
  let rose := (ari && !s.rfb F.HST_SRIOV_STATUS_ari_missing) || (bad && !s.rfb F.HST_SRIOV_STATUS_numvfs_bad)
  let s := s.setReg R.HST_SRIOV_STATUS (b2n ari * 2 ^ 31 + b2n h.vfEnable * 2 ^ 30 + b2n bad * 2 ^ 29 + h.numVfs)
  if rose then s.raiseEs 73 else s

/-- After a change of VF Enable or NumVFs: functions that no longer exist lose their configuration, instances that are no longer bound
are reset, and those whose conditions hold bind (R76, R140, R277). -/
def State.vfsChanged (s : State) : State :=
  let s := s.showVfs.raiseEs 72
  let s := { s with host := { s.host with fns := s.host.fns.filter fun e => e.1 = 0 || (s.vfsOn && decide (e.1 ≤ s.host.numVfs)) } }
  ((s.hostResetAll false fun i => i != 0 && !s.bindOk i).bindAll).undoStale

/-- VF_ENABLE_SET (R140). -/
def execVfEnableSet (s : State) : Host.Outcome State Fault Refusal :=
  .next (if !s.cfgOpen 0 || s.host.vfEnable then s
    else ({ s with host := { s.host with vfEnable := true, ariSampled := s.host.ariCapable } }).vfsChanged)

/-- VF Enable is cleared (R140, R277). -/
def State.vfDisable (s : State) : State := ({ s with host := { s.host with vfEnable := false } }).vfsChanged

/-- VF_ENABLE_CLEAR (R277). -/
def execVfEnableClear (s : State) : Host.Outcome State Fault Refusal := .next (if !s.cfgOpen 0 || !s.host.vfEnable then s else s.vfDisable)

/-- NUMVFS_WRITE (R140, R177, R277). While VF Enable is 0 no instance is bound and nothing more changes. -/
def execNumvfsWrite (value : BitVec 16) (s : State) : Host.Outcome State Fault Refusal :=
  .next (if !s.cfgOpen 0 || s.host.numVfs = value.toNat then s else ({ s with host := { s.host with numVfs := value.toNat } }).vfsChanged)

/-! ## Power states (R147 to R149) -/

/-- The instances whose queues follow a function's power state: its own, or every one for PF0 (R147). -/
def State.powerScope (s : State) (f : Nat) : List Nat := if f = 0 then s.insts.map (·.1) else [f]

/-- A function's PowerState is written (R147, ES 71). -/
def State.powerState (s : State) (f : Nat) (d3 : Bool) : State :=
  let c := s.fn f
  if c.d3hot = d3 then s
  else
    let s := (s.setFn f { c with d3hot := d3 }).raiseEs 71
    (s.powerScope f).foldl (fun s i => if d3 then s.stopQueues i else s.resumeServing i) s

/-- POWERSTATE_WRITE (R147). -/
def execPowerstateWrite (fn : Fin 2048) (d3hot : Bool) (s : State) : Host.Outcome State Fault Refusal :=
  .next (if !s.cfgOpen fn.val then s else s.powerState fn.val d3hot)

/-- PME_TURN_OFF (R149). -/
def execPmeTurnOff (s : State) : Host.Outcome State Fault Refusal :=
  .next (if !s.mainOn || s.boot.perst || !s.rfb F.HST_LINK_STATUS_link_up then s
    else ({ s with boot := { s.boot with wakeArmed := (s.fn 0).pmeEn } }).emit .pmeToAck)

/-! ## Host reads (R151 to R155, R217, R227, R285, R333) -/

/-- The completion timeout in microseconds (R152); none for an encoding that the table does not list. -/
def State.cplTimeoutUs (s : State) : Option Nat :=
  if s.rfb F.HST_CPL_TIMEOUT_override then some (s.rf F.HST_CPL_TIMEOUT_value_us)
  else match s.host.cplTimeout with
    | 0 => some 50000
    | 1 => some 50
    | 2 => some 10000
    | 5 => some 50000
    | 6 => some 200000
    | 9 => some 900000
    | 10 => some 3500000
    | 13 => some 13000000
    | 14 => some 64000000
    | _ => none

/-- The queue that a read serves. -/
def ReadUnit.queue : ReadUnit → Option Nat
  | .ringFetch q => some q
  | _ => none

/-- The read of an entry has failed (R227): the first unit completes with HOST_READ_ERROR. Its words have not been read, so what its
completion keeps of word 0, and its tag, are left open (log entry 2). -/
def State.entryReadFailed (s : State) (q : Nat) : State :=
  let c := s.q q
  if (c.state = 1 || c.state = 2) && c.fi != c.pi then
    let (v, s) := s.draw
    let (t, s) := s.draw
    let w0 := v % 2 ^ 32
    ((s.takeUnits q 1 w0 (t % 65536) c.notifyAll).completeEntry q c.fi 1 w0 [] 0x0100 0 (t % 65536) c.notifyAll).ensureFetch q
  else s

/-- A result of an earlier generation is discarded (R217, R285). -/
def State.staleRead (s : State) (r : TagReq) : State :=
  if r.gen != (s.inst r.iid).gen then s.staleDiscard r.iid r.unit.queue
  else match r.unit.queue with
    | some q => s.staleQueue q
    | none => s

/-- A read ends at its unit with a host-read error (R153). -/
def State.readFailed (s : State) (r : TagReq) : State :=
  match r.unit with
  | .pageFill k =>
    let s := s.fillFailed k
    if (s.page k).cached.isSome then s.releasePage k else s
  | .dma c => s.dmaBurst c none
  | .ringFetch q => if s.current r then s.entryReadFailed q else s.staleRead r

/-- Data reaches the unit that asked for it, but for an instance that is being destroyed (R303); the words of a ring fetch are acted on by the row of the entry that they hold
(log entry 1). -/
def State.readData (s : State) (r : TagReq) (data : List Byte) : State :=
  match r.unit with
  | .pageFill k =>
    if !(s.page k).filling then s
    else if (s.inst (s.ssidOf k)).state = 5 then (s.setPage k { s.page k with filling := false }).startWaiting
    else (s.fillPage k (some data)).releasePage k
  | .dma c => s.dmaBurst c (some data)
  | .ringFetch _ => s

/-- HOST_READ_COMPLETION (R156, R285). -/
def execHostReadCompletion (tag : BitVec 14) (status : CplStatus) (data : List Byte) (s : State) : Host.Outcome State Fault Refusal :=
  .next <|
    match lookup s.host.tags tag.toNat with
    | none => s
    | some r =>
      if r.quarantined then s
      else match status with
        | .good =>
          if !s.current r then ((s.releaseTag tag.toNat).staleRead r).kickHost
          else match r.unit with
            | .ringFetch _ => s
            | _ => ((s.releaseTag tag.toNat).readData r data).kickHost
        | .poisoned => (((s.aer r.iid .poisoned).releaseTag tag.toNat).readFailed r).kickHost
        | .ecrc => (((s.aer r.iid .ecrc).releaseTag tag.toNat).readFailed r).kickHost
        | .refused => ((s.releaseTag tag.toNat).readFailed r).kickHost

/-- COMPLETION_TIMEOUT (R153): AER, ES 74, the host-read error, and the tag's quarantine. -/
def execCompletionTimeout (tag : BitVec 14) (s : State) : Host.Outcome State Fault Refusal :=
  .next <|
    match lookup s.host.tags tag.toNat with
    | none => s
    | some r =>
      if r.quarantined then s
      else (s.tagTimeout tag.toNat r).readFailed r

/-- LATE_COMPLETION (R154). -/
def execLateCompletion (tag : BitVec 14) (s : State) : Host.Outcome State Fault Refusal :=
  .next <|
    match lookup s.host.tags tag.toNat with
    | none => s
    | some r =>
      if !r.quarantined then s
      else ((((s.bump R.HST_LATE_CPL).aer r.iid .unexpectedCompletion).raiseEs 75).releaseTag tag.toNat).kickHost

/-- TAG_QUARANTINE_EXPIRY (R154). -/
def execTagQuarantineExpiry (tag : BitVec 14) (s : State) : Host.Outcome State Fault Refusal :=
  .next <|
    match lookup s.host.tags tag.toNat with
    | none => s
    | some r => if r.quarantined then (s.releaseTag tag.toNat).kickHost else s

/-! ## Peer windows (R158 to R165) -/

/-- A memory request of bytes bytes, or of the data written, to BAR index 4-5 (R67, R159, R160, R315). -/
def State.peerRequest (s : State) (rid off bytes : Nat) (access : PeerAccess) (atomic : Bool) : State :=
  if s.loaderUr 0 then (if access.isWrite then s.closedWrite 0 else s.closedRead 0)
  else if !s.fnOpen 0 || s.host.bar4Absent || decide (off + bytes > s.host.bar4GiB * 2 ^ 30) then s
  else
    let n := access.count bytes
    match if atomic then none else s.peerAddr off n rid access.isWrite with
    | some a =>
      match access with
      | .write bs => ({ s with mem := { s.mem with ddr := Mem.write s.mem.ddr a bs } }).emit (.peerData a [])
      | .read ecc => s.peerRead a n ecc
    | none =>
      let s := s.bump R.HST_PEER_MISS
      if access.isWrite && !atomic then s.urPosted 0 else s.urRead 0

/-- PEER_WINDOW_REQUEST (R159, R160). -/
def execPeerWindowRequest (rid : BitVec 16) (offset : BitVec 38) (bytes : BitVec 13) (access : PeerAccess) (atomic : Bool) (s : State) :
    Host.Outcome State Fault Refusal := .next (s.peerRequest rid.toNat offset.toNat bytes.toNat access atomic)

/-- HST_PEER_WIN_CTL_n is written: the shadow takes bits 2:0, and `commit` starts the check (R161, R164). -/
def State.winCtl (s : State) (n v : Nat) : State :=
  let s := s.setReg (R.HST_PEER_WIN_CTL n) (putField (s.reg (R.HST_PEER_WIN_CTL n)) 2 0 v)
  if bitAt v 31 then s.winCommit n else s

/-- PEER_WIN_COMMIT (R161). -/
def execPeerWinCommit (mid : BitVec 13) (window : Fin 64) (value : Word) (s : State) : Host.Outcome State Fault Refusal :=
  .next (s.gatedWrite mid.toNat (R.HST_PEER_WIN_CTL window.val) fun s => s.winCtl window.val value.toNat)

/-- A MEM_PEER_WINDOW that waited behind another commit of its window commits its shadow (R164, R341). -/
def State.winNext (s : State) (n : Nat) (p : PendCmd) : State :=
  let s := s.winCommit n
  if s.rfb (F.HST_PEER_WIN_CTL_commit n) then
    { s with cmds := { s.cmds with pend := s.cmds.pend.map fun q => if q.cmd == p.cmd then { q with note := [] } else q } }
  else s.finish p 0x20 (s.rf (F.HST_PEER_WIN_CTL_reason n)) []

/-- Every request decoded under the old window has completed (R162, ES 76); a MEM_PEER_WINDOW that waits answers (R341). -/
def State.winDrained (s : State) (n : Nat) : State :=
  if !s.rfb (F.HST_PEER_WIN_CTL_commit n) then s
  else
    let s := { s with host := { s.host with oldWins := eraseKey s.host.oldWins n } }
    let s := (s.setF (F.HST_PEER_WIN_CTL_commit n) 0).raiseEs 76
    match s.findPend fun p => p.cmd.opcode = 0x0302 && p.cmd.p 0 % 4 = 2 && field (p.cmd.p 0) 21 16 = n with
    | some p => if p.note = [1] then s.winNext n p else s.finish p 0 0 []
    | none => s

/-- PEER_WIN_DRAINED (R162). -/
def execPeerWinDrained (window : Fin 64) (s : State) : Host.Outcome State Fault Refusal := .next (s.winDrained window.val)

/-! ## Link power (R150, R167, R168) -/

/-- The narrowest width of L0p in lanes. -/
def State.l0pMin (s : State) : Nat := 2 ^ s.rf F.HST_PM_CFG_l0p_min_width

/-- L0p may act: it is enabled and the link is up in flit mode (R150). -/
def State.l0pOn (s : State) : Bool :=
  s.mainOn && s.rfb F.HST_PM_CFG_l0p_enable && s.rfb F.HST_LINK_STATUS_link_up && s.rfb F.HST_LINK_STATUS_flit

/-- L0P_NARROW (R150): to the next narrower width. -/
def execL0pNarrow (s : State) : Host.Outcome State Fault Refusal :=
  let w := s.rf F.HST_LINK_STATUS_tx_width / 2
  .next (if s.l0pOn && 1 ≤ w && s.l0pMin ≤ w then (s.setF F.HST_LINK_STATUS_tx_width w).bump R.HST_L0P_CHANGES else s)

/-- L0P_WIDEN (R150): to the negotiated width. -/
def execL0pWiden (s : State) : Host.Outcome State Fault Refusal :=
  let w := s.rf F.HST_LINK_STATUS_neg_width
  .next (if s.l0pOn && s.rf F.HST_LINK_STATUS_tx_width < w then (s.setF F.HST_LINK_STATUS_tx_width w).bump R.HST_L0P_CHANGES else s)

/-- The ring engine of a queue is idle (R150): nothing is left to fetch, and what it fetched has completed. -/
def QCtx.idle (c : QCtx) : Bool := !(c.state = 1 || c.state = 2) || c.type ≥ 5 || (c.fi = c.pi && (c.type = 2 || c.taken.isEmpty))

/-- ASPM L1 may be requested (R150): it is enabled, no TLP is pending and no non-posted request outstanding, and every ring engine is idle. A tag in
quarantine stands for no request that is still outstanding (DESIGN CHOICE, log entry 59). -/
def State.l1Open (s : State) : Bool :=
  s.mainOn && !s.boot.perst && s.rfb F.HST_LINK_STATUS_link_up && s.host.l1Enabled
    && s.rf F.HST_PM_CFG_l1_idle_us != 0 && s.host.queued.isEmpty && (s.host.tags.all fun e => e.2.quarantined)
    && (s.queues.all fun e => e.2.idle) && s.dma.runs.isEmpty

/-- L1_REQUEST (R150): each is one L1 entry; the reported latency tolerance is 60 us (log entry 59). -/
def execL1Request (s : State) : Host.Outcome State Fault Refusal :=
  .next (if s.l1Open then ((s.bump R.HST_L1_ENTRIES).emit (.l1Request 60)) else s)

/-- The L0p values of a word for HST_PM_CFG are good (R167). -/
def l0pGood (v : Nat) : Bool :=
  let down := field v 27 20
  let up := field v 19 12
  field v 30 28 ≤ 4 && 1 ≤ down && down ≤ 99 && 2 ≤ up && up ≤ 100 && decide (down < up)

/-- HST_PM_CFG is written (R167). -/
def State.pmCfg (s : State) (v : Nat) : State :=
  if bitAt v 31 && !l0pGood v then (s.setReg R.HST_PM_CFG (v % 2 ^ 31)).setF F.HST_BLK_STATUS_reason 0x0105
  else s.setReg R.HST_PM_CFG v

/-- HST_PM_CFG_ENABLE (R167). -/
def execHstPmCfgEnable (mid : BitVec 13) (value : Word) (s : State) : Host.Outcome State Fault Refusal :=
  .next (s.gatedWrite mid.toNat R.HST_PM_CFG fun s => s.pmCfg value.toNat)

/-- HST_CPL_TIMEOUT is written (R168). -/
def State.cplCfg (s : State) (v : Nat) : State :=
  let us := field v 25 0
  let w := b2n (bitAt v 31) * 2 ^ 31 + us
  if bitAt v 31 && !(50 ≤ us && us ≤ 64000000) then (s.setReg R.HST_CPL_TIMEOUT us).setF F.HST_BLK_STATUS_reason 0x0106
  else s.setReg R.HST_CPL_TIMEOUT w

/-- HST_CPL_TIMEOUT_OVERRIDE (R168). -/
def execHstCplTimeoutOverride (mid : BitVec 13) (value : Word) (s : State) : Host.Outcome State Fault Refusal :=
  .next (s.gatedWrite mid.toNat R.HST_CPL_TIMEOUT fun s => s.cplCfg value.toNat)

end Sys2Proof.Machine
end

