-- ==== Sys2Proof/Machine/Instances.lean ====
section
/-! DEFINITION. Meanings of the instances' commands and events (R275 to R309). -/

namespace Sys2Proof.Machine

/-! ## Creation (R277, R284, R295, R296) -/

/-- The admin queue of instance i is created on the ring last set: Active where the instance is, Aborted otherwise (R280, R281). -/
def State.createAdmin (s : State) (i : Nat) : State :=
  let (k, s) := s.freeQid
  match k with
  | none => s
  | some q =>
    let s := s.makeHotRoom
    let v := s.inst i
    let c : QCtx := { startedQ {} with
      type := 1, sizeLog2 := v.adminLog2, iid := i, qgen := nextQgen (s.q q).qgen, base := v.adminBase, pasid := field v.adminPasid 31 12
      pasidEn := bitAt v.adminPasid 11, instGen := v.gen, state := if v.state = 2 then 1 else 3 }
    (s.setInst i { v with adminQid := q }).setQ q c

/-- INS_CREATE ends: the admin queue exists and the reply carries the generation (R284, R295). -/
def State.createDone (s : State) (i : Nat) : State × List Word :=
  let s := (s.createAdmin i).bump R.INS_CREATES
  (s, results [(s.inst i).gen * 2 ^ 16 + i, (s.inst i).adminQid])

/-- The refusals of the admin ring of parameter words 12 to 15 (R225, R296). -/
def Cmd.adminRing (c : Cmd) (s : State) : List (Bool × (Unit → Res)) :=
  let log2 := field (c.p 14) 23 16
  [(log2 < 6 || log2 > 16, fun _ => refuse s 0x0201), (c.p 12 % 4096 != 0, fun _ => refuse s 0x0202)]

/-- An instance with the admin ring of a command. -/
def Inst.withRing (v : Inst) (c : Cmd) : Inst :=
  { v with adminBase := c.p 12 + c.p 13 * 2 ^ 32, adminLog2 := field (c.p 14) 23 16, adminPasid := c.p 15 }

/-- WRONG_STATE of an instance command (R294). -/
def insState (s : State) (i : Nat) : Res := .bad s 0x20 0x0605 (results [(s.inst i).state])

/-- Instance i is created with the quota record and the ring that v carries (R277, R284, R295, R380, R383). Answers whether its generation
has incremented, and the result words. -/
def State.makeInst (s : State) (i : Nat) (v : Inst) : Bool × List Word × State :=
  let size := quotaMin v.quota 7
  let s := s.reserveRange i ((s.findRange size).getD 0) size
  let s := (s.setInst i { v with state := if s.bindOk i then 2 else 1 }).clsCreate i
  let (now, s) := s.incGen i .create
  if now then
    let (s, ws) := s.createDone i
    (true, ws, s)
  else (false, [], s)

/-- INS_CREATE (R295, R296). -/
def insCreateSpec : CmdSpec where
  opcode := 0x0100
  needs := fun _ => 16
  locks := fun _ c => [⟨.inst, c.target⟩]
  indirect := false
  noGen := true
  body := fun c s =>
    let i := c.target
    let v := s.inst i
    let q := c.params.take 12
    guards [((quotaRange q).isSome, fun _ => badP s ((quotaRange q).getD 0))] fun _ => c.checked s [(14, 0xFF0000), (15, 0xFFFFF800)] fun _ =>
      let first : List (Bool × (Unit → Res)) :=
        [(v.state != 0, fun _ => refuse s 0x0601), (quotaOrder q, fun _ => refuse s 0x0603)]
      let short : List (Bool × (Unit → Res)) := [((s.poolShort i q true).isSome, fun _ => .bad s 0x14 0 (results [(s.poolShort i q true).getD 0]))]
      guards (first ++ c.adminRing s ++ short) fun _ =>
        match s.makeInst i ({ v with quota := q }.withRing c) with
        | (true, ws, s) => .ok s ws
        | (false, _, s) => .pend s

/-- INS_CREATE (R295). -/
def execInsCreate (e : AdminEntry) (s : State) : Host.Outcome State Fault Refusal := .next (s.runCmd insCreateSpec e)

/-! ## Removal (R301 to R305) -/

/-- INS_DESTROY (R301, R302). -/
def insDestroySpec : CmdSpec where
  opcode := 0x0101
  needs := fun _ => 0
  locks := fun _ c => [⟨.inst, c.target⟩]
  indirect := false
  noGen := false
  body := fun c s =>
    let i := c.target
    let v := s.inst i
    guards [(i = 0, fun _ => refuse s 0x0604), (v.state = 0 || v.state = 5, fun _ => insState s i)] fun _ =>
      .pend ((s.setInst i { v with state := 5 }).incGen i .destroy).2

/-- INS_DESTROY (R302): the reset of step 1, and the rest once the increment has applied. -/
def execInsDestroy (e : AdminEntry) (s : State) : Host.Outcome State Fault Refusal :=
  let t := s.runCmd insDestroySpec e
  .next <|
    match t.findPend (fun p => p.cmd.opcode = 0x0101 && !s.cmds.pend.contains p) with
    | none => t
    | some p =>
      let i := p.cmd.target
      let t := t.hostFacing i
      (if (t.inst i).waits.contains .destroy then t else t.destroyRest i).undoStale

/-! ## Changes -/

/-- INS_RESET (R299). -/
def insResetSpec : CmdSpec where
  opcode := 0x0102
  needs := fun c => if bitAt (c.p 0) 0 then 16 else 1
  locks := fun _ c => [⟨.inst, c.target⟩]
  indirect := false
  noGen := false
  body := fun c s =>
    let new := bitAt (c.p 0) 0
    c.checked s ([(0, 1)] ++ if new then [(14, 0xFF0000), (15, 0xFFFFF800)] else []) fun _ =>
      let i := c.target
      let v := s.inst i
      guards ([(decide (i = 0), fun _ => refuse s 0x0604), (v.state = 0 || v.state = 1 || v.state = 5, fun _ => insState s i)]
          ++ if new then c.adminRing s else []) fun _ =>
        let s := if new then s.setInst i (v.withRing c) else s
        .pend (s.hostReset i false)

/-- INS_RESET (R299); HOST_FACING_RESET_END brings the final reply. -/
def execInsReset (e : AdminEntry) (s : State) : Host.Outcome State Fault Refusal := .next (s.runCmd insResetSpec e).undoStale

/-- A max field of a record lies below the instance's use (R294). -/
def State.quotaBelowUse (s : State) (i : Nat) (q : List Word) : Bool :=
  [1, 2, 3, 4, 5, 6, 8, 9].any fun k => decide (quotaMax q k < s.poolUse i k)

/-- INS_SET_QUOTA (R297). -/
def insSetQuotaSpec : CmdSpec where
  opcode := 0x0104
  needs := fun _ => 13
  locks := fun _ c => [⟨.inst, c.target⟩]
  indirect := false
  noGen := false
  body := fun c s =>
    let i := c.target
    let v := s.inst i
    let q := c.params.take 12
    guards [(i = 0, fun _ => refuse s 0x0604), ((quotaRange q).isSome, fun _ => badP s ((quotaRange q).getD 0)),
        (v.state = 0 || v.state = 5, fun _ => insState s i), (s.quotaBelowUse i q, fun _ => refuse s 0x0602),
        (quotaOrder q, fun _ => refuse s 0x0603), (decide (quotaMin q 7 != (s.rangeOf i).2), fun _ => refuse s 0x0606),
        ((s.poolShort i q false).isSome, fun _ => .bad s 0x14 0 (results [(s.poolShort i q false).getD 0]))] fun _ =>
      .ok ((s.setInst i { v with quota := q }).keeperSend i 0x03 0) []

/-- INS_SET_QUOTA (R297). -/
def execInsSetQuota (e : AdminEntry) (s : State) : Host.Outcome State Fault Refusal := .next (s.runCmd insSetQuotaSpec e)

/-- INS_QUERY (R298). -/
def insQuerySpec : CmdSpec where
  opcode := 0x0103
  needs := fun _ => 28
  locks := fun _ _ => []
  indirect := false
  noGen := false
  body := fun c s => .ok s (s.instRecord c.target)

/-- INS_QUERY (R298). -/
def execInsQuery (e : AdminEntry) (s : State) : Host.Outcome State Fault Refusal := .next (s.runCmd insQuerySpec e)

/-- INS_SUSPEND (R277, R300). -/
def insSuspendSpec : CmdSpec where
  opcode := 0x0105
  needs := fun _ => 0
  locks := fun _ c => [⟨.inst, c.target⟩]
  indirect := false
  noGen := false
  body := fun c s =>
    let i := c.target
    guards [(i = 0, fun _ => refuse s 0x0604), ((s.inst i).state != 2, fun _ => insState s i)] fun _ =>
      .pend ((s.setInst i { s.inst i with state := 3 }).stopQueues i)

/-- INS_SUSPEND (R300): what was in flight has ended within the step. -/
def execInsSuspend (e : AdminEntry) (s : State) : Host.Outcome State Fault Refusal :=
  let t := s.runCmd insSuspendSpec e
  .next <|
    match t.findPend (fun p => p.cmd.opcode = 0x0105 && !s.cmds.pend.contains p) with
    | some p => t.finish p 0 0 []
    | none => t

/-- INS_RESUME (R277, R300). -/
def insResumeSpec : CmdSpec where
  opcode := 0x0106
  needs := fun _ => 0
  locks := fun _ c => [⟨.inst, c.target⟩]
  indirect := false
  noGen := false
  body := fun c s =>
    let i := c.target
    guards [(i = 0, fun _ => refuse s 0x0604), ((s.inst i).state != 3, fun _ => insState s i)] fun _ =>
      .ok ((s.setInst i { s.inst i with state := 2 }).resumeServing i) []

/-- INS_RESUME (R300). -/
def execInsResume (e : AdminEntry) (s : State) : Host.Outcome State Fault Refusal := .next (s.runCmd insResumeSpec e)

/-! ## Events and registers -/

/-- HOST_FACING_RESET_END (R74 to R77, R277, R299). -/
def execHostFacingResetEnd (iid : Fin 2048) (s : State) : Host.Outcome State Fault Refusal := .next (s.hostResetEnd iid.val)

/-- GENERATION_INCREMENT_DUE (R284): 4 ms have passed since the last increment of an instance; the next that waits applies, and what
depends on it goes on. -/
def execGenerationIncrementDue (iid : Fin 2048) (s : State) : Host.Outcome State Fault Refusal :=
  let i := iid.val
  let v := s.inst i
  .next <|
    match v.waits with
    | [] => s.setInst i { v with recent := false }
    | w :: t =>
      let s := ((s.setInst i { v with waits := t }).bumpGen i).undoStale
      match w with
      | .plain => s
      | .destroy => s.destroyRest i
      | .create =>
        let (s, ws) := s.createDone i
        match s.findPend (fun p => p.cmd.opcode = 0x0100 && p.cmd.target = i) with
        | some p => s.finish p 0 0 ws
        | none => s

/-- INS_MGR_ADMIN_CFG is written (R308, R309). -/
def State.mgrAdmin (s : State) (v : Nat) : State :=
  let log2 := field v 23 16
  let base := s.reg R.INS_MGR_ADMIN_BASE_LO + s.reg R.INS_MGR_ADMIN_BASE_HI * 2 ^ 32
  if bitAt v 31 && s.rfb F.INS_MGR_ADMIN_CFG_active then s
  else
    let s := s.setF F.INS_MGR_ADMIN_CFG_ring_size_log2 log2
    if !bitAt v 31 then s.setF F.INS_MGR_ADMIN_CFG_enable 0
    else if log2 < 6 || log2 > 16 then (s.setF F.INS_MGR_ADMIN_CFG_enable 0).setF F.INS_MGR_ADMIN_CFG_reason 0x0201
    else
      let s := s.setInst 0 { s.inst 0 with adminBase := base, adminLog2 := log2, adminPasid := 0, aborted := false }
      let s := match s.adminQ 0 with
        | some q => (s.setInst 0 { s.inst 0 with adminQid := q }).startAdmin 0
        | none => s.createAdmin 0
      ((s.setF F.INS_MGR_ADMIN_CFG_enable 1).setF F.INS_MGR_ADMIN_CFG_active 1).setF F.INS_MGR_ADMIN_CFG_reason 0

/-- INS_MGR_ADMIN_ENABLE (R308, R309): the value written to INS_MGR_ADMIN_CFG. -/
def execInsMgrAdminEnable (mid : BitVec 13) (value : Word) (s : State) : Host.Outcome State Fault Refusal :=
  .next (s.gatedWrite mid.toNat R.INS_MGR_ADMIN_CFG fun s => s.mgrAdmin value.toNat)

/-- An instance's record is shown (R308). -/
def State.insSel (s : State) (i : Nat) : State :=
  let ws := s.instRecord i
  (List.range 28).foldl (fun s k => s.setReg (R.INS_REC_WORD k) (wd ws k)) ((s.setF F.INS_SEL_iid i).setF F.INS_SEL_busy 0)

/-- INS_SEL_WRITE (R308). -/
def execInsSelWrite (mid : BitVec 13) (iid : Fin 2048) (s : State) : Host.Outcome State Fault Refusal :=
  .next (s.gatedWrite mid.toNat R.INS_SEL fun s => s.insSel iid.val)

end Sys2Proof.Machine
end

