-- ==== Sys2Proof/Machine/OpsBlk.lean ====
section
/-! DEFINITION. The enable, check and lock of a block (R13 to R19, R124 to R126, R133, R268, R312, R781). -/

namespace Sys2Proof.Machine

/-- A block number of R13. -/
def blockKnown (b : Nat) : Bool := b ≤ 0x1A || b = 0x1F

/-- Window offsets of a block's BLK_CTL and BLK_STATUS (R14). -/
def blkCtl (b : Nat) : Nat := b * 2 ^ 20
def blkStatus (b : Nat) : Nat := b * 2 ^ 20 + 4

/-- Fields of a block's control and status. -/
def blkEnable (b : Nat) : FRef := ⟨blkCtl b, 0, 0⟩
def blkLock (b : Nat) : FRef := ⟨blkCtl b, 31, 31⟩
def blkReady (b : Nat) : FRef := ⟨blkStatus b, 0, 0⟩
def blkChecking (b : Nat) : FRef := ⟨blkStatus b, 1, 1⟩
def blkReason (b : Nat) : FRef := ⟨blkStatus b, 31, 16⟩

/-- Why the bindings of Buoy are refused (R268). -/
def State.bindFault (s : State) : Option Nat :=
  (List.range 64).findSome? fun c =>
    let a := s.rf (F.BUOY_BIND_mid_a c)
    let b := s.rf (F.BUOY_BIND_mid_b c)
    if !s.rfb (F.BUOY_BIND_valid c) then none
    else if a = b then some 0x0501
    else if !midAssigned a || !midAssigned b then some 0x0502
    else none

/-- Why a block's consistency check refuses (R124, R268, R312). No rule forbids a block's enable in a mode or names a claim that an enable
takes. -/
def State.blkFault (s : State) (b : Nat) : Option Nat :=
  if b = 0x05 then s.bindFault
  else if b = 0x07 then (if 4 ≤ s.rf F.MEM_PART_CFG_ovf_gib && s.rf F.MEM_PART_CFG_ovf_gib ≤ 64 then none else some 0x0701)
  else none

/-- The claims of a block are released (R133). -/
def State.dropBlock (s : State) (b : Nat) : State := s.dropClaims fun h => field h 28 24 = b

/-- enable is written 0 (R16, R133). -/
def State.blkOff (s : State) (b : Nat) : State := (((s.setF (blkEnable b) 0).setF (blkReady b) 0)).dropBlock b

/-- A write of BLK_CTL that is not held (R15, R16, R19, R781). -/
def State.blkApply (s : State) (b v : Nat) : State :=
  let s := if bitAt v 31 then s.setF (blkLock b) 1 else s
  if bitAt v 0 then (s.setF (blkEnable b) 1).setF (blkChecking b) 1 else s.blkOff b

/-- A write of BLK_CTL: held while the check runs, the last one only (R18). -/
def State.blkWrite (s : State) (b v : Nat) : State :=
  if s.rfb (blkChecking b) then { s with cmds := { s.cmds with heldCtl := insertKey s.cmds.heldCtl b v } }
  else s.blkApply b v

/-- The consistency check of a block gives its verdict (R15, R781). -/
def State.blkVerdict (s : State) (b : Nat) : State :=
  let s := s.setF (blkChecking b) 0
  match s.blkFault b with
  | none => ((s.setF (blkEnable b) 1).setF (blkReady b) 1).setF (blkReason b) 0
  | some r => (s.blkOff b).setF (blkReason b) r

/-- The check ends, and a write held meanwhile is applied (R15, R18). -/
def State.blkCheckEnd (s : State) (b : Nat) : State :=
  if !s.rfb (blkChecking b) then s
  else
    let held := lookup s.cmds.heldCtl b
    let s := { s with cmds := { s.cmds with heldCtl := eraseKey s.cmds.heldCtl b } }.blkVerdict b
    match held with
    | some v => s.blkApply b v
    | none => s

/-- Firmware enables and locks a block whose check accepts, at boot (R134, R312). -/
def State.blkBoot (s : State) (b : Nat) : State := (s.blkVerdict b).setF (blkLock b) 1

end Sys2Proof.Machine
end

