-- ==== Sys2Proof/Machine/OpsRec.lean ====
section
/-! DEFINITION. The boot record in MRAM (R58 to R60). -/

namespace Sys2Proof.Machine

/-- Copy k of the boot record (R58). -/
def State.bootCopy (s : State) (k : Nat) : List Word := Mem.words s.mem.mram (k * 0x1000) 16

/-- A copy of the boot record is valid: its magic is good and its CRC checks. -/
def bootValid (w : List Word) : Bool := wd w 0 = 0x4B5A4254 && wd w 15 = (crc32c (wordsBytes (w.take 15))).toNat

/-- Word 2 of the record in force, and whether a copy is valid (R60). -/
def State.bootInForce (s : State) : Nat × Bool :=
  let a := s.bootCopy 0
  let b := s.bootCopy 1
  match bootValid a, bootValid b with
  | true, false => (wd a 2, true)
  | false, true => (wd b 2, true)
  | false, false => (0, false)
  | true, true =>
    if later (wd a 1) (wd b 1) then (wd a 2, true)
    else if later (wd b 1) (wd a 1) then (wd b 2, true)
    else if (a.drop 2).take 13 == (b.drop 2).take 13 then (wd a 2, true) else (0, true)

/-- The boot record changes (R59): f is applied to word 2 of the record in force, and one copy is written. -/
def State.writeBoot (s : State) (f : Nat → Nat) : State :=
  let a := s.bootCopy 0
  let b := s.bootCopy 1
  let k := match bootValid a, bootValid b with
    | false, _ => 0
    | true, false => 1
    | true, true =>
      if later (wd a 1) (wd b 1) then 1 else if later (wd b 1) (wd a 1) then 0 else if wd b 1 > wd a 1 then 0 else 1
  let seqs := ([a, b].filter bootValid).map (wd · 1)
  let w := [w32 0x4B5A4254, w32 (nextSeq seqs), w32 (f s.bootInForce.1)] ++ List.replicate 12 0#32
  s.putMram (k * 0x1000) (wordsBytes (w ++ [crc32c (wordsBytes w)]))

end Sys2Proof.Machine
end

