-- ==== Sys2Proof/Machine/OpsSlot.lean ====
section
/-! DEFINITION. Operations on the downstream slots and the drives behind them (R171 to R175, R525). -/

namespace Sys2Proof.Machine

/-! ## Slot power (R171, R172) -/

/-- Slot PERST# of port p is asserted or released (R172). -/
def State.slotPerst (s : State) (p : Nat) (asserted : Bool) : State :=
  let rest := s.host.perstFree.filter (· != p)
  ({ s with host := { s.host with perstFree := if asserted then rest else p :: rest } }).emit (.slotPerst p asserted)

/-- The power-up of port p begins (R172, step 1). -/
def State.slotPowerOn (s : State) (p : Nat) : State := (s.emit (.slotPower p true)).slotPerst p true

/-- The drive of port p is a target of the storage path, or is one no more (R171). -/
def State.setTarget (s : State) (p : Nat) (on : Bool) : State :=
  let h := s.host
  { s with host := { h with
    targets := if on then p :: h.targets.filter (· != p) else h.targets.filter (· != p)
    failed := if on then h.failed.filter (· != p) else h.failed } }

/-- Slot power and indicators: the power goes off and PERST# is asserted, the indicators show what is given (0 keeps one); the storage path has the
drive no more. -/
def State.slotOff (s : State) (p pwr attn : Nat) : State :=
  let s := ((s.setF (F.DNP_SLOT_CTL_power_on p) 0).setF (F.DNP_SLOT_STATUS_power_good p) 0).setF (F.DNP_SLOT_STATUS_dll_active p) 0
  let s := s.setF (F.DNP_LINK_STATUS_dll_active p) 0
  let s := if pwr = 0 then s else s.setF (F.DNP_SLOT_CTL_pwr_ind p) pwr
  let s := if attn = 0 then s else s.setF (F.DNP_SLOT_CTL_attn_ind p) attn
  (((s.slotPerst p true).emit (.slotPower p false))).setTarget p false

/-- The link of port p goes down, if it is up. -/
def State.linkLost (s : State) (p : Nat) : State := if s.rfb (F.DNP_SLOT_STATUS_dll_active p) then s.slotLink p false else s

/-! ## Drives (R171, R174, R175, R525) -/

/-- The storage path may submit to the drive on port p: it is a target, and its removal has not begun (R171, R175). -/
def State.driveOpen (s : State) (p : Nat) : Bool := s.host.targets.contains p && s.slot p != .draining

/-- A drive's command ends with a status in place of the drive's answer: a trigger of kind 3. -/
def State.driveAnswer (s : State) (d : DriveCmd) (status : Nat) : State :=
  match s.conn d.conn with
  | none => s
  | some c => s.trigger c.group { kind := 3, conn := d.conn, status := status, cookie := d.cookie, gen := (s.inst c.owner).gen }

/-- A command is not submitted, since port p has no target: its entry completes as FAILED_TARGET (R174, R525; log entry 59). -/
def State.driveGone (s : State) (d : DriveCmd) : State :=
  let s := match d.entry with
    | some i => s.completeAt d.conn i [] 0x0211 0
    | none => s
  s.driveAnswer d 0x0211

/-- The connections that name the drive on port p. -/
def State.driveConns (s : State) (p : Nat) : List Nat :=
  (s.psq.conns.filter fun e => e.2.kind == .local && e.2.drivePort = p).map (·.1)

/-- Every command that the storage path holds for the drive on port p, submitted or not, completes on its ring as FAILED_TARGET (R174, R175,
R525). -/
def State.failHeld (s : State) (p : Nat) : State :=
  let mine := s.psq.drive.filter (·.port = p)
  let s := { s with psq := { s.psq with drive := s.psq.drive.filter (·.port != p) } }
  let s := mine.foldl (fun s d => s.driveAnswer d 0x0211) s
  (s.driveConns p).foldl (fun s c => (s.flushEntries c 0x0211).settleConn c) s

/-- The drive on port p is marked as a failed target, and what is held for it fails (R174). -/
def State.failDrive (s : State) (p : Nat) : State :=
  ({ s with host := { s.host with failed := p :: s.host.failed.filter (· != p) } }).failHeld p

/-! ## Containment (R173) -/

/-- DPC triggers on port p with a reason (R173): the link is disabled, slot PERST# is asserted, the drive fails on all but sw_trigger. A slot that is
Up or on its way out is Contained with its power off (R171); the table names no power indicator for it, and the model turns it off (DESIGN CHOICE,
log entry 59). In any other state of the slot the table has no row for a trigger, and the slot's state stays (log entry 59). -/
def State.dpc (s : State) (p reason source : Nat) : State :=
  let s := ((s.setF (F.DNP_DPC_STATUS_triggered p) 1).setF (F.DNP_DPC_STATUS_trigger_reason p) reason).setF
    (F.DNP_DPC_STATUS_source_id p) source
  let s := (((s.setF (F.DNP_SLOT_STATUS_dpc_triggered p) 1).bump (R.DNP_DPC_COUNT p)).raiseEs (83 + 4 * p)).linkLost p
  let s := if (s.slot p).live then (s.slotOff p 0b11 (if reason = 4 then 0b01 else 0)).setSlot p .contained else s.slotPerst p true
  if reason = 5 then s else s.failDrive p

end Sys2Proof.Machine
end

