-- ==== Sys2Proof/Machine/OpsMicro.lean ====
section
/-! DEFINITION. The sequencers: routines, microwords, port operations, traps and bank swaps (R496 to R510, R514). -/

namespace Sys2Proof.Machine

/-! ## Groups and banks (R502, R513, R514) -/

/-- Bank b of a group. -/
def Group.bank (v : Group) (b : Nat) : Ucode := lookupD v.banks b {}

/-- The routines of a sequencer, running, trapped or stopped. -/
def Sequencer.routines (v : Sequencer) : List Routine :=
  v.running.map (·.2) ++ v.slots.map (·.2.routine) ++ (match v.stopped with
    | some x => [x.1]
    | none => [])

/-- The bank on which sequencer q starts a routine (R514). -/
def State.startBank (s : State) (q : Nat) : Nat :=
  let g := s.group (q / 8)
  if g.swapping && g.switched.contains q then 1 - g.active else g.active

/-- The group index with which a MID-claim of a group's update lock is held (R514, R778). -/
def ucodeLock (g : Nat) : Nat := 0x04000001 + g

/-- A running swap of group g: sequencers with no routine between boundaries switch; when none uses the old bank, the swap ends, and with
the last group of its command the command (R514). -/
def State.settleSwap (s : State) (g : Nat) : State :=
  let v := s.group g
  if !v.swapping then s
  else
    let members := (List.range 8).map (8 * g + ·)
    let switched := members.filter fun q => v.switched.contains q || (s.seq q).retired || ((s.seq q).running.isEmpty && (s.seq q).stopped.isNone)
    let s := s.setGroup g { v with switched := switched }
    let old := members.any fun q => (s.seq q).routines.any (·.bank = v.active)
    if switched.length < 8 || old then s
    else
      let b := 1 - v.active
      let s := s.setGroup g { v with
        switched := [], swapping := false, active := b, started := true, banks := modifyKey v.banks v.active fun u => { u with staged := false } }
      let s := (s.writeBoot fun w => putField w (8 + g) (8 + g) b).dropClaim (ucodeLock g)
      match s.findPend (fun p => p.cmd.opcode = 0x0801 && bitAt (wd p.cmd.params 0) g) with
      | none => s
      | some p =>
        if (List.range 4).any fun k => bitAt (wd p.cmd.params 0) k && (s.group k).swapping then s else s.finish p 0 0 []

/-- Sequencer q passes a trap boundary (R514). -/
def State.trapBoundary (s : State) (q : Nat) : State :=
  let g := q / 8
  let v := s.group g
  if !v.swapping then s
  else (s.setGroup g { v with switched := q :: v.switched.filter (· != q) }).settleSwap g

/-! ## Traps (R508 to R510) -/

/-- The trap frame of a routine (R509). -/
def trapWords (r : Routine) (cause code : Nat) : List Word :=
  let l := fun k => r.link.getD k 0
  results ([cause * 2 ^ 24 + code * 2 ^ 16 + r.upc, r.flags * 2 ^ 16 + r.bank * 2 ^ 15 + r.link.length * 2 ^ 8 + r.kind * 2 ^ 4, r.conn,
      r.gen * 2 ^ 16 + r.iid] ++ (List.range 4).map (fun j => l (2 * j) + l (2 * j + 1) * 2 ^ 16))
    ++ r.g.flatMap (fun (x : Dword) => [x.setWidth 32, (x >>> 32).setWidth 32]) ++ List.replicate 56 0#32

/-- A trap of sequencer q is saved in a free slot, or stops the sequencer until one frees (R509). -/
def State.takeTrap (s : State) (q : Nat) (r : Routine) (cause code : Nat) : State :=
  let v := s.seq q
  let v := { v with running := eraseKey v.running r.conn }
  match (List.range 4).find? fun k => (lookup v.slots k).isNone with
  | none => s.setSeq q { v with stopped := some (r, cause, code) }
  | some k =>
    let s := s.setSeq q { v with slots := insertKey v.slots k { words := trapWords r cause code, routine := r } }
    let s := if cause = 3 then s.fault 0x0B (0x500 + q) 1 [] else s
    ((s.bump R.PSQ_TRAPS).raiseEs (352 + q)).trapBoundary q

/-- A slot of sequencer q is free: a routine that stands at a trap takes it (R509). -/
def State.slotFreed (s : State) (q : Nat) : State :=
  let v := s.seq q
  match v.stopped with
  | none => s
  | some (r, cause, code) => (s.setSeq q { v with stopped := none }).takeTrap q r cause code

/-- A routine as its trap frame resumes it (R510). -/
def resumed (t : TrapSlot) : Routine :=
  let r := t.routine
  let w := t.words
  { r with upc := field (wd w 0) 13 0, flags := field (wd w 1) 31 16 ||| 1,
           g := (List.range 32).map fun k => if k = 0 then 0#64 else BitVec.ofNat 64 (dwd w (8 + 2 * k)) }

/-- The connection of an aborted routine fails (R510). -/
def State.abortConn (s : State) (r : Routine) : State :=
  match s.conn r.conn with
  | none => s
  | some v =>
    match v.kind, r.entry with
    | .local, some e => (s.bump R.PSQ_CONN_FAILURES).completeAt r.conn e.index [] 0x0214 0
    | _, _ => s.connFail r.conn

/-- PSQ_TRAP_CTL go on a slot: the routine resumes or is aborted (R510); an empty slot is ignored. -/
def State.trapGo (s : State) (q slot : Nat) (abort : Bool) : State :=
  let s := (s.setF (F.PSQ_TRAP_CTL_slot q) slot).setF (F.PSQ_TRAP_CTL_action q) (b2n abort)
  let v := s.seq q
  match lookup v.slots slot with
  | none => s
  | some t =>
    let v := { v with slots := eraseKey v.slots slot }
    if abort then
      let r := t.routine
      ((((s.setSeq q v).dropFrame r.frame).abortConn r).slotFreed q).trapBoundary q |>.settleConn r.conn
    else
      let r := resumed t
      (s.setSeq q { v with running := insertKey v.running r.conn r }).slotFreed q

/-! ## Routines (R498 to R500, R507) -/

/-- A flag of a routine. -/
def Routine.flag (r : Routine) (k : Nat) : Bool := bitAt r.flags k

/-- A routine with a flag set or cleared. -/
def Routine.put (r : Routine) (k : Nat) (b : Bool) : Routine := { r with flags := putField r.flags k k (b2n b) }

/-- 64-bit registers that start with values left open. -/
def State.drawRegs (s : State) : Nat → List Dword × State
  | 0 => ([], s)
  | n + 1 =>
    let (v, s) := s.draw
    let (t, s) := s.drawRegs n
    (BitVec.ofNat 64 v :: t, s)

/-- The window of a connection's context, or the kind of state fault that its access meets (R497, R500, R508). -/
def State.context (s : State) (c : Nat) : Except Nat (List Byte) × State :=
  match s.reach internalSsid (connOff c) false with
  | (some k, _) => (.error k, s)
  | (none, s) => (.ok (s.ssBytes internalSsid (connOff c) 256), s)

/-- Trigger t may start a routine on a sequencer: its connection has none, is held by no trap, and its context does not wait for its page
(R498, R500, R509). -/
def State.triggerReady (s : State) (v : Sequencer) (t : Trigger) : Bool :=
  (lookup v.running t.conn).isNone && !v.trapped t.conn && !s.reachWaits internalSsid (connOff t.conn)

/-- Sequencer q takes the next trigger that may start a routine, where it is one of connection n, and starts it (R498, R500). What a
register or an ALU flag holds at the start is left open. -/
def State.startRoutine (s : State) (q n : Nat) : State :=
  let v := s.seq q
  let g := s.group (q / 8)
  if v.retired || v.stopped.isSome || !g.started || s.islandDown 37 then s
  else match v.queue.findIdx? (s.triggerReady v) with
    | none => s
    | some k =>
      match v.queue[k]? with
      | none => s
      | some t =>
        if t.conn != n then s else
        let b := s.startBank q
        let c := s.conn t.conn
        let owner := (c.map (·.owner)).getD 0
        let entry := c.bind (·.entries.head?)
        let (regs, s) := s.drawRegs 31
        let (f, s) := s.draw
        let (ctx, s) := s.context t.conn
        let flags := 1 + f % 64 * 2 + b2n t.frame.isSome * 2 ^ 7 + b2n entry.isSome * 2 ^ 8 + b2n (t.status = 0) * 2 ^ 9
          + b2n ((c.map (·.timer)).getD false) * 2 ^ 10 + f / 64 % 16 * 2 ^ 12
        let r : Routine := {
          conn := t.conn, kind := t.kind, bank := b, upc := (g.bank b).entries.getD t.kind 0, g := 0#64 :: regs, imm := f / 1024 % 65536
          flags := flags, ctx := ctx.toOption.getD [], ctxFault := (match ctx with
            | .error k => some k
            | .ok _ => none), frame := t.frame, entry := entry, iid := owner, gen := t.gen }
        s.setSeq q { v with queue := v.queue.eraseIdx k, running := insertKey v.running t.conn r }

/-- A routine of sequencer q ends (R507). Where the write-back of its context meets a state fault, the last microword traps with it
(R508). -/
def State.endRoutine (s : State) (q : Nat) (r : Routine) : State :=
  let (f, s) := if r.flag 11 && (s.conn r.conn).isSome then s.ssWrite internalSsid (connOff r.conn) r.ctx else (none, s)
  let v := s.seq q
  match f with
  | some k => s.takeTrap q { r with upc := v.upc } 4 k
  | none =>
    let s := (s.setSeq q { v with running := eraseKey v.running r.conn }).bump R.PSQ_ROUTINES
    let s := match r.frame with
      | some _ => (s.bump R.PSQ_END_DROPS).dropFrame r.frame
      | none => s
    (s.trapBoundary q).settleConn r.conn

/-! ## Port operations (R506) -/

/-- What a port operation leaves: the state, the routine, and a load for the end of the microword. -/
abbrev PortEnd := Except (Nat × Nat) (State × Routine × Option (Nat × Nat))

/-- A port operation's fields (R505). -/
structure PortOp where
  port : Nat
  sub : Nat
  off : Nat
  width : Nat
  reg : Nat

/-- The port operation of a nanoword word. -/
def portOf (w : Nat) : PortOp :=
  { port := field w 31 28, sub := field w 27 24, off := field w 23 16, width := 2 ^ field w 15 14, reg := field w 13 9 }

/-- Register k as the microword read it. -/
def Routine.reg (r : Routine) (k : Nat) : Nat := (r.g.getD (k % 32) 0#64).toNat

/-- The arguments of a posted operation. -/
def Routine.args (r : Routine) (k : Nat) : List Dword := (List.range 4).map fun i => r.g.getD ((k + i) % 32) 0#64

/-- The context port. -/
def ctxPort (s : State) (r : Routine) (o : PortOp) : PortEnd :=
  let a := o.off * 8
  match r.ctxFault with
  | some k => .error (4, k)
  | none =>
    if a + o.width > 256 then .error (6, 1)
    else match o.sub with
      | 0 => .ok (s, r, some (o.reg, leNat (slice r.ctx a o.width)))
      | 1 => .ok (s, ({ r with ctx := overwrite r.ctx a (leBytes o.width (r.reg o.reg)) }).put 11 true, none)
      | _ => .ok (s, r, none)

/-- The frame port. -/
def framePort (s : State) (r : Routine) (o : PortOp) : PortEnd :=
  match r.frame with
  | none => .error (6, 2)
  | some p =>
    let a := o.off * 8 + r.reg 31 % 65536
    let n := r.reg o.reg
    let room := classBytes (ptrClass p.ptr)
    let put := fun (s : State) (d : List Byte) => (.ok (s.storeBuf p.ptr d, { r with frame := some { p with data := d } }, none) : PortEnd)
    match o.sub with
    | 0 => if a + o.width > p.data.length then .error (6, 2) else .ok (s, r, some (o.reg, beNat (slice p.data a o.width)))
    | 1 => if a + o.width > p.data.length then .error (6, 2) else put s (overwrite p.data a (beBytes o.width n))
    | 2 =>
      if n > room then .error (6, 2)
      else
        let (bs, s) := s.drawBytes
        put s (if n ≤ p.data.length then p.data.take n else p.data ++ slice bs 0 (n - p.data.length))
    | 3 => if n > p.data.length then .error (6, 2) else put s (p.data.drop n)
    | 4 => if n + p.data.length > room then .error (6, 2) else put s (List.replicate n 0#8 ++ p.data)
    | _ => .ok (s, r, none)

/-- Words of an entry that its routine has stored, as a completion writes them. -/
def WorkEntry.writes (e : WorkEntry) : List (Nat × Word) := (e.stored.filter fun k => k != 0 && k != 3).map fun k => (k, w32 (wd e.words k))

/-- The entry port. -/
def entryPort (s : State) (r : Routine) (o : PortOp) : PortEnd :=
  let a := o.off * 8 + r.reg 31 % 65536
  if o.sub = 3 then
    let all := ((s.conn r.conn).map (·.entries)).getD []
    let next := match r.entry with
      | none => all.head?
      | some e => (all.dropWhile (·.index != e.index)).drop 1 |>.head?
    .ok (s, ({ r with entry := next }).put 8 next.isSome, none)
  else match r.entry with
    | none => .error (6, 3)
    | some e =>
      let bytes := wordsBytes e.words
      match o.sub with
      | 0 => if a + o.width > bytes.length then .error (6, 3) else .ok (s, r, some (o.reg, leNat (slice bytes a o.width)))
      | 1 =>
        if a + o.width > bytes.length then .error (6, 3)
        else
          let touched := (List.range e.words.length).filter fun k => a < 4 * k + 4 && 4 * k < a + o.width
          let e' := { e with words := bytesWords (overwrite bytes a (leBytes o.width (r.reg o.reg)))
                             stored := e.stored.filter (fun k => !touched.contains k) ++ touched }
          let s := match s.conn r.conn with
            | some c => s.setConn r.conn { c with entries := c.entries.map fun x => if x.index = e.index then e' else x }
            | none => s
          .ok (s, { r with entry := some e' }, none)
      | 2 =>
        let st := r.reg o.reg % 65536
        let s := s.completeAt r.conn e.index e.writes st (r.reg o.reg / 65536 % 65536)
        let qp := match s.conn r.conn with
          | some c => c.kind == .qp
          | none => false
        .ok (if st != 0 && qp then s.qpError r.conn else s, ({ r with entry := none }).put 8 false, none)
      | _ => .ok (s, r, none)

/-- A posted operation joins those in progress. -/
def State.post (s : State) (r : Routine) (o : PortOp) : State :=
  { s with psq := { s.psq with posted := s.psq.posted ++ [{ conn := r.conn, port := o.port, sub := o.sub, args := r.args o.reg, gen := r.gen }] } }

/-- The host and cipher ports: a count of 0 traps. -/
def postedPort (s : State) (r : Routine) (o : PortOp) : PortEnd :=
  let args := r.args o.reg
  if field (if o.port = 4 then (args.getD 2 0#64).toNat else (args.getD 3 0#64).toNat) 31 0 = 0 then .error (6, o.port)
  else if o.port = 4 then
    if o.sub > 3 then .ok (s, r, none)
    else if o.sub ≥ 2 && r.frame.isNone then .error (6, 4) else .ok (s.post r o, r, none)
  else .ok ((s.post r o).safQueue (field (args.getD 0 0#64).toNat 63 44) (.port r.conn r.gen args), r, none)

/-- The connection's timer. -/
def State.setTimer (s : State) (c : Nat) (b : Bool) : State :=
  match s.conn c with
  | some v => s.setConn c { v with timer := b }
  | none => s

/-- The emit port. -/
def emitPort (s : State) (q : Nat) (r : Routine) (o : PortOp) : PortEnd :=
  let gone := fun (r : Routine) => ({ r with frame := none }).put 7 false
  match o.sub, r.frame with
  | 0, some p => .ok (s.egress { p with leaf := r.reg o.reg % 65536, inst := r.iid, tx := none, lists := 0, reparses := 0, edits := {} }, gone r, none)
  | 1, some _ => .ok (s.dropFrame r.frame, gone r, none)
  | 2, _ =>
    let n := r.reg o.reg
    let s := s.dropFrame r.frame
    let (ptr, s) := s.allocBuf (0x830 + q / 8) n
    match ptr with
    | none => .ok (s, gone r, none)
    | some k =>
      let (bs, s) := s.drawBytes
      .ok (s, ({ r with frame := some { ptr := k, data := slice bs 0 n, source := 12, inst := r.iid, ts := s.now, tsUncertain := s.timeUncertain } }).put 7 true, none)
  | 0, none => .error (6, 7)
  | 1, none => .error (6, 7)
  | _, _ => .ok (s, r, none)

/-- The internal channel bound to a sequencer, and its side. -/
def State.seqChannel (s : State) (q : Nat) : Option (Nat × Bool) :=
  (List.range 64).findSome? fun c => (s.sideOf (.int c) (0x1020 + q)).map fun a => (c, a)

/-- The notify port. -/
def notifyPort (s : State) (q : Nat) (r : Routine) (o : PortOp) : PortEnd :=
  match o.sub with
  | 0 =>
    match s.conn r.conn with
    | some c => .ok (if c.send = 65536 then s else s.notify c.send (s.q c.send).accStatus (s.q c.send).accTag, r, none)
    | none => .ok (s, r, none)
  | 1 =>
    match s.seqChannel q with
    | some (c, a) => .ok (s.mailSend (.int c) a (r.reg o.reg), r, none)
    | none => .ok (s, r, none)
  | _ => .ok (s, r, none)

/-- The device port: an NVMe command goes to the drive of a local attachment. While the slot drains nothing is submitted, and the entry waits for the
drain's end (R175); where the port has no target the command fails (R174). -/
def devPort (s : State) (r : Routine) (o : PortOp) : PortEnd :=
  let a := field (r.reg o.reg) 39 0
  match (s.conn r.conn).filter (·.kind == .local) with
  | none => .ok (s, r, none)
  | some c =>
    if !physOk a 64 then .error (6, 9)
    else
      let d : DriveCmd := { port := c.drivePort, conn := r.conn, cookie := field (r.reg (o.reg + 3)) 63 48, entry := r.entry.map (·.index),
                            words := bytesWords (s.physRead a 64) }
      if s.driveOpen d.port then .ok (({ s with psq := { s.psq with drive := s.psq.drive ++ [d] } }).emit (.drive d.port d.words), r, none)
      else if s.host.targets.contains d.port then .ok (s, r, none)
      else .ok (s.driveGone d, r, none)

/-- A port operation of sequencer q. -/
def portStep (s : State) (q : Nat) (r : Routine) (o : PortOp) : PortEnd :=
  match o.port with
  | 1 => ctxPort s r o
  | 2 => framePort s r o
  | 3 => entryPort s r o
  | 4 => postedPort s r o
  | 5 => postedPort s r o
  | 6 =>
    let on := o.sub = 0
    if o.sub > 1 then .ok (s, r, none) else .ok (s.setTimer r.conn on, r.put 10 (on && (s.conn r.conn).isSome), none)
  | 7 => emitPort s q r o
  | 8 => notifyPort s q r o
  | 9 => devPort s r o
  | _ => .ok (s, r, none)

/-! ## Microwords (R503 to R505) -/

/-- The ALU's result: the value where it is stated, and the flags (R504, R505). -/
def alu (op a b flags : Nat) : Option Nat × Nat :=
  let m := 2 ^ 64
  let put := fun (f : Nat) (k : Nat) (v : Bool) => putField f k k (b2n v)
  let res := fun (x : Nat) (f : Nat) => (some x, put (put f 1 (x = 0)) 3 (bitAt x 63))
  match op with
  | 0 => res a flags
  | 1 => res ((a + b) % m) (put flags 2 (decide (a + b ≥ m)))
  | 2 => res ((a + m - b) % m) (put flags 2 (decide (a < b)))
  | 3 => res (a &&& b) flags
  | 4 => res (a ||| b) flags
  | 5 => res (a ^^^ b) flags
  | 6 => res ((a <<< (b % 64)) % m) flags
  | 7 => res (a >>> (b % 64)) flags
  | 8 => (none, put (put flags 4 (a = b)) 5 (decide (a < b)))
  | 9 =>
    let x := a % 2 ^ 24
    let y := b % 2 ^ 24
    (none, put (put flags 4 (x = y)) 6 (decide ((x + 2 ^ 24 - y) % 2 ^ 24 ≥ 2 ^ 23)))
  | 10 => res ((a + b) % 2 ^ 24) (put flags 2 (decide (a % 2 ^ 24 + b % 2 ^ 24 ≥ 2 ^ 24)))
  | 11 => res ((leBytes 8 b).foldl crcByte (w32 a)).toNat flags
  | 12 => res (min a b) flags
  | 13 => res (max a b) flags
  | 14 => res (beNat (leBytes 8 a)) flags
  | _ => (none, flags)

/-- A microword and its nanoword are illegal (R508). -/
def microIllegal (mw : Nat) (n : List Word) : Bool :=
  let imm := bitAt (wd n 0) 31
  !fits (wd n 0) 0xFFFFFE00 || !fits (wd n 1) 0xFFFFFE00 || !fits (wd n 2) 0xFFFFFE00 || wd n 3 != 0 || !fits (wd n 4) 0xFF000000
    || !fits (wd n 5) 0xC0FF0000 || wd n 6 != 0 || wd n 7 != 0 || field (wd n 0) 30 26 ≥ 16 || field (wd n 1) 31 28 ≥ 10
    || field (wd n 2) 31 28 ≥ 10 || (imm && field mw 20 16 != 0) || (!imm && field mw 15 14 = 3)

/-- Where a routine goes after a microword (R503): the micro-PC and the link stack, or a stack trap. -/
def microNext (mw : Nat) (imm : Bool) (r : Routine) : Except (Nat × Nat) (Nat × List Nat) :=
  let seq := (r.upc + 1) % 16384
  if imm || r.flag (field mw 19 16) == bitAt mw 20 then .ok (seq, r.link)
  else match field mw 15 14 with
    | 0 => .ok (field mw 13 0, r.link)
    | 1 => if r.link.length ≥ 8 then .error (5, 0) else .ok (field mw 13 0, r.link ++ [seq])
    | _ =>
      match r.link.getLast? with
      | some t => .ok (t, r.link.dropLast)
      | none => .error (5, 0)

/-- A register of a routine is written; g0 ignores writes. -/
def Routine.setReg (r : Routine) (k v : Nat) : Routine := if k = 0 then r else { r with g := r.g.set k (BitVec.ofNat 64 v) }

/-- One microword of a routine of sequencer q (R503, R505, R508): a trap's cause and code, or the state, the routine, and whether it
ends or traps explicitly. parity names a control-store parity failure of the microword or the nanoword. -/
def microword (s : State) (q : Nat) (r : Routine) (parity : Option Bool) : Except (Nat × Nat) (State × Routine × Bool × Option Nat) :=
  let bank := (s.group (q / 8)).bank r.bank
  let mw := wd bank.micro r.upc
  let n := bank.nano.getD (field mw 31 21) []
  match parity with
  | some nano => .error (3, b2n nano)
  | none =>
    if microIllegal mw n then .error (2, 0)
    else
      let imm := bitAt (wd n 0) 31
      let r0 := if imm then { r with imm := field mw 15 0 } else r
      let b := if bitAt (wd n 0) 15 then r0.imm else r0.reg (field (wd n 0) 20 16)
      match portStep s q r0 (portOf (wd n 1)) with
      | .error t => .error t
      | .ok (s, r1, ld1) =>
        match portStep s q { r1 with g := r0.g } (portOf (wd n 2)) with
        | .error t => .error t
        | .ok (s, r2, ld2) =>
          let (res, flags) := alu (field (wd n 0) 30 26) (r0.reg (field (wd n 0) 25 21)) b r2.flags
          let (v, s) := s.draw
          let r3 := { r2 with flags := flags }
          let r3 := if bitAt (wd n 0) 9 then r3.setReg (field (wd n 0) 14 10) (res.getD v) else r3
          let load := fun (r : Routine) (l : Option (Nat × Nat)) => match l with
            | some (k, x) => r.setReg k x
            | none => r
          let r3 := load (load r3 ld1) ld2
          let u := (field r3.flags 15 12 &&& (15 - field (wd n 4) 31 28)) ||| field (wd n 4) 27 24
          let r3 := { r3 with flags := putField r3.flags 15 12 u ||| 1 }
          match microNext mw imm r3 with
          | .error t => .error t
          | .ok (upc, link) =>
            .ok (s, { r3 with upc := upc, link := link }, bitAt (wd n 5) 31, if bitAt (wd n 5) 30 then some (field (wd n 5) 23 16) else none)

end Sys2Proof.Machine
end

