-- ==== Sys2Proof/Machine/Slots.lean ====
section
/-! DEFINITION. Meanings of the downstream ports' events and registers (R169 to R177). -/

namespace Sys2Proof.Machine

/-- The port is contained with its power removed (R171, R173): by DPC where it is enabled; otherwise the slot loses its drive, whose commands fail
(R525), and nothing is recorded as a trigger. A trigger for an error message or a power fault counts against the port (R720). -/
def State.contain (s : State) (p reason source : Nat) : State :=
  if s.rfb (F.DNP_DPC_CTL_enable p) then
    let s := s.dpc p reason source
    if reason = 1 || reason = 2 || reason = 4 then s.fault 0x11 (0x800 + p) 1 [reason, source] else s
  else if (s.slot p).live then (((s.slotLink p false).slotOff p 0 (if reason = 4 then 0b01 else 0)).setSlot p .contained).failDrive p
  else s

/-- A downstream port may power its slot: a port that is retired or under test holds it Off (R724, R743). -/
def State.portOn (s : State) (p : Nat) : Bool := s.mainOn && !s.isOut (0x800 + p)

/-- SLOT_PRESENCE_CHANGE (R171, R173): presence lost while the drive runs is a surprise down. -/
def execSlotPresenceChange (port : Fin 4) (present : Bool) (s : State) : Host.Outcome State Fault Refusal :=
  let p := port.val
  .next <|
    if !s.mainOn || s.rfb (F.DNP_SLOT_STATUS_presence p) = present then s
    else
      let s := (s.setF (F.DNP_SLOT_STATUS_presence p) (b2n present)).setF (F.DNP_SLOT_STATUS_presence_changed p) 1
      let s := if s.rfb (F.DNP_SLOT_CTL_presence_int_en p) then s.raiseEs (80 + 4 * p) else s
      match s.slot p with
      | .empty => if present then s.setSlot p .off else s
      | .off => if present then s else s.setSlot p .empty
      | .up | .removal | .draining => if present then s else s.contain p 3 0
      | _ => s

/-- Why power_on is refused (R176). R176 gives its three cases no order: 0x1A01 is looked at first, then 0x1A02 and 0x1A03 (DESIGN CHOICE, log
entry 59). -/
def State.powerOnFault (s : State) (p : Nat) : Option Nat :=
  if !s.rfb (F.DNP_SLOT_STATUS_presence p) then some 0x1A01
  else if s.rfb (F.DNP_DPC_STATUS_triggered p) then some 0x1A02
  else if s.rfb (F.DNP_SLOT_STATUS_power_fault p) then some 0x1A03
  else none

/-- power_on is written 1 on a slot (R171, R176): Off goes to Powering. -/
def State.powerOn (s : State) (p : Nat) : State :=
  match s.powerOnFault p with
  | some r => (s.setF (F.DNP_SLOT_CTL_power_on p) 0).setF (F.DNP_SLOT_STATUS_reason p) r
  | none =>
    let s := s.setF (F.DNP_SLOT_CTL_power_on p) 1
    if s.slot p == .off && !s.isOut (0x800 + p) then (s.slotPowerOn p).setSlot p .powering else s

/-- DNP_SLOT_CTL_p is written: its indicators and enables, then power_on (R171, R176). -/
def State.slotCtl (s : State) (p v : Nat) : State :=
  let old := s.reg (R.DNP_SLOT_CTL p)
  let s := s.setReg (R.DNP_SLOT_CTL p) ((v &&& 0x78F) + (old &&& 0x40))
  if bitAt v 6 then s.powerOn p else s.setF (F.DNP_SLOT_CTL_power_on p) 0

/-- SLOT_POWER_ON (R176). -/
def execSlotPowerOn (mid : BitVec 13) (port : Fin 4) (value : Word) (s : State) : Host.Outcome State Fault Refusal :=
  .next (s.gatedWrite mid.toNat (R.DNP_SLOT_CTL port.val) fun s => s.slotCtl port.val value.toNat)

/-- SLOT_POWER_GOOD (R171, R172): slot PERST# is released, unless DPC holds it (R173). -/
def execSlotPowerGood (port : Fin 4) (s : State) : Host.Outcome State Fault Refusal :=
  let p := port.val
  .next (if s.portOn p && s.slot p == .powering then
      let s := (s.setF (F.DNP_SLOT_STATUS_power_good p) 1).setSlot p .training
      if s.rfb (F.DNP_DPC_STATUS_triggered p) then s else s.slotPerst p false
    else s)

/-- A power fault is latched (R171, ES 82 + 4p). -/
def State.latchPower (s : State) (p : Nat) : State :=
  let s := s.setF (F.DNP_SLOT_STATUS_power_fault p) 1
  if s.rfb (F.DNP_SLOT_CTL_pwr_fault_int_en p) then s.raiseEs (82 + 4 * p) else s

/-- SLOT_POWER_GOOD_TIMEOUT (R171). -/
def execSlotPowerGoodTimeout (port : Fin 4) (s : State) : Host.Outcome State Fault Refusal :=
  let p := port.val
  .next (if s.mainOn && s.slot p == .powering then ((s.latchPower p).slotOff p 0 0b01).setSlot p .off else s)

/-- SLOT_LINK_ACTIVE (R171, R172): the rate and width as the link trained, which takes slot PERST# released; the drive is reported to the storage path,
and Keeper's first configuration request follows. -/
def execSlotLinkActive (port : Fin 4) (rate : BitVec 4) (width : BitVec 5) (s : State) : Host.Outcome State Fault Refusal :=
  let p := port.val
  .next <|
    if s.portOn p && s.slot p == .training && s.host.perstFree.contains p && 1 ≤ rate.toNat && rate.toNat ≤ 5 && [1, 2, 4].contains width.toNat then
      let s := (s.setF (F.DNP_LINK_STATUS_rate p) rate.toNat).setF (F.DNP_LINK_STATUS_width p) width.toNat
      ((((s.slotLink p true).setF (F.DNP_SLOT_CTL_pwr_ind p) 0b01).setSlot p .up).setTarget p true).emit (.driveConfig p)
    else s

/-- SLOT_TRAINING_TIMEOUT (R171). -/
def execSlotTrainingTimeout (port : Fin 4) (s : State) : Host.Outcome State Fault Refusal :=
  let p := port.val
  .next (if s.mainOn && s.slot p == .training then (s.slotOff p 0 0b10).setSlot p .off else s)

/-- ATTENTION_BUTTON (R171). -/
def execAttentionButton (port : Fin 4) (s : State) : Host.Outcome State Fault Refusal :=
  let p := port.val
  .next <|
    if !s.mainOn then s
    else
      let s := s.setF (F.DNP_SLOT_STATUS_button_pressed p) 1
      let s := if s.rfb (F.DNP_SLOT_CTL_button_int_en p) then s.raiseEs (81 + 4 * p) else s
      match s.slot p with
      | .up => (s.setF (F.DNP_SLOT_CTL_pwr_ind p) 0b10).setSlot p .removal
      | .removal => (s.setF (F.DNP_SLOT_CTL_pwr_ind p) 0b01).setSlot p .up
      | _ => s

/-- REMOVAL_TIMEOUT (R171, R175): the storage path stops submitting and waits for the drive. -/
def execRemovalTimeout (port : Fin 4) (s : State) : Host.Outcome State Fault Refusal :=
  let p := port.val
  .next (if s.mainOn && s.slot p == .removal then s.setSlot p .draining else s)

/-- REMOVAL_DRAIN_END (R171, R175): what the drive still holds completes as failed, and power is removed. -/
def execRemovalDrainEnd (port : Fin 4) (s : State) : Host.Outcome State Fault Refusal :=
  let p := port.val
  .next (if s.mainOn && s.slot p == .draining then (((s.failHeld p).slotLink p false).slotOff p 0b11 0b11).setSlot p .off else s)

/-- SLOT_POWER_FAULT (R171, R173). -/
def execSlotPowerFault (port : Fin 4) (s : State) : Host.Outcome State Fault Refusal :=
  let p := port.val
  .next <|
    if !s.mainOn then s
    else (s.latchPower p).contain p 4 0

/-- DPC_ERR_MESSAGE (R173, R720): severity 0 ERR_COR, 1 ERR_NONFATAL, 2 ERR_FATAL. -/
def execDpcErrMessage (port : Fin 4) (severity : Fin 3) (source : BitVec 16) (s : State) : Host.Outcome State Fault Refusal :=
  let p := port.val
  .next <|
    if !s.mainOn then s
    else if severity.val = 0 then (s.bump (R.DNP_AER_CORR p)).fault 0x10 (0x800 + p) 0 [source.toNat]
    else if s.rfb (F.DNP_DPC_CTL_enable p) && (severity.val = 2 || s.rfb (F.DNP_DPC_CTL_trigger_on_nonfatal p)) then
      s.contain p severity.val source.toNat
    else s

/-- SURPRISE_DOWN (R173): the link goes down while the slot is Up or on its way out. -/
def execSurpriseDown (port : Fin 4) (s : State) : Host.Outcome State Fault Refusal :=
  let p := port.val
  .next (if s.mainOn && (s.slot p).live then s.contain p 3 0 else s)

/-- DNP_DPC_CTL_p is written (R173). -/
def State.dpcCtl (s : State) (p v : Nat) : State :=
  let s := s.setReg (R.DNP_DPC_CTL p) (v % 4)
  if bitAt v 2 && bitAt v 0 then s.contain p 5 0 else s

/-- DPC_SW_TRIGGER (R173). -/
def execDpcSwTrigger (mid : BitVec 13) (port : Fin 4) (value : Word) (s : State) : Host.Outcome State Fault Refusal :=
  .next (s.gatedWrite mid.toNat (R.DNP_DPC_CTL port.val) fun s => s.dpcCtl port.val value.toNat)

/-- DNP_DPC_STATUS_p is written: 1 in triggered releases a contained port (R171). -/
def State.dpcStatus (s : State) (p v : Nat) : State :=
  if !bitAt v 31 then s
  else
    let s := (s.setF (F.DNP_DPC_STATUS_triggered p) 0).setF (F.DNP_SLOT_STATUS_dpc_triggered p) 0
    if s.slot p == .contained then s.setSlot p (if s.rfb (F.DNP_SLOT_STATUS_presence p) then .off else .empty) else s

/-- DPC_RELEASE (R171). -/
def execDpcRelease (mid : BitVec 13) (port : Fin 4) (value : Word) (s : State) : Host.Outcome State Fault Refusal :=
  .next (s.gatedWrite mid.toNat (R.DNP_DPC_STATUS port.val) fun s => s.dpcStatus port.val value.toNat)

/-- DRIVE_REQUEST (R170): a request outside the granted windows is discarded, or completed UR. -/
def execDriveRequest (port : Fin 4) (addr : BitVec 40) (bytes : BitVec 13) (access : PeerAccess) (s : State) :
    Host.Outcome State Fault Refusal :=
  let p := port.val
  let n := access.count bytes.toNat
  .next <|
    if !s.mainOn || !(s.slot p).live then s
    else if Config.driveWindow p addr.toNat n && decide (addr.toNat + n ≤ 248 * 2 ^ 30) && !s.tableMeets addr.toNat n then
      match access with
      | .write bs => { s with mem := { s.mem with ddr := Mem.write s.mem.ddr addr.toNat bs } }
      | .read ecc => s.peerRead addr.toNat n ecc
    else
      let s := s.bump (R.DNP_UPSTREAM_BAD p)
      if access.isWrite then s else s.emit (.driveUr p)

end Sys2Proof.Machine
end

