-- ==== Sys2Proof/Machine/OpsOut.lean ====
section
/-! DEFINITION. Resources taken out of service and brought back, for retirement and for test (R317, R469, R529, R595, R676, R687,
R719 to R727, R740 to R745). -/

namespace Sys2Proof.Machine

/-! ## Effects on the resources (R724, R743) -/

/-- Channel c goes out (R317, R318): every page homed on it, or about to be, gets another home, or is lost. -/
def State.chanLeave (s : State) (c : Nat) : State :=
  let on := fun (h : Home) => h.frame.any fun f => f % 32 = c
  let homed := (s.pgr.pages.filter fun e => on e.2.home).map (·.1)
  let bound := (s.pgr.pages.filter fun e => e.2.reserve.any on).map (·.1)
  let (lost, s) := ((s.cancelMoves bound).moveTables (· % 32 = c)).reserveMoves (·.takeOther none) (bound ++ homed.filter fun k => !bound.contains k)
  let gone := lost.filter homed.contains
  (gone.foldl (fun s k => (s.poisonPage k).bump R.PGR_LOST_PAGES) s).startMove

/-- No page is homed on channel c any more. -/
def State.chanClear (s : State) (c : Nat) : Bool := s.pgr.pages.all fun e => e.2.poisoned || e.2.home.frame.all fun f => f % 32 != c

/-- A routine is aborted as by action 1 of R510. -/
def State.routineAbort (s : State) (r : Routine) : State := ((s.dropFrame r.frame).abortConn r).settleConn r.conn

/-- Sequencer q goes out (R529): the routines in its trap slots are aborted, its queued triggers move; with it the last of a group, every
connection of the group fails. -/
def State.seqLeave (s : State) (q : Nat) : State :=
  let v := s.seq q
  let g := q / 8
  let held := v.slots.map (·.2.routine) ++ (match v.stopped with
    | some x => [x.1]
    | none => [])
  let s := s.setSeq q { v with retired := true, slots := [], stopped := none, queue := [] }
  let s := held.foldl State.routineAbort s
  let s := if (s.seqFor g 0).isSome then s
    else ((s.psq.conns.filter fun e => e.2.group = g).map (·.1)).foldl State.connFail s
  let s := v.queue.foldl (fun s t => if (s.seqFor g 0).isSome then s.trigger g t else s.dropFrame t.frame) s
  if (s.seqFor g 0).isSome then s else s.purgeRequester (0x830 + g) []

/-- A downstream port retires (R724): DPC as by sw_trigger, slot power removed, the drive's commands fail. -/
def State.portLeave (s : State) (p : Nat) : State :=
  let s := if (s.slot p).live then s.dpc p 5 0 else s.slotOff p 0 0
  let s := if s.slot p == .powering || s.slot p == .training then s.setSlot p .off else s
  s.failHeld p

/-- What taking resource r out of service does; it stands in the lists already. Under test a region is left as it is and a Keeper pair
is held (R743). -/
def State.takeOut (s : State) (r : Nat) (retiring : Bool) : State :=
  let i := resIndex r
  match resKind r with
  | 1 => s.setLane i false
  | 2 => s.sparRelane (i / 2)
  | 3 => s.chanLeave i
  | 4 => if (s.cl (i / 8)).retired.contains (i % 8) then s else s.retireCore (i / 8) (i % 8)
  | 5 => if (s.seq i).retired then s else s.seqLeave i
  | 6 => if retiring then s.lanRetire i else s
  | 7 => (if i = s.activePair then s.handOver else if s.boot.activation.running && !s.boot.activation.faulted then s.endActivation 0x20 0x000A else s).setPair i .held
  | 8 => if retiring then s.portLeave i else s
  | 11 => s.mgpLink false
  | _ => s

/-- Core c of cluster k is back: its threads are Free. -/
def State.coreBack (s : State) (k c : Nat) : State :=
  let v := s.cl k
  (s.setCl k { v with retired := v.retired.filter (· != c), threads := v.threads.filter fun e => e.1 / 16 != c }).clvSettle k

/-- A retired region is back: Empty where it is assigned, Unassigned otherwise (R676). -/
def State.regionBack (s : State) (i : Nat) : State :=
  if (s.region i).state != 8 then s
  else s.lanEnter i (if (lookup s.pgr.ranges (0x800 + i)).isSome then 1 else 0)

/-- A resource is back in service under its own chapter (R727, R744); it stands in the lists no more. -/
def State.putBack (s : State) (r : Nat) : State :=
  let i := resIndex r
  match resKind r with
  | 1 => s.setLane i true
  | 2 => s.sparRelane (i / 2)
  | 4 => s.coreBack (i / 8) (i % 8)
  | 5 => s.setSeq i { s.seq i with retired := false }
  | 6 => s.regionBack i
  | 7 => s.rebootPair i
  | _ => s

/-! ## Tests (R740 to R745) -/

/-- A test resource identifier is defined (R740). -/
def testKnown (r : Nat) : Bool := resKnown r || (r / 256 = 9 && r % 256 < 16) || (r / 256 = 10 && r % 256 < 16) || r = 0xB00

/-- The test lane number of a resource (R740). -/
def testLane (r : Nat) : Option Nat :=
  let i := r % 256
  match r / 256 with
  | 1 => some i
  | 2 => some (8 + i)
  | 9 => some (16 + i)
  | 10 => some (32 + i)
  | 11 => some 48
  | _ => none

/-- The claim of a resource under test (R129, R740). -/
def testClaim (r : Nat) : Nat := 0x06000000 + r

/-- A checker's counts go on while it counts: by how much is left open (R747; log entry 2). -/
def State.runChecker (s : State) (n : Nat) : State :=
  if !s.rfb (F.TST_LANE_STATUS_counting n) then s
  else
    let (b, s) := s.draw
    let (e, s) := s.draw
    let bits := b % 2 ^ 48
    let sum := fun (lo hi k : Nat) => min (s.reg lo + s.reg hi * 2 ^ 32 + k) (2 ^ 64 - 1)
    let nb := sum (R.TST_BITS_LO n) (R.TST_BITS_HI n) bits
    let ne := sum (R.TST_ERRORS_LO n) (R.TST_ERRORS_HI n) (e % (bits + 1))
    (((s.setReg (R.TST_BITS_LO n) (nb % 2 ^ 32)).setReg (R.TST_BITS_HI n) (nb / 2 ^ 32)).setReg (R.TST_ERRORS_LO n) (ne % 2 ^ 32)).setReg
      (R.TST_ERRORS_HI n) (ne / 2 ^ 32)

/-- The pattern and the loopback of a lane stop (R744). -/
def State.stopLane (s : State) (n : Nat) : State :=
  let s := s.runChecker n
  let s := ((s.setF (F.TST_LANE_CTL_gen_en n) 0).setF (F.TST_LANE_CTL_chk_en n) 0).setF (F.TST_LANE_CTL_loopback n) 0
  (s.setF (F.TST_LANE_STATUS_counting n) 0).setF (F.TST_LANE_STATUS_lock n) 0

/-- The test of a resource ends (R725, R744, R745): its pattern stops and its claim is released; the last one leaves Maintenance. -/
def State.endTest (s : State) (r : Nat) : State :=
  if !s.tst.underTest.contains r then s
  else
    let s := match testLane r with
      | some n => (s.stopLane n).setF (F.TST_LANE_STATUS_under_test n) 0
      | none => s
    let s := ({ s with tst := { s.tst with underTest := s.tst.underTest.filter (· != r) } }).dropClaim (testClaim r)
    if s.tst.underTest.isEmpty then s.modeEvent .tested else s

/-! ## Retirement (R722, R725) -/

/-- The active pair retires only when the other can take over in order (R724). -/
def State.canStart (s : State) (r : Nat) : Bool :=
  resKind r != 7 || resIndex r != s.activePair || (s.pair (1 - s.activePair) == .ready && !s.boot.fatalWaits)

/-- The retirement of resource r starts (R725). -/
def State.retireBegin (s : State) (r : Nat) : State :=
  let s := ({ s with ras := { s.ras with running := s.ras.running ++ [r] } }).showRetired
  let s := s.endTest r
  let s := match s.findPend fun p => p.cmd.opcode = 0x0F00 && p.cmd.p 0 % 65536 = r with
    | some p => s.finish p 0x20 0x1802 []
    | none => s
  let s := s.log 2 { block := resBlock r, res := r }
  (((s.takeOut r true).modeEvent .retire).foghorn 0)

/-- The first retirement of a kind that waits starts, where none of its kind runs (R725). -/
def State.retireNext (s : State) (kind : Nat) : State :=
  if s.ras.running.any (resKind · = kind) then s
  else match s.ras.queued.find? (resKind · = kind) with
    | none => s
    | some r =>
      if !s.canStart r then s
      else
        let s := { s with ras := { s.ras with queued := s.ras.queued.filter (· != r) } }
        if s.retireAllowed r then s.retireBegin r else s.holdAtLimit r

/-- What a running retirement waits for has come about. -/
def State.retireDone (s : State) (r : Nat) : Bool :=
  let i := resIndex r
  match resKind r with
  | 3 => s.chanClear i
  | 5 => (s.seq i).running.isEmpty
  | _ => true

/-- Placements under test that have taken effect and run no self-test answer (R741). -/
def State.settlePlaced (s : State) : State :=
  (s.cmds.pend.filter fun p => p.cmd.opcode = 0x0F00 && !bitAt (p.cmd.p 0) 16 && s.retireDone (p.cmd.p 0 % 65536)).foldl
    (fun s p => (s.finish p 0 0 (results [0])).raiseEs 502) s

/-- A running retirement ends (R725, R726): its record, ES 33, its command, and the next of its kind. -/
def State.retireFinish (s : State) (r : Nat) : State :=
  if !s.ras.running.contains r || !s.retireDone r then s
  else
    let s := { s with ras := { s.ras with running := s.ras.running.filter (· != r), retired := s.ras.retired ++ [r] } }
    let s := s.showRetired.retireEnded r
    let s := match s.findPend fun p => p.cmd.opcode = 0x0E01 && p.cmd.p 0 % 65536 = r with
      | some p => s.finish p 0 0 []
      | none => s
    s.retireNext (resKind r)

/-- A kind has dropped below its limit: the first resource held in service by it retires at once (R725). -/
def State.releaseHold (s : State) (kind : Nat) : State :=
  match s.ras.limitHold.find? fun r => resKind r = kind && s.retireAllowed r with
  | none => s
  | some r =>
    let s := { s with ras := { s.ras with limitHold := s.ras.limitHold.filter (· != r), queued := r :: s.ras.queued } }
    s.retireNext kind

/-- A retired resource returns to service after its self-test has passed (R727). -/
def State.restored (s : State) (r : Nat) : State :=
  let s := ({ s with ras := { s.ras with retired := s.ras.retired.filter (· != r) } }).showRetired
  let s := ((s.putBack r).setCounter r 0).log 4 { block := resBlock r, res := r }
  let s := (s.raiseEs 36).bump R.RAS_RESTORES
  let s := if s.anyRetired then s else s.modeEvent .returned
  s.releaseHold (resKind r)

end Sys2Proof.Machine
end

