-- ==== Sys2Proof/Machine/OpsProto.lean ====
section
/-! DEFINITION. The protocols of the shipped microcode: RoCEv2, NVMe over TCP and RoCEv2, local block service (R515 to R525). -/

namespace Sys2Proof.Machine

/-! ## Memory regions and segments (R518, R520, R521) -/

/-- The region that a key names, where index and variant are good (R526). -/
def State.region? (s : State) (key : Nat) : Option MemRegion :=
  if key / 2 ^ 28 != 0 then none else (lookup s.psq.regions (field key 27 8)).filter fun m => m.variant = key % 256 && m.valid

/-- A local key names a region of the owner, with local write where it is needed (R521). -/
def State.lkeyOk (s : State) (owner key : Nat) (write : Bool) : Bool :=
  match s.region? key with
  | some m => m.owner = owner && (!write || bitAt m.rights 0)
  | none => false

/-- A remote key grants an access to a range (R518): bit 1 of rights is remote read, bit 2 remote write. -/
def State.rkeyOk (s : State) (owner key addr bytes bit : Nat) : Bool :=
  match s.region? key with
  | some m => m.owner = owner && bitAt m.rights bit && m.addr ≤ addr && addr + bytes ≤ m.addr + m.bytes
  | none => false

/-- The PASID under which host memory is reached through a key of an instance (R526). -/
def State.keyPasid (s : State) (inst key : Nat) : Option Nat :=
  match (s.region? key).filter (·.owner = inst) with
  | some m => if bitAt m.pasid 0 then some (m.pasid / 2) else none
  | none => none

/-- A segment of an entry: address, bytes, key. -/
abbrev Seg := Nat × Nat × Nat

/-- The segments that stand at a word of an entry. -/
def segsAt (words : List Word) (n base : Nat) : List Seg :=
  (List.range n).map fun k => (dwd words (base + 4 * k), wd words (base + 2 + 4 * k), wd words (base + 3 + 4 * k))

/-- The segments of an RDMA entry (R520). -/
def rdmaSegs (words : List Word) : List Seg := segsAt words (wd words 8 % 256) 12

/-- The segments of an NVMe or block entry (R523), which name no key. -/
def nvmeSegs (words : List Word) : List Seg := (segsAt words (wd words 20 % 256) 24).map fun x => (x.1, x.2.1, 2 ^ 32)

/-- Bytes placed into segments from an offset: host writes, in order. -/
def State.scatter (s : State) (inst : Nat) : List Seg → Nat → List Byte → State
  | [], _, _ => s
  | (a, n, k) :: t, off, bs =>
    if bs.isEmpty then s
    else if off ≥ n then s.scatter inst t (off - n) bs
    else (s.emit (.hostWrite inst (s.keyPasid inst k) (a + off) (bs.take (n - off)))).scatter inst t 0 (bs.drop (n - off))

/-- Bytes that the segments hold. -/
def segTotal (segs : List Seg) : Nat := segs.foldl (fun n x => n + x.2.1) 0

/-! ## Connections -/

/-- Parameter word n of a connection's last commands. -/
def Conn.par (v : Conn) (n : Nat) : Nat := (lookupD v.params n 0#32).toNat

/-- The path MTU (R526). -/
def Conn.mtu (v : Conn) : Nat := 128 * 2 ^ (v.par 1 % 8)

/-- s with connection c changed by f. -/
def State.modConn (s : State) (c : Nat) (f : Conn → Conn) : State :=
  match s.conn c with
  | some v => s.setConn c (f v)
  | none => s

/-- a is not after b in 24-bit serial order. -/
def le24 (a b : Nat) : Bool := decide ((b + 2 ^ 24 - a) % 2 ^ 24 < 2 ^ 23)

/-- a + n modulo 2^24. -/
def add24 (a n : Nat) : Nat := (a + n) % 2 ^ 24

/-- The rate of the port on which a connection sends. -/
def State.connPortKbps (s : State) (v : Conn) : Nat :=
  match s.node v.leaf with
  | some n => s.portKbps n.port
  | none => s.portKbps 0

/-! ## RoCEv2 frames (R515) -/

/-- A RoCEv2 frame of a queue pair. -/
def roceBytes (v : Conn) (c op psn : Nat) (solicited ackReq : Bool) (ext data : List Byte) : List Byte :=
  let v6 := bitAt (v.par 1) 3
  let pad := (4 - data.length % 4) % 4
  let bth := beBytes 1 op ++ beBytes 1 (b2n solicited * 128 + 64 + pad * 16) ++ beBytes 2 0xFFFF ++ [0] ++ beBytes 3 (v.par 2) ++ beBytes 1 (b2n ackReq * 128)
    ++ beBytes 3 psn
  let body := bth ++ ext ++ data ++ List.replicate pad 0
  let sport := if v.par 15 % 2 ^ 16 != 0 then v.par 15 % 2 ^ 16 else 0xC000 + (Config.rocePort c).toNat
  let udp := beBytes 2 sport ++ beBytes 2 4791 ++ beBytes 2 (12 + body.length) ++ [0, 0]
  let n := udp.length + body.length + 4
  let tos := field (v.par 1) 15 10 * 4 + b2n (bitAt (v.par 1) 4) * 2
  let addr := fun k => wordsBytes ((List.range 4).map fun i => w32 (v.par (k + i)))
  let hop := field (v.par 1) 23 16
  let ip := if v6 then beBytes 4 (6 * 2 ^ 28 + tos * 2 ^ 20) ++ beBytes 2 n ++ [17] ++ beBytes 1 hop ++ addr 4 ++ addr 8
    else
      let h := [0x45#8] ++ beBytes 1 tos ++ beBytes 2 (20 + n) ++ [0, 0, 0x40, 0] ++ beBytes 1 hop ++ [17, 0, 0] ++ (addr 4).take 4 ++ (addr 8).take 4
      overwrite h 10 (ipSum h)
  let macs := wordsBytes ((List.range 3).map fun i => w32 (v.par (12 + i)))
  let f := macs ++ beBytes 2 (if v6 then 0x86DD else 0x0800) ++ ip ++ udp ++ body
  f ++ beBytes 4 (Config.icrc f).toNat

/-- A connection's frame enters egress on its leaf; without a buffer it is not sent. -/
def State.connFrameOut (s : State) (v : Conn) (bytes : List Byte) : State :=
  let (ptr, s) := s.allocBuf (0x830 + v.group) bytes.length
  match ptr with
  | none => s
  | some k =>
    (s.storeBuf k bytes).egress { ptr := k, data := bytes, source := 12, inst := v.owner, leaf := v.leaf, ts := s.now, tsUncertain := s.timeUncertain }

/-- A packet of a queue pair is sent. -/
def State.roceSend (s : State) (c op psn : Nat) (ext data : List Byte) : State :=
  match s.conn c with
  | some v => s.connFrameOut v (roceBytes v c op psn false false ext data)
  | none => s

/-- An AETH. -/
def aeth (syndrome msn : Nat) : List Byte := beBytes 1 syndrome ++ beBytes 3 msn

/-- A NAK of a syndrome for a PSN (R517, R518). -/
def State.nak (s : State) (c syndrome psn : Nat) : State :=
  match s.conn c with
  | some v => (s.bump R.PSQ_NAKS_SENT).roceSend c 0x11 psn (aeth syndrome v.msn) []
  | none => s

/-- The responder acknowledges every packet up to its expected PSN. -/
def State.ackUp (s : State) (c : Nat) : State :=
  match s.conn c with
  | some v => (s.setConn c { v with unacked := 0 }).roceSend c 0x11 (add24 v.epsn (2 ^ 24 - 1)) (aeth 0x1F v.msn) []
  | none => s

/-! ## The requester (R517, R519) -/

/-- An entry of a queue pair completes other than SUCCESS, and the pair enters Error. -/
def State.qpFail (s : State) (c index status : Nat) : State := (s.completeAt c index [] status 0).qpError c

/-- The oldest entry of a queue pair fails. -/
def State.qpFailOldest (s : State) (c status : Nat) : State :=
  match (s.conn c).bind (·.entries.head?) with
  | some e => s.qpFail c e.index status
  | none => s.qpError c

/-- The packets of a SEND or WRITE entry from a PSN: PSN and bytes. -/
def requestPackets (v : Conn) (c psn : Nat) (words : List Word) (data : List Byte) : List (Nat × List Byte) :=
  let op := wd words 0 % 2 ^ 16
  let total := data.length
  let n := max 1 ((total + v.mtu - 1) / v.mtu)
  let write := op ≥ 0x1202
  let imm := op = 0x1201 || op = 0x1203
  (List.range n).map fun k =>
    let first := k = 0
    let last := k + 1 = n
    let code := (if write then 6 else 0) + (if n = 1 then (if imm then 5 else 4) else if first then 0 else if last then (if imm then 3 else 2) else 1)
    let reth := if write && first then beBytes 8 (dwd words 6) ++ beBytes 4 (wd words 5) ++ beBytes 4 total else []
    let ext := reth ++ if imm && last then beBytes 4 (wd words 4) else []
    let p := add24 psn k
    (p, roceBytes v c code p (last && bitAt (wd words 0) 18) last ext ((data.drop (k * v.mtu)).take v.mtu))

/-- The request of a READ entry from its PSN f: what its responses have not brought yet (R517). -/
def readPacket (v : Conn) (c f : Nat) (e : WorkEntry) : Nat × List Byte :=
  let p := add24 f (e.got / v.mtu)
  let a := dwd e.words 6 + e.got
  (p, roceBytes v c 0xC p false true (beBytes 8 a ++ beBytes 4 (wd e.words 5) ++ beBytes 4 (wd e.words 2 - e.got)) [])

/-- The requests of READ entries in progress (R517). -/
def Conn.readPackets (v : Conn) (c : Nat) : List (Nat × List Byte) :=
  (v.entries.filter fun e => wd e.words 0 % 2 ^ 16 = 0x1204).filterMap fun e => e.first.map fun f => readPacket v c f e

/-- Every packet of queue pair c that is not acknowledged, in PSN order (R517). -/
def Conn.unackedPackets (v : Conn) (c : Nat) : List (Nat × List Byte) :=
  (v.sent ++ v.readPackets c).mergeSort fun a b => decide ((a.1 + 2 ^ 24 - v.una) % 2 ^ 24 ≤ (b.1 + 2 ^ 24 - v.una) % 2 ^ 24)

/-- The oldest entry not started is started (R517, R520, R521). -/
def State.qpStart (s : State) (c : Nat) (data : Option (List Byte)) : State :=
  match s.conn c with
  | none => s
  | some v =>
    match v.entries.find? (·.first.isNone) with
    | none => s
    | some e =>
      let w := e.words
      let read := wd w 0 % 2 ^ 16 = 0x1204
      let reads := v.entries.filter fun x => x.first.isSome && wd x.words 0 % 2 ^ 16 = 0x1204
      if v.kind != .qp || v.state != 3 || (bitAt (wd w 0) 16 && !reads.isEmpty) || (read && reads.length ≥ v.par 101) then s
      else if !((rdmaSegs w).all fun x => s.lkeyOk v.owner x.2.2 read) then s.qpFail c e.index 0x0205
      else match (if read then some [] else data) with
        | none => s.qpFail c e.index 0x0100
        | some bytes =>
          let total := wd w 2
          let pkts := if read then
              [readPacket v c v.nxt e]
            else requestPackets v c v.nxt w (slice bytes 0 total)
          let n := if read then max 1 ((total + v.mtu - 1) / v.mtu) else pkts.length
          let e' := { e with first := some v.nxt, pkts := n }
          let s := s.setConn c { v with
            entries := v.entries.map (fun x => if x.index = e.index then e' else x), nxt := add24 v.nxt n, sent := v.sent ++ if read then [] else pkts
            timer := v.timer || field (v.par 17) 4 0 != 0 }
          pkts.foldl (fun s p => s.connFrameOut v p.2) s

/-- Everything up to a PSN is acknowledged: entries other than READ that end there complete, and the counts are restored (R517). -/
def State.qpAcked (s : State) (c psn : Nat) : State :=
  match s.conn c with
  | none => s
  | some v =>
    if !(le24 v.una psn && le24 (add24 psn 1) v.nxt) then s
    else
      let una := add24 psn 1
      let ends := fun (e : WorkEntry) => match e.first with
        | some f => wd e.words 0 % 2 ^ 16 != 0x1204 && le24 (add24 f (e.pkts - 1)) psn
        | none => false
      let s := s.setConn c { v with una := una, sent := v.sent.filter (fun x => le24 una x.1), retries := field (v.par 17) 10 8, rnr := field (v.par 17) 14 12
                                    timer := v.timer && una != v.nxt }
      (v.entries.filter ends).foldl (fun s e => s.completeAt c e.index [] 0 0) s

/-- Every packet sent from the oldest unacknowledged one is sent again (R517). -/
def State.qpResend (s : State) (c : Nat) : State :=
  match s.conn c with
  | none => s
  | some v =>
    let pkts := v.unackedPackets c
    pkts.foldl (fun s p => s.connFrameOut v p.2) (s.bumpBy R.PSQ_RETRANSMITS pkts.length)

/-- A timeout or a sequence NAK uses a retry (R517). -/
def State.qpRetry (s : State) (c : Nat) : State :=
  match s.conn c with
  | none => s
  | some v => if v.retries = 0 then s.qpFailOldest c 0x0200 else (s.setConn c { v with retries := v.retries - 1 }).qpResend c

/-- An acknowledgement of a syndrome for a PSN (R517). -/
def State.qpAnswer (s : State) (c syndrome psn : Nat) : State :=
  let before := add24 psn (2 ^ 24 - 1)
  match syndrome / 32 with
  | 0 => s.qpAcked c psn
  | 1 =>
    let s := s.qpAcked c before
    match s.conn c with
    | none => s
    | some v =>
      if field (v.par 17) 14 12 = 7 then s.setConn c { v with timer := true }
      else if v.rnr = 0 then s.qpFailOldest c 0x0201
      else s.setConn c { v with rnr := v.rnr - 1, timer := true }
  | 3 =>
    let s := s.qpAcked c before
    match syndrome % 32 with
    | 0 => s.qpRetry c
    | 1 => s.qpFailOldest c 0x0203
    | 2 => s.qpFailOldest c 0x0202
    | 3 => s.qpFailOldest c 0x0204
    | _ => s
  | _ => s

/-- A READ response arrives (R517): its bytes go to the segments of its entry in PSN order; the last completes it. -/
def State.readResponse (s : State) (c psn : Nat) (bytes : List Byte) : State :=
  match s.conn c with
  | none => s
  | some v =>
    match v.entries.find? fun e => e.first.isSome && wd e.words 0 % 2 ^ 16 = 0x1204 with
    | none => s
    | some e =>
      let f := e.first.getD 0
      if psn != add24 f (e.got / v.mtu) then s
      else
        let s := s.qpAcked c (add24 psn (2 ^ 24 - 1))
        let s := s.scatter v.owner (rdmaSegs e.words) e.got bytes
        let got := e.got + bytes.length
        let s := s.modConn c fun v => { v with entries := v.entries.map fun x => if x.index = e.index then { e with got := got } else x }
        if got ≥ wd e.words 2 then (s.qpAcked c psn).completeAt c e.index [] 0 0 else s

/-- A CNP arrives (R519): the rate is halved, at most once per 50 us; whether 50 us have passed is left open after the first. -/
def State.cnpIn (s : State) (c : Nat) : State :=
  match s.conn c with
  | none => s
  | some v =>
    let (x, s) := s.draw
    let s := s.bump R.PSQ_CNP_RECEIVED
    let now := if v.rate = 0 then s.connPortKbps v else v.rate
    if v.cnpSeen && x % 2 = 0 then s else s.setConn c { v with cnpSeen := true, rate := max 100000 (now / 2) }

/-- The rate rises by 1 % of the port's rate (R519). -/
def State.rateRise (s : State) (c : Nat) : State :=
  s.modConn c fun v => if v.rate = 0 then v else { v with rate := min (s.connPortKbps v) (v.rate + s.connPortKbps v / 100) }

/-! ## Controllers and their entries (R522, R523) -/

/-- Data of an entry arrives and is placed (R523). -/
def State.nvmeData (s : State) (c index offset : Nat) (bytes : List Byte) : State :=
  match s.conn c with
  | none => s
  | some v =>
    match v.entries.find? fun e => v.kind == .nvme && e.index = index && e.first.isSome with
    | some e => s.scatter v.owner (nvmeSegs e.words) offset (bytes.take (wd e.words 2 - offset))
    | none => s

/-- A controller answers an entry: its completion entry stands in words 4 to 7 with the entry's CID restored (R523). -/
def State.nvmeDone (s : State) (c index : Nat) (cqe : List Word) : State :=
  match s.conn c with
  | none => s
  | some v =>
    match v.entries.find? fun e => e.index = index && e.first.isSome with
    | none => s
    | some e =>
      let cid := field (wd e.words 4) 31 16
      let w3 := putField (wd cqe 3) 15 0 cid
      s.completeAt c index [(4, w32 (wd cqe 0)), (5, w32 (wd cqe 1)), (6, w32 (wd cqe 2)), (7, w32 w3)] 0 0

/-- The key under which the controller of an entry's connection reaches its segments over RoCEv2, from offset 0 (R522; log entry 47). -/
def WorkEntry.key (e : WorkEntry) : Nat := 2 ^ 31 + e.index % 2 ^ 16

/-- The entry in progress that a key names on a queue pair which carries capsules, with its connection. -/
def State.entryKey (s : State) (qp key : Nat) : Option (Nat × WorkEntry) :=
  (s.nvmeOn qp).bind fun x => (x.2.entries.find? fun e => e.first.isSome && e.key = key).map fun e => (x.1, e)

/-- A remote request of queue pair qp may reach a range through a key (R518, R522): a region's, or that of an entry whose data moves in the
request's direction. -/
def State.remoteOk (s : State) (qp owner key addr bytes bit : Nat) : Bool :=
  s.rkeyOk owner key addr bytes bit || (match s.entryKey qp key with
    | some (_, e) => wd e.words 4 % 4 = bit && decide (addr + bytes ≤ wd e.words 2)
    | none => false)

/-- Bytes that a remote request has written through a key are placed. -/
def State.remotePut (s : State) (qp owner key addr : Nat) (bs : List Byte) : State :=
  if bs.isEmpty then s
  else match s.entryKey qp key with
    | some (n, e) => if (s.region? key).isSome then s.emit (.hostWrite owner (s.keyPasid owner key) addr bs) else s.nvmeData n e.index addr bs
    | none => s.emit (.hostWrite owner (s.keyPasid owner key) addr bs)

/-! ## The responder (R518, R519, R521) -/

/-- The oldest posted receive entry of a queue pair. -/
def State.takeRecv (s : State) (v : Conn) : Option (WorkEntry × State) :=
  match lookupD s.psq.recvs v.recv [] with
  | [] => none
  | e :: t => some (e, { s with psq := { s.psq with recvs := insertKey s.psq.recvs v.recv t } })

/-- A receive entry completes SUCCESS with what it received (R521). -/
def State.recvDone (s : State) (v : Conn) (e : WorkEntry) (bytes : Nat) (imm : Option Nat) (solicited : Bool) : State :=
  s.completeWork e [(2, w32 bytes), (4, w32 (imm.getD 0)), (5, w32 (b2n solicited * 2 + b2n imm.isSome)), (6, w32 (v.par 2 % 2 ^ 24))] 0 0

/-- A request failed a check: it draws a NAK and the queue pair enters Error. -/
def State.respondFail (s : State) (c syndrome psn : Nat) : State := (s.nak c syndrome psn).qpError c

/-- The expected PSN advances past n packets of a request; eight unacknowledged packets are acknowledged (R515). -/
def State.accepted (s : State) (c n : Nat) (last : Bool) : State :=
  let s := s.modConn c fun v => { v with epsn := add24 v.epsn n, nakSent := false, unacked := v.unacked + 1, msn := if last then add24 v.msn 1 else v.msn }
  match s.conn c with
  | some v => if v.unacked ≥ 8 then s.ackUp c else s
  | none => s

/-- A SEND packet with the expected PSN reaches a queue pair without rings, for which the device posts its own receives (R522): a capsule of
16 bytes answers an entry of the controller connection. -/
def State.capsuleIn (s : State) (c : Nat) (last : Bool) (data : List Byte) : State :=
  let cqe := bytesWords data
  let s := match s.nvmeOn c with
    | some (n, _) => if data.length = 16 then s.nvmeDone n (field (wd cqe 3) 15 0) cqe else s
    | none => s
  s.accepted c 1 last

/-- A SEND packet with the expected PSN. -/
def State.sendIn (s : State) (c psn : Nat) (first last : Bool) (imm : Option Nat) (solicited : Bool) (data : List Byte) : State :=
  match s.conn c with
  | none => s
  | some v =>
    let start : Option (WorkEntry × Nat × State) := match v.rx with
      | some (e, n) => some (e, n, s)
      | none => (s.takeRecv v).map fun (e, s) => (e, 0, s)
    if v.recv = 65536 then s.capsuleIn c last data
    else if first != v.rx.isNone then s.respondFail c 0x61 psn
    else match start with
    | none => s.nak c (0x20 + field (v.par 17) 20 16) psn
    | some (e, got, s) =>
      let segs := rdmaSegs e.words
      if !(segs.all fun x => s.lkeyOk v.owner x.2.2 true) then ((s.setConn c { v with rx := none }).completeWork e [] 0x0205 0).qpError c
      else if got + data.length > segTotal segs then ((s.setConn c { v with rx := none }).completeWork e [] 0x0207 0).respondFail c 0x61 psn
      else
        let s := s.scatter v.owner segs got data
        let n := got + data.length
        let s := s.setConn c { v with rx := if last then none else some (e, n) }
        (if last then s.recvDone v e n imm solicited else s).accepted c 1 last

/-- A WRITE packet with the expected PSN; reth is the address, key and length of its first packet. -/
def State.writeIn (s : State) (c psn : Nat) (reth : Option (Nat × Nat × Nat)) (last : Bool) (imm : Option Nat) (solicited : Bool) (data : List Byte) : State :=
  match s.conn c with
  | none => s
  | some v =>
    match reth.or v.wr with
    | none => s.respondFail c 0x61 psn
    | some (addr, key, left) =>
      if (left > 0 || !data.isEmpty) && !s.remoteOk c v.owner key addr (max left data.length) 2 then s.respondFail c 0x62 psn
      else
        let take := if imm.isSome then s.takeRecv v else none
        if imm.isSome && take.isNone then s.nak c (0x20 + field (v.par 17) 20 16) psn
        else
          let (e, s) := match take with
            | some (e, s) => (some e, s)
            | none => (none, s)
          let s := s.remotePut c v.owner key addr data
          let s := s.setConn c { v with wr := if last then none else some (addr + data.length, key, left - data.length) }
          let s := match e with
            | some e => s.recvDone v e 0 imm solicited
            | none => s
          s.accepted c 1 last

/-- The responses of a READ from a PSN. -/
def State.readOut (s : State) (c psn len : Nat) (host : List Byte) : State :=
  match s.conn c with
  | none => s
  | some v =>
    let n := max 1 ((len + v.mtu - 1) / v.mtu)
    let d := slice host 0 len
    (List.range n).foldl (fun s k =>
      let op := if n = 1 then 0x10 else if k = 0 then 0xD else if k + 1 = n then 0xF else 0xE
      s.roceSend c op (add24 psn k) (if op = 0xE then [] else aeth 0x1F v.msn) ((d.drop (k * v.mtu)).take v.mtu)) s

/-- A CE-marked frame draws a CNP, at most once per 50 us; whether 50 us have passed is left open after the first (R519). -/
def State.cnpOut (s : State) (c : Nat) : State :=
  match s.conn c with
  | none => s
  | some v =>
    let (x, s) := s.draw
    if !bitAt (v.par 1) 4 || (v.cnpSent && x % 2 = 0) then s
    else ((s.setConn c { v with cnpSent := true }).bump R.PSQ_CNP_SENT).roceSend c 0x81 0 (List.replicate 16 0) []

/-- A RoCEv2 packet, from its BTH to before its ICRC, reaches a queue pair (R515 to R519). -/
def State.roceIn (s : State) (c : Nat) (b : List Byte) (host : List Byte) : State :=
  match s.conn c with
  | none => s
  | some v =>
    let op := beNat (slice b 0 1)
    let flags := beNat (slice b 1 1)
    let psn := beNat (slice b 9 3)
    let pad := flags / 16 % 4
    let body := fun (ext : Nat) => (b.drop (12 + ext)).take (b.length - 12 - ext - pad)
    let se := bitAt flags 7
    let opens := v.state = 2 || v.state = 3
    if v.kind != .qp || v.state = 4 || v.state < 2 then s
    else if op = 0x81 then s.cnpIn c
    else if op = 0x11 then (if v.state = 3 then s.qpAnswer c (beNat (slice b 12 1)) psn else s)
    else if 0xD ≤ op && op ≤ 0x10 then (if v.state = 3 then s.readResponse c psn (body (if op = 0xE then 0 else 4)) else s)
    else if !opens then s
    else
      let ahead := (psn + 2 ^ 24 - v.epsn) % 2 ^ 24
      let reth := (beNat (slice b 12 8), beNat (slice b 20 4), beNat (slice b 24 4))
      if op > 0xC then s.nak c 0x61 psn
      else if ahead = 0 then
        match op with
        | 0 => s.sendIn c psn true false none se (body 0)
        | 1 => s.sendIn c psn false false none se (body 0)
        | 2 => s.sendIn c psn false true none se (body 0)
        | 3 => s.sendIn c psn false true (some (beNat (slice b 12 4))) se (body 4)
        | 4 => s.sendIn c psn true true none se (body 0)
        | 5 => s.sendIn c psn true true (some (beNat (slice b 12 4))) se (body 4)
        | 6 => s.writeIn c psn (some reth) false none se (body 16)
        | 7 => s.writeIn c psn none false none se (body 0)
        | 8 => s.writeIn c psn none true none se (body 0)
        | 9 => s.writeIn c psn none true (some (beNat (slice b 12 4))) se (body 4)
        | 10 => s.writeIn c psn (some reth) true none se (body 16)
        | 11 => s.writeIn c psn (some reth) true (some (beNat (slice b 28 4))) se (body 20)
        | _ =>
          if reth.2.2 > 0 && !s.remoteOk c v.owner reth.2.1 reth.1 reth.2.2 1 then s.respondFail c 0x62 psn
          else (s.readOut c psn reth.2.2 host).accepted c (max 1 ((reth.2.2 + v.mtu - 1) / v.mtu)) true
      else if ahead < 2 ^ 23 then (if v.nakSent then s else (s.setConn c { v with nakSent := true }).nak c 0x60 v.epsn)
      else if op = 0xC then
        (if reth.2.2 > 0 && !s.remoteOk c v.owner reth.2.1 reth.1 reth.2.2 1 then s.respondFail c 0x62 psn else s.readOut c psn reth.2.2 host)
      else s.ackUp c

/-- A frame of a routine is taken as a RoCEv2 frame (R515, R519). -/
def State.roceFrame (s : State) (c : Nat) (p : Pkt) (icrcGood : Bool) (host : List Byte) : State :=
  let s := s.dropFrame (some p)
  if !icrcGood then s.bump R.PSQ_ICRC_BAD
  else match l3At p.data with
    | none => s
    | some (o, kind) =>
      let u := o + if kind = 1 then beNat (slice p.data o 1) % 16 * 4 else 40
      let n := beNat (slice p.data (u + 4) 2)
      let ecn := if kind = 1 then beNat (slice p.data (o + 1) 1) % 4 else beNat (slice p.data o 2) / 16 % 4
      let s := if ecn = 3 then s.cnpOut c else s
      if n < 24 then s else s.roceIn c (slice p.data (u + 8) (n - 12)) host

/-! ## NVMe over TCP and RoCEv2 (R522, R523) -/

/-- A PDU leaves on a connection; with TLS, as records of its association (R522). -/
def State.pduOut (s : State) (c : Nat) (v : Conn) (bytes : List Byte) : State :=
  if !bitAt (v.par 10) 3 then s.emit (.pdu c bytes)
  else
    let a := field (v.par 11) 19 0
    (List.range ((bytes.length + 16383) / 16384)).foldl
      (fun s i =>
        let r := s.assoc a
        let k := safActive r
        match s.slotKey a r k, s.takeSeq a k with
        | some (key, iv), (some n, s) => s.emit (.pdu c (tlsSeal (safAlg r) n key iv (slice bytes (16384 * i) (min 16384 (bytes.length - 16384 * i))) 23))
        | _, _ => s) s

/-- A controller connection that is opening fails to (R526). -/
def State.connectFail (s : State) (c cause : Nat) : State :=
  match s.conn c, s.findPend (fun p => p.cmd.opcode = 0x0820 && p.note.head? == some c) with
  | some v, some p => if v.connected then s else (s.forgetConn c).finish p 0x20 0x0F0A (results [c, cause])
  | _, _ => s

/-- A PDU of a connection: type, flags beside those of the digests, specific header, data, with the digests that the connection uses
(R522). -/
def nvmePdu (v : Conn) (type flags : Nat) (head body : List Byte) : List Byte :=
  let hd := b2n (bitAt (v.par 10) 1)
  let dd := b2n (bitAt (v.par 10) 2 && !body.isEmpty)
  let hlen := 8 + head.length
  let pdo := if body.isEmpty then 0 else hlen + 4 * hd
  let h := beBytes 1 type ++ beBytes 1 (flags + hd + 2 * dd) ++ beBytes 1 hlen ++ beBytes 1 pdo ++ leBytes 4 (hlen + 4 * hd + body.length + 4 * dd) ++ head
  h ++ (if hd = 1 then wordBytes (crc32c h) else []) ++ body ++ (if dd = 1 then wordBytes (crc32c body) else [])

/-- The submission entry of an entry as it goes to its controller: the device's own CID, and a data pointer (R523). -/
def sqeBytes (e : WorkEntry) (sgl : List Byte) : List Byte :=
  let sqe := wordsBytes ((List.range 16).map fun k => w32 (wd e.words (4 + k)))
  overwrite (overwrite sqe 2 (leBytes 2 (e.index % 2 ^ 16))) 24 sgl

/-- The capsule of an entry over TCP (R522, R523): data of at most 8 KiB, within the controller's limit, stands in it. -/
def capsule (v : Conn) (c : Nat) (e : WorkEntry) (data : List Byte) : List Byte :=
  let n := wd e.words 2
  let inCap := wd e.words 4 % 4 = 1 && n ≤ 8192 && n ≤ (Config.capsuleLimit c).toNat
  let sgl := leBytes 8 0 ++ leBytes 4 n ++ [0, 0, 0] ++ (if inCap then [0x01#8] else [0x5A#8])
  nvmePdu v 4 0 (sqeBytes e sgl) (if inCap then slice data 0 n else [])

/-- The capsule of an entry over RoCEv2 (R522): its data pointer carries the key that covers the entry's segments. -/
def roceCapsule (e : WorkEntry) : List Byte := sqeBytes e (leBytes 8 0 ++ leBytes 3 (wd e.words 2) ++ leBytes 4 e.key ++ [0x40#8])

/-- A message leaves on a queue pair as a SEND that no entry waits for (R522). -/
def State.qpMessage (s : State) (c : Nat) (data : List Byte) : State :=
  match s.conn c with
  | none => s
  | some v =>
    if v.state != 3 then s
    else
      let pkts := requestPackets v c v.nxt [0x1200#32] data
      let s := s.setConn c { v with
        nxt := add24 v.nxt pkts.length, sent := v.sent ++ pkts, timer := v.timer || field (v.par 17) 4 0 != 0 }
      pkts.foldl (fun s p => s.connFrameOut v p.2) s

/-- The oldest entry not sent is sent, within the controller's queue size (R522, R523). -/
def State.nvmeSubmit (s : State) (c : Nat) (data : Option (List Byte)) : State :=
  match s.conn c with
  | none => s
  | some v =>
    match v.entries.find? (·.first.isNone) with
    | none => s
    | some e =>
      if v.kind != .nvme || !v.connected || v.state = 4 || (v.entries.filter (·.first.isSome)).length ≥ field (v.par 15) 31 16 then s
      else
        let mark := fun (s : State) => s.modConn c fun v => { v with entries := v.entries.map fun x => if x.index = e.index then { x with first := some 0 } else x }
        if bitAt (v.par 0) 24 then (mark s).qpMessage (v.par 1 % 2 ^ 16) (roceCapsule e)
        else match data with
          | none => s.completeAt c e.index [] 0x0100 0
          | some d => (mark s).pduOut c v (capsule v c e d)

/-- Data of an entry that the controller is ready for is sent, in PDUs of at most MAXH2CDATA (R522). -/
def State.h2cData (s : State) (c index ttag offset : Nat) (data : List Byte) : State :=
  match s.conn c with
  | none => s
  | some v =>
    if v.kind != .nvme || bitAt (v.par 0) 24 || !(v.entries.any fun e => e.index = index && e.first.isSome) then s
    else
      let m := max 4096 (Config.maxH2c c).toNat
      let n := (data.length + m - 1) / m
      (List.range n).foldl (fun s i =>
        let d := (data.drop (m * i)).take m
        let head := leBytes 2 (index % 2 ^ 16) ++ leBytes 2 (ttag % 2 ^ 16) ++ leBytes 4 (offset + m * i) ++ leBytes 4 d.length ++ leBytes 4 0
        s.pduOut c v (nvmePdu v 6 (if i + 1 = n then 4 else 0) head d)) s

/-- A TCP RTO (R522): the segments are sent again, and the eighth in succession fails the connection. -/
def State.tcpRto (s : State) (c : Nat) : State :=
  match s.conn c with
  | none => s
  | some v => if v.rtos + 1 ≥ 8 then s.connFail c else (s.setConn c { v with rtos := v.rtos + 1, timer := true }).bump R.PSQ_TCP_RETRANSMITS

/-! ## Local block service (R525) -/

/-- A drive answers an entry: its data is placed, and its completion entry stands in words 4 to 7 with the entry's tag for CID. -/
def State.driveDone (s : State) (c index : Nat) (cqe : List Word) (data : List Byte) : State :=
  match s.conn c with
  | none => s
  | some v =>
    match (if v.kind == .local then v.entries.find? (·.index = index) else none) with
    | none => s
    | some e =>
      let s := if wd e.words 4 % 4 = 0 then s.scatter v.owner (nvmeSegs e.words) 0 (data.take (wd e.words 2)) else s
      let w3 := putField (wd cqe 3) 15 0 (field (wd e.words 1) 31 16)
      s.completeAt c index [(4, w32 (wd cqe 0)), (5, w32 (wd cqe 1)), (6, w32 (wd cqe 2)), (7, w32 w3)] 0 0

/-! ## Steps -/

/-- A region whose deregistration waits ends when no entry or posted operation in progress names its key (R506, R526). -/
def State.settleKeys (s : State) : State :=
  (s.psq.regions.filter (!·.2.valid)).foldl (fun s m =>
    let key := m.1 * 256 + m.2.variant
    let busy := s.psq.conns.any fun e =>
      (e.2.entries.any fun x => x.first.isSome && (rdmaSegs x.words).any (·.2.2 = key)) || (match e.2.wr with
        | some x => x.2.1 = key
        | none => false)
        || (match e.2.rx with
        | some x => (rdmaSegs x.1.words).any (·.2.2 = key)
        | none => false)
    let busy := busy || s.psq.posted.any fun o => o.port = 4 && field (o.args.getD 3 0#64).toNat 31 0 = key
    if busy then s
    else
      let s := { s with psq := { s.psq with regions := eraseKey s.psq.regions m.1 } }
      match s.findPend (fun p => p.cmd.opcode = 0x0814 && wd p.cmd.params 0 = key) with
      | some p => s.finish p 0 0 []
      | none => s) s

/-- The frame of the routine of connection c on sequencer q is taken from it. -/
def State.takeFrameOf (s : State) (q c : Nat) : Option Pkt × State :=
  let v := s.seq q
  match lookup v.running c with
  | none => (none, s)
  | some r => (r.frame, s.setSeq q { v with running := insertKey v.running c (({ r with frame := none }).put 7 false) })

/-- One protocol step of a routine. -/
def State.protoStep (s : State) (q c : Nat) (x : ProtoStep) : State :=
  let nvme := match s.conn c with
    | some v => v.kind == .nvme
    | none => false
  let fail := fun (s : State) => if nvme then s.connFail c else s
  match x with
  | .send data => s.qpStart c data
  | .roce good host =>
    match s.takeFrameOf q c with
    | (some p, s) => s.roceFrame c p good host
    | (none, s) => s
  | .ackNow =>
    match s.conn c with
    | some v => if v.unacked > 0 then s.ackUp c else s
    | none => s
  | .ackTimeout =>
    match s.conn c with
    | some v => if v.kind == .qp && v.state = 3 && v.una != v.nxt && field (v.par 17) 4 0 != 0 then s.qpRetry c else s
    | none => s
  | .rnrResend =>
    match s.conn c with
    | some v => if v.kind == .qp && v.state = 3 then s.qpResend c else s
    | none => s
  | .rateRise => s.rateRise c
  | .icReq =>
    match s.conn c with
    | some v => if nvme && !v.connected then
        s.pduOut c v ([0x00#8, 0, 128, 0] ++ leBytes 4 128 ++ [0, 0, 0] ++ beBytes 1 (b2n (bitAt (v.par 10) 1) + 2 * b2n (bitAt (v.par 10) 2)) ++ List.replicate 116 0)
      else s
    | none => s
  | .icResp good =>
    if !good then s.connectFail c 3
    else match s.conn c, s.findPend (fun p => p.cmd.opcode = 0x0820 && p.note.head? == some c) with
      | some v, some p => (s.setConn c { v with connected := true }).finish p 0 0 (results [c])
      | _, _ => s
  | .connectFail k => s.connectFail c k.toNat
  | .submit data => s.nvmeSubmit c data
  | .readyToTransfer i t o d => s.h2cData c i t o d
  | .dataIn i o d => s.nvmeData c i o d
  | .capsuleResp i cqe => if nvme then s.nvmeDone c i cqe else s
  | .dataDigest i => if nvme then (s.bump R.PSQ_DIGEST_ERRORS).completeAt c i [] 0x0213 0 else s
  | .headerDigest => if nvme then fail (s.bump R.PSQ_DIGEST_ERRORS) else s
  | .termReq => fail s
  | .tcpReset =>
    match s.conn c with
    | some v => if nvme && !v.connected then s.connectFail c 2 else fail s
    | none => s
  | .recordFail => fail s
  | .tcpRto => if nvme then s.tcpRto c else s
  | .tcpFast => if nvme then s.bump R.PSQ_TCP_RETRANSMITS else s
  | .tcpAck => s.modConn c fun v => { v with rtos := 0 }
  | .driveDone i cqe d => s.driveDone c i cqe d

/-- A microword of the routine of connection c on sequencer q, with the protocol steps that it realises (R503 to R525). -/
def State.runMicroword (s : State) (q c : Nat) (parity : Option Bool) (steps : List ProtoStep) : State :=
  let v := s.seq q
  match (if v.stopped.isSome || s.islandDown 37 then none else lookup v.running c) with
  | none => s
  | some r =>
    match microword s q r parity with
    | .error (cause, code) =>
      let s := if cause = 4 then s.stateFault code internalSsid (connOff c) else s
      (s.setSeq q { v with upc := r.upc }).takeTrap q r cause code
    | .ok (s, r', fin, trap) =>
      let v := s.seq q
      let s := s.setSeq q { v with upc := r.upc, running := insertKey v.running c r' }
      let s := (steps.foldl (fun s x => s.protoStep q c x) s).settleKeys
      match lookup (s.seq q).running c with
      | none => s
      | some r =>
        match trap with
        | some code => s.takeTrap q r 1 code
        | none => if fin then s.endRoutine q r else s

end Sys2Proof.Machine
end

