-- ==== Sys2Proof/Machine/Sequencers.lean ====
section
/-! DEFINITION. Meanings of the sequencers' events and commands (R496 to R532). -/

namespace Sys2Proof.Machine

/-! ## Routines and traps -/

/-- The work rings of the connections that sequencer q serves are fetched again (R499). -/
def State.refetch (s : State) (q : Nat) : State :=
  (s.psq.conns.filter fun e => s.seqFor e.2.group e.1 == some q).foldl (fun s e => (s.ensureFetch e.2.send).ensureFetch e.2.recv) s

/-- ROUTINE_START (R498, R500). -/
def execRoutineStart (seq : Fin 32) (conn : BitVec 16) (s : State) : Host.Outcome State Fault Refusal :=
  .next ((s.startRoutine seq.val conn.toNat).refetch seq.val)

/-- MICROWORD_EXECUTE (R503 to R508), with the protocol steps that the microword realises (R515 to R525). -/
def execMicrowordExecute (seq : Fin 32) (conn : BitVec 16) (parity : Option Bool) (steps : List ProtoStep) (s : State) :
    Host.Outcome State Fault Refusal := .next (s.runMicroword seq.val conn.toNat parity steps)

/-- CONNECTION_TIMER_EXPIRY (R498). -/
def execConnectionTimerExpiry (conn : BitVec 16) (s : State) : Host.Outcome State Fault Refusal :=
  let c := conn.toNat
  .next <|
    match s.conn c with
    | none => s
    | some v =>
      if !v.timer || s.islandDown 37 then s
      else (s.setConn c { v with timer := false }).trigger v.group { kind := 2, conn := c, gen := (s.inst v.owner).gen }

/-- TRAP_RESUME (R510). -/
def execTrapResume (mid : BitVec 13) (seq : Fin 32) (slot : Fin 4) (s : State) : Host.Outcome State Fault Refusal :=
  .next (s.gatedWrite mid.toNat (R.PSQ_TRAP_CTL seq.val) fun s => s.trapGo seq.val slot.val false)

/-- TRAP_ABORT (R510). -/
def execTrapAbort (mid : BitVec 13) (seq : Fin 32) (slot : Fin 4) (s : State) : Host.Outcome State Fault Refusal :=
  .next (s.gatedWrite mid.toNat (R.PSQ_TRAP_CTL seq.val) fun s => s.trapGo seq.val slot.val true)

/-! ## Posted operations -/

/-- The PASID of a posted operation whose argument is a PASID or a memory key (R506): a key of the owner's gives its region's, another value
stands for itself, and 0 for none (DESIGN CHOICE, log entry 59). -/
def State.opPasid (s : State) (owner v : Nat) : Option Nat :=
  if (s.region? v).any (·.owner = owner) then s.keyPasid owner v else if v = 0 then none else some (v % 2 ^ 20)

/-- A posted host transfer is carried out: its completion status, 0 for success (R506). -/
def State.postedRun (s : State) (o : PostedOp) (owner : Nat) (data : Option (List Byte)) : Nat × State :=
  let arg := fun k => (o.args.getD k 0#64).toNat
  let host := arg 0
  let dev := field (arg 1) 39 0
  let n := arg 2 % 2 ^ 32
  let pas := s.opPasid owner (field (arg 3) 31 0)
  let s := if o.sub = 0 || o.sub = 2 then s.readNow owner pas host n else s
  match o.sub with
  | 0 =>
    match data with
    | none => (0x0100, s)
    | some bs => if physOk dev n then (0, s.physWrite 0x1020 dev (slice bs 0 n)) else (0x12, s)
  | 1 => if physOk dev n then (0, s.emit (.hostWrite owner pas host (s.physRead dev n))) else (0x12, s)
  | 2 =>
    match data, s.connFrame o.conn with
    | none, _ => (0x0100, s)
    | some bs, some p => if dev + n ≤ p.data.length then (0, s.setConnFrame o.conn (overwrite p.data dev (slice bs 0 n))) else (0x12, s)
    | some _, none => (0x12, s)
  | _ =>
    match s.connFrame o.conn with
    | some p => if dev + n ≤ p.data.length then (0, s.emit (.hostWrite owner pas host (slice p.data dev n))) else (0x12, s)
    | none => (0x12, s)

/-- The posted host transfer at a place of the list ends; a stale result, or any for an instance that is being destroyed, is discarded (R285, R303). -/
def State.postedEnd (s : State) (o : PostedOp) (data : Option (List Byte)) : State :=
  let s := { s with psq := { s.psq with posted := s.psq.posted.erase o } }
  match s.conn o.conn with
  | none => s
  | some c =>
    let stale := (s.inst c.owner).state = 5 || (o.gen != (s.inst c.owner).gen && (o.sub = 1 || o.sub = 3))
    let (st, s) := if stale then (0, s.staleDiscard c.owner none) else s.postedRun o c.owner data
    let s := s.trigger c.group { kind := 3, conn := o.conn, status := st, cookie := field (o.args.getD 3 0#64).toNat 63 48, gen := o.gen }
    (s.settleConn o.conn).settleKeys

/-- A command at a drive ends: its completion trigger carries a status (R506). -/
def State.driveEnd (s : State) (d : DriveCmd) (status : Nat) : State :=
  let s := { s with psq := { s.psq with drive := s.psq.drive.erase d } }
  match s.conn d.conn with
  | none => s
  | some c =>
    (if (s.inst c.owner).state = 5 then s
      else s.trigger c.group { kind := 3, conn := d.conn, status := status, cookie := d.cookie, gen := (s.inst c.owner).gen }).settleConn d.conn

/-- PORT_OPERATION_COMPLETE (R151, R506): the host transfer, or the drive command, at a place of its list. data is what the host delivered,
none where its read failed. -/
def execPortOperationComplete (drive : Bool) (index : BitVec 16) (data : Option (List Byte)) (s : State) : Host.Outcome State Fault Refusal :=
  .next <|
    if drive then
      match s.psq.drive[index.toNat]? with
      | some d => s.driveEnd d 0
      | none => s
    else
      match s.psq.posted[index.toNat]? with
      | some o => if o.port = 4 && !((o.sub = 0 || o.sub = 2) && s.openTag.isNone) then s.postedEnd o data else s
      | none => s

/-- An NVMe Abort of a drive command: the submission queue identifier is the drive's own and is left open (log entry 2). -/
def abortWords (cid sqid : Nat) : List Word := [w32 0x08] ++ List.replicate 9 0#32 ++ [w32 (cid * 2 ^ 16 + sqid)] ++ List.replicate 5 0#32

/-- DRIVE_COMMAND_TIMEOUT (R525). -/
def execDriveCommandTimeout (index : BitVec 16) (s : State) : Host.Outcome State Fault Refusal :=
  .next <|
    match s.psq.drive[index.toNat]? with
    | none => s
    | some d =>
      let (v, s) := s.draw
      let s := s.emit (.drive d.port (abortWords (field (wd d.words 0) 31 16) (v % 65536)))
      let s := match d.entry with
        | some i => s.completeAt d.conn i [] 0x0212 0
        | none => s
      s.driveEnd d 0x0212

/-! ## Work entries -/

/-- Bytes of a block of a local attachment's namespace (R524). -/
def Conn.blockBytes (c : Conn) : Nat := if Config.bigBlocks c.drivePort (c.par 1) then 4096 else 512

/-- The segment rules of R226 hold: a sum equal to the total, no empty segment, and none only where that is allowed. -/
def segsBad (segs : List Seg) (total : Nat) (emptyOk : Bool) : Bool :=
  segs.any (·.2.1 = 0) || segTotal segs != total || (total = 0 && !(emptyOk && segs.isEmpty))

/-- The status and reason with which an RDMA entry fails its checks (R520, R521, R226). -/
def rdmaFault (w : List Word) : Option (Nat × Nat) :=
  let op := wd w 0 % 2 ^ 16
  let n := wd w 8 % 256
  if segsBad (rdmaSegs w) (wd w 2) (op = 0x1200 || op = 0x1201 || op = 0x1203 || op = 0x1210) then some (0x11, 0)
  else match reservedWord w [(0, 0x8007FFFF), (8, 0xFF), (9, 0), (10, 0), (11, 0)] with
    | some k => some (0x12, k)
    | none => if wd w 2 > 2 ^ 31 then some (0x12, 2) else if n > 30 then some (0x12, 8) else none

/-- The words of an NVMe or block entry that hold reserved bits. -/
def nvmeReserved (w : List Word) (flags : Nat) : Option Nat :=
  reservedWord w ([(0, flags), (20, 0xFF), (21, 0), (22, 0), (23, 0)] ++ (List.range (wd w 20 % 256)).map fun k => (27 + 4 * k, 0))

/-- The status and reason with which an NVMe entry fails its checks (R523). -/
def nvmeFault (w : List Word) : Option (Nat × Nat) :=
  let dir := wd w 4 % 4
  if segsBad (nvmeSegs w) (wd w 2) (dir = 0) then some (0x11, 0)
  else match nvmeReserved w 0x8002FFFF with
    | some k => some (0x12, k)
    | none =>
      if wd w 2 > 1048576 || (dir = 0 && wd w 2 != 0) then some (0x12, 2)
      else if dir = 3 then some (0x12, 4)
      else if wd w 20 % 256 > 16 then some (0x12, 20)
      else none

/-- The status and reason with which a block entry fails its checks (R524, R525). -/
def blockEntryFault (c : Conn) (w : List Word) : Option (Nat × Nat) :=
  let op := wd w 4 % 4
  let blocks := wd w 7
  let lba := dwd w 5
  let window := c.par 4 + c.par 5 * 2 ^ 32
  if segsBad (nvmeSegs w) (wd w 2) (op = 2) then some (0x11, 0)
  else match nvmeReserved w 0x8003FFFF with
    | some k => some (0x12, k)
    | none =>
      if wd w 2 > 1048576 || wd w 2 != blocks * c.blockBytes then some (0x12, 2)
      else if !fits (wd w 4) 3 then some (0x12, 4)
      else if (op = 2 && blocks != 0) || (op != 2 && (blocks = 0 || blocks > 256)) then some (0x12, 7)
      else if op != 2 && lba + blocks > window then some (0x12, 5)
      else if wd w 20 % 256 > 16 then some (0x12, 20)
      else none

/-- The opcodes that a ring of a connection takes (R520, R523, R524). -/
def Conn.takes (c : Conn) (recv : Bool) (op : Nat) : Bool :=
  match c.kind with
  | .qp => if recv then op = 0x1210 else 0x1200 ≤ op && op ≤ 0x1204
  | .nvme => op = 0x1220
  | .local => op = 0x1230

/-- The status with which a connection that has failed completes a fetched entry (R516, R526). -/
def Conn.deadStatus (c : Conn) : Nat :=
  match c.kind with
  | .qp => 0x0206
  | .nvme => 0x0210
  | .local => 0x0101

/-- An entry of a work ring is fetched (R498, R520 to R525). -/
def State.workEntry (s : State) (q : Nat) (w : List Word) : State :=
  match (s.ringConn q).bind fun c => (s.conn c).map fun v => (c, v) with
  | none => s
  | some (c, v) =>
    let recv := v.send != q
    let need := if v.kind == .qp then (12 + 4 * (wd w 8 % 256) + 15) / 16 else (24 + 4 * (wd w 20 % 256) + 15) / 16
    s.readEntry q 4 w (v.takes recv) need fun len =>
      let fault := match v.kind with
        | .qp => rdmaFault w
        | .nvme => nvmeFault w
        | .local => blockEntryFault v w
      match fault with
      | some (st, k) => s.endEntry q len w st k
      | none =>
        if v.state = 4 then
          let s := if v.kind == .qp then s.bump R.PSQ_FLUSHED else s
          s.endEntry q len w v.deadStatus 0
        else
          let x := s.q q
          let w0 := wd w 0
          let e : WorkEntry := { q := q, gen := x.qgen, iid := x.iid, igen := (s.inst x.iid).gen, index := x.fi, units := len, words := w }
          let s := s.takeUnits q len w0 (field (wd w 1) 31 16) (bitAt w0 17 || x.notifyAll)
          let s := if recv then { s with psq := { s.psq with recvs := insertKey s.psq.recvs q (lookupD s.psq.recvs q [] ++ [e]) } }
            else s.setConn c { v with entries := v.entries ++ [e] }
          (s.trigger v.group { kind := 1, conn := c, gen := (s.inst v.owner).gen }).fetched q

/-- WORK_ENTRY_FETCH (R498). -/
def execWorkEntryFetch (qid : BitVec 16) (words : List Word) (s : State) : Host.Outcome State Fault Refusal := .next (s.workEntry qid.toNat words)

/-! ## Microcode (R511 to R514) -/

/-- The micro-words and nanowords that a microcode image's counts give. -/
def ucodeCounts (img : List Byte) : Nat × Nat :=
  let m := field (imgWord img 17) 13 0
  let n := field (imgWord img 18) 11 0
  (if m = 0 then 16384 else m, if n = 0 then 2048 else n)

/-- IMAGE_LAYOUT (R511). -/
def ucodeLayout (img : List Byte) : Option Nat :=
  let (m, n) := ucodeCounts img
  let bytes := (64 + 4 * m + 32 * n + 63) / 64 * 64
  let used := 128 + 4 * m + 32 * n
  if imgWord img 16 != 0x50535155 || !fits (imgWord img 17) 0xFFFF3FFF || !fits (imgWord img 18) 0xFFF || n > 2048
      || (List.range 4).any (fun k => !fits (imgWord img (19 + k)) 0x3FFF3FFF) || (List.range 9).any (fun k => imgWord img (23 + k) != 0)
      || imgWord img 2 != bytes || (slice img used (64 + bytes - used)).any (· != 0#8) then some 0x0F01
  else none

/-- The bank of an image (R502, R511). -/
def ucodeOf (img : List Byte) : Ucode :=
  let (m, n) := ucodeCounts img
  let word := fun k => w32 (imgWord img k)
  { staged := true, format := field (imgWord img 17) 31 16
    entries := (List.range 4).flatMap fun j => [field (imgWord img (19 + j)) 13 0, field (imgWord img (19 + j)) 29 16]
    micro := (List.range m).map fun k => word (32 + k)
    nano := (List.range n).map fun k => (List.range 8).map fun i => word (32 + m + 8 * k + i) }

/-- The MRAM offset of a group's slot in a bank (R320). -/
def ucodeSlot (bank g : Nat) : Nat := 0x100000 * (bank + 1) + g * 0x40000

/-- The groups of a mask. -/
def maskGroups (m : Nat) : List Nat := (List.range 4).filter (bitAt m)

/-- PSQ_UCODE_STAGE (R512). -/
def psqUcodeStageSpec : CmdSpec where
  opcode := 0x0800
  needs := fun _ => 4
  locks := fun _ c => [⟨.group, c.p 0⟩]
  indirect := false
  noGen := false
  body := fun c s =>
    c.checked s [(0, 0xF)] fun _ =>
      let img := slice c.data 0 (c.p 3)
      guards [(c.p 0 = 0, fun _ => badP s 0), (c.p 1 % 64 != 0, fun _ => badP s 1), (c.p 3 = 0 || c.p 3 > 0x40000, fun _ => badP s 3)] fun _ =>
        let s := s.readImage c none
        withClaims s ((maskGroups (c.p 0)).map fun g => (ucodeLock g, holderWord 0x0F 0x01 c.mid)) fun s' =>
          let drop := fun (_ : Unit) => s
          withImage (drop ()) (s.imageFault 2 img ucodeLayout 7) fun _ =>
            .pend ((maskGroups (c.p 0)).foldl (fun s g => s.markMram (ucodeSlot (1 - (s.group g).active) g) true) s')

/-- PSQ_UCODE_STAGE (R512). -/
def execPsqUcodeStage (e : AdminEntry) (s : State) : Host.Outcome State Fault Refusal := .next (s.runCmd psqUcodeStageSpec e)

/-- The image is in the inactive banks of group g (R512). -/
def State.stageGroup (s : State) (img : List Byte) (g : Nat) : State :=
  let v := s.group g
  let b := 1 - v.active
  let s := s.putMram (ucodeSlot b g) img
  (s.setGroup g { v with banks := insertKey v.banks b { ucodeOf img with verified := true, bodyCrc := imgBodyCrc img } }).dropClaim (ucodeLock g)

/-- UCODE_STAGE_END (R512), of the command that names a group. -/
def execUcodeStageEnd (group : Fin 4) (s : State) : Host.Outcome State Fault Refusal :=
  .next <|
    match s.findPend (fun p => p.cmd.opcode = 0x0800 && bitAt (p.cmd.p 0) group.val) with
    | none => s
    | some p =>
      let gs := maskGroups (p.cmd.p 0)
      let b := 1 - (s.group (gs.headD 0)).active
      (gs.foldl (fun s g => s.stageGroup (slice p.cmd.data 0 (p.cmd.p 3)) g) s).finish p 0 0 (results [b])

/-- PSQ_BANK_SWAP (R514). -/
def psqBankSwapSpec : CmdSpec where
  opcode := 0x0801
  needs := fun _ => 1
  locks := fun _ c => [⟨.group, c.p 0⟩]
  indirect := false
  noGen := false
  body := fun c s =>
    c.checked s [(0, 0xF)] fun _ =>
      let gs := maskGroups (c.p 0)
      let other := fun g => (s.group g).bank (1 - (s.group g).active)
      guards [(c.p 0 = 0, fun _ => badP s 0), (gs.any fun g => (s.group g).swapping, fun _ => refuse s 0x0F02),
          (gs.any fun g => !(other g).staged, fun _ => refuse s 0x0F03),
          (gs.any fun g => (s.group g).started && (other g).format != ((s.group g).bank (s.group g).active).format, fun _ => refuse s 0x0F04)] fun _ =>
        withClaims s (gs.map fun g => (ucodeLock g, holderWord 0x0F 0x02 c.mid)) fun s =>
          .pend (gs.foldl (fun s g => s.setGroup g { s.group g with swapping := true, switched := [] }) s)

/-- PSQ_BANK_SWAP (R514): sequencers without a routine switch at once. -/
def execPsqBankSwap (e : AdminEntry) (s : State) : Host.Outcome State Fault Refusal :=
  .next ((List.range 4).foldl State.settleSwap (s.runCmd psqBankSwapSpec e))

/-! ## Connections (R516, R526, R527) -/

/-- The QID of a local queue that may become a work ring of a connection. -/
def State.freeRing (s : State) (i loc : Nat) : Option Nat :=
  (s.findQ i loc).filter fun q => (s.q q).type = 4 && (s.q q).state = 1 && (s.ringConn q).isNone

/-- The QID of a local queue that may become, or already is, a receive ring of queue pairs of instance i. -/
def State.recvRing (s : State) (i loc : Nat) : Option Nat :=
  (s.findQ i loc).filter fun q => (s.q q).type = 4 && (s.q q).state = 1
    && s.psq.conns.all fun e => e.2.send != q && (e.2.recv != q || (e.2.kind == .qp && e.2.owner = i))

/-- A group that runs no bank or has no member left (R513, R529). -/
def State.groupDown (s : State) (g : Nat) : Bool := !(s.group g).started || (s.seqFor g 0).isNone

/-- A connection is created, its number left open (log entry 2), with its trigger of kind 4 and its rings fetched (R498, R526). -/
def State.newConn (s : State) (v : Conn) (body : Nat → State → Res) : Res :=
  guards [(s.groupDown v.group, fun _ => refuse s 0x0F0B), (decide (s.connCount ≥ 65534), fun _ => refuse s 0x0F0C)] fun _ =>
    let (d, s) := s.draw
    match searchFrom (fun k => (s.conn (k + 2)).isNone) 65534 d 65534 with
    | none => refuse s 0x0F0C
    | some k =>
      let c := k + 2
      let s := (s.setConn c v).trigger v.group { kind := 4, conn := c, gen := v.gen }
      body c ((s.ensureFetch v.send).ensureFetch v.recv)

/-- The parameter words of a command, by number. -/
def Cmd.byNumber (c : Cmd) (lo n : Nat) : NMap Word := (List.range n).map fun k => (lo + k, w32 (c.p (lo + k)))

/-- RDMA_QP_CREATE (R526). -/
def rdmaQpCreateSpec : CmdSpec where
  opcode := 0x0810
  needs := fun _ => 3
  locks := fun _ _ => []
  indirect := false
  noGen := false
  body := fun c s =>
    c.checked s [(1, 0x3001F), (2, 0xFFFF)] fun _ =>
      let i := c.target
      let none_ := c.p 0 = 0xFFFFFFFF
      let send := s.freeRing i (c.p 0 % 2 ^ 16)
      let recv := s.recvRing i (field (c.p 0) 31 16)
      guards [(field (c.p 1) 4 0 > 16, fun _ => badP s 1),
          (!none_ && (send.isNone || recv.isNone || send == recv), fun _ => refuse s 0x0F05)] fun _ =>
        s.newConn { kind := .qp, group := field (c.p 1) 17 16, owner := i, gen := (s.inst i).gen, leaf := c.p 2
                    send := if none_ then 65536 else send.getD 65536, recv := if none_ then 65536 else recv.getD 65536
                    params := [(101, w32 (field (c.p 1) 4 0))] } fun n s => .ok s (results [n])

/-- RDMA_QP_CREATE (R526). -/
def execRdmaQpCreate (e : AdminEntry) (s : State) : Host.Outcome State Fault Refusal := .next (s.runCmd rdmaQpCreateSpec e)

/-- The connection of a kind that a command names and its target owns. -/
def State.ownConn (s : State) (c : Cmd) (n : Nat) (kind : ConnKind) : Option Conn :=
  (s.conn n).filter fun v => v.kind == kind && v.owner = c.target && !v.closing

/-- The transitions that RDMA_QP_MODIFY may ask for (R516). -/
def qpMove (old new : Nat) : Bool :=
  (old = 1 && new = 2) || (old = 2 && new = 3) || (1 ≤ old && old ≤ 3 && new = 4) || (old = 4 && new = 0) || (old = 0 && new = 1)

/-- Queue pair n moves to a state (R516, R526). -/
def State.qpMoved (s : State) (c : Cmd) (n : Nat) (v : Conn) (new : Nat) : State :=
  let keep := fun (lo k : Nat) => c.byNumber lo k ++ v.params.filter fun e => !(lo ≤ e.1 && e.1 < lo + k)
  let s := match new with
    | 2 => s.setConn n { v with state := 2, params := keep 1 15, epsn := c.p 3, nakSent := false, unacked := 0, msn := 0 }
    | 3 => s.setConn n { v with
        state := 3, params := keep 16 2, una := c.p 16, nxt := c.p 16, retries := field (c.p 17) 10 8, rnr := field (c.p 17) 14 12 }
    | 4 => s.qpError n
    | 0 =>
      let s := (s.ssWrite internalSsid (connOff n) (List.replicate 256 0#8)).2
      s.setConn n { kind := .qp, group := v.group, owner := v.owner, gen := v.gen, send := v.send, recv := v.recv, leaf := v.leaf, state := 0
                    params := v.params.filter (·.1 = 101) }
    | _ => s.setConn n { v with state := 1 }
  s.trigger v.group { kind := 5, conn := n, gen := (s.inst v.owner).gen }

/-- RDMA_QP_MODIFY (R516, R526). -/
def rdmaQpModifySpec : CmdSpec where
  opcode := 0x0811
  needs := fun _ => 18
  locks := fun _ c => [⟨.conn, c.p 0 % 2 ^ 16⟩]
  indirect := false
  noGen := false
  body := fun c s =>
    let n := c.p 0 % 2 ^ 16
    let new := field (c.p 0) 18 16
    c.checked s ([(0, 0x7FFFF)] ++ (if new = 2 then [(1, 0xFFFC1F), (2, 0xFFFFFF), (3, 0xFFFFFF), (15, 0xFFFF)] else [])
        ++ (if new = 3 then [(16, 0xFFFFFF), (17, 0x1F771F)] else [])) fun _ =>
      guards [(new > 4, fun _ => badP s 0), (new = 2 && (c.p 1 % 8 = 0 || c.p 1 % 8 > 5), fun _ => badP s 1)] fun _ =>
        match s.ownConn c n .qp with
        | none => notFound s
        | some v => if !qpMove v.state new then refuse s 0x0F07 else .ok (s.qpMoved c n v new) []

/-- RDMA_QP_MODIFY (R516, R526). -/
def execRdmaQpModify (e : AdminEntry) (s : State) : Host.Outcome State Fault Refusal := .next (s.runCmd rdmaQpModifySpec e)

/-- Commands that destroyed a connection which is gone get their final replies. -/
def State.finishGone (s : State) : State :=
  (s.cmds.pend.filter fun p => (p.cmd.opcode = 0x0812 || p.cmd.opcode = 0x0821 || p.cmd.opcode = 0x0831)
      && (s.conn (p.cmd.p 0 % 2 ^ 16)).isNone).foldl (fun s p => s.finish p 0 0 []) s

/-- A command that destroys a connection of a kind. -/
def destroySpec (op : Nat) (kind : ConnKind) (close : Nat → State → State) : CmdSpec where
  opcode := op
  needs := fun _ => 1
  locks := fun _ c => [⟨.conn, c.p 0 % 2 ^ 16⟩]
  indirect := false
  noGen := false
  body := fun c s =>
    c.checked s [(0, 0xFFFF)] fun _ =>
      match s.ownConn c (c.p 0) kind with
      | none => notFound s
      | some _ => .pend (close (c.p 0) s)

/-- RDMA_QP_DESTROY (R526). -/
def execRdmaQpDestroy (e : AdminEntry) (s : State) : Host.Outcome State Fault Refusal :=
  .next ((s.runCmd (destroySpec 0x0812 .qp fun n s => s.closeConn n 0x0206) e)).finishGone

/-- RDMA_MR_REGISTER (R526). -/
def rdmaMrRegisterSpec : CmdSpec where
  opcode := 0x0813
  needs := fun _ => 5
  locks := fun _ _ => []
  indirect := false
  noGen := false
  body := fun c s =>
    c.checked s [(4, 0xFFFFF807)] fun _ =>
      let i := c.target
      let len := c.p 2 + c.p 3 * 2 ^ 32
      let mine := (s.psq.regions.filter (·.2.owner = i)).length
      guards [(len = 0 || len > 2 ^ 40, fun _ => badP s 2), (decide (mine ≥ 65536), fun _ => refuse s 0x0F08),
          (decide (s.psq.regions.length ≥ 1048576), fun _ => noResource s)] fun _ =>
        let (d, s) := s.draw
        let (v, s) := s.draw
        match searchFrom (fun k => (lookup s.psq.regions k).isNone) 1048576 d 1048576 with
        | none => noResource s
        | some k =>
          let m : MemRegion := { variant := v % 256, owner := i, addr := c.p 0 + c.p 1 * 2 ^ 32, bytes := len, rights := c.p 4 % 8, pasid := field (c.p 4) 31 11 }
          .ok { s with psq := { s.psq with regions := insertKey s.psq.regions k m } } (results [k * 256 + v % 256])

/-- RDMA_MR_REGISTER (R526). -/
def execRdmaMrRegister (e : AdminEntry) (s : State) : Host.Outcome State Fault Refusal := .next (s.runCmd rdmaMrRegisterSpec e)

/-- RDMA_MR_DEREGISTER (R526). -/
def rdmaMrDeregisterSpec : CmdSpec where
  opcode := 0x0814
  needs := fun _ => 1
  locks := fun _ c => [⟨.mr, c.p 0⟩]
  indirect := false
  noGen := false
  body := fun c s =>
    match (s.region? (c.p 0)).filter (·.owner = c.target) with
    | none => notFound s
    | some m => .pend { s with psq := { s.psq with regions := insertKey s.psq.regions (c.p 0 / 256) { m with valid := false } } }

/-- RDMA_MR_DEREGISTER (R526): it ends at once where no transfer uses the key. -/
def execRdmaMrDeregister (e : AdminEntry) (s : State) : Host.Outcome State Fault Refusal := .next (s.runCmd rdmaMrDeregisterSpec e).settleKeys

/-- An association of a protocol that the target instance owns (R526, R544). -/
def State.assocFor (s : State) (c : Cmd) (a proto : Nat) : Bool :=
  let r := s.assoc a
  safValid r && safOwner r = c.target && safProto r = proto

/-- NVME_CTRL_CONNECT (R526). -/
def nvmeCtrlConnectSpec : CmdSpec where
  opcode := 0x0820
  needs := fun _ => 16
  locks := fun _ c => if bitAt (c.p 0) 24 then [⟨.conn, c.p 1 % 2 ^ 16⟩] else []
  indirect := false
  noGen := false
  body := fun c s =>
    c.checked s [(0, 0x103FFFF), (1, 0xFFFF), (10, 0xF), (11, 0xFFFFF)] fun _ =>
      let i := c.target
      let roce := bitAt (c.p 0) 24
      let tls := !roce && bitAt (c.p 10) 3
      let qp := s.ownConn c (c.p 1) .qp
      let used := s.psq.conns.any fun e => e.2.kind == .nvme && bitAt (e.2.par 0) 24 && e.2.par 1 = c.p 1
      let qpBad := match qp with
        | some v => v.state != 3 || v.send != 65536 || v.recv != 65536 || used
        | none => false
      let ring := s.freeRing i (c.p 0 % 2 ^ 16)
      guards [(field (c.p 15) 31 16 = 0 || field (c.p 15) 31 16 > 1024, fun _ => badP s 15),
          (roce && qp.isNone, fun _ => notFound s), (tls && !s.assocFor c (c.p 11) 3, fun _ => notFound s),
          (ring.isNone, fun _ => refuse s 0x0F05), (roce && qpBad, fun _ => refuse s 0x0F07)] fun _ =>
        s.newConn { kind := .nvme, group := field (c.p 0) 17 16, owner := i, gen := (s.inst i).gen, leaf := c.p 15 % 2 ^ 16, connected := roce
                    send := ring.getD 65536, params := c.byNumber 0 16 } fun n s =>
          if roce then .ok s (results [n]) else .pendNote s [n]

/-- NVME_CTRL_CONNECT (R526). -/
def execNvmeCtrlConnect (e : AdminEntry) (s : State) : Host.Outcome State Fault Refusal := .next (s.runCmd nvmeCtrlConnectSpec e)

/-- NVME_CTRL_DISCONNECT (R526). -/
def execNvmeCtrlDisconnect (e : AdminEntry) (s : State) : Host.Outcome State Fault Refusal :=
  .next ((s.runCmd (destroySpec 0x0821 .nvme fun n s => s.closeConn n 0x0210) e)).finishGone

/-- Two ranges of blocks meet. -/
def meets (a n b m : Nat) : Bool := decide (a < b + m) && decide (b < a + n)

/-- NVME_LOCAL_NS_ATTACH (R526). -/
def nvmeLocalNsAttachSpec : CmdSpec where
  opcode := 0x0830
  needs := fun _ => 8
  locks := fun _ _ => []
  indirect := false
  noGen := false
  body := fun c s =>
    c.checked s [(0, 0x3FFFF), (6, 0x800FFFFF), (7, 3)] fun _ =>
      let i := c.target
      let ring := s.freeRing i (c.p 0 % 2 ^ 16)
      let above := s.psq.conns.any fun e => e.2.kind == .local && e.2.drivePort = field (c.p 0) 17 16 && e.2.par 1 = c.p 1
        && meets (c.p 2 + c.p 3 * 2 ^ 32) (c.p 4 + c.p 5 * 2 ^ 32) (e.2.par 2 + e.2.par 3 * 2 ^ 32) (e.2.par 4 + e.2.par 5 * 2 ^ 32)
      guards [(bitAt (c.p 6) 31 && !s.assocFor c (field (c.p 6) 19 0) 4, fun _ => notFound s), (ring.isNone, fun _ => refuse s 0x0F05),
          (above, fun _ => refuse s 0x0F09)] fun _ =>
        s.newConn { kind := .local, group := c.p 7, owner := i, gen := (s.inst i).gen, connected := true, send := ring.getD 65536
                    params := c.byNumber 0 8 } fun n s => .ok s (results [n])

/-- NVME_LOCAL_NS_ATTACH (R526). -/
def execNvmeLocalNsAttach (e : AdminEntry) (s : State) : Host.Outcome State Fault Refusal := .next (s.runCmd nvmeLocalNsAttachSpec e)

/-- A local attachment is being detached: entries that no drive holds complete ABORTED, the others when their drive answers (R526). -/
def State.detach (s : State) (n : Nat) : State :=
  match s.conn n with
  | none => s
  | some v =>
    let held := fun (e : WorkEntry) => s.psq.drive.any fun d => d.conn = n && d.entry == some e.index
    let free := v.entries.filter fun e => !held e
    let s := s.setConn n { v with entries := v.entries.filter held, closing := true, state := 4 }
    let s := free.foldl (fun s e => s.completeWork e [] 0x0101 0) s
    let s := if (s.group v.group).started then s.trigger v.group { kind := 6, conn := n, gen := (s.inst v.owner).gen } else s
    s.settleConn n

/-- NVME_LOCAL_NS_DETACH (R526). -/
def execNvmeLocalNsDetach (e : AdminEntry) (s : State) : Host.Outcome State Fault Refusal :=
  .next ((s.runCmd (destroySpec 0x0831 .local fun n s => s.detach n) e)).finishGone

end Sys2Proof.Machine
end

