-- ==== Sys2Proof/Machine/OpsBoot.lean ====
section
/-! DEFINITION. Fundamental reset, secure boot and the application of a snapshot (R11, R48 to R73, R765, R766, R780, R782). -/

namespace Sys2Proof.Machine

/-! ## The board record and the straps (R764 to R766) -/

/-- The default management MAC address: 0x02 and the low 40 bits of the serial number, first byte in bits [7:0]. -/
def defaultMac : Nat := leNat (2#8 :: beBytes 5 (Config.serial.toNat % 2 ^ 40))

/-- The straps are sampled (R765). -/
def State.sampleStraps (s : State) : State :=
  let v := s.pwr.strapBoot + b2n s.pwr.strapRetainN * 4 + b2n s.pwr.strapMgpDis * 8
  (s.setReg R.PWR_STRAPS v).setF F.GLB_RESET_CFG_service_retention (b2n s.pwr.strapRetainN)

/-- What the board record sets when auxiliary supplies are good (R766): a value that its register refuses leaves the default. -/
def State.readBoard (s : State) : State :=
  let mac := match s.boardWord 2, s.boardWord 3 with
    | some lo, some hi => lo + hi % 2 ^ 16 * 2 ^ 32
    | _, _ => defaultMac
  let addr := field ((s.boardWord 4).getD 0x320000) 22 16
  let limit := ((s.boardWord 6).getD 250) % 2 ^ 16
  let s := { s with mgp := { s.mgp with mac := mac } }
  let s := if 0x08 ≤ addr && addr ≤ 0x77 then s.setF F.MGP_SMB_CFG_addr addr else s
  s.setF F.PWR_LIMIT_limit_w (if 100 ≤ limit && limit ≤ 300 then limit else 250)

/-! ## Fundamental reset (R11, R73) -/

/-- What stays of the start-up state. -/
def Boot.kept (b : Boot) : Boot := {
  fuses := b.fuses
  perst := b.perst
  bankA := b.bankA
  bankB := b.bankB
  wakeArmed := b.wakeArmed
  wakeAsserted := b.wakeAsserted
  thermLow := b.thermLow
  heldEs := b.heldEs }

/-- Retired resources stay retired (R738). -/
def State.reapplyRetired (s : State) : State :=
  let out := s.ras.retired ++ s.ras.running
  let s := { s with mac := { s.mac with retired := (out.filter (resKind · = 1)).map resIndex } }
  let s := out.foldl (fun s r =>
    let i := resIndex r
    match resKind r with
    | 4 => s.setCl (i / 8) { s.cl (i / 8) with retired := (s.cl (i / 8)).retired ++ [i % 8] }
    | 5 => s.setSeq i { s.seq i with retired := true }
    | 6 => s.lanEnter i 8
    | _ => s) s
  s.showRetired

/-- Slots whose presence is sensed are Off after a reset (R171). -/
def State.senseSlots (s : State) (old : NMap Slot) : State :=
  old.foldl (fun s e => if e.2 == .empty then s else (s.setSlot e.1 .off).setF (F.DNP_SLOT_STATUS_presence e.1) 1) s

/-- A fundamental reset: of the power-on domains of CI00 to CI46 when main supplies leave, of every domain but COLD otherwise (R11, R73). -/
def State.wipe (s : State) (power : Bool) : State :=
  let mode := s.reg R.GLB_MODE
  let slots := s.host.slots
  let s := s.resetRegs fun d i => d.dom != .cold || (power && decide (islandOf d i < 47))
  let s := s.setReg R.GLB_MODE (mode % 8 + field mode 6 4 * 2 ^ 4 + field mode 15 8 * 2 ^ 8)
  let t := s.time
  let s := { s with
    boot := s.boot.kept, cmds := {}, host := {}, queues := [], dma := {}, evc := {}, buoy := {}, insts := [], mem := { mram := s.mem.mram }
    pgr := {}, bpm := {}, prs := {}, cls := {}, tbl := {}, swx := {}, pipe := {}, clv := {}, psq := {}, saf := {}, frs := {}, mac := {}
    lan := {}, spr := {}, mgp := { s.mgp with waiting := [] }, tst := { dbgMin := s.tst.dbgMin }
    time := if power then { dmPhase := t.dmPhase, alarmBall := t.alarmBall, alarmWake := t.alarmWake, alarmHeld := t.alarmHeld } else t }
  s.reapplyRetired.senseSlots slots

/-! ## The start of secure boot and of the ROM recovery loader (R51, R52, R66, R777) -/

/-- Secure boot begins, at step 1 or at step 2 of R64. -/
def State.bootStart (s : State) (cause : Nat) : State :=
  let s := ((s.setMode 1 cause).setF F.GLB_MODE_rom_recovery 0).pairsUp
  (s.setF F.GLB_BOOT_STATUS_step 1).raiseEs 0

/-- The ROM recovery loader starts. -/
def State.loaderStart (s : State) : State :=
  ((s.setMode 5 0x03).setF F.GLB_MODE_rom_recovery 1).pairsUp.raiseEs 0

/-! ## Firmware banks (R58 to R66, R82, R92) -/

/-- MRAM offset of firmware bank b. -/
def bankAt (b : Nat) : Nat := 0x4000000 + b * 0x2000000

/-- The image in an MRAM area of a size, as its header gives its length; its header alone where that does not fit. -/
def State.imageAt (s : State) (a size : Nat) : List Byte :=
  let n := Mem.word s.mem.mram (a + 8)
  Mem.bytes s.mem.mram a (if 64 + n + 1088 ≤ size then 64 + n + 1088 else 64)

/-- Why a firmware bank does not verify at boot (R62, R63): the fail_reason of GLB_BOOT_STATUS. -/
def State.bankFault (s : State) (b : Nat) : Option Nat :=
  let img := s.imageAt (bankAt b) 0x2000000
  if imgHeaderBad 1 img || img.length ≤ 64 then some 0x06
  else
    let n := imgWord img 2
    let slot := field (imgWord img 1) 23 16
    if !slotServes 1 slot || !s.signed slot (slice img 0 (64 + n)) (slice img (64 + n) 1088) then some 0x1A
    else if field (imgWord img 1) 15 0 < lookupD s.boot.fuses 1 0 then some 0x07
    else none

/-- What is known of bank b. -/
def State.bank (s : State) (b : Nat) : BankInfo := if b = 0 then s.boot.bankA else s.boot.bankB

/-- s with what is known of bank b replaced. -/
def State.setBank (s : State) (b : Nat) (v : BankInfo) : State :=
  { s with boot := if b = 0 then { s.boot with bankA := v } else { s.boot with bankB := v } }

/-- Bank b is verified at boot: the verdict is noted, and its valid bit or its reason shown. -/
def State.bankCheck (s : State) (b : Nat) : Bool × State :=
  match s.bankFault b with
  | some r => (false, ((s.setBank b { verified := false, staged := false, bodyCrc := imgBodyCrc (s.imageAt (bankAt b) 0x2000000) }).setF
      (if b = 0 then F.GLB_BOOT_STATUS_bank_a_valid else F.GLB_BOOT_STATUS_bank_b_valid) 0).setF F.GLB_BOOT_STATUS_fail_reason r)
  | none => (true, (s.setBank b { s.bank b with verified := true, bodyCrc := imgBodyCrc (s.imageAt (bankAt b) 0x2000000) }).setF
      (if b = 0 then F.GLB_BOOT_STATUS_bank_a_valid else F.GLB_BOOT_STATUS_bank_b_valid) 1)

/-- The firmware of bank b. -/
def State.runningOf (s : State) (b : Nat) : Running :=
  let w := Mem.word s.mem.mram (bankAt b + 16)
  { bank := b, major := field w 31 16, minor := field w 15 0 }

/-- The bank that a pair boots: the one named active, else the other, which is a fallback (R65, R79, R90). Answers the bank. -/
def State.bootBank (s : State) : Option Nat × State :=
  let a := s.rf F.GLB_BOOT_STATUS_active_bank
  match s.bankCheck a with
  | (true, s) => (some a, s)
  | (false, s) =>
    match s.bankCheck (1 - a) with
    | (true, s) =>
      let s := if s.rfb F.GLB_BOOT_STATUS_fallback then s else (s.setF F.GLB_BOOT_STATUS_fallback 1).raiseEs 4
      (some (1 - a), s)
    | (false, s) => (none, s)

/-- A pair runs the firmware of a bank. -/
def State.setRunning (s : State) (p b : Nat) : State :=
  let r := s.runningOf b
  { s with boot := if p = 0 then { s.boot with runA := r } else { s.boot with runB := r } }

/-! ## Instance 0, microcode and device time (R276, R325, R513, R643, R645) -/

/-- Step 6: MEM_PART_CFG takes effect, the ranges of the device and of instance 0 are reserved, and instance 0 is Active. -/
def State.bootRanges (s : State) : State :=
  let s := (s.blkBoot 0x07).blkBoot 0x1F
  let s := s.fitCarve
  let n := s.rf F.PGR_INTERNAL_SIZE_v
  let s := (s.reserveRange internalSsid 0 n).reserveRange 0 n (s.rf F.PGR_MGR_SPACE_v)
  (s.setInst 0 { s.inst 0 with state := 2 }).clsCreate 0

/-- An image satisfies the four conditions of R62, whether or not its own format or the firmware's version admits it. -/
def State.imageVerifies (s : State) (type : Nat) (img : List Byte) : Bool :=
  match s.imageFault type img (fun _ => none) 0 with
  | none => true
  | some (_, r, _) => decide (r = 0x0008)

/-- Step 11 for a group: both banks are verified and loaded, and it starts on the bank named, else the other (R92, R513). -/
def State.bootGroup (s : State) (g : Nat) : State :=
  let img := fun b => s.imageAt (ucodeSlot b g) 0x40000
  let good := fun b => (s.imageFault 2 (img b) ucodeLayout 0).isNone
  let bank := fun b => { (if good b then ucodeOf (img b) else {}) with verified := s.imageVerifies 2 (img b), bodyCrc := imgBodyCrc (img b) }
  let a := b2n (bitAt s.bootInForce.1 (8 + g))
  s.setGroup g { banks := [(0, bank 0), (1, bank 1)], active := if good a then a else if good (1 - a) then 1 - a else a
                 started := good 0 || good 1 }

/-- Step 14: device time takes Daymark's instant, or starts at 0 (R619, R643), and firmware claims the alarm's ball again (R645). -/
def State.seedTime (s : State) : State :=
  let good := s.rfb F.TIM_DM_STATUS_daymark_valid
  let t := if good then s.dmSec * unitsPerSec + (s.rf F.TIM_DM_SUB_v * 10 ^ 9 * 2 ^ 32 / 2 ^ 15) / 2 ^ 24 * 2 ^ 24 else 0
  let s := ({ s with time := { s.time with running := true, t := t } }).setF F.TIM_STATUS_time_valid (b2n good)
  let h := holderWord 0x14 0x02 0
  if !s.time.alarmBall then s
  else match s.claimFault 0x01000000 h with
    | some (_, holder) => s.claimRefused 0x01000000 holder
    | none => s.takeClaims [(0x01000000, h)]

/-! ## Snapshots (R69 to R72, R322, R780) -/

/-- MRAM offset of snapshot slot k, and the bytes that its configuration may take. -/
def snapAt (k : Nat) : Nat := 0x800000 + k * 0xE00000
def snapMax : Nat := 0xE00000 - 64

/-- A slot's header. -/
def State.snapHeader (s : State) (k : Nat) : List Word := Mem.words s.mem.mram (snapAt k) 16

/-- A slot is valid. -/
def State.snapValid (s : State) (k : Nat) : Bool :=
  let w := s.snapHeader k
  wd w 0 = 0x4B5A534E && wd w 15 = (crc32c (wordsBytes (w.take 15))).toNat && decide (wd w 6 ≤ snapMax) &&
    wd w 7 = (crc32c (Mem.bytes s.mem.mram (snapAt k + 64) (wd w 6))).toNat

/-- The bits of a register that hold what software has set. -/
def cfgMask (d : RegDef) : Nat :=
  d.fields.foldl (fun n f => if f.acc == .rw || f.acc == .rwl then n + (2 ^ (f.hi + 1) - 2 ^ f.lo) else n) 0

/-- Registers that are no configuration: controls of BLK_CTL, selectors, DMA channel programs, and what the test unit drives. -/
def snapSkips (a : Nat) : Bool :=
  a % 2 ^ 20 < 8 || a / 2 ^ 20 = 0x03 || (a / 2 ^ 20 = 0x18 && a != R.TST_CLV_DBG_EN) || a = R.GLB_ISLAND_RST || a = R.QMG_CTX_SEL || a = R.INS_SEL
    || a = R.PGR_SSID_SEL || a = R.BPM_REQ_SEL || a = R.CLS_INST_SEL || a = R.TBL_SEL || a = R.TBL_VRF_SEL || a = R.SWX_CNT_SEL
    || a = R.SWX_POL_SEL || a = R.SAF_ASSOC_SEL || a = R.FRS_NODE_SEL || a = R.FRS_INST_SEL || a = R.TIM_SIDE_SEL || a = R.RAS_CNT_SEL
    || a = R.RCL_QUERY_RES || a = R.MEM_MRAM_PROT || a = R.INS_MGR_ADMIN_BASE_LO || a = R.INS_MGR_ADMIN_BASE_HI || a = R.INS_MGR_ADMIN_CFG

/-- Registers that commands of the manager set whole: a DMA channel's owner, a kind's thresholds (R231, R727). -/
def snapWhole (a : Nat) : Bool := (List.range 128).any (fun n => R.DMA_CH_OWNER n = a) || (List.range 9).any fun k => R.RAS_KIND_CFG k = a

/-- The configuration that a snapshot takes down. -/
def State.capture (s : State) (crc : Word) : SnapConfig where
  bodyCrc := crc
  regs := s.regs.filterMap fun e =>
    if snapWhole e.1 then some (e.1, 2 ^ 32 - 1, e.2.toNat)
    else match regDefAt e.1 with
    | some (d, _) => if cfgMask d = 0 || snapSkips e.1 then none else some (e.1, cfgMask d, e.2.toNat &&& cfgMask d)
    | none => none
  insts := (s.insts.filter fun e => e.1 != 0 && e.2.state != 0).map fun (e : Nat × Inst) =>
    (e.1, { quota := e.2.quota, adminBase := e.2.adminBase, adminLog2 := e.2.adminLog2, adminPasid := e.2.adminPasid })
  prs := { active := s.prs.active, shadow := s.prs.shadow }
  rules := s.cls.rules.filter fun e => e.2.valid && e.2.manager
  clsInst := lookup s.cls.insts 0
  tables := (s.tbl.tables.filter fun e => e.2.state == .live).map fun (e : Nat × EmTable) =>
    (e.1, { e.2 with entries := [], relocs := 0, flush := none, partner := 0xFF, learn := { e.2.learn with tokens := e.2.learn.rate, scan := 0, waits := false } })
  vrfs := s.tbl.vrfs.map fun (e : Nat × Vrf) => (e.1, { e.2 with flushing := false })
  lists := s.swx.lists
  paths := s.swx.paths
  tunnels := s.swx.tunnels
  mirrors := s.swx.mirrors
  policers := s.swx.policers
  nodes := (s.frs.nodes.filter fun e => !e.2.closing).map fun (e : Nat × Node) =>
    (e.1, { e.2 with frames := [], bytes := 0, deficit := 0, given := false, tokens := 0, next := none })
  gates := s.frs.gates.map fun (e : Nat × Gates) => (e.1, { e.2 with staged := [], pending := none })
  instDefault := s.frs.instDefault
  portMode := s.mac.mode
  mask100 := s.mac.mask100
  ports := s.mac.ports.map fun (e : Nat × LinePort) => (e.1, { cfg := e.2.cfg, lossless := e.2.lossless })
  carve0 := s.bpm.carve0
  carve1 := s.bpm.carve1
  quotas := s.bpm.quotas
  allowance := s.lan.allowance
  regions := (s.lan.regions.filter fun e => e.2.state != 0).map fun (e : Nat × Region) =>
    (e.1, { renter := e.2.renter, base := e.2.base, size := e.2.size, taps := e.2.taps, cap := e.2.cap })
  spr := { s.spr with joining := false, leaving := false, previous := none, ports := [], chans := [], held := [], upstream := none }
  pps := (s.reg R.TIM_PPS_STATUS, s.time.ppsWidth)
  subs := (s.frs.subs.filter fun e => e.2.owner = 0).map fun (e : Nat × Telemetry) => (e.1, { e.2 with stats := [] })
  wide := numsWhere 16 fun k => (s.cl k).wide
  grants := (s.mem.grants.filter fun g => !s.mem.vacating.contains g.1).map (·.2)
  wins := s.host.wins.filter fun e => e.2.enabled
  claims := s.cmds.claims.filter fun c => let f := field c.2 28 16; f = 0x1101 || f = 0x1201 || f = 0x1401

/-- A claim that restored configuration needs is taken, or refused (R131), and what needs it is left off. -/
def State.restoreClaim (s : State) (c : Nat × Nat) : State :=
  match s.claimFault c.1 c.2 with
  | none => s.takeClaim c.1 c.2
  | some (_, holder) =>
    let s := s.claimRefused c.1 holder
    let p := c.1 % 2 ^ 24
    match field c.2 28 16 with
    | 0x1101 => s.setGates p { s.gates p with oper := {}, claimed := false }
    | 0x1201 => s.setPort p { s.port p with lossless := [] }
    | _ => s.setReg R.TIM_PPS_STATUS 0

/-- A region granted to peers is granted again (R341). -/
def State.restoreGrant (s : State) (g : Nat × Nat) : State :=
  match s.grantRegion g.1 g.2 with
  | .pend t => t.settleMoves
  | _ => s

/-- A window that was in force is in force again where R163 allows it. -/
def State.restoreWin (s : State) (n : Nat) (w : PeerWin) : State :=
  if (s.winFault n w).isSome then s
  else { s with host := { s.host with wins := insertKey s.host.wins n w } }.setF (F.HST_PEER_WIN_CTL_active_enable n) 1

/-- A region is assigned again, where its renter exists and its range lies inside the renter's (R681). -/
def State.restoreRegion (s : State) (r : Nat) (v : Region) : State :=
  let (base, size) := s.rangeOf v.renter
  if (s.region r).state != 0 || (s.inst v.renter).state = 0 || decide (v.base + v.size > size) then s
  else ((s.setRegion r v).reserveRange (0x800 + r) (base + v.base) v.size).lanEnter r 1

/-- Step 1 of R780: the configuration is written. -/
def State.restore (s : State) (c : SnapConfig) : State :=
  let s := c.regs.foldl (fun s e => s.setReg e.1 (s.reg e.1 - (s.reg e.1 &&& e.2.1) + e.2.2)) s
  let s := s.enterPortMode c.portMode c.mask100
  let s := c.ports.foldl (fun s e => s.setPort e.1 { s.port e.1 with cfg := e.2.cfg, lossless := e.2.lossless }) s
  let s := { s with
    prs := c.prs
    cls := { s.cls with rules := c.rules }
    tbl := { s.tbl with tables := c.tables, vrfs := c.vrfs }
    swx := { s.swx with lists := c.lists, paths := c.paths, tunnels := c.tunnels, mirrors := c.mirrors, policers := c.policers }
    frs := { s.frs with nodes := c.nodes, gates := c.gates, instDefault := c.instDefault, subs := c.subs }
    spr := { c.spr with ports := s.spr.ports }
    time := { s.time with ppsWidth := c.pps.2 }
    bpm := { s.bpm with carve0 := c.carve0, carve1 := c.carve1, quotas := c.quotas }
    lan := { s.lan with allowance := c.allowance } }
  let s := match c.clsInst with
    | some v => s.setClsInst 0 v
    | none => s
  let s := s.setF F.PRS_GRAPH_STATUS_nodes c.prs.active.count
  let s := c.wide.foldl (fun s k => s.setCl k { s.cl k with wide := true }) (s.setReg R.TIM_PPS_STATUS c.pps.1)
  let s := c.claims.foldl State.restoreClaim s
  let s := c.grants.foldl State.restoreGrant s
  (c.wins.foldl (fun s e => s.restoreWin e.1 e.2) s).settleUpstream.settleLines

/-- Step 2 of R780: an instance is created as by INS_CREATE, or skipped. -/
def State.recreate (s : State) (i : Nat) (v : Inst) : Bool × State :=
  if (s.inst i).state != 0 || (s.poolShort i v.quota true).isSome then (false, s)
  else (true, (s.makeInst i { s.inst i with quota := v.quota, adminBase := v.adminBase, adminLog2 := v.adminLog2, adminPasid := v.adminPasid }).2.2)

/-- A snapshot slot is applied (R780). A configuration that the model has not recorded sets nothing. -/
def State.applySnap (s : State) (k : Nat) : State :=
  let known := (lookup s.snaps k).filter fun c => c.bodyCrc.toNat = wd (s.snapHeader k) 7
  let s := match known with
    | some c => s.restore c
    | none => s
  let refused := ((List.range 0x1B).filter fun b => (s.blkFault b).isSome).length
  let s := (List.range 0x1B).foldl State.blkVerdict s
  let insts := match known with
    | some c => c.insts
    | none => []
  let (made, s) := insts.foldl (fun (n, s) e =>
    let (ok, s) := s.recreate e.1 e.2
    (n + b2n ok, s)) (0, s)
  let s := ((known.map (·.regions)).getD []).foldl (fun s e => s.restoreRegion e.1 e.2) s
  let s := (s.setF F.GLB_BOOT_STATUS_snapshot_applied 1).setReg R.GLB_SNAP_APPLY
    (2 ^ 31 + refused * 2 ^ 26 + made * 2 ^ 12 + (insts.length - made))
  s.raiseEs 8

/-- The slot that step 15 applies (R69). -/
def State.bootSnap (s : State) : Option Nat :=
  let ks := (List.range 4).filter fun k => s.snapValid k && bitAt (wd (s.snapHeader k) 1) 8
  let seq := fun k => wd (s.snapHeader k) 2
  (ks.find? fun k => seq k = latestSeq (ks.map seq)).filter fun k => field (wd (s.snapHeader k) 3) 31 16 = s.boot.fwMajor

/-- Step 15: boot is complete; the board record's debug level is set and locked (R754), and R52 goes on. -/
def State.bootDone (s : State) : State :=
  let s := (s.setF F.TST_DBG_CFG_level (((s.boardWord 5).getD 2) % 4)).setF (blkLock 0x18) 1
  let s := ({ s with boot := { s.boot with booted := true } }).raiseEs 2
  match s.bootSnap with
  | some k => (s.applySnap k).modeEvent (.service 0x06)
  | none => s

/-! ## The steps (R64 to R66, R782) -/

/-- Steps 3 and 4: the boot ROM streams a bank into the state cache, as far as its header gives its length (R64, R65). -/
def State.streamBank (s : State) (b : Nat) : State :=
  { s with mem := { s.mem with cache := Mem.write [] 0 (s.imageAt (bankAt b) 0x2000000) } }

/-- Step 7: firmware relocates itself to its LPDDR5X region, at the start of the firmware partition (R311; log entry 57), and releases the
state cache. -/
def State.relocate (s : State) : State :=
  let img := s.imageAt (bankAt (s.rf F.GLB_BOOT_STATUS_running_bank)) 0x2000000
  { s with mem := { s.mem with ddr := Mem.write s.mem.ddr 0 img, cache := [] } }

/-- Step n of R64. The load of step 4 ends with step 3, and the self-tests of step 9 leave nothing behind (log entry 57). -/
def State.bootAct (s : State) (n : Nat) : State :=
  let other := 1 - s.activePair
  match n with
  | 2 => s.setF F.GLB_BOOT_STATUS_active_bank (s.bootInForce.1 % 2)
  | 3 => s.streamBank (s.rf F.GLB_BOOT_STATUS_active_bank)
  | 5 =>
    match s.bootBank with
    | (some b, s) => ((s.streamBank b).setRunning s.activePair b).showRunning
    | (none, s) => ({ s with mem := { s.mem with cache := [] } }).loaderStart
  | 6 => s.bootRanges
  | 7 => s.relocate.logResume
  | 8 =>
    if s.pair other == .off then ((s.setPair other .booting).setRunning other (s.rf F.GLB_BOOT_STATUS_running_bank)).bankCheck
      (1 - s.rf F.GLB_BOOT_STATUS_running_bank) |>.2
    else s
  | 10 =>
    let (outcome, s) := s.calLoad
    s.log 7 { block := 0x14, code := outcome }
  | 11 => (List.range 4).foldl State.bootGroup s
  | 12 =>
    let w := (s.boardWord 4).getD 0
    let mode := if field w 10 8 ≤ 3 then field w 10 8 else 0
    let s := { s with boot := { s.boot with gated := false } }
    (s.enterPortMode mode (if mode = 3 then w % 256 else 0)).addRoot 8
  | 13 => if s.pair other == .booting then s.setPair other .ready else s
  | 14 => s.seedTime
  | 15 => s.bootDone
  | _ => s

/-- Secure boot goes on by one step, where it runs: the step shown is the last one reached. -/
def State.bootStep (s : State) : State :=
  let n := s.rf F.GLB_BOOT_STATUS_step + 1
  if s.mode != 1 || s.boot.booted || !s.mainOn || s.boot.keeperHalted || s.boot.frozen || s.rfb F.GLB_MODE_rom_recovery || n > 15 then s
  else (s.setF F.GLB_BOOT_STATUS_step n).bootAct n

end Sys2Proof.Machine
end

