-- ==== Sys2Proof/Machine/Power.lean ====
section
/-! DEFINITION. Meanings of the supplies, the power limit and the thermal events (R52, R758 to R771). -/

namespace Sys2Proof.Machine

/-! ## Main supplies (R52, R53, R321, R762, R763, R765) -/

/-- The MRAM writes that a PENDING command runs: offsets and bytes in their order. -/
def State.mramWrites (s : State) (p : PendCmd) : List (Nat × List Byte) :=
  match p.cmd.opcode with
  | 0x0020 => [(bankAt (1 - s.rf F.GLB_BOOT_STATUS_running_bank), slice p.cmd.data 0 (p.cmd.p 3))]
  | 0x0030 => [(snapAt (p.cmd.p 0 % 4) + 64, Config.freeBytes (p.note.getD 0 0)), (snapAt (p.cmd.p 0 % 4), List.replicate 64 0#8)]
  | 0x0800 => (maskGroups (p.cmd.p 0)).map fun g => (ucodeSlot (1 - (s.group g).active) g, slice p.cmd.data 0 (p.cmd.p 3))
  | 0x0B21 => (List.range 3).map fun k => (calOffset k, (wordsBytes (p.cmd.params.drop 16)).take 262144)
  | _ => []

/-- A run of writes stops after a number of 64-byte blocks (R321). -/
def State.writeBlocks (s : State) (ws : List (Nat × List Byte)) (blocks : Nat) : State :=
  (ws.foldl (fun (s, n) w =>
    let k := min n ((w.2.length + 63) / 64)
    (s.putMram w.1 (w.2.take (64 * k)), n - k)) (s, blocks)).1

/-- MRAM writes stop at a 64-byte boundary that is left open (R321, R763; log entry 2). -/
def State.cutWrites (s : State) : State :=
  s.cmds.pend.foldl (fun s p =>
    match s.mramWrites p with
    | [] => s
    | ws =>
      let total := ws.foldl (fun n w => n + (w.2.length + 63) / 64) 0
      let (v, s) := s.draw
      let s := s.writeBlocks ws (v % (total + 1))
      if p.cmd.opcode = 0x0030 then s.putMram (snapAt (p.cmd.p 0 % 4)) (List.replicate 64 0#8) else s) s

/-- Main supplies are lost: Standby (R52, R53, R763). -/
def State.mainLoss (s : State) : State :=
  if !s.mainOn then s
  else
    let s := ((s.cutWrites).wipe true).setMode 0 0x0F
    let s := { s with pwr := { s.pwr with limitCause := false, thermalCause := false } }
    s.setReg R.PWR_STATUS (s.reg R.PWR_STATUS &&& (2 ^ 30 + 2 ^ 29 + 2 ^ 27 + 2 ^ 26 + 0xF800))

/-- PERST# without service retention (R52, R73): the data path goes off and the device restarts at step 2 of R64. -/
def State.perstRestart (s : State) : State := ((s.cutWrites.wipe false).bootStart 0x05).raiseEs 67

/-- Main supplies are good (R51, R52, R149, R762, R765): the straps are sampled, the edges held meanwhile arrive, and secure boot or the ROM
recovery loader starts. -/
def State.mainGood (s : State) : State :=
  let s := (s.setReg R.PWR_STATUS (s.reg R.PWR_STATUS ||| (2 ^ 31 + 0x7FF))).sampleStraps
  let es := s.boot.heldEs
  let s := { s with boot := { s.boot with heldEs := [], wakeArmed := false, wakeAsserted := s.boot.wakeAsserted && s.boot.perst } }
  let s := es.reverse.foldl State.raiseEs s
  if s.pwr.strapBoot = 1 then s.loaderStart else s.bootStart 0x02

/-- The levels on the strap balls. -/
def State.setStraps (s : State) (boot : Nat) (retainN mgpDis : Bool) : State :=
  { s with pwr := { s.pwr with strapBoot := boot, strapRetainN := retainN, strapMgpDis := mgpDis } }

/-- MAIN_SUPPLIES_GOOD (R762, R764, R765): MAIN_PG is high and every rail confirmed, with these levels on the straps. Secure boot then goes on
with the device's own cycles (log entry 13). -/
def execMainSuppliesGood (strapBoot : BitVec 2) (strapRetainN strapMgpDis : Bool) (s : State) : Host.Outcome State Fault Refusal :=
  .next <|
    let s := { s with pwr := { s.pwr with mainPg := true } }
    if !s.rfb F.PWR_STATUS_aux_good || s.mainOn || s.rfb F.PWR_STATUS_seq_fault || s.rfb F.PWR_STATUS_tripped then s
    else (s.setStraps strapBoot.toNat strapRetainN strapMgpDis).mainGood

/-- MAIN_SUPPLIES_LOST (R763, R769): a sequencing fault and a trip end with the supplies. -/
def execMainSuppliesLost (s : State) : Host.Outcome State Fault Refusal :=
  .next <|
    let s := s.mainLoss
    let s := { s with pwr := { s.pwr with mainPg := false }, boot := { s.boot with thermLow := false } }
    (s.setF F.PWR_STATUS_seq_fault 0).setF F.PWR_STATUS_tripped 0

/-- SEQUENCING_FAULT (R762, R771). -/
def execSequencingFault (s : State) : Host.Outcome State Fault Refusal :=
  .next (if !s.rfb F.PWR_STATUS_aux_good || s.mainOn then s else (s.setF F.PWR_STATUS_seq_fault 1).raiseEs 504)

/-! ## Auxiliary supplies (R52, R764, R771) -/

/-- AUX_SUPPLIES_GOOD (R52, R73, R764 to R766): a power-on. -/
def execAuxSuppliesGood (strapBoot : BitVec 2) (strapRetainN strapMgpDis : Bool) (s : State) : Host.Outcome State Fault Refusal :=
  .next <|
    if s.rfb F.PWR_STATUS_aux_good then s
    else
      let s := s.resetRegs fun d i => islandOf d i = 47 && d.off / 2 ^ 20 != 0x14
      let s := (s.setReg R.GLB_MODE 0).setReg R.PWR_STATUS (2 ^ 30 + 0x3800)
      let s := { s with ras := {} }
      let s := ((s.setStraps strapBoot.toNat strapRetainN strapMgpDis).sampleStraps.readBoard).raiseEs 510
      let wake := s.time.alarmHeld
      let s := { s with time := { s.time with alarmHeld := false } }
      if s.pwr.mainPg then s.mainGood
      else
        let s := (s.setF F.GLB_MODE_cause 0x01).raiseEs 0
        if wake then ({ s with boot := { s.boot with wakeAsserted := true } }).raiseEs 77 else s

/-- AUX_SUPPLIES_LOST (R52, R764): as on loss of main supplies, then CI47 stops and only Daymark runs. -/
def execAuxSuppliesLost (s : State) : Host.Outcome State Fault Refusal :=
  .next <|
    if !s.rfb F.PWR_STATUS_aux_good then s
    else
      let s := s.mainLoss.raiseEs 510
      let s := { s with mgp := {}, boot := { s.boot with wakeArmed := false, wakeAsserted := false, thermLow := false } }
      s.setReg R.PWR_STATUS 0

/-- VBAT_SAMPLE (R764, R771). -/
def execVbatSample (mv : BitVec 12) (s : State) : Host.Outcome State Fault Refusal :=
  .next <|
    if !s.rfb F.PWR_STATUS_aux_good then s
    else
      let low := decide (mv.toNat < 2000)
      let s := (s.setReg R.PWR_VBAT mv.toNat).setF F.PWR_STATUS_vbat_low (b2n low)
      if low then s.raiseEs 509 else s

/-! ## The power limit (R768) -/

/-- Nominal voltage in mV and tolerance in percent of the main rails (R761). -/
def mainRails : List (Nat × Nat) :=
  [(750, 3), (750, 3), (800, 3), (850, 3), (900, 2), (1200, 3), (1050, 3), (900, 3), (500, 3), (1800, 5), (1800, 5)]

/-- A rail's voltage lies in its tolerance. -/
def railOk (k mv : Nat) : Bool :=
  let (nom, pct) := mainRails.getD k (0, 0)
  mv * 100 ≤ nom * (100 + pct) && nom * (100 - pct) ≤ mv * 100

/-- RAIL_EXCURSION (R763, R771): a rail outside its tolerance for less than 2 us. -/
def execRailExcursion (s : State) : Host.Outcome State Fault Refusal :=
  .next (if s.mainOn then (s.bump R.PWR_EXCURSIONS).raiseEs 504 else s)

/-- The throttle state is entered for its first cause (R769). -/
def State.enterThrottle (s : State) : State :=
  if s.rfb F.PWR_STATUS_throttled then s
  else (((s.setF F.PWR_STATUS_throttled 1).bump R.PWR_THROTTLES).foghorn 4).raiseEs 506

/-- The throttle state is left when no cause stands (R769). -/
def State.leaveThrottle (s : State) : State :=
  if s.rfb F.PWR_STATUS_throttled && !s.pwr.limitCause && !s.pwr.thermalCause then (s.setF F.PWR_STATUS_throttled 0).raiseEs 506 else s

/-- POWER_SAMPLE (R768, R770): current in 0.1 A and voltage in mV of each main rail, and the 1 ms average of the total in 0.1 W. -/
def execPowerSample (rails : Vector (BitVec 12 × BitVec 12) 11) (average : BitVec 16) (s : State) : Host.Outcome State Fault Refusal :=
  .next <|
    if !s.mainOn then s
    else
      let rs := rails.toList.map fun r => (r.1.toNat, r.2.toNat)
      let s := (List.range 11).foldl (fun s k =>
        let r := rs.getD k (0, 0)
        s.setReg (R.PWR_RAIL k) (b2n (railOk k r.2) * 2 ^ 31 + r.1 * 2 ^ 16 + r.2)) s
      let ok := (List.range 11).foldl (fun n k => n + b2n (railOk k (rs.getD k (0, 0)).2) * 2 ^ k) 0
      let s := s.setReg R.PWR_STATUS (putField (s.reg R.PWR_STATUS) 10 0 ok)
      let s := s.setReg R.PWR_TOTAL average.toNat
      if average.toNat > 10 * s.rf F.PWR_LIMIT_limit_w && !s.pwr.limitCause then
        (({ s with pwr := { s.pwr with limitCause := true } }).enterThrottle).raiseEs 508
      else s

/-- POWER_LIMIT_CLEAR (R768): the average has stayed below 95 % of the limit for 10 ms. -/
def execPowerLimitClear (s : State) : Host.Outcome State Fault Refusal :=
  .next (if s.reg R.PWR_TOTAL * 100 < 95 * (10 * s.rf F.PWR_LIMIT_limit_w) then ({ s with pwr := { s.pwr with limitCause := false } }).leaveThrottle else s)

/-- PWR_LIMIT is written: a value outside 100 to 300 W is refused (R768). -/
def State.limitWrite (s : State) (v : Nat) : State :=
  let w := v % 2 ^ 9
  if 100 ≤ w && w ≤ 300 then s.setF F.PWR_LIMIT_limit_w w else s.setF (blkReason 0x19) 0x1902

/-- PWR_LIMIT_WRITE (R768). -/
def execPwrLimitWrite (mid : BitVec 13) (value : Word) (s : State) : Host.Outcome State Fault Refusal :=
  .next (s.gatedWrite mid.toNat R.PWR_LIMIT fun s => s.limitWrite value.toNat)

/-! ## Thermal limits (R769) -/

/-- The junction temperature, the hottest of the sixteen sensors, in 1/16 C; the readings are shown in PWR_TEMP. -/
def State.readTemps (s : State) (temps : List (BitVec 16)) : Int × State :=
  let s := (List.range 16).foldl (fun s k => s.setReg (R.PWR_TEMP k) (temps.getD k 0).toNat) s
  (temps.foldl (fun m t => max m t.toInt) (-32768), s)

/-- THERMAL_WARNING (R769). -/
def execThermalWarning (temps : Vector (BitVec 16) 16) (s : State) : Host.Outcome State Fault Refusal :=
  .next <|
    if !s.mainOn then s
    else
      let (t, s) := s.readTemps temps.toList
      if t ≥ 16 * s.rf F.PWR_THERM_CFG_warn_c then s.raiseEs 505 else s

/-- THERMAL_THROTTLE (R769). -/
def execThermalThrottle (temps : Vector (BitVec 16) 16) (s : State) : Host.Outcome State Fault Refusal :=
  .next <|
    if !s.mainOn then s
    else
      let (t, s) := s.readTemps temps.toList
      if t ≥ 16 * s.rf F.PWR_THERM_CFG_throttle_c then ({ s with pwr := { s.pwr with thermalCause := true } }).enterThrottle else s

/-- THROTTLE_EXIT (R769): the junction has stayed 5 C below throttle_c for 1 s. -/
def execThrottleExit (temps : Vector (BitVec 16) 16) (s : State) : Host.Outcome State Fault Refusal :=
  .next <|
    if !s.mainOn then s
    else
      let (t, s) := s.readTemps temps.toList
      if t < 16 * (s.rf F.PWR_THERM_CFG_throttle_c) - 80 then ({ s with pwr := { s.pwr with thermalCause := false } }).leaveThrottle else s

/-- THERMAL_TRIP (R52, R769): at 108 C the device acts as on loss of main supplies. -/
def execThermalTrip (temps : Vector (BitVec 16) 16) (s : State) : Host.Outcome State Fault Refusal :=
  .next <|
    if !s.mainOn then s
    else
      let (t, s) := s.readTemps temps.toList
      if t < 16 * 108 then s
      else
        let s := (s.bump R.PWR_TRIPS).mainLoss
        (({ s with boot := { s.boot with thermLow := true } }).setF F.PWR_STATUS_tripped 1).raiseEs 507

/-- PWR_THERM_CFG is written: locked by PWR_BLK_CTL.lock, and checked (R9, R771). -/
def State.thermWrite (s : State) (v : Nat) : State :=
  let warn := field v 7 0
  let thr := field v 15 8
  if s.rfb (blkLock 0x19) then s
  else if 60 ≤ warn && warn < thr && thr ≤ 100 then s.setReg R.PWR_THERM_CFG (v % 2 ^ 16)
  else s.setF (blkReason 0x19) 0x1901

/-- PWR_THERM_CFG_WRITE (R771). -/
def execPwrThermCfgWrite (mid : BitVec 13) (value : Word) (s : State) : Host.Outcome State Fault Refusal :=
  .next (s.gatedWrite mid.toNat R.PWR_THERM_CFG fun s => s.thermWrite value.toNat)

end Sys2Proof.Machine
end

