-- ==== Sys2Proof/Machine/Boot.lean ====
section
/-! DEFINITION. Meanings of modes, Keeper pairs and island resets (R48 to R57, R78 to R81, R90, R91, R777). -/

namespace Sys2Proof.Machine

/-! ## Modes -/

/-- The transition ends; PERST# without service retention that waited is taken where its turn has come (R53). -/
def State.transitionDone (s : State) : State :=
  let s := s.endTransition
  if !s.rfb F.GLB_MODE_transition && nextEvent s.boot.events == some .perst then s.perstRestart else s

/-- MODE_TRANSITION_END (R53, R54): what the new mode serves is fetched again. -/
def execModeTransitionEnd (s : State) : Host.Outcome State Fault Refusal := .next (if s.boot.target.isSome then s.transitionDone.kickHost else s)

/-- DEV_START_SERVICE (R54, R55, R57). -/
def devStartServiceSpec : CmdSpec where
  opcode := 0x0010
  needs := fun _ => 0
  locks := fun _ _ => []
  indirect := false
  noGen := false
  body := fun _ s =>
    guards [(s.rfb F.GLB_MODE_transition || s.boot.activation.running, fun _ => refuse s 0x0002),
        (!((s.mode = 1 && s.boot.booted) || (s.mode = 5 && s.boot.revalidated)), fun _ => refuse s 0x0001)] fun _ =>
      .ok (s.modeEvent (.service 0x07)) []

/-- DEV_START_SERVICE (R57). -/
def execDevStartService (e : AdminEntry) (s : State) : Host.Outcome State Fault Refusal := .next (s.runCmd devStartServiceSpec e)

/-- REVALIDATION_END (R52, R91, R95, R777): none for success, or the block in which it failed. -/
def execRevalidationEnd (block : Option (Fin 32)) (s : State) : Host.Outcome State Fault Refusal :=
  .next <|
    if !s.boot.revalidating || s.mode != 5 || s.rfb F.GLB_MODE_transition then s
    else
      let s := ({ s with boot := { s.boot with revalidating := false, revalidated := true } }).raiseEs 1
      match block with
      | some b => s.setF F.GLB_MODE_cause (0x40 + b.val)
      | none => if s.rfb F.GLB_RESET_CFG_recovery_auto then (s.setF F.GLB_MODE_cause 0x0D).modeEvent (.service 0x0D) else s.setF F.GLB_MODE_cause 0x0E

/-- STANDBY_PAIR_READY (R79, R90): a pair that was reset has booted from the bank named active, or the other, and verified it; it stands by, or takes
the device over at once where that waits. -/
def execStandbyPairReady (s : State) : Host.Outcome State Fault Refusal :=
  .next <|
    let p := 1 - s.activePair
    if !s.mainOn || !s.boot.booted || s.pair p != .booting then s
    else
      match s.bootBank with
      | (none, s) => s
      | (some b, s) =>
        let s := s.setRunning p b
        if s.boot.takeoverWaits then (s.takeOver).mctpServe else s.setPair p .ready

/-! ## Island resets (R78 to R81) -/

/-- The resources that stand for an island, if any do (R22, R719). -/
def islandResources (i : Nat) : List Nat :=
  if i < 16 then (List.range 8).map fun c => 0x400 + 8 * i + c
  else if i < 32 then [0x600 + (i - 16)]
  else if i = 37 then (List.range 32).map (0x500 + ·)
  else if i = 43 then (List.range 32).map (0x300 + ·)
  else if i = 44 then (List.range 8).map (0x100 + ·)
  else if i = 45 then (List.range 8).map (0x200 + ·) ++ (List.range 4).map (0x800 + ·)
  else []

/-- An island carries no traffic and no work (R78). -/
def State.islandFree (s : State) (i : Nat) : Bool :=
  (!(islandResources i).isEmpty && (islandResources i).all s.isOut)
    || (decide (i < 16) && !(s.cl i).loaded && (s.cl i).queue.isEmpty)
    || (decide (16 ≤ i) && decide (i < 32) && [0, 1, 5, 8].contains (s.region (i - 16)).state)

/-- Why an island's reset is refused: the low byte of the reason (R78, R79). -/
def State.islandFault (s : State) (i : Nat) : Option Nat :=
  if i = 38 || i = 42 || i ≥ 46 then some 0x04
  else if i = 40 || i = 41 then (if i - 40 = s.activePair then some 0x03 else none)
  else if s.islandFree i then none
  else some 0x03

/-- Buffer requesters of an island (R22, R344). -/
def islandRequesters (i : Nat) : List Nat :=
  if i < 16 then [0x810 + i]
  else if i < 32 then [0x820 + (i - 16)]
  else if i = 37 then (List.range 4).map (0x830 + ·)
  else if i = 44 then (List.range 8).map (0x800 + ·)
  else if i = 45 then (List.range 4).map (0x808 + ·)
  else []

/-- The ISLAND domain of Lantern region r is cleared, its state, image, power and range among it (R11, R685): the region is Unassigned, or
stays Retired (log entry 57). -/
def State.regionReset (s : State) (r : Nat) : State :=
  let old := (s.region r).state
  let s := (s.lanClear r).lanRelease r
  let s := { s with pgr := { s.pgr with ranges := eraseKey s.pgr.ranges (0x800 + r) } }
  let st := if old = 8 then 8 else 0
  let s := s.setRegion r { state := st }
  let s := [0x0C01, 0x0C02, 0x0C03].foldl (fun s op => s.lanFinish op r 0x20 0x1502 (results [st])) s
  if old = st then s else s.raiseEs (448 + 2 * r)

/-- An island is reset: its ISLAND domain is cleared and its requesters' buffers are released; a Clove cluster starts anew, a Lantern region
returns to its reset state, a standby pair is held (R11, R78, R79, R350). No rule says that the comparator claims of a cluster's threads
end with its reset: they stay (DESIGN CHOICE, log entry 58). -/
def State.islandReset (s : State) (i : Nat) : State :=
  let s := s.resetRegs fun d k => d.dom == .island && islandOf d k = i
  let s := if i < 16 then s.setCl i { retired := (s.cl i).retired } else s
  let s := if 16 ≤ i && i < 32 then s.regionReset (i - 16) else s
  let s := (islandRequesters i).foldl (fun s r => s.purgeRequester r []) s
  if (i = 40 || i = 41) && s.pair (i - 40) != .held then s.setPair (i - 40) .islandReset else s

/-- GLB_ISLAND_RST is written with go at 1 (R78 to R81). -/
def State.islandGo (s : State) (i : Nat) : State :=
  if s.rfb F.GLB_ISLAND_RST_busy then s
  else
    let s := s.setF F.GLB_ISLAND_RST_island i
    match s.islandFault i with
    | some r => s.setF F.GLB_ISLAND_RST_result r
    | none =>
      let s := ((s.islandReset i).setF F.GLB_ISLAND_RST_result 0).setF F.GLB_ISLAND_RST_busy 1
      { s with boot := { s.boot with islandHeld := some i } }

/-- ISLAND_RESET_GO (R78, R81). -/
def execIslandResetGo (mid : BitVec 13) (island : BitVec 6) (s : State) : Host.Outcome State Fault Refusal :=
  .next (s.gatedWrite mid.toNat R.GLB_ISLAND_RST fun s => s.islandGo island.toNat)

/-- ISLAND_RESET_END (R79, R80, R95): a Keeper pair boots again, or stays held. -/
def execIslandResetEnd (s : State) : Host.Outcome State Fault Refusal :=
  .next <|
    match s.boot.islandHeld with
    | none => s
    | some i =>
      let s := (({ s with boot := { s.boot with islandHeld := none } }).setF F.GLB_ISLAND_RST_busy 0).raiseEs 9
      if (i = 40 || i = 41) && s.pair (i - 40) == .islandReset then s.rebootPair (i - 40) else s

end Sys2Proof.Machine
end

