-- ==== Sys2Proof/Machine/Classify.lean ====
section
/-! DEFINITION. Meanings of the parser and classifier commands (R367, R369 to R384). -/

namespace Sys2Proof.Machine

/-! ## PRS_GRAPH_WRITE -/

/-- A node's defect (R367): a PRS reason, or none. -/
def PrsBank.nodeFault (b : PrsBank) (n : Nat) : Option Nat :=
  let w := b.node n
  let ts := (List.range 16).map fun t => w (3 + t)
  let nextOk := fun x => x = 0xFE || x = 0xFF || b.nodeOk x
  if !bitAt (w 0) 31 then none
  else if !nextOk (field (w 0) 7 0) || ts.any (fun t => bitAt t 0 && !nextOk (field t 15 8)) then some 0x0A01
  else if ts.any (fun t => bitAt t 0 && !fits (field t 31 16) (field (w 2) 15 0)) then some 0x0A04
  else if field (w 0) 26 24 > 4 || field (w 0) 23 20 > 5 || field (w 1) 23 16 > 63 || field (w 2) 31 24 > 62 then some 0x0A05
  else none

/-- A profile's defect (R365). -/
def profileBad (ws : List Word) : Bool :=
  let ds := (ws.map (·.toNat)).filter (bitAt · 31)
  let w := fun d => field d 15 8
  let pos := fun d => field d 7 0
  ds.any (fun d => field d 26 24 != 0 || w d = 0 || w d > 64 || pos d + w d > 64 || (bitAt d 30 && field d 23 16 > 31))
    || (List.range ds.length).any fun i => (List.range ds.length).any fun j =>
        i < j && pos (ds.getD i 0) < pos (ds.getD j 0) + w (ds.getD j 0) && pos (ds.getD j 0) < pos (ds.getD i 0) + w (ds.getD i 0)

/-- A start entry's defect (R367): an invalid node, or an invalid profile, which is one that breaks R365 (DEDUCED, log entry 62). -/
def PrsBank.startBad (b : PrsBank) (k : Nat) : Bool :=
  let w := wd b.start k
  bitAt w 31 && (!b.nodeOk (field w 7 0) || profileBad (b.profile (field w 21 16)))

/-- The first failure of the check of a bank: a reason and the failing node, profile or source (R367). -/
def PrsBank.fault (b : PrsBank) : Option (Nat × Nat) :=
  match (List.range 254).find? fun n => (b.nodeFault n).isSome with
  | some n => some ((b.nodeFault n).getD 0, n)
  | none =>
    match (List.range 14).find? b.startBad with
    | some k => some (0x0A02, k)
    | none => ((List.range 64).find? fun n => profileBad (b.profile n)).map fun n => (0x0A03, n)

/-- Objects of a block are written to a bank from a first number (R367). -/
def PrsBank.put (b : PrsBank) (object first count : Nat) (block : List Word) : PrsBank :=
  let chunk := fun (k n : Nat) => (List.range n).map fun i => block.getD (16 + k * n + i) 0#32
  match object with
  | 0 => { b with nodes := (List.range count).foldl (fun m k => insertKey m (first + k) (chunk k 32)) b.nodes }
  | 1 => { b with start := chunk 0 16 }
  | _ => { b with profiles := (List.range count).foldl (fun m k => insertKey m (first + k) (chunk k 16)) b.profiles }

/-- The fields of word i of an object (R358, R365, R366): every other bit is reserved. -/
def objectMask (object i : Nat) : Nat :=
  match object with
  | 0 => if i = 0 then 0xC7F0FFFF else if i = 1 then 0xFFFFFFE3 else if i = 2 then 0xFF00FFFF else if i < 19 then 0xFFFFFF01 else 0
  | 1 => if i ≥ 14 then 0 else if i = 12 then 0xC03F00FF else 0x803F00FF
  | _ => 0xF8FFFFFF

/-- The first of n words of objects of a kind that breaks a reserved field. -/
def objectReserved (object n : Nat) (word : Nat → Nat) : Option Nat :=
  let size := if object = 0 then 32 else 16
  (List.range n).find? fun i => !fits (word i) (objectMask object (i % size))

/-- PRS_GRAPH_WRITE (R367). -/
def prsGraphWriteSpec : CmdSpec where
  opcode := 0x0500
  needs := fun c => c.needsBlock 1 1
  locks := fun _ _ => [⟨.graph, 0⟩]
  indirect := true
  noGen := false
  body := fun c s =>
    if !c.indirect then badParam s 0
    else c.checked s [(0, 0xC300FFFF)] fun _ =>
      let object := field (c.p 0) 25 24
      let first := field (c.p 0) 15 8
      let count := field (c.p 0) 7 0
      let size := if object = 0 then 32 else 16
      let broken := objectReserved object (count * size) fun i => c.p (16 + i)
      guards [(object = 3, fun _ => badP s 0), (object = 0 && first + count > 254, fun _ => badP s 0),
          (object = 1 && count > 1, fun _ => badP s 0), (object = 2 && first + count > 64, fun _ => badP s 0),
          (c.shortBlock (16 + count * size), fun _ => badParam s 6),
          (broken.isSome, fun _ => badP s (16 + broken.getD 0))] fun _ =>
        let base := if bitAt (c.p 0) 30 then s.prs.active else s.prs.shadow
        let b := if count = 0 then base else base.put object first count c.params
        if !bitAt (c.p 0) 31 then .ok { s with prs := { s.prs with shadow := b } } []
        else match b.fault with
          | some (r, n) => .bad (s.raiseEs 256) 0x20 r (results [n])
          | none =>
            let bank := 1 - s.rf F.PRS_GRAPH_STATUS_active_bank
            let s := s.swapBank b
            let s := (s.setF F.PRS_GRAPH_STATUS_active_bank bank).setF F.PRS_GRAPH_STATUS_nodes b.count
            .ok ((s.bump R.PRS_COMMITS).raiseEs 256) (results [bank * 2 ^ 16 + b.count])

/-- PRS_GRAPH_WRITE (R367). -/
def execPrsGraphWrite (e : AdminEntry) (s : State) : Host.Outcome State Fault Refusal := .next (s.runCmd prsGraphWriteSpec e)

/-! ## CLS_RULE_WRITE and CLS_RULE_DELETE -/

/-- A result kind that a stage accepts (R371). -/
def kindAllowed (stage kind : Nat) : Bool :=
  match stage, kind with
  | 0, k => k = 1 || k = 2 || k = 3 || k = 4 || k = 5
  | 1, k => k = 0 || k = 2 || k = 3 || k = 4
  | _, k => k = 1 || k = 4

/-- The owner of a rule of a stage (R369). -/
def ruleOwner (stage target : Nat) : Nat := if stage = 1 then target else 0

/-- The slot of a handle for an owner, where it names a rule (R376). -/
def State.ruleOf (s : State) (h owner : Nat) (stage : Option Nat) : Option Nat :=
  match s.rule (h % 2 ^ 16) with
  | some r =>
    if r.seq = h / 2 ^ 16 && r.owner = owner && (stage.isNone || stage == some r.stage) then some (h % 2 ^ 16) else none
  | none => none

/-- The slots of a rule command's lock. -/
def handleLock (h : Nat) : List Lock := if h = 0xFFFFFFFF then [] else [⟨.rule, h % 2 ^ 16⟩]

/-- A local queue number at or above an owner's queue_max (R376). -/
def State.queueOver (s : State) (owner q : Nat) : Bool :=
  decide (q ≥ if owner = 0 then 65536 else quotaMax (s.inst owner).quota 1)

/-- CLS_RULE_WRITE (R369 to R376). -/
def clsRuleWriteSpec : CmdSpec where
  opcode := 0x0510
  needs := fun _ => 36
  locks := fun _ c => handleLock (c.p 0)
  indirect := false
  noGen := false
  body := fun c s =>
    c.checked s [(1, 0xFFFFFF00), (2, 0xF00FFFFF), (3, 0xFFFF0000)] fun _ =>
      let stage := field (c.p 1) 15 14
      let kind := field (c.p 2) 31 28
      let value := field (c.p 2) 19 0
      let owner := ruleOwner stage c.target
      let key := (c.params.drop 4).take 16
      let mask := (c.params.drop 20).take 16
      let create := c.p 0 = 0xFFFFFFFF
      let bits := (List.range 16).find? fun i => !fits (wd key i) (wd mask i)
      let kindBad := kind > 5 || ((kind = 2 || kind = 3 || kind = 4) && value != 0)
        || (kind = 5 && (value = 0 || value ≥ 2048))
      guards [(stage = 3, fun _ => badP s 1), (kindBad, fun _ => badP s 2),
          (!create && (s.ruleOf (c.p 0) owner (some stage)).isNone, fun _ => notFound s),
          (stage != 1 && !c.fromManager, fun _ => refuse s 0x0B04),
          (bits.isSome, fun _ => refuse s 0x0B01), (!kindAllowed stage kind, fun _ => refuse s 0x0B02),
          (kind = 1 && (lookup s.swx.lists value).isNone, fun _ => refuse s 0x0B03),
          (kind = 0 && s.queueOver owner value, fun _ => refuse s 0x0B05)] fun _ =>
        let rule := fun (seq : Nat) => ({
          valid := true, seq := seq, owner := owner, priority := field (c.p 1) 31 16, stage := stage,
          profile := field (c.p 1) 13 8, kind := kind, value := value, mark := field (c.p 3) 31 16, key := key, mask := mask,
          manager := c.fromManager } : Rule)
        let put := fun (k seq : Nat) => { s with cls := { s.cls with rules := insertKey s.cls.rules k (rule seq) } }
        if !create then
          let k := c.p 0 % 2 ^ 16
          .ok (put k (c.p 0 / 2 ^ 16)) (results [c.p 0])
        else match s.poolAllows owner 5 1 with
          | some true => quotaExceeded s
          | some false => noResource s
          | none =>
            match (List.range 65536).find? fun k => (s.rule k).isNone with
            | none => noResource s
            | some k =>
              let seq := match lookup s.cls.rules k with
                | some old => (old.seq + 1) % 2 ^ 16
                | none => 0
              .ok (put k seq) (results [seq * 2 ^ 16 + k])

/-- CLS_RULE_WRITE (R376). -/
def execClsRuleWrite (e : AdminEntry) (s : State) : Host.Outcome State Fault Refusal := .next (s.runCmd clsRuleWriteSpec e)

/-- CLS_RULE_DELETE (R375, R376). -/
def clsRuleDeleteSpec : CmdSpec where
  opcode := 0x0511
  needs := fun _ => 1
  locks := fun _ c => handleLock (c.p 0)
  indirect := false
  noGen := false
  body := fun c s =>
    match s.ruleOf (c.p 0) c.target none with
    | none => notFound s
    | some k => .ok { s with cls := { s.cls with rules := modifyKey s.cls.rules k fun r => { r with valid := false } } } []

/-- CLS_RULE_DELETE (R376). -/
def execClsRuleDelete (e : AdminEntry) (s : State) : Host.Outcome State Fault Refusal := .next (s.runCmd clsRuleDeleteSpec e)

/-! ## Load spreading -/

/-- CLS_HASH_CFG (R380). -/
def clsHashCfgSpec : CmdSpec where
  opcode := 0x0520
  needs := fun _ => 17
  locks := fun _ c => [⟨.hash, c.target⟩]
  indirect := false
  noGen := false
  body := fun c s =>
    c.checked s [(0, 0x700001FF), (1, 0xFFFF), (2, 0x3F)] fun _ =>
      if field (c.p 0) 30 29 = 3 then badP s 0
      else .ok (s.setClsInst c.target { s.clsInst c.target with
        w0 := c.p 0, excQueue := c.p 1, profile := c.p 2, seed := c.p 3, toeplitz := wordsBytes ((c.params.drop 4).take 13) }) []

/-- CLS_HASH_CFG (R380). -/
def execClsHashCfg (e : AdminEntry) (s : State) : Host.Outcome State Fault Refusal := .next (s.runCmd clsHashCfgSpec e)

/-- An indirection entry's defect for an instance (R376, R383): BAD_PARAM for kind 3, a refusal for a path of another instance than 0
and for a path or queue that the owner may not name. -/
def State.indirFault (s : State) (i v : Nat) : Option Nat :=
  match field v 15 14 with
  | 1 => if i != 0 then some 0x0B06 else none
  | 3 => some 0
  | 0 => if s.queueOver i (field v 13 0) then some 0x0B05 else none
  | _ => none

/-- CLS_INDIR_WRITE (R384). -/
def clsIndirWriteSpec : CmdSpec where
  opcode := 0x0521
  needs := fun c => c.needsBlock (1 + (field (c.p 0) 11 0 + 1) / 2) 0
  locks := fun _ c => [⟨.indirection, c.target⟩]
  indirect := true
  noGen := false
  body := fun c s =>
    c.checked s [(0, 0x07FF0FFF)] fun _ =>
      let first := field (c.p 0) 26 16
      let count := field (c.p 0) 11 0
      let start := if c.indirect then 16 else 1
      let entry := fun k => field (c.p (start + k / 2)) (k % 2 * 16 + 15) (k % 2 * 16)
      let bad := (List.range count).find? fun k => (s.indirFault c.target (entry k)).isSome
      guards [(count = 0 || count > 2048 || first + count > 2048, fun _ => badP s 0),
          (c.shortBlock (16 + (count + 1) / 2), fun _ => badParam s 6)] fun _ =>
        match bad with
        | some k =>
          match s.indirFault c.target (entry k) with
          | some 0 => badP s (start + k / 2)
          | r => refuse s (r.getD 0)
        | none =>
          let bs := ((List.range count).map fun k => leBytes 2 (entry k)).flatten
          let (f, s') := s.ssWrite internalSsid (indirOff c.target first) bs
          if f.isSome then noResource s else .ok s' []

/-- CLS_INDIR_WRITE (R384). -/
def execClsIndirWrite (e : AdminEntry) (s : State) : Host.Outcome State Fault Refusal := .next (s.runCmd clsIndirWriteSpec e)

/-! ## Exception policers -/

/-- CLS_EXC_POLICER (R379). -/
def clsExcPolicerSpec : CmdSpec where
  opcode := 0x0530
  needs := fun _ => 3
  locks := fun _ c => [⟨.policer, 2 ^ 20 + c.p 0 % 2048⟩]
  indirect := false
  noGen := false
  body := fun c s =>
    c.checked s [(0, 0x7FF), (2, 0xFFFF)] fun _ =>
      guards [(c.p 1 < 1000 || c.p 1 > 10000000, fun _ => badP s 1), (c.p 2 = 0, fun _ => badP s 2)] fun _ =>
        let i := c.p 0
        let v := s.clsInst i
        .ok (s.setClsInst i { v with
          rate := c.p 1, burst := c.p 2, tokens := if v.burst = c.p 2 then v.tokens else c.p 2 * 65536 }) []

/-- CLS_EXC_POLICER (R379). -/
def execClsExcPolicer (e : AdminEntry) (s : State) : Host.Outcome State Fault Refusal := .next (s.runCmd clsExcPolicerSpec e)

/-- EXC_POLICER_REFILL (R378): every instance's bucket gains 1 us of its rate. -/
def execExcPolicerRefill (s : State) : Host.Outcome State Fault Refusal :=
  .next { s with cls := { s.cls with insts := s.cls.insts.map fun e =>
    (e.1, { e.2 with tokens := min (e.2.tokens + excGain e.2.rate) (e.2.burst * 65536) }) } }

end Sys2Proof.Machine
end

