-- ==== Sys2Proof/Machine/Commands.lean ====
section
/-! DEFINITION. Meanings of the device commands of the third chapter, and of the registry's query register (R119 to R134, R776). -/

namespace Sys2Proof.Machine

/-- DEV_IDENTIFY (R122). -/
def devIdentifySpec : CmdSpec where
  opcode := 0x0000
  needs := fun _ => 4
  locks := fun _ _ => []
  indirect := false
  noGen := true
  body := fun c s =>
    .ok s (results [0x1600B000, s.boot.fwMajor * 2 ^ 16 + s.boot.fwMinor, (s.inst c.target).gen * 2 ^ 16 + c.target, s.activePair * 2 ^ 16 + s.mode])

/-- DEV_IDENTIFY (R122). -/
def execDevIdentify (e : AdminEntry) (s : State) : Host.Outcome State Fault Refusal := .next (s.runCmd devIdentifySpec e)

/-- DEV_NOP. -/
def devNopSpec : CmdSpec where
  opcode := 0x0001
  needs := fun _ => 0
  locks := fun _ _ => []
  indirect := false
  noGen := false
  body := fun _ s => .ok s []

/-- DEV_NOP: with fence set it answers once every earlier command of its queue has ended (R103). -/
def execDevNop (e : AdminEntry) (s : State) : Host.Outcome State Fault Refusal := .next (s.runCmd devNopSpec e)

/-- DEV_CMD_ABORT (R123). -/
def devCmdAbortSpec : CmdSpec where
  opcode := 0x0008
  needs := fun _ => 1
  locks := fun _ _ => []
  indirect := false
  noGen := false
  body := fun c s =>
    c.checked s [(0, 0xFFFF)] fun _ =>
      match (s.pendOf c.issuer).find? (·.cmd.tag = c.p 0) with
      | none => notFound s
      | some p =>
        match s.aborted p with
        | none => refuse s 0x000D
        | some s => .ok (s.finish p 0x20 0x000C []) []

/-- DEV_CMD_ABORT (R123). -/
def execDevCmdAbort (e : AdminEntry) (s : State) : Host.Outcome State Fault Refusal := .next (s.runCmd devCmdAbortSpec e)

/-- DEV_CLAIM_QUERY (R776). -/
def devClaimQuerySpec : CmdSpec where
  opcode := 0x0040
  needs := fun _ => 1
  locks := fun _ _ => []
  indirect := false
  noGen := false
  body := fun c s => if claimKnown (c.p 0) then .ok s (results [lookupD s.cmds.claims (c.p 0) 0]) else badP s 0

/-- DEV_CLAIM_QUERY (R776). -/
def execDevClaimQuery (e : AdminEntry) (s : State) : Host.Outcome State Fault Refusal := .next (s.runCmd devClaimQuerySpec e)

/-- RCL_QUERY_RES_WRITE (R134): RCL_QUERY_HOLDER then reads the holder word of the resource named. -/
def execRclQueryResWrite (mid : BitVec 13) (value : Word) (s : State) : Host.Outcome State Fault Refusal :=
  .next (s.gatedWrite mid.toNat R.RCL_QUERY_RES fun s => s.setReg R.RCL_QUERY_RES value.toNat)

end Sys2Proof.Machine
end

