-- ==== Sys2Proof/Machine/Images.lean ====
section
/-! DEFINITION. Meanings of firmware staging and activation, of the recovery image, and of snapshots (R66, R69 to R72, R82 to R95, R616, R778). -/

namespace Sys2Proof.Machine

/-! ## Staging (R82, R83) -/

/-- The claim on the firmware banks (R778). -/
def fwLock : Nat := 0x04000000

/-- The bank that the active pair does not run. -/
def State.idleBank (s : State) : Nat := 1 - s.rf F.GLB_BOOT_STATUS_running_bank

/-- DEV_IMAGE_STAGE (R82, R83). -/
def devImageStageSpec : CmdSpec where
  opcode := 0x0020
  needs := fun _ => 4
  locks := fun _ _ => [⟨.firmware, 0⟩]
  indirect := false
  noGen := false
  body := fun c s =>
    c.checked s [(0, 0)] fun _ =>
      guards [(c.p 1 % 64 != 0, fun _ => badP s 1), (c.p 3 = 0 || c.p 3 > 33554432, fun _ => badP s 3)] fun _ =>
        withClaims s [(fwLock, holderWord 0x00 0x01 c.mid)] fun s =>
          let s := s.readImage c none
          c.tried s (s.imageFault 1 (slice c.data 0 (c.p 3)) (fun _ => none) 7) fun _ =>
          .pend ((s.setBank s.idleBank { s.bank s.idleBank with staged := false }).markMram (bankAt s.idleBank) true)

/-- DEV_IMAGE_STAGE (R83). -/
def execDevImageStage (e : AdminEntry) (s : State) : Host.Outcome State Fault Refusal := .next (s.runCmd devImageStageSpec e)

/-- IMAGE_STAGE_END (R82): the bank has been written and is verified as written. -/
def execImageStageEnd (s : State) : Host.Outcome State Fault Refusal :=
  .next <|
    match s.findPend (·.cmd.opcode = 0x0020) with
    | none => s
    | some p =>
      let b := s.idleBank
      let img := slice p.cmd.data 0 (p.cmd.p 3)
      let s := (s.putMram (bankAt b) img).dropClaim fwLock
      match s.imageFault 1 img (fun _ => none) 7 with
      | some (st, r, ws) => ((s.setBank b { verified := decide (r = 0x0008), staged := false, bodyCrc := imgBodyCrc img }).finish p st r ws)
      | none =>
        let s := s.setBank b { verified := true, staged := true, bodyCrc := imgBodyCrc img }
        (s.finish p 0 0 (results [field (imgWord img 1) 15 0 * 2 ^ 16 + field (imgWord img 4) 31 16, (imgBodyCrc img).toNat]))

/-! ## Activation (R84 to R89) -/

/-- DEV_IMAGE_ACTIVATE (R84, R85). -/
def devImageActivateSpec : CmdSpec where
  opcode := 0x0021
  needs := fun _ => 2
  locks := fun _ _ => [⟨.firmware, 0⟩]
  indirect := false
  noGen := false
  body := fun c s =>
    c.checked s [(0, 1)] fun _ =>
      let other := 1 - s.activePair
      guards [(!(s.bank s.idleBank).staged, fun _ => refuse s 0x0005),
          (s.pair other == .held || s.pair other == .islandReset || s.isOut (pairRes other), fun _ => refuse s 0x000A),
          (s.rfb F.GLB_MODE_transition, fun _ => refuse s 0x0002)] fun _ =>
        withClaims s [(fwLock, holderWord 0x00 0x02 c.mid)] fun s =>
          .pend (({ s with boot := { s.boot with activation := { running := true, commitSvn := bitAt (c.p 0) 0 } } }).setPair other .activating)

/-- DEV_IMAGE_ACTIVATE (R85 step 1). -/
def execDevImageActivate (e : AdminEntry) (s : State) : Host.Outcome State Fault Refusal := .next (s.runCmd devImageActivateSpec e)

/-- The fault of the staged bank as the standby pair verifies it (R82, R85 step 2). No entry word of DEV_IMAGE_ACTIVATE holds a length, and no
rule says which word BAD_PARAM names for one that has come to disagree: it names word 0 (DESIGN CHOICE, log entry 57). -/
def State.stagedFault (s : State) : Option (Nat × Nat × List Word) :=
  s.imageFault 1 (s.imageAt (bankAt s.idleBank) 0x2000000) (fun _ => none) 0

/-- The standby pair loads the staged bank for an activation. -/
def State.activating (s : State) : Bool := s.boot.activation.running && !s.boot.fatalWaits && s.pair (1 - s.activePair) == .activating

/-- Steps 4 to 9 of R85 (R95): the standby pair takes over with the handover record after an admin pause of so many microseconds, writes the
boot record and the reply, and the old pair boots from the new bank. -/
def State.handedOver (s : State) (pauseUs : Nat) : State :=
  let old := s.activePair
  let b := s.idleBank
  let svn := field (Mem.word s.mem.mram (bankAt b + 4)) 15 0
  let commit := s.boot.activation.commitSvn
  let s := { (s.setRunning (1 - old) b) with boot := { (s.setRunning (1 - old) b).boot with activation := {} } }
  let s := s.setBank b { s.bank b with verified := true, staged := false }
  let s := (s.handOver).writeBoot fun w => putField w 0 0 b
  let s := s.setF F.GLB_BOOT_STATUS_active_bank b
  let s := if commit then { s with boot := { s.boot with fuses := insertKey s.boot.fuses 1 (max svn (lookupD s.boot.fuses 1 0)) } } else s
  ((s.dropClaim fwLock).finishOp 0x0021 0 0 (results [1 - old, pauseUs])).rebootPair old

/-- The active pair fails after step 4 of R85 (R89, R90, R729): the takeover comes with the handover record, and steps 5 to 9 follow. -/
def State.faultHanded (s : State) (pauseUs : Nat) : State :=
  let s := (((s.foghorn 3).raiseEs 37).bump R.RAS_TAKEOVERS).log 5 { block := 0, res := pairRes s.activePair }
  let s := s.handedOver pauseUs
  { s with boot := { s.boot with revalidating := true, revalidated := false } }.modeEvent .handed

/-- HANDOVER_REQUEST (R85, R89): the staged bank verifies, and the standby pair takes over. -/
def execHandoverRequest (course : Handover) (s : State) : Host.Outcome State Fault Refusal :=
  .next <|
    if !s.activating || s.stagedFault.isSome then s
    else if course.fault then s.pairFaultBy s.activePair [] fun s => s.faultHanded course.pauseUs.val
    else s.handedOver course.pauseUs.val

/-- ACTIVATION_TIMEOUT (R88): the standby pair has not come up within 2 s. -/
def execActivationTimeout (s : State) : Host.Outcome State Fault Refusal :=
  .next (if s.boot.activation.running && !s.boot.activation.faulted && !s.boot.fatalWaits then s.endActivation 0x20 0x0009 else s)

/-- ACTIVATION_VERIFY_FAIL (R88): the staged bank fails verification at step 2 of R85. -/
def execActivationVerifyFail (s : State) : Host.Outcome State Fault Refusal :=
  .next <|
    if !s.activating then s
    else
      match s.stagedFault with
      | none => s
      | some (st, r, ws) =>
        let s := s.setBank s.idleBank { verified := decide (r = 0x0008), staged := false,
                                        bodyCrc := imgBodyCrc (s.imageAt (bankAt s.idleBank) 0x2000000) }
        s.endActivation st r ws

/-! ## Query (R92) -/

/-- The result words of DEV_IMAGE_QUERY for the image at an MRAM offset: its type, and verified, staged, active, running with the CRC of its body. -/
def State.imageWords (s : State) (a type : Nat) (verified staged active running : Bool) (crc : Nat) : List Word :=
  let w := fun i => Mem.word s.mem.mram (a + 4 * i)
  let present := w 0 = 0x4B5A494D && w 15 = (crc32c (Mem.bytes s.mem.mram a 60)).toNat
  let min := lookupD s.boot.fuses type 0 % 2 ^ 16
  if !present then results [0, 0, 0, 0, 0, 0, 0, min]
  else results [2 ^ 31 + b2n verified * 2 ^ 30 + b2n staged * 2 ^ 29 + b2n active * 2 ^ 28 + b2n running * 2 ^ 27 + field (w 1) 15 0,
    w 4, w 2, crc, w 6, w 7, field (w 1) 31 16 * 2 ^ 16, min]

/-- DEV_IMAGE_QUERY (R92). -/
def devImageQuerySpec : CmdSpec where
  opcode := 0x0022
  needs := fun _ => 8
  locks := fun _ _ => []
  indirect := false
  noGen := false
  body := fun c s =>
    c.checked s [(0, 0x311)] fun _ =>
      let b := c.p 0 % 2
      let g := field (c.p 0) 9 8
      if bitAt (c.p 0) 4 then
        let v := s.group g
        let x := v.bank b
        let active := bitAt s.bootInForce.1 (8 + g) == decide (b = 1)
        let running := v.started && v.active = b && x.staged
        .ok s (s.imageWords (ucodeSlot b g) 2 x.verified (x.staged && !active) active running x.bodyCrc.toNat)
      else
        let v := s.bank b
        .ok s (s.imageWords (bankAt b) 1 v.verified v.staged (decide (s.bootInForce.1 % 2 = b)) (decide (s.rf F.GLB_BOOT_STATUS_running_bank = b))
          v.bodyCrc.toNat)

/-- DEV_IMAGE_QUERY (R92). -/
def execDevImageQuery (e : AdminEntry) (s : State) : Host.Outcome State Fault Refusal := .next (s.runCmd devImageQuerySpec e)

/-! ## The ROM recovery loader (R66, R616) -/

/-- RECOVERY_COMMIT (R66, R616): the image assembled is verified, written to bank A and named by the boot record; the loader answers and
reboots from step 2 of R64. -/
def execRecoveryCommit (src : BitVec 8) (length : Word) (s : State) : Host.Outcome State Fault Refusal :=
  .next <|
    let n := length.toNat
    match s.mctpHost with
    | .nobody => s
    | .loader =>
      let img := Mem.bytes s.mem.cache 0 (if n ≤ 33554432 then n else 0)
      let answer := fun (s : State) (st detail : Nat) => s.vendorAnswer src.toNat 4 st detail []
      let dropped := { s with mem := { s.mem with cache := [] } }
      let len := imgWord img 2
      let slot := field (imgWord img 1) 23 16
      if n < 1216 || n > 33554432 then answer s 2 0
      else if imgHeaderBad 1 img then answer dropped 3 0x06
      else if n != 64 + len + 1088 then answer s 2 0
      else if !slotServes 1 slot || !s.signed slot (slice img 0 (64 + len)) (slice img (64 + len) 1088) then answer dropped 3 0x1A
      else if field (imgWord img 1) 15 0 < lookupD s.boot.fuses 1 0 then answer dropped 3 0x07
      else
        let s := (dropped.putMram (bankAt 0) img).writeBoot fun w => putField w 0 0 0
        let s := s.setBank 0 { verified := true, bodyCrc := imgBodyCrc img }
        (answer s 0 0).bootStart 0x04
    | _ => s.unserved src.toNat 4

/-! ## Snapshots (R69 to R72, R95) -/

/-- DEV_SNAPSHOT_SAVE (R69, R70): the body is in the firmware's own format, which is left open (log entry 2). -/
def devSnapshotSaveSpec : CmdSpec where
  opcode := 0x0030
  needs := fun _ => 1
  locks := fun _ c => [⟨.snapshot, c.p 0 % 4⟩]
  indirect := false
  noGen := false
  body := fun c s =>
    c.checked s [(0, 0x103)] fun _ => .pendNote (({ s with fresh := s.fresh + 1 }).markMram (snapAt (c.p 0 % 4)) true) [s.fresh]

/-- DEV_SNAPSHOT_SAVE (R70). -/
def execDevSnapshotSave (e : AdminEntry) (s : State) : Host.Outcome State Fault Refusal := .next (s.runCmd devSnapshotSaveSpec e)

/-- A header with its CRC. -/
def sealHeader (w : List Word) : List Word := w.take 15 ++ [crc32c (wordsBytes (w.take 15))]

/-- boot_apply is cleared on a valid slot (R69). -/
def State.clearApply (s : State) (k : Nat) : State :=
  let w := s.snapHeader k
  if s.snapValid k && bitAt (wd w 1) 8 then s.putMram (snapAt k) (wordsBytes (sealHeader (setWd w 1 (wd w 1 - 256)))) else s

/-- SNAPSHOT_SAVE_END (R69, R70, R95): the body is in MRAM and the header follows. -/
def execSnapshotSaveEnd (slot : Fin 4) (s : State) : Host.Outcome State Fault Refusal :=
  .next <|
    let k := slot.val
    match s.findPend (fun p => p.cmd.opcode = 0x0030 && p.cmd.p 0 % 4 = k) with
    | none => s
    | some p =>
      let body := (Config.freeBytes (p.note.getD 0 0)).take snapMax
      let crc := crc32c body
      let seq := nextSeq (((List.range 4).filter s.snapValid).map fun j => wd (s.snapHeader j) 2)
      let sec := timeSec s.now
      let apply := bitAt (p.cmd.p 0) 8
      let w := sealHeader (results [0x4B5A534E, b2n apply * 256 + k, seq, s.boot.fwMajor * 2 ^ 16 + s.boot.fwMinor, sec % 2 ^ 32, sec / 2 ^ 32,
        body.length, crc.toNat] ++ List.replicate 7 0#32)
      let s := { (s.putMram (snapAt k + 64) body).putMram (snapAt k) (wordsBytes w) with snaps := insertKey s.snaps k (s.capture crc) }
      let s := if apply then ((List.range 4).filter (· != k)).foldl State.clearApply s else s
      (s.finish p 0 0 (results [seq])).raiseEs 8

/-- DEV_SNAPSHOT_QUERY (R71). -/
def devSnapshotQuerySpec : CmdSpec where
  opcode := 0x0031
  needs := fun _ => 6
  locks := fun _ _ => []
  indirect := false
  noGen := false
  body := fun c s =>
    c.checked s [(0, 3)] fun _ =>
      let k := c.p 0 % 4
      let w := s.snapHeader k
      if !s.snapValid k then .ok s (results [k, 0, 0, 0, 0, 0])
      else
        let fits := decide (field (wd w 3) 31 16 = s.boot.fwMajor)
        .ok s (results [2 ^ 31 + b2n (bitAt (wd w 1) 8) * 2 ^ 30 + b2n fits * 2 ^ 29 + k, wd w 2, wd w 3, wd w 4, wd w 5, wd w 6])

/-- DEV_SNAPSHOT_QUERY (R71). -/
def execDevSnapshotQuery (e : AdminEntry) (s : State) : Host.Outcome State Fault Refusal := .next (s.runCmd devSnapshotQuerySpec e)

/-- DEV_SNAPSHOT_ERASE (R72, R95). -/
def devSnapshotEraseSpec : CmdSpec where
  opcode := 0x0032
  needs := fun _ => 1
  locks := fun _ c => [⟨.snapshot, c.p 0 % 4⟩]
  indirect := false
  noGen := false
  body := fun c s =>
    c.checked s [(0, 3)] fun _ =>
      let k := c.p 0 % 4
      .ok ({ (s.putMram (snapAt k) (List.replicate 64 0#8)).raiseEs 8 with snaps := eraseKey s.snaps k }) []

/-- DEV_SNAPSHOT_ERASE (R72). -/
def execDevSnapshotErase (e : AdminEntry) (s : State) : Host.Outcome State Fault Refusal := .next (s.runCmd devSnapshotEraseSpec e)

end Sys2Proof.Machine
end

