-- ==== Sys2Proof/Machine/Ports.lean ====
section
/-! DEFINITION. Meanings of the line ports, the management port and MCTP messages (R592 to R617), but the recovery commit. -/

namespace Sys2Proof.Machine

/-! ## Modes and links -/

/-- PORT_MODE_SET (R593, R594). -/
def portModeSetSpec : CmdSpec where
  opcode := 0x0B00
  needs := fun _ => 1
  locks := fun _ _ => (List.range 8).map fun p => ⟨.port, p⟩
  indirect := false
  noGen := false
  body := fun c s =>
    c.checked s [(0, 0xFF07)] fun _ =>
      let mode := c.p 0 % 8
      let mask := field (c.p 0) 15 8
      guards [(mode > 3 || (mode != 3 && mask != 0), fun _ => badP s 0)] fun _ =>
        let hit := s.affected mode mask
        let lanes := hit.flatMap fun p =>
          (if p < modePorts s.mac.mode then lanesOf s.mac.mode p else []) ++ (if p < modePorts mode then lanesOf mode p else [])
        guards [(lanes.any fun l => s.tst.underTest.contains (0x100 + l), fun _ => refuse s 0x1201),
            (s.retrainingAny, fun _ => refuse s 0x1202)] fun _ => .pend (s.enterPortMode mode mask)

/-- PORT_MODE_SET (R593): its steps 1 to 4 run within the command (log entry 38). -/
def execPortModeSet (e : AdminEntry) (s : State) : Host.Outcome State Fault Refusal :=
  let t := s.runCmd portModeSetSpec e
  .next (match t.findPend (·.cmd.opcode = 0x0B00) with
    | some p => (t.finish p 0 0 []).raiseEs 426
    | none => t)

/-- PORT_LINK_CHANGE (R593, R595): the link of a port that exists, is administratively up and has lanes. -/
def execPortLinkChange (port : Fin 8) (up : Bool) (s : State) : Host.Outcome State Fault Refusal :=
  .next <|
    let p := port.val
    let v := s.port p
    if !s.mainOn || !s.portExists p then s
    else if up && (!v.adminUp || v.lanes.isEmpty) then s
    else
      let s := s.setPort p { v with retraining := false }
      let s := if up && v.retraining then s.raiseEs 425 else s
      s.setLink p up

/-- PORT_CFG (R597). -/
def portCfgSpec : CmdSpec where
  opcode := 0x0B01
  needs := fun _ => 2
  locks := fun _ c => [⟨.port, c.p 0 % 16⟩]
  indirect := false
  noGen := false
  body := fun c s =>
    c.checked s [(0, 0xF), (1, 0xF80FBFFF)] fun _ =>
      let p := c.p 0
      let v := s.port p
      let mf := field (c.p 1) 13 0
      guards [(p ≥ 8, fun _ => badP s 0), (field (c.p 1) 16 15 = 3 || mf < 1518 || mf > 9600, fun _ => badP s 1),
          (!s.portExists p, fun _ => notFound s)] fun _ =>
        let s := s.setPort p { v with cfg := c.p 1 }
        .ok (if (s.port p).adminUp then s else s.setLink p false) []

/-- PORT_CFG (R597). -/
def execPortCfg (e : AdminEntry) (s : State) : Host.Outcome State Fault Refusal := .next (s.runCmd portCfgSpec e)

/-- PORT_STATS_READ (R608). -/
def portStatsReadSpec : CmdSpec where
  opcode := 0x0B02
  needs := fun c => c.needsBlock (max 2 (2 * (c.p 1 % 128))) 0
  locks := fun _ _ => []
  indirect := true
  noGen := false
  body := fun c s =>
    c.checked s [(0, 0x8000000F), (1, 0x7F007F)] fun _ =>
      let p := c.p 0 % 16
      let first := field (c.p 1) 22 16
      let n := field (c.p 1) 6 0
      guards [(p ≥ 8, fun _ => badP s 0), (n = 0 || first + n > 80, fun _ => badP s 1), (c.shortBlock (16 + 2 * n), fun _ => badParam s 6),
          (!s.portExists p, fun _ => notFound s)] fun _ =>
        let v := s.port p
        let ks := (List.range n).map (first + ·)
        let ws := ks.flatMap fun k => results [lookupD v.stats k 0 % 2 ^ 32, lookupD v.stats k 0 / 2 ^ 32]
        let s := if bitAt (c.p 0) 31 then s.setPort p { v with stats := v.stats.filter fun e => !ks.contains e.1 } else s
        if c.indirect then .ok (s.emit (.hostWrite c.mid (s.q (s.inst c.mid).adminQid).pas (dwd c.entry 4 + 64) (wordsBytes ws))) [] else .ok s ws

/-- PORT_STATS_READ (R608). -/
def execPortStatsRead (e : AdminEntry) (s : State) : Host.Outcome State Fault Refusal := .next (s.runCmd portStatsReadSpec e)

/-! ## Pause and PFC -/

/-- The claim of PFC headroom on a port's reserve buffer (R604). -/
def pfcClaim (p mid : Nat) : Nat × Nat := (0x03000000 + p, holderWord 0x12 0x01 mid)

/-- PORT_PFC_CFG (R603, R604). -/
def portPfcCfgSpec : CmdSpec where
  opcode := 0x0B03
  needs := fun _ => 4
  locks := fun _ c => [⟨.port, c.p 0 % 16⟩]
  indirect := false
  noGen := false
  body := fun c s =>
    c.checked s [(0, 0x8000070F)] fun _ =>
      let p := c.p 0 % 16
      let prio := field (c.p 0) 10 8
      let on := bitAt (c.p 0) 31
      let v := s.port p
      let rest := eraseKey v.lossless prio
      let room := (c.p 3 + 4095) / 4096
      let others := rest.foldl (fun n e => n + (e.2.headroom + 4095) / 4096) 0
      guards [(p ≥ 8, fun _ => badP s 0), (!s.portExists p, fun _ => notFound s)] fun _ =>
        if !on then
          let s := s.setPort p { v with lossless := rest, xoffSent := v.xoffSent.filter (· != prio) }
          let s := if v.xoffSent.contains prio then (s.sendPause p prio 0).raiseEs 424 else s
          .ok (if rest.isEmpty && !v.lossless.isEmpty then s.dropClaim (0x03000000 + p) else s) []
        else
          guards [(c.p 1 ≤ c.p 2, fun _ => refuse s 0x1204), (v.fcMode = 0 || (v.fcMode = 1 && prio != 0), fun _ => refuse s 0x1205),
              (others + room > (s.quota (0x800 + p)).min, fun _ => refuse s 0x1203)] fun _ =>
            withClaims s [pfcClaim p c.mid] fun s =>
              .ok ((s.setPort p { v with lossless := insertKey rest prio { xoff := c.p 1, xon := c.p 2, headroom := room * 4096 } }).settleAccount p prio) []

/-- PORT_PFC_CFG (R603). -/
def execPortPfcCfg (e : AdminEntry) (s : State) : Host.Outcome State Fault Refusal := .next (s.runCmd portPfcCfgSpec e)

/-- PAUSE_REPEAT (R605): half of the quanta have elapsed and the account stays above xon. -/
def execPauseRepeat (port : Fin 8) (prio : Fin 8) (s : State) : Host.Outcome State Fault Refusal :=
  .next <|
    let v := s.port port.val
    match lookup v.lossless prio.val with
    | some l =>
      if v.xoffSent.contains prio.val && v.fcMode != 0 && decide (s.account port.val prio.val > l.xon) then s.sendPause port.val prio.val 0xFFFF
      else s
    | none => s

/-- Classes stop or resume as a pause or PFC frame says (R606). -/
def State.honourPause (s : State) (p enable : Nat) (quanta : List Nat) : State :=
  let v := s.port p
  let hit := numsWhere 8 (bitAt enable)
  let stop := hit.filter fun c => quanta.getD c 0 != 0
  s.setPort p { v with stopped := stop ++ v.stopped.filter fun c => !hit.contains c }

/-- PAUSE_FRAME_RECEIVED (R598, R606, R607): pause names every class with one time, PFC the classes of its vector. A port that
passes control frames honours none. -/
def execPauseFrameReceived (port : Fin 8) (pfc : Bool) (enable : BitVec 8) (quanta : Vector (BitVec 16) 8) (s : State) :
    Host.Outcome State Fault Refusal :=
  .next <|
    let p := port.val
    if !s.mainOn || !s.portExists p || !(s.port p).up || (s.port p).passControl then s
    else
      let qs := quanta.toList.map BitVec.toNat
      if pfc then
        let s := s.stat p 11
        let s := (numsWhere 8 (bitAt enable.toNat)).foldl (fun s c => s.stat p (12 + c)) s
        s.honourPause p enable.toNat qs
      else (s.stat p 10).honourPause p 255 (List.replicate 8 (qs.headD 0))

/-- PAUSE_EXPIRY (R606). -/
def execPauseExpiry (port : Fin 8) (cls : Fin 8) (s : State) : Host.Outcome State Fault Refusal :=
  .next (s.setPort port.val { s.port port.val with stopped := (s.port port.val).stopped.filter (· != cls.val) })

/-! ## The management port -/

/-- MGP_FRAME_RECEIVED (R613): a frame without its FCS. A frame that is neither to the port's address nor broadcast, or of another
EtherType, or of an unknown type, is counted and dropped; a wake frame to the port's own address asserts WAKE# in Standby. An MCTP packet
goes to the endpoint, whose messages are commands of their own (log entry 39). -/
def execMgpFrameReceived (frame : List Byte) (s : State) : Host.Outcome State Fault Refusal :=
  .next <|
    if !s.mgpUp then s
    else
      let dst := beNat (slice frame 0 6)
      let own := dst = s.mgp.mac
      let type := beNat (slice frame 14 1)
      if !(own || dst = 2 ^ 48 - 1) || beNat (slice frame 12 2) != 0x88B5 || !(type = 1 || type = 2) || beNat (slice frame 15 1) != 0 then
        s.bump R.MGP_RX_OTHER
      else if type = 2 then (if s.mode != 0 then s.bump R.MGP_RX_OTHER else if own then s.assertWake else s)
      else s

/-- MGP_LINK_CHANGE (R611). -/
def execMgpLinkChange (up : Bool) (speed : Fin 3) (full : Bool) (s : State) : Host.Outcome State Fault Refusal :=
  .next (({ s with mgp := { s.mgp with inSpeed := speed.val, inFull := full, phyUp := up } }).mgpLink up)

/-- MGP_COLLISION (R612): a half-duplex transmission of a frame meets receive activity. -/
def execMgpCollision (frame : List Byte) (late : Bool) (s : State) : Host.Outcome State Fault Refusal :=
  .next <|
    if !s.mgpUp || s.mgpSpeed.2 then s
    else
      let before := match s.mgp.sending with
        | some (f, n, _) => if f = frame then n else 0
        | none => 0
      let s := s.bump R.MGP_COLLISIONS
      if late then { s.bump R.MGP_LATE_COLL with mgp := { s.mgp with sending := none } }
      else
        let n := before + 1
        let s := s.emit (.sgmii frame true)
        if n ≥ 16 then ({ s.bump R.MGP_EXCESS_COLL with mgp := { s.mgp with sending := none } }).raiseEs 430
        else
          let (v, s) := s.draw
          { s with mgp := { s.mgp with sending := some (frame, n, v % 2 ^ min n 10) } }

/-- BACKOFF_EXPIRY (R612): the frame is tried again. -/
def execBackoffExpiry (s : State) : Host.Outcome State Fault Refusal :=
  .next <|
    match s.mgp.sending with
    | some (f, _, _) => s.emit (.sgmii f false)
    | none => s

/-- SMBUS_BUS_ERROR (R610, R617). -/
def execSmbusBusError (s : State) : Host.Outcome State Fault Refusal :=
  .next (if s.rfb F.PWR_STATUS_aux_good then (s.bump R.MGP_SMB_ERRORS).raiseEs 429 else s)

/-! ## MCTP messages (R614 to R616) -/

/-- A control or SPDM message reaches the endpoint. -/
def State.mctpMessage (s : State) (src type : Nat) (setEid : Option Nat) (complete : Bool) : State :=
  match s.mctpHost with
  | .nobody => s
  | .keeper => if complete && s.mctpWaiting < 16 then s.mctpAnswer src type setEid else s.mctpDrop
  | .stalled =>
    if !complete || s.mctpWaiting ≥ 16 then s.mctpDrop
    else { s with mgp := { s.mgp with waiting := s.mgp.waiting ++ [(src, type, setEid)] } }
  | _ => if complete && type = 0 then s.mctpAnswer src type setEid else s.mctpDrop

/-- MCTP_CONTROL_MESSAGE (R614, R615): the EID that it assigns, if it is Set Endpoint ID. -/
def execMctpControlMessage (src : BitVec 8) (setEid : Option Byte) (complete : Bool) (s : State) : Host.Outcome State Fault Refusal :=
  .next (s.mctpMessage src.toNat 0 (setEid.map BitVec.toNat) complete)

/-- SPDM_MESSAGE (R615). -/
def execSpdmMessage (src : BitVec 8) (complete : Bool) (s : State) : Host.Outcome State Fault Refusal :=
  .next (s.mctpMessage src.toNat 5 none complete)

/-- YADOPEX (R615, R616): a message that carries an entry of 1 to 4 units joins Keeper's queue. -/
def execYadopex (src : BitVec 8) (entry : List Word) (complete : Bool) (s : State) : Host.Outcome State Fault Refusal :=
  .next <|
    let n := entry.length
    match s.mctpHost with
    | .nobody => s
    | .supervisor | .loader => if complete then s.vendorAnswer src.toNat 1 1 0 [] else s.mctpDrop
    | _ =>
      if !complete || s.mctpWaiting ≥ 16 then s.mctpDrop
      else if n % 16 != 0 || n = 0 || n > 64 then s.vendorAnswer src.toNat 1 2 0 []
      else { s with cmds := { s.cmds with bmcQueue := s.cmds.bmcQueue ++ [entry] } }

/-- WAKE (R616). -/
def execWake (src : BitVec 8) (s : State) : Host.Outcome State Fault Refusal :=
  .next <|
    match s.mctpHost with
    | .nobody => s
    | .supervisor => if s.boot.wakeArmed then s.assertWake.vendorAnswer src.toNat 2 0 0 [] else s.vendorAnswer src.toNat 2 1 0 []
    | _ => s.unserved src.toNat 2

/-- RECOVERY_WRITE (R616): the ROM loader stores image bytes in the state cache. -/
def execRecoveryWrite (src : BitVec 8) (offset : Word) (bytes : List Byte) (s : State) : Host.Outcome State Fault Refusal :=
  .next <|
    let n := bytes.length
    let o := offset.toNat
    match s.mctpHost with
    | .nobody => s
    | .loader =>
      if o % 4 != 0 || n % 4 != 0 || n < 4 || n > 1016 || o + n > 33554432 then s.vendorAnswer src.toNat 3 2 0 []
      else ({ s with mem := { s.mem with cache := Mem.write s.mem.cache o bytes } }).vendorAnswer src.toNat 3 0 0 []
    | _ => s.unserved src.toNat 3

end Sys2Proof.Machine
end

