-- ==== Sys2Proof/Machine/Queues.lean ====
section
/-! DEFINITION. Meanings of the queue manager's events and commands (R178 to R227). -/

namespace Sys2Proof.Machine

/-! ## Doorbells -/

/-- A local queue number that an instance owns (R145, R219, R305): any of instance 0's, and those below queue_max of an instance that exists. -/
def State.ownsLoc (s : State) (i loc : Nat) : Bool :=
  let v := s.inst i
  i = 0 || (v.state != 0 && v.state != 5 && decide (loc < quotaMax v.quota 1))

/-- A doorbell that a function's window decodes, for the queue that p selects. A local queue that the instance owns and that is Free discards it
(R202); one that it does not own counts it in HST_DB_BAD, and it is logged as an unsupported request (R142, R144, R146, R156, R305; log entry 60). -/
def State.ringDoorbell (s : State) (iid loc : Nat) (p : QCtx → Bool) (value : Nat) (arm : Bool) : State :=
  if !s.fnOpen iid || (iid != 0 && loc ≥ 6144) then s
  else match s.findQ iid loc with
    | none => if s.ownsLoc iid loc then s.bump R.QMG_DB_DISCARDED else (s.bump R.HST_DB_BAD).urPosted iid
    | some q => if p (s.q q) then (s.doorbell q value arm).ensureFetch q else s

/-- DOORBELL_WRITE (R199 to R204). -/
def execDoorbellWrite (iid : Fin 2048) (loc : BitVec 16) (value : Word) (s : State) : Host.Outcome State Fault Refusal :=
  .next (s.ringDoorbell iid.val loc.toNat (fun c => c.type ≤ 4) value.toNat false)

/-- EVQ_DOORBELL_WRITE (R199, R205, R209). -/
def execEvqDoorbellWrite (iid : Fin 2048) (loc : BitVec 16) (value : Word) (arm : Bool) (s : State) : Host.Outcome State Fault Refusal :=
  .next (s.ringDoorbell iid.val loc.toNat (fun c => decide (c.type ≥ 5)) value.toNat arm)

/-- CONTEXT_FILL_COMPLETE (R204, R215, R241). -/
def execContextFillComplete (qid : BitVec 16) (ok : Bool) (s : State) : Host.Outcome State Fault Refusal :=
  let q := qid.toNat
  .next <|
    if (s.q q).hot || (s.q q).state = 0 || !s.mainOn then s
    else if !ok then s.raiseEs 228
    else
      let s := s.makeHotRoom
      (((s.setQ q { s.q q with hot := true }).bump R.QMG_CTX_FILLS).replayDoorbells q).ensureFetch q

/-! ## Entries -/

/-- The segments of a TX_FRAME entry: bytes of each (R192). -/
def segBytes (words : List Word) : List Nat := (List.range (field (wd words 2) 23 16)).map fun k => wd words (10 + 4 * k)

/-- The first reserved field of a TX_FRAME entry that is not 0, or field out of range: its word (R191, R192). -/
def txFault (words : List Word) : Option Nat :=
  let n := field (wd words 2) 23 16
  match reservedWord words [(0, 0x800FFFFF), (2, 0xFFFFFF), (4, 0xFFFF0001), (5, 0), (6, 0), (7, 0)] with
  | some w => some w
  | none =>
    if n > 254 then some 2
    else (List.range n).findSome? fun k =>
      if wd words (10 + 4 * k) > 65535 then some (10 + 4 * k) else if wd words (11 + 4 * k) != 0 then some (11 + 4 * k) else none

/-- The reads of a TX_FRAME entry's segments go out in their order, each under a tag of its own in its turn (R151, R192). -/
def State.readSegs (s : State) (q : Nat) (words : List Word) : State :=
  (List.range (field (wd words 2) 23 16)).foldl
    (fun s k => s.readNow (s.q q).iid (s.q q).pas (dwd words (8 + 4 * k)) (wd words (10 + 4 * k))) s

/-- A segment read of queue q has failed (R153, R156): the error of its completion, or the timeout of its tag. -/
def State.segFailed (s : State) (q : Nat) (p : SegRead) : State :=
  let c := s.q q
  match p with
  | .poisoned => s.aer c.iid .poisoned
  | .ecrc => s.aer c.iid .ecrc
  | .timedOut =>
    match s.openTag with
    | some (t, h) =>
      ({ s with host := h }).tagTimeout t { iid := c.iid, gen := (s.inst c.iid).gen, qgen := c.qgen, unit := .ringFetch q, quarantined := true }
    | none => s
  | _ => s

/-- A transmit entry is checked, its segments are read, and its frame enters egress (R192, R226, R227). payload says how the reads end. While no tag is
free the entry waits (R151). -/
def State.txFrame (s : State) (q : Nat) (words : List Word) (payload : SegRead) : State :=
  if s.openTag.isNone then s
  else
  let n := field (wd words 2) 23 16
  let total := wd words 2 % 2 ^ 16
  let segs := segBytes words
  s.readEntry q 3 words (· = 0x1000) ((8 + 4 * n + 15) / 16) fun len =>
    if n = 0 || total = 0 || segs.contains 0 || segs.foldl (· + ·) 0 != total then s.endEntry q len words 0x11 0
    else if total < 14 then s.endEntry q len words 0x12 2
    else match txFault words with
      | some w => s.endEntry q len words 0x12 w
      | none =>
        let s := s.readSegs q words
        match payload with
        | .poisoned | .ecrc | .refused | .timedOut => (s.segFailed q payload).endEntry q len words 0x100 0
        | .data bytes =>
          let c := s.q q
          let w0 := wd words 0
          let d := slice bytes 0 total
          let d := if bitAt w0 18 then putL3Sum d else d
          let d := if bitAt w0 19 then putL4Sum d else d
          let notify := bitAt w0 17
          let tag := field (wd words 1) 31 16
          let (ptr, s) := s.allocBuf c.iid total
          match ptr with
          | none => s.endEntry q len words 0x0102 0x0900
          | some ptr =>
            let s := (s.storeBuf ptr d).takeUnits q len w0 tag (notify || c.notifyAll)
            let tx : TxRef := { q := q, gen := c.qgen, iid := c.iid, igen := (s.inst c.iid).gen, index := c.fi, units := len, w0 := w0, tag := tag, notify := notify, tsReq := bitAt w0 16 }
            let tags : List Tag := if bitAt (wd words 4) 0 then [{ isS := false, tci := field (wd words 4) 31 16 }] else []
            let p : Pkt := { ptr := ptr, data := d, tags := tags, source := 12, ts := s.now, tsUncertain := s.timeUncertain, inst := c.iid }
            (match s.hostTap q with
              | some r => s.hostTapFrame r q p tx
              | none => s.egress { p with tx := some tx }).fetched q

/-- TX_FRAME (R192). -/
def execTxFrame (qid : BitVec 16) (words : List Word) (payload : SegRead) (s : State) : Host.Outcome State Fault Refusal :=
  .next (s.txFrame qid.toNat words payload)

/-- A receive entry posts its buffer (R194, R226); in a Draining queue it completes ABORTED (R216). R194's layout places no notify flag, which R198 gives
an entry: the model takes word 0 bit 17 for it, as TX_FRAME and the commands have it, and accepts the other flags of R185, bits 16, 18 and 19, without
effect (DESIGN CHOICE, log entry 60). -/
def State.rxBuffer (s : State) (q : Nat) (words : List Word) : State :=
  let bytes := wd words 2 % 2 ^ 17
  s.readEntry q 2 words (· = 0x1100) 1 fun len =>
    let reserved := reservedWord words ([(0, 0x800FFFFF), (2, 0x1FFFF), (4, 0xFFFFFFF8)] ++ (List.range 10).map fun k => (6 + k, 0))
    if bytes = 0 then s.endEntry q len words 0x11 0
    else match (if bytes > 65536 then some 2 else reserved) with
      | some w => s.endEntry q len words 0x12 w
      | none =>
        let c := s.q q
        let w0 := wd words 0
        let tag := field (wd words 1) 31 16
        let notify := bitAt w0 17
        if c.state = 2 then s.endEntry q len words 0x0101 0
        else
          let b : RxBuf := { index := c.fi, w0 := w0, units := len, tag := tag, addr := dwd words 4, bytes := bytes, notify := notify }
          let s := s.takeUnits q len w0 tag (notify || c.notifyAll)
          let s := s.setQ q { s.q q with rxBufs := (s.q q).rxBufs ++ [b] }
          (s.rxDrain q ((s.q q).rxWait.length + 1)).fetched q

/-- RX_BUFFER (R194). -/
def execRxBuffer (qid : BitVec 16) (words : List Word) (s : State) : Host.Outcome State Fault Refusal := .next (s.rxBuffer qid.toNat words)

/-- PAD_ENTRY (R188), on any submission ring. -/
def execPadEntry (qid : BitVec 16) (words : List Word) (s : State) : Host.Outcome State Fault Refusal :=
  let q := qid.toNat
  let c := s.q q
  let admin := c.type = 1 && c.state = 1 && c.fi != c.pi && c.loc = 0 && s.fetchOpen (.inst (Fin.ofNat 2048 c.iid))
  .next <|
    if wd words 0 % 2 ^ 16 != 0xFFFF || !(admin || s.mayFetch q 2 || s.mayFetch q 3 || s.mayFetch q 4) then s
    else (s.padEntry q (wd words 1 % 2 ^ 16) (field (wd words 1) 31 16) (wd words 0)).fetched q

/-- COALESCE_TIMER_EXPIRY (R208). -/
def execCoalesceTimerExpiry (qid : BitVec 16) (s : State) : Host.Outcome State Fault Refusal :=
  let q := qid.toNat
  .next <|
    match s.evqOf q with
    | some e => if (s.q q).accCount > 0 && (s.q e).coalTime != 0 then s.postNotify q else s
    | none => s

/-! ## Queue creation -/

/-- A local queue number that an instance may use for a new queue (R218). -/
def locOk (i loc : Nat) : Bool := loc != 0 && (i = 0 || loc < 6144)

/-- The vector field of a queue and its event queue: NOT_FOUND, VECTOR_MISMATCH, or the vector (R218, R219, R225). -/
def State.evqCheck (s : State) (i w : Nat) : Option Nat × Option (State → Res) :=
  let evq := field w 31 16
  let v := w % 2 ^ 16
  if evq = 0xFFFF then (some 0xFFFF, if v = 0xFFFF then none else some fun s => refuse s 0x0204)
  else match (s.findQ i evq).filter fun e => (s.q e).type = 6 && (s.q e).state = 1 with
    | none => (none, some notFound)
    | some e => (some (s.q e).vector, if v = 0xFFFF || v = (s.q e).vector then none else some fun s => refuse s 0x0204)

/-- A leaf belongs to another instance (R225). The spec gives no refusal for a number that names no node, or a node that is no leaf, and the model takes
it (DESIGN CHOICE, log entry 60). -/
def State.leafForeign (s : State) (i leaf : Nat) : Bool :=
  match (if leaf = 0 then none else s.node leaf) with
  | some n => n.owner != i
  | none => false

/-- A queue's QID is taken and its context written hot (R215, R216). -/
def State.newQueue (s : State) (i : Nat) (c : QCtx) : Res :=
  let pool := s.poolAllows i 1 1
  guards [(i != 0 && c.loc ≥ quotaMax (s.inst i).quota 1, fun _ => quotaExceeded s), (pool == some true, fun _ => quotaExceeded s),
      (pool == some false, fun _ => noResource s)] fun _ =>
    match s.freeQid with
    | (none, s) => noResource s
    | (some q, s) =>
      let s := s.makeHotRoom
      let s := s.setQ q { startedQ c with iid := i, qgen := nextQgen (s.q q).qgen, instGen := (s.inst i).gen }
      .ok s (results [q, (if i = 0 then 0x10000 else 0x4000) + c.loc * 8])

/-- QUEUE_CREATE (R218, R219, R225). -/
def queueCreateSpec : CmdSpec where
  opcode := 0x0200
  needs := fun _ => 12
  locks := fun _ c => [⟨.queue, c.target * 2 ^ 16 + c.p 0 % 2 ^ 16⟩]
  indirect := false
  noGen := false
  body := fun c s =>
    c.checked s [(0, 0xFFFFFFFF), (4, 0x10D), (7, 0xFFFF), (8, 0xFFFFF800), (9, 0), (10, 0), (11, 0)] fun _ =>
      let i := c.target
      let type := field (c.p 0) 31 24
      let log2 := field (c.p 0) 23 16
      let loc := c.p 0 % 2 ^ 16
      let base := c.p 1 + c.p 2 * 2 ^ 32
      let wb := c.p 5 + c.p 6 * 2 ^ 32
      let wbEn := bitAt (c.p 4) 2
      let (vec, bad) := s.evqCheck i (c.p 3)
      let leaf := if type = 3 then c.p 7 else 0
      guards [(type < 2 || type > 5 || !locOk i loc, fun _ => badP s 0), (s.wrongState i true, fun _ => wrongStateAnswer s i),
          (log2 < 6 || log2 > 16, fun _ => refuse s 0x0201), (base % 4096 != 0 || wbEn && wb % 8 != 0, fun _ => refuse s 0x0202),
          ((s.findQ i loc).isSome, fun _ => refuse s 0x0203), (bad.isSome, fun _ => (bad.getD notFound) s),
          (s.leafForeign i leaf, fun _ => refuse s 0x0205)] fun _ =>
        s.newQueue i {
          type := type, sizeLog2 := log2, loc := loc, base := base, evq := field (c.p 3) 31 16, vector := vec.getD 0xFFFF
          pasid := field (c.p 8) 31 12, pasidEn := bitAt (c.p 8) 11, notifyAll := bitAt (c.p 4) 8, rxScatter := bitAt (c.p 4) 3
          ciWbEn := wbEn, wakeOnRx := bitAt (c.p 4) 0, ciWb := wb, coalCount := leaf }

/-- QUEUE_CREATE (R218, R219). -/
def execQueueCreate (e : AdminEntry) (s : State) : Host.Outcome State Fault Refusal := .next (s.runCmd queueCreateSpec e)

/-- EVQ_CREATE (R223, R225). -/
def evqCreateSpec : CmdSpec where
  opcode := 0x0210
  needs := fun _ => 9
  locks := fun _ c => [⟨.queue, c.target * 2 ^ 16 + c.p 0 % 2 ^ 16⟩]
  indirect := false
  noGen := false
  body := fun c s =>
    c.checked s [(0, 0xFFFFFF), (3, 0xFFFF), (4, 4), (8, 0xFFFFF800)] fun _ =>
      let i := c.target
      let log2 := field (c.p 0) 23 16
      let loc := c.p 0 % 2 ^ 16
      let base := c.p 1 + c.p 2 * 2 ^ 32
      let wb := c.p 5 + c.p 6 * 2 ^ 32
      let wbEn := bitAt (c.p 4) 2
      guards [(!locOk i loc, fun _ => badP s 0), (s.wrongState i true, fun _ => wrongStateAnswer s i),
          (log2 < 6 || log2 > 16, fun _ => refuse s 0x0201), (base % 4096 != 0 || wbEn && wb % 8 != 0, fun _ => refuse s 0x0202),
          ((s.findQ i loc).isSome, fun _ => refuse s 0x0203), (c.p 3 ≥ s.vectorQuota i, fun _ => refuse s 0x0208),
          (s.vectorShort i (c.p 3), fun _ => noResource s)] fun _ =>
        s.newQueue i {
          type := 6, sizeLog2 := log2, loc := loc, base := base, vector := c.p 3, pasid := field (c.p 8) 31 12
          pasidEn := bitAt (c.p 8) 11, ciWbEn := wbEn, ciWb := wb, coalTime := field (c.p 7) 31 16, coalCount := c.p 7 % 2 ^ 16 }

/-- EVQ_CREATE (R223). -/
def execEvqCreate (e : AdminEntry) (s : State) : Host.Outcome State Fault Refusal := .next (s.runCmd evqCreateSpec e)

/-! ## Queue destruction -/

/-- A body on the queue that a command names, in an instance whose state allows it (R219). -/
def Cmd.onQueue (c : Cmd) (s : State) (loc : Nat) (body : Nat → Res) : Res :=
  guards [(s.wrongState c.target false, fun _ => wrongStateAnswer s c.target)] fun _ =>
    match s.findQ c.target loc with
    | none => notFound s
    | some q => body q

/-- QUEUE_DESTROY (R216, R220). The PI at acceptance is kept for its final reply. An Aborted queue is Free at once, and the command answers SUCCESS without
a PENDING reply before it, with force 0 too (DESIGN CHOICE, log entry 60). -/
def queueDestroySpec : CmdSpec where
  opcode := 0x0201
  needs := fun _ => 2
  locks := fun _ c => [⟨.queue, c.target * 2 ^ 16 + c.p 0 % 2 ^ 16⟩]
  indirect := false
  noGen := false
  body := fun c s =>
    c.checked s [(0, 0x1FFFF)] fun _ =>
      c.onQueue s (c.p 0 % 2 ^ 16) fun q =>
        let x := s.q q
        guards [(x.type = 6 || x.type = 1, fun _ => badP s 0)] fun _ =>
          if x.state = 3 then .ok ((s.freeQueue q false).raiseEs 229) (results [x.ci, x.pi])
          else if bitAt (c.p 0) 16 then
            let s := ((s.abortBuffers q).abortEntries q)
            .ok ((s.freeQueue q true).raiseEs 229) (results [(s.q q).ci, x.pi])
          else .pendNote ((s.setQ q { x with state := 2 }).abortBuffers q) [q, x.pi]

/-- QUEUE_DESTROY (R220). -/
def execQueueDestroy (e : AdminEntry) (s : State) : Host.Outcome State Fault Refusal := .next (s.runCmd queueDestroySpec e)

/-- QUEUE_DRAIN_END (R216, R220). -/
def execQueueDrainEnd (qid : BitVec 16) (s : State) : Host.Outcome State Fault Refusal :=
  let q := qid.toNat
  let c := s.q q
  .next <|
    if c.state != 2 || c.ci != c.pi || !c.taken.isEmpty || !c.ready.isEmpty then s
    else
      let s := s.freeQueue q false
      match s.findPend (fun p => p.cmd.opcode = 0x0201 && p.note.head? == some q) with
      | some p => s.finish p 0 0 (results [c.ci, p.note.getD 1 0])
      | none => s

/-- EVQ_DESTROY (R224, R225). -/
def evqDestroySpec : CmdSpec where
  opcode := 0x0211
  needs := fun _ => 1
  locks := fun _ c => [⟨.queue, c.target * 2 ^ 16 + c.p 0 % 2 ^ 16⟩]
  indirect := false
  noGen := false
  body := fun c s =>
    c.checked s [(0, 0xFFFF)] fun _ =>
      c.onQueue s (c.p 0) fun q =>
        let bound := s.queues.any fun e => e.2.iid = c.target && e.2.state != 0 && e.2.type != 6 && e.2.evq = c.p 0
        guards [((s.q q).type != 6, fun _ => notFound s), (bound, fun _ => refuse s 0x0207)] fun _ => .ok (s.freeQueue q false) []

/-- EVQ_DESTROY (R224). -/
def execEvqDestroy (e : AdminEntry) (s : State) : Host.Outcome State Fault Refusal := .next (s.runCmd evqDestroySpec e)

/-! ## Queue changes -/

/-- The parts that a QUEUE_MODIFY selects, applied to a context (R221). -/
def modifiedQ (c : Cmd) (x : QCtx) (vec : Nat) : QCtx :=
  let on := fun b => bitAt (c.p 0) b
  let x := if on 25 then (if x.type = 6 then { x with vector := c.p 3 % 2 ^ 16 } else { x with evq := field (c.p 3) 31 16, vector := vec }) else x
  let x := if on 26 then { x with notifyAll := bitAt (c.p 4) 8, rxScatter := bitAt (c.p 4) 3, ciWbEn := bitAt (c.p 4) 2, wakeOnRx := bitAt (c.p 4) 0 }
    else x
  let x := if on 27 then { x with ciWb := c.p 5 + c.p 6 * 2 ^ 32 } else x
  let x := if !on 28 then x
    else if x.type = 6 then { x with coalTime := field (c.p 7) 31 16, coalCount := c.p 7 % 2 ^ 16 }
    else if x.type = 3 then { x with coalCount := c.p 7 % 2 ^ 16 } else x
  let x := if on 29 then { x with pasid := field (c.p 8) 31 12, pasidEn := bitAt (c.p 8) 11 } else x
  if on 24 then startedQ { x with sizeLog2 := field (c.p 0) 23 16, base := c.p 1 + c.p 2 * 2 ^ 32 } else x

/-- QUEUE_MODIFY (R221, R225). -/
def queueModifySpec : CmdSpec where
  opcode := 0x0202
  needs := fun _ => 9
  locks := fun _ c => [⟨.queue, c.target * 2 ^ 16 + c.p 0 % 2 ^ 16⟩]
  indirect := false
  noGen := false
  body := fun c s =>
    let on := fun b => bitAt (c.p 0) b
    c.checked s ([(0, 0x3FFFFFFF)] ++ (if on 26 then [(4, 0x10D)] else []) ++ if on 29 then [(8, 0xFFFFF800)] else []) fun _ =>
      guards [(field (c.p 0) 31 24 = 0 || (c.p 0 % 2 ^ 16 = 0 && field (c.p 0) 31 24 != 2), fun _ => badP s 0)] fun _ =>
        c.onQueue s (c.p 0 % 2 ^ 16) fun q =>
          let x := s.q q
          let log2 := field (c.p 0) 23 16
          let (vec, bad) := if on 25 && x.type != 6 then s.evqCheck c.target (c.p 3) else (some 0xFFFF, none)
          let y := modifiedQ c x (vec.getD 0xFFFF)
          guards [(on 24 && (log2 < 6 || log2 > 16), fun _ => refuse s 0x0201),
              (on 24 && (c.p 1) % 4096 != 0 || (on 26 || on 27) && y.ciWbEn && y.ciWb % 8 != 0, fun _ => refuse s 0x0202),
              (on 24 && x.state != 3, fun _ => refuse s 0x0203), (bad.isSome, fun _ => (bad.getD notFound) s),
              (on 28 && x.type = 3 && s.leafForeign c.target (c.p 7 % 2 ^ 16), fun _ => refuse s 0x0205),
              (on 25 && x.type = 6 && c.p 3 % 2 ^ 16 ≥ s.vectorQuota c.target, fun _ => refuse s 0x0208),
              (on 25 && x.type = 6 && s.vectorShort c.target (c.p 3 % 2 ^ 16), fun _ => noResource s)] fun _ =>
            .ok (s.setQ q y) []

/-- QUEUE_MODIFY (R221). -/
def execQueueModify (e : AdminEntry) (s : State) : Host.Outcome State Fault Refusal := .next (s.runCmd queueModifySpec e)

/-- QUEUE_QUERY (R222). -/
def queueQuerySpec : CmdSpec where
  opcode := 0x0203
  needs := fun _ => 16
  locks := fun _ c => [⟨.queue, c.target * 2 ^ 16 + c.p 0 % 2 ^ 16⟩]
  indirect := false
  noGen := false
  body := fun c s => c.checked s [(0, 0xFFFF)] fun _ => c.onQueue s (c.p 0) fun q => .ok s (ctxWords (s.q q))

/-- QUEUE_QUERY (R222). -/
def execQueueQuery (e : AdminEntry) (s : State) : Host.Outcome State Fault Refusal := .next (s.runCmd queueQuerySpec e)

/-! ## Overflow recovery -/

/-- A catch-up entry for queue q on event queue e, if q's CI has advanced beyond the last posted (R212); its count is left open. -/
def State.catchUp (s : State) (e : Nat) (x : Nat × State) (q : Nat) : Nat × State :=
  let (n, s) := x
  let c := s.q q
  if c.ci = c.lastPosted then (n, s)
  else
    let (v, s) := s.draw
    let posts := (s.q e).state = 1 && !(s.q e).overflow && sub32 (s.q e).pi (s.q e).ci != (s.q e).size - 1
    let body := s.eventBody q 0x03 (v % 65535 + 1)
    let s := (if posts then s.setQ q { c with lastPosted := c.ci } else s).postDue e 1 body
    (if posts then n + 1 else n, s)

/-- EVQ_REARM (R212, R224), on an event queue or a telemetry ring (R213), to which no queue is bound. -/
def evqRearmSpec : CmdSpec where
  opcode := 0x0212
  needs := fun _ => 2
  locks := fun _ c => [⟨.queue, c.target * 2 ^ 16 + c.p 0 % 2 ^ 16⟩]
  indirect := false
  noGen := false
  body := fun c s =>
    c.checked s [(0, 0xFFFF)] fun _ =>
      c.onQueue s (c.p 0) fun e =>
        let x := s.q e
        guards [(x.type != 6 && x.type != 5, fun _ => notFound s), (x.ci != x.pi, fun _ => refuse s 0x0206)] fun _ =>
          let s := s.setQ e { x with overflow := false, armed := false, drops := 0 }
          let bound := (s.queues.filter fun y => y.2.iid = c.target && y.2.state != 0 && y.2.type != 6 && x.type = 6 && y.2.evq = c.p 0).map (·.1)
          let (n, s) := bound.foldl (fun r q => State.catchUp r.2 e r q) (0, s)
          .ok s (results [x.drops, n])

/-- EVQ_REARM (R212). -/
def execEvqRearm (e : AdminEntry) (s : State) : Host.Outcome State Fault Refusal := .next (s.runCmd evqRearmSpec e)

/-- A context is shown (R239). -/
def State.ctxSel (s : State) (q : Nat) : State :=
  let ws := ctxWords (s.q q)
  (List.range 16).foldl (fun s k => s.setReg (R.QMG_CTX_WORD k) (wd ws k)) (s.setF F.QMG_CTX_SEL_qid q)

/-- QMG_CTX_SEL_WRITE (R239). -/
def execQmgCtxSelWrite (mid : BitVec 13) (qid : BitVec 16) (s : State) : Host.Outcome State Fault Refusal :=
  .next (s.gatedWrite mid.toNat R.QMG_CTX_SEL fun s => s.ctxSel qid.toNat)

end Sys2Proof.Machine
end

