-- ==== Sys2Proof/Machine/Ras.lean ====
section
/-! DEFINITION. Meanings of faults, retirement, Foghorn and the fault log (R719 to R739). -/

namespace Sys2Proof.Machine

/-! ## Faults -/

/-- LEAK_TICK (R720): leak_s seconds have passed for a resource. -/
def execLeakTick (resource : BitVec 16) (s : State) : Host.Outcome State Fault Refusal :=
  .next (s.setCounter resource.toNat (s.counter resource.toNat - 1))

/-- HIGH_BER_EVENT (R720): code 0x01, and the lane's port retrains once. -/
def execHighBerEvent (lane : Fin 8) (s : State) : Host.Outcome State Fault Refusal :=
  .next <|
    if !s.mainOn || s.isOut (0x100 + lane.val) then s
    else
      let p := s.lanePort lane.val
      let s := if s.portExists p then s.setLink p false else s
      s.fault 0x01 (0x100 + lane.val) 1 [p]

/-- KEEPER_LOCKSTEP_MISMATCH (R728). -/
def execKeeperLockstepMismatch (pair : Fin 2) (s : State) : Host.Outcome State Fault Refusal := .next (s.pairFault pair.val [0])

/-- HEARTBEAT_TIMEOUT (R728): suspended while the active pair is halted (R752). -/
def execHeartbeatTimeout (s : State) : Host.Outcome State Fault Refusal :=
  .next (if s.boot.keeperHalted then s else s.pairFault s.activePair [1])

/-- KEEPER_MEMORY_ERROR (R720, R728). -/
def execKeeperMemoryError (pair : Fin 2) (corrected : Bool) (s : State) : Host.Outcome State Fault Refusal :=
  .next <|
    if !s.mainOn || s.pair pair.val == .off then s
    else if corrected then s.fault 0x0E (pairRes pair.val) 0 [] else s.pairFault pair.val [2]

/-- The AER error that a condition of the link is (R156). -/
def LinkError.aer : LinkError → AerError
  | .receiver => .receiver
  | .replayTimer => .replayTimer
  | .replayRollover => .replayRollover
  | .corrected => .correctedInternal
  | .dataLink => .dataLink
  | .flowControl => .flowControl
  | .malformed _ => .malformed
  | .ecrc _ => .ecrc
  | .uncorrectable => .uncorrectableInternal

/-- The function in which an error of the link is logged (R156): that of a request which the device takes as completer in the function
addressed, the link's own in PF0. -/
def State.errorFn (s : State) : LinkError → Nat
  | .malformed fn | .ecrc fn => if s.fnExists fn.val then fn.val else 0
  | _ => 0

/-- HOST_LINK_ERROR (R156). -/
def execHostLinkError (error : LinkError) (s : State) : Host.Outcome State Fault Refusal :=
  .next (if !s.mainOn then s else s.aer (s.errorFn error) error.aer)

/-! ## Retirement -/

/-- RETIREMENT_START (R725): the next retirement of a kind. -/
def execRetirementStart (kind : Fin 9) (s : State) : Host.Outcome State Fault Refusal := .next (if s.mainOn then s.retireNext kind.val else s)

/-- RETIREMENT_END (R725). -/
def execRetirementEnd (resource : BitVec 16) (s : State) : Host.Outcome State Fault Refusal := .next (s.retireFinish resource.toNat)

/-- RAS_RETIRE (R319, R726). -/
def rasRetireSpec : CmdSpec where
  opcode := 0x0E01
  needs := fun _ => 1
  locks := fun _ c => [⟨.resource, c.p 0 % 65536⟩]
  indirect := false
  noGen := false
  body := fun c s =>
    let r := c.p 0 % 65536
    c.checked s [(0, 0xFFFF)] fun _ =>
      guards [(!resKnown r, fun _ => refuse s 0x1703), (s.isRetired r || s.ras.queued.contains r, fun _ => refuse s 0x1701),
          (resKind r = 7 && s.isRetired (pairRes (1 - resIndex r)), fun _ => refuse s 0x1705),
          (!s.retireAllowed r, fun _ => refuse s 0x0706)] fun _ => .pend (s.queueRetire r)

/-- RAS_RETIRE (R726); RETIREMENT_END brings the final reply. -/
def execRasRetire (e : AdminEntry) (s : State) : Host.Outcome State Fault Refusal := .next (s.runCmd rasRetireSpec e)

/-- RAS_RESTORE (R727). -/
def rasRestoreSpec : CmdSpec where
  opcode := 0x0E02
  needs := fun _ => 1
  locks := fun _ c => [⟨.resource, c.p 0 % 65536⟩]
  indirect := false
  noGen := false
  body := fun c s =>
    let r := c.p 0 % 65536
    c.checked s [(0, 0xFFFF)] fun _ =>
      guards [(s.ras.running.contains r, fun _ => refuse s 0x1706), (!s.ras.retired.contains r, fun _ => refuse s 0x1702)] fun _ =>
        withClaims s [(testClaim r, holderWord 0x17 0x01 c.mid)] .pend

/-- RAS_RESTORE (R727); SELFTEST_END brings the final reply. -/
def execRasRestore (e : AdminEntry) (s : State) : Host.Outcome State Fault Refusal := .next (s.runCmd rasRestoreSpec e)

/-- A self-test has ended (R727, R741): a restore takes effect or fails; a placement answers. A channel that fails adds code 0x07
(R720). -/
def State.selftestEnd (s : State) (r : Nat) (pass : Bool) : State :=
  let fails := fun (s : State) =>
    if pass then s
    else
      let s := s.bump R.TST_SELFTEST_FAILS
      if resKind r = 3 then s.fault 0x07 r 0 [] else s
  match s.findPend fun p => p.cmd.opcode = 0x0E02 && p.cmd.p 0 % 65536 = r with
  | some p =>
    let s := s.dropClaim (testClaim r)
    if pass then (s.restored r).finish p 0 0 [] else (fails s).finish p 0x20 0x1704 []
  | none =>
    match s.findPend fun p => p.cmd.opcode = 0x0F00 && p.cmd.p 0 % 65536 = r with
    | some p => ((fails s).finish p 0 0 (results [b2n pass])).raiseEs 502
    | none => s

/-- SELFTEST_END (R741, R743): a self-test follows a placement that has taken effect. -/
def execSelftestEnd (resource : BitVec 16) (pass : Bool) (s : State) : Host.Outcome State Fault Refusal :=
  .next (if s.retireDone resource.toNat then s.selftestEnd resource.toNat pass else s)

/-- A kind's configuration changes: a counter that a lower threshold has come down to is treated as a crossing (R722, R727). -/
def State.setKind (s : State) (k v : Nat) : State :=
  let old := s.rf (F.RAS_KIND_CFG_threshold k)
  let s := s.setReg (R.RAS_KIND_CFG k) v
  let hit := s.ras.counters.filter fun e => resKind e.1 = k && decide (v % 65536 ≤ e.2) && decide (e.2 < old)
  hit.foldl (fun s e =>
    if bitAt v 31 then s.queueRetire e.1
    else (s.log 1 { cls := 0, block := resBlock e.1, res := e.1, counter := e.2 }).raiseEs 35) s

/-- A value of RAS_KIND_CFG_k is in range (R738). -/
def kindGood (v : Nat) : Bool := 50 ≤ field v 30 24 && field v 30 24 ≤ 100 && field v 23 16 != 0 && v % 65536 != 0

/-- RAS_THRESHOLD_SET (R727). -/
def rasThresholdSetSpec : CmdSpec where
  opcode := 0x0E03
  needs := fun _ => 2
  locks := fun _ c => [⟨.kind, c.p 0 % 16⟩]
  indirect := false
  noGen := false
  body := fun c s =>
    c.checked s [(0, 15)] fun _ =>
      guards [(c.p 0 = 0 || c.p 0 > 8, fun _ => badP s 0), (!kindGood (c.p 1), fun _ => badP s 1)] fun _ => .ok (s.setKind (c.p 0) (c.p 1)) []

/-- RAS_THRESHOLD_SET (R727). -/
def execRasThresholdSet (e : AdminEntry) (s : State) : Host.Outcome State Fault Refusal := .next (s.runCmd rasThresholdSetSpec e)

/-! ## Foghorn and the log -/

/-- RAS_FOGHORN_ACK (R732). -/
def rasFoghornAckSpec : CmdSpec where
  opcode := 0x0E04
  needs := fun _ => 1
  locks := fun _ _ => [⟨.foghorn, 0⟩]
  indirect := false
  noGen := false
  body := fun c s =>
    c.checked s [(0, 0x1F)] fun _ =>
      .ok ((s.fogClear (c.p 0)).log 6 {}) (results [s.reg R.RAS_FOGHORN % 32])

/-- RAS_FOGHORN_ACK (R732). -/
def execRasFoghornAck (e : AdminEntry) (s : State) : Host.Outcome State Fault Refusal := .next (s.runCmd rasFoghornAckSpec e)

/-- The records held from a sequence on, at most n: the first sequence and how many (R735). -/
def State.logSpan (s : State) (first n : Nat) : Nat × Nat :=
  if !s.ras.logged then (first, 0)
  else
    let old := s.reg R.RAS_LOG_OLDEST
    let new := s.reg R.RAS_LOG_NEWEST
    let first := if later old first then old else first
    if later first new then (first, 0) else (first, min n (sub32 new first + 1))

/-- RAS_LOG_READ (R105, R735). -/
def rasLogReadSpec : CmdSpec where
  opcode := 0x0E00
  needs := fun c => if bitAt (c.p 0) 31 then 4 else max 4 (16 * (c.p 0 % 2 ^ 17) + 4)
  locks := fun _ _ => []
  indirect := false
  noGen := false
  body := fun c s =>
    let toHost := bitAt (c.p 0) 31
    let n := c.p 0 % 2 ^ 17
    c.checked s [(0, 0x8001FFFF)] fun _ =>
      guards [(toHost && !c.fromManager, fun _ => badP s 0), (n = 0 || n > (if toHost then 81920 else 3), fun _ => badP s 0)] fun _ =>
        let (first, k) := s.logSpan (c.p 1) n
        let bytes := fun (j : Nat) => Mem.bytes s.mem.mram (logBase + add32 first j % logSlots * 64) 64
        let bs := (List.range k).flatMap bytes
        let head := results [first, k, s.reg R.RAS_LOG_OLDEST, s.reg R.RAS_LOG_NEWEST]
        if toHost then .ok (if k = 0 then s else s.emit (.hostWrite 0 (s.q (s.inst 0).adminQid).pas (c.p 2 + c.p 3 * 2 ^ 32) bs)) head
        else .ok s (head ++ bytesWords bs)

/-- RAS_LOG_READ (R735). -/
def execRasLogRead (e : AdminEntry) (s : State) : Host.Outcome State Fault Refusal := .next (s.runCmd rasLogReadSpec e)

/-! ## Registers -/

/-- RAS_HEARTBEAT_WRITE (R728): a write by the active pair restarts the heartbeat timeout, whose end is an event of its own; another
pair's write is none of it. -/
def execRasHeartbeatWrite (mid : BitVec 13) (s : State) : Host.Outcome State Fault Refusal :=
  .next (s.gatedWrite mid.toNat R.RAS_HEARTBEAT fun s => s)

/-- RAS_CNT_SEL is written: a snapshot of the resource's counter (R738). -/
def State.rasSel (s : State) (r : Nat) : State :=
  let s := (s.setF F.RAS_CNT_SEL_resource r).setF F.RAS_CNT_SEL_busy 0
  s.setReg R.RAS_CNT_VALUE (b2n (s.ras.retired.contains r) * 2 ^ 31 + b2n (s.ras.running.contains r) * 2 ^ 30
    + b2n (s.tst.underTest.contains r) * 2 ^ 29 + b2n (s.ras.limitHold.contains r) * 2 ^ 28 + s.counter r)

/-- RAS_CNT_SEL_WRITE (R738). -/
def execRasCntSelWrite (mid : BitVec 13) (resource : BitVec 16) (s : State) : Host.Outcome State Fault Refusal :=
  .next (s.gatedWrite mid.toNat R.RAS_CNT_SEL fun s => s.rasSel resource.toNat)

end Sys2Proof.Machine
end

