-- ==== Sys2Proof/Machine/Saffron.lean ====
section
/-! DEFINITION. Meanings of Saffron's commands and events (R533 to R558). -/

namespace Sys2Proof.Machine

/-! ## Processing -/

/-- SAFFRON_REQUEST (R546, R547): the request at a place of the list of those that have come enters Saffron. -/
def execSaffronRequest (place : BitVec 16) (s : State) : Host.Outcome State Fault Refusal := .next (s.safEnter place.toNat)

/-- DERIVATION_COMPLETE (R541). -/
def execDerivationComplete (assoc : BitVec 20) (slotB : Bool) (s : State) : Host.Outcome State Fault Refusal :=
  .next (s.derived assoc.toNat (b2n slotB))

/-! ## Root keys -/

/-- An association names a root slot. -/
def State.rootUsed (s : State) (k : Nat) : Bool := s.saf.assocs.any fun e => safValid e.2 && safRoot e.2 = k

/-- A root slot is set, with its cache entries invalidated and ES 390 raised (R541, R557). -/
def State.setRoot (s : State) (k : Nat) (key : Option (List Byte)) : State :=
  let roots := match key with
    | some b => insertKey s.saf.roots k b
    | none => eraseKey s.saf.roots k
  (({ s with saf := { s.saf with roots := roots } }).cacheDrop fun e => e.root = k).raiseEs 390

/-- SAF_ROOT_KEY_LOAD (R537, R538). -/
def safRootKeyLoadSpec : CmdSpec where
  opcode := 0x0900
  needs := fun c => if bitAt (c.p 0) 31 then 1 else if bitAt (c.p 0) 30 then 11 else 9
  locks := fun _ c => [⟨.rootKey, field (c.p 0) 5 0⟩]
  indirect := false
  noGen := false
  body := fun c s =>
    c.checked s [(0, 0xC0003F3F)] fun _ =>
      let k := field (c.p 0) 5 0
      let erase := bitAt (c.p 0) 31
      let wrapped := bitAt (c.p 0) 30
      let kek := s.rootKey (field (c.p 0) 13 8)
      guards [(!erase && wrapped && kek.isNone, fun _ => refuse s 0x1001), (s.rootUsed k, fun _ => refuse s 0x1002),
          (!erase && !wrapped && s.mode != 1, fun _ => refuse s 0x1003)] fun _ =>
        if erase then .ok (s.setRoot k none) []
        else
          let key := if wrapped then (kek.bind fun kk => Config.kwUnwrap kk (wordsBytes ((c.params.drop 1).take 10))).map fun b => slice b 0 32
            else some (wordsBytes ((c.params.drop 1).take 8))
          match key with
          | none => refuse s 0x1004
          | some b => .ok (s.setRoot k (some b)) (results [(Config.keyCheck b).toNat])

/-- SAF_ROOT_KEY_LOAD (R537, R538). -/
def execSafRootKeyLoad (e : AdminEntry) (s : State) : Host.Outcome State Fault Refusal := .next (s.runCmd safRootKeyLoadSpec e)

/-! ## Associations -/

/-- The key and salt words of an entry serve a record (R540, R543): the first offending parameter word. -/
def keyFault (r : List Word) (c : Cmd) : Option Nat :=
  let nz := fun (n : Nat) => c.p n != 0
  if safProto r = 4 then (List.range 8).findSome? fun k => if nz (9 + k) then some (9 + k) else none
  else if safProto r = 1 && !safSeq64 r then [17, 18, 19].find? nz
  else if safProto r = 2 then [18, 19].find? nz
  else none

/-- The key and salt words of an entry. -/
def Cmd.keyWords (c : Cmd) : List Word := (List.range 11).map fun k => w32 (c.p (9 + k))

/-- A key slot is loaded under an epoch with a sequence and bitmap (R543, R545). -/
def State.loadSlot (s : State) (a : Nat) (r : List Word) (k epoch seq map : Nat) (key : List Word) : List Word :=
  let r := setSlotSeq (setSlotWord (setSlotWord r k 0 (2 ^ 31)) k 1 epoch) k seq map
  let b := s.blob a r k key
  (List.range 14).foldl (fun r i => setSlotWord r k (6 + i) (wd b i)) r

/-- A record as SAF_ASSOC_CREATE starts it (R542, R543). -/
def newAssoc (c : Cmd) (gen : Nat) : List Word :=
  let w := fun n v (r : List Word) => setWd r n v
  let label := if bitAt (c.p 0) 15 then c.p 1 % 2 ^ 16 else gen
  let r := List.replicate 64 0#32
  let r := w 0 (2 ^ 31 + field (c.p 0) 31 31 * 2 ^ 30 + field (c.p 0) 29 16 * 2 ^ 16 + c.target) r
  let r := w 1 (label * 2 ^ 16 + field (c.p 0) 7 0 * 2 ^ 8 + field (c.p 0) 13 12 * 2 ^ 4 + field (c.p 0) 14 14 * 2 ^ 3) r
  w 6 (c.p 8) (w 5 (c.p 7) (w 4 (c.p 4) (w 3 (c.p 3) (w 2 (c.p 2) r))))

/-- SAF_ASSOC_CREATE (R543). -/
def safAssocCreateSpec : CmdSpec where
  opcode := 0x0910
  needs := fun _ => 20
  locks := fun _ _ => []
  indirect := false
  noGen := false
  body := fun c s =>
    c.checked s [(0, 0xBFFFF0FF)] fun _ =>
      let r := newAssoc c (s.inst c.target).gen
      let pool := s.poolAllows c.target 9 1
      guards [(field (c.p 0) 7 0 > 64, fun _ => badP s 0),
          ((s.rootKey (safRoot r)).isNone, fun _ => refuse s 0x1001),
          (!safPair (safProto r) (safAlg r), fun _ => refuse s 0x1005),
          ((keyFault r c).isSome, fun _ => badP s ((keyFault r c).getD 0)),
          (bitAt (c.p 0) 15 && !c.fromManager, fun _ => refuse s 0x100B),
          (pool == some true, fun _ => quotaExceeded s), (pool == some false, fun _ => noResource s)] fun _ =>
        let (v, s) := s.draw
        match searchFrom (fun k => !safValid (s.assoc k)) 1048576 v 1048576 with
        | none => noResource s
        | some a =>
          let k := if safProto r = 1 && !safOut r then safAn r % 2 else 0
          let init := c.p 5 + c.p 6 * 2 ^ 32
          let seq := if safOut r && init = 0 && safProto r ≤ 2 then 1 else init
          let map := if safOut r || seq = 0 || safProto r > 2 then 0 else 1
          .ok (s.setAssoc a (s.loadSlot a r k 0 seq map c.keyWords)) (results [a])

/-- SAF_ASSOC_CREATE (R543). -/
def execSafAssocCreate (e : AdminEntry) (s : State) : Host.Outcome State Fault Refusal := .next (s.runCmd safAssocCreateSpec e)

/-- The target instance owns a valid association (R542). -/
def State.ownsAssoc (s : State) (c : Cmd) (a : Nat) : Bool := safValid (s.assoc a) && safOwner (s.assoc a) = c.target

/-- SAF_ASSOC_REKEY (R545). -/
def safAssocRekeySpec : CmdSpec where
  opcode := 0x0911
  needs := fun c => if bitAt (c.p 0) 24 then 20 else 1
  locks := fun _ c => [⟨.assoc, field (c.p 0) 19 0⟩]
  indirect := false
  noGen := false
  body := fun c s =>
    c.checked s [(0, 0x070FFFFF)] fun _ =>
      let a := field (c.p 0) 19 0
      let r := s.assoc a
      let load := bitAt (c.p 0) 24
      let switch := bitAt (c.p 0) 25
      let macIn := safProto r = 1 && !safOut r
      let k := if macIn then b2n (bitAt (c.p 0) 26) else 1 - safActive r
      guards [(!s.ownsAssoc c a, fun _ => notFound s), (safProto r = 2 || safProto r = 4, fun _ => refuse s 0x1007),
          (macIn && switch, fun _ => badP s 0), (load && (keyFault r c).isSome, fun _ => badP s ((keyFault r c).getD 0)),
          (switch && !load && safOut r && !slotLoaded r k, fun _ => refuse s 0x1008)] fun _ =>
        let epoch := max (slotEpoch r 0) (slotEpoch r 1) + 1
        let ctx := safContext a r k
        let fresh := fun (s : State) => { s with saf := { s.saf with warned := s.saf.warned.filter (· != a * 2 + k) } }
        let s := if load then fresh ((s.setAssoc a (s.loadSlot a r k (epoch % 2 ^ 32) 0 0 c.keyWords)).cacheDrop fun e => e.context == ctx && e.root = safRoot r)
          else s
        let r := s.assoc a
        let s := if !switch then s
          else
            let an := if safProto r = 1 then (safAn r + 1) % 4 else safAn r
            let w1 := putField (putField (putField (wd r 1) 7 7 k) 5 4 an) 6 6 0
            fresh (s.setAssoc a (setSlotSeq (setWd r 1 w1) k (if safProto r = 1 then 1 else 0) 0))
        .ok s (if load then results [epoch] else [])

/-- SAF_ASSOC_REKEY (R545). -/
def execSafAssocRekey (e : AdminEntry) (s : State) : Host.Outcome State Fault Refusal := .next (s.runCmd safAssocRekeySpec e)

/-- An NVMe connection or a local attachment names an association (R544, R526). -/
def State.assocUsed (s : State) (a : Nat) : Bool := s.psq.conns.any fun e =>
  let p := fun n => (lookupD e.2.params n 0#32).toNat
  match e.2.kind with
  | .nvme => bitAt (p 10) 3 && field (p 11) 19 0 = a
  | .local => bitAt (p 6) 31 && field (p 6) 19 0 = a
  | .qp => false

/-- SAF_ASSOC_DESTROY (R544). -/
def safAssocDestroySpec : CmdSpec where
  opcode := 0x0912
  needs := fun _ => 1
  locks := fun _ c => [⟨.assoc, field (c.p 0) 19 0⟩]
  indirect := false
  noGen := false
  body := fun c s =>
    c.checked s [(0, 0xFFFFF)] fun _ =>
      let a := c.p 0
      guards [(!s.ownsAssoc c a, fun _ => notFound s), (s.assocUsed a, fun _ => refuse s 0x1006)] fun _ =>
        let s := s.cacheDrop fun e => e.ofAssoc a
        .ok { s with saf := { s.saf with assocs := eraseKey s.saf.assocs a, warned := s.saf.warned.filter fun w => w / 2 != a } } []

/-- SAF_ASSOC_DESTROY (R544). -/
def execSafAssocDestroy (e : AdminEntry) (s : State) : Host.Outcome State Fault Refusal := .next (s.runCmd safAssocDestroySpec e)

/-- SAF_ASSOC_SEL_WRITE (R556): the record of an association is shown. -/
def State.assocSel (s : State) (a : Nat) : State :=
  let s := s.setF F.SAF_ASSOC_SEL_assoc a
  (List.range 12).foldl (fun s k => s.setReg (R.SAF_ASSOC_WORD k) (wd (s.assoc a) k)) s

/-- SAF_ASSOC_SEL_WRITE (R556). -/
def execSafAssocSelWrite (mid : BitVec 13) (assoc : BitVec 20) (s : State) : Host.Outcome State Fault Refusal :=
  .next (s.gatedWrite mid.toNat R.SAF_ASSOC_SEL fun s => s.assocSel assoc.toNat)

/-! ## Operator keys (R554, R555) -/

/-- The record of an operator key slot is written with a state and a hash (R554). -/
def State.putOpKey (s : State) (k state : Nat) (hash : List Word) : State :=
  let seq := add32 (wd (s.opKey k) 1) 1
  let ws := results [state * 2 ^ 30, seq] ++ hash ++ List.replicate 13 0#32
  s.putMram (opKeyOffset k) (wordsBytes (ws ++ [crc32c (wordsBytes ws)]))

/-- SAF_OPKEY_ENROL (R555). -/
def safOpkeyEnrolSpec : CmdSpec where
  opcode := 0x0920
  needs := fun _ => 17
  locks := fun _ c => [⟨.opKey, c.p 0⟩]
  indirect := false
  noGen := false
  body := fun c s =>
    c.checked s [(0, 7)] fun _ =>
      let k := c.p 0
      let hash := (List.range 16).map fun i => w32 (c.p (1 + i))
      let held := (s.opKey k).drop 2 |>.take 16
      guards [(k = 0 || k > 4, fun _ => badP s 0),
          (!(s.opKeyState k = 0 || s.opKeyState k = 2 && held != hash), fun _ => refuse s 0x1009)] fun _ =>
        .ok ((s.putOpKey k 1 hash).raiseEs 391) []

/-- SAF_OPKEY_ENROL (R555). -/
def execSafOpkeyEnrol (e : AdminEntry) (s : State) : Host.Outcome State Fault Refusal := .next (s.runCmd safOpkeyEnrolSpec e)

/-- SAF_OPKEY_REVOKE (R555). -/
def safOpkeyRevokeSpec : CmdSpec where
  opcode := 0x0921
  needs := fun _ => 1
  locks := fun _ c => [⟨.opKey, c.p 0⟩]
  indirect := false
  noGen := false
  body := fun c s =>
    c.checked s [(0, 7)] fun _ =>
      guards [(c.p 0 = 0 || c.p 0 > 4, fun _ => badP s 0)] fun _ =>
        .ok ((s.putOpKey (c.p 0) 2 ((s.opKey (c.p 0)).drop 2 |>.take 16)).raiseEs 391) []

/-- SAF_OPKEY_REVOKE (R555). -/
def execSafOpkeyRevoke (e : AdminEntry) (s : State) : Host.Outcome State Fault Refusal := .next (s.runCmd safOpkeyRevokeSpec e)

end Sys2Proof.Machine
end

