-- ==== Sys2Proof/Machine/Switch.lean ====
section
/-! DEFINITION. Meanings of the switching commands (R430, R442, R447, R450 to R457). -/

namespace Sys2Proof.Machine

/-! ## Action lists and paths -/

/-- The bits that an action uses of operand A and of words 1 to 3 (R433); none for an opcode outside R433. -/
def actMasks (op : Nat) : Option (Nat × Nat × Nat × Nat) :=
  match op with
  | 0x00 => some (0, 0, 0, 0)
  | 0x01 => some (0x13FFF, 0, 0, 0)
  | 0x02 => some (0x2FFF, 0, 0, 0)
  | 0x10 => some (0x7FF, 0xFFFF, 0, 0)
  | 0x11 => some (0x7, 0xFFFF, 0, 0)
  | 0x12 => some (0x3FFF, 0, 0, 0)
  | 0x13 => some (0x7FF, 0, 0, 0)
  | 0x14 => some (0, 0, 0, 0)
  | 0x15 => some (0xFFFF, 0, 0, 0)
  | 0x20 => some (0, 0, 0, 0)
  | 0x21 => some (0x1FFFF, 0, 0, 0)
  | 0x22 => some (0x3FFFF, 0, 0, 0)
  | 0x30 => some (0, 0, 0, 0)
  | 0x31 => some (0xFFF, 0x80FFFFFF, 0, 0)
  | 0x32 => some (0, 0xFFFFFFFF, 0xFFFFFFFF, 0xFFFFFFFF)
  | 0x38 => some (0xFFFF, 0, 0, 0)
  | 0x39 => some (0x3FFFF, 0, 0, 0)
  | 0x40 => some (0x1F, 0, 0, 0)
  | 0x41 => some (0x1F, 0, 0, 0)
  | 0x48 => some (0x3FFF, 0, 0, 0)
  | 0x50 => some (0x3, 0xFFFFF, 0, 0)
  | 0x51 => some (0x1F, 0, 0, 0)
  | 0x52 => some (0x1FFFF, 0, 0, 0)
  | 0x53 => some (0x3, 0xFFFF, 0, 0)
  | _ => none

/-- An action names an object that does not exist (R456). -/
def State.actAbsent (s : State) (a : Act) : Bool :=
  match a.op with
  | 0x01 => (s.table (a.a % 256)).state == .free
  | 0x12 => (lookup s.swx.paths a.a).isNone
  | 0x31 => (lookup s.swx.tunnels a.a).isNone
  | 0x40 => (lookup s.swx.mirrors a.a).isNone
  | 0x41 => (lookup s.swx.mirrors a.a).isNone
  | 0x48 => (lookup s.swx.policers a.a).isNone
  | 0x52 => a.a % 2 ^ 16 = 0
  | _ => false

/-- The entries of a list up to its END (R430). -/
def listActs (ws : List Word) : List Act :=
  ((List.range 8).map fun k =>
    let w := fun j => wd ws (4 * k + j)
    ({ op := field (w 0) 31 24, a := field (w 0) 23 0, w1 := w 1, w2 := w 2, w3 := w 3 } : Act)).takeWhile (·.op != 0)

/-- The parameter word of a list's END that holds an operand, which END has none of (R430). -/
def endBad (ws : List Word) : Option Nat :=
  let n := (listActs ws).length
  if n = 8 then none else ((List.range 4).find? fun j => wd ws (4 * n + j) != 0).map fun j => 1 + 4 * n + j

/-- The first operand word of an action that holds a bit it does not use (R433). -/
def Act.operandBad (a : Act) : Option Nat :=
  match actMasks a.op with
  | some (m, m1, m2, m3) => if !fits a.a m then some 0 else if !fits a.w1 m1 then some 1 else if !fits a.w2 m2 then some 2
    else if !fits a.w3 m3 then some 3 else none
  | none => none

/-- The fault of a list (R430, R433, R446, R456). -/
def State.listFault (s : State) (acts : List Act) : Option (State → Res) :=
  let n := acts.length
  let at_ := fun k => acts.getD k ⟨0, 0, 0, 0, 0⟩
  let bad := fun (p : Act → Bool) => (List.range n).find? fun k => p (at_ k)
  let many := fun k op m => ((acts.take (k + 1)).filter (·.op = op)).length ≥ m
  match bad fun a => (actMasks a.op).isNone with
  | some k => some fun s => .bad s 0x20 0x0D01 (results [k])
  | none =>
    match bad fun a => a.operandBad.isSome with
    | some k => some fun s => badP s (1 + 4 * k + (at_ k).operandBad.getD 0)
    | none =>
      match bad s.actAbsent with
      | some k => some fun s => .bad s 0x20 0x0D02 (results [k])
      | none =>
        match (List.range n).find? fun k => many k 0x30 2 || many k 0x31 2 || many k 0x21 3 with
        | some k => some fun s => .bad s 0x20 0x0D04 (results [k])
        | none => match (List.range n).find? fun k => k ≥ 1 && ((at_ (k - 1)).op = 0x52 || (at_ (k - 1)).op = 0x53) with
          | some k => some fun s => .bad s 0x20 0x0D05 (results [k])
          | none => none

/-- The fault of a path (R438, R456). -/
def State.pathFault (s : State) (ms : List Nat) : Option (State → Res) :=
  let bad := fun (p : Nat → Bool) => (List.range ms.length).find? fun k => p (ms.getD k 0)
  let leafBad := fun m => field m 17 3 != 0 && decide (field m 17 3 < 4096)
  match bad fun m => match field m 31 30 with
      | 0 => field m 29 18 != 0 || leafBad m
      | 1 => field m 29 27 != 0
      | 2 => leafBad m
      | _ => true with
  | some k => some fun s => badP s (2 + k)
  | none =>
    (bad fun m => field m 31 30 = 2 && (lookup s.swx.tunnels (field m 29 18)).isNone).map fun k =>
      fun s => .bad s 0x20 0x0D02 (results [k])

/-- Some route has a kind and value (R417). -/
def State.routeNames (s : State) (kind v : Nat) : Bool :=
  let r := kind * 2 ^ 28 + v
  s.tbl.prefixes.any (·.result = r) || s.tbl.vrfs.any (·.2.default = r)

/-- Some action of some list satisfies p. -/
def State.listNames (s : State) (p : Act → Bool) : Bool := s.swx.lists.any fun l => l.2.2.any p

/-- A list is still named (R456). -/
def State.listReferenced (s : State) (k : Nat) : Bool :=
  s.cls.rules.any (fun r => r.2.valid && r.2.kind = 1 && r.2.value = k)
    || s.tbl.tables.any (fun t => t.2.entries.any (·.2.action = k)) || s.routeNames 0 k

/-- Instance 0's indirection table names a path. -/
def State.indirNames (s : State) (k : Nat) : Bool :=
  (List.range 2048).any fun e => leNat (s.ssBytes internalSsid (indirOff 0 e) 2) = 0x4000 + k

/-- A path is still named (R456). -/
def State.pathReferenced (s : State) (k : Nat) : Bool :=
  s.routeNames 1 k || s.listNames (fun a => a.op = 0x12 && a.a = k)
    || s.swx.mirrors.any (fun m => field m.2.w1 31 30 = 2 && field m.2.w1 15 0 = k) || s.indirNames k

/-- SWX_ACTION_WRITE (R453, R456). -/
def swxActionWriteSpec : CmdSpec where
  opcode := 0x0600
  needs := fun c => if bitAt (c.p 0) 31 then 1 else if bitAt (c.p 0) 24 then 2 + field (c.p 1) 4 0 else 33
  locks := fun _ c => [⟨.actionList, c.p 0 % 2 ^ 25⟩]
  indirect := false
  noGen := false
  body := fun c s =>
    c.checked s [(0, 0x8100FFFF)] fun _ =>
      let k := c.p 0 % 2 ^ 16
      let path := bitAt (c.p 0) 24
      if path && k ≥ 16384 then badP s 0
      else if bitAt (c.p 0) 31 then
        if path then
          guards [((lookup s.swx.paths k).isNone, fun _ => notFound s), (s.pathReferenced k, fun _ => .bad s 0x20 0x0D03 (results [4]))] fun _ =>
            .ok { s with swx := { s.swx with paths := eraseKey s.swx.paths k } } []
        else
          guards [((lookup s.swx.lists k).isNone, fun _ => notFound s), (s.listReferenced k, fun _ => .bad s 0x20 0x0D03 (results [4]))] fun _ =>
            .ok { s with swx := { s.swx with lists := eraseKey s.swx.lists k } } []
      else if path then
        let n := c.p 1
        if n = 0 || n > 16 then badP s 1
        else
          let ms := (List.range n).map fun j => c.p (2 + j)
          match s.pathFault ms with
          | some f => f s
          | none => .ok { s with swx := { s.swx with paths := insertKey s.swx.paths k ms } } []
      else
        let acts := listActs (c.params.drop 1)
        match (s.listFault acts).or ((endBad (c.params.drop 1)).map fun k => fun s => badP s k) with
        | some f => f s
        | none => .ok { s with swx := { s.swx with lists := insertKey s.swx.lists k (c.target, acts) } } []

/-- SWX_ACTION_WRITE (R453). -/
def execSwxActionWrite (e : AdminEntry) (s : State) : Host.Outcome State Fault Refusal := .next (s.runCmd swxActionWriteSpec e)

/-! ## Tunnels and mirrors -/

/-- A tunnel profile is still named (R456). -/
def State.tunnelReferenced (s : State) (k : Nat) : Bool :=
  s.swx.paths.any (fun p => p.2.any fun m => field m 31 30 = 2 && field m 29 18 = k)
    || s.listNames (fun a => a.op = 0x31 && a.a = k) || (k != 0xFFF && s.swx.mirrors.any fun m => field m.2.w2 27 16 = k)

/-- SWX_TUNNEL_CFG (R442, R456). -/
def swxTunnelCfgSpec : CmdSpec where
  opcode := 0x0610
  needs := fun c => if bitAt (c.p 0) 31 then 1 else 26
  locks := fun _ c => [⟨.tunnel, c.p 0 % 2 ^ 12⟩]
  indirect := false
  noGen := false
  body := fun c s =>
    c.checked s [(0, 0x80000FFF)] fun _ =>
      let k := c.p 0 % 2 ^ 12
      let type := field (c.p 1) 31 28
      if bitAt (c.p 0) 31 then
        guards [((lookup s.swx.tunnels k).isNone, fun _ => notFound s), (s.tunnelReferenced k, fun _ => .bad s 0x20 0x0D03 (results [4]))] fun _ =>
          .ok { s with swx := { s.swx with tunnels := eraseKey s.swx.tunnels k } } []
      else c.checked s [(1, 0xFFFFFF80), (16, 0xFFFF), (25, 0xF)] fun _ =>
        guards [(type = 0 || type > 4 || field (c.p 1) 23 16 = 0, fun _ => badP s 1),
            ((type = 1 || type = 2) && c.p 3 ≥ 2 ^ 24, fun _ => badP s 3), (type = 4 && !fits (c.p 3) 0xFFFFFE00, fun _ => badP s 3),
            (type = 4 && !fits (c.p 4) 0xFFFFFE00, fun _ => badP s 4), (c.p 25 > 8, fun _ => badP s 25)] fun _ =>
          .ok { s with swx := { s.swx with tunnels := insertKey s.swx.tunnels k ((c.params.drop 1).take 25) } } []

/-- SWX_TUNNEL_CFG (R442). -/
def execSwxTunnelCfg (e : AdminEntry) (s : State) : Host.Outcome State Fault Refusal := .next (s.runCmd swxTunnelCfgSpec e)

/-- SWX_MIRROR_CFG (R447, R454, R456). -/
def swxMirrorCfgSpec : CmdSpec where
  opcode := 0x0620
  needs := fun c => if bitAt (c.p 0) 31 then 1 else 4
  locks := fun _ c => [⟨.mirror, c.p 0 % 32⟩]
  indirect := false
  noGen := false
  body := fun c s =>
    c.checked s [(0, 0x8000001F)] fun _ =>
      let k := c.p 0 % 32
      if bitAt (c.p 0) 31 then
        guards [((lookup s.swx.mirrors k).isNone, fun _ => notFound s),
            (s.listNames (fun a => (a.op = 0x40 || a.op = 0x41) && a.a = k), fun _ => .bad s 0x20 0x0D03 (results [4]))] fun _ =>
          .ok { s with swx := { s.swx with mirrors := eraseKey s.swx.mirrors k } } []
      else c.checked s [(1, 0xC7FFFFFF), (2, 0xFFFF3FFF), (3, 0xFFFFFF)] fun _ =>
        let kind := field (c.p 1) 31 30
        let cut := field (c.p 2) 13 0
        let prof := field (c.p 2) 27 16
        guards [(kind = 3, fun _ => badP s 1), (kind = 0 && field (c.p 2) 31 28 > 7, fun _ => badP s 2),
            (cut != 0 && (cut < 64 || cut > 9216), fun _ => badP s 2),
            (kind = 2 && (lookup s.swx.paths (field (c.p 1) 15 0)).isNone, fun _ => .bad s 0x20 0x0D02 (results [5])),
            (prof != 0xFFF && (lookup s.swx.tunnels prof).isNone, fun _ => .bad s 0x20 0x0D02 (results [6]))] fun _ =>
          .ok { s with swx := { s.swx with mirrors := insertKey s.swx.mirrors k { w1 := c.p 1, w2 := c.p 2, sampleN := c.p 3 } } } []

/-- SWX_MIRROR_CFG (R454). -/
def execSwxMirrorCfg (e : AdminEntry) (s : State) : Host.Outcome State Fault Refusal := .next (s.runCmd swxMirrorCfgSpec e)

/-! ## Policers -/

/-- SWX_POLICER_CFG (R450, R455, R456). -/
def swxPolicerCfgSpec : CmdSpec where
  opcode := 0x0630
  needs := fun c => if bitAt (c.p 0) 31 then 1 else 6
  locks := fun _ c => [⟨.policer, c.p 0 % 2 ^ 14⟩]
  indirect := false
  noGen := false
  body := fun c s =>
    c.checked s [(0, 0xC0003FFF)] fun _ =>
      let k := c.p 0 % 2 ^ 14
      let old := lookup s.swx.policers k
      if bitAt (c.p 0) 31 then
        guards [(old.isNone, fun _ => notFound s), (s.listNames (fun a => a.op = 0x48 && a.a = k), fun _ => .bad s 0x20 0x0D03 (results [4]))] fun _ =>
          .ok { s with swx := { s.swx with policers := eraseKey s.swx.policers k } } []
      else c.checked s [(5, 0x7F33)] fun _ =>
        let rate := fun r => r < 64 || r > 1600000000
        let size := fun b => b < 64 || b > 2 ^ 24
        let ov := (BitVec.ofNat 7 (field (c.p 5) 14 8)).toInt
        guards [(rate (c.p 1), fun _ => badP s 1), (rate (c.p 2), fun _ => badP s 2), (size (c.p 3), fun _ => badP s 3),
            (size (c.p 4), fun _ => badP s 4), (ov < -32 || field (c.p 5) 5 4 = 3 || field (c.p 5) 1 0 = 3, fun _ => badP s 5),
            (c.p 1 > c.p 2, fun _ => .bad s 0x20 0x0D06 (results [5]))] fun _ =>
          let fill := fun b => if bitAt (c.p 0) 30 then 0 else b * polUnit
          let fresh : Policer := {
            cir := c.p 1, pir := c.p 2, cbs := c.p 3, pbs := c.p 4, overhead := ov, red := field (c.p 5) 5 4, yellow := field (c.p 5) 1 0,
            c := fill (c.p 3), p := fill (c.p 4), nextCir := c.p 1, nextPir := c.p 2 }
          let v := match old with
            | none => fresh
            | some o =>
              let same := o.cbs = c.p 3 && o.pbs = c.p 4
              { fresh with
                cir := o.cir, pir := o.pir, c := if same then o.c else fresh.c, p := if same then o.p else fresh.p,
                green := o.green, yellows := o.yellows, reds := o.reds }
          .ok (s.setPolicer k v) []

/-- SWX_POLICER_CFG (R455). -/
def execSwxPolicerCfg (e : AdminEntry) (s : State) : Host.Outcome State Fault Refusal := .next (s.runCmd swxPolicerCfgSpec e)

/-- POLICER_REFILL (R450). -/
def execPolicerRefill (s : State) : Host.Outcome State Fault Refusal :=
  .next { s with swx := { s.swx with policers := s.swx.policers.map fun e => (e.1, e.2.refill) } }

/-! ## Counters -/

/-- A write of SWX_CNT_SEL (R457). -/
def State.cntSel (s : State) (k : Nat) (clear : Bool) : State :=
  let (a, b) := lookupD s.swx.counters k (0, 0)
  let s := (s.setReg R.SWX_CNT_PKTS_LO (a % 2 ^ 32)).setReg R.SWX_CNT_PKTS_HI (a / 2 ^ 32)
  let s := ((s.setReg R.SWX_CNT_BYTES_LO (b % 2 ^ 32)).setReg R.SWX_CNT_BYTES_HI (b / 2 ^ 32)).setF F.SWX_CNT_SEL_counter k
  if clear then { s with swx := { s.swx with counters := eraseKey s.swx.counters k } } else s

/-- SWX_CNT_SEL_WRITE (R457). -/
def execSwxCntSelWrite (mid : BitVec 13) (k : BitVec 18) (clear : Bool) (s : State) : Host.Outcome State Fault Refusal :=
  .next (s.gatedWrite mid.toNat R.SWX_CNT_SEL fun s => s.cntSel k.toNat clear)

end Sys2Proof.Machine
end

