-- ==== Sys2Proof/Machine/Test.lean ====
section
/-! DEFINITION. Meanings of resources under test, patterns, loopbacks and the debug units (R740 to R757). -/

namespace Sys2Proof.Machine

/-! ## Placement and release (R741 to R745) -/

/-- LPDDR5X channels retired, retiring or under test. -/
def State.chanLimit (s : State) : Nat := ((List.range 32).filter fun c => s.isOut (0x300 + c)).length

/-- Why a placement is refused (R742). -/
def State.placeFault (s : State) (r : Nat) : Option Nat :=
  let i := r % 256
  if s.isRetired r then some 0x1802
  else match r / 256 with
    | 1 => if s.retrainingAny && (s.port (s.lanePort i)).retraining then some 0x1803 else none
    | 3 => if decide (s.chanLimit ≥ 8) && !s.isOut r then some 0x180A else none
    | 5 =>
      let g := i / 8
      let others := ((List.range 8).map (8 * g + ·)).filter fun q => q != i && !s.isOut (0x500 + q)
      if others.isEmpty && !s.isOut r && s.psq.conns.any (·.2.group = g) then some 0x1809 else none
    | 6 => if (s.region i).state > 1 then some 0x1808 else none
    | 7 => if i = s.activePair then some 0x1804 else none
    | 8 => if s.slot i == .off || s.slot i == .empty then none else some 0x1805
    | 9 => if s.rfb F.HST_LINK_STATUS_link_up then some 0x1805 else none
    | 10 => if s.slot (i / 4) == .off || s.slot (i / 4) == .empty then none else some 0x1805
    | _ => none

/-- Resource r is placed under test (R741, R743). -/
def State.place (s : State) (r : Nat) : State :=
  let s := { s with tst := { s.tst with underTest := s.tst.underTest ++ [r] } }
  let s := match testLane r with
    | some n => s.setF (F.TST_LANE_STATUS_under_test n) 1
    | none => s
  let s := (s.takeOut r false).bump R.TST_PLACEMENTS
  if s.tst.underTest.length = 1 then s.modeEvent .test else s

/-- TST_PLACE_UNDER_TEST (R741, R742). -/
def tstPlaceUnderTestSpec : CmdSpec where
  opcode := 0x0F00
  needs := fun _ => 1
  locks := fun _ c => [⟨.resource, c.p 0 % 65536⟩]
  indirect := false
  noGen := false
  body := fun c s =>
    let r := c.p 0 % 65536
    c.checked s [(0, 0x1FFFF)] fun _ =>
      guards [(!testKnown r, fun _ => badP s 0), ((s.placeFault r).isSome, fun _ => refuse s ((s.placeFault r).getD 0))] fun _ =>
        withClaims s [(testClaim r, holderWord 0x18 0x01 c.mid)] fun s => .pend (s.place r)

/-- TST_PLACE_UNDER_TEST (R741): without a self-test the command answers once the placement has taken effect; SELFTEST_END ends the
other. -/
def execTstPlaceUnderTest (e : AdminEntry) (s : State) : Host.Outcome State Fault Refusal :=
  .next (s.runCmd tstPlaceUnderTestSpec e).settlePlaced

/-- TST_RELEASE (R744). -/
def tstReleaseSpec : CmdSpec where
  opcode := 0x0F01
  needs := fun _ => 1
  locks := fun _ c => [⟨.resource, c.p 0 % 65536⟩]
  indirect := false
  noGen := false
  body := fun c s =>
    let r := c.p 0 % 65536
    c.checked s [(0, 0x1FFFF)] fun _ => guards [(!s.tst.underTest.contains r, fun _ => refuse s 0x1801)] fun _ => .pend s

/-- TST_RELEASE (R744): the recalibration and the return to service end within the step. -/
def execTstRelease (e : AdminEntry) (s : State) : Host.Outcome State Fault Refusal :=
  let t := s.runCmd tstReleaseSpec e
  .next <|
    match t.findPend fun p => p.cmd.opcode = 0x0F01 && !s.cmds.pend.contains p with
    | some p =>
      let r := p.cmd.p 0 % 65536
      let t := (t.endTest r).putBack r
      ((t.releaseHold (resKind r)).finish p 0 0 []).raiseEs 502
    | none => t

/-! ## Lanes (R746 to R750) -/

/-- The resource of a test lane. -/
def laneRes (n : Nat) : Nat := if n < 8 then 0x100 + n else if n < 16 then 0x200 + (n - 8) else if n < 32 then 0x900 + (n - 16) else if n < 48 then 0xA00 + (n - 32) else 0xB00

/-- A lane's counters are zeroed (R750, R756). -/
def State.laneZero (s : State) (n : Nat) : State :=
  [R.TST_BITS_LO n, R.TST_BITS_HI n, R.TST_ERRORS_LO n, R.TST_ERRORS_HI n, R.TST_LOCK_LOSSES n].foldl (fun s a => s.setReg a 0) s

/-- Why a lane's control word is refused (R749): the reason, and whether the generator and checker, and the loopback, are refused. -/
def State.laneFault (s : State) (n v : Nat) : Option (Nat × Bool × Bool) :=
  let on := bitAt v 31 || bitAt v 30
  let loop := field v 27 26
  if (on || loop != 0) && !s.tst.underTest.contains (laneRes n) then some (0x1801, true, true)
  else if on && field v 23 20 > 6 then some (0x1806, true, false)
  else if loop = 3 && n = 48 then some (0x1807, false, true)
  else none

/-- TST_LANE_CTL_n is written (R747, R749, R756). -/
def State.laneCtl (s : State) (n v : Nat) : State :=
  let s := s.runChecker n
  let was := s.rfb (F.TST_LANE_CTL_chk_en n)
  let s := if bitAt v 29 then s.laneZero n else s
  let v := v &&& 0xDEFFFFFF
  let (v, s) := match s.laneFault n v with
    | none => (v, s)
    | some (reason, gen, loop) =>
      let v := if gen then v &&& 0x3FFFFFFF else v
      (if loop then v &&& 0xF3FFFFFF else v, s.setF (F.TST_LANE_STATUS_reason n) reason)
  let s := s.setReg (R.TST_LANE_CTL n) v
  let on := bitAt v 30
  if on = was then s
  else ((s.setF (F.TST_LANE_STATUS_lock n) 0).setF (F.TST_LANE_STATUS_counting n) 0).setF (F.TST_LANE_STATUS_done n) (if on then 0 else s.rf (F.TST_LANE_STATUS_done n))

/-- TST_LANE_CTL_ENABLE (R749). -/
def execTstLaneCtlEnable (mid : BitVec 13) (lane : Fin 49) (value : Word) (s : State) : Host.Outcome State Fault Refusal :=
  .next (s.gatedWrite mid.toNat (R.TST_LANE_CTL lane.val) fun s => s.laneCtl lane.val value.toNat)

/-- TST_LANE_CLEAR (R756). -/
def execTstLaneClear (mid : BitVec 13) (lane : Fin 49) (s : State) : Host.Outcome State Fault Refusal :=
  .next (s.gatedWrite mid.toNat (R.TST_LANE_CTL lane.val) fun s => (s.runChecker lane.val).laneZero lane.val)

/-- A lane command's checks: a lane, and under test (R742, R750). -/
def laneChecks (s : State) (r : Nat) (body : Nat → Res) : Res :=
  match (if testKnown r then testLane r else none) with
  | none => badP s 0
  | some n => guards [(!s.tst.underTest.contains r, fun _ => refuse s 0x1801)] fun _ => body n

/-- TST_PATTERN_CFG (R750). -/
def tstPatternCfgSpec : CmdSpec where
  opcode := 0x0F02
  needs := fun _ => 6
  locks := fun _ c => [⟨.resource, c.p 0 % 65536⟩]
  indirect := false
  noGen := false
  body := fun c s =>
    c.checked s [(0, 0xFFFF), (1, 0xFEFFFFFF)] fun _ =>
      laneChecks s (c.p 0) fun n =>
        let v := c.p 1
        guards [(decide (field v 23 20 > 6), fun _ => refuse s 0x1806)] fun _ =>
          let v := putField v 27 26 (s.rf (F.TST_LANE_CTL_loopback n))
          let s := (((s.setReg (R.TST_USER_PAT_0 n) (c.p 2)).setReg (R.TST_USER_PAT_1 n) (c.p 3)).setReg (R.TST_USER_PAT_2 n) (c.p 4)).setReg
            (R.TST_USER_PAT_3 n) (c.p 5)
          .ok (s.laneCtl n v) []

/-- TST_PATTERN_CFG (R750). -/
def execTstPatternCfg (e : AdminEntry) (s : State) : Host.Outcome State Fault Refusal := .next (s.runCmd tstPatternCfgSpec e)

/-- TST_LOOPBACK_CFG (R748, R750). -/
def tstLoopbackCfgSpec : CmdSpec where
  opcode := 0x0F03
  needs := fun _ => 2
  locks := fun _ c => [⟨.resource, c.p 0 % 65536⟩]
  indirect := false
  noGen := false
  body := fun c s =>
    c.checked s [(0, 0xFFFF), (1, 3)] fun _ =>
      laneChecks s (c.p 0) fun n =>
        guards [(c.p 1 = 3 && n = 48, fun _ => refuse s 0x1807)] fun _ => .ok (s.setF (F.TST_LANE_CTL_loopback n) (c.p 1)) []

/-- TST_LOOPBACK_CFG (R750). -/
def execTstLoopbackCfg (e : AdminEntry) (s : State) : Host.Outcome State Fault Refusal := .next (s.runCmd tstLoopbackCfgSpec e)

/-- TST_RESULT_READ (R750). -/
def tstResultReadSpec : CmdSpec where
  opcode := 0x0F04
  needs := fun _ => 6
  locks := fun _ c => [⟨.resource, c.p 0 % 65536⟩]
  indirect := false
  noGen := false
  body := fun c s =>
    c.checked s [(0, 0x8000FFFF)] fun _ =>
      laneChecks s (c.p 0 % 65536) fun n =>
        let s := s.runChecker n
        let ws := results ([R.TST_BITS_LO n, R.TST_BITS_HI n, R.TST_ERRORS_LO n, R.TST_ERRORS_HI n, R.TST_LANE_STATUS n, R.TST_LOCK_LOSSES n].map s.reg)
        .ok (if bitAt (c.p 0) 31 then s.laneZero n else s) ws

/-- TST_RESULT_READ (R750). -/
def execTstResultRead (e : AdminEntry) (s : State) : Host.Outcome State Fault Refusal := .next (s.runCmd tstResultReadSpec e)

/-- A lane's checker is on. -/
def State.checking (s : State) (n : Nat) : Bool := s.mainOn && s.rfb (F.TST_LANE_CTL_chk_en n)

/-- CHECKER_LOCK (R747): counting starts, unless the duration has ended. -/
def execCheckerLock (lane : Fin 49) (s : State) : Host.Outcome State Fault Refusal :=
  let n := lane.val
  .next <|
    if !s.checking n || s.rfb (F.TST_LANE_STATUS_lock n) then s
    else
      let s := s.setF (F.TST_LANE_STATUS_lock n) 1
      if s.rfb (F.TST_LANE_STATUS_done n) then s else s.setF (F.TST_LANE_STATUS_counting n) 1

/-- CHECKER_LOCK_LOSS (R747). -/
def execCheckerLockLoss (lane : Fin 49) (s : State) : Host.Outcome State Fault Refusal :=
  let n := lane.val
  .next <|
    if !s.checking n || !s.rfb (F.TST_LANE_STATUS_lock n) then s
    else
      let s := s.runChecker n
      let s := (s.setF (F.TST_LANE_STATUS_lock n) 0).setF (F.TST_LANE_STATUS_counting n) 0
      (s.bump (R.TST_LOCK_LOSSES n)).raiseEs 500

/-- CHECKER_DURATION_END (R747). -/
def execCheckerDurationEnd (lane : Fin 49) (s : State) : Host.Outcome State Fault Refusal :=
  let n := lane.val
  .next <|
    if !s.checking n || s.reg (R.TST_LANE_CTL n) % 2 ^ 20 = 0 || s.rfb (F.TST_LANE_STATUS_done n) then s
    else
      let s := s.runChecker n
      ((s.setF (F.TST_LANE_STATUS_counting n) 0).setF (F.TST_LANE_STATUS_done n) 1).raiseEs 501

/-! ## The debug access port and the debug units (R751 to R754) -/

/-- BYPASS (R751): the one-bit bypass register captures 0. -/
def execBypass (s : State) : Host.Outcome State Fault Refusal := .next ((s.setF F.TST_DBG_STATUS_selected 0).emit (.tap 0))

/-- IDCODE (R751). -/
def execIdcode (s : State) : Host.Outcome State Fault Refusal := .next ((s.setF F.TST_DBG_STATUS_selected 0).emit (.tap Config.idcode.toNat))

/-- SAMPLE_PRELOAD (R751): the levels of the balls are captured; they are left open (log entry 2). -/
def execSamplePreload (s : State) : Host.Outcome State Fault Refusal :=
  let (v, s) := s.draw
  .next ((s.setF F.TST_DBG_STATUS_selected 0).emit (.tap v))

/-- EXTEST (R751, R754): at level 0 every ball is disconnected from its function. -/
def execExtest (s : State) : Host.Outcome State Fault Refusal :=
  let s := s.setF F.TST_DBG_STATUS_selected 0
  .next (if s.dbgLevel = 0 then { s with boot := { s.boot with extest := true } } else s.dbgRefused.emit (.tap 0))

/-- KEEPER_DEBUG_HALT (R752, R754): halting a core of the active pair halts the pair. -/
def execKeeperDebugHalt (core : Fin 4) (s : State) : Host.Outcome State Fault Refusal :=
  .next <|
    if !s.mainOn then s
    else if s.dbgLevel != 0 then s.dbgRefused
    else if core.val / 2 = s.activePair then { s with boot := { s.boot with keeperHalted := true } }
    else s

/-- KEEPER_DEBUG_RESUME (R752, R754). -/
def execKeeperDebugResume (core : Fin 4) (s : State) : Host.Outcome State Fault Refusal :=
  .next <|
    if !s.mainOn then s
    else if s.dbgLevel != 0 then s.dbgRefused
    else if core.val / 2 = s.activePair && s.boot.keeperHalted then ({ s with boot := { s.boot with keeperHalted := false } }).mctpServe
    else s

/-- A word of TST_CLV_HALT_k is written: its threads halt and resume as their bits change (R464, R465, R753). -/
def State.haltBits (s : State) (k w v : Nat) : State :=
  let a := R.TST_CLV_HALT (k * 8 + w)
  let old := s.reg a
  (List.range 32).foldl
    (fun s b =>
      let n := 32 * w + b
      if bitAt v b = bitAt old b then s else if bitAt v b then s.haltThread k n else s.resumeThread k n)
    (s.setReg a v) |>.clvSettle k

/-- TST_CLV_HALT_WRITE (R753). -/
def execTstClvHaltWrite (mid : BitVec 13) (cluster : Fin 16) (word : Fin 4) (value : Word) (s : State) : Host.Outcome State Fault Refusal :=
  .next (s.gatedWrite mid.toNat (R.TST_CLV_HALT (cluster.val * 8 + word.val)) fun s => s.haltBits cluster.val word.val value.toNat)

/-- The register that TST_CLV_REG_SEL selects (R753): the value of x0 to x31, or of the pc. -/
def State.clvReg (s : State) : Nat :=
  let t := s.th (s.rf F.TST_CLV_REG_SEL_cluster) (s.rf F.TST_CLV_REG_SEL_thread)
  let r := s.rf F.TST_CLV_REG_SEL_reg
  if r < 32 then (t.x.getD r 0#32).toNat else if r = 32 then t.pc else 0

/-- TST_CLV_REG_DATA is written: only while the thread is halted (R753). -/
def State.clvRegWrite (s : State) (v : Nat) : State :=
  let k := s.rf F.TST_CLV_REG_SEL_cluster
  let n := s.rf F.TST_CLV_REG_SEL_thread
  let r := s.rf F.TST_CLV_REG_SEL_reg
  let t := s.th k n
  if t.state != 6 then s
  else if r < 32 then s.setTh k n (t.wr r v)
  else if r = 32 then s.setTh k n { t with pc := v }
  else s

/-- TST_CLV_REG_DATA_WRITE (R753). -/
def execTstClvRegDataWrite (mid : BitVec 13) (value : Word) (s : State) : Host.Outcome State Fault Refusal :=
  .next (s.gatedWrite mid.toNat R.TST_CLV_REG_DATA fun s => s.clvRegWrite value.toNat)

end Sys2Proof.Machine
end

