-- ==== Sys2Proof/Machine/Time.lean ====
section
/-! DEFINITION. Meanings of the time unit, the calibration table and Daymark (R618 to R648). -/

namespace Sys2Proof.Machine

/-! ## TIME_ADJUST -/

/-- Result words 0 to 3 of an instant, laid out as the snapshot registers (R620). -/
def timeWords (t : Nat) : List Word :=
  results [timeSec t % 2 ^ 32, timeSec t / 2 ^ 32, timeNs t, timeFrac t]

/-- TIME_ADJUST (R621 to R623); refused while the device follows another's time (R712). -/
def timeAdjustSpec : CmdSpec where
  opcode := 0x0B10
  needs := fun _ => 5
  locks := fun _ _ => [⟨.time, 0⟩]
  indirect := false
  noGen := false
  body := fun c s =>
    c.checked s [(0, 3)] fun _ => guards [(s.spr.timeFollow && !s.spr.timeRoot, fun _ => refuse s 0x1609)] fun _ =>
      let off := sint64 (c.p 1 + c.p 2 * 2 ^ 32)
      match c.p 0 with
      | 0 =>
        guards [(c.p 2 ≥ 2 ^ 16, fun _ => badP s 2), (c.p 3 ≥ 10 ^ 9, fun _ => badP s 3), (c.p 4 ≥ 256, fun _ => badP s 4)]
          fun _ =>
            let t := timeOf (c.p 1 + c.p 2 * 2 ^ 32) (c.p 3) (c.p 4)
            .ok (s.setTime t) (timeWords t)
      | 1 =>
        .ok ((s.stepped off).2.setTime (s.stepped off).1) (timeWords (s.stepped off).1)
      | 2 =>
        let f := sint32 (c.p 1)
        if !rateOk f s.time.slew then refuse s 0x1403
        else .ok ({ s with time := { s.time with freq := f } }).showRate (timeWords s.now)
      | _ =>
        guards [(!s.rfb F.TIM_STATUS_time_valid, fun _ => refuse s 0x1406), (c.p 3 = 0, fun _ => badP s 3),
            (!rateOk s.time.freq (some (off, c.p 3)), fun _ => refuse s 0x1403)]
          fun _ => .ok ({ s with time := { s.time with slew := some (off, c.p 3) } }).showRate (timeWords s.now)

/-- TIME_ADJUST (R621). -/
def execTimeAdjust (e : AdminEntry) (s : State) : Host.Outcome State Fault Refusal := .next (s.runCmd timeAdjustSpec e)

/-- SLEW_END (R621): the slew's contribution is removed. -/
def execSlewEnd (s : State) : Host.Outcome State Fault Refusal :=
  .next (if s.time.slew.isSome then ({ s with time := { s.time with slew := none } }).showRate else s)

/-- Device time is copied into the snapshot registers; the copy is readable at once (R620). -/
def State.timeSnap (s : State) : State :=
  (((s.setReg R.TIM_SNAP_SEC_LO (timeSec s.now % 2 ^ 32)).setReg R.TIM_SNAP_SEC_HI (timeSec s.now / 2 ^ 32)).setReg
    R.TIM_SNAP_NS (timeNs s.now)).setReg R.TIM_SNAP_FRAC (timeFrac s.now)

/-- TIM_SNAP_CAPTURE (R620). -/
def execTimSnapCapture (mid : BitVec 13) (s : State) : Host.Outcome State Fault Refusal :=
  .next (s.gatedWrite mid.toNat R.TIM_SNAP_CTL State.timeSnap)

/-- The record of an index is shown; an index that holds none shows zeros (R627). -/
def State.sideSel (s : State) (index : Nat) : State :=
  let r := lookupD s.time.side index []
  let s := s.setF F.TIM_SIDE_SEL_index index
  (List.range 4).foldl (fun s k => s.setReg (R.TIM_SIDE_WORD k) (wd r k)) s

/-- TIM_SIDE_SEL_WRITE (R627). -/
def execTimSideSelWrite (mid : BitVec 13) (index : BitVec 16) (s : State) : Host.Outcome State Fault Refusal :=
  .next (s.gatedWrite mid.toNat R.TIM_SIDE_SEL fun s => s.sideSel index.toNat)

/-! ## PPS output and time input -/

/-- TIME_PPS_CFG (R637, R638). -/
def timePpsCfgSpec : CmdSpec where
  opcode := 0x0B11
  needs := fun _ => 2
  locks := fun _ _ => [⟨.pps, 0⟩]
  indirect := false
  noGen := false
  body := fun c s =>
    c.checked s [(0, 0x800003FF)] fun _ =>
      let ms := field (c.p 0) 9 0
      if bitAt (c.p 0) 31 then
        guards [(ms = 0 || ms > 1000 || 1000 % ms != 0, fun _ => refuse s 0x1404),
            (c.p 1 < 100 || c.p 1 > ms * 500000, fun _ => badP s 1)] fun _ =>
          withClaims s [(0x01000000, holderWord 0x14 0x01 c.mid)] fun s =>
            .ok ({ s.setReg R.TIM_PPS_STATUS (2 ^ 31 + ms) with time := { s.time with ppsWidth := c.p 1 } }) []
      else if s.rfb F.TIM_PPS_STATUS_enabled then
        .ok (((s.dropClaim 0x01000000).setReg R.TIM_PPS_STATUS 0).setPpsBall false) []
      else .ok s []

/-- TIME_PPS_CFG (R637). -/
def execTimePpsCfg (e : AdminEntry) (s : State) : Host.Outcome State Fault Refusal := .next (s.runCmd timePpsCfgSpec e)

/-- PPS_EDGE (R637): the ball rises at a period boundary, counted and raised where that is a whole second, and falls width_ns
later. -/
def execPpsEdge (wholeSecond : Bool) (s : State) : Host.Outcome State Fault Refusal :=
  .next <|
    if !s.rfb F.TIM_PPS_STATUS_enabled then s
    else if s.time.ppsBall then s.setPpsBall false
    else
      let s := s.setPpsBall true
      if wholeSecond then (s.bump R.TIM_PPS_EDGES).raiseEs 432 else s

/-- TIME_IN_EDGE (R639). -/
def execTimeInEdge (falling : Bool) (s : State) : Host.Outcome State Fault Refusal :=
  .next <|
    if s.rfb F.TIM_IN_CFG_enable && s.rfb F.TIM_IN_CFG_falling == falling && s.mainOn then
      let t := timeAdd s.now (-(s.pinDelay 1))
      let s := if s.rfb F.TIM_IN_CFG_valid then s.setF F.TIM_IN_CFG_overrun 1 else s
      let s := (((s.setReg R.TIM_IN_SEC_LO (timeSec t % 2 ^ 32)).setReg R.TIM_IN_SEC_HI (timeSec t / 2 ^ 32)).setReg
        R.TIM_IN_NS (timeNs t)).setReg R.TIM_IN_FRAC (timeFrac t)
      (((s.setF F.TIM_IN_CFG_valid 1).bump R.TIM_IN_CAPTURES).raiseEs 433)
    else s

/-- PTM_EXCHANGE (R640): the host's master time with device time, or none where the exchange fails or is not granted. -/
def execPtmExchange (host : Option Dword) (s : State) : Host.Outcome State Fault Refusal :=
  .next <|
    if !s.rfb F.TIM_PTM_CFG_enable || !s.mainOn then s
    else match host with
      | none => (s.bump R.TIM_PTM_FAILS).raiseEs 439
      | some h =>
        let t := s.now
        let s := (s.setReg R.TIM_PTM_HOST_LO (h.toNat % 2 ^ 32)).setReg R.TIM_PTM_HOST_HI (h.toNat / 2 ^ 32)
        let s := (((s.setReg R.TIM_PTM_DEV_SEC_LO (timeSec t % 2 ^ 32)).setReg R.TIM_PTM_DEV_SEC_HI (timeSec t / 2 ^ 32)).setReg
          R.TIM_PTM_DEV_NS (timeNs t)).setReg R.TIM_PTM_DEV_FRAC (timeFrac t)
        s.setF F.TIM_PTM_CFG_valid 1

/-! ## Daymark -/

/-- The alarm is disabled: the ball is released and its claim with it (R638, R645). -/
def State.alarmOff (s : State) : State :=
  let s := s.setF F.TIM_DM_STATUS_alarm_enabled 0
  let s := if s.time.alarmBall then s.dropClaims fun h => field h 28 16 = 0x1402 else s
  { s with time := { s.time with alarmBall := false, alarmWake := false } }

/-- TIME_DAYMARK_ALARM (R638, R645). -/
def timeDaymarkAlarmSpec : CmdSpec where
  opcode := 0x0B12
  needs := fun _ => 3
  locks := fun _ _ => [⟨.alarm, 0⟩]
  indirect := false
  noGen := false
  body := fun c s =>
    c.checked s [(0, 0xE0000000), (2, 0xFFFF)] fun _ =>
      if !bitAt (c.p 0) 31 then .ok s.alarmOff []
      else
        let t := c.p 1 + c.p 2 * 2 ^ 32
        let ball := bitAt (c.p 0) 30
        let apply := fun (s : State) =>
          Res.ok { ((s.setReg R.TIM_DM_ALARM_LO (c.p 1)).setReg R.TIM_DM_ALARM_HI (c.p 2)).setF F.TIM_DM_STATUS_alarm_enabled 1
            with time := { s.time with alarmBall := ball, alarmWake := bitAt (c.p 0) 29 } } []
        if t ≤ s.dmSec then refuse s 0x1405
        else if ball then withClaims s [(0x01000000, holderWord 0x14 0x02 c.mid)] apply
        else apply (if s.time.alarmBall then s.dropClaims fun h => field h 28 16 = 0x1402 else s)

/-- TIME_DAYMARK_ALARM (R645). -/
def execTimeDaymarkAlarm (e : AdminEntry) (s : State) : Host.Outcome State Fault Refusal :=
  .next (s.runCmd timeDaymarkAlarmSpec e)

/-- DAYMARK_ALARM_FIRE (R645): alarm_pending is set, the ball is driven low until the alarm is disabled, WAKE# is asserted in
Standby, or waits for auxiliary power. -/
def execDaymarkAlarmFire (s : State) : Host.Outcome State Fault Refusal :=
  .next <|
    if !s.rfb F.TIM_DM_STATUS_alarm_enabled then s
    else
      let s := (s.setF F.TIM_DM_STATUS_alarm_pending 1).raiseEs 437
      let s := if s.time.alarmBall then s.emit (.ppsBall false) else s
      if !s.time.alarmWake then s
      else if s.rfb F.PWR_STATUS_aux_good then s.assertWake
      else { s with time := { s.time with alarmHeld := true } }

/-- DAYMARK_FOLLOW_CHECK (R644): at a whole second Daymark is loaded where it differs by more than one tick. -/
def execDaymarkFollowCheck (s : State) : Host.Outcome State Fault Refusal :=
  .next <|
    if s.reg R.TIM_DM_CFG % 2 = 1 && s.rfb F.TIM_STATUS_time_valid then
      let tick := 10 ^ 9 * 2 ^ 17
      let dm := (s.dmSec * 2 ^ 15 + s.rf F.TIM_DM_SUB_v) * tick
      if s.now ≤ dm + tick && dm ≤ s.now + tick then s
      else ((s.setDm (timeSec s.now) 0).setF F.TIM_DM_STATUS_daymark_valid 1).setF F.TIM_STATUS_daymark_valid 1
    else s

/-- VBAT_LOSS (R641): VBAT falls below 1.8 V while main and auxiliary supplies are absent. -/
def execVbatLoss (s : State) : Host.Outcome State Fault Refusal :=
  .next <|
    if s.mainOn || s.rfb F.PWR_STATUS_aux_good then s
    else
      let s := (s.setDm 0 0).setReg R.TIM_DM_STATUS (2 ^ 30)
      let s := (s.setReg R.TIM_DM_CFG 1).setF F.TIM_STATUS_daymark_valid 0
      ({ s with time := { s.time with dmPhase := 0, alarmBall := false, alarmWake := false, alarmHeld := false } }).raiseEs 438

/-! ## Calibration table -/

/-- CAL_TABLE_WRITE (R633, R634). The table stands at block word 16. -/
def calTableWriteSpec : CmdSpec where
  opcode := 0x0B21
  needs := fun _ => 0
  locks := fun _ _ => [⟨.cal, 0⟩]
  indirect := true
  noGen := false
  body := fun c s =>
    if !bitAt (wd c.entry 0) 18 then badParam s 0
    else c.checked s [(0, 1)] fun _ =>
      let bs := wordsBytes (c.params.drop 16)
      match calFault bs bs.length with
      | some r => refuse s r
      | none => withClaims s [(0x04000030, holderWord 0x14 0x03 c.mid)] fun s => .pend (s.markMram 0x10000 true)

/-- CAL_TABLE_WRITE (R633). -/
def execCalTableWrite (e : AdminEntry) (s : State) : Host.Outcome State Fault Refusal := .next (s.runCmd calTableWriteSpec e)

/-- The table as CAL_TABLE_WRITE writes it: its sequence and CRC recomputed (R633). -/
def calSealed (tbl : List Byte) (seq : Nat) : List Byte :=
  let t := tbl.take 8 ++ leBytes 4 seq ++ tbl.drop 12
  t.take 60 ++ leBytes 4 (calCrc t) ++ t.drop 64

/-- CAL_TABLE_WRITE_END (R633): the three copies are written in turn, the values go live unless apply is 0, the claim ends. -/
def execCalTableWriteEnd (s : State) : Host.Outcome State Fault Refusal :=
  .next <|
    match s.findPend (·.cmd.opcode = 0x0B21) with
    | none => s
    | some p =>
      let bs := wordsBytes (p.cmd.params.drop 16)
      let seq := nextSeq (s.calValids.map fun c => calSeq c.2)
      let tbl := calSealed (bs.take (leNat (slice bs 12 4))) seq
      let s := (List.range 3).foldl
        (fun s k => s.putMram (calOffset k) tbl) s
      let s := if bitAt (wd p.cmd.params 0) 0 then s.calLive tbl else s
      ((s.setF F.TIM_STATUS_cal_nominal (if bitAt (wd p.cmd.params 0) 0 then 0 else s.rf F.TIM_STATUS_cal_nominal)).dropClaim
        0x04000030).finish p 0 0 (results [seq])

/-- The bytes of a source of CAL_TABLE_READ: a copy, or the live values, nominal ones with origin 3 and sequence 0 (R635). -/
def State.calSource (s : State) (k : Nat) : List Byte :=
  if k < 3 then Mem.bytes s.mem.mram (calOffset k) 262144
  else if s.time.live = [] then leBytes 4 0x4B5A434C ++ leBytes 4 0x10000 ++ List.replicate 16 0#8 ++ leBytes 4 3
  else s.time.live

/-- CAL_TABLE_READ (R635). -/
def calTableReadSpec : CmdSpec where
  opcode := 0x0B20
  needs := fun c => if bitAt (c.p 0) 31 then 5 else max 5 (4 + (c.p 4 + 3) / 4)
  locks := fun _ _ => []
  indirect := false
  noGen := false
  body := fun c s =>
    c.checked s [(0, 0x80000003)] fun _ =>
      let toHost := bitAt (c.p 0) 31
      let k := c.p 0 % 4
      guards [(toHost && !c.fromManager, fun _ => badP s 0), (c.p 3 % 4 != 0, fun _ => badP s 3),
          (c.p 4 > (if toHost then 262144 else 192), fun _ => badP s 4)] fun _ =>
        let src := s.calSource k
        let valid := if k < 3 then s.calValids.any (·.1 = k) else true
        let bs := slice src (c.p 3) (c.p 4)
        let head := [calSeq src, b2n valid]
        if toHost then .ok (s.emit (.hostWrite 0 (s.q (s.inst 0).adminQid).pas (c.p 1 + c.p 2 * 2 ^ 32) bs)) (results head)
        else .ok s (results head ++ [wd c.params 2, wd c.params 3].map w32 ++ bytesWords bs)

/-- CAL_TABLE_READ (R635). -/
def execCalTableRead (e : AdminEntry) (s : State) : Host.Outcome State Fault Refusal := .next (s.runCmd calTableReadSpec e)

end Sys2Proof.Machine
end

