-- ==== Sys2Proof/Machine/Catalogue.lean ====
section
/-! DEFINITION. What Keeper does with an entry that it fetches: the command that its opcode names (R96, R112 to R114). -/

namespace Sys2Proof.Machine

/-- A command's meaning, by its entry. -/
abbrev AdminMeaning := AdminEntry → State → Host.Outcome State Fault Refusal

/-- LAN_IMAGE_LOAD as fetched: whether the configuration reads back as written is left open (log entry 2). -/
def lanImageLoadDrawn (e : AdminEntry) (s : State) : Host.Outcome State Fault Refusal :=
  let (v, s) := s.draw
  execLanImageLoad e (v % 2 = 1) s

/-- The commands by opcode, part 1 of 3 (R113). -/
def commands1 : List (Nat × AdminMeaning) := [
  (0x0000, execDevIdentify),
  (0x0001, execDevNop),
  (0x0008, execDevCmdAbort),
  (0x0010, execDevStartService),
  (0x0020, execDevImageStage),
  (0x0021, execDevImageActivate),
  (0x0022, execDevImageQuery),
  (0x0030, execDevSnapshotSave),
  (0x0031, execDevSnapshotQuery),
  (0x0032, execDevSnapshotErase),
  (0x0040, execDevClaimQuery),
  (0x0100, execInsCreate),
  (0x0101, execInsDestroy),
  (0x0102, execInsReset),
  (0x0103, execInsQuery),
  (0x0104, execInsSetQuota),
  (0x0105, execInsSuspend),
  (0x0106, execInsResume),
  (0x0200, execQueueCreate),
  (0x0201, execQueueDestroy),
  (0x0202, execQueueModify),
  (0x0203, execQueueQuery),
  (0x0210, execEvqCreate),
  (0x0211, execEvqDestroy),
  (0x0212, execEvqRearm),
  (0x0220, execDmaChannelCfg),
  (0x0300, execMemDonate),
  (0x0301, execMemRevoke),
  (0x0302, execMemPeerWindow),
  (0x0310, execPgrPin),
  (0x0311, execPgrUnpin),
  (0x0312, execPgrPrefetch),
  (0x0320, execBpmPoolCfg),
  (0x0321, execBpmSetQuota),
  (0x0400, execTblCreate),
  (0x0401, execTblDestroy),
  (0x0410, execTblInsert),
  (0x0411, execTblDelete)]

/-- The commands by opcode, part 2 of 3 (R113). -/
def commands2 : List (Nat × AdminMeaning) := [
  (0x0412, execTblSearch),
  (0x0413, execTblNext),
  (0x0414, execTblFlushPort),
  (0x0415, execTblShadowSwitch),
  (0x0420, execLpmAdd),
  (0x0421, execLpmDelete),
  (0x0422, execLpmVrfCfg),
  (0x0430, execLearnCfg),
  (0x0500, execPrsGraphWrite),
  (0x0510, execClsRuleWrite),
  (0x0511, execClsRuleDelete),
  (0x0520, execClsHashCfg),
  (0x0521, execClsIndirWrite),
  (0x0530, execClsExcPolicer),
  (0x0600, execSwxActionWrite),
  (0x0610, execSwxTunnelCfg),
  (0x0620, execSwxMirrorCfg),
  (0x0630, execSwxPolicerCfg),
  (0x0700, execClvProgramLoad),
  (0x0701, execClvProgramSwap),
  (0x0702, execClvProgramUnload),
  (0x0703, execClvClusterMode),
  (0x0710, execClvMsgregRelease),
  (0x0800, execPsqUcodeStage),
  (0x0801, execPsqBankSwap),
  (0x0810, execRdmaQpCreate),
  (0x0811, execRdmaQpModify),
  (0x0812, execRdmaQpDestroy),
  (0x0813, execRdmaMrRegister),
  (0x0814, execRdmaMrDeregister),
  (0x0820, execNvmeCtrlConnect),
  (0x0821, execNvmeCtrlDisconnect),
  (0x0830, execNvmeLocalNsAttach),
  (0x0831, execNvmeLocalNsDetach),
  (0x0900, execSafRootKeyLoad),
  (0x0910, execSafAssocCreate),
  (0x0911, execSafAssocRekey),
  (0x0912, execSafAssocDestroy)]

/-- The commands by opcode, part 3 of 3 (R113). -/
def commands3 : List (Nat × AdminMeaning) := [
  (0x0920, execSafOpkeyEnrol),
  (0x0921, execSafOpkeyRevoke),
  (0x0A00, execFrsNodeCfg),
  (0x0A01, execFrsShaperCfg),
  (0x0A10, execFrsGclWrite),
  (0x0A11, execFrsGclCommit),
  (0x0A20, execFrsTelemetryCfg),
  (0x0B00, execPortModeSet),
  (0x0B01, execPortCfg),
  (0x0B02, execPortStatsRead),
  (0x0B03, execPortPfcCfg),
  (0x0B10, execTimeAdjust),
  (0x0B11, execTimePpsCfg),
  (0x0B12, execTimeDaymarkAlarm),
  (0x0B20, execCalTableRead),
  (0x0B21, execCalTableWrite),
  (0x0C00, execLanRegionAssign),
  (0x0C01, lanImageLoadDrawn),
  (0x0C02, execLanRegionQuiesce),
  (0x0C03, execLanRegionUnload),
  (0x0C04, execLanPowerCap),
  (0x0C05, execLanAllowanceSet),
  (0x0C06, execLanTapCfg),
  (0x0D00, execSprJoin),
  (0x0D01, execSprLeave),
  (0x0D02, execSprRouteWrite),
  (0x0D03, execSprEpochCommit),
  (0x0D04, execSprRemoteGrant),
  (0x0E00, execRasLogRead),
  (0x0E01, execRasRetire),
  (0x0E02, execRasRestore),
  (0x0E03, execRasThresholdSet),
  (0x0E04, execRasFoghornAck),
  (0x0F00, execTstPlaceUnderTest),
  (0x0F01, execTstRelease),
  (0x0F02, execTstPatternCfg),
  (0x0F03, execTstLoopbackCfg),
  (0x0F04, execTstResultRead)]

/-- The command that an opcode names. -/
def commandOf (op : Nat) : Option AdminMeaning :=
  ((commands1 ++ commands2 ++ commands3).find? (·.1 = op)).map (·.2)

/-- An opcode that is not in the catalogue (R113): its entry answers BAD_OPCODE. -/
def unknownSpec (op : Nat) : CmdSpec where
  opcode := op
  needs := fun _ => 0
  locks := fun _ _ => []
  indirect := false
  noGen := true
  body := fun _ s => .ok s []

/-- A pad in an admin ring (R188). -/
def State.adminPad (s : State) (e : AdminEntry) : State :=
  match e.issuer with
  | .bmc => s.runCmd (unknownSpec 0xFFFF) e
  | .inst i =>
    match s.adminQ i.val with
    | some q => if s.eligible e then
        ((s.turn e.issuer).padEntry q (wd e.words 1 % 2 ^ 16) (field (wd e.words 1) 31 16) (wd e.words 0)).fetched q
      else s
    | none => s

/-- ADMIN_COMMAND_FETCH (R96 to R118): the next entry of an admin queue, or of the BMC, is fetched and handled. -/
def execAdminCommandFetch (e : AdminEntry) (s : State) : Host.Outcome State Fault Refusal :=
  let op := wd e.words 0 % 2 ^ 16
  if op = 0xFFFF then .next (s.adminPad e)
  else match commandOf op with
    | some f => f e s
    | none => .next (s.runCmd (unknownSpec op) e)

end Sys2Proof.Machine
end

