-- ==== Sys2Proof/Machine/Resets.lean ====
section
/-! DEFINITION. Meanings of PERST#, hot reset and FLR (R67, R73 to R77, R149, R340, R779). -/

namespace Sys2Proof.Machine

/-- What the host endpoint holds for the functions and the link returns to its reset state; peer windows and slots stay (R11, R67, R73). -/
def HostSt.linkReset (h : HostSt) : HostSt := { wins := h.wins, slots := h.slots, oldWins := h.oldWins, perstFree := h.perstFree, targets := h.targets, failed := h.failed }

/-- A reset takes every function of D3hot to D0: each is a D-state change (R177). -/
def State.showD0 (s : State) : State := (s.host.fns.filter (·.2.d3hot)).foldl (fun s _ => s.raiseEs 71) s

/-- A reset of the HOST and FUNC domains, of CI38 and of the host-facing state of every instance (R73, R340). Every register of the HOST domain is
cleared, HST_BLK_CTL.lock among them: R14 lets a lock clear on a fundamental reset of the block's domain and does not say which resets those are
for HOST (DESIGN CHOICE, log entry 57). -/
def State.hostDomainReset (s : State) : State :=
  let s := s.showD0
  let s := if s.host.vfEnable || s.host.numVfs != 0 then s.raiseEs 72 else s
  let s := if s.rfb F.HST_LINK_STATUS_link_up then s.linkChange false 0 0 else s
  let s := (s.withdrawDonations).hostResetAll true fun _ => true
  let s := s.resetRegs fun d _ => d.dom == .host || d.dom == .func
  let old := s.host.oldWins.map (·.1)
  let s := { s with host := s.host.linkReset }
  (old.foldl State.winDrained s).undoStale

/-- PERST_ASSERT (R53, R73). Without service retention the device restarts at step 2 of R64; a transition that runs completes first. -/
def execPerstAssert (s : State) : Host.Outcome State Fault Refusal :=
  .next <|
    if s.boot.perst then s
    else
      let s := { s with boot := { s.boot with perst := true } }
      if !s.mainOn then s
      else if s.rfb F.GLB_RESET_CFG_service_retention then s.hostDomainReset.raiseEs 67
      else if s.rfb F.GLB_MODE_transition then { s with boot := { s.boot with events := s.boot.events ++ [.perst] } }
      else s.perstRestart

/-- PERST_DEASSERT (R67, R149, R177): resets held meanwhile may end (R779). -/
def execPerstDeassert (s : State) : Host.Outcome State Fault Refusal :=
  .next <|
    if !s.boot.perst then s
    else
      let s := { s with boot := { s.boot with perst := false } }
      if !s.mainOn then s else ({ s with boot := { s.boot with wakeAsserted := false } }).raiseEs 67

/-- HOT_RESET (R67, R73). -/
def execHotReset (s : State) : Host.Outcome State Fault Refusal :=
  .next (if !s.mainOn || s.boot.perst || !s.rfb F.HST_LINK_STATUS_link_up then s else s.hostDomainReset.raiseEs 68)

/-- FLR_PF0 (R73, R77, R340). One that arrives while another runs is carried out in full. -/
def execFlrPf0 (s : State) : Host.Outcome State Fault Refusal :=
  .next <|
    if !s.mainOn || s.boot.perst || !s.rfb F.HST_LINK_STATUS_link_up || !s.host.filled then s
    else
      let s := s.showD0
      let h := s.host
      let vfs := h.vfEnable || h.numVfs != 0
      let s := { s with host := { h with
        fns := [(0, { flr := true })], numVfs := 0, vfEnable := false, vfMse := false, ariCapable := false, ariSampled := false, cplTimeout := 0
        l1Enabled := false, acs := 0 } }
      let s := s.fillConfig.showVfs
      let s := if vfs then s.raiseEs 72 else s
      (((s.withdrawDonations).hostResetAll true fun _ => true).undoStale).raiseEs 69

/-- FLR_VF (R73, R77). -/
def execFlrVf (vf : Fin 2048) (s : State) : Host.Outcome State Fault Refusal :=
  .next <|
    let f := vf.val
    if f = 0 || !s.mainOn || s.boot.perst || !s.rfb F.HST_LINK_STATUS_link_up || !s.host.filled || !s.fnExists f then s
    else
      let s := if (s.fn f).d3hot then s.raiseEs 71 else s
      (((s.setFn f { flr := true }).hostReset f false).undoStale).raiseEs 70

end Sys2Proof.Machine
end

