-- ==== Sys2Proof/Machine/Views.lean ====
section
/-! DEFINITION. What the read-only registers report of the state outside the registers (R128, R134, R166, R239, R272, R308, R353 to R356,
R386, R427, R457, R493, R531, R556, R589, R609, R617, R646, R685, R716, R738, R756). -/

namespace Sys2Proof.Machine

/-- A map's registers by the offset of the first of each array: the value that register i of it reads. -/
abbrev Views := List (Nat × (Nat → Nat))

/-- Bits 0 to 31 from a predicate. -/
def bits32 (p : Nat → Bool) : Nat := (List.range 32).foldl (fun n b => if p b then n + 2 ^ b else n) 0

/-- A channel side with a word unread or an unmasked doorbell bit received (R261). -/
def BuoySide.waits (x : BuoySide) : Bool := x.rxFull || (x.dbRecv - (x.dbRecv &&& x.dbMask)) != 0

/-- Control, host, queues and events. -/
def State.views1 (s : State) : Views :=
  let tags := s.host.tags.map (·.2)
  let keeperWaits := fun c => decide (0x1000 ≤ s.sideMid (.int c) true && s.sideMid (.int c) true ≤ 0x1003) && (s.chan (.int c)).a.waits
    || decide (0x1000 ≤ s.sideMid (.int c) false && s.sideMid (.int c) false ≤ 0x1003) && (s.chan (.int c)).b.waits
  [(R.GLB_CMD_PENDING_NOW, fun _ => s.cmds.pend.length),
   (R.HST_TAG_STATUS, fun _ => (tags.filter (·.quarantined)).length * 2 ^ 16 + tags.length),
   (R.QMG_HOT_CTX, fun _ => s.hotCount),
   (R.QMG_QUEUES_IN_USE, fun _ => s.queuesInUse),
   (R.EVC_TGT_CFG 0, fun t => putField (s.reg (R.EVC_TGT_CFG t)) 31 31 (b2n (s.targetIdle t))),
   (R.EVC_SRC_CTL 0, fun n => putField (s.reg (R.EVC_SRC_CTL n)) 30 30 (b2n (bitAt (s.reg (R.EVC_PENDING (n / 32))) (n % 32)))),
   (R.BUOY_INST_PENDING 0, fun k => bits32 fun b => (s.chan (.inst (32 * k + b))).b.waits),
   (R.BUOY_INT_PENDING 0, fun k => bits32 fun b => keeperWaits (32 * k + b)),
   (R.INS_IN_USE, fun _ => s.instsInUse),
   (R.RCL_IN_USE, fun _ => s.claimCount),
   (R.RCL_QUERY_HOLDER, fun _ => lookupD s.cmds.claims (s.reg R.RCL_QUERY_RES) 0)]

/-- Pager and buffer pools. -/
def State.views2 (s : State) : Views :=
  let don := fun d => lookup s.pgr.donations d
  let ssid := s.reg R.PGR_SSID_SEL % 2 ^ 16
  let req := s.reg R.BPM_REQ_SEL % 2 ^ 12
  [(R.PGR_SSID_BASE, fun _ => b2n (lookup s.pgr.ranges ssid).isSome * 2 ^ 31 + (s.rangeOf ssid).1),
   (R.PGR_SSID_SIZE, fun _ => (s.rangeOf ssid).2),
   (R.PGR_FREE_LPD, fun _ => s.freeLpd),
   (R.PGR_PINNED, fun _ => s.pinnedAll),
   (R.PGR_PARK_NOW, fun _ => s.pgr.parked.length),
   (R.PGR_DON_ADDR_LO 0, fun d => ((don d).getD {}).addr % 2 ^ 32),
   (R.PGR_DON_ADDR_HI 0, fun d => ((don d).getD {}).addr / 2 ^ 32),
   (R.PGR_DON_SIZE 0, fun d => b2n (don d).isSome * 2 ^ 31 + b2n ((don d).getD {}).revoking * 2 ^ 30 + ((don d).getD {}).size),
   (R.PGR_DON_PAGES 0, fun d => (s.donPages d).length),
   (R.BPM_COUNT 0, fun k => (s.bpm.carve (k / 4)).getD (k % 4) 0),
   (R.BPM_FREE 0, fun k => (s.bpm.carve (k / 4)).getD (k % 4) 0 - s.bufCount (k / 4) (k % 4)),
   (R.BPM_REQ_MIN, fun _ => (s.quota req).min), (R.BPM_REQ_MAX, fun _ => (s.quota req).max),
   (R.BPM_REQ_OVF_MAX, fun _ => (s.quota req).ovf),
   (R.BPM_REQ_USED, fun _ => s.bufUsed req 0), (R.BPM_REQ_OVF_USED, fun _ => s.bufUsed req 1)]

/-- Classifier, tables and action stage. -/
def State.views3 (s : State) : Views :=
  let ci := s.clsInst (s.reg R.CLS_INST_SEL % 2 ^ 11)
  let held := fun (p : Nat) (f : EmTable → Nat) =>
    (s.tbl.tables.filter fun t => t.2.state != .free && t.2.placement = p).foldl (fun n t => n + f t.2) 0
  let vrf := s.reg R.TBL_VRF_SEL % 2 ^ 12
  let pol := lookup s.swx.policers (s.reg R.SWX_POL_SEL % 2 ^ 14)
  [(R.CLS_INST_HASH, fun _ => ci.w0), (R.CLS_INST_EXC, fun _ => ci.excQueue), (R.CLS_INST_POLICER, fun _ => ci.rate),
   (R.CLS_INST_EXC_DROPS, fun _ => ci.drops),
   (R.CLS_RULES_IN_USE, fun _ => (s.cls.rules.filter fun e => e.2.valid).length),
   (R.TBL_ONDIE_UNITS, fun _ => held 0 fun t => t.capacity * slotUnits t.keyClass),
   (R.TBL_LPD_ENTRIES, fun _ => held 1 fun t => t.capacity),
   (R.TBL_LPM_V4, fun _ => s.prefixCount none false), (R.TBL_LPM_V6, fun _ => s.prefixCount none true),
   (R.TBL_VRF_V4, fun _ => b2n (s.vrf vrf).enable * 2 ^ 31 + s.prefixCount (some vrf) false),
   (R.TBL_VRF_V6, fun _ => s.prefixCount (some vrf) true),
   (R.SWX_POL_GREEN, fun _ => (pol.map (·.green)).getD 0), (R.SWX_POL_YELLOW, fun _ => (pol.map (·.yellows)).getD 0),
   (R.SWX_POL_RED, fun _ => (pol.map (·.reds)).getD 0)]

/-- Clove, sequencers and Saffron. -/
def State.views4 (s : State) : Views :=
  let prog := fun k => lookup (s.cl k).progs (s.cl k).bank
  [(R.CLV_CL_STATUS 0, fun k => let c := s.cl k
      b2n c.loaded * 2 ^ 31 + b2n c.wide * 2 ^ 30 + b2n (c.busy == .draining) * 2 ^ 29 + c.bank * 2 ^ 28
        + (if c.loaded then s.freeThreads k else 0) * 2 ^ 8 + bits32 fun b => c.retired.contains b),
   (R.CLV_SSID 0, fun k => match prog k with
      | some p => b2n p.perFrame * 2 ^ 31 + p.ssid
      | none => 0),
   (R.CLV_DISPATCH_DEPTH 0, fun k => (s.cl k).queue.length),
   (R.PSQ_GROUP_STATUS 0, fun g => let v := s.group g
      let staged := fun b => b2n ((lookup v.banks b).any (·.staged))
      b2n v.swapping * 2 ^ 31 + b2n v.started * 2 ^ 30 + staged 1 * 2 ^ 17 + staged 0 * 2 ^ 16 + v.active * 2 ^ 8
        + bits32 fun i => decide (i < 8) && (s.seq (8 * g + i)).retired),
   (R.PSQ_TRAP_PENDING, fun _ => bits32 fun q => !(s.seq q).slots.isEmpty),
   (R.PSQ_SEQ_STATUS 0, fun q => let v := s.seq q
      b2n (!v.running.isEmpty || v.stopped.isSome) * 2 ^ 31 + v.slots.length * 2 ^ 28 + b2n v.retired * 2 ^ 27
        + min v.queue.length 1024 * 2 ^ 16 + v.upc),
   (R.PSQ_CONNECTIONS, fun _ => s.connCount),
   (R.SAF_ROOT_LOADED 0, fun k => bits32 fun b => (lookup s.saf.roots (32 * k + b)).isSome),
   (R.SAF_CACHE_VALID, fun _ => s.saf.cache.length),
   (R.SAF_ASSOCS_IN_USE, fun _ => (s.saf.assocs.filter fun e => bitAt (wd e.2 0) 31).length)]

/-- Ports, time, Lanterns, Spar and the debug port. -/
def State.views5 (s : State) : Views :=
  [(R.FRS_INST_DEFAULT, fun _ => lookupD s.frs.instDefault (s.reg R.FRS_INST_SEL % 2 ^ 11) 0),
   (R.MAC_MODE, fun _ => b2n s.retrainingAny * 2 ^ 31 + s.mac.mask100 * 2 ^ 8 + s.mac.mode),
   (R.MAC_PORT_STATUS 0, fun p => let v := s.port p
      b2n v.up * 2 ^ 31 + b2n v.degraded * 2 ^ 30 + s.reg (R.MAC_PORT_STATUS p) / 2 ^ 29 % 2 * 2 ^ 29 + v.lanes.length * 2 ^ 16
        + (bits32 fun n => v.lanes.contains n) * 2 ^ 8 + (if v.up then s.portRate p else 0)),
   (R.MAC_FC_STATE 0, fun p => let v := s.port p
      (bits32 fun c => v.xoffSent.contains c) * 2 ^ 8 + bits32 fun c => v.stopped.contains c),
   (R.MAC_STAT 0, fun n => lookupD (s.port (n / 128)).stats (n % 128) 0),
   (R.MGP_MAC_LO, fun _ => s.mgp.mac % 2 ^ 32), (R.MGP_MAC_HI, fun _ => s.mgp.mac / 2 ^ 32),
   (R.LAN_ALLOWANCE, fun _ => s.lan.allowance), (R.LAN_CAP_SUM, fun _ => s.capSum),
   (R.LAN_REGION_STATUS 0, fun r => let v := s.region r
      v.state * 2 ^ 28 + v.reason * 2 ^ 12 + v.renter),
   (R.LAN_IMAGE_ID 0, fun r => ((s.region r).image.map (·.imageId)).getD 0),
   (R.LAN_POWER 0, fun r => let v := s.region r
      v.cap * 2 ^ 26 + v.stage * 2 ^ 24 + v.clock * 2 ^ 14 + v.avg % 2 ^ 12),
   (R.LAN_RANGE 0, fun r => (s.region r).size),
   (R.SPR_STATUS, fun _ => b2n s.spr.joined * 2 ^ 31 + b2n s.spr.timeRoot * 2 ^ 30 + b2n s.spr.timeFollow * 2 ^ 29
      + b2n s.spr.holdover * 2 ^ 28 + s.sparDistance * 2 ^ 24 + s.spr.addr),
   (R.SPR_FABRIC_ID, fun _ => s.spr.fabric),
   (R.SPR_EPOCH, fun _ => b2n s.spr.previous.isSome * 2 ^ 17 + b2n s.spr.next.isSome * 2 ^ 16 + s.spr.epoch),
   (R.SPR_PORT_STATUS 0, fun p => let v := s.sport p
      b2n v.up * 2 ^ 31 + b2n (s.foreign p) * 2 ^ 30 + b2n v.degraded * 2 ^ 29 + b2n (s.sportEnabled p) * 2 ^ 28
        + (match v.nbr with
           | some n => n.addr * 2 ^ 12 + n.port * 2 ^ 8 + n.distance
           | none => 0)),
   (R.SPR_NBR_SERIAL_LO 0, fun p => (s.sport p).beacon.serial % 2 ^ 32),
   (R.SPR_NBR_SERIAL_HI 0, fun p => (s.sport p).beacon.serial / 2 ^ 32),
   (R.TST_DBG_STATUS, fun _ => s.reg R.TST_DBG_STATUS / 2 ^ 31 * 2 ^ 31 + s.tst.dbgMin * 4 + s.dbgLevel),
   (R.TST_CLV_REG_DATA, fun _ => s.clvReg)]

/-- The view that answers for a register array, if one does. -/
def State.view (s : State) (off : Nat) : Option (Nat → Nat) :=
  let vs := match off / 2 ^ 20 with
    | 0x08 | 0x09 => s.views2
    | 0x0B | 0x0C | 0x0D => s.views3
    | 0x0E | 0x0F | 0x10 => s.views4
    | 0x11 | 0x12 | 0x13 | 0x15 | 0x16 | 0x18 => s.views5
    | _ => s.views1
  lookup vs off

/-- Records of a trace buffer: 16 KiB of 64-bit records (R753). -/
def State.traceWord (s : State) (owner off : Nat) : Nat :=
  let d := (lookupD (lookupD s.tst.trace owner []) (off / 8) 0#64).toNat
  if off % 8 = 0 then d % 2 ^ 32 else d / 2 ^ 32

/-- A word of a trap frame (R509, R531). -/
def State.trapFrame (s : State) (q slot n : Nat) : Nat :=
  match lookup (s.seq q).slots slot with
  | some t => wd t.words n
  | none => 0

/-- The windows that hold arrays beyond the register map: thread, program-counter and lock words of a cluster (R493), trap frames (R531),
routes (R716), trace buffers (R756); 0 where nothing lies. -/
def State.extraWord (s : State) (a : Nat) : Nat :=
  let b := a / 2 ^ 20
  let o := a % 2 ^ 20
  if b = 0x0E then
    if o < 0x80000 then 0
    else
      let k := (o - 0x80000) / 0x8000
      let x := (o - 0x80000) % 0x8000
      if 0x100 ≤ x && x < 0x300 then s.threadWord k ((x - 0x100) / 4)
      else if 0x300 ≤ x && x < 0x500 then (s.th k ((x - 0x300) / 4)).pc
      else if 0x500 ≤ x && x < 0x600 then
        let m := lookupD (s.cl k).msgs ((x - 0x500) / 4) {}
        b2n m.locked * 2 ^ 31 + b2n m.poisoned * 2 ^ 30 + b2n (m.locked && (s.th k m.owner).state == 6) * 2 ^ 29 + m.owner
      else 0
  else if b = 0x0F then
    if 0x10000 ≤ o && o < 0x20000 then
      s.trapFrame ((o - 0x10000) / 0x800) ((o - 0x10000) % 0x800 / 0x200) ((o - 0x10000) % 0x200 / 4)
    else 0
  else if b = 0x16 then
    if 0x2000 ≤ o && o < 0x6000 then lookupD s.spr.current ((o - 0x2000) / 4) 0 else 0
  else if b = 0x18 then
    if 0x40000 ≤ o && o < 0x80000 then s.traceWord ((o - 0x40000) / 0x4000) (o % 0x4000)
    else if 0x80000 ≤ o && o < 0x90000 then s.traceWord (16 + (o - 0x80000) / 0x4000) (o % 0x4000)
    else 0
  else 0

/-- Write-only fields read 0 (R9). -/
def hideWo (fs : List RegField) (v : Nat) : Nat := (fs.filter fun f => f.acc == .wo).foldl (fun n f => putField n f.hi f.lo 0) v

/-- What a read of the register at window offset a returns, without its effect. -/
def State.regView (s : State) (a : Nat) : Nat :=
  match regDefAt a with
  | none => s.extraWord a
  | some (d, i) => match s.view d.off with
    | some f => f i
    | none => hideWo d.fields (s.reg a)

end Sys2Proof.Machine
end

