-- ==== Sys2Proof/Machine/OpsWin.lean ====
section
/-! DEFINITION. Reads and writes of the register windows: the manager control window (R9 to R29, R772) and the instance windows
(R142 to R146, R199, R253, R255). -/

namespace Sys2Proof.Machine

/-! ## Control window: writes -/

/-- The lock of the block of window offset a is set (R9, R14). -/
def State.blkLocked (s : State) (a : Nat) : Bool := s.rfb (blkLock (a / 2 ^ 20))

/-- A value for a configuration register of PGR lies in its range (R354). -/
def pgrGood (a v : Nat) : Bool :=
  let within := fun (x lo hi : Nat) => decide (lo ≤ x) && decide (x ≤ hi)
  if a = R.PGR_INTERNAL_SIZE then within (v % 2 ^ 22) 32768 524288
  else if a = R.PGR_MGR_SPACE then within (v % 2 ^ 22) 512 262144
  else if a = R.PGR_CACHE_CFG then within (field v 28 16) 1 1024 && within (field v 12 0) 512 8191
  else if a = R.PGR_PARK_CFG then within (field v 31 16) 10 65535 && within (field v 10 0) 1 1024
  else if a = R.PGR_PARK_SSID_MAX then within (v % 2 ^ 17) 1 65536
  else if a = R.PGR_LPD_WMARK then
    within (field v 15 8) 1 50 && within (field v 7 0) 1 50 && decide (field v 7 0 < field v 15 8)
  else within (v % 2 ^ 16) 100 40000

/-- A range-checked register of PGR is written (R354). -/
def State.pgrCfg (s : State) (a v : Nat) : State :=
  if (a = R.PGR_INTERNAL_SIZE || a = R.PGR_MGR_SPACE) && s.blkLocked a then s
  else if pgrGood a v then s.plainWrite a v
  else s.setF F.PGR_BLK_STATUS_reason 0x0808

/-- MGP_CFG is written: 1000 Mb/s at half duplex is refused (R611). -/
def State.mgpCfg (s : State) (v : Nat) : State :=
  if bitAt v 31 && field v 5 4 = 2 && !bitAt v 0 then s.setF F.MGP_BLK_STATUS_reason 0x1301
  else (s.plainWrite R.MGP_CFG v).mgpLink s.mgp.phyUp

/-- MGP_SMB_CFG is written: the addresses that SMBus reserves are refused (R617). -/
def State.smbCfg (s : State) (v : Nat) : State :=
  if s.blkLocked R.MGP_SMB_CFG then s
  else if v % 128 < 8 || 0x78 ≤ v % 128 then s.setF F.MGP_BLK_STATUS_reason 0x1302
  else s.plainWrite R.MGP_SMB_CFG v

/-- A word of a trap frame is rewritten: Keeper may change the microcounter, the flags and the registers (R510, R531). -/
def State.trapWrite (s : State) (q slot n v : Nat) : State :=
  let x := s.seq q
  match lookup x.slots slot with
  | none => s
  | some t =>
    let old := wd t.words n
    let new := if n = 0 then putField old 13 0 v else if n = 1 then putField old 31 16 (v / 2 ^ 16)
      else if 8 ≤ n && n ≤ 71 then v else old
    s.setSeq q { x with slots := insertKey x.slots slot { t with words := setWd t.words n new } }

/-- The registers whose write does more than their access code says, by the offset of the first of each array: the effect of writing v to
register i for a master. -/
def writeEffects : List (Nat × (Nat → Nat → Nat → State → State)) := [
  (R.GLB_ISLAND_RST, fun _ _ v s => if bitAt v 8 then s.islandGo (v % 64) else s.plainWrite R.GLB_ISLAND_RST v),
  (R.HST_PM_CFG, fun _ _ v s => s.pmCfg v),
  (R.HST_CPL_TIMEOUT, fun _ _ v s => s.cplCfg v),
  (R.HST_PEER_WIN_CTL 0, fun _ i v s => s.winCtl i v),
  (R.QMG_CTX_SEL, fun _ _ v s => s.ctxSel (v % 2 ^ 16)),
  (R.EVC_PENDING 0, fun _ i v s => s.clearPending i v),
  (R.EVC_SRC_CTL 0, fun _ i v s =>
    let s := s.srcEnable i (bitAt v 0)
    if bitAt v 31 then s.raiseEs i else s),
  (R.EVC_SRC_MASK 0, fun _ i v s => if s.rfb (F.EVC_SRC_CTL_enable i) then s else s.setReg (R.EVC_SRC_MASK i) v),
  (R.BUOY_FORCE_CLEAR, fun mid _ v s =>
    if bitAt v 31 && s.activeKeeper mid then
      (s.mailForceClear (chanOf (bitAt v 11) (v % 2 ^ 11))).bump R.BUOY_FORCE_CLEARS
    else s),
  (R.INS_MGR_ADMIN_CFG, fun _ _ v s => s.mgrAdmin v),
  (R.INS_SEL, fun _ _ v s => s.insSel (v % 2 ^ 11)),
  (R.PGR_INTERNAL_SIZE, fun _ _ v s => s.pgrCfg R.PGR_INTERNAL_SIZE v),
  (R.PGR_MGR_SPACE, fun _ _ v s => s.pgrCfg R.PGR_MGR_SPACE v),
  (R.PGR_CACHE_CFG, fun _ _ v s => s.pgrCfg R.PGR_CACHE_CFG v),
  (R.PGR_PARK_CFG, fun _ _ v s => s.pgrCfg R.PGR_PARK_CFG v),
  (R.PGR_LPD_WMARK, fun _ _ v s => s.pgrCfg R.PGR_LPD_WMARK v),
  (R.PGR_MIG_RATE, fun _ _ v s => s.pgrCfg R.PGR_MIG_RATE v),
  (R.PGR_PARK_SSID_MAX, fun _ _ v s => s.pgrCfg R.PGR_PARK_SSID_MAX v),
  (R.TBL_SEL, fun _ _ v s => s.tblSel (v % 2 ^ 8)),
  (R.SWX_CNT_SEL, fun _ _ v s => s.cntSel (v % 2 ^ 18) (bitAt v 30)),
  (R.CLV_CL_CTL 0, fun _ k v s => if bitAt v 0 then s.supRestart k else s),
  (R.CLV_WDOG_CTL 0, fun mid k v s =>
    let s := if bitAt v 30 then s.setF (F.CLV_WDOG_CTL_expired k) 0 else s
    s.wdogEnable mid k (bitAt v 31) (v % 2 ^ 16)),
  (R.PSQ_TRAP_CTL 0, fun _ q v s =>
    if bitAt v 31 then s.trapGo q (v % 4) (bitAt v 4) else s.plainWrite (R.PSQ_TRAP_CTL q) v),
  (R.SAF_ASSOC_SEL, fun _ _ v s => s.assocSel (v % 2 ^ 20)),
  (R.FRS_NODE_SEL, fun _ _ v s => s.nodeSel (v % 2 ^ 16)),
  (R.MGP_CFG, fun _ _ v s => s.mgpCfg v),
  (R.MGP_SMB_CFG, fun _ _ v s => s.smbCfg v),
  (R.TIM_SNAP_CTL, fun _ _ v s => if bitAt v 0 then s.timeSnap else s),
  (R.TIM_SIDE_SEL, fun _ _ v s => s.sideSel (v % 2 ^ 16)),
  (R.SPR_CHAN_MAP 0, fun _ c v s => s.chanMap c v),
  (R.RAS_FOGHORN, fun _ _ v s => s.fogClear (v % 32)),
  (R.RAS_CNT_SEL, fun _ _ v s => s.rasSel (v % 2 ^ 16)),
  (R.TST_CLV_HALT 0, fun _ i v s => if i % 8 < 4 then s.haltBits (i / 8) (i % 8) v else s.plainWrite (R.TST_CLV_HALT i) v),
  (R.TST_CLV_REG_DATA, fun _ _ v s => s.clvRegWrite v),
  (R.TST_LANE_CTL 0, fun _ n v s => s.laneCtl n v),
  (R.PWR_THERM_CFG, fun _ _ v s => s.thermWrite v),
  (R.PWR_LIMIT, fun _ _ v s => s.limitWrite v),
  (R.DNP_SLOT_CTL 0, fun _ p v s => s.slotCtl p v),
  (R.DNP_DPC_STATUS 0, fun _ p v s => s.dpcStatus p v),
  (R.DNP_DPC_CTL 0, fun _ p v s => s.dpcCtl p v)]

/-- A register of a block map is written: a block's control (R15 to R19), a DMA channel's by its owner or Keeper (R232), one with an
effect of its own, or a plain one by its access codes (R9, R10). -/
def State.mapWrite (s : State) (mid a v : Nat) (d : RegDef) (i : Nat) : State :=
  if a % 2 ^ 20 = 0 then s.blkWrite (a / 2 ^ 20) v
  else if a / 2 ^ 20 = 3 && 0x1000 ≤ a % 2 ^ 20 then
    let n := (a % 2 ^ 20 - 0x1000) / 64
    s.dmaWriteBy mid n (a % 64) fun s => s.dmaRegWrite n (a % 64) v
  else match lookup writeEffects d.off with
    | some f => f mid i v s
    | none => s.plainWrite a v (s.blkLocked a)

/-- Where window offset a lies in Buoy's channel areas (R273): the channel, and the offset of its register. -/
def buoyArea (a : Nat) : Option (ChanId × Nat) :=
  if R.BUOY_BLK_CTL + 0x10000 ≤ a && a < R.BUOY_BLK_CTL + 0x20000 then
    some (.inst ((a - (R.BUOY_BLK_CTL + 0x10000)) / 0x20), a % 0x20)
  else if R.BUOY_BLK_CTL + 0x30000 ≤ a && a < R.BUOY_BLK_CTL + 0x30800 then
    some (.int ((a - (R.BUOY_BLK_CTL + 0x30000)) / 0x20), a % 0x20)
  else none

/-- The side of a channel that a master has through the control window (R263, R267). -/
def State.windowSide (s : State) (c : ChanId) (mid : Nat) : Option Bool :=
  match c with
  | .inst _ => if s.activeKeeper mid then some false else none
  | .int _ => s.sideOf c mid

/-- The register window of a region that window offset a lies in (R685), and the register's number. -/
def lanArea (a : Nat) : Option (Nat × Nat) :=
  if 0x1580000 ≤ a && a < 0x15C0000 then some ((a - 0x1580000) / 0x4000, a % 0x4000 / 4) else none

/-- A 32-bit write of window offset a, behind its gate. -/
def State.ctlWrite32 (s : State) (mid a v : Nat) : State :=
  s.gatedWrite mid a fun s =>
    match buoyArea a with
    | some (c, off) =>
      match s.windowSide c mid with
      | some side => s.chanWrite c side off v
      | none => s.buoyBadMaster
    | none => match lanArea a with
      | some (r, n) => s.regionAccess mid r n (some v) (some 0)
      | none => match regDefAt a with
        | some (d, i) => s.mapWrite mid a v d i
        | none =>
          if a / 2 ^ 20 = 0x0F && 0x10000 ≤ a % 2 ^ 20 && a % 2 ^ 20 < 0x20000 then
            s.trapWrite ((a % 2 ^ 20 - 0x10000) / 0x800) (a % 0x800 / 0x200) (a % 0x200 / 4) v
          else s

/-- A 64-bit register lies at window offset a. -/
def wideAt (a : Nat) : Bool :=
  match regDefAt a with
  | some (d, _) => d.wide
  | none => false

/-- A 64-bit write of window offset a: of the 64-bit register that lies there, which is one access, or of two 32-bit ones, the lower
first (R772). -/
def State.ctlWrite64 (s : State) (mid a v : Nat) : State :=
  match buoyArea a with
  | some (c, 0) =>
    s.gatedWrite mid a fun s => match s.windowSide c mid with
      | some side => s.mailSend c side v
      | none => s.buoyBadMaster
  | _ =>
    let both := fun (s : State) => (s.ctlWrite32 mid a (v % 2 ^ 32)).ctlWrite32 mid (a + 4) (v / 2 ^ 32)
    if wideAt a then s.gatedWrite mid a both else both s

/-! ## Control window: reads -/

/-- The value of a register and the effect of reading it: an RC register clears (R9). -/
def State.mapRead (s : State) (mid a : Nat) (d : RegDef) (i : Nat) : Nat × State :=
  if d.off = R.EVC_CLAIM 0 then s.claimRead mid i
  else
    let s := if a / 2 ^ 20 = 0x18 && 0x1000 ≤ a % 2 ^ 20 then s.runChecker ((a % 2 ^ 20 - 0x1000) / 0x40) else s
    let v := s.regView a
    (v, if d.fields.any fun f => f.acc == .rc then s.setReg a 0 else s)

/-- A region's register is read: the region's logic answers with a value of its own, or does not answer (R24, R664). -/
def State.regionRead (s : State) (r n : Nat) : Nat × State :=
  if (s.region r).state = 3 && (s.region r).live 6 then
    let (v, s) := s.draw
    (v % 2 ^ 32, s.emit (.regionReg r n none))
  else (0xFFFFFFFF, (s.bump (R.LAN_REG_TIMEOUTS r)).crossingFailed (regionWindow r n) (16 + r) true)

/-- A 32-bit read of window offset a, behind its gate. -/
def State.ctlRead32 (s : State) (mid a : Nat) : Nat × State :=
  s.gatedValue mid a fun s =>
    match buoyArea a with
    | some (c, off) =>
      match s.windowSide c mid with
      | none => (0, s.buoyBadMaster)
      | some side =>
        if off = 0xC then
          let (v, s) := s.buoyRecv mid c side false
          (v / 2 ^ 32, s)
        else s.chanRead c side off
    | none => match lanArea a with
      | some (r, n) => s.regionRead r n
      | none => match regDefAt a with
        | some (d, i) =>
          let (v, s) := s.mapRead mid a d i
          (v % 2 ^ 32, s)
        | none => match regDefAt (a - 4) with
          | some (d, _) => if d.wide && a % 8 = 4 then (s.regView (a - 4) / 2 ^ 32, s) else (s.regView a, s)
          | none => (s.regView a, s)

/-- A 64-bit read of window offset a (R772). -/
def State.ctlRead64 (s : State) (mid a : Nat) : Nat × State :=
  match buoyArea a with
  | some (c, 8) =>
    s.gatedValue mid a fun s => match s.windowSide c mid with
      | some side => s.buoyRecv mid c side false
      | none => (0, s.buoyBadMaster)
  | _ =>
    let both := fun (s : State) =>
      let (x, s) := s.ctlRead32 mid a
      let (y, s) := s.ctlRead32 mid (a + 4)
      (x + y * 2 ^ 32, s)
    if wideAt a then s.gatedValue mid a both else both s

/-! ## Instance windows -/

/-- A word of the identity page (R145, R305). -/
def State.identity (s : State) (i n : Nat) : Nat :=
  let v := s.inst i
  let q := fun (hi lo : Nat) => field (wd v.quota 0) hi lo
  match n with
  | 0 => v.gen * 2 ^ 16 + i
  | 1 =>
    if i = 0 then 2048 * 2 ^ 16
    else if v.state = 0 || v.state = 5 then 0
    else s.vectorQuota i * 2 ^ 16 + q 15 0
  | 2 => b2n v.aborted * 2 + b2n (s.bound i)
  | 3 => if i = 0 then 0x10000 else 0x4000
  | _ => 0

/-- A window of n bytes from base that offset o lies in: the offset in it. -/
def within (o base n : Nat) : Option Nat := if base ≤ o && o < base + n then some (o - base) else none

/-- The areas of an instance window (R142, R144): identity, Buoy, idle hints, MSI-X table, PBA, doorbells, and what is reserved; with
the offset in the area. -/
inductive InstArea where
  | identity (o : Nat) | buoy (o : Nat) | hints (o : Nat) | table (o : Nat) | pba (o : Nat) | doorbells (o : Nat) | reserved
  deriving DecidableEq, Repr

/-- The area of offset o in the window of instance i. -/
def instArea (i o : Nat) : InstArea :=
  let pick := fun (l : List (Nat × Nat × (Nat → InstArea))) =>
    (l.findSome? fun e => (within o e.1 e.2.1).map e.2.2).getD .reserved
  if i = 0 then pick [(0, 0x1000, .identity), (0x1000, 0x1000, .buoy), (0x2000, 0x4000, .hints), (0x10000, 0x80000, .doorbells),
    (0xF00000, 0x8000, .table), (0xF80000, 0x100, .pba)]
  else pick [(0, 0x1000, .identity), (0x1000, 0x1000, .buoy), (0x2000, 0x200, .hints), (0x3000, 0x400, .table), (0x3800, 8, .pba),
    (0x4000, 0xC000, .doorbells)]

/-- A write of a local queue's doorbell (R199): its queue's kind decides what it means. -/
def State.windowDoorbell (s : State) (i l v : Nat) (arm : Bool) : State :=
  let event := match s.findQ i l with
    | some q => decide ((s.q q).type ≥ 5)
    | none => false
  s.ringDoorbell i l (fun _ => true) v (arm && event)

/-- Offset o of the window of instance i is reserved, or the doorbell of a queue that the instance does not own (R142, R144, R146). -/
def State.notOwned (s : State) (i o : Nat) : Bool :=
  match instArea i o with
  | .reserved => true
  | .doorbells x => (s.findQ i (x / 8)).isNone
  | _ => false

/-- A 32-bit write in the window of instance i: one of a reserved offset is ignored, and logged as an unsupported request (R156). -/
def State.instWrite32 (s : State) (i o v : Nat) : State :=
  match instArea i o with
  | .buoy x => if x = 0x20 then s.buoyVector i (v % 2 ^ 16) (bitAt v 31) else s.chanWrite (.inst i) true x v
  | .hints x => if x % 8 = 0 then s.hint i (x / 8) (bitAt v 0) else s
  | .doorbells x => if x % 8 = 0 then s.windowDoorbell i (x / 8) v false else s
  | .table x =>
    let n := x / 16
    let e := s.vec i n
    match x % 16 / 4 with
    | 0 => s.setVec i n { e with addr := putField e.addr 31 0 v }
    | 1 => s.setVec i n { e with addr := putField e.addr 63 32 v }
    | 2 => s.setVec i n { e with data := v }
    | _ => if bitAt v 0 then s.setVec i n { e with masked := true } else if e.masked then s.msixUnmask i n else s
  | .reserved => s.urPosted i
  | _ => s

/-- A 64-bit write in the window of instance i. -/
def State.instWrite64 (s : State) (i o v : Nat) : State :=
  match instArea i o with
  | .buoy 0 => s.mailSend (.inst i) true v
  | .hints x => s.hint i (x / 8) (bitAt v 0)
  | .doorbells x => s.windowDoorbell i (x / 8) (v % 2 ^ 32) (bitAt v 32)
  | .reserved => s.urPosted i
  | _ => (s.instWrite32 i o (v % 2 ^ 32)).instWrite32 i (o + 4) (v / 2 ^ 32)

/-- A 32-bit read in the window of instance i. -/
def State.instRead32 (s : State) (i o : Nat) : Nat × State :=
  match instArea i o with
  | .identity x => (s.identity i (x / 4), s)
  | .buoy x =>
    if x = 0xC then
      let (v, s) := s.buoyRecv i (.inst i) true false
      (v / 2 ^ 32, s)
    else s.chanRead (.inst i) true x
  | .hints x => (if x % 8 = 0 then b2n (s.vec i (x / 8)).idle else 0, s)
  | .table x =>
    let e := s.vec i (x / 16)
    ([e.addr % 2 ^ 32, e.addr / 2 ^ 32, e.data, b2n e.masked].getD (x % 16 / 4) 0, s)
  | .pba x => (bits32 fun b => (s.vec i (x / 4 * 32 + b)).pba, s)
  | _ => (0, s)

/-- A 64-bit read in the window of instance i. -/
def State.instRead64 (s : State) (i o : Nat) : Nat × State :=
  match instArea i o with
  | .buoy 8 => s.buoyRecv i (.inst i) true false
  | _ =>
    let (x, s) := s.instRead32 i o
    let (y, s) := s.instRead32 i (o + 4)
    (x + y * 2 ^ 32, s)

/-- A read of an offset that the instance does not own: it is logged as an unsupported request (R156), and answers 0 where R142 or R146
says so, else completes UR (log entry 56). -/
def State.notOwnedRead (s : State) (i o : Nat) : State :=
  if i = 0 || instArea i o != .reserved then (s.aer i .unsupportedNonPosted).emit (.readData i 0) else s.urRead i

/-! ## Accesses -/

/-- An access that every window serves: 32 or 64 bits, all bytes enabled, at a multiple of its size (R772). -/
def accessGood (off size : Nat) (full : Bool) : Bool := full && (size = 4 || size = 8) && off % size = 0

/-- A register write by a master (R9, R772). A host's request reaches the control window through PF0, an instance window through its
function, and neither while the function is not open. -/
def State.regWrite (s : State) (r : RegAccess) (v : Nat) : State :=
  let mid := r.mid.toNat
  let off := r.offset.toNat
  let good := accessGood off r.size r.full
  if !s.masterOpen mid then s.closedWrite mid
  else match r.window with
    | .inst i => if mid != i.val then (if midAssigned mid then s else s.badMaster mid false none) else if !good then s.urPosted mid
      else if r.size = 8 then s.instWrite64 mid off v else s.instWrite32 mid off (v % 2 ^ 32)
    | .control =>
      if !windowMid mid then s.badMaster mid false (some (0x40000000 + off))
      else if !good then (if mid = 0 then s.urPosted 0 else s)
      else if r.size = 8 then s.ctlWrite64 mid off v else s.ctlWrite32 mid off (v % 2 ^ 32)

/-- A register read by a master (R9, R772). -/
def State.regRead (s : State) (r : RegAccess) : State :=
  let mid := r.mid.toNat
  let off := r.offset.toNat
  let good := accessGood off r.size r.full
  let answer := fun (p : Nat × State) => p.2.emit (.readData mid p.1)
  if !s.masterOpen mid then s.closedRead mid
  else match r.window with
    | .inst i => if mid != i.val then (if midAssigned mid then s else answer (0, s.badMaster mid true none)) else if !good then s.urRead mid
      else if s.notOwned mid off then s.notOwnedRead mid off
      else answer (if r.size = 8 then s.instRead64 mid off else s.instRead32 mid off)
    | .control =>
      if !windowMid mid then answer (0, s.badMaster mid true (some (0x40000000 + off)))
      else if !good then (if mid = 0 then s.urRead 0 else answer (0, s))
      else answer (if r.size = 8 then s.ctlRead64 mid off else s.ctlRead32 mid off)

end Sys2Proof.Machine
end

