-- ==== Sys2Proof/Machine/Registers.lean ====
section
/-! DEFINITION. Meanings of register accesses, block control and the debug port's accesses (R9 to R29, R754, R755, R772). -/

namespace Sys2Proof.Machine

/-- REGISTER_WRITE (R9, R772, R773). -/
def execRegisterWrite (acc : RegAccess) (value : Dword) (s : State) : Host.Outcome State Fault Refusal :=
  .next (s.regWrite acc value.toNat)

/-- RC_REGISTER_READ (R9): a read of any register; one with RC fields clears. -/
def execRcRegisterRead (acc : RegAccess) (s : State) : Host.Outcome State Fault Refusal := .next (s.regRead acc)

/-- A write of a block's control by a master; numbers that R13 leaves unused have none. -/
def State.blkCtlWrite (s : State) (mid b v : Nat) : State :=
  if !s.masterOpen mid then s
  else s.gatedWrite mid (blkCtl b) fun s => if blockKnown b then s.blkWrite b v else s

/-- BLK_CTL_ENABLE_WRITE (R15). -/
def execBlkCtlEnableWrite (mid : BitVec 13) (block : Fin 32) (s : State) : Host.Outcome State Fault Refusal :=
  .next (s.blkCtlWrite mid.toNat block.val 1)

/-- BLK_CTL_DISABLE_WRITE (R16, R133). -/
def execBlkCtlDisableWrite (mid : BitVec 13) (block : Fin 32) (s : State) : Host.Outcome State Fault Refusal :=
  .next (s.blkCtlWrite mid.toNat block.val 0)

/-- BLK_CTL_LOCK_WRITE (R19): lock is written 1, with `enable` as the write has it. -/
def execBlkCtlLockWrite (mid : BitVec 13) (block : Fin 32) (enable : Bool) (s : State) : Host.Outcome State Fault Refusal :=
  .next (s.blkCtlWrite mid.toNat block.val (2 ^ 31 + b2n enable))

/-- CONSISTENCY_CHECK_END (R15, R18). -/
def execConsistencyCheckEnd (block : Fin 32) (s : State) : Host.Outcome State Fault Refusal := .next (s.blkCheckEnd block.val)

/-! ## The debug port -/

/-- A range of the device address map (R30). -/
def inRange (a n base size : Nat) : Bool := decide (base ≤ a) && decide (a + n ≤ base + size)

/-- MRAM is written by the debug port: only in an area whose bit is set (R321). -/
def State.dbgMram (s : State) (a : Nat) (bs : List Byte) : State :=
  match mramArea a with
  | some b =>
    if bitAt (s.reg R.MEM_MRAM_PROT) b then { s with mem := { s.mem with mram := Mem.write s.mem.mram a bs } }
    else s.bump R.MEM_MRAM_DENIED
  | none => s.bump R.MEM_MRAM_DENIED

/-- An access of a memory of the device address map by the debug port, at level 0 (R30, R754): an address outside the map reads 0 and
ignores a write. -/
def State.dbgMemory (s : State) (a n : Nat) (write : Option (List Byte)) : State :=
  match write with
  | some bs =>
    let bs := slice bs 0 n
    if inRange a n 0x30000000 (128 * 2 ^ 20) then s.dbgMram (a - 0x30000000) bs
    else if physOk a n then s.physWrite 0x1040 a bs
    else s
  | none =>
    let v := if inRange a n 0x30000000 (128 * 2 ^ 20) then leNat (Mem.bytes s.mem.mram (a - 0x30000000) n)
      else if physOk a n then leNat (s.physRead a n)
      else 0
    s.emit (.readData 0x1040 v)

/-- DBG_ACCESS (R751, R754, R755): the instruction is selected, and a device address is read or written. -/
def execDbgAccess (addr : BitVec 40) (size : Nat) (full : Bool) (write : Option (List Byte)) (s : State) : Host.Outcome State Fault Refusal :=
  let a := addr.toNat
  let s := s.setF F.TST_DBG_STATUS_selected 1
  .next <|
    if !s.mainOn then s
    else if inRange a 1 0x40000000 (64 * 2 ^ 20) then
      let r : RegAccess := { mid := 0x1040, window := .control, offset := BitVec.ofNat 26 (a - 0x40000000), size := size, full := full }
      match write with
      | some bs => s.regWrite r (leNat (slice bs 0 size))
      | none => s.regRead r
    else if s.dbgLevel != 0 then
      (if write.isNone then s.dbgRefused.emit (.readData 0x1040 0) else s.dbgRefused)
    else s.dbgMemory a size write

end Sys2Proof.Machine
end

