-- ==== Sys2Proof/Machine/Dispatch.lean ====
section
/-! DEFINITION. The dispatch: one arm for each command, each one direct call of its meaning. -/

namespace Sys2Proof.Machine

def exec (i : Instr) (s : State) : Host.Outcome State Fault Refusal :=
  match i with
  | .registerWrite acc value => Sys2Proof.Machine.execRegisterWrite acc value s
  | .rcRegisterRead acc => Sys2Proof.Machine.execRcRegisterRead acc s
  | .blkCtlEnableWrite mid block => Sys2Proof.Machine.execBlkCtlEnableWrite mid block s
  | .consistencyCheckEnd block => Sys2Proof.Machine.execConsistencyCheckEnd block s
  | .blkCtlDisableWrite mid block => Sys2Proof.Machine.execBlkCtlDisableWrite mid block s
  | .blkCtlLockWrite mid block enable => Sys2Proof.Machine.execBlkCtlLockWrite mid block enable s
  | .auxSuppliesGood strapBoot strapRetainN strapMgpDis => Sys2Proof.Machine.execAuxSuppliesGood strapBoot strapRetainN strapMgpDis s
  | .auxSuppliesLost => Sys2Proof.Machine.execAuxSuppliesLost s
  | .mainSuppliesGood strapBoot strapRetainN strapMgpDis => Sys2Proof.Machine.execMainSuppliesGood strapBoot strapRetainN strapMgpDis s
  | .mainSuppliesLost => Sys2Proof.Machine.execMainSuppliesLost s
  | .sequencingFault => Sys2Proof.Machine.execSequencingFault s
  | .railExcursion => Sys2Proof.Machine.execRailExcursion s
  | .keeperLockstepMismatch pair => Sys2Proof.Machine.execKeeperLockstepMismatch pair s
  | .heartbeatTimeout => Sys2Proof.Machine.execHeartbeatTimeout s
  | .revalidationEnd block => Sys2Proof.Machine.execRevalidationEnd block s
  | .standbyPairReady => Sys2Proof.Machine.execStandbyPairReady s
  | .islandResetGo mid island => Sys2Proof.Machine.execIslandResetGo mid island s
  | .islandResetEnd => Sys2Proof.Machine.execIslandResetEnd s
  | .devStartService e => Sys2Proof.Machine.execDevStartService e s
  | .devSnapshotSave e => Sys2Proof.Machine.execDevSnapshotSave e s
  | .snapshotSaveEnd slot => Sys2Proof.Machine.execSnapshotSaveEnd slot s
  | .devSnapshotQuery e => Sys2Proof.Machine.execDevSnapshotQuery e s
  | .devSnapshotErase e => Sys2Proof.Machine.execDevSnapshotErase e s
  | .devImageStage e => Sys2Proof.Machine.execDevImageStage e s
  | .imageStageEnd => Sys2Proof.Machine.execImageStageEnd s
  | .devImageActivate e => Sys2Proof.Machine.execDevImageActivate e s
  | .handoverRequest course => Sys2Proof.Machine.execHandoverRequest course s
  | .activationTimeout => Sys2Proof.Machine.execActivationTimeout s
  | .devImageQuery e => Sys2Proof.Machine.execDevImageQuery e s
  | .perstAssert => Sys2Proof.Machine.execPerstAssert s
  | .perstDeassert => Sys2Proof.Machine.execPerstDeassert s
  | .hotReset => Sys2Proof.Machine.execHotReset s
  | .flrPf0 => Sys2Proof.Machine.execFlrPf0 s
  | .flrVf vf => Sys2Proof.Machine.execFlrVf vf s
  | .hostFacingResetEnd iid => Sys2Proof.Machine.execHostFacingResetEnd iid s
  | .generationIncrementDue iid => Sys2Proof.Machine.execGenerationIncrementDue iid s
  | .adminCommandFetch e => Sys2Proof.Machine.execAdminCommandFetch e s
  | .devIdentify e => Sys2Proof.Machine.execDevIdentify e s
  | .devNop e => Sys2Proof.Machine.execDevNop e s
  | .devCmdAbort e => Sys2Proof.Machine.execDevCmdAbort e s
  | .devClaimQuery e => Sys2Proof.Machine.execDevClaimQuery e s
  | .rclQueryResWrite mid value => Sys2Proof.Machine.execRclQueryResWrite mid value s
  | .upstreamLinkChange up rate width => Sys2Proof.Machine.execUpstreamLinkChange up rate width s
  | .configRequest fn access => Sys2Proof.Machine.execConfigRequest fn access s
  | .vfEnableSet => Sys2Proof.Machine.execVfEnableSet s
  | .vfEnableClear => Sys2Proof.Machine.execVfEnableClear s
  | .numvfsWrite value => Sys2Proof.Machine.execNumvfsWrite value s
  | .powerstateWrite fn d3hot => Sys2Proof.Machine.execPowerstateWrite fn d3hot s
  | .pmeTurnOff => Sys2Proof.Machine.execPmeTurnOff s
  | .hostReadCompletion tag status data => Sys2Proof.Machine.execHostReadCompletion tag status data s
  | .completionTimeout tag => Sys2Proof.Machine.execCompletionTimeout tag s
  | .lateCompletion tag => Sys2Proof.Machine.execLateCompletion tag s
  | .tagQuarantineExpiry tag => Sys2Proof.Machine.execTagQuarantineExpiry tag s
  | .peerWindowRequest rid offset bytes access atomic => Sys2Proof.Machine.execPeerWindowRequest rid offset bytes access atomic s
  | .peerWinCommit mid window value => Sys2Proof.Machine.execPeerWinCommit mid window value s
  | .peerWinDrained window => Sys2Proof.Machine.execPeerWinDrained window s
  | .l0pNarrow => Sys2Proof.Machine.execL0pNarrow s
  | .l0pWiden => Sys2Proof.Machine.execL0pWiden s
  | .l1Request => Sys2Proof.Machine.execL1Request s
  | .hstPmCfgEnable mid value => Sys2Proof.Machine.execHstPmCfgEnable mid value s
  | .hstCplTimeoutOverride mid value => Sys2Proof.Machine.execHstCplTimeoutOverride mid value s
  | .slotPresenceChange port present => Sys2Proof.Machine.execSlotPresenceChange port present s
  | .slotPowerOn mid port value => Sys2Proof.Machine.execSlotPowerOn mid port value s
  | .slotPowerGood port => Sys2Proof.Machine.execSlotPowerGood port s
  | .slotPowerGoodTimeout port => Sys2Proof.Machine.execSlotPowerGoodTimeout port s
  | .slotLinkActive port rate width => Sys2Proof.Machine.execSlotLinkActive port rate width s
  | .slotTrainingTimeout port => Sys2Proof.Machine.execSlotTrainingTimeout port s
  | .attentionButton port => Sys2Proof.Machine.execAttentionButton port s
  | .removalTimeout port => Sys2Proof.Machine.execRemovalTimeout port s
  | .removalDrainEnd port => Sys2Proof.Machine.execRemovalDrainEnd port s
  | .slotPowerFault port => Sys2Proof.Machine.execSlotPowerFault port s
  | .dpcErrMessage port severity source => Sys2Proof.Machine.execDpcErrMessage port severity source s
  | .surpriseDown port => Sys2Proof.Machine.execSurpriseDown port s
  | .dpcSwTrigger mid port value => Sys2Proof.Machine.execDpcSwTrigger mid port value s
  | .dpcRelease mid port value => Sys2Proof.Machine.execDpcRelease mid port value s
  | .driveRequest port addr bytes access => Sys2Proof.Machine.execDriveRequest port addr bytes access s
  | .doorbellWrite iid loc value => Sys2Proof.Machine.execDoorbellWrite iid loc value s
  | .evqDoorbellWrite iid loc value arm => Sys2Proof.Machine.execEvqDoorbellWrite iid loc value arm s
  | .contextFillComplete qid ok => Sys2Proof.Machine.execContextFillComplete qid ok s
  | .txFrame qid words payload => Sys2Proof.Machine.execTxFrame qid words payload s
  | .rxBuffer qid words => Sys2Proof.Machine.execRxBuffer qid words s
  | .padEntry qid words => Sys2Proof.Machine.execPadEntry qid words s
  | .coalesceTimerExpiry qid => Sys2Proof.Machine.execCoalesceTimerExpiry qid s
  | .queueCreate e => Sys2Proof.Machine.execQueueCreate e s
  | .queueDestroy e => Sys2Proof.Machine.execQueueDestroy e s
  | .queueDrainEnd qid => Sys2Proof.Machine.execQueueDrainEnd qid s
  | .queueModify e => Sys2Proof.Machine.execQueueModify e s
  | .queueQuery e => Sys2Proof.Machine.execQueueQuery e s
  | .evqCreate e => Sys2Proof.Machine.execEvqCreate e s
  | .evqDestroy e => Sys2Proof.Machine.execEvqDestroy e s
  | .evqRearm e => Sys2Proof.Machine.execEvqRearm e s
  | .qmgCtxSelWrite mid qid => Sys2Proof.Machine.execQmgCtxSelWrite mid qid s
  | .dmaChannelCfg e => Sys2Proof.Machine.execDmaChannelCfg e s
  | .dmaChStart mid n => Sys2Proof.Machine.execDmaChStart mid n s
  | .dmaChAbort mid n => Sys2Proof.Machine.execDmaChAbort mid n s
  | .dmaChannelSchedule engine => Sys2Proof.Machine.execDmaChannelSchedule engine s
  | .dmaBurstComplete engine host => Sys2Proof.Machine.execDmaBurstComplete engine host s
  | .eventSourceEdge source => Sys2Proof.Machine.execEventSourceEdge source s
  | .evcSrcForce mid source => Sys2Proof.Machine.execEvcSrcForce mid source s
  | .evcSrcEnable mid source on => Sys2Proof.Machine.execEvcSrcEnable mid source on s
  | .evcPendingClear mid k bits => Sys2Proof.Machine.execEvcPendingClear mid k bits s
  | .evcClaimRead mid t => Sys2Proof.Machine.execEvcClaimRead mid t s
  | .targetIdle t idle => Sys2Proof.Machine.execTargetIdle t idle s
  | .moderationHoldExpiry t => Sys2Proof.Machine.execModerationHoldExpiry t s
  | .vectorModerationExpiry iid v => Sys2Proof.Machine.execVectorModerationExpiry iid v s
  | .idleHintWrite iid v idle => Sys2Proof.Machine.execIdleHintWrite iid v idle s
  | .msixUnmask iid v => Sys2Proof.Machine.execMsixUnmask iid v s
  | .buoySend mid internal n word => Sys2Proof.Machine.execBuoySend mid internal n word s
  | .buoyRecvRead mid internal n low => Sys2Proof.Machine.execBuoyRecvRead mid internal n low s
  | .buoyWithdraw mid internal n => Sys2Proof.Machine.execBuoyWithdraw mid internal n s
  | .buoyDbSend mid internal n bits => Sys2Proof.Machine.execBuoyDbSend mid internal n bits s
  | .buoyDbRecvClear mid internal n bits => Sys2Proof.Machine.execBuoyDbRecvClear mid internal n bits s
  | .buoyVectorEnable iid vector on => Sys2Proof.Machine.execBuoyVectorEnable iid vector on s
  | .buoyForceClear mid internal n => Sys2Proof.Machine.execBuoyForceClear mid internal n s
  | .insCreate e => Sys2Proof.Machine.execInsCreate e s
  | .insDestroy e => Sys2Proof.Machine.execInsDestroy e s
  | .insReset e => Sys2Proof.Machine.execInsReset e s
  | .insQuery e => Sys2Proof.Machine.execInsQuery e s
  | .insSetQuota e => Sys2Proof.Machine.execInsSetQuota e s
  | .insSuspend e => Sys2Proof.Machine.execInsSuspend e s
  | .insResume e => Sys2Proof.Machine.execInsResume e s
  | .insMgrAdminEnable mid value => Sys2Proof.Machine.execInsMgrAdminEnable mid value s
  | .insSelWrite mid iid => Sys2Proof.Machine.execInsSelWrite mid iid s
  | .frameReceive port bytes => Sys2Proof.Machine.execFrameReceive port bytes s
  | .frameTail port fcsGood => Sys2Proof.Machine.execFrameTail port fcsGood s
  | .pageFillComplete page ecc => Sys2Proof.Machine.execPageFillComplete page ecc s
  | .parkTimeout place => Sys2Proof.Machine.execParkTimeout place s
  | .hostFillRetry page => Sys2Proof.Machine.execHostFillRetry page s
  | .writeBackComplete page ok => Sys2Proof.Machine.execWriteBackComplete page ok s
  | .pageEviction => Sys2Proof.Machine.execPageEviction s
  | .pageDemotion => Sys2Proof.Machine.execPageDemotion s
  | .pageCopyComplete page => Sys2Proof.Machine.execPageCopyComplete page s
  | .patrolScrubRead line ecc => Sys2Proof.Machine.execPatrolScrubRead line ecc s
  | .pgrPin e => Sys2Proof.Machine.execPgrPin e s
  | .pgrUnpin e => Sys2Proof.Machine.execPgrUnpin e s
  | .pgrPrefetch e => Sys2Proof.Machine.execPgrPrefetch e s
  | .memDonate e => Sys2Proof.Machine.execMemDonate e s
  | .memRevoke e => Sys2Proof.Machine.execMemRevoke e s
  | .memPeerWindow e => Sys2Proof.Machine.execMemPeerWindow e s
  | .bpmPoolCfg e => Sys2Proof.Machine.execBpmPoolCfg e s
  | .bpmSetQuota e => Sys2Proof.Machine.execBpmSetQuota e s
  | .alloc requester length => Sys2Proof.Machine.execAlloc requester length s
  | .share mid ptr requester holder => Sys2Proof.Machine.execShare mid ptr requester holder s
  | .release mid ptr requester => Sys2Proof.Machine.execRelease mid ptr requester s
  | .transfer mid ptr requester dest => Sys2Proof.Machine.execTransfer mid ptr requester dest s
  | .free mid ptr requester => Sys2Proof.Machine.execFree mid ptr requester s
  | .prsGraphWrite e => Sys2Proof.Machine.execPrsGraphWrite e s
  | .clsRuleWrite e => Sys2Proof.Machine.execClsRuleWrite e s
  | .clsRuleDelete e => Sys2Proof.Machine.execClsRuleDelete e s
  | .clsHashCfg e => Sys2Proof.Machine.execClsHashCfg e s
  | .clsIndirWrite e => Sys2Proof.Machine.execClsIndirWrite e s
  | .clsExcPolicer e => Sys2Proof.Machine.execClsExcPolicer e s
  | .excPolicerRefill => Sys2Proof.Machine.execExcPolicerRefill s
  | .tblCreate e => Sys2Proof.Machine.execTblCreate e s
  | .shadowCopyEnd n => Sys2Proof.Machine.execShadowCopyEnd n s
  | .tblDestroy e => Sys2Proof.Machine.execTblDestroy e s
  | .tblInsert e => Sys2Proof.Machine.execTblInsert e s
  | .tblDelete e => Sys2Proof.Machine.execTblDelete e s
  | .tblSearch e => Sys2Proof.Machine.execTblSearch e s
  | .tblNext e => Sys2Proof.Machine.execTblNext e s
  | .tblFlushPort e => Sys2Proof.Machine.execTblFlushPort e s
  | .tableFlushEnd n => Sys2Proof.Machine.execTableFlushEnd n s
  | .tblShadowSwitch e => Sys2Proof.Machine.execTblShadowSwitch e s
  | .lpmAdd e => Sys2Proof.Machine.execLpmAdd e s
  | .lpmDelete e => Sys2Proof.Machine.execLpmDelete e s
  | .lpmVrfCfg e => Sys2Proof.Machine.execLpmVrfCfg e s
  | .vrfFlushEnd n => Sys2Proof.Machine.execVrfFlushEnd n s
  | .lpmNodeRebuild => Sys2Proof.Machine.execLpmNodeRebuild s
  | .learnCfg e => Sys2Proof.Machine.execLearnCfg e s
  | .learnTokenRefill n => Sys2Proof.Machine.execLearnTokenRefill n s
  | .ageingScanVisit n => Sys2Proof.Machine.execAgeingScanVisit n s
  | .tblSelWrite mid n => Sys2Proof.Machine.execTblSelWrite mid n s
  | .swxActionWrite e => Sys2Proof.Machine.execSwxActionWrite e s
  | .swxTunnelCfg e => Sys2Proof.Machine.execSwxTunnelCfg e s
  | .swxMirrorCfg e => Sys2Proof.Machine.execSwxMirrorCfg e s
  | .swxPolicerCfg e => Sys2Proof.Machine.execSwxPolicerCfg e s
  | .policerRefill => Sys2Proof.Machine.execPolicerRefill s
  | .orderedSlotTimeout slot => Sys2Proof.Machine.execOrderedSlotTimeout slot s
  | .swxCntSelWrite mid k clear => Sys2Proof.Machine.execSwxCntSelWrite mid k clear s
  | .saffronRequest place => Sys2Proof.Machine.execSaffronRequest place s
  | .derivationComplete assoc slotB => Sys2Proof.Machine.execDerivationComplete assoc slotB s
  | .safRootKeyLoad e => Sys2Proof.Machine.execSafRootKeyLoad e s
  | .safAssocCreate e => Sys2Proof.Machine.execSafAssocCreate e s
  | .safAssocRekey e => Sys2Proof.Machine.execSafAssocRekey e s
  | .safAssocDestroy e => Sys2Proof.Machine.execSafAssocDestroy e s
  | .safOpkeyEnrol e => Sys2Proof.Machine.execSafOpkeyEnrol e s
  | .safOpkeyRevoke e => Sys2Proof.Machine.execSafOpkeyRevoke e s
  | .safAssocSelWrite mid assoc => Sys2Proof.Machine.execSafAssocSelWrite mid assoc s
  | .cloveDispatch cluster => Sys2Proof.Machine.execCloveDispatch cluster s
  | .pktLwbe cluster thread => Sys2Proof.Machine.execPktLwbe cluster thread s
  | .pktHead cluster thread => Sys2Proof.Machine.execPktHead cluster thread s
  | .pktLen cluster thread => Sys2Proof.Machine.execPktLen cluster thread s
  | .pktEmit cluster thread => Sys2Proof.Machine.execPktEmit cluster thread s
  | .pktDrop cluster thread => Sys2Proof.Machine.execPktDrop cluster thread s
  | .pktNew cluster thread => Sys2Proof.Machine.execPktNew cluster thread s
  | .tblEm cluster thread => Sys2Proof.Machine.execTblEm cluster thread s
  | .tblLpm cluster thread => Sys2Proof.Machine.execTblLpm cluster thread s
  | .pgrPage cluster thread => Sys2Proof.Machine.execPgrPage cluster thread s
  | .pgrLw cluster thread => Sys2Proof.Machine.execPgrLw cluster thread s
  | .pgrSw cluster thread => Sys2Proof.Machine.execPgrSw cluster thread s
  | .pgrAmoadd cluster thread => Sys2Proof.Machine.execPgrAmoadd cluster thread s
  | .pgrAmoswap cluster thread => Sys2Proof.Machine.execPgrAmoswap cluster thread s
  | .pgrPref cluster thread => Sys2Proof.Machine.execPgrPref cluster thread s
  | .msgLock cluster thread => Sys2Proof.Machine.execMsgLock cluster thread s
  | .msgUnlock cluster thread => Sys2Proof.Machine.execMsgUnlock cluster thread s
  | .msgRd cluster thread => Sys2Proof.Machine.execMsgRd cluster thread s
  | .msgWr cluster thread => Sys2Proof.Machine.execMsgWr cluster thread s
  | .clvWait cluster thread => Sys2Proof.Machine.execClvWait cluster thread s
  | .clvDone cluster thread => Sys2Proof.Machine.execClvDone cluster thread s
  | .clvWake cluster thread => Sys2Proof.Machine.execClvWake cluster thread s
  | .bufAlloc cluster thread => Sys2Proof.Machine.execBufAlloc cluster thread s
  | .bufShare cluster thread => Sys2Proof.Machine.execBufShare cluster thread s
  | .bufRelease cluster thread => Sys2Proof.Machine.execBufRelease cluster thread s
  | .bufFree cluster thread => Sys2Proof.Machine.execBufFree cluster thread s
  | .bufXfer cluster thread => Sys2Proof.Machine.execBufXfer cluster thread s
  | .supNext cluster thread => Sys2Proof.Machine.execSupNext cluster thread s
  | .supAct cluster thread => Sys2Proof.Machine.execSupAct cluster thread s
  | .supFrel cluster thread => Sys2Proof.Machine.execSupFrel cluster thread s
  | .supState cluster thread => Sys2Proof.Machine.execSupState cluster thread s
  | .baseInstruction cluster thread => Sys2Proof.Machine.execBaseInstruction cluster thread s
  | .ecall cluster thread => Sys2Proof.Machine.execEcall cluster thread s
  | .ebreak cluster thread => Sys2Proof.Machine.execEbreak cluster thread s
  | .blockedResultReturn cluster thread => Sys2Proof.Machine.execBlockedResultReturn cluster thread s
  | .compareReached cluster thread => Sys2Proof.Machine.execCompareReached cluster thread s
  | .wdogExpiry cluster => Sys2Proof.Machine.execWdogExpiry cluster s
  | .supRestart mid cluster => Sys2Proof.Machine.execSupRestart mid cluster s
  | .clvWdogEnable mid cluster on period => Sys2Proof.Machine.execClvWdogEnable mid cluster on period s
  | .clvProgramLoad e => Sys2Proof.Machine.execClvProgramLoad e s
  | .clvProgramSwap e => Sys2Proof.Machine.execClvProgramSwap e s
  | .swapDrainEnd cluster => Sys2Proof.Machine.execSwapDrainEnd cluster s
  | .clvProgramUnload e => Sys2Proof.Machine.execClvProgramUnload e s
  | .clvClusterMode e => Sys2Proof.Machine.execClvClusterMode e s
  | .clvMsgregRelease e => Sys2Proof.Machine.execClvMsgregRelease e s
  | .routineStart seq conn => Sys2Proof.Machine.execRoutineStart seq conn s
  | .workEntryFetch qid words => Sys2Proof.Machine.execWorkEntryFetch qid words s
  | .connectionTimerExpiry conn => Sys2Proof.Machine.execConnectionTimerExpiry conn s
  | .portOperationComplete drive index data => Sys2Proof.Machine.execPortOperationComplete drive index data s
  | .microwordExecute seq conn parity steps => Sys2Proof.Machine.execMicrowordExecute seq conn parity steps s
  | .trapResume mid seq slot => Sys2Proof.Machine.execTrapResume mid seq slot s
  | .trapAbort mid seq slot => Sys2Proof.Machine.execTrapAbort mid seq slot s
  | .driveCommandTimeout index => Sys2Proof.Machine.execDriveCommandTimeout index s
  | .psqUcodeStage e => Sys2Proof.Machine.execPsqUcodeStage e s
  | .psqBankSwap e => Sys2Proof.Machine.execPsqBankSwap e s
  | .rdmaQpCreate e => Sys2Proof.Machine.execRdmaQpCreate e s
  | .rdmaQpModify e => Sys2Proof.Machine.execRdmaQpModify e s
  | .rdmaQpDestroy e => Sys2Proof.Machine.execRdmaQpDestroy e s
  | .rdmaMrRegister e => Sys2Proof.Machine.execRdmaMrRegister e s
  | .rdmaMrDeregister e => Sys2Proof.Machine.execRdmaMrDeregister e s
  | .nvmeCtrlConnect e => Sys2Proof.Machine.execNvmeCtrlConnect e s
  | .nvmeCtrlDisconnect e => Sys2Proof.Machine.execNvmeCtrlDisconnect e s
  | .nvmeLocalNsAttach e => Sys2Proof.Machine.execNvmeLocalNsAttach e s
  | .nvmeLocalNsDetach e => Sys2Proof.Machine.execNvmeLocalNsDetach e s
  | .frsNodeCfg e => Sys2Proof.Machine.execFrsNodeCfg e s
  | .frsShaperCfg e => Sys2Proof.Machine.execFrsShaperCfg e s
  | .frsGclWrite e => Sys2Proof.Machine.execFrsGclWrite e s
  | .frsGclCommit e => Sys2Proof.Machine.execFrsGclCommit e s
  | .frsTelemetryCfg e => Sys2Proof.Machine.execFrsTelemetryCfg e s
  | .schedulerChoice root => Sys2Proof.Machine.execSchedulerChoice root s
  | .refillEpoch => Sys2Proof.Machine.execRefillEpoch s
  | .gateEdge port => Sys2Proof.Machine.execGateEdge port s
  | .gateStaging port cls => Sys2Proof.Machine.execGateStaging port cls s
  | .gclSwitch port => Sys2Proof.Machine.execGclSwitch port s
  | .leafBelowMax leaf => Sys2Proof.Machine.execLeafBelowMax leaf s
  | .telemetrySample sub => Sys2Proof.Machine.execTelemetrySample sub s
  | .frsNodeSelWrite mid node => Sys2Proof.Machine.execFrsNodeSelWrite mid node s
  | .portModeSet e => Sys2Proof.Machine.execPortModeSet e s
  | .portLinkChange port up => Sys2Proof.Machine.execPortLinkChange port up s
  | .portCfg e => Sys2Proof.Machine.execPortCfg e s
  | .portStatsRead e => Sys2Proof.Machine.execPortStatsRead e s
  | .portPfcCfg e => Sys2Proof.Machine.execPortPfcCfg e s
  | .pauseRepeat port prio => Sys2Proof.Machine.execPauseRepeat port prio s
  | .pauseFrameReceived port pfc enable quanta => Sys2Proof.Machine.execPauseFrameReceived port pfc enable quanta s
  | .pauseExpiry port cls => Sys2Proof.Machine.execPauseExpiry port cls s
  | .mgpFrameReceived frame => Sys2Proof.Machine.execMgpFrameReceived frame s
  | .mgpLinkChange up speed full => Sys2Proof.Machine.execMgpLinkChange up speed full s
  | .mgpCollision frame late => Sys2Proof.Machine.execMgpCollision frame late s
  | .backoffExpiry => Sys2Proof.Machine.execBackoffExpiry s
  | .mctpControlMessage src setEid complete => Sys2Proof.Machine.execMctpControlMessage src setEid complete s
  | .spdmMessage src complete => Sys2Proof.Machine.execSpdmMessage src complete s
  | .yadopex src entry complete => Sys2Proof.Machine.execYadopex src entry complete s
  | .wake src => Sys2Proof.Machine.execWake src s
  | .recoveryWrite src offset bytes => Sys2Proof.Machine.execRecoveryWrite src offset bytes s
  | .recoveryCommit src length => Sys2Proof.Machine.execRecoveryCommit src length s
  | .timeAdjust e => Sys2Proof.Machine.execTimeAdjust e s
  | .slewEnd => Sys2Proof.Machine.execSlewEnd s
  | .timePpsCfg e => Sys2Proof.Machine.execTimePpsCfg e s
  | .ppsEdge wholeSecond => Sys2Proof.Machine.execPpsEdge wholeSecond s
  | .timeInEdge falling => Sys2Proof.Machine.execTimeInEdge falling s
  | .ptmExchange host => Sys2Proof.Machine.execPtmExchange host s
  | .timeDaymarkAlarm e => Sys2Proof.Machine.execTimeDaymarkAlarm e s
  | .daymarkAlarmFire => Sys2Proof.Machine.execDaymarkAlarmFire s
  | .daymarkFollowCheck => Sys2Proof.Machine.execDaymarkFollowCheck s
  | .vbatLoss => Sys2Proof.Machine.execVbatLoss s
  | .calTableWrite e => Sys2Proof.Machine.execCalTableWrite e s
  | .calTableRead e => Sys2Proof.Machine.execCalTableRead e s
  | .timSnapCapture mid => Sys2Proof.Machine.execTimSnapCapture mid s
  | .timSideSelWrite mid index => Sys2Proof.Machine.execTimSideSelWrite mid index s
  | .lanRegionAssign e => Sys2Proof.Machine.execLanRegionAssign e s
  | .lanImageLoad e readback => Sys2Proof.Machine.execLanImageLoad e readback s
  | .initTimeout region => Sys2Proof.Machine.execInitTimeout region s
  | .lanRegionQuiesce e => Sys2Proof.Machine.execLanRegionQuiesce e s
  | .lanRegionUnload e => Sys2Proof.Machine.execLanRegionUnload e s
  | .quiesceDrained region readback => Sys2Proof.Machine.execQuiesceDrained region readback s
  | .quiesceTimeout region readback => Sys2Proof.Machine.execQuiesceTimeout region readback s
  | .lanPowerCap e => Sys2Proof.Machine.execLanPowerCap e s
  | .lanAllowanceSet e => Sys2Proof.Machine.execLanAllowanceSet e s
  | .lanTapCfg e => Sys2Proof.Machine.execLanTapCfg e s
  | .regionReturn region stream token mark verdict bytes => Sys2Proof.Machine.execRegionReturn region stream token mark verdict bytes s
  | .tapHoldTimeout region slot => Sys2Proof.Machine.execTapHoldTimeout region slot s
  | .regionMemoryRequest region write addr lines tag data => Sys2Proof.Machine.execRegionMemoryRequest region write addr lines tag data s
  | .regionRegisterAccess mid region reg value answer => Sys2Proof.Machine.execRegionRegisterAccess mid region reg value answer s
  | .regionRegisterTimeout mid region reg value => Sys2Proof.Machine.execRegionRegisterTimeout mid region reg value s
  | .lxEventEdge region => Sys2Proof.Machine.execLxEventEdge region s
  | .configScrubPass region corrected uncorrectable => Sys2Proof.Machine.execConfigScrubPass region corrected uncorrectable s
  | .regionPowerSample region sample => Sys2Proof.Machine.execRegionPowerSample region sample s
  | .throttleStage2 region => Sys2Proof.Machine.execThrottleStage2 region s
  | .throttleRecovery region => Sys2Proof.Machine.execThrottleRecovery region s
  | .powerTrip region => Sys2Proof.Machine.execPowerTrip region s
  | .flitReceive port words => Sys2Proof.Machine.execFlitReceive port words s
  | .replayTimeout port => Sys2Proof.Machine.execReplayTimeout port s
  | .beaconSend => Sys2Proof.Machine.execBeaconSend s
  | .beaconReceive port body => Sys2Proof.Machine.execBeaconReceive port body s
  | .sprJoin e => Sys2Proof.Machine.execSprJoin e s
  | .joinWaitEnd => Sys2Proof.Machine.execJoinWaitEnd s
  | .sprLeave e => Sys2Proof.Machine.execSprLeave e s
  | .sprRouteWrite e => Sys2Proof.Machine.execSprRouteWrite e s
  | .sprEpochCommit e => Sys2Proof.Machine.execSprEpochCommit e s
  | .previousEpochDiscard => Sys2Proof.Machine.execPreviousEpochDiscard s
  | .sprRemoteGrant e => Sys2Proof.Machine.execSprRemoteGrant e s
  | .sprChanMapWrite mid chan value => Sys2Proof.Machine.execSprChanMapWrite mid chan value s
  | .mailboxPacketReceive port packet => Sys2Proof.Machine.execMailboxPacketReceive port packet s
  | .mailboxResend chan => Sys2Proof.Machine.execMailboxResend chan s
  | .remoteRequestReceive port packet => Sys2Proof.Machine.execRemoteRequestReceive port packet s
  | .remoteResponseReceive port packet => Sys2Proof.Machine.execRemoteResponseReceive port packet s
  | .sparRequestTimeout chan => Sys2Proof.Machine.execSparRequestTimeout chan s
  | .framePacketReceive port packet => Sys2Proof.Machine.execFramePacketReceive port packet s
  | .timeExchange t1 t2 t3 t4 ts tr => Sys2Proof.Machine.execTimeExchange t1 t2 t3 t4 ts tr s
  | .leakTick resource => Sys2Proof.Machine.execLeakTick resource s
  | .retirementStart kind => Sys2Proof.Machine.execRetirementStart kind s
  | .retirementEnd resource => Sys2Proof.Machine.execRetirementEnd resource s
  | .rasRetire e => Sys2Proof.Machine.execRasRetire e s
  | .rasRestore e => Sys2Proof.Machine.execRasRestore e s
  | .selftestEnd resource pass => Sys2Proof.Machine.execSelftestEnd resource pass s
  | .rasThresholdSet e => Sys2Proof.Machine.execRasThresholdSet e s
  | .rasFoghornAck e => Sys2Proof.Machine.execRasFoghornAck e s
  | .rasLogRead e => Sys2Proof.Machine.execRasLogRead e s
  | .rasHeartbeatWrite mid => Sys2Proof.Machine.execRasHeartbeatWrite mid s
  | .rasCntSelWrite mid resource => Sys2Proof.Machine.execRasCntSelWrite mid resource s
  | .tstPlaceUnderTest e => Sys2Proof.Machine.execTstPlaceUnderTest e s
  | .tstRelease e => Sys2Proof.Machine.execTstRelease e s
  | .tstPatternCfg e => Sys2Proof.Machine.execTstPatternCfg e s
  | .tstLoopbackCfg e => Sys2Proof.Machine.execTstLoopbackCfg e s
  | .tstResultRead e => Sys2Proof.Machine.execTstResultRead e s
  | .tstLaneCtlEnable mid lane value => Sys2Proof.Machine.execTstLaneCtlEnable mid lane value s
  | .tstLaneClear mid lane => Sys2Proof.Machine.execTstLaneClear mid lane s
  | .checkerLock lane => Sys2Proof.Machine.execCheckerLock lane s
  | .checkerLockLoss lane => Sys2Proof.Machine.execCheckerLockLoss lane s
  | .checkerDurationEnd lane => Sys2Proof.Machine.execCheckerDurationEnd lane s
  | .bypass => Sys2Proof.Machine.execBypass s
  | .idcode => Sys2Proof.Machine.execIdcode s
  | .samplePreload => Sys2Proof.Machine.execSamplePreload s
  | .extest => Sys2Proof.Machine.execExtest s
  | .dbgAccess addr size full write => Sys2Proof.Machine.execDbgAccess addr size full write s
  | .keeperDebugHalt core => Sys2Proof.Machine.execKeeperDebugHalt core s
  | .tstClvHaltWrite mid cluster word value => Sys2Proof.Machine.execTstClvHaltWrite mid cluster word value s
  | .tstClvRegDataWrite mid value => Sys2Proof.Machine.execTstClvRegDataWrite mid value s
  | .powerSample rails average => Sys2Proof.Machine.execPowerSample rails average s
  | .powerLimitClear => Sys2Proof.Machine.execPowerLimitClear s
  | .thermalWarning temps => Sys2Proof.Machine.execThermalWarning temps s
  | .thermalThrottle temps => Sys2Proof.Machine.execThermalThrottle temps s
  | .throttleExit temps => Sys2Proof.Machine.execThrottleExit temps s
  | .thermalTrip temps => Sys2Proof.Machine.execThermalTrip temps s
  | .vbatSample mv => Sys2Proof.Machine.execVbatSample mv s
  | .pwrLimitWrite mid value => Sys2Proof.Machine.execPwrLimitWrite mid value s
  | .pwrThermCfgWrite mid value => Sys2Proof.Machine.execPwrThermCfgWrite mid value s
  | .sparLinkChange port up => Sys2Proof.Machine.execSparLinkChange port up s
  | .highBerEvent lane => Sys2Proof.Machine.execHighBerEvent lane s
  | .keeperMemoryError pair corrected => Sys2Proof.Machine.execKeeperMemoryError pair corrected s
  | .hostLinkError error => Sys2Proof.Machine.execHostLinkError error s
  | .smbusBusError => Sys2Proof.Machine.execSmbusBusError s
  | .lxReadyRise region => Sys2Proof.Machine.execLxReadyRise region s
  | .ucodeStageEnd group => Sys2Proof.Machine.execUcodeStageEnd group s
  | .calTableWriteEnd => Sys2Proof.Machine.execCalTableWriteEnd s
  | .modeTransitionEnd => Sys2Proof.Machine.execModeTransitionEnd s
  | .keeperDebugResume core => Sys2Proof.Machine.execKeeperDebugResume core s
  | .activationVerifyFail => Sys2Proof.Machine.execActivationVerifyFail s

end Sys2Proof.Machine
end

