-- ==== Sys2Proof/Machine/OpsIdle.lean ====
section
/-! DEFINITION. What the block does of itself on an empty queue (R64, R489, R618, R619, R641, R673, log entry 13). -/

namespace Sys2Proof.Machine

/-- What Keeper and the engines have in hand comes to its end: images of Lanterns are staged and verified (R673), images of swaps are written
(R489), memory requests of regions and requests of the Spar fabric whose pages can be reached again are answered (R663, R707), placements
under test that have taken effect answer (R741), an INS_DESTROY whose regions are down goes on (R302), and discarded pages whose references
have ended are zero pages (R337). -/
def State.workDone (s : State) : State :=
  ((List.range 16).foldl (fun s k => ((s.lanStaged k).lanServe k).swapSwitch k) s).sparServe.settlePlaced.settleDestroys.settleDiscards

/-- One cycle of the time unit: device time advances, and Daymark with it; secure boot, where it runs, goes on by one step of R64; and so does
work in hand. -/
def State.idle (s : State) : State := s.timeCycle.dmCycle.bootStep.workDone

end Sys2Proof.Machine
end

