-- ==== Sys2Proof/Safety.lean ====
section
/-! DEFINITION. What a safe step is, and the terms in which claims speak of admin commands: the entry is accepted (R114), the command
answers at once, or it runs on (R98, R99). -/

namespace Sys2Proof

open Machine

/-- A step of the block is safe: it answers a next state. No rule of the manual stops the device. -/
def Safe (s : State) : Prop := ∃ t, step s = .next t

namespace Machine

/-- The command that an entry spells for a row of the catalogue (R96). -/
def State.heard (s : State) (spec : CmdSpec) (e : AdminEntry) : Cmd := cmdOf s e spec.opcode (s.entrySpan e).1

/-- The state in which an accepted command runs its own checks: counted, its units taken, and a parameter block that it names read (R97, R103,
R128). -/
def State.taken (s : State) (spec : CmdSpec) (e : AdminEntry) : State :=
  ((s.bump R.GLB_CMD_FETCHED).takeEntry (s.heard spec e) (s.heard spec e).units).readBlock (s.heard spec e)

/-- An entry of the command's opcode is fetched and passes the acceptance checks of R114, and its check_only is 0 (R106). -/
def State.accepts (s : State) (spec : CmdSpec) (e : AdminEntry) : Bool :=
  wd e.words 0 % 2 ^ 16 == spec.opcode && s.eligible e && (s.heard spec e).units != 0
    && decide ((s.heard spec e).units ≤ 64) && decide ((s.heard spec e).units ≤ (s.entrySpan e).2)
    && (match catRow spec.opcode with
      | some row => (acceptFault (s.bump R.GLB_CMD_FETCHED) spec row e (s.heard spec e)).isNone
      | none => false)
    && !(s.heard spec e).checkOnly

end Machine

/-- A command answers SUCCESS at once: wherever its entry is accepted and `cond` holds of the command and the state that it runs in, the step's
state is `effect` of that state, answered with the result words `words`. -/
def Answers (i : AdminEntry → Instr) (spec : CmdSpec) (cond : Cmd → State → Prop) (effect : Cmd → State → State)
    (words : Cmd → State → List Word) : Prop :=
  ∀ (s : State) (e : AdminEntry), s.accepts spec e = true → cond (s.heard spec e) (s.taken spec e) →
    exec (i e) s = .next ((effect (s.heard spec e) (s.taken spec e)).reply (s.heard spec e) (s.heard spec e).units 0 0
      (words (s.heard spec e) (s.taken spec e)))

/-- A command runs on: its entry is answered PENDING and its locks are held (R99, R115). -/
def Pends (i : AdminEntry → Instr) (spec : CmdSpec) (cond : Cmd → State → Prop) (effect : Cmd → State → State) : Prop :=
  ∀ (s : State) (e : AdminEntry), s.accepts spec e = true → cond (s.heard spec e) (s.taken spec e) →
    exec (i e) s = .next ((effect (s.heard spec e) (s.taken spec e)).replyPending (s.heard spec e)
      (spec.locks (s.taken spec e) (s.heard spec e)))

/-- A command's entry is accepted, `cond` holds, and the step's state is `out` of the command and of the state that it runs in, reply and all. -/
def Runs (i : AdminEntry → Instr) (spec : CmdSpec) (cond : Cmd → State → Prop) (out : Cmd → State → State) : Prop :=
  ∀ (s : State) (e : AdminEntry), s.accepts spec e = true → cond (s.heard spec e) (s.taken spec e) →
    exec (i e) s = .next (out (s.heard spec e) (s.taken spec e))

/-- Thread n of cluster k is Running, and its next instruction is the word w of a row, of len bytes (R464, R470). -/
def Machine.State.runs (s : State) (k n : Nat) (op : ClvOp) (w len : Nat) : Bool :=
  !s.islandDown k && (s.th k n).state == 2 && s.clvFetch k n == some (w, len) && clvOpOf w == op

/-- The state after an instruction of len bytes of thread n of cluster k that ends in a way. -/
def Machine.State.ended (s : State) (k n len : Nat) (e : ClvEnd) : State := (s.clvEnd k n len e).clvSettle k

/-- A state and an entry meet what Answers, Pends and Runs ask. -/
def Meets (spec : CmdSpec) (cond : Cmd → State → Prop) : Prop :=
  ∃ (s : State) (e : AdminEntry), s.accepts spec e = true ∧ cond (s.heard spec e) (s.taken spec e)

/-- The byte memories of the device are in canonical form (Mem.wf, log entry 10). -/
def Machine.State.memoriesOk (s : State) : Bool :=
  Mem.wf s.mem.mram && Mem.wf s.mem.ddr && Mem.wf s.mem.pbuf && Mem.wf s.mem.cache && Mem.wf s.mem.donated

/-- Source n of R95 is pending, enabled, and has the mask bit of target t set (R247). -/
def Machine.State.qualifies (s : State) (t n : Nat) : Bool :=
  decide (n < 512) && bitAt (s.reg (R.EVC_PENDING (n / 32))) (n % 32) && s.rfb (F.EVC_SRC_CTL_enable n)
    && bitAt (s.reg (R.EVC_SRC_MASK n)) t

end Sys2Proof
end

