-- ==== Sys2Proof/WellFormed.lean ====
section
/-! DEFINITION. What a command carries when the thing that it stands for can happen at all: entry and register forms (R96, R97,
R772), frames and packets that are not empty (R31). The manual gives the device no instruction decoder; these are the bounds of its commands'
operands. -/

namespace Sys2Proof

open Machine

/-- An admin entry has 1 to 64 whole units of 16 words (R97). -/
def Machine.AdminEntry.wf (e : AdminEntry) : Bool :=
  e.words.length % 16 == 0 && 1 ≤ e.words.length / 16 && e.words.length / 16 ≤ 64

/-- A register access has a size of 1, 2, 4 or 8 bytes (R772). -/
def Machine.RegAccess.wf (a : RegAccess) : Bool := a.size == 1 || a.size == 2 || a.size == 4 || a.size == 8

/-- A frame on the wire has at least one byte (R31). -/
def frameWf (bs : List Byte) : Bool := !bs.isEmpty

/-- A ring entry has whole units of 16 words (R179). -/
def unitsWf (ws : List Word) : Bool := ws.length % 16 == 0 && !ws.isEmpty

/-- The well-formed commands. -/
def Instr.wf (i : Instr) : Bool :=
  match i with
  | .registerWrite acc _ => acc.wf
  | .rcRegisterRead acc => acc.wf
  | .blkCtlEnableWrite _ _ => true
  | .consistencyCheckEnd _ => true
  | .blkCtlDisableWrite _ _ => true
  | .blkCtlLockWrite _ _ _ => true
  | .auxSuppliesGood _ _ _ => true
  | .auxSuppliesLost => true
  | .mainSuppliesGood _ _ _ => true
  | .mainSuppliesLost => true
  | .sequencingFault => true
  | .railExcursion => true
  | .keeperLockstepMismatch _ => true
  | .heartbeatTimeout => true
  | .revalidationEnd _ => true
  | .standbyPairReady => true
  | .islandResetGo _ _ => true
  | .islandResetEnd => true
  | .devStartService e => e.wf
  | .devSnapshotSave e => e.wf
  | .snapshotSaveEnd _ => true
  | .devSnapshotQuery e => e.wf
  | .devSnapshotErase e => e.wf
  | .devImageStage e => e.wf
  | .imageStageEnd => true
  | .devImageActivate e => e.wf
  | .handoverRequest _ => true
  | .activationTimeout => true
  | .devImageQuery e => e.wf
  | .perstAssert => true
  | .perstDeassert => true
  | .hotReset => true
  | .flrPf0 => true
  | .flrVf _ => true
  | .hostFacingResetEnd _ => true
  | .generationIncrementDue _ => true
  | .adminCommandFetch e => e.wf
  | .devIdentify e => e.wf
  | .devNop e => e.wf
  | .devCmdAbort e => e.wf
  | .devClaimQuery e => e.wf
  | .rclQueryResWrite _ _ => true
  | .upstreamLinkChange _ _ _ => true
  | .configRequest _ _ => true
  | .vfEnableSet => true
  | .vfEnableClear => true
  | .numvfsWrite _ => true
  | .powerstateWrite _ _ => true
  | .pmeTurnOff => true
  | .hostReadCompletion _ _ _ => true
  | .completionTimeout _ => true
  | .lateCompletion _ => true
  | .tagQuarantineExpiry _ => true
  | .peerWindowRequest _ _ _ _ _ => true
  | .peerWinCommit _ _ _ => true
  | .peerWinDrained _ => true
  | .l0pNarrow => true
  | .l0pWiden => true
  | .l1Request => true
  | .hstPmCfgEnable _ _ => true
  | .hstCplTimeoutOverride _ _ => true
  | .slotPresenceChange _ _ => true
  | .slotPowerOn _ _ _ => true
  | .slotPowerGood _ => true
  | .slotPowerGoodTimeout _ => true
  | .slotLinkActive _ _ _ => true
  | .slotTrainingTimeout _ => true
  | .attentionButton _ => true
  | .removalTimeout _ => true
  | .removalDrainEnd _ => true
  | .slotPowerFault _ => true
  | .dpcErrMessage _ _ _ => true
  | .surpriseDown _ => true
  | .dpcSwTrigger _ _ _ => true
  | .dpcRelease _ _ _ => true
  | .driveRequest _ _ _ _ => true
  | .doorbellWrite _ _ _ => true
  | .evqDoorbellWrite _ _ _ _ => true
  | .contextFillComplete _ _ => true
  | .txFrame _ words _ => unitsWf words
  | .rxBuffer _ words => unitsWf words
  | .padEntry _ words => unitsWf words
  | .coalesceTimerExpiry _ => true
  | .queueCreate e => e.wf
  | .queueDestroy e => e.wf
  | .queueDrainEnd _ => true
  | .queueModify e => e.wf
  | .queueQuery e => e.wf
  | .evqCreate e => e.wf
  | .evqDestroy e => e.wf
  | .evqRearm e => e.wf
  | .qmgCtxSelWrite _ _ => true
  | .dmaChannelCfg e => e.wf
  | .dmaChStart _ _ => true
  | .dmaChAbort _ _ => true
  | .dmaChannelSchedule _ => true
  | .dmaBurstComplete _ _ => true
  | .eventSourceEdge _ => true
  | .evcSrcForce _ _ => true
  | .evcSrcEnable _ _ _ => true
  | .evcPendingClear _ _ _ => true
  | .evcClaimRead _ _ => true
  | .targetIdle _ _ => true
  | .moderationHoldExpiry _ => true
  | .vectorModerationExpiry _ _ => true
  | .idleHintWrite _ _ _ => true
  | .msixUnmask _ _ => true
  | .buoySend _ _ _ _ => true
  | .buoyRecvRead _ _ _ _ => true
  | .buoyWithdraw _ _ _ => true
  | .buoyDbSend _ _ _ _ => true
  | .buoyDbRecvClear _ _ _ _ => true
  | .buoyVectorEnable _ _ _ => true
  | .buoyForceClear _ _ _ => true
  | .insCreate e => e.wf
  | .insDestroy e => e.wf
  | .insReset e => e.wf
  | .insQuery e => e.wf
  | .insSetQuota e => e.wf
  | .insSuspend e => e.wf
  | .insResume e => e.wf
  | .insMgrAdminEnable _ _ => true
  | .insSelWrite _ _ => true
  | .frameReceive _ bytes => frameWf bytes
  | .frameTail _ _ => true
  | .pageFillComplete _ _ => true
  | .parkTimeout _ => true
  | .hostFillRetry _ => true
  | .writeBackComplete _ _ => true
  | .pageEviction => true
  | .pageDemotion => true
  | .pageCopyComplete _ => true
  | .patrolScrubRead _ _ => true
  | .pgrPin e => e.wf
  | .pgrUnpin e => e.wf
  | .pgrPrefetch e => e.wf
  | .memDonate e => e.wf
  | .memRevoke e => e.wf
  | .memPeerWindow e => e.wf
  | .bpmPoolCfg e => e.wf
  | .bpmSetQuota e => e.wf
  | .alloc _ _ => true
  | .share _ _ _ _ => true
  | .release _ _ _ => true
  | .transfer _ _ _ _ => true
  | .free _ _ _ => true
  | .prsGraphWrite e => e.wf
  | .clsRuleWrite e => e.wf
  | .clsRuleDelete e => e.wf
  | .clsHashCfg e => e.wf
  | .clsIndirWrite e => e.wf
  | .clsExcPolicer e => e.wf
  | .excPolicerRefill => true
  | .tblCreate e => e.wf
  | .shadowCopyEnd _ => true
  | .tblDestroy e => e.wf
  | .tblInsert e => e.wf
  | .tblDelete e => e.wf
  | .tblSearch e => e.wf
  | .tblNext e => e.wf
  | .tblFlushPort e => e.wf
  | .tableFlushEnd _ => true
  | .tblShadowSwitch e => e.wf
  | .lpmAdd e => e.wf
  | .lpmDelete e => e.wf
  | .lpmVrfCfg e => e.wf
  | .vrfFlushEnd _ => true
  | .lpmNodeRebuild => true
  | .learnCfg e => e.wf
  | .learnTokenRefill _ => true
  | .ageingScanVisit _ => true
  | .tblSelWrite _ _ => true
  | .swxActionWrite e => e.wf
  | .swxTunnelCfg e => e.wf
  | .swxMirrorCfg e => e.wf
  | .swxPolicerCfg e => e.wf
  | .policerRefill => true
  | .orderedSlotTimeout _ => true
  | .swxCntSelWrite _ _ _ => true
  | .saffronRequest _ => true
  | .derivationComplete _ _ => true
  | .safRootKeyLoad e => e.wf
  | .safAssocCreate e => e.wf
  | .safAssocRekey e => e.wf
  | .safAssocDestroy e => e.wf
  | .safOpkeyEnrol e => e.wf
  | .safOpkeyRevoke e => e.wf
  | .safAssocSelWrite _ _ => true
  | .cloveDispatch _ => true
  | .pktLwbe _ _ => true
  | .pktHead _ _ => true
  | .pktLen _ _ => true
  | .pktEmit _ _ => true
  | .pktDrop _ _ => true
  | .pktNew _ _ => true
  | .tblEm _ _ => true
  | .tblLpm _ _ => true
  | .pgrPage _ _ => true
  | .pgrLw _ _ => true
  | .pgrSw _ _ => true
  | .pgrAmoadd _ _ => true
  | .pgrAmoswap _ _ => true
  | .pgrPref _ _ => true
  | .msgLock _ _ => true
  | .msgUnlock _ _ => true
  | .msgRd _ _ => true
  | .msgWr _ _ => true
  | .clvWait _ _ => true
  | .clvDone _ _ => true
  | .clvWake _ _ => true
  | .bufAlloc _ _ => true
  | .bufShare _ _ => true
  | .bufRelease _ _ => true
  | .bufFree _ _ => true
  | .bufXfer _ _ => true
  | .supNext _ _ => true
  | .supAct _ _ => true
  | .supFrel _ _ => true
  | .supState _ _ => true
  | .baseInstruction _ _ => true
  | .ecall _ _ => true
  | .ebreak _ _ => true
  | .blockedResultReturn _ _ => true
  | .compareReached _ _ => true
  | .wdogExpiry _ => true
  | .supRestart _ _ => true
  | .clvWdogEnable _ _ _ _ => true
  | .clvProgramLoad e => e.wf
  | .clvProgramSwap e => e.wf
  | .swapDrainEnd _ => true
  | .clvProgramUnload e => e.wf
  | .clvClusterMode e => e.wf
  | .clvMsgregRelease e => e.wf
  | .routineStart _ _ => true
  | .workEntryFetch _ words => unitsWf words
  | .connectionTimerExpiry _ => true
  | .portOperationComplete _ _ _ => true
  | .microwordExecute _ _ _ _ => true
  | .trapResume _ _ _ => true
  | .trapAbort _ _ _ => true
  | .driveCommandTimeout _ => true
  | .psqUcodeStage e => e.wf
  | .psqBankSwap e => e.wf
  | .rdmaQpCreate e => e.wf
  | .rdmaQpModify e => e.wf
  | .rdmaQpDestroy e => e.wf
  | .rdmaMrRegister e => e.wf
  | .rdmaMrDeregister e => e.wf
  | .nvmeCtrlConnect e => e.wf
  | .nvmeCtrlDisconnect e => e.wf
  | .nvmeLocalNsAttach e => e.wf
  | .nvmeLocalNsDetach e => e.wf
  | .frsNodeCfg e => e.wf
  | .frsShaperCfg e => e.wf
  | .frsGclWrite e => e.wf
  | .frsGclCommit e => e.wf
  | .frsTelemetryCfg e => e.wf
  | .schedulerChoice _ => true
  | .refillEpoch => true
  | .gateEdge _ => true
  | .gateStaging _ _ => true
  | .gclSwitch _ => true
  | .leafBelowMax _ => true
  | .telemetrySample _ => true
  | .frsNodeSelWrite _ _ => true
  | .portModeSet e => e.wf
  | .portLinkChange _ _ => true
  | .portCfg e => e.wf
  | .portStatsRead e => e.wf
  | .portPfcCfg e => e.wf
  | .pauseRepeat _ _ => true
  | .pauseFrameReceived _ _ _ _ => true
  | .pauseExpiry _ _ => true
  | .mgpFrameReceived frame => frameWf frame
  | .mgpLinkChange _ _ _ => true
  | .mgpCollision frame _ => frameWf frame
  | .backoffExpiry => true
  | .mctpControlMessage _ _ _ => true
  | .spdmMessage _ _ => true
  | .yadopex _ entry _ => unitsWf entry
  | .wake _ => true
  | .recoveryWrite _ _ _ => true
  | .recoveryCommit _ _ => true
  | .timeAdjust e => e.wf
  | .slewEnd => true
  | .timePpsCfg e => e.wf
  | .ppsEdge _ => true
  | .timeInEdge _ => true
  | .ptmExchange _ => true
  | .timeDaymarkAlarm e => e.wf
  | .daymarkAlarmFire => true
  | .daymarkFollowCheck => true
  | .vbatLoss => true
  | .calTableWrite e => e.wf
  | .calTableRead e => e.wf
  | .timSnapCapture _ => true
  | .timSideSelWrite _ _ => true
  | .lanRegionAssign e => e.wf
  | .lanImageLoad e _ => e.wf
  | .initTimeout _ => true
  | .lanRegionQuiesce e => e.wf
  | .lanRegionUnload e => e.wf
  | .quiesceDrained _ _ => true
  | .quiesceTimeout _ _ => true
  | .lanPowerCap e => e.wf
  | .lanAllowanceSet e => e.wf
  | .lanTapCfg e => e.wf
  | .regionReturn _ _ _ _ _ _ => true
  | .tapHoldTimeout _ _ => true
  | .regionMemoryRequest _ _ _ _ _ _ => true
  | .regionRegisterAccess _ _ _ _ _ => true
  | .regionRegisterTimeout _ _ _ _ => true
  | .lxEventEdge _ => true
  | .configScrubPass _ _ _ => true
  | .regionPowerSample _ _ => true
  | .throttleStage2 _ => true
  | .throttleRecovery _ => true
  | .powerTrip _ => true
  | .flitReceive _ words => !words.isEmpty
  | .replayTimeout _ => true
  | .beaconSend => true
  | .beaconReceive _ body => frameWf body
  | .sprJoin e => e.wf
  | .joinWaitEnd => true
  | .sprLeave e => e.wf
  | .sprRouteWrite e => e.wf
  | .sprEpochCommit e => e.wf
  | .previousEpochDiscard => true
  | .sprRemoteGrant e => e.wf
  | .sprChanMapWrite _ _ _ => true
  | .mailboxPacketReceive _ packet => frameWf packet
  | .mailboxResend _ => true
  | .remoteRequestReceive _ packet => frameWf packet
  | .remoteResponseReceive _ packet => frameWf packet
  | .sparRequestTimeout _ => true
  | .framePacketReceive _ packet => frameWf packet
  | .timeExchange _ _ _ _ _ _ => true
  | .leakTick _ => true
  | .retirementStart _ => true
  | .retirementEnd _ => true
  | .rasRetire e => e.wf
  | .rasRestore e => e.wf
  | .selftestEnd _ _ => true
  | .rasThresholdSet e => e.wf
  | .rasFoghornAck e => e.wf
  | .rasLogRead e => e.wf
  | .rasHeartbeatWrite _ => true
  | .rasCntSelWrite _ _ => true
  | .tstPlaceUnderTest e => e.wf
  | .tstRelease e => e.wf
  | .tstPatternCfg e => e.wf
  | .tstLoopbackCfg e => e.wf
  | .tstResultRead e => e.wf
  | .tstLaneCtlEnable _ _ _ => true
  | .tstLaneClear _ _ => true
  | .checkerLock _ => true
  | .checkerLockLoss _ => true
  | .checkerDurationEnd _ => true
  | .bypass => true
  | .idcode => true
  | .samplePreload => true
  | .extest => true
  | .dbgAccess _ _ _ _ => true
  | .keeperDebugHalt _ => true
  | .tstClvHaltWrite _ _ _ _ => true
  | .tstClvRegDataWrite _ _ => true
  | .powerSample _ _ => true
  | .powerLimitClear => true
  | .thermalWarning _ => true
  | .thermalThrottle _ => true
  | .throttleExit _ => true
  | .thermalTrip _ => true
  | .vbatSample _ => true
  | .pwrLimitWrite _ _ => true
  | .pwrThermCfgWrite _ _ => true
  | .sparLinkChange _ _ => true
  | .highBerEvent _ => true
  | .keeperMemoryError _ _ => true
  | .hostLinkError _ => true
  | .smbusBusError => true
  | .lxReadyRise _ => true
  | .ucodeStageEnd _ => true
  | .calTableWriteEnd => true
  | .modeTransitionEnd => true
  | .keeperDebugResume _ => true
  | .activationVerifyFail => true

end Sys2Proof
end

