-- ==== Sys2Proof/Certificates/Slice0/Obligations.lean ====
section
/-! DEFINITION. The statements for the provers. In a clause about an admin command, c is the command as its entry spells it and s the
state in which its own checks run, after the acceptance checks of R114. -/

open Sys2Proof Sys2Proof.Machine

/-- Main supplies that come up, are lost, fault in their sequence or leave tolerance act on PWR, and start or stop the device, as R762 to R764 say. -/
def Obligations.SuppliesAct : Prop :=
  (∀ (strapBoot : BitVec 2) (strapRetainN : Bool) (strapMgpDis : Bool) (s : State), s.rfb F.PWR_STATUS_aux_good = true → s.mainOn = false → s.rfb F.PWR_STATUS_seq_fault = false → s.rfb F.PWR_STATUS_tripped = false → 
      exec (.mainSuppliesGood strapBoot strapRetainN strapMgpDis) s = .next ((({ s with pwr := { s.pwr with mainPg := true } }).setStraps strapBoot.toNat strapRetainN strapMgpDis).mainGood)) ∧
  (∀ (s : State), s.mainOn = true → 
      exec (.mainSuppliesLost) s = .next ((({ s.mainLoss with pwr := { s.mainLoss.pwr with mainPg := false }, boot := { s.mainLoss.boot with thermLow := false } }).setF
        F.PWR_STATUS_seq_fault 0).setF F.PWR_STATUS_tripped 0)) ∧
  (∀ (s : State), s.rfb F.PWR_STATUS_aux_good = true → s.mainOn = false → 
      exec (.sequencingFault) s = .next ((s.setF F.PWR_STATUS_seq_fault 1).raiseEs 504)) ∧
  (∀ (s : State), s.mainOn = true → 
      exec (.railExcursion) s = .next ((s.bump R.PWR_EXCURSIONS).raiseEs 504)) ∧
  (∀ (strapBoot : BitVec 2) (strapRetainN : Bool) (strapMgpDis : Bool) (s : State), s.rfb F.PWR_STATUS_aux_good = false → s.pwr.mainPg = false → 
      ∃ t, exec (.auxSuppliesGood strapBoot strapRetainN strapMgpDis) s = .next t ∧ t.pwr.strapBoot = strapBoot.toNat ∧ t.pwr.strapRetainN = strapRetainN) ∧
  (∀ (s : State), s.rfb F.PWR_STATUS_aux_good = true → 
      ∃ t, exec (.auxSuppliesLost) s = .next t ∧ t.reg R.PWR_STATUS = 0 ∧ t.mgp.waiting = [] ∧ t.boot.wakeArmed = false) ∧
  (∀ (mv : BitVec 12) (s : State), s.rfb F.PWR_STATUS_aux_good = true → 2000 ≤ mv.toNat → 
      exec (.vbatSample mv) s = .next ((s.setReg R.PWR_VBAT mv.toNat).setF F.PWR_STATUS_vbat_low 0)) ∧
  (∀ (mv : BitVec 12) (s : State), s.rfb F.PWR_STATUS_aux_good = true → mv.toNat < 2000 → 
      exec (.vbatSample mv) s = .next (((s.setReg R.PWR_VBAT mv.toNat).setF F.PWR_STATUS_vbat_low 1).raiseEs 509))

/-- With main supplies good a sample of rails or temperatures is taken and acts as R768 and R769 say; the two configuration registers check what is written. -/
def Obligations.PowerActs : Prop :=
  (∀ (rails : Vector (BitVec 12 × BitVec 12) 11) (average : BitVec 16) (s : State), s.mainOn = true → average.toNat ≤ 10 * s.rf F.PWR_LIMIT_limit_w → s.rf F.PWR_LIMIT_limit_w < 512 → 
      ∃ t, exec (.powerSample rails average) s = .next t ∧ t.reg R.PWR_TOTAL = average.toNat ∧ t.pwr = s.pwr ∧ t.out = s.out) ∧
  (∀ (s : State), s.reg R.PWR_TOTAL * 100 < 95 * (10 * s.rf F.PWR_LIMIT_limit_w) → 
      exec (.powerLimitClear) s = .next (({ s with pwr := { s.pwr with limitCause := false } }).leaveThrottle)) ∧
  (∀ (mid : BitVec 13) (value : Word) (s : State), s.gate mid.toNat (R.PWR_LIMIT) false = .open_ → 100 ≤ value.toNat % 512 → value.toNat % 512 ≤ 300 → 
      exec (.pwrLimitWrite mid value) s = .next (s.setF F.PWR_LIMIT_limit_w (value.toNat % 512))) ∧
  (∀ (mid : BitVec 13) (value : Word) (s : State), s.gate mid.toNat (R.PWR_LIMIT) false = .open_ → value.toNat % 512 < 100 ∨ 300 < value.toNat % 512 → 
      exec (.pwrLimitWrite mid value) s = .next (s.setF F.PWR_BLK_STATUS_reason 0x1902)) ∧
  (∀ (temps : Vector (BitVec 16) 16) (s : State), s.mainOn = true → 16 * ((s.readTemps temps.toList).2.rf F.PWR_THERM_CFG_warn_c : Int) ≤ (s.readTemps temps.toList).1 → 
      exec (.thermalWarning temps) s = .next ((s.readTemps temps.toList).2.raiseEs 505)) ∧
  (∀ (temps : Vector (BitVec 16) 16) (s : State), s.mainOn = true → 16 * ((s.readTemps temps.toList).2.rf F.PWR_THERM_CFG_throttle_c : Int) ≤ (s.readTemps temps.toList).1 → 
      exec (.thermalThrottle temps) s = .next (({ (s.readTemps temps.toList).2 with pwr := { (s.readTemps temps.toList).2.pwr with thermalCause := true } }).enterThrottle)) ∧
  (∀ (temps : Vector (BitVec 16) 16) (s : State), s.mainOn = true → (s.readTemps temps.toList).1 < 16 * ((s.readTemps temps.toList).2.rf F.PWR_THERM_CFG_throttle_c : Int) - 80 → 
      exec (.throttleExit temps) s = .next (({ (s.readTemps temps.toList).2 with pwr := { (s.readTemps temps.toList).2.pwr with thermalCause := false } }).leaveThrottle)) ∧
  (∀ (temps : Vector (BitVec 16) 16) (s : State), s.mainOn = true → 16 * 108 ≤ (s.readTemps temps.toList).1 → 
      exec (.thermalTrip temps) s = .next ((({ ((s.readTemps temps.toList).2.bump R.PWR_TRIPS).mainLoss with boot := { ((s.readTemps temps.toList).2.bump R.PWR_TRIPS).mainLoss.boot with thermLow := true } }).setF
        F.PWR_STATUS_tripped 1).raiseEs 507)) ∧
  (∀ (mid : BitVec 13) (value : Word) (s : State), s.gate mid.toNat (R.PWR_THERM_CFG) false = .open_ → s.rfb F.PWR_BLK_CTL_lock = false → 60 ≤ field value.toNat 7 0 → field value.toNat 7 0 < field value.toNat 15 8 → field value.toNat 15 8 ≤ 100 → 
      exec (.pwrThermCfgWrite mid value) s = .next (s.setReg R.PWR_THERM_CFG (value.toNat % 2 ^ 16)))

/-- A transition, DEV_START_SERVICE, a revalidation, a standby pair and an island reset end as R53 to R57 and R78 to R91 say. -/
def Obligations.BootActs : Prop :=
  (∀ (s : State), s.boot.target.isSome = true → 
      exec (.modeTransitionEnd) s = .next (s.transitionDone.kickHost)) ∧
  (Answers .devStartService devStartServiceSpec (fun c s => s.rfb F.GLB_MODE_transition = false ∧ s.boot.activation.running = false ∧ s.mode = 1 ∧ s.boot.booted = true)
      (fun c s => s.modeEvent (.service 0x07)) (fun c s => [])) ∧
  (Answers .devStartService devStartServiceSpec (fun c s => s.rfb F.GLB_MODE_transition = false ∧ s.boot.activation.running = false ∧ s.mode = 5 ∧ s.boot.revalidated = true)
      (fun c s => s.modeEvent (.service 0x07)) (fun c s => [])) ∧
  (∀ (block : Option (Fin 32)) (s : State), s.boot.revalidating = true → s.mode = 5 → s.rfb F.GLB_MODE_transition = false → 
      exec (.revalidationEnd block) s = .next (match block with
      | some b => (({ s with boot := { s.boot with revalidating := false, revalidated := true } }).raiseEs 1).setF F.GLB_MODE_cause (0x40 + b.val)
      | none =>
        if (({ s with boot := { s.boot with revalidating := false, revalidated := true } }).raiseEs 1).rfb F.GLB_RESET_CFG_recovery_auto then
          ((({ s with boot := { s.boot with revalidating := false, revalidated := true } }).raiseEs 1).setF F.GLB_MODE_cause 0x0D).modeEvent (.service 0x0D)
        else (({ s with boot := { s.boot with revalidating := false, revalidated := true } }).raiseEs 1).setF F.GLB_MODE_cause 0x0E)) ∧
  (∀ (s : State), s.mainOn = true → s.boot.booted = true → s.pair (1 - s.activePair) = .booting → s.boot.takeoverWaits = false → 
      exec (.standbyPairReady) s = .next (match s.bootBank with
      | (some b, u) => if (u.setRunning (1 - s.activePair) b).boot.takeoverWaits then ((u.setRunning (1 - s.activePair) b).takeOver).mctpServe
          else (u.setRunning (1 - s.activePair) b).setPair (1 - s.activePair) .ready
      | (none, u) => u)) ∧
  (∀ (mid : BitVec 13) (island : BitVec 6) (s : State), s.gate mid.toNat (R.GLB_ISLAND_RST) false = .open_ → s.rfb F.GLB_ISLAND_RST_busy = false → (s.setF F.GLB_ISLAND_RST_island island.toNat).islandFault island.toNat = none → 
      exec (.islandResetGo mid island) s = .next ((({ (s.setF F.GLB_ISLAND_RST_island island.toNat).islandReset island.toNat with
        boot := { ((s.setF F.GLB_ISLAND_RST_island island.toNat).islandReset island.toNat).boot with islandHeld := some island.toNat } }).setF
        F.GLB_ISLAND_RST_result 0).setF F.GLB_ISLAND_RST_busy 1)) ∧
  (∀ (mid : BitVec 13) (island : BitVec 6) (s : State), s.gate mid.toNat (R.GLB_ISLAND_RST) false = .open_ → s.rfb F.GLB_ISLAND_RST_busy = false → island.toNat = 38 ∨ island.toNat = 42 ∨ 46 ≤ island.toNat → 
      exec (.islandResetGo mid island) s = .next ((s.setF F.GLB_ISLAND_RST_island island.toNat).setF F.GLB_ISLAND_RST_result 4)) ∧
  (∀ (i : Nat) (s : State), s.boot.islandHeld = some i → i < 40 → 
      exec (.islandResetEnd) s = .next ((({ s with boot := { s.boot with islandHeld := none } }).setF F.GLB_ISLAND_RST_busy 0).raiseEs 9))

/-- Each reset of R73 that the state admits completes, and leaves each register domain, the endpoint, the donations and the host-facing state of the instances in its scope as R73, R74 and R340 say: a hot reset, and PERST# with service retention, take every function to D0, clear VF Enable, take the link down, withdraw the donations, reset the host-facing state of every instance, clear the HOST and FUNC registers and the endpoint, and raise ES 68 or 67; PERST# without it clears FUND, HOST, FUNC and ISLAND and enters step 2 of R64, after a transition that runs; an FLR clears its function and the host-facing state of the instances in its scope. An instance that is bound is Resetting after it, with its generation one higher unless the increment waits under R284. -/
def Obligations.ResetActs : Prop :=
  (∀ (s : State), s.boot.perst = false → s.mainOn = true → s.rfb F.GLB_RESET_CFG_service_retention = true → 
      exec (.perstAssert) s = .next (
        let w : State := ({ s with boot := { s.boot with perst := true } } : State)
        let u : State := (w.host.fns.filter fun (e : Nat × FnCfg) => e.2.d3hot).foldl (fun s _ => s.raiseEs 71) w
        let u := if u.host.vfEnable || u.host.numVfs != 0 then u.raiseEs 72 else u
        let u := if u.rfb F.HST_LINK_STATUS_link_up then u.linkChange false 0 0 else u
        let u := (u.withdrawDonations.insts.map (·.1)).foldl (fun s i => s.hostReset i true) u.withdrawDonations
        let u := { u with
          regs := u.regs.filter fun (e : Nat × Dword) =>
          match regDefAt e.1 with
          | some (d, _) => !(d.dom == Domain.host || d.dom == Domain.func)
          | none => true }
        let old := u.host.oldWins.map (·.1)
        let u := { u with host := {
          wins := u.host.wins, slots := u.host.slots, oldWins := u.host.oldWins, perstFree := u.host.perstFree, targets := u.host.targets,
          failed := u.host.failed } }
        ((old.foldl State.winDrained u).undoStale).raiseEs 67)) ∧
  (∀ (s : State), s.boot.perst = false → s.mainOn = true → s.rfb F.GLB_RESET_CFG_service_retention = false → s.rfb F.GLB_MODE_transition = false → 
      exec (.perstAssert) s = .next (
        let u : State := ((({ s with boot := { s.boot with perst := true } }).cutWrites.wipe false).setMode 1 0x05).setF F.GLB_MODE_rom_recovery 0
        (((u.pairsUp).setF F.GLB_BOOT_STATUS_step 1).raiseEs 0).raiseEs 67)) ∧
  (∀ (s : State), s.boot.perst = false → s.mainOn = true → s.rfb F.GLB_RESET_CFG_service_retention = false → s.rfb F.GLB_MODE_transition = true → 
      exec (.perstAssert) s = .next ({ s with boot := { s.boot with perst := true, events := s.boot.events ++ [.perst] } })) ∧
  (∀ (s : State), s.boot.perst = false → s.mainOn = false → 
      exec (.perstAssert) s = .next ({ s with boot := { s.boot with perst := true } })) ∧
  (∀ (s : State), s.boot.perst = true → s.mainOn = true → 
      exec (.perstDeassert) s = .next (({ s with boot := { s.boot with perst := false, wakeAsserted := false } }).raiseEs 67)) ∧
  (∀ (s : State), s.boot.perst = true → s.mainOn = false → 
      exec (.perstDeassert) s = .next ({ s with boot := { s.boot with perst := false } })) ∧
  (∀ (s : State), s.mainOn = true → s.boot.perst = false → s.rfb F.HST_LINK_STATUS_link_up = true → 
      exec (.hotReset) s = .next (
        let w : State := s
        let u : State := (w.host.fns.filter fun (e : Nat × FnCfg) => e.2.d3hot).foldl (fun s _ => s.raiseEs 71) w
        let u := if u.host.vfEnable || u.host.numVfs != 0 then u.raiseEs 72 else u
        let u := if u.rfb F.HST_LINK_STATUS_link_up then u.linkChange false 0 0 else u
        let u := (u.withdrawDonations.insts.map (·.1)).foldl (fun s i => s.hostReset i true) u.withdrawDonations
        let u := { u with
          regs := u.regs.filter fun (e : Nat × Dword) =>
          match regDefAt e.1 with
          | some (d, _) => !(d.dom == Domain.host || d.dom == Domain.func)
          | none => true }
        let old := u.host.oldWins.map (·.1)
        let u := { u with host := {
          wins := u.host.wins, slots := u.host.slots, oldWins := u.host.oldWins, perstFree := u.host.perstFree, targets := u.host.targets,
          failed := u.host.failed } }
        ((old.foldl State.winDrained u).undoStale).raiseEs 68)) ∧
  (∀ (s : State), s.mainOn = true → s.boot.perst = false → s.rfb F.HST_LINK_STATUS_link_up = true → s.host.filled = true → 
      exec (.flrPf0) s = .next (
        let u : State := (s.host.fns.filter fun (e : Nat × FnCfg) => e.2.d3hot).foldl (fun s _ => s.raiseEs 71) s
        let vfs := u.host.vfEnable || u.host.numVfs != 0
        let u := { u with host := { u.host with
          fns := [(0, { flr := true })], numVfs := 0, vfEnable := false, vfMse := false, ariCapable := false, ariSampled := false
          cplTimeout := 0, l1Enabled := false, acs := 0 } }
        let u := u.fillConfig.showVfs
        let u := if vfs then u.raiseEs 72 else u
        let u := (u.withdrawDonations.insts.map (·.1)).foldl (fun s i => s.hostReset i true) u.withdrawDonations
        u.undoStale.raiseEs 69)) ∧
  (∀ (vf : Fin 2048) (s : State), vf.val ≠ 0 → s.mainOn = true → s.boot.perst = false → s.rfb F.HST_LINK_STATUS_link_up = true → s.host.filled = true → s.fnExists vf.val = true → 
      exec (.flrVf vf) s = .next (
        let u : State := if (s.fn vf.val).d3hot then s.raiseEs 71 else s
        ((({ u with host := { u.host with fns := insertKey u.host.fns vf.val { flr := true } } }).hostReset vf.val false).undoStale).raiseEs 70)) ∧
  (∀ (i : Nat) (strong : Bool) (s : State), i ≠ 0 → (s.inst i).state = 2 ∨ (s.inst i).state = 3 →
      s.hostReset i strong =
        (let u := (s.incGen i .plain).2.hostFacing i
        { u with insts := insertKey u.insts i { u.inst i with state := 4, perstHeld := u.boot.perst } }) ∧
      ((s.hostReset i strong).inst i).state = 4) ∧
  (∀ (i : Nat) (s : State) (e : Nat × QCtx), e ∈ (s.abortQueues i).queues → e.2.iid = i →
      e.2.state ≠ 1 ∧ e.2.state ≠ 2 ∧ e.2.state ≠ 4) ∧
  (∀ (s : State) (a i : Nat) (d : RegDef), regDefAt a = some (d, i) → d.dom = .host ∨ d.dom = .func →
      (s.resetRegs fun d _ => d.dom == .host || d.dom == .func).reg a = regReset a)

/-- A legal access of a window reaches its register; BLK_CTL writes, the end of a consistency check and the debug port act as R15 to R19 and R754 say. -/
def Obligations.RegisterActs : Prop :=
  (∀ (acc : Machine.RegAccess) (value : Dword) (s : State), s.masterOpen acc.mid.toNat = true → acc.full = true → acc.window = .control → acc.size = 4 → acc.offset.toNat % 4 = 0 → s.gate acc.mid.toNat acc.offset.toNat false = .open_ → buoyArea acc.offset.toNat = none → lanArea acc.offset.toNat = none → (regDefAt acc.offset.toNat).isSome = true → 
      exec (.registerWrite acc value) s = .next (match regDefAt acc.offset.toNat with
      | some (d, i) => s.mapWrite acc.mid.toNat acc.offset.toNat (value.toNat % 2 ^ 32) d i
      | none => s)) ∧
  (∀ (acc : RegAccess) (value : Dword) (f : Fin 2048) (s : State), s.masterOpen acc.mid.toNat = true → acc.full = true → acc.window = .inst f → acc.mid.toNat = f.val → acc.size = 4 → acc.offset.toNat % 4 = 0 → 
      exec (.registerWrite acc value) s = .next (s.instWrite32 acc.mid.toNat acc.offset.toNat (value.toNat % 2 ^ 32))) ∧
  (∀ (acc : Machine.RegAccess) (s : State), s.masterOpen acc.mid.toNat = true → acc.full = true → acc.window = .control → acc.size = 4 → acc.offset.toNat % 4 = 0 → 
      exec (.rcRegisterRead acc) s = .next ((s.ctlRead32 acc.mid.toNat acc.offset.toNat).2.emit (.readData acc.mid.toNat (s.ctlRead32 acc.mid.toNat acc.offset.toNat).1))) ∧
  (∀ (acc : RegAccess) (f : Fin 2048) (s : State), s.masterOpen acc.mid.toNat = true → acc.full = true → acc.window = .inst f → acc.mid.toNat = f.val → acc.size = 4 → acc.offset.toNat % 4 = 0 → s.notOwned acc.mid.toNat acc.offset.toNat = false → 
      exec (.rcRegisterRead acc) s = .next ((s.instRead32 acc.mid.toNat acc.offset.toNat).2.emit (.readData acc.mid.toNat (s.instRead32 acc.mid.toNat acc.offset.toNat).1))) ∧
  (∀ (mid : BitVec 13) (block : Fin 32) (s : State), s.gate mid.toNat (blkCtl block.val) false = .open_ → s.masterOpen mid.toNat = true → blockKnown block.val = true → s.rfb (blkChecking block.val) = false → 
      exec (.blkCtlEnableWrite mid block) s = .next ((s.setF (blkEnable block.val) 1).setF (blkChecking block.val) 1)) ∧
  (∀ (mid : BitVec 13) (block : Fin 32) (s : State), s.gate mid.toNat (blkCtl block.val) false = .open_ → s.masterOpen mid.toNat = true → blockKnown block.val = true → s.rfb (blkChecking block.val) = false → 
      exec (.blkCtlDisableWrite mid block) s = .next (((s.setF (blkEnable block.val) 0).setF (blkReady block.val) 0).dropBlock block.val)) ∧
  (∀ (mid : BitVec 13) (block : Fin 32) (enable : Bool) (s : State), s.gate mid.toNat (blkCtl block.val) false = .open_ → s.masterOpen mid.toNat = true → blockKnown block.val = true → s.rfb (blkChecking block.val) = false → 
      exec (.blkCtlLockWrite mid block enable) s = .next (if enable then ((s.setF (blkLock block.val) 1).setF (blkEnable block.val) 1).setF (blkChecking block.val) 1
      else (s.setF (blkLock block.val) 1).blkOff block.val)) ∧
  (∀ (block : Fin 32) (s : State), s.rfb (blkChecking block.val) = true → lookup s.cmds.heldCtl block.val = none → 
      exec (.consistencyCheckEnd block) s = .next (({ s with cmds := { s.cmds with heldCtl := eraseKey s.cmds.heldCtl block.val } }).blkVerdict block.val)) ∧
  (∀ (addr : BitVec 40) (size : Nat) (full : Bool) (bs : List Byte) (s : State), s.mainOn = true → inRange addr.toNat 1 0x40000000 (64 * 2 ^ 20) = true → 
      exec (.dbgAccess addr size full (some bs)) s = .next ((s.setF F.TST_DBG_STATUS_selected 1).regWrite
      { mid := 0x1040, window := .control, offset := BitVec.ofNat 26 (addr.toNat - 0x40000000), size := size, full := full } (leNat (slice bs 0 size)))) ∧
  (∀ (addr : BitVec 40) (size : Nat) (full : Bool) (w : Option (List Byte)) (s : State), s.mainOn = true → inRange addr.toNat 1 0x40000000 (64 * 2 ^ 20) = false → (s.setF F.TST_DBG_STATUS_selected 1).dbgLevel = 0 → 
      exec (.dbgAccess addr size full w) s = .next ((s.setF F.TST_DBG_STATUS_selected 1).dbgMemory addr.toNat size w))

/-- An edge, a force, an enable, a clear, a claim, an idle change and a hold expiry act on the pending bits and the lines as R243 to R251 say. -/
def Obligations.EventActs : Prop :=
  (∀ (source : BitVec 9) (s : State), neverRaised source.toNat = false → s.mainOn = true → bitAt (s.reg (R.EVC_PENDING (source.toNat / 32))) (source.toNat % 32) = false → 
      exec (.eventSourceEdge source) s = .next ((s.setReg (R.EVC_PENDING (source.toNat / 32)) (s.reg (R.EVC_PENDING (source.toNat / 32)) + 2 ^ (source.toNat % 32))).settleLines)) ∧
  (∀ (source : BitVec 9) (s : State), neverRaised source.toNat = false → s.mainOn = true → bitAt (s.reg (R.EVC_PENDING (source.toNat / 32))) (source.toNat % 32) = true → 
      exec (.eventSourceEdge source) s = .next (s.bump R.EVC_EDGES_MERGED)) ∧
  (∀ (mid : BitVec 13) (source : BitVec 9) (s : State), s.gate mid.toNat (R.EVC_SRC_CTL source.toNat) false = .open_ → 
      exec (.evcSrcForce mid source) s = .next (s.raiseEs source.toNat)) ∧
  (∀ (mid : BitVec 13) (source : BitVec 9) (on : Bool) (s : State), s.gate mid.toNat (R.EVC_SRC_CTL source.toNat) false = .open_ → on = true → srcFault (s.reg (R.EVC_SRC_MASK source.toNat)) = none → 
      exec (.evcSrcEnable mid source on) s = .next ((s.setF (F.EVC_SRC_CTL_enable source.toNat) 1).settleLines)) ∧
  (∀ (mid : BitVec 13) (source : BitVec 9) (on : Bool) (s : State), s.gate mid.toNat (R.EVC_SRC_CTL source.toNat) false = .open_ → on = false → 
      exec (.evcSrcEnable mid source on) s = .next ((s.setF (F.EVC_SRC_CTL_enable source.toNat) 0).settleLines)) ∧
  (∀ (mid : BitVec 13) (k : Fin 16) (bits : Word) (s : State), s.gate mid.toNat (R.EVC_PENDING k.val) false = .open_ → 
      exec (.evcPendingClear mid k bits) s = .next ((s.setReg (R.EVC_PENDING k.val) (s.reg (R.EVC_PENDING k.val) - (s.reg (R.EVC_PENDING k.val) &&& bits.toNat))).settleLines)) ∧
  (∀ (mid : BitVec 13) (t : Fin 32) (n : Nat) (s : State), s.gate mid.toNat (R.EVC_CLAIM t.val) true = .open_ → t.val < 4 → s.ownsTarget t.val mid.toNat = true → s.claimFor t.val = some n → 
      exec (.evcClaimRead mid t) s = .next ((s.clearPending (n / 32) (2 ^ (n % 32))).emit (.readData mid.toNat n))) ∧
  (∀ (mid : BitVec 13) (t : Fin 32) (s : State), 4 ≤ t.val → s.ownsTarget t.val mid.toNat = true → s.claimFor t.val = none → 
      exec (.evcClaimRead mid t) s = .next ((s.bump R.EVC_SPURIOUS).emit (.readData mid.toNat 0xFFFF))) ∧
  (∀ (t : Fin 4) (idle : Bool) (s : State), 
      exec (.targetIdle t idle) s = .next (({ s with evc := { s.evc with idle := if idle then t.val :: s.evc.idle.filter (· != t.val) else s.evc.idle.filter (· != t.val) } }).settleLines)) ∧
  (∀ (t : Fin 32) (s : State), 
      exec (.moderationHoldExpiry t) s = .next (({ s with evc := { s.evc with hold := s.evc.hold.filter (· != t.val) } }).settleLines))

/-- The moderation timer, the idle hint and an unmask send a held raise or change the vector, as R252 to R255 say. -/
def Obligations.VectorActs : Prop :=
  (∀ (iid : Fin 2048) (v : BitVec 11) (s : State), (s.vec iid.val v.toNat).timer = true → (s.vec iid.val v.toNat).held = true → 
      exec (.vectorModerationExpiry iid v) s = .next ((s.setVec iid.val v.toNat { s.vec iid.val v.toNat with timer := false }).sendVec iid.val v.toNat)) ∧
  (∀ (iid : Fin 2048) (v : BitVec 11) (s : State), (s.vec iid.val v.toNat).timer = true → (s.vec iid.val v.toNat).held = false → 
      exec (.vectorModerationExpiry iid v) s = .next (s.setVec iid.val v.toNat { s.vec iid.val v.toNat with timer := false })) ∧
  (∀ (iid : Fin 2048) (v : BitVec 11) (idle : Bool) (s : State), s.fnOpen iid.val = true → v.toNat < s.vectorQuota iid.val → idle = true → (s.vec iid.val v.toNat).held = true → (s.vec iid.val v.toNat).masked = false → (s.fn iid.val).msixEnable = true → 
      exec (.idleHintWrite iid v idle) s = .next (((s.setVec iid.val v.toNat { s.vec iid.val v.toNat with idle := false }).sendVec iid.val v.toNat).bump R.EVC_BYPASS)) ∧
  (∀ (iid : Fin 2048) (v : BitVec 11) (idle : Bool) (s : State), s.fnOpen iid.val = true → v.toNat < s.vectorQuota iid.val → idle = true → (s.vec iid.val v.toNat).held = true → (s.vec iid.val v.toNat).masked = true ∨ (s.fn iid.val).msixEnable = false → 
      exec (.idleHintWrite iid v idle) s = .next (s.setVec iid.val v.toNat { s.vec iid.val v.toNat with idle := true, held := false, pba := true })) ∧
  (∀ (iid : Fin 2048) (v : BitVec 11) (idle : Bool) (s : State), s.fnOpen iid.val = true → v.toNat < s.vectorQuota iid.val → idle = true → (s.vec iid.val v.toNat).held = false → 
      exec (.idleHintWrite iid v idle) s = .next (s.setVec iid.val v.toNat { s.vec iid.val v.toNat with idle := true })) ∧
  (∀ (iid : Fin 2048) (v : BitVec 11) (idle : Bool) (s : State), s.fnOpen iid.val = true → s.vectorQuota iid.val ≤ v.toNat → 
      exec (.idleHintWrite iid v idle) s = .next (s.bump R.EVC_HINT_BAD)) ∧
  (∀ (iid : Fin 2048) (v : BitVec 11) (s : State), s.fnOpen iid.val = true → (s.vec iid.val v.toNat).pba = false → 
      exec (.msixUnmask iid v) s = .next (s.setVec iid.val v.toNat { s.vec iid.val v.toNat with masked := false })) ∧
  (∀ (iid : Fin 2048) (v : BitVec 11) (s : State), s.fnOpen iid.val = true → (s.vec iid.val v.toNat).pba = true → (s.fn iid.val).msixEnable = true → v.toNat < s.vectorQuota iid.val → 
      exec (.msixUnmask iid v) s = .next ((s.setVec iid.val v.toNat { s.vec iid.val v.toNat with masked := false }).sendVec iid.val v.toNat))

/-- While the block runs, a word sent to a side whose rx_full is 0 arrives there and notifies it, and one sent to a side whose rx_full is 1 is an overrun; a receive read answers the word and, read whole, clears rx_full; a withdrawal takes an unread word back, and is too late otherwise; doorbell bits latch at the other side and notify it where one rises unmasked, and are cleared by their receiver; BUOY_VECTOR takes or refuses a vector; BUOY_FORCE_CLEAR clears both words, flags and doorbells. Nothing else of the channel changes; then Keeper sends an instance the next word that it holds, and the Spar engine looks at an internal channel. -/
def Obligations.BuoyActs : Prop :=
  (∀ (mid : BitVec 13) (n : BitVec 11) (word : Dword) (a : Bool) (s : State), s.masterOpen mid.toNat = true → s.sideOf (.inst n.toNat) mid.toNat = some a → s.blkStopped 0x05 = false → ((s.chan (.inst n.toNat)).side (!a)).rxFull = false → 
      exec (.buoySend mid false n word) s = .next ((s.setChan (.inst n.toNat) ((s.chan (.inst n.toNat)).setSide (!a) { (s.chan (.inst n.toNat)).side (!a) with rx := word.toNat, rxFull := true })).buoyNotify (.inst n.toNat) (!a) word.toNat)) ∧
  (∀ (mid : BitVec 13) (n : BitVec 11) (word : Dword) (a : Bool) (s : State), s.masterOpen mid.toNat = true → s.sideOf (.inst n.toNat) mid.toNat = some a → s.blkStopped 0x05 = false → ((s.chan (.inst n.toNat)).side (!a)).rxFull = true → 
      exec (.buoySend mid false n word) s = .next (((s.setChan (.inst n.toNat) ((s.chan (.inst n.toNat)).setSide a { (s.chan (.inst n.toNat)).side a with overrun := true })).bump R.BUOY_OVERRUNS).raiseEs 498)) ∧
  (∀ (mid : BitVec 13) (n : BitVec 11) (a : Bool) (s : State), s.masterOpen mid.toNat = true → s.sideOf (.inst n.toNat) mid.toNat = some a → a = true → ((s.chan (.inst n.toNat)).side a).rxFull = true → 
      exec (.buoyRecvRead mid false n false) s = .next (((s.setChan (.inst n.toNat) ((s.chan (.inst n.toNat)).setSide a { (s.chan (.inst n.toNat)).side a with rxFull := false })).keeperNext n.toNat).emit (.readData mid.toNat ((s.chan (.inst n.toNat)).side a).rx))) ∧
  (∀ (mid : BitVec 13) (n : BitVec 11) (a : Bool) (s : State), s.masterOpen mid.toNat = true → s.sideOf (.inst n.toNat) mid.toNat = some a → a = false → mid.toNat ≠ 0x1040 → ((s.chan (.inst n.toNat)).side a).rxFull = true → 
      exec (.buoyRecvRead mid false n false) s = .next ((s.keeperRead n.toNat).emit (.readData mid.toNat ((s.chan (.inst n.toNat)).side a).rx))) ∧
  (∀ (mid : BitVec 13) (n : BitVec 11) (a : Bool) (s : State), s.masterOpen mid.toNat = true → s.sideOf (.inst n.toNat) mid.toNat = some a → ((s.chan (.inst n.toNat)).side a).rxFull = true → 
      exec (.buoyRecvRead mid false n true) s = .next (s.emit (.readData mid.toNat (((s.chan (.inst n.toNat)).side a).rx % 2 ^ 32)))) ∧
  (∀ (mid : BitVec 13) (n : BitVec 11) (low : Bool) (a : Bool) (s : State), s.masterOpen mid.toNat = true → s.sideOf (.inst n.toNat) mid.toNat = some a → ((s.chan (.inst n.toNat)).side a).rxFull = false → 
      exec (.buoyRecvRead mid false n low) s = .next (s.emit (.readData mid.toNat 0))) ∧
  (∀ (mid : BitVec 13) (n : BitVec 11) (a : Bool) (s : State), s.masterOpen mid.toNat = true → s.sideOf (.inst n.toNat) mid.toNat = some a → ((s.chan (.inst n.toNat)).side (!a)).rxFull = true → 
      exec (.buoyWithdraw mid false n) s = .next ((s.setChan (.inst n.toNat) ((s.chan (.inst n.toNat)).setSide (!a) { (s.chan (.inst n.toNat)).side (!a) with rx := 0, rxFull := false })).keeperNext n.toNat)) ∧
  (∀ (mid : BitVec 13) (n : BitVec 11) (a : Bool) (s : State), s.masterOpen mid.toNat = true → s.sideOf (.inst n.toNat) mid.toNat = some a → ((s.chan (.inst n.toNat)).side (!a)).rxFull = false → 
      exec (.buoyWithdraw mid false n) s = .next ((s.setChan (.inst n.toNat) ((s.chan (.inst n.toNat)).setSide a { (s.chan (.inst n.toNat)).side a with tooLate := true })).keeperNext n.toNat)) ∧
  (∀ (mid : BitVec 13) (n : BitVec 11) (bits : Word) (a : Bool) (s : State), s.masterOpen mid.toNat = true → s.sideOf (.inst n.toNat) mid.toNat = some a → s.blkStopped 0x05 = false → (bits.toNat - (bits.toNat &&& ((s.chan (.inst n.toNat)).side (!a)).dbRecv)) - ((bits.toNat - (bits.toNat &&& ((s.chan (.inst n.toNat)).side (!a)).dbRecv)) &&& ((s.chan (.inst n.toNat)).side (!a)).dbMask) ≠ 0 → 
      exec (.buoyDbSend mid false n bits) s = .next ((s.setChan (.inst n.toNat) ((s.chan (.inst n.toNat)).setSide (!a) { (s.chan (.inst n.toNat)).side (!a) with dbRecv := ((s.chan (.inst n.toNat)).side (!a)).dbRecv ||| bits.toNat })).buoyNotify (.inst n.toNat) (!a) 0)) ∧
  (∀ (mid : BitVec 13) (n : BitVec 11) (bits : Word) (a : Bool) (s : State), s.masterOpen mid.toNat = true → s.sideOf (.inst n.toNat) mid.toNat = some a → s.blkStopped 0x05 = false → (bits.toNat - (bits.toNat &&& ((s.chan (.inst n.toNat)).side (!a)).dbRecv)) - ((bits.toNat - (bits.toNat &&& ((s.chan (.inst n.toNat)).side (!a)).dbRecv)) &&& ((s.chan (.inst n.toNat)).side (!a)).dbMask) = 0 → 
      exec (.buoyDbSend mid false n bits) s = .next (s.setChan (.inst n.toNat) ((s.chan (.inst n.toNat)).setSide (!a) { (s.chan (.inst n.toNat)).side (!a) with dbRecv := ((s.chan (.inst n.toNat)).side (!a)).dbRecv ||| bits.toNat }))) ∧
  (∀ (mid : BitVec 13) (n : BitVec 11) (bits : Word) (a : Bool) (s : State), s.masterOpen mid.toNat = true → s.sideOf (.inst n.toNat) mid.toNat = some a → 
      exec (.buoyDbRecvClear mid false n bits) s = .next (s.setChan (.inst n.toNat) ((s.chan (.inst n.toNat)).setSide a { (s.chan (.inst n.toNat)).side a with dbRecv := ((s.chan (.inst n.toNat)).side a).dbRecv - (((s.chan (.inst n.toNat)).side a).dbRecv &&& bits.toNat) }))) ∧
  (∀ (mid : BitVec 13) (n : BitVec 11) (word : Dword) (a : Bool) (s : State), s.masterOpen mid.toNat = true → s.sideOf (.int (n.toNat % 64)) mid.toNat = some a → s.blkStopped 0x05 = false → ((s.chan (.int (n.toNat % 64))).side (!a)).rxFull = false → 
      exec (.buoySend mid true n word) s = .next (((s.setChan (.int (n.toNat % 64)) ((s.chan (.int (n.toNat % 64))).setSide (!a) { (s.chan (.int (n.toNat % 64))).side (!a) with rx := word.toNat, rxFull := true })).buoyNotify (.int (n.toNat % 64)) (!a) word.toNat).sparKick (n.toNat % 64))) ∧
  (∀ (mid : BitVec 13) (n : BitVec 11) (word : Dword) (a : Bool) (s : State), s.masterOpen mid.toNat = true → s.sideOf (.int (n.toNat % 64)) mid.toNat = some a → s.blkStopped 0x05 = false → ((s.chan (.int (n.toNat % 64))).side (!a)).rxFull = true → 
      exec (.buoySend mid true n word) s = .next ((((s.setChan (.int (n.toNat % 64)) ((s.chan (.int (n.toNat % 64))).setSide a { (s.chan (.int (n.toNat % 64))).side a with overrun := true })).bump R.BUOY_OVERRUNS).raiseEs 498).sparKick (n.toNat % 64))) ∧
  (∀ (mid : BitVec 13) (n : BitVec 11) (a : Bool) (s : State), s.masterOpen mid.toNat = true → s.sideOf (.int (n.toNat % 64)) mid.toNat = some a → mid.toNat ≠ 0x1040 → ((s.chan (.int (n.toNat % 64))).side a).rxFull = true → 
      exec (.buoyRecvRead mid true n false) s = .next (((s.setChan (.int (n.toNat % 64)) ((s.chan (.int (n.toNat % 64))).setSide a { (s.chan (.int (n.toNat % 64))).side a with rxFull := false })).sparKick (n.toNat % 64)).emit (.readData mid.toNat ((s.chan (.int (n.toNat % 64))).side a).rx))) ∧
  (∀ (mid : BitVec 13) (n : BitVec 11) (a : Bool) (s : State), s.masterOpen mid.toNat = true → s.sideOf (.int (n.toNat % 64)) mid.toNat = some a → ((s.chan (.int (n.toNat % 64))).side a).rxFull = true → 
      exec (.buoyRecvRead mid true n true) s = .next ((s.sparKick (n.toNat % 64)).emit (.readData mid.toNat (((s.chan (.int (n.toNat % 64))).side a).rx % 2 ^ 32)))) ∧
  (∀ (mid : BitVec 13) (n : BitVec 11) (low : Bool) (a : Bool) (s : State), s.masterOpen mid.toNat = true → s.sideOf (.int (n.toNat % 64)) mid.toNat = some a → ((s.chan (.int (n.toNat % 64))).side a).rxFull = false → 
      exec (.buoyRecvRead mid true n low) s = .next ((s.sparKick (n.toNat % 64)).emit (.readData mid.toNat 0))) ∧
  (∀ (mid : BitVec 13) (n : BitVec 11) (a : Bool) (s : State), s.masterOpen mid.toNat = true → s.sideOf (.int (n.toNat % 64)) mid.toNat = some a → ((s.schan (n.toNat % 64)).sent && s.engineSide (n.toNat % 64) == some (!a)) = false → ((s.chan (.int (n.toNat % 64))).side (!a)).rxFull = true → 
      exec (.buoyWithdraw mid true n) s = .next ((s.setChan (.int (n.toNat % 64)) ((s.chan (.int (n.toNat % 64))).setSide (!a) { (s.chan (.int (n.toNat % 64))).side (!a) with rx := 0, rxFull := false })).setSchan (n.toNat % 64) { s.schan (n.toNat % 64) with rejected := false })) ∧
  (∀ (mid : BitVec 13) (n : BitVec 11) (a : Bool) (s : State), s.masterOpen mid.toNat = true → s.sideOf (.int (n.toNat % 64)) mid.toNat = some a → ((s.schan (n.toNat % 64)).sent && s.engineSide (n.toNat % 64) == some (!a)) = false → ((s.chan (.int (n.toNat % 64))).side (!a)).rxFull = false → 
      exec (.buoyWithdraw mid true n) s = .next ((s.setChan (.int (n.toNat % 64)) ((s.chan (.int (n.toNat % 64))).setSide a { (s.chan (.int (n.toNat % 64))).side a with tooLate := true })).setSchan (n.toNat % 64) { s.schan (n.toNat % 64) with rejected := false })) ∧
  (∀ (mid : BitVec 13) (n : BitVec 11) (a : Bool) (s : State), s.masterOpen mid.toNat = true → s.sideOf (.int (n.toNat % 64)) mid.toNat = some a → ((s.schan (n.toNat % 64)).sent && s.engineSide (n.toNat % 64) == some (!a)) = true → 
      exec (.buoyWithdraw mid true n) s = .next (s.setChan (.int (n.toNat % 64)) ((s.chan (.int (n.toNat % 64))).setSide a { (s.chan (.int (n.toNat % 64))).side a with tooLate := true }))) ∧
  (∀ (mid : BitVec 13) (n : BitVec 11) (bits : Word) (a : Bool) (s : State), s.masterOpen mid.toNat = true → s.sideOf (.int (n.toNat % 64)) mid.toNat = some a → s.blkStopped 0x05 = false → (bits.toNat - (bits.toNat &&& ((s.chan (.int (n.toNat % 64))).side (!a)).dbRecv)) - ((bits.toNat - (bits.toNat &&& ((s.chan (.int (n.toNat % 64))).side (!a)).dbRecv)) &&& ((s.chan (.int (n.toNat % 64))).side (!a)).dbMask) ≠ 0 → 
      exec (.buoyDbSend mid true n bits) s = .next (((s.setChan (.int (n.toNat % 64)) ((s.chan (.int (n.toNat % 64))).setSide (!a) { (s.chan (.int (n.toNat % 64))).side (!a) with dbRecv := ((s.chan (.int (n.toNat % 64))).side (!a)).dbRecv ||| bits.toNat })).buoyNotify (.int (n.toNat % 64)) (!a) 0).sparKick (n.toNat % 64))) ∧
  (∀ (mid : BitVec 13) (n : BitVec 11) (bits : Word) (a : Bool) (s : State), s.masterOpen mid.toNat = true → s.sideOf (.int (n.toNat % 64)) mid.toNat = some a → s.blkStopped 0x05 = false → (bits.toNat - (bits.toNat &&& ((s.chan (.int (n.toNat % 64))).side (!a)).dbRecv)) - ((bits.toNat - (bits.toNat &&& ((s.chan (.int (n.toNat % 64))).side (!a)).dbRecv)) &&& ((s.chan (.int (n.toNat % 64))).side (!a)).dbMask) = 0 → 
      exec (.buoyDbSend mid true n bits) s = .next ((s.setChan (.int (n.toNat % 64)) ((s.chan (.int (n.toNat % 64))).setSide (!a) { (s.chan (.int (n.toNat % 64))).side (!a) with dbRecv := ((s.chan (.int (n.toNat % 64))).side (!a)).dbRecv ||| bits.toNat })).sparKick (n.toNat % 64))) ∧
  (∀ (mid : BitVec 13) (n : BitVec 11) (bits : Word) (a : Bool) (s : State), s.masterOpen mid.toNat = true → s.sideOf (.int (n.toNat % 64)) mid.toNat = some a → 
      exec (.buoyDbRecvClear mid true n bits) s = .next (s.setChan (.int (n.toNat % 64)) ((s.chan (.int (n.toNat % 64))).setSide a { (s.chan (.int (n.toNat % 64))).side a with dbRecv := ((s.chan (.int (n.toNat % 64))).side a).dbRecv - (((s.chan (.int (n.toNat % 64))).side a).dbRecv &&& bits.toNat) }))) ∧
  (∀ (iid : Fin 2048) (vector : BitVec 16) (s : State), s.fnOpen iid.val = true → vector.toNat < s.vectorQuota iid.val → s.vectorShort iid.val vector.toNat = false → 
      exec (.buoyVectorEnable iid vector true) s = .next (s.setChan (.inst iid.val) { s.chan (.inst iid.val) with vecEnable := true, vector := vector.toNat })) ∧
  (∀ (iid : Fin 2048) (vector : BitVec 16) (s : State), s.fnOpen iid.val = true → 
      exec (.buoyVectorEnable iid vector false) s = .next (s.setChan (.inst iid.val) { s.chan (.inst iid.val) with vecEnable := false, vector := vector.toNat })) ∧
  (∀ (iid : Fin 2048) (vector : BitVec 16) (s : State), s.fnOpen iid.val = true → s.vectorQuota iid.val ≤ vector.toNat ∨ s.vectorShort iid.val vector.toNat = true → 
      exec (.buoyVectorEnable iid vector true) s = .next (s.setChan (.inst iid.val) { s.chan (.inst iid.val) with vecEnable := false, vector := vector.toNat, reason := 0x0503 })) ∧
  (∀ (mid : BitVec 13) (n : BitVec 11) (s : State), s.gate mid.toNat (R.BUOY_FORCE_CLEAR) false = .open_ → s.activeKeeper mid.toNat = true → 
      exec (.buoyForceClear mid false n) s = .next (((s.setChan (.inst n.toNat) { s.chan (.inst n.toNat) with a := { (s.chan (.inst n.toNat)).a with rx := 0, rxFull := false, dbRecv := 0 }, b := { (s.chan (.inst n.toNat)).b with rx := 0, rxFull := false, dbRecv := 0 } }).keeperNext n.toNat).bump R.BUOY_FORCE_CLEARS)) ∧
  (∀ (mid : BitVec 13) (n : BitVec 11) (s : State), s.gate mid.toNat (R.BUOY_FORCE_CLEAR) false = .open_ → s.activeKeeper mid.toNat = true → (lookup s.spr.chans (n.toNat % 64)).isSome = false → 
      exec (.buoyForceClear mid true n) s = .next ((s.setChan (.int (n.toNat % 64)) { s.chan (.int (n.toNat % 64)) with a := { (s.chan (.int (n.toNat % 64))).a with rx := 0, rxFull := false, dbRecv := 0 }, b := { (s.chan (.int (n.toNat % 64))).b with rx := 0, rxFull := false, dbRecv := 0 } }).bump R.BUOY_FORCE_CLEARS)) ∧
  (∀ (mid : BitVec 13) (n : BitVec 11) (s : State), s.gate mid.toNat (R.BUOY_FORCE_CLEAR) false = .open_ → s.activeKeeper mid.toNat = true → (lookup s.spr.chans (n.toNat % 64)).isSome = true → 
      exec (.buoyForceClear mid true n) s = .next (((s.setChan (.int (n.toNat % 64)) { s.chan (.int (n.toNat % 64)) with a := { (s.chan (.int (n.toNat % 64))).a with rx := 0, rxFull := false, dbRecv := 0 }, b := { (s.chan (.int (n.toNat % 64))).b with rx := 0, rxFull := false, dbRecv := 0 } }).setSchan (n.toNat % 64) { s.schan (n.toNat % 64) with sent := false, rejected := false, owed := none }).bump R.BUOY_FORCE_CLEARS))

/-- DEV_IDENTIFY, DEV_NOP, DEV_CMD_ABORT and DEV_CLAIM_QUERY answer SUCCESS with the words that R103, R122, R123 and R776 give; the query register takes a resource. -/
def Obligations.DeviceCommands : Prop :=
  (Answers .devIdentify devIdentifySpec (fun _ _ => True)
      (fun c s => s) (fun c s => results [0x1600B000, s.boot.fwMajor * 2 ^ 16 + s.boot.fwMinor, (s.inst c.target).gen * 2 ^ 16 + c.target, s.activePair * 2 ^ 16 + s.mode])) ∧
  (Answers .devNop devNopSpec (fun _ _ => True)
      (fun c s => s) (fun c s => [])) ∧
  (Answers .devCmdAbort devCmdAbortSpec (fun c s => c.p 0 < 2 ^ 16 ∧ (((s.pendOf c.issuer).find? (·.cmd.tag = c.p 0)).bind s.aborted).isSome = true)
      (fun c s => match (s.pendOf c.issuer).find? (·.cmd.tag = c.p 0) with
        | some p => ((s.aborted p).getD s).finish p 0x20 0x000C []
        | none => s) (fun c s => [])) ∧
  (Answers .devClaimQuery devClaimQuerySpec (fun c s => claimKnown (c.p 0) = true)
      (fun c s => s) (fun c s => results [lookupD s.cmds.claims (c.p 0) 0])) ∧
  (∀ (mid : BitVec 13) (value : Word) (s : State), s.gate mid.toNat (R.RCL_QUERY_RES) false = .open_ → 
      exec (.rclQueryResWrite mid value) s = .next (s.setReg R.RCL_QUERY_RES value.toNat))

/-- A stage, an activation, their ends and a query act on the banks, the pairs and the boot record as R82 to R95 say; whether a signature checks is a value of Config that is left open (log entry 4). -/
def Obligations.ImageActs : Prop :=
  (Pends .devImageStage devImageStageSpec (fun c s => c.checkOnly = false ∧ c.reserved [(0, 0)] = none ∧ c.p 1 % 64 = 0 ∧ 0 < c.p 3 ∧ c.p 3 ≤ 33554432 ∧ s.firstRefused [(fwLock, holderWord 0x00 0x01 c.mid)] = none)
      (fun c s => let u := (s.takeClaims [(fwLock, holderWord 0x00 0x01 c.mid)]).readImage c none
      (u.setBank u.idleBank { u.bank u.idleBank with staged := false }).markMram (bankAt u.idleBank) true)) ∧
  (∀ (p : PendCmd) (s : State), s.findPend (·.cmd.opcode = 0x0020) = some p → 
      exec (.imageStageEnd) s = .next (let img := slice p.cmd.data 0 (p.cmd.p 3)
        let u := (s.putMram (bankAt s.idleBank) img).dropClaim fwLock
        match u.imageFault 1 img (fun _ => none) 7 with
        | some (st, r, ws) => ((u.setBank s.idleBank { verified := decide (r = 0x0008), staged := false, bodyCrc := imgBodyCrc img }).finish p st r ws)
        | none => ((u.setBank s.idleBank { verified := true, staged := true, bodyCrc := imgBodyCrc img }).finish p 0 0
            (results [field (imgWord img 1) 15 0 * 2 ^ 16 + field (imgWord img 4) 31 16, (imgBodyCrc img).toNat])))) ∧
  (Pends .devImageActivate devImageActivateSpec (fun c s => c.reserved [(0, 1)] = none ∧ (s.bank s.idleBank).staged = true ∧ s.pair (1 - s.activePair) = .ready ∧ s.isOut (pairRes (1 - s.activePair)) = false ∧
        s.rfb F.GLB_MODE_transition = false ∧ s.firstRefused [(fwLock, holderWord 0x00 0x02 c.mid)] = none)
      (fun c s => let u := s.takeClaims [(fwLock, holderWord 0x00 0x02 c.mid)]
      ({ u with boot := { u.boot with activation := { running := true, commitSvn := bitAt (c.p 0) 0 } } }).setPair (1 - s.activePair) .activating)) ∧
  (∀ (pauseUs : Fin 50001) (s : State), s.activating = true → 
      exec (.handoverRequest ⟨pauseUs, false⟩) s = .next (match s.stagedFault with
      | some _ => s
      | none =>
        let b := s.idleBank
        let svn := field (Mem.word s.mem.mram (bankAt b + 4)) 15 0
        let v := { s.setRunning (1 - s.activePair) b with boot := { (s.setRunning (1 - s.activePair) b).boot with activation := {} } }
        let v := v.setBank b { v.bank b with verified := true, staged := false }
        let v := ((v.handOver).writeBoot fun w => putField w 0 0 b).setF F.GLB_BOOT_STATUS_active_bank b
        let v := if s.boot.activation.commitSvn then { v with boot := { v.boot with fuses := insertKey v.boot.fuses 1 (max svn (lookupD v.boot.fuses 1 0)) } } else v
        ((v.dropClaim fwLock).finishOp 0x0021 0 0 (results [1 - s.activePair, pauseUs.val])).rebootPair s.activePair)) ∧
  (∀ (pauseUs : Fin 50001) (s : State), s.activating = true → 
      exec (.handoverRequest ⟨pauseUs, true⟩) s = .next (match s.stagedFault with
      | some _ => s
      | none => s.pairFaultBy s.activePair [] fun s => s.faultHanded pauseUs.val)) ∧
  (∀ (s : State), s.boot.activation.running = true → s.boot.activation.faulted = false → s.boot.fatalWaits = false → 
      exec (.activationTimeout) s = .next (s.endActivation 0x20 0x0009)) ∧
  (∀ (f : Nat × Nat × List Word) (s : State), s.activating = true → s.stagedFault = some f → 
      exec (.activationVerifyFail) s = .next ((s.setBank s.idleBank { verified := decide (f.2.1 = 0x0008), staged := false, bodyCrc := imgBodyCrc (s.imageAt (bankAt s.idleBank) 0x2000000) }).endActivation f.1 f.2.1 f.2.2)) ∧
  (Answers .devImageQuery devImageQuerySpec (fun c s => c.reserved [(0, 0x311)] = none ∧ bitAt (c.p 0) 4 = false)
      (fun c s => s) (fun c s => let b := c.p 0 % 2
      s.imageWords (bankAt b) 1 (s.bank b).verified (s.bank b).staged (decide (s.bootInForce.1 % 2 = b)) (decide (s.rf F.GLB_BOOT_STATUS_running_bank = b))
        (s.bank b).bodyCrc.toNat)) ∧
  (∀ (src : BitVec 8) (length : Word) (s : State), s.mctpHost = .loader → 1216 ≤ length.toNat → length.toNat ≤ 33554432 → 
      exec (.recoveryCommit src length) s = .next (let img := Mem.bytes s.mem.cache 0 length.toNat
        let u := { s with mem := { s.mem with cache := [] } }
        let slot := field (imgWord img 1) 23 16
        if imgHeaderBad 1 img then u.vendorAnswer src.toNat 4 3 0x06 []
        else if length.toNat != 64 + imgWord img 2 + 1088 then s.vendorAnswer src.toNat 4 2 0 []
        else if !slotServes 1 slot || !u.signed slot (slice img 0 (64 + imgWord img 2)) (slice img (64 + imgWord img 2) 1088) then u.vendorAnswer src.toNat 4 3 0x1A []
        else if field (imgWord img 1) 15 0 < lookupD s.boot.fuses 1 0 then u.vendorAnswer src.toNat 4 3 0x07 []
        else
          ((((u.putMram (bankAt 0) img).writeBoot fun w => putField w 0 0 0).setBank 0 { verified := true, bodyCrc := imgBodyCrc img }).vendorAnswer
            src.toNat 4 0 0 []).bootStart 0x04)) ∧
  (∀ (slot : Fin 4) (p : PendCmd) (s : State), s.findPend (fun p => p.cmd.opcode = 0x0030 && p.cmd.p 0 % 4 = slot.val) = some p → 
      exec (.snapshotSaveEnd slot) s = .next (let body := (Config.freeBytes (p.note.getD 0 0)).take snapMax
        let seq := nextSeq (((List.range 4).filter s.snapValid).map fun j => wd (s.snapHeader j) 2)
        let w := sealHeader (results [0x4B5A534E, b2n (bitAt (p.cmd.p 0) 8) * 256 + slot.val, seq, s.boot.fwMajor * 2 ^ 16 + s.boot.fwMinor,
          timeSec s.now % 2 ^ 32, timeSec s.now / 2 ^ 32, body.length, (crc32c body).toNat] ++ List.replicate 7 0#32)
        let u := { (s.putMram (snapAt slot.val + 64) body).putMram (snapAt slot.val) (wordsBytes w) with
          snaps := insertKey s.snaps slot.val (s.capture (crc32c body)) }
        let u := if bitAt (p.cmd.p 0) 8 then ((List.range 4).filter (· != slot.val)).foldl State.clearApply u else u
        (u.finish p 0 0 (results [seq])).raiseEs 8)) ∧
  (∀ (s : State) (e : AdminEntry), s.accepts devSnapshotSaveSpec e = true → (s.heard devSnapshotSaveSpec e).reserved [(0, 0x103)] = none →
      exec (.devSnapshotSave e) s = .next ((({ s.taken devSnapshotSaveSpec e with fresh := (s.taken devSnapshotSaveSpec e).fresh + 1 }).markMram
        (snapAt ((s.heard devSnapshotSaveSpec e).p 0 % 4)) true).replyPending (s.heard devSnapshotSaveSpec e)
        [⟨.snapshot, (s.heard devSnapshotSaveSpec e).p 0 % 4⟩] [(s.taken devSnapshotSaveSpec e).fresh])) ∧
  (Answers .devSnapshotQuery devSnapshotQuerySpec (fun c s => c.reserved [(0, 3)] = none ∧ s.snapValid (c.p 0 % 4) = false)
      (fun c s => s) (fun c s => results [c.p 0 % 4, 0, 0, 0, 0, 0])) ∧
  (Answers .devSnapshotErase devSnapshotEraseSpec (fun c s => c.reserved [(0, 3)] = none)
      (fun c s => { (s.putMram (snapAt (c.p 0 % 4)) (List.replicate 64 0#8)).raiseEs 8 with snaps := eraseKey s.snaps (c.p 0 % 4) }) (fun c s => []))

/-- Link changes, configuration requests, VF and power state writes, completions, timeouts and quarantine act as R67, R136 to R156 and R277 say. -/
def Obligations.HostEventActs : Prop :=
  (∀ (up : Bool) (rate : BitVec 4) (width : BitVec 5) (s : State), s.mainOn = true → s.boot.perst = false → up = true → linkShape rate.toNat width.toNat = true → s.reg R.HST_LINK_STATUS ≠ width.toNat * 2 ^ 22 + width.toNat * 2 ^ 17 + b2n (decide (6 ≤ rate.toNat)) * 2 ^ 16 + 16 + rate.toNat → 
      exec (.upstreamLinkChange up rate width) s = .next (((s.setReg R.HST_LINK_STATUS (width.toNat * 2 ^ 22 + width.toNat * 2 ^ 17 + b2n (decide (6 ≤ rate.toNat)) * 2 ^ 16 + 16 + rate.toNat)).raiseEs 64).kickHost)) ∧
  (∀ (up : Bool) (rate : BitVec 4) (width : BitVec 5) (s : State), s.mainOn = true → up = false → s.reg R.HST_LINK_STATUS ≠ 0 → 
      exec (.upstreamLinkChange up rate width) s = .next (((s.setReg R.HST_LINK_STATUS 0).raiseEs 64).kickHost)) ∧
  (∀ (fn : Fin 2048) (access : Machine.CfgAccess) (s : State), s.mainOn = true → s.boot.perst = false → s.rfb F.HST_LINK_STATUS_link_up = true → s.host.filled = true → s.fnExists fn.val = true → (s.fn fn.val).flr = false → 
      exec (.configRequest fn access) s = .next ((s.cfgWrite fn.val access).emit (.configAnswer fn.val (some (match access with
        | .read item => (s.cfgWrite fn.val access).cfgRead fn.val item
        | _ => 0))))) ∧
  (∀ (fn : Fin 2048) (access : Machine.CfgAccess) (s : State), s.mainOn = true → s.boot.perst = false → s.rfb F.HST_LINK_STATUS_link_up = true → s.host.filled = true → (s.fn fn.val).flr = true → 
      exec (.configRequest fn access) s = .next (s.emit (.configAnswer fn.val none))) ∧
  (∀ (s : State), s.cfgOpen 0 = true → s.host.vfEnable = false → 
      exec (.vfEnableSet) s = .next (({ s with host := { s.host with vfEnable := true, ariSampled := s.host.ariCapable } }).vfsChanged)) ∧
  (∀ (s : State), s.cfgOpen 0 = true → s.host.vfEnable = true → 
      exec (.vfEnableClear) s = .next (({ s with host := { s.host with vfEnable := false } }).vfsChanged)) ∧
  (∀ (value : BitVec 16) (s : State), s.cfgOpen 0 = true → s.host.numVfs = value.toNat → 
      exec (.numvfsWrite value) s = .next (s)) ∧
  (∀ (value : BitVec 16) (s : State), s.cfgOpen 0 = true → s.host.numVfs ≠ value.toNat → 
      exec (.numvfsWrite value) s = .next (({ s with host := { s.host with numVfs := value.toNat } }).vfsChanged)) ∧
  (∀ (fn : Fin 2048) (d3hot : Bool) (s : State), s.cfgOpen fn.val = true → (s.fn fn.val).d3hot = !d3hot → 
      exec (.powerstateWrite fn d3hot) s = .next (let u := (s.setFn fn.val { s.fn fn.val with d3hot := d3hot }).raiseEs 71
        (u.powerScope fn.val).foldl (fun u i => if d3hot then u.stopQueues i else u.resumeServing i) u)) ∧
  (∀ (s : State), s.mainOn = true → s.boot.perst = false → s.rfb F.HST_LINK_STATUS_link_up = true → 
      exec (.pmeTurnOff) s = .next (({ s with boot := { s.boot with wakeArmed := (s.fn 0).pmeEn } }).emit .pmeToAck)) ∧
  (∀ (tag : BitVec 14) (status : Machine.CplStatus) (data : List Byte) (r : TagReq) (s : State), lookup s.host.tags tag.toNat = some r → r.quarantined = false → status = .poisoned → 
      exec (.hostReadCompletion tag status data) s = .next ((((s.aer r.iid .poisoned).releaseTag tag.toNat).readFailed r).kickHost)) ∧
  (∀ (tag : BitVec 14) (status : Machine.CplStatus) (data : List Byte) (r : TagReq) (s : State), lookup s.host.tags tag.toNat = some r → r.quarantined = false → status = .good → s.current r = true → r.unit.queue = none → 
      exec (.hostReadCompletion tag status data) s = .next (((s.releaseTag tag.toNat).readData r data).kickHost)) ∧
  (∀ (tag : BitVec 14) (status : Machine.CplStatus) (data : List Byte) (r : TagReq) (s : State), lookup s.host.tags tag.toNat = some r → r.quarantined = false → status = .good → s.current r = false → 
      exec (.hostReadCompletion tag status data) s = .next (((s.releaseTag tag.toNat).staleRead r).kickHost)) ∧
  (∀ (tag : BitVec 14) (r : TagReq) (s : State), lookup s.host.tags tag.toNat = some r → r.quarantined = false → 
      exec (.completionTimeout tag) s = .next (let u := ((s.aer r.iid .completionTimeout).bump R.HST_CPL_TIMEOUTS).raiseEs 74
        ({ u with host := { u.host with tags := insertKey u.host.tags tag.toNat { r with quarantined := true } } }).readFailed r)) ∧
  (∀ (tag : BitVec 14) (r : TagReq) (s : State), lookup s.host.tags tag.toNat = some r → r.quarantined = true → 
      exec (.lateCompletion tag) s = .next (((((s.bump R.HST_LATE_CPL).aer r.iid .unexpectedCompletion).raiseEs 75).releaseTag tag.toNat).kickHost)) ∧
  (∀ (tag : BitVec 14) (r : TagReq) (s : State), lookup s.host.tags tag.toNat = some r → r.quarantined = true → 
      exec (.tagQuarantineExpiry tag) s = .next ((s.releaseTag tag.toNat).kickHost))

/-- A peer request, a window commit and drain, L0p, L1 and their configuration registers act as R150 and R158 to R168 say. -/
def Obligations.HostWindowActs : Prop :=
  (∀ (rid : BitVec 16) (offset : BitVec 38) (bytes : BitVec 13) (ecc : EccResult) (s : State), s.loaderUr 0 = false → s.fnOpen 0 = true → s.host.bar4Absent = false → offset.toNat + bytes.toNat ≤ s.host.bar4GiB * 2 ^ 30 → s.peerAddr offset.toNat bytes.toNat rid.toNat false = none → 
      exec (.peerWindowRequest rid offset bytes (.read ecc) false) s = .next ((s.bump R.HST_PEER_MISS).urRead 0)) ∧
  (∀ (rid : BitVec 16) (offset : BitVec 38) (bytes : BitVec 13) (a : Nat) (ecc : EccResult) (s : State), s.loaderUr 0 = false → s.fnOpen 0 = true → s.host.bar4Absent = false → offset.toNat + bytes.toNat ≤ s.host.bar4GiB * 2 ^ 30 → s.peerAddr offset.toNat bytes.toNat rid.toNat false = some a → 
      exec (.peerWindowRequest rid offset bytes (.read ecc) false) s = .next (if ecc = .uncorrectable false then (s.eccRead a ecc).emit (.peerAbort a)
        else (s.eccRead a ecc).emit (.peerData a (Mem.bytes (s.eccRead a ecc).mem.ddr a bytes.toNat)))) ∧
  (∀ (mid : BitVec 13) (window : Fin 64) (value : Word) (s : State), s.gate mid.toNat (R.HST_PEER_WIN_CTL window.val) false = .open_ → bitAt value.toNat 31 = true → 
      exec (.peerWinCommit mid window value) s = .next ((s.setReg (R.HST_PEER_WIN_CTL window.val) (putField (s.reg (R.HST_PEER_WIN_CTL window.val)) 2 0 value.toNat)).winCommit window.val)) ∧
  (∀ (window : Fin 64) (s : State), s.rfb (F.HST_PEER_WIN_CTL_commit window.val) = true → 
      exec (.peerWinDrained window) s = .next (let u := (({ s with host := { s.host with oldWins := eraseKey s.host.oldWins window.val } }).setF (F.HST_PEER_WIN_CTL_commit window.val) 0).raiseEs 76
        match u.findPend fun p => p.cmd.opcode = 0x0302 && p.cmd.p 0 % 4 = 2 && field (p.cmd.p 0) 21 16 = window.val with
        | some p => if p.note = [1] then u.winNext window.val p else u.finish p 0 0 []
        | none => u)) ∧
  (∀ (s : State), s.l0pOn = true → 1 ≤ s.rf F.HST_LINK_STATUS_tx_width / 2 → s.l0pMin ≤ s.rf F.HST_LINK_STATUS_tx_width / 2 → 
      exec (.l0pNarrow) s = .next ((s.setF F.HST_LINK_STATUS_tx_width (s.rf F.HST_LINK_STATUS_tx_width / 2)).bump R.HST_L0P_CHANGES)) ∧
  (∀ (s : State), s.l0pOn = true → s.rf F.HST_LINK_STATUS_tx_width < s.rf F.HST_LINK_STATUS_neg_width → 
      exec (.l0pWiden) s = .next ((s.setF F.HST_LINK_STATUS_tx_width (s.rf F.HST_LINK_STATUS_neg_width)).bump R.HST_L0P_CHANGES)) ∧
  (∀ (s : State), s.l1Open = true → 
      exec (.l1Request) s = .next (((s.bump R.HST_L1_ENTRIES).emit (.l1Request 60)))) ∧
  (∀ (mid : BitVec 13) (value : Word) (s : State), s.gate mid.toNat (R.HST_PM_CFG) false = .open_ → l0pGood value.toNat = true → 
      exec (.hstPmCfgEnable mid value) s = .next (s.setReg R.HST_PM_CFG value.toNat)) ∧
  (∀ (mid : BitVec 13) (value : Word) (s : State), s.gate mid.toNat (R.HST_PM_CFG) false = .open_ → bitAt value.toNat 31 = true → l0pGood value.toNat = false → 
      exec (.hstPmCfgEnable mid value) s = .next ((s.setReg R.HST_PM_CFG (value.toNat % 2 ^ 31)).setF F.HST_BLK_STATUS_reason 0x0105)) ∧
  (∀ (mid : BitVec 13) (value : Word) (s : State), s.gate mid.toNat (R.HST_CPL_TIMEOUT) false = .open_ → bitAt value.toNat 31 = true → 50 ≤ field value.toNat 25 0 → field value.toNat 25 0 ≤ 64000000 → 
      exec (.hstCplTimeoutOverride mid value) s = .next (s.setReg R.HST_CPL_TIMEOUT (2 ^ 31 + field value.toNat 25 0))) ∧
  (∀ (mid : BitVec 13) (value : Word) (s : State), s.gate mid.toNat (R.HST_CPL_TIMEOUT) false = .open_ → bitAt value.toNat 31 = true → field value.toNat 25 0 < 50 → 
      exec (.hstCplTimeoutOverride mid value) s = .next ((s.setReg R.HST_CPL_TIMEOUT (field value.toNat 25 0)).setF F.HST_BLK_STATUS_reason 0x0106))

/-- A slot moves along the states of R171 with presence, power, link, button, removal and containment, and its registers follow. -/
def Obligations.SlotActs : Prop :=
  (∀ (port : Fin 4) (present : Bool) (s : State), s.mainOn = true → present = true → s.rfb (F.DNP_SLOT_STATUS_presence port.val) = false → s.slot port.val = .empty → s.rfb (F.DNP_SLOT_CTL_presence_int_en port.val) = false → ((s.setF (F.DNP_SLOT_STATUS_presence port.val) 1).setF (F.DNP_SLOT_STATUS_presence_changed port.val) 1).rfb (F.DNP_SLOT_CTL_presence_int_en port.val) = false → 
      exec (.slotPresenceChange port present) s = .next (((s.setF (F.DNP_SLOT_STATUS_presence port.val) 1).setF (F.DNP_SLOT_STATUS_presence_changed port.val) 1).setSlot port.val .off)) ∧
  (∀ (mid : BitVec 13) (port : Fin 4) (value : Word) (r : Nat) (s : State), s.gate mid.toNat (R.DNP_SLOT_CTL port.val) false = .open_ → bitAt value.toNat 6 = true → (s.setReg (R.DNP_SLOT_CTL port.val) ((value.toNat &&& 0x78F) + (s.reg (R.DNP_SLOT_CTL port.val) &&& 0x40))).powerOnFault port.val = some r → 
      exec (.slotPowerOn mid port value) s = .next (((s.setReg (R.DNP_SLOT_CTL port.val) ((value.toNat &&& 0x78F) + (s.reg (R.DNP_SLOT_CTL port.val) &&& 0x40))).setF (F.DNP_SLOT_CTL_power_on port.val) 0).setF
        (F.DNP_SLOT_STATUS_reason port.val) r)) ∧
  (∀ (mid : BitVec 13) (port : Fin 4) (value : Word) (s : State), s.gate mid.toNat (R.DNP_SLOT_CTL port.val) false = .open_ → bitAt value.toNat 6 = true → (s.setReg (R.DNP_SLOT_CTL port.val) ((value.toNat &&& 0x78F) + (s.reg (R.DNP_SLOT_CTL port.val) &&& 0x40))).powerOnFault port.val = none → 
      exec (.slotPowerOn mid port value) s = .next (let u := (s.setReg (R.DNP_SLOT_CTL port.val) ((value.toNat &&& 0x78F) + (s.reg (R.DNP_SLOT_CTL port.val) &&& 0x40))).setF (F.DNP_SLOT_CTL_power_on port.val) 1
        if s.slot port.val == .off && !s.isOut (0x800 + port.val) then (u.slotPowerOn port.val).setSlot port.val .powering else u)) ∧
  (∀ (port : Fin 4) (s : State), s.portOn port.val = true → s.slot port.val = .powering → 
      exec (.slotPowerGood port) s = .next (let u := (s.setF (F.DNP_SLOT_STATUS_power_good port.val) 1).setSlot port.val .training
        if u.rfb (F.DNP_DPC_STATUS_triggered port.val) then u else u.slotPerst port.val false)) ∧
  (∀ (port : Fin 4) (s : State), s.mainOn = true → s.slot port.val = .powering → 
      exec (.slotPowerGoodTimeout port) s = .next (((s.latchPower port.val).slotOff port.val 0 0b01).setSlot port.val .off)) ∧
  (∀ (port : Fin 4) (rate : BitVec 4) (width : BitVec 5) (s : State), s.portOn port.val = true → s.slot port.val = .training → s.host.perstFree.contains port.val = true → 1 ≤ rate.toNat → rate.toNat ≤ 5 → width.toNat = 1 ∨ width.toNat = 2 ∨ width.toNat = 4 → 
      exec (.slotLinkActive port rate width) s = .next ((((((((s.setF (F.DNP_LINK_STATUS_rate port.val) rate.toNat).setF (F.DNP_LINK_STATUS_width port.val) width.toNat).slotLink port.val true).setF (F.DNP_SLOT_CTL_pwr_ind port.val) 0b01).setSlot port.val .up).setTarget port.val true).emit (.driveConfig port.val)))) ∧
  (∀ (port : Fin 4) (s : State), s.mainOn = true → s.slot port.val = .training → 
      exec (.slotTrainingTimeout port) s = .next ((s.slotOff port.val 0 0b10).setSlot port.val .off)) ∧
  (∀ (port : Fin 4) (s : State), s.mainOn = true → 
      exec (.attentionButton port) s = .next (let u := s.setF (F.DNP_SLOT_STATUS_button_pressed port.val) 1
        let u := if u.rfb (F.DNP_SLOT_CTL_button_int_en port.val) then u.raiseEs (81 + 4 * port.val) else u
        match u.slot port.val with
        | .up => (u.setF (F.DNP_SLOT_CTL_pwr_ind port.val) 0b10).setSlot port.val .removal
        | .removal => (u.setF (F.DNP_SLOT_CTL_pwr_ind port.val) 0b01).setSlot port.val .up
        | _ => u)) ∧
  (∀ (port : Fin 4) (s : State), s.mainOn = true → s.slot port.val = .removal → 
      exec (.removalTimeout port) s = .next (s.setSlot port.val .draining)) ∧
  (∀ (port : Fin 4) (s : State), s.mainOn = true → s.slot port.val = .draining → 
      exec (.removalDrainEnd port) s = .next ((((s.failHeld port.val).slotLink port.val false).slotOff port.val 0b11 0b11).setSlot port.val .off)) ∧
  (∀ (port : Fin 4) (s : State), s.mainOn = true → 
      exec (.slotPowerFault port) s = .next ((s.latchPower port.val).contain port.val 4 0)) ∧
  (∀ (port : Fin 4) (severity : Fin 3) (source : BitVec 16) (s : State), s.mainOn = true → severity.val = 0 → 
      exec (.dpcErrMessage port severity source) s = .next ((s.bump (R.DNP_AER_CORR port.val)).fault 0x10 (0x800 + port.val) 0 [source.toNat])) ∧
  (∀ (port : Fin 4) (severity : Fin 3) (source : BitVec 16) (s : State), s.mainOn = true → severity.val = 2 → s.rfb (F.DNP_DPC_CTL_enable port.val) = true → 
      exec (.dpcErrMessage port severity source) s = .next (s.contain port.val 2 source.toNat)) ∧
  (∀ (port : Fin 4) (s : State), s.mainOn = true → (s.slot port.val).live = true → 
      exec (.surpriseDown port) s = .next (s.contain port.val 3 0)) ∧
  (∀ (mid : BitVec 13) (port : Fin 4) (value : Word) (s : State), s.gate mid.toNat (R.DNP_DPC_CTL port.val) false = .open_ → bitAt value.toNat 2 = true → bitAt value.toNat 0 = true → 
      exec (.dpcSwTrigger mid port value) s = .next ((s.setReg (R.DNP_DPC_CTL port.val) (value.toNat % 4)).contain port.val 5 0)) ∧
  (∀ (mid : BitVec 13) (port : Fin 4) (value : Word) (s : State), s.gate mid.toNat (R.DNP_DPC_STATUS port.val) false = .open_ → bitAt value.toNat 31 = true → 
      exec (.dpcRelease mid port value) s = .next (let u := (s.setF (F.DNP_DPC_STATUS_triggered port.val) 0).setF (F.DNP_SLOT_STATUS_dpc_triggered port.val) 0
        if s.slot port.val == .contained then u.setSlot port.val (if u.rfb (F.DNP_SLOT_STATUS_presence port.val) then .off else .empty) else u)) ∧
  (∀ (port : Fin 4) (addr : BitVec 40) (bytes : BitVec 13) (ecc : EccResult) (s : State), s.mainOn = true → (s.slot port.val).live = true → 
      exec (.driveRequest port addr bytes (.read ecc)) s = .next (if Config.driveWindow port.val addr.toNat bytes.toNat && decide (addr.toNat + bytes.toNat ≤ 248 * 2 ^ 30) && !s.tableMeets addr.toNat bytes.toNat then
          (if ecc = .uncorrectable false then (s.eccRead addr.toNat ecc).emit (.peerAbort addr.toNat)
          else (s.eccRead addr.toNat ecc).emit (.peerData addr.toNat (Mem.bytes (s.eccRead addr.toNat ecc).mem.ddr addr.toNat bytes.toNat)))
        else (s.bump (R.DNP_UPSTREAM_BAD port.val)).emit (.driveUr port.val)))

/-- A doorbell acts on the queue that its local number names; a context fill makes it hot; a receive entry, a transmit entry, a pad and a coalescing timer act as R188, R192, R194, R204 and R208 say. -/
def Obligations.DoorbellActs : Prop :=
  (∀ (iid : Fin 2048) (loc : BitVec 16) (value : Word) (q : Nat) (s : State), s.fnOpen iid.val = true → iid.val = 0 ∨ loc.toNat < 6144 → s.findQ iid.val loc.toNat = some q → (s.q q).type ≤ 4 → 
      exec (.doorbellWrite iid loc value) s = .next ((s.doorbell q value.toNat false).ensureFetch q)) ∧
  (∀ (iid : Fin 2048) (loc : BitVec 16) (value : Word) (s : State), s.fnOpen iid.val = true → iid.val = 0 ∨ loc.toNat < 6144 → s.findQ iid.val loc.toNat = none → s.ownsLoc iid.val loc.toNat = false → 
      exec (.doorbellWrite iid loc value) s = .next ((s.bump R.HST_DB_BAD).urPosted iid.val)) ∧
  (∀ (iid : Fin 2048) (loc : BitVec 16) (value : Word) (s : State), s.fnOpen iid.val = true → iid.val = 0 ∨ loc.toNat < 6144 → s.findQ iid.val loc.toNat = none → s.ownsLoc iid.val loc.toNat = true → 
      exec (.doorbellWrite iid loc value) s = .next (s.bump R.QMG_DB_DISCARDED)) ∧
  (∀ (iid : Fin 2048) (loc : BitVec 16) (value : Word) (arm : Bool) (q : Nat) (s : State), s.fnOpen iid.val = true → iid.val = 0 ∨ loc.toNat < 6144 → s.findQ iid.val loc.toNat = some q → 5 ≤ (s.q q).type → 
      exec (.evqDoorbellWrite iid loc value arm) s = .next ((s.doorbell q value.toNat arm).ensureFetch q)) ∧
  (∀ (qid : BitVec 16) (ok : Bool) (s : State), (s.q qid.toNat).hot = false → (s.q qid.toNat).state ≠ 0 → s.mainOn = true → ok = true → 
      exec (.contextFillComplete qid ok) s = .next ((((s.makeHotRoom.setQ qid.toNat { s.makeHotRoom.q qid.toNat with hot := true }).bump R.QMG_CTX_FILLS).replayDoorbells qid.toNat).ensureFetch qid.toNat)) ∧
  (∀ (qid : BitVec 16) (ok : Bool) (s : State), (s.q qid.toNat).hot = false → (s.q qid.toNat).state ≠ 0 → s.mainOn = true → ok = false → 
      exec (.contextFillComplete qid ok) s = .next (s.raiseEs 228)) ∧
  (∀ (qid : BitVec 16) (words : List Word) (s : State), s.mayFetch qid.toNat 2 = true → wd words 0 % 2 ^ 16 = 0x1100 → (s.q qid.toNat).lengthBad (wd words 1 % 2 ^ 16) 0 = false → 1 ≤ wd words 1 % 2 ^ 16 → wd words 2 % 2 ^ 17 = 0 → 
      exec (.rxBuffer qid words) s = .next (s.endEntry qid.toNat (wd words 1 % 2 ^ 16) words 0x11 0)) ∧
  (∀ (qid : BitVec 16) (words : List Word) (s : State), s.mayFetch qid.toNat 2 = true → wd words 0 % 2 ^ 16 = 0x1100 → (s.q qid.toNat).lengthBad (wd words 1 % 2 ^ 16) 0 = false → 1 ≤ wd words 2 % 2 ^ 17 → wd words 2 % 2 ^ 17 ≤ 65536 → reservedWord words ([(0, 0x800FFFFF), (2, 0x1FFFF), (4, 0xFFFFFFF8)] ++ (List.range 10).map fun k => (6 + k, 0)) = none → (s.q qid.toNat).state = 1 → 
      exec (.rxBuffer qid words) s = .next (let q := qid.toNat
        let b : RxBuf := {
            index := (s.q q).fi, w0 := wd words 0, units := wd words 1 % 2 ^ 16, tag := field (wd words 1) 31 16, addr := dwd words 4,
            bytes := wd words 2 % 2 ^ 17, notify := bitAt (wd words 0) 17 }
        let u := s.takeUnits q (wd words 1 % 2 ^ 16) (wd words 0) (field (wd words 1) 31 16) (bitAt (wd words 0) 17 || (s.q q).notifyAll)
        let u := u.setQ q { u.q q with rxBufs := (u.q q).rxBufs ++ [b] }
        (u.rxDrain q ((u.q q).rxWait.length + 1)).fetched q)) ∧
  (∀ (qid : BitVec 16) (words : List Word) (bytes : List Byte) (s : State), s.openTag.isSome = true → s.mayFetch qid.toNat 3 = true → wd words 0 % 2 ^ 16 = 0x1000 → (s.q qid.toNat).lengthBad (wd words 1 % 2 ^ 16) 0 = false → (8 + 4 * field (wd words 2) 23 16 + 15) / 16 ≤ wd words 1 % 2 ^ 16 → field (wd words 2) 23 16 ≠ 0 → 14 ≤ wd words 2 % 2 ^ 16 → (segBytes words).contains 0 = false → (segBytes words).foldl (· + ·) 0 = wd words 2 % 2 ^ 16 → txFault words = none → bitAt (wd words 0) 18 = false → bitAt (wd words 0) 19 = false → 
      exec (.txFrame qid words (.data bytes)) s = .next (let q := qid.toNat
        let c := s.q q
        let len := wd words 1 % 2 ^ 16
        let w0 := wd words 0
        let tag := field (wd words 1) 31 16
        match (s.readSegs q words).allocBuf c.iid (wd words 2 % 2 ^ 16) with
        | (none, u) => u.endEntry q len words 0x0102 0x0900
        | (some ptr, u) =>
          let u := (u.storeBuf ptr (slice bytes 0 (wd words 2 % 2 ^ 16))).takeUnits q len w0 tag (bitAt w0 17 || c.notifyAll)
          let tx : TxRef := { q := q, gen := c.qgen, iid := c.iid, igen := (u.inst c.iid).gen, index := c.fi, units := len, w0 := w0, tag := tag, notify := bitAt w0 17, tsReq := bitAt w0 16 }
          let tags : List Tag := if bitAt (wd words 4) 0 then [{ isS := false, tci := field (wd words 4) 31 16 }] else []
          let p : Pkt := { ptr := ptr, data := slice bytes 0 (wd words 2 % 2 ^ 16), tags := tags, source := 12, ts := u.now, tsUncertain := u.timeUncertain, inst := c.iid }
          (match u.hostTap q with
            | some r => u.hostTapFrame r q p tx
            | none => u.egress { p with tx := some tx }).fetched q)) ∧
  (∀ (qid : BitVec 16) (words : List Word) (payload : SegRead) (s : State), s.openTag.isSome = true → s.mayFetch qid.toNat 3 = true → wd words 0 % 2 ^ 16 = 0x1000 → (s.q qid.toNat).lengthBad (wd words 1 % 2 ^ 16) 0 = false → (8 + 4 * field (wd words 2) 23 16 + 15) / 16 ≤ wd words 1 % 2 ^ 16 → field (wd words 2) 23 16 ≠ 0 → 14 ≤ wd words 2 % 2 ^ 16 → (segBytes words).contains 0 = false → (segBytes words).foldl (· + ·) 0 = wd words 2 % 2 ^ 16 → txFault words = none → payload = .poisoned ∨ payload = .ecrc ∨ payload = .refused ∨ payload = .timedOut → 
      exec (.txFrame qid words payload) s = .next (((s.readSegs qid.toNat words).segFailed qid.toNat payload).endEntry qid.toNat (wd words 1 % 2 ^ 16) words 0x100 0)) ∧
  (∀ (qid : BitVec 16) (words : List Word) (s : State), wd words 0 % 2 ^ 16 = 0xFFFF → s.mayFetch qid.toNat 2 = true ∨ s.mayFetch qid.toNat 3 = true → 
      exec (.padEntry qid words) s = .next ((s.padEntry qid.toNat (wd words 1 % 2 ^ 16) (field (wd words 1) 31 16) (wd words 0)).fetched qid.toNat)) ∧
  (∀ (qid : BitVec 16) (e : Nat) (s : State), s.evqOf qid.toNat = some e → 0 < (s.q qid.toNat).accCount → (s.q e).coalTime ≠ 0 → 
      exec (.coalesceTimerExpiry qid) s = .next (s.postNotify qid.toNat)) ∧
  (∀ (mid : BitVec 13) (qid : BitVec 16) (s : State), s.gate mid.toNat (R.QMG_CTX_SEL) false = .open_ → 
      exec (.qmgCtxSelWrite mid qid) s = .next ((List.range 16).foldl (fun u k => u.setReg (R.QMG_CTX_WORD k) (wd (ctxWords (s.q qid.toNat)) k)) (s.setF F.QMG_CTX_SEL_qid qid.toNat)))

/-- Creation, destruction, change, query and rearming of queues answer SUCCESS, or PENDING while a queue drains, with the effect that R212 and R216 to R225 give. -/
def Obligations.QueueCommands : Prop :=
  (Runs .queueCreate queueCreateSpec (fun c s => c.reserved [(0, 0xFFFFFFFF), (4, 0x10D), (7, 0xFFFF), (8, 0xFFFFF800), (9, 0), (10, 0), (11, 0)] = none ∧ field (c.p 0) 31 24 = 2 ∧ c.p 0 % 2 ^ 16 ≠ 0 ∧
        (c.target = 0 ∨ (c.p 0 % 2 ^ 16 < 6144 ∧ c.p 0 % 2 ^ 16 < quotaMax (s.inst c.target).quota 1)) ∧ s.wrongState c.target true = false ∧ 6 ≤ field (c.p 0) 23 16 ∧ field (c.p 0) 23 16 ≤ 16 ∧
        (c.p 1 + c.p 2 * 2 ^ 32) % 4096 = 0 ∧ bitAt (c.p 4) 2 = false ∧ s.findQ c.target (c.p 0 % 2 ^ 16) = none ∧ c.p 3 = 0xFFFFFFFF ∧ s.poolAllows c.target 1 1 = none)
      (fun c s => match s.freeQid with
      | (none, u) => u.reply c c.units 0x14 0 []
      | (some q, u) =>
        (u.makeHotRoom.setQ q { startedQ ({
            type := 2, sizeLog2 := field (c.p 0) 23 16, loc := c.p 0 % 2 ^ 16, base := c.p 1 + c.p 2 * 2 ^ 32, evq := 0xFFFF, vector := 0xFFFF,
            pasid := field (c.p 8) 31 12, pasidEn := bitAt (c.p 8) 11, notifyAll := bitAt (c.p 4) 8, rxScatter := bitAt (c.p 4) 3,
            ciWbEn := false, wakeOnRx := bitAt (c.p 4) 0, ciWb := c.p 5 + c.p 6 * 2 ^ 32, coalCount := 0 } : QCtx) with
          iid := c.target, qgen := nextQgen (u.makeHotRoom.q q).qgen, instGen := (s.inst c.target).gen }).reply c c.units 0 0
          (results [q, (if c.target = 0 then 0x10000 else 0x4000) + c.p 0 % 2 ^ 16 * 8]))) ∧
  (Runs .evqCreate evqCreateSpec (fun c s => c.reserved [(0, 0xFFFFFF), (3, 0xFFFF), (4, 4), (8, 0xFFFFF800)] = none ∧ c.p 0 % 2 ^ 16 ≠ 0 ∧ (c.target = 0 ∨ (c.p 0 % 2 ^ 16 < 6144 ∧ c.p 0 % 2 ^ 16 < quotaMax (s.inst c.target).quota 1)) ∧
        s.wrongState c.target true = false ∧ 6 ≤ field (c.p 0) 23 16 ∧ field (c.p 0) 23 16 ≤ 16 ∧ (c.p 1 + c.p 2 * 2 ^ 32) % 4096 = 0 ∧
        bitAt (c.p 4) 2 = false ∧ s.findQ c.target (c.p 0 % 2 ^ 16) = none ∧ c.p 3 < s.vectorQuota c.target ∧ s.vectorShort c.target (c.p 3) = false ∧ s.poolAllows c.target 1 1 = none)
      (fun c s => match s.freeQid with
      | (none, u) => u.reply c c.units 0x14 0 []
      | (some q, u) =>
        (u.makeHotRoom.setQ q { startedQ ({
            type := 6, sizeLog2 := field (c.p 0) 23 16, loc := c.p 0 % 2 ^ 16, base := c.p 1 + c.p 2 * 2 ^ 32, vector := c.p 3,
            pasid := field (c.p 8) 31 12, pasidEn := bitAt (c.p 8) 11, ciWbEn := false, ciWb := c.p 5 + c.p 6 * 2 ^ 32,
            coalTime := field (c.p 7) 31 16, coalCount := c.p 7 % 2 ^ 16 } : QCtx) with
          iid := c.target, qgen := nextQgen (u.makeHotRoom.q q).qgen, instGen := (s.inst c.target).gen }).reply c c.units 0 0
          (results [q, (if c.target = 0 then 0x10000 else 0x4000) + c.p 0 % 2 ^ 16 * 8]))) ∧
  (Runs .queueDestroy queueDestroySpec (fun c s => c.reserved [(0, 0x1FFFF)] = none ∧ s.wrongState c.target false = false ∧ (s.findQ c.target (c.p 0 % 2 ^ 16)).isSome = true ∧ (s.q ((s.findQ c.target (c.p 0 % 2 ^ 16)).getD 0)).type ≠ 1 ∧ (s.q ((s.findQ c.target (c.p 0 % 2 ^ 16)).getD 0)).type ≠ 6 ∧ (s.q ((s.findQ c.target (c.p 0 % 2 ^ 16)).getD 0)).state = 1 ∧ bitAt (c.p 0) 16 = false)
      (fun c s => ((s.setQ ((s.findQ c.target (c.p 0 % 2 ^ 16)).getD 0) { s.q ((s.findQ c.target (c.p 0 % 2 ^ 16)).getD 0) with state := 2 }).abortBuffers ((s.findQ c.target (c.p 0 % 2 ^ 16)).getD 0)).replyPending c [⟨.queue, c.target * 2 ^ 16 + c.p 0 % 2 ^ 16⟩] [((s.findQ c.target (c.p 0 % 2 ^ 16)).getD 0), (s.q ((s.findQ c.target (c.p 0 % 2 ^ 16)).getD 0)).pi])) ∧
  (∀ (qid : BitVec 16) (s : State), (s.q qid.toNat).state = 2 → (s.q qid.toNat).ci = (s.q qid.toNat).pi → (s.q qid.toNat).taken = [] → (s.q qid.toNat).ready = [] → 
      exec (.queueDrainEnd qid) s = .next (let u := s.freeQueue qid.toNat false
        match u.findPend (fun p => p.cmd.opcode = 0x0201 && p.note.head? == some qid.toNat) with
        | some p => u.finish p 0 0 (results [(s.q qid.toNat).ci, p.note.getD 1 0])
        | none => u)) ∧
  (Answers .evqDestroy evqDestroySpec (fun c s => c.reserved [(0, 0xFFFF)] = none ∧ s.wrongState c.target false = false ∧ (s.findQ c.target (c.p 0)).isSome = true ∧ (s.q ((s.findQ c.target (c.p 0)).getD 0)).type = 6 ∧ (s.queues.any fun e => e.2.iid = c.target && e.2.state != 0 && e.2.type != 6 && e.2.evq = c.p 0) = false)
      (fun c s => s.freeQueue ((s.findQ c.target (c.p 0)).getD 0) false) (fun c s => [])) ∧
  (Answers .queueModify queueModifySpec (fun c s => c.reserved [(0, 0x3FFFFFFF)] = none ∧ field (c.p 0) 31 24 = 0x10 ∧ c.p 0 % 2 ^ 16 ≠ 0 ∧ s.wrongState c.target false = false ∧ (s.findQ c.target (c.p 0 % 2 ^ 16)).isSome = true ∧ (s.q ((s.findQ c.target (c.p 0 % 2 ^ 16)).getD 0)).type = 6)
      (fun c s => s.setQ ((s.findQ c.target (c.p 0 % 2 ^ 16)).getD 0) { s.q ((s.findQ c.target (c.p 0 % 2 ^ 16)).getD 0) with coalTime := field (c.p 7) 31 16, coalCount := c.p 7 % 2 ^ 16 }) (fun c s => [])) ∧
  (Answers .queueQuery queueQuerySpec (fun c s => c.reserved [(0, 0xFFFF)] = none ∧ s.wrongState c.target false = false ∧ (s.findQ c.target (c.p 0)).isSome = true)
      (fun c s => s) (fun c s => ctxWords (s.q ((s.findQ c.target (c.p 0)).getD 0)))) ∧
  (Runs .evqRearm evqRearmSpec (fun c s => c.reserved [(0, 0xFFFF)] = none ∧ s.wrongState c.target false = false ∧ (s.findQ c.target (c.p 0)).isSome = true ∧ ((s.q ((s.findQ c.target (c.p 0)).getD 0)).type = 6 ∨ (s.q ((s.findQ c.target (c.p 0)).getD 0)).type = 5) ∧ (s.q ((s.findQ c.target (c.p 0)).getD 0)).ci = (s.q ((s.findQ c.target (c.p 0)).getD 0)).pi)
      (fun c s => let u := s.setQ ((s.findQ c.target (c.p 0)).getD 0) { s.q ((s.findQ c.target (c.p 0)).getD 0) with overflow := false, armed := false, drops := 0 }
      let bound := (u.queues.filter fun y => y.2.iid = c.target && y.2.state != 0 && y.2.type != 6 && (s.q ((s.findQ c.target (c.p 0)).getD 0)).type = 6 && y.2.evq = c.p 0).map (·.1)
      let r := bound.foldl (fun r q => State.catchUp r.2 ((s.findQ c.target (c.p 0)).getD 0) r q) (0, u)
      r.2.reply c c.units 0 0 (results [(s.q ((s.findQ c.target (c.p 0)).getD 0)).drops, r.1])))

/-- Ownership, a start, an abort, the schedule of an engine and its bursts act on a channel as R229 to R236 say. -/
def Obligations.DmaActs : Prop :=
  (∀ (mid : BitVec 13) (n : BitVec 7) (s : State), s.islandDown 39 = true → 
      exec (.dmaChStart mid n) s = .next (s.crossingFailed (R.DMA_CH_CTL n.toNat + 0) 39 false)) ∧
  (Answers .dmaChannelCfg dmaChannelCfgSpec (fun c s => c.reserved [(0, 0x8000007F), (1, 0x71FFF)] = none ∧ bitAt (c.p 0) 31 = false ∧ midAssigned (c.p 1 % 2 ^ 13) = true)
      (fun c s => s.setReg (R.DMA_CH_OWNER (c.p 0 % 128)) (2 ^ 31 + c.p 1)) (fun c s => [])) ∧
  (Answers .dmaChannelCfg dmaChannelCfgSpec (fun c s => c.reserved [(0, 0x8000007F), (1, 0x71FFF)] = none ∧ bitAt (c.p 0) 31 = true ∧ s.rfb (F.DMA_CH_STATUS_running (c.p 0 % 128)) = false)
      (fun c s => s.dmaRelease (c.p 0 % 128)) (fun c s => [])) ∧
  (∀ (mid : BitVec 13) (n : BitVec 7) (s : State), s.islandDown 39 = false → 0x1000 ≤ mid.toNat → mid.toNat ≤ 0x1003 → s.rfb (F.DMA_CH_OWNER_valid n.toNat) = true → s.rfb (F.DMA_CH_CTL_start n.toNat) = false → s.startFault n.toNat = none → 
      exec (.dmaChStart mid n) s = .next ((s.setF (F.DMA_CH_CTL_start n.toNat) 1).setF (F.DMA_CH_STATUS_queued n.toNat) 1)) ∧
  (∀ (mid : BitVec 13) (n : BitVec 7) (s : State), s.islandDown 39 = false → 0x1000 ≤ mid.toNat → mid.toNat ≤ 0x1003 → s.rfb (F.DMA_CH_OWNER_valid n.toNat) = false → 
      exec (.dmaChStart mid n) s = .next ((s.setF (F.DMA_CH_STATUS_reason n.toNat) 0x0305).setF (F.DMA_CH_CTL_start n.toNat) 0)) ∧
  (∀ (mid : BitVec 13) (n : BitVec 7) (s : State), s.islandDown 39 = false → s.rfb (F.DMA_CH_OWNER_valid n.toNat) = true → s.rf (F.DMA_CH_OWNER_mid n.toNat) = mid.toNat → 
      exec (.dmaChAbort mid n) s = .next (s.dmaAbort n.toNat)) ∧
  (∀ (engine : Fin 16) (n : Nat) (s : State), lookup s.dma.running engine.val = none → s.dmaNext engine.val = some n → 
      exec (.dmaChannelSchedule engine) s = .next (let u := { s with dma := { s.dma with running := insertKey s.dma.running engine.val n, lastServed := insertKey s.dma.lastServed engine.val (n % 8) } }
        let u := (u.setF (F.DMA_CH_STATUS_queued n) 0).setF (F.DMA_CH_STATUS_running n) 1
        (u.setRun n {
            src := u.reg64 (R.DMA_CH_SRC_LO n) (R.DMA_CH_SRC_HI n), dst := u.reg64 (R.DMA_CH_DST_LO n) (R.DMA_CH_DST_HI n),
            left := u.reg (R.DMA_CH_COUNT n), next := u.reg64 (R.DMA_CH_CHAIN_LO n) (R.DMA_CH_CHAIN_HI n),
            load := s.rfb (F.DMA_CH_CTL_chain_en n), gen := (u.inst (u.rf (F.DMA_CH_HOST_iid n))).gen }).dmaAsk n)) ∧
  (∀ (engine : Fin 16) (host : Option (List Byte)) (n : Nat) (s : State), lookup s.dma.running engine.val = some n → s.dmaWaits n = false → (host.isNone && s.dmaPages n) = false → 
      exec (.dmaBurstComplete engine host) s = .next (s.dmaBurst n host))

/-- Creation, removal, reset, quota, query, suspension and resumption of an instance, its generation, and the manager's admin ring act as R275 to R309 say. -/
def Obligations.InstanceActs : Prop :=
  (Runs .insCreate insCreateSpec (fun c s => c.reserved [(14, 0xFF0000), (15, 0xFFFFF800)] = none ∧ quotaRange (c.params.take 12) = none ∧ (s.inst c.target).state = 0 ∧ quotaOrder (c.params.take 12) = false ∧
        6 ≤ field (c.p 14) 23 16 ∧ field (c.p 14) 23 16 ≤ 16 ∧ c.p 12 % 4096 = 0 ∧ s.poolShort c.target (c.params.take 12) true = none)
      (fun c s => match s.makeInst c.target ({ s.inst c.target with quota := c.params.take 12 }.withRing c) with
      | (true, ws, u) => u.reply c c.units 0 0 ws
      | (false, _, u) => u.replyPending c [⟨.inst, c.target⟩])) ∧
  (∀ (s : State) (e : AdminEntry), s.accepts insDestroySpec e = true → (s.heard insDestroySpec e).target ≠ 0 →
      ((s.taken insDestroySpec e).inst (s.heard insDestroySpec e).target).state ≠ 0 ∧ ((s.taken insDestroySpec e).inst (s.heard insDestroySpec e).target).state ≠ 5 →
      exec (.insDestroy e) s = .next (
        let i := (s.heard insDestroySpec e).target
        let t := s.taken insDestroySpec e
        let u := (((t.setInst i { t.inst i with state := 5 }).incGen i .destroy).2).replyPending (s.heard insDestroySpec e) [⟨.inst, i⟩]
        match u.findPend (fun p => p.cmd.opcode = 0x0101 && !s.cmds.pend.contains p) with
        | none => u
        | some p =>
          let v := u.hostFacing p.cmd.target
          (if (v.inst p.cmd.target).waits.contains .destroy then v else v.destroyRest p.cmd.target).undoStale)) ∧
  (∀ (s : State) (e : AdminEntry), s.accepts insResetSpec e = true →
      bitAt ((s.heard insResetSpec e).p 0) 0 = false → (s.heard insResetSpec e).reserved [(0, 1)] = none → (s.heard insResetSpec e).target ≠ 0 →
      ((s.taken insResetSpec e).inst (s.heard insResetSpec e).target).state = 2 →
      exec (.insReset e) s = .next (((s.taken insResetSpec e).hostReset (s.heard insResetSpec e).target false).replyPending (s.heard insResetSpec e)
        [⟨.inst, (s.heard insResetSpec e).target⟩]).undoStale) ∧
  (Answers .insSetQuota insSetQuotaSpec (fun c s => c.target ≠ 0 ∧ quotaRange (c.params.take 12) = none ∧ (s.inst c.target).state ≠ 0 ∧ (s.inst c.target).state ≠ 5 ∧ s.quotaBelowUse c.target (c.params.take 12) = false ∧
        quotaOrder (c.params.take 12) = false ∧ quotaMin (c.params.take 12) 7 = (s.rangeOf c.target).2 ∧ s.poolShort c.target (c.params.take 12) false = none)
      (fun c s => (s.setInst c.target { s.inst c.target with quota := c.params.take 12 }).keeperSend c.target 0x03 0) (fun c s => [])) ∧
  (Answers .insQuery insQuerySpec (fun _ _ => True)
      (fun c s => s) (fun c s => s.instRecord c.target)) ∧
  (∀ (s : State) (e : AdminEntry), s.accepts insSuspendSpec e = true → (s.heard insSuspendSpec e).target ≠ 0 →
      ((s.taken insSuspendSpec e).inst (s.heard insSuspendSpec e).target).state = 2 →
      exec (.insSuspend e) s = .next (
        let i := (s.heard insSuspendSpec e).target
        let t := s.taken insSuspendSpec e
        let u := ((t.setInst i { t.inst i with state := 3 }).stopQueues i).replyPending (s.heard insSuspendSpec e) [⟨.inst, i⟩]
        match u.findPend (fun p => p.cmd.opcode = 0x0105 && !s.cmds.pend.contains p) with
        | some p => u.finish p 0 0 []
        | none => u)) ∧
  (Answers .insResume insResumeSpec (fun c s => c.target ≠ 0 ∧ (s.inst c.target).state = 3)
      (fun c s => (s.setInst c.target { s.inst c.target with state := 2 }).resumeServing c.target) (fun c s => [])) ∧
  (∀ (iid : Fin 2048) (s : State), 
      exec (.hostFacingResetEnd iid) s = .next (s.hostResetEnd iid.val)) ∧
  (∀ (iid : Fin 2048) (s : State), (s.inst iid.val).waits = [] → 
      exec (.generationIncrementDue iid) s = .next (s.setInst iid.val { s.inst iid.val with recent := false })) ∧
  (∀ (iid : Fin 2048) (t : List IncWait) (s : State), (s.inst iid.val).waits = .plain :: t → 
      exec (.generationIncrementDue iid) s = .next (((s.setInst iid.val { s.inst iid.val with waits := t }).bumpGen iid.val).undoStale)) ∧
  (∀ (mid : BitVec 13) (value : Word) (s : State), s.gate mid.toNat (R.INS_MGR_ADMIN_CFG) false = .open_ → bitAt value.toNat 31 = false → 
      exec (.insMgrAdminEnable mid value) s = .next ((s.setF F.INS_MGR_ADMIN_CFG_ring_size_log2 (field value.toNat 23 16)).setF F.INS_MGR_ADMIN_CFG_enable 0)) ∧
  (∀ (mid : BitVec 13) (value : Word) (s : State), s.gate mid.toNat (R.INS_MGR_ADMIN_CFG) false = .open_ → bitAt value.toNat 31 = true → s.rfb F.INS_MGR_ADMIN_CFG_active = false → 6 ≤ field value.toNat 23 16 → field value.toNat 23 16 ≤ 16 → 
      exec (.insMgrAdminEnable mid value) s = .next (let u := s.setF F.INS_MGR_ADMIN_CFG_ring_size_log2 (field value.toNat 23 16)
        let u := u.setInst 0 { u.inst 0 with adminBase := s.reg R.INS_MGR_ADMIN_BASE_LO + s.reg R.INS_MGR_ADMIN_BASE_HI * 2 ^ 32, adminLog2 := field value.toNat 23 16, adminPasid := 0, aborted := false }
        let u := match u.adminQ 0 with
          | some q => (u.setInst 0 { u.inst 0 with adminQid := q }).startAdmin 0
          | none => u.createAdmin 0
        ((u.setF F.INS_MGR_ADMIN_CFG_enable 1).setF F.INS_MGR_ADMIN_CFG_active 1).setF F.INS_MGR_ADMIN_CFG_reason 0)) ∧
  (∀ (mid : BitVec 13) (iid : Fin 2048) (s : State), s.gate mid.toNat (R.INS_SEL) false = .open_ → 
      exec (.insSelWrite mid iid) s = .next ((List.range 28).foldl (fun u k => u.setReg (R.INS_REC_WORD k) (wd (s.instRecord iid.val) k)) ((s.setF F.INS_SEL_iid iid.val).setF F.INS_SEL_busy 0)))

/-- The entry at the front of an admin ring is handled by the command that its opcode names, and the block goes on whatever it holds; DEV_NOP answers SUCCESS, an opcode that the catalogue lacks BAD_OPCODE with one unit taken, and a pad completes at the end of the ring. -/
def Obligations.AdminFetch : Prop :=
  (∀ (s : State) (e : AdminEntry) (f : AdminMeaning), wd e.words 0 % 2 ^ 16 ≠ 0xFFFF → commandOf (wd e.words 0 % 2 ^ 16) = some f →
      ∃ t, exec (.adminCommandFetch e) s = .next t ∧ f e s = .next t) ∧
  (∀ (s : State) (e : AdminEntry), s.accepts devNopSpec e = true →
      exec (.adminCommandFetch e) s = .next ((s.taken devNopSpec e).reply (s.heard devNopSpec e) (s.heard devNopSpec e).units 0 0 [])) ∧
  (∀ (s : State) (e : AdminEntry), s.eligible e = true → commandOf (wd e.words 0 % 2 ^ 16) = none → catRow (wd e.words 0 % 2 ^ 16) = none →
      wd e.words 0 % 2 ^ 16 ≠ 0xFFFF → 1 ≤ field (wd e.words 1) 15 0 → field (wd e.words 1) 15 0 ≤ 64 → field (wd e.words 1) 15 0 ≤ (s.entrySpan e).2 →
      exec (.adminCommandFetch e) s = .next (((s.bump R.GLB_CMD_FETCHED).takeEntry (cmdOf s e (wd e.words 0 % 2 ^ 16) (s.entrySpan e).1) 1).reply
        (cmdOf s e (wd e.words 0 % 2 ^ 16) (s.entrySpan e).1) 1 0x10 0 [])) ∧
  (∀ (s : State) (e : AdminEntry) (i : Fin 2048) (q : Nat), e.issuer = .inst i → s.adminQ i.val = some q → s.eligible e = true → wd e.words 0 % 2 ^ 16 = 0xFFFF →
      wd e.words 1 % 2 ^ 16 = (s.q q).size - (s.q q).fi % (s.q q).size → wd e.words 1 % 2 ^ 16 ≤ sub32 (s.q q).pi (s.q q).fi →
      exec (.adminCommandFetch e) s = .next (
        let u := (s.turn (.inst i)).takeUnits q (wd e.words 1 % 2 ^ 16) (wd e.words 0) (field (wd e.words 1) 31 16) false
        (u.completeEntry q (s.q q).fi (wd e.words 1 % 2 ^ 16) (wd e.words 0) [] 0 0 (field (wd e.words 1) 31 16) false).fetched q))

/-- A retry of a host fill, the end of a write-back and of a copy, an eviction, a demotion and a patrol read act on the pages as R315 and R329 to R339 say; which page an eviction takes is left open (log entry 2). -/
def Obligations.PagerActs : Prop :=
  (∀ (page : BitVec 30) (d : Nat) (n : Nat) (s : State), (s.page page.toNat).home = .host d n → (s.page page.toNat).filling = true → (s.page page.toNat).fails = 1 → s.hostPaging = true → s.asked (.pageFill page.toNat) = false → 
      exec (.hostFillRetry page) s = .next (s.hostRead 0 0 (.pageFill page.toNat) (pasidWord (lookupD s.pgr.donations d {}).pasid) ((lookupD s.pgr.donations d {}).addr + n * 4096) 4096)) ∧
  (∀ (page : BitVec 30) (ok : Bool) (s : State), (s.page page.toNat).writing = true → (s.page page.toNat).cached.isSome = true → ((s.page page.toNat).onHost && !s.hostPaging) = false → ok = true → ((s.page page.toNat).pinned || s.references.contains page.toNat) = false → 
      exec (.writeBackComplete page ok) s = .next (s.dropCached page.toNat)) ∧
  (∀ (page : BitVec 30) (ok : Bool) (s : State), (s.page page.toNat).writing = true → (s.page page.toNat).cached.isSome = true → ((s.page page.toNat).onHost && !s.hostPaging) = false → ok = true → ((s.page page.toNat).pinned || s.references.contains page.toNat) = true → 
      exec (.writeBackComplete page ok) s = .next (s.cleanPage page.toNat)) ∧
  (∀ (page : BitVec 30) (ok : Bool) (s : State), (s.page page.toNat).writing = true → (s.page page.toNat).cached.isSome = true → ((s.page page.toNat).onHost && !s.hostPaging) = false → ok = false → 
      exec (.writeBackComplete page ok) s = .next (match s.takeOther (s.page page.toNat).home.donation with
        | (some h, u) => u.setPage page.toNat { s.page page.toNat with home := h, writing := false, dirty := true }
        | (none, u) => u.setPage page.toNat { s.page page.toNat with writing := false, stuck := true, dirty := true })) ∧
  (∀ (s : State), 8192 < s.cachedFrames.length + s.rf F.PGR_CACHE_CFG_free_target → 
      exec (.pageEviction) s = .next (match s.evictable[s.draw.1 % max 1 s.evictable.length]? with
        | none => s.draw.2
        | some k =>
          let u := s.draw.2.rehomeHost k
          if (u.page k).dirty then u.setPage k { u.page k with writing := true } else u.dropCached k)) ∧
  (∀ (s : State), s.pgr.demoting = true ∨ s.freeLpd * 100 < s.rf F.PGR_LPD_WMARK_low_pct * s.pagerFrames → s.freeLpd * 100 < s.rf F.PGR_LPD_WMARK_high_pct * s.pagerFrames → 
      exec (.pageDemotion) s = .next (let u : State := { s with pgr := { s.pgr with demoting := true } }
        let ps := u.pgr.pages.filter fun e => (e.2.home.frame).isSome && e.2.cached.isNone && e.2.reserve.isNone && !e.2.filling && !e.2.poisoned && !u.firmPage e.1
        match leastUsed ps, u.takeDon with
        | some k, some h =>
          let u := u.setPage k { u.page k with reserve := some h }
          { u with pgr := { u.pgr with moves := u.pgr.moves ++ [k] } }.startMove
        | _, _ => u)) ∧
  (∀ (page : BitVec 30) (s : State), (s.page page.toNat).moving = true → 
      exec (.pageCopyComplete page) s = .next (s.landMove page.toNat)) ∧
  (∀ (line : BitVec 32) (ecc : EccResult) (s : State), s.mainOn = true → s.rfb F.MEM_SCRUB_CFG_enable = true → line.toNat * 64 / 4096 + 32 < lpdFrames → s.ras.retired.contains (0x300 + line.toNat * 64 / 4096 % 32) = false → 
      exec (.patrolScrubRead line ecc) s = .next (s.eccRead (line.toNat * 64) ecc))

/-- Pins, prefetches, donations, grants, carves and quotas answer with the effect and result words that R337 to R341, R351 and R352 give. -/
def Obligations.MemoryCommands : Prop :=
  (Runs .pgrPin pgrPinSpec (fun c s => c.reserved [(2, 0x1FFFF)] = none ∧ c.p 0 % 4096 = 0 ∧ 1 ≤ c.p 2 % 2 ^ 17 ∧ c.p 2 % 2 ^ 17 ≤ 4096 ∧ c.p 0 + c.p 1 * 2 ^ 32 + c.p 2 % 2 ^ 17 * 4096 ≤ (s.rangeOf c.target).2 * 2 ^ 21 ∧
        (c.target = 0 ∨ s.pinnedOf c.target + ((s.namedPages c).filter fun k => !(s.page k).pinned).length ≤ wd (s.inst c.target).quota 6 % 2 ^ 13) ∧
        s.pinnedAll + ((s.namedPages c).filter fun k => !(s.page k).pinned).length + s.rf F.PGR_CACHE_CFG_unpinned_floor ≤ 8192)
      (fun c s => let fresh := (s.namedPages c).filter fun k => !(s.page k).pinned
      let u := fresh.foldl (fun u k => u.setPage k { u.page k with pinned := true }) s
      let u := (s.namedPages c).foldl (fun u k => if (u.page k).settled then u else u.startFill k) u
      if (s.namedPages c).all fun k => (u.page k).settled then u.reply c c.units 0 0 (results [fresh.length]) else u.replyPending c [] (fresh.length :: fresh))) ∧
  (Answers .pgrUnpin pgrUnpinSpec (fun c s => c.reserved [(2, 0x1FFFF)] = none ∧ c.p 0 % 4096 = 0 ∧ 1 ≤ c.p 2 % 2 ^ 17 ∧ c.p 2 % 2 ^ 17 ≤ 65536 ∧ c.p 0 + c.p 1 * 2 ^ 32 + c.p 2 % 2 ^ 17 * 4096 ≤ (s.rangeOf c.target).2 * 2 ^ 21)
      (fun c s => ((s.namedPages c).filter fun k => (s.page k).pinned).foldl (fun u k => (u.setPage k { u.page k with pinned := false }).tidyPage k) s) (fun c s => results [((s.namedPages c).filter fun k => (s.page k).pinned).length])) ∧
  (Answers .pgrPrefetch pgrPrefetchSpec (fun c s => c.reserved [(2, 0x1FFFF), (3, 3)] = none ∧ c.p 3 = 0 ∧ c.p 0 % 4096 = 0 ∧ 1 ≤ c.p 2 % 2 ^ 17 ∧ c.p 2 % 2 ^ 17 ≤ 65536 ∧ c.p 0 + c.p 1 * 2 ^ 32 + c.p 2 % 2 ^ 17 * 4096 ≤ (s.rangeOf c.target).2 * 2 ^ 21)
      (fun c s => ((s.namedPages c).foldl State.hintFill (0, s)).2) (fun c s => results [((s.namedPages c).foldl State.hintFill (0, s)).1])) ∧
  (Answers .pgrPrefetch pgrPrefetchSpec (fun c s => c.reserved [(2, 0x1FFFF), (3, 3)] = none ∧ c.p 3 = 2 ∧ c.p 0 % 4096 = 0 ∧ 1 ≤ c.p 2 % 2 ^ 17 ∧ c.p 2 % 2 ^ 17 ≤ 65536 ∧ c.p 0 + c.p 1 * 2 ^ 32 + c.p 2 % 2 ^ 17 * 4096 ≤ (s.rangeOf c.target).2 * 2 ^ 21)
      (fun c s => ((s.namedPages c).foldl State.askDiscard s).settleDiscards) (fun c s => [])) ∧
  (Answers .memDonate memDonateSpec (fun c s => c.reserved [(2, 0x3FFFF), (3, 0xFFFFF800)] = none ∧ 1 ≤ c.p 2 ∧ c.p 2 ≤ 131072 ∧ s.pgr.donations.length < 64 ∧ (c.p 0 + c.p 1 * 2 ^ 32) % 2 ^ 21 = 0)
      (fun c s => let d := ((List.range 64).find? fun d => (lookup s.pgr.donations d).isNone).getD 0
        let don : Donation := { addr := c.p 0 + c.p 1 * 2 ^ 32, size := c.p 2, pasid := c.p 3 }
        { s with pgr := { s.pgr with donations := insertKey s.pgr.donations d don } }) (fun c s => results [((List.range 64).find? fun d => (lookup s.pgr.donations d).isNone).getD 0, c.p 2 * 512])) ∧
  (Runs .memRevoke memRevokeSpec (fun c s => c.reserved [(0, 0x3F)] = none ∧ (lookup s.pgr.donations (c.p 0)).isSome = true ∧
        (let there := (s.pgr.pages.filter fun e => e.2.reserve.any fun h => (h.donPage (c.p 0)).isSome).map (·.1)
         let u : State := { s with pgr := { s.pgr with donations := insertKey s.pgr.donations (c.p 0) { lookupD s.pgr.donations (c.p 0) {} with revoking := true, pages := (s.donPages (c.p 0)).length } } }
         let v := ((u.cancelMoves there).reserveMoves State.takeHome there).2
         (s.donPages (c.p 0)).length ≤ v.freeLpd + v.freeDon))
      (fun c s => let there := (s.pgr.pages.filter fun e => e.2.reserve.any fun h => (h.donPage (c.p 0)).isSome).map (·.1)
      let u : State := { s with pgr := { s.pgr with donations := insertKey s.pgr.donations (c.p 0) { lookupD s.pgr.donations (c.p 0) {} with revoking := true, pages := (s.donPages (c.p 0)).length } } }
      let v := ((u.cancelMoves there).reserveMoves State.takeHome there).2
      ((v.reserveMoves State.takeHome (s.pagesOfDon (c.p 0))).2.replyPending c [⟨.donation, c.p 0 % 64⟩] [(s.donPages (c.p 0)).length]).settleMoves)) ∧
  (Runs .memPeerWindow memPeerWindowSpec (fun c s => c.p 0 % 4 = 1 ∧ c.reserved [(0, 0x3F0003), (1, 0x1FFFF), (2, 0x1FFFF)] = none ∧
        (s.mem.grants.find? fun g => g.2.1 = c.p 1 && g.2.2 = c.p 2 && !s.mem.vacating.contains g.1).isSome = true ∧ s.windowTargets (c.p 1) (c.p 2) = false)
      (fun c s => let g := ((s.mem.grants.find? fun g => g.2.1 = c.p 1 && g.2.2 = c.p 2 && !s.mem.vacating.contains g.1).map (fun (g : Nat × Nat × Nat) => g.1)).getD 0
        let u : State := { s with mem := { s.mem with grants := eraseKey s.mem.grants g, ddr := Mem.clear s.mem.ddr (c.p 1 * 2 ^ 21) (c.p 2 * 2 ^ 21) } }
        (((u.setReg (R.MEM_GRANT g) 0).setReg (R.MEM_GRANT_SIZE g) 0).reply c c.units 0 0 []).settleMoves)) ∧
  (Runs .bpmPoolCfg bpmPoolCfgSpec (fun c s => c.reserved [(0, 1), (1, 0x1FFFFFFF), (2, 0x1FFFFFFF), (3, 0x1FFFFFFF), (4, 0x1FFFFFFF)] = none ∧ c.p 0 = 0 ∧ carveUnits [c.p 1, c.p 2, c.p 3, c.p 4] ≤ 375000)
      (fun c s => let u := { s with bpm := { s.bpm with next0 := some [c.p 1, c.p 2, c.p 3, c.p 4] } }
      if u.carveReady 0 [c.p 1, c.p 2, c.p 3, c.p 4] then (u.settleCarve 0).reply c c.units 0 0 [] else u.replyPending c [⟨.tier, 0⟩])) ∧
  (Answers .bpmSetQuota bpmSetQuotaSpec (fun c s => c.reserved [(0, 0x80000FFF), (1, 0xFFFF), (2, 0xFFFF), (3, 0x1FFFFFF)] = none ∧ requesterKnown (field (c.p 0) 11 0) = true ∧ 0x800 ≤ field (c.p 0) 11 0 ∧ bitAt (c.p 0) 31 = false ∧
        ({ s with bpm := { s.bpm with quotas := insertKey s.bpm.quotas (field (c.p 0) 11 0) ⟨c.p 1, c.p 2, c.p 3⟩ } } : State).minSum ≤ 23437)
      (fun c s => { s with bpm := { s.bpm with quotas := insertKey s.bpm.quotas (field (c.p 0) 11 0) ⟨c.p 1, c.p 2, c.p 3⟩ } }) (fun c s => [])) ∧
  (∀ (requester : BitVec 12) (length : BitVec 17) (s : State), s.mainOn = true → requesterKnown requester.toNat = true → 
      exec (.alloc requester length) s = .next ((s.allocBuf requester.toNat length.toNat).2)) ∧
  (∀ (mid : BitVec 13) (ptr : Word) (requester : BitVec 12) (holder : BitVec 12) (s : State), s.mainOn = true → midAssigned mid.toNat = true → 
      exec (.share mid ptr requester holder) s = .next ((s.shareBuf ptr.toNat requester.toNat holder.toNat mid.toNat).2)) ∧
  (∀ (mid : BitVec 13) (ptr : Word) (requester : BitVec 12) (s : State), s.mainOn = true → midAssigned mid.toNat = true → 
      exec (.release mid ptr requester) s = .next ((s.releaseBuf ptr.toNat requester.toNat mid.toNat).2)) ∧
  (∀ (mid : BitVec 13) (ptr : Word) (requester : BitVec 12) (dest : BitVec 12) (s : State), s.mainOn = true → midAssigned mid.toNat = true → 
      exec (.transfer mid ptr requester dest) s = .next ((s.transferBuf ptr.toNat requester.toNat dest.toNat mid.toNat).2)) ∧
  (∀ (mid : BitVec 13) (ptr : Word) (requester : BitVec 12) (holder : BitVec 12) (s : State), s.mainOn = true → midAssigned mid.toNat = false → 
      exec (.share mid ptr requester holder) s = .next (s.badMaster mid.toNat false none)) ∧
  (∀ (mid : BitVec 13) (ptr : Word) (requester : BitVec 12) (s : State), s.mainOn = true → midAssigned mid.toNat = true → 
      exec (.free mid ptr requester) s = .next ((s.freeBufBy ptr.toNat requester.toNat mid.toNat).2))

/-- Graph writes and commits, rules, hashing, indirection and exception policers take effect as R367 to R384 say. -/
def Obligations.ParserCommands : Prop :=
  (Runs .prsGraphWrite prsGraphWriteSpec (fun c s => c.indirect = true ∧ c.reserved [(0, 0xC300FFFF)] = none ∧ field (c.p 0) 25 24 = 0 ∧ field (c.p 0) 7 0 = 0 ∧ field (c.p 0) 15 8 ≤ 254 ∧ 16 ≤ c.params.length)
      (fun c s => let b := if bitAt (c.p 0) 30 then s.prs.active else s.prs.shadow
      if !bitAt (c.p 0) 31 then ({ s with prs := { s.prs with shadow := b } }).reply c c.units 0 0 []
      else match b.fault with
        | some (r, n) => (s.raiseEs 256).reply c c.units 0x20 r (results [n])
        | none =>
          let bank := 1 - s.rf F.PRS_GRAPH_STATUS_active_bank
          let u := ((s.swapBank b).setF F.PRS_GRAPH_STATUS_active_bank bank).setF F.PRS_GRAPH_STATUS_nodes b.count
          ((u.bump R.PRS_COMMITS).raiseEs 256).reply c c.units 0 0 (results [bank * 2 ^ 16 + b.count]))) ∧
  (Answers .clsRuleWrite clsRuleWriteSpec (fun c s => c.reserved [(1, 0xFFFFFF00), (2, 0xF00FFFFF), (3, 0xFFFF0000)] = none ∧ c.p 0 ≠ 0xFFFFFFFF ∧ field (c.p 1) 15 14 = 2 ∧ field (c.p 2) 31 28 = 4 ∧ field (c.p 2) 19 0 = 0 ∧
        (s.ruleOf (c.p 0) 0 (some 2)).isSome = true ∧ c.fromManager = true ∧ ((List.range 16).find? fun i => !fits (wd ((c.params.drop 4).take 16) i) (wd ((c.params.drop 20).take 16) i)) = none)
      (fun c s => { s with cls := { s.cls with rules := insertKey s.cls.rules (c.p 0 % 2 ^ 16) {
          valid := true, seq := c.p 0 / 2 ^ 16, owner := 0, priority := field (c.p 1) 31 16, stage := 2,
          profile := field (c.p 1) 13 8, kind := 4, value := 0, mark := field (c.p 3) 31 16, key := (c.params.drop 4).take 16, mask := (c.params.drop 20).take 16, manager := true } } }) (fun c s => results [c.p 0])) ∧
  (Answers .clsRuleDelete clsRuleDeleteSpec (fun c s => (s.ruleOf (c.p 0) c.target none).isSome = true)
      (fun c s => { s with cls := { s.cls with rules := modifyKey s.cls.rules (c.p 0 % 2 ^ 16) fun r => { r with valid := false } } }) (fun c s => [])) ∧
  (Answers .clsHashCfg clsHashCfgSpec (fun c s => c.reserved [(0, 0x700001FF), (1, 0xFFFF), (2, 0x3F)] = none ∧ field (c.p 0) 30 29 ≠ 3)
      (fun c s => s.setClsInst c.target { s.clsInst c.target with
        w0 := c.p 0, excQueue := c.p 1, profile := c.p 2, seed := c.p 3, toeplitz := wordsBytes ((c.params.drop 4).take 13) }) (fun c s => [])) ∧
  (Runs .clsIndirWrite clsIndirWriteSpec (fun c s => c.reserved [(0, 0x07FF0FFF)] = none ∧ c.indirect = false ∧ field (c.p 0) 11 0 = 1 ∧ s.indirFault c.target (field (c.p 1) 15 0) = none)
      (fun c s => match s.ssWrite internalSsid (indirOff c.target (field (c.p 0) 26 16)) (leBytes 2 (field (c.p 1) 15 0)) with
      | (some _, _) => s.reply c c.units 0x14 0 []
      | (none, u) => u.reply c c.units 0 0 [])) ∧
  (Answers .clsExcPolicer clsExcPolicerSpec (fun c s => c.reserved [(0, 0x7FF), (2, 0xFFFF)] = none ∧ 1000 ≤ c.p 1 ∧ c.p 1 ≤ 10000000 ∧ 1 ≤ c.p 2)
      (fun c s => s.setClsInst (c.p 0) { s.clsInst (c.p 0) with
        rate := c.p 1, burst := c.p 2, tokens := if (s.clsInst (c.p 0)).burst = c.p 2 then (s.clsInst (c.p 0)).tokens else c.p 2 * 65536 }) (fun c s => [])) ∧
  (∀ (s : State), 
      exec (.excPolicerRefill) s = .next ({ s with cls := { s.cls with
        insts := s.cls.insts.map fun e =>
        (e.1, { e.2 with tokens := min (e.2.tokens + excGain e.2.rate) (e.2.burst * 65536) }) } }))

/-- Tables are created, copied, switched and destroyed, and their entries inserted, found and deleted, as R388 to R412 say. -/
def Obligations.TableCommands : Prop :=
  (Runs .tblCreate tblCreateSpec (fun c s => c.reserved [(0, 0x80FF00FF), (1, 0xF81F0000), (4, 0xF000FFFF), (5, 0xFF)] = none ∧ c.p 0 % 256 ≠ 255 ∧ bitAt (c.p 0) 31 = false ∧ ({ words := c.params.take 6 } : EmTable).placement = 0 ∧
        ({ words := c.params.take 6 } : EmTable).keyClass ≠ 3 ∧ 10 ≤ ({ words := c.params.take 6 } : EmTable).log2 ∧ ({ words := c.params.take 6 } : EmTable).log2 ≤ 21 ∧
        c.p 2 ≠ c.p 3 ∧ field (c.p 4) 31 28 ≤ 2 ∧ c.p 5 = 0 ∧ (s.table (c.p 0 % 256)).state = .free ∧ s.capacityOver (c.params.take 6) = false)
      (fun c s => match s.internalRun (tableUnits (c.params.take 6)) with
      | none => s.reply c c.units 0x14 0 []
      | some _ => (s.setTable (c.p 0 % 256) { words := c.params.take 6, state := .live, base := 0 }).reply c c.units 0 0
          (results [c.p 0 % 256, ({ words := c.params.take 6 } : EmTable).capacity]))) ∧
  (∀ (n : BitVec 8) (s : State), (s.table n.toNat).state = .copying → 
      exec (.shadowCopyEnd n) s = .next (let v := s.table n.toNat
        match copyEntries v (s.table v.partner).entries with
        | .ok t =>
          let u := t.entries.foldl (fun u e => u.storeSlot n.toNat e.1) ((s.setTable n.toNat { t with state := .ready }).raiseEs 275)
          match u.createOf n.toNat with
          | some p => u.finish p 0 0 (results [n.toNat, v.capacity])
          | none => u
        | .error i =>
          let u := ((((s.freeBuckets v).dropShadow n.toNat).bump R.TBL_EM_REHASH).raiseEs 272).raiseEs 275
          match s.createOf n.toNat with
          | some p => u.finish p 0x19 0 (results [i])
          | none => u)) ∧
  (Runs .tblDestroy tblDestroySpec (fun c s => c.reserved [(0, 0xFF)] = none ∧ (s.table (c.p 0)).state = .live ∧ (s.table (c.p 0)).partner = 0xFF ∧ s.tableNamed (c.p 0) = false)
      (fun c s => (((s.freeBuckets (s.table (c.p 0))).freeTable (c.p 0)).replyPending c [⟨.table, c.p 0 % 256⟩]).finishOp 0x0401 0 0 [])) ∧
  (Runs .tblInsert tblInsertSpec (fun c s => c.indirect = false ∧ fits (c.p 0) 0xFF = true ∧ c.p 1 = 0x3FFFFFFF ∧ fits (c.p 2) 0x7800FFFF = true ∧ field (c.p 2) 30 27 ≠ 14 ∧ (s.table (c.p 0)).state = .live ∧ (s.table (c.p 0)).partner = 0xFF ∧ c.fromManager = true ∧ (s.table (c.p 0)).flush = none ∧ keyTail (s.table (c.p 0)) c.params = none ∧ s.emAllows c.target = none)
      (fun c s => match (s.table (c.p 0)).place {
          statePage := c.p 1, port := field (c.p 2) 30 27, owner := c.target, action := field (c.p 2) 15 0, hit := false,
          key := recKey (s.table (c.p 0)) c.params } false with
      | .fault => s.reply c c.units 0x20 0x0C04 []
      | .full => ((s.bump R.TBL_EM_REHASH).raiseEs 272).reply c c.units 0x19 0 (results [0])
      | .at_ t i moves _ path =>
        ((((((s.setTable (c.p 0) t).storePath (c.p 0) path).bump R.TBL_EM_INSERTS).bumpBy R.TBL_EM_RELOCATIONS moves).loadWarn (c.p 0) (s.table (c.p 0))).reply
          c c.units 0 0 (results [i, moves])))) ∧
  (Answers .tblDelete tblDeleteSpec (fun c s => c.indirect = false ∧ fits (c.p 0) 0x800000FF = true ∧ bitAt (c.p 0) 31 = true ∧ (s.table (c.p 0 % 256)).state = .live ∧ c.fromManager = true ∧ c.p 1 < (s.table (c.p 0 % 256)).capacity ∧ (lookup (s.table (c.p 0 % 256)).entries (c.p 1)).isSome = true)
      (fun c s => s.emErase (c.p 0 % 256) (c.p 1)) (fun c s => results [c.p 1])) ∧
  (Answers .tblSearch tblSearchSpec (fun c s => c.reserved [(0, 0xFF)] = none ∧ (s.table (c.p 0)).state = .live ∧ c.fromManager = true ∧ keyTail (s.table (c.p 0)) c.params = none ∧
        (((s.table (c.p 0)).find c.target (recKey (s.table (c.p 0)) c.params)).bind (lookup (s.table (c.p 0)).entries ·)).any (·.owner = c.target) = true)
      (fun c s => s) (fun c s => let i := ((s.table (c.p 0)).find c.target (recKey (s.table (c.p 0)) c.params)).getD 0
        results [i] ++ ((lookup (s.table (c.p 0)).entries i).map EmEntry.words).getD [])) ∧
  (Answers .tblNext tblNextSpec (fun c s => c.reserved [(0, 0xFF)] = none ∧ (s.table (c.p 0)).state = .live ∧ c.fromManager = true ∧ ((s.table (c.p 0)).entries.find? fun e => e.1 ≥ c.p 1 && !e.2.parityBad && (c.fromManager || e.2.owner = c.target)).isSome = true)
      (fun c s => s) (fun c s => match (s.table (c.p 0)).entries.find? fun e => e.1 ≥ c.p 1 && !e.2.parityBad && (c.fromManager || e.2.owner = c.target) with
        | some (i, e) => results [i, (s.table (c.p 0)).relocs] ++ e.words ++ bytesWords (slice e.key 0 56)
        | none => [])) ∧
  (Pends .tblFlushPort tblFlushPortSpec (fun c s => c.reserved [(0, 0x800000FF), (1, 0xF)] = none ∧ (s.table (c.p 0 % 256)).state = .live ∧ s.firstRefused [tblClaim (c.p 0 % 256) 0x02 c.mid] = none)
      (fun c s => (s.takeClaims [tblClaim (c.p 0 % 256) 0x02 c.mid]).setTable (c.p 0 % 256) { s.table (c.p 0 % 256) with flush := some (c.p 1, if bitAt (c.p 0) 31 then none else some c.target) })) ∧
  (∀ (n : BitVec 8) (port : Nat) (s : State), (s.table n.toNat).flush = some (port, none) → 
      exec (.tableFlushEnd n) s = .next (let v := s.table n.toNat
        let gone := v.entries.filter fun e => !e.2.parityBad && e.2.port = port && true
        let u := ((gone.foldl (fun u e => u.emErase n.toNat e.1) (s.setTable n.toNat { v with flush := none })).dropClaim (0x05000000 + n.toNat)).raiseEs 276
        match u.flushOf n.toNat with
        | some p => u.finish p 0 0 (results [gone.length])
        | none => u)) ∧
  (Answers .tblShadowSwitch tblShadowSwitchSpec (fun c s => c.reserved [(0, 0xFF)] = none ∧ (s.table (c.p 0)).state = .ready)
      (fun c s => let v := s.table (c.p 0)
      let live := s.table v.partner
      ((((s.freeBuckets live).freeTable (c.p 0)).setTable v.partner { live with
        words := live.words.take 1 ++ ((v.words.drop 1).take 3) ++ live.words.drop 4, entries := v.entries, base := v.base, partner := 0xFF, relocs := v.relocs }).dropClaim
        (0x05000000 + v.partner)).loadWarn v.partner live) (fun c s => []))

/-- Prefixes, VRFs, the learning configuration, the token refill, the ageing scan and the table selector act as R414 to R427 say. -/
def Obligations.RouteCommands : Prop :=
  (Answers .lpmAdd lpmAddSpec (fun c s => c.indirect = false ∧ routeBad (c.p 1) = false ∧ (s.prefixFault c.params false).isNone = true ∧ (s.vrf (recPrefix c.params).vrf).enable = true ∧
        s.prefixCount (some (recPrefix c.params).vrf) (recPrefix c.params).v6 < (if (recPrefix c.params).v6 then (s.vrf (recPrefix c.params).vrf).v6Max else (s.vrf (recPrefix c.params).vrf).v4Max) ∧
        s.prefixCount none (recPrefix c.params).v6 < (if (recPrefix c.params).v6 then 1048576 else 2097152))
      (fun c s => s.addPrefix (recPrefix c.params)) (fun c s => [])) ∧
  (Answers .lpmDelete lpmDeleteSpec (fun c s => c.p 1 = 0 ∧ (s.prefixFault c.params false).isNone = true ∧ s.tbl.prefixes.any (samePrefix (recPrefix c.params)) = true)
      (fun c s => ({ s with tbl := { s.tbl with prefixes := s.tbl.prefixes.filter fun q => !samePrefix (recPrefix c.params) q } }).bump R.TBL_LPM_UPDATES) (fun c s => [])) ∧
  (Answers .lpmVrfCfg lpmVrfCfgSpec (fun c s => c.reserved [(0, 0xC0000FFF), (1, 0x3FFFFF), (2, 0x1FFFFF)] = none ∧ c.p 1 ≤ 2097152 ∧ c.p 2 ≤ 1048576 ∧ routeBad (c.p 3) = false ∧ bitAt (c.p 0) 31 = true ∧ bitAt (c.p 0) 30 = false ∧
        s.prefixCount (some (c.p 0 % 2 ^ 12)) false ≤ c.p 1 ∧ s.prefixCount (some (c.p 0 % 2 ^ 12)) true ≤ c.p 2)
      (fun c s => s.setVrf (c.p 0 % 2 ^ 12) { enable := true, v4Max := c.p 1, v6Max := c.p 2, default := c.p 3, flushing := false }) (fun c s => [])) ∧
  (∀ (n : BitVec 12) (s : State), (s.vrf n.toNat).flushing = true → 
      exec (.vrfFlushEnd n) s = .next (let u := { s with tbl := { s.tbl with prefixes := s.tbl.prefixes.filter fun p => p.vrf != n.toNat } }
        let u := ((u.setVrf n.toNat { s.vrf n.toNat with flushing := false }).bumpBy R.TBL_LPM_UPDATES (s.prefixCount (some n.toNat) false + s.prefixCount (some n.toNat) true)).raiseEs 276
        match u.findPend (fun p => p.cmd.opcode = 0x0422 && wd p.cmd.params 0 % 2 ^ 12 = n.toNat) with
        | some p => u.finish p 0 0 []
        | none => u)) ∧
  (∀ (s : State), 
      exec (.lpmNodeRebuild) s = .next ({ s with tbl := { s.tbl with badNodes := s.tbl.badNodes.drop 1 } })) ∧
  (Answers .learnCfg learnCfgSpec (fun c s => c.reserved [(0, 0x800000FF), (1, 0xFFFF), (3, 0xFFFF), (4, 0xFFFF)] = none ∧ 1000 ≤ c.p 2 ∧ c.p 2 ≤ 10000000 ∧ 1 ≤ c.p 3 ∧ (s.table (c.p 0 % 256)).state = .live ∧
        (s.findQ 0 (c.p 1)).any (fun q => (s.q q).state = 1 && (s.q q).type = 5) = true)
      (fun c s => s.setTable (c.p 0 % 256) { s.table (c.p 0 % 256) with
        learn := { (s.table (c.p 0 % 256)).learn with enable := bitAt (c.p 0) 31, ring := c.p 1, rate := c.p 2, holdoff := c.p 3, age := c.p 4, tokens := c.p 2 } }) (fun c s => [])) ∧
  (∀ (n : BitVec 8) (s : State), (s.table n.toNat).state = .live → (s.table n.toNat).learn.waits = false → 
      exec (.learnTokenRefill n) s = .next (s.setTable n.toNat { s.table n.toNat with learn := { (s.table n.toNat).learn with tokens := min ((s.table n.toNat).learn.tokens + 1) (s.table n.toNat).learn.rate } })) ∧
  (∀ (n : BitVec 8) (s : State), (s.table n.toNat).state = .live → (s.table n.toNat).learn.enable = true → (s.table n.toNat).learn.age ≠ 0 → lookup (s.table n.toNat).entries (s.table n.toNat).learn.scan = none → 
      exec (.ageingScanVisit n) s = .next (s.setTable n.toNat { s.table n.toNat with learn := { (s.table n.toNat).learn with scan := ((s.table n.toNat).learn.scan + 1) % (s.table n.toNat).capacity, waits := false } })) ∧
  (∀ (mid : BitVec 13) (n : BitVec 8) (s : State), s.gate mid.toNat (R.TBL_SEL) false = .open_ → 
      exec (.tblSelWrite mid n) s = .next ((List.range 12).foldl (fun u k => u.setReg (R.TBL_DESC_WORD k) (wd (s.table n.toNat).descriptor k)) (s.setF F.TBL_SEL_table n.toNat)))

/-- Action lists, tunnels, mirrors and policers are written and deleted, buckets refilled and a counter shown, as R450 to R457 say. -/
def Obligations.SwitchCommands : Prop :=
  (Answers .swxActionWrite swxActionWriteSpec (fun c s => c.reserved [(0, 0x8100FFFF)] = none ∧ bitAt (c.p 0) 31 = false ∧ bitAt (c.p 0) 24 = false ∧ (s.listFault (listActs (c.params.drop 1))).isNone = true ∧ endBad (c.params.drop 1) = none)
      (fun c s => { s with swx := { s.swx with lists := insertKey s.swx.lists (c.p 0 % 2 ^ 16) (c.target, listActs (c.params.drop 1)) } }) (fun c s => [])) ∧
  (Answers .swxActionWrite swxActionWriteSpec (fun c s => c.reserved [(0, 0x8100FFFF)] = none ∧ bitAt (c.p 0) 31 = true ∧ bitAt (c.p 0) 24 = false ∧ (lookup s.swx.lists (c.p 0 % 2 ^ 16)).isSome = true ∧ s.listReferenced (c.p 0 % 2 ^ 16) = false)
      (fun c s => { s with swx := { s.swx with lists := eraseKey s.swx.lists (c.p 0 % 2 ^ 16) } }) (fun c s => [])) ∧
  (Answers .swxTunnelCfg swxTunnelCfgSpec (fun c s => c.reserved [(0, 0x80000FFF)] = none ∧ bitAt (c.p 0) 31 = true ∧ (lookup s.swx.tunnels (c.p 0 % 2 ^ 12)).isSome = true ∧ s.tunnelReferenced (c.p 0 % 2 ^ 12) = false)
      (fun c s => { s with swx := { s.swx with tunnels := eraseKey s.swx.tunnels (c.p 0 % 2 ^ 12) } }) (fun c s => [])) ∧
  (Answers .swxTunnelCfg swxTunnelCfgSpec (fun c s => c.reserved [(0, 0x80000FFF)] = none ∧ bitAt (c.p 0) 31 = false ∧ c.reserved [(1, 0xFFFFFF80), (16, 0xFFFF), (25, 0xF)] = none ∧ field (c.p 1) 31 28 = 3 ∧ field (c.p 1) 23 16 ≠ 0 ∧ c.p 25 ≤ 8)
      (fun c s => { s with swx := { s.swx with tunnels := insertKey s.swx.tunnels (c.p 0 % 2 ^ 12) ((c.params.drop 1).take 25) } }) (fun c s => [])) ∧
  (Answers .swxMirrorCfg swxMirrorCfgSpec (fun c s => c.reserved [(0, 0x8000001F)] = none ∧ bitAt (c.p 0) 31 = false ∧ c.reserved [(1, 0xC7FFFFFF), (2, 0xFFFF3FFF), (3, 0xFFFFFF)] = none ∧ field (c.p 1) 31 30 = 1 ∧
        field (c.p 2) 13 0 = 0 ∧ field (c.p 2) 27 16 = 0xFFF)
      (fun c s => { s with swx := { s.swx with mirrors := insertKey s.swx.mirrors (c.p 0 % 32) { w1 := c.p 1, w2 := c.p 2, sampleN := c.p 3 } } }) (fun c s => [])) ∧
  (Answers .swxPolicerCfg swxPolicerCfgSpec (fun c s => c.reserved [(0, 0xC0003FFF)] = none ∧ bitAt (c.p 0) 31 = true ∧ (lookup s.swx.policers (c.p 0 % 2 ^ 14)).isSome = true ∧ s.listNames (fun a => a.op = 0x48 && a.a = c.p 0 % 2 ^ 14) = false)
      (fun c s => { s with swx := { s.swx with policers := eraseKey s.swx.policers (c.p 0 % 2 ^ 14) } }) (fun c s => [])) ∧
  (Answers .swxPolicerCfg swxPolicerCfgSpec (fun c s => c.reserved [(0, 0xC0003FFF)] = none ∧ bitAt (c.p 0) 31 = false ∧ bitAt (c.p 0) 30 = false ∧ c.reserved [(5, 0x7F33)] = none ∧ c.p 5 = 0 ∧ 64 ≤ c.p 1 ∧ c.p 1 ≤ c.p 2 ∧ c.p 2 ≤ 1600000000 ∧
        64 ≤ c.p 3 ∧ c.p 3 ≤ 2 ^ 24 ∧ 64 ≤ c.p 4 ∧ c.p 4 ≤ 2 ^ 24 ∧ lookup s.swx.policers (c.p 0 % 2 ^ 14) = none)
      (fun c s => s.setPolicer (c.p 0 % 2 ^ 14) { cir := c.p 1, pir := c.p 2, cbs := c.p 3, pbs := c.p 4, overhead := 0, red := 0, yellow := 0, c := c.p 3 * polUnit, p := c.p 4 * polUnit, nextCir := c.p 1, nextPir := c.p 2 }) (fun c s => [])) ∧
  (∀ (s : State), 
      exec (.policerRefill) s = .next ({ s with swx := { s.swx with policers := s.swx.policers.map fun e => (e.1, e.2.refill) } })) ∧
  (∀ (mid : BitVec 13) (k : BitVec 18) (clear : Bool) (s : State), s.gate mid.toNat (R.SWX_CNT_SEL) false = .open_ → 
      exec (.swxCntSelWrite mid k clear) s = .next (let n := lookupD s.swx.counters k.toNat (0, 0)
        let u := (s.setReg R.SWX_CNT_PKTS_LO (n.1 % 2 ^ 32)).setReg R.SWX_CNT_PKTS_HI (n.1 / 2 ^ 32)
        let u := ((u.setReg R.SWX_CNT_BYTES_LO (n.2 % 2 ^ 32)).setReg R.SWX_CNT_BYTES_HI (n.2 / 2 ^ 32)).setF F.SWX_CNT_SEL_counter k.toNat
        if clear then { u with swx := { u.swx with counters := eraseKey u.swx.counters k.toNat } } else u))

/-- Root keys, associations and operator keys are loaded, created, rekeyed, destroyed, enrolled and revoked as R537 to R557 say; the results of the ciphers are values of Config (log entry 4). -/
def Obligations.SaffronCommands : Prop :=
  (∀ (place : BitVec 16) (s : State), 
      exec (.saffronRequest place) s = .next (s.safEnter place.toNat)) ∧
  (∀ (assoc : BitVec 20) (slotB : Bool) (s : State), 
      exec (.derivationComplete assoc slotB) s = .next (s.derived assoc.toNat (b2n slotB))) ∧
  (Answers .safRootKeyLoad safRootKeyLoadSpec (fun c s => c.reserved [(0, 0xC0003F3F)] = none ∧ bitAt (c.p 0) 31 = true ∧ s.rootUsed (field (c.p 0) 5 0) = false)
      (fun c s => s.setRoot (field (c.p 0) 5 0) none) (fun c s => [])) ∧
  (Answers .safRootKeyLoad safRootKeyLoadSpec (fun c s => c.reserved [(0, 0xC0003F3F)] = none ∧ bitAt (c.p 0) 31 = false ∧ bitAt (c.p 0) 30 = false ∧ s.rootUsed (field (c.p 0) 5 0) = false ∧ s.mode = 1)
      (fun c s => s.setRoot (field (c.p 0) 5 0) (some (wordsBytes ((c.params.drop 1).take 8)))) (fun c s => results [(Config.keyCheck (wordsBytes ((c.params.drop 1).take 8))).toNat])) ∧
  (Runs .safAssocCreate safAssocCreateSpec (fun c s => c.reserved [(0, 0xBFFFF0FF)] = none ∧ field (c.p 0) 7 0 ≤ 64 ∧ (s.rootKey (safRoot (newAssoc c (s.inst c.target).gen))).isSome = true ∧
        safPair (safProto (newAssoc c (s.inst c.target).gen)) (safAlg (newAssoc c (s.inst c.target).gen)) = true ∧ keyFault (newAssoc c (s.inst c.target).gen) c = none ∧ bitAt (c.p 0) 15 = false ∧
        s.poolAllows c.target 9 1 = none)
      (fun c s => let r := newAssoc c (s.inst c.target).gen
      let u := s.draw.2
      match searchFrom (fun k => !safValid (u.assoc k)) 1048576 s.draw.1 1048576 with
      | none => u.reply c c.units 0x14 0 []
      | some a =>
        let k := if safProto r = 1 && !safOut r then safAn r % 2 else 0
        let init := c.p 5 + c.p 6 * 2 ^ 32
        let seq := if safOut r && init = 0 && safProto r ≤ 2 then 1 else init
        (u.setAssoc a (u.loadSlot a r k 0 seq (if safOut r || seq = 0 || safProto r > 2 then 0 else 1) c.keyWords)).reply c c.units 0 0 (results [a]))) ∧
  (Answers .safAssocRekey safAssocRekeySpec (fun c s => c.reserved [(0, 0x070FFFFF)] = none ∧ s.ownsAssoc c (field (c.p 0) 19 0) = true ∧ safProto (s.assoc (field (c.p 0) 19 0)) = 3 ∧ bitAt (c.p 0) 24 = true ∧ bitAt (c.p 0) 25 = false)
      (fun c s => let a := field (c.p 0) 19 0
        let r := s.assoc a
        let k := 1 - safActive r
        let u := (s.setAssoc a (s.loadSlot a r k ((max (slotEpoch r 0) (slotEpoch r 1) + 1) % 2 ^ 32) 0 0 c.keyWords)).cacheDrop fun e => e.context == safContext a r k && e.root = safRoot r
        { u with saf := { u.saf with warned := u.saf.warned.filter (· != a * 2 + k) } }) (fun c s => results [max (slotEpoch (s.assoc (field (c.p 0) 19 0)) 0) (slotEpoch (s.assoc (field (c.p 0) 19 0)) 1) + 1])) ∧
  (Answers .safAssocDestroy safAssocDestroySpec (fun c s => c.reserved [(0, 0xFFFFF)] = none ∧ s.ownsAssoc c (c.p 0) = true ∧ s.assocUsed (c.p 0) = false)
      (fun c s => let u := s.cacheDrop fun e => e.ofAssoc (c.p 0)
        { u with saf := { u.saf with assocs := eraseKey u.saf.assocs (c.p 0), warned := u.saf.warned.filter fun w => w / 2 != c.p 0 } }) (fun c s => [])) ∧
  (Runs .safOpkeyEnrol safOpkeyEnrolSpec (fun c s => c.reserved [(0, 7)] = none ∧ 1 ≤ c.p 0 ∧ c.p 0 ≤ 4)
      (fun c s => if s.opKeyState (c.p 0) = 0 ∨ (s.opKeyState (c.p 0) = 2 ∧ ((s.opKey (c.p 0)).drop 2).take 16 ≠ (List.range 16).map fun i => w32 (c.p (1 + i))) then
        ((s.putOpKey (c.p 0) 1 ((List.range 16).map fun i => w32 (c.p (1 + i)))).raiseEs 391).reply c c.units 0 0 []
      else s.reply c c.units 0x20 0x1009 [])) ∧
  (Answers .safOpkeyRevoke safOpkeyRevokeSpec (fun c s => c.reserved [(0, 7)] = none ∧ 1 ≤ c.p 0 ∧ c.p 0 ≤ 4)
      (fun c s => (s.putOpKey (c.p 0) 2 ((s.opKey (c.p 0)).drop 2 |>.take 16)).raiseEs 391) (fun c s => [])) ∧
  (∀ (mid : BitVec 13) (assoc : BitVec 20) (s : State), s.gate mid.toNat (R.SAF_ASSOC_SEL) false = .open_ → 
      exec (.safAssocSelWrite mid assoc) s = .next ((List.range 12).foldl (fun u k => u.setReg (R.SAF_ASSOC_WORD k) (wd (u.assoc assoc.toNat) k)) (s.setF F.SAF_ASSOC_SEL_assoc assoc.toNat)))

/-- A thread reads, resizes, emits, drops and makes its frame as R471 and R472 say, and faults with code 2, 5 or 7 where R471 says so. -/
def Obligations.PacketInstructions : Prop :=
  (∀ (k : Fin 16) (n : BitVec 7) (w : Nat) (len : Nat) (bs : List Byte) (s : State), s.runs k.val n.toNat .pktLwbe w len = true → s.windowRead k.val n.toNat (s.rs1 k.val n.toNat w) 4 = some bs → 
      exec (.pktLwbe k n) s = .next (s.ended k.val n.toNat len (.next s (rdOf w) (beNat bs)))) ∧
  (∀ (k : Fin 16) (n : BitVec 7) (w : Nat) (len : Nat) (s : State), s.runs k.val n.toNat .pktLwbe w len = true → s.windowRead k.val n.toNat (s.rs1 k.val n.toNat w) 4 = none → 
      exec (.pktLwbe k n) s = .next (s.ended k.val n.toNat len (.fault s 2 0 (s.rs1 k.val n.toNat w)))) ∧
  (∀ (k : Fin 16) (n : BitVec 7) (w : Nat) (len : Nat) (p : Pkt) (d : Nat) (s : State), s.runs k.val n.toNat .pktHead w len = true → (s.th k.val n.toNat).frame = some p → rvInt (s.rs1 k.val n.toNat w) = -(d : Int) → 1 ≤ d → d + 14 ≤ p.data.length → 
      exec (.pktHead k n) s = .next (s.ended k.val n.toNat len (.block ((s.setFrame k.val n.toNat { p with data := p.data.drop d }).setLength k.val n.toNat (p.data.length - d)) 0 0))) ∧
  (∀ (k : Fin 16) (n : BitVec 7) (w : Nat) (len : Nat) (p : Pkt) (d : Nat) (h : Nat) (s : State), s.runs k.val n.toNat .pktHead w len = true → (s.th k.val n.toNat).frame = some p → rvInt (s.rs1 k.val n.toNat w) = (d : Int) → 1 ≤ d → p.prepended + d ≤ 256 → p.headBuf = some h → 
      exec (.pktHead k n) s = .next (s.ended k.val n.toNat len (.block ((s.setFrame k.val n.toNat { p with data := List.replicate d 0#8 ++ p.data, prepended := p.prepended + d }).setLength k.val n.toNat (d + p.data.length)) 0 0))) ∧
  (∀ (k : Fin 16) (n : BitVec 7) (w : Nat) (len : Nat) (p : Pkt) (s : State), s.runs k.val n.toNat .pktHead w len = true → (s.th k.val n.toNat).frame = some p → rvInt (s.rs1 k.val n.toNat w) < 0 → rvInt (s.rs1 k.val n.toNat w) + p.data.length < 14 → 
      exec (.pktHead k n) s = .next (s.ended k.val n.toNat len (.fault s 2 0 0))) ∧
  (∀ (k : Fin 16) (n : BitVec 7) (w : Nat) (len : Nat) (p : Pkt) (s : State), s.runs k.val n.toNat .pktLen w len = true → (s.th k.val n.toNat).frame = some p → 14 ≤ s.rs1 k.val n.toNat w → s.rs1 k.val n.toNat w ≤ classBytes (ptrClass p.ptr) + p.prepended → 
      exec (.pktLen k n) s = .next (s.ended k.val n.toNat len (.next ((s.setFrame k.val n.toNat { p with data := slice p.data 0 (s.rs1 k.val n.toNat w) }).setLength k.val n.toNat (s.rs1 k.val n.toNat w)) 0 0))) ∧
  (∀ (k : Fin 16) (n : BitVec 7) (w : Nat) (len : Nat) (p : Pkt) (s : State), s.runs k.val n.toNat .pktLen w len = true → (s.th k.val n.toNat).frame = some p → s.rs1 k.val n.toNat w < 14 ∨ classBytes (ptrClass p.ptr) + p.prepended < s.rs1 k.val n.toNat w → 
      exec (.pktLen k n) s = .next (s.ended k.val n.toNat len (.fault s 2 0 0))) ∧
  (∀ (k : Fin 16) (n : BitVec 7) (w : Nat) (len : Nat) (p : Pkt) (s : State), s.runs k.val n.toNat .pktEmit w len = true → (s.th k.val n.toNat).frame = some p → s.descWord k.val n.toNat 9 = p.ptr → 14 ≤ s.descWord k.val n.toNat 8 % 2 ^ 16 → s.descWord k.val n.toNat 8 % 2 ^ 16 ≤ p.data.length → bitAt (s.rs1 k.val n.toNat w) 31 = true ∨ field (s.rs1 k.val n.toNat w) 19 16 ≤ 13 → 
      exec (.pktEmit k n) s = .next (s.ended k.val n.toNat len (.next ((s.setTh k.val n.toNat { s.th k.val n.toNat with frame := none, orig := none }).cloveEmit { p with
        data := p.data.take (s.descWord k.val n.toNat 8 % 2 ^ 16), mark := s.descWord k.val n.toNat 8 / 2 ^ 16, tags := s.descTags k.val n.toNat } (s.rs1 k.val n.toNat w)) 0 0))) ∧
  (∀ (k : Fin 16) (n : BitVec 7) (w : Nat) (len : Nat) (p : Pkt) (s : State), s.runs k.val n.toNat .pktEmit w len = true → (s.th k.val n.toNat).frame = some p → s.descWord k.val n.toNat 9 = p.ptr → 14 ≤ s.descWord k.val n.toNat 8 % 2 ^ 16 → s.descWord k.val n.toNat 8 % 2 ^ 16 ≤ p.data.length → bitAt (s.rs1 k.val n.toNat w) 31 = false → 14 ≤ field (s.rs1 k.val n.toNat w) 19 16 → 
      exec (.pktEmit k n) s = .next (s.ended k.val n.toNat len (.fault s 5 0 0))) ∧
  (∀ (k : Fin 16) (n : BitVec 7) (w : Nat) (len : Nat) (s : State), s.runs k.val n.toNat .pktDrop w len = true → (s.th k.val n.toNat).frame.isSome = true → 
      exec (.pktDrop k n) s = .next (s.ended k.val n.toNat len (.next (s.cloveDrop k.val n.toNat (R.CLV_DROPS k.val)) 0 0))) ∧
  (∀ (k : Fin 16) (n : BitVec 7) (w : Nat) (len : Nat) (b : Buf) (s : State), s.runs k.val n.toNat .pktNew w len = true → (s.th k.val n.toNat).frame = none → 14 ≤ s.rs2 k.val n.toNat w → s.rs2 k.val n.toNat w ≤ classBytes (ptrClass (s.rs1 k.val n.toNat w)) → s.ptrFault (s.rs1 k.val n.toNat w) (clvReq k.val) false true = none → lookup s.bpm.bufs (s.rs1 k.val n.toNat w) = some b → b.holders = [] → ptrTier (s.rs1 k.val n.toNat w) = 0 → 
      exec (.pktNew k n) s = .next (s.ended k.val n.toNat len (.next ((((s.setTh k.val n.toNat { s.th k.val n.toNat with
        frame := some { ptr := s.rs1 k.val n.toNat w, data := Mem.bytes s.mem.pbuf (ptrByte (s.rs1 k.val n.toNat w)) (s.rs2 k.val n.toNat w), ts := s.now, tsUncertain := s.timeUncertain }, orig := none
        bufs := (s.th k.val n.toNat).bufs.erase (s.rs1 k.val n.toNat w) }).sliceWrite k.val n.toNat ((s.cl k.val).sliceBase n.toNat) (List.replicate 128 0#8)).setDesc k.val n.toNat 8 (s.rs2 k.val n.toNat w)).setDesc k.val n.toNat 9 (s.rs1 k.val n.toNat w)) 0 0))) ∧
  (∀ (k : Fin 16) (n : BitVec 7) (w : Nat) (len : Nat) (s : State), s.runs k.val n.toNat .pktNew w len = true → (s.th k.val n.toNat).frame.isSome = true ∨ s.rs2 k.val n.toNat w < 14 ∨ classBytes (ptrClass (s.rs1 k.val n.toNat w)) < s.rs2 k.val n.toNat w → 
      exec (.pktNew k n) s = .next (s.ended k.val n.toNat len (.fault s 2 0 0)))

/-- A thread looks up tables and reads and writes the words of its current page as R471 and R473 say, and blocks or faults with codes 1, 4 and 6. -/
def Obligations.TableInstructions : Prop :=
  (∀ (k : Fin 16) (n : BitVec 7) (w : Nat) (len : Nat) (s : State), s.runs k.val n.toNat .tblEm w len = true → (s.rs1 k.val n.toNat w) % 64 = 0 → (s.cl k.val).inSlice n.toNat (s.rs1 k.val n.toNat w) 72 = true → (s.table (s.rs2 k.val n.toNat w % 256)).state ≠ .live → 
      exec (.tblEm k n) s = .next (s.ended k.val n.toNat len (.block s (rdOf w) 0xFFFFFFFE))) ∧
  (∀ (k : Fin 16) (n : BitVec 7) (w : Nat) (len : Nat) (s : State), s.runs k.val n.toNat .tblEm w len = true → (s.rs1 k.val n.toNat w) % 64 = 0 → (s.cl k.val).inSlice n.toNat (s.rs1 k.val n.toNat w) 72 = true → (s.table (s.rs2 k.val n.toNat w % 256)).state = .live → 
      exec (.tblEm k n) s = .next (s.ended k.val n.toNat len (match s.emLookup (s.rs2 k.val n.toNat w % 256) (s.descInst k.val n.toNat) (s.sliceRead k.val n.toNat (s.rs1 k.val n.toNat w) 64) with
        | (none, u) => .block u (rdOf w) 0xFFFFFFFF
        | (some (i, e), u) => .block (u.sliceWrite k.val n.toNat (s.rs1 k.val n.toNat w + 64) (wordsBytes (({ e with hit := true }.words).take 2))) (rdOf w) i))) ∧
  (∀ (k : Fin 16) (n : BitVec 7) (w : Nat) (len : Nat) (s : State), s.runs k.val n.toNat .tblEm w len = true → (s.rs1 k.val n.toNat w) % 64 ≠ 0 ∨ (s.cl k.val).inSlice n.toNat (s.rs1 k.val n.toNat w) 72 = false → 
      exec (.tblEm k n) s = .next (s.ended k.val n.toNat len (.fault s 1 0 (s.rs1 k.val n.toNat w)))) ∧
  (∀ (k : Fin 16) (n : BitVec 7) (w : Nat) (len : Nat) (s : State), s.runs k.val n.toNat .tblLpm w len = true → (s.cl k.val).inSlice n.toNat (s.rs1 k.val n.toNat w) 16 = true → 
      exec (.tblLpm k n) s = .next (s.ended k.val n.toNat len (.block (s.lpmLookup (s.rs2 k.val n.toNat w % 2 ^ 12) (bitAt (s.rs2 k.val n.toNat w) 31) (s.sliceRead k.val n.toNat (s.rs1 k.val n.toNat w) (if bitAt (s.rs2 k.val n.toNat w) 31 then 16 else 4))).2 (rdOf w)
        (s.lpmLookup (s.rs2 k.val n.toNat w % 2 ^ 12) (bitAt (s.rs2 k.val n.toNat w) 31) (s.sliceRead k.val n.toNat (s.rs1 k.val n.toNat w) (if bitAt (s.rs2 k.val n.toNat w) 31 then 16 else 4))).1))) ∧
  (∀ (k : Fin 16) (n : BitVec 7) (w : Nat) (len : Nat) (s : State), s.runs k.val n.toNat .pgrPage w len = true → 
      exec (.pgrPage k n) s = .next (s.ended k.val n.toNat len (.next (s.setTh k.val n.toNat { s.th k.val n.toNat with spage := s.rs1 k.val n.toNat w % 2 ^ 30 }) 0 0))) ∧
  (∀ (k : Fin 16) (n : BitVec 7) (w : Nat) (len : Nat) (u : State) (s : State), s.runs k.val n.toNat .pgrLw w len = true → (s.rs1 k.val n.toNat w) % 4 = 0 → s.reach (s.clvSsid k.val n.toNat) ((s.th k.val n.toNat).spage * 4096 + s.rs1 k.val n.toNat w % 4096) false = (none, u) → 
      exec (.pgrLw k n) s = .next (s.ended k.val n.toNat len (.block u (rdOf w) (leNat (u.ssBytes (s.clvSsid k.val n.toNat) ((s.th k.val n.toNat).spage * 4096 + s.rs1 k.val n.toNat w % 4096) 4))))) ∧
  (∀ (k : Fin 16) (n : BitVec 7) (w : Nat) (len : Nat) (s : State), s.runs k.val n.toNat .pgrLw w len = true → (s.rs1 k.val n.toNat w) % 4 ≠ 0 → 
      exec (.pgrLw k n) s = .next (s.ended k.val n.toNat len (.fault s 6 0 ((s.th k.val n.toNat).spage * 4096 + s.rs1 k.val n.toNat w % 4096)))) ∧
  (∀ (k : Fin 16) (n : BitVec 7) (w : Nat) (len : Nat) (e : Nat) (u : State) (s : State), s.runs k.val n.toNat .pgrLw w len = true → (s.rs1 k.val n.toNat w) % 4 = 0 → s.reach (s.clvSsid k.val n.toNat) ((s.th k.val n.toNat).spage * 4096 + s.rs1 k.val n.toNat w % 4096) false = (some e, u) → 
      exec (.pgrLw k n) s = .next (s.ended k.val n.toNat len (.fault u 4 e ((s.th k.val n.toNat).spage * 4096 + s.rs1 k.val n.toNat w % 4096)))) ∧
  (∀ (k : Fin 16) (n : BitVec 7) (w : Nat) (len : Nat) (u : State) (v : State) (s : State), s.runs k.val n.toNat .pgrSw w len = true → (s.rs1 k.val n.toNat w) % 4 = 0 → s.reach (s.clvSsid k.val n.toNat) ((s.th k.val n.toNat).spage * 4096 + s.rs1 k.val n.toNat w % 4096) false = (none, u) → u.reach (s.clvSsid k.val n.toNat) ((s.th k.val n.toNat).spage * 4096 + s.rs1 k.val n.toNat w % 4096) true = (none, v) → 
      exec (.pgrSw k n) s = .next (s.ended k.val n.toNat len (.block (v.ssStore (s.clvSsid k.val n.toNat) ((s.th k.val n.toNat).spage * 4096 + s.rs1 k.val n.toNat w % 4096) (leBytes 4 (s.rs2 k.val n.toNat w))) (0) 0))) ∧
  (∀ (k : Fin 16) (n : BitVec 7) (w : Nat) (len : Nat) (u : State) (v : State) (s : State), s.runs k.val n.toNat .pgrAmoadd w len = true → (s.rs1 k.val n.toNat w) % 4 = 0 → s.reach (s.clvSsid k.val n.toNat) ((s.th k.val n.toNat).spage * 4096 + s.rs1 k.val n.toNat w % 4096) false = (none, u) → u.reach (s.clvSsid k.val n.toNat) ((s.th k.val n.toNat).spage * 4096 + s.rs1 k.val n.toNat w % 4096) true = (none, v) → 
      exec (.pgrAmoadd k n) s = .next (s.ended k.val n.toNat len (.block (v.ssStore (s.clvSsid k.val n.toNat) ((s.th k.val n.toNat).spage * 4096 + s.rs1 k.val n.toNat w % 4096) (leBytes 4 ((leNat (u.ssBytes (s.clvSsid k.val n.toNat) ((s.th k.val n.toNat).spage * 4096 + s.rs1 k.val n.toNat w % 4096) 4) + s.rs2 k.val n.toNat w) % 2 ^ 32))) (rdOf w) (leNat (u.ssBytes (s.clvSsid k.val n.toNat) ((s.th k.val n.toNat).spage * 4096 + s.rs1 k.val n.toNat w % 4096) 4))))) ∧
  (∀ (k : Fin 16) (n : BitVec 7) (w : Nat) (len : Nat) (u : State) (v : State) (s : State), s.runs k.val n.toNat .pgrAmoswap w len = true → (s.rs1 k.val n.toNat w) % 4 = 0 → s.reach (s.clvSsid k.val n.toNat) ((s.th k.val n.toNat).spage * 4096 + s.rs1 k.val n.toNat w % 4096) false = (none, u) → u.reach (s.clvSsid k.val n.toNat) ((s.th k.val n.toNat).spage * 4096 + s.rs1 k.val n.toNat w % 4096) true = (none, v) → 
      exec (.pgrAmoswap k n) s = .next (s.ended k.val n.toNat len (.block (v.ssStore (s.clvSsid k.val n.toNat) ((s.th k.val n.toNat).spage * 4096 + s.rs1 k.val n.toNat w % 4096) (leBytes 4 (s.rs2 k.val n.toNat w))) (rdOf w) (leNat (u.ssBytes (s.clvSsid k.val n.toNat) ((s.th k.val n.toNat).spage * 4096 + s.rs1 k.val n.toNat w % 4096) 4))))) ∧
  (∀ (k : Fin 16) (n : BitVec 7) (w : Nat) (len : Nat) (s : State), s.runs k.val n.toNat .pgrPref w len = true → s.rangeFault (s.clvSsid k.val n.toNat) (s.rs1 k.val n.toNat w % 2 ^ 30 * 4096) = none → (s.page (s.pageKey (s.clvSsid k.val n.toNat) (s.rs1 k.val n.toNat w % 2 ^ 30))).settled = false → 
      exec (.pgrPref k n) s = .next (s.ended k.val n.toNat len (.next (s.startFill (s.pageKey (s.clvSsid k.val n.toNat) (s.rs1 k.val n.toNat w % 2 ^ 30))) 0 0))) ∧
  (∀ (k : Fin 16) (n : BitVec 7) (w : Nat) (len : Nat) (s : State), s.runs k.val n.toNat .pgrPref w len = true → (s.rangeFault (s.clvSsid k.val n.toNat) (s.rs1 k.val n.toNat w % 2 ^ 30 * 4096)).isSome = true → 
      exec (.pgrPref k n) s = .next (s.ended k.val n.toNat len (.next s 0 0)))

/-- Message registers lock, unlock, read and write, threads wait, end and wake, and the supervisor reads notifications, acts on Faulted threads, force-releases registers and reads thread states, as R471 to R485 say. -/
def Obligations.ThreadInstructions : Prop :=
  (∀ (k : Fin 16) (n : BitVec 7) (w : Nat) (len : Nat) (s : State), s.runs k.val n.toNat .msgLock w len = true → (s.msg k.val (s.rs1 k.val n.toNat w % 64)).locked = false → 
      exec (.msgLock k n) s = .next (s.ended k.val n.toNat len (.next (s.setMsg k.val (s.rs1 k.val n.toNat w % 64) { s.msg k.val (s.rs1 k.val n.toNat w % 64) with locked := true, owner := n.toNat, poisoned := false, waiters := [] }) (rdOf w) (if (s.msg k.val (s.rs1 k.val n.toNat w % 64)).poisoned then 4 else 0)))) ∧
  (∀ (k : Fin 16) (n : BitVec 7) (w : Nat) (len : Nat) (s : State), s.runs k.val n.toNat .msgLock w len = true → (s.msg k.val (s.rs1 k.val n.toNat w % 64)).locked = true → 
      exec (.msgLock k n) s = .next (s.ended k.val n.toNat len (.next (s.setMsg k.val (s.rs1 k.val n.toNat w % 64) { s.msg k.val (s.rs1 k.val n.toNat w % 64) with waiters := (s.msg k.val (s.rs1 k.val n.toNat w % 64)).waiters.filter (· != n.toNat) ++ [n.toNat] }) (rdOf w) (1 + b2n ((s.th k.val (s.msg k.val (s.rs1 k.val n.toNat w % 64)).owner).state = 6) * 2 + (s.msg k.val (s.rs1 k.val n.toNat w % 64)).owner * 2 ^ 8)))) ∧
  (∀ (k : Fin 16) (n : BitVec 7) (w : Nat) (len : Nat) (s : State), s.runs k.val n.toNat .msgUnlock w len = true → s.holdsMsg k.val n.toNat (s.rs1 k.val n.toNat w % 64) = true → 
      exec (.msgUnlock k n) s = .next (s.ended k.val n.toNat len (.next (s.releaseMsg k.val (s.rs1 k.val n.toNat w % 64) false) 0 0))) ∧
  (∀ (k : Fin 16) (n : BitVec 7) (w : Nat) (len : Nat) (s : State), s.runs k.val n.toNat .msgUnlock w len = true → s.holdsMsg k.val n.toNat (s.rs1 k.val n.toNat w % 64) = false → 
      exec (.msgUnlock k n) s = .next (s.ended k.val n.toNat len (.fault s 3 0 0))) ∧
  (∀ (k : Fin 16) (n : BitVec 7) (w : Nat) (len : Nat) (s : State), s.runs k.val n.toNat .msgRd w len = true → s.holdsMsg k.val n.toNat (s.rs1 k.val n.toNat w % 64) = true → 
      exec (.msgRd k n) s = .next (s.ended k.val n.toNat len (.next s (rdOf w) (if bitAt (s.rs1 k.val n.toNat w) 6 then (s.msg k.val (s.rs1 k.val n.toNat w % 64)).value / 2 ^ 32 else (s.msg k.val (s.rs1 k.val n.toNat w % 64)).value % 2 ^ 32)))) ∧
  (∀ (k : Fin 16) (n : BitVec 7) (w : Nat) (len : Nat) (s : State), s.runs k.val n.toNat .msgRd w len = true → s.holdsMsg k.val n.toNat (s.rs1 k.val n.toNat w % 64) = false → 
      exec (.msgRd k n) s = .next (s.ended k.val n.toNat len (.fault s 3 0 0))) ∧
  (∀ (k : Fin 16) (n : BitVec 7) (w : Nat) (len : Nat) (s : State), s.runs k.val n.toNat .msgWr w len = true → s.holdsMsg k.val n.toNat (s.rs1 k.val n.toNat w % 64) = true → bitAt (s.rs1 k.val n.toNat w) 6 = false → 
      exec (.msgWr k n) s = .next (s.ended k.val n.toNat len (.next (s.setMsg k.val (s.rs1 k.val n.toNat w % 64) { s.msg k.val (s.rs1 k.val n.toNat w % 64) with value := (s.msg k.val (s.rs1 k.val n.toNat w % 64)).value / 2 ^ 32 * 2 ^ 32 + s.rs2 k.val n.toNat w }) 0 0))) ∧
  (∀ (k : Fin 16) (n : BitVec 7) (w : Nat) (len : Nat) (s : State), s.runs k.val n.toNat .msgWr w len = true → s.holdsMsg k.val n.toNat (s.rs1 k.val n.toNat w % 64) = true → bitAt (s.rs1 k.val n.toNat w) 6 = true → 
      exec (.msgWr k n) s = .next (s.ended k.val n.toNat len (.next (s.setMsg k.val (s.rs1 k.val n.toNat w % 64) { s.msg k.val (s.rs1 k.val n.toNat w % 64) with value := (s.msg k.val (s.rs1 k.val n.toNat w % 64)).value % 2 ^ 32 + s.rs2 k.val n.toNat w * 2 ^ 32 }) 0 0))) ∧
  (∀ (k : Fin 16) (n : BitVec 7) (w : Nat) (len : Nat) (s : State), s.runs k.val n.toNat .clvWait w len = true → s.compareDue k.val n.toNat = false → s.wakeCauses k.val n.toNat = 0 → 
      exec (.clvWait k n) s = .next (s.ended k.val n.toNat len (.stay (s.setTh k.val n.toNat { s.th k.val n.toNat with state := 4, pc := ((s.th k.val n.toNat).pc + 4) % 2 ^ 32, waitRd := rdOf w })))) ∧
  (∀ (k : Fin 16) (n : BitVec 7) (w : Nat) (len : Nat) (s : State), s.runs k.val n.toNat .clvWait w len = true → s.compareDue k.val n.toNat = false → s.wakeCauses k.val n.toNat ≠ 0 → 
      exec (.clvWait k n) s = .next (s.ended k.val n.toNat len (.next (s.setTh k.val n.toNat { s.th k.val n.toNat with
        cause := s.wakeCauses k.val n.toNat, latched := (s.th k.val n.toNat).latched - ((s.th k.val n.toNat).latched &&& s.wakeCauses k.val n.toNat) }) (rdOf w) (s.wakeCauses k.val n.toNat)))) ∧
  (∀ (k : Fin 16) (n : BitVec 7) (w : Nat) (len : Nat) (s : State), s.runs k.val n.toNat .clvDone w len = true → n ≠ 0 → 
      exec (.clvDone k n) s = .next (s.ended k.val n.toNat len (.stay ((((s.bump (R.CLV_DONE k.val)).cloveDrop k.val n.toNat (R.CLV_DONE_DROPS k.val)).releaseLocks k.val n.toNat).freeThread k.val n.toNat)))) ∧
  (∀ (k : Fin 16) (n : BitVec 7) (w : Nat) (len : Nat) (s : State), s.runs k.val n.toNat .clvWake w len = true → 
      exec (.clvWake k n) s = .next (s.ended k.val n.toNat len (.next (s.postWake k.val (s.rs1 k.val n.toNat w % 128)) 0 0))) ∧
  (∀ (k : Fin 16) (n : BitVec 7) (w : Nat) (len : Nat) (s : State), s.runs k.val n.toNat .supNext w len = true → n = 0 → (s.rs1 k.val n.toNat w) % 16 = 0 → (s.cl k.val).inSlice 0 (s.rs1 k.val n.toNat w) 16 = true → (s.cl k.val).notes = [] → 
      exec (.supNext k n) s = .next (s.ended k.val n.toNat len (.next s (rdOf w) 0))) ∧
  (∀ (k : Fin 16) (n : BitVec 7) (w : Nat) (len : Nat) (e : List Word) (rest : List (List Word)) (s : State), s.runs k.val n.toNat .supNext w len = true → n = 0 → (s.rs1 k.val n.toNat w) % 16 = 0 → (s.cl k.val).inSlice 0 (s.rs1 k.val n.toNat w) 16 = true → (s.cl k.val).notes = e :: rest → 
      exec (.supNext k n) s = .next (s.ended k.val n.toNat len (.next ((s.setCl k.val { s.cl k.val with notes := rest, noteLost := (s.cl k.val).noteLost && !rest.isEmpty }).sliceWrite k.val 0 (s.rs1 k.val n.toNat w) (wordsBytes e)) (rdOf w) 1))) ∧
  (∀ (k : Fin 16) (n : BitVec 7) (w : Nat) (len : Nat) (s : State), s.runs k.val n.toNat .supAct w len = true → n = 0 → (s.th k.val (s.rs1 k.val n.toNat w % 128)).state = 5 → s.rs2 k.val n.toNat w = 0 → 
      exec (.supAct k n) s = .next (s.ended k.val n.toNat len (.next (s.restartThread k.val (s.rs1 k.val n.toNat w % 128)) 0 0))) ∧
  (∀ (k : Fin 16) (n : BitVec 7) (w : Nat) (len : Nat) (v : Nat) (l : Nat) (s : State), s.runs k.val n.toNat .supAct w len = true → n = 0 → (s.th k.val (s.rs1 k.val n.toNat w % 128)).state = 5 → s.rs2 k.val n.toNat w = 1 → s.clvFetch k.val (s.rs1 k.val n.toNat w % 128) = some (v, l) → 
      exec (.supAct k n) s = .next (s.ended k.val n.toNat len (.next (s.setTh k.val (s.rs1 k.val n.toNat w % 128) { s.th k.val (s.rs1 k.val n.toNat w % 128) with state := 2, pc := ((s.th k.val (s.rs1 k.val n.toNat w % 128)).pc + l) % 2 ^ 32 }) 0 0))) ∧
  (∀ (k : Fin 16) (n : BitVec 7) (w : Nat) (len : Nat) (s : State), s.runs k.val n.toNat .supFrel w len = true → n = 0 → 
      exec (.supFrel k n) s = .next (s.ended k.val n.toNat len (.next (s.forceRelease k.val (s.rs1 k.val n.toNat w % 64)).2 (rdOf w) (s.forceRelease k.val (s.rs1 k.val n.toNat w % 64)).1))) ∧
  (∀ (k : Fin 16) (n : BitVec 7) (w : Nat) (len : Nat) (s : State), s.runs k.val n.toNat .supState w len = true → n = 0 → 
      exec (.supState k n) s = .next (s.ended k.val n.toNat len (.next s (rdOf w) (s.threadWord k.val (s.rs1 k.val n.toNat w % 128))))) ∧
  (∀ (k : Fin 16) (n : BitVec 7) (w : Nat) (len : Nat) (s : State), s.runs k.val n.toNat .supState w len = true → n ≠ 0 → 
      exec (.supState k n) s = .next (s.ended k.val n.toNat len (.fault s 5 0 0))) ∧
  (∀ (k : Fin 16) (n : BitVec 7) (w : Nat) (len : Nat) (s : State), s.runs k.val n.toNat .base w len = true → 
      exec (.baseInstruction k n) s = .next (s.ended k.val n.toNat len (s.baseOp k.val n.toNat len w))) ∧
  (∀ (k : Fin 16) (n : BitVec 7) (w : Nat) (len : Nat) (s : State), s.runs k.val n.toNat .ecall w len = true → 
      exec (.ecall k n) s = .next (s.ended k.val n.toNat len (.stay (s.clvStop k.val n.toNat 0x02 0 0)))) ∧
  (∀ (k : Fin 16) (n : BitVec 7) (w : Nat) (len : Nat) (s : State), s.runs k.val n.toNat .ebreak w len = true → bitAt (s.reg R.TST_CLV_DBG_EN) k.val = false → 
      exec (.ebreak k n) s = .next (s.ended k.val n.toNat len (.fault s 5 0 0))) ∧
  (∀ (k : Fin 16) (n : BitVec 7) (w : Nat) (len : Nat) (s : State), s.runs k.val n.toNat .ebreak w len = true → bitAt (s.reg R.TST_CLV_DBG_EN) k.val = true → 
      exec (.ebreak k n) s = .next (s.ended k.val n.toNat len (.stay ((s.setReg (R.TST_CLV_HALT (k.val * 8 + n.toNat / 32)) (s.reg (R.TST_CLV_HALT (k.val * 8 + n.toNat / 32)) ||| 2 ^ (n.toNat % 32))).haltThread k.val n.toNat))))

/-- Buffers are allocated, shared, released, freed and transferred, blocked results return and compares are latched, as R347, R464, R465 and R471 say. -/
def Obligations.BufferInstructions : Prop :=
  (∀ (k : Fin 16) (n : BitVec 7) (w : Nat) (len : Nat) (s : State), s.runs k.val n.toNat .bufAlloc w len = true → 
      exec (.bufAlloc k n) s = .next (s.ended k.val n.toNat len (match s.allocBuf (clvReq k.val) (s.rs1 k.val n.toNat w) with
        | (some p, u) => .block (u.setTh k.val n.toNat { u.th k.val n.toNat with bufs := (u.th k.val n.toNat).bufs ++ [p] }) (rdOf w) p
        | (none, u) => .block u (rdOf w) 0xFFFFFFFF))) ∧
  (∀ (k : Fin 16) (n : BitVec 7) (w : Nat) (len : Nat) (u : State) (s : State), s.runs k.val n.toNat .bufShare w len = true → s.shareBuf (s.rs1 k.val n.toNat w) (clvReq k.val) (clvReq k.val) (clvMid k.val n.toNat) = (true, u) → 
      exec (.bufShare k n) s = .next (s.ended k.val n.toNat len (.block (u.setTh k.val n.toNat { u.th k.val n.toNat with bufs := (u.th k.val n.toNat).bufs ++ [s.rs1 k.val n.toNat w] }) 0 0))) ∧
  (∀ (k : Fin 16) (n : BitVec 7) (w : Nat) (len : Nat) (u : State) (s : State), s.runs k.val n.toNat .bufShare w len = true → s.shareBuf (s.rs1 k.val n.toNat w) (clvReq k.val) (clvReq k.val) (clvMid k.val n.toNat) = (false, u) → 
      exec (.bufShare k n) s = .next (s.ended k.val n.toNat len (.fault u 7 0 0))) ∧
  (∀ (k : Fin 16) (n : BitVec 7) (w : Nat) (len : Nat) (u : State) (s : State), s.runs k.val n.toNat .bufRelease w len = true → s.releaseBuf (s.rs1 k.val n.toNat w) (clvReq k.val) (clvMid k.val n.toNat) = (true, u) → 
      exec (.bufRelease k n) s = .next (s.ended k.val n.toNat len (.block (u.setTh k.val n.toNat { u.th k.val n.toNat with bufs := (u.th k.val n.toNat).bufs.erase (s.rs1 k.val n.toNat w) }) 0 0))) ∧
  (∀ (k : Fin 16) (n : BitVec 7) (w : Nat) (len : Nat) (u : State) (s : State), s.runs k.val n.toNat .bufRelease w len = true → s.releaseBuf (s.rs1 k.val n.toNat w) (clvReq k.val) (clvMid k.val n.toNat) = (false, u) → 
      exec (.bufRelease k n) s = .next (s.ended k.val n.toNat len (.fault u 7 0 0))) ∧
  (∀ (k : Fin 16) (n : BitVec 7) (w : Nat) (len : Nat) (u : State) (s : State), s.runs k.val n.toNat .bufFree w len = true → s.freeBufBy (s.rs1 k.val n.toNat w) (clvReq k.val) (clvMid k.val n.toNat) = (true, u) → 
      exec (.bufFree k n) s = .next (s.ended k.val n.toNat len (.block (u.setTh k.val n.toNat { u.th k.val n.toNat with bufs := (u.th k.val n.toNat).bufs.erase (s.rs1 k.val n.toNat w) }) 0 0))) ∧
  (∀ (k : Fin 16) (n : BitVec 7) (w : Nat) (len : Nat) (u : State) (s : State), s.runs k.val n.toNat .bufFree w len = true → s.freeBufBy (s.rs1 k.val n.toNat w) (clvReq k.val) (clvMid k.val n.toNat) = (false, u) → 
      exec (.bufFree k n) s = .next (s.ended k.val n.toNat len (.fault u 7 0 0))) ∧
  (∀ (k : Fin 16) (n : BitVec 7) (w : Nat) (len : Nat) (u : State) (s : State), s.runs k.val n.toNat .bufXfer w len = true → s.transferBuf (s.rs1 k.val n.toNat w) (clvReq k.val) (s.rs2 k.val n.toNat w % 2 ^ 12) (clvMid k.val n.toNat) = (true, u) → 
      exec (.bufXfer k n) s = .next (s.ended k.val n.toNat len (.block (u.setTh k.val n.toNat { u.th k.val n.toNat with bufs := (u.th k.val n.toNat).bufs.erase (s.rs1 k.val n.toNat w) }) 0 0))) ∧
  (∀ (k : Fin 16) (n : BitVec 7) (w : Nat) (len : Nat) (u : State) (s : State), s.runs k.val n.toNat .bufXfer w len = true → s.transferBuf (s.rs1 k.val n.toNat w) (clvReq k.val) (s.rs2 k.val n.toNat w % 2 ^ 12) (clvMid k.val n.toNat) = (false, u) → 
      exec (.bufXfer k n) s = .next (s.ended k.val n.toNat len (.fault u 7 0 0))) ∧
  (∀ (cluster : Fin 16) (f : CloveFrame) (rest : List CloveFrame) (n : Nat) (u : State) (s : State), (s.cl cluster.val).queue = f :: rest → f.ordered = false → f.desc = [] → s.cloveOpen cluster.val = true → s.pickThread cluster.val = some n → s.toCluster cluster.val f.pkt.ptr = (true, u) → 
      exec (.cloveDispatch cluster) s = .next (let k := cluster.val
        let base := (u.cl k).sliceBase n
        let desc := descOf f.pkt false (s.cl k).seq
        let v := (u.setCl k { u.cl k with queue := rest, seq := ((u.cl k).seq + 1) % 65536 }).sliceWrite k n base (wordsBytes desc)
        let pc := (v.prog k (u.cl k).bank).thrEntry
        let v := v.setTh k n { v.th k n with
            state := 2, pc := pc, armed := false, wakeEn := 1, spage := wd desc 11 % 2 ^ 30, latched := 0
            x := (((v.th k n).x.set 2 (w32 (base + (u.cl k).sliceSize))).set 10 (w32 base)).set 11 (w32 f.pkt.data.length)
            frame := some f.pkt, orig := some { f with pkt := f.pkt, desc := desc, seq := (s.cl k).seq }, bank := (u.cl k).bank, seq := (s.cl k).seq
            result := none, returned := false, bufs := [] }
        ((v.bump (R.CLV_DISPATCHED k)).clvTrace k n pc true).clvSettle k)) ∧
  (∀ (slot : Nat) (x : OrdSlot) (s : State), lookup s.clv.slots slot = some x → x.out = none → 
      exec (.orderedSlotTimeout slot) s = .next (s.resolveSlot (some slot))) ∧
  (∀ (cluster : Fin 16) (thread : BitVec 7) (r : Nat) (v : Nat) (s : State), (s.th cluster.val thread.toNat).result = some (r, v) → (s.th cluster.val thread.toNat).state = 3 → 
      exec (.blockedResultReturn cluster thread) s = .next ((s.setTh cluster.val thread.toNat ({ s.th cluster.val thread.toNat with state := 2, result := none }.wr r v)).clvSettle cluster.val)) ∧
  (∀ (cluster : Fin 16) (thread : BitVec 7) (r : Nat) (v : Nat) (s : State), (s.th cluster.val thread.toNat).result = some (r, v) → (s.th cluster.val thread.toNat).state = 6 → 
      exec (.blockedResultReturn cluster thread) s = .next (s.setTh cluster.val thread.toNat { s.th cluster.val thread.toNat with returned := true })) ∧
  (∀ (cluster : Fin 16) (thread : BitVec 7) (s : State), s.compareDue cluster.val thread.toNat = true → 
      exec (.compareReached cluster thread) s = .next (((s.setTh cluster.val thread.toNat { s.th cluster.val thread.toNat with armed := false }).latchWake cluster.val thread.toNat 0).clvSettle cluster.val))

/-- Programs are loaded, swapped and unloaded, the mode is set, the watchdog is enabled and expires, and a message register is released, as R477 to R492 say; whether an image verifies is left open by Config (log entry 4). -/
def Obligations.CloveProgramActs : Prop :=
  (∀ (mid : BitVec 13) (cluster : Fin 16) (s : State), s.gate mid.toNat (R.CLV_CL_CTL cluster.val) false = .open_ → (s.cl cluster.val).loaded = true → 
      exec (.supRestart mid cluster) s = .next ((s.restartSup cluster.val).clvSettle cluster.val)) ∧
  (∀ (mid : BitVec 13) (cluster : Fin 16) (on : Bool) (period : BitVec 16) (s : State), s.gate mid.toNat (R.CLV_WDOG_CTL cluster.val) false = .open_ → on = false → 
      exec (.clvWdogEnable mid cluster on period) s = .next (((s.setF (F.CLV_WDOG_CTL_period_us cluster.val) period.toNat).setF (F.CLV_WDOG_CTL_enable cluster.val) 0).dropClvClaim cluster.val 2)) ∧
  (∀ (mid : BitVec 13) (cluster : Fin 16) (on : Bool) (period : BitVec 16) (s : State), s.gate mid.toNat (R.CLV_WDOG_CTL cluster.val) false = .open_ → on = true → 10 ≤ period.toNat → (s.setF (F.CLV_WDOG_CTL_period_us cluster.val) period.toNat).claimFault (comparator cluster.val) (holderWord 0x0E 0x02 mid.toNat) = none → 
      exec (.clvWdogEnable mid cluster on period) s = .next (let k := cluster.val
        let u := ((s.setF (F.CLV_WDOG_CTL_period_us k) period.toNat).takeClaim (comparator k) (holderWord 0x0E 0x02 mid.toNat)).setF (F.CLV_WDOG_CTL_enable k) 1
        u.setCl k { u.cl k with petted := false })) ∧
  (∀ (mid : BitVec 13) (cluster : Fin 16) (on : Bool) (period : BitVec 16) (s : State), s.gate mid.toNat (R.CLV_WDOG_CTL cluster.val) false = .open_ → on = true → period.toNat < 10 → 
      exec (.clvWdogEnable mid cluster on period) s = .next ((((s.setF (F.CLV_WDOG_CTL_period_us cluster.val) period.toNat).setF (F.CLV_WDOG_CTL_enable cluster.val) 0).dropClvClaim cluster.val 2).setF
        (F.CLV_WDOG_CTL_reason cluster.val) 0x0E08)) ∧
  (∀ (mid : BitVec 13) (cluster : Fin 16) (on : Bool) (period : BitVec 16) (f : Nat × Nat) (s : State), s.gate mid.toNat (R.CLV_WDOG_CTL cluster.val) false = .open_ → on = true → 10 ≤ period.toNat → (s.setF (F.CLV_WDOG_CTL_period_us cluster.val) period.toNat).claimFault (comparator cluster.val) (holderWord 0x0E 0x02 mid.toNat) = some f → 
      exec (.clvWdogEnable mid cluster on period) s = .next (let k := cluster.val
        let u := s.setF (F.CLV_WDOG_CTL_period_us k) period.toNat
        (((u.claimRefused (comparator k) f.2).setF (F.CLV_WDOG_CTL_enable k) 0).dropClvClaim k 2).setF (F.CLV_WDOG_CTL_reason k) f.1)) ∧
  (∀ (cluster : Fin 16) (s : State), s.rfb (F.CLV_WDOG_CTL_enable cluster.val) = true → s.islandDown cluster.val = false → (s.cl cluster.val).petted = false → 
      exec (.wdogExpiry cluster) s = .next (((s.setF (F.CLV_WDOG_CTL_expired cluster.val) 1).bump (R.CLV_WDOG_EXPIRED cluster.val)).raiseEs (288 + 4 * cluster.val + 3))) ∧
  (∀ (cluster : Fin 16) (s : State), s.rfb (F.CLV_WDOG_CTL_enable cluster.val) = true → s.islandDown cluster.val = false → (s.cl cluster.val).petted = true → 
      exec (.wdogExpiry cluster) s = .next (s.setCl cluster.val { s.cl cluster.val with petted := false })) ∧
  (Runs .clvProgramLoad clvProgramLoadSpec (fun c s => c.reserved [(0, 0x07FF000F)] = none ∧ c.p 1 % 64 = 0 ∧ c.p 3 ≠ 0 ∧ s.clvGone (c.p 0 % 16) = false ∧ (s.cl (c.p 0 % 16)).loaded = false)
      (fun c s => let k := c.p 0 % 16
      let img := slice c.data 0 (c.p 3)
      let s := s.readImage c none
      let claims := (0x04000010 + k, holderWord 0x0E 0x03 c.mid) :: (if (s.cl k).wide && bitAt (progWord img 1) 4 then [(comparator k, holderWord 0x0E 0x01 c.mid)] else [])
      let mode := progWord img 1 % 4
      let st := (s.inst (field (c.p 0) 26 16)).state
      let t := match s.imageFault 3 img progLayout 7 with
        | some f => s.reply c c.units f.1 f.2.1 f.2.2
        | none =>
          if mode = 3 ∨ (mode = 1 ∧ (s.cl k).wide = true) ∨ (mode = 2 ∧ (s.cl k).wide = false) then s.reply c c.units 0x20 0x0E03 []
          else if bitAt (progWord img 1) 5 = false ∧ field (c.p 0) 26 16 ≠ 0 ∧ (st = 0 ∨ st = 5) then s.reply c c.units 0x20 0x0E05 []
          else match s.firstRefused claims with
            | some (res, reason, holder) => (s.claimRefused res holder).reply c c.units 0x20 reason (if reason = 0x1F01 then [w32 res, w32 holder] else [])
            | none =>
              let u := s.takeClaims claims
              ((u.setCl k { u.cl k with
                loaded := true, bank := 0, progs := [(0, progOfImage img (field (c.p 0) 26 16))], mem := [], msgs := [], notes := []
                noteLost := false, busy := .none, seq := 0 }).startSup k 0).replyPending c [⟨.cluster, k⟩]
      match t.findPend (·.cmd.opcode = 0x0700) with
      | some p => (t.dropClaim (0x04000010 + p.cmd.p 0 % 16)).finish p 0 0 []
      | none => t)) ∧
  (Runs .clvProgramSwap clvProgramSwapSpec (fun c s => c.reserved [(0, 0x07FF000F)] = none ∧ c.p 1 % 64 = 0 ∧ c.p 3 ≠ 0 ∧ s.clvGone (c.p 0 % 16) = false ∧ (s.cl (c.p 0 % 16)).loaded = true ∧ (s.cl (c.p 0 % 16)).busy ≠ .draining ∧ (s.cl (c.p 0 % 16)).busy ≠ .writing)
      (fun c s => let k := c.p 0 % 16
      let img := slice c.data 0 (c.p 3)
      let s := s.readImage c none
      let claims := (0x04000010 + k, holderWord 0x0E 0x04 c.mid) :: (if (s.cl k).wide && bitAt (progWord img 1) 4 then [(comparator k, holderWord 0x0E 0x01 c.mid)] else [])
      let mode := progWord img 1 % 4
      let st := (s.inst (field (c.p 0) 26 16)).state
      let t := match s.imageFault 3 img progLayout 7 with
        | some f => s.reply c c.units f.1 f.2.1 f.2.2
        | none =>
          if mode = 3 ∨ (mode = 1 ∧ (s.cl k).wide = true) ∨ (mode = 2 ∧ (s.cl k).wide = false) then s.reply c c.units 0x20 0x0E03 []
          else if bitAt (progWord img 1) 5 = false ∧ field (c.p 0) 26 16 ≠ 0 ∧ (st = 0 ∨ st = 5) then s.reply c c.units 0x20 0x0E05 []
          else match s.firstRefused claims with
            | some (res, reason, holder) => (s.claimRefused res holder).reply c c.units 0x20 reason (if reason = 0x1F01 then [w32 res, w32 holder] else [])
            | none =>
              let u := s.takeClaims claims
              (u.setCl k { u.cl k with
                progs := insertKey (u.cl k).progs (1 - (u.cl k).bank) (progOfImage img (field (c.p 0) 26 16)), busy := .writing }).replyPending c [⟨.cluster, k⟩]
      t)) ∧
  (∀ (cluster : Fin 16) (s : State), (s.cl cluster.val).busy = .writing → (List.range 127).any (fun j => 2 ≤ (s.th cluster.val (j + 1)).state && (s.th cluster.val (j + 1)).bank != 1 - (s.cl cluster.val).bank) = true → 
      exec (.swapDrainEnd cluster) s = .next (s.setCl cluster.val { s.cl cluster.val with bank := 1 - (s.cl cluster.val).bank, busy := .draining })) ∧
  (∀ (cluster : Fin 16) (s : State), ((s.swapSwitch cluster.val).cl cluster.val).busy = .draining → (List.range 127).all (fun j => ((s.swapSwitch cluster.val).th cluster.val (j + 1)).state < 2 || ((s.swapSwitch cluster.val).th cluster.val (j + 1)).bank == ((s.swapSwitch cluster.val).cl cluster.val).bank) = true → 
      exec (.swapDrainEnd cluster) s = .next (let k := cluster.val
        let c := (s.swapSwitch k).cl k
        let u := ((s.swapSwitch k).zeroSlice k 0).startSup k c.bank
        let c := u.cl k
        let u := u.setCl k { c with busy := .none, progs := eraseKey c.progs (1 - c.bank) }
        let u := if (u.prog k c.bank).usesTimer then u else u.dropClvClaim k 1
        match u.findPend fun p => p.cmd.opcode = 0x0701 && p.cmd.p 0 % 16 = k with
        | some p => ((u.dropClaim (0x04000010 + k)).finish p 0 0 []).clvSettle k
        | none => (u.dropClaim (0x04000010 + k)).clvSettle k)) ∧
  (Runs .clvProgramUnload clvProgramUnloadSpec (fun c s => c.reserved [(0, 0x10F)] = none ∧ s.clvGone (c.p 0 % 16) = false ∧ (s.cl (c.p 0 % 16)).loaded = true)
      (fun c s => let k := c.p 0 % 16
      let u := (s.setCl k { s.cl k with busy := .unloading, queue := [] }).reoffer k (s.cl k).queue
      let u := if bitAt (c.p 0) 8 then (List.range 128).foldl (fun u n => if n != 0 && (u.th k n).state ≥ 2 then u.restartThread k n else u) u else u
      (List.range 16).foldl State.settleUnload (u.replyPending c [⟨.cluster, k⟩]))) ∧
  (Answers .clvClusterMode clvClusterModeSpec (fun c s => c.reserved [(0, 0x10F)] = none ∧ s.clvGone (c.p 0 % 16) = false ∧ (s.cl (c.p 0 % 16)).loaded = false)
      (fun c s => s.setCl (c.p 0 % 16) { s.cl (c.p 0 % 16) with wide := bitAt (c.p 0) 8 }) (fun c s => [])) ∧
  (Answers .clvMsgregRelease clvMsgregReleaseSpec (fun c s => c.reserved [(0, 0x3F000F)] = none ∧ s.clvGone (c.p 0 % 16) = false)
      (fun c s => (s.forceRelease (c.p 0 % 16) (field (c.p 0) 21 16)).2.clvSettle (c.p 0 % 16)) (fun c s => results [(s.forceRelease (c.p 0 % 16) (field (c.p 0) 21 16)).1]))

/-- A trigger starts a routine, a microword executes, a trap resumes or aborts, a timer and a posted operation bring their triggers, and a drive command that times out is aborted, as R498 to R510 and R525 say. -/
def Obligations.SequencerActs : Prop :=
  (∀ (seq : Fin 32) (conn : BitVec 16) (tr : Trigger) (rest : List Trigger) (s : State), tr.conn = conn.toNat → (s.seq seq.val).retired = false → (s.seq seq.val).stopped = none → (s.group (seq.val / 8)).started = true → s.islandDown 37 = false → (s.seq seq.val).queue = tr :: rest → s.triggerReady (s.seq seq.val) tr = true → 
      exec (.routineStart seq conn) s = .next (let q := seq.val
        let cn := s.conn tr.conn
        let entry := cn.bind (·.entries.head?)
        let f := (s.drawRegs 31).2.draw.1
        let flags := 1 + f % 64 * 2 + b2n tr.frame.isSome * 2 ^ 7 + b2n entry.isSome * 2 ^ 8 + b2n (tr.status = 0) * 2 ^ 9
          + b2n ((cn.map (·.timer)).getD false) * 2 ^ 10 + f / 64 % 16 * 2 ^ 12
        let x := (s.drawRegs 31).2.draw.2.context tr.conn
        let r : Routine := {
            conn := tr.conn, kind := tr.kind, bank := s.startBank q, upc := ((s.group (q / 8)).bank (s.startBank q)).entries.getD tr.kind 0, g := 0#64 :: (s.drawRegs 31).1
            imm := f / 1024 % 65536, flags := flags, ctx := x.1.toOption.getD [], ctxFault := (match x.1 with
              | .error k => some k
              | .ok _ => none), frame := tr.frame, entry := entry
            iid := (cn.map (·.owner)).getD 0, gen := tr.gen }
        (x.2.setSeq q { s.seq q with queue := rest, running := insertKey (s.seq q).running tr.conn r }).refetch q)) ∧
  (∀ (seq : Fin 32) (conn : BitVec 16) (parity : Option Bool) (steps : List ProtoStep) (r : Routine) (s : State), (s.seq seq.val).stopped = none → s.islandDown 37 = false → lookup (s.seq seq.val).running conn.toNat = some r → 
      exec (.microwordExecute seq conn parity steps) s = .next (let q := seq.val
        let c := conn.toNat
        match microword s q r parity with
        | .error (cause, code) => (s.setSeq q { s.seq q with upc := r.upc }).takeTrap q r cause code
        | .ok (u, r', fin, trap) =>
          let u := (steps.foldl (fun u x => u.protoStep q c x) (u.setSeq q { u.seq q with upc := r.upc, running := insertKey (u.seq q).running c r' })).settleKeys
          match lookup (u.seq q).running c with
          | none => u
          | some r =>
            match trap with
            | some code => u.takeTrap q r 1 code
            | none => if fin then u.endRoutine q r else u)) ∧
  (∀ (conn : BitVec 16) (v : Conn) (s : State), s.conn conn.toNat = some v → v.timer = true → s.islandDown 37 = false → 
      exec (.connectionTimerExpiry conn) s = .next ((s.setConn conn.toNat { v with timer := false }).trigger v.group { kind := 2, conn := conn.toNat, gen := (s.inst v.owner).gen })) ∧
  (∀ (mid : BitVec 13) (seq : Fin 32) (slot : Fin 4) (t : TrapSlot) (s : State), s.gate mid.toNat (R.PSQ_TRAP_CTL seq.val) false = .open_ → lookup (s.seq seq.val).slots slot.val = some t → 
      exec (.trapResume mid seq slot) s = .next (let u := (s.setF (F.PSQ_TRAP_CTL_slot seq.val) slot.val).setF (F.PSQ_TRAP_CTL_action seq.val) 0
        (u.setSeq seq.val { s.seq seq.val with
          slots := eraseKey (s.seq seq.val).slots slot.val, running := insertKey (s.seq seq.val).running (resumed t).conn (resumed t) }).slotFreed seq.val)) ∧
  (∀ (mid : BitVec 13) (seq : Fin 32) (slot : Fin 4) (t : TrapSlot) (s : State), s.gate mid.toNat (R.PSQ_TRAP_CTL seq.val) false = .open_ → lookup (s.seq seq.val).slots slot.val = some t → 
      exec (.trapAbort mid seq slot) s = .next (let u := (s.setF (F.PSQ_TRAP_CTL_slot seq.val) slot.val).setF (F.PSQ_TRAP_CTL_action seq.val) 1
        (((((u.setSeq seq.val { s.seq seq.val with slots := eraseKey (s.seq seq.val).slots slot.val }).dropFrame t.routine.frame).abortConn t.routine).slotFreed
          seq.val).trapBoundary seq.val).settleConn t.routine.conn)) ∧
  (∀ (index : BitVec 16) (data : Option (List Byte)) (d : DriveCmd) (s : State), s.psq.drive[index.toNat]? = some d → 
      exec (.portOperationComplete true index data) s = .next (s.driveEnd d 0)) ∧
  (∀ (index : BitVec 16) (data : Option (List Byte)) (o : PostedOp) (s : State), s.psq.posted[index.toNat]? = some o → o.port = 4 → ((o.sub = 0 || o.sub = 2) && s.openTag.isNone) = false → 
      exec (.portOperationComplete false index data) s = .next (s.postedEnd o data)) ∧
  (∀ (index : BitVec 16) (d : DriveCmd) (s : State), s.psq.drive[index.toNat]? = some d → d.entry = none → 
      exec (.driveCommandTimeout index) s = .next ((s.draw.2.emit (.drive d.port (abortWords (field (wd d.words 0) 31 16) (s.draw.1 % 65536)))).driveEnd d 0x0212)) ∧
  (∀ (index : BitVec 16) (d : DriveCmd) (i : Nat) (s : State), s.psq.drive[index.toNat]? = some d → d.entry = some i → 
      exec (.driveCommandTimeout index) s = .next (((s.draw.2.emit (.drive d.port (abortWords (field (wd d.words 0) 31 16) (s.draw.1 % 65536)))).completeAt d.conn i [] 0x0212 0).driveEnd d 0x0212)) ∧
  (∀ (qid : BitVec 16) (words : List Word) (c : Nat) (v : Conn) (s : State), s.ringConn qid.toNat = some c → s.conn c = some v → s.mayFetch qid.toNat 4 = true → wd words 0 % 2 ^ 16 ≠ 0xFFFF → (s.q qid.toNat).lengthBad (wd words 1 % 2 ^ 16) 0 = false → v.takes (v.send != qid.toNat) (wd words 0 % 2 ^ 16) = true → (if v.kind = .qp then (12 + 4 * (wd words 8 % 256) + 15) / 16 else (24 + 4 * (wd words 20 % 256) + 15) / 16) ≤ wd words 1 % 2 ^ 16 → (match v.kind with
        | .qp => rdmaFault words
        | .nvme => nvmeFault words
        | .local => blockEntryFault v words) = none → v.state ≠ 4 → v.send = qid.toNat → 
      exec (.workEntryFetch qid words) s = .next (let q := qid.toNat
        let len := wd words 1 % 2 ^ 16
        let e : WorkEntry := { q := q, gen := (s.q q).qgen, iid := (s.q q).iid, igen := (s.inst (s.q q).iid).gen, index := (s.q q).fi, units := len, words := words }
        let u := s.takeUnits q len (wd words 0) (field (wd words 1) 31 16) (bitAt (wd words 0) 17 || (s.q q).notifyAll)
        ((u.setConn c { v with entries := v.entries ++ [e] }).trigger v.group { kind := 1, conn := c, gen := ((u.setConn c { v with entries := v.entries ++ [e] }).inst v.owner).gen }).fetched q))

/-- Microcode is staged and swapped, and queue pairs, regions, controller connections and attachments are created, changed and destroyed as R511 to R514 and R526 say; numbers that the device picks are left open (log entry 2), whether an image verifies too (log entry 4). -/
def Obligations.UcodeCommands : Prop :=
  (Runs .psqUcodeStage psqUcodeStageSpec (fun c s => c.reserved [(0, 0xF)] = none ∧ c.p 0 ≠ 0 ∧ c.p 1 % 64 = 0 ∧ c.p 3 ≠ 0 ∧ c.p 3 ≤ 0x40000)
      (fun c s => let s := s.readImage c none
      match s.firstRefused ((maskGroups (c.p 0)).map fun g => (ucodeLock g, holderWord 0x0F 0x01 c.mid)) with
        | some (res, reason, holder) => (s.claimRefused res holder).reply c c.units 0x20 reason (if reason = 0x1F01 then [w32 res, w32 holder] else [])
        | none =>
          match s.imageFault 2 (slice c.data 0 (c.p 3)) ucodeLayout 7 with
          | some f => s.reply c c.units f.1 f.2.1 f.2.2
          | none =>
            let u := s.takeClaims ((maskGroups (c.p 0)).map fun g => (ucodeLock g, holderWord 0x0F 0x01 c.mid))
            ((maskGroups (c.p 0)).foldl (fun s' g => s'.markMram (ucodeSlot (1 - (s'.group g).active) g) true) u).replyPending c [⟨.group, c.p 0⟩])) ∧
  (∀ (group : Fin 4) (p : PendCmd) (s : State), s.findPend (fun p => p.cmd.opcode = 0x0800 && bitAt (p.cmd.p 0) group.val) = some p → 
      exec (.ucodeStageEnd group) s = .next (((maskGroups (p.cmd.p 0)).foldl (fun u g => u.stageGroup (slice p.cmd.data 0 (p.cmd.p 3)) g) s).finish p 0 0
        (results [1 - (s.group ((maskGroups (p.cmd.p 0)).headD 0)).active]))) ∧
  (Runs .psqBankSwap psqBankSwapSpec (fun c s => c.reserved [(0, 0xF)] = none ∧ c.p 0 ≠ 0 ∧ ((maskGroups (c.p 0)).all fun g => !(s.group g).swapping && ((s.group g).bank (1 - (s.group g).active)).staged
        && !((s.group g).started && ((s.group g).bank (1 - (s.group g).active)).format != ((s.group g).bank (s.group g).active).format)) = true ∧
        s.firstRefused ((maskGroups (c.p 0)).map fun g => (ucodeLock g, holderWord 0x0F 0x02 c.mid)) = none)
      (fun c s => (List.range 4).foldl State.settleSwap (((maskGroups (c.p 0)).foldl (fun u g => u.setGroup g { u.group g with swapping := true, switched := [] })
        (s.takeClaims ((maskGroups (c.p 0)).map fun g => (ucodeLock g, holderWord 0x0F 0x02 c.mid)))).replyPending c [⟨.group, c.p 0⟩]))) ∧
  (Runs .rdmaQpCreate rdmaQpCreateSpec (fun c s => c.reserved [(1, 0x3001F), (2, 0xFFFF)] = none ∧ field (c.p 1) 4 0 ≤ 16 ∧ c.p 0 = 0xFFFFFFFF ∧ s.groupDown (field (c.p 1) 17 16) = false ∧ s.connCount < 65534)
      (fun c s => let v : Conn := { kind := .qp, group := field (c.p 1) 17 16, owner := c.target, gen := (s.inst c.target).gen, leaf := c.p 2, params := [(101, w32 (field (c.p 1) 4 0))] }
      match searchFrom (fun k => (s.draw.2.conn (k + 2)).isNone) 65534 s.draw.1 65534 with
      | none => s.draw.2.reply c c.units 0x20 0x0F0C []
      | some k =>
        let u := (s.draw.2.setConn (k + 2) v).trigger v.group { kind := 4, conn := k + 2, gen := v.gen }
        let u := (u.ensureFetch v.send).ensureFetch v.recv
        u.reply c c.units 0 0 (results [k + 2]))) ∧
  (Runs .rdmaQpCreate rdmaQpCreateSpec (fun c s => c.reserved [(1, 0x3001F), (2, 0xFFFF)] = none ∧ field (c.p 1) 4 0 ≤ 16 ∧ c.p 0 ≠ 0xFFFFFFFF ∧ (s.freeRing c.target (c.p 0 % 2 ^ 16)).isSome = true ∧
        (s.recvRing c.target (field (c.p 0) 31 16)).isSome = true ∧ s.freeRing c.target (c.p 0 % 2 ^ 16) ≠ s.recvRing c.target (field (c.p 0) 31 16) ∧ s.groupDown (field (c.p 1) 17 16) = false ∧ s.connCount < 65534)
      (fun c s => let v : Conn := { kind := .qp, group := field (c.p 1) 17 16, owner := c.target, gen := (s.inst c.target).gen, leaf := c.p 2, params := [(101, w32 (field (c.p 1) 4 0))], send := (s.freeRing c.target (c.p 0 % 2 ^ 16)).getD 65536, recv := (s.recvRing c.target (field (c.p 0) 31 16)).getD 65536 }
      match searchFrom (fun k => (s.draw.2.conn (k + 2)).isNone) 65534 s.draw.1 65534 with
      | none => s.draw.2.reply c c.units 0x20 0x0F0C []
      | some k =>
        let u := (s.draw.2.setConn (k + 2) v).trigger v.group { kind := 4, conn := k + 2, gen := v.gen }
        let u := (u.ensureFetch v.send).ensureFetch v.recv
        u.reply c c.units 0 0 (results [k + 2]))) ∧
  (Answers .rdmaQpModify rdmaQpModifySpec (fun c s => c.reserved [(0, 0x7FFFF), (1, 0xFFFC1F), (2, 0xFFFFFF), (3, 0xFFFFFF), (15, 0xFFFF)] = none ∧ field (c.p 0) 18 16 = 2 ∧ 1 ≤ c.p 1 % 8 ∧ c.p 1 % 8 ≤ 5 ∧ ((s.ownConn c (c.p 0 % 2 ^ 16) .qp).any fun v => qpMove v.state 2) = true)
      (fun c s => match s.ownConn c (c.p 0 % 2 ^ 16) .qp with
      | some v => s.qpMoved c (c.p 0 % 2 ^ 16) v 2
      | none => s) (fun c s => [])) ∧
  (Answers .rdmaQpModify rdmaQpModifySpec (fun c s => c.reserved [(0, 0x7FFFF)] = none ∧ field (c.p 0) 18 16 = 4 ∧ ((s.ownConn c (c.p 0 % 2 ^ 16) .qp).any fun v => decide (1 ≤ v.state) && decide (v.state ≤ 3)) = true)
      (fun c s => match s.ownConn c (c.p 0 % 2 ^ 16) .qp with
      | some v => (s.qpError (c.p 0 % 2 ^ 16)).trigger v.group { kind := 5, conn := c.p 0 % 2 ^ 16, gen := ((s.qpError (c.p 0 % 2 ^ 16)).inst v.owner).gen }
      | none => s) (fun c s => [])) ∧
  (Runs .rdmaQpDestroy (destroySpec 0x0812 .qp fun n s => s.closeConn n 0x0206) (fun c s => c.reserved [(0, 0xFFFF)] = none ∧ (s.ownConn c (c.p 0) .qp).isSome = true)
      (fun c s => ((s.closeConn (c.p 0) 0x0206).replyPending c [⟨.conn, c.p 0 % 2 ^ 16⟩]).finishGone)) ∧
  (Runs .rdmaMrRegister rdmaMrRegisterSpec (fun c s => c.reserved [(4, 0xFFFFF807)] = none ∧ 0 < c.p 2 + c.p 3 * 2 ^ 32 ∧ c.p 2 + c.p 3 * 2 ^ 32 ≤ 2 ^ 40 ∧ (s.psq.regions.filter (·.2.owner = c.target)).length < 65536 ∧ s.psq.regions.length < 1048576)
      (fun c s => let u := s.draw.2.draw.2
      let v := s.draw.2.draw.1
      match searchFrom (fun k => (lookup u.psq.regions k).isNone) 1048576 s.draw.1 1048576 with
      | none => u.reply c c.units 0x14 0 []
      | some k =>
        let m : MemRegion := { variant := v % 256, owner := c.target, addr := c.p 0 + c.p 1 * 2 ^ 32, bytes := c.p 2 + c.p 3 * 2 ^ 32, rights := c.p 4 % 8, pasid := field (c.p 4) 31 11 }
        ({ u with psq := { u.psq with regions := insertKey u.psq.regions k m } }).reply c c.units 0 0 (results [k * 256 + v % 256]))) ∧
  (Runs .rdmaMrDeregister rdmaMrDeregisterSpec (fun c s => ((s.region? (c.p 0)).any fun m => m.owner = c.target) = true)
      (fun c s => match s.region? (c.p 0) with
      | none => s
      | some m => (({ s with psq := { s.psq with regions := insertKey s.psq.regions (c.p 0 / 256) { m with valid := false } } }).replyPending c [⟨.mr, c.p 0⟩]).settleKeys)) ∧
  (Runs .nvmeCtrlConnect nvmeCtrlConnectSpec (fun c s => c.reserved [(0, 0x103FFFF), (1, 0xFFFF), (10, 0xF), (11, 0xFFFFF)] = none ∧ 1 ≤ field (c.p 15) 31 16 ∧ field (c.p 15) 31 16 ≤ 1024 ∧ bitAt (c.p 0) 24 = false ∧ bitAt (c.p 10) 3 = false ∧ (s.freeRing c.target (c.p 0 % 2 ^ 16)).isSome = true ∧ s.groupDown (field (c.p 0) 17 16) = false ∧ s.connCount < 65534)
      (fun c s => let v : Conn := { kind := .nvme, group := field (c.p 0) 17 16, owner := c.target, gen := (s.inst c.target).gen, leaf := c.p 15 % 2 ^ 16, connected := false, send := (s.freeRing c.target (c.p 0 % 2 ^ 16)).getD 65536, params := c.byNumber 0 16 }
      match searchFrom (fun k => (s.draw.2.conn (k + 2)).isNone) 65534 s.draw.1 65534 with
      | none => s.draw.2.reply c c.units 0x20 0x0F0C []
      | some k =>
        let u := (s.draw.2.setConn (k + 2) v).trigger v.group { kind := 4, conn := k + 2, gen := v.gen }
        let u := (u.ensureFetch v.send).ensureFetch v.recv
        u.replyPending c [] [k + 2])) ∧
  (Runs .nvmeCtrlDisconnect (destroySpec 0x0821 .nvme fun n s => s.closeConn n 0x0210) (fun c s => c.reserved [(0, 0xFFFF)] = none ∧ (s.ownConn c (c.p 0) .nvme).isSome = true)
      (fun c s => ((s.closeConn (c.p 0) 0x0210).replyPending c [⟨.conn, c.p 0 % 2 ^ 16⟩]).finishGone)) ∧
  (Runs .nvmeLocalNsAttach nvmeLocalNsAttachSpec (fun c s => c.reserved [(0, 0x3FFFF), (6, 0x800FFFFF), (7, 3)] = none ∧ bitAt (c.p 6) 31 = false ∧ (s.freeRing c.target (c.p 0 % 2 ^ 16)).isSome = true ∧ s.psq.conns.all (fun e => !(e.2.kind == .local)) = true ∧ s.groupDown (c.p 7) = false ∧ s.connCount < 65534)
      (fun c s => let v : Conn := { kind := .local, group := c.p 7, owner := c.target, gen := (s.inst c.target).gen, connected := true, send := (s.freeRing c.target (c.p 0 % 2 ^ 16)).getD 65536, params := c.byNumber 0 8 }
      match searchFrom (fun k => (s.draw.2.conn (k + 2)).isNone) 65534 s.draw.1 65534 with
      | none => s.draw.2.reply c c.units 0x20 0x0F0C []
      | some k =>
        let u := (s.draw.2.setConn (k + 2) v).trigger v.group { kind := 4, conn := k + 2, gen := v.gen }
        let u := (u.ensureFetch v.send).ensureFetch v.recv
        u.reply c c.units 0 0 (results [k + 2]))) ∧
  (Runs .nvmeLocalNsDetach (destroySpec 0x0831 .local fun n s => s.detach n) (fun c s => c.reserved [(0, 0xFFFF)] = none ∧ (s.ownConn c (c.p 0) .local).isSome = true)
      (fun c s => ((s.detach (c.p 0)).replyPending c [⟨.conn, c.p 0 % 2 ^ 16⟩]).finishGone))

/-- Nodes, shapers, gate lists and telemetry are configured, the choice, refills, gate edges and samples act as R559 to R590 say. -/
def Obligations.SchedulerActs : Prop :=
  (Answers .frsNodeCfg frsNodeCfgSpec (fun c s => bitAt (c.p 0) 31 = true ∧ c.reserved [(0, 0x8000FFFF)] = none ∧ 16 ≤ field (c.p 0) 15 0 ∧ field (c.p 0) 15 0 ≤ 32767 ∧ ((s.node (field (c.p 0) 15 0)).any fun n => !n.portDefault && n.frames.isEmpty) = true ∧ nodeChildren s.frs.nodes (field (c.p 0) 15 0) = [])
      (fun c s => let k := field (c.p 0) 15 0
      match s.node k with
      | none => s
      | some n => ({ s.setNode k { n with closing := true } with frs := { s.frs with
            nodes := insertKey s.frs.nodes k { n with closing := true }, instDefault := s.frs.instDefault.filter (·.2 != k) } }).settleLeaf k) (fun c s => [])) ∧
  (Answers .frsNodeCfg frsNodeCfgSpec (fun c s => bitAt (c.p 0) 31 = false ∧ c.reserved [(0, 0x8000FFFF), (1, 0x1600FFFF), (2, 0xFFFF)] = none ∧ 16 ≤ field (c.p 0) 15 0 ∧ field (c.p 0) 15 0 < 4096 ∧ bitAt (c.p 1) 28 = false ∧ s.nodeFault c.nodeCfg = none)
      (fun c s => s.putNode c.nodeCfg) (fun c s => [])) ∧
  (Answers .frsShaperCfg frsShaperCfgSpec (fun c s => c.reserved [(0, 0xF000FFFF)] = none ∧ bitAt (c.p 0) 31 = true ∧ (s.node (field (c.p 0) 15 0)).isSome = true)
      (fun c s => match s.node (field (c.p 0) 15 0) with
      | some n => s.setNode (field (c.p 0) 15 0) { n with next := some (none, false) }
      | none => s) (fun c s => [])) ∧
  (Answers .frsShaperCfg frsShaperCfgSpec (fun c s => c.reserved [(0, 0xF000FFFF), (3, 0x7F)] = none ∧ bitAt (c.p 0) 31 = false ∧ field (c.p 0) 29 28 = 1 ∧ 64 ≤ c.p 1 ∧ c.p 1 ≤ 1600000000 ∧ 64 ≤ c.p 2 ∧ c.p 2 ≤ 16777216 ∧
        -32 ≤ overhead7 (c.p 3) ∧ ((s.node (field (c.p 0) 15 0)).any fun n => n.shaper == none && n.next == none) = true)
      (fun c s => match s.node (field (c.p 0) 15 0) with
      | some n => s.setNode (field (c.p 0) 15 0) { n with next := some (some { kind := 1, rate := c.p 1, bucket := c.p 2, overhead := overhead7 (c.p 3), empty := bitAt (c.p 0) 30 }, true) }
      | none => s) (fun c s => [])) ∧
  (∀ (s : State), s.time.running = true → 
      exec (.refillEpoch) s = .next ({ s with frs := { s.frs with
            nodes := s.frs.nodes.map fun e =>
            (e.1, e.2.epoch (e.2.port ≥ 8 || (bitAt (s.gates e.2.port).now e.2.cls && !(s.port e.2.port).stopped.contains e.2.cls))
              (if e.2.port < 8 then (s.portRate e.2.port, modeLanes s.mac.mode * s.laneRate e.2.port) else (1, 1)).1
              (if e.2.port < 8 then (s.portRate e.2.port, modeLanes s.mac.mode * s.laneRate e.2.port) else (1, 1)).2) } })) ∧
  (Answers .frsGclWrite frsGclWriteSpec (fun c s => c.reserved [(0, 0x03FF0FFF)] = none ∧ c.indirect = false ∧ c.p 0 % 16 < 8 ∧ field (c.p 0) 11 0 ≠ 0 ∧ field (c.p 0) 25 16 + field (c.p 0) 11 0 ≤ 1024 ∧ c.shortBlock (1 + 2 * field (c.p 0) 11 0) = false ∧
        1 + 2 * field (c.p 0) 11 0 ≤ c.params.length ∧ ((List.range (field (c.p 0) 11 0)).find? fun k => field (c.p (1 + 2 * k)) 23 8 != 0) = none)
      (fun c s => s.setGates (c.p 0 % 16) { s.gates (c.p 0 % 16) with
        admin := (List.range (field (c.p 0) 11 0)).foldl (fun m k => insertKey m (field (c.p 0) 25 16 + k)
          (c.p (1 + 2 * k) % 256, c.p (1 + 2 * k + 1) * 256 + field (c.p (1 + 2 * k)) 31 24)) (s.gates (c.p 0 % 16)).admin }) (fun c s => [])) ∧
  (Pends .frsGclCommit frsGclCommitSpec (fun c s => c.reserved [(0, 0x87FF000F), (2, 0xFF00007F), (4, 0xFFFF), (6, 0xFF)] = none ∧ c.p 0 % 16 < 8 ∧ 1 ≤ field (c.p 0) 26 16 ∧ field (c.p 0) 26 16 ≤ 1024 ∧ bitAt (c.p 0) 31 = false ∧ -32 ≤ overhead7 (c.p 2 % 128) ∧ c.p 5 < 10 ^ 9 ∧
        256000 ≤ c.p 1 * 256 + field (c.p 2) 31 24 ∧ ((List.range (field (c.p 0) 26 16)).all fun k => decide (32 * 256 ≤ (lookupD (s.gates (c.p 0 % 16)).admin k (0, 0)).2)) = true)
      (fun c s => let port := c.p 0 % 16
      let cycle := c.p 1 * 256 + field (c.p 2) 31 24
      let sw := switchAt (((c.p 3 + c.p 4 * 2 ^ 32) * 10 ^ 9 + c.p 5) * 256 + c.p 6) cycle ((s.now + 2 ^ 24 - 1) / 2 ^ 24)
      s.setGates port { s.gates port with
        claimed := (s.gates port).claimed
        pending := some ({ enable := false, entries := (List.range (field (c.p 0) 26 16)).map fun k => lookupD (s.gates port).admin k (0, 0), cycle := cycle, overhead := overhead7 (c.p 2 % 128), base := sw }, sw) })) ∧
  (∀ (root : Fin 9) (s : State), (s.node root.val).isSome = true → s.dataOn = true → root.val < 8 → s.lineOpen root.val = true → 
      exec (.schedulerChoice root) s = .next (let u := ((s.choose root.val).2.frs.nodes.filter (·.2.closing)).foldl (fun u e => u.settleLeaf e.1) (s.choose root.val).2
        match (s.choose root.val).1 with
        | none => u
        | some (_, f) => u.startLine root.val f.pkt)) ∧
  (∀ (root : Fin 9) (s : State), (s.node root.val).isSome = true → s.dataOn = true → root.val = 8 → 
      exec (.schedulerChoice root) s = .next (let u := ((s.choose root.val).2.frs.nodes.filter (·.2.closing)).foldl (fun u e => u.settleLeaf e.1) (s.choose root.val).2
        match (s.choose root.val).1 with
        | none => u
        | some (_, f) => u.loopback f.pkt)) ∧
  (∀ (port : Fin 8) (s : State), (s.gates port.val).oper.enable = true → 
      exec (.gateEdge port) s = .next (let g := s.gates port.val
        let k := if g.entry + 1 < g.oper.starts.length then g.entry + 1 else 0
        s.setGates port.val { g with entry := k, staged := g.staged.filter fun c => !bitAt (g.oper.entries.getD k (255, 0)).1 c })) ∧
  (∀ (port : Fin 8) (cls : Fin 8) (s : State), (s.gates port.val).oper.enable = true → (s.frs.nodes.any fun e => e.2.kind = 2 && e.2.port = port.val && e.2.cls = cls.val && !e.2.frames.isEmpty) = true → bitAt (s.gates port.val).now cls.val = false → (s.gates port.val).staged.contains cls.val = false → 
      exec (.gateStaging port cls) s = .next (s.setGates port.val { s.gates port.val with staged := cls.val :: (s.gates port.val).staged })) ∧
  (∀ (port : Fin 8) (l : Gcl) (sw : Nat) (s : State), (s.gates port.val).pending = some (l, sw) → l.enable = true → 
      exec (.gclSwitch port) s = .next (let p := port.val
        let u := (s.setGates p { s.gates p with oper := l, entry := 0, pending := none, claimed := true, staged := [] }).settleOpenings p
        let u := (u.bump R.FRS_GCL_SWITCHES).raiseEs 400
        match u.findPend (fun c => c.cmd.opcode = 0x0A11 && wd c.cmd.params 0 % 16 = p) with
        | some c => u.finish c 0 0 (timeWords (sw * 2 ^ 24))
        | none => u)) ∧
  (∀ (port : Fin 8) (l : Gcl) (sw : Nat) (s : State), (s.gates port.val).pending = some (l, sw) → l.enable = false → 
      exec (.gclSwitch port) s = .next (let p := port.val
        let u := ((s.dropClaim (0x03000000 + p)).setGates p { s.gates p with oper := l, entry := 0, pending := none, claimed := false, staged := [] }).settleOpenings p
        let u := (u.bump R.FRS_GCL_SWITCHES).raiseEs 400
        match u.findPend (fun c => c.cmd.opcode = 0x0A11 && wd c.cmd.params 0 % 16 = p) with
        | some c => u.finish c 0 0 (timeWords (sw * 2 ^ 24))
        | none => u)) ∧
  (∀ (leaf : BitVec 15) (s : State), 
      exec (.leafBelowMax leaf) s = .next ((s.queues.filter fun e => e.2.type = 3 && e.2.state = 1).foldl (fun u e => if u.queueLeaf e.1 = leaf.toNat then u.ensureFetch e.1 else u) s)) ∧
  (Answers .frsTelemetryCfg frsTelemetryCfgSpec (fun c s => bitAt (c.p 0) 31 = true ∧ c.reserved [(0, 0x800000FF)] = none ∧ (lookup s.frs.subs (c.p 0 % 256)).any (·.owner = c.target) = true)
      (fun c s => { s with frs := { s.frs with subs := eraseKey s.frs.subs (c.p 0 % 256) } }) (fun c s => results [c.p 0 % 256])) ∧
  (Answers .frsTelemetryCfg frsTelemetryCfgSpec (fun c s => bitAt (c.p 0) 31 = false ∧ c.reserved [(0, 0x800000FF), (1, 0x007FFFFF), (2, 0xFFFF), (3, 0xFFFF)] = none ∧ c.p 0 % 256 ≠ 255 ∧ (lookup s.frs.subs (c.p 0 % 256)).any (·.owner = c.target) = true ∧ field (c.p 1) 22 16 = 1 ∧ 4096 ≤ c.p 1 % 2 ^ 16 ∧ c.p 1 % 2 ^ 16 < 32768 ∧
        c.p 2 ≠ 0 ∧ ((s.node (c.p 1 % 2 ^ 16)).any fun n => n.kind = 2 && (c.target = 0 || n.owner = c.target)) = true ∧ ((s.findQ c.target (c.p 3)).any fun q => (s.q q).state = 1 && (s.q q).type = 5) = true ∧
        (subsRate ((1, c.p 2) :: (s.frs.subs.filter (·.1 != c.p 0 % 256)).map fun e => (e.2.count, e.2.period))).1 ≤ 16 * (subsRate ((1, c.p 2) :: (s.frs.subs.filter (·.1 != c.p 0 % 256)).map fun e => (e.2.count, e.2.period))).2)
      (fun c s => { s with frs := { s.frs with subs := insertKey s.frs.subs (c.p 0 % 256) { owner := c.target, first := c.p 1 % 2 ^ 16, count := 1, period := c.p 2, ring := c.p 3 } } }) (fun c s => results [c.p 0 % 256])) ∧
  (∀ (sub : BitVec 8) (t : Telemetry) (q : Nat) (s : State), lookup s.frs.subs sub.toNat = some t → s.findQ t.owner t.ring = some q → 
      exec (.telemetrySample sub) s = .next (((List.range t.count).map fun k => s.sampleBody sub.toNat (t.first + k) (lookupD t.stats (t.first + k) {})).foldl
        (fun u b => (if u.postsDue q then u.bump R.FRS_TELEMETRY_POSTED else u).postDue q 1 b) { s with frs := { s.frs with subs := insertKey s.frs.subs sub.toNat { t with stats := [] } } })) ∧
  (∀ (mid : BitVec 13) (node : BitVec 16) (s : State), s.gate mid.toNat (R.FRS_NODE_SEL) false = .open_ → 
      exec (.frsNodeSelWrite mid node) s = .next ((List.range 8).foldl (fun u i => u.setReg (R.FRS_NODE_WORD i) (wd (s.nodeRecord node.toNat) i)) (s.setReg R.FRS_NODE_SEL node.toNat)))

/-- Modes, links, port settings, statistics, pause and PFC act as R593 to R608 say. -/
def Obligations.PortCommands : Prop :=
  (Runs .portModeSet portModeSetSpec (fun c s => c.reserved [(0, 0xFF07)] = none ∧ c.p 0 % 8 ≤ 3 ∧ (c.p 0 % 8 = 3 ∨ field (c.p 0) 15 8 = 0) ∧ s.tst.underTest = [] ∧ s.retrainingAny = false)
      (fun c s => let t := (s.enterPortMode (c.p 0 % 8) (field (c.p 0) 15 8)).replyPending c ((List.range 8).map fun p => ⟨.port, p⟩)
      match t.findPend (·.cmd.opcode = 0x0B00) with
      | some p => (t.finish p 0 0 []).raiseEs 426
      | none => t)) ∧
  (∀ (port : Fin 8) (up : Bool) (s : State), s.mainOn = true → s.portExists port.val = true → (s.port port.val).retraining = false → up = false → 
      exec (.portLinkChange port up) s = .next ((s.setPort port.val { s.port port.val with retraining := false }).setLink port.val false)) ∧
  (∀ (port : Fin 8) (up : Bool) (s : State), s.mainOn = true → s.portExists port.val = true → (s.port port.val).retraining = true → (s.port port.val).adminUp = true → (s.port port.val).lanes ≠ [] → up = true → 
      exec (.portLinkChange port up) s = .next (((s.setPort port.val { s.port port.val with retraining := false }).raiseEs 425).setLink port.val true)) ∧
  (Answers .portCfg portCfgSpec (fun c s => c.reserved [(0, 0xF), (1, 0xF80FBFFF)] = none ∧ c.p 0 < 8 ∧ field (c.p 1) 16 15 ≠ 3 ∧ 1518 ≤ field (c.p 1) 13 0 ∧ field (c.p 1) 13 0 ≤ 9600 ∧ s.portExists (c.p 0) = true)
      (fun c s => let u := s.setPort (c.p 0) { s.port (c.p 0) with cfg := c.p 1 }
      if (u.port (c.p 0)).adminUp then u else u.setLink (c.p 0) false) (fun c s => [])) ∧
  (Answers .portStatsRead portStatsReadSpec (fun c s => c.reserved [(0, 0x8000000F), (1, 0x7F007F)] = none ∧ c.indirect = false ∧ c.p 0 % 16 < 8 ∧ field (c.p 1) 6 0 ≠ 0 ∧ field (c.p 1) 22 16 + field (c.p 1) 6 0 ≤ 80 ∧ c.shortBlock (16 + 2 * field (c.p 1) 6 0) = false ∧ s.portExists (c.p 0 % 16) = true ∧ bitAt (c.p 0) 31 = false)
      (fun c s => s) (fun c s => ((List.range (field (c.p 1) 6 0)).map (field (c.p 1) 22 16 + ·)).flatMap fun k => results [lookupD (s.port (c.p 0 % 16)).stats k 0 % 2 ^ 32, lookupD (s.port (c.p 0 % 16)).stats k 0 / 2 ^ 32])) ∧
  (Answers .portStatsRead portStatsReadSpec (fun c s => c.reserved [(0, 0x8000000F), (1, 0x7F007F)] = none ∧ c.indirect = false ∧ c.p 0 % 16 < 8 ∧ field (c.p 1) 6 0 ≠ 0 ∧ field (c.p 1) 22 16 + field (c.p 1) 6 0 ≤ 80 ∧ c.shortBlock (16 + 2 * field (c.p 1) 6 0) = false ∧ s.portExists (c.p 0 % 16) = true ∧ bitAt (c.p 0) 31 = true)
      (fun c s => s.setPort (c.p 0 % 16) { s.port (c.p 0 % 16) with stats := (s.port (c.p 0 % 16)).stats.filter fun e => !((List.range (field (c.p 1) 6 0)).map (field (c.p 1) 22 16 + ·)).contains e.1 }) (fun c s => ((List.range (field (c.p 1) 6 0)).map (field (c.p 1) 22 16 + ·)).flatMap fun k => results [lookupD (s.port (c.p 0 % 16)).stats k 0 % 2 ^ 32, lookupD (s.port (c.p 0 % 16)).stats k 0 / 2 ^ 32])) ∧
  (Answers .portPfcCfg portPfcCfgSpec (fun c s => c.reserved [(0, 0x8000070F)] = none ∧ c.p 0 % 16 < 8 ∧ s.portExists (c.p 0 % 16) = true ∧ bitAt (c.p 0) 31 = true ∧ c.p 2 < c.p 1 ∧ (s.port (c.p 0 % 16)).fcMode = 2 ∧
        (eraseKey (s.port (c.p 0 % 16)).lossless (field (c.p 0) 10 8)).foldl (fun n e => n + (e.2.headroom + 4095) / 4096) 0 + (c.p 3 + 4095) / 4096 ≤ (s.quota (0x800 + c.p 0 % 16)).min ∧ s.firstRefused [pfcClaim (c.p 0 % 16) c.mid] = none)
      (fun c s => let p := c.p 0 % 16
      let prio := field (c.p 0) 10 8
      let u := s.takeClaims [pfcClaim p c.mid]
      (u.setPort p { s.port p with lossless := insertKey (eraseKey (s.port p).lossless prio) prio { xoff := c.p 1, xon := c.p 2, headroom := (c.p 3 + 4095) / 4096 * 4096 } }).settleAccount p prio) (fun c s => [])) ∧
  (Answers .portPfcCfg portPfcCfgSpec (fun c s => c.reserved [(0, 0x8000070F)] = none ∧ c.p 0 % 16 < 8 ∧ s.portExists (c.p 0 % 16) = true ∧ bitAt (c.p 0) 31 = false ∧ (s.port (c.p 0 % 16)).xoffSent = [] ∧ (s.port (c.p 0 % 16)).lossless.length = 1 ∧ (lookup (s.port (c.p 0 % 16)).lossless (field (c.p 0) 10 8)).isSome = true ∧ eraseKey (s.port (c.p 0 % 16)).lossless (field (c.p 0) 10 8) = [])
      (fun c s => (s.setPort (c.p 0 % 16) { s.port (c.p 0 % 16) with lossless := [], xoffSent := [] }).dropClaim (0x03000000 + c.p 0 % 16)) (fun c s => [])) ∧
  (∀ (port : Fin 8) (prio : Fin 8) (l : Lossless) (s : State), lookup (s.port port.val).lossless prio.val = some l → (s.port port.val).xoffSent.contains prio.val = true → (s.port port.val).fcMode ≠ 0 → l.xon < s.account port.val prio.val → 
      exec (.pauseRepeat port prio) s = .next (s.sendPause port.val prio.val 0xFFFF)) ∧
  (∀ (port : Fin 8) (pfc : Bool) (enable : BitVec 8) (quanta : Vector (BitVec 16) 8) (s : State), s.mainOn = true → s.portExists port.val = true → (s.port port.val).up = true → (s.port port.val).passControl = false → pfc = true → 
      exec (.pauseFrameReceived port pfc enable quanta) s = .next (let u := (numsWhere 8 (bitAt enable.toNat)).foldl (fun u c => u.stat port.val (12 + c)) (s.stat port.val 11)
        let hit := numsWhere 8 (bitAt enable.toNat)
        u.setPort port.val { u.port port.val with
          stopped := (hit.filter fun c => (quanta.toList.map BitVec.toNat).getD c 0 != 0) ++ (u.port port.val).stopped.filter fun c => !hit.contains c })) ∧
  (∀ (port : Fin 8) (pfc : Bool) (enable : BitVec 8) (quanta : Vector (BitVec 16) 8) (s : State), s.mainOn = true → s.portExists port.val = true → (s.port port.val).up = true → (s.port port.val).passControl = false → pfc = false → 
      exec (.pauseFrameReceived port pfc enable quanta) s = .next ((s.stat port.val 10).honourPause port.val 255 (List.replicate 8 ((quanta.toList.map BitVec.toNat).headD 0)))) ∧
  (∀ (port : Fin 8) (cls : Fin 8) (s : State), 
      exec (.pauseExpiry port cls) s = .next (s.setPort port.val { s.port port.val with stopped := (s.port port.val).stopped.filter (· != cls.val) }))

/-- Frames, links, collisions, SMBus errors and MCTP messages act as R610 to R617 say. -/
def Obligations.ManagementActs : Prop :=
  (∀ (frame : List Byte) (s : State), s.mgpUp = true → (beNat (slice frame 0 6) ≠ s.mgp.mac ∧ beNat (slice frame 0 6) ≠ 2 ^ 48 - 1) ∨ beNat (slice frame 12 2) ≠ 0x88B5 → 
      exec (.mgpFrameReceived frame) s = .next (s.bump R.MGP_RX_OTHER)) ∧
  (∀ (frame : List Byte) (s : State), s.mgpUp = true → beNat (slice frame 0 6) = s.mgp.mac → beNat (slice frame 12 2) = 0x88B5 → beNat (slice frame 14 1) = 2 → beNat (slice frame 15 1) = 0 → s.mode = 0 → 
      exec (.mgpFrameReceived frame) s = .next (s.assertWake)) ∧
  (∀ (frame : List Byte) (s : State), s.mgpUp = true → beNat (slice frame 0 6) = s.mgp.mac → beNat (slice frame 12 2) = 0x88B5 → beNat (slice frame 14 1) = 1 → beNat (slice frame 15 1) = 0 → 
      exec (.mgpFrameReceived frame) s = .next (s)) ∧
  (∀ (up : Bool) (speed : Fin 3) (full : Bool) (s : State), 
      exec (.mgpLinkChange up speed full) s = .next (({ s with mgp := { s.mgp with inSpeed := speed.val, inFull := full, phyUp := up } }).mgpLink up)) ∧
  (∀ (frame : List Byte) (late : Bool) (s : State), s.mgpUp = true → s.mgpSpeed.2 = false → late = true → 
      exec (.mgpCollision frame late) s = .next ({ (s.bump R.MGP_COLLISIONS).bump R.MGP_LATE_COLL with mgp := { s.mgp with sending := none } })) ∧
  (∀ (frame : List Byte) (late : Bool) (n : Nat) (b : Nat) (s : State), s.mgpUp = true → s.mgpSpeed.2 = false → late = false → s.mgp.sending = some (frame, n, b) → n < 15 → 
      exec (.mgpCollision frame late) s = .next (let u := (s.bump R.MGP_COLLISIONS).emit (.sgmii frame true)
        { u.draw.2 with mgp := { u.draw.2.mgp with sending := some (frame, n + 1, u.draw.1 % 2 ^ min (n + 1) 10) } })) ∧
  (∀ (frame : List Byte) (late : Bool) (n : Nat) (b : Nat) (s : State), s.mgpUp = true → s.mgpSpeed.2 = false → late = false → s.mgp.sending = some (frame, n, b) → 15 ≤ n → 
      exec (.mgpCollision frame late) s = .next (let u := (s.bump R.MGP_COLLISIONS).emit (.sgmii frame true)
        ({ u.bump R.MGP_EXCESS_COLL with mgp := { u.mgp with sending := none } }).raiseEs 430)) ∧
  (∀ (f : List Byte) (n : Nat) (b : Nat) (s : State), s.mgp.sending = some (f, n, b) → 
      exec (.backoffExpiry) s = .next (s.emit (.sgmii f false))) ∧
  (∀ (s : State), s.rfb F.PWR_STATUS_aux_good = true → 
      exec (.smbusBusError) s = .next ((s.bump R.MGP_SMB_ERRORS).raiseEs 429)) ∧
  (∀ (src : BitVec 8) (setEid : Option Byte) (complete : Bool) (s : State), s.mctpHost = .keeper → complete = true → s.mctpWaiting < 16 → 
      exec (.mctpControlMessage src setEid complete) s = .next (s.mctpAnswer src.toNat 0 (setEid.map BitVec.toNat))) ∧
  (∀ (src : BitVec 8) (setEid : Option Byte) (complete : Bool) (s : State), s.mctpHost ≠ .nobody → complete = false → 
      exec (.mctpControlMessage src setEid complete) s = .next (s.mctpDrop)) ∧
  (∀ (src : BitVec 8) (complete : Bool) (s : State), s.mctpHost = .keeper → complete = true → s.mctpWaiting < 16 → 
      exec (.spdmMessage src complete) s = .next (s.mctpAnswer src.toNat 5 none)) ∧
  (∀ (src : BitVec 8) (complete : Bool) (s : State), s.mctpHost ≠ .nobody → complete = false → 
      exec (.spdmMessage src complete) s = .next (s.mctpDrop)) ∧
  (∀ (src : BitVec 8) (entry : List Word) (complete : Bool) (s : State), s.mctpHost = .keeper → complete = true → s.mctpWaiting < 16 → entry.length % 16 = 0 → entry ≠ [] → entry.length ≤ 64 → 
      exec (.yadopex src entry complete) s = .next ({ s with cmds := { s.cmds with bmcQueue := s.cmds.bmcQueue ++ [entry] } })) ∧
  (∀ (src : BitVec 8) (entry : List Word) (complete : Bool) (s : State), s.mctpHost = .keeper → complete = true → s.mctpWaiting < 16 → entry.length % 16 ≠ 0 ∨ entry = [] ∨ 64 < entry.length → 
      exec (.yadopex src entry complete) s = .next (s.vendorAnswer src.toNat 1 2 0 [])) ∧
  (∀ (src : BitVec 8) (s : State), s.mctpHost = .supervisor → s.boot.wakeArmed = true → 
      exec (.wake src) s = .next (s.assertWake.vendorAnswer src.toNat 2 0 0 [])) ∧
  (∀ (src : BitVec 8) (s : State), s.mctpHost = .keeper → s.mctpWaiting < 16 → 
      exec (.wake src) s = .next (s.vendorAnswer src.toNat 2 1 0 [])) ∧
  (∀ (src : BitVec 8) (offset : Word) (bytes : List Byte) (s : State), s.mctpHost = .loader → offset.toNat % 4 = 0 → bytes.length % 4 = 0 → 4 ≤ bytes.length → bytes.length ≤ 1016 → offset.toNat + bytes.length ≤ 33554432 → 
      exec (.recoveryWrite src offset bytes) s = .next (({ s with mem := { s.mem with cache := Mem.write s.mem.cache offset.toNat bytes } }).vendorAnswer src.toNat 3 0 0 []))

/-- TIME_ADJUST, the slew, snapshots, the PPS output, the time input, PTM and Daymark act as R620 to R645 say. -/
def Obligations.TimeActs : Prop :=
  (Answers .timeAdjust timeAdjustSpec (fun c s => c.reserved [(0, 3)] = none ∧ (s.spr.timeFollow = false ∨ s.spr.timeRoot = true) ∧ c.p 0 = 0 ∧ c.p 2 < 2 ^ 16 ∧ c.p 3 < 10 ^ 9 ∧ c.p 4 < 256)
      (fun c s => s.setTime (timeOf (c.p 1 + c.p 2 * 2 ^ 32) (c.p 3) (c.p 4))) (fun c s => timeWords (timeOf (c.p 1 + c.p 2 * 2 ^ 32) (c.p 3) (c.p 4)))) ∧
  (Answers .timeAdjust timeAdjustSpec (fun c s => c.reserved [(0, 3)] = none ∧ (s.spr.timeFollow = false ∨ s.spr.timeRoot = true) ∧ c.p 0 = 1)
      (fun c s => (s.stepped (sint64 (c.p 1 + c.p 2 * 2 ^ 32))).2.setTime (s.stepped (sint64 (c.p 1 + c.p 2 * 2 ^ 32))).1) (fun c s => timeWords (s.stepped (sint64 (c.p 1 + c.p 2 * 2 ^ 32))).1)) ∧
  (Answers .timeAdjust timeAdjustSpec (fun c s => c.reserved [(0, 3)] = none ∧ (s.spr.timeFollow = false ∨ s.spr.timeRoot = true) ∧ c.p 0 = 2 ∧ rateOk (sint32 (c.p 1)) s.time.slew = true)
      (fun c s => ({ s with time := { s.time with freq := sint32 (c.p 1) } }).showRate) (fun c s => timeWords s.now)) ∧
  (Answers .timeAdjust timeAdjustSpec (fun c s => c.reserved [(0, 3)] = none ∧ (s.spr.timeFollow = false ∨ s.spr.timeRoot = true) ∧ c.p 0 = 3 ∧ s.rfb F.TIM_STATUS_time_valid = true ∧ c.p 3 ≠ 0 ∧ rateOk s.time.freq (some (sint64 (c.p 1 + c.p 2 * 2 ^ 32), c.p 3)) = true)
      (fun c s => ({ s with time := { s.time with slew := some (sint64 (c.p 1 + c.p 2 * 2 ^ 32), c.p 3) } }).showRate) (fun c s => timeWords s.now)) ∧
  (∀ (s : State), s.time.slew.isSome = true → 
      exec (.slewEnd) s = .next (({ s with time := { s.time with slew := none } }).showRate)) ∧
  (∀ (mid : BitVec 13) (s : State), s.gate mid.toNat (R.TIM_SNAP_CTL) false = .open_ → 
      exec (.timSnapCapture mid) s = .next ((((s.setReg R.TIM_SNAP_SEC_LO (timeSec s.now % 2 ^ 32)).setReg R.TIM_SNAP_SEC_HI (timeSec s.now / 2 ^ 32)).setReg R.TIM_SNAP_NS (timeNs s.now)).setReg R.TIM_SNAP_FRAC (timeFrac s.now))) ∧
  (∀ (mid : BitVec 13) (index : BitVec 16) (s : State), s.gate mid.toNat (R.TIM_SIDE_SEL) false = .open_ → 
      exec (.timSideSelWrite mid index) s = .next ((List.range 4).foldl (fun u k => u.setReg (R.TIM_SIDE_WORD k) (wd (lookupD s.time.side index.toNat []) k)) (s.setF F.TIM_SIDE_SEL_index index.toNat))) ∧
  (Answers .timePpsCfg timePpsCfgSpec (fun c s => c.reserved [(0, 0x800003FF)] = none ∧ bitAt (c.p 0) 31 = true ∧ field (c.p 0) 9 0 ≠ 0 ∧ field (c.p 0) 9 0 ≤ 1000 ∧ 1000 % field (c.p 0) 9 0 = 0 ∧ 100 ≤ c.p 1 ∧ c.p 1 ≤ field (c.p 0) 9 0 * 500000 ∧
        s.firstRefused [(0x01000000, holderWord 0x14 0x01 c.mid)] = none)
      (fun c s => let u := s.takeClaims [(0x01000000, holderWord 0x14 0x01 c.mid)]
      { u.setReg R.TIM_PPS_STATUS (2 ^ 31 + field (c.p 0) 9 0) with time := { u.time with ppsWidth := c.p 1 } }) (fun c s => [])) ∧
  (Answers .timePpsCfg timePpsCfgSpec (fun c s => c.reserved [(0, 0x800003FF)] = none ∧ bitAt (c.p 0) 31 = false ∧ s.rfb F.TIM_PPS_STATUS_enabled = true)
      (fun c s => ((s.dropClaim 0x01000000).setReg R.TIM_PPS_STATUS 0).setPpsBall false) (fun c s => [])) ∧
  (∀ (wholeSecond : Bool) (s : State), s.rfb F.TIM_PPS_STATUS_enabled = true → s.time.ppsBall = true → 
      exec (.ppsEdge wholeSecond) s = .next (s.setPpsBall false)) ∧
  (∀ (wholeSecond : Bool) (s : State), s.rfb F.TIM_PPS_STATUS_enabled = true → s.time.ppsBall = false → wholeSecond = true → 
      exec (.ppsEdge wholeSecond) s = .next (((s.setPpsBall true).bump R.TIM_PPS_EDGES).raiseEs 432)) ∧
  (∀ (falling : Bool) (s : State), s.rfb F.TIM_IN_CFG_enable = true → s.rfb F.TIM_IN_CFG_falling = falling → s.mainOn = true → 
      exec (.timeInEdge falling) s = .next (let t := timeAdd s.now (-(s.pinDelay 1))
        let u := if s.rfb F.TIM_IN_CFG_valid then s.setF F.TIM_IN_CFG_overrun 1 else s
        ((((((u.setReg R.TIM_IN_SEC_LO (timeSec t % 2 ^ 32)).setReg R.TIM_IN_SEC_HI (timeSec t / 2 ^ 32)).setReg R.TIM_IN_NS (timeNs t)).setReg R.TIM_IN_FRAC
          (timeFrac t)).setF F.TIM_IN_CFG_valid 1).bump R.TIM_IN_CAPTURES).raiseEs 433)) ∧
  (∀ (s : State), s.rfb F.TIM_PTM_CFG_enable = true → s.mainOn = true → 
      exec (.ptmExchange none) s = .next ((s.bump R.TIM_PTM_FAILS).raiseEs 439)) ∧
  (∀ (h : Dword) (s : State), s.rfb F.TIM_PTM_CFG_enable = true → s.mainOn = true → 
      exec (.ptmExchange (some h)) s = .next (let t := s.now
        let u := (s.setReg R.TIM_PTM_HOST_LO (h.toNat % 2 ^ 32)).setReg R.TIM_PTM_HOST_HI (h.toNat / 2 ^ 32)
        ((((u.setReg R.TIM_PTM_DEV_SEC_LO (timeSec t % 2 ^ 32)).setReg R.TIM_PTM_DEV_SEC_HI (timeSec t / 2 ^ 32)).setReg R.TIM_PTM_DEV_NS (timeNs t)).setReg
          R.TIM_PTM_DEV_FRAC (timeFrac t)).setF F.TIM_PTM_CFG_valid 1))

/-- The alarm is set, fires and is disabled, Daymark follows device time and is lost with VBAT, and the calibration table is written and read, as R633 to R645 say. -/
def Obligations.DaymarkActs : Prop :=
  (Answers .timeDaymarkAlarm timeDaymarkAlarmSpec (fun c s => c.reserved [(0, 0xE0000000), (2, 0xFFFF)] = none ∧ bitAt (c.p 0) 31 = false)
      (fun c s => s.alarmOff) (fun c s => [])) ∧
  (Answers .timeDaymarkAlarm timeDaymarkAlarmSpec (fun c s => c.reserved [(0, 0xE0000000), (2, 0xFFFF)] = none ∧ bitAt (c.p 0) 31 = true ∧ s.dmSec < c.p 1 + c.p 2 * 2 ^ 32 ∧ bitAt (c.p 0) 30 = true ∧ s.firstRefused [(0x01000000, holderWord 0x14 0x02 c.mid)] = none)
      (fun c s => let u := s.takeClaims [(0x01000000, holderWord 0x14 0x02 c.mid)]
      { ((u.setReg R.TIM_DM_ALARM_LO (c.p 1)).setReg R.TIM_DM_ALARM_HI (c.p 2)).setF F.TIM_DM_STATUS_alarm_enabled 1 with
        time := { u.time with alarmBall := true, alarmWake := bitAt (c.p 0) 29 } }) (fun c s => [])) ∧
  (Answers .timeDaymarkAlarm timeDaymarkAlarmSpec (fun c s => c.reserved [(0, 0xE0000000), (2, 0xFFFF)] = none ∧ bitAt (c.p 0) 31 = true ∧ s.dmSec < c.p 1 + c.p 2 * 2 ^ 32 ∧ bitAt (c.p 0) 30 = false ∧ s.time.alarmBall = false)
      (fun c s => { ((s.setReg R.TIM_DM_ALARM_LO (c.p 1)).setReg R.TIM_DM_ALARM_HI (c.p 2)).setF F.TIM_DM_STATUS_alarm_enabled 1 with
        time := { s.time with alarmBall := false, alarmWake := bitAt (c.p 0) 29 } }) (fun c s => [])) ∧
  (∀ (s : State), s.rfb F.TIM_DM_STATUS_alarm_enabled = true → 
      exec (.daymarkAlarmFire) s = .next (let u := (s.setF F.TIM_DM_STATUS_alarm_pending 1).raiseEs 437
        let u := if u.time.alarmBall then u.emit (.ppsBall false) else u
        if !u.time.alarmWake then u
        else if u.rfb F.PWR_STATUS_aux_good then u.assertWake
        else { u with time := { u.time with alarmHeld := true } })) ∧
  (∀ (s : State), s.reg R.TIM_DM_CFG % 2 = 1 → s.rfb F.TIM_STATUS_time_valid = true → (s.dmSec * 2 ^ 15 + s.rf F.TIM_DM_SUB_v + 1) * (10 ^ 9 * 2 ^ 17) < s.now → 
      exec (.daymarkFollowCheck) s = .next (((s.setDm (timeSec s.now) 0).setF F.TIM_DM_STATUS_daymark_valid 1).setF F.TIM_STATUS_daymark_valid 1)) ∧
  (∀ (s : State), s.mainOn = false → s.rfb F.PWR_STATUS_aux_good = false → 
      exec (.vbatLoss) s = .next (let u := (((s.setDm 0 0).setReg R.TIM_DM_STATUS (2 ^ 30)).setReg R.TIM_DM_CFG 1).setF F.TIM_STATUS_daymark_valid 0
        ({ u with time := { u.time with dmPhase := 0, alarmBall := false, alarmWake := false, alarmHeld := false } }).raiseEs 438)) ∧
  (Runs .calTableWrite calTableWriteSpec (fun c s => bitAt (wd c.entry 0) 18 = true ∧ c.reserved [(0, 1)] = none ∧ s.firstRefused [(0x04000030, holderWord 0x14 0x03 c.mid)] = none)
      (fun c s => match calFault (wordsBytes (c.params.drop 16)) (wordsBytes (c.params.drop 16)).length with
      | some r => s.reply c c.units 0x20 r []
      | none => ((s.takeClaims [(0x04000030, holderWord 0x14 0x03 c.mid)]).markMram 0x10000 true).replyPending c [⟨.cal, 0⟩])) ∧
  (∀ (p : PendCmd) (s : State), s.findPend (·.cmd.opcode = 0x0B21) = some p → bitAt (wd p.cmd.params 0) 0 = true → 
      exec (.calTableWriteEnd) s = .next (let bs := wordsBytes (p.cmd.params.drop 16)
        let seq := nextSeq (s.calValids.map fun c => calSeq c.2)
        let tbl := calSealed (bs.take (leNat (slice bs 12 4))) seq
        let u := ((List.range 3).foldl (fun u k => u.putMram (calOffset k) tbl) s).calLive tbl
        ((u.setF F.TIM_STATUS_cal_nominal 0).dropClaim 0x04000030).finish p 0 0 (results [seq]))) ∧
  (Answers .calTableRead calTableReadSpec (fun c s => c.reserved [(0, 0x80000003)] = none ∧ bitAt (c.p 0) 31 = false ∧ c.p 3 % 4 = 0 ∧ c.p 4 ≤ 192)
      (fun c s => s) (fun c s => results [calSeq (s.calSource (c.p 0 % 4)), b2n (if c.p 0 % 4 < 3 then s.calValids.any (·.1 = c.p 0 % 4) else true)]
        ++ [wd c.params 2, wd c.params 3].map w32 ++ bytesWords (slice (s.calSource (c.p 0 % 4)) (c.p 3) (c.p 4)))) ∧
  (Answers .calTableRead calTableReadSpec (fun c s => c.reserved [(0, 0x80000003)] = none ∧ bitAt (c.p 0) 31 = true ∧ c.fromManager = true ∧ c.p 3 % 4 = 0 ∧ c.p 4 ≤ 262144)
      (fun c s => s.emit (.hostWrite 0 (s.q (s.inst 0).adminQid).pas (c.p 1 + c.p 2 * 2 ^ 32) (slice (s.calSource (c.p 0 % 4)) (c.p 3) (c.p 4)))) (fun c s => results [calSeq (s.calSource (c.p 0 % 4)), b2n (if c.p 0 % 4 < 3 then s.calValids.any (·.1 = c.p 0 % 4) else true)]))

/-- Regions are assigned, loaded, quiesced and unloaded, their taps and caps set, as R667 to R684 say; whether an image verifies is left open by Config (log entry 4). -/
def Obligations.RegionCommands : Prop :=
  (Answers .lanRegionAssign lanRegionAssignSpec (fun c s => bitAt (c.p 0) 31 = true ∧ c.reserved [(0, 0x87FF000F)] = none ∧ ((s.region (c.p 0 % 16)).state = 1 ∨ (s.region (c.p 0 % 16)).state = 8))
      (fun c s => s.lanFree (c.p 0 % 16)) (fun c s => [])) ∧
  (Answers .lanRegionAssign lanRegionAssignSpec (fun c s => bitAt (c.p 0) 31 = false ∧ c.reserved [(0, 0x87FF000F), (1, 0x3FFFFF), (2, 0x3FFFFF)] = none ∧ 1 ≤ c.p 2 ∧ c.p 2 ≤ 2097151 ∧ (s.region (c.p 0 % 16)).state = 0 ∧ field (c.p 0) 26 16 = 0 ∧
        c.p 1 + c.p 2 ≤ (s.rangeOf 0).2 ∧ s.lanternShort 0 + b2n (!s.isRetired (0x600 + c.p 0 % 16)) ≤ s.freeRegions)
      (fun c s => let r := c.p 0 % 16
      ((s.setRegion r { s.region r with renter := 0, base := c.p 1, size := c.p 2, taps := [{}, {}, {}] }).reserveRange (0x800 + r) ((s.rangeOf 0).1 + c.p 1) (c.p 2)).lanEnter r 1) (fun c s => [])) ∧
  (∀ (s : State) (e : AdminEntry) (readback : Bool), s.accepts lanImageLoadSpec e = true →
      ((s.heard lanImageLoadSpec e).reserved [(0, 0x8000000F), (4, 0xFFFFF800)] = none ∧ bitAt ((s.heard lanImageLoadSpec e).p 0) 31 = false ∧
        (s.region ((s.heard lanImageLoadSpec e).p 0 % 16)).state = 1 ∧ (s.region ((s.heard lanImageLoadSpec e).p 0 % 16)).renter = (s.heard lanImageLoadSpec e).target ∧
        (s.heard lanImageLoadSpec e).p 1 % 64 = 0 ∧ (s.heard lanImageLoadSpec e).p 3 ≠ 0 ∧ s.isRetired (0x600 + (s.heard lanImageLoadSpec e).p 0 % 16) = false ∧
        (s.taken lanImageLoadSpec e).firstRefused [(lanLock ((s.heard lanImageLoadSpec e).p 0 % 16), holderWord 0x15 0x01 (s.heard lanImageLoadSpec e).mid)] = none) →
      exec (.lanImageLoad e readback) s = .next
        (let c := s.heard lanImageLoadSpec e
        let r := c.p 0 % 16
        let t := (((s.taken lanImageLoadSpec e).takeClaims [(lanLock r, holderWord 0x15 0x01 c.mid)]).readImage c (some (pasidWord (c.p 4)))).replyPending c [⟨.region, r⟩]
        match t.findPend (fun p => p.cmd.opcode = 0x0C01 && !s.cmds.pend.contains p) with
        | some p => t.lanStage (p.cmd.p 0 % 16) readback
        | none => t)) ∧
  (Answers .lanRegionQuiesce lanRegionQuiesceSpec (fun c s => c.reserved [(0, 0x8000000F)] = none ∧ bitAt (c.p 0) 31 = true ∧ (s.region (c.p 0 % 16)).state = 5 ∧ (s.region (c.p 0 % 16)).renter = c.target)
      (fun c s => let r := c.p 0 % 16
      ((s.setRegion r { s.region r with clock := ((s.region r).image.map (·.clock)).getD 0 }).lanEnter r 3).emit (.regionSignal r 6)) (fun c s => [])) ∧
  (Pends .lanRegionQuiesce lanRegionQuiesceSpec (fun c s => c.reserved [(0, 0x8000000F)] = none ∧ bitAt (c.p 0) 31 = false ∧ (s.region (c.p 0 % 16)).state = 3 ∧ (s.region (c.p 0 % 16)).renter = c.target)
      (fun c s => s.lanQuiesce (c.p 0 % 16) .rest)) ∧
  (Runs .lanRegionUnload lanRegionUnloadSpec (fun c s => c.reserved [(0, 0xF)] = none ∧ (s.region (c.p 0)).state = 3 ∧ (s.region (c.p 0)).renter = c.target ∧ s.cmds.pend = [])
      (fun c s => let t := (s.lanQuiesce (c.p 0) .unload).replyPending c [⟨.region, c.p 0 % 16⟩]
      match t.findPend (fun p => p.cmd.opcode = 0x0C03 && !s.cmds.pend.contains p) with
      | some p => if (t.region (p.cmd.p 0)).state = 4 then t else t.lanUnload (p.cmd.p 0)
      | none => t)) ∧
  (Runs .lanRegionUnload lanRegionUnloadSpec (fun c s => c.reserved [(0, 0xF)] = none ∧ ((s.region (c.p 0)).state = 5 ∨ (s.region (c.p 0)).state = 7) ∧ (s.region (c.p 0)).renter = c.target ∧ s.cmds.pend = [])
      (fun c s => let t := s.replyPending c [⟨.region, c.p 0 % 16⟩]
      match t.findPend (fun p => p.cmd.opcode = 0x0C03 && !s.cmds.pend.contains p) with
      | some p => if (t.region (p.cmd.p 0)).state = 4 then t else t.lanUnload (p.cmd.p 0)
      | none => t)) ∧
  (Answers .lanPowerCap lanPowerCapSpec (fun c s => c.reserved [(0, 0x3F0F)] = none ∧ (s.region (c.p 0 % 16)).state ≠ 0 ∧ (s.region (c.p 0 % 16)).renter = c.target ∧ 8 ≤ field (c.p 0) 13 8 ∧ field (c.p 0) 13 8 ≤ 32 ∧
        ((s.region (c.p 0 % 16)).image.map (·.minCap)).getD 0 ≤ field (c.p 0) 13 8 ∧ s.capOthers (c.p 0 % 16) + field (c.p 0) 13 8 ≤ s.lan.allowance)
      (fun c s => s.setRegion (c.p 0 % 16) { s.region (c.p 0 % 16) with cap := field (c.p 0) 13 8 }) (fun c s => [])) ∧
  (Answers .lanAllowanceSet lanAllowanceSetSpec (fun c s => c.reserved [(0, 0x1FF)] = none ∧ c.p 0 ≤ 312 ∧ s.capSum ≤ c.p 0)
      (fun c s => { s with lan := { s.lan with allowance := c.p 0 } }) (fun c s => [])) ∧
  (Answers .lanTapCfg lanTapCfgSpec (fun c s => c.reserved [(0, 0x30F), (1, 0x8000FFFF), (2, 0x7FF), (3, 0xFFFF)] = none ∧ (s.region (c.p 0 % 16)).state ≠ 0 ∧ (s.region (c.p 0 % 16)).renter = c.target ∧ field (c.p 0) 9 8 < 2 ∧ c.p 1 % 2 ^ 16 ≠ 0 ∧
        1 ≤ c.p 2 ∧ c.p 2 ≤ 1024)
      (fun c s => s.setRegion (c.p 0 % 16) { s.region (c.p 0 % 16) with
        taps := (s.region (c.p 0 % 16)).taps.set (field (c.p 0) 9 8) { drop := bitAt (c.p 1) 31, hold := c.p 1 % 2 ^ 16, depth := c.p 2, queue := 0xFFFF } }) (fun c s => []))

/-- Returns, holds, memory requests, register accesses, event edges and the ends of loads and quiesces act as R651 to R674 say. -/
def Obligations.RegionActs : Prop :=
  (∀ (region : Fin 16) (stream : Fin 3) (token : BitVec 16) (mark : BitVec 16) (verdict : Word) (bytes : List Byte) (f : InFlight) (s : State), (s.region region.val).live stream.val = true → stream.val ≤ 2 → token.toNat / 4096 ≠ 15 → lookup (s.region region.val).flight (token.toNat % 4096) = some f → f.seq = token.toNat / 4096 → f.tap = stream.val → bitAt verdict.toNat 28 = true → 
      exec (.regionReturn region stream token mark verdict bytes) s = .next (let r := region.val
        let u := s.bump (R.LAN_OUT_FRAMES r)
        (u.setRegion r { s.region r with flight := eraseKey (s.region r).flight (token.toNat % 4096) }).tapVerdict r stream.val { f.pkt with mark := mark.toNat } verdict.toNat)) ∧
  (∀ (region : Fin 16) (stream : Fin 3) (token : BitVec 16) (mark : BitVec 16) (verdict : Word) (bytes : List Byte) (s : State), (s.region region.val).live stream.val = true → stream.val ≤ 2 → token.toNat / 4096 ≠ 15 → lookup (s.region region.val).flight (token.toNat % 4096) = none → (s.region region.val).late.contains (token.toNat % 4096 * 16 + token.toNat / 4096) = false → 
      exec (.regionReturn region stream token mark verdict bytes) s = .next ((s.bump (R.LAN_OUT_FRAMES region.val)).bump (R.LAN_BAD_TOKEN region.val))) ∧
  (∀ (region : Fin 16) (token : BitVec 16) (mark : BitVec 16) (verdict : Word) (bytes : List Byte) (s : State), (s.region region.val).live 2 = true → token.toNat / 4096 = 15 → 
      exec (.regionReturn region 2 token mark verdict bytes) s = .next ((s.bump (R.LAN_OUT_FRAMES region.val)).tapCreated region.val mark.toNat verdict.toNat bytes)) ∧
  (∀ (region : Fin 16) (slot : BitVec 12) (f : InFlight) (s : State), lookup (s.region region.val).flight slot.toNat = some f → 
      exec (.tapHoldTimeout region slot) s = .next (let r := region.val
        ((s.setRegion r { s.region r with
            flight := eraseKey (s.region r).flight slot.toNat, late := (slot.toNat * 16 + f.seq) :: (s.region r).late }).bump (R.LAN_TIMEOUTS r)).tapBypass r f)) ∧
  (∀ (region : Fin 16) (write : Bool) (addr : BitVec 36) (lines : Fin 64) (tag : Fin 64) (data : List Byte) (s : State), (s.region region.val).live 3 = true → (s.region region.val).waits.any (·.tag = tag.val) = true → 
      exec (.regionMemoryRequest region write addr lines tag data) s = .next (s.bump (R.LAN_MEM_FAULTS region.val))) ∧
  (∀ (region : Fin 16) (write : Bool) (addr : BitVec 36) (lines : Fin 64) (tag : Fin 64) (data : List Byte) (s : State), (s.region region.val).live 3 = true → (s.region region.val).waits.any (·.tag = tag.val) = false → 4096 < addr.toNat * 64 % 4096 + (lines.val + 1) * 64 → 
      exec (.regionMemoryRequest region write addr lines tag data) s = .next ((s.bump (R.LAN_MEM_FAULTS region.val)).emit (.regionAnswer region.val tag.val 6 []))) ∧
  (∀ (region : Fin 16) (addr : BitVec 36) (lines : Fin 64) (tag : Fin 64) (data : List Byte) (s : State), (s.region region.val).live 3 = true → (s.region region.val).waits = [] → addr.toNat * 64 % 4096 + (lines.val + 1) * 64 ≤ 4096 → s.reachWaits (0x800 + region.val) (addr.toNat * 64) = false → 
      exec (.regionMemoryRequest region false addr lines tag data) s = .next (let r := region.val
        match (s.setRegion r { s.region r with waits := [] }).ssRead (0x800 + r) (addr.toNat * 64) ((lines.val + 1) * 64) with
        | (.error k, u) => (u.bump (R.LAN_MEM_FAULTS r)).emit (.regionAnswer r tag.val k [])
        | (.ok bs, u) => u.emit (.regionAnswer r tag.val 0 bs))) ∧
  (∀ (region : Fin 16) (addr : BitVec 36) (lines : Fin 64) (tag : Fin 64) (data : List Byte) (s : State), (s.region region.val).live 3 = true → (s.region region.val).waits = [] → addr.toNat * 64 % 4096 + (lines.val + 1) * 64 ≤ 4096 → s.reachWaits (0x800 + region.val) (addr.toNat * 64) = false → 
      exec (.regionMemoryRequest region true addr lines tag data) s = .next (let r := region.val
        match (s.setRegion r { s.region r with waits := [] }).ssWrite (0x800 + r) (addr.toNat * 64) (slice data 0 ((lines.val + 1) * 64)) with
        | (some k, u) => (u.bump (R.LAN_MEM_FAULTS r)).emit (.regionAnswer r tag.val k [])
        | (none, u) => u.emit (.regionAnswer r tag.val 0 []))) ∧
  (∀ (region : Fin 16) (write : Bool) (addr : BitVec 36) (lines : Fin 64) (tag : Fin 64) (data : List Byte) (s : State), (s.region region.val).live 3 = true → (s.region region.val).waits = [] → addr.toNat * 64 % 4096 + (lines.val + 1) * 64 ≤ 4096 → s.reachWaits (0x800 + region.val) (addr.toNat * 64) = true → 
      exec (.regionMemoryRequest region write addr lines tag data) s = .next (s.setRegion region.val { s.region region.val with waits := [{ write := write, off := addr.toNat * 64, n := (lines.val + 1) * 64, tag := tag.val, data := data }] })) ∧
  (∀ (mid : BitVec 13) (region : Fin 16) (reg : BitVec 12) (answer : Word) (s : State), windowMid mid.toNat = true → (s.region region.val).state = 3 → (s.region region.val).live 6 = true → 
      exec (.regionRegisterAccess mid region reg none answer) s = .next ((s.emit (.regionReg region.val reg.toNat none)).emit (.readData mid.toNat answer.toNat))) ∧
  (∀ (mid : BitVec 13) (region : Fin 16) (reg : BitVec 12) (value : Word) (answer : Word) (s : State), windowMid mid.toNat = true → (s.region region.val).state = 3 → (s.region region.val).live 6 = true → 
      exec (.regionRegisterAccess mid region reg (some value) answer) s = .next (s.emit (.regionReg region.val reg.toNat (some value.toNat)))) ∧
  (∀ (mid : BitVec 13) (region : Fin 16) (reg : BitVec 12) (s : State), windowMid mid.toNat = true → 
      exec (.regionRegisterTimeout mid region reg none) s = .next (((s.bump (R.LAN_REG_TIMEOUTS region.val)).crossingFailed (regionWindow region.val reg.toNat) (16 + region.val) true).emit (.readData mid.toNat 0xFFFFFFFF))) ∧
  (∀ (mid : BitVec 13) (region : Fin 16) (reg : BitVec 12) (value : Word) (s : State), windowMid mid.toNat = true → 
      exec (.regionRegisterTimeout mid region reg (some value)) s = .next ((s.bump (R.LAN_REG_TIMEOUTS region.val)).crossingFailed (regionWindow region.val reg.toNat) (16 + region.val) false)) ∧
  (∀ (region : Fin 16) (s : State), (s.region region.val).live 7 = true → 
      exec (.lxEventEdge region) s = .next (s.raiseEs (449 + 2 * region.val))) ∧
  (∀ (region : Fin 16) (i : FenxonImage) (s : State), (s.region region.val).staging = none → (s.region region.val).state = 2 → (s.region region.val).incoming = some i → s.lanPend 0x0C01 region.val = none → 
      exec (.lxReadyRise region) s = .next ((s.setRegion region.val { s.region region.val with image := some i, incoming := none }).lanEnter region.val 3)) ∧
  (∀ (region : Fin 16) (s : State), (s.region region.val).staging = none → (s.region region.val).state = 2 → (s.region region.val).incoming.isSome = true → 
      exec (.initTimeout region) s = .next ((((s.lanClear region.val).setRegion region.val { (s.lanClear region.val).region region.val with reason := 0x150B }).lanEnter region.val 1).lanFinish 0x0C01 region.val 0x20 0x150B [])) ∧
  (∀ (region : Fin 16) (readback : Bool) (s : State), (s.region region.val).staging = none → (s.region region.val).state = 4 → (s.region region.val).flight = [] → (s.region region.val).waits = [] → (s.region region.val).quiesce = some .rest → 
      exec (.quiesceDrained region readback) s = .next ((((s.setRegion region.val { s.region region.val with quiesce := none, clock := 0 }).lanEnter region.val 5).lanFinish 0x0C02 region.val 0 0 []).settleDestroys)) ∧
  (∀ (region : Fin 16) (readback : Bool) (s : State), (s.region region.val).staging = none → (s.region region.val).state = 4 → (s.region region.val).flight = [] → (s.region region.val).waits = [] → (s.region region.val).quiesce = some .unload → 
      exec (.quiesceDrained region readback) s = .next ((s.lanUnload region.val).settleDestroys)) ∧
  (∀ (region : Fin 16) (readback : Bool) (s : State), (s.region region.val).staging = none → (s.region region.val).state = 4 → 
      exec (.quiesceTimeout region readback) s = .next ((((s.setRegion region.val { s.region region.val with waits := [] }).lanLose region.val).lanQuiesced region.val readback).settleDestroys))

/-- A scrub pass counts and faults, a sample above the cap throttles or trips the region, and throttling deepens and ends, as R677 to R679 say; the receive side of a line port and parked packets act as R31 to R36 and R336 say. -/
def Obligations.RegionPowerActs : Prop :=
  (∀ (region : Fin 16) (corrected : BitVec 16) (uncorrectable : Bool) (s : State), 3 ≤ (s.region region.val).state → (s.region region.val).state ≤ 5 → uncorrectable = false → 
      exec (.configScrubPass region corrected uncorrectable) s = .next ((List.range corrected.toNat).foldl (fun u _ => (u.bump (R.LAN_SCRUB_CE region.val)).fault 0x0C (0x600 + region.val) 1 []) s)) ∧
  (∀ (region : Fin 16) (corrected : BitVec 16) (uncorrectable : Bool) (s : State), 3 ≤ (s.region region.val).state → (s.region region.val).state ≤ 5 → uncorrectable = true → 
      exec (.configScrubPass region corrected uncorrectable) s = .next (((((List.range corrected.toNat).foldl (fun u _ => (u.bump (R.LAN_SCRUB_CE region.val)).fault 0x0C (0x600 + region.val) 1 []) s)).lanFault region.val 0x1510).fault 0x0D (0x600 + region.val) 0 [])) ∧
  (∀ (region : Fin 16) (sample : BitVec 12) (s : State), 3 ≤ (s.region region.val).state → (s.region region.val).state ≤ 5 → 4 * sample.toNat ≤ 3 * s.cap5 (s.region region.val) → (s.region region.val).stage ≠ 0 → 
      exec (.regionPowerSample region sample) s = .next (s.setRegion region.val { s.region region.val with samples := (sample.toNat :: (s.region region.val).samples).take 64 })) ∧
  (∀ (region : Fin 16) (sample : BitVec 12) (s : State), 3 ≤ (s.region region.val).state → (s.region region.val).state ≤ 5 → 3 * s.cap5 (s.region region.val) < 4 * sample.toNat → 
      exec (.regionPowerSample region sample) s = .next (let r := region.val
        let v := { s.region r with samples := (sample.toNat :: (s.region r).samples).take 64 }
        (((s.setRegion r v).bump (R.LAN_TRIPS r)).setRegion r { v with stage := 3 }).lanFault r 0x1511)) ∧
  (∀ (region : Fin 16) (s : State), (s.region region.val).stage = 1 → s.cap5 (s.region region.val) < 2 * (s.region region.val).avg → (s.region region.val).state = 3 → 
      exec (.throttleStage2 region) s = .next ((s.setRegion region.val { s.region region.val with stage := 2, clock := max (min 100 (s.region region.val).clock) ((s.region region.val).clock / 2) }).raiseEs (448 + 2 * region.val))) ∧
  (∀ (region : Fin 16) (s : State), (s.region region.val).avg * 20 ≤ s.cap5 (s.region region.val) * 9 → (s.region region.val).stage = 1 → 
      exec (.throttleRecovery region) s = .next ((s.setRegion region.val { s.region region.val with stage := 0 }).emit (.regionSignal region.val 5))) ∧
  (∀ (region : Fin 16) (i : FenxonImage) (s : State), (s.region region.val).avg * 20 ≤ s.cap5 (s.region region.val) * 9 → (s.region region.val).stage = 2 → (s.region region.val).state = 3 → (s.region region.val).image = some i → 
      exec (.throttleRecovery region) s = .next (s.setRegion region.val { s.region region.val with
          clock := min i.clock ((s.region region.val).clock * 2), stage := if min i.clock ((s.region region.val).clock * 2) = i.clock then 1 else 2 })) ∧
  (∀ (region : Fin 16) (s : State), (s.region region.val).stage = 2 → s.cap5 (s.region region.val) < 2 * (s.region region.val).avg → (s.region region.val).clock ≤ 100 → (s.region region.val).state = 3 → 
      exec (.powerTrip region) s = .next (((s.bump (R.LAN_TRIPS region.val)).setRegion region.val { s.region region.val with stage := 3 }).lanFault region.val 0x1511)) ∧
  (∀ (port : Fin 8) (bytes : List Byte) (s : State), s.lineOpen port.val = true → lookup s.pipe.arriving port.val = none → 
      exec (.frameReceive port bytes) s = .next (s.receive port.val bytes)) ∧
  (∀ (port : Fin 8) (fcsGood : Bool) (k : Nat) (bytes : List Byte) (s : State), lookup s.pipe.arriving port.val = some (k, bytes, false) → k ≠ 0 → 
      exec (.frameTail port fcsGood) s = .next ((({ s with pipe := { s.pipe with arriving := eraseKey s.pipe.arriving port.val } }).countTail port.val bytes fcsGood).tail k fcsGood)) ∧
  (∀ (port : Fin 8) (fcsGood : Bool) (k : Nat) (bytes : List Byte) (s : State), lookup s.pipe.arriving port.val = some (k, bytes, true) → 
      exec (.frameTail port fcsGood) s = .next ((({ s with pipe := { s.pipe with arriving := eraseKey s.pipe.arriving port.val } }).countTail port.val bytes fcsGood).bump R.BPM_ALLOC_SHORT)) ∧
  (∀ (page : BitVec 30) (ecc : EccResult) (s : State), (s.page page.toNat).filling = true → (s.page page.toNat).cached.isSome = true → 
      exec (.pageFillComplete page ecc) s = .next ((s.fillPage page.toNat none).releasePage page.toNat)) ∧
  (∀ (page : BitVec 30) (ecc : EccResult) (f : Nat) (s : State), (s.page page.toNat).home = .ddr f → (s.page page.toNat).filling = true → (s.page page.toNat).cached = none → ((s.eccRead (f * 4096) ecc).page page.toNat).poisoned = false → 
      exec (.pageFillComplete page ecc) s = .next (((s.eccRead (f * 4096) ecc).fillPage page.toNat none).releasePage page.toNat)) ∧
  (∀ (place : BitVec 16) (x : Parked) (s : State), s.pgr.parked[place.toNat]? = some x → 
      exec (.parkTimeout place) s = .next ((({ s with pgr := { s.pgr with parked := s.pgr.parked.eraseIdx place.toNat } }).bump R.PGR_PARK_DROPS).dropPkt x.pkt 0x0800))

/-- Links change, flits are accepted or refused and replayed, beacons are sent and taken, packets of each class are taken, requests time out and time is corrected, as R687 to R712 and R718 say; what a fabric correction leaves open is a free value (log entry 2). -/
def Obligations.FabricActs : Prop :=
  (∀ (port : Fin 4) (up : Bool) (s : State), s.mainOn = true → (s.sport port.val).up = false → s.sparLost port.val ≠ 2 → up = true → 
      exec (.sparLinkChange port up) s = .next (((s.setSport port.val ((s.sport port.val).restart true)).raiseEs (480 + port.val)).settleUpstream)) ∧
  (∀ (port : Fin 4) (up : Bool) (s : State), s.mainOn = true → (s.sport port.val).up = true → up = false → 
      exec (.sparLinkChange port up) s = .next (((s.sparDown port.val).raiseEs (480 + port.val)).settleUpstream)) ∧
  (∀ (port : Fin 4) (words : List Word) (s : State), s.mainOn = true → (s.sport port.val).up = true → words.length ≠ 35 → 
      exec (.flitReceive port words) s = .next (s.sparNak port.val)) ∧
  (∀ (port : Fin 4) (words : List Word) (s : State), s.mainOn = true → (s.sport port.val).up = true → words.length = 35 → 
      exec (.flitReceive port words) s = .next (let p := port.val
        if wd words 34 ≠ (crc32c (wordsBytes (words.take 34))).toNat then s.sparNak p
        else
          let w0 := wd words 0
          let u := s.sparAcked p (field w0 15 4)
          let back := field (wd words 1) 31 30
          let u := u.setSport p { u.sport p with credits := (u.sport p).credits.set back ((u.sport p).credits.getD back 0 + field (wd words 1) 29 20) }
          let u := if bitAt w0 3 then u.sparReplay p else u
          let u := u.sparPump p (u.sport p).waiting.length
          if (u.sport p).up = false then u
          else if field w0 31 30 = 0 ∧ bitAt w0 29 = false ∧ bitAt w0 28 = false then u
          else if field w0 27 16 ≠ (u.sport p).rxSeq then u.sparNak p
          else
            (u.setSport p { u.sport p with rxSeq := ((u.sport p).rxSeq + 1) % 4096, nak := false }).flitBody p
              { vc := field w0 31 30, first := bitAt w0 29, last := bitAt w0 28, payload := wordsBytes ((words.drop 2).take 32) })) ∧
  (∀ (port : Fin 4) (s : State), s.mainOn = true → (s.sport port.val).up = true → (s.sport port.val).kept ≠ [] → (s.sport port.val).replays < 15 → 
      exec (.replayTimeout port) s = .next (let p := port.val
        let v := s.sport p
        (((List.range v.kept.length).foldl (fun u k => u.putFlit p (v.kept.getD k idleFlit) (v.acked + 1 + k) 0 0) (s.setSport p { v with replays := v.replays + 1 })).bump R.SPR_REPLAYS).sparFault p 0x03)) ∧
  (∀ (port : Fin 4) (s : State), s.mainOn = true → (s.sport port.val).up = true → (s.sport port.val).kept ≠ [] → 15 ≤ (s.sport port.val).replays → 
      exec (.replayTimeout port) s = .next ((((((s.bump R.SPR_REPLAYS).sparFault port.val 0x03).sparDown port.val).raiseEs (480 + port.val)).raiseEs 491).sparFault port.val 0x04 |>.settleUpstream)) ∧
  (∀ (s : State), s.mainOn = true → 
      exec (.beaconSend) s = .next ((List.range 4).foldl State.sendBeacon s)) ∧
  (∀ (port : Fin 4) (body : List Byte) (s : State), s.mainOn = true → (s.sport port.val).up = true → (s.sport port.val).nbr = none → 
      exec (.beaconReceive port body) s = .next (let u := (s.setSport port.val { s.sport port.val with nbr := some (beaconOf body) }).raiseEs 484
        (if (beaconOf body).fabric ≠ u.spr.fabric then u.bump R.SPR_FOREIGN_BEACONS else u).settleUpstream)) ∧
  (∀ (port : Fin 4) (packet : List Byte) (s : State), s.mainOn = true → (s.sport port.val).up = true → (sparParse packet).cls = 2 → s.spr.joined = true → s.carries port.val = true → (sparParse packet).dst = s.spr.addr → 
      exec (.mailboxPacketReceive port packet) s = .next (s.takeMail  (sparParse packet))) ∧
  (∀ (port : Fin 4) (packet : List Byte) (s : State), s.mainOn = true → (s.sport port.val).up = true → (sparParse packet).cls = 3 → s.spr.joined = true → s.carries port.val = true → (sparParse packet).dst = s.spr.addr → 
      exec (.remoteRequestReceive port packet) s = .next (s.takeRequest  (sparParse packet))) ∧
  (∀ (port : Fin 4) (packet : List Byte) (s : State), s.mainOn = true → (s.sport port.val).up = true → (sparParse packet).cls = 4 → s.spr.joined = true → s.carries port.val = true → (sparParse packet).dst = s.spr.addr → 
      exec (.remoteResponseReceive port packet) s = .next (s.takeResponse  (sparParse packet))) ∧
  (∀ (port : Fin 4) (packet : List Byte) (s : State), s.mainOn = true → (s.sport port.val).up = true → (sparParse packet).cls = 5 → s.spr.joined = true → s.carries port.val = true → (sparParse packet).dst = s.spr.addr → 
      exec (.framePacketReceive port packet) s = .next (s.takeFrame port.val (sparParse packet))) ∧
  (∀ (chan : Fin 64) (a : Bool) (s : State), s.rfb (F.SPR_CHAN_MAP_valid chan.val) = true → s.engineSide chan.val = some a → (s.schan chan.val).rejected = true → ((s.chan (.int chan.val)).side a).rxFull = true → s.spr.joined = true → s.spr.leaving = false → 
      exec (.mailboxResend chan) s = .next (s.sparMail chan.val (s.sideMid (.int chan.val) (!a)) ((s.chan (.int chan.val)).side a).rx)) ∧
  (∀ (chan : Fin 64) (w : Nat) (s : State), (s.schan chan.val).request = some w → 
      exec (.sparRequestTimeout chan) s = .next (s.sparComplete chan.val w 4 0)) ∧
  (∀ (t1 : Int) (t2 : Int) (t3 : Int) (t4 : Int) (ts : Int) (tr : Int) (p : Nat) (s : State), s.spr.upstream = some p → s.mainOn = true → s.time.running = true → 
      exec (.timeExchange t1 t2 t3 t4 ts tr) s = .next (s.sparCorrect (sparOffset (t1 + s.sparDelay p true) t2 t3 (t4 - s.sparDelay p false) ts (tr - s.sparDelay p false))))

/-- A device joins and leaves, routes are written and committed, grants are made and revoked and channels mapped, as R695 to R706 say. -/
def Obligations.FabricCommands : Prop :=
  (Runs .sprJoin sprJoinSpec (fun c s => c.reserved [(0, 0xCF000FFF)] = none ∧ s.spr.joined = false ∧ s.sparUnderTest (field (c.p 0) 27 24) = false)
      (fun c s => ({ s with spr := { s.spr with
        joining := true, timeRoot := bitAt (c.p 0) 31, timeFollow := bitAt (c.p 0) 30, portMask := field (c.p 0) 27 24, addr := field (c.p 0) 11 0, fabric := c.p 1, holdover := false } }).replyPending c [⟨.spar, 0⟩] s.sparIdentity)) ∧
  (∀ (s : State), s.spr.joining = true → 
      exec (.joinWaitEnd) s = .next (match ({ s with spr := { s.spr with joining := false } }).sparConflict with
        | some n => ((({ s with spr := { s.spr with joining := false } }).raiseEs 485).unjoin (((s.findPend (·.cmd.opcode = 0x0D00)).map (fun (p : PendCmd) => p.note)).getD [])).finishOp 0x0D00 0x20 0x1603 (results [n, n / 2 ^ 32])
        | none => (List.range 64).foldl State.sparKick ((({ s with spr := { s.spr with joining := false, joined := true } }).settleUpstream).finishOp 0x0D00 0 0 []))) ∧
  (Runs .sprLeave sprLeaveSpec (fun c s => s.spr.joined = true)
      (fun c s => (({ s with spr := { s.spr with leaving := true } }).replyPending c [⟨.spar, 0⟩]).settleLeave)) ∧
  (Answers .sprRouteWrite sprRouteWriteSpec (fun c s => s.spr.joined = true ∧ c.reserved [(0, 0x8FFF1FFF)] = none ∧ c.indirect = false ∧ c.p 0 % 8192 ≠ 0 ∧ field (c.p 0) 27 16 + c.p 0 % 8192 ≤ 4096 ∧ c.shortBlock (16 + c.p 0 % 8192) = false ∧ bitAt (c.p 0) 31 = true ∧
        ((List.range (c.p 0 % 8192)).all fun k => fits (c.p (1 + k)) 0x8000000F && !bitAt (c.p (1 + k)) 31) = true)
      (fun c s => { s with spr := { s.spr with next := some ((List.range (c.p 0 % 8192)).foldl
          (fun m k => if c.p (1 + k) = 0 then eraseKey m (field (c.p 0) 27 16 + k) else insertKey m (field (c.p 0) 27 16 + k) (c.p (1 + k))) []) } }) (fun c s => [])) ∧
  (Answers .sprEpochCommit sprEpochCommitSpec (fun c s => s.spr.joined = true ∧ c.reserved [(0, 0xFFFF)] = none ∧ s.spr.next.isSome = true ∧ c.p 0 = (s.spr.epoch + 1) % 65536)
      (fun c s => ({ s with spr := { s.spr with epoch := (s.spr.epoch + 1) % 65536, previous := some s.spr.current, current := s.spr.next.getD [], next := none } }).raiseEs 486) (fun c s => [])) ∧
  (∀ (s : State), 
      exec (.previousEpochDiscard) s = .next ({ s with spr := { s.spr with previous := none } })) ∧
  (Runs .sprRemoteGrant sprRemoteGrantSpec (fun c s => s.spr.joined = true ∧ c.reserved [(0, 0x800000FF)] = none ∧ bitAt (c.p 0) 31 = true ∧ (lookup s.spr.grants (c.p 0 % 256)).isSome = true)
      (fun c s => (({ s with spr := { s.spr with grants := eraseKey s.spr.grants (c.p 0 % 256) } }).replyPending c [⟨.sparGrant, c.p 0 % 256⟩]
        (((lookup s.spr.grants (c.p 0 % 256)).map SparGrant.note).getD [])).settleGrants)) ∧
  (Runs .sprRemoteGrant sprRemoteGrantSpec (fun c s => s.spr.joined = true ∧ bitAt (c.p 0) 31 = false ∧ c.reserved [(0, 0x800000FF), (1, 0x0FFF0FFF), (2, 0x1FFF1FFF), (3, 0xC000FFFF), (4, 0x3FFFFFFF), (5, 0x1FFFF)] = none ∧ c.p 3 % 65536 < 0x0810 ∧ 1 ≤ c.p 5 ∧ c.p 5 ≤ 65536 ∧
        (c.p 4 + c.p 5) * 4096 ≤ (s.rangeOf (c.p 3 % 65536)).2 * 2 ^ 21 ∧ lookup s.spr.grants (c.p 0 % 256) = none)
      (fun c s => (({ s with spr := { s.spr with grants := insertKey s.spr.grants (c.p 0 % 256) {
          addrMask := field (c.p 1) 27 16, addr := field (c.p 1) 11 0, midMask := field (c.p 2) 28 16, mid := field (c.p 2) 12 0
          read := bitAt (c.p 3) 31, write := bitAt (c.p 3) 30, ssid := c.p 3 % 65536, offset := c.p 4, pages := c.p 5 } } }).reply c c.units 0 0 []).settleGrants)) ∧
  (∀ (mid : BitVec 13) (chan : Fin 64) (value : Word) (s : State), s.gate mid.toNat (R.SPR_CHAN_MAP chan.val) false = .open_ → bitAt (value.toNat &&& 0xC0FFF03F) 31 = false → 
      exec (.sprChanMapWrite mid chan value) s = .next (s.setReg (R.SPR_CHAN_MAP chan.val) (value.toNat &&& 0xC0FFF03F))) ∧
  (∀ (mid : BitVec 13) (chan : Fin 64) (value : Word) (s : State), s.gate mid.toNat (R.SPR_CHAN_MAP chan.val) false = .open_ → bitAt (value.toNat &&& 0xC0FFF03F) 31 = true → (s.setReg (R.SPR_CHAN_MAP chan.val) (value.toNat &&& 0xC0FFF03F)).engineSide chan.val = none → 
      exec (.sprChanMapWrite mid chan value) s = .next (((s.setReg (R.SPR_CHAN_MAP chan.val) (value.toNat &&& 0xC0FFF03F)).setF (F.SPR_CHAN_MAP_valid chan.val) 0).setF F.SPR_BLK_STATUS_reason 0x1608))

/-- Faults count, leak, retire and are logged; Foghorn is acknowledged; counters are shown, as R156 and R719 to R738 say. -/
def Obligations.FaultActs : Prop :=
  (∀ (resource : BitVec 16) (s : State), 
      exec (.leakTick resource) s = .next (s.setCounter resource.toNat (s.counter resource.toNat - 1))) ∧
  (∀ (lane : Fin 8) (s : State), s.mainOn = true → s.isOut (0x100 + lane.val) = false → s.portExists (s.lanePort lane.val) = true → 
      exec (.highBerEvent lane) s = .next ((s.setLink (s.lanePort lane.val) false).fault 0x01 (0x100 + lane.val) 1 [s.lanePort lane.val])) ∧
  (∀ (pair : Fin 2) (s : State), s.mainOn = true → 
      exec (.keeperLockstepMismatch pair) s = .next (s.pairFault pair.val [0])) ∧
  (∀ (s : State), s.boot.keeperHalted = false → 
      exec (.heartbeatTimeout) s = .next (s.pairFault s.activePair [1])) ∧
  (∀ (pair : Fin 2) (corrected : Bool) (s : State), s.mainOn = true → s.pair pair.val ≠ .off → corrected = true → 
      exec (.keeperMemoryError pair corrected) s = .next (s.fault 0x0E (pairRes pair.val) 0 [])) ∧
  (∀ (pair : Fin 2) (corrected : Bool) (s : State), s.mainOn = true → s.pair pair.val ≠ .off → corrected = false → 
      exec (.keeperMemoryError pair corrected) s = .next (s.pairFault pair.val [2])) ∧
  (∀ (error : Machine.LinkError) (s : State), s.mainOn = true → 
      exec (.hostLinkError error) s = .next (s.aer (match error with
          | .malformed fn => if s.fnExists fn.val = true then fn.val else 0
          | .ecrc fn => if s.fnExists fn.val = true then fn.val else 0
          | _ => 0) (match error with
          | .receiver => .receiver
          | .replayTimer => .replayTimer
          | .replayRollover => .replayRollover
          | .corrected => .correctedInternal
          | .dataLink => .dataLink
          | .flowControl => .flowControl
          | .malformed _ => .malformed
          | .ecrc _ => .ecrc
          | .uncorrectable => .uncorrectableInternal))) ∧
  (∀ (kind : Fin 9) (r : Nat) (s : State), s.mainOn = true → (s.ras.running.any (resKind · = kind.val)) = false → s.ras.queued.find? (resKind · = kind.val) = some r → s.canStart r = true → 
      exec (.retirementStart kind) s = .next (let u := { s with ras := { s.ras with queued := s.ras.queued.filter (· != r) } }
        if u.retireAllowed r then u.retireBegin r else u.holdAtLimit r)) ∧
  (∀ (resource : BitVec 16) (s : State), s.ras.running.contains resource.toNat = true → s.retireDone resource.toNat = true → 
      exec (.retirementEnd resource) s = .next (let r := resource.toNat
        let u := ({ s with ras := { s.ras with running := s.ras.running.filter (· != r), retired := s.ras.retired ++ [r] } }).showRetired.retireEnded r
        (match u.findPend fun p => p.cmd.opcode = 0x0E01 && p.cmd.p 0 % 65536 = r with
          | some p => u.finish p 0 0 []
          | none => u).retireNext (resKind r))) ∧
  (Pends .rasRetire rasRetireSpec (fun c s => c.reserved [(0, 0xFFFF)] = none ∧ resKnown (c.p 0 % 65536) = true ∧ s.isRetired (c.p 0 % 65536) = false ∧ s.ras.queued.contains (c.p 0 % 65536) = false ∧ resKind (c.p 0 % 65536) ≠ 7 ∧ s.retireAllowed (c.p 0 % 65536) = true)
      (fun c s => s.queueRetire (c.p 0 % 65536))) ∧
  (Pends .rasRestore rasRestoreSpec (fun c s => c.reserved [(0, 0xFFFF)] = none ∧ s.ras.running.contains (c.p 0 % 65536) = false ∧ s.ras.retired.contains (c.p 0 % 65536) = true ∧ s.firstRefused [(testClaim (c.p 0 % 65536), holderWord 0x17 0x01 c.mid)] = none)
      (fun c s => s.takeClaims [(testClaim (c.p 0 % 65536), holderWord 0x17 0x01 c.mid)])) ∧
  (∀ (resource : BitVec 16) (pass : Bool) (p : PendCmd) (s : State), s.findPend (fun p => p.cmd.opcode = 0x0E02 && p.cmd.p 0 % 65536 = resource.toNat) = some p → s.retireDone resource.toNat = true → pass = true → 
      exec (.selftestEnd resource pass) s = .next (((s.dropClaim (testClaim resource.toNat)).restored resource.toNat).finish p 0 0 [])) ∧
  (Answers .rasThresholdSet rasThresholdSetSpec (fun c s => c.reserved [(0, 15)] = none ∧ 1 ≤ c.p 0 ∧ c.p 0 ≤ 8 ∧ kindGood (c.p 1) = true)
      (fun c s => s.setKind (c.p 0) (c.p 1)) (fun c s => [])) ∧
  (Answers .rasFoghornAck rasFoghornAckSpec (fun c s => c.reserved [(0, 0x1F)] = none)
      (fun c s => (s.fogClear (c.p 0)).log 6 {}) (fun c s => results [s.reg R.RAS_FOGHORN % 32])) ∧
  (Answers .rasLogRead rasLogReadSpec (fun c s => c.reserved [(0, 0x8001FFFF)] = none ∧ bitAt (c.p 0) 31 = false ∧ 1 ≤ c.p 0 % 2 ^ 17 ∧ c.p 0 % 2 ^ 17 ≤ 3)
      (fun c s => s) (fun c s => results [(s.logSpan (c.p 1) (c.p 0 % 2 ^ 17)).1, (s.logSpan (c.p 1) (c.p 0 % 2 ^ 17)).2, s.reg R.RAS_LOG_OLDEST, s.reg R.RAS_LOG_NEWEST]
        ++ bytesWords ((List.range (s.logSpan (c.p 1) (c.p 0 % 2 ^ 17)).2).flatMap fun j => Mem.bytes s.mem.mram (logBase + add32 (s.logSpan (c.p 1) (c.p 0 % 2 ^ 17)).1 j % logSlots * 64) 64))) ∧
  (Answers .rasLogRead rasLogReadSpec (fun c s => c.reserved [(0, 0x8001FFFF)] = none ∧ bitAt (c.p 0) 31 = true ∧ c.fromManager = true ∧ 1 ≤ c.p 0 % 2 ^ 17 ∧ c.p 0 % 2 ^ 17 ≤ 81920)
      (fun c s => if (s.logSpan (c.p 1) (c.p 0 % 2 ^ 17)).2 = 0 then s
      else s.emit (.hostWrite 0 (s.q (s.inst 0).adminQid).pas (c.p 2 + c.p 3 * 2 ^ 32)
        ((List.range (s.logSpan (c.p 1) (c.p 0 % 2 ^ 17)).2).flatMap fun j => Mem.bytes s.mem.mram (logBase + add32 (s.logSpan (c.p 1) (c.p 0 % 2 ^ 17)).1 j % logSlots * 64) 64))) (fun c s => results [(s.logSpan (c.p 1) (c.p 0 % 2 ^ 17)).1, (s.logSpan (c.p 1) (c.p 0 % 2 ^ 17)).2, s.reg R.RAS_LOG_OLDEST, s.reg R.RAS_LOG_NEWEST])) ∧
  (∀ (mid : BitVec 13) (s : State), s.gate mid.toNat (R.RAS_HEARTBEAT) false = .open_ → 
      exec (.rasHeartbeatWrite mid) s = .next (s)) ∧
  (∀ (mid : BitVec 13) (resource : BitVec 16) (s : State), s.gate mid.toNat (R.RAS_CNT_SEL) false = .open_ → 
      exec (.rasCntSelWrite mid resource) s = .next (let r := resource.toNat
        ((s.setF F.RAS_CNT_SEL_resource r).setF F.RAS_CNT_SEL_busy 0).setReg R.RAS_CNT_VALUE (b2n (s.ras.retired.contains r) * 2 ^ 31 + b2n (s.ras.running.contains r) * 2 ^ 30
          + b2n (s.tst.underTest.contains r) * 2 ^ 29 + b2n (s.ras.limitHold.contains r) * 2 ^ 28 + s.counter r)))

/-- Resources are placed under test and released, lanes configured and read, checkers lock and end, and the debug port and the thread debug registers act, as R740 to R756 say; counts and ball levels are free values (log entry 2). -/
def Obligations.TestActs : Prop :=
  (Runs .tstPlaceUnderTest tstPlaceUnderTestSpec (fun c s => c.reserved [(0, 0x1FFFF)] = none ∧ testKnown (c.p 0 % 65536) = true ∧ s.placeFault (c.p 0 % 65536) = none ∧ s.firstRefused [(testClaim (c.p 0 % 65536), holderWord 0x18 0x01 c.mid)] = none)
      (fun c s => (((s.takeClaims [(testClaim (c.p 0 % 65536), holderWord 0x18 0x01 c.mid)]).place (c.p 0 % 65536)).replyPending c [⟨.resource, c.p 0 % 65536⟩]).settlePlaced)) ∧
  (Runs .tstRelease tstReleaseSpec (fun c s => c.reserved [(0, 0x1FFFF)] = none ∧ s.tst.underTest.contains (c.p 0 % 65536) = true)
      (fun c s => let t := s.replyPending c [⟨.resource, c.p 0 % 65536⟩]
      match t.findPend (fun p => p.cmd.opcode = 0x0F01 && !s.cmds.pend.contains p) with
      | some p =>
        let r := p.cmd.p 0 % 65536
        ((((t.endTest r).putBack r).releaseHold (resKind r)).finish p 0 0 []).raiseEs 502
      | none => t)) ∧
  (Answers .tstPatternCfg tstPatternCfgSpec (fun c s => c.reserved [(0, 0xFFFF), (1, 0xFEFFFFFF)] = none ∧ testKnown (c.p 0) = true ∧ (testLane (c.p 0)).isSome = true ∧ s.tst.underTest.contains (c.p 0) = true ∧ field (c.p 1) 23 20 ≤ 6)
      (fun c s => let n := (testLane (c.p 0)).getD 0
      ((((s.setReg (R.TST_USER_PAT_0 n) (c.p 2)).setReg (R.TST_USER_PAT_1 n) (c.p 3)).setReg (R.TST_USER_PAT_2 n) (c.p 4)).setReg (R.TST_USER_PAT_3 n) (c.p 5)).laneCtl n
        (putField (c.p 1) 27 26 (s.rf (F.TST_LANE_CTL_loopback n)))) (fun c s => [])) ∧
  (Answers .tstLoopbackCfg tstLoopbackCfgSpec (fun c s => c.reserved [(0, 0xFFFF), (1, 3)] = none ∧ testKnown (c.p 0) = true ∧ (testLane (c.p 0)).isSome = true ∧ s.tst.underTest.contains (c.p 0) = true ∧ (c.p 1 ≠ 3 ∨ testLane (c.p 0) ≠ some 48))
      (fun c s => s.setF (F.TST_LANE_CTL_loopback ((testLane (c.p 0)).getD 0)) (c.p 1)) (fun c s => [])) ∧
  (Answers .tstResultRead tstResultReadSpec (fun c s => c.reserved [(0, 0x8000FFFF)] = none ∧ testKnown (c.p 0 % 65536) = true ∧ (testLane (c.p 0 % 65536)).isSome = true ∧ s.tst.underTest.contains (c.p 0 % 65536) = true ∧ bitAt (c.p 0) 31 = false)
      (fun c s => s.runChecker ((testLane (c.p 0 % 65536)).getD 0)) (fun c s => let n := (testLane (c.p 0 % 65536)).getD 0
      results ([R.TST_BITS_LO n, R.TST_BITS_HI n, R.TST_ERRORS_LO n, R.TST_ERRORS_HI n, R.TST_LANE_STATUS n, R.TST_LOCK_LOSSES n].map (s.runChecker n).reg))) ∧
  (∀ (mid : BitVec 13) (lane : Fin 49) (value : Word) (s : State), s.gate mid.toNat (R.TST_LANE_CTL lane.val) false = .open_ → 
      exec (.tstLaneCtlEnable mid lane value) s = .next (s.laneCtl lane.val value.toNat)) ∧
  (∀ (mid : BitVec 13) (lane : Fin 49) (s : State), s.gate mid.toNat (R.TST_LANE_CTL lane.val) false = .open_ → 
      exec (.tstLaneClear mid lane) s = .next ([R.TST_BITS_LO lane.val, R.TST_BITS_HI lane.val, R.TST_ERRORS_LO lane.val, R.TST_ERRORS_HI lane.val, R.TST_LOCK_LOSSES lane.val].foldl (fun u a => u.setReg a 0) (s.runChecker lane.val))) ∧
  (∀ (lane : Fin 49) (s : State), s.checking lane.val = true → s.rfb (F.TST_LANE_STATUS_lock lane.val) = false → 
      exec (.checkerLock lane) s = .next (if (s.setF (F.TST_LANE_STATUS_lock lane.val) 1).rfb (F.TST_LANE_STATUS_done lane.val) then s.setF (F.TST_LANE_STATUS_lock lane.val) 1
        else (s.setF (F.TST_LANE_STATUS_lock lane.val) 1).setF (F.TST_LANE_STATUS_counting lane.val) 1)) ∧
  (∀ (lane : Fin 49) (s : State), s.checking lane.val = true → s.rfb (F.TST_LANE_STATUS_lock lane.val) = true → 
      exec (.checkerLockLoss lane) s = .next (((((s.runChecker lane.val).setF (F.TST_LANE_STATUS_lock lane.val) 0).setF (F.TST_LANE_STATUS_counting lane.val) 0).bump (R.TST_LOCK_LOSSES lane.val)).raiseEs 500)) ∧
  (∀ (lane : Fin 49) (s : State), s.checking lane.val = true → s.reg (R.TST_LANE_CTL lane.val) % 2 ^ 20 ≠ 0 → s.rfb (F.TST_LANE_STATUS_done lane.val) = false → 
      exec (.checkerDurationEnd lane) s = .next ((((s.runChecker lane.val).setF (F.TST_LANE_STATUS_counting lane.val) 0).setF (F.TST_LANE_STATUS_done lane.val) 1).raiseEs 501)) ∧
  (∀ (s : State), 
      exec (.bypass) s = .next ((s.setF F.TST_DBG_STATUS_selected 0).emit (.tap 0))) ∧
  (∀ (s : State), 
      exec (.idcode) s = .next ((s.setF F.TST_DBG_STATUS_selected 0).emit (.tap Config.idcode.toNat))) ∧
  (∀ (s : State), 
      exec (.samplePreload) s = .next ((s.draw.2.setF F.TST_DBG_STATUS_selected 0).emit (.tap s.draw.1))) ∧
  (∀ (s : State), (s.setF F.TST_DBG_STATUS_selected 0).dbgLevel = 0 → 
      exec (.extest) s = .next ({ s.setF F.TST_DBG_STATUS_selected 0 with boot := { s.boot with extest := true } })) ∧
  (∀ (s : State), (s.setF F.TST_DBG_STATUS_selected 0).dbgLevel ≠ 0 → 
      exec (.extest) s = .next ((s.setF F.TST_DBG_STATUS_selected 0).dbgRefused.emit (.tap 0))) ∧
  (∀ (core : Fin 4) (s : State), s.mainOn = true → s.dbgLevel = 0 → core.val / 2 = s.activePair → 
      exec (.keeperDebugHalt core) s = .next ({ s with boot := { s.boot with keeperHalted := true } })) ∧
  (∀ (core : Fin 4) (s : State), s.mainOn = true → s.dbgLevel ≠ 0 → 
      exec (.keeperDebugHalt core) s = .next (s.dbgRefused)) ∧
  (∀ (core : Fin 4) (s : State), s.mainOn = true → s.dbgLevel = 0 → core.val / 2 = s.activePair → s.boot.keeperHalted = true → 
      exec (.keeperDebugResume core) s = .next (({ s with boot := { s.boot with keeperHalted := false } }).mctpServe)) ∧
  (∀ (mid : BitVec 13) (cluster : Fin 16) (word : Fin 4) (value : Word) (s : State), s.gate mid.toNat (R.TST_CLV_HALT (cluster.val * 8 + word.val)) false = .open_ → 
      exec (.tstClvHaltWrite mid cluster word value) s = .next (let a := R.TST_CLV_HALT (cluster.val * 8 + word.val)
        (List.range 32).foldl (fun u b =>
          if bitAt value.toNat b = bitAt (s.reg a) b then u
          else if bitAt value.toNat b then u.haltThread cluster.val (32 * word.val + b) else u.resumeThread cluster.val (32 * word.val + b)) (s.setReg a value.toNat))) ∧
  (∀ (mid : BitVec 13) (value : Word) (s : State), s.gate mid.toNat (R.TST_CLV_REG_DATA) false = .open_ → (s.th (s.rf F.TST_CLV_REG_SEL_cluster) (s.rf F.TST_CLV_REG_SEL_thread)).state = 6 → s.rf F.TST_CLV_REG_SEL_reg < 32 → 
      exec (.tstClvRegDataWrite mid value) s = .next (s.setTh (s.rf F.TST_CLV_REG_SEL_cluster) (s.rf F.TST_CLV_REG_SEL_thread) ((s.th (s.rf F.TST_CLV_REG_SEL_cluster) (s.rf F.TST_CLV_REG_SEL_thread)).wr (s.rf F.TST_CLV_REG_SEL_reg) value.toNat)))

/-- Wherever a command stands at the front of the queue, a step is that command carried out on the state with the rest of the queue; on an empty queue a step is what the block does of itself in one cycle, which is the model's choice (log entry 13). -/
def Obligations.StepRunsFront : Prop :=
  (∀ (s : State) (c : Instr) (rest : List Instr), s.pending = c :: rest →
    step s = exec c { s with pending := rest }) ∧
  (∀ s : State, s.pending = [] → step s = .next s.idle)

/-- After reset every register holds the reset value of its map, main supplies are absent, no queue is in use, no instance is created, no claim is held, every byte of memory reads 0 and no command waits; the contents of memory are the model's choice (log entry 10). -/
def Obligations.ResetLeaves : Prop :=
  (∀ a : Nat, State.reset.reg a = regReset a) ∧
  (State.reset.mainOn = false ∧ State.reset.queuesInUse = 0 ∧ State.reset.claimCount = 0 ∧ State.reset.pending = []) ∧
  (∀ i : Nat, (State.reset.inst i).state = 0 ∧ (State.reset.q i).state = 0) ∧
  (∀ a : Nat, Mem.rd State.reset.mem.mram a = 0#8 ∧ Mem.rd State.reset.mem.ddr a = 0#8 ∧ Mem.rd State.reset.mem.pbuf a = 0#8)

/-- After reset the MRAM, the LPDDR5X data, the packet buffer, the state cache and the donated memory are in canonical form (the model's own form, log entry 10). -/
def Obligations.ResetMemoriesOk : Prop :=
  State.reset.memoriesOk = true

/-- From every state whose byte memories are in canonical form, any step that answers a next state leaves them in canonical form: equal memories stay equal data (the model's own form, log entry 10). -/
def Obligations.StepKeepsMemoriesOk : Prop :=
  ∀ s t : State, s.memoriesOk = true → step s = .next t → t.memoriesOk = true

/-- From every state, any step that answers a next state leaves the fused minimum of every image type at least where it stood: no command of the table, no reset and no loss of power lets an image below it verify again. -/
def Obligations.StepKeepsFuses : Prop :=
  ∀ s t : State, step s = .next t → ∀ type : Nat, lookupD s.boot.fuses type 0 ≤ lookupD t.boot.fuses type 0

/-- From every state, a step that answers a next state leaves exactly the commands behind the front: no command is lost, reordered or sent by the device itself (the queue is the model's own, log entry 13). -/
def Obligations.StepTakesFront : Prop :=
  ∀ s t : State, step s = .next t → t.pending = s.pending.tail

/-- Every command of the table, with any operands and in any state, answers a next state: no fault and no refusal. -/
def Obligations.NoCommandStops : Prop :=
  ∀ (c : Instr) (s : State), ∃ t, exec c s = .next t

/-- A byte read after a string is written is the string's where the write reaches and as it was everywhere else; after a range is cleared it is 0 in the range and as it was everywhere else. -/
def Obligations.MemoryReadAfterWrite : Prop :=
  (∀ (m : Mem) (a : Nat) (bs : List Byte) (x : Nat),
    Mem.rd (Mem.write m a bs) x = if a ≤ x ∧ x < a + bs.length then bs.getD (x - a) 0#8 else Mem.rd m x) ∧
  (∀ (m : Mem) (a n x : Nat), Mem.rd (Mem.clear m a n) x = if a ≤ x ∧ x < a + n then 0#8 else Mem.rd m x)

/-- In each form of the write, and when a write that the check held back is applied, enable and ready read 0 afterwards and reason is as it was. -/
def Obligations.DisableClearsReady : Prop :=
  (∀ (mid : BitVec 13) (block : Fin 32) (s : State), s.masterOpen mid.toNat = true → s.gate mid.toNat (blkCtl block.val) false = .open_ → blockKnown block.val = true → s.rfb (blkChecking block.val) = false → 
      ∃ t, exec (.blkCtlDisableWrite mid block) s = .next t ∧ (t : State).rf (blkReady block.val) = 0 ∧ t.rf (blkEnable block.val) = 0 ∧ t.rf (blkReason block.val) = s.rf (blkReason block.val)) ∧
  (∀ (mid : BitVec 13) (block : Fin 32) (s : State), s.masterOpen mid.toNat = true → s.gate mid.toNat (blkCtl block.val) false = .open_ → blockKnown block.val = true → s.rfb (blkChecking block.val) = false → 
      ∃ t, exec (.blkCtlLockWrite mid block false) s = .next t ∧ (t : State).rf (blkReady block.val) = 0 ∧ t.rf (blkEnable block.val) = 0 ∧ t.rf (blkReason block.val) = s.rf (blkReason block.val)) ∧
  (∀ (acc : RegAccess) (value : Dword) (block : Fin 32) (s : State), acc.window = .control → acc.size = 4 → acc.full = true → acc.offset.toNat = blkCtl block.val → blockKnown block.val = true → s.masterOpen acc.mid.toNat = true → s.gate acc.mid.toNat acc.offset.toNat false = .open_ → s.rfb (blkChecking block.val) = false → value.toNat % 2 = 0 → 
      ∃ t, exec (.registerWrite acc value) s = .next t ∧ (t : State).rf (blkReady block.val) = 0 ∧ t.rf (blkEnable block.val) = 0 ∧ t.rf (blkReason block.val) = s.rf (blkReason block.val)) ∧
  (∀ (block : Fin 32) (v : Nat) (s : State), s.rfb (blkChecking block.val) = true → lookup s.cmds.heldCtl block.val = some v → v % 2 = 0 → 
      ∃ t, exec (.consistencyCheckEnd block) s = .next t ∧ (t : State).rf (blkReady block.val) = 0 ∧ t.rf (blkEnable block.val) = 0 ∧
        t.rf (blkReason block.val) = ({ s with cmds := { s.cmds with heldCtl := eraseKey s.cmds.heldCtl block.val } }.blkVerdict block.val).rf (blkReason block.val))

/-- A read of window offsets 0x200_0000 to 0x3FF_FFFF by a master that reaches the window answers 0 and a write does nothing; both leave the rest of the state as it was. -/
def Obligations.UnmappedWindow : Prop :=
  (∀ (acc : Machine.RegAccess) (value : Dword) (s : State), acc.window = .control → accessGood acc.offset.toNat acc.size acc.full = true → 0x2000000 ≤ acc.offset.toNat → s.masterOpen acc.mid.toNat = true → windowMid acc.mid.toNat = true → s.islandDown 42 = false → acc.mid.toNat = 0x1040 → s.dbgLevel ≤ 1 → 
      exec (.registerWrite acc value) s = .next (s)) ∧
  (∀ (acc : Machine.RegAccess) (s : State), acc.window = .control → accessGood acc.offset.toNat acc.size acc.full = true → 0x2000000 ≤ acc.offset.toNat → s.masterOpen acc.mid.toNat = true → windowMid acc.mid.toNat = true → s.islandDown 42 = false → acc.mid.toNat = 0x1040 → s.dbgLevel ≤ 1 → 
      exec (.rcRegisterRead acc) s = .next (s.emit (.readData acc.mid.toNat 0)))

/-- An access of any size by another MID is refused as a bad master's, once: a write is discarded and a read answers 0; an access of an instance window under another function's MID does nothing, and one under an unassigned MID is refused in the same way. -/
def Obligations.WindowMasters : Prop :=
  (∀ (acc : Machine.RegAccess) (value : Dword) (s : State), acc.window = .control → s.masterOpen acc.mid.toNat = true → acc.mid.toNat ≠ 0 → ¬ (0x1000 ≤ acc.mid.toNat ∧ acc.mid.toNat ≤ 0x1003) → acc.mid.toNat ≠ 0x1040 → 
      exec (.registerWrite acc value) s = .next (s.badMaster acc.mid.toNat false (some (0x40000000 + acc.offset.toNat)))) ∧
  (∀ (acc : Machine.RegAccess) (s : State), acc.window = .control → s.masterOpen acc.mid.toNat = true → acc.mid.toNat ≠ 0 → ¬ (0x1000 ≤ acc.mid.toNat ∧ acc.mid.toNat ≤ 0x1003) → acc.mid.toNat ≠ 0x1040 → 
      exec (.rcRegisterRead acc) s = .next ((s.badMaster acc.mid.toNat true (some (0x40000000 + acc.offset.toNat))).emit (.readData acc.mid.toNat 0))) ∧
  (∀ (acc : RegAccess) (value : Dword) (i : Fin 2048) (s : State), acc.window = .inst i → acc.mid.toNat ≠ i.val → s.masterOpen acc.mid.toNat = true → midAssigned acc.mid.toNat = true → 
      exec (.registerWrite acc value) s = .next (s)) ∧
  (∀ (acc : RegAccess) (i : Fin 2048) (s : State), acc.window = .inst i → acc.mid.toNat ≠ i.val → s.masterOpen acc.mid.toNat = true → midAssigned acc.mid.toNat = true → 
      exec (.rcRegisterRead acc) s = .next (s)) ∧
  (∀ (acc : RegAccess) (value : Dword) (i : Fin 2048) (s : State), acc.window = .inst i → s.masterOpen acc.mid.toNat = true → midAssigned acc.mid.toNat = false → 
      exec (.registerWrite acc value) s = .next (s.badMaster acc.mid.toNat false none)) ∧
  (∀ (acc : RegAccess) (i : Fin 2048) (s : State), acc.window = .inst i → s.masterOpen acc.mid.toNat = true → midAssigned acc.mid.toNat = false → 
      exec (.rcRegisterRead acc) s = .next ((s.badMaster acc.mid.toNat true none).emit (.readData acc.mid.toNat 0)))

/-- On an Active submission ring whose context is hot, a value is accepted only in the range of R200 and becomes PI; any other is discarded, counted and raises ES 226, and the queue is left as it was. -/
def Obligations.DoorbellRange : Prop :=
  (∀ (iid : Fin 2048) (loc : BitVec 16) (value : Word) (q : Nat) (s : State), s.fnOpen iid.val = true → iid.val = 0 ∨ loc.toNat < 6144 → s.findQ iid.val loc.toNat = some q → (s.q q).type ≤ 4 → (s.q q).state = 1 → (s.q q).hot = true → 
      exec (.doorbellWrite iid loc value) s = .next ((if sub32 value.toNat (s.q q).ci ≤ 2 ^ (s.q q).sizeLog2 ∧ sub32 (s.q q).pi (s.q q).ci ≤ sub32 value.toNat (s.q q).ci
          then s.setQ q { s.q q with pi := value.toNat } else (s.bump R.QMG_DB_RANGE).raiseEs 226).ensureFetch q)) ∧
  (∀ (iid : Fin 2048) (loc : BitVec 16) (value : Word) (q : Nat) (s : State), s.fnOpen iid.val = true → iid.val = 0 ∨ loc.toNat < 6144 → s.findQ iid.val loc.toNat = some q → (s.q q).type ≤ 4 → (s.q q).state = 1 → (s.q q).hot = true → ¬ (sub32 value.toNat (s.q q).ci ≤ 2 ^ (s.q q).sizeLog2 ∧ sub32 (s.q q).pi (s.q q).ci ≤ sub32 value.toNat (s.q q).ci) → 
      ∃ t, exec (.doorbellWrite iid loc value) s = .next t ∧ (t : State).queues = s.queues)

/-- Where a doorbell's local queue is not the instance's, each form of the write leaves every queue as it was and counts in HST_DB_BAD; a read of any doorbell of an instance window answers 0 and leaves every queue as it was. -/
def Obligations.ForeignDoorbell : Prop :=
  (∀ (iid : Fin 2048) (loc : BitVec 16) (value : Word) (s : State), s.fnOpen iid.val = true → iid.val = 0 ∨ loc.toNat < 6144 → s.findQ iid.val loc.toNat = none → s.ownsLoc iid.val loc.toNat = false → 
      ∃ t, exec (.doorbellWrite iid loc value) s = .next t ∧ (t : State).queues = s.queues ∧ t.reg R.HST_DB_BAD = min (s.reg R.HST_DB_BAD + 1) (2 ^ 32 - 1)) ∧
  (∀ (iid : Fin 2048) (loc : BitVec 16) (value : Word) (arm : Bool) (s : State), s.fnOpen iid.val = true → iid.val = 0 ∨ loc.toNat < 6144 → s.findQ iid.val loc.toNat = none → s.ownsLoc iid.val loc.toNat = false → 
      ∃ t, exec (.evqDoorbellWrite iid loc value arm) s = .next t ∧ (t : State).queues = s.queues ∧ t.reg R.HST_DB_BAD = min (s.reg R.HST_DB_BAD + 1) (2 ^ 32 - 1)) ∧
  (∀ (acc : RegAccess) (value : Dword) (i : Fin 2048) (o : Nat) (s : State), acc.window = .inst i → acc.mid.toNat = i.val → s.fnOpen i.val = true → accessGood acc.offset.toNat acc.size acc.full = true → acc.offset.toNat % 8 = 0 → instArea i.val acc.offset.toNat = .doorbells o → s.findQ i.val (o / 8) = none → s.ownsLoc i.val (o / 8) = false → 
      ∃ t, exec (.registerWrite acc value) s = .next t ∧ (t : State).queues = s.queues ∧ t.reg R.HST_DB_BAD = min (s.reg R.HST_DB_BAD + 1) (2 ^ 32 - 1)) ∧
  (∀ (acc : RegAccess) (i : Fin 2048) (o : Nat) (s : State), acc.window = .inst i → acc.mid.toNat = i.val → s.fnOpen i.val = true → accessGood acc.offset.toNat acc.size acc.full = true → instArea i.val acc.offset.toNat = .doorbells o → 
      ∃ t, exec (.rcRegisterRead acc) s = .next t ∧ (t : State).queues = s.queues ∧ t.out.head? = some (.readData i.val 0))

/-- A target's own read of EVC_CLAIM answers the lowest-numbered source that is pending, enabled and has the target's mask bit set, and clears its pending bit; where no source qualifies it answers 0xFFFF and counts in EVC_SPURIOUS. -/
def Obligations.ClaimLowest : Prop :=
  (∀ (mid : BitVec 13) (t : Fin 32) (n : Nat) (s : State), s.ownsTarget t.val mid.toNat = true → t.val < 4 → s.gate mid.toNat (R.EVC_CLAIM t.val) true = .open_ → s.qualifies t.val n = true → ∀ m, m < n → s.qualifies t.val m = false → 
      exec (.evcClaimRead mid t) s = .next ((s.clearPending (n / 32) (2 ^ (n % 32))).emit (.readData mid.toNat n))) ∧
  (∀ (mid : BitVec 13) (t : Fin 32) (s : State), s.ownsTarget t.val mid.toNat = true → t.val < 4 → s.gate mid.toNat (R.EVC_CLAIM t.val) true = .open_ → ∀ n : Fin 512, s.qualifies t.val n.val = false → 
      exec (.evcClaimRead mid t) s = .next ((s.bump R.EVC_SPURIOUS).emit (.readData mid.toNat 0xFFFF))) ∧
  (∀ (s : State) (n : Nat), n < 512 → bitAt ((s.clearPending (n / 32) (2 ^ (n % 32))).reg (R.EVC_PENDING (n / 32))) (n % 32) = false)

/-- Of two different sequences exactly one is later unless they lie 2^31 apart, when neither is; different sequences that lie within half the circle of one another have a latest, which is later than every other; where no member is later than every other, the largest as an unsigned number stands in. -/
def Obligations.SequencesCompare : Prop :=
  (∀ a b : Nat, a < 2 ^ 32 → b < 2 ^ 32 →
    (later a b = true ↔ 1 ≤ ((a : Int) - b) % 2 ^ 32 ∧ ((a : Int) - b) % 2 ^ 32 ≤ 2 ^ 31 - 1) ∧
    ((later a b = false ∧ later b a = false) ↔ (a = b ∨ ((a : Int) - b) % 2 ^ 32 = 2 ^ 31)) ∧ ¬ (later a b = true ∧ later b a = true)) ∧
  (∀ (l : List Nat) (base : Nat), l ≠ [] → l.Nodup → (∀ x ∈ l, x < 2 ^ 32 ∧ sub32 x base < 2 ^ 31) →
    latestSeq l ∈ l ∧ ∀ x ∈ l, x = latestSeq l ∨ later (latestSeq l) x = true) ∧
  (∀ l : List Nat, l ≠ [] → (∀ a ∈ l, l.count a ≠ 1 ∨ ∃ b ∈ l, b ≠ a ∧ later a b = false) →
    latestSeq l ∈ l ∧ ∀ x ∈ l, x ≤ latestSeq l)

/-- While fewer than 65,536 contexts are in use the pool gives a QID, and the context of the QID that it gives is Free; with all in use it gives none. Which Free QID it gives is left open (log entry 2). -/
def Obligations.FreeQidIsFree : Prop :=
  (∀ s : State, s.queuesInUse < 65536 → ∃ q, s.freeQid.1 = some q ∧ q < 65536 ∧ (s.q q).state = 0) ∧
  (∀ s : State, 65536 ≤ s.queuesInUse → s.freeQid.1 = none)
end

