-- ==== Sys2Proof/Laws/Cmd.lean ====
section
/-! SUPPORT. What the running of an admin command (R98, R99, R114) and of a Clove instruction (R464, R470) can do. -/

namespace Sys2Proof.Machine

/-- An accepted entry runs the command's own checks and effect, and is answered as they say. -/
theorem runCmd_accepted {s : State} {spec : CmdSpec} {e : AdminEntry} (h : s.accepts spec e = true) :
    s.runCmd spec e =
      match spec.body (s.heard spec e) (s.taken spec e) with
      | .ok t ws => t.reply (s.heard spec e) (s.heard spec e).units 0 0 ws
      | .pend t => t.replyPending (s.heard spec e) (spec.locks (s.taken spec e) (s.heard spec e))
      | .pendNote t note => t.replyPending (s.heard spec e) (spec.locks (s.taken spec e) (s.heard spec e)) note
      | .bad t st rs ws => t.reply (s.heard spec e) (s.heard spec e).units st rs ws := by
  unfold State.accepts at h
  simp only [Bool.and_eq_true, Bool.not_eq_true', beq_iff_eq, bne_iff_ne, decide_eq_true_eq] at h
  obtain ⟨⟨⟨⟨⟨⟨hop, hel⟩, hu⟩, h64⟩, hsp⟩, hrow⟩, hco⟩ := h
  unfold State.runCmd
  simp only [hop, hel, bne_self_eq_false, Bool.not_true, Bool.or_self, Bool.false_eq_true, if_false]
  split at hrow
  · rename_i row hr
    have hf := Option.isNone_iff_eq_none.mp hrow
    simp only [State.heard] at hu h64 hsp hf hco
    simp only [hr, hf]
    rw [if_neg (by simp [hu, h64, hsp])]
    simp only [State.taken, State.heard, hco, Bool.false_eq_true, if_false]
    first | rfl | skip
  · exact absurd hrow (by simp)

/-- An accepted command that succeeds at once (R98). -/
theorem runCmd_ok {s t : State} {spec : CmdSpec} {e : AdminEntry} {ws : List Word} (h : s.accepts spec e = true)
    (hb : spec.body (s.heard spec e) (s.taken spec e) = .ok t ws) :
    s.runCmd spec e = t.reply (s.heard spec e) (s.heard spec e).units 0 0 ws := by
  rw [runCmd_accepted h, hb]

/-- An accepted command that runs on (R99, R115). -/
theorem runCmd_pend {s t : State} {spec : CmdSpec} {e : AdminEntry} (h : s.accepts spec e = true)
    (hb : spec.body (s.heard spec e) (s.taken spec e) = .pend t) :
    s.runCmd spec e = t.replyPending (s.heard spec e) (spec.locks (s.taken spec e) (s.heard spec e)) := by
  rw [runCmd_accepted h, hb]

/-- An accepted command that runs on and keeps numbers for its end (R99, R115). -/
theorem runCmd_pendNote {s t : State} {spec : CmdSpec} {e : AdminEntry} {note : List Nat} (h : s.accepts spec e = true)
    (hb : spec.body (s.heard spec e) (s.taken spec e) = .pendNote t note) :
    s.runCmd spec e = t.replyPending (s.heard spec e) (spec.locks (s.taken spec e) (s.heard spec e)) note := by
  rw [runCmd_accepted h, hb]

/-- An accepted command that its own checks turn away (R101). -/
theorem runCmd_bad {s t : State} {spec : CmdSpec} {e : AdminEntry} {st rs : Nat} {ws : List Word} (h : s.accepts spec e = true)
    (hb : spec.body (s.heard spec e) (s.taken spec e) = .bad t st rs ws) :
    s.runCmd spec e = t.reply (s.heard spec e) (s.heard spec e).units st rs ws := by
  rw [runCmd_accepted h, hb]

/-- A Running thread carries its instruction out, and ends it as its row says (R464, R470). -/
theorem clvRun_runs {s : State} {k n w len : Nat} {op : ClvOp} {f : State → Nat → ClvEnd} (h : s.runs k n op w len = true) :
    s.clvRun k n op f = s.ended k n len (f s w) := by
  simp only [State.runs, Bool.and_eq_true, Bool.not_eq_true', beq_iff_eq] at h
  obtain ⟨⟨⟨h1, h2⟩, h3⟩, h4⟩ := h
  simp only [State.clvRun, h1, h2, h3, h4, bne_self_eq_false, Bool.or_self, Bool.false_eq_true, if_false, if_true, State.ended]

end Sys2Proof.Machine
end

