-- ==== Sys2Proof/Laws/Mem.lean ====
section
/-! SUPPORT. The canonical form of byte memories: every operation on one keeps it, and memory after reset has it (log entry 10). -/

namespace Sys2Proof.Machine

/-- The canonical form, said of the cells: no cell holds 0, and addresses rise. -/
theorem Mem.wf_iff (m : Mem) : Mem.wf m = true ↔ (∀ c ∈ m, c.2 ≠ 0#8) ∧ m.Pairwise fun a b => a.1 < b.1 := by
  induction m with
  | nil => simp [Mem.wf]
  | cons c t ih =>
    obtain ⟨k, b⟩ := c
    simp only [Mem.wf, Bool.and_eq_true, bne_iff_ne, List.all_eq_true, decide_eq_true_eq, ih, List.forall_mem_cons, List.pairwise_cons]
    tauto

theorem Mem.wf_nil : Mem.wf [] = true := rfl

theorem Mem.wf_filter {m : Mem} (p : Host.Cell → Bool) (h : Mem.wf m = true) : Mem.wf (m.filter p) = true := by
  rw [Mem.wf_iff] at h ⊢
  exact ⟨fun c hc => h.1 c (List.mem_filter.mp hc).1, h.2.filter p⟩

/-- The cells that a write adds lie in its range and are not 0. -/
theorem Mem.mem_cells {a : Nat} {bs : List Byte} {c : Host.Cell} (h : c ∈ Mem.cells a bs) :
    a ≤ c.1 ∧ c.1 < a + bs.length ∧ c.2 ≠ 0#8 := by
  induction bs generalizing a with
  | nil => simp [Mem.cells] at h
  | cons b t ih =>
    simp only [Mem.cells, List.length_cons] at h ⊢
    split at h
    · obtain ⟨h1, h2, h3⟩ := ih h
      exact ⟨by omega, by omega, h3⟩
    · rename_i hb
      rcases List.mem_cons.mp h with rfl | h
      · exact ⟨le_refl _, by simp, hb⟩
      · obtain ⟨h1, h2, h3⟩ := ih h
        exact ⟨by omega, by omega, h3⟩

theorem Mem.wf_cells (a : Nat) (bs : List Byte) : Mem.wf (Mem.cells a bs) = true := by
  induction bs generalizing a with
  | nil => rfl
  | cons b t ih =>
    simp only [Mem.cells]
    split
    · exact ih _
    · rename_i hb
      simp only [Mem.wf, Bool.and_eq_true, bne_iff_ne, List.all_eq_true, decide_eq_true_eq]
      exact ⟨⟨hb, fun c hc => by have := Mem.mem_cells hc; omega⟩, ih _⟩

/-- A write keeps the canonical form. -/
theorem Mem.wf_write {m : Mem} (a : Nat) (bs : List Byte) (h : Mem.wf m = true) : Mem.wf (Mem.write m a bs) = true := by
  have hc := (Mem.wf_iff _).mp (Mem.wf_cells a bs)
  rw [Mem.wf_iff] at h ⊢
  unfold Mem.write
  refine ⟨fun c hm => ?_, List.pairwise_append.mpr ⟨h.2.filter _, List.pairwise_append.mpr ⟨hc.2, h.2.filter _, ?_⟩, ?_⟩⟩
  · simp only [List.mem_append, List.mem_filter] at hm
    rcases hm with hm | hm | hm
    · exact h.1 c hm.1
    · exact hc.1 c hm
    · exact h.1 c hm.1
  · intro x hx y hy
    have := Mem.mem_cells hx
    have := (List.mem_filter.mp hy).2
    simp only [decide_eq_true_eq] at this
    omega
  · intro x hx y hy
    have hx := (List.mem_filter.mp hx).2
    simp only [decide_eq_true_eq] at hx
    simp only [List.mem_append, List.mem_filter, decide_eq_true_eq] at hy
    rcases hy with hy | hy
    · have := Mem.mem_cells hy
      omega
    · omega

/-- Clearing a range keeps the canonical form. -/
theorem Mem.wf_clear {m : Mem} (a n : Nat) (h : Mem.wf m = true) : Mem.wf (Mem.clear m a n) = true := Mem.wf_filter _ h

/-- Memory after reset has the canonical form. -/
theorem Mem.wf_reset : Mem.wf State.reset.mem.mram = true ∧ Mem.wf State.reset.mem.ddr = true ∧ Mem.wf State.reset.mem.pbuf = true
    ∧ Mem.wf State.reset.mem.cache = true ∧ Mem.wf State.reset.mem.donated = true := ⟨rfl, rfl, rfl, rfl, rfl⟩

end Sys2Proof.Machine
end

