-- ==== Sys2Proof/Laws/State.lean ====
section
/-! SUPPORT. Record updates of State: what each register reads after an update of another field, and what each named setter leaves. -/

namespace Sys2Proof.Machine

@[simp] theorem State.reg_boot (s : State) (v) (a : Nat) : ({ s with boot := v } : State).reg a = s.reg a := rfl
@[simp] theorem State.rf_boot (s : State) (v) (f : FRef) : ({ s with boot := v } : State).rf f = s.rf f := rfl
@[simp] theorem State.rfb_boot (s : State) (v) (f : FRef) : ({ s with boot := v } : State).rfb f = s.rfb f := rfl
@[simp] theorem State.reg_cmds (s : State) (v) (a : Nat) : ({ s with cmds := v } : State).reg a = s.reg a := rfl
@[simp] theorem State.rf_cmds (s : State) (v) (f : FRef) : ({ s with cmds := v } : State).rf f = s.rf f := rfl
@[simp] theorem State.rfb_cmds (s : State) (v) (f : FRef) : ({ s with cmds := v } : State).rfb f = s.rfb f := rfl
@[simp] theorem State.reg_host (s : State) (v) (a : Nat) : ({ s with host := v } : State).reg a = s.reg a := rfl
@[simp] theorem State.rf_host (s : State) (v) (f : FRef) : ({ s with host := v } : State).rf f = s.rf f := rfl
@[simp] theorem State.rfb_host (s : State) (v) (f : FRef) : ({ s with host := v } : State).rfb f = s.rfb f := rfl
@[simp] theorem State.reg_queues (s : State) (v) (a : Nat) : ({ s with queues := v } : State).reg a = s.reg a := rfl
@[simp] theorem State.rf_queues (s : State) (v) (f : FRef) : ({ s with queues := v } : State).rf f = s.rf f := rfl
@[simp] theorem State.rfb_queues (s : State) (v) (f : FRef) : ({ s with queues := v } : State).rfb f = s.rfb f := rfl
@[simp] theorem State.reg_dma (s : State) (v) (a : Nat) : ({ s with dma := v } : State).reg a = s.reg a := rfl
@[simp] theorem State.rf_dma (s : State) (v) (f : FRef) : ({ s with dma := v } : State).rf f = s.rf f := rfl
@[simp] theorem State.rfb_dma (s : State) (v) (f : FRef) : ({ s with dma := v } : State).rfb f = s.rfb f := rfl
@[simp] theorem State.reg_evc (s : State) (v) (a : Nat) : ({ s with evc := v } : State).reg a = s.reg a := rfl
@[simp] theorem State.rf_evc (s : State) (v) (f : FRef) : ({ s with evc := v } : State).rf f = s.rf f := rfl
@[simp] theorem State.rfb_evc (s : State) (v) (f : FRef) : ({ s with evc := v } : State).rfb f = s.rfb f := rfl
@[simp] theorem State.reg_buoy (s : State) (v) (a : Nat) : ({ s with buoy := v } : State).reg a = s.reg a := rfl
@[simp] theorem State.rf_buoy (s : State) (v) (f : FRef) : ({ s with buoy := v } : State).rf f = s.rf f := rfl
@[simp] theorem State.rfb_buoy (s : State) (v) (f : FRef) : ({ s with buoy := v } : State).rfb f = s.rfb f := rfl
@[simp] theorem State.reg_insts (s : State) (v) (a : Nat) : ({ s with insts := v } : State).reg a = s.reg a := rfl
@[simp] theorem State.rf_insts (s : State) (v) (f : FRef) : ({ s with insts := v } : State).rf f = s.rf f := rfl
@[simp] theorem State.rfb_insts (s : State) (v) (f : FRef) : ({ s with insts := v } : State).rfb f = s.rfb f := rfl
@[simp] theorem State.reg_mem (s : State) (v) (a : Nat) : ({ s with mem := v } : State).reg a = s.reg a := rfl
@[simp] theorem State.rf_mem (s : State) (v) (f : FRef) : ({ s with mem := v } : State).rf f = s.rf f := rfl
@[simp] theorem State.rfb_mem (s : State) (v) (f : FRef) : ({ s with mem := v } : State).rfb f = s.rfb f := rfl
@[simp] theorem State.reg_pgr (s : State) (v) (a : Nat) : ({ s with pgr := v } : State).reg a = s.reg a := rfl
@[simp] theorem State.rf_pgr (s : State) (v) (f : FRef) : ({ s with pgr := v } : State).rf f = s.rf f := rfl
@[simp] theorem State.rfb_pgr (s : State) (v) (f : FRef) : ({ s with pgr := v } : State).rfb f = s.rfb f := rfl
@[simp] theorem State.reg_bpm (s : State) (v) (a : Nat) : ({ s with bpm := v } : State).reg a = s.reg a := rfl
@[simp] theorem State.rf_bpm (s : State) (v) (f : FRef) : ({ s with bpm := v } : State).rf f = s.rf f := rfl
@[simp] theorem State.rfb_bpm (s : State) (v) (f : FRef) : ({ s with bpm := v } : State).rfb f = s.rfb f := rfl
@[simp] theorem State.reg_prs (s : State) (v) (a : Nat) : ({ s with prs := v } : State).reg a = s.reg a := rfl
@[simp] theorem State.rf_prs (s : State) (v) (f : FRef) : ({ s with prs := v } : State).rf f = s.rf f := rfl
@[simp] theorem State.rfb_prs (s : State) (v) (f : FRef) : ({ s with prs := v } : State).rfb f = s.rfb f := rfl
@[simp] theorem State.reg_cls (s : State) (v) (a : Nat) : ({ s with cls := v } : State).reg a = s.reg a := rfl
@[simp] theorem State.rf_cls (s : State) (v) (f : FRef) : ({ s with cls := v } : State).rf f = s.rf f := rfl
@[simp] theorem State.rfb_cls (s : State) (v) (f : FRef) : ({ s with cls := v } : State).rfb f = s.rfb f := rfl
@[simp] theorem State.reg_tbl (s : State) (v) (a : Nat) : ({ s with tbl := v } : State).reg a = s.reg a := rfl
@[simp] theorem State.rf_tbl (s : State) (v) (f : FRef) : ({ s with tbl := v } : State).rf f = s.rf f := rfl
@[simp] theorem State.rfb_tbl (s : State) (v) (f : FRef) : ({ s with tbl := v } : State).rfb f = s.rfb f := rfl
@[simp] theorem State.reg_swx (s : State) (v) (a : Nat) : ({ s with swx := v } : State).reg a = s.reg a := rfl
@[simp] theorem State.rf_swx (s : State) (v) (f : FRef) : ({ s with swx := v } : State).rf f = s.rf f := rfl
@[simp] theorem State.rfb_swx (s : State) (v) (f : FRef) : ({ s with swx := v } : State).rfb f = s.rfb f := rfl
@[simp] theorem State.reg_pipe (s : State) (v) (a : Nat) : ({ s with pipe := v } : State).reg a = s.reg a := rfl
@[simp] theorem State.rf_pipe (s : State) (v) (f : FRef) : ({ s with pipe := v } : State).rf f = s.rf f := rfl
@[simp] theorem State.rfb_pipe (s : State) (v) (f : FRef) : ({ s with pipe := v } : State).rfb f = s.rfb f := rfl
@[simp] theorem State.reg_time (s : State) (v) (a : Nat) : ({ s with time := v } : State).reg a = s.reg a := rfl
@[simp] theorem State.rf_time (s : State) (v) (f : FRef) : ({ s with time := v } : State).rf f = s.rf f := rfl
@[simp] theorem State.rfb_time (s : State) (v) (f : FRef) : ({ s with time := v } : State).rfb f = s.rfb f := rfl
@[simp] theorem State.reg_ras (s : State) (v) (a : Nat) : ({ s with ras := v } : State).reg a = s.reg a := rfl
@[simp] theorem State.rf_ras (s : State) (v) (f : FRef) : ({ s with ras := v } : State).rf f = s.rf f := rfl
@[simp] theorem State.rfb_ras (s : State) (v) (f : FRef) : ({ s with ras := v } : State).rfb f = s.rfb f := rfl
@[simp] theorem State.reg_tst (s : State) (v) (a : Nat) : ({ s with tst := v } : State).reg a = s.reg a := rfl
@[simp] theorem State.rf_tst (s : State) (v) (f : FRef) : ({ s with tst := v } : State).rf f = s.rf f := rfl
@[simp] theorem State.rfb_tst (s : State) (v) (f : FRef) : ({ s with tst := v } : State).rfb f = s.rfb f := rfl
@[simp] theorem State.reg_pwr (s : State) (v) (a : Nat) : ({ s with pwr := v } : State).reg a = s.reg a := rfl
@[simp] theorem State.rf_pwr (s : State) (v) (f : FRef) : ({ s with pwr := v } : State).rf f = s.rf f := rfl
@[simp] theorem State.rfb_pwr (s : State) (v) (f : FRef) : ({ s with pwr := v } : State).rfb f = s.rfb f := rfl
@[simp] theorem State.reg_clv (s : State) (v) (a : Nat) : ({ s with clv := v } : State).reg a = s.reg a := rfl
@[simp] theorem State.rf_clv (s : State) (v) (f : FRef) : ({ s with clv := v } : State).rf f = s.rf f := rfl
@[simp] theorem State.rfb_clv (s : State) (v) (f : FRef) : ({ s with clv := v } : State).rfb f = s.rfb f := rfl
@[simp] theorem State.reg_psq (s : State) (v) (a : Nat) : ({ s with psq := v } : State).reg a = s.reg a := rfl
@[simp] theorem State.rf_psq (s : State) (v) (f : FRef) : ({ s with psq := v } : State).rf f = s.rf f := rfl
@[simp] theorem State.rfb_psq (s : State) (v) (f : FRef) : ({ s with psq := v } : State).rfb f = s.rfb f := rfl
@[simp] theorem State.reg_saf (s : State) (v) (a : Nat) : ({ s with saf := v } : State).reg a = s.reg a := rfl
@[simp] theorem State.rf_saf (s : State) (v) (f : FRef) : ({ s with saf := v } : State).rf f = s.rf f := rfl
@[simp] theorem State.rfb_saf (s : State) (v) (f : FRef) : ({ s with saf := v } : State).rfb f = s.rfb f := rfl
@[simp] theorem State.reg_frs (s : State) (v) (a : Nat) : ({ s with frs := v } : State).reg a = s.reg a := rfl
@[simp] theorem State.rf_frs (s : State) (v) (f : FRef) : ({ s with frs := v } : State).rf f = s.rf f := rfl
@[simp] theorem State.rfb_frs (s : State) (v) (f : FRef) : ({ s with frs := v } : State).rfb f = s.rfb f := rfl
@[simp] theorem State.reg_mac (s : State) (v) (a : Nat) : ({ s with mac := v } : State).reg a = s.reg a := rfl
@[simp] theorem State.rf_mac (s : State) (v) (f : FRef) : ({ s with mac := v } : State).rf f = s.rf f := rfl
@[simp] theorem State.rfb_mac (s : State) (v) (f : FRef) : ({ s with mac := v } : State).rfb f = s.rfb f := rfl
@[simp] theorem State.reg_mgp (s : State) (v) (a : Nat) : ({ s with mgp := v } : State).reg a = s.reg a := rfl
@[simp] theorem State.rf_mgp (s : State) (v) (f : FRef) : ({ s with mgp := v } : State).rf f = s.rf f := rfl
@[simp] theorem State.rfb_mgp (s : State) (v) (f : FRef) : ({ s with mgp := v } : State).rfb f = s.rfb f := rfl
@[simp] theorem State.reg_lan (s : State) (v) (a : Nat) : ({ s with lan := v } : State).reg a = s.reg a := rfl
@[simp] theorem State.rf_lan (s : State) (v) (f : FRef) : ({ s with lan := v } : State).rf f = s.rf f := rfl
@[simp] theorem State.rfb_lan (s : State) (v) (f : FRef) : ({ s with lan := v } : State).rfb f = s.rfb f := rfl
@[simp] theorem State.reg_spr (s : State) (v) (a : Nat) : ({ s with spr := v } : State).reg a = s.reg a := rfl
@[simp] theorem State.rf_spr (s : State) (v) (f : FRef) : ({ s with spr := v } : State).rf f = s.rf f := rfl
@[simp] theorem State.rfb_spr (s : State) (v) (f : FRef) : ({ s with spr := v } : State).rfb f = s.rfb f := rfl
@[simp] theorem State.reg_snaps (s : State) (v) (a : Nat) : ({ s with snaps := v } : State).reg a = s.reg a := rfl
@[simp] theorem State.rf_snaps (s : State) (v) (f : FRef) : ({ s with snaps := v } : State).rf f = s.rf f := rfl
@[simp] theorem State.rfb_snaps (s : State) (v) (f : FRef) : ({ s with snaps := v } : State).rfb f = s.rfb f := rfl
@[simp] theorem State.reg_fresh (s : State) (v) (a : Nat) : ({ s with fresh := v } : State).reg a = s.reg a := rfl
@[simp] theorem State.rf_fresh (s : State) (v) (f : FRef) : ({ s with fresh := v } : State).rf f = s.rf f := rfl
@[simp] theorem State.rfb_fresh (s : State) (v) (f : FRef) : ({ s with fresh := v } : State).rfb f = s.rfb f := rfl
@[simp] theorem State.reg_out (s : State) (v) (a : Nat) : ({ s with out := v } : State).reg a = s.reg a := rfl
@[simp] theorem State.rf_out (s : State) (v) (f : FRef) : ({ s with out := v } : State).rf f = s.rf f := rfl
@[simp] theorem State.rfb_out (s : State) (v) (f : FRef) : ({ s with out := v } : State).rfb f = s.rfb f := rfl
@[simp] theorem State.reg_pending (s : State) (v) (a : Nat) : ({ s with pending := v } : State).reg a = s.reg a := rfl
@[simp] theorem State.rf_pending (s : State) (v) (f : FRef) : ({ s with pending := v } : State).rf f = s.rf f := rfl
@[simp] theorem State.rfb_pending (s : State) (v) (f : FRef) : ({ s with pending := v } : State).rfb f = s.rfb f := rfl
@[simp] theorem State.setReg_boot (s : State) (a v : Nat) : (s.setReg a v).boot = s.boot := rfl
@[simp] theorem State.setReg_cmds (s : State) (a v : Nat) : (s.setReg a v).cmds = s.cmds := rfl
@[simp] theorem State.setReg_host (s : State) (a v : Nat) : (s.setReg a v).host = s.host := rfl
@[simp] theorem State.setReg_queues (s : State) (a v : Nat) : (s.setReg a v).queues = s.queues := rfl
@[simp] theorem State.setReg_dma (s : State) (a v : Nat) : (s.setReg a v).dma = s.dma := rfl
@[simp] theorem State.setReg_evc (s : State) (a v : Nat) : (s.setReg a v).evc = s.evc := rfl
@[simp] theorem State.setReg_buoy (s : State) (a v : Nat) : (s.setReg a v).buoy = s.buoy := rfl
@[simp] theorem State.setReg_insts (s : State) (a v : Nat) : (s.setReg a v).insts = s.insts := rfl
@[simp] theorem State.setReg_mem (s : State) (a v : Nat) : (s.setReg a v).mem = s.mem := rfl
@[simp] theorem State.setReg_pgr (s : State) (a v : Nat) : (s.setReg a v).pgr = s.pgr := rfl
@[simp] theorem State.setReg_bpm (s : State) (a v : Nat) : (s.setReg a v).bpm = s.bpm := rfl
@[simp] theorem State.setReg_prs (s : State) (a v : Nat) : (s.setReg a v).prs = s.prs := rfl
@[simp] theorem State.setReg_cls (s : State) (a v : Nat) : (s.setReg a v).cls = s.cls := rfl
@[simp] theorem State.setReg_tbl (s : State) (a v : Nat) : (s.setReg a v).tbl = s.tbl := rfl
@[simp] theorem State.setReg_swx (s : State) (a v : Nat) : (s.setReg a v).swx = s.swx := rfl
@[simp] theorem State.setReg_pipe (s : State) (a v : Nat) : (s.setReg a v).pipe = s.pipe := rfl
@[simp] theorem State.setReg_time (s : State) (a v : Nat) : (s.setReg a v).time = s.time := rfl
@[simp] theorem State.setReg_ras (s : State) (a v : Nat) : (s.setReg a v).ras = s.ras := rfl
@[simp] theorem State.setReg_tst (s : State) (a v : Nat) : (s.setReg a v).tst = s.tst := rfl
@[simp] theorem State.setReg_pwr (s : State) (a v : Nat) : (s.setReg a v).pwr = s.pwr := rfl
@[simp] theorem State.setReg_clv (s : State) (a v : Nat) : (s.setReg a v).clv = s.clv := rfl
@[simp] theorem State.setReg_psq (s : State) (a v : Nat) : (s.setReg a v).psq = s.psq := rfl
@[simp] theorem State.setReg_saf (s : State) (a v : Nat) : (s.setReg a v).saf = s.saf := rfl
@[simp] theorem State.setReg_frs (s : State) (a v : Nat) : (s.setReg a v).frs = s.frs := rfl
@[simp] theorem State.setReg_mac (s : State) (a v : Nat) : (s.setReg a v).mac = s.mac := rfl
@[simp] theorem State.setReg_mgp (s : State) (a v : Nat) : (s.setReg a v).mgp = s.mgp := rfl
@[simp] theorem State.setReg_lan (s : State) (a v : Nat) : (s.setReg a v).lan = s.lan := rfl
@[simp] theorem State.setReg_spr (s : State) (a v : Nat) : (s.setReg a v).spr = s.spr := rfl
@[simp] theorem State.setReg_snaps (s : State) (a v : Nat) : (s.setReg a v).snaps = s.snaps := rfl
@[simp] theorem State.setReg_fresh (s : State) (a v : Nat) : (s.setReg a v).fresh = s.fresh := rfl
@[simp] theorem State.setReg_out (s : State) (a v : Nat) : (s.setReg a v).out = s.out := rfl
@[simp] theorem State.setReg_pending (s : State) (a v : Nat) : (s.setReg a v).pending = s.pending := rfl
@[simp] theorem State.setF_boot (s : State) (f : FRef) (v : Nat) : (s.setF f v).boot = s.boot := rfl
@[simp] theorem State.setF_cmds (s : State) (f : FRef) (v : Nat) : (s.setF f v).cmds = s.cmds := rfl
@[simp] theorem State.setF_host (s : State) (f : FRef) (v : Nat) : (s.setF f v).host = s.host := rfl
@[simp] theorem State.setF_queues (s : State) (f : FRef) (v : Nat) : (s.setF f v).queues = s.queues := rfl
@[simp] theorem State.setF_dma (s : State) (f : FRef) (v : Nat) : (s.setF f v).dma = s.dma := rfl
@[simp] theorem State.setF_evc (s : State) (f : FRef) (v : Nat) : (s.setF f v).evc = s.evc := rfl
@[simp] theorem State.setF_buoy (s : State) (f : FRef) (v : Nat) : (s.setF f v).buoy = s.buoy := rfl
@[simp] theorem State.setF_insts (s : State) (f : FRef) (v : Nat) : (s.setF f v).insts = s.insts := rfl
@[simp] theorem State.setF_mem (s : State) (f : FRef) (v : Nat) : (s.setF f v).mem = s.mem := rfl
@[simp] theorem State.setF_pgr (s : State) (f : FRef) (v : Nat) : (s.setF f v).pgr = s.pgr := rfl
@[simp] theorem State.setF_bpm (s : State) (f : FRef) (v : Nat) : (s.setF f v).bpm = s.bpm := rfl
@[simp] theorem State.setF_prs (s : State) (f : FRef) (v : Nat) : (s.setF f v).prs = s.prs := rfl
@[simp] theorem State.setF_cls (s : State) (f : FRef) (v : Nat) : (s.setF f v).cls = s.cls := rfl
@[simp] theorem State.setF_tbl (s : State) (f : FRef) (v : Nat) : (s.setF f v).tbl = s.tbl := rfl
@[simp] theorem State.setF_swx (s : State) (f : FRef) (v : Nat) : (s.setF f v).swx = s.swx := rfl
@[simp] theorem State.setF_pipe (s : State) (f : FRef) (v : Nat) : (s.setF f v).pipe = s.pipe := rfl
@[simp] theorem State.setF_time (s : State) (f : FRef) (v : Nat) : (s.setF f v).time = s.time := rfl
@[simp] theorem State.setF_ras (s : State) (f : FRef) (v : Nat) : (s.setF f v).ras = s.ras := rfl
@[simp] theorem State.setF_tst (s : State) (f : FRef) (v : Nat) : (s.setF f v).tst = s.tst := rfl
@[simp] theorem State.setF_pwr (s : State) (f : FRef) (v : Nat) : (s.setF f v).pwr = s.pwr := rfl
@[simp] theorem State.setF_clv (s : State) (f : FRef) (v : Nat) : (s.setF f v).clv = s.clv := rfl
@[simp] theorem State.setF_psq (s : State) (f : FRef) (v : Nat) : (s.setF f v).psq = s.psq := rfl
@[simp] theorem State.setF_saf (s : State) (f : FRef) (v : Nat) : (s.setF f v).saf = s.saf := rfl
@[simp] theorem State.setF_frs (s : State) (f : FRef) (v : Nat) : (s.setF f v).frs = s.frs := rfl
@[simp] theorem State.setF_mac (s : State) (f : FRef) (v : Nat) : (s.setF f v).mac = s.mac := rfl
@[simp] theorem State.setF_mgp (s : State) (f : FRef) (v : Nat) : (s.setF f v).mgp = s.mgp := rfl
@[simp] theorem State.setF_lan (s : State) (f : FRef) (v : Nat) : (s.setF f v).lan = s.lan := rfl
@[simp] theorem State.setF_spr (s : State) (f : FRef) (v : Nat) : (s.setF f v).spr = s.spr := rfl
@[simp] theorem State.setF_snaps (s : State) (f : FRef) (v : Nat) : (s.setF f v).snaps = s.snaps := rfl
@[simp] theorem State.setF_fresh (s : State) (f : FRef) (v : Nat) : (s.setF f v).fresh = s.fresh := rfl
@[simp] theorem State.setF_out (s : State) (f : FRef) (v : Nat) : (s.setF f v).out = s.out := rfl
@[simp] theorem State.setF_pending (s : State) (f : FRef) (v : Nat) : (s.setF f v).pending = s.pending := rfl
@[simp] theorem State.bumpBy_boot (s : State) (a k : Nat) : (s.bumpBy a k).boot = s.boot := rfl
@[simp] theorem State.bumpBy_cmds (s : State) (a k : Nat) : (s.bumpBy a k).cmds = s.cmds := rfl
@[simp] theorem State.bumpBy_host (s : State) (a k : Nat) : (s.bumpBy a k).host = s.host := rfl
@[simp] theorem State.bumpBy_queues (s : State) (a k : Nat) : (s.bumpBy a k).queues = s.queues := rfl
@[simp] theorem State.bumpBy_dma (s : State) (a k : Nat) : (s.bumpBy a k).dma = s.dma := rfl
@[simp] theorem State.bumpBy_evc (s : State) (a k : Nat) : (s.bumpBy a k).evc = s.evc := rfl
@[simp] theorem State.bumpBy_buoy (s : State) (a k : Nat) : (s.bumpBy a k).buoy = s.buoy := rfl
@[simp] theorem State.bumpBy_insts (s : State) (a k : Nat) : (s.bumpBy a k).insts = s.insts := rfl
@[simp] theorem State.bumpBy_mem (s : State) (a k : Nat) : (s.bumpBy a k).mem = s.mem := rfl
@[simp] theorem State.bumpBy_pgr (s : State) (a k : Nat) : (s.bumpBy a k).pgr = s.pgr := rfl
@[simp] theorem State.bumpBy_bpm (s : State) (a k : Nat) : (s.bumpBy a k).bpm = s.bpm := rfl
@[simp] theorem State.bumpBy_prs (s : State) (a k : Nat) : (s.bumpBy a k).prs = s.prs := rfl
@[simp] theorem State.bumpBy_cls (s : State) (a k : Nat) : (s.bumpBy a k).cls = s.cls := rfl
@[simp] theorem State.bumpBy_tbl (s : State) (a k : Nat) : (s.bumpBy a k).tbl = s.tbl := rfl
@[simp] theorem State.bumpBy_swx (s : State) (a k : Nat) : (s.bumpBy a k).swx = s.swx := rfl
@[simp] theorem State.bumpBy_pipe (s : State) (a k : Nat) : (s.bumpBy a k).pipe = s.pipe := rfl
@[simp] theorem State.bumpBy_time (s : State) (a k : Nat) : (s.bumpBy a k).time = s.time := rfl
@[simp] theorem State.bumpBy_ras (s : State) (a k : Nat) : (s.bumpBy a k).ras = s.ras := rfl
@[simp] theorem State.bumpBy_tst (s : State) (a k : Nat) : (s.bumpBy a k).tst = s.tst := rfl
@[simp] theorem State.bumpBy_pwr (s : State) (a k : Nat) : (s.bumpBy a k).pwr = s.pwr := rfl
@[simp] theorem State.bumpBy_clv (s : State) (a k : Nat) : (s.bumpBy a k).clv = s.clv := rfl
@[simp] theorem State.bumpBy_psq (s : State) (a k : Nat) : (s.bumpBy a k).psq = s.psq := rfl
@[simp] theorem State.bumpBy_saf (s : State) (a k : Nat) : (s.bumpBy a k).saf = s.saf := rfl
@[simp] theorem State.bumpBy_frs (s : State) (a k : Nat) : (s.bumpBy a k).frs = s.frs := rfl
@[simp] theorem State.bumpBy_mac (s : State) (a k : Nat) : (s.bumpBy a k).mac = s.mac := rfl
@[simp] theorem State.bumpBy_mgp (s : State) (a k : Nat) : (s.bumpBy a k).mgp = s.mgp := rfl
@[simp] theorem State.bumpBy_lan (s : State) (a k : Nat) : (s.bumpBy a k).lan = s.lan := rfl
@[simp] theorem State.bumpBy_spr (s : State) (a k : Nat) : (s.bumpBy a k).spr = s.spr := rfl
@[simp] theorem State.bumpBy_snaps (s : State) (a k : Nat) : (s.bumpBy a k).snaps = s.snaps := rfl
@[simp] theorem State.bumpBy_fresh (s : State) (a k : Nat) : (s.bumpBy a k).fresh = s.fresh := rfl
@[simp] theorem State.bumpBy_out (s : State) (a k : Nat) : (s.bumpBy a k).out = s.out := rfl
@[simp] theorem State.bumpBy_pending (s : State) (a k : Nat) : (s.bumpBy a k).pending = s.pending := rfl
@[simp] theorem State.bump_boot (s : State) (a : Nat) : (s.bump a).boot = s.boot := rfl
@[simp] theorem State.bump_cmds (s : State) (a : Nat) : (s.bump a).cmds = s.cmds := rfl
@[simp] theorem State.bump_host (s : State) (a : Nat) : (s.bump a).host = s.host := rfl
@[simp] theorem State.bump_queues (s : State) (a : Nat) : (s.bump a).queues = s.queues := rfl
@[simp] theorem State.bump_dma (s : State) (a : Nat) : (s.bump a).dma = s.dma := rfl
@[simp] theorem State.bump_evc (s : State) (a : Nat) : (s.bump a).evc = s.evc := rfl
@[simp] theorem State.bump_buoy (s : State) (a : Nat) : (s.bump a).buoy = s.buoy := rfl
@[simp] theorem State.bump_insts (s : State) (a : Nat) : (s.bump a).insts = s.insts := rfl
@[simp] theorem State.bump_mem (s : State) (a : Nat) : (s.bump a).mem = s.mem := rfl
@[simp] theorem State.bump_pgr (s : State) (a : Nat) : (s.bump a).pgr = s.pgr := rfl
@[simp] theorem State.bump_bpm (s : State) (a : Nat) : (s.bump a).bpm = s.bpm := rfl
@[simp] theorem State.bump_prs (s : State) (a : Nat) : (s.bump a).prs = s.prs := rfl
@[simp] theorem State.bump_cls (s : State) (a : Nat) : (s.bump a).cls = s.cls := rfl
@[simp] theorem State.bump_tbl (s : State) (a : Nat) : (s.bump a).tbl = s.tbl := rfl
@[simp] theorem State.bump_swx (s : State) (a : Nat) : (s.bump a).swx = s.swx := rfl
@[simp] theorem State.bump_pipe (s : State) (a : Nat) : (s.bump a).pipe = s.pipe := rfl
@[simp] theorem State.bump_time (s : State) (a : Nat) : (s.bump a).time = s.time := rfl
@[simp] theorem State.bump_ras (s : State) (a : Nat) : (s.bump a).ras = s.ras := rfl
@[simp] theorem State.bump_tst (s : State) (a : Nat) : (s.bump a).tst = s.tst := rfl
@[simp] theorem State.bump_pwr (s : State) (a : Nat) : (s.bump a).pwr = s.pwr := rfl
@[simp] theorem State.bump_clv (s : State) (a : Nat) : (s.bump a).clv = s.clv := rfl
@[simp] theorem State.bump_psq (s : State) (a : Nat) : (s.bump a).psq = s.psq := rfl
@[simp] theorem State.bump_saf (s : State) (a : Nat) : (s.bump a).saf = s.saf := rfl
@[simp] theorem State.bump_frs (s : State) (a : Nat) : (s.bump a).frs = s.frs := rfl
@[simp] theorem State.bump_mac (s : State) (a : Nat) : (s.bump a).mac = s.mac := rfl
@[simp] theorem State.bump_mgp (s : State) (a : Nat) : (s.bump a).mgp = s.mgp := rfl
@[simp] theorem State.bump_lan (s : State) (a : Nat) : (s.bump a).lan = s.lan := rfl
@[simp] theorem State.bump_spr (s : State) (a : Nat) : (s.bump a).spr = s.spr := rfl
@[simp] theorem State.bump_snaps (s : State) (a : Nat) : (s.bump a).snaps = s.snaps := rfl
@[simp] theorem State.bump_fresh (s : State) (a : Nat) : (s.bump a).fresh = s.fresh := rfl
@[simp] theorem State.bump_out (s : State) (a : Nat) : (s.bump a).out = s.out := rfl
@[simp] theorem State.bump_pending (s : State) (a : Nat) : (s.bump a).pending = s.pending := rfl
@[simp] theorem State.emit_regs (s : State) (o : Out) : (s.emit o).regs = s.regs := rfl
@[simp] theorem State.emit_boot (s : State) (o : Out) : (s.emit o).boot = s.boot := rfl
@[simp] theorem State.emit_cmds (s : State) (o : Out) : (s.emit o).cmds = s.cmds := rfl
@[simp] theorem State.emit_host (s : State) (o : Out) : (s.emit o).host = s.host := rfl
@[simp] theorem State.emit_queues (s : State) (o : Out) : (s.emit o).queues = s.queues := rfl
@[simp] theorem State.emit_dma (s : State) (o : Out) : (s.emit o).dma = s.dma := rfl
@[simp] theorem State.emit_evc (s : State) (o : Out) : (s.emit o).evc = s.evc := rfl
@[simp] theorem State.emit_buoy (s : State) (o : Out) : (s.emit o).buoy = s.buoy := rfl
@[simp] theorem State.emit_insts (s : State) (o : Out) : (s.emit o).insts = s.insts := rfl
@[simp] theorem State.emit_mem (s : State) (o : Out) : (s.emit o).mem = s.mem := rfl
@[simp] theorem State.emit_pgr (s : State) (o : Out) : (s.emit o).pgr = s.pgr := rfl
@[simp] theorem State.emit_bpm (s : State) (o : Out) : (s.emit o).bpm = s.bpm := rfl
@[simp] theorem State.emit_prs (s : State) (o : Out) : (s.emit o).prs = s.prs := rfl
@[simp] theorem State.emit_cls (s : State) (o : Out) : (s.emit o).cls = s.cls := rfl
@[simp] theorem State.emit_tbl (s : State) (o : Out) : (s.emit o).tbl = s.tbl := rfl
@[simp] theorem State.emit_swx (s : State) (o : Out) : (s.emit o).swx = s.swx := rfl
@[simp] theorem State.emit_pipe (s : State) (o : Out) : (s.emit o).pipe = s.pipe := rfl
@[simp] theorem State.emit_time (s : State) (o : Out) : (s.emit o).time = s.time := rfl
@[simp] theorem State.emit_ras (s : State) (o : Out) : (s.emit o).ras = s.ras := rfl
@[simp] theorem State.emit_tst (s : State) (o : Out) : (s.emit o).tst = s.tst := rfl
@[simp] theorem State.emit_pwr (s : State) (o : Out) : (s.emit o).pwr = s.pwr := rfl
@[simp] theorem State.emit_clv (s : State) (o : Out) : (s.emit o).clv = s.clv := rfl
@[simp] theorem State.emit_psq (s : State) (o : Out) : (s.emit o).psq = s.psq := rfl
@[simp] theorem State.emit_saf (s : State) (o : Out) : (s.emit o).saf = s.saf := rfl
@[simp] theorem State.emit_frs (s : State) (o : Out) : (s.emit o).frs = s.frs := rfl
@[simp] theorem State.emit_mac (s : State) (o : Out) : (s.emit o).mac = s.mac := rfl
@[simp] theorem State.emit_mgp (s : State) (o : Out) : (s.emit o).mgp = s.mgp := rfl
@[simp] theorem State.emit_lan (s : State) (o : Out) : (s.emit o).lan = s.lan := rfl
@[simp] theorem State.emit_spr (s : State) (o : Out) : (s.emit o).spr = s.spr := rfl
@[simp] theorem State.emit_snaps (s : State) (o : Out) : (s.emit o).snaps = s.snaps := rfl
@[simp] theorem State.emit_fresh (s : State) (o : Out) : (s.emit o).fresh = s.fresh := rfl
@[simp] theorem State.emit_pending (s : State) (o : Out) : (s.emit o).pending = s.pending := rfl
@[simp] theorem State.emit_reg (s : State) (o : Out) (a : Nat) : (s.emit o).reg a = s.reg a := rfl
@[simp] theorem State.setInst_regs (s : State) (i : Nat) (v : Inst) : (s.setInst i v).regs = s.regs := rfl
@[simp] theorem State.setInst_boot (s : State) (i : Nat) (v : Inst) : (s.setInst i v).boot = s.boot := rfl
@[simp] theorem State.setInst_cmds (s : State) (i : Nat) (v : Inst) : (s.setInst i v).cmds = s.cmds := rfl
@[simp] theorem State.setInst_host (s : State) (i : Nat) (v : Inst) : (s.setInst i v).host = s.host := rfl
@[simp] theorem State.setInst_queues (s : State) (i : Nat) (v : Inst) : (s.setInst i v).queues = s.queues := rfl
@[simp] theorem State.setInst_dma (s : State) (i : Nat) (v : Inst) : (s.setInst i v).dma = s.dma := rfl
@[simp] theorem State.setInst_evc (s : State) (i : Nat) (v : Inst) : (s.setInst i v).evc = s.evc := rfl
@[simp] theorem State.setInst_buoy (s : State) (i : Nat) (v : Inst) : (s.setInst i v).buoy = s.buoy := rfl
@[simp] theorem State.setInst_mem (s : State) (i : Nat) (v : Inst) : (s.setInst i v).mem = s.mem := rfl
@[simp] theorem State.setInst_pgr (s : State) (i : Nat) (v : Inst) : (s.setInst i v).pgr = s.pgr := rfl
@[simp] theorem State.setInst_bpm (s : State) (i : Nat) (v : Inst) : (s.setInst i v).bpm = s.bpm := rfl
@[simp] theorem State.setInst_prs (s : State) (i : Nat) (v : Inst) : (s.setInst i v).prs = s.prs := rfl
@[simp] theorem State.setInst_cls (s : State) (i : Nat) (v : Inst) : (s.setInst i v).cls = s.cls := rfl
@[simp] theorem State.setInst_tbl (s : State) (i : Nat) (v : Inst) : (s.setInst i v).tbl = s.tbl := rfl
@[simp] theorem State.setInst_swx (s : State) (i : Nat) (v : Inst) : (s.setInst i v).swx = s.swx := rfl
@[simp] theorem State.setInst_pipe (s : State) (i : Nat) (v : Inst) : (s.setInst i v).pipe = s.pipe := rfl
@[simp] theorem State.setInst_time (s : State) (i : Nat) (v : Inst) : (s.setInst i v).time = s.time := rfl
@[simp] theorem State.setInst_ras (s : State) (i : Nat) (v : Inst) : (s.setInst i v).ras = s.ras := rfl
@[simp] theorem State.setInst_tst (s : State) (i : Nat) (v : Inst) : (s.setInst i v).tst = s.tst := rfl
@[simp] theorem State.setInst_pwr (s : State) (i : Nat) (v : Inst) : (s.setInst i v).pwr = s.pwr := rfl
@[simp] theorem State.setInst_clv (s : State) (i : Nat) (v : Inst) : (s.setInst i v).clv = s.clv := rfl
@[simp] theorem State.setInst_psq (s : State) (i : Nat) (v : Inst) : (s.setInst i v).psq = s.psq := rfl
@[simp] theorem State.setInst_saf (s : State) (i : Nat) (v : Inst) : (s.setInst i v).saf = s.saf := rfl
@[simp] theorem State.setInst_frs (s : State) (i : Nat) (v : Inst) : (s.setInst i v).frs = s.frs := rfl
@[simp] theorem State.setInst_mac (s : State) (i : Nat) (v : Inst) : (s.setInst i v).mac = s.mac := rfl
@[simp] theorem State.setInst_mgp (s : State) (i : Nat) (v : Inst) : (s.setInst i v).mgp = s.mgp := rfl
@[simp] theorem State.setInst_lan (s : State) (i : Nat) (v : Inst) : (s.setInst i v).lan = s.lan := rfl
@[simp] theorem State.setInst_spr (s : State) (i : Nat) (v : Inst) : (s.setInst i v).spr = s.spr := rfl
@[simp] theorem State.setInst_snaps (s : State) (i : Nat) (v : Inst) : (s.setInst i v).snaps = s.snaps := rfl
@[simp] theorem State.setInst_fresh (s : State) (i : Nat) (v : Inst) : (s.setInst i v).fresh = s.fresh := rfl
@[simp] theorem State.setInst_out (s : State) (i : Nat) (v : Inst) : (s.setInst i v).out = s.out := rfl
@[simp] theorem State.setInst_pending (s : State) (i : Nat) (v : Inst) : (s.setInst i v).pending = s.pending := rfl
@[simp] theorem State.setInst_reg (s : State) (i : Nat) (v : Inst) (a : Nat) : (s.setInst i v).reg a = s.reg a := rfl
@[simp] theorem State.setCl_regs (s : State) (k : Nat) (c : Cluster) : (s.setCl k c).regs = s.regs := rfl
@[simp] theorem State.setCl_boot (s : State) (k : Nat) (c : Cluster) : (s.setCl k c).boot = s.boot := rfl
@[simp] theorem State.setCl_cmds (s : State) (k : Nat) (c : Cluster) : (s.setCl k c).cmds = s.cmds := rfl
@[simp] theorem State.setCl_host (s : State) (k : Nat) (c : Cluster) : (s.setCl k c).host = s.host := rfl
@[simp] theorem State.setCl_queues (s : State) (k : Nat) (c : Cluster) : (s.setCl k c).queues = s.queues := rfl
@[simp] theorem State.setCl_dma (s : State) (k : Nat) (c : Cluster) : (s.setCl k c).dma = s.dma := rfl
@[simp] theorem State.setCl_evc (s : State) (k : Nat) (c : Cluster) : (s.setCl k c).evc = s.evc := rfl
@[simp] theorem State.setCl_buoy (s : State) (k : Nat) (c : Cluster) : (s.setCl k c).buoy = s.buoy := rfl
@[simp] theorem State.setCl_insts (s : State) (k : Nat) (c : Cluster) : (s.setCl k c).insts = s.insts := rfl
@[simp] theorem State.setCl_mem (s : State) (k : Nat) (c : Cluster) : (s.setCl k c).mem = s.mem := rfl
@[simp] theorem State.setCl_pgr (s : State) (k : Nat) (c : Cluster) : (s.setCl k c).pgr = s.pgr := rfl
@[simp] theorem State.setCl_bpm (s : State) (k : Nat) (c : Cluster) : (s.setCl k c).bpm = s.bpm := rfl
@[simp] theorem State.setCl_prs (s : State) (k : Nat) (c : Cluster) : (s.setCl k c).prs = s.prs := rfl
@[simp] theorem State.setCl_cls (s : State) (k : Nat) (c : Cluster) : (s.setCl k c).cls = s.cls := rfl
@[simp] theorem State.setCl_tbl (s : State) (k : Nat) (c : Cluster) : (s.setCl k c).tbl = s.tbl := rfl
@[simp] theorem State.setCl_swx (s : State) (k : Nat) (c : Cluster) : (s.setCl k c).swx = s.swx := rfl
@[simp] theorem State.setCl_pipe (s : State) (k : Nat) (c : Cluster) : (s.setCl k c).pipe = s.pipe := rfl
@[simp] theorem State.setCl_time (s : State) (k : Nat) (c : Cluster) : (s.setCl k c).time = s.time := rfl
@[simp] theorem State.setCl_ras (s : State) (k : Nat) (c : Cluster) : (s.setCl k c).ras = s.ras := rfl
@[simp] theorem State.setCl_tst (s : State) (k : Nat) (c : Cluster) : (s.setCl k c).tst = s.tst := rfl
@[simp] theorem State.setCl_pwr (s : State) (k : Nat) (c : Cluster) : (s.setCl k c).pwr = s.pwr := rfl
@[simp] theorem State.setCl_psq (s : State) (k : Nat) (c : Cluster) : (s.setCl k c).psq = s.psq := rfl
@[simp] theorem State.setCl_saf (s : State) (k : Nat) (c : Cluster) : (s.setCl k c).saf = s.saf := rfl
@[simp] theorem State.setCl_frs (s : State) (k : Nat) (c : Cluster) : (s.setCl k c).frs = s.frs := rfl
@[simp] theorem State.setCl_mac (s : State) (k : Nat) (c : Cluster) : (s.setCl k c).mac = s.mac := rfl
@[simp] theorem State.setCl_mgp (s : State) (k : Nat) (c : Cluster) : (s.setCl k c).mgp = s.mgp := rfl
@[simp] theorem State.setCl_lan (s : State) (k : Nat) (c : Cluster) : (s.setCl k c).lan = s.lan := rfl
@[simp] theorem State.setCl_spr (s : State) (k : Nat) (c : Cluster) : (s.setCl k c).spr = s.spr := rfl
@[simp] theorem State.setCl_snaps (s : State) (k : Nat) (c : Cluster) : (s.setCl k c).snaps = s.snaps := rfl
@[simp] theorem State.setCl_fresh (s : State) (k : Nat) (c : Cluster) : (s.setCl k c).fresh = s.fresh := rfl
@[simp] theorem State.setCl_out (s : State) (k : Nat) (c : Cluster) : (s.setCl k c).out = s.out := rfl
@[simp] theorem State.setCl_pending (s : State) (k : Nat) (c : Cluster) : (s.setCl k c).pending = s.pending := rfl
@[simp] theorem State.setCl_reg (s : State) (k : Nat) (c : Cluster) (a : Nat) : (s.setCl k c).reg a = s.reg a := rfl
@[simp] theorem State.setTh_regs (s : State) (k n : Nat) (t : Thread) : (s.setTh k n t).regs = s.regs := rfl
@[simp] theorem State.setTh_boot (s : State) (k n : Nat) (t : Thread) : (s.setTh k n t).boot = s.boot := rfl
@[simp] theorem State.setTh_cmds (s : State) (k n : Nat) (t : Thread) : (s.setTh k n t).cmds = s.cmds := rfl
@[simp] theorem State.setTh_host (s : State) (k n : Nat) (t : Thread) : (s.setTh k n t).host = s.host := rfl
@[simp] theorem State.setTh_queues (s : State) (k n : Nat) (t : Thread) : (s.setTh k n t).queues = s.queues := rfl
@[simp] theorem State.setTh_dma (s : State) (k n : Nat) (t : Thread) : (s.setTh k n t).dma = s.dma := rfl
@[simp] theorem State.setTh_evc (s : State) (k n : Nat) (t : Thread) : (s.setTh k n t).evc = s.evc := rfl
@[simp] theorem State.setTh_buoy (s : State) (k n : Nat) (t : Thread) : (s.setTh k n t).buoy = s.buoy := rfl
@[simp] theorem State.setTh_insts (s : State) (k n : Nat) (t : Thread) : (s.setTh k n t).insts = s.insts := rfl
@[simp] theorem State.setTh_mem (s : State) (k n : Nat) (t : Thread) : (s.setTh k n t).mem = s.mem := rfl
@[simp] theorem State.setTh_pgr (s : State) (k n : Nat) (t : Thread) : (s.setTh k n t).pgr = s.pgr := rfl
@[simp] theorem State.setTh_bpm (s : State) (k n : Nat) (t : Thread) : (s.setTh k n t).bpm = s.bpm := rfl
@[simp] theorem State.setTh_prs (s : State) (k n : Nat) (t : Thread) : (s.setTh k n t).prs = s.prs := rfl
@[simp] theorem State.setTh_cls (s : State) (k n : Nat) (t : Thread) : (s.setTh k n t).cls = s.cls := rfl
@[simp] theorem State.setTh_tbl (s : State) (k n : Nat) (t : Thread) : (s.setTh k n t).tbl = s.tbl := rfl
@[simp] theorem State.setTh_swx (s : State) (k n : Nat) (t : Thread) : (s.setTh k n t).swx = s.swx := rfl
@[simp] theorem State.setTh_pipe (s : State) (k n : Nat) (t : Thread) : (s.setTh k n t).pipe = s.pipe := rfl
@[simp] theorem State.setTh_time (s : State) (k n : Nat) (t : Thread) : (s.setTh k n t).time = s.time := rfl
@[simp] theorem State.setTh_ras (s : State) (k n : Nat) (t : Thread) : (s.setTh k n t).ras = s.ras := rfl
@[simp] theorem State.setTh_tst (s : State) (k n : Nat) (t : Thread) : (s.setTh k n t).tst = s.tst := rfl
@[simp] theorem State.setTh_pwr (s : State) (k n : Nat) (t : Thread) : (s.setTh k n t).pwr = s.pwr := rfl
@[simp] theorem State.setTh_psq (s : State) (k n : Nat) (t : Thread) : (s.setTh k n t).psq = s.psq := rfl
@[simp] theorem State.setTh_saf (s : State) (k n : Nat) (t : Thread) : (s.setTh k n t).saf = s.saf := rfl
@[simp] theorem State.setTh_frs (s : State) (k n : Nat) (t : Thread) : (s.setTh k n t).frs = s.frs := rfl
@[simp] theorem State.setTh_mac (s : State) (k n : Nat) (t : Thread) : (s.setTh k n t).mac = s.mac := rfl
@[simp] theorem State.setTh_mgp (s : State) (k n : Nat) (t : Thread) : (s.setTh k n t).mgp = s.mgp := rfl
@[simp] theorem State.setTh_lan (s : State) (k n : Nat) (t : Thread) : (s.setTh k n t).lan = s.lan := rfl
@[simp] theorem State.setTh_spr (s : State) (k n : Nat) (t : Thread) : (s.setTh k n t).spr = s.spr := rfl
@[simp] theorem State.setTh_snaps (s : State) (k n : Nat) (t : Thread) : (s.setTh k n t).snaps = s.snaps := rfl
@[simp] theorem State.setTh_fresh (s : State) (k n : Nat) (t : Thread) : (s.setTh k n t).fresh = s.fresh := rfl
@[simp] theorem State.setTh_out (s : State) (k n : Nat) (t : Thread) : (s.setTh k n t).out = s.out := rfl
@[simp] theorem State.setTh_pending (s : State) (k n : Nat) (t : Thread) : (s.setTh k n t).pending = s.pending := rfl
@[simp] theorem State.setTh_reg (s : State) (k n : Nat) (t : Thread) (a : Nat) : (s.setTh k n t).reg a = s.reg a := rfl
@[simp] theorem State.setFn_regs (s : State) (f : Nat) (c : FnCfg) : (s.setFn f c).regs = s.regs := rfl
@[simp] theorem State.setFn_boot (s : State) (f : Nat) (c : FnCfg) : (s.setFn f c).boot = s.boot := rfl
@[simp] theorem State.setFn_cmds (s : State) (f : Nat) (c : FnCfg) : (s.setFn f c).cmds = s.cmds := rfl
@[simp] theorem State.setFn_queues (s : State) (f : Nat) (c : FnCfg) : (s.setFn f c).queues = s.queues := rfl
@[simp] theorem State.setFn_dma (s : State) (f : Nat) (c : FnCfg) : (s.setFn f c).dma = s.dma := rfl
@[simp] theorem State.setFn_evc (s : State) (f : Nat) (c : FnCfg) : (s.setFn f c).evc = s.evc := rfl
@[simp] theorem State.setFn_buoy (s : State) (f : Nat) (c : FnCfg) : (s.setFn f c).buoy = s.buoy := rfl
@[simp] theorem State.setFn_insts (s : State) (f : Nat) (c : FnCfg) : (s.setFn f c).insts = s.insts := rfl
@[simp] theorem State.setFn_mem (s : State) (f : Nat) (c : FnCfg) : (s.setFn f c).mem = s.mem := rfl
@[simp] theorem State.setFn_pgr (s : State) (f : Nat) (c : FnCfg) : (s.setFn f c).pgr = s.pgr := rfl
@[simp] theorem State.setFn_bpm (s : State) (f : Nat) (c : FnCfg) : (s.setFn f c).bpm = s.bpm := rfl
@[simp] theorem State.setFn_prs (s : State) (f : Nat) (c : FnCfg) : (s.setFn f c).prs = s.prs := rfl
@[simp] theorem State.setFn_cls (s : State) (f : Nat) (c : FnCfg) : (s.setFn f c).cls = s.cls := rfl
@[simp] theorem State.setFn_tbl (s : State) (f : Nat) (c : FnCfg) : (s.setFn f c).tbl = s.tbl := rfl
@[simp] theorem State.setFn_swx (s : State) (f : Nat) (c : FnCfg) : (s.setFn f c).swx = s.swx := rfl
@[simp] theorem State.setFn_pipe (s : State) (f : Nat) (c : FnCfg) : (s.setFn f c).pipe = s.pipe := rfl
@[simp] theorem State.setFn_time (s : State) (f : Nat) (c : FnCfg) : (s.setFn f c).time = s.time := rfl
@[simp] theorem State.setFn_ras (s : State) (f : Nat) (c : FnCfg) : (s.setFn f c).ras = s.ras := rfl
@[simp] theorem State.setFn_tst (s : State) (f : Nat) (c : FnCfg) : (s.setFn f c).tst = s.tst := rfl
@[simp] theorem State.setFn_pwr (s : State) (f : Nat) (c : FnCfg) : (s.setFn f c).pwr = s.pwr := rfl
@[simp] theorem State.setFn_clv (s : State) (f : Nat) (c : FnCfg) : (s.setFn f c).clv = s.clv := rfl
@[simp] theorem State.setFn_psq (s : State) (f : Nat) (c : FnCfg) : (s.setFn f c).psq = s.psq := rfl
@[simp] theorem State.setFn_saf (s : State) (f : Nat) (c : FnCfg) : (s.setFn f c).saf = s.saf := rfl
@[simp] theorem State.setFn_frs (s : State) (f : Nat) (c : FnCfg) : (s.setFn f c).frs = s.frs := rfl
@[simp] theorem State.setFn_mac (s : State) (f : Nat) (c : FnCfg) : (s.setFn f c).mac = s.mac := rfl
@[simp] theorem State.setFn_mgp (s : State) (f : Nat) (c : FnCfg) : (s.setFn f c).mgp = s.mgp := rfl
@[simp] theorem State.setFn_lan (s : State) (f : Nat) (c : FnCfg) : (s.setFn f c).lan = s.lan := rfl
@[simp] theorem State.setFn_spr (s : State) (f : Nat) (c : FnCfg) : (s.setFn f c).spr = s.spr := rfl
@[simp] theorem State.setFn_snaps (s : State) (f : Nat) (c : FnCfg) : (s.setFn f c).snaps = s.snaps := rfl
@[simp] theorem State.setFn_fresh (s : State) (f : Nat) (c : FnCfg) : (s.setFn f c).fresh = s.fresh := rfl
@[simp] theorem State.setFn_out (s : State) (f : Nat) (c : FnCfg) : (s.setFn f c).out = s.out := rfl
@[simp] theorem State.setFn_pending (s : State) (f : Nat) (c : FnCfg) : (s.setFn f c).pending = s.pending := rfl
@[simp] theorem State.setFn_reg (s : State) (f : Nat) (c : FnCfg) (a : Nat) : (s.setFn f c).reg a = s.reg a := rfl
@[simp] theorem State.setVec_regs (s : State) (i v : Nat) (x : Vec) : (s.setVec i v x).regs = s.regs := rfl
@[simp] theorem State.setVec_boot (s : State) (i v : Nat) (x : Vec) : (s.setVec i v x).boot = s.boot := rfl
@[simp] theorem State.setVec_cmds (s : State) (i v : Nat) (x : Vec) : (s.setVec i v x).cmds = s.cmds := rfl
@[simp] theorem State.setVec_host (s : State) (i v : Nat) (x : Vec) : (s.setVec i v x).host = s.host := rfl
@[simp] theorem State.setVec_queues (s : State) (i v : Nat) (x : Vec) : (s.setVec i v x).queues = s.queues := rfl
@[simp] theorem State.setVec_dma (s : State) (i v : Nat) (x : Vec) : (s.setVec i v x).dma = s.dma := rfl
@[simp] theorem State.setVec_buoy (s : State) (i v : Nat) (x : Vec) : (s.setVec i v x).buoy = s.buoy := rfl
@[simp] theorem State.setVec_insts (s : State) (i v : Nat) (x : Vec) : (s.setVec i v x).insts = s.insts := rfl
@[simp] theorem State.setVec_mem (s : State) (i v : Nat) (x : Vec) : (s.setVec i v x).mem = s.mem := rfl
@[simp] theorem State.setVec_pgr (s : State) (i v : Nat) (x : Vec) : (s.setVec i v x).pgr = s.pgr := rfl
@[simp] theorem State.setVec_bpm (s : State) (i v : Nat) (x : Vec) : (s.setVec i v x).bpm = s.bpm := rfl
@[simp] theorem State.setVec_prs (s : State) (i v : Nat) (x : Vec) : (s.setVec i v x).prs = s.prs := rfl
@[simp] theorem State.setVec_cls (s : State) (i v : Nat) (x : Vec) : (s.setVec i v x).cls = s.cls := rfl
@[simp] theorem State.setVec_tbl (s : State) (i v : Nat) (x : Vec) : (s.setVec i v x).tbl = s.tbl := rfl
@[simp] theorem State.setVec_swx (s : State) (i v : Nat) (x : Vec) : (s.setVec i v x).swx = s.swx := rfl
@[simp] theorem State.setVec_pipe (s : State) (i v : Nat) (x : Vec) : (s.setVec i v x).pipe = s.pipe := rfl
@[simp] theorem State.setVec_time (s : State) (i v : Nat) (x : Vec) : (s.setVec i v x).time = s.time := rfl
@[simp] theorem State.setVec_ras (s : State) (i v : Nat) (x : Vec) : (s.setVec i v x).ras = s.ras := rfl
@[simp] theorem State.setVec_tst (s : State) (i v : Nat) (x : Vec) : (s.setVec i v x).tst = s.tst := rfl
@[simp] theorem State.setVec_pwr (s : State) (i v : Nat) (x : Vec) : (s.setVec i v x).pwr = s.pwr := rfl
@[simp] theorem State.setVec_clv (s : State) (i v : Nat) (x : Vec) : (s.setVec i v x).clv = s.clv := rfl
@[simp] theorem State.setVec_psq (s : State) (i v : Nat) (x : Vec) : (s.setVec i v x).psq = s.psq := rfl
@[simp] theorem State.setVec_saf (s : State) (i v : Nat) (x : Vec) : (s.setVec i v x).saf = s.saf := rfl
@[simp] theorem State.setVec_frs (s : State) (i v : Nat) (x : Vec) : (s.setVec i v x).frs = s.frs := rfl
@[simp] theorem State.setVec_mac (s : State) (i v : Nat) (x : Vec) : (s.setVec i v x).mac = s.mac := rfl
@[simp] theorem State.setVec_mgp (s : State) (i v : Nat) (x : Vec) : (s.setVec i v x).mgp = s.mgp := rfl
@[simp] theorem State.setVec_lan (s : State) (i v : Nat) (x : Vec) : (s.setVec i v x).lan = s.lan := rfl
@[simp] theorem State.setVec_spr (s : State) (i v : Nat) (x : Vec) : (s.setVec i v x).spr = s.spr := rfl
@[simp] theorem State.setVec_snaps (s : State) (i v : Nat) (x : Vec) : (s.setVec i v x).snaps = s.snaps := rfl
@[simp] theorem State.setVec_fresh (s : State) (i v : Nat) (x : Vec) : (s.setVec i v x).fresh = s.fresh := rfl
@[simp] theorem State.setVec_out (s : State) (i v : Nat) (x : Vec) : (s.setVec i v x).out = s.out := rfl
@[simp] theorem State.setVec_pending (s : State) (i v : Nat) (x : Vec) : (s.setVec i v x).pending = s.pending := rfl
@[simp] theorem State.setVec_reg (s : State) (i v : Nat) (x : Vec) (a : Nat) : (s.setVec i v x).reg a = s.reg a := rfl
@[simp] theorem State.dropClaim_regs (s : State) (r : Nat) : (s.dropClaim r).regs = s.regs := rfl
@[simp] theorem State.dropClaim_boot (s : State) (r : Nat) : (s.dropClaim r).boot = s.boot := rfl
@[simp] theorem State.dropClaim_host (s : State) (r : Nat) : (s.dropClaim r).host = s.host := rfl
@[simp] theorem State.dropClaim_queues (s : State) (r : Nat) : (s.dropClaim r).queues = s.queues := rfl
@[simp] theorem State.dropClaim_dma (s : State) (r : Nat) : (s.dropClaim r).dma = s.dma := rfl
@[simp] theorem State.dropClaim_evc (s : State) (r : Nat) : (s.dropClaim r).evc = s.evc := rfl
@[simp] theorem State.dropClaim_buoy (s : State) (r : Nat) : (s.dropClaim r).buoy = s.buoy := rfl
@[simp] theorem State.dropClaim_insts (s : State) (r : Nat) : (s.dropClaim r).insts = s.insts := rfl
@[simp] theorem State.dropClaim_mem (s : State) (r : Nat) : (s.dropClaim r).mem = s.mem := rfl
@[simp] theorem State.dropClaim_pgr (s : State) (r : Nat) : (s.dropClaim r).pgr = s.pgr := rfl
@[simp] theorem State.dropClaim_bpm (s : State) (r : Nat) : (s.dropClaim r).bpm = s.bpm := rfl
@[simp] theorem State.dropClaim_prs (s : State) (r : Nat) : (s.dropClaim r).prs = s.prs := rfl
@[simp] theorem State.dropClaim_cls (s : State) (r : Nat) : (s.dropClaim r).cls = s.cls := rfl
@[simp] theorem State.dropClaim_tbl (s : State) (r : Nat) : (s.dropClaim r).tbl = s.tbl := rfl
@[simp] theorem State.dropClaim_swx (s : State) (r : Nat) : (s.dropClaim r).swx = s.swx := rfl
@[simp] theorem State.dropClaim_pipe (s : State) (r : Nat) : (s.dropClaim r).pipe = s.pipe := rfl
@[simp] theorem State.dropClaim_time (s : State) (r : Nat) : (s.dropClaim r).time = s.time := rfl
@[simp] theorem State.dropClaim_ras (s : State) (r : Nat) : (s.dropClaim r).ras = s.ras := rfl
@[simp] theorem State.dropClaim_tst (s : State) (r : Nat) : (s.dropClaim r).tst = s.tst := rfl
@[simp] theorem State.dropClaim_pwr (s : State) (r : Nat) : (s.dropClaim r).pwr = s.pwr := rfl
@[simp] theorem State.dropClaim_clv (s : State) (r : Nat) : (s.dropClaim r).clv = s.clv := rfl
@[simp] theorem State.dropClaim_psq (s : State) (r : Nat) : (s.dropClaim r).psq = s.psq := rfl
@[simp] theorem State.dropClaim_saf (s : State) (r : Nat) : (s.dropClaim r).saf = s.saf := rfl
@[simp] theorem State.dropClaim_frs (s : State) (r : Nat) : (s.dropClaim r).frs = s.frs := rfl
@[simp] theorem State.dropClaim_mac (s : State) (r : Nat) : (s.dropClaim r).mac = s.mac := rfl
@[simp] theorem State.dropClaim_mgp (s : State) (r : Nat) : (s.dropClaim r).mgp = s.mgp := rfl
@[simp] theorem State.dropClaim_lan (s : State) (r : Nat) : (s.dropClaim r).lan = s.lan := rfl
@[simp] theorem State.dropClaim_spr (s : State) (r : Nat) : (s.dropClaim r).spr = s.spr := rfl
@[simp] theorem State.dropClaim_snaps (s : State) (r : Nat) : (s.dropClaim r).snaps = s.snaps := rfl
@[simp] theorem State.dropClaim_fresh (s : State) (r : Nat) : (s.dropClaim r).fresh = s.fresh := rfl
@[simp] theorem State.dropClaim_out (s : State) (r : Nat) : (s.dropClaim r).out = s.out := rfl
@[simp] theorem State.dropClaim_pending (s : State) (r : Nat) : (s.dropClaim r).pending = s.pending := rfl
@[simp] theorem State.dropClaim_reg (s : State) (r : Nat) (a : Nat) : (s.dropClaim r).reg a = s.reg a := rfl
@[simp] theorem State.draw_regs (s : State) : s.draw.2.regs = s.regs := rfl
@[simp] theorem State.draw_boot (s : State) : s.draw.2.boot = s.boot := rfl
@[simp] theorem State.draw_cmds (s : State) : s.draw.2.cmds = s.cmds := rfl
@[simp] theorem State.draw_host (s : State) : s.draw.2.host = s.host := rfl
@[simp] theorem State.draw_queues (s : State) : s.draw.2.queues = s.queues := rfl
@[simp] theorem State.draw_dma (s : State) : s.draw.2.dma = s.dma := rfl
@[simp] theorem State.draw_evc (s : State) : s.draw.2.evc = s.evc := rfl
@[simp] theorem State.draw_buoy (s : State) : s.draw.2.buoy = s.buoy := rfl
@[simp] theorem State.draw_insts (s : State) : s.draw.2.insts = s.insts := rfl
@[simp] theorem State.draw_mem (s : State) : s.draw.2.mem = s.mem := rfl
@[simp] theorem State.draw_pgr (s : State) : s.draw.2.pgr = s.pgr := rfl
@[simp] theorem State.draw_bpm (s : State) : s.draw.2.bpm = s.bpm := rfl
@[simp] theorem State.draw_prs (s : State) : s.draw.2.prs = s.prs := rfl
@[simp] theorem State.draw_cls (s : State) : s.draw.2.cls = s.cls := rfl
@[simp] theorem State.draw_tbl (s : State) : s.draw.2.tbl = s.tbl := rfl
@[simp] theorem State.draw_swx (s : State) : s.draw.2.swx = s.swx := rfl
@[simp] theorem State.draw_pipe (s : State) : s.draw.2.pipe = s.pipe := rfl
@[simp] theorem State.draw_time (s : State) : s.draw.2.time = s.time := rfl
@[simp] theorem State.draw_ras (s : State) : s.draw.2.ras = s.ras := rfl
@[simp] theorem State.draw_tst (s : State) : s.draw.2.tst = s.tst := rfl
@[simp] theorem State.draw_pwr (s : State) : s.draw.2.pwr = s.pwr := rfl
@[simp] theorem State.draw_clv (s : State) : s.draw.2.clv = s.clv := rfl
@[simp] theorem State.draw_psq (s : State) : s.draw.2.psq = s.psq := rfl
@[simp] theorem State.draw_saf (s : State) : s.draw.2.saf = s.saf := rfl
@[simp] theorem State.draw_frs (s : State) : s.draw.2.frs = s.frs := rfl
@[simp] theorem State.draw_mac (s : State) : s.draw.2.mac = s.mac := rfl
@[simp] theorem State.draw_mgp (s : State) : s.draw.2.mgp = s.mgp := rfl
@[simp] theorem State.draw_lan (s : State) : s.draw.2.lan = s.lan := rfl
@[simp] theorem State.draw_spr (s : State) : s.draw.2.spr = s.spr := rfl
@[simp] theorem State.draw_snaps (s : State) : s.draw.2.snaps = s.snaps := rfl
@[simp] theorem State.draw_out (s : State) : s.draw.2.out = s.out := rfl
@[simp] theorem State.draw_pending (s : State) : s.draw.2.pending = s.pending := rfl
@[simp] theorem State.draw_reg (s : State) (a : Nat) : s.draw.2.reg a = s.reg a := rfl

end Sys2Proof.Machine
end

