-- ==== Sys2Proof/Laws/Regs.lean ====
section
/-! SUPPORT. Sparse maps, registers and bit fields: what a read finds after a write. -/

namespace Sys2Proof.Machine

theorem lookup_insertKey_self {α : Type} (m : NMap α) (k : Nat) (v : α) : lookup (insertKey m k v) k = some v := by
  induction m with
  | nil => simp [insertKey, lookup]
  | cons e t ih =>
    obtain ⟨a, w⟩ := e
    simp only [insertKey]
    split
    · simp [lookup]
    · split
      · simp [lookup]
      · rename_i h1 h2
        simp [lookup, ih, Ne.symm h2]

theorem lookup_insertKey_ne {α : Type} (m : NMap α) {k j : Nat} (v : α) (h : j ≠ k) : lookup (insertKey m k v) j = lookup m j := by
  induction m with
  | nil => simp [insertKey, lookup, h.symm]
  | cons e t ih =>
    obtain ⟨a, w⟩ := e
    simp only [insertKey]
    split
    · simp [lookup, h.symm]
    · split
      · rename_i h1 h2
        subst h2
        simp [lookup, h.symm]
      · simp only [lookup, ih]

theorem lookupD_insertKey_self {α : Type} (m : NMap α) (k : Nat) (v d : α) : lookupD (insertKey m k v) k d = v := by
  simp [lookupD, lookup_insertKey_self]

theorem lookupD_insertKey_ne {α : Type} (m : NMap α) {k j : Nat} (v d : α) (h : j ≠ k) :
    lookupD (insertKey m k v) j d = lookupD m j d := by
  simp [lookupD, lookup_insertKey_ne m v h]

theorem lookup_eraseKey_self {α : Type} (m : NMap α) (k : Nat) : lookup (eraseKey m k) k = none := by
  induction m with
  | nil => rfl
  | cons e t ih =>
    obtain ⟨a, w⟩ := e
    simp only [eraseKey, List.filter_cons]
    split
    · rename_i h
      simp only [lookup]
      rw [if_neg (by simpa using h)]
      exact ih
    · exact ih

theorem lookup_eraseKey_ne {α : Type} (m : NMap α) {k j : Nat} (h : j ≠ k) : lookup (eraseKey m k) j = lookup m j := by
  induction m with
  | nil => rfl
  | cons e t ih =>
    obtain ⟨a, w⟩ := e
    simp only [eraseKey, List.filter_cons]
    split
    · simp only [lookup]
      rw [show List.filter (fun p => p.1 != k) t = eraseKey t k from rfl, ih]
    · rename_i hk
      have : a = k := by simpa using hk
      subst this
      simp only [lookup, if_neg h.symm]
      exact ih

/-- A register reads what was written, as its low 64 bits. -/
theorem State.reg_setReg_self (s : State) (a v : Nat) : (s.setReg a v).reg a = v % 2 ^ 64 := by
  simp [State.reg, State.setReg, lookup_insertKey_self]

theorem State.reg_setReg_ne (s : State) {a b : Nat} (v : Nat) (h : b ≠ a) : (s.setReg a v).reg b = s.reg b := by
  simp [State.reg, State.setReg, lookup_insertKey_ne s.regs _ h]

theorem State.rf_setF_ne (s : State) {f g : FRef} (v : Nat) (h : g.addr ≠ f.addr) : (s.setF f v).rf g = s.rf g := by
  simp [State.rf, State.setF, State.reg_setReg_ne s _ h]

theorem State.rfb_setF_ne (s : State) {f g : FRef} (v : Nat) (h : g.addr ≠ f.addr) : (s.setF f v).rfb g = s.rfb g := by
  simp [State.rfb, State.rf_setF_ne s v h]

theorem State.rf_setReg_ne (s : State) {a : Nat} {g : FRef} (v : Nat) (h : g.addr ≠ a) : (s.setReg a v).rf g = s.rf g := by
  simp [State.rf, State.reg_setReg_ne s _ h]

theorem State.rf_bump_ne (s : State) {a : Nat} {g : FRef} (h : g.addr ≠ a) : (s.bump a).rf g = s.rf g :=
  State.rf_setReg_ne s _ h

/-- Every register value fits 64 bits. -/
theorem regReset_eq_of_lookup (s : State) (a : Nat) (v : Dword) (h : lookup s.regs a = some v) : s.reg a = v.toNat := by
  simp [State.reg, h]

/-- A field written into a number reads back. -/
theorem field_putField_self (n hi lo v : Nat) : field (putField n hi lo v) hi lo = v % 2 ^ (hi + 1 - lo) := by
  have hw : 0 < 2 ^ (hi + 1 - lo) := Nat.two_pow_pos _
  have hl : 0 < 2 ^ lo := Nat.two_pow_pos _
  unfold putField field
  rw [Nat.shiftRight_eq_div_pow, Nat.shiftRight_eq_div_pow]
  generalize 2 ^ (hi + 1 - lo) = W at hw ⊢
  generalize 2 ^ lo = L at hl ⊢
  have h1 : n / L % W * L ≤ n := by
    calc n / L % W * L ≤ n / L * L := Nat.mul_le_mul_right _ (Nat.mod_le _ _)
      _ ≤ n := Nat.div_mul_le_self _ _
  obtain ⟨q, hq⟩ : ∃ q, n = n / L % W * L + (n % L + q * (W * L)) := by
    refine ⟨n / L / W, ?_⟩
    have e1 := Nat.div_add_mod n L
    have e2 := Nat.div_add_mod (n / L) W
    calc n = L * (n / L) + n % L := e1.symm
      _ = L * (W * (n / L / W) + n / L % W) + n % L := by rw [e2]
      _ = _ := by ring
  have h2 : n - n / L % W * L = n % L + q * (W * L) := by omega
  rw [h2]
  have h3 : (n % L + q * (W * L) + v % W * L) / L = q * W + v % W := by
    have : n % L + q * (W * L) + v % W * L = n % L + (q * W + v % W) * L := by ring
    rw [this, Nat.add_mul_div_right _ _ hl, Nat.div_eq_of_lt (Nat.mod_lt _ hl), Nat.zero_add]
  rw [h3, Nat.add_comm, Nat.add_mul_mod_self_right, Nat.mod_mod]

end Sys2Proof.Machine
end

