-- ==== Sys2Proof/Tests/Slice0.lean ====
section
/-! SUPPORT. Tests: small states and entries, the refusals of the WellFormed checks, and a state that meets the hypotheses of each
statement. -/

namespace Sys2Proof.Tests

open Sys2Proof.Machine

/-- A device in Service, supplies good, pair A active, main link up. -/
def on : State :=
  { State.reset with
    regs := [(R.GLB_MODE, 0x00000002#64), (R.GLB_BOOT_STATUS, 0x0F000030#64), (R.HST_LINK_STATUS, 0x000000000410000A#64 + 0x00010010#64),
      (R.PWR_STATUS, 0xC0003FFF#64), (R.RCL_BLK_CTL, 1#64), (R.RCL_BLK_STATUS, 1#64)]
    boot := { perst := false, booted := true, gated := false, pairA := .active, pairB := .ready }
    host := { filled := true, fns := [(0, { memSpace := true, busMaster := true, msixEnable := true })] } }

/-- An entry of an opcode with parameter words: two units, tag 5, generation 1, target 0. -/
def entry (op : Nat) (params : List Nat) : AdminEntry :=
  let ws := [op, 5 * 65536 + 2, 65536, 0] ++ params
  { issuer := .inst 0, words := (List.range 32).map fun k => w32 (ws.getD k 0), block := [], data := [] }

/-- An entry of so many units. -/
def entryU (units op : Nat) (params : List Nat) : AdminEntry :=
  let ws := [op, 5 * 65536 + units, 65536, 0] ++ params
  { issuer := .inst 0, words := (List.range (16 * units)).map fun k => w32 (ws.getD k 0), block := [], data := [] }

/-- An indirect entry whose block holds these words, padded to 64 bytes. -/
def entryI (op : Nat) (block : List Nat) : AdminEntry :=
  let n := (block.length + 15) / 16 * 16
  { entryU 2 (op + 2 ^ 18) [0x1000, 0, 4 * n] with block := (List.range n).map fun k => w32 (block.getD k 0) }

/-- The manager's admin queue is Active and holds eight units. -/
def adm : State :=
  { on with
    queues := [(7, { state := 1, iid := 0, loc := 0, sizeLog2 := 6, pi := 8 })]
    insts := [(0, { state := 2, gen := 1 })] }

/-- Two registers of a thread: x5 and x6. -/
def xs (a b : Nat) : List Word := ((List.replicate 32 0#32).set 5 (w32 a)).set 6 (w32 b)

/-- An instruction word of the Clove extension: rd x7, rs1 x5, rs2 x6, as its operands need them. -/
def ext (f3 f7 : Nat) (rd rs1 rs2 : Bool) : Nat :=
  f7 * 2 ^ 25 + (if rs2 then 6 * 2 ^ 20 else 0) + (if rs1 then 5 * 2 ^ 15 else 0) + f3 * 2 ^ 12 + (if rd then 7 * 2 ^ 7 else 0) + 0x0B

/-- Thread n of cluster 0 is about to execute a word. -/
def thr (n word : Nat) (t : Thread) (c : Cluster := {}) : State :=
  { on with clv := { clusters := [(0, { c with
      loaded := true, progs := [(0, { code := leBytes 4 word })], threads := insertKey c.threads n { t with state := 2 } })] } }

/-- A state with buffer 0 owned by cluster 0. -/
def owning (s : State) (holders : List Nat := []) : State :=
  { s with bpm := { s.bpm with bufs := [(0, { owner := some 0x810, charge := 0x810, holders := holders })] } }

/-- Thread 1 of cluster 0 is about to execute the PGR instruction of a funct7, its page resident unless it is PGR.PREF. -/
def pgrSt (f7 : Nat) : State :=
  { thr 1 (ext 1 f7 (f7 != 4 && f7 != 7) true (f7 != 3 && f7 != 7)) { x := if f7 = 7 then xs 0 0 else xs 8 9 } with
    pgr := { ranges := [(0, (600, 1))], pages := if f7 = 7 then [(600 * 512, { home := .ddr 7 })] else [(600 * 512, { cached := some 5 })] } }

/-- A command at a drive. -/
def drv : DriveCmd := { conn := 5, port := 0, words := [], cookie := 0, entry := none }

/-- Line port 0 carries traffic. -/
def line : State := { on with mac := { ports := [(0, { up := true, lanes := [0] })] } }

/-- The device in Standby with the management port up, at full and at half duplex. -/
def mgpOn : State :=
  { State.reset with regs := [(R.PWR_STATUS, 0x40000000#64), (R.GLB_MODE, 0#64)], mgp := { State.reset.mgp with link := true, mac := 77 } }
def mgpHalf : State := { mgpOn with mgp := { mgpOn.mgp with inSpeed := 1, inFull := false } }
def supv : State := { mgpOn with boot := { mgpOn.boot with wakeArmed := true } }

/-- Region 3 runs with a page of its state resident. -/
def lanMem : State :=
  { { on with lan := { on.lan with regions := [(3, { state := 3, image := some { imageId := 9, clock := 400, minCap := 8, ports := 255, initTimeout := 1000, svn := 2, keySlot := 1 } })] } } with pgr := { ranges := [(0x803, (600, 1))], pages := [(600 * 512, { cached := some 5 })] } }

/-- A parked packet. -/
def parkd : Parked := { ssid := 0, page := 0, resume := .action, pkt := {} }

/-- Channel 4 maps to the fabric, and the engine's word has been rejected. -/
def chm : State :=
  let s := (((on.setF (F.BUOY_BIND_valid 4) 1).setF (F.BUOY_BIND_mid_a 4) 0x1041).setF (F.SPR_CHAN_MAP_valid 4) 1)
  let s := s.setChan (.int 4) ((s.chan (.int 4)).setSide true { (s.chan (.int 4)).side true with rxFull := true })
  { s with spr := { joined := true, chans := [(4, { rejected := true })] } }

/-- Debug level 0. -/
def dbg0 : State := { on with tst := { on.tst with dbgMin := 0 } }.setF F.TST_DBG_CFG_level 0

/-! ## Ill-formed operands are refused -/

theorem test_entry_not_whole_units : AdminEntry.wf { issuer := .bmc, words := List.replicate 15 0#32, block := [], data := [] } = false := by
  decide

theorem test_entry_empty : AdminEntry.wf { issuer := .bmc, words := [], block := [], data := [] } = false := by decide

theorem test_entry_two_units : (entry 0x0001 []).wf = true := by decide +kernel

theorem test_access_of_three_bytes : RegAccess.wf ⟨0, .control, 0, 3, true⟩ = false := by decide

theorem test_empty_frame : Instr.wf (.frameReceive 0 []) = false := by decide

/-! ## Witnesses -/

/-- States and operands that meet what SuppliesAct asks. -/
theorem witness_SuppliesAct :
    (∃ (strapBoot : BitVec 2) (strapRetainN : Bool) (strapMgpDis : Bool) (s : State), (s.rfb F.PWR_STATUS_aux_good = true) ∧ (s.mainOn = false) ∧ (s.rfb F.PWR_STATUS_seq_fault = false) ∧ (s.rfb F.PWR_STATUS_tripped = false)) ∧
    (∃ (s : State), (s.mainOn = true)) ∧
    (∃ (s : State), (s.rfb F.PWR_STATUS_aux_good = true) ∧ (s.mainOn = false)) ∧
    (∃ (s : State), (s.mainOn = true)) ∧
    (∃ (strapBoot : BitVec 2) (strapRetainN : Bool) (strapMgpDis : Bool) (s : State), (s.rfb F.PWR_STATUS_aux_good = false) ∧ (s.pwr.mainPg = false)) ∧
    (∃ (s : State), (s.rfb F.PWR_STATUS_aux_good = true)) ∧
    (∃ (mv : BitVec 12) (s : State), (s.rfb F.PWR_STATUS_aux_good = true) ∧ (2000 ≤ mv.toNat)) ∧
    (∃ (mv : BitVec 12) (s : State), (s.rfb F.PWR_STATUS_aux_good = true) ∧ (mv.toNat < 2000)) :=
  ⟨⟨0, true, false, (State.reset.setReg R.PWR_STATUS 0x40003800), by decide +kernel⟩,
   ⟨on, by decide +kernel⟩,
   ⟨(State.reset.setReg R.PWR_STATUS 0x40003800), by decide +kernel⟩,
   ⟨on, by decide +kernel⟩,
   ⟨1, true, false, State.reset, by decide +kernel⟩,
   ⟨on, by decide +kernel⟩,
   ⟨3000, on, by decide +kernel⟩,
   ⟨1999, on, by decide +kernel⟩⟩

/-- States and operands that meet what PowerActs asks. -/
theorem witness_PowerActs :
    (∃ (rails : Vector (BitVec 12 × BitVec 12) 11) (average : BitVec 16) (s : State), (s.mainOn = true) ∧ (average.toNat ≤ 10 * s.rf F.PWR_LIMIT_limit_w) ∧ (s.rf F.PWR_LIMIT_limit_w < 512)) ∧
    (∃ (s : State), (s.reg R.PWR_TOTAL * 100 < 95 * (10 * s.rf F.PWR_LIMIT_limit_w))) ∧
    (∃ (mid : BitVec 13) (value : Word) (s : State), (s.gate mid.toNat (R.PWR_LIMIT) false = .open_) ∧ (100 ≤ value.toNat % 512) ∧ (value.toNat % 512 ≤ 300)) ∧
    (∃ (mid : BitVec 13) (value : Word) (s : State), (s.gate mid.toNat (R.PWR_LIMIT) false = .open_) ∧ (value.toNat % 512 < 100 ∨ 300 < value.toNat % 512)) ∧
    (∃ (temps : Vector (BitVec 16) 16) (s : State), (s.mainOn = true) ∧ (16 * ((s.readTemps temps.toList).2.rf F.PWR_THERM_CFG_warn_c : Int) ≤ (s.readTemps temps.toList).1)) ∧
    (∃ (temps : Vector (BitVec 16) 16) (s : State), (s.mainOn = true) ∧ (16 * ((s.readTemps temps.toList).2.rf F.PWR_THERM_CFG_throttle_c : Int) ≤ (s.readTemps temps.toList).1)) ∧
    (∃ (temps : Vector (BitVec 16) 16) (s : State), (s.mainOn = true) ∧ ((s.readTemps temps.toList).1 < 16 * ((s.readTemps temps.toList).2.rf F.PWR_THERM_CFG_throttle_c : Int) - 80)) ∧
    (∃ (temps : Vector (BitVec 16) 16) (s : State), (s.mainOn = true) ∧ (16 * 108 ≤ (s.readTemps temps.toList).1)) ∧
    (∃ (mid : BitVec 13) (value : Word) (s : State), (s.gate mid.toNat (R.PWR_THERM_CFG) false = .open_) ∧ (s.rfb F.PWR_BLK_CTL_lock = false) ∧ (60 ≤ field value.toNat 7 0) ∧ (field value.toNat 7 0 < field value.toNat 15 8) ∧ (field value.toNat 15 8 ≤ 100)) :=
  ⟨⟨Vector.replicate 11 (20, 750), 100, on, by decide +kernel⟩,
   ⟨on, by decide +kernel⟩,
   ⟨0, 200, on, by decide +kernel⟩,
   ⟨0, 301, on, by decide +kernel⟩,
   ⟨Vector.replicate 16 1600, on, by decide +kernel⟩,
   ⟨Vector.replicate 16 1700, on, by decide +kernel⟩,
   ⟨Vector.replicate 16 800, on, by decide +kernel⟩,
   ⟨Vector.replicate 16 1728, on, by decide +kernel⟩,
   ⟨0, 0x6450, on, by decide +kernel⟩⟩

/-- States and operands that meet what BootActs asks. -/
theorem witness_BootActs :
    (∃ (s : State), (s.boot.target.isSome = true)) ∧
    (Meets devStartServiceSpec (fun c s => s.rfb F.GLB_MODE_transition = false ∧ s.boot.activation.running = false ∧ s.mode = 1 ∧ s.boot.booted = true)) ∧
    (Meets devStartServiceSpec (fun c s => s.rfb F.GLB_MODE_transition = false ∧ s.boot.activation.running = false ∧ s.mode = 5 ∧ s.boot.revalidated = true)) ∧
    (∃ (block : Option (Fin 32)) (s : State), (s.boot.revalidating = true) ∧ (s.mode = 5) ∧ (s.rfb F.GLB_MODE_transition = false)) ∧
    (∃ (s : State), (s.mainOn = true) ∧ (s.boot.booted = true) ∧ (s.pair (1 - s.activePair) = .booting) ∧ (s.boot.takeoverWaits = false)) ∧
    (∃ (mid : BitVec 13) (island : BitVec 6) (s : State), (s.gate mid.toNat (R.GLB_ISLAND_RST) false = .open_) ∧ (s.rfb F.GLB_ISLAND_RST_busy = false) ∧ ((s.setF F.GLB_ISLAND_RST_island island.toNat).islandFault island.toNat = none)) ∧
    (∃ (mid : BitVec 13) (island : BitVec 6) (s : State), (s.gate mid.toNat (R.GLB_ISLAND_RST) false = .open_) ∧ (s.rfb F.GLB_ISLAND_RST_busy = false) ∧ (island.toNat = 38 ∨ island.toNat = 42 ∨ 46 ≤ island.toNat)) ∧
    (∃ (i : Nat) (s : State), (s.boot.islandHeld = some i) ∧ (i < 40)) :=
  ⟨⟨{ on with boot := { on.boot with target := some (3, 7) } }, by decide +kernel⟩,
   ⟨{ adm with regs := insertKey adm.regs R.GLB_MODE 0x00000001#64 }, entry (devStartServiceSpec.opcode) [], by decide +kernel⟩,
   ⟨{ adm with regs := insertKey adm.regs R.GLB_MODE 0x00000005#64, boot := { adm.boot with revalidated := true } }, entry (devStartServiceSpec.opcode) [], by decide +kernel⟩,
   ⟨some 3, { on with regs := insertKey on.regs R.GLB_MODE 0x00000005#64, boot := { on.boot with revalidating := true } }, by decide +kernel⟩,
   ⟨{ on with boot := { on.boot with pairB := .booting } }, by decide +kernel⟩,
   ⟨0, 16, on, by decide +kernel⟩,
   ⟨0, 42, on, by decide +kernel⟩,
   ⟨16, { on with boot := { on.boot with islandHeld := some 16 } }, by decide +kernel⟩⟩

/-- States and operands that meet what ResetActs asks. -/
theorem witness_ResetActs :
    (∃ (s : State), (s.boot.perst = false) ∧ (s.mainOn = true) ∧ (s.rfb F.GLB_RESET_CFG_service_retention = true)) ∧
    (∃ (s : State), (s.boot.perst = false) ∧ (s.mainOn = true) ∧ (s.rfb F.GLB_RESET_CFG_service_retention = false) ∧ (s.rfb F.GLB_MODE_transition = false)) ∧
    (∃ (s : State), (s.boot.perst = false) ∧ (s.mainOn = true) ∧ (s.rfb F.GLB_RESET_CFG_service_retention = false) ∧ (s.rfb F.GLB_MODE_transition = true)) ∧
    (∃ (s : State), (s.boot.perst = false) ∧ (s.mainOn = false)) ∧
    (∃ (s : State), (s.boot.perst = true) ∧ (s.mainOn = true)) ∧
    (∃ (s : State), (s.boot.perst = true) ∧ (s.mainOn = false)) ∧
    (∃ (s : State), (s.mainOn = true) ∧ (s.boot.perst = false) ∧ (s.rfb F.HST_LINK_STATUS_link_up = true)) ∧
    (∃ (s : State), (s.mainOn = true) ∧ (s.boot.perst = false) ∧ (s.rfb F.HST_LINK_STATUS_link_up = true) ∧ (s.host.filled = true)) ∧
    (∃ (vf : Fin 2048) (s : State), (vf.val ≠ 0) ∧ (s.mainOn = true) ∧ (s.boot.perst = false) ∧ (s.rfb F.HST_LINK_STATUS_link_up = true) ∧ (s.host.filled = true) ∧ (s.fnExists vf.val = true)) ∧
    (∃ (i : Nat) (strong : Bool) (s : State), (i ≠ 0) ∧ ((s.inst i).state = 2 ∨ (s.inst i).state = 3)) ∧
    (∃ (i : Nat) (s : State) (e : Nat × QCtx), (e ∈ (s.abortQueues i).queues) ∧ (e.2.iid = i)) ∧
    (∃ (a i : Nat) (d : RegDef), (regDefAt a = some (d, i)) ∧ (d.dom = .host ∨ d.dom = .func)) :=
  ⟨⟨(on.setF F.GLB_RESET_CFG_service_retention 1), by decide +kernel⟩,
   ⟨(on.setF F.GLB_RESET_CFG_service_retention 0), by decide +kernel⟩,
   ⟨((on.setF F.GLB_RESET_CFG_service_retention 0).setF F.GLB_MODE_transition 1), by decide +kernel⟩,
   ⟨{ State.reset with boot := { State.reset.boot with perst := false } }, by decide +kernel⟩,
   ⟨{ on with boot := { on.boot with perst := true } }, by decide +kernel⟩,
   ⟨{ State.reset with boot := { State.reset.boot with perst := true } }, by decide +kernel⟩,
   ⟨on, by decide +kernel⟩,
   ⟨on, by decide +kernel⟩,
   ⟨1, { on with host := { on.host with numVfs := 4, vfEnable := true, ariSampled := true } }, by decide +kernel⟩,
   ⟨1, true, { on with insts := [(1, { state := 2 })] }, by decide +kernel⟩,
   ⟨1, { on with queues := [(7, { iid := 1 })] }, (7, { iid := 1 }), by decide +kernel⟩,
   ⟨R.HST_LINK_STATUS, 0, ((regDefAt R.HST_LINK_STATUS).get (by decide +kernel)).1, by decide +kernel⟩⟩

/-- States and operands that meet what RegisterActs asks. -/
theorem witness_RegisterActs :
    (∃ (acc : Machine.RegAccess) (value : Dword) (s : State), (s.masterOpen acc.mid.toNat = true) ∧ (acc.full = true) ∧ (acc.window = .control) ∧ (acc.size = 4) ∧ (acc.offset.toNat % 4 = 0) ∧ (s.gate acc.mid.toNat acc.offset.toNat false = .open_) ∧ (buoyArea acc.offset.toNat = none) ∧ (lanArea acc.offset.toNat = none) ∧ ((regDefAt acc.offset.toNat).isSome = true)) ∧
    (∃ (acc : RegAccess) (value : Dword) (f : Fin 2048) (s : State), (s.masterOpen acc.mid.toNat = true) ∧ (acc.full = true) ∧ (acc.window = .inst f) ∧ (acc.mid.toNat = f.val) ∧ (acc.size = 4) ∧ (acc.offset.toNat % 4 = 0)) ∧
    (∃ (acc : Machine.RegAccess) (s : State), (s.masterOpen acc.mid.toNat = true) ∧ (acc.full = true) ∧ (acc.window = .control) ∧ (acc.size = 4) ∧ (acc.offset.toNat % 4 = 0)) ∧
    (∃ (acc : RegAccess) (f : Fin 2048) (s : State), (s.masterOpen acc.mid.toNat = true) ∧ (acc.full = true) ∧ (acc.window = .inst f) ∧ (acc.mid.toNat = f.val) ∧ (acc.size = 4) ∧ (acc.offset.toNat % 4 = 0) ∧ (s.notOwned acc.mid.toNat acc.offset.toNat = false)) ∧
    (∃ (mid : BitVec 13) (block : Fin 32) (s : State), (s.gate mid.toNat (blkCtl block.val) false = .open_) ∧ (s.masterOpen mid.toNat = true) ∧ (blockKnown block.val = true) ∧ (s.rfb (blkChecking block.val) = false)) ∧
    (∃ (mid : BitVec 13) (block : Fin 32) (s : State), (s.gate mid.toNat (blkCtl block.val) false = .open_) ∧ (s.masterOpen mid.toNat = true) ∧ (blockKnown block.val = true) ∧ (s.rfb (blkChecking block.val) = false)) ∧
    (∃ (mid : BitVec 13) (block : Fin 32) (enable : Bool) (s : State), (s.gate mid.toNat (blkCtl block.val) false = .open_) ∧ (s.masterOpen mid.toNat = true) ∧ (blockKnown block.val = true) ∧ (s.rfb (blkChecking block.val) = false)) ∧
    (∃ (block : Fin 32) (s : State), (s.rfb (blkChecking block.val) = true) ∧ (lookup s.cmds.heldCtl block.val = none)) ∧
    (∃ (addr : BitVec 40) (size : Nat) (full : Bool) (bs : List Byte) (s : State), (s.mainOn = true) ∧ (inRange addr.toNat 1 0x40000000 (64 * 2 ^ 20) = true)) ∧
    (∃ (addr : BitVec 40) (size : Nat) (full : Bool) (w : Option (List Byte)) (s : State), (s.mainOn = true) ∧ (inRange addr.toNat 1 0x40000000 (64 * 2 ^ 20) = false) ∧ ((s.setF F.TST_DBG_STATUS_selected 1).dbgLevel = 0)) :=
  ⟨⟨⟨0, .control, 0x1900100, 4, true⟩, 5, on, by decide +kernel⟩,
   ⟨⟨0, .inst 0, 0x10000, 4, true⟩, 5, 0, on, by decide +kernel⟩,
   ⟨⟨0, .control, 0x1900100, 4, true⟩, on, by decide +kernel⟩,
   ⟨⟨0, .inst 0, 0x0, 4, true⟩, 0, on, by decide +kernel⟩,
   ⟨0, 7, on, by decide +kernel⟩,
   ⟨0, 7, on, by decide +kernel⟩,
   ⟨0, 7, true, on, by decide +kernel⟩,
   ⟨7, (on.setF (blkChecking 7) 1), by decide +kernel⟩,
   ⟨0x40000000, 4, true, [], on, by decide +kernel⟩,
   ⟨0x30000000, 4, true, none, (on.setF F.TST_DBG_CFG_level 0), by decide +kernel⟩⟩

/-- States and operands that meet what EventActs asks. -/
theorem witness_EventActs :
    (∃ (source : BitVec 9) (s : State), (neverRaised source.toNat = false) ∧ (s.mainOn = true) ∧ (bitAt (s.reg (R.EVC_PENDING (source.toNat / 32))) (source.toNat % 32) = false)) ∧
    (∃ (source : BitVec 9) (s : State), (neverRaised source.toNat = false) ∧ (s.mainOn = true) ∧ (bitAt (s.reg (R.EVC_PENDING (source.toNat / 32))) (source.toNat % 32) = true)) ∧
    (∃ (mid : BitVec 13) (source : BitVec 9) (s : State), (s.gate mid.toNat (R.EVC_SRC_CTL source.toNat) false = .open_)) ∧
    (∃ (mid : BitVec 13) (source : BitVec 9) (on : Bool) (s : State), (s.gate mid.toNat (R.EVC_SRC_CTL source.toNat) false = .open_) ∧ (on = true) ∧ (srcFault (s.reg (R.EVC_SRC_MASK source.toNat)) = none)) ∧
    (∃ (mid : BitVec 13) (source : BitVec 9) (on : Bool) (s : State), (s.gate mid.toNat (R.EVC_SRC_CTL source.toNat) false = .open_) ∧ (on = false)) ∧
    (∃ (mid : BitVec 13) (k : Fin 16) (bits : Word) (s : State), (s.gate mid.toNat (R.EVC_PENDING k.val) false = .open_)) ∧
    (∃ (mid : BitVec 13) (t : Fin 32) (n : Nat) (s : State), (s.gate mid.toNat (R.EVC_CLAIM t.val) true = .open_) ∧ (t.val < 4) ∧ (s.ownsTarget t.val mid.toNat = true) ∧ (s.claimFor t.val = some n)) ∧
    (∃ (mid : BitVec 13) (t : Fin 32) (s : State), (4 ≤ t.val) ∧ (s.ownsTarget t.val mid.toNat = true) ∧ (s.claimFor t.val = none)) :=
  ⟨⟨33, on, by decide +kernel⟩,
   ⟨33, (on.setReg (R.EVC_PENDING 1) 2), by decide +kernel⟩,
   ⟨0, 33, on, by decide +kernel⟩,
   ⟨0, 33, true, (on.setReg (R.EVC_SRC_MASK 33) 1), by decide +kernel⟩,
   ⟨0, 33, false, on, by decide +kernel⟩,
   ⟨0, 1, 2, on, by decide +kernel⟩,
   ⟨0x1000, 0, 33, ((((on.setReg (R.EVC_PENDING 1) 2).setReg (R.EVC_SRC_MASK 33) 1)).setF (F.EVC_SRC_CTL_enable 33) 1), by decide +kernel⟩,
   ⟨0x800, 4, on, by decide +kernel⟩⟩

/-- States and operands that meet what VectorActs asks. -/
theorem witness_VectorActs :
    (∃ (iid : Fin 2048) (v : BitVec 11) (s : State), ((s.vec iid.val v.toNat).timer = true) ∧ ((s.vec iid.val v.toNat).held = true)) ∧
    (∃ (iid : Fin 2048) (v : BitVec 11) (s : State), ((s.vec iid.val v.toNat).timer = true) ∧ ((s.vec iid.val v.toNat).held = false)) ∧
    (∃ (iid : Fin 2048) (v : BitVec 11) (idle : Bool) (s : State), (s.fnOpen iid.val = true) ∧ (v.toNat < s.vectorQuota iid.val) ∧ (idle = true) ∧ ((s.vec iid.val v.toNat).held = true) ∧ ((s.vec iid.val v.toNat).masked = false) ∧ ((s.fn iid.val).msixEnable = true)) ∧
    (∃ (iid : Fin 2048) (v : BitVec 11) (idle : Bool) (s : State), (s.fnOpen iid.val = true) ∧ (v.toNat < s.vectorQuota iid.val) ∧ (idle = true) ∧ ((s.vec iid.val v.toNat).held = true) ∧ ((s.vec iid.val v.toNat).masked = true ∨ (s.fn iid.val).msixEnable = false)) ∧
    (∃ (iid : Fin 2048) (v : BitVec 11) (idle : Bool) (s : State), (s.fnOpen iid.val = true) ∧ (v.toNat < s.vectorQuota iid.val) ∧ (idle = true) ∧ ((s.vec iid.val v.toNat).held = false)) ∧
    (∃ (iid : Fin 2048) (v : BitVec 11) (idle : Bool) (s : State), (s.fnOpen iid.val = true) ∧ (s.vectorQuota iid.val ≤ v.toNat)) ∧
    (∃ (iid : Fin 2048) (v : BitVec 11) (s : State), (s.fnOpen iid.val = true) ∧ ((s.vec iid.val v.toNat).pba = false)) ∧
    (∃ (iid : Fin 2048) (v : BitVec 11) (s : State), (s.fnOpen iid.val = true) ∧ ((s.vec iid.val v.toNat).pba = true) ∧ ((s.fn iid.val).msixEnable = true) ∧ (v.toNat < s.vectorQuota iid.val)) :=
  ⟨⟨0, 3, (on.setVec 0 3 { timer := true, held := true }), by decide +kernel⟩,
   ⟨0, 3, (on.setVec 0 3 { timer := true }), by decide +kernel⟩,
   ⟨0, 3, true, (on.setVec 0 3 { timer := true, held := true, masked := false }), by decide +kernel⟩,
   ⟨0, 3, true, (on.setVec 0 3 { timer := true, held := true, masked := true }), by decide +kernel⟩,
   ⟨0, 3, true, on, by decide +kernel⟩,
   ⟨1, 0, true, { on with host := { on.host with numVfs := 4, vfEnable := true, ariSampled := true, vfMse := true } }, by decide +kernel⟩,
   ⟨0, 3, on, by decide +kernel⟩,
   ⟨0, 3, (on.setVec 0 3 { masked := true, pba := true }), by decide +kernel⟩⟩

/-- States and operands that meet what BuoyActs asks. -/
theorem witness_BuoyActs :
    (∃ (mid : BitVec 13) (n : BitVec 11) (word : Dword) (a : Bool) (s : State), (s.masterOpen mid.toNat = true) ∧ (s.sideOf (.inst n.toNat) mid.toNat = some a) ∧ (s.blkStopped 0x05 = false) ∧ (((s.chan (.inst n.toNat)).side (!a)).rxFull = false)) ∧
    (∃ (mid : BitVec 13) (n : BitVec 11) (word : Dword) (a : Bool) (s : State), (s.masterOpen mid.toNat = true) ∧ (s.sideOf (.inst n.toNat) mid.toNat = some a) ∧ (s.blkStopped 0x05 = false) ∧ (((s.chan (.inst n.toNat)).side (!a)).rxFull = true)) ∧
    (∃ (mid : BitVec 13) (n : BitVec 11) (a : Bool) (s : State), (s.masterOpen mid.toNat = true) ∧ (s.sideOf (.inst n.toNat) mid.toNat = some a) ∧ (a = true) ∧ (((s.chan (.inst n.toNat)).side a).rxFull = true)) ∧
    (∃ (mid : BitVec 13) (n : BitVec 11) (a : Bool) (s : State), (s.masterOpen mid.toNat = true) ∧ (s.sideOf (.inst n.toNat) mid.toNat = some a) ∧ (a = false) ∧ (mid.toNat ≠ 0x1040) ∧ (((s.chan (.inst n.toNat)).side a).rxFull = true)) ∧
    (∃ (mid : BitVec 13) (n : BitVec 11) (a : Bool) (s : State), (s.masterOpen mid.toNat = true) ∧ (s.sideOf (.inst n.toNat) mid.toNat = some a) ∧ (((s.chan (.inst n.toNat)).side a).rxFull = true)) ∧
    (∃ (mid : BitVec 13) (n : BitVec 11) (low : Bool) (a : Bool) (s : State), (s.masterOpen mid.toNat = true) ∧ (s.sideOf (.inst n.toNat) mid.toNat = some a) ∧ (((s.chan (.inst n.toNat)).side a).rxFull = false)) ∧
    (∃ (mid : BitVec 13) (n : BitVec 11) (a : Bool) (s : State), (s.masterOpen mid.toNat = true) ∧ (s.sideOf (.inst n.toNat) mid.toNat = some a) ∧ (((s.chan (.inst n.toNat)).side (!a)).rxFull = true)) ∧
    (∃ (mid : BitVec 13) (n : BitVec 11) (a : Bool) (s : State), (s.masterOpen mid.toNat = true) ∧ (s.sideOf (.inst n.toNat) mid.toNat = some a) ∧ (((s.chan (.inst n.toNat)).side (!a)).rxFull = false)) ∧
    (∃ (mid : BitVec 13) (n : BitVec 11) (bits : Word) (a : Bool) (s : State), (s.masterOpen mid.toNat = true) ∧ (s.sideOf (.inst n.toNat) mid.toNat = some a) ∧ (s.blkStopped 0x05 = false) ∧ ((bits.toNat - (bits.toNat &&& ((s.chan (.inst n.toNat)).side (!a)).dbRecv)) - ((bits.toNat - (bits.toNat &&& ((s.chan (.inst n.toNat)).side (!a)).dbRecv)) &&& ((s.chan (.inst n.toNat)).side (!a)).dbMask) ≠ 0)) ∧
    (∃ (mid : BitVec 13) (n : BitVec 11) (bits : Word) (a : Bool) (s : State), (s.masterOpen mid.toNat = true) ∧ (s.sideOf (.inst n.toNat) mid.toNat = some a) ∧ (s.blkStopped 0x05 = false) ∧ ((bits.toNat - (bits.toNat &&& ((s.chan (.inst n.toNat)).side (!a)).dbRecv)) - ((bits.toNat - (bits.toNat &&& ((s.chan (.inst n.toNat)).side (!a)).dbRecv)) &&& ((s.chan (.inst n.toNat)).side (!a)).dbMask) = 0)) ∧
    (∃ (mid : BitVec 13) (n : BitVec 11) (bits : Word) (a : Bool) (s : State), (s.masterOpen mid.toNat = true) ∧ (s.sideOf (.inst n.toNat) mid.toNat = some a)) ∧
    (∃ (mid : BitVec 13) (n : BitVec 11) (word : Dword) (a : Bool) (s : State), (s.masterOpen mid.toNat = true) ∧ (s.sideOf (.int (n.toNat % 64)) mid.toNat = some a) ∧ (s.blkStopped 0x05 = false) ∧ (((s.chan (.int (n.toNat % 64))).side (!a)).rxFull = false)) ∧
    (∃ (mid : BitVec 13) (n : BitVec 11) (word : Dword) (a : Bool) (s : State), (s.masterOpen mid.toNat = true) ∧ (s.sideOf (.int (n.toNat % 64)) mid.toNat = some a) ∧ (s.blkStopped 0x05 = false) ∧ (((s.chan (.int (n.toNat % 64))).side (!a)).rxFull = true)) ∧
    (∃ (mid : BitVec 13) (n : BitVec 11) (a : Bool) (s : State), (s.masterOpen mid.toNat = true) ∧ (s.sideOf (.int (n.toNat % 64)) mid.toNat = some a) ∧ (mid.toNat ≠ 0x1040) ∧ (((s.chan (.int (n.toNat % 64))).side a).rxFull = true)) ∧
    (∃ (mid : BitVec 13) (n : BitVec 11) (a : Bool) (s : State), (s.masterOpen mid.toNat = true) ∧ (s.sideOf (.int (n.toNat % 64)) mid.toNat = some a) ∧ (((s.chan (.int (n.toNat % 64))).side a).rxFull = true)) ∧
    (∃ (mid : BitVec 13) (n : BitVec 11) (low : Bool) (a : Bool) (s : State), (s.masterOpen mid.toNat = true) ∧ (s.sideOf (.int (n.toNat % 64)) mid.toNat = some a) ∧ (((s.chan (.int (n.toNat % 64))).side a).rxFull = false)) ∧
    (∃ (mid : BitVec 13) (n : BitVec 11) (a : Bool) (s : State), (s.masterOpen mid.toNat = true) ∧ (s.sideOf (.int (n.toNat % 64)) mid.toNat = some a) ∧ (((s.schan (n.toNat % 64)).sent && s.engineSide (n.toNat % 64) == some (!a)) = false) ∧ (((s.chan (.int (n.toNat % 64))).side (!a)).rxFull = true)) ∧
    (∃ (mid : BitVec 13) (n : BitVec 11) (a : Bool) (s : State), (s.masterOpen mid.toNat = true) ∧ (s.sideOf (.int (n.toNat % 64)) mid.toNat = some a) ∧ (((s.schan (n.toNat % 64)).sent && s.engineSide (n.toNat % 64) == some (!a)) = false) ∧ (((s.chan (.int (n.toNat % 64))).side (!a)).rxFull = false)) ∧
    (∃ (mid : BitVec 13) (n : BitVec 11) (a : Bool) (s : State), (s.masterOpen mid.toNat = true) ∧ (s.sideOf (.int (n.toNat % 64)) mid.toNat = some a) ∧ (((s.schan (n.toNat % 64)).sent && s.engineSide (n.toNat % 64) == some (!a)) = true)) ∧
    (∃ (mid : BitVec 13) (n : BitVec 11) (bits : Word) (a : Bool) (s : State), (s.masterOpen mid.toNat = true) ∧ (s.sideOf (.int (n.toNat % 64)) mid.toNat = some a) ∧ (s.blkStopped 0x05 = false) ∧ ((bits.toNat - (bits.toNat &&& ((s.chan (.int (n.toNat % 64))).side (!a)).dbRecv)) - ((bits.toNat - (bits.toNat &&& ((s.chan (.int (n.toNat % 64))).side (!a)).dbRecv)) &&& ((s.chan (.int (n.toNat % 64))).side (!a)).dbMask) ≠ 0)) ∧
    (∃ (mid : BitVec 13) (n : BitVec 11) (bits : Word) (a : Bool) (s : State), (s.masterOpen mid.toNat = true) ∧ (s.sideOf (.int (n.toNat % 64)) mid.toNat = some a) ∧ (s.blkStopped 0x05 = false) ∧ ((bits.toNat - (bits.toNat &&& ((s.chan (.int (n.toNat % 64))).side (!a)).dbRecv)) - ((bits.toNat - (bits.toNat &&& ((s.chan (.int (n.toNat % 64))).side (!a)).dbRecv)) &&& ((s.chan (.int (n.toNat % 64))).side (!a)).dbMask) = 0)) ∧
    (∃ (mid : BitVec 13) (n : BitVec 11) (bits : Word) (a : Bool) (s : State), (s.masterOpen mid.toNat = true) ∧ (s.sideOf (.int (n.toNat % 64)) mid.toNat = some a)) ∧
    (∃ (iid : Fin 2048) (vector : BitVec 16) (s : State), (s.fnOpen iid.val = true) ∧ (vector.toNat < s.vectorQuota iid.val) ∧ (s.vectorShort iid.val vector.toNat = false)) ∧
    (∃ (iid : Fin 2048) (vector : BitVec 16) (s : State), (s.fnOpen iid.val = true)) ∧
    (∃ (iid : Fin 2048) (vector : BitVec 16) (s : State), (s.fnOpen iid.val = true) ∧ (s.vectorQuota iid.val ≤ vector.toNat ∨ s.vectorShort iid.val vector.toNat = true)) ∧
    (∃ (mid : BitVec 13) (n : BitVec 11) (s : State), (s.gate mid.toNat (R.BUOY_FORCE_CLEAR) false = .open_) ∧ (s.activeKeeper mid.toNat = true)) ∧
    (∃ (mid : BitVec 13) (n : BitVec 11) (s : State), (s.gate mid.toNat (R.BUOY_FORCE_CLEAR) false = .open_) ∧ (s.activeKeeper mid.toNat = true) ∧ ((lookup s.spr.chans (n.toNat % 64)).isSome = false)) ∧
    (∃ (mid : BitVec 13) (n : BitVec 11) (s : State), (s.gate mid.toNat (R.BUOY_FORCE_CLEAR) false = .open_) ∧ (s.activeKeeper mid.toNat = true) ∧ ((lookup s.spr.chans (n.toNat % 64)).isSome = true)) :=
  ⟨⟨0, 0, 7, true, on, by decide +kernel⟩,
   ⟨0, 0, 7, true, { on with buoy := { inst := [(0, { a := { rx := 9, rxFull := true, dbRecv := 1, dbMask := 0 }, b := { rx := 9, rxFull := true } })], int := [(0, { a := { rx := 9, rxFull := true } })] } }, by decide +kernel⟩,
   ⟨0, 0, true, { on with buoy := { inst := [(0, { a := { rx := 9, rxFull := true, dbRecv := 1, dbMask := 0 }, b := { rx := 9, rxFull := true } })], int := [(0, { a := { rx := 9, rxFull := true } })] } }, by decide +kernel⟩,
   ⟨0x1000, 0, false, { on with buoy := { inst := [(0, { a := { rx := 9, rxFull := true, dbRecv := 1, dbMask := 0 }, b := { rx := 9, rxFull := true } })], int := [(0, { a := { rx := 9, rxFull := true } })] } }, by decide +kernel⟩,
   ⟨0, 0, true, { on with buoy := { inst := [(0, { a := { rx := 9, rxFull := true, dbRecv := 1, dbMask := 0 }, b := { rx := 9, rxFull := true } })], int := [(0, { a := { rx := 9, rxFull := true } })] } }, by decide +kernel⟩,
   ⟨0, 0, true, true, on, by decide +kernel⟩,
   ⟨0, 0, true, { on with buoy := { inst := [(0, { a := { rx := 9, rxFull := true, dbRecv := 1, dbMask := 0 }, b := { rx := 9, rxFull := true } })], int := [(0, { a := { rx := 9, rxFull := true } })] } }, by decide +kernel⟩,
   ⟨0, 0, true, on, by decide +kernel⟩,
   ⟨0x1000, 0, 2, false, { on with buoy := { inst := [(0, { a := { rx := 9, rxFull := true, dbRecv := 1, dbMask := 0 }, b := { rx := 9, rxFull := true } })], int := [(0, { a := { rx := 9, rxFull := true } })] } }, by decide +kernel⟩,
   ⟨0, 0, 1, true, on, by decide +kernel⟩,
   ⟨0, 0, 1, true, { on with buoy := { inst := [(0, { a := { rx := 9, rxFull := true, dbRecv := 1, dbMask := 0 }, b := { rx := 9, rxFull := true } })], int := [(0, { a := { rx := 9, rxFull := true } })] } }, by decide +kernel⟩,
   ⟨0x1000, 0, 7, true, (((on.setF (F.BUOY_BIND_valid 0) 1).setF (F.BUOY_BIND_mid_a 0) 0x1000).setF (F.BUOY_BIND_mid_b 0) 0x1010), by decide +kernel⟩,
   ⟨0x1000, 0, 7, true, (((({ on with buoy := { int := [(0, { a := { rx := 9, rxFull := true, dbRecv := 1 }, b := { rx := 9, rxFull := true, dbMask := 0 } })] }, spr := { chans := [(0, {})] } }).setF (F.BUOY_BIND_valid 0) 1).setF (F.BUOY_BIND_mid_a 0) 0x1000).setF (F.BUOY_BIND_mid_b 0) 0x1010), by decide +kernel⟩,
   ⟨0x1000, 0, true, (((({ on with buoy := { int := [(0, { a := { rx := 9, rxFull := true, dbRecv := 1 }, b := { rx := 9, rxFull := true, dbMask := 0 } })] }, spr := { chans := [(0, {})] } }).setF (F.BUOY_BIND_valid 0) 1).setF (F.BUOY_BIND_mid_a 0) 0x1000).setF (F.BUOY_BIND_mid_b 0) 0x1010), by decide +kernel⟩,
   ⟨0x1000, 0, true, (((({ on with buoy := { int := [(0, { a := { rx := 9, rxFull := true, dbRecv := 1 }, b := { rx := 9, rxFull := true, dbMask := 0 } })] }, spr := { chans := [(0, {})] } }).setF (F.BUOY_BIND_valid 0) 1).setF (F.BUOY_BIND_mid_a 0) 0x1000).setF (F.BUOY_BIND_mid_b 0) 0x1010), by decide +kernel⟩,
   ⟨0x1000, 0, true, true, (((on.setF (F.BUOY_BIND_valid 0) 1).setF (F.BUOY_BIND_mid_a 0) 0x1000).setF (F.BUOY_BIND_mid_b 0) 0x1010), by decide +kernel⟩,
   ⟨0x1000, 0, true, (((({ on with buoy := { int := [(0, { a := { rx := 9, rxFull := true, dbRecv := 1 }, b := { rx := 9, rxFull := true, dbMask := 0 } })] }, spr := { chans := [(0, {})] } }).setF (F.BUOY_BIND_valid 0) 1).setF (F.BUOY_BIND_mid_a 0) 0x1000).setF (F.BUOY_BIND_mid_b 0) 0x1010), by decide +kernel⟩,
   ⟨0x1000, 0, true, (((on.setF (F.BUOY_BIND_valid 0) 1).setF (F.BUOY_BIND_mid_a 0) 0x1000).setF (F.BUOY_BIND_mid_b 0) 0x1010), by decide +kernel⟩,
   ⟨0x1010, 0, false, ((((({ on with buoy := { int := [(0, { a := { rx := 9, rxFull := true, dbRecv := 1 }, b := { rx := 9, rxFull := true, dbMask := 0 } })] }, spr := { chans := [(0, { sent := true })] } }).setF (F.BUOY_BIND_valid 0) 1).setF (F.BUOY_BIND_mid_a 0) 0x1041).setF (F.BUOY_BIND_mid_b 0) 0x1010)), by decide +kernel⟩,
   ⟨0x1000, 0, 2, true, (((({ on with buoy := { int := [(0, { a := { rx := 9, rxFull := true, dbRecv := 1 }, b := { rx := 9, rxFull := true, dbMask := 0 } })] }, spr := { chans := [(0, {})] } }).setF (F.BUOY_BIND_valid 0) 1).setF (F.BUOY_BIND_mid_a 0) 0x1000).setF (F.BUOY_BIND_mid_b 0) 0x1010), by decide +kernel⟩,
   ⟨0x1000, 0, 1, true, (((on.setF (F.BUOY_BIND_valid 0) 1).setF (F.BUOY_BIND_mid_a 0) 0x1000).setF (F.BUOY_BIND_mid_b 0) 0x1010), by decide +kernel⟩,
   ⟨0x1000, 0, 1, true, (((({ on with buoy := { int := [(0, { a := { rx := 9, rxFull := true, dbRecv := 1 }, b := { rx := 9, rxFull := true, dbMask := 0 } })] }, spr := { chans := [(0, {})] } }).setF (F.BUOY_BIND_valid 0) 1).setF (F.BUOY_BIND_mid_a 0) 0x1000).setF (F.BUOY_BIND_mid_b 0) 0x1010), by decide +kernel⟩,
   ⟨0, 3, on, by decide +kernel⟩,
   ⟨0, 3, on, by decide +kernel⟩,
   ⟨0, 0x800, on, by decide +kernel⟩,
   ⟨0x1000, 3, on, by decide +kernel⟩,
   ⟨0x1000, 3, on, by decide +kernel⟩,
   ⟨0x1000, 0, (((({ on with buoy := { int := [(0, { a := { rx := 9, rxFull := true, dbRecv := 1 }, b := { rx := 9, rxFull := true, dbMask := 0 } })] }, spr := { chans := [(0, {})] } }).setF (F.BUOY_BIND_valid 0) 1).setF (F.BUOY_BIND_mid_a 0) 0x1000).setF (F.BUOY_BIND_mid_b 0) 0x1010), by decide +kernel⟩⟩

/-- States and operands that meet what DeviceCommands asks. -/
theorem witness_DeviceCommands :
    (Meets devIdentifySpec (fun _ _ => True)) ∧
    (Meets devNopSpec (fun _ _ => True)) ∧
    (Meets devCmdAbortSpec (fun c s => c.p 0 < 2 ^ 16 ∧ (((s.pendOf c.issuer).find? (·.cmd.tag = c.p 0)).bind s.aborted).isSome = true)) ∧
    (Meets devClaimQuerySpec (fun c s => claimKnown (c.p 0) = true)) ∧
    (∃ (mid : BitVec 13) (value : Word) (s : State), (s.gate mid.toNat (R.RCL_QUERY_RES) false = .open_)) :=
  ⟨⟨adm, entry (devIdentifySpec.opcode) [], by decide +kernel⟩,
   ⟨adm, entry (devNopSpec.opcode) [], by decide +kernel⟩,
   ⟨{ adm with cmds := { adm.cmds with pend := [{ cmd := { cmdOf adm (entry 0x0301 []) 0x0301 0 with tag := 9 }, locks := [], note := [] }] } }, entry 0x0008 [9], by decide +kernel⟩,
   ⟨adm, entry 0x0040 [0x01000000], by decide +kernel⟩,
   ⟨0, 7, on, by decide +kernel⟩⟩

/-- States and operands that meet what ImageActs asks. -/
theorem witness_ImageActs :
    (Meets devImageStageSpec (fun c s => c.checkOnly = false ∧ c.reserved [(0, 0)] = none ∧ c.p 1 % 64 = 0 ∧ 0 < c.p 3 ∧ c.p 3 ≤ 33554432 ∧ s.firstRefused [(fwLock, holderWord 0x00 0x01 c.mid)] = none)) ∧
    (∃ (p : PendCmd) (s : State), (s.findPend (·.cmd.opcode = 0x0020) = some p)) ∧
    (Meets devImageActivateSpec (fun c s => c.reserved [(0, 1)] = none ∧ (s.bank s.idleBank).staged = true ∧ s.pair (1 - s.activePair) = .ready ∧ s.isOut (pairRes (1 - s.activePair)) = false ∧
        s.rfb F.GLB_MODE_transition = false ∧ s.firstRefused [(fwLock, holderWord 0x00 0x02 c.mid)] = none)) ∧
    (∃ (pauseUs : Fin 50001) (s : State), (s.activating = true)) ∧
    (∃ (pauseUs : Fin 50001) (s : State), (s.activating = true)) ∧
    (∃ (s : State), (s.boot.activation.running = true) ∧ (s.boot.activation.faulted = false) ∧ (s.boot.fatalWaits = false)) ∧
    (∃ (f : Nat × Nat × List Word) (s : State), (s.activating = true) ∧ (s.stagedFault = some f)) ∧
    (Meets devImageQuerySpec (fun c s => c.reserved [(0, 0x311)] = none ∧ bitAt (c.p 0) 4 = false)) ∧
    (∃ (src : BitVec 8) (length : Word) (s : State), (s.mctpHost = .loader) ∧ (1216 ≤ length.toNat) ∧ (length.toNat ≤ 33554432)) ∧
    (∃ (slot : Fin 4) (p : PendCmd) (s : State), (s.findPend (fun p => p.cmd.opcode = 0x0030 && p.cmd.p 0 % 4 = slot.val) = some p)) ∧
    (Meets devSnapshotSaveSpec (fun c _ => c.reserved [(0, 0x103)] = none)) ∧
    (Meets devSnapshotQuerySpec (fun c s => c.reserved [(0, 3)] = none ∧ s.snapValid (c.p 0 % 4) = false)) ∧
    (Meets devSnapshotEraseSpec (fun c s => c.reserved [(0, 3)] = none)) :=
  ⟨⟨adm, entry 0x0020 [0, 0, 0, 1216], by decide +kernel⟩,
   ⟨{ cmd := cmdOf adm (entry 0x20 [0, 0, 0, 64]) 0x20 0, locks := [], note := [] }, { adm with cmds := { adm.cmds with pend := [{ cmd := cmdOf adm (entry 0x20 [0, 0, 0, 64]) 0x20 0, locks := [], note := [] }] } }, by decide +kernel⟩,
   ⟨{ adm with boot := { adm.boot with bankA := { staged := true }, bankB := { staged := true } } }, entry (devImageActivateSpec.opcode) [], by decide +kernel⟩,
   ⟨5, { on with boot := { on.boot with activation := { running := true }, pairB := .activating } }, by decide +kernel⟩,
   ⟨5, { on with boot := { on.boot with activation := { running := true }, pairB := .activating } }, by decide +kernel⟩,
   ⟨{ on with boot := { on.boot with activation := { running := true }, pairB := .activating } }, by decide +kernel⟩,
   ⟨(0x20, 6, []), { on with boot := { on.boot with activation := { running := true }, pairB := .activating } }, by decide +kernel⟩,
   ⟨adm, { entry 0x0022 [1] with words := (entry 0x0022 [1]).words }, by decide +kernel⟩,
   ⟨9, 1216, (on.setF F.GLB_MODE_rom_recovery 1), by decide +kernel⟩,
   ⟨1, { cmd := cmdOf adm (entry 0x30 [1]) 0x30 0, locks := [], note := [] }, { adm with cmds := { adm.cmds with pend := [{ cmd := cmdOf adm (entry 0x30 [1]) 0x30 0, locks := [], note := [] }] } }, by decide +kernel⟩,
   ⟨adm, entry 0x0030 [2], by decide +kernel⟩,
   ⟨adm, entry (devSnapshotQuerySpec.opcode) [], by decide +kernel⟩,
   ⟨adm, entry (devSnapshotEraseSpec.opcode) [], by decide +kernel⟩⟩

/-- States and operands that meet what HostEventActs asks. -/
theorem witness_HostEventActs :
    (∃ (up : Bool) (rate : BitVec 4) (width : BitVec 5) (s : State), (s.mainOn = true) ∧ (s.boot.perst = false) ∧ (up = true) ∧ (linkShape rate.toNat width.toNat = true) ∧ (s.reg R.HST_LINK_STATUS ≠ width.toNat * 2 ^ 22 + width.toNat * 2 ^ 17 + b2n (decide (6 ≤ rate.toNat)) * 2 ^ 16 + 16 + rate.toNat)) ∧
    (∃ (up : Bool) (rate : BitVec 4) (width : BitVec 5) (s : State), (s.mainOn = true) ∧ (up = false) ∧ (s.reg R.HST_LINK_STATUS ≠ 0)) ∧
    (∃ (fn : Fin 2048) (access : Machine.CfgAccess) (s : State), (s.mainOn = true) ∧ (s.boot.perst = false) ∧ (s.rfb F.HST_LINK_STATUS_link_up = true) ∧ (s.host.filled = true) ∧ (s.fnExists fn.val = true) ∧ ((s.fn fn.val).flr = false)) ∧
    (∃ (fn : Fin 2048) (access : Machine.CfgAccess) (s : State), (s.mainOn = true) ∧ (s.boot.perst = false) ∧ (s.rfb F.HST_LINK_STATUS_link_up = true) ∧ (s.host.filled = true) ∧ ((s.fn fn.val).flr = true)) ∧
    (∃ (s : State), (s.cfgOpen 0 = true) ∧ (s.host.vfEnable = false)) ∧
    (∃ (s : State), (s.cfgOpen 0 = true) ∧ (s.host.vfEnable = true)) ∧
    (∃ (value : BitVec 16) (s : State), (s.cfgOpen 0 = true) ∧ (s.host.numVfs = value.toNat)) ∧
    (∃ (value : BitVec 16) (s : State), (s.cfgOpen 0 = true) ∧ (s.host.numVfs ≠ value.toNat)) ∧
    (∃ (fn : Fin 2048) (d3hot : Bool) (s : State), (s.cfgOpen fn.val = true) ∧ ((s.fn fn.val).d3hot = !d3hot)) ∧
    (∃ (s : State), (s.mainOn = true) ∧ (s.boot.perst = false) ∧ (s.rfb F.HST_LINK_STATUS_link_up = true)) ∧
    (∃ (tag : BitVec 14) (status : Machine.CplStatus) (data : List Byte) (r : TagReq) (s : State), (lookup s.host.tags tag.toNat = some r) ∧ (r.quarantined = false) ∧ (status = .poisoned)) ∧
    (∃ (tag : BitVec 14) (status : Machine.CplStatus) (data : List Byte) (r : TagReq) (s : State), (lookup s.host.tags tag.toNat = some r) ∧ (r.quarantined = false) ∧ (status = .good) ∧ (s.current r = true) ∧ (r.unit.queue = none)) ∧
    (∃ (tag : BitVec 14) (status : Machine.CplStatus) (data : List Byte) (r : TagReq) (s : State), (lookup s.host.tags tag.toNat = some r) ∧ (r.quarantined = false) ∧ (status = .good) ∧ (s.current r = false)) ∧
    (∃ (tag : BitVec 14) (r : TagReq) (s : State), (lookup s.host.tags tag.toNat = some r) ∧ (r.quarantined = false)) ∧
    (∃ (tag : BitVec 14) (r : TagReq) (s : State), (lookup s.host.tags tag.toNat = some r) ∧ (r.quarantined = true)) ∧
    (∃ (tag : BitVec 14) (r : TagReq) (s : State), (lookup s.host.tags tag.toNat = some r) ∧ (r.quarantined = true)) :=
  ⟨⟨true, 5, 8, on, by decide +kernel⟩,
   ⟨false, 0, 0, on, by decide +kernel⟩,
   ⟨0, .busMaster false, on, by decide +kernel⟩,
   ⟨0, .read .vendorId, (on.setFn 0 { flr := true }), by decide +kernel⟩,
   ⟨on, by decide +kernel⟩,
   ⟨{ on with host := { on.host with vfEnable := true } }, by decide +kernel⟩,
   ⟨0, on, by decide +kernel⟩,
   ⟨4, on, by decide +kernel⟩,
   ⟨0, true, on, by decide +kernel⟩,
   ⟨on, by decide +kernel⟩,
   ⟨5, .poisoned, [], { iid := 0, gen := 1, qgen := 0, unit := .pageFill 0, quarantined := false }, { adm with host := { adm.host with tags := [(5, { iid := 0, gen := 1, qgen := 0, unit := .pageFill 0, quarantined := false })] } }, by decide +kernel⟩,
   ⟨5, .good, [], { iid := 0, gen := 1, qgen := 0, unit := .pageFill 0, quarantined := false }, { adm with host := { adm.host with tags := [(5, { iid := 0, gen := 1, qgen := 0, unit := .pageFill 0, quarantined := false })] } }, by decide +kernel⟩,
   ⟨5, .good, [], { iid := 0, gen := 9, qgen := 0, unit := .dma 0, quarantined := false }, { adm with host := { adm.host with tags := [(5, { iid := 0, gen := 9, qgen := 0, unit := .dma 0, quarantined := false })] } }, by decide +kernel⟩,
   ⟨5, { iid := 0, gen := 1, qgen := 0, unit := .pageFill 0, quarantined := false }, { adm with host := { adm.host with tags := [(5, { iid := 0, gen := 1, qgen := 0, unit := .pageFill 0, quarantined := false })] } }, by decide +kernel⟩,
   ⟨5, { iid := 0, gen := 1, qgen := 0, unit := .pageFill 0, quarantined := true }, { adm with host := { adm.host with tags := [(5, { iid := 0, gen := 1, qgen := 0, unit := .pageFill 0, quarantined := true })] } }, by decide +kernel⟩,
   ⟨5, { iid := 0, gen := 1, qgen := 0, unit := .pageFill 0, quarantined := true }, { adm with host := { adm.host with tags := [(5, { iid := 0, gen := 1, qgen := 0, unit := .pageFill 0, quarantined := true })] } }, by decide +kernel⟩⟩

/-- States and operands that meet what HostWindowActs asks. -/
theorem witness_HostWindowActs :
    (∃ (rid : BitVec 16) (offset : BitVec 38) (bytes : BitVec 13) (ecc : EccResult) (s : State), (s.loaderUr 0 = false) ∧ (s.fnOpen 0 = true) ∧ (s.host.bar4Absent = false) ∧ (offset.toNat + bytes.toNat ≤ s.host.bar4GiB * 2 ^ 30) ∧ (s.peerAddr offset.toNat bytes.toNat rid.toNat false = none)) ∧
    (∃ (rid : BitVec 16) (offset : BitVec 38) (bytes : BitVec 13) (a : Nat) (ecc : EccResult) (s : State), (s.loaderUr 0 = false) ∧ (s.fnOpen 0 = true) ∧ (s.host.bar4Absent = false) ∧ (offset.toNat + bytes.toNat ≤ s.host.bar4GiB * 2 ^ 30) ∧ (s.peerAddr offset.toNat bytes.toNat rid.toNat false = some a)) ∧
    (∃ (mid : BitVec 13) (window : Fin 64) (value : Word) (s : State), (s.gate mid.toNat (R.HST_PEER_WIN_CTL window.val) false = .open_) ∧ (bitAt value.toNat 31 = true)) ∧
    (∃ (window : Fin 64) (s : State), (s.rfb (F.HST_PEER_WIN_CTL_commit window.val) = true)) ∧
    (∃ (s : State), (s.l0pOn = true) ∧ (1 ≤ s.rf F.HST_LINK_STATUS_tx_width / 2) ∧ (s.l0pMin ≤ s.rf F.HST_LINK_STATUS_tx_width / 2)) ∧
    (∃ (s : State), (s.l0pOn = true) ∧ (s.rf F.HST_LINK_STATUS_tx_width < s.rf F.HST_LINK_STATUS_neg_width)) ∧
    (∃ (s : State), (s.l1Open = true)) ∧
    (∃ (mid : BitVec 13) (value : Word) (s : State), (s.gate mid.toNat (R.HST_PM_CFG) false = .open_) ∧ (l0pGood value.toNat = true)) ∧
    (∃ (mid : BitVec 13) (value : Word) (s : State), (s.gate mid.toNat (R.HST_PM_CFG) false = .open_) ∧ (bitAt value.toNat 31 = true) ∧ (l0pGood value.toNat = false)) ∧
    (∃ (mid : BitVec 13) (value : Word) (s : State), (s.gate mid.toNat (R.HST_CPL_TIMEOUT) false = .open_) ∧ (bitAt value.toNat 31 = true) ∧ (50 ≤ field value.toNat 25 0) ∧ (field value.toNat 25 0 ≤ 64000000)) ∧
    (∃ (mid : BitVec 13) (value : Word) (s : State), (s.gate mid.toNat (R.HST_CPL_TIMEOUT) false = .open_) ∧ (bitAt value.toNat 31 = true) ∧ (field value.toNat 25 0 < 50)) :=
  ⟨⟨0, 0, 64, .good, on, by decide +kernel⟩,
   ⟨0, 0, 64, 0, .good, { on with host := { on.host with bar4GiB := 64, wins := [(0, { enabled := true, readEn := true, size := 4 })] } }, by decide +kernel⟩,
   ⟨0, 3, 0x80000001, on, by decide +kernel⟩,
   ⟨3, (on.setF (F.HST_PEER_WIN_CTL_commit 3) 1), by decide +kernel⟩,
   ⟨(((on.setF F.HST_PM_CFG_l0p_enable 1).setF F.HST_LINK_STATUS_tx_width 16).setF F.HST_LINK_STATUS_neg_width 16).setF F.HST_LINK_STATUS_flit 1, by decide +kernel⟩,
   ⟨(((on.setF F.HST_PM_CFG_l0p_enable 1).setF F.HST_LINK_STATUS_tx_width 4).setF F.HST_LINK_STATUS_neg_width 16).setF F.HST_LINK_STATUS_flit 1, by decide +kernel⟩,
   ⟨{ on.setF F.HST_PM_CFG_l1_idle_us 5 with host := { on.host with l1Enabled := true } }, by decide +kernel⟩,
   ⟨0, 0x83240280, on, by decide +kernel⟩,
   ⟨0, 0x80000000, on, by decide +kernel⟩,
   ⟨0, 0x80000100, on, by decide +kernel⟩,
   ⟨0, 0x80000010, on, by decide +kernel⟩⟩

/-- States and operands that meet what SlotActs asks. -/
theorem witness_SlotActs :
    (∃ (port : Fin 4) (present : Bool) (s : State), (s.mainOn = true) ∧ (present = true) ∧ (s.rfb (F.DNP_SLOT_STATUS_presence port.val) = false) ∧ (s.slot port.val = .empty) ∧ (s.rfb (F.DNP_SLOT_CTL_presence_int_en port.val) = false) ∧ (((s.setF (F.DNP_SLOT_STATUS_presence port.val) 1).setF (F.DNP_SLOT_STATUS_presence_changed port.val) 1).rfb (F.DNP_SLOT_CTL_presence_int_en port.val) = false)) ∧
    (∃ (mid : BitVec 13) (port : Fin 4) (value : Word) (r : Nat) (s : State), (s.gate mid.toNat (R.DNP_SLOT_CTL port.val) false = .open_) ∧ (bitAt value.toNat 6 = true) ∧ ((s.setReg (R.DNP_SLOT_CTL port.val) ((value.toNat &&& 0x78F) + (s.reg (R.DNP_SLOT_CTL port.val) &&& 0x40))).powerOnFault port.val = some r)) ∧
    (∃ (mid : BitVec 13) (port : Fin 4) (value : Word) (s : State), (s.gate mid.toNat (R.DNP_SLOT_CTL port.val) false = .open_) ∧ (bitAt value.toNat 6 = true) ∧ ((s.setReg (R.DNP_SLOT_CTL port.val) ((value.toNat &&& 0x78F) + (s.reg (R.DNP_SLOT_CTL port.val) &&& 0x40))).powerOnFault port.val = none)) ∧
    (∃ (port : Fin 4) (s : State), (s.portOn port.val = true) ∧ (s.slot port.val = .powering)) ∧
    (∃ (port : Fin 4) (s : State), (s.mainOn = true) ∧ (s.slot port.val = .powering)) ∧
    (∃ (port : Fin 4) (rate : BitVec 4) (width : BitVec 5) (s : State), (s.portOn port.val = true) ∧ (s.slot port.val = .training) ∧ (s.host.perstFree.contains port.val = true) ∧ (1 ≤ rate.toNat) ∧ (rate.toNat ≤ 5) ∧ (width.toNat = 1 ∨ width.toNat = 2 ∨ width.toNat = 4)) ∧
    (∃ (port : Fin 4) (s : State), (s.mainOn = true) ∧ (s.slot port.val = .training)) ∧
    (∃ (port : Fin 4) (s : State), (s.mainOn = true)) ∧
    (∃ (port : Fin 4) (s : State), (s.mainOn = true) ∧ (s.slot port.val = .removal)) ∧
    (∃ (port : Fin 4) (s : State), (s.mainOn = true) ∧ (s.slot port.val = .draining)) ∧
    (∃ (port : Fin 4) (s : State), (s.mainOn = true)) ∧
    (∃ (port : Fin 4) (severity : Fin 3) (source : BitVec 16) (s : State), (s.mainOn = true) ∧ (severity.val = 0)) ∧
    (∃ (port : Fin 4) (severity : Fin 3) (source : BitVec 16) (s : State), (s.mainOn = true) ∧ (severity.val = 2) ∧ (s.rfb (F.DNP_DPC_CTL_enable port.val) = true)) ∧
    (∃ (port : Fin 4) (s : State), (s.mainOn = true) ∧ ((s.slot port.val).live = true)) ∧
    (∃ (mid : BitVec 13) (port : Fin 4) (value : Word) (s : State), (s.gate mid.toNat (R.DNP_DPC_CTL port.val) false = .open_) ∧ (bitAt value.toNat 2 = true) ∧ (bitAt value.toNat 0 = true)) ∧
    (∃ (mid : BitVec 13) (port : Fin 4) (value : Word) (s : State), (s.gate mid.toNat (R.DNP_DPC_STATUS port.val) false = .open_) ∧ (bitAt value.toNat 31 = true)) ∧
    (∃ (port : Fin 4) (addr : BitVec 40) (bytes : BitVec 13) (ecc : EccResult) (s : State), (s.mainOn = true) ∧ ((s.slot port.val).live = true)) :=
  ⟨⟨1, true, on, by decide +kernel⟩,
   ⟨0, 1, 0x40, 0x1A01, on, by decide +kernel⟩,
   ⟨0, 1, 0x40, ((on.setSlot 1 .off).setF (F.DNP_SLOT_STATUS_presence 1) 1), by decide +kernel⟩,
   ⟨1, (on.setSlot 1 .powering), by decide +kernel⟩,
   ⟨1, (on.setSlot 1 .powering), by decide +kernel⟩,
   ⟨1, 4, 4, { on.setSlot 1 .training with host := { (on.setSlot 1 .training).host with perstFree := [1] } }, by decide +kernel⟩,
   ⟨1, (on.setSlot 1 .training), by decide +kernel⟩,
   ⟨1, on, by decide +kernel⟩,
   ⟨1, (on.setSlot 1 .removal), by decide +kernel⟩,
   ⟨1, (on.setSlot 1 .draining), by decide +kernel⟩,
   ⟨1, on, by decide +kernel⟩,
   ⟨1, 0, 7, (on.setSlot 1 .up), by decide +kernel⟩,
   ⟨1, 2, 7, ((on.setSlot 1 .up).setF (F.DNP_DPC_CTL_enable 1) 1), by decide +kernel⟩,
   ⟨1, (on.setSlot 1 .up), by decide +kernel⟩,
   ⟨0, 1, 5, (on.setSlot 1 .up), by decide +kernel⟩,
   ⟨0, 1, 0x80000000, (on.setSlot 1 .contained), by decide +kernel⟩,
   ⟨1, 0, 64, .good, (on.setSlot 1 .up), by decide +kernel⟩⟩

/-- States and operands that meet what DoorbellActs asks. -/
theorem witness_DoorbellActs :
    (∃ (iid : Fin 2048) (loc : BitVec 16) (value : Word) (q : Nat) (s : State), (s.fnOpen iid.val = true) ∧ (iid.val = 0 ∨ loc.toNat < 6144) ∧ (s.findQ iid.val loc.toNat = some q) ∧ ((s.q q).type ≤ 4)) ∧
    (∃ (iid : Fin 2048) (loc : BitVec 16) (value : Word) (s : State), (s.fnOpen iid.val = true) ∧ (iid.val = 0 ∨ loc.toNat < 6144) ∧ (s.findQ iid.val loc.toNat = none) ∧ (s.ownsLoc iid.val loc.toNat = false)) ∧
    (∃ (iid : Fin 2048) (loc : BitVec 16) (value : Word) (s : State), (s.fnOpen iid.val = true) ∧ (iid.val = 0 ∨ loc.toNat < 6144) ∧ (s.findQ iid.val loc.toNat = none) ∧ (s.ownsLoc iid.val loc.toNat = true)) ∧
    (∃ (iid : Fin 2048) (loc : BitVec 16) (value : Word) (arm : Bool) (q : Nat) (s : State), (s.fnOpen iid.val = true) ∧ (iid.val = 0 ∨ loc.toNat < 6144) ∧ (s.findQ iid.val loc.toNat = some q) ∧ (5 ≤ (s.q q).type)) ∧
    (∃ (qid : BitVec 16) (ok : Bool) (s : State), ((s.q qid.toNat).hot = false) ∧ ((s.q qid.toNat).state ≠ 0) ∧ (s.mainOn = true) ∧ (ok = true)) ∧
    (∃ (qid : BitVec 16) (ok : Bool) (s : State), ((s.q qid.toNat).hot = false) ∧ ((s.q qid.toNat).state ≠ 0) ∧ (s.mainOn = true) ∧ (ok = false)) ∧
    (∃ (qid : BitVec 16) (words : List Word) (s : State), (s.mayFetch qid.toNat 2 = true) ∧ (wd words 0 % 2 ^ 16 = 0x1100) ∧ ((s.q qid.toNat).lengthBad (wd words 1 % 2 ^ 16) 0 = false) ∧ (1 ≤ wd words 1 % 2 ^ 16) ∧ (wd words 2 % 2 ^ 17 = 0)) ∧
    (∃ (qid : BitVec 16) (words : List Word) (s : State), (s.mayFetch qid.toNat 2 = true) ∧ (wd words 0 % 2 ^ 16 = 0x1100) ∧ ((s.q qid.toNat).lengthBad (wd words 1 % 2 ^ 16) 0 = false) ∧ (1 ≤ wd words 2 % 2 ^ 17) ∧ (wd words 2 % 2 ^ 17 ≤ 65536) ∧ (reservedWord words ([(0, 0x800FFFFF), (2, 0x1FFFF), (4, 0xFFFFFFF8)] ++ (List.range 10).map fun k => (6 + k, 0)) = none) ∧ ((s.q qid.toNat).state = 1)) ∧
    (∃ (qid : BitVec 16) (words : List Word) (bytes : List Byte) (s : State), (s.openTag.isSome = true) ∧ (s.mayFetch qid.toNat 3 = true) ∧ (wd words 0 % 2 ^ 16 = 0x1000) ∧ ((s.q qid.toNat).lengthBad (wd words 1 % 2 ^ 16) 0 = false) ∧ ((8 + 4 * field (wd words 2) 23 16 + 15) / 16 ≤ wd words 1 % 2 ^ 16) ∧ (field (wd words 2) 23 16 ≠ 0) ∧ (14 ≤ wd words 2 % 2 ^ 16) ∧ ((segBytes words).contains 0 = false) ∧ ((segBytes words).foldl (· + ·) 0 = wd words 2 % 2 ^ 16) ∧ (txFault words = none) ∧ (bitAt (wd words 0) 18 = false) ∧ (bitAt (wd words 0) 19 = false)) ∧
    (∃ (qid : BitVec 16) (words : List Word) (payload : SegRead) (s : State), (s.openTag.isSome = true) ∧ (s.mayFetch qid.toNat 3 = true) ∧ (wd words 0 % 2 ^ 16 = 0x1000) ∧ ((s.q qid.toNat).lengthBad (wd words 1 % 2 ^ 16) 0 = false) ∧ ((8 + 4 * field (wd words 2) 23 16 + 15) / 16 ≤ wd words 1 % 2 ^ 16) ∧ (field (wd words 2) 23 16 ≠ 0) ∧ (14 ≤ wd words 2 % 2 ^ 16) ∧ ((segBytes words).contains 0 = false) ∧ ((segBytes words).foldl (· + ·) 0 = wd words 2 % 2 ^ 16) ∧ (txFault words = none) ∧ (payload = .poisoned ∨ payload = .ecrc ∨ payload = .refused ∨ payload = .timedOut)) ∧
    (∃ (qid : BitVec 16) (words : List Word) (s : State), (wd words 0 % 2 ^ 16 = 0xFFFF) ∧ (s.mayFetch qid.toNat 2 = true ∨ s.mayFetch qid.toNat 3 = true)) ∧
    (∃ (qid : BitVec 16) (e : Nat) (s : State), (s.evqOf qid.toNat = some e) ∧ (0 < (s.q qid.toNat).accCount) ∧ ((s.q e).coalTime ≠ 0)) ∧
    (∃ (mid : BitVec 13) (qid : BitVec 16) (s : State), (s.gate mid.toNat (R.QMG_CTX_SEL) false = .open_)) :=
  ⟨⟨0, 8, 2, 8, { adm with queues := [(7, { state := 1, type := 1, iid := 0, loc := 0, sizeLog2 := 6, pi := 8 }), (8, { type := 3, state := 1, iid := 0, loc := 8, sizeLog2 := 6, pi := 1, evq := 9 }), (9, { type := 6, state := 1, iid := 0, loc := 9, sizeLog2 := 6, vector := 3 })] }, by decide +kernel⟩,
   ⟨1, 77, 2, { on with host := { on.host with filled := true, vfEnable := true, ariSampled := true, vfMse := true, numVfs := 4, fns := [(0, { memSpace := true, busMaster := true, msixEnable := true }), (1, { memSpace := true, busMaster := true, msixEnable := true })] }, insts := [(1, { state := 0, gen := 1 })] }, by decide +kernel⟩,
   ⟨0, 77, 2, { adm with queues := [(7, { state := 1, type := 1, iid := 0, loc := 0, sizeLog2 := 6, pi := 8 }), (8, { type := 3, state := 1, iid := 0, loc := 8, sizeLog2 := 6, pi := 1, evq := 9 }), (9, { type := 6, state := 1, iid := 0, loc := 9, sizeLog2 := 6, vector := 3 })] }, by decide +kernel⟩,
   ⟨0, 9, 0, true, 9, { adm with queues := [(7, { state := 1, type := 1, iid := 0, loc := 0, sizeLog2 := 6, pi := 8 }), (8, { type := 3, state := 1, iid := 0, loc := 8, sizeLog2 := 6, pi := 1, evq := 9 }), (9, { type := 6, state := 1, iid := 0, loc := 9, sizeLog2 := 6, vector := 3 })] }, by decide +kernel⟩,
   ⟨8, true, { adm with queues := [(7, { state := 1, type := 1, iid := 0, loc := 0, sizeLog2 := 6, pi := 8 }), (8, { type := 3, state := 1, iid := 0, loc := 8, sizeLog2 := 6, pi := 1, evq := 9, hot := false }), (9, { type := 6, state := 1, iid := 0, loc := 9, sizeLog2 := 6, vector := 3 })] }, by decide +kernel⟩,
   ⟨8, false, { adm with queues := [(7, { state := 1, type := 1, iid := 0, loc := 0, sizeLog2 := 6, pi := 8 }), (8, { type := 3, state := 1, iid := 0, loc := 8, sizeLog2 := 6, pi := 1, evq := 9, hot := false }), (9, { type := 6, state := 1, iid := 0, loc := 9, sizeLog2 := 6, vector := 3 })] }, by decide +kernel⟩,
   ⟨8, (List.map w32 [4352, 327681, 1048576, 0, 4096, 0, 0, 0, 0, 0, 0, 0, 0, 0, 0, 0]), { adm with queues := [(7, { state := 1, type := 1, iid := 0, loc := 0, sizeLog2 := 6, pi := 8 }), (8, { type := 2, state := 1, iid := 0, loc := 8, sizeLog2 := 6, pi := 1, evq := 9 }), (9, { type := 6, state := 1, iid := 0, loc := 9, sizeLog2 := 6, vector := 3 })] }, by decide +kernel⟩,
   ⟨8, (List.map w32 [4352, 327681, 2048, 0, 4096, 0, 0, 0, 0, 0, 0, 0, 0, 0, 0, 0]), { adm with queues := [(7, { state := 1, type := 1, iid := 0, loc := 0, sizeLog2 := 6, pi := 8 }), (8, { type := 2, state := 1, iid := 0, loc := 8, sizeLog2 := 6, pi := 1, evq := 9 }), (9, { type := 6, state := 1, iid := 0, loc := 9, sizeLog2 := 6, vector := 3 })] }, by decide +kernel⟩,
   ⟨8, (List.map w32 [4096, 327681, 65600, 0, 0, 0, 0, 0, 0, 0, 64, 0, 0, 0, 0, 0]), List.replicate 64 1#8, { adm with queues := [(7, { state := 1, type := 1, iid := 0, loc := 0, sizeLog2 := 6, pi := 8 }), (8, { type := 3, state := 1, iid := 0, loc := 8, sizeLog2 := 6, pi := 1, evq := 9 }), (9, { type := 6, state := 1, iid := 0, loc := 9, sizeLog2 := 6, vector := 3 })] }, by decide +kernel⟩,
   ⟨8, (List.map w32 [4096, 327681, 65600, 0, 0, 0, 0, 0, 0, 0, 64, 0, 0, 0, 0, 0]), .ecrc, { adm with queues := [(7, { state := 1, type := 1, iid := 0, loc := 0, sizeLog2 := 6, pi := 8 }), (8, { type := 3, state := 1, iid := 0, loc := 8, sizeLog2 := 6, pi := 1, evq := 9 }), (9, { type := 6, state := 1, iid := 0, loc := 9, sizeLog2 := 6, vector := 3 })] }, by decide +kernel⟩,
   ⟨8, (List.map w32 [65535, 1, 0, 0, 0, 0, 0, 0, 0, 0, 0, 0, 0, 0, 0, 0]), { adm with queues := [(7, { state := 1, type := 1, iid := 0, loc := 0, sizeLog2 := 6, pi := 8 }), (8, { type := 2, state := 1, iid := 0, loc := 8, sizeLog2 := 6, pi := 1, evq := 9 }), (9, { type := 6, state := 1, iid := 0, loc := 9, sizeLog2 := 6, vector := 3 })] }, by decide +kernel⟩,
   ⟨8, 9, { adm with queues := [(7, { state := 1, type := 1, iid := 0, loc := 0, sizeLog2 := 6, pi := 8 }), (8, { type := 2, state := 1, iid := 0, loc := 8, sizeLog2 := 6, pi := 1, evq := 9, accCount := 1 }), (9, { type := 6, state := 1, iid := 0, loc := 9, sizeLog2 := 6, vector := 3, coalTime := 5 })] }, by decide +kernel⟩,
   ⟨0, 8, { adm with queues := [(7, { state := 1, type := 1, iid := 0, loc := 0, sizeLog2 := 6, pi := 8 }), (8, { type := 2, state := 1, iid := 0, loc := 8, sizeLog2 := 6, pi := 1, evq := 9 }), (9, { type := 6, state := 1, iid := 0, loc := 9, sizeLog2 := 6, vector := 3 })] }, by decide +kernel⟩⟩

/-- States and operands that meet what QueueCommands asks. -/
theorem witness_QueueCommands :
    (Meets queueCreateSpec (fun c s => c.reserved [(0, 0xFFFFFFFF), (4, 0x10D), (7, 0xFFFF), (8, 0xFFFFF800), (9, 0), (10, 0), (11, 0)] = none ∧ field (c.p 0) 31 24 = 2 ∧ c.p 0 % 2 ^ 16 ≠ 0 ∧
        (c.target = 0 ∨ (c.p 0 % 2 ^ 16 < 6144 ∧ c.p 0 % 2 ^ 16 < quotaMax (s.inst c.target).quota 1)) ∧ s.wrongState c.target true = false ∧ 6 ≤ field (c.p 0) 23 16 ∧ field (c.p 0) 23 16 ≤ 16 ∧
        (c.p 1 + c.p 2 * 2 ^ 32) % 4096 = 0 ∧ bitAt (c.p 4) 2 = false ∧ s.findQ c.target (c.p 0 % 2 ^ 16) = none ∧ c.p 3 = 0xFFFFFFFF ∧ s.poolAllows c.target 1 1 = none)) ∧
    (Meets evqCreateSpec (fun c s => c.reserved [(0, 0xFFFFFF), (3, 0xFFFF), (4, 4), (8, 0xFFFFF800)] = none ∧ c.p 0 % 2 ^ 16 ≠ 0 ∧ (c.target = 0 ∨ (c.p 0 % 2 ^ 16 < 6144 ∧ c.p 0 % 2 ^ 16 < quotaMax (s.inst c.target).quota 1)) ∧
        s.wrongState c.target true = false ∧ 6 ≤ field (c.p 0) 23 16 ∧ field (c.p 0) 23 16 ≤ 16 ∧ (c.p 1 + c.p 2 * 2 ^ 32) % 4096 = 0 ∧
        bitAt (c.p 4) 2 = false ∧ s.findQ c.target (c.p 0 % 2 ^ 16) = none ∧ c.p 3 < s.vectorQuota c.target ∧ s.vectorShort c.target (c.p 3) = false ∧ s.poolAllows c.target 1 1 = none)) ∧
    (Meets queueDestroySpec (fun c s => c.reserved [(0, 0x1FFFF)] = none ∧ s.wrongState c.target false = false ∧ (s.findQ c.target (c.p 0 % 2 ^ 16)).isSome = true ∧ (s.q ((s.findQ c.target (c.p 0 % 2 ^ 16)).getD 0)).type ≠ 1 ∧ (s.q ((s.findQ c.target (c.p 0 % 2 ^ 16)).getD 0)).type ≠ 6 ∧ (s.q ((s.findQ c.target (c.p 0 % 2 ^ 16)).getD 0)).state = 1 ∧ bitAt (c.p 0) 16 = false)) ∧
    (∃ (qid : BitVec 16) (s : State), ((s.q qid.toNat).state = 2) ∧ ((s.q qid.toNat).ci = (s.q qid.toNat).pi) ∧ ((s.q qid.toNat).taken = []) ∧ ((s.q qid.toNat).ready = [])) ∧
    (Meets evqDestroySpec (fun c s => c.reserved [(0, 0xFFFF)] = none ∧ s.wrongState c.target false = false ∧ (s.findQ c.target (c.p 0)).isSome = true ∧ (s.q ((s.findQ c.target (c.p 0)).getD 0)).type = 6 ∧ (s.queues.any fun e => e.2.iid = c.target && e.2.state != 0 && e.2.type != 6 && e.2.evq = c.p 0) = false)) ∧
    (Meets queueModifySpec (fun c s => c.reserved [(0, 0x3FFFFFFF)] = none ∧ field (c.p 0) 31 24 = 0x10 ∧ c.p 0 % 2 ^ 16 ≠ 0 ∧ s.wrongState c.target false = false ∧ (s.findQ c.target (c.p 0 % 2 ^ 16)).isSome = true ∧ (s.q ((s.findQ c.target (c.p 0 % 2 ^ 16)).getD 0)).type = 6)) ∧
    (Meets queueQuerySpec (fun c s => c.reserved [(0, 0xFFFF)] = none ∧ s.wrongState c.target false = false ∧ (s.findQ c.target (c.p 0)).isSome = true)) ∧
    (Meets evqRearmSpec (fun c s => c.reserved [(0, 0xFFFF)] = none ∧ s.wrongState c.target false = false ∧ (s.findQ c.target (c.p 0)).isSome = true ∧ ((s.q ((s.findQ c.target (c.p 0)).getD 0)).type = 6 ∨ (s.q ((s.findQ c.target (c.p 0)).getD 0)).type = 5) ∧ (s.q ((s.findQ c.target (c.p 0)).getD 0)).ci = (s.q ((s.findQ c.target (c.p 0)).getD 0)).pi)) :=
  ⟨⟨adm, entry 0x0200 [0x02060010, 0x1000, 0, 0xFFFFFFFF], by decide +kernel⟩,
   ⟨adm, entry 0x0210 [0x00060010, 0x1000, 0, 3], by decide +kernel⟩,
   ⟨{ adm with queues := [(7, { state := 1, type := 1, iid := 0, loc := 0, sizeLog2 := 6, pi := 8 }), (8, { type := 2, state := 1, iid := 0, loc := 8, sizeLog2 := 6, pi := 1, evq := 9 }), (9, { type := 6, state := 1, iid := 0, loc := 9, sizeLog2 := 6, vector := 3 })] }, entry 0x0201 [8], by decide +kernel⟩,
   ⟨8, { adm with queues := [(7, { state := 1, type := 1, iid := 0, loc := 0, sizeLog2 := 6, pi := 8 }), (8, { type := 2, state := 2, ci := 1, iid := 0, loc := 8, sizeLog2 := 6, pi := 1, evq := 9 }), (9, { type := 6, state := 1, iid := 0, loc := 9, sizeLog2 := 6, vector := 3 })] }, by decide +kernel⟩,
   ⟨{ adm with queues := [(7, { state := 1, type := 1, iid := 0, loc := 0, sizeLog2 := 6, pi := 8 }), (8, { type := 2, state := 1, iid := 0, loc := 8, sizeLog2 := 6, pi := 1 }), (9, { type := 6, state := 1, iid := 0, loc := 9, sizeLog2 := 6, vector := 3 })] }, entry 0x0211 [9], by decide +kernel⟩,
   ⟨{ adm with queues := [(7, { state := 1, type := 1, iid := 0, loc := 0, sizeLog2 := 6, pi := 8 }), (8, { type := 2, state := 1, iid := 0, loc := 8, sizeLog2 := 6, pi := 1, evq := 9 }), (9, { type := 6, state := 1, iid := 0, loc := 9, sizeLog2 := 6, vector := 3 })] }, entry 0x0202 [0x10000009, 0, 0, 0, 0, 0, 0, 0x50003], by decide +kernel⟩,
   ⟨{ adm with queues := [(7, { state := 1, type := 1, iid := 0, loc := 0, sizeLog2 := 6, pi := 8 }), (8, { type := 2, state := 1, iid := 0, loc := 8, sizeLog2 := 6, pi := 1, evq := 9 }), (9, { type := 6, state := 1, iid := 0, loc := 9, sizeLog2 := 6, vector := 3 })] }, entry 0x0203 [8], by decide +kernel⟩,
   ⟨{ adm with queues := [(7, { state := 1, type := 1, iid := 0, loc := 0, sizeLog2 := 6, pi := 8 }), (8, { type := 2, state := 1, iid := 0, loc := 8, sizeLog2 := 6, pi := 1, evq := 9, ci := 1 }), (9, { type := 6, state := 1, iid := 0, loc := 9, sizeLog2 := 6, vector := 3 })] }, entry 0x0212 [9], by decide +kernel⟩⟩

/-- States and operands that meet what DmaActs asks. -/
theorem witness_DmaActs :
    (∃ (mid : BitVec 13) (n : BitVec 7) (s : State), (s.islandDown 39 = true)) ∧
    (Meets dmaChannelCfgSpec (fun c s => c.reserved [(0, 0x8000007F), (1, 0x71FFF)] = none ∧ bitAt (c.p 0) 31 = false ∧ midAssigned (c.p 1 % 2 ^ 13) = true)) ∧
    (Meets dmaChannelCfgSpec (fun c s => c.reserved [(0, 0x8000007F), (1, 0x71FFF)] = none ∧ bitAt (c.p 0) 31 = true ∧ s.rfb (F.DMA_CH_STATUS_running (c.p 0 % 128)) = false)) ∧
    (∃ (mid : BitVec 13) (n : BitVec 7) (s : State), (s.islandDown 39 = false) ∧ (0x1000 ≤ mid.toNat) ∧ (mid.toNat ≤ 0x1003) ∧ (s.rfb (F.DMA_CH_OWNER_valid n.toNat) = true) ∧ (s.rfb (F.DMA_CH_CTL_start n.toNat) = false) ∧ (s.startFault n.toNat = none)) ∧
    (∃ (mid : BitVec 13) (n : BitVec 7) (s : State), (s.islandDown 39 = false) ∧ (0x1000 ≤ mid.toNat) ∧ (mid.toNat ≤ 0x1003) ∧ (s.rfb (F.DMA_CH_OWNER_valid n.toNat) = false)) ∧
    (∃ (mid : BitVec 13) (n : BitVec 7) (s : State), (s.islandDown 39 = false) ∧ (s.rfb (F.DMA_CH_OWNER_valid n.toNat) = true) ∧ (s.rf (F.DMA_CH_OWNER_mid n.toNat) = mid.toNat)) ∧
    (∃ (engine : Fin 16) (n : Nat) (s : State), (lookup s.dma.running engine.val = none) ∧ (s.dmaNext engine.val = some n)) ∧
    (∃ (engine : Fin 16) (host : Option (List Byte)) (n : Nat) (s : State), (lookup s.dma.running engine.val = some n) ∧ (s.dmaWaits n = false) ∧ ((host.isNone && s.dmaPages n) = false)) :=
  ⟨⟨0x1000, 3, { on with boot := { on.boot with gated := true }, regs := [] }, by decide +kernel⟩,
   ⟨adm, entry 0x0220 [5, 0x71000], by decide +kernel⟩,
   ⟨adm, entry 0x0220 [0x80000005], by decide +kernel⟩,
   ⟨0x1000, 3, ((((on.setReg (R.DMA_CH_OWNER 3) 0x80070000).setReg (R.DMA_CH_COUNT 3) 64).setF (F.DMA_CH_SPACE_src_space 3) 2).setF (F.DMA_CH_SPACE_dst_space 3) 2), by decide +kernel⟩,
   ⟨0x1000, 3, on, by decide +kernel⟩,
   ⟨0, 3, ((((on.setReg (R.DMA_CH_OWNER 3) 0x80070000).setReg (R.DMA_CH_COUNT 3) 64).setF (F.DMA_CH_SPACE_src_space 3) 2).setF (F.DMA_CH_SPACE_dst_space 3) 2), by decide +kernel⟩,
   ⟨0, 3, (((((on.setReg (R.DMA_CH_OWNER 3) 0x80070000).setReg (R.DMA_CH_COUNT 3) 64).setF (F.DMA_CH_SPACE_src_space 3) 2).setF (F.DMA_CH_SPACE_dst_space 3) 2).setF (F.DMA_CH_STATUS_queued 3) 1), by decide +kernel⟩,
   ⟨0, none, 3, { ((((on.setReg (R.DMA_CH_OWNER 3) 0x80070000).setReg (R.DMA_CH_COUNT 3) 64).setF (F.DMA_CH_SPACE_src_space 3) 2).setF (F.DMA_CH_SPACE_dst_space 3) 2) with dma := { running := [(0, 3)] } }, by decide +kernel⟩⟩

/-- States and operands that meet what InstanceActs asks. -/
theorem witness_InstanceActs :
    (Meets insCreateSpec (fun c s => c.reserved [(14, 0xFF0000), (15, 0xFFFFF800)] = none ∧ quotaRange (c.params.take 12) = none ∧ (s.inst c.target).state = 0 ∧ quotaOrder (c.params.take 12) = false ∧
        6 ≤ field (c.p 14) 23 16 ∧ field (c.p 14) 23 16 ≤ 16 ∧ c.p 12 % 4096 = 0 ∧ s.poolShort c.target (c.params.take 12) true = none)) ∧
    (∃ (s : State) (e : AdminEntry), s.accepts insDestroySpec e = true ∧ (s.heard insDestroySpec e).target ≠ 0 ∧ (((s.taken insDestroySpec e).inst (s.heard insDestroySpec e).target).state ≠ 0 ∧ ((s.taken insDestroySpec e).inst (s.heard insDestroySpec e).target).state ≠ 5)) ∧
    (∃ (s : State) (e : AdminEntry), s.accepts insResetSpec e = true ∧ bitAt ((s.heard insResetSpec e).p 0) 0 = false ∧ (s.heard insResetSpec e).reserved [(0, 1)] = none ∧ (s.heard insResetSpec e).target ≠ 0 ∧ ((s.taken insResetSpec e).inst (s.heard insResetSpec e).target).state = 2) ∧
    (Meets insSetQuotaSpec (fun c s => c.target ≠ 0 ∧ quotaRange (c.params.take 12) = none ∧ (s.inst c.target).state ≠ 0 ∧ (s.inst c.target).state ≠ 5 ∧ s.quotaBelowUse c.target (c.params.take 12) = false ∧
        quotaOrder (c.params.take 12) = false ∧ quotaMin (c.params.take 12) 7 = (s.rangeOf c.target).2 ∧ s.poolShort c.target (c.params.take 12) false = none)) ∧
    (Meets insQuerySpec (fun _ _ => True)) ∧
    (∃ (s : State) (e : AdminEntry), s.accepts insSuspendSpec e = true ∧ (s.heard insSuspendSpec e).target ≠ 0 ∧ (((s.taken insSuspendSpec e).inst (s.heard insSuspendSpec e).target).state = 2)) ∧
    (Meets insResumeSpec (fun c s => c.target ≠ 0 ∧ (s.inst c.target).state = 3)) ∧
    (∃ (iid : Fin 2048) (s : State), ((s.inst iid.val).waits = [])) ∧
    (∃ (iid : Fin 2048) (t : List IncWait) (s : State), ((s.inst iid.val).waits = .plain :: t)) ∧
    (∃ (mid : BitVec 13) (value : Word) (s : State), (s.gate mid.toNat (R.INS_MGR_ADMIN_CFG) false = .open_) ∧ (bitAt value.toNat 31 = false)) ∧
    (∃ (mid : BitVec 13) (value : Word) (s : State), (s.gate mid.toNat (R.INS_MGR_ADMIN_CFG) false = .open_) ∧ (bitAt value.toNat 31 = true) ∧ (s.rfb F.INS_MGR_ADMIN_CFG_active = false) ∧ (6 ≤ field value.toNat 23 16) ∧ (field value.toNat 23 16 ≤ 16)) ∧
    (∃ (mid : BitVec 13) (iid : Fin 2048) (s : State), (s.gate mid.toNat (R.INS_SEL) false = .open_)) :=
  ⟨⟨adm, { entry 0x0100 [1, 0x10000, 0, 0, 0x10000, 1, 0, 0, 0, 0, 0, 0, 0x1000, 0, 0x060000, 0] with words := ((entry 0x0100 [1, 0x10000, 0, 0, 0x10000, 1, 0, 0, 0, 0, 0, 0, 0x1000, 0, 0x060000, 0]).words.set 2 (w32 (1 * 65536 + 1))) }, by decide +kernel⟩,
   ⟨{ adm with insts := [(0, { state := 2, gen := 1 }), (1, { state := 2, gen := 1 })] }, { entry 0x0101 [] with words := ((entry 0x0101 []).words.set 2 (w32 (1 * 65536 + 1))) }, by decide +kernel⟩,
   ⟨{ adm with insts := [(0, { state := 2, gen := 1 }), (1, { state := 2, gen := 1 })] }, { entry 0x0102 [] with words := ((entry 0x0102 []).words.set 2 (w32 (1 * 65536 + 1))) }, by decide +kernel⟩,
   ⟨{  adm with insts := [(0, { state := 2, gen := 1 }), (1, { state := 2, gen := 1 })] , pgr := { ranges := [(1, (600, 1))] } }, { entry 0x0104 [1, 0x10000, 0, 0, 0x10000, 1, 0, 0, 0, 0, 0, 0] with words := ((entry 0x0104 [1, 0x10000, 0, 0, 0x10000, 1, 0, 0, 0, 0, 0, 0]).words.set 2 (w32 (1 * 65536 + 1))) }, by decide +kernel⟩,
   ⟨adm, entry (insQuerySpec.opcode) [], by decide +kernel⟩,
   ⟨{ adm with insts := [(0, { state := 2, gen := 1 }), (1, { state := 2, gen := 1 })] }, { entry 0x0105 [] with words := ((entry 0x0105 []).words.set 2 (w32 (1 * 65536 + 1))) }, by decide +kernel⟩,
   ⟨{ adm with insts := [(0, { state := 2, gen := 1 }), (1, { state := 3, gen := 1 })] }, { entry 0x0106 [] with words := ((entry 0x0106 []).words.set 2 (w32 (1 * 65536 + 1))) }, by decide +kernel⟩,
   ⟨1, { adm with insts := [(0, { state := 2, gen := 1 }), (1, { state := 2, gen := 1 })] }, by decide +kernel⟩,
   ⟨1, [], { adm with insts := [(0, { state := 2, gen := 1 }), (1, { state := 2, gen := 1, waits := [.plain] })] }, by decide +kernel⟩,
   ⟨0, 0x00060000, on, by decide +kernel⟩,
   ⟨0, 0x80060000, on, by decide +kernel⟩,
   ⟨0, 1, on, by decide +kernel⟩⟩

/-- States and operands that meet what AdminFetch asks. -/
theorem witness_AdminFetch :
    (∃ (e : AdminEntry), wd e.words 0 % 2 ^ 16 ≠ 0xFFFF ∧ (commandOf (wd e.words 0 % 2 ^ 16)).isSome = true) ∧
    (∃ (s : State) (e : AdminEntry), s.accepts devNopSpec e = true) ∧
    (∃ (s : State) (e : AdminEntry), s.eligible e = true ∧ commandOf (wd e.words 0 % 2 ^ 16) = none ∧ catRow (wd e.words 0 % 2 ^ 16) = none ∧ wd e.words 0 % 2 ^ 16 ≠ 0xFFFF ∧ 1 ≤ field (wd e.words 1) 15 0 ∧ field (wd e.words 1) 15 0 ≤ 64 ∧ field (wd e.words 1) 15 0 ≤ (s.entrySpan e).2) ∧
    (∃ (s : State) (e : AdminEntry) (i : Fin 2048) (q : Nat), e.issuer = .inst i ∧ s.adminQ i.val = some q ∧ s.eligible e = true ∧ wd e.words 0 % 2 ^ 16 = 0xFFFF ∧ wd e.words 1 % 2 ^ 16 = (s.q q).size - (s.q q).fi % (s.q q).size ∧ wd e.words 1 % 2 ^ 16 ≤ sub32 (s.q q).pi (s.q q).fi) :=
  ⟨⟨entry 1 [], by decide +kernel⟩,
   ⟨adm, entry 1 [], by decide +kernel⟩,
   ⟨adm, entry 0x0999 [], by decide +kernel⟩,
   ⟨{ adm with queues := [(7, { state := 1, type := 1, iid := 0, loc := 0, sizeLog2 := 6, pi := 64 }), (8, { type := 3, state := 1, iid := 0, loc := 8, sizeLog2 := 6, pi := 1, evq := 9 }), (9, { type := 6, state := 1, iid := 0, loc := 9, sizeLog2 := 6, vector := 3 })] }, { entry 0xFFFF [] with words := (entry 0xFFFF []).words.set 1 64#32 }, 0, 7, by decide +kernel⟩⟩

/-- States and operands that meet what PagerActs asks. -/
theorem witness_PagerActs :
    (∃ (page : BitVec 30) (d : Nat) (n : Nat) (s : State), ((s.page page.toNat).home = .host d n) ∧ ((s.page page.toNat).filling = true) ∧ ((s.page page.toNat).fails = 1) ∧ (s.hostPaging = true) ∧ (s.asked (.pageFill page.toNat) = false)) ∧
    (∃ (page : BitVec 30) (ok : Bool) (s : State), ((s.page page.toNat).writing = true) ∧ ((s.page page.toNat).cached.isSome = true) ∧ (((s.page page.toNat).onHost && !s.hostPaging) = false) ∧ (ok = true) ∧ (((s.page page.toNat).pinned || s.references.contains page.toNat) = false)) ∧
    (∃ (page : BitVec 30) (ok : Bool) (s : State), ((s.page page.toNat).writing = true) ∧ ((s.page page.toNat).cached.isSome = true) ∧ (((s.page page.toNat).onHost && !s.hostPaging) = false) ∧ (ok = true) ∧ (((s.page page.toNat).pinned || s.references.contains page.toNat) = true)) ∧
    (∃ (page : BitVec 30) (ok : Bool) (s : State), ((s.page page.toNat).writing = true) ∧ ((s.page page.toNat).cached.isSome = true) ∧ (((s.page page.toNat).onHost && !s.hostPaging) = false) ∧ (ok = false)) ∧
    (∃ (s : State), (8192 < s.cachedFrames.length + s.rf F.PGR_CACHE_CFG_free_target)) ∧
    (∃ (s : State), (s.pgr.demoting = true ∨ s.freeLpd * 100 < s.rf F.PGR_LPD_WMARK_low_pct * s.pagerFrames) ∧ (s.freeLpd * 100 < s.rf F.PGR_LPD_WMARK_high_pct * s.pagerFrames)) ∧
    (∃ (page : BitVec 30) (s : State), ((s.page page.toNat).moving = true)) ∧
    (∃ (line : BitVec 32) (ecc : EccResult) (s : State), (s.mainOn = true) ∧ (s.rfb F.MEM_SCRUB_CFG_enable = true) ∧ (line.toNat * 64 / 4096 + 32 < lpdFrames) ∧ (s.ras.retired.contains (0x300 + line.toNat * 64 / 4096 % 32) = false)) :=
  ⟨⟨5, 2, 3, { on with pgr := { pages := [(5, { home := .host 2 3, filling := true, fails := 1 })], donations := [(2, { addr := 0x200000, size := 1 })] } }, by decide +kernel⟩,
   ⟨5, true, { on with pgr := { pages := [(5, { home := .ddr 9, writing := true, cached := some 1 })] } }, by decide +kernel⟩,
   ⟨5, true, { on with pgr := { pages := [(5, { home := .ddr 9, writing := true, cached := some 1, pinned := true })] } }, by decide +kernel⟩,
   ⟨5, false, { on with pgr := { pages := [(5, { home := .ddr 9, writing := true, cached := some 1 })] } }, by decide +kernel⟩,
   ⟨({ on with pgr := { pages := [(5, { home := .ddr 9, cached := some 1 }), (6, { home := .ddr 8, cached := some 2 })] } }.setF F.PGR_CACHE_CFG_free_target 8191), by decide +kernel⟩,
   ⟨({ on with pgr := { demoting := true, pages := [(5, { home := .ddr 9 })] } }.setF F.PGR_LPD_WMARK_high_pct 127), by decide +kernel⟩,
   ⟨5, { on with pgr := { pages := [(5, { home := .ddr 9, moving := true })] } }, by decide +kernel⟩,
   ⟨640, .good, (on.setF F.MEM_SCRUB_CFG_enable 1), by decide +kernel⟩⟩

/-- States and operands that meet what MemoryCommands asks. -/
theorem witness_MemoryCommands :
    (Meets pgrPinSpec (fun c s => c.reserved [(2, 0x1FFFF)] = none ∧ c.p 0 % 4096 = 0 ∧ 1 ≤ c.p 2 % 2 ^ 17 ∧ c.p 2 % 2 ^ 17 ≤ 4096 ∧ c.p 0 + c.p 1 * 2 ^ 32 + c.p 2 % 2 ^ 17 * 4096 ≤ (s.rangeOf c.target).2 * 2 ^ 21 ∧
        (c.target = 0 ∨ s.pinnedOf c.target + ((s.namedPages c).filter fun k => !(s.page k).pinned).length ≤ wd (s.inst c.target).quota 6 % 2 ^ 13) ∧
        s.pinnedAll + ((s.namedPages c).filter fun k => !(s.page k).pinned).length + s.rf F.PGR_CACHE_CFG_unpinned_floor ≤ 8192)) ∧
    (Meets pgrUnpinSpec (fun c s => c.reserved [(2, 0x1FFFF)] = none ∧ c.p 0 % 4096 = 0 ∧ 1 ≤ c.p 2 % 2 ^ 17 ∧ c.p 2 % 2 ^ 17 ≤ 65536 ∧ c.p 0 + c.p 1 * 2 ^ 32 + c.p 2 % 2 ^ 17 * 4096 ≤ (s.rangeOf c.target).2 * 2 ^ 21)) ∧
    (Meets pgrPrefetchSpec (fun c s => c.reserved [(2, 0x1FFFF), (3, 3)] = none ∧ c.p 3 = 0 ∧ c.p 0 % 4096 = 0 ∧ 1 ≤ c.p 2 % 2 ^ 17 ∧ c.p 2 % 2 ^ 17 ≤ 65536 ∧ c.p 0 + c.p 1 * 2 ^ 32 + c.p 2 % 2 ^ 17 * 4096 ≤ (s.rangeOf c.target).2 * 2 ^ 21)) ∧
    (Meets pgrPrefetchSpec (fun c s => c.reserved [(2, 0x1FFFF), (3, 3)] = none ∧ c.p 3 = 2 ∧ c.p 0 % 4096 = 0 ∧ 1 ≤ c.p 2 % 2 ^ 17 ∧ c.p 2 % 2 ^ 17 ≤ 65536 ∧ c.p 0 + c.p 1 * 2 ^ 32 + c.p 2 % 2 ^ 17 * 4096 ≤ (s.rangeOf c.target).2 * 2 ^ 21)) ∧
    (Meets memDonateSpec (fun c s => c.reserved [(2, 0x3FFFF), (3, 0xFFFFF800)] = none ∧ 1 ≤ c.p 2 ∧ c.p 2 ≤ 131072 ∧ s.pgr.donations.length < 64 ∧ (c.p 0 + c.p 1 * 2 ^ 32) % 2 ^ 21 = 0)) ∧
    (Meets memRevokeSpec (fun c s => c.reserved [(0, 0x3F)] = none ∧ (lookup s.pgr.donations (c.p 0)).isSome = true ∧
        (let there := (s.pgr.pages.filter fun e => e.2.reserve.any fun h => (h.donPage (c.p 0)).isSome).map (·.1)
         let u : State := { s with pgr := { s.pgr with donations := insertKey s.pgr.donations (c.p 0) { lookupD s.pgr.donations (c.p 0) {} with revoking := true, pages := (s.donPages (c.p 0)).length } } }
         let v := ((u.cancelMoves there).reserveMoves State.takeHome there).2
         (s.donPages (c.p 0)).length ≤ v.freeLpd + v.freeDon))) ∧
    (Meets memPeerWindowSpec (fun c s => c.p 0 % 4 = 1 ∧ c.reserved [(0, 0x3F0003), (1, 0x1FFFF), (2, 0x1FFFF)] = none ∧
        (s.mem.grants.find? fun g => g.2.1 = c.p 1 && g.2.2 = c.p 2 && !s.mem.vacating.contains g.1).isSome = true ∧ s.windowTargets (c.p 1) (c.p 2) = false)) ∧
    (Meets bpmPoolCfgSpec (fun c s => c.reserved [(0, 1), (1, 0x1FFFFFFF), (2, 0x1FFFFFFF), (3, 0x1FFFFFFF), (4, 0x1FFFFFFF)] = none ∧ c.p 0 = 0 ∧ carveUnits [c.p 1, c.p 2, c.p 3, c.p 4] ≤ 375000)) ∧
    (Meets bpmSetQuotaSpec (fun c s => c.reserved [(0, 0x80000FFF), (1, 0xFFFF), (2, 0xFFFF), (3, 0x1FFFFFF)] = none ∧ requesterKnown (field (c.p 0) 11 0) = true ∧ 0x800 ≤ field (c.p 0) 11 0 ∧ bitAt (c.p 0) 31 = false ∧
        ({ s with bpm := { s.bpm with quotas := insertKey s.bpm.quotas (field (c.p 0) 11 0) ⟨c.p 1, c.p 2, c.p 3⟩ } } : State).minSum ≤ 23437)) ∧
    (∃ (requester : BitVec 12) (length : BitVec 17) (s : State), (s.mainOn = true) ∧ (requesterKnown requester.toNat = true)) ∧
    (∃ (mid : BitVec 13) (ptr : Word) (requester : BitVec 12) (holder : BitVec 12) (s : State), (s.mainOn = true) ∧ (midAssigned mid.toNat = true)) ∧
    (∃ (mid : BitVec 13) (ptr : Word) (requester : BitVec 12) (s : State), (s.mainOn = true) ∧ (midAssigned mid.toNat = true)) ∧
    (∃ (mid : BitVec 13) (ptr : Word) (requester : BitVec 12) (dest : BitVec 12) (s : State), (s.mainOn = true) ∧ (midAssigned mid.toNat = true)) ∧
    (∃ (mid : BitVec 13) (ptr : Word) (requester : BitVec 12) (holder : BitVec 12) (s : State), (s.mainOn = true) ∧ (midAssigned mid.toNat = false)) ∧
    (∃ (mid : BitVec 13) (ptr : Word) (requester : BitVec 12) (s : State), (s.mainOn = true) ∧ (midAssigned mid.toNat = true)) :=
  ⟨⟨{ adm with pgr := { ranges := [(0, (600, 1))] } }, entry 0x0310 [0x1000, 0, 2], by decide +kernel⟩,
   ⟨{ adm with pgr := { ranges := [(0, (600, 1))] } }, entry 0x0311 [0x1000, 0, 2], by decide +kernel⟩,
   ⟨{ adm with pgr := { ranges := [(0, (600, 1))] } }, entry 0x0312 [0x1000, 0, 2, 0], by decide +kernel⟩,
   ⟨{ adm with pgr := { ranges := [(0, (600, 1))] } }, entry 0x0312 [0x1000, 0, 2, 2], by decide +kernel⟩,
   ⟨adm, entry 0x0300 [0x200000, 0, 1, 0], by decide +kernel⟩,
   ⟨{ adm with pgr := { donations := [(2, { addr := 0x200000, size := 1 })] } }, entry 0x0301 [2], by decide +kernel⟩,
   ⟨{ adm with mem := { adm.mem with grants := [(4, (2000, 3))] } }, entry 0x0302 [1, 2000, 3], by decide +kernel⟩,
   ⟨adm, entry 0x0320 [0, 100, 100, 10, 10], by decide +kernel⟩,
   ⟨adm, entry 0x0321 [0x800, 1, 2, 3], by decide +kernel⟩,
   ⟨0x800, 1500, on, by decide +kernel⟩,
   ⟨0x800, 7, 0x800, 0x801, on, by decide +kernel⟩,
   ⟨0x800, 7, 0x800, on, by decide +kernel⟩,
   ⟨0x800, 7, 0x800, 0x801, on, by decide +kernel⟩,
   ⟨0x1004, 7, 0x800, 0x801, on, by decide +kernel⟩,
   ⟨0x800, 7, 0x800, on, by decide +kernel⟩⟩

/-- States and operands that meet what ParserCommands asks. -/
theorem witness_ParserCommands :
    (Meets prsGraphWriteSpec (fun c s => c.indirect = true ∧ c.reserved [(0, 0xC300FFFF)] = none ∧ field (c.p 0) 25 24 = 0 ∧ field (c.p 0) 7 0 = 0 ∧ field (c.p 0) 15 8 ≤ 254 ∧ 16 ≤ c.params.length)) ∧
    (Meets clsRuleWriteSpec (fun c s => c.reserved [(1, 0xFFFFFF00), (2, 0xF00FFFFF), (3, 0xFFFF0000)] = none ∧ c.p 0 ≠ 0xFFFFFFFF ∧ field (c.p 1) 15 14 = 2 ∧ field (c.p 2) 31 28 = 4 ∧ field (c.p 2) 19 0 = 0 ∧
        (s.ruleOf (c.p 0) 0 (some 2)).isSome = true ∧ c.fromManager = true ∧ ((List.range 16).find? fun i => !fits (wd ((c.params.drop 4).take 16) i) (wd ((c.params.drop 20).take 16) i)) = none)) ∧
    (Meets clsRuleDeleteSpec (fun c s => (s.ruleOf (c.p 0) c.target none).isSome = true)) ∧
    (Meets clsHashCfgSpec (fun c s => c.reserved [(0, 0x700001FF), (1, 0xFFFF), (2, 0x3F)] = none ∧ field (c.p 0) 30 29 ≠ 3)) ∧
    (Meets clsIndirWriteSpec (fun c s => c.reserved [(0, 0x07FF0FFF)] = none ∧ c.indirect = false ∧ field (c.p 0) 11 0 = 1 ∧ s.indirFault c.target (field (c.p 1) 15 0) = none)) ∧
    (Meets clsExcPolicerSpec (fun c s => c.reserved [(0, 0x7FF), (2, 0xFFFF)] = none ∧ 1000 ≤ c.p 1 ∧ c.p 1 ≤ 10000000 ∧ 1 ≤ c.p 2)) :=
  ⟨⟨adm, entryI 0x0500 [0x80000000], by decide +kernel⟩,
   ⟨{ adm with cls := { adm.cls with rules := [(7, { valid := true, seq := 0, owner := 0, priority := 1, stage := 2, profile := 0, kind := 4, value := 0, mark := 0, key := [], mask := [] })] } }, entryU 3 0x0510 [7, 0x8000, 0x40000000], by decide +kernel⟩,
   ⟨{ adm with cls := { adm.cls with rules := [(7, { valid := true, seq := 0, owner := 0, priority := 1, stage := 2, profile := 0, kind := 4, value := 0, mark := 0, key := [], mask := [] })] } }, entry 0x0511 [7], by decide +kernel⟩,
   ⟨adm, entry 0x0520 [0x1FF, 3, 1, 9], by decide +kernel⟩,
   ⟨adm, entry 0x0521 [0x00000001, 0x8005], by decide +kernel⟩,
   ⟨adm, entry 0x0530 [1, 5000, 10], by decide +kernel⟩⟩

/-- States and operands that meet what TableCommands asks. -/
theorem witness_TableCommands :
    (Meets tblCreateSpec (fun c s => c.reserved [(0, 0x80FF00FF), (1, 0xF81F0000), (4, 0xF000FFFF), (5, 0xFF)] = none ∧ c.p 0 % 256 ≠ 255 ∧ bitAt (c.p 0) 31 = false ∧ ({ words := c.params.take 6 } : EmTable).placement = 0 ∧
        ({ words := c.params.take 6 } : EmTable).keyClass ≠ 3 ∧ 10 ≤ ({ words := c.params.take 6 } : EmTable).log2 ∧ ({ words := c.params.take 6 } : EmTable).log2 ≤ 21 ∧
        c.p 2 ≠ c.p 3 ∧ field (c.p 4) 31 28 ≤ 2 ∧ c.p 5 = 0 ∧ (s.table (c.p 0 % 256)).state = .free ∧ s.capacityOver (c.params.take 6) = false)) ∧
    (∃ (n : BitVec 8) (s : State), ((s.table n.toNat).state = .copying)) ∧
    (Meets tblDestroySpec (fun c s => c.reserved [(0, 0xFF)] = none ∧ (s.table (c.p 0)).state = .live ∧ (s.table (c.p 0)).partner = 0xFF ∧ s.tableNamed (c.p 0) = false)) ∧
    (Meets tblInsertSpec (fun c s => c.indirect = false ∧ fits (c.p 0) 0xFF = true ∧ c.p 1 = 0x3FFFFFFF ∧ fits (c.p 2) 0x7800FFFF = true ∧ field (c.p 2) 30 27 ≠ 14 ∧ (s.table (c.p 0)).state = .live ∧ (s.table (c.p 0)).partner = 0xFF ∧ c.fromManager = true ∧ (s.table (c.p 0)).flush = none ∧ keyTail (s.table (c.p 0)) c.params = none ∧ s.emAllows c.target = none)) ∧
    (Meets tblDeleteSpec (fun c s => c.indirect = false ∧ fits (c.p 0) 0x800000FF = true ∧ bitAt (c.p 0) 31 = true ∧ (s.table (c.p 0 % 256)).state = .live ∧ c.fromManager = true ∧ c.p 1 < (s.table (c.p 0 % 256)).capacity ∧ (lookup (s.table (c.p 0 % 256)).entries (c.p 1)).isSome = true)) ∧
    (Meets tblSearchSpec (fun c s => c.reserved [(0, 0xFF)] = none ∧ (s.table (c.p 0)).state = .live ∧ c.fromManager = true ∧ keyTail (s.table (c.p 0)) c.params = none ∧
        (((s.table (c.p 0)).find c.target (recKey (s.table (c.p 0)) c.params)).bind (lookup (s.table (c.p 0)).entries ·)).any (·.owner = c.target) = true)) ∧
    (Meets tblNextSpec (fun c s => c.reserved [(0, 0xFF)] = none ∧ (s.table (c.p 0)).state = .live ∧ c.fromManager = true ∧ ((s.table (c.p 0)).entries.find? fun e => e.1 ≥ c.p 1 && !e.2.parityBad && (c.fromManager || e.2.owner = c.target)).isSome = true)) ∧
    (Meets tblFlushPortSpec (fun c s => c.reserved [(0, 0x800000FF), (1, 0xF)] = none ∧ (s.table (c.p 0 % 256)).state = .live ∧ s.firstRefused [tblClaim (c.p 0 % 256) 0x02 c.mid] = none)) ∧
    (∃ (n : BitVec 8) (port : Nat) (s : State), ((s.table n.toNat).flush = some (port, none))) ∧
    (Meets tblShadowSwitchSpec (fun c s => c.reserved [(0, 0xFF)] = none ∧ (s.table (c.p 0)).state = .ready)) :=
  ⟨⟨adm, entry 0x0400 [3, 0x000A0000, 1, 2, 0, 0], by decide +kernel⟩,
   ⟨3, { adm with tbl := { tables := [(3, { state := .copying, partner := 4, words := [w32 3, w32 0x000A0000, w32 1, w32 2, 0#32, 0#32] })] } }, by decide +kernel⟩,
   ⟨{ adm with tbl := { tables := [(3, { state := .live, words := [w32 3, w32 0x000A0000, w32 1, w32 2, 0#32, 0#32] })] } }, entry 0x0401 [3], by decide +kernel⟩,
   ⟨{ adm with tbl := { tables := [(3, { state := .live, words := [w32 3, w32 0x000A0000, w32 1, w32 2, 0#32, 0#32] })] } }, entry 0x0410 [3, 0x3FFFFFFF, 0x10000001, 7], by decide +kernel⟩,
   ⟨{ adm with tbl := { tables := [(3, { state := .live, entries := [(9, { statePage := 0x3FFFFFFF, port := 2, owner := 0, action := 1, hit := true, key := [] })], words := [w32 3, w32 0x000A0000, w32 1, w32 2, 0#32, 0#32] })] } }, entry 0x0411 [0x80000003, 9], by decide +kernel⟩,
   ⟨(match ({ adm with tbl := { tables := [(3, { state := .live, words := [w32 3, w32 0x000A0000, w32 1, w32 2, 0#32, 0#32] })] } } : State).emInsert 3 0 true ([3, 0x3FFFFFFF, 0x10000001, 7].map w32) with | .ok t _ => t | .bad t _ _ _ => t), entry 0x0412 [3, 0, 0, 7], by decide +kernel⟩,
   ⟨{ adm with tbl := { tables := [(3, { state := .live, entries := [(9, { statePage := 0x3FFFFFFF, port := 2, owner := 0, action := 1, hit := true, key := [] })], words := [w32 3, w32 0x000A0000, w32 1, w32 2, 0#32, 0#32] })] } }, entry 0x0413 [3, 2], by decide +kernel⟩,
   ⟨{ adm with tbl := { tables := [(3, { state := .live, words := [w32 3, w32 0x000A0000, w32 1, w32 2, 0#32, 0#32] })] } }, entry 0x0414 [0x80000003, 2], by decide +kernel⟩,
   ⟨3, 2, { adm with tbl := { tables := [(3, { state := .live, flush := some (2, none), entries := [(9, { statePage := 0x3FFFFFFF, port := 2, owner := 0, action := 1, hit := true, key := [] })], words := [w32 3, w32 0x000A0000, w32 1, w32 2, 0#32, 0#32] })] } }, by decide +kernel⟩,
   ⟨{ adm with tbl := { tables := [(3, { state := .ready, partner := 4, words := [w32 3, w32 0x000A0000, w32 1, w32 2, 0#32, 0#32] })] } }, entry 0x0415 [3], by decide +kernel⟩⟩

/-- States and operands that meet what RouteCommands asks. -/
theorem witness_RouteCommands :
    (Meets lpmAddSpec (fun c s => c.indirect = false ∧ routeBad (c.p 1) = false ∧ (s.prefixFault c.params false).isNone = true ∧ (s.vrf (recPrefix c.params).vrf).enable = true ∧
        s.prefixCount (some (recPrefix c.params).vrf) (recPrefix c.params).v6 < (if (recPrefix c.params).v6 then (s.vrf (recPrefix c.params).vrf).v6Max else (s.vrf (recPrefix c.params).vrf).v4Max) ∧
        s.prefixCount none (recPrefix c.params).v6 < (if (recPrefix c.params).v6 then 1048576 else 2097152))) ∧
    (Meets lpmDeleteSpec (fun c s => c.p 1 = 0 ∧ (s.prefixFault c.params false).isNone = true ∧ s.tbl.prefixes.any (samePrefix (recPrefix c.params)) = true)) ∧
    (Meets lpmVrfCfgSpec (fun c s => c.reserved [(0, 0xC0000FFF), (1, 0x3FFFFF), (2, 0x1FFFFF)] = none ∧ c.p 1 ≤ 2097152 ∧ c.p 2 ≤ 1048576 ∧ routeBad (c.p 3) = false ∧ bitAt (c.p 0) 31 = true ∧ bitAt (c.p 0) 30 = false ∧
        s.prefixCount (some (c.p 0 % 2 ^ 12)) false ≤ c.p 1 ∧ s.prefixCount (some (c.p 0 % 2 ^ 12)) true ≤ c.p 2)) ∧
    (∃ (n : BitVec 12) (s : State), ((s.vrf n.toNat).flushing = true)) ∧
    (Meets learnCfgSpec (fun c s => c.reserved [(0, 0x800000FF), (1, 0xFFFF), (3, 0xFFFF), (4, 0xFFFF)] = none ∧ 1000 ≤ c.p 2 ∧ c.p 2 ≤ 10000000 ∧ 1 ≤ c.p 3 ∧ (s.table (c.p 0 % 256)).state = .live ∧
        (s.findQ 0 (c.p 1)).any (fun q => (s.q q).state = 1 && (s.q q).type = 5) = true)) ∧
    (∃ (n : BitVec 8) (s : State), ((s.table n.toNat).state = .live) ∧ ((s.table n.toNat).learn.waits = false)) ∧
    (∃ (n : BitVec 8) (s : State), ((s.table n.toNat).state = .live) ∧ ((s.table n.toNat).learn.enable = true) ∧ ((s.table n.toNat).learn.age ≠ 0) ∧ (lookup (s.table n.toNat).entries (s.table n.toNat).learn.scan = none)) ∧
    (∃ (mid : BitVec 13) (n : BitVec 8) (s : State), (s.gate mid.toNat (R.TBL_SEL) false = .open_)) :=
  ⟨⟨{ adm with tbl := { tables := [(3, { state := .live, words := [w32 3, w32 0x000A0000, w32 1, w32 2, 0#32, 0#32] })], vrfs := [(2, { enable := true, v4Max := 10, v6Max := 10 })] } }, entry 0x0420 [0x00080002, 5, 10], by decide +kernel⟩,
   ⟨{ adm with tbl := { tables := [(3, { state := .live, words := [w32 3, w32 0x000A0000, w32 1, w32 2, 0#32, 0#32] })], vrfs := [(2, { enable := true, v4Max := 10, v6Max := 10 })], prefixes := [recPrefix [w32 0x00080002, w32 5, w32 10]] } }, entry 0x0421 [0x00080002, 0, 10], by decide +kernel⟩,
   ⟨adm, entry 0x0422 [0x80000002, 10, 10, 0x20000000], by decide +kernel⟩,
   ⟨2, { adm with tbl := { tables := [(3, { state := .live, words := [w32 3, w32 0x000A0000, w32 1, w32 2, 0#32, 0#32] })], vrfs := [(2, { flushing := true })] } }, by decide +kernel⟩,
   ⟨{ { adm with queues := [(7, { state := 1, type := 1, iid := 0, loc := 0, sizeLog2 := 6, pi := 8 }), (8, { type := 5, state := 1, iid := 0, loc := 8, sizeLog2 := 6, pi := 1, evq := 9 }), (9, { type := 6, state := 1, iid := 0, loc := 9, sizeLog2 := 6, vector := 3 })] } with tbl := { tables := [(3, { state := .live, words := [w32 3, w32 0x000A0000, w32 1, w32 2, 0#32, 0#32] })] } }, entry 0x0430 [0x80000003, 8, 1000, 5, 5], by decide +kernel⟩,
   ⟨3, { adm with tbl := { tables := [(3, { state := .live, words := [w32 3, w32 0x000A0000, w32 1, w32 2, 0#32, 0#32] })] } }, by decide +kernel⟩,
   ⟨3, { adm with tbl := { tables := [(3, { state := .live, learn := { enable := true, age := 5 }, words := [w32 3, w32 0x000A0000, w32 1, w32 2, 0#32, 0#32] })] } }, by decide +kernel⟩,
   ⟨0, 3, on, by decide +kernel⟩⟩

/-- States and operands that meet what SwitchCommands asks. -/
theorem witness_SwitchCommands :
    (Meets swxActionWriteSpec (fun c s => c.reserved [(0, 0x8100FFFF)] = none ∧ bitAt (c.p 0) 31 = false ∧ bitAt (c.p 0) 24 = false ∧ (s.listFault (listActs (c.params.drop 1))).isNone = true ∧ endBad (c.params.drop 1) = none)) ∧
    (Meets swxActionWriteSpec (fun c s => c.reserved [(0, 0x8100FFFF)] = none ∧ bitAt (c.p 0) 31 = true ∧ bitAt (c.p 0) 24 = false ∧ (lookup s.swx.lists (c.p 0 % 2 ^ 16)).isSome = true ∧ s.listReferenced (c.p 0 % 2 ^ 16) = false)) ∧
    (Meets swxTunnelCfgSpec (fun c s => c.reserved [(0, 0x80000FFF)] = none ∧ bitAt (c.p 0) 31 = true ∧ (lookup s.swx.tunnels (c.p 0 % 2 ^ 12)).isSome = true ∧ s.tunnelReferenced (c.p 0 % 2 ^ 12) = false)) ∧
    (Meets swxTunnelCfgSpec (fun c s => c.reserved [(0, 0x80000FFF)] = none ∧ bitAt (c.p 0) 31 = false ∧ c.reserved [(1, 0xFFFFFF80), (16, 0xFFFF), (25, 0xF)] = none ∧ field (c.p 1) 31 28 = 3 ∧ field (c.p 1) 23 16 ≠ 0 ∧ c.p 25 ≤ 8)) ∧
    (Meets swxMirrorCfgSpec (fun c s => c.reserved [(0, 0x8000001F)] = none ∧ bitAt (c.p 0) 31 = false ∧ c.reserved [(1, 0xC7FFFFFF), (2, 0xFFFF3FFF), (3, 0xFFFFFF)] = none ∧ field (c.p 1) 31 30 = 1 ∧
        field (c.p 2) 13 0 = 0 ∧ field (c.p 2) 27 16 = 0xFFF)) ∧
    (Meets swxPolicerCfgSpec (fun c s => c.reserved [(0, 0xC0003FFF)] = none ∧ bitAt (c.p 0) 31 = true ∧ (lookup s.swx.policers (c.p 0 % 2 ^ 14)).isSome = true ∧ s.listNames (fun a => a.op = 0x48 && a.a = c.p 0 % 2 ^ 14) = false)) ∧
    (Meets swxPolicerCfgSpec (fun c s => c.reserved [(0, 0xC0003FFF)] = none ∧ bitAt (c.p 0) 31 = false ∧ bitAt (c.p 0) 30 = false ∧ c.reserved [(5, 0x7F33)] = none ∧ c.p 5 = 0 ∧ 64 ≤ c.p 1 ∧ c.p 1 ≤ c.p 2 ∧ c.p 2 ≤ 1600000000 ∧
        64 ≤ c.p 3 ∧ c.p 3 ≤ 2 ^ 24 ∧ 64 ≤ c.p 4 ∧ c.p 4 ≤ 2 ^ 24 ∧ lookup s.swx.policers (c.p 0 % 2 ^ 14) = none)) ∧
    (∃ (mid : BitVec 13) (k : BitVec 18) (clear : Bool) (s : State), (s.gate mid.toNat (R.SWX_CNT_SEL) false = .open_)) :=
  ⟨⟨adm, entryU 3 0x0600 [7, 0x14000000], by decide +kernel⟩,
   ⟨{ adm with swx := { lists := [(7, (0, []))] } }, entry 0x0600 [0x80000007], by decide +kernel⟩,
   ⟨{ adm with swx := { tunnels := [(7, [])] } }, entry 0x0610 [0x80000007], by decide +kernel⟩,
   ⟨adm, entry 0x0610 [7, 0x30010000], by decide +kernel⟩,
   ⟨adm, entry 0x0620 [7, 0x40000000, 0x0FFF0000, 1], by decide +kernel⟩,
   ⟨(adm.setPolicer 7 { cir := 1, pir := 1, cbs := 1, pbs := 1, overhead := 0, red := 0, yellow := 0, c := 0, p := 0, nextCir := 1, nextPir := 1 }), entry 0x0630 [0x80000007], by decide +kernel⟩,
   ⟨adm, entry 0x0630 [7, 100, 200, 1000, 1000, 0], by decide +kernel⟩,
   ⟨0, 7, true, on, by decide +kernel⟩⟩

/-- States and operands that meet what SaffronCommands asks. -/
theorem witness_SaffronCommands :
    (Meets safRootKeyLoadSpec (fun c s => c.reserved [(0, 0xC0003F3F)] = none ∧ bitAt (c.p 0) 31 = true ∧ s.rootUsed (field (c.p 0) 5 0) = false)) ∧
    (Meets safRootKeyLoadSpec (fun c s => c.reserved [(0, 0xC0003F3F)] = none ∧ bitAt (c.p 0) 31 = false ∧ bitAt (c.p 0) 30 = false ∧ s.rootUsed (field (c.p 0) 5 0) = false ∧ s.mode = 1)) ∧
    (Meets safAssocCreateSpec (fun c s => c.reserved [(0, 0xBFFFF0FF)] = none ∧ field (c.p 0) 7 0 ≤ 64 ∧ (s.rootKey (safRoot (newAssoc c (s.inst c.target).gen))).isSome = true ∧
        safPair (safProto (newAssoc c (s.inst c.target).gen)) (safAlg (newAssoc c (s.inst c.target).gen)) = true ∧ keyFault (newAssoc c (s.inst c.target).gen) c = none ∧ bitAt (c.p 0) 15 = false ∧
        s.poolAllows c.target 9 1 = none)) ∧
    (Meets safAssocRekeySpec (fun c s => c.reserved [(0, 0x070FFFFF)] = none ∧ s.ownsAssoc c (field (c.p 0) 19 0) = true ∧ safProto (s.assoc (field (c.p 0) 19 0)) = 3 ∧ bitAt (c.p 0) 24 = true ∧ bitAt (c.p 0) 25 = false)) ∧
    (Meets safAssocDestroySpec (fun c s => c.reserved [(0, 0xFFFFF)] = none ∧ s.ownsAssoc c (c.p 0) = true ∧ s.assocUsed (c.p 0) = false)) ∧
    (Meets safOpkeyEnrolSpec (fun c s => c.reserved [(0, 7)] = none ∧ 1 ≤ c.p 0 ∧ c.p 0 ≤ 4)) ∧
    (Meets safOpkeyRevokeSpec (fun c s => c.reserved [(0, 7)] = none ∧ 1 ≤ c.p 0 ∧ c.p 0 ≤ 4)) ∧
    (∃ (mid : BitVec 13) (assoc : BitVec 20) (s : State), (s.gate mid.toNat (R.SAF_ASSOC_SEL) false = .open_)) :=
  ⟨⟨{ adm with saf := { roots := [(2, [])] } }, entry 0x0900 [0x80000002], by decide +kernel⟩,
   ⟨(adm.setF F.GLB_MODE_mode 1), entry 0x0900 [2, 1, 2, 3, 4, 5, 6, 7, 8], by decide +kernel⟩,
   ⟨{ adm with saf := { roots := [(2, [])] } }, entry 0x0910 [0x18020000], by decide +kernel⟩,
   ⟨{ adm with saf := { assocs := [(5, [w32 0x98020000, w32 0x4000] ++ List.replicate 62 0#32)], roots := [(2, [])] } }, entry 0x0911 [0x01000005], by decide +kernel⟩,
   ⟨{ adm with saf := { assocs := [(5, [w32 0x98020000, w32 0x4000] ++ List.replicate 62 0#32)] } }, entry 0x0912 [5], by decide +kernel⟩,
   ⟨adm, entry 0x0920 [2, 9], by decide +kernel⟩,
   ⟨adm, entry 0x0921 [2], by decide +kernel⟩,
   ⟨0, 5, on, by decide +kernel⟩⟩

/-- States and operands that meet what PacketInstructions asks. -/
theorem witness_PacketInstructions :
    (∃ (k : Fin 16) (n : BitVec 7) (w : Nat) (len : Nat) (bs : List Byte) (s : State), (s.runs k.val n.toNat .pktLwbe w len = true) ∧ (s.windowRead k.val n.toNat (s.rs1 k.val n.toNat w) 4 = some bs)) ∧
    (∃ (k : Fin 16) (n : BitVec 7) (w : Nat) (len : Nat) (s : State), (s.runs k.val n.toNat .pktLwbe w len = true) ∧ (s.windowRead k.val n.toNat (s.rs1 k.val n.toNat w) 4 = none)) ∧
    (∃ (k : Fin 16) (n : BitVec 7) (w : Nat) (len : Nat) (p : Pkt) (d : Nat) (s : State), (s.runs k.val n.toNat .pktHead w len = true) ∧ ((s.th k.val n.toNat).frame = some p) ∧ (rvInt (s.rs1 k.val n.toNat w) = -(d : Int)) ∧ (1 ≤ d) ∧ (d + 14 ≤ p.data.length)) ∧
    (∃ (k : Fin 16) (n : BitVec 7) (w : Nat) (len : Nat) (p : Pkt) (d : Nat) (h : Nat) (s : State), (s.runs k.val n.toNat .pktHead w len = true) ∧ ((s.th k.val n.toNat).frame = some p) ∧ (rvInt (s.rs1 k.val n.toNat w) = (d : Int)) ∧ (1 ≤ d) ∧ (p.prepended + d ≤ 256) ∧ (p.headBuf = some h)) ∧
    (∃ (k : Fin 16) (n : BitVec 7) (w : Nat) (len : Nat) (p : Pkt) (s : State), (s.runs k.val n.toNat .pktHead w len = true) ∧ ((s.th k.val n.toNat).frame = some p) ∧ (rvInt (s.rs1 k.val n.toNat w) < 0) ∧ (rvInt (s.rs1 k.val n.toNat w) + p.data.length < 14)) ∧
    (∃ (k : Fin 16) (n : BitVec 7) (w : Nat) (len : Nat) (p : Pkt) (s : State), (s.runs k.val n.toNat .pktLen w len = true) ∧ ((s.th k.val n.toNat).frame = some p) ∧ (14 ≤ s.rs1 k.val n.toNat w) ∧ (s.rs1 k.val n.toNat w ≤ classBytes (ptrClass p.ptr) + p.prepended)) ∧
    (∃ (k : Fin 16) (n : BitVec 7) (w : Nat) (len : Nat) (p : Pkt) (s : State), (s.runs k.val n.toNat .pktLen w len = true) ∧ ((s.th k.val n.toNat).frame = some p) ∧ (s.rs1 k.val n.toNat w < 14 ∨ classBytes (ptrClass p.ptr) + p.prepended < s.rs1 k.val n.toNat w)) ∧
    (∃ (k : Fin 16) (n : BitVec 7) (w : Nat) (len : Nat) (p : Pkt) (s : State), (s.runs k.val n.toNat .pktEmit w len = true) ∧ ((s.th k.val n.toNat).frame = some p) ∧ (s.descWord k.val n.toNat 9 = p.ptr) ∧ (14 ≤ s.descWord k.val n.toNat 8 % 2 ^ 16) ∧ (s.descWord k.val n.toNat 8 % 2 ^ 16 ≤ p.data.length) ∧ (bitAt (s.rs1 k.val n.toNat w) 31 = true ∨ field (s.rs1 k.val n.toNat w) 19 16 ≤ 13)) ∧
    (∃ (k : Fin 16) (n : BitVec 7) (w : Nat) (len : Nat) (p : Pkt) (s : State), (s.runs k.val n.toNat .pktEmit w len = true) ∧ ((s.th k.val n.toNat).frame = some p) ∧ (s.descWord k.val n.toNat 9 = p.ptr) ∧ (14 ≤ s.descWord k.val n.toNat 8 % 2 ^ 16) ∧ (s.descWord k.val n.toNat 8 % 2 ^ 16 ≤ p.data.length) ∧ (bitAt (s.rs1 k.val n.toNat w) 31 = false) ∧ (14 ≤ field (s.rs1 k.val n.toNat w) 19 16)) ∧
    (∃ (k : Fin 16) (n : BitVec 7) (w : Nat) (len : Nat) (s : State), (s.runs k.val n.toNat .pktDrop w len = true) ∧ ((s.th k.val n.toNat).frame.isSome = true)) ∧
    (∃ (k : Fin 16) (n : BitVec 7) (w : Nat) (len : Nat) (b : Buf) (s : State), (s.runs k.val n.toNat .pktNew w len = true) ∧ ((s.th k.val n.toNat).frame = none) ∧ (14 ≤ s.rs2 k.val n.toNat w) ∧ (s.rs2 k.val n.toNat w ≤ classBytes (ptrClass (s.rs1 k.val n.toNat w))) ∧ (s.ptrFault (s.rs1 k.val n.toNat w) (clvReq k.val) false true = none) ∧ (lookup s.bpm.bufs (s.rs1 k.val n.toNat w) = some b) ∧ (b.holders = []) ∧ (ptrTier (s.rs1 k.val n.toNat w) = 0)) ∧
    (∃ (k : Fin 16) (n : BitVec 7) (w : Nat) (len : Nat) (s : State), (s.runs k.val n.toNat .pktNew w len = true) ∧ ((s.th k.val n.toNat).frame.isSome = true ∨ s.rs2 k.val n.toNat w < 14 ∨ classBytes (ptrClass (s.rs1 k.val n.toNat w)) < s.rs2 k.val n.toNat w)) :=
  ⟨⟨0, 1, ext 0 0 true true false, 4, [1, 1, 1, 1], (thr 1 (ext 0 0 true true false) { x := xs (4) (0), frame := some { ptr := 0, data := List.replicate 64 1#8 } } {}), by decide +kernel⟩,
   ⟨0, 1, ext 0 0 true true false, 4, (thr 1 (ext 0 0 true true false) { x := xs (4) (0) } {}), by decide +kernel⟩,
   ⟨0, 1, ext 0 1 false true false, 4, { ptr := 0, data := List.replicate 64 1#8 }, 4, (thr 1 (ext 0 1 false true false) { x := xs (2 ^ 32 - 4) (0), frame := some { ptr := 0, data := List.replicate 64 1#8 } } {}), by decide +kernel⟩,
   ⟨0, 1, ext 0 1 false true false, 4, { ptr := 0, data := List.replicate 64 1#8, prepended := 4, headBuf := some 1 }, 4, 1, (thr 1 (ext 0 1 false true false) { x := xs (4) (0), frame := some { ptr := 0, data := List.replicate 64 1#8, prepended := 4, headBuf := some 1 } } {}), by decide +kernel⟩,
   ⟨0, 1, ext 0 1 false true false, 4, { ptr := 0, data := List.replicate 64 1#8 }, (thr 1 (ext 0 1 false true false) { x := xs (2 ^ 32 - 60) (0), frame := some { ptr := 0, data := List.replicate 64 1#8 } } {}), by decide +kernel⟩,
   ⟨0, 1, ext 0 2 false true false, 4, { ptr := 0, data := List.replicate 64 1#8 }, (thr 1 (ext 0 2 false true false) { x := xs (100) (0), frame := some { ptr := 0, data := List.replicate 64 1#8 } } {}), by decide +kernel⟩,
   ⟨0, 1, ext 0 2 false true false, 4, { ptr := 0, data := List.replicate 64 1#8 }, (thr 1 (ext 0 2 false true false) { x := xs (13) (0), frame := some { ptr := 0, data := List.replicate 64 1#8 } } {}), by decide +kernel⟩,
   ⟨0, 1, ext 0 3 false true false, 4, { ptr := 0, data := List.replicate 64 1#8 }, (thr 1 (ext 0 3 false true false) { x := xs (0x80000000) (0), frame := some { ptr := 0, data := List.replicate 64 1#8 } } { mem := [(localOff 1 (0x80000 + 32768 + 32), 64)] }), by decide +kernel⟩,
   ⟨0, 1, ext 0 3 false true false, 4, { ptr := 0, data := List.replicate 64 1#8 }, (thr 1 (ext 0 3 false true false) { x := xs (0xE0000) (0), frame := some { ptr := 0, data := List.replicate 64 1#8 } } { mem := [(localOff 1 (0x80000 + 32768 + 32), 64)] }), by decide +kernel⟩,
   ⟨0, 1, ext 0 4 false false false, 4, (thr 1 (ext 0 4 false false false) { frame := some { ptr := 0, data := List.replicate 64 1#8 } } {}), by decide +kernel⟩,
   ⟨0, 1, ext 0 5 false true true, 4, { owner := some 0x810, charge := 0x810 }, (owning (thr 1 (ext 0 5 false true true) { x := xs (0) (64) } {})), by decide +kernel⟩,
   ⟨0, 1, ext 0 5 false true true, 4, (thr 1 (ext 0 5 false true true) { x := xs (0) (13) } {}), by decide +kernel⟩⟩

/-- States and operands that meet what TableInstructions asks. -/
theorem witness_TableInstructions :
    (∃ (k : Fin 16) (n : BitVec 7) (w : Nat) (len : Nat) (s : State), (s.runs k.val n.toNat .tblEm w len = true) ∧ ((s.rs1 k.val n.toNat w) % 64 = 0) ∧ ((s.cl k.val).inSlice n.toNat (s.rs1 k.val n.toNat w) 72 = true) ∧ ((s.table (s.rs2 k.val n.toNat w % 256)).state ≠ .live)) ∧
    (∃ (k : Fin 16) (n : BitVec 7) (w : Nat) (len : Nat) (s : State), (s.runs k.val n.toNat .tblEm w len = true) ∧ ((s.rs1 k.val n.toNat w) % 64 = 0) ∧ ((s.cl k.val).inSlice n.toNat (s.rs1 k.val n.toNat w) 72 = true) ∧ ((s.table (s.rs2 k.val n.toNat w % 256)).state = .live)) ∧
    (∃ (k : Fin 16) (n : BitVec 7) (w : Nat) (len : Nat) (s : State), (s.runs k.val n.toNat .tblEm w len = true) ∧ ((s.rs1 k.val n.toNat w) % 64 ≠ 0 ∨ (s.cl k.val).inSlice n.toNat (s.rs1 k.val n.toNat w) 72 = false)) ∧
    (∃ (k : Fin 16) (n : BitVec 7) (w : Nat) (len : Nat) (s : State), (s.runs k.val n.toNat .tblLpm w len = true) ∧ ((s.cl k.val).inSlice n.toNat (s.rs1 k.val n.toNat w) 16 = true)) ∧
    (∃ (k : Fin 16) (n : BitVec 7) (w : Nat) (len : Nat) (s : State), (s.runs k.val n.toNat .pgrPage w len = true)) ∧
    (∃ (k : Fin 16) (n : BitVec 7) (w : Nat) (len : Nat) (u : State) (s : State), (s.runs k.val n.toNat .pgrLw w len = true) ∧ ((s.rs1 k.val n.toNat w) % 4 = 0) ∧ (s.reach (s.clvSsid k.val n.toNat) ((s.th k.val n.toNat).spage * 4096 + s.rs1 k.val n.toNat w % 4096) false = (none, u))) ∧
    (∃ (k : Fin 16) (n : BitVec 7) (w : Nat) (len : Nat) (s : State), (s.runs k.val n.toNat .pgrLw w len = true) ∧ ((s.rs1 k.val n.toNat w) % 4 ≠ 0)) ∧
    (∃ (k : Fin 16) (n : BitVec 7) (w : Nat) (len : Nat) (e : Nat) (u : State) (s : State), (s.runs k.val n.toNat .pgrLw w len = true) ∧ ((s.rs1 k.val n.toNat w) % 4 = 0) ∧ (s.reach (s.clvSsid k.val n.toNat) ((s.th k.val n.toNat).spage * 4096 + s.rs1 k.val n.toNat w % 4096) false = (some e, u))) ∧
    (∃ (k : Fin 16) (n : BitVec 7) (w : Nat) (len : Nat) (u : State) (v : State) (s : State), (s.runs k.val n.toNat .pgrSw w len = true) ∧ ((s.rs1 k.val n.toNat w) % 4 = 0) ∧ (s.reach (s.clvSsid k.val n.toNat) ((s.th k.val n.toNat).spage * 4096 + s.rs1 k.val n.toNat w % 4096) false = (none, u)) ∧ (u.reach (s.clvSsid k.val n.toNat) ((s.th k.val n.toNat).spage * 4096 + s.rs1 k.val n.toNat w % 4096) true = (none, v))) ∧
    (∃ (k : Fin 16) (n : BitVec 7) (w : Nat) (len : Nat) (u : State) (v : State) (s : State), (s.runs k.val n.toNat .pgrAmoadd w len = true) ∧ ((s.rs1 k.val n.toNat w) % 4 = 0) ∧ (s.reach (s.clvSsid k.val n.toNat) ((s.th k.val n.toNat).spage * 4096 + s.rs1 k.val n.toNat w % 4096) false = (none, u)) ∧ (u.reach (s.clvSsid k.val n.toNat) ((s.th k.val n.toNat).spage * 4096 + s.rs1 k.val n.toNat w % 4096) true = (none, v))) ∧
    (∃ (k : Fin 16) (n : BitVec 7) (w : Nat) (len : Nat) (u : State) (v : State) (s : State), (s.runs k.val n.toNat .pgrAmoswap w len = true) ∧ ((s.rs1 k.val n.toNat w) % 4 = 0) ∧ (s.reach (s.clvSsid k.val n.toNat) ((s.th k.val n.toNat).spage * 4096 + s.rs1 k.val n.toNat w % 4096) false = (none, u)) ∧ (u.reach (s.clvSsid k.val n.toNat) ((s.th k.val n.toNat).spage * 4096 + s.rs1 k.val n.toNat w % 4096) true = (none, v))) ∧
    (∃ (k : Fin 16) (n : BitVec 7) (w : Nat) (len : Nat) (s : State), (s.runs k.val n.toNat .pgrPref w len = true) ∧ (s.rangeFault (s.clvSsid k.val n.toNat) (s.rs1 k.val n.toNat w % 2 ^ 30 * 4096) = none) ∧ ((s.page (s.pageKey (s.clvSsid k.val n.toNat) (s.rs1 k.val n.toNat w % 2 ^ 30))).settled = false)) ∧
    (∃ (k : Fin 16) (n : BitVec 7) (w : Nat) (len : Nat) (s : State), (s.runs k.val n.toNat .pgrPref w len = true) ∧ ((s.rangeFault (s.clvSsid k.val n.toNat) (s.rs1 k.val n.toNat w % 2 ^ 30 * 4096)).isSome = true)) :=
  ⟨⟨0, 1, ext 1 0 true true true, 4, (thr 1 (ext 1 0 true true true) { x := xs (557056) (3) } {}), by decide +kernel⟩,
   ⟨0, 1, ext 1 0 true true true, 4, (State.setTable (thr 1 (ext 1 0 true true true) { x := xs (557056) (3) } {}) 3 { state := .live, words := [w32 3, w32 0x000A0000, w32 1, w32 2, 0#32, 0#32] }), by decide +kernel⟩,
   ⟨0, 1, ext 1 0 true true true, 4, (thr 1 (ext 1 0 true true true) { x := xs (557060) (3) } {}), by decide +kernel⟩,
   ⟨0, 1, ext 1 1 true true true, 4, (thr 1 (ext 1 1 true true true) { x := xs (557056) (3) } {}), by decide +kernel⟩,
   ⟨0, 1, ext 1 2 false true false, 4, (thr 1 (ext 1 2 false true false) { x := xs (5) (3) } {}), by decide +kernel⟩,
   ⟨0, 1, ext 1 3 true true false, 4, ((pgrSt 3).reach 0 8 false).2, (pgrSt 3), by decide +kernel⟩,
   ⟨0, 1, ext 1 3 true true false, 4, (thr 1 (ext 1 3 true true false) { x := xs (6) (0) } {}), by decide +kernel⟩,
   ⟨0, 1, ext 1 3 true true false, 4, 1, ((thr 1 (ext 1 3 true true false) { x := xs (8) (0) }).reach 0 8 false).2, (thr 1 (ext 1 3 true true false) { x := xs (8) (0) } {}), by decide +kernel⟩,
   ⟨0, 1, ext 1 4 false true true, 4, ((pgrSt 4).reach 0 8 false).2, (((pgrSt 4).reach 0 8 false).2.reach 0 8 true).2, (pgrSt 4), by decide +kernel⟩,
   ⟨0, 1, ext 1 5 true true true, 4, ((pgrSt 5).reach 0 8 false).2, (((pgrSt 5).reach 0 8 false).2.reach 0 8 true).2, (pgrSt 5), by decide +kernel⟩,
   ⟨0, 1, ext 1 6 true true true, 4, ((pgrSt 6).reach 0 8 false).2, (((pgrSt 6).reach 0 8 false).2.reach 0 8 true).2, (pgrSt 6), by decide +kernel⟩,
   ⟨0, 1, ext 1 7 false true false, 4, (pgrSt 7), by decide +kernel⟩,
   ⟨0, 1, ext 1 7 false true false, 4, (thr 1 (ext 1 7 false true false) { x := xs (2 ^ 30 - 1) (0) } {}), by decide +kernel⟩⟩

/-- States and operands that meet what ThreadInstructions asks. -/
theorem witness_ThreadInstructions :
    (∃ (k : Fin 16) (n : BitVec 7) (w : Nat) (len : Nat) (s : State), (s.runs k.val n.toNat .msgLock w len = true) ∧ ((s.msg k.val (s.rs1 k.val n.toNat w % 64)).locked = false)) ∧
    (∃ (k : Fin 16) (n : BitVec 7) (w : Nat) (len : Nat) (s : State), (s.runs k.val n.toNat .msgLock w len = true) ∧ ((s.msg k.val (s.rs1 k.val n.toNat w % 64)).locked = true)) ∧
    (∃ (k : Fin 16) (n : BitVec 7) (w : Nat) (len : Nat) (s : State), (s.runs k.val n.toNat .msgUnlock w len = true) ∧ (s.holdsMsg k.val n.toNat (s.rs1 k.val n.toNat w % 64) = true)) ∧
    (∃ (k : Fin 16) (n : BitVec 7) (w : Nat) (len : Nat) (s : State), (s.runs k.val n.toNat .msgUnlock w len = true) ∧ (s.holdsMsg k.val n.toNat (s.rs1 k.val n.toNat w % 64) = false)) ∧
    (∃ (k : Fin 16) (n : BitVec 7) (w : Nat) (len : Nat) (s : State), (s.runs k.val n.toNat .msgRd w len = true) ∧ (s.holdsMsg k.val n.toNat (s.rs1 k.val n.toNat w % 64) = true)) ∧
    (∃ (k : Fin 16) (n : BitVec 7) (w : Nat) (len : Nat) (s : State), (s.runs k.val n.toNat .msgRd w len = true) ∧ (s.holdsMsg k.val n.toNat (s.rs1 k.val n.toNat w % 64) = false)) ∧
    (∃ (k : Fin 16) (n : BitVec 7) (w : Nat) (len : Nat) (s : State), (s.runs k.val n.toNat .msgWr w len = true) ∧ (s.holdsMsg k.val n.toNat (s.rs1 k.val n.toNat w % 64) = true) ∧ (bitAt (s.rs1 k.val n.toNat w) 6 = false)) ∧
    (∃ (k : Fin 16) (n : BitVec 7) (w : Nat) (len : Nat) (s : State), (s.runs k.val n.toNat .msgWr w len = true) ∧ (s.holdsMsg k.val n.toNat (s.rs1 k.val n.toNat w % 64) = true) ∧ (bitAt (s.rs1 k.val n.toNat w) 6 = true)) ∧
    (∃ (k : Fin 16) (n : BitVec 7) (w : Nat) (len : Nat) (s : State), (s.runs k.val n.toNat .clvWait w len = true) ∧ (s.compareDue k.val n.toNat = false) ∧ (s.wakeCauses k.val n.toNat = 0)) ∧
    (∃ (k : Fin 16) (n : BitVec 7) (w : Nat) (len : Nat) (s : State), (s.runs k.val n.toNat .clvWait w len = true) ∧ (s.compareDue k.val n.toNat = false) ∧ (s.wakeCauses k.val n.toNat ≠ 0)) ∧
    (∃ (k : Fin 16) (n : BitVec 7) (w : Nat) (len : Nat) (s : State), (s.runs k.val n.toNat .clvDone w len = true) ∧ (n ≠ 0)) ∧
    (∃ (k : Fin 16) (n : BitVec 7) (w : Nat) (len : Nat) (s : State), (s.runs k.val n.toNat .clvWake w len = true)) ∧
    (∃ (k : Fin 16) (n : BitVec 7) (w : Nat) (len : Nat) (s : State), (s.runs k.val n.toNat .supNext w len = true) ∧ (n = 0) ∧ ((s.rs1 k.val n.toNat w) % 16 = 0) ∧ ((s.cl k.val).inSlice 0 (s.rs1 k.val n.toNat w) 16 = true) ∧ ((s.cl k.val).notes = [])) ∧
    (∃ (k : Fin 16) (n : BitVec 7) (w : Nat) (len : Nat) (e : List Word) (rest : List (List Word)) (s : State), (s.runs k.val n.toNat .supNext w len = true) ∧ (n = 0) ∧ ((s.rs1 k.val n.toNat w) % 16 = 0) ∧ ((s.cl k.val).inSlice 0 (s.rs1 k.val n.toNat w) 16 = true) ∧ ((s.cl k.val).notes = e :: rest)) ∧
    (∃ (k : Fin 16) (n : BitVec 7) (w : Nat) (len : Nat) (s : State), (s.runs k.val n.toNat .supAct w len = true) ∧ (n = 0) ∧ ((s.th k.val (s.rs1 k.val n.toNat w % 128)).state = 5) ∧ (s.rs2 k.val n.toNat w = 0)) ∧
    (∃ (k : Fin 16) (n : BitVec 7) (w : Nat) (len : Nat) (v : Nat) (l : Nat) (s : State), (s.runs k.val n.toNat .supAct w len = true) ∧ (n = 0) ∧ ((s.th k.val (s.rs1 k.val n.toNat w % 128)).state = 5) ∧ (s.rs2 k.val n.toNat w = 1) ∧ (s.clvFetch k.val (s.rs1 k.val n.toNat w % 128) = some (v, l))) ∧
    (∃ (k : Fin 16) (n : BitVec 7) (w : Nat) (len : Nat) (s : State), (s.runs k.val n.toNat .supFrel w len = true) ∧ (n = 0)) ∧
    (∃ (k : Fin 16) (n : BitVec 7) (w : Nat) (len : Nat) (s : State), (s.runs k.val n.toNat .supState w len = true) ∧ (n = 0)) ∧
    (∃ (k : Fin 16) (n : BitVec 7) (w : Nat) (len : Nat) (s : State), (s.runs k.val n.toNat .supState w len = true) ∧ (n ≠ 0)) ∧
    (∃ (k : Fin 16) (n : BitVec 7) (w : Nat) (len : Nat) (s : State), (s.runs k.val n.toNat .base w len = true)) ∧
    (∃ (k : Fin 16) (n : BitVec 7) (w : Nat) (len : Nat) (s : State), (s.runs k.val n.toNat .ecall w len = true)) ∧
    (∃ (k : Fin 16) (n : BitVec 7) (w : Nat) (len : Nat) (s : State), (s.runs k.val n.toNat .ebreak w len = true) ∧ (bitAt (s.reg R.TST_CLV_DBG_EN) k.val = false)) ∧
    (∃ (k : Fin 16) (n : BitVec 7) (w : Nat) (len : Nat) (s : State), (s.runs k.val n.toNat .ebreak w len = true) ∧ (bitAt (s.reg R.TST_CLV_DBG_EN) k.val = true)) :=
  ⟨⟨0, 1, ext 2 0 true true false, 4, (thr 1 (ext 2 0 true true false) { x := xs (5) (0) } {}), by decide +kernel⟩,
   ⟨0, 1, ext 2 0 true true false, 4, (thr 1 (ext 2 0 true true false) { x := xs (5) (0) } { msgs := [(5, { locked := true, owner := 1, value := 7 })] }), by decide +kernel⟩,
   ⟨0, 1, ext 2 1 false true false, 4, (thr 1 (ext 2 1 false true false) { x := xs (5) (0) } { msgs := [(5, { locked := true, owner := 1, value := 7 })] }), by decide +kernel⟩,
   ⟨0, 1, ext 2 1 false true false, 4, (thr 1 (ext 2 1 false true false) { x := xs (5) (0) } {}), by decide +kernel⟩,
   ⟨0, 1, ext 2 2 true true false, 4, (thr 1 (ext 2 2 true true false) { x := xs (5) (0) } { msgs := [(5, { locked := true, owner := 1, value := 7 })] }), by decide +kernel⟩,
   ⟨0, 1, ext 2 2 true true false, 4, (thr 1 (ext 2 2 true true false) { x := xs (5) (0) } {}), by decide +kernel⟩,
   ⟨0, 1, ext 2 3 false true true, 4, (thr 1 (ext 2 3 false true true) { x := xs (5) (9) } { msgs := [(5, { locked := true, owner := 1, value := 7 })] }), by decide +kernel⟩,
   ⟨0, 1, ext 2 3 false true true, 4, (thr 1 (ext 2 3 false true true) { x := xs (69) (9) } { msgs := [(5, { locked := true, owner := 1, value := 7 })] }), by decide +kernel⟩,
   ⟨0, 1, ext 3 0 true false false, 4, (thr 1 (ext 3 0 true false false) {  } {}), by decide +kernel⟩,
   ⟨0, 1, ext 3 0 true false false, 4, (thr 1 (ext 3 0 true false false) { latched := 2, wakeEn := 1 } {}), by decide +kernel⟩,
   ⟨0, 1, ext 3 1 false false false, 4, (thr 1 (ext 3 1 false false false) {  } {}), by decide +kernel⟩,
   ⟨0, 1, ext 3 2 false true false, 4, (thr 1 (ext 3 2 false true false) { x := xs (1) (0) } {}), by decide +kernel⟩,
   ⟨0, 0, ext 5 0 true true false, 4, (thr 0 (ext 5 0 true true false) { x := xs (524288) (0) } {}), by decide +kernel⟩,
   ⟨0, 0, ext 5 0 true true false, 4, [1#32], [], (thr 0 (ext 5 0 true true false) { x := xs (524288) (0) } { notes := [[1#32]] }), by decide +kernel⟩,
   ⟨0, 0, ext 5 1 false true true, 4, (thr 0 (ext 5 1 false true true) { x := xs (1) (0) } { threads := [(1, { state := 5 })] }), by decide +kernel⟩,
   ⟨0, 0, ext 5 1 false true true, 4, ext 5 1 false true true, 4, (thr 0 (ext 5 1 false true true) { x := xs (1) (1) } { threads := [(1, { state := 5 })] }), by decide +kernel⟩,
   ⟨0, 0, ext 5 2 true true false, 4, (thr 0 (ext 5 2 true true false) { x := xs (5) (0) } { msgs := [(5, { locked := true, owner := 1, value := 7 })] }), by decide +kernel⟩,
   ⟨0, 0, ext 5 3 true true false, 4, (thr 0 (ext 5 3 true true false) { x := xs (1) (0) } {}), by decide +kernel⟩,
   ⟨0, 1, ext 5 3 true true false, 4, (thr 1 (ext 5 3 true true false) { x := xs (1) (0) } {}), by decide +kernel⟩,
   ⟨0, 1, 0x00128293, 4, (thr 1 (0x00128293) { x := xs (1) (0) } {}), by decide +kernel⟩,
   ⟨0, 1, 0x00000073, 4, (thr 1 (0x00000073) {  } {}), by decide +kernel⟩,
   ⟨0, 1, 0x00100073, 4, (thr 1 (0x00100073) {  } {}), by decide +kernel⟩,
   ⟨0, 1, 0x00100073, 4, (State.setReg (thr 1 (0x00100073) {  } {}) R.TST_CLV_DBG_EN 1), by decide +kernel⟩⟩

/-- States and operands that meet what BufferInstructions asks. -/
theorem witness_BufferInstructions :
    (∃ (k : Fin 16) (n : BitVec 7) (w : Nat) (len : Nat) (s : State), (s.runs k.val n.toNat .bufAlloc w len = true)) ∧
    (∃ (k : Fin 16) (n : BitVec 7) (w : Nat) (len : Nat) (u : State) (s : State), (s.runs k.val n.toNat .bufShare w len = true) ∧ (s.shareBuf (s.rs1 k.val n.toNat w) (clvReq k.val) (clvReq k.val) (clvMid k.val n.toNat) = (true, u))) ∧
    (∃ (k : Fin 16) (n : BitVec 7) (w : Nat) (len : Nat) (u : State) (s : State), (s.runs k.val n.toNat .bufShare w len = true) ∧ (s.shareBuf (s.rs1 k.val n.toNat w) (clvReq k.val) (clvReq k.val) (clvMid k.val n.toNat) = (false, u))) ∧
    (∃ (k : Fin 16) (n : BitVec 7) (w : Nat) (len : Nat) (u : State) (s : State), (s.runs k.val n.toNat .bufRelease w len = true) ∧ (s.releaseBuf (s.rs1 k.val n.toNat w) (clvReq k.val) (clvMid k.val n.toNat) = (true, u))) ∧
    (∃ (k : Fin 16) (n : BitVec 7) (w : Nat) (len : Nat) (u : State) (s : State), (s.runs k.val n.toNat .bufRelease w len = true) ∧ (s.releaseBuf (s.rs1 k.val n.toNat w) (clvReq k.val) (clvMid k.val n.toNat) = (false, u))) ∧
    (∃ (k : Fin 16) (n : BitVec 7) (w : Nat) (len : Nat) (u : State) (s : State), (s.runs k.val n.toNat .bufFree w len = true) ∧ (s.freeBufBy (s.rs1 k.val n.toNat w) (clvReq k.val) (clvMid k.val n.toNat) = (true, u))) ∧
    (∃ (k : Fin 16) (n : BitVec 7) (w : Nat) (len : Nat) (u : State) (s : State), (s.runs k.val n.toNat .bufFree w len = true) ∧ (s.freeBufBy (s.rs1 k.val n.toNat w) (clvReq k.val) (clvMid k.val n.toNat) = (false, u))) ∧
    (∃ (k : Fin 16) (n : BitVec 7) (w : Nat) (len : Nat) (u : State) (s : State), (s.runs k.val n.toNat .bufXfer w len = true) ∧ (s.transferBuf (s.rs1 k.val n.toNat w) (clvReq k.val) (s.rs2 k.val n.toNat w % 2 ^ 12) (clvMid k.val n.toNat) = (true, u))) ∧
    (∃ (k : Fin 16) (n : BitVec 7) (w : Nat) (len : Nat) (u : State) (s : State), (s.runs k.val n.toNat .bufXfer w len = true) ∧ (s.transferBuf (s.rs1 k.val n.toNat w) (clvReq k.val) (s.rs2 k.val n.toNat w % 2 ^ 12) (clvMid k.val n.toNat) = (false, u))) ∧
    (∃ (cluster : Fin 16) (f : CloveFrame) (rest : List CloveFrame) (n : Nat) (u : State) (s : State), ((s.cl cluster.val).queue = f :: rest) ∧ (f.ordered = false) ∧ (f.desc = []) ∧ (s.cloveOpen cluster.val = true) ∧ (s.pickThread cluster.val = some n) ∧ (s.toCluster cluster.val f.pkt.ptr = (true, u))) ∧
    (∃ (slot : Nat) (x : OrdSlot) (s : State), (lookup s.clv.slots slot = some x) ∧ (x.out = none)) ∧
    (∃ (cluster : Fin 16) (thread : BitVec 7) (r : Nat) (v : Nat) (s : State), ((s.th cluster.val thread.toNat).result = some (r, v)) ∧ ((s.th cluster.val thread.toNat).state = 3)) ∧
    (∃ (cluster : Fin 16) (thread : BitVec 7) (r : Nat) (v : Nat) (s : State), ((s.th cluster.val thread.toNat).result = some (r, v)) ∧ ((s.th cluster.val thread.toNat).state = 6)) ∧
    (∃ (cluster : Fin 16) (thread : BitVec 7) (s : State), (s.compareDue cluster.val thread.toNat = true)) :=
  ⟨⟨0, 1, ext 4 0 true true false, 4, (thr 1 (ext 4 0 true true false) { x := xs (256) (0) } {}), by decide +kernel⟩,
   ⟨0, 1, ext 4 1 false true false, 4, ((owning (thr 1 (ext 4 1 false true false) { x := xs (0) (2064) }) []).shareBuf 0 0x810 0x810 0x801).2, (owning (thr 1 (ext 4 1 false true false) { x := xs (0) (2064) }) []), by decide +kernel⟩,
   ⟨0, 1, ext 4 1 false true false, 4, ((thr 1 (ext 4 1 false true false) { x := xs (0) (2064) }).shareBuf 0 0x810 0x810 0x801).2, (thr 1 (ext 4 1 false true false) { x := xs (0) (2064) }), by decide +kernel⟩,
   ⟨0, 1, ext 4 2 false true false, 4, ((owning (thr 1 (ext 4 2 false true false) { x := xs (0) (2064) }) [0x810]).releaseBuf 0 0x810 0x801).2, (owning (thr 1 (ext 4 2 false true false) { x := xs (0) (2064) }) [0x810]), by decide +kernel⟩,
   ⟨0, 1, ext 4 2 false true false, 4, ((thr 1 (ext 4 2 false true false) { x := xs (0) (2064) }).releaseBuf 0 0x810 0x801).2, (thr 1 (ext 4 2 false true false) { x := xs (0) (2064) }), by decide +kernel⟩,
   ⟨0, 1, ext 4 3 false true false, 4, ((owning (thr 1 (ext 4 3 false true false) { x := xs (0) (2064) }) []).freeBufBy 0 0x810 0x801).2, (owning (thr 1 (ext 4 3 false true false) { x := xs (0) (2064) }) []), by decide +kernel⟩,
   ⟨0, 1, ext 4 3 false true false, 4, ((thr 1 (ext 4 3 false true false) { x := xs (0) (2064) }).freeBufBy 0 0x810 0x801).2, (thr 1 (ext 4 3 false true false) { x := xs (0) (2064) }), by decide +kernel⟩,
   ⟨0, 1, ext 4 4 false true true, 4, ((owning (thr 1 (ext 4 4 false true true) { x := xs (0) (2064) }) []).transferBuf 0 0x810 0x810 0x801).2, (owning (thr 1 (ext 4 4 false true true) { x := xs (0) (2064) }) []), by decide +kernel⟩,
   ⟨0, 1, ext 4 4 false true true, 4, ((thr 1 (ext 4 4 false true true) { x := xs (0) (2064) }).transferBuf 0 0x810 0x810 0x801).2, (thr 1 (ext 4 4 false true true) { x := xs (0) (2064) }), by decide +kernel⟩,
   ⟨0, { pkt := { ptr := 0, data := List.replicate 64 1#8 }, mask := 1, ordered := false }, [], 16, ((owning (thr 1 0 {} { queue := [{ pkt := { ptr := 0, data := List.replicate 64 1#8 }, mask := 1, ordered := false }] })).toCluster 0 0).2, (owning (thr 1 0 {} { queue := [{ pkt := { ptr := 0, data := List.replicate 64 1#8 }, mask := 1, ordered := false }] })), by decide +kernel⟩,
   ⟨3, { mask := 1, hash := 2 }, { on with clv := { slots := [(3, { mask := 1, hash := 2 })] } }, by decide +kernel⟩,
   ⟨0, 1, 7, 9, { on with clv := { clusters := [(0, { threads := [(1, { state := 3, result := some (7, 9) })] })] } }, by decide +kernel⟩,
   ⟨0, 1, 7, 9, { on with clv := { clusters := [(0, { threads := [(1, { state := 6, result := some (7, 9) })] })] } }, by decide +kernel⟩,
   ⟨0, 1, { on with clv := { clusters := [(0, { threads := [(1, { state := 4, armed := true })] })] } }, by decide +kernel⟩⟩

/-- States and operands that meet what CloveProgramActs asks. -/
theorem witness_CloveProgramActs :
    (∃ (mid : BitVec 13) (cluster : Fin 16) (s : State), (s.gate mid.toNat (R.CLV_CL_CTL cluster.val) false = .open_) ∧ ((s.cl cluster.val).loaded = true)) ∧
    (∃ (mid : BitVec 13) (cluster : Fin 16) (on : Bool) (period : BitVec 16) (s : State), (s.gate mid.toNat (R.CLV_WDOG_CTL cluster.val) false = .open_) ∧ (on = false)) ∧
    (∃ (mid : BitVec 13) (cluster : Fin 16) (on : Bool) (period : BitVec 16) (s : State), (s.gate mid.toNat (R.CLV_WDOG_CTL cluster.val) false = .open_) ∧ (on = true) ∧ (10 ≤ period.toNat) ∧ ((s.setF (F.CLV_WDOG_CTL_period_us cluster.val) period.toNat).claimFault (comparator cluster.val) (holderWord 0x0E 0x02 mid.toNat) = none)) ∧
    (∃ (mid : BitVec 13) (cluster : Fin 16) (on : Bool) (period : BitVec 16) (s : State), (s.gate mid.toNat (R.CLV_WDOG_CTL cluster.val) false = .open_) ∧ (on = true) ∧ (period.toNat < 10)) ∧
    (∃ (mid : BitVec 13) (cluster : Fin 16) (on : Bool) (period : BitVec 16) (f : Nat × Nat) (s : State), (s.gate mid.toNat (R.CLV_WDOG_CTL cluster.val) false = .open_) ∧ (on = true) ∧ (10 ≤ period.toNat) ∧ ((s.setF (F.CLV_WDOG_CTL_period_us cluster.val) period.toNat).claimFault (comparator cluster.val) (holderWord 0x0E 0x02 mid.toNat) = some f)) ∧
    (∃ (cluster : Fin 16) (s : State), (s.rfb (F.CLV_WDOG_CTL_enable cluster.val) = true) ∧ (s.islandDown cluster.val = false) ∧ ((s.cl cluster.val).petted = false)) ∧
    (∃ (cluster : Fin 16) (s : State), (s.rfb (F.CLV_WDOG_CTL_enable cluster.val) = true) ∧ (s.islandDown cluster.val = false) ∧ ((s.cl cluster.val).petted = true)) ∧
    (Meets clvProgramLoadSpec (fun c s => c.reserved [(0, 0x07FF000F)] = none ∧ c.p 1 % 64 = 0 ∧ c.p 3 ≠ 0 ∧ s.clvGone (c.p 0 % 16) = false ∧ (s.cl (c.p 0 % 16)).loaded = false)) ∧
    (Meets clvProgramSwapSpec (fun c s => c.reserved [(0, 0x07FF000F)] = none ∧ c.p 1 % 64 = 0 ∧ c.p 3 ≠ 0 ∧ s.clvGone (c.p 0 % 16) = false ∧ (s.cl (c.p 0 % 16)).loaded = true ∧ (s.cl (c.p 0 % 16)).busy ≠ .draining ∧ (s.cl (c.p 0 % 16)).busy ≠ .writing)) ∧
    (∃ (cluster : Fin 16) (s : State), ((s.cl cluster.val).busy = .writing) ∧ ((List.range 127).any (fun j => 2 ≤ (s.th cluster.val (j + 1)).state && (s.th cluster.val (j + 1)).bank != 1 - (s.cl cluster.val).bank) = true)) ∧
    (∃ (cluster : Fin 16) (s : State), (((s.swapSwitch cluster.val).cl cluster.val).busy = .draining) ∧ ((List.range 127).all (fun j => ((s.swapSwitch cluster.val).th cluster.val (j + 1)).state < 2 || ((s.swapSwitch cluster.val).th cluster.val (j + 1)).bank == ((s.swapSwitch cluster.val).cl cluster.val).bank) = true)) ∧
    (Meets clvProgramUnloadSpec (fun c s => c.reserved [(0, 0x10F)] = none ∧ s.clvGone (c.p 0 % 16) = false ∧ (s.cl (c.p 0 % 16)).loaded = true)) ∧
    (Meets clvClusterModeSpec (fun c s => c.reserved [(0, 0x10F)] = none ∧ s.clvGone (c.p 0 % 16) = false ∧ (s.cl (c.p 0 % 16)).loaded = false)) ∧
    (Meets clvMsgregReleaseSpec (fun c s => c.reserved [(0, 0x3F000F)] = none ∧ s.clvGone (c.p 0 % 16) = false)) :=
  ⟨⟨0, 3, { on with clv := { clusters := [(3, { loaded := true })] } }, by decide +kernel⟩,
   ⟨0, 3, false, 50, on, by decide +kernel⟩,
   ⟨0, 3, true, 50, on, by decide +kernel⟩,
   ⟨0, 3, true, 9, on, by decide +kernel⟩,
   ⟨0, 3, true, 50, (0x1F01, 7), (on.takeClaim (comparator 3) 7), by decide +kernel⟩,
   ⟨3, (on.setF (F.CLV_WDOG_CTL_enable 3) 1), by decide +kernel⟩,
   ⟨3, ({ on with clv := { clusters := [(3, { petted := true })] } }.setF (F.CLV_WDOG_CTL_enable 3) 1), by decide +kernel⟩,
   ⟨adm, entry 0x0700 [3, 64, 0, 1216], by decide +kernel⟩,
   ⟨{ adm with clv := { clusters := [(3, { loaded := true })] } }, entry 0x0701 [3, 64, 0, 1216], by decide +kernel⟩,
   ⟨3, { on with clv := { clusters := [(3, { loaded := true, busy := .writing, threads := [(1, { state := 2 })] })] } }, by decide +kernel⟩,
   ⟨3, { on with clv := { clusters := [(3, { loaded := true, busy := .draining })] } }, by decide +kernel⟩,
   ⟨{ adm with clv := { clusters := [(3, { loaded := true })] } }, entry 0x0702 [3], by decide +kernel⟩,
   ⟨adm, entry 0x0703 [0x103], by decide +kernel⟩,
   ⟨adm, entry 0x0710 [0x50003], by decide +kernel⟩⟩

/-- States and operands that meet what SequencerActs asks. -/
theorem witness_SequencerActs :
    (∃ (seq : Fin 32) (conn : BitVec 16) (tr : Trigger) (rest : List Trigger) (s : State), (tr.conn = conn.toNat) ∧ ((s.seq seq.val).retired = false) ∧ ((s.seq seq.val).stopped = none) ∧ ((s.group (seq.val / 8)).started = true) ∧ (s.islandDown 37 = false) ∧ ((s.seq seq.val).queue = tr :: rest) ∧ (s.triggerReady (s.seq seq.val) tr = true)) ∧
    (∃ (seq : Fin 32) (conn : BitVec 16) (parity : Option Bool) (steps : List ProtoStep) (r : Routine) (s : State), ((s.seq seq.val).stopped = none) ∧ (s.islandDown 37 = false) ∧ (lookup (s.seq seq.val).running conn.toNat = some r)) ∧
    (∃ (conn : BitVec 16) (v : Conn) (s : State), (s.conn conn.toNat = some v) ∧ (v.timer = true) ∧ (s.islandDown 37 = false)) ∧
    (∃ (mid : BitVec 13) (seq : Fin 32) (slot : Fin 4) (t : TrapSlot) (s : State), (s.gate mid.toNat (R.PSQ_TRAP_CTL seq.val) false = .open_) ∧ (lookup (s.seq seq.val).slots slot.val = some t)) ∧
    (∃ (mid : BitVec 13) (seq : Fin 32) (slot : Fin 4) (t : TrapSlot) (s : State), (s.gate mid.toNat (R.PSQ_TRAP_CTL seq.val) false = .open_) ∧ (lookup (s.seq seq.val).slots slot.val = some t)) ∧
    (∃ (index : BitVec 16) (data : Option (List Byte)) (d : DriveCmd) (s : State), (s.psq.drive[index.toNat]? = some d)) ∧
    (∃ (index : BitVec 16) (data : Option (List Byte)) (o : PostedOp) (s : State), (s.psq.posted[index.toNat]? = some o) ∧ (o.port = 4) ∧ (((o.sub = 0 || o.sub = 2) && s.openTag.isNone) = false)) ∧
    (∃ (index : BitVec 16) (d : DriveCmd) (s : State), (s.psq.drive[index.toNat]? = some d) ∧ (d.entry = none)) ∧
    (∃ (index : BitVec 16) (d : DriveCmd) (i : Nat) (s : State), (s.psq.drive[index.toNat]? = some d) ∧ (d.entry = some i)) ∧
    (∃ (qid : BitVec 16) (words : List Word) (c : Nat) (v : Conn) (s : State), (s.ringConn qid.toNat = some c) ∧ (s.conn c = some v) ∧ (s.mayFetch qid.toNat 4 = true) ∧ (wd words 0 % 2 ^ 16 ≠ 0xFFFF) ∧ ((s.q qid.toNat).lengthBad (wd words 1 % 2 ^ 16) 0 = false) ∧ (v.takes (v.send != qid.toNat) (wd words 0 % 2 ^ 16) = true) ∧ ((if v.kind = .qp then (12 + 4 * (wd words 8 % 256) + 15) / 16 else (24 + 4 * (wd words 20 % 256) + 15) / 16) ≤ wd words 1 % 2 ^ 16) ∧ ((match v.kind with
        | .qp => rdmaFault words
        | .nvme => nvmeFault words
        | .local => blockEntryFault v words) = none) ∧ (v.state ≠ 4) ∧ (v.send = qid.toNat)) :=
  ⟨⟨2, 5, { kind := 1, conn := 5 }, [], { on with psq := { groups := [(0, { started := true })], seqs := [(2, { queue := [{ kind := 1, conn := 5 }] })] } }, by decide +kernel⟩,
   ⟨2, 5, none, [], { conn := 5, kind := 1, bank := 0, upc := 0 }, { on with psq := { groups := [(0, { started := true })], seqs := [(2, { running := [(5, { conn := 5, kind := 1, bank := 0, upc := 0 })] })] } }, by decide +kernel⟩,
   ⟨5, { kind := .qp, group := 0, owner := 0, gen := 1, timer := true }, { on with psq := { conns := [(5, { kind := .qp, group := 0, owner := 0, gen := 1, timer := true })] } }, by decide +kernel⟩,
   ⟨0, 2, 1, { words := [], routine := { conn := 5, kind := 1, bank := 0, upc := 0 } }, { on with psq := { seqs := [(2, { slots := [(1, { words := [], routine := { conn := 5, kind := 1, bank := 0, upc := 0 } })] })] } }, by decide +kernel⟩,
   ⟨0, 2, 1, { words := [], routine := { conn := 5, kind := 1, bank := 0, upc := 0 } }, { on with psq := { seqs := [(2, { slots := [(1, { words := [], routine := { conn := 5, kind := 1, bank := 0, upc := 0 } })] })] } }, by decide +kernel⟩,
   ⟨0, none, drv, { on with psq := { drive := [drv] } }, by decide +kernel⟩,
   ⟨0, none, { conn := 5, port := 4, sub := 0, args := [], gen := 1 }, { on with psq := { posted := [{ conn := 5, port := 4, sub := 0, args := [], gen := 1 }] } }, by decide +kernel⟩,
   ⟨0, drv, { on with psq := { drive := [drv] } }, by decide +kernel⟩,
   ⟨0, { drv with entry := some 4 }, 4, { on with psq := { drive := [{ drv with entry := some 4 }] } }, by decide +kernel⟩,
   ⟨8, [w32 0x1200, w32 0x50001] ++ List.replicate 14 0#32, 5, { kind := .qp, group := 0, owner := 0, gen := 1, send := 8 }, { { adm with queues := [(7, { state := 1, type := 1, iid := 0, loc := 0, sizeLog2 := 6, pi := 8 }), (8, { type := 4, state := 1, iid := 0, loc := 8, sizeLog2 := 6, pi := 1, evq := 9 }), (9, { type := 6, state := 1, iid := 0, loc := 9, sizeLog2 := 6, vector := 3 })] } with psq := { conns := [(5, { kind := .qp, group := 0, owner := 0, gen := 1, send := 8 })] } }, by decide +kernel⟩⟩

/-- States and operands that meet what UcodeCommands asks. -/
theorem witness_UcodeCommands :
    (Meets psqUcodeStageSpec (fun c s => c.reserved [(0, 0xF)] = none ∧ c.p 0 ≠ 0 ∧ c.p 1 % 64 = 0 ∧ c.p 3 ≠ 0 ∧ c.p 3 ≤ 0x40000)) ∧
    (∃ (group : Fin 4) (p : PendCmd) (s : State), (s.findPend (fun p => p.cmd.opcode = 0x0800 && bitAt (p.cmd.p 0) group.val) = some p)) ∧
    (Meets psqBankSwapSpec (fun c s => c.reserved [(0, 0xF)] = none ∧ c.p 0 ≠ 0 ∧ ((maskGroups (c.p 0)).all fun g => !(s.group g).swapping && ((s.group g).bank (1 - (s.group g).active)).staged
        && !((s.group g).started && ((s.group g).bank (1 - (s.group g).active)).format != ((s.group g).bank (s.group g).active).format)) = true ∧
        s.firstRefused ((maskGroups (c.p 0)).map fun g => (ucodeLock g, holderWord 0x0F 0x02 c.mid)) = none)) ∧
    (Meets rdmaQpCreateSpec (fun c s => c.reserved [(1, 0x3001F), (2, 0xFFFF)] = none ∧ field (c.p 1) 4 0 ≤ 16 ∧ c.p 0 = 0xFFFFFFFF ∧ s.groupDown (field (c.p 1) 17 16) = false ∧ s.connCount < 65534)) ∧
    (Meets rdmaQpCreateSpec (fun c s => c.reserved [(1, 0x3001F), (2, 0xFFFF)] = none ∧ field (c.p 1) 4 0 ≤ 16 ∧ c.p 0 ≠ 0xFFFFFFFF ∧ (s.freeRing c.target (c.p 0 % 2 ^ 16)).isSome = true ∧
        (s.recvRing c.target (field (c.p 0) 31 16)).isSome = true ∧ s.freeRing c.target (c.p 0 % 2 ^ 16) ≠ s.recvRing c.target (field (c.p 0) 31 16) ∧ s.groupDown (field (c.p 1) 17 16) = false ∧ s.connCount < 65534)) ∧
    (Meets rdmaQpModifySpec (fun c s => c.reserved [(0, 0x7FFFF), (1, 0xFFFC1F), (2, 0xFFFFFF), (3, 0xFFFFFF), (15, 0xFFFF)] = none ∧ field (c.p 0) 18 16 = 2 ∧ 1 ≤ c.p 1 % 8 ∧ c.p 1 % 8 ≤ 5 ∧ ((s.ownConn c (c.p 0 % 2 ^ 16) .qp).any fun v => qpMove v.state 2) = true)) ∧
    (Meets rdmaQpModifySpec (fun c s => c.reserved [(0, 0x7FFFF)] = none ∧ field (c.p 0) 18 16 = 4 ∧ ((s.ownConn c (c.p 0 % 2 ^ 16) .qp).any fun v => decide (1 ≤ v.state) && decide (v.state ≤ 3)) = true)) ∧
    (Meets (destroySpec 0x0812 .qp fun n s => s.closeConn n 0x0206) (fun c s => c.reserved [(0, 0xFFFF)] = none ∧ (s.ownConn c (c.p 0) .qp).isSome = true)) ∧
    (Meets rdmaMrRegisterSpec (fun c s => c.reserved [(4, 0xFFFFF807)] = none ∧ 0 < c.p 2 + c.p 3 * 2 ^ 32 ∧ c.p 2 + c.p 3 * 2 ^ 32 ≤ 2 ^ 40 ∧ (s.psq.regions.filter (·.2.owner = c.target)).length < 65536 ∧ s.psq.regions.length < 1048576)) ∧
    (Meets rdmaMrDeregisterSpec (fun c s => ((s.region? (c.p 0)).any fun m => m.owner = c.target) = true)) ∧
    (Meets nvmeCtrlConnectSpec (fun c s => c.reserved [(0, 0x103FFFF), (1, 0xFFFF), (10, 0xF), (11, 0xFFFFF)] = none ∧ 1 ≤ field (c.p 15) 31 16 ∧ field (c.p 15) 31 16 ≤ 1024 ∧ bitAt (c.p 0) 24 = false ∧ bitAt (c.p 10) 3 = false ∧ (s.freeRing c.target (c.p 0 % 2 ^ 16)).isSome = true ∧ s.groupDown (field (c.p 0) 17 16) = false ∧ s.connCount < 65534)) ∧
    (Meets (destroySpec 0x0821 .nvme fun n s => s.closeConn n 0x0210) (fun c s => c.reserved [(0, 0xFFFF)] = none ∧ (s.ownConn c (c.p 0) .nvme).isSome = true)) ∧
    (Meets nvmeLocalNsAttachSpec (fun c s => c.reserved [(0, 0x3FFFF), (6, 0x800FFFFF), (7, 3)] = none ∧ bitAt (c.p 6) 31 = false ∧ (s.freeRing c.target (c.p 0 % 2 ^ 16)).isSome = true ∧ s.psq.conns.all (fun e => !(e.2.kind == .local)) = true ∧ s.groupDown (c.p 7) = false ∧ s.connCount < 65534)) ∧
    (Meets (destroySpec 0x0831 .local fun n s => s.detach n) (fun c s => c.reserved [(0, 0xFFFF)] = none ∧ (s.ownConn c (c.p 0) .local).isSome = true)) :=
  ⟨⟨adm, entry 0x0800 [1, 64, 0, 1216], by decide +kernel⟩,
   ⟨0, { cmd := cmdOf adm (entry 0x800 [1, 64, 0, 1216]) 0x800 0, locks := [], note := [] }, { adm with cmds := { adm.cmds with pend := [{ cmd := cmdOf adm (entry 0x800 [1, 64, 0, 1216]) 0x800 0, locks := [], note := [] }] } }, by decide +kernel⟩,
   ⟨{ adm with psq := { groups := [(0, { banks := [(1, { staged := true })] })] } }, entry 0x0801 [1], by decide +kernel⟩,
   ⟨{ adm with psq := { groups := [(0, { started := true })] } }, entry 0x0810 [0xFFFFFFFF, 4, 0], by decide +kernel⟩,
   ⟨{ adm with queues := [(7, { state := 1, type := 1, iid := 0, loc := 0, sizeLog2 := 6, pi := 8 }), (8, { type := 4, state := 1, iid := 0, loc := 8, sizeLog2 := 6 }), (10, { type := 4, state := 1, iid := 0, loc := 10, sizeLog2 := 6 })], psq := { groups := [(0, { started := true })] } }, entry 0x0810 [0xA0008, 4, 0], by decide +kernel⟩,
   ⟨{ adm with psq := { groups := [(0, { started := true })], conns := [(5, { kind := .qp, group := 0, owner := 0, gen := 1 })] } }, entry 0x0811 [0x20005, 3, 7, 8], by decide +kernel⟩,
   ⟨{ adm with psq := { groups := [(0, { started := true })], conns := [(5, { kind := .qp, group := 0, owner := 0, gen := 1 })] } }, entry 0x0811 [0x40005], by decide +kernel⟩,
   ⟨{ adm with psq := { groups := [(0, { started := true })], conns := [(5, { kind := .qp, group := 0, owner := 0, gen := 1 })] } }, entry 0x0812 [5], by decide +kernel⟩,
   ⟨adm, entry 0x0813 [0, 0, 4096, 0, 1], by decide +kernel⟩,
   ⟨{ adm with psq := { regions := [(5, { variant := 7, owner := 0, addr := 0, bytes := 4096, rights := 1, pasid := 0 })] } }, entry 0x0814 [0x507], by decide +kernel⟩,
   ⟨{ adm with queues := [(7, { state := 1, type := 1, iid := 0, loc := 0, sizeLog2 := 6, pi := 8 }), (8, { type := 4, state := 1, iid := 0, loc := 8, sizeLog2 := 6 }), (10, { type := 4, state := 1, iid := 0, loc := 10, sizeLog2 := 6 })], psq := { groups := [(0, { started := true })] } }, entryU 3 0x0820 [8, 0, 0, 0, 0, 0, 0, 0, 0, 0, 0, 0, 0, 0, 0, 0x10000], by decide +kernel⟩,
   ⟨{ adm with psq := { groups := [(0, { started := true })], conns := [(5, { kind := .nvme, group := 0, owner := 0, gen := 1 })] } }, entry 0x0821 [5], by decide +kernel⟩,
   ⟨{ adm with queues := [(7, { state := 1, type := 1, iid := 0, loc := 0, sizeLog2 := 6, pi := 8 }), (8, { type := 4, state := 1, iid := 0, loc := 8, sizeLog2 := 6 }), (10, { type := 4, state := 1, iid := 0, loc := 10, sizeLog2 := 6 })], psq := { groups := [(0, { started := true })] } }, entry 0x0830 [8, 1, 0, 0, 100, 0, 0, 0], by decide +kernel⟩,
   ⟨{ adm with psq := { groups := [(0, { started := true })], conns := [(5, { kind := .local, group := 0, owner := 0, gen := 1 })] } }, entry 0x0831 [5], by decide +kernel⟩⟩

/-- States and operands that meet what SchedulerActs asks. -/
theorem witness_SchedulerActs :
    (Meets frsNodeCfgSpec (fun c s => bitAt (c.p 0) 31 = true ∧ c.reserved [(0, 0x8000FFFF)] = none ∧ 16 ≤ field (c.p 0) 15 0 ∧ field (c.p 0) 15 0 ≤ 32767 ∧ ((s.node (field (c.p 0) 15 0)).any fun n => !n.portDefault && n.frames.isEmpty) = true ∧ nodeChildren s.frs.nodes (field (c.p 0) 15 0) = [])) ∧
    (Meets frsNodeCfgSpec (fun c s => bitAt (c.p 0) 31 = false ∧ c.reserved [(0, 0x8000FFFF), (1, 0x1600FFFF), (2, 0xFFFF)] = none ∧ 16 ≤ field (c.p 0) 15 0 ∧ field (c.p 0) 15 0 < 4096 ∧ bitAt (c.p 1) 28 = false ∧ s.nodeFault c.nodeCfg = none)) ∧
    (Meets frsShaperCfgSpec (fun c s => c.reserved [(0, 0xF000FFFF)] = none ∧ bitAt (c.p 0) 31 = true ∧ (s.node (field (c.p 0) 15 0)).isSome = true)) ∧
    (Meets frsShaperCfgSpec (fun c s => c.reserved [(0, 0xF000FFFF), (3, 0x7F)] = none ∧ bitAt (c.p 0) 31 = false ∧ field (c.p 0) 29 28 = 1 ∧ 64 ≤ c.p 1 ∧ c.p 1 ≤ 1600000000 ∧ 64 ≤ c.p 2 ∧ c.p 2 ≤ 16777216 ∧
        -32 ≤ overhead7 (c.p 3) ∧ ((s.node (field (c.p 0) 15 0)).any fun n => n.shaper == none && n.next == none) = true)) ∧
    (∃ (s : State), (s.time.running = true)) ∧
    (Meets frsGclWriteSpec (fun c s => c.reserved [(0, 0x03FF0FFF)] = none ∧ c.indirect = false ∧ c.p 0 % 16 < 8 ∧ field (c.p 0) 11 0 ≠ 0 ∧ field (c.p 0) 25 16 + field (c.p 0) 11 0 ≤ 1024 ∧ c.shortBlock (1 + 2 * field (c.p 0) 11 0) = false ∧
        1 + 2 * field (c.p 0) 11 0 ≤ c.params.length ∧ ((List.range (field (c.p 0) 11 0)).find? fun k => field (c.p (1 + 2 * k)) 23 8 != 0) = none)) ∧
    (Meets frsGclCommitSpec (fun c s => c.reserved [(0, 0x87FF000F), (2, 0xFF00007F), (4, 0xFFFF), (6, 0xFF)] = none ∧ c.p 0 % 16 < 8 ∧ 1 ≤ field (c.p 0) 26 16 ∧ field (c.p 0) 26 16 ≤ 1024 ∧ bitAt (c.p 0) 31 = false ∧ -32 ≤ overhead7 (c.p 2 % 128) ∧ c.p 5 < 10 ^ 9 ∧
        256000 ≤ c.p 1 * 256 + field (c.p 2) 31 24 ∧ ((List.range (field (c.p 0) 26 16)).all fun k => decide (32 * 256 ≤ (lookupD (s.gates (c.p 0 % 16)).admin k (0, 0)).2)) = true)) ∧
    (∃ (root : Fin 9) (s : State), ((s.node root.val).isSome = true) ∧ (s.dataOn = true) ∧ (root.val < 8) ∧ (s.lineOpen root.val = true)) ∧
    (∃ (root : Fin 9) (s : State), ((s.node root.val).isSome = true) ∧ (s.dataOn = true) ∧ (root.val = 8)) ∧
    (∃ (port : Fin 8) (s : State), ((s.gates port.val).oper.enable = true)) ∧
    (∃ (port : Fin 8) (cls : Fin 8) (s : State), ((s.gates port.val).oper.enable = true) ∧ ((s.frs.nodes.any fun e => e.2.kind = 2 && e.2.port = port.val && e.2.cls = cls.val && !e.2.frames.isEmpty) = true) ∧ (bitAt (s.gates port.val).now cls.val = false) ∧ ((s.gates port.val).staged.contains cls.val = false)) ∧
    (∃ (port : Fin 8) (l : Gcl) (sw : Nat) (s : State), ((s.gates port.val).pending = some (l, sw)) ∧ (l.enable = true)) ∧
    (∃ (port : Fin 8) (l : Gcl) (sw : Nat) (s : State), ((s.gates port.val).pending = some (l, sw)) ∧ (l.enable = false)) ∧
    (Meets frsTelemetryCfgSpec (fun c s => bitAt (c.p 0) 31 = true ∧ c.reserved [(0, 0x800000FF)] = none ∧ (lookup s.frs.subs (c.p 0 % 256)).any (·.owner = c.target) = true)) ∧
    (Meets frsTelemetryCfgSpec (fun c s => bitAt (c.p 0) 31 = false ∧ c.reserved [(0, 0x800000FF), (1, 0x007FFFFF), (2, 0xFFFF), (3, 0xFFFF)] = none ∧ c.p 0 % 256 ≠ 255 ∧ (lookup s.frs.subs (c.p 0 % 256)).any (·.owner = c.target) = true ∧ field (c.p 1) 22 16 = 1 ∧ 4096 ≤ c.p 1 % 2 ^ 16 ∧ c.p 1 % 2 ^ 16 < 32768 ∧
        c.p 2 ≠ 0 ∧ ((s.node (c.p 1 % 2 ^ 16)).any fun n => n.kind = 2 && (c.target = 0 || n.owner = c.target)) = true ∧ ((s.findQ c.target (c.p 3)).any fun q => (s.q q).state = 1 && (s.q q).type = 5) = true ∧
        (subsRate ((1, c.p 2) :: (s.frs.subs.filter (·.1 != c.p 0 % 256)).map fun e => (e.2.count, e.2.period))).1 ≤ 16 * (subsRate ((1, c.p 2) :: (s.frs.subs.filter (·.1 != c.p 0 % 256)).map fun e => (e.2.count, e.2.period))).2)) ∧
    (∃ (sub : BitVec 8) (t : Telemetry) (q : Nat) (s : State), (lookup s.frs.subs sub.toNat = some t) ∧ (s.findQ t.owner t.ring = some q)) ∧
    (∃ (mid : BitVec 13) (node : BitVec 16) (s : State), (s.gate mid.toNat (R.FRS_NODE_SEL) false = .open_)) :=
  ⟨⟨{ adm with frs := { nodes := [(0, { kind := 0, port := 0 }), (20, { kind := 1, parent := 0, port := 0 }), (5000, { kind := 2, parent := 20, port := 0, slot := 1 })] } }, entry 0x0A00 [0x80001388], by decide +kernel⟩,
   ⟨{ adm with frs := { nodes := [(0, { kind := 0, port := 0 }), (20, { kind := 1, parent := 0, port := 0 }), (5000, { kind := 2, parent := 20, port := 0, slot := 1 })] } }, entry 0x0A00 [30, 0x02000014, 0], by decide +kernel⟩,
   ⟨{ adm with frs := { nodes := [(0, { kind := 0, port := 0 }), (20, { kind := 1, parent := 0, port := 0 }), (5000, { kind := 2, parent := 20, port := 0, slot := 1 })] } }, entry 0x0A01 [0x80001388], by decide +kernel⟩,
   ⟨{ adm with frs := { nodes := [(0, { kind := 0, port := 0 }), (20, { kind := 1, parent := 0, port := 0 }), (5000, { kind := 2, parent := 20, port := 0, slot := 1 })] } }, entry 0x0A01 [0x10001388, 1000, 2000, 4], by decide +kernel⟩,
   ⟨{ on with time := { on.time with running := true } }, by decide +kernel⟩,
   ⟨adm, entry 0x0A10 [0x00000002, 0x00000055, 100], by decide +kernel⟩,
   ⟨{ adm with frs := { gates := [(2, { admin := [(0, (255, 256000))] })] } }, entry 0x0A11 [0x00010002, 1000, 0, 0, 0, 0, 0], by decide +kernel⟩,
   ⟨0, { line with frs := { nodes := [(0, { kind := 0, port := 0 }), (8, { kind := 0, port := 8 })] } }, by decide +kernel⟩,
   ⟨8, { line with frs := { nodes := [(0, { kind := 0, port := 0 }), (8, { kind := 0, port := 8 })] } }, by decide +kernel⟩,
   ⟨2, { on with frs := { gates := [(2, { oper := { enable := true, entries := [(255, 9000)], cycle := 256000, overhead := 0, base := 0 } })] } }, by decide +kernel⟩,
   ⟨2, 0, { on with frs := { gates := [(2, { oper := { enable := true, entries := [(254, 9000)], cycle := 256000, overhead := 0, base := 0 } })], nodes := [(5000, { kind := 2, port := 2, frames := [{ pkt := {}, entered := 0 }] })] } }, by decide +kernel⟩,
   ⟨2, { enable := true, entries := [], cycle := 256000, overhead := 0, base := 0 }, 0, { on with frs := { gates := [(2, { pending := some ({ enable := true, entries := [], cycle := 256000, overhead := 0, base := 0 }, 0) })] } }, by decide +kernel⟩,
   ⟨2, { enable := false, entries := [], cycle := 256000, overhead := 0, base := 0 }, 0, { on with frs := { gates := [(2, { pending := some ({ enable := false, entries := [], cycle := 256000, overhead := 0, base := 0 }, 0) })] } }, by decide +kernel⟩,
   ⟨{ adm with frs := { subs := [(7, { owner := 0, first := 5000, count := 1, period := 10, ring := 8 })] } }, entry 0x0A20 [0x80000007], by decide +kernel⟩,
   ⟨{ { adm with queues := [(7, { state := 1, type := 1, iid := 0, loc := 0, sizeLog2 := 6, pi := 8 }), (8, { type := 5, state := 1, iid := 0, loc := 8, sizeLog2 := 6, pi := 1, evq := 9 }), (9, { type := 6, state := 1, iid := 0, loc := 9, sizeLog2 := 6, vector := 3 })] } with frs := { subs := [(7, { owner := 0, first := 5000, count := 1, period := 10, ring := 8 })], nodes := [(0, { kind := 0, port := 0 }), (20, { kind := 1, parent := 0, port := 0 }), (5000, { kind := 2, parent := 20, port := 0, slot := 1 })] } }, entry 0x0A20 [7, 0x00011388, 10, 8], by decide +kernel⟩,
   ⟨7, { owner := 0, first := 5000, count := 1, period := 10, ring := 8 }, 8, { { adm with queues := [(7, { state := 1, type := 1, iid := 0, loc := 0, sizeLog2 := 6, pi := 8 }), (8, { type := 5, state := 1, iid := 0, loc := 8, sizeLog2 := 6, pi := 1, evq := 9 }), (9, { type := 6, state := 1, iid := 0, loc := 9, sizeLog2 := 6, vector := 3 })] } with frs := { subs := [(7, { owner := 0, first := 5000, count := 1, period := 10, ring := 8 })], nodes := [(0, { kind := 0, port := 0 }), (20, { kind := 1, parent := 0, port := 0 }), (5000, { kind := 2, parent := 20, port := 0, slot := 1 })] } }, by decide +kernel⟩,
   ⟨0, 5000, { on with frs := { nodes := [(0, { kind := 0, port := 0 }), (20, { kind := 1, parent := 0, port := 0 }), (5000, { kind := 2, parent := 20, port := 0, slot := 1 })] } }, by decide +kernel⟩⟩

/-- States and operands that meet what PortCommands asks. -/
theorem witness_PortCommands :
    (Meets portModeSetSpec (fun c s => c.reserved [(0, 0xFF07)] = none ∧ c.p 0 % 8 ≤ 3 ∧ (c.p 0 % 8 = 3 ∨ field (c.p 0) 15 8 = 0) ∧ s.tst.underTest = [] ∧ s.retrainingAny = false)) ∧
    (∃ (port : Fin 8) (up : Bool) (s : State), (s.mainOn = true) ∧ (s.portExists port.val = true) ∧ ((s.port port.val).retraining = false) ∧ (up = false)) ∧
    (∃ (port : Fin 8) (up : Bool) (s : State), (s.mainOn = true) ∧ (s.portExists port.val = true) ∧ ((s.port port.val).retraining = true) ∧ ((s.port port.val).adminUp = true) ∧ ((s.port port.val).lanes ≠ []) ∧ (up = true)) ∧
    (Meets portCfgSpec (fun c s => c.reserved [(0, 0xF), (1, 0xF80FBFFF)] = none ∧ c.p 0 < 8 ∧ field (c.p 1) 16 15 ≠ 3 ∧ 1518 ≤ field (c.p 1) 13 0 ∧ field (c.p 1) 13 0 ≤ 9600 ∧ s.portExists (c.p 0) = true)) ∧
    (Meets portStatsReadSpec (fun c s => c.reserved [(0, 0x8000000F), (1, 0x7F007F)] = none ∧ c.indirect = false ∧ c.p 0 % 16 < 8 ∧ field (c.p 1) 6 0 ≠ 0 ∧ field (c.p 1) 22 16 + field (c.p 1) 6 0 ≤ 80 ∧ c.shortBlock (16 + 2 * field (c.p 1) 6 0) = false ∧ s.portExists (c.p 0 % 16) = true ∧ bitAt (c.p 0) 31 = false)) ∧
    (Meets portStatsReadSpec (fun c s => c.reserved [(0, 0x8000000F), (1, 0x7F007F)] = none ∧ c.indirect = false ∧ c.p 0 % 16 < 8 ∧ field (c.p 1) 6 0 ≠ 0 ∧ field (c.p 1) 22 16 + field (c.p 1) 6 0 ≤ 80 ∧ c.shortBlock (16 + 2 * field (c.p 1) 6 0) = false ∧ s.portExists (c.p 0 % 16) = true ∧ bitAt (c.p 0) 31 = true)) ∧
    (Meets portPfcCfgSpec (fun c s => c.reserved [(0, 0x8000070F)] = none ∧ c.p 0 % 16 < 8 ∧ s.portExists (c.p 0 % 16) = true ∧ bitAt (c.p 0) 31 = true ∧ c.p 2 < c.p 1 ∧ (s.port (c.p 0 % 16)).fcMode = 2 ∧
        (eraseKey (s.port (c.p 0 % 16)).lossless (field (c.p 0) 10 8)).foldl (fun n e => n + (e.2.headroom + 4095) / 4096) 0 + (c.p 3 + 4095) / 4096 ≤ (s.quota (0x800 + c.p 0 % 16)).min ∧ s.firstRefused [pfcClaim (c.p 0 % 16) c.mid] = none)) ∧
    (Meets portPfcCfgSpec (fun c s => c.reserved [(0, 0x8000070F)] = none ∧ c.p 0 % 16 < 8 ∧ s.portExists (c.p 0 % 16) = true ∧ bitAt (c.p 0) 31 = false ∧ (s.port (c.p 0 % 16)).xoffSent = [] ∧ (s.port (c.p 0 % 16)).lossless.length = 1 ∧ (lookup (s.port (c.p 0 % 16)).lossless (field (c.p 0) 10 8)).isSome = true ∧ eraseKey (s.port (c.p 0 % 16)).lossless (field (c.p 0) 10 8) = [])) ∧
    (∃ (port : Fin 8) (prio : Fin 8) (l : Lossless) (s : State), (lookup (s.port port.val).lossless prio.val = some l) ∧ ((s.port port.val).xoffSent.contains prio.val = true) ∧ ((s.port port.val).fcMode ≠ 0) ∧ (l.xon < s.account port.val prio.val)) ∧
    (∃ (port : Fin 8) (pfc : Bool) (enable : BitVec 8) (quanta : Vector (BitVec 16) 8) (s : State), (s.mainOn = true) ∧ (s.portExists port.val = true) ∧ ((s.port port.val).up = true) ∧ ((s.port port.val).passControl = false) ∧ (pfc = true)) ∧
    (∃ (port : Fin 8) (pfc : Bool) (enable : BitVec 8) (quanta : Vector (BitVec 16) 8) (s : State), (s.mainOn = true) ∧ (s.portExists port.val = true) ∧ ((s.port port.val).up = true) ∧ ((s.port port.val).passControl = false) ∧ (pfc = false)) :=
  ⟨⟨adm, entry 0x0B00 [2], by decide +kernel⟩,
   ⟨0, false, line, by decide +kernel⟩,
   ⟨0, true, { line with mac := { ports := [(0, { up := true, lanes := [0], retraining := true })] } }, by decide +kernel⟩,
   ⟨adm, entry 0x0B01 [0, 1518], by decide +kernel⟩,
   ⟨{ adm with mac := { ports := [(0, { up := true, lanes := [0], stats := [(1, 7)] })] } }, entry 0x0B02 [0, 0x10002], by decide +kernel⟩,
   ⟨{ adm with mac := { ports := [(0, { up := true, lanes := [0], stats := [(1, 7)] })] } }, entry 0x0B02 [0x80000000, 0x10002], by decide +kernel⟩,
   ⟨{ adm with mac := { ports := [(0, { up := true, lanes := [0], cfg := 0x80010600 })] } }, entry 0x0B03 [0x80000300, 100, 50, 0], by decide +kernel⟩,
   ⟨{ adm with mac := { ports := [(0, { up := true, lanes := [0], lossless := [(3, { xoff := 100, xon := 50, headroom := 0 })] })] } }, entry 0x0B03 [0x300], by decide +kernel⟩,
   ⟨0, 0, { xoff := 0, xon := 0, headroom := 0 }, { line with mac := { ports := [(0, { cfg := 0x80008600, up := true, lanes := [0], xoffSent := [0], lossless := [(0, { xoff := 0, xon := 0, headroom := 0 })] })] }, bpm := { line.bpm with bufs := [(0, { owner := some 0x800, charge := 0x800, bytes := 64 })] } }, by decide +kernel⟩,
   ⟨0, true, 9, Vector.replicate 8 5, line, by decide +kernel⟩,
   ⟨0, false, 9, Vector.replicate 8 5, line, by decide +kernel⟩⟩

/-- States and operands that meet what ManagementActs asks. -/
theorem witness_ManagementActs :
    (∃ (frame : List Byte) (s : State), (s.mgpUp = true) ∧ ((beNat (slice frame 0 6) ≠ s.mgp.mac ∧ beNat (slice frame 0 6) ≠ 2 ^ 48 - 1) ∨ beNat (slice frame 12 2) ≠ 0x88B5)) ∧
    (∃ (frame : List Byte) (s : State), (s.mgpUp = true) ∧ (beNat (slice frame 0 6) = s.mgp.mac) ∧ (beNat (slice frame 12 2) = 0x88B5) ∧ (beNat (slice frame 14 1) = 2) ∧ (beNat (slice frame 15 1) = 0) ∧ (s.mode = 0)) ∧
    (∃ (frame : List Byte) (s : State), (s.mgpUp = true) ∧ (beNat (slice frame 0 6) = s.mgp.mac) ∧ (beNat (slice frame 12 2) = 0x88B5) ∧ (beNat (slice frame 14 1) = 1) ∧ (beNat (slice frame 15 1) = 0)) ∧
    (∃ (frame : List Byte) (late : Bool) (s : State), (s.mgpUp = true) ∧ (s.mgpSpeed.2 = false) ∧ (late = true)) ∧
    (∃ (frame : List Byte) (late : Bool) (n : Nat) (b : Nat) (s : State), (s.mgpUp = true) ∧ (s.mgpSpeed.2 = false) ∧ (late = false) ∧ (s.mgp.sending = some (frame, n, b)) ∧ (n < 15)) ∧
    (∃ (frame : List Byte) (late : Bool) (n : Nat) (b : Nat) (s : State), (s.mgpUp = true) ∧ (s.mgpSpeed.2 = false) ∧ (late = false) ∧ (s.mgp.sending = some (frame, n, b)) ∧ (15 ≤ n)) ∧
    (∃ (f : List Byte) (n : Nat) (b : Nat) (s : State), (s.mgp.sending = some (f, n, b))) ∧
    (∃ (s : State), (s.rfb F.PWR_STATUS_aux_good = true)) ∧
    (∃ (src : BitVec 8) (setEid : Option Byte) (complete : Bool) (s : State), (s.mctpHost = .keeper) ∧ (complete = true) ∧ (s.mctpWaiting < 16)) ∧
    (∃ (src : BitVec 8) (setEid : Option Byte) (complete : Bool) (s : State), (s.mctpHost ≠ .nobody) ∧ (complete = false)) ∧
    (∃ (src : BitVec 8) (complete : Bool) (s : State), (s.mctpHost = .keeper) ∧ (complete = true) ∧ (s.mctpWaiting < 16)) ∧
    (∃ (src : BitVec 8) (complete : Bool) (s : State), (s.mctpHost ≠ .nobody) ∧ (complete = false)) ∧
    (∃ (src : BitVec 8) (entry : List Word) (complete : Bool) (s : State), (s.mctpHost = .keeper) ∧ (complete = true) ∧ (s.mctpWaiting < 16) ∧ (entry.length % 16 = 0) ∧ (entry ≠ []) ∧ (entry.length ≤ 64)) ∧
    (∃ (src : BitVec 8) (entry : List Word) (complete : Bool) (s : State), (s.mctpHost = .keeper) ∧ (complete = true) ∧ (s.mctpWaiting < 16) ∧ (entry.length % 16 ≠ 0 ∨ entry = [] ∨ 64 < entry.length)) ∧
    (∃ (src : BitVec 8) (s : State), (s.mctpHost = .supervisor) ∧ (s.boot.wakeArmed = true)) ∧
    (∃ (src : BitVec 8) (s : State), (s.mctpHost = .keeper) ∧ (s.mctpWaiting < 16)) ∧
    (∃ (src : BitVec 8) (offset : Word) (bytes : List Byte) (s : State), (s.mctpHost = .loader) ∧ (offset.toNat % 4 = 0) ∧ (bytes.length % 4 = 0) ∧ (4 ≤ bytes.length) ∧ (bytes.length ≤ 1016) ∧ (offset.toNat + bytes.length ≤ 33554432)) :=
  ⟨⟨(beBytes 6 (5) ++ beBytes 6 1 ++ beBytes 2 0x0800 ++ [1] ++ [0]), mgpOn, by decide +kernel⟩,
   ⟨(beBytes 6 (mgpOn.mgp.mac) ++ beBytes 6 1 ++ beBytes 2 0x88B5 ++ [2] ++ [0]), mgpOn, by decide +kernel⟩,
   ⟨(beBytes 6 (mgpOn.mgp.mac) ++ beBytes 6 1 ++ beBytes 2 0x88B5 ++ [1] ++ [0]), mgpOn, by decide +kernel⟩,
   ⟨[1], true, mgpHalf, by decide +kernel⟩,
   ⟨[1], false, 3, 2, { mgpHalf with mgp := { mgpHalf.mgp with sending := some ([1], 3, 2) } }, by decide +kernel⟩,
   ⟨[1], false, 15, 2, { mgpHalf with mgp := { mgpHalf.mgp with sending := some ([1], 15, 2) } }, by decide +kernel⟩,
   ⟨[1], 3, 2, { on with mgp := { on.mgp with sending := some ([1], 3, 2) } }, by decide +kernel⟩,
   ⟨on, by decide +kernel⟩,
   ⟨9, none, true, on, by decide +kernel⟩,
   ⟨9, none, false, on, by decide +kernel⟩,
   ⟨9, true, on, by decide +kernel⟩,
   ⟨9, false, on, by decide +kernel⟩,
   ⟨9, List.replicate 16 0#32, true, on, by decide +kernel⟩,
   ⟨9, List.replicate 15 0#32, true, on, by decide +kernel⟩,
   ⟨9, supv, by decide +kernel⟩,
   ⟨9, on, by decide +kernel⟩,
   ⟨9, 8, [1, 2, 3, 4], (on.setF F.GLB_MODE_rom_recovery 1), by decide +kernel⟩⟩

/-- States and operands that meet what TimeActs asks. -/
theorem witness_TimeActs :
    (Meets timeAdjustSpec (fun c s => c.reserved [(0, 3)] = none ∧ (s.spr.timeFollow = false ∨ s.spr.timeRoot = true) ∧ c.p 0 = 0 ∧ c.p 2 < 2 ^ 16 ∧ c.p 3 < 10 ^ 9 ∧ c.p 4 < 256)) ∧
    (Meets timeAdjustSpec (fun c s => c.reserved [(0, 3)] = none ∧ (s.spr.timeFollow = false ∨ s.spr.timeRoot = true) ∧ c.p 0 = 1)) ∧
    (Meets timeAdjustSpec (fun c s => c.reserved [(0, 3)] = none ∧ (s.spr.timeFollow = false ∨ s.spr.timeRoot = true) ∧ c.p 0 = 2 ∧ rateOk (sint32 (c.p 1)) s.time.slew = true)) ∧
    (Meets timeAdjustSpec (fun c s => c.reserved [(0, 3)] = none ∧ (s.spr.timeFollow = false ∨ s.spr.timeRoot = true) ∧ c.p 0 = 3 ∧ s.rfb F.TIM_STATUS_time_valid = true ∧ c.p 3 ≠ 0 ∧ rateOk s.time.freq (some (sint64 (c.p 1 + c.p 2 * 2 ^ 32), c.p 3)) = true)) ∧
    (∃ (s : State), (s.time.slew.isSome = true)) ∧
    (∃ (mid : BitVec 13) (s : State), (s.gate mid.toNat (R.TIM_SNAP_CTL) false = .open_)) ∧
    (∃ (mid : BitVec 13) (index : BitVec 16) (s : State), (s.gate mid.toNat (R.TIM_SIDE_SEL) false = .open_)) ∧
    (Meets timePpsCfgSpec (fun c s => c.reserved [(0, 0x800003FF)] = none ∧ bitAt (c.p 0) 31 = true ∧ field (c.p 0) 9 0 ≠ 0 ∧ field (c.p 0) 9 0 ≤ 1000 ∧ 1000 % field (c.p 0) 9 0 = 0 ∧ 100 ≤ c.p 1 ∧ c.p 1 ≤ field (c.p 0) 9 0 * 500000 ∧
        s.firstRefused [(0x01000000, holderWord 0x14 0x01 c.mid)] = none)) ∧
    (Meets timePpsCfgSpec (fun c s => c.reserved [(0, 0x800003FF)] = none ∧ bitAt (c.p 0) 31 = false ∧ s.rfb F.TIM_PPS_STATUS_enabled = true)) ∧
    (∃ (wholeSecond : Bool) (s : State), (s.rfb F.TIM_PPS_STATUS_enabled = true) ∧ (s.time.ppsBall = true)) ∧
    (∃ (wholeSecond : Bool) (s : State), (s.rfb F.TIM_PPS_STATUS_enabled = true) ∧ (s.time.ppsBall = false) ∧ (wholeSecond = true)) ∧
    (∃ (falling : Bool) (s : State), (s.rfb F.TIM_IN_CFG_enable = true) ∧ (s.rfb F.TIM_IN_CFG_falling = falling) ∧ (s.mainOn = true)) ∧
    (∃ (s : State), (s.rfb F.TIM_PTM_CFG_enable = true) ∧ (s.mainOn = true)) ∧
    (∃ (h : Dword) (s : State), (s.rfb F.TIM_PTM_CFG_enable = true) ∧ (s.mainOn = true)) :=
  ⟨⟨adm, entry 0x0B10 [0, 100, 0, 5, 0], by decide +kernel⟩,
   ⟨adm, entry 0x0B10 [1, 100, 0], by decide +kernel⟩,
   ⟨adm, entry 0x0B10 [2, 100], by decide +kernel⟩,
   ⟨(adm.setF F.TIM_STATUS_time_valid 1), entry 0x0B10 [3, 100, 0, 1000000], by decide +kernel⟩,
   ⟨{ on with time := { on.time with slew := some (5, 5) } }, by decide +kernel⟩,
   ⟨0, on, by decide +kernel⟩,
   ⟨0, 7, on, by decide +kernel⟩,
   ⟨adm, entry 0x0B11 [0x80000064, 1000], by decide +kernel⟩,
   ⟨(adm.setF F.TIM_PPS_STATUS_enabled 1), entry 0x0B11 [0], by decide +kernel⟩,
   ⟨true, ({ on with time := { on.time with ppsBall := true } }.setF F.TIM_PPS_STATUS_enabled 1), by decide +kernel⟩,
   ⟨true, (on.setF F.TIM_PPS_STATUS_enabled 1), by decide +kernel⟩,
   ⟨false, (on.setF F.TIM_IN_CFG_enable 1), by decide +kernel⟩,
   ⟨(on.setF F.TIM_PTM_CFG_enable 1), by decide +kernel⟩,
   ⟨77, (on.setF F.TIM_PTM_CFG_enable 1), by decide +kernel⟩⟩

/-- States and operands that meet what DaymarkActs asks. -/
theorem witness_DaymarkActs :
    (Meets timeDaymarkAlarmSpec (fun c s => c.reserved [(0, 0xE0000000), (2, 0xFFFF)] = none ∧ bitAt (c.p 0) 31 = false)) ∧
    (Meets timeDaymarkAlarmSpec (fun c s => c.reserved [(0, 0xE0000000), (2, 0xFFFF)] = none ∧ bitAt (c.p 0) 31 = true ∧ s.dmSec < c.p 1 + c.p 2 * 2 ^ 32 ∧ bitAt (c.p 0) 30 = true ∧ s.firstRefused [(0x01000000, holderWord 0x14 0x02 c.mid)] = none)) ∧
    (Meets timeDaymarkAlarmSpec (fun c s => c.reserved [(0, 0xE0000000), (2, 0xFFFF)] = none ∧ bitAt (c.p 0) 31 = true ∧ s.dmSec < c.p 1 + c.p 2 * 2 ^ 32 ∧ bitAt (c.p 0) 30 = false ∧ s.time.alarmBall = false)) ∧
    (∃ (s : State), (s.rfb F.TIM_DM_STATUS_alarm_enabled = true)) ∧
    (∃ (s : State), (s.reg R.TIM_DM_CFG % 2 = 1) ∧ (s.rfb F.TIM_STATUS_time_valid = true) ∧ ((s.dmSec * 2 ^ 15 + s.rf F.TIM_DM_SUB_v + 1) * (10 ^ 9 * 2 ^ 17) < s.now)) ∧
    (∃ (s : State), (s.mainOn = false) ∧ (s.rfb F.PWR_STATUS_aux_good = false)) ∧
    (Meets calTableWriteSpec (fun c s => bitAt (wd c.entry 0) 18 = true ∧ c.reserved [(0, 1)] = none ∧ s.firstRefused [(0x04000030, holderWord 0x14 0x03 c.mid)] = none)) ∧
    (∃ (p : PendCmd) (s : State), (s.findPend (·.cmd.opcode = 0x0B21) = some p) ∧ (bitAt (wd p.cmd.params 0) 0 = true)) ∧
    (Meets calTableReadSpec (fun c s => c.reserved [(0, 0x80000003)] = none ∧ bitAt (c.p 0) 31 = false ∧ c.p 3 % 4 = 0 ∧ c.p 4 ≤ 192)) ∧
    (Meets calTableReadSpec (fun c s => c.reserved [(0, 0x80000003)] = none ∧ bitAt (c.p 0) 31 = true ∧ c.fromManager = true ∧ c.p 3 % 4 = 0 ∧ c.p 4 ≤ 262144)) :=
  ⟨⟨adm, entry 0x0B12 [0], by decide +kernel⟩,
   ⟨adm, entry 0x0B12 [0xE0000000, 100], by decide +kernel⟩,
   ⟨adm, entry 0x0B12 [0xA0000000, 100], by decide +kernel⟩,
   ⟨({ on with time := { on.time with alarmBall := true, alarmWake := true } }.setF F.TIM_DM_STATUS_alarm_enabled 1), by decide +kernel⟩,
   ⟨(({ on with time := { on.time with running := true, t := 5 * 10 ^ 9 * 2 ^ 32 } }.setF F.TIM_STATUS_time_valid 1).setReg R.TIM_DM_CFG 1), by decide +kernel⟩,
   ⟨State.reset, by decide +kernel⟩,
   ⟨adm, entryI 0x0B21 ([1] ++ List.replicate 79 0), by decide +kernel⟩,
   ⟨{ cmd := cmdOf adm (entry 0xB21 [1]) 0xB21 0, locks := [], note := [] }, { adm with cmds := { adm.cmds with pend := [{ cmd := cmdOf adm (entry 0xB21 [1]) 0xB21 0, locks := [], note := [] }] } }, by decide +kernel⟩,
   ⟨adm, entryU 5 0x0B20 [3, 0, 0, 0, 8], by decide +kernel⟩,
   ⟨adm, entry 0x0B20 [0x80000003, 4096, 0, 0, 8], by decide +kernel⟩⟩

/-- States and operands that meet what RegionCommands asks. -/
theorem witness_RegionCommands :
    (Meets lanRegionAssignSpec (fun c s => bitAt (c.p 0) 31 = true ∧ c.reserved [(0, 0x87FF000F)] = none ∧ ((s.region (c.p 0 % 16)).state = 1 ∨ (s.region (c.p 0 % 16)).state = 8))) ∧
    (Meets lanRegionAssignSpec (fun c s => bitAt (c.p 0) 31 = false ∧ c.reserved [(0, 0x87FF000F), (1, 0x3FFFFF), (2, 0x3FFFFF)] = none ∧ 1 ≤ c.p 2 ∧ c.p 2 ≤ 2097151 ∧ (s.region (c.p 0 % 16)).state = 0 ∧ field (c.p 0) 26 16 = 0 ∧
        c.p 1 + c.p 2 ≤ (s.rangeOf 0).2 ∧ s.lanternShort 0 + b2n (!s.isRetired (0x600 + c.p 0 % 16)) ≤ s.freeRegions)) ∧
    (∃ (s : State) (e : AdminEntry), s.accepts lanImageLoadSpec e = true ∧ (s.heard lanImageLoadSpec e).reserved [(0, 0x8000000F), (4, 0xFFFFF800)] = none ∧ bitAt ((s.heard lanImageLoadSpec e).p 0) 31 = false ∧
        (s.region ((s.heard lanImageLoadSpec e).p 0 % 16)).state = 1 ∧ (s.region ((s.heard lanImageLoadSpec e).p 0 % 16)).renter = (s.heard lanImageLoadSpec e).target ∧
        (s.heard lanImageLoadSpec e).p 1 % 64 = 0 ∧ (s.heard lanImageLoadSpec e).p 3 ≠ 0 ∧ s.isRetired (0x600 + (s.heard lanImageLoadSpec e).p 0 % 16) = false ∧
        (s.taken lanImageLoadSpec e).firstRefused [(lanLock ((s.heard lanImageLoadSpec e).p 0 % 16), holderWord 0x15 0x01 (s.heard lanImageLoadSpec e).mid)] = none) ∧
    (Meets lanRegionQuiesceSpec (fun c s => c.reserved [(0, 0x8000000F)] = none ∧ bitAt (c.p 0) 31 = true ∧ (s.region (c.p 0 % 16)).state = 5 ∧ (s.region (c.p 0 % 16)).renter = c.target)) ∧
    (Meets lanRegionQuiesceSpec (fun c s => c.reserved [(0, 0x8000000F)] = none ∧ bitAt (c.p 0) 31 = false ∧ (s.region (c.p 0 % 16)).state = 3 ∧ (s.region (c.p 0 % 16)).renter = c.target)) ∧
    (Meets lanRegionUnloadSpec (fun c s => c.reserved [(0, 0xF)] = none ∧ (s.region (c.p 0)).state = 3 ∧ (s.region (c.p 0)).renter = c.target ∧ s.cmds.pend = [])) ∧
    (Meets lanRegionUnloadSpec (fun c s => c.reserved [(0, 0xF)] = none ∧ ((s.region (c.p 0)).state = 5 ∨ (s.region (c.p 0)).state = 7) ∧ (s.region (c.p 0)).renter = c.target ∧ s.cmds.pend = [])) ∧
    (Meets lanPowerCapSpec (fun c s => c.reserved [(0, 0x3F0F)] = none ∧ (s.region (c.p 0 % 16)).state ≠ 0 ∧ (s.region (c.p 0 % 16)).renter = c.target ∧ 8 ≤ field (c.p 0) 13 8 ∧ field (c.p 0) 13 8 ≤ 32 ∧
        ((s.region (c.p 0 % 16)).image.map (·.minCap)).getD 0 ≤ field (c.p 0) 13 8 ∧ s.capOthers (c.p 0 % 16) + field (c.p 0) 13 8 ≤ s.lan.allowance)) ∧
    (Meets lanAllowanceSetSpec (fun c s => c.reserved [(0, 0x1FF)] = none ∧ c.p 0 ≤ 312 ∧ s.capSum ≤ c.p 0)) ∧
    (Meets lanTapCfgSpec (fun c s => c.reserved [(0, 0x30F), (1, 0x8000FFFF), (2, 0x7FF), (3, 0xFFFF)] = none ∧ (s.region (c.p 0 % 16)).state ≠ 0 ∧ (s.region (c.p 0 % 16)).renter = c.target ∧ field (c.p 0) 9 8 < 2 ∧ c.p 1 % 2 ^ 16 ≠ 0 ∧
        1 ≤ c.p 2 ∧ c.p 2 ≤ 1024)) :=
  ⟨⟨{ adm with lan := { adm.lan with regions := [(3, { state := 1 })] } }, entry 0x0C00 [0x80000003], by decide +kernel⟩,
   ⟨{ adm with pgr := { ranges := [(0, (600, 8))] } }, entry 0x0C00 [3, 1, 2], by decide +kernel⟩,
   ⟨{ adm with lan := { adm.lan with regions := [(3, { state := 1 })] } }, entry 0x0C01 [3, 64, 0, 1216, 0], by decide +kernel⟩,
   ⟨{ adm with lan := { adm.lan with regions := [(3, { state := 5, image := some { imageId := 9, clock := 400, minCap := 8, ports := 255, initTimeout := 1000, svn := 2, keySlot := 1 } })] } }, entry 0x0C02 [0x80000003], by decide +kernel⟩,
   ⟨{ adm with lan := { adm.lan with regions := [(3, { state := 3, image := some { imageId := 9, clock := 400, minCap := 8, ports := 255, initTimeout := 1000, svn := 2, keySlot := 1 } })] } }, entry 0x0C02 [3], by decide +kernel⟩,
   ⟨{ adm with lan := { adm.lan with regions := [(3, { state := 3, image := some { imageId := 9, clock := 400, minCap := 8, ports := 255, initTimeout := 1000, svn := 2, keySlot := 1 } })] } }, entry 0x0C03 [3], by decide +kernel⟩,
   ⟨{ adm with lan := { adm.lan with regions := [(3, { state := 5, image := some { imageId := 9, clock := 400, minCap := 8, ports := 255, initTimeout := 1000, svn := 2, keySlot := 1 } })] } }, entry 0x0C03 [3], by decide +kernel⟩,
   ⟨{ adm with lan := { adm.lan with regions := [(3, { state := 1 })] } }, entry 0x0C04 [0x0803], by decide +kernel⟩,
   ⟨adm, entry 0x0C05 [200], by decide +kernel⟩,
   ⟨{ adm with lan := { adm.lan with regions := [(3, { state := 1 })] } }, entry 0x0C06 [0x103, 0x80000010, 8, 0xFFFF], by decide +kernel⟩⟩

/-- States and operands that meet what RegionActs asks. -/
theorem witness_RegionActs :
    (∃ (region : Fin 16) (stream : Fin 3) (token : BitVec 16) (mark : BitVec 16) (verdict : Word) (bytes : List Byte) (f : InFlight) (s : State), ((s.region region.val).live stream.val = true) ∧ (stream.val ≤ 2) ∧ (token.toNat / 4096 ≠ 15) ∧ (lookup (s.region region.val).flight (token.toNat % 4096) = some f) ∧ (f.seq = token.toNat / 4096) ∧ (f.tap = stream.val) ∧ (bitAt verdict.toNat 28 = true)) ∧
    (∃ (region : Fin 16) (stream : Fin 3) (token : BitVec 16) (mark : BitVec 16) (verdict : Word) (bytes : List Byte) (s : State), ((s.region region.val).live stream.val = true) ∧ (stream.val ≤ 2) ∧ (token.toNat / 4096 ≠ 15) ∧ (lookup (s.region region.val).flight (token.toNat % 4096) = none) ∧ ((s.region region.val).late.contains (token.toNat % 4096 * 16 + token.toNat / 4096) = false)) ∧
    (∃ (region : Fin 16) (token : BitVec 16) (mark : BitVec 16) (verdict : Word) (bytes : List Byte) (s : State), ((s.region region.val).live 2 = true) ∧ (token.toNat / 4096 = 15)) ∧
    (∃ (region : Fin 16) (slot : BitVec 12) (f : InFlight) (s : State), (lookup (s.region region.val).flight slot.toNat = some f)) ∧
    (∃ (region : Fin 16) (write : Bool) (addr : BitVec 36) (lines : Fin 64) (tag : Fin 64) (data : List Byte) (s : State), ((s.region region.val).live 3 = true) ∧ ((s.region region.val).waits.any (·.tag = tag.val) = true)) ∧
    (∃ (region : Fin 16) (write : Bool) (addr : BitVec 36) (lines : Fin 64) (tag : Fin 64) (data : List Byte) (s : State), ((s.region region.val).live 3 = true) ∧ ((s.region region.val).waits.any (·.tag = tag.val) = false) ∧ (4096 < addr.toNat * 64 % 4096 + (lines.val + 1) * 64)) ∧
    (∃ (region : Fin 16) (addr : BitVec 36) (lines : Fin 64) (tag : Fin 64) (data : List Byte) (s : State), ((s.region region.val).live 3 = true) ∧ ((s.region region.val).waits = []) ∧ (addr.toNat * 64 % 4096 + (lines.val + 1) * 64 ≤ 4096) ∧ (s.reachWaits (0x800 + region.val) (addr.toNat * 64) = false)) ∧
    (∃ (region : Fin 16) (addr : BitVec 36) (lines : Fin 64) (tag : Fin 64) (data : List Byte) (s : State), ((s.region region.val).live 3 = true) ∧ ((s.region region.val).waits = []) ∧ (addr.toNat * 64 % 4096 + (lines.val + 1) * 64 ≤ 4096) ∧ (s.reachWaits (0x800 + region.val) (addr.toNat * 64) = false)) ∧
    (∃ (region : Fin 16) (write : Bool) (addr : BitVec 36) (lines : Fin 64) (tag : Fin 64) (data : List Byte) (s : State), ((s.region region.val).live 3 = true) ∧ ((s.region region.val).waits = []) ∧ (addr.toNat * 64 % 4096 + (lines.val + 1) * 64 ≤ 4096) ∧ (s.reachWaits (0x800 + region.val) (addr.toNat * 64) = true)) ∧
    (∃ (mid : BitVec 13) (region : Fin 16) (reg : BitVec 12) (answer : Word) (s : State), (windowMid mid.toNat = true) ∧ ((s.region region.val).state = 3) ∧ ((s.region region.val).live 6 = true)) ∧
    (∃ (mid : BitVec 13) (region : Fin 16) (reg : BitVec 12) (value : Word) (answer : Word) (s : State), (windowMid mid.toNat = true) ∧ ((s.region region.val).state = 3) ∧ ((s.region region.val).live 6 = true)) ∧
    (∃ (mid : BitVec 13) (region : Fin 16) (reg : BitVec 12) (s : State), (windowMid mid.toNat = true)) ∧
    (∃ (mid : BitVec 13) (region : Fin 16) (reg : BitVec 12) (value : Word) (s : State), (windowMid mid.toNat = true)) ∧
    (∃ (region : Fin 16) (s : State), ((s.region region.val).live 7 = true)) ∧
    (∃ (region : Fin 16) (i : FenxonImage) (s : State), ((s.region region.val).staging = none) ∧ ((s.region region.val).state = 2) ∧ ((s.region region.val).incoming = some i) ∧ (s.lanPend 0x0C01 region.val = none)) ∧
    (∃ (region : Fin 16) (s : State), ((s.region region.val).staging = none) ∧ ((s.region region.val).state = 2) ∧ ((s.region region.val).incoming.isSome = true)) ∧
    (∃ (region : Fin 16) (readback : Bool) (s : State), ((s.region region.val).staging = none) ∧ ((s.region region.val).state = 4) ∧ ((s.region region.val).flight = []) ∧ ((s.region region.val).waits = []) ∧ ((s.region region.val).quiesce = some .rest)) ∧
    (∃ (region : Fin 16) (readback : Bool) (s : State), ((s.region region.val).staging = none) ∧ ((s.region region.val).state = 4) ∧ ((s.region region.val).flight = []) ∧ ((s.region region.val).waits = []) ∧ ((s.region region.val).quiesce = some .unload)) ∧
    (∃ (region : Fin 16) (readback : Bool) (s : State), ((s.region region.val).staging = none) ∧ ((s.region region.val).state = 4)) :=
  ⟨⟨3, 1, 0x4005, 8, 0x90000000, [], { seq := 4, tap := 1, pkt := { data := List.replicate 64 1#8 } }, { on with lan := { on.lan with regions := [(3, { state := 3, image := some { imageId := 9, clock := 400, minCap := 8, ports := 255, initTimeout := 1000, svn := 2, keySlot := 1 }, flight := [(5, { seq := 4, tap := 1, pkt := { data := List.replicate 64 1#8 } })] })] } }, by decide +kernel⟩,
   ⟨3, 1, 0x4005, 8, 0, [], { on with lan := { on.lan with regions := [(3, { state := 3, image := some { imageId := 9, clock := 400, minCap := 8, ports := 255, initTimeout := 1000, svn := 2, keySlot := 1 } })] } }, by decide +kernel⟩,
   ⟨3, 0xF000, 0, 0, [], { on with lan := { on.lan with regions := [(3, { state := 3, image := some { imageId := 9, clock := 400, minCap := 8, ports := 255, initTimeout := 1000, svn := 2, keySlot := 1 } })] } }, by decide +kernel⟩,
   ⟨3, 5, { seq := 4, tap := 1, pkt := { data := List.replicate 64 1#8 } }, { on with lan := { on.lan with regions := [(3, { state := 3, image := some { imageId := 9, clock := 400, minCap := 8, ports := 255, initTimeout := 1000, svn := 2, keySlot := 1 }, flight := [(5, { seq := 4, tap := 1, pkt := { data := List.replicate 64 1#8 } })] })] } }, by decide +kernel⟩,
   ⟨3, false, 63, 1, 2, [], { on with lan := { on.lan with regions := [(3, { state := 3, image := some { imageId := 9, clock := 400, minCap := 8, ports := 255, initTimeout := 1000, svn := 2, keySlot := 1 }, waits := [{ write := false, off := 0, n := 64, tag := 2, data := [] }] })] } }, by decide +kernel⟩,
   ⟨3, false, 63, 1, 2, [], { on with lan := { on.lan with regions := [(3, { state := 3, image := some { imageId := 9, clock := 400, minCap := 8, ports := 255, initTimeout := 1000, svn := 2, keySlot := 1 } })] } }, by decide +kernel⟩,
   ⟨3, 0, 0, 2, [], lanMem, by decide +kernel⟩,
   ⟨3, 0, 0, 2, [], lanMem, by decide +kernel⟩,
   ⟨3, true, 0, 0, 2, [], ({ on with lan := { on.lan with regions := [(3, { state := 3, image := some { imageId := 9, clock := 400, minCap := 8, ports := 255, initTimeout := 1000, svn := 2, keySlot := 1 } })] }, pgr := { ranges := [(0x803, (600, 1))], pages := [(600 * 512, { home := .host 2 3 })] } }.setReg R.HST_LINK_STATUS 0), by decide +kernel⟩,
   ⟨0, 3, 4, 7, { on with lan := { on.lan with regions := [(3, { state := 3, image := some { imageId := 9, clock := 400, minCap := 8, ports := 255, initTimeout := 1000, svn := 2, keySlot := 1 } })] } }, by decide +kernel⟩,
   ⟨0, 3, 4, 9, 7, { on with lan := { on.lan with regions := [(3, { state := 3, image := some { imageId := 9, clock := 400, minCap := 8, ports := 255, initTimeout := 1000, svn := 2, keySlot := 1 } })] } }, by decide +kernel⟩,
   ⟨0, 3, 4, { on with lan := { on.lan with regions := [(3, { state := 3, image := some { imageId := 9, clock := 400, minCap := 8, ports := 255, initTimeout := 1000, svn := 2, keySlot := 1 } })] } }, by decide +kernel⟩,
   ⟨0, 3, 4, 9, { on with lan := { on.lan with regions := [(3, { state := 3, image := some { imageId := 9, clock := 400, minCap := 8, ports := 255, initTimeout := 1000, svn := 2, keySlot := 1 } })] } }, by decide +kernel⟩,
   ⟨3, { on with lan := { on.lan with regions := [(3, { state := 3, image := some { imageId := 9, clock := 400, minCap := 8, ports := 255, initTimeout := 1000, svn := 2, keySlot := 1 } })] } }, by decide +kernel⟩,
   ⟨3, { imageId := 9, clock := 400, minCap := 8, ports := 255, initTimeout := 1000, svn := 2, keySlot := 1 }, { on with lan := { on.lan with regions := [(3, { state := 2, incoming := some { imageId := 9, clock := 400, minCap := 8, ports := 255, initTimeout := 1000, svn := 2, keySlot := 1 } })] } }, by decide +kernel⟩,
   ⟨3, { on with lan := { on.lan with regions := [(3, { state := 2, incoming := some { imageId := 9, clock := 400, minCap := 8, ports := 255, initTimeout := 1000, svn := 2, keySlot := 1 } })] } }, by decide +kernel⟩,
   ⟨3, true, { on with lan := { on.lan with regions := [(3, { state := 4, quiesce := some .rest })] } }, by decide +kernel⟩,
   ⟨3, true, { on with lan := { on.lan with regions := [(3, { state := 4, quiesce := some .unload })] } }, by decide +kernel⟩,
   ⟨3, true, { on with lan := { on.lan with regions := [(3, { state := 4, quiesce := some .rest })] } }, by decide +kernel⟩⟩

/-- States and operands that meet what RegionPowerActs asks. -/
theorem witness_RegionPowerActs :
    (∃ (region : Fin 16) (corrected : BitVec 16) (uncorrectable : Bool) (s : State), (3 ≤ (s.region region.val).state) ∧ ((s.region region.val).state ≤ 5) ∧ (uncorrectable = false)) ∧
    (∃ (region : Fin 16) (corrected : BitVec 16) (uncorrectable : Bool) (s : State), (3 ≤ (s.region region.val).state) ∧ ((s.region region.val).state ≤ 5) ∧ (uncorrectable = true)) ∧
    (∃ (region : Fin 16) (sample : BitVec 12) (s : State), (3 ≤ (s.region region.val).state) ∧ ((s.region region.val).state ≤ 5) ∧ (4 * sample.toNat ≤ 3 * s.cap5 (s.region region.val)) ∧ ((s.region region.val).stage ≠ 0)) ∧
    (∃ (region : Fin 16) (sample : BitVec 12) (s : State), (3 ≤ (s.region region.val).state) ∧ ((s.region region.val).state ≤ 5) ∧ (3 * s.cap5 (s.region region.val) < 4 * sample.toNat)) ∧
    (∃ (region : Fin 16) (s : State), ((s.region region.val).stage = 1) ∧ (s.cap5 (s.region region.val) < 2 * (s.region region.val).avg) ∧ ((s.region region.val).state = 3)) ∧
    (∃ (region : Fin 16) (s : State), ((s.region region.val).avg * 20 ≤ s.cap5 (s.region region.val) * 9) ∧ ((s.region region.val).stage = 1)) ∧
    (∃ (region : Fin 16) (i : FenxonImage) (s : State), ((s.region region.val).avg * 20 ≤ s.cap5 (s.region region.val) * 9) ∧ ((s.region region.val).stage = 2) ∧ ((s.region region.val).state = 3) ∧ ((s.region region.val).image = some i)) ∧
    (∃ (region : Fin 16) (s : State), ((s.region region.val).stage = 2) ∧ (s.cap5 (s.region region.val) < 2 * (s.region region.val).avg) ∧ ((s.region region.val).clock ≤ 100) ∧ ((s.region region.val).state = 3)) ∧
    (∃ (port : Fin 8) (bytes : List Byte) (s : State), (s.lineOpen port.val = true) ∧ (lookup s.pipe.arriving port.val = none)) ∧
    (∃ (port : Fin 8) (fcsGood : Bool) (k : Nat) (bytes : List Byte) (s : State), (lookup s.pipe.arriving port.val = some (k, bytes, false)) ∧ (k ≠ 0)) ∧
    (∃ (port : Fin 8) (fcsGood : Bool) (k : Nat) (bytes : List Byte) (s : State), (lookup s.pipe.arriving port.val = some (k, bytes, true))) ∧
    (∃ (page : BitVec 30) (ecc : EccResult) (s : State), ((s.page page.toNat).filling = true) ∧ ((s.page page.toNat).cached.isSome = true)) ∧
    (∃ (page : BitVec 30) (ecc : EccResult) (f : Nat) (s : State), ((s.page page.toNat).home = .ddr f) ∧ ((s.page page.toNat).filling = true) ∧ ((s.page page.toNat).cached = none) ∧ (((s.eccRead (f * 4096) ecc).page page.toNat).poisoned = false)) ∧
    (∃ (place : BitVec 16) (x : Parked) (s : State), (s.pgr.parked[place.toNat]? = some x)) :=
  ⟨⟨3, 1, false, { on with lan := { on.lan with regions := [(3, { state := 3, image := some { imageId := 9, clock := 400, minCap := 8, ports := 255, initTimeout := 1000, svn := 2, keySlot := 1 } })] } }, by decide +kernel⟩,
   ⟨3, 0, true, { on with lan := { on.lan with regions := [(3, { state := 3, image := some { imageId := 9, clock := 400, minCap := 8, ports := 255, initTimeout := 1000, svn := 2, keySlot := 1 } })] } }, by decide +kernel⟩,
   ⟨3, 10, { on with lan := { on.lan with regions := [(3, { state := 3, image := some { imageId := 9, clock := 400, minCap := 8, ports := 255, initTimeout := 1000, svn := 2, keySlot := 1 }, stage := 1 })] } }, by decide +kernel⟩,
   ⟨3, 4000, { on with lan := { on.lan with regions := [(3, { state := 3, image := some { imageId := 9, clock := 400, minCap := 8, ports := 255, initTimeout := 1000, svn := 2, keySlot := 1 } })] } }, by decide +kernel⟩,
   ⟨3, { on with lan := { on.lan with regions := [(3, { state := 3, image := some { imageId := 9, clock := 400, minCap := 8, ports := 255, initTimeout := 1000, svn := 2, keySlot := 1 }, stage := 1, clock := 400, samples := List.replicate 64 4000 })] } }, by decide +kernel⟩,
   ⟨3, { on with lan := { on.lan with regions := [(3, { state := 3, image := some { imageId := 9, clock := 400, minCap := 8, ports := 255, initTimeout := 1000, svn := 2, keySlot := 1 }, stage := 1 })] } }, by decide +kernel⟩,
   ⟨3, { imageId := 9, clock := 400, minCap := 8, ports := 255, initTimeout := 1000, svn := 2, keySlot := 1 }, { on with lan := { on.lan with regions := [(3, { state := 3, image := some { imageId := 9, clock := 400, minCap := 8, ports := 255, initTimeout := 1000, svn := 2, keySlot := 1 }, stage := 2, clock := 100 })] } }, by decide +kernel⟩,
   ⟨3, { on with lan := { on.lan with regions := [(3, { state := 3, image := some { imageId := 9, clock := 400, minCap := 8, ports := 255, initTimeout := 1000, svn := 2, keySlot := 1 }, stage := 2, clock := 100, samples := List.replicate 64 4000 })] } }, by decide +kernel⟩,
   ⟨0, [], line, by decide +kernel⟩,
   ⟨0, true, 4, [], { line with pipe := { arriving := [(0, (4, [], false))] } }, by decide +kernel⟩,
   ⟨0, true, 0, [], { line with pipe := { arriving := [(0, (0, [], true))] } }, by decide +kernel⟩,
   ⟨600, .good, { on with pgr := { pages := [(600, { home := .ddr 7, filling := true, cached := some 3 })] } }, by decide +kernel⟩,
   ⟨600, .good, 7, { on with pgr := { pages := [(600, { home := .ddr 7, filling := true })] } }, by decide +kernel⟩,
   ⟨0, parkd, { on with pgr := { parked := [parkd] } }, by decide +kernel⟩⟩

/-- States and operands that meet what FabricActs asks. -/
theorem witness_FabricActs :
    (∃ (port : Fin 4) (up : Bool) (s : State), (s.mainOn = true) ∧ ((s.sport port.val).up = false) ∧ (s.sparLost port.val ≠ 2) ∧ (up = true)) ∧
    (∃ (port : Fin 4) (up : Bool) (s : State), (s.mainOn = true) ∧ ((s.sport port.val).up = true) ∧ (up = false)) ∧
    (∃ (port : Fin 4) (words : List Word) (s : State), (s.mainOn = true) ∧ ((s.sport port.val).up = true) ∧ (words.length ≠ 35)) ∧
    (∃ (port : Fin 4) (words : List Word) (s : State), (s.mainOn = true) ∧ ((s.sport port.val).up = true) ∧ (words.length = 35)) ∧
    (∃ (port : Fin 4) (s : State), (s.mainOn = true) ∧ ((s.sport port.val).up = true) ∧ ((s.sport port.val).kept ≠ []) ∧ ((s.sport port.val).replays < 15)) ∧
    (∃ (port : Fin 4) (s : State), (s.mainOn = true) ∧ ((s.sport port.val).up = true) ∧ ((s.sport port.val).kept ≠ []) ∧ (15 ≤ (s.sport port.val).replays)) ∧
    (∃ (s : State), (s.mainOn = true)) ∧
    (∃ (port : Fin 4) (body : List Byte) (s : State), (s.mainOn = true) ∧ ((s.sport port.val).up = true) ∧ ((s.sport port.val).nbr = none)) ∧
    (∃ (port : Fin 4) (packet : List Byte) (s : State), (s.mainOn = true) ∧ ((s.sport port.val).up = true) ∧ ((sparParse packet).cls = 2) ∧ (s.spr.joined = true) ∧ (s.carries port.val = true) ∧ ((sparParse packet).dst = s.spr.addr)) ∧
    (∃ (port : Fin 4) (packet : List Byte) (s : State), (s.mainOn = true) ∧ ((s.sport port.val).up = true) ∧ ((sparParse packet).cls = 3) ∧ (s.spr.joined = true) ∧ (s.carries port.val = true) ∧ ((sparParse packet).dst = s.spr.addr)) ∧
    (∃ (port : Fin 4) (packet : List Byte) (s : State), (s.mainOn = true) ∧ ((s.sport port.val).up = true) ∧ ((sparParse packet).cls = 4) ∧ (s.spr.joined = true) ∧ (s.carries port.val = true) ∧ ((sparParse packet).dst = s.spr.addr)) ∧
    (∃ (port : Fin 4) (packet : List Byte) (s : State), (s.mainOn = true) ∧ ((s.sport port.val).up = true) ∧ ((sparParse packet).cls = 5) ∧ (s.spr.joined = true) ∧ (s.carries port.val = true) ∧ ((sparParse packet).dst = s.spr.addr)) ∧
    (∃ (chan : Fin 64) (a : Bool) (s : State), (s.rfb (F.SPR_CHAN_MAP_valid chan.val) = true) ∧ (s.engineSide chan.val = some a) ∧ ((s.schan chan.val).rejected = true) ∧ (((s.chan (.int chan.val)).side a).rxFull = true) ∧ (s.spr.joined = true) ∧ (s.spr.leaving = false)) ∧
    (∃ (chan : Fin 64) (w : Nat) (s : State), ((s.schan chan.val).request = some w)) ∧
    (∃ (t1 : Int) (t2 : Int) (t3 : Int) (t4 : Int) (ts : Int) (tr : Int) (p : Nat) (s : State), (s.spr.upstream = some p) ∧ (s.mainOn = true) ∧ (s.time.running = true)) :=
  ⟨⟨1, true, on, by decide +kernel⟩,
   ⟨1, false, { on with spr := { ports := [(1, { up := true })] } }, by decide +kernel⟩,
   ⟨1, [], { on with spr := { ports := [(1, { up := true })] } }, by decide +kernel⟩,
   ⟨1, List.replicate 35 0#32, { on with spr := { ports := [(1, { up := true })] } }, by decide +kernel⟩,
   ⟨1, { on with spr := { ports := [(1, { up := true, kept := [idleFlit] })] } }, by decide +kernel⟩,
   ⟨1, { on with spr := { ports := [(1, { up := true, kept := [idleFlit], replays := 15 })] } }, by decide +kernel⟩,
   ⟨on, by decide +kernel⟩,
   ⟨1, [], { on with spr := { ports := [(1, { up := true })] } }, by decide +kernel⟩,
   ⟨1, (wordsBytes [w32 (2 * 2 ^ 28 + 5 * 2 ^ 12 + 3), 0#32, 0#32, 0#32]), { on with spr := { ports := [(1, { up := true, nbr := some { fabric := 7, addr := 3, joined := true, serial := 9, port := 1, epoch := 0, distance := 0, root := 0 } })], joined := true, addr := 5, fabric := 7 } }, by decide +kernel⟩,
   ⟨1, (wordsBytes [w32 (3 * 2 ^ 28 + 5 * 2 ^ 12 + 3), 0#32, 0#32, 0#32]), { on with spr := { ports := [(1, { up := true, nbr := some { fabric := 7, addr := 3, joined := true, serial := 9, port := 1, epoch := 0, distance := 0, root := 0 } })], joined := true, addr := 5, fabric := 7 } }, by decide +kernel⟩,
   ⟨1, (wordsBytes [w32 (4 * 2 ^ 28 + 5 * 2 ^ 12 + 3), 0#32, 0#32, 0#32]), { on with spr := { ports := [(1, { up := true, nbr := some { fabric := 7, addr := 3, joined := true, serial := 9, port := 1, epoch := 0, distance := 0, root := 0 } })], joined := true, addr := 5, fabric := 7 } }, by decide +kernel⟩,
   ⟨1, (wordsBytes [w32 (5 * 2 ^ 28 + 5 * 2 ^ 12 + 3), 0#32, 0#32, 0#32]), { on with spr := { ports := [(1, { up := true, nbr := some { fabric := 7, addr := 3, joined := true, serial := 9, port := 1, epoch := 0, distance := 0, root := 0 } })], joined := true, addr := 5, fabric := 7 } }, by decide +kernel⟩,
   ⟨4, true, chm, by decide +kernel⟩,
   ⟨4, 77, { on with spr := { chans := [(4, { request := some 77 })] } }, by decide +kernel⟩,
   ⟨1, 2, 3, 4, 5, 6, 1, { on with spr := { upstream := some 1 }, time := { running := true } }, by decide +kernel⟩⟩

/-- States and operands that meet what FabricCommands asks. -/
theorem witness_FabricCommands :
    (Meets sprJoinSpec (fun c s => c.reserved [(0, 0xCF000FFF)] = none ∧ s.spr.joined = false ∧ s.sparUnderTest (field (c.p 0) 27 24) = false)) ∧
    (∃ (s : State), (s.spr.joining = true)) ∧
    (Meets sprLeaveSpec (fun c s => s.spr.joined = true)) ∧
    (Meets sprRouteWriteSpec (fun c s => s.spr.joined = true ∧ c.reserved [(0, 0x8FFF1FFF)] = none ∧ c.indirect = false ∧ c.p 0 % 8192 ≠ 0 ∧ field (c.p 0) 27 16 + c.p 0 % 8192 ≤ 4096 ∧ c.shortBlock (16 + c.p 0 % 8192) = false ∧ bitAt (c.p 0) 31 = true ∧
        ((List.range (c.p 0 % 8192)).all fun k => fits (c.p (1 + k)) 0x8000000F && !bitAt (c.p (1 + k)) 31) = true)) ∧
    (Meets sprEpochCommitSpec (fun c s => s.spr.joined = true ∧ c.reserved [(0, 0xFFFF)] = none ∧ s.spr.next.isSome = true ∧ c.p 0 = (s.spr.epoch + 1) % 65536)) ∧
    (Meets sprRemoteGrantSpec (fun c s => s.spr.joined = true ∧ c.reserved [(0, 0x800000FF)] = none ∧ bitAt (c.p 0) 31 = true ∧ (lookup s.spr.grants (c.p 0 % 256)).isSome = true)) ∧
    (Meets sprRemoteGrantSpec (fun c s => s.spr.joined = true ∧ bitAt (c.p 0) 31 = false ∧ c.reserved [(0, 0x800000FF), (1, 0x0FFF0FFF), (2, 0x1FFF1FFF), (3, 0xC000FFFF), (4, 0x3FFFFFFF), (5, 0x1FFFF)] = none ∧ c.p 3 % 65536 < 0x0810 ∧ 1 ≤ c.p 5 ∧ c.p 5 ≤ 65536 ∧
        (c.p 4 + c.p 5) * 4096 ≤ (s.rangeOf (c.p 3 % 65536)).2 * 2 ^ 21 ∧ lookup s.spr.grants (c.p 0 % 256) = none)) ∧
    (∃ (mid : BitVec 13) (chan : Fin 64) (value : Word) (s : State), (s.gate mid.toNat (R.SPR_CHAN_MAP chan.val) false = .open_) ∧ (bitAt (value.toNat &&& 0xC0FFF03F) 31 = false)) ∧
    (∃ (mid : BitVec 13) (chan : Fin 64) (value : Word) (s : State), (s.gate mid.toNat (R.SPR_CHAN_MAP chan.val) false = .open_) ∧ (bitAt (value.toNat &&& 0xC0FFF03F) 31 = true) ∧ ((s.setReg (R.SPR_CHAN_MAP chan.val) (value.toNat &&& 0xC0FFF03F)).engineSide chan.val = none)) :=
  ⟨⟨adm, entry 0x0D00 [0x8F000005, 7], by decide +kernel⟩,
   ⟨{ on with spr := { joining := true } }, by decide +kernel⟩,
   ⟨{ adm with spr := { joined := true, addr := 5, fabric := 7 } }, entry 0x0D01 [], by decide +kernel⟩,
   ⟨{ adm with spr := { joined := true, addr := 5, fabric := 7 } }, entry 0x0D02 [0x80030002, 1, 2], by decide +kernel⟩,
   ⟨{ adm with spr := { joined := true, addr := 5, fabric := 7, next := some [] } }, entry 0x0D03 [1], by decide +kernel⟩,
   ⟨{ adm with spr := { joined := true, addr := 5, fabric := 7, grants := [(7, { addrMask := 0, addr := 0, midMask := 0, mid := 0, read := true, write := true, ssid := 0, offset := 0, pages := 1 })] } }, entry 0x0D04 [0x80000007], by decide +kernel⟩,
   ⟨{ { adm with spr := { joined := true, addr := 5, fabric := 7 } } with pgr := { ranges := [(0, (600, 8))] } }, entry 0x0D04 [7, 0, 0, 0xC0000000, 0, 4], by decide +kernel⟩,
   ⟨0, 4, 0x40001003, on, by decide +kernel⟩,
   ⟨0, 4, 0x80001003, on, by decide +kernel⟩⟩

/-- States and operands that meet what FaultActs asks. -/
theorem witness_FaultActs :
    (∃ (lane : Fin 8) (s : State), (s.mainOn = true) ∧ (s.isOut (0x100 + lane.val) = false) ∧ (s.portExists (s.lanePort lane.val) = true)) ∧
    (∃ (pair : Fin 2) (s : State), (s.mainOn = true)) ∧
    (∃ (s : State), (s.boot.keeperHalted = false)) ∧
    (∃ (pair : Fin 2) (corrected : Bool) (s : State), (s.mainOn = true) ∧ (s.pair pair.val ≠ .off) ∧ (corrected = true)) ∧
    (∃ (pair : Fin 2) (corrected : Bool) (s : State), (s.mainOn = true) ∧ (s.pair pair.val ≠ .off) ∧ (corrected = false)) ∧
    (∃ (error : Machine.LinkError) (s : State), (s.mainOn = true)) ∧
    (∃ (kind : Fin 9) (r : Nat) (s : State), (s.mainOn = true) ∧ ((s.ras.running.any (resKind · = kind.val)) = false) ∧ (s.ras.queued.find? (resKind · = kind.val) = some r) ∧ (s.canStart r = true)) ∧
    (∃ (resource : BitVec 16) (s : State), (s.ras.running.contains resource.toNat = true) ∧ (s.retireDone resource.toNat = true)) ∧
    (Meets rasRetireSpec (fun c s => c.reserved [(0, 0xFFFF)] = none ∧ resKnown (c.p 0 % 65536) = true ∧ s.isRetired (c.p 0 % 65536) = false ∧ s.ras.queued.contains (c.p 0 % 65536) = false ∧ resKind (c.p 0 % 65536) ≠ 7 ∧ s.retireAllowed (c.p 0 % 65536) = true)) ∧
    (Meets rasRestoreSpec (fun c s => c.reserved [(0, 0xFFFF)] = none ∧ s.ras.running.contains (c.p 0 % 65536) = false ∧ s.ras.retired.contains (c.p 0 % 65536) = true ∧ s.firstRefused [(testClaim (c.p 0 % 65536), holderWord 0x17 0x01 c.mid)] = none)) ∧
    (∃ (resource : BitVec 16) (pass : Bool) (p : PendCmd) (s : State), (s.findPend (fun p => p.cmd.opcode = 0x0E02 && p.cmd.p 0 % 65536 = resource.toNat) = some p) ∧ (s.retireDone resource.toNat = true) ∧ (pass = true)) ∧
    (Meets rasThresholdSetSpec (fun c s => c.reserved [(0, 15)] = none ∧ 1 ≤ c.p 0 ∧ c.p 0 ≤ 8 ∧ kindGood (c.p 1) = true)) ∧
    (Meets rasFoghornAckSpec (fun c s => c.reserved [(0, 0x1F)] = none)) ∧
    (Meets rasLogReadSpec (fun c s => c.reserved [(0, 0x8001FFFF)] = none ∧ bitAt (c.p 0) 31 = false ∧ 1 ≤ c.p 0 % 2 ^ 17 ∧ c.p 0 % 2 ^ 17 ≤ 3)) ∧
    (Meets rasLogReadSpec (fun c s => c.reserved [(0, 0x8001FFFF)] = none ∧ bitAt (c.p 0) 31 = true ∧ c.fromManager = true ∧ 1 ≤ c.p 0 % 2 ^ 17 ∧ c.p 0 % 2 ^ 17 ≤ 81920)) ∧
    (∃ (mid : BitVec 13) (s : State), (s.gate mid.toNat (R.RAS_HEARTBEAT) false = .open_)) ∧
    (∃ (mid : BitVec 13) (resource : BitVec 16) (s : State), (s.gate mid.toNat (R.RAS_CNT_SEL) false = .open_)) :=
  ⟨⟨0, on, by decide +kernel⟩,
   ⟨0, on, by decide +kernel⟩,
   ⟨on, by decide +kernel⟩,
   ⟨0, true, on, by decide +kernel⟩,
   ⟨0, false, on, by decide +kernel⟩,
   ⟨.ecrc 0, on, by decide +kernel⟩,
   ⟨3, 0x300, { on with ras := { on.ras with queued := [0x300] } }, by decide +kernel⟩,
   ⟨0x400, { on with ras := { on.ras with running := [0x400] } }, by decide +kernel⟩,
   ⟨adm, entry 0x0E01 [0x301], by decide +kernel⟩,
   ⟨{ adm with ras := { adm.ras with retired := [0x301] } }, entry 0x0E02 [0x301], by decide +kernel⟩,
   ⟨0x301, true, { cmd := cmdOf adm (entry 0xE02 [0x301]) 0xE02 0, locks := [], note := [] }, { adm with cmds := { adm.cmds with pend := [{ cmd := cmdOf adm (entry 0xE02 [0x301]) 0xE02 0, locks := [], note := [] }] } }, by decide +kernel⟩,
   ⟨adm, entry 0x0E03 [3, 0x32010010], by decide +kernel⟩,
   ⟨adm, entry 0x0E04 [3], by decide +kernel⟩,
   ⟨adm, entryU 5 0x0E00 [1, 0], by decide +kernel⟩,
   ⟨adm, entry 0x0E00 [0x80000005, 0, 0, 0], by decide +kernel⟩,
   ⟨0, on, by decide +kernel⟩,
   ⟨0, 0x301, on, by decide +kernel⟩⟩

/-- States and operands that meet what TestActs asks. -/
theorem witness_TestActs :
    (Meets tstPlaceUnderTestSpec (fun c s => c.reserved [(0, 0x1FFFF)] = none ∧ testKnown (c.p 0 % 65536) = true ∧ s.placeFault (c.p 0 % 65536) = none ∧ s.firstRefused [(testClaim (c.p 0 % 65536), holderWord 0x18 0x01 c.mid)] = none)) ∧
    (Meets tstReleaseSpec (fun c s => c.reserved [(0, 0x1FFFF)] = none ∧ s.tst.underTest.contains (c.p 0 % 65536) = true)) ∧
    (Meets tstPatternCfgSpec (fun c s => c.reserved [(0, 0xFFFF), (1, 0xFEFFFFFF)] = none ∧ testKnown (c.p 0) = true ∧ (testLane (c.p 0)).isSome = true ∧ s.tst.underTest.contains (c.p 0) = true ∧ field (c.p 1) 23 20 ≤ 6)) ∧
    (Meets tstLoopbackCfgSpec (fun c s => c.reserved [(0, 0xFFFF), (1, 3)] = none ∧ testKnown (c.p 0) = true ∧ (testLane (c.p 0)).isSome = true ∧ s.tst.underTest.contains (c.p 0) = true ∧ (c.p 1 ≠ 3 ∨ testLane (c.p 0) ≠ some 48))) ∧
    (Meets tstResultReadSpec (fun c s => c.reserved [(0, 0x8000FFFF)] = none ∧ testKnown (c.p 0 % 65536) = true ∧ (testLane (c.p 0 % 65536)).isSome = true ∧ s.tst.underTest.contains (c.p 0 % 65536) = true ∧ bitAt (c.p 0) 31 = false)) ∧
    (∃ (mid : BitVec 13) (lane : Fin 49) (value : Word) (s : State), (s.gate mid.toNat (R.TST_LANE_CTL lane.val) false = .open_)) ∧
    (∃ (mid : BitVec 13) (lane : Fin 49) (s : State), (s.gate mid.toNat (R.TST_LANE_CTL lane.val) false = .open_)) ∧
    (∃ (lane : Fin 49) (s : State), (s.checking lane.val = true) ∧ (s.rfb (F.TST_LANE_STATUS_lock lane.val) = false)) ∧
    (∃ (lane : Fin 49) (s : State), (s.checking lane.val = true) ∧ (s.rfb (F.TST_LANE_STATUS_lock lane.val) = true)) ∧
    (∃ (lane : Fin 49) (s : State), (s.checking lane.val = true) ∧ (s.reg (R.TST_LANE_CTL lane.val) % 2 ^ 20 ≠ 0) ∧ (s.rfb (F.TST_LANE_STATUS_done lane.val) = false)) ∧
    (∃ (s : State), ((s.setF F.TST_DBG_STATUS_selected 0).dbgLevel = 0)) ∧
    (∃ (s : State), ((s.setF F.TST_DBG_STATUS_selected 0).dbgLevel ≠ 0)) ∧
    (∃ (core : Fin 4) (s : State), (s.mainOn = true) ∧ (s.dbgLevel = 0) ∧ (core.val / 2 = s.activePair)) ∧
    (∃ (core : Fin 4) (s : State), (s.mainOn = true) ∧ (s.dbgLevel ≠ 0)) ∧
    (∃ (core : Fin 4) (s : State), (s.mainOn = true) ∧ (s.dbgLevel = 0) ∧ (core.val / 2 = s.activePair) ∧ (s.boot.keeperHalted = true)) ∧
    (∃ (mid : BitVec 13) (cluster : Fin 16) (word : Fin 4) (value : Word) (s : State), (s.gate mid.toNat (R.TST_CLV_HALT (cluster.val * 8 + word.val)) false = .open_)) ∧
    (∃ (mid : BitVec 13) (value : Word) (s : State), (s.gate mid.toNat (R.TST_CLV_REG_DATA) false = .open_) ∧ ((s.th (s.rf F.TST_CLV_REG_SEL_cluster) (s.rf F.TST_CLV_REG_SEL_thread)).state = 6) ∧ (s.rf F.TST_CLV_REG_SEL_reg < 32)) :=
  ⟨⟨adm, entry 0x0F00 [0x100], by decide +kernel⟩,
   ⟨{ adm with tst := { adm.tst with underTest := [0x100] } }, entry 0x0F01 [0x100], by decide +kernel⟩,
   ⟨{ adm with tst := { adm.tst with underTest := [0x100] } }, entry 0x0F02 [0x100, 0x80100000, 1, 2, 3, 4], by decide +kernel⟩,
   ⟨{ adm with tst := { adm.tst with underTest := [0x100] } }, entry 0x0F03 [0x100, 2], by decide +kernel⟩,
   ⟨{ adm with tst := { adm.tst with underTest := [0x100] } }, entry 0x0F04 [0x100], by decide +kernel⟩,
   ⟨0, 0, 0, on, by decide +kernel⟩,
   ⟨0, 0, on, by decide +kernel⟩,
   ⟨0, (on.setF (F.TST_LANE_CTL_chk_en 0) 1), by decide +kernel⟩,
   ⟨0, ((on.setF (F.TST_LANE_CTL_chk_en 0) 1).setF (F.TST_LANE_STATUS_lock 0) 1), by decide +kernel⟩,
   ⟨0, ((on.setReg (R.TST_LANE_CTL 0) 5).setF (F.TST_LANE_CTL_chk_en 0) 1), by decide +kernel⟩,
   ⟨dbg0, by decide +kernel⟩,
   ⟨(on.setF F.TST_DBG_CFG_level 1), by decide +kernel⟩,
   ⟨0, dbg0, by decide +kernel⟩,
   ⟨0, (on.setF F.TST_DBG_CFG_level 1), by decide +kernel⟩,
   ⟨0, { dbg0 with boot := { dbg0.boot with keeperHalted := true } }, by decide +kernel⟩,
   ⟨0, 0, 0, 2, on, by decide +kernel⟩,
   ⟨0, 7, { on with clv := { clusters := [(0, { threads := [(0, { state := 6 })] })] } }, by decide +kernel⟩⟩

/-- States and operands that meet what StepRunsFront asks. -/
theorem witness_StepRunsFront :
    (∃ (s : State) (c : Instr) (rest : List Instr), s.pending = c :: rest) ∧
    (∃ s : State, s.pending = []) :=
  ⟨⟨{ State.reset with pending := [.idcode, .bypass] }, .idcode, [.bypass], rfl⟩,
   ⟨State.reset, rfl⟩⟩

/-- States and operands that meet what StepKeepsMemoriesOk asks. -/
theorem witness_StepKeepsMemoriesOk :
    ∃ s t : State, s.memoriesOk = true ∧ step s = .next t :=
  ⟨{ State.reset with pending := [.idcode] }, _, rfl, rfl⟩

/-- States and operands that meet what StepKeepsFuses asks. -/
theorem witness_StepKeepsFuses :
    ∃ s t : State, step s = .next t :=
  ⟨{ State.reset with pending := [.idcode] }, _, rfl⟩

/-- States and operands that meet what StepTakesFront asks. -/
theorem witness_StepTakesFront :
    ∃ s t : State, step s = .next t :=
  ⟨{ State.reset with pending := [.idcode, .bypass] }, _, rfl⟩

/-- States and operands that meet what DisableClearsReady asks. -/
theorem witness_DisableClearsReady :
    (∃ (mid : BitVec 13) (block : Fin 32) (s : State), (s.masterOpen mid.toNat = true) ∧ (s.gate mid.toNat (blkCtl block.val) false = .open_) ∧ (blockKnown block.val = true) ∧ (s.rfb (blkChecking block.val) = false)) ∧
    (∃ (mid : BitVec 13) (block : Fin 32) (s : State), (s.masterOpen mid.toNat = true) ∧ (s.gate mid.toNat (blkCtl block.val) false = .open_) ∧ (blockKnown block.val = true) ∧ (s.rfb (blkChecking block.val) = false)) ∧
    (∃ (acc : RegAccess) (value : Dword) (block : Fin 32) (s : State), (acc.window = .control) ∧ (acc.size = 4) ∧ (acc.full = true) ∧ (acc.offset.toNat = blkCtl block.val) ∧ (blockKnown block.val = true) ∧ (s.masterOpen acc.mid.toNat = true) ∧ (s.gate acc.mid.toNat acc.offset.toNat false = .open_) ∧ (s.rfb (blkChecking block.val) = false) ∧ (value.toNat % 2 = 0)) ∧
    (∃ (block : Fin 32) (v : Nat) (s : State), (s.rfb (blkChecking block.val) = true) ∧ (lookup s.cmds.heldCtl block.val = some v) ∧ (v % 2 = 0)) :=
  ⟨⟨0, 5, on, by decide +kernel⟩,
   ⟨0, 5, on, by decide +kernel⟩,
   ⟨⟨0, .control, 0x500000, 4, true⟩, 0, 5, on, by decide +kernel⟩,
   ⟨5, 0, { on.setF (blkChecking 5) 1 with cmds := { heldCtl := [(5, 0)] } }, by decide +kernel⟩⟩

/-- States and operands that meet what UnmappedWindow asks. -/
theorem witness_UnmappedWindow :
    (∃ (acc : Machine.RegAccess) (value : Dword) (s : State), (acc.window = .control) ∧ (accessGood acc.offset.toNat acc.size acc.full = true) ∧ (0x2000000 ≤ acc.offset.toNat) ∧ (s.masterOpen acc.mid.toNat = true) ∧ (windowMid acc.mid.toNat = true) ∧ (s.islandDown 42 = false) ∧ (acc.mid.toNat = 0x1040 → s.dbgLevel ≤ 1)) ∧
    (∃ (acc : Machine.RegAccess) (s : State), (acc.window = .control) ∧ (accessGood acc.offset.toNat acc.size acc.full = true) ∧ (0x2000000 ≤ acc.offset.toNat) ∧ (s.masterOpen acc.mid.toNat = true) ∧ (windowMid acc.mid.toNat = true) ∧ (s.islandDown 42 = false) ∧ (acc.mid.toNat = 0x1040 → s.dbgLevel ≤ 1)) :=
  ⟨⟨⟨0, .control, 0x3FFFFFC, 4, true⟩, 7, on, by decide +kernel⟩,
   ⟨⟨0, .control, 0x2000000, 4, true⟩, on, by decide +kernel⟩⟩

/-- States and operands that meet what WindowMasters asks. -/
theorem witness_WindowMasters :
    (∃ (acc : Machine.RegAccess) (value : Dword) (s : State), (acc.window = .control) ∧ (s.masterOpen acc.mid.toNat = true) ∧ (acc.mid.toNat ≠ 0) ∧ (¬ (0x1000 ≤ acc.mid.toNat ∧ acc.mid.toNat ≤ 0x1003)) ∧ (acc.mid.toNat ≠ 0x1040)) ∧
    (∃ (acc : Machine.RegAccess) (s : State), (acc.window = .control) ∧ (s.masterOpen acc.mid.toNat = true) ∧ (acc.mid.toNat ≠ 0) ∧ (¬ (0x1000 ≤ acc.mid.toNat ∧ acc.mid.toNat ≤ 0x1003)) ∧ (acc.mid.toNat ≠ 0x1040)) ∧
    (∃ (acc : RegAccess) (value : Dword) (i : Fin 2048) (s : State), (acc.window = .inst i) ∧ (acc.mid.toNat ≠ i.val) ∧ (s.masterOpen acc.mid.toNat = true) ∧ (midAssigned acc.mid.toNat = true)) ∧
    (∃ (acc : RegAccess) (i : Fin 2048) (s : State), (acc.window = .inst i) ∧ (acc.mid.toNat ≠ i.val) ∧ (s.masterOpen acc.mid.toNat = true) ∧ (midAssigned acc.mid.toNat = true)) ∧
    (∃ (acc : RegAccess) (value : Dword) (i : Fin 2048) (s : State), (acc.window = .inst i) ∧ (s.masterOpen acc.mid.toNat = true) ∧ (midAssigned acc.mid.toNat = false)) ∧
    (∃ (acc : RegAccess) (i : Fin 2048) (s : State), (acc.window = .inst i) ∧ (s.masterOpen acc.mid.toNat = true) ∧ (midAssigned acc.mid.toNat = false)) :=
  ⟨⟨⟨0x800, .control, 0x100, 4, true⟩, 7, on, by decide +kernel⟩,
   ⟨⟨0x800, .control, 0x100, 4, true⟩, on, by decide +kernel⟩,
   ⟨⟨0, .inst 3, 0x4000, 4, true⟩, 7, 3, on, by decide +kernel⟩,
   ⟨⟨0, .inst 3, 0x4000, 4, true⟩, 3, on, by decide +kernel⟩,
   ⟨⟨0x1004, .inst 3, 0x4000, 4, true⟩, 7, 3, on, by decide +kernel⟩,
   ⟨⟨0x1004, .inst 3, 0x4000, 4, true⟩, 3, on, by decide +kernel⟩⟩

/-- States and operands that meet what DoorbellRange asks. -/
theorem witness_DoorbellRange :
    (∃ (iid : Fin 2048) (loc : BitVec 16) (value : Word) (q : Nat) (s : State), (s.fnOpen iid.val = true) ∧ (iid.val = 0 ∨ loc.toNat < 6144) ∧ (s.findQ iid.val loc.toNat = some q) ∧ ((s.q q).type ≤ 4) ∧ ((s.q q).state = 1) ∧ ((s.q q).hot = true)) ∧
    (∃ (iid : Fin 2048) (loc : BitVec 16) (value : Word) (q : Nat) (s : State), (s.fnOpen iid.val = true) ∧ (iid.val = 0 ∨ loc.toNat < 6144) ∧ (s.findQ iid.val loc.toNat = some q) ∧ ((s.q q).type ≤ 4) ∧ ((s.q q).state = 1) ∧ ((s.q q).hot = true) ∧ (¬ (sub32 value.toNat (s.q q).ci ≤ 2 ^ (s.q q).sizeLog2 ∧ sub32 (s.q q).pi (s.q q).ci ≤ sub32 value.toNat (s.q q).ci))) :=
  ⟨⟨0, 8, 2, 8, { adm with queues := [(7, { state := 1, type := 1, iid := 0, loc := 0, sizeLog2 := 6, pi := 8 }), (8, { type := 3, state := 1, iid := 0, loc := 8, sizeLog2 := 6, pi := 1, evq := 9 }), (9, { type := 6, state := 1, iid := 0, loc := 9, sizeLog2 := 6, vector := 3 })] }, by decide +kernel⟩,
   ⟨0, 8, 99, 8, { adm with queues := [(7, { state := 1, type := 1, iid := 0, loc := 0, sizeLog2 := 6, pi := 8 }), (8, { type := 3, state := 1, iid := 0, loc := 8, sizeLog2 := 6, pi := 1, evq := 9 }), (9, { type := 6, state := 1, iid := 0, loc := 9, sizeLog2 := 6, vector := 3 })] }, by decide +kernel⟩⟩

/-- States and operands that meet what ForeignDoorbell asks. -/
theorem witness_ForeignDoorbell :
    (∃ (iid : Fin 2048) (loc : BitVec 16) (value : Word) (s : State), (s.fnOpen iid.val = true) ∧ (iid.val = 0 ∨ loc.toNat < 6144) ∧ (s.findQ iid.val loc.toNat = none) ∧ (s.ownsLoc iid.val loc.toNat = false)) ∧
    (∃ (iid : Fin 2048) (loc : BitVec 16) (value : Word) (arm : Bool) (s : State), (s.fnOpen iid.val = true) ∧ (iid.val = 0 ∨ loc.toNat < 6144) ∧ (s.findQ iid.val loc.toNat = none) ∧ (s.ownsLoc iid.val loc.toNat = false)) ∧
    (∃ (acc : RegAccess) (value : Dword) (i : Fin 2048) (o : Nat) (s : State), (acc.window = .inst i) ∧ (acc.mid.toNat = i.val) ∧ (s.fnOpen i.val = true) ∧ (accessGood acc.offset.toNat acc.size acc.full = true) ∧ (acc.offset.toNat % 8 = 0) ∧ (instArea i.val acc.offset.toNat = .doorbells o) ∧ (s.findQ i.val (o / 8) = none) ∧ (s.ownsLoc i.val (o / 8) = false)) ∧
    (∃ (acc : RegAccess) (i : Fin 2048) (o : Nat) (s : State), (acc.window = .inst i) ∧ (acc.mid.toNat = i.val) ∧ (s.fnOpen i.val = true) ∧ (accessGood acc.offset.toNat acc.size acc.full = true) ∧ (instArea i.val acc.offset.toNat = .doorbells o)) :=
  ⟨⟨1, 77, 2, { on with host := { on.host with filled := true, vfEnable := true, ariSampled := true, vfMse := true, numVfs := 4, fns := [(0, { memSpace := true, busMaster := true, msixEnable := true }), (1, { memSpace := true, busMaster := true, msixEnable := true })] }, insts := [(1, { state := 0, gen := 1 })] }, by decide +kernel⟩,
   ⟨1, 77, 2, true, { on with host := { on.host with filled := true, vfEnable := true, ariSampled := true, vfMse := true, numVfs := 4, fns := [(0, { memSpace := true, busMaster := true, msixEnable := true }), (1, { memSpace := true, busMaster := true, msixEnable := true })] }, insts := [(1, { state := 0, gen := 1 })] }, by decide +kernel⟩,
   ⟨⟨1, .inst 1, 0x4268, 4, true⟩, 7, 1, 0x268, { on with host := { on.host with filled := true, vfEnable := true, ariSampled := true, vfMse := true, numVfs := 4, fns := [(0, { memSpace := true, busMaster := true, msixEnable := true }), (1, { memSpace := true, busMaster := true, msixEnable := true })] }, insts := [(1, { state := 0, gen := 1 })] }, by decide +kernel⟩,
   ⟨⟨0, .inst 0, 0x10040, 4, true⟩, 0, 0x40, { adm with queues := [(7, { state := 1, type := 1, iid := 0, loc := 0, sizeLog2 := 6, pi := 8 }), (8, { type := 3, state := 1, iid := 0, loc := 8, sizeLog2 := 6, pi := 1, evq := 9 }), (9, { type := 6, state := 1, iid := 0, loc := 9, sizeLog2 := 6, vector := 3 })] }, by decide +kernel⟩⟩

/-- States and operands that meet what ClaimLowest asks. -/
theorem witness_ClaimLowest :
    (∃ (mid : BitVec 13) (t : Fin 32) (n : Nat) (s : State), (s.ownsTarget t.val mid.toNat = true) ∧ (t.val < 4 → s.gate mid.toNat (R.EVC_CLAIM t.val) true = .open_) ∧ (s.qualifies t.val n = true) ∧ (∀ m, m < n → s.qualifies t.val m = false)) ∧
    (∃ (mid : BitVec 13) (t : Fin 32) (s : State), (s.ownsTarget t.val mid.toNat = true) ∧ (t.val < 4 → s.gate mid.toNat (R.EVC_CLAIM t.val) true = .open_) ∧ (∀ n : Fin 512, s.qualifies t.val n.val = false)) ∧
    (∃ n : Nat, n < 512) :=
  ⟨⟨0x1000, 0, 5, (((on.setReg (R.EVC_SRC_MASK 5) 1).setF (F.EVC_SRC_CTL_enable 5) 1).setReg (R.EVC_PENDING 0) 32), by decide +kernel⟩,
   ⟨0x1000, 0, on, by decide +kernel⟩,
   ⟨511, by decide⟩⟩

/-- States and operands that meet what SequencesCompare asks. -/
theorem witness_SequencesCompare :
    (∃ a b : Nat, a < 2 ^ 32 ∧ b < 2 ^ 32) ∧
    (∃ (l : List Nat) (base : Nat), l ≠ [] ∧ l.Nodup ∧ (∀ x ∈ l, x < 2 ^ 32 ∧ sub32 x base < 2 ^ 31)) ∧
    (∃ l : List Nat, l ≠ [] ∧ (∀ a ∈ l, l.count a ≠ 1 ∨ ∃ b ∈ l, b ≠ a ∧ later a b = false)) :=
  ⟨⟨0, 2 ^ 31, by decide⟩,
   ⟨[1, 0, 2 ^ 32 - 1], 2 ^ 32 - 1, by decide⟩,
   ⟨[0, 0, 2 ^ 32 - 1], by decide⟩⟩

/-- States and operands that meet what FreeQidIsFree asks. -/
theorem witness_FreeQidIsFree :
    (∃ s : State, s.queuesInUse < 65536) ∧
    (∃ s : State, 65536 ≤ s.queuesInUse) :=
  ⟨⟨State.reset, by decide⟩,
   ⟨{ State.reset with queues := List.replicate 65536 (0, { state := 1 }) }, by
    show _ ≤ (List.filter _ (List.replicate _ _)).length
    exact Nat.le_of_eq (by rw [List.filter_replicate, if_pos (by decide), List.length_replicate])⟩⟩

end Sys2Proof.Tests
end

section
/-! Family 00_scope: register accesses and block control (O5, O53), serial-number comparison (O59) and the state after reset (O46),
with the laws of bit fields, register windows and BLK_CTL that they rest on. -/

namespace Sys2Proof.Machine

/-! ## Fields of a register after a write of a field -/

/-- A field below bit 64 reads the same in the low 64 bits that a register keeps. -/
theorem field_mod_two_pow_64 {hi : Nat} (n lo : Nat) (h : hi < 64) : field (n % 2 ^ 64) hi lo = field n hi lo := by
  refine Nat.eq_of_testBit_eq fun i => ?_
  simp only [field, Nat.testBit_mod_two_pow, Nat.testBit_shiftRight]
  by_cases hi' : i < hi + 1 - lo
  · rw [decide_eq_true (show lo + i < 64 by omega), Bool.true_and]
  · rw [decide_eq_false hi', Bool.false_and, Bool.false_and]

/-- What a write of bits [hi:lo] gives: the bits below lo as they were, v in [hi:lo], and the bits above hi as they were. -/
theorem putField_eq (n hi lo v : Nat) :
    putField n hi lo v = n % 2 ^ lo + 2 ^ lo * (v % 2 ^ (hi + 1 - lo) + 2 ^ (hi + 1 - lo) * (n / 2 ^ lo / 2 ^ (hi + 1 - lo))) := by
  rw [putField, field, Nat.shiftRight_eq_div_pow]
  generalize 2 ^ lo = L
  generalize 2 ^ (hi + 1 - lo) = W
  have hn : n = n % L + L * (W * (n / L / W)) + n / L % W * L := by
    calc n = n % L + L * (n / L) := (Nat.mod_add_div n L).symm
      _ = n % L + L * (n / L % W + W * (n / L / W)) := by rw [Nat.mod_add_div (n / L) W]
      _ = _ := by ring
  rw [Nat.sub_eq_of_eq_add hn]
  ring

/-- A write of bits [hi:lo] leaves the bits above hi. -/
theorem putField_div_above (n v : Nat) {hi lo : Nat} (h : lo ≤ hi) : putField n hi lo v / 2 ^ (hi + 1) = n / 2 ^ (hi + 1) := by
  have hL : 0 < 2 ^ lo := Nat.two_pow_pos _
  have hW : 0 < 2 ^ (hi + 1 - lo) := Nat.two_pow_pos _
  have hpow : 2 ^ (hi + 1) = 2 ^ lo * 2 ^ (hi + 1 - lo) := by rw [← Nat.pow_add, Nat.add_sub_cancel' (by omega)]
  rw [hpow, ← Nat.div_div_eq_div_mul, ← Nat.div_div_eq_div_mul, putField_eq, Nat.add_mul_div_left _ _ hL,
    Nat.div_eq_of_lt (Nat.mod_lt _ hL), Nat.zero_add, Nat.add_mul_div_left _ _ hW, Nat.div_eq_of_lt (Nat.mod_lt _ hW), Nat.zero_add]

/-- A write of bits [hi:lo] leaves every field above bit hi. -/
theorem field_putField_above {hi lo hi' lo' : Nat} (n v : Nat) (h : lo ≤ hi) (h' : hi < lo') :
    field (putField n hi lo v) hi' lo' = field n hi' lo' := by
  obtain ⟨j, rfl⟩ := Nat.exists_eq_add_of_le (show hi + 1 ≤ lo' from h')
  simp only [field, Nat.shiftRight_eq_div_pow, Nat.pow_add 2 (hi + 1) j, ← Nat.div_div_eq_div_mul, putField_div_above n v h]

/-- A field reads what was written to it. -/
theorem State.rf_setF_self (s : State) {f : FRef} (v : Nat) (h : f.hi < 64) :
    (s.setF f v).rf f = v % 2 ^ (f.hi + 1 - f.lo) := by
  rw [State.rf, State.setF, State.reg_setReg_self, field_mod_two_pow_64 _ _ h, field_putField_self]

/-- A write of a field leaves the fields above it in its register. -/
theorem State.rf_setF_above (s : State) {f g : FRef} (v : Nat) (ha : g.addr = f.addr) (hf : f.lo ≤ f.hi) (hfg : f.hi < g.lo)
    (hg : g.hi < 64) : (s.setF f v).rf g = s.rf g := by
  rw [State.rf, State.setF, ha, State.reg_setReg_self, field_mod_two_pow_64 _ _ hg, field_putField_above _ _ hf hfg, State.rf, ha]

/-! ## Block control (R14 to R19) -/

theorem blkCtl_ne_blkStatus (b c : Nat) : blkCtl b ≠ blkStatus c := by
  unfold blkCtl blkStatus
  omega

@[simp] theorem State.rf_dropBlock (s : State) (b : Nat) (f : FRef) : (s.dropBlock b).rf f = s.rf f := rfl

/-- A disabled block reads enable 0 and ready 0, and the reason it had (R16). -/
theorem State.blkOff_clears (s : State) (b : Nat) :
    (s.blkOff b).rf (blkReady b) = 0 ∧ (s.blkOff b).rf (blkEnable b) = 0 ∧ (s.blkOff b).rf (blkReason b) = s.rf (blkReason b) := by
  refine ⟨?ready, ?enable, ?reason⟩ <;> rw [State.blkOff, State.rf_dropBlock]
  case ready => exact State.rf_setF_self _ 0 (by decide : (0 : Nat) < 64)
  case enable =>
    rw [State.rf_setF_ne _ 0 (blkCtl_ne_blkStatus b b)]
    exact State.rf_setF_self s 0 (by decide : (0 : Nat) < 64)
  case reason =>
    calc (((s.setF (blkEnable b) 0).setF (blkReady b) 0).rf (blkReason b))
      _ = (s.setF (blkEnable b) 0).rf (blkReason b) :=
        State.rf_setF_above _ 0 rfl (Nat.le_refl 0) (by decide : 0 < 16) (by decide : 31 < 64)
      _ = s.rf (blkReason b) := s.rf_setF_ne 0 (blkCtl_ne_blkStatus b b).symm

/-- A write of BLK_CTL with `enable` 0 disables the block, whatever it does to the lock (R16, R19). -/
theorem State.blkApply_clears (s : State) (b : Nat) {v : Nat} (hv : v % 2 = 0) :
    (s.blkApply b v).rf (blkReady b) = 0 ∧ (s.blkApply b v).rf (blkEnable b) = 0 ∧
      (s.blkApply b v).rf (blkReason b) = s.rf (blkReason b) := by
  have h0 : bitAt v 0 = false := by simp [bitAt, hv]
  have hlock : (s.setF (blkLock b) 1).rf (blkReason b) = s.rf (blkReason b) :=
    s.rf_setF_ne 1 (blkCtl_ne_blkStatus b b).symm
  rw [State.blkApply, h0, if_neg Bool.false_ne_true]
  split
  · obtain ⟨hready, henable, hreason⟩ := (s.setF (blkLock b) 1).blkOff_clears b
    exact ⟨hready, henable, hreason.trans hlock⟩
  · exact s.blkOff_clears b

/-- A write of BLK_CTL that reaches the block while no check runs is applied (R14, R18). -/
theorem State.blkCtlWrite_open {s : State} {mid b : Nat} (v : Nat) (hm : s.masterOpen mid = true)
    (hg : s.gate mid (blkCtl b) false = .open_) (hb : blockKnown b = true) (hc : s.rfb (blkChecking b) = false) :
    s.blkCtlWrite mid b v = s.blkApply b v := by
  simp [State.blkCtlWrite, State.gatedWrite, State.blkWrite, hm, hg, hb, hc]

/-- The check ends with its verdict, where no write was held back (R15). -/
theorem State.blkCheckEnd_of_none {s : State} {b : Nat} (hc : s.rfb (blkChecking b) = true) (hh : lookup s.cmds.heldCtl b = none) :
    s.blkCheckEnd b = { s with cmds := { s.cmds with heldCtl := eraseKey s.cmds.heldCtl b } }.blkVerdict b := by
  simp only [State.blkCheckEnd, hc, hh, Bool.not_true, Bool.false_eq_true, if_false]

/-- The write that the check held back is applied to the verdict (R18). -/
theorem State.blkCheckEnd_of_some {s : State} {b v : Nat} (hc : s.rfb (blkChecking b) = true)
    (hh : lookup s.cmds.heldCtl b = some v) :
    s.blkCheckEnd b = ({ s with cmds := { s.cmds with heldCtl := eraseKey s.cmds.heldCtl b } }.blkVerdict b).blkApply b v := by
  simp only [State.blkCheckEnd, hc, hh, Bool.not_true, Bool.false_eq_true, if_false]

/-! ## Accesses of the register windows (R9, R29, R142, R772) -/

/-- A master whose requests the gate lets through is one that reaches the control window (R29). -/
theorem State.windowMid_of_gate {s : State} {mid a : Nat} {read : Bool} (h : s.gate mid a read = .open_) : windowMid mid = true := by
  cases hw : windowMid mid with
  | true => rfl
  | false => simp [State.gate, hw] at h

/-- A 32-bit access at a multiple of its size is served by every window (R772). -/
theorem accessGood_word {off : Nat} (h : off % 4 = 0) : accessGood off 4 true = true := by simp [accessGood, h]

/-- A 32-bit write through an open gate reaches the control window. -/
theorem State.regWrite_control {s : State} {r : RegAccess} (v : Nat) (hw : r.window = .control) (hm : s.masterOpen r.mid.toNat = true)
    (hf : r.full = true) (hs : r.size = 4) (ho : r.offset.toNat % 4 = 0)
    (hg : s.gate r.mid.toNat r.offset.toNat false = .open_) :
    s.regWrite r v = s.ctlWrite32 r.mid.toNat r.offset.toNat (v % 2 ^ 32) := by
  simp [State.regWrite, hw, hm, hf, hs, accessGood_word ho, State.windowMid_of_gate hg]

/-- A 32-bit write by a function reaches its own window. -/
theorem State.regWrite_inst {s : State} {r : RegAccess} {f : Fin 2048} (v : Nat) (hw : r.window = .inst f)
    (hm : s.masterOpen r.mid.toNat = true) (hmid : r.mid.toNat = f.val) (hf : r.full = true) (hs : r.size = 4)
    (ho : r.offset.toNat % 4 = 0) :
    s.regWrite r v = s.instWrite32 r.mid.toNat r.offset.toNat (v % 2 ^ 32) := by
  rw [hmid] at hm ⊢
  simp [State.regWrite, hw, hm, hmid, hf, hs, accessGood_word ho]

/-- A write of a register of a block map that the gate lets through takes effect. -/
theorem State.ctlWrite32_mapWrite {s : State} {mid a i : Nat} {d : RegDef} (v : Nat) (hg : s.gate mid a false = .open_)
    (hb : buoyArea a = none) (hl : lanArea a = none) (hd : regDefAt a = some (d, i)) :
    s.ctlWrite32 mid a v = s.mapWrite mid a v d i := by
  simp only [State.ctlWrite32, State.gatedWrite, hg, hb, hl, hd]

/-- A 32-bit read of the control window answers what the register behind its gate does, and a bad master's read 0 (R9, R773). -/
theorem State.regRead_control {s : State} {r : RegAccess} (hw : r.window = .control) (hm : s.masterOpen r.mid.toNat = true)
    (hf : r.full = true) (hs : r.size = 4) (ho : r.offset.toNat % 4 = 0) :
    s.regRead r = (s.ctlRead32 r.mid.toNat r.offset.toNat).2.emit
      (.readData r.mid.toNat (s.ctlRead32 r.mid.toNat r.offset.toNat).1) := by
  cases hmid : windowMid r.mid.toNat with
  | true => simp [State.regRead, hw, hm, hf, hs, accessGood_word ho, hmid]
  | false => simp [State.regRead, State.ctlRead32, State.gatedValue, State.gate, hw, hm, hmid]

/-- A 32-bit read by a function of an offset of its own window that it owns. -/
theorem State.regRead_inst {s : State} {r : RegAccess} {f : Fin 2048} (hw : r.window = .inst f)
    (hm : s.masterOpen r.mid.toNat = true) (hmid : r.mid.toNat = f.val) (hf : r.full = true) (hs : r.size = 4)
    (ho : r.offset.toNat % 4 = 0) (hown : s.notOwned r.mid.toNat r.offset.toNat = false) :
    s.regRead r = (s.instRead32 r.mid.toNat r.offset.toNat).2.emit
      (.readData r.mid.toNat (s.instRead32 r.mid.toNat r.offset.toNat).1) := by
  rw [hmid] at hm hown ⊢
  rw [State.regRead]
  simp [hw, hm, hmid, hf, hs, accessGood_word ho, hown]

/-- No channel of Buoy lies at the control of a block (R14, R273). -/
theorem buoyArea_blkCtl (b : Nat) : buoyArea (blkCtl b) = none := by
  have hbase : R.BUOY_BLK_CTL = 5 * 2 ^ 20 := rfl
  unfold buoyArea blkCtl
  rw [hbase, if_neg, if_neg] <;> rw [Bool.and_eq_true, decide_eq_true_eq, decide_eq_true_eq] <;> omega

/-- No register of a region lies at the control of a block (R14, R685). -/
theorem lanArea_blkCtl (b : Nat) : lanArea (blkCtl b) = none := by
  unfold lanArea blkCtl
  rw [if_neg]
  rw [Bool.and_eq_true, decide_eq_true_eq, decide_eq_true_eq]
  omega

/-- Every block of R13 has its control in its map (R14). -/
theorem regDefAt_blkCtl (b : Fin 32) (hb : blockKnown b.val = true) : (regDefAt (blkCtl b.val)).isSome = true := by
  revert b
  decide

/-- A write of the control of a block through the register window is a write of BLK_CTL. -/
theorem State.ctlWrite32_blkCtl {s : State} {mid : Nat} (b : Fin 32) (v : Nat) (hg : s.gate mid (blkCtl b.val) false = .open_)
    (hb : blockKnown b.val = true) : s.ctlWrite32 mid (blkCtl b.val) v = s.blkWrite b.val v := by
  obtain ⟨⟨d, i⟩, hd⟩ := Option.isSome_iff_exists.mp (regDefAt_blkCtl b hb)
  rw [State.ctlWrite32_mapWrite v hg (buoyArea_blkCtl _) (lanArea_blkCtl _) hd, State.mapWrite,
    if_pos (show blkCtl b.val % 2 ^ 20 = 0 from Nat.mul_mod_left ..), blkCtl, Nat.mul_div_cancel _ (Nat.two_pow_pos 20)]

/-! ## What each command of this family runs -/

theorem exec_registerWrite (acc : RegAccess) (v : Dword) (s : State) :
    exec (.registerWrite acc v) s = .next (s.regWrite acc v.toNat) := rfl
theorem exec_rcRegisterRead (acc : RegAccess) (s : State) : exec (.rcRegisterRead acc) s = .next (s.regRead acc) := rfl
theorem exec_blkCtlEnableWrite (mid : BitVec 13) (b : Fin 32) (s : State) :
    exec (.blkCtlEnableWrite mid b) s = .next (s.blkCtlWrite mid.toNat b.val 1) := rfl
theorem exec_blkCtlDisableWrite (mid : BitVec 13) (b : Fin 32) (s : State) :
    exec (.blkCtlDisableWrite mid b) s = .next (s.blkCtlWrite mid.toNat b.val 0) := rfl
theorem exec_blkCtlLockWrite (mid : BitVec 13) (b : Fin 32) (enable : Bool) (s : State) :
    exec (.blkCtlLockWrite mid b enable) s = .next (s.blkCtlWrite mid.toNat b.val (2 ^ 31 + b2n enable)) := rfl
theorem exec_consistencyCheckEnd (b : Fin 32) (s : State) : exec (.consistencyCheckEnd b) s = .next (s.blkCheckEnd b.val) := rfl

/-- The selection of the debug port's instruction leaves the main supplies as they are (R751). -/
theorem State.mainOn_selected (s : State) : (s.setF F.TST_DBG_STATUS_selected 1).mainOn = s.mainOn :=
  s.rfb_setF_ne 1 (by decide)

/-- An access of the control window by the debug port is a register access of its master (R754). -/
theorem exec_dbgAccess_window {s : State} {addr : BitVec 40} {size : Nat} {full : Bool} (bs : List Byte) (hm : s.mainOn = true)
    (hr : inRange addr.toNat 1 0x40000000 (64 * 2 ^ 20) = true) :
    exec (.dbgAccess addr size full (some bs)) s = .next ((s.setF F.TST_DBG_STATUS_selected 1).regWrite
      { mid := 0x1040, window := .control, offset := BitVec.ofNat 26 (addr.toNat - 0x40000000), size := size, full := full }
      (leNat (slice bs 0 size))) := by
  show execDbgAccess addr size full (some bs) s = _
  simp only [execDbgAccess, State.mainOn_selected, hm, hr, Bool.not_true, Bool.false_eq_true, if_false, if_true]

/-- At debug level 0 an access outside the control window is one of a memory of the device address map (R30, R754). -/
theorem exec_dbgAccess_memory {s : State} {addr : BitVec 40} {size : Nat} {full : Bool} (w : Option (List Byte))
    (hm : s.mainOn = true) (hr : inRange addr.toNat 1 0x40000000 (64 * 2 ^ 20) = false)
    (hl : (s.setF F.TST_DBG_STATUS_selected 1).dbgLevel = 0) :
    exec (.dbgAccess addr size full w) s = .next ((s.setF F.TST_DBG_STATUS_selected 1).dbgMemory addr.toNat size w) := by
  show execDbgAccess addr size full w s = _
  simp only [execDbgAccess, State.mainOn_selected, hm, hr, hl, Bool.not_true, bne_self_eq_false, Bool.false_eq_true, if_false]

/-! ## Serial-number comparison (R774) -/

/-- A sequence is later than one that lies strictly nearer a common base, within half the circle of it. -/
theorem later_of_sub32_lt {a b base : Nat} (h : sub32 b base < sub32 a base) (ha : sub32 a base < 2 ^ 31) : later a b = true := by
  simp only [later, Bool.and_eq_true, decide_eq_true_eq]
  simp only [sub32] at *
  omega

/-- Two sequences at one distance from a base are one. -/
theorem eq_of_sub32_eq {a b base : Nat} (ha : a < 2 ^ 32) (hb : b < 2 ^ 32) (h : sub32 a base = sub32 b base) : a = b := by
  simp only [sub32] at h
  omega

/-- Later means a distance of 1 to 2^31 - 1 round the circle. -/
theorem later_iff {a b : Nat} (ha : a < 2 ^ 32) (hb : b < 2 ^ 32) :
    later a b = true ↔ 1 ≤ ((a : Int) - b) % 2 ^ 32 ∧ ((a : Int) - b) % 2 ^ 32 ≤ 2 ^ 31 - 1 := by
  have hsub : (sub32 a b : Int) = ((a : Int) - b) % 2 ^ 32 := by
    simp only [sub32]
    omega
  simp only [later, Bool.and_eq_true, decide_eq_true_eq]
  omega

/-- A member of a list of sequences is its latest: the only one of its value, and later than every other. -/
def IsLatest (l : List Nat) (a : Nat) : Prop := l.count a = 1 ∧ ∀ b ∈ l, b = a ∨ later a b = true

/-- `latestBy` searches for the latest. -/
theorem latestBy_eq_find? (l : List Nat) :
    ∃ p : Nat → Bool, latestBy id l = l.find? p ∧ ∀ a, p a = true ↔ IsLatest l a := by
  refine ⟨_, rfl, fun a => ?_⟩
  have hcount : (l.filter fun b => decide (b = a)).length = l.count a := by
    rw [List.count_eq_length_filter, List.filter_congr fun b _ => (beq_eq_decide b a).symm]
  simp only [IsLatest, id_eq, Bool.and_eq_true, decide_eq_true_eq, hcount, List.all_eq_true, Bool.or_eq_true]

/-- Where a list has a latest, `latestSeq` is one. -/
theorem latestSeq_isLatest {l : List Nat} {m : Nat} (hm : m ∈ l) (h : IsLatest l m) : latestSeq l ∈ l ∧ IsLatest l (latestSeq l) := by
  obtain ⟨p, hfind, hp⟩ := latestBy_eq_find? l
  rw [latestSeq, hfind]
  cases hl : l.find? p with
  | none => exact absurd ((hp m).mpr h) (List.find?_eq_none.mp hl m hm)
  | some a => exact ⟨List.mem_of_find?_eq_some hl, (hp a).mp (List.find?_some hl)⟩

/-- The largest of a list that is not empty. -/
theorem foldl_max_greatest {l : List Nat} (h : l ≠ []) : l.foldl max 0 ∈ l ∧ ∀ x ∈ l, x ≤ l.foldl max 0 := by
  cases l with
  | nil => exact absurd rfl h
  | cons x xs => exact List.max?_eq_some_iff.mp (by rw [List.max?_cons', List.foldl_cons, Nat.zero_max])

/-- Where a list has no latest, `latestSeq` is its largest. -/
theorem latestSeq_greatest {l : List Nat} (hl : l ≠ []) (h : ∀ a ∈ l, ¬ IsLatest l a) :
    latestSeq l ∈ l ∧ ∀ x ∈ l, x ≤ latestSeq l := by
  obtain ⟨p, hfind, hp⟩ := latestBy_eq_find? l
  have hnone : latestBy id l = none := by
    rw [hfind, List.find?_eq_none]
    exact fun a ha hpa => h a ha ((hp a).mp hpa)
  rw [latestSeq, hnone]
  exact foldl_max_greatest hl

/-- Different sequences within half the circle of a base have a latest: the one that lies farthest from the base. -/
theorem exists_isLatest {l : List Nat} {base : Nat} (hl : l ≠ []) (hn : l.Nodup) (h : ∀ x ∈ l, x < 2 ^ 32 ∧ sub32 x base < 2 ^ 31) :
    ∃ m ∈ l, IsLatest l m := by
  obtain ⟨m, hm, hmax⟩ := l.toFinset.exists_max_image (sub32 · base) (List.toFinset_nonempty_iff l |>.mpr hl)
  rw [List.mem_toFinset] at hm
  refine ⟨m, hm, List.count_eq_one_of_mem hn hm, fun b hb => ?_⟩
  obtain ⟨hm32, hm31⟩ := h m hm
  rcases Nat.lt_or_eq_of_le (hmax b (List.mem_toFinset.mpr hb)) with hlt | heq
  · exact .inr (later_of_sub32_lt hlt hm31)
  · exact .inl (eq_of_sub32_eq (h b hb).1 hm32 heq)

/-! ## The obligations -/

/-- Settles O53: each form of the write reaches `blkApply` with an even value, and so does the one that the check held back. -/
theorem disableClearsReady : Obligations.DisableClearsReady := by
  unfold Obligations.DisableClearsReady
  refine ⟨?disableWrite, ?lockWrite, ?window, ?held⟩
  case disableWrite =>
    intro mid block s hm hg hb hc
    exact ⟨_, by rw [exec_blkCtlDisableWrite, State.blkCtlWrite_open 0 hm hg hb hc], s.blkApply_clears block.val rfl⟩
  case lockWrite =>
    intro mid block s hm hg hb hc
    exact ⟨_, by rw [exec_blkCtlLockWrite, State.blkCtlWrite_open _ hm hg hb hc], s.blkApply_clears block.val rfl⟩
  case window =>
    intro acc value block s hw hs hf ho hb hm hg hc hv
    have hv' : value.toNat % 2 ^ 32 % 2 = 0 := by omega
    have hctl : s.regWrite acc value.toNat = s.blkApply block.val (value.toNat % 2 ^ 32) := by
      rw [State.regWrite_control _ hw hm hf hs (by rw [ho, blkCtl]; omega) hg, ho]
      rw [ho] at hg
      rw [State.ctlWrite32_blkCtl block _ hg hb, State.blkWrite, hc, if_neg Bool.false_ne_true]
    exact ⟨_, by rw [exec_registerWrite, hctl], s.blkApply_clears block.val hv'⟩
  case held =>
    intro block v s hc hh hv
    exact ⟨_, by rw [exec_consistencyCheckEnd, State.blkCheckEnd_of_some hc hh], State.blkApply_clears _ block.val hv⟩

/-- Settles O59: within half the circle of a base the sequence farthest from the base is the latest. -/
theorem sequencesCompare : Obligations.SequencesCompare := by
  unfold Obligations.SequencesCompare
  refine ⟨?pairs, ?latest, ?none⟩
  case pairs =>
    intro a b ha hb
    rw [← Bool.not_eq_true, ← Bool.not_eq_true, later_iff ha hb, later_iff hb ha]
    omega
  case latest =>
    intro l base hl hn h
    obtain ⟨m, hm, hlatest⟩ := exists_isLatest hl hn h
    obtain ⟨hmem, -, hlater⟩ := latestSeq_isLatest hm hlatest
    exact ⟨hmem, hlater⟩
  case none =>
    intro l hl h
    refine latestSeq_greatest hl fun a ha ⟨hone, hlater⟩ => ?_
    rcases h a ha with hcount | ⟨b, hb, hne, hnot⟩
    · exact hcount hone
    · rcases hlater b hb with heq | hlat
      · exact hne heq
      · exact Bool.false_ne_true (hnot.symm.trans hlat)

/-- Settles O5, each clause by the lemma on what its command reaches. -/
theorem registerActs : Obligations.RegisterActs := by
  unfold Obligations.RegisterActs
  refine ⟨?mapWrite, ?instWrite, ?mapRead, ?instRead, ?enable, ?disable, ?lock, ?checkEnd, ?dbgWindow, ?dbgMemory⟩
  case mapWrite =>
    intro acc value s hm hf hw hs ho hg hb hl hd
    obtain ⟨⟨d, i⟩, hd⟩ := Option.isSome_iff_exists.mp hd
    rw [exec_registerWrite, State.regWrite_control _ hw hm hf hs ho hg, State.ctlWrite32_mapWrite _ hg hb hl hd, hd]
  case instWrite =>
    intro acc value f s hm hf hw hmid hs ho
    rw [exec_registerWrite, State.regWrite_inst _ hw hm hmid hf hs ho]
  case mapRead =>
    intro acc s hm hf hw hs ho
    rw [exec_rcRegisterRead, State.regRead_control hw hm hf hs ho]
  case instRead =>
    intro acc f s hm hf hw hmid hs ho hown
    rw [exec_rcRegisterRead, State.regRead_inst hw hm hmid hf hs ho hown]
  case enable =>
    intro mid block s hg hm hb hc
    rw [exec_blkCtlEnableWrite, State.blkCtlWrite_open 1 hm hg hb hc]
    rfl
  case disable =>
    intro mid block s hg hm hb hc
    rw [exec_blkCtlDisableWrite, State.blkCtlWrite_open 0 hm hg hb hc]
    rfl
  case lock =>
    intro mid block enable s hg hm hb hc
    rw [exec_blkCtlLockWrite, State.blkCtlWrite_open _ hm hg hb hc]
    cases enable <;> rfl
  case checkEnd =>
    intro block s hc hh
    rw [exec_consistencyCheckEnd, State.blkCheckEnd_of_none hc hh]
  case dbgWindow =>
    intro addr size full bs s hm hr
    exact exec_dbgAccess_window bs hm hr
  case dbgMemory =>
    intro addr size full w s hm hr hl
    exact exec_dbgAccess_memory w hm hr hl

/-- Settles O46: nothing is listed at reset, so every register and every map reads its default. -/
theorem resetLeaves : Obligations.ResetLeaves := by
  unfold Obligations.ResetLeaves
  refine ⟨fun a => rfl, ⟨?mainOn, rfl, rfl, rfl⟩, fun i => ⟨rfl, rfl⟩, fun a => ⟨rfl, rfl, rfl⟩⟩
  case mainOn => decide

end Sys2Proof.Machine
end

section
/-! Family 01_architecture: the masters of the register windows (O55), the power of regions with the receive side and parked packets
(O40), and that every command answers a next state (O51). -/

namespace Sys2Proof.Machine

/-! ## Masters of the register windows (R3, R4, R29, R773) -/

/-- A MID outside those that R29 lists does not reach the control window. -/
theorem windowMid_eq_false {m : Nat} (h0 : m ≠ 0) (hk : ¬ (0x1000 ≤ m ∧ m ≤ 0x1003)) (hd : m ≠ 0x1040) : windowMid m = false := by
  simp only [windowMid, Bool.or_eq_false_iff, Bool.and_eq_false_iff, decide_eq_false_iff_not]
  exact ⟨⟨h0, not_and_or.mp hk⟩, hd⟩

/-- A MID that R3 does not assign is no function's. -/
theorem ne_function_of_unassigned {m : Nat} (f : Fin 2048) (h : midAssigned m = false) : m ≠ f.val := by
  rintro rfl
  simp only [midAssigned, Bool.or_eq_false_iff, decide_eq_false_iff_not] at h
  omega

/-- A write of the control window by a master that does not reach it is a bad master's. -/
theorem State.regWrite_control_refused {s : State} {r : RegAccess} (v : Nat) (hw : r.window = .control)
    (hm : s.masterOpen r.mid.toNat = true) (hmid : windowMid r.mid.toNat = false) :
    s.regWrite r v = s.badMaster r.mid.toNat false (some (0x40000000 + r.offset.toNat)) := by
  simp [State.regWrite, hw, hm, hmid]

/-- A read of the control window by a master that does not reach it is a bad master's and answers 0. -/
theorem State.regRead_control_refused {s : State} {r : RegAccess} (hw : r.window = .control)
    (hm : s.masterOpen r.mid.toNat = true) (hmid : windowMid r.mid.toNat = false) :
    s.regRead r = (s.badMaster r.mid.toNat true (some (0x40000000 + r.offset.toNat))).emit (.readData r.mid.toNat 0) := by
  simp [State.regRead, hw, hm, hmid]

/-- A write of an instance window under another MID: nothing for an assigned one, and a bad master's for any other. -/
theorem State.regWrite_inst_foreign {s : State} {r : RegAccess} {f : Fin 2048} (v : Nat) (hw : r.window = .inst f)
    (hm : s.masterOpen r.mid.toNat = true) (hmid : r.mid.toNat ≠ f.val) :
    s.regWrite r v = if midAssigned r.mid.toNat then s else s.badMaster r.mid.toNat false none := by
  simp [State.regWrite, hw, hm, hmid]

/-- A read of an instance window under another MID: nothing for an assigned one, and a bad master's, answering 0, for any other. -/
theorem State.regRead_inst_foreign {s : State} {r : RegAccess} {f : Fin 2048} (hw : r.window = .inst f)
    (hm : s.masterOpen r.mid.toNat = true) (hmid : r.mid.toNat ≠ f.val) :
    s.regRead r = if midAssigned r.mid.toNat then s
      else (s.badMaster r.mid.toNat true none).emit (.readData r.mid.toNat 0) := by
  simp [State.regRead, hw, hm, hmid]

/-! ## Power of the regions (R667, R677 to R679) -/

/-- The cap that governs a region rests on PWR_STATUS and on its own cap alone. -/
@[simp] theorem State.cap5_setRegion (s : State) (r : Nat) (v w : Region) : (s.setRegion r v).cap5 w = s.cap5 w := rfl

@[simp] theorem State.cap5_samples (s : State) (v : Region) (l : List Nat) : s.cap5 { v with samples := l } = s.cap5 v := rfl

/-- A scrub pass over a region that is Running, Quiescing or Quiesced. -/
theorem exec_configScrubPass_live {r : Fin 16} {s : State} (n : BitVec 16) (bad : Bool) (h3 : 3 ≤ (s.region r.val).state)
    (h5 : (s.region r.val).state ≤ 5) :
    exec (.configScrubPass r n bad) s = .next
      (let u := (List.range n.toNat).foldl (fun u _ => (u.bump (R.LAN_SCRUB_CE r.val)).fault 0x0C (0x600 + r.val) 1 []) s
       if bad then (u.lanFault r.val 0x1510).fault 0x0D (0x600 + r.val) 0 [] else u) := by
  show execConfigScrubPass r n bad s = _
  simp [execConfigScrubPass, Nat.not_lt.mpr h3, Nat.not_lt.mpr h5]

/-- A sample of at most 150 % of the cap, once the region throttles, is only recorded. -/
theorem exec_regionPowerSample_recorded {r : Fin 16} {p : BitVec 12} {s : State} (h3 : 3 ≤ (s.region r.val).state)
    (h5 : (s.region r.val).state ≤ 5) (hp : 4 * p.toNat ≤ 3 * s.cap5 (s.region r.val)) (hs : (s.region r.val).stage ≠ 0) :
    exec (.regionPowerSample r p) s = .next
      (s.setRegion r.val { s.region r.val with samples := (p.toNat :: (s.region r.val).samples).take 64 }) := by
  show execRegionPowerSample r p s = _
  simp [execRegionPowerSample, Nat.not_lt.mpr h3, Nat.not_lt.mpr h5, Nat.not_lt.mpr hp, hs]

/-- A sample above 150 % of the cap trips the region. -/
theorem exec_regionPowerSample_trips {r : Fin 16} {p : BitVec 12} {s : State} (h3 : 3 ≤ (s.region r.val).state)
    (h5 : (s.region r.val).state ≤ 5) (hp : 3 * s.cap5 (s.region r.val) < 4 * p.toNat) :
    exec (.regionPowerSample r p) s = .next
      (let v := { s.region r.val with samples := (p.toNat :: (s.region r.val).samples).take 64 }
       (((s.setRegion r.val v).bump (R.LAN_TRIPS r.val)).setRegion r.val { v with stage := 3 }).lanFault r.val 0x1511) := by
  show execRegionPowerSample r p s = _
  simp [execRegionPowerSample, Nat.not_lt.mpr h3, Nat.not_lt.mpr h5, hp]

/-! ## Pages that arrive (R333) -/

/-- A page that another access has brought becomes resident, wherever its home is. -/
theorem exec_pageFillComplete_cached {k : BitVec 30} {s : State} (ecc : EccResult) (hf : (s.page k.toNat).filling = true)
    (hc : (s.page k.toNat).cached.isSome = true) :
    exec (.pageFillComplete k ecc) s = .next ((s.fillPage k.toNat none).releasePage k.toNat) := by
  show execPageFillComplete k ecc s = _
  cases hh : (s.page k.toNat).home.frame with
  | none => simp [execPageFillComplete, hh, hf, hc]
  | some f => simp [execPageFillComplete, hh, hf, hc]

/-- A page read whole from its frame of LPDDR5X becomes resident. -/
theorem exec_pageFillComplete_read {k : BitVec 30} {ecc : EccResult} {f : Nat} {s : State} (hh : (s.page k.toNat).home = .ddr f)
    (hf : (s.page k.toNat).filling = true) (hc : (s.page k.toNat).cached = none)
    (hp : ((s.eccRead (f * 4096) ecc).page k.toNat).poisoned = false) :
    exec (.pageFillComplete k ecc) s = .next (((s.eccRead (f * 4096) ecc).fillPage k.toNat none).releasePage k.toNat) := by
  show execPageFillComplete k ecc s = _
  simp [execPageFillComplete, hh, Home.frame, hf, hc, hp]

/-! ## No command stops the device (R113) -/

/-- A meaning of an admin command that answers a next state for every entry in every state. -/
def AdminMeaning.Answers (f : AdminMeaning) : Prop := ∀ (e : AdminEntry) (s : State), ∃ t, f e s = .next t

/-- Every command of the catalogue answers a next state: each meaning is one in itself. -/
theorem catalogue_answers : (commands1 ++ commands2 ++ commands3).Forall fun x => x.2.Answers := by
  simp only [commands1, commands2, commands3, List.cons_append, List.nil_append, List.forall_cons]
  and_intros
  on_goal -1 => exact trivial
  all_goals exact fun _ _ => ⟨_, rfl⟩

/-- The command that an opcode names answers a next state. -/
theorem answers_of_commandOf {op : Nat} {f : AdminMeaning} (h : commandOf op = some f) : f.Answers := by
  obtain ⟨x, hx, rfl⟩ := Option.map_eq_some_iff.mp h
  exact List.forall_iff_forall_mem.mp catalogue_answers x (List.mem_of_find?_eq_some hx)

/-- A fetched entry answers a next state, whatever its opcode: a pad, a command of the catalogue or an unknown one (R113, R188). -/
theorem execAdminCommandFetch_next (e : AdminEntry) (s : State) : ∃ t, execAdminCommandFetch e s = .next t := by
  simp only [execAdminCommandFetch]
  split
  · exact ⟨_, rfl⟩
  · split
    next f hf => exact answers_of_commandOf hf e s
    next => exact ⟨_, rfl⟩

/-! ## The obligations -/

/-- Settles O55: a master that does not reach a window is refused before the access is looked at. -/
theorem windowMasters : Obligations.WindowMasters := by
  unfold Obligations.WindowMasters
  refine ⟨?controlWrite, ?controlRead, ?assignedWrite, ?assignedRead, ?unassignedWrite, ?unassignedRead⟩
  case controlWrite =>
    intro acc value s hw hm h0 hk hd
    rw [exec_registerWrite, State.regWrite_control_refused _ hw hm (windowMid_eq_false h0 hk hd)]
  case controlRead =>
    intro acc s hw hm h0 hk hd
    rw [exec_rcRegisterRead, State.regRead_control_refused hw hm (windowMid_eq_false h0 hk hd)]
  case assignedWrite =>
    intro acc value i s hw hmid hm ha
    rw [exec_registerWrite, State.regWrite_inst_foreign _ hw hm hmid, if_pos ha]
  case assignedRead =>
    intro acc i s hw hmid hm ha
    rw [exec_rcRegisterRead, State.regRead_inst_foreign hw hm hmid, if_pos ha]
  case unassignedWrite =>
    intro acc value i s hw hm ha
    rw [exec_registerWrite, State.regWrite_inst_foreign _ hw hm (ne_function_of_unassigned i ha), ha,
      if_neg Bool.false_ne_true]
  case unassignedRead =>
    intro acc i s hw hm ha
    rw [exec_rcRegisterRead, State.regRead_inst_foreign hw hm (ne_function_of_unassigned i ha), ha,
      if_neg Bool.false_ne_true]

/-- Settles O40: each clause takes its command down the branch that the hypotheses open. The reason 0x0800 of a parked packet's drop is
the model's choice (log entry 53). -/
theorem regionPowerActs : Obligations.RegionPowerActs := by
  unfold Obligations.RegionPowerActs
  refine ⟨?scrub, ?scrubFault, ?sample, ?sampleTrip, ?stage2, ?recovered, ?faster, ?trip, ?receive, ?tail, ?shortTail, ?cached, ?read,
    ?parked⟩
  case scrub =>
    rintro region corrected uncorrectable s h3 h5 rfl
    exact exec_configScrubPass_live corrected false h3 h5
  case scrubFault =>
    rintro region corrected uncorrectable s h3 h5 rfl
    exact exec_configScrubPass_live corrected true h3 h5
  case sample =>
    intro region sample s h3 h5 hp hs
    exact exec_regionPowerSample_recorded h3 h5 hp hs
  case sampleTrip =>
    intro region sample s h3 h5 hp
    exact exec_regionPowerSample_trips h3 h5 hp
  case stage2 =>
    intro region s hs ha hst
    show execThrottleStage2 region s = _
    simp [execThrottleStage2, hs, Nat.not_le.mpr ha, hst]
  case recovered =>
    intro region s ha hs
    show execThrottleRecovery region s = _
    simp [execThrottleRecovery, Nat.not_lt.mpr ha, hs]
  case faster =>
    intro region i s ha hs hst hi
    show execThrottleRecovery region s = _
    simp [execThrottleRecovery, Nat.not_lt.mpr ha, hs, hst, hi]
  case trip =>
    intro region s hs ha hc hst
    show execPowerTrip region s = _
    simp [execPowerTrip, hs, Nat.not_le.mpr ha, Nat.not_lt.mpr hc, hst]
  case receive =>
    intro port bytes s ho ha
    show execFrameReceive port bytes s = _
    simp [execFrameReceive, ho, ha]
  case tail =>
    intro port fcsGood k bytes s ha hk
    show execFrameTail port fcsGood s = _
    simp [execFrameTail, ha, hk]
  case shortTail =>
    intro port fcsGood k bytes s ha
    show execFrameTail port fcsGood s = _
    simp [execFrameTail, ha]
  case cached =>
    intro page ecc s hf hc
    exact exec_pageFillComplete_cached ecc hf hc
  case read =>
    intro page ecc f s hh hf hc hp
    exact exec_pageFillComplete_read hh hf hc hp
  case parked =>
    intro place x s hx
    show execParkTimeout place s = _
    simp [execParkTimeout, hx]

/-- Settles O51: every meaning is a next state in itself, and the fetch of an entry answers what the command that it names does. -/
theorem noCommandStops : Obligations.NoCommandStops := by
  unfold Obligations.NoCommandStops
  intro c s
  cases c
  case adminCommandFetch e => exact execAdminCommandFetch_next e s
  all_goals exact ⟨_, rfl⟩

end Sys2Proof.Machine
end

section
/-! Family 03_yadopex_commands: what the device commands answer (O9) and the fetch of an admin entry (O18). -/

namespace Sys2Proof.Machine

/-! ## Bodies of the device commands -/

/-- A parameter word below 2^16 has no bit outside the low half. -/
theorem Cmd.reserved_half {c : Cmd} {n : Nat} (h : c.p n < 2 ^ 16) : c.reserved [(n, 0xFFFF)] = none := by
  have hand : c.p n &&& 0xFFFF = c.p n := (Nat.and_two_pow_sub_one_eq_mod (c.p n) 16).trans (Nat.mod_eq_of_lt h)
  simp [Cmd.reserved, fits, hand]

/-- Where no reserved bit is set, a checked body runs (R101). -/
theorem Cmd.checked_of_none {c : Cmd} {ws : List (Nat × Nat)} (s : State) (body : Unit → Res) (h : c.reserved ws = none) :
    c.checked s ws body = body () := by
  rw [Cmd.checked, h]

/-- DEV_CMD_ABORT of a PENDING command that can be stopped ends it with ABORTED (R123). -/
theorem devCmdAbortSpec_body {c : Cmd} {s u : State} {p : PendCmd} (ht : c.p 0 < 2 ^ 16)
    (hp : (s.pendOf c.issuer).find? (·.cmd.tag = c.p 0) = some p) (hu : s.aborted p = some u) :
    devCmdAbortSpec.body c s = .ok (u.finish p 0x20 0x000C []) [] := by
  simp only [devCmdAbortSpec, Cmd.checked_of_none _ _ (Cmd.reserved_half ht), hp, hu]

/-- A write that reaches its register runs its body (R29). -/
theorem State.gatedWrite_open {s : State} {mid a : Nat} (body : State → State) (h : s.gate mid a false = .open_) :
    s.gatedWrite mid a body = body s := by
  rw [State.gatedWrite, h]

/-! ## The fetch of an entry -/

theorem exec_adminCommandFetch (e : AdminEntry) (s : State) : exec (.adminCommandFetch e) s = execAdminCommandFetch e s := rfl

/-- An entry whose opcode the catalogue names is handled by that command (R112). -/
theorem execAdminCommandFetch_of_some {e : AdminEntry} {f : AdminMeaning} (s : State) (hop : wd e.words 0 % 2 ^ 16 ≠ 0xFFFF)
    (hf : commandOf (wd e.words 0 % 2 ^ 16) = some f) : execAdminCommandFetch e s = f e s := by
  rw [execAdminCommandFetch, if_neg hop, hf]

/-- An entry that is no pad and whose opcode names no command runs as an unknown one (R113). -/
theorem execAdminCommandFetch_of_none {e : AdminEntry} (s : State) (hop : wd e.words 0 % 2 ^ 16 ≠ 0xFFFF)
    (hf : commandOf (wd e.words 0 % 2 ^ 16) = none) :
    execAdminCommandFetch e s = .next (s.runCmd (unknownSpec (wd e.words 0 % 2 ^ 16)) e) := by
  rw [execAdminCommandFetch, if_neg hop, hf]

/-- An entry that is a pad is handled as one (R188). -/
theorem execAdminCommandFetch_pad {e : AdminEntry} (s : State) (hop : wd e.words 0 % 2 ^ 16 = 0xFFFF) :
    execAdminCommandFetch e s = .next (s.adminPad e) := by
  rw [execAdminCommandFetch, if_pos hop]

/-- An entry of a good length whose opcode the catalogue lacks takes one unit and answers BAD_OPCODE (R113). -/
theorem runCmd_unknown {s : State} {e : AdminEntry} {op : Nat} (hop : wd e.words 0 % 2 ^ 16 = op) (hel : s.eligible e = true)
    (hrow : catRow op = none) (h1 : 1 ≤ field (wd e.words 1) 15 0) (h64 : field (wd e.words 1) 15 0 ≤ 64)
    (hspan : field (wd e.words 1) 15 0 ≤ (s.entrySpan e).2) :
    s.runCmd (unknownSpec op) e = ((s.bump R.GLB_CMD_FETCHED).takeEntry (cmdOf s e op (s.entrySpan e).1) 1).reply
      (cmdOf s e op (s.entrySpan e).1) 1 0x10 0 [] := by
  have hu : (cmdOf s e op (s.entrySpan e).1).units = field (wd e.words 1) 15 0 := rfl
  have h0 : field (wd e.words 1) 15 0 ≠ 0 := Nat.one_le_iff_ne_zero.mp h1
  simp only [State.runCmd, unknownSpec, hop, hel, hrow, hu, bne_self_eq_false, Bool.not_true, Bool.or_self, Bool.false_eq_true,
    if_false, gt_iff_lt, h0, h64.not_gt, hspan.not_gt, decide_false]

/-- A fetch takes its place in the round and leaves the queues. -/
theorem State.q_turn (s : State) (i : Issuer) (q : Nat) : (s.turn i).q q = s.q q := by
  unfold State.turn
  split <;> rfl

/-- A pad that ends at the ring's end takes its units and completes with SUCCESS (R188). -/
theorem State.adminPad_inst {s : State} {e : AdminEntry} {i : Fin 2048} {q : Nat} (hi : e.issuer = .inst i)
    (hq : s.adminQ i.val = some q) (hel : s.eligible e = true)
    (hend : wd e.words 1 % 2 ^ 16 = (s.q q).size - (s.q q).fi % (s.q q).size)
    (hpi : wd e.words 1 % 2 ^ 16 ≤ sub32 (s.q q).pi (s.q q).fi) :
    s.adminPad e =
      ((((s.turn (.inst i)).takeUnits q (wd e.words 1 % 2 ^ 16) (wd e.words 0) (field (wd e.words 1) 31 16) false).completeEntry
        q (s.q q).fi (wd e.words 1 % 2 ^ 16) (wd e.words 0) [] 0 0 (field (wd e.words 1) 31 16) false).fetched q) := by
  have hgood : (wd e.words 1 % 2 ^ 16 = (s.q q).size - (s.q q).fi % (s.q q).size &&
      wd e.words 1 % 2 ^ 16 ≤ sub32 (s.q q).pi (s.q q).fi) = true := by
    rw [Bool.and_eq_true, decide_eq_true_eq, decide_eq_true_eq]
    exact ⟨hend, hpi⟩
  simp only [State.adminPad, State.padEntry, State.q_turn, hi, hq, hel, hgood, if_true]

/-- An accepted entry carries the command's opcode (R112). -/
theorem State.opcode_of_accepts {s : State} {spec : CmdSpec} {e : AdminEntry} (h : s.accepts spec e = true) :
    wd e.words 0 % 2 ^ 16 = spec.opcode := by
  simp only [State.accepts, Bool.and_eq_true, beq_iff_eq] at h
  obtain ⟨⟨⟨⟨⟨⟨hop, -⟩, -⟩, -⟩, -⟩, -⟩, -⟩ := h
  exact hop

/-! ## The obligations -/

/-- Settles O9: each command is accepted and its body answers SUCCESS; a write that the gate lets through sets the register. -/
theorem deviceCommands : Obligations.DeviceCommands := by
  unfold Obligations.DeviceCommands
  refine ⟨?identify, ?nop, ?abort, ?claimQuery, ?queryRes⟩
  case identify => exact fun s e h _ => congrArg _ (runCmd_ok h rfl)
  case nop => exact fun s e h _ => congrArg _ (runCmd_ok h rfl)
  case abort =>
    intro s e h ⟨ht, hcan⟩
    obtain ⟨u, hbind⟩ := Option.isSome_iff_exists.mp hcan
    obtain ⟨p, hp, hu⟩ := Option.bind_eq_some_iff.mp hbind
    simp only [hp, hu, Option.getD_some]
    exact congrArg _ (runCmd_ok h (devCmdAbortSpec_body ht hp hu))
  case claimQuery => exact fun s e h hknown => congrArg _ (runCmd_ok h (if_pos hknown))
  case queryRes => exact fun mid value s hg => congrArg _ (State.gatedWrite_open _ hg)

/-- Settles O18, by what the entry's opcode names: a command, nothing, or a pad. -/
theorem adminFetch : Obligations.AdminFetch := by
  unfold Obligations.AdminFetch
  refine ⟨?named, ?nop, ?unknown, ?pad⟩
  case named =>
    intro s e f hop hf
    obtain ⟨t, ht⟩ := answers_of_commandOf hf e s
    exact ⟨t, by rw [exec_adminCommandFetch, execAdminCommandFetch_of_some s hop hf, ht], ht⟩
  case nop =>
    intro s e h
    have hop : wd e.words 0 % 2 ^ 16 = 1 := State.opcode_of_accepts h
    rw [exec_adminCommandFetch, execAdminCommandFetch_of_some (f := execDevNop) s (by rw [hop]; decide) (by rw [hop]; rfl)]
    exact congrArg _ (runCmd_ok h rfl)
  case unknown =>
    intro s e hel hf hrow hop h1 h64 hspan
    rw [exec_adminCommandFetch, execAdminCommandFetch_of_none s hop hf, runCmd_unknown rfl hel hrow h1 h64 hspan]
  case pad =>
    intro s e i q hi hq hel hop hend hpi
    rw [exec_adminCommandFetch, execAdminCommandFetch_pad s hop, State.adminPad_inst hi hq hel hend hpi]

end Sys2Proof.Machine
end

section
/-! Family 03_yadopex_commands: the queue of commands that a step leaves (O50).

Only a step takes from the queue: whatever the model's functions do to a state, `pending` stays. One lemma for each function says so, in
the model's order, by the lemmas of the functions that it calls; `exec_leaves` gathers them over the instructions, and the obligation
follows from it. Where a function takes a pair out of a long computation, its proof names the answer (`s.f x = y`) or the function that
computes (`State.g = f`) before it splits, so that the kernel compares terms as they stand and does not run the computation. -/

namespace Sys2Proof.Machine

/-! ## States inside what a meaning answers -/

/-- The state that a command's body leaves, however it ends. -/
def Res.state : Res → State
  | .ok s _ => s
  | .pend s => s
  | .pendNote s _ => s
  | .bad s _ _ _ => s

/-- The state that a record of a batch leaves. -/
def RecEnd.state : RecEnd → State
  | .ok s _ => s
  | .bad s _ _ _ => s

/-- The state that a thread's instruction leaves. -/
def ClvEnd.state : ClvEnd → State
  | .next s _ _ => s
  | .jump s _ _ _ => s
  | .block s _ _ => s
  | .stay s => s
  | .fault s _ _ _ => s

/-- The state that an action on a frame leaves. -/
def Acted.state : Acted → State
  | .go s _ => s
  | .gone s => s

/-- A port operation that ends leaves the commands that waited in s. -/
def PortLeaves (s : State) : PortEnd → Prop
  | .ok x => x.1.pending = s.pending
  | .error _ => True

/-- A command that answers a next state leaves the commands that waited in s. -/
def LeavesQueue (s : State) : Host.Outcome State Fault Refusal → Prop
  | .next t => t.pending = s.pending
  | _ => True

@[simp] theorem Res.state_ok (s : State) (ws : List Word) : (Res.ok s ws).state = s := (rfl)
@[simp] theorem Res.state_pend (s : State) : (Res.pend s).state = s := (rfl)
@[simp] theorem Res.state_pendNote (s : State) (note : List Nat) : (Res.pendNote s note).state = s := (rfl)
@[simp] theorem Res.state_bad (s : State) (st rs : Nat) (ws : List Word) : (Res.bad s st rs ws).state = s := (rfl)
@[simp] theorem RecEnd.state_ok (s : State) (ws : List Word) : (RecEnd.ok s ws).state = s := (rfl)
@[simp] theorem RecEnd.state_bad (s : State) (st rs : Nat) (ws : List Word) : (RecEnd.bad s st rs ws).state = s := (rfl)
@[simp] theorem ClvEnd.state_next (s : State) (rd v : Nat) : (ClvEnd.next s rd v).state = s := (rfl)
@[simp] theorem ClvEnd.state_jump (s : State) (rd v a : Nat) : (ClvEnd.jump s rd v a).state = s := (rfl)
@[simp] theorem ClvEnd.state_block (s : State) (rd v : Nat) : (ClvEnd.block s rd v).state = s := (rfl)
@[simp] theorem ClvEnd.state_stay (s : State) : (ClvEnd.stay s).state = s := (rfl)
@[simp] theorem ClvEnd.state_fault (s : State) (c k a : Nat) : (ClvEnd.fault s c k a).state = s := (rfl)
@[simp] theorem Acted.state_go (s : State) (p : Pkt) : (Acted.go s p).state = s := (rfl)
@[simp] theorem Acted.state_gone (s : State) : (Acted.gone s).state = s := (rfl)
@[simp] theorem portLeaves_ok (s : State) (x : State × Routine × Option (Nat × Nat)) :
    PortLeaves s (.ok x) ↔ x.1.pending = s.pending := Iff.rfl
@[simp] theorem portLeaves_error (s : State) (t : Nat × Nat) : PortLeaves s (.error t) := trivial
@[simp] theorem leavesQueue_next (s t : State) : LeavesQueue s (.next t) ↔ t.pending = s.pending := Iff.rfl

/-! ## The named setters

State's laws say the same and hold by unfolding. A rewriting by these leaves the kernel no setter to unfold, which it cannot afford
where the value is large. -/

@[simp] theorem State.pending_setReg (s : State) (a v : Nat) : (s.setReg a v).pending = s.pending := (rfl)
@[simp] theorem State.pending_setF (s : State) (f : FRef) (v : Nat) : (s.setF f v).pending = s.pending := (rfl)
@[simp] theorem State.pending_bumpBy (s : State) (a k : Nat) : (s.bumpBy a k).pending = s.pending := (rfl)
@[simp] theorem State.pending_bump (s : State) (a : Nat) : (s.bump a).pending = s.pending := (rfl)
@[simp] theorem State.pending_emit (s : State) (o : Out) : (s.emit o).pending = s.pending := (rfl)
@[simp] theorem State.pending_setInst (s : State) (i : Nat) (v : Inst) : (s.setInst i v).pending = s.pending := (rfl)
@[simp] theorem State.pending_setCl (s : State) (k : Nat) (c : Cluster) : (s.setCl k c).pending = s.pending := (rfl)
@[simp] theorem State.pending_setTh (s : State) (k n : Nat) (t : Thread) : (s.setTh k n t).pending = s.pending := (rfl)
@[simp] theorem State.pending_setFn (s : State) (f : Nat) (c : FnCfg) : (s.setFn f c).pending = s.pending := (rfl)
@[simp] theorem State.pending_setVec (s : State) (i v : Nat) (x : Vec) : (s.setVec i v x).pending = s.pending := (rfl)
@[simp] theorem State.pending_dropClaim (s : State) (r : Nat) : (s.dropClaim r).pending = s.pending := (rfl)
@[simp] theorem State.pending_draw (s : State) : s.draw.2.pending = s.pending := (rfl)

/-! ## Branches and folds -/

@[simp] theorem State.pending_ite (c : Prop) [Decidable c] (s t : State) :
    (if c then s else t).pending = if c then s.pending else t.pending := apply_ite ..
theorem ite_pending {c : Prop} [Decidable c] {s t u : State} (ht : t.pending = s.pending) (hu : u.pending = s.pending) :
    (if c then t else u).pending = s.pending := by
  rw [State.pending_ite, ht, hu, ite_self]

theorem snd_pending_of_ite {α : Type} {c : Prop} [Decidable c] {s : State} {x y : α × State} (hx : x.2.pending = s.pending)
    (hy : y.2.pending = s.pending) : (if c then x else y).2.pending = s.pending := by
  split
  · exact hx
  · exact hy

theorem Res.ite_pending {c : Prop} [Decidable c] {s : State} {x y : Res} (hx : x.state.pending = s.pending)
    (hy : y.state.pending = s.pending) : (if c then x else y).state.pending = s.pending := by
  split
  · exact hx
  · exact hy

theorem Acted.ite_pending {c : Prop} [Decidable c] {s : State} {x y : Acted} (hx : x.state.pending = s.pending)
    (hy : y.state.pending = s.pending) : (if c then x else y).state.pending = s.pending := by
  split
  · exact hx
  · exact hy

theorem ClvEnd.ite_pending {c : Prop} [Decidable c] {s : State} {x y : ClvEnd} (hx : x.state.pending = s.pending)
    (hy : y.state.pending = s.pending) : (if c then x else y).state.pending = s.pending := by
  split
  · exact hx
  · exact hy

theorem PortLeaves.of_ite {c : Prop} [Decidable c] {s : State} {x y : PortEnd} (hx : PortLeaves s x) (hy : PortLeaves s y) :
    PortLeaves s (if c then x else y) := by
  split
  · exact hx
  · exact hy

@[simp] theorem snd_pending_ite {α : Type} (c : Prop) [Decidable c] (x y : α × State) :
    (if c then x else y).2.pending = if c then x.2.pending else y.2.pending := apply_ite (fun x : α × State => x.2.pending) ..
@[simp] theorem Res.state_ite (c : Prop) [Decidable c] (x y : Res) :
    (if c then x else y).state = if c then x.state else y.state := apply_ite ..
@[simp] theorem RecEnd.state_ite (c : Prop) [Decidable c] (x y : RecEnd) :
    (if c then x else y).state = if c then x.state else y.state := apply_ite ..
@[simp] theorem ClvEnd.state_ite (c : Prop) [Decidable c] (x y : ClvEnd) :
    (if c then x else y).state = if c then x.state else y.state := apply_ite ..
@[simp] theorem Acted.state_ite (c : Prop) [Decidable c] (x y : Acted) :
    (if c then x else y).state = if c then x.state else y.state := apply_ite ..
@[simp] theorem portLeaves_ite (s : State) (c : Prop) [Decidable c] (x y : PortEnd) :
    PortLeaves s (if c then x else y) ↔ if c then PortLeaves s x else PortLeaves s y := by split <;> rfl

/-- A fold of steps that each leave the queue leaves it. -/
@[simp] theorem foldl_pending {α : Type} {f : State → α → State} (hf : ∀ s a, (f s a).pending = s.pending) (l : List α)
    (s : State) : (l.foldl f s).pending = s.pending := by
  induction l generalizing s with
  | nil => rfl
  | cons a l ih => rw [List.foldl_cons, ih, hf]

/-- The same, with each step's result under a name: the kernel compares the steps as they stand. -/
theorem foldl_pending_of_eq {α : Type} {f : State → α → State} (hf : ∀ s a t, f s a = t → t.pending = s.pending) (l : List α)
    (s : State) : (l.foldl f s).pending = s.pending :=
  foldl_pending (fun s a => hf s a _ rfl) l s

/-- A fold from the right of steps that each leave the queue leaves it. -/
@[simp] theorem foldr_pending {α : Type} {f : α → State → State} (hf : ∀ a s, (f a s).pending = s.pending) (l : List α)
    (s : State) : (l.foldr f s).pending = s.pending := by
  rw [← List.foldl_reverse]
  exact foldl_pending (fun s a => hf a s) _ s

/-- A fold that carries a value beside the state leaves the queue where each step does. -/
@[simp] theorem foldl_snd_pending {α β : Type} {f : β × State → α → β × State} (hf : ∀ x a, (f x a).2.pending = x.2.pending)
    (l : List α) (x : β × State) : (l.foldl f x).2.pending = x.2.pending := by
  induction l generalizing x with
  | nil => rfl
  | cons a l ih => rw [List.foldl_cons, ih, hf]

/-! ## Answers taken apart -/

/-- The state of a pair that has been taken apart. -/
theorem pending_of_eq {α : Type} {x : α × State} {a : α} {t : State} (h : x = (a, t)) : t.pending = x.2.pending := by rw [h]


/-- What a command on a state with the same queue leaves. -/
theorem LeavesQueue.trans {s t : State} {x : Host.Outcome State Fault Refusal} (h : LeavesQueue t x) (e : t.pending = s.pending) :
    LeavesQueue s x := by
  cases x with
  | next u => exact Eq.trans h e
  | _ => trivial

/-- The state of a pair that has been put together. -/
theorem pending_of_mk {α : Type} {x : α × State} {a : α} {t : State} (h : (a, t) = x) : x.2.pending = t.pending := by rw [← h]

/-- The state of a port operation that ended. -/
theorem PortLeaves.of_eq {s : State} {e : PortEnd} {x : State × Routine × Option (Nat × Nat)} (hp : PortLeaves s e)
    (h : e = .ok x) : x.1.pending = s.pending := by
  subst h
  exact hp

/-- The state of a triple that has been taken apart. -/
theorem pending_of_eq_triple {α β : Type} {x : α × β × State} {a : α} {b : β} {t : State} (h : x = (a, b, t)) :
    t.pending = x.2.2.pending := by rw [h]

/-- Where a guarded answer is `some`, the guard's or the other one is. -/
theorem eq_or_of_ite_eq_some {α : Type} {p : Prop} [Decidable p] {a r : α} {o : Option α} (h : (if p then some a else o) = some r) :
    a = r ∨ o = some r := by
  split at h
  · exact .inl (Option.some.inj h)
  · exact .inr h

theorem mem_of_lookup {α : Type} {m : NMap α} {k : Nat} {v : α} (h : lookup m k = some v) : (k, v) ∈ m := by
  induction m with
  | nil => cases h
  | cons x m ih =>
    unfold lookup at h
    split at h
    next hk => cases hk; cases h; exact List.mem_cons_self
    next => exact List.mem_cons_of_mem _ (ih h)

/-! ## The named operations over registers, event sources, claims, host vectors and free values -/

@[simp] theorem State.resetRegs_pending (s : State) (p : RegDef → Nat → Bool) : (s.resetRegs p).pending = s.pending := (rfl)

@[simp] theorem State.drawBytes_pending (s : State) : s.drawBytes.2.pending = s.pending := (rfl)

@[simp] theorem State.settleLine_pending (s : State) (t : Nat) : (s.settleLine t).pending = s.pending := by simp [State.settleLine]

@[simp] theorem State.tryWake_pending (s : State) (k n : Nat) : (s.tryWake k n).pending = s.pending := by simp [State.tryWake]

@[simp] theorem State.latchWake_pending (s : State) (k n bit : Nat) : (s.latchWake k n bit).pending = s.pending := by simp [State.latchWake]

@[simp] theorem State.postWake_pending (s : State) (k n : Nat) : (s.postWake k n).pending = s.pending := by simp [State.postWake]

@[simp] theorem State.settleLines_pending (s : State) : s.settleLines.pending = s.pending := by simp [State.settleLines]

@[simp] theorem State.raiseEs_pending (s : State) (n : Nat) : (s.raiseEs n).pending = s.pending := by simp [State.raiseEs]

@[simp] theorem State.raiseLimited_pending (s : State) (n : Nat) : (s.raiseLimited n).pending = s.pending := by simp [State.raiseLimited]

@[simp] theorem State.sendVec_pending (s : State) (i v : Nat) : (s.sendVec i v).pending = s.pending := by simp [State.sendVec]

@[simp] theorem State.raiseVec_pending (s : State) (i v : Nat) : (s.raiseVec i v).pending = s.pending := by simp [State.raiseVec]

@[simp] theorem State.claimRefused_pending (s : State) (res holder : Nat) : (s.claimRefused res holder).pending = s.pending :=
  (State.raiseLimited_pending ..).trans ((State.pending_setReg ..).trans ((State.pending_setReg ..).trans (State.pending_bump ..)))

@[simp] theorem State.takeClaim_pending (s : State) (res holder : Nat) : (s.takeClaim res holder).pending = s.pending := by
  simp only [State.takeClaim]
  split <;> simp

@[simp] theorem State.takeClaims_pending (s : State) (cs : List (Nat × Nat)) : (s.takeClaims cs).pending = s.pending := by
  simp [State.takeClaims]

@[simp] theorem State.dropClaims_pending (s : State) (p : Nat → Bool) : (s.dropClaims p).pending = s.pending := (rfl)

/-! ## The host functions -/

@[simp] theorem State.aer_pending (s : State) (f : Nat) (e : AerError) : (s.aer f e).pending = s.pending := by simp [State.aer]

@[simp] theorem State.urPosted_pending (s : State) (f : Nat) : (s.urPosted f).pending = s.pending := State.aer_pending ..

@[simp] theorem State.urRead_pending (s : State) (f : Nat) : (s.urRead f).pending = s.pending :=
  (State.pending_emit ..).trans (State.aer_pending ..)

/-! ## Operations of the time unit, Daymark and the calibration table -/

@[simp] theorem State.showRate_pending (s : State) : s.showRate.pending = s.pending := (rfl)

@[simp] theorem State.timeCycle_pending (s : State) : s.timeCycle.pending = s.pending := by simp [State.timeCycle]

@[simp] theorem State.setDm_pending (s : State) (sec sub : Nat) : (s.setDm sec sub).pending = s.pending := (rfl)

@[simp] theorem State.dmCycle_pending (s : State) : s.dmCycle.pending = s.pending := by simp [State.dmCycle]

@[simp] theorem State.setPpsBall_pending (s : State) (level : Bool) : (s.setPpsBall level).pending = s.pending := by simp [State.setPpsBall]

@[simp] theorem State.markMram_pending (s : State) (a : Nat) (on : Bool) : (s.markMram a on).pending = s.pending := by
  simp only [State.markMram]
  split <;> simp

@[simp] theorem State.putMram_pending (s : State) (a : Nat) (bs : List Byte) : (s.putMram a bs).pending = s.pending := by
  simp [State.putMram]

@[simp] theorem State.calLive_pending (s : State) (tbl : List Byte) : (s.calLive tbl).pending = s.pending := (rfl)

@[simp] theorem State.calLoad_pending (s : State) : s.calLoad.2.pending = s.pending := by
  obtain ⟨x, hx⟩ : ∃ x, s.calLoad = x := ⟨_, rfl⟩
  rw [hx]
  generalize hf : State.calLoad = f at hx
  delta State.calLoad at hf
  subst hf
  beta_reduce at hx
  extract_lets v same pick lost at hx
  clear_value pick
  split at hx
  · rw [pending_of_mk hx, State.raiseEs_pending, State.raiseEs_pending, State.pending_setReg, State.calLive_pending]
  · extract_lets bad t u w at hx
    have hw : w.pending = s.pending := by
      rw [State.pending_setReg, State.calLive_pending]
      exact foldl_pending_of_eq (fun s k t h => by rw [← h, State.putMram_pending]) _ _
    clear_value w
    rw [pending_of_mk hx]
    split
    · exact hw
    · exact (State.raiseEs_pending ..).trans hw

/-! ## The operations of the queue manager -/

@[simp] theorem State.setQ_pending (s : State) (q : Nat) (c : QCtx) : (s.setQ q c).pending = s.pending := (rfl)

@[simp] theorem State.assertWake_pending (s : State) : s.assertWake.pending = s.pending := by simp [State.assertWake]

@[simp] theorem State.pmeOf_pending (s : State) (f : Nat) : (s.pmeOf f).pending = s.pending := by simp [State.pmeOf]

@[simp] theorem State.pmeWake_pending (s : State) (i : Nat) : (s.pmeWake i).pending = s.pending := by simp [State.pmeWake]

@[simp] theorem State.postUnit_pending (s : State) (e : Nat) (body : List Word) : (s.postUnit e body).pending = s.pending := by
  simp [State.postUnit]

@[simp] theorem State.postDue_pending (s : State) (e n : Nat) (body : List Word) : (s.postDue e n body).pending = s.pending := by
  simp [State.postDue]

@[simp] theorem State.postNotify_pending (s : State) (q : Nat) : (s.postNotify q).pending = s.pending := by
  simp only [State.postNotify]
  split <;> simp

@[simp] theorem State.notify_pending (s : State) (q status tag : Nat) : (s.notify q status tag).pending = s.pending := by
  simp only [State.notify]
  split <;> simp

@[simp] theorem State.writeDone_pending (s : State) (q : Nat) (d : Done) : (s.writeDone q d).pending = s.pending := by
  simp [State.writeDone]

@[simp] theorem State.writeReady_pending (s : State) (q fuel : Nat) : (s.writeReady q fuel).pending = s.pending := by
  induction fuel generalizing s with
  | zero => rfl
  | succ fuel ih =>
    simp only [State.writeReady]
    split <;> simp [ih]

@[simp] theorem State.completeEntry_pending (s : State) (q idx units w0 : Nat) (writes : List (Nat × Word)) (status reason tag : Nat)
    (notify : Bool) :
    (s.completeEntry q idx units w0 writes status reason tag notify).pending = s.pending := by simp [State.completeEntry]

@[simp] theorem State.takeUnits_pending (s : State) (q units w0 tag : Nat) (notify : Bool) :
    (s.takeUnits q units w0 tag notify).pending = s.pending := (rfl)

@[simp] theorem State.freeQid_pending (s : State) : s.freeQid.2.pending = s.pending := (rfl)

@[simp] theorem State.makeHotRoom_pending (s : State) : s.makeHotRoom.pending = s.pending := by simp [State.makeHotRoom]

@[simp] theorem State.ringPi_pending (s : State) (q v : Nat) : (s.ringPi q v).pending = s.pending := by simp [State.ringPi]

@[simp] theorem State.ringCi_pending (s : State) (q v : Nat) (arm : Bool) : (s.ringCi q v arm).pending = s.pending := by simp [State.ringCi]

@[simp] theorem State.applyDoorbell_pending (s : State) (q v : Nat) (arm : Bool) : (s.applyDoorbell q v arm).pending = s.pending := by
  simp [State.applyDoorbell]

@[simp] theorem State.doorbell_pending (s : State) (q v : Nat) (arm : Bool) : (s.doorbell q v arm).pending = s.pending := by
  simp [State.doorbell]

@[simp] theorem State.replayDoorbells_pending (s : State) (q : Nat) : (s.replayDoorbells q).pending = s.pending := by
  simp [State.replayDoorbells]

@[simp] theorem State.abortQueues_pending (s : State) (i : Nat) : (s.abortQueues i).pending = s.pending := (rfl)

@[simp] theorem State.stopQueues_pending (s : State) (i : Nat) : (s.stopQueues i).pending = s.pending := (rfl)

@[simp] theorem State.resumeQueues_pending (s : State) (i : Nat) : (s.resumeQueues i).pending = s.pending := by simp [State.resumeQueues]

@[simp] theorem State.padEntry_pending (s : State) (q len tag w0 : Nat) : (s.padEntry q len tag w0).pending = s.pending := by
  simp [State.padEntry]

@[simp] theorem State.staleQueue_pending (s : State) (q : Nat) : (s.staleQueue q).pending = s.pending := by simp [State.staleQueue]

@[simp] theorem State.staleDiscard_pending (s : State) (i : Nat) (q : Option Nat) : (s.staleDiscard i q).pending = s.pending := by
  simp only [State.staleDiscard]
  split <;> simp

@[simp] theorem State.dropRef_pending (s : State) (q iid igen : Nat) : (s.dropRef q iid igen).pending = s.pending := by simp [State.dropRef]

/-! ## Yadopex commands -/

@[simp] theorem refuse_pending (s : State) (reason : Nat) : (refuse s reason).state.pending = s.pending := (rfl)

@[simp] theorem badParam_pending (s : State) (word : Nat) : (badParam s word).state.pending = s.pending := (rfl)

@[simp] theorem notFound_pending (s : State) : (notFound s).state.pending = s.pending := (rfl)

@[simp] theorem noResource_pending (s : State) : (noResource s).state.pending = s.pending := (rfl)

@[simp] theorem quotaExceeded_pending (s : State) : (quotaExceeded s).state.pending = s.pending := (rfl)

@[simp] theorem busy_pending (s : State) : (busy s).state.pending = s.pending := (rfl)

@[simp] theorem State.turn_pending (s : State) (i : Issuer) : (s.turn i).pending = s.pending := by simp [State.turn]

@[simp] theorem State.answer_pending (s : State) (c : Cmd) (consumed status reason : Nat) (ws : List Word) :
    (s.answer c consumed status reason ws).pending = s.pending := by
  unfold State.answer
  extract_lets +onlyGivenNames t u
  have ht : t.pending = s.pending := ite_pending rfl (State.pending_bump ..)
  have hu : u.pending = s.pending := ite_pending ((State.pending_bump ..).trans ht) ht
  clear_value u
  split
  · split
    · exact ite_pending ((State.completeEntry_pending ..).trans hu) ((State.staleDiscard_pending ..).trans hu)
    · exact (State.staleDiscard_pending ..).trans hu
  · exact (State.pending_emit ..).trans hu

@[simp] theorem State.opEnded_pending (s : State) (c : Cmd) : (s.opEnded c).pending = s.pending := by simp [State.opEnded]

@[simp] theorem State.reply_pending (s : State) (c : Cmd) (consumed status reason : Nat) (ws : List Word) :
    (s.reply c consumed status reason ws).pending = s.pending :=
  (State.opEnded_pending ..).trans (State.answer_pending ..)

@[simp] theorem State.replyPending_pending (s : State) (c : Cmd) (locks : List Lock) (note : List Nat) :
    (s.replyPending c locks note).pending = s.pending := by
  unfold State.replyPending
  extract_lets +onlyGivenNames t cmds u
  have ht : t.pending = s.pending := by
    unfold t
    split
    · split
      · exact State.pending_emit ..
      · rfl
    · rfl
  have hu : u.pending = s.pending := ht
  exact ite_pending ((State.raiseEs_pending ..).trans hu) hu

@[simp] theorem State.finish_pending (s : State) (p : PendCmd) (status reason : Nat) (ws : List Word) :
    (s.finish p status reason ws).pending = s.pending := by simp [State.finish]

@[simp] theorem State.finishOp_pending (s : State) (op status reason : Nat) (ws : List Word) :
    (s.finishOp op status reason ws).pending = s.pending := by
  simp only [State.finishOp]
  split <;> simp

@[simp] theorem badP_pending (s : State) (n : Nat) : (badP s n).state.pending = s.pending := (rfl)

@[simp] theorem Cmd.checked_state (c : Cmd) (s : State) (ws : List (Nat × Nat)) (body : Unit → Res) :
    (c.checked s ws body).state = if (c.reserved ws).isNone then (body ()).state else s := by
  unfold Cmd.checked
  split
  case h_1 h => simp [h]
  case h_2 n h => split <;> simp [h, badP, badParam]

theorem Cmd.checked_pending {c : Cmd} {s : State} {body : Unit → Res} (ws : List (Nat × Nat))
    (h : (body ()).state.pending = s.pending) : (c.checked s ws body).state.pending = s.pending := by
  rw [Cmd.checked_state]
  split
  · exact h
  · rfl

@[simp] theorem guards_nil (body : Unit → Res) : guards [] body = body () := rfl

@[simp] theorem guards_cons (b : Bool) (r : Unit → Res) (gs : List (Bool × (Unit → Res))) (body : Unit → Res) :
    guards ((b, r) :: gs) body = if b then r () else guards gs body := rfl

theorem guards_pending {gs : List (Bool × (Unit → Res))} {body : Unit → Res} {s : State}
    (hg : ∀ g ∈ gs, (g.2 ()).state.pending = s.pending) (hb : (body ()).state.pending = s.pending) :
    (guards gs body).state.pending = s.pending := by
  induction gs with
  | nil => exact hb
  | cons g gs ih =>
    rw [guards_cons]
    split
    · exact hg g List.mem_cons_self
    · exact ih fun g h => hg g (List.mem_cons_of_mem _ h)

@[simp] theorem Cmd.tried_pending {c : Cmd} {s : State} {body : Unit → Res} (fault : Option (Nat × Nat × List Word))
    (h : (body ()).state.pending = s.pending) : (c.tried s fault body).state.pending = s.pending := by
  unfold Cmd.tried
  split
  · rfl
  · exact h

@[simp] theorem claimAnswer_pending (s : State) (res reason holder : Nat) : (claimAnswer s res reason holder).state.pending = s.pending
    := by
  simp [claimAnswer]

@[simp] theorem withClaims_pending {s : State} {cs : List (Nat × Nat)} {body : State → Res}
    (h : (body (s.takeClaims cs)).state.pending = s.pending) : (withClaims s cs body).state.pending = s.pending := by
  unfold withClaims
  split
  · simp
  · exact h

/-! ## Records of the fault log and how they are written -/

@[simp] theorem State.log_pending (s : State) (type : Nat) (x : Record) : (s.log type x).pending = s.pending := by
  unfold State.log
  refine ite_pending rfl ?_
  extract_lets +onlyGivenNames seq a above ws t oldest ras u v w
  have ht : t.pending = s.pending := State.putMram_pending ..
  have hv : v.pending = s.pending := ht
  have hw : w.pending = s.pending := ite_pending ((State.raiseLimited_pending ..).trans hv) hv
  exact ite_pending ((State.raiseEs_pending ..).trans hw) hw

@[simp] theorem State.faultRecord_pending (s : State) (x : Record) (force : Bool) : (s.faultRecord x force).pending = s.pending := by
  simp only [State.faultRecord]
  repeat' split
  all_goals simp

@[simp] theorem State.faultElse_pending (s : State) (block : Nat) (detail : List Nat) : (s.faultElse block detail).pending = s.pending := by
  simp [State.faultElse]

/-! ## Operations of the line ports -/

@[simp] theorem State.setPort_pending (s : State) (p : Nat) (v : LinePort) : (s.setPort p v).pending = s.pending := (rfl)

@[simp] theorem State.statBy_pending (s : State) (p k n : Nat) : (s.statBy p k n).pending = s.pending := (rfl)

@[simp] theorem State.stat_pending (s : State) (p k : Nat) : (s.stat p k).pending = s.pending := (rfl)

@[simp] theorem State.sendPause_pending (s : State) (p prio quanta : Nat) : (s.sendPause p prio quanta).pending = s.pending := by
  simp [State.sendPause]

@[simp] theorem State.settleAccount_pending (s : State) (p prio : Nat) : (s.settleAccount p prio).pending = s.pending := by
  simp only [State.settleAccount]
  split <;> simp

@[simp] theorem State.settlePort_pending (s : State) (p : Nat) : (s.settlePort p).pending = s.pending := by simp [State.settlePort]

@[simp] theorem State.settleRequester_pending (s : State) (r : Nat) : (s.settleRequester r).pending = s.pending := by
  simp [State.settleRequester]

/-! ## Operations of the buffer pool manager -/

@[simp] theorem State.pickBuf_pending (s : State) (r tier c : Nat) : (s.pickBuf r tier c).2.pending = s.pending := by simp [State.pickBuf]

@[simp] theorem State.pickFrom_pending (s : State) (r : Nat) (l : List (Nat × Nat)) : (s.pickFrom r l).2.pending = s.pending := by
  induction l generalizing s with
  | nil => rfl
  | cons x l ih =>
    simp only [State.pickFrom]
    split <;> simp [ih]

@[simp] theorem State.allocBuf_pending (s : State) (r len : Nat) : (s.allocBuf r len).2.pending = s.pending := by
  simp only [State.allocBuf]
  split <;> simp

@[simp] theorem State.storeBuf_pending (s : State) (p : Nat) (bs : List Byte) : (s.storeBuf p bs).pending = s.pending := by
  simp [State.storeBuf]

@[simp] theorem State.badPtr_pending (s : State) (p op cause mid : Nat) : (s.badPtr p op cause mid).pending = s.pending := (rfl)

@[simp] theorem State.fitCarve_pending (s : State) : s.fitCarve.pending = s.pending := by simp [State.fitCarve]

@[simp] theorem State.settleCarve_pending (s : State) (tier : Nat) : (s.settleCarve tier).pending = s.pending := by
  unfold State.settleCarve
  split
  next => rfl
  next n _ =>
    refine ite_pending rfl ?_
    extract_lets +onlyGivenNames bpm t
    split
    · exact State.finish_pending ..
    · rfl

@[simp] theorem State.putBuf_pending (s : State) (p : Nat) (b : Buf) : (s.putBuf p b).pending = s.pending := by simp [State.putBuf]

@[simp] theorem State.shareBuf_pending (s : State) (p by_ holder mid : Nat) : (s.shareBuf p by_ holder mid).2.pending = s.pending := by
  simp only [State.shareBuf]
  split <;> simp

@[simp] theorem State.releaseBuf_pending (s : State) (p by_ mid : Nat) : (s.releaseBuf p by_ mid).2.pending = s.pending := by
  simp only [State.releaseBuf]
  split <;> simp

@[simp] theorem State.transferBuf_pending (s : State) (p by_ dest mid : Nat) : (s.transferBuf p by_ dest mid).2.pending = s.pending := by
  simp only [State.transferBuf]
  split <;> simp

@[simp] theorem State.freeBufBy_pending (s : State) (p by_ mid : Nat) : (s.freeBufBy p by_ mid).2.pending = s.pending := by
  simp only [State.freeBufBy]
  split <;> simp

@[simp] theorem State.freeFrame_pending (s : State) (p : Nat) : (s.freeFrame p).pending = s.pending := by
  simp only [State.freeFrame]
  split <;> simp

@[simp] theorem State.endHold_pending (s : State) (p : Nat) (holder : Option Nat) : (s.endHold p holder).pending = s.pending := by
  simp only [State.endHold]
  repeat' split
  all_goals simp

@[simp] theorem State.freeHead_pending (s : State) (p : Pkt) : (s.freeHead p).pending = s.pending := by
  simp only [State.freeHead]
  split <;> simp

@[simp] theorem State.moveFrame_pending (s : State) (p dest : Nat) : (s.moveFrame p dest).pending = s.pending := by
  simp only [State.moveFrame]
  split <;> simp

@[simp] theorem State.purgeRequester_pending (s : State) (r : Nat) (keep : List Nat) : (s.purgeRequester r keep).pending = s.pending := by
  simp [State.purgeRequester]

@[simp] theorem State.setPage_pending (s : State) (key : Nat) (p : Page) : (s.setPage key p).pending = s.pending := (rfl)

@[simp] theorem State.touch_pending (s : State) (key : Nat) : (s.touch key).pending = s.pending := (rfl)

@[simp] theorem State.stateFault_pending (s : State) (kind ssid off : Nat) : (s.stateFault kind ssid off).pending = s.pending := (rfl)

@[simp] theorem State.placeTables_pending (s : State) (u n : Nat) : (s.placeTables u n).pending = s.pending := (rfl)

@[simp] theorem State.moveTables_pending (s : State) (p : Nat → Bool) : (s.moveTables p).pending = s.pending := by simp [State.moveTables]

@[simp] theorem State.takeLpd_pending (s : State) : s.takeLpd.2.pending = s.pending := by simp [State.takeLpd]

@[simp] theorem State.takeHome_pending (s : State) : s.takeHome.2.pending = s.pending := by
  simp only [State.takeHome]
  repeat' split
  all_goals simp

@[simp] theorem State.takeOther_pending (s : State) (d : Option Nat) : (s.takeOther d).2.pending = s.pending := by
  obtain ⟨x, hx⟩ : ∃ x, s.takeOther d = x := ⟨_, rfl⟩
  rw [hx]
  generalize hf : State.takeOther = f at hx
  delta State.takeOther at hf
  subst hf
  beta_reduce at hx
  split at hx
  next h t ht =>
    split at hx
    · rw [pending_of_mk hx, pending_of_eq ht, State.takeLpd_pending]
    · exact pending_of_mk hx

@[simp] theorem State.writeHome_pending (s : State) (h : Home) (bs : List Byte) : (s.writeHome h bs).pending = s.pending := by
  simp only [State.writeHome]
  split <;> simp

@[simp] theorem State.rehomeHost_pending (s : State) (key : Nat) : (s.rehomeHost key).pending = s.pending := by
  obtain ⟨x, hx⟩ : ∃ x, s.rehomeHost key = x := ⟨_, rfl⟩
  rw [hx]
  generalize hf : State.rehomeHost = f at hx
  delta State.rehomeHost at hf
  subst hf
  beta_reduce at hx
  extract_lets p at hx
  clear_value p
  split at hx
  · split at hx
    · split at hx
      next h t ht =>
        have e := pending_of_eq ht
        rw [State.takeLpd_pending] at e
        split at hx <;> rw [← hx]
        · rw [State.pending_bump, State.setPage_pending, e]
        · exact e
    · rw [hx]
  · rw [hx]

@[simp] theorem State.dropCached_pending (s : State) (key : Nat) : (s.dropCached key).pending = s.pending := by
  simp only [State.dropCached]
  split <;> simp

@[simp] theorem State.cleanPage_pending (s : State) (key : Nat) : (s.cleanPage key).pending = s.pending := by simp [State.cleanPage]

@[simp] theorem State.evict_pending (s : State) (key : Nat) : (s.evict key).pending = s.pending :=
  (State.dropCached_pending ..).trans (State.rehomeHost_pending ..)

@[simp] theorem State.makeCacheRoom_pending (s : State) : s.makeCacheRoom.pending = s.pending := by
  simp only [State.makeCacheRoom]
  repeat' split
  all_goals simp

@[simp] theorem State.pinDone_pending (s : State) : s.pinDone.pending = s.pending := by simp [State.pinDone]

@[simp] theorem State.install_pending (s : State) (key : Nat) (bs : List Byte) (dirty : Bool) :
    (s.install key bs dirty).pending = s.pending := by
  simp only [State.install]
  split <;> simp

@[simp] theorem State.reach_pending (s : State) (ssid off : Nat) (write : Bool) : (s.reach ssid off write).2.pending = s.pending := by
  obtain ⟨x, hx⟩ : ∃ x, s.reach ssid off write = x := ⟨_, rfl⟩
  rw [hx]
  generalize hf : State.reach = f at hx
  delta State.reach at hf
  subst hf
  beta_reduce at hx
  split at hx
  · exact (pending_of_mk hx).trans (State.stateFault_pending ..)
  · extract_lets key p at hx
    clear_value p
    split at hx
    · exact (pending_of_mk hx).trans (State.stateFault_pending ..)
    · split at hx
      · refine (pending_of_mk hx).trans ((State.touch_pending ..).trans ?_)
        split
        · exact State.setPage_pending ..
        · rfl
      · split at hx
        · split at hx
          · exact pending_of_mk hx
          · split at hx
            next h t ht =>
              have e := pending_of_eq ht
              rw [State.takeHome_pending] at e
              split at hx
              · exact (pending_of_mk hx).trans ((State.stateFault_pending ..).trans ((State.pending_bump ..).trans e))
              · exact (pending_of_mk hx).trans ((State.install_pending ..).trans ((State.setPage_pending ..).trans e))
        · exact (pending_of_mk hx).trans ((State.install_pending ..).trans (State.pending_bump ..))
        · exact (pending_of_mk hx).trans ((State.install_pending ..).trans (State.pending_bump ..))

@[simp] theorem State.ssStore_pending (s : State) (ssid off : Nat) (bs : List Byte) : (s.ssStore ssid off bs).pending = s.pending := by
  simp only [State.ssStore]
  split <;> simp

@[simp] theorem State.ssRead_pending (s : State) (ssid off n : Nat) : (s.ssRead ssid off n).2.pending = s.pending := by
  simp only [State.ssRead]
  split <;> simp

@[simp] theorem State.ssWrite_pending (s : State) (ssid off : Nat) (bs : List Byte) : (s.ssWrite ssid off bs).2.pending = s.pending := by
  simp only [State.ssWrite]
  split <;> simp

@[simp] theorem State.zeroPage_pending (s : State) (key : Nat) : (s.zeroPage key).pending = s.pending := by
  unfold State.zeroPage
  extract_lets +onlyGivenNames p mem t mem' u pgr v
  have ht : t.pending = s.pending := by
    unfold t
    split
    · rfl
    · rfl
  have hu : u.pending = s.pending := by
    unfold u
    split
    · exact ht
    · exact ht
  clear_value u
  exact ite_pending ((State.setPage_pending ..).trans hu) hu

@[simp] theorem State.poison_pending (s : State) (key : Nat) : (s.poison key).pending = s.pending := by
  simp only [State.poison]
  split <;> simp

@[simp] theorem State.reserveRange_pending (s : State) (ssid base size : Nat) : (s.reserveRange ssid base size).pending = s.pending := by
  simp [State.reserveRange]

@[simp] theorem State.releaseRange_pending (s : State) (ssid : Nat) : (s.releaseRange ssid).pending = s.pending := by
  simp [State.releaseRange]

/-! ## Who reaches a register -/

@[simp] theorem State.badMaster_pending (s : State) (mid : Nat) (read : Bool) (addr : Option Nat) :
    (s.badMaster mid read addr).pending = s.pending := by simp [State.badMaster]

@[simp] theorem State.ddrWrite_pending (s : State) (mid a : Nat) (bs : List Byte) : (s.ddrWrite mid a bs).pending = s.pending := by
  simp [State.ddrWrite]

@[simp] theorem State.crossingFailed_pending (s : State) (a island : Nat) (read : Bool) :
    (s.crossingFailed a island read).pending = s.pending := by simp [State.crossingFailed]

@[simp] theorem State.dbgRefused_pending (s : State) : s.dbgRefused.pending = s.pending :=
  (State.raiseLimited_pending ..).trans (State.pending_bump ..)

@[simp] theorem State.closedWrite_pending (s : State) (mid : Nat) : (s.closedWrite mid).pending = s.pending := by simp [State.closedWrite]

@[simp] theorem State.closedRead_pending (s : State) (mid : Nat) : (s.closedRead mid).pending = s.pending := by simp [State.closedRead]

@[simp] theorem State.gatedWrite_pending {s : State} {body : State → State} (mid a : Nat) (h : (body s).pending = s.pending) :
    (s.gatedWrite mid a body).pending = s.pending := by
  unfold State.gatedWrite
  split <;> simp [h]

@[simp] theorem State.gatedValue_pending {s : State} {body : State → Nat × State} (mid a : Nat)
    (h : (body s).2.pending = s.pending) : (s.gatedValue mid a body).2.pending = s.pending := by
  unfold State.gatedValue
  split <;> simp [h]

@[simp] theorem State.gatedRead_pending {s : State} {body : State → Nat × State} (mid a : Nat)
    (h : (body s).2.pending = s.pending) : (s.gatedRead mid a body).pending = s.pending := by simp [State.gatedRead, h]

/-! ## Operations of the Buoy mailboxes -/

@[simp] theorem State.setGroup_pending (s : State) (g : Nat) (v : Group) : (s.setGroup g v).pending = s.pending := (rfl)

@[simp] theorem State.setSeq_pending (s : State) (q : Nat) (v : Sequencer) : (s.setSeq q v).pending = s.pending := (rfl)

@[simp] theorem State.setConn_pending (s : State) (c : Nat) (v : Conn) : (s.setConn c v).pending = s.pending := (rfl)

@[simp] theorem State.trigger_pending (s : State) (g : Nat) (t : Trigger) : (s.trigger g t).pending = s.pending := by
  simp only [State.trigger]
  split <;> simp

@[simp] theorem State.setChan_pending (s : State) (c : ChanId) (v : BuoyChan) : (s.setChan c v).pending = s.pending := by
  simp only [State.setChan]
  split <;> simp

@[simp] theorem State.buoyNotify_pending (s : State) (c : ChanId) (toA : Bool) (word : Nat) :
    (s.buoyNotify c toA word).pending = s.pending := by
  simp only [State.buoyNotify]
  split <;> simp

@[simp] theorem State.buoyDeliver_pending (s : State) (c : ChanId) (toA : Bool) (w : Nat) : (s.buoyDeliver c toA w).pending = s.pending
    := by
  simp [State.buoyDeliver]

@[simp] theorem State.buoySend_pending (s : State) (c : ChanId) (fromA : Bool) (w : Nat) : (s.buoySend c fromA w).pending = s.pending := by
  simp [State.buoySend]

@[simp] theorem State.buoyRing_pending (s : State) (c : ChanId) (toA : Bool) (bits : Nat) : (s.buoyRing c toA bits).pending = s.pending
    := by
  simp [State.buoyRing]

@[simp] theorem State.buoyForceClear_pending (s : State) (c : ChanId) : (s.buoyForceClear c).pending = s.pending := by
  simp [State.buoyForceClear]

@[simp] theorem State.buoyWithdraw_pending (s : State) (c : ChanId) (fromA : Bool) : (s.buoyWithdraw c fromA).pending = s.pending := by
  simp [State.buoyWithdraw]

@[simp] theorem State.buoyBadMaster_pending (s : State) : s.buoyBadMaster.pending = s.pending :=
  (State.raiseEs_pending ..).trans (State.pending_bump ..)

@[simp] theorem State.buoyTake_pending (s : State) (c : ChanId) (a taken : Bool) : (s.buoyTake c a taken).2.pending = s.pending := by
  simp [State.buoyTake]

@[simp] theorem State.keeperSend_pending (s : State) (i code payload : Nat) : (s.keeperSend i code payload).pending = s.pending := by
  simp [State.keeperSend]

@[simp] theorem State.keeperNext_pending (s : State) (i : Nat) : (s.keeperNext i).pending = s.pending := by
  simp only [State.keeperNext]
  split <;> simp

@[simp] theorem State.keeperRead_pending (s : State) (i : Nat) : (s.keeperRead i).pending = s.pending := by simp [State.keeperRead]

@[simp] theorem State.buoyHostReset_pending (s : State) (i : Nat) : (s.buoyHostReset i).pending = s.pending := (rfl)

/-! ## Operations of the host endpoint -/

@[simp] theorem State.issueRead_pending (s : State) (x : ReadReq) : (s.issueRead x).pending = s.pending := by
  simp only [State.issueRead]
  split <;> simp

@[simp] theorem State.hostRead_pending (s : State) (iid qgen : Nat) (u : ReadUnit) (pasid : Option Nat) (addr count : Nat) :
    (s.hostRead iid qgen u pasid addr count).pending = s.pending := by simp [State.hostRead]

@[simp] theorem State.readNow_pending (s : State) (iid : Nat) (pasid : Option Nat) (addr count : Nat) :
    (s.readNow iid pasid addr count).pending = s.pending := by
  simp only [State.readNow]
  split <;> simp

@[simp] theorem State.tagTimeout_pending (s : State) (t : Nat) (r : TagReq) : (s.tagTimeout t r).pending = s.pending := by
  simp [State.tagTimeout]

@[simp] theorem State.releaseTag_pending (s : State) (t : Nat) : (s.releaseTag t).pending = s.pending := by
  simp only [State.releaseTag]
  split <;> simp

@[simp] theorem State.readDone_pending (s : State) (u : ReadUnit) : (s.readDone u).pending = s.pending := by
  simp only [State.readDone]
  split <;> simp

@[simp] theorem State.ensureFetch_pending (s : State) (q : Nat) : (s.ensureFetch q).pending = s.pending := by simp [State.ensureFetch]

@[simp] theorem State.fetched_pending (s : State) (q : Nat) : (s.fetched q).pending = s.pending :=
  (State.ensureFetch_pending ..).trans (State.readDone_pending ..)

@[simp] theorem State.takeEntry_pending (s : State) (c : Cmd) (units : Nat) : (s.takeEntry c units).pending = s.pending := by
  simp only [State.takeEntry]
  repeat' split
  all_goals simp

@[simp] theorem State.readBlock_pending (s : State) (c : Cmd) : (s.readBlock c).pending = s.pending := by
  simp only [State.readBlock]
  split <;> simp

@[simp] theorem State.readImage_pending (s : State) (c : Cmd) (pasid : Option (Option Nat)) : (s.readImage c pasid).pending = s.pending
    := by
  simp only [State.readImage]
  split <;> simp

@[simp] theorem State.runCmd_pending {spec : CmdSpec} (h : ∀ c t, (spec.body c t).state.pending = t.pending) (s : State)
    (e : AdminEntry) : (s.runCmd spec e).pending = s.pending := by
  unfold State.runCmd
  split
  · rfl
  · split
    next idx span _ =>
      extract_lets c t u
      split
      · simp +zetaDelta
      · split
        · simp +zetaDelta
        next row _ =>
          split
          · simp +zetaDelta
          · have hu : u.pending = s.pending := by simp +zetaDelta
            have hb := h c u
            clear_value u
            split
            next hx => split <;> simp_all
            next hx => split <;> simp_all
            next hx => split <;> simp_all
            next hx => split <;> simp_all

@[simp] theorem State.winCommit_pending (s : State) (n : Nat) : (s.winCommit n).pending = s.pending := by
  simp only [State.winCommit]
  repeat' split
  all_goals simp

@[simp] theorem State.setSlot_pending (s : State) (p : Nat) (x : Slot) : (s.setSlot p x).pending = s.pending := (rfl)

@[simp] theorem State.slotLink_pending (s : State) (p : Nat) (up : Bool) : (s.slotLink p up).pending = s.pending := by simp [State.slotLink]

@[simp] theorem State.completeWork_pending (s : State) (e : WorkEntry) (writes : List (Nat × Word)) (status reason : Nat) :
    (s.completeWork e writes status reason).pending = s.pending := by simp [State.completeWork]

@[simp] theorem State.completeAt_pending (s : State) (c index : Nat) (writes : List (Nat × Word)) (status reason : Nat) :
    (s.completeAt c index writes status reason).pending = s.pending := by
  simp only [State.completeAt]
  repeat' split
  all_goals simp

/-! ## The DMA engines -/

@[simp] theorem State.setRun_pending (s : State) (n : Nat) (r : DmaRun) : (s.setRun n r).pending = s.pending := (rfl)

@[simp] theorem State.endRun_pending (s : State) (n : Nat) : (s.endRun n).pending = s.pending := (rfl)

@[simp] theorem State.physWrite_pending (s : State) (mid a : Nat) (bs : List Byte) : (s.physWrite mid a bs).pending = s.pending := by
  simp [State.physWrite]

@[simp] theorem State.dmaRead_pending (s : State) (c space a n : Nat) (host : Option (List Byte)) :
    (s.dmaRead c space a n host).2.pending = s.pending := by
  simp only [State.dmaRead]
  repeat' split
  all_goals simp

@[simp] theorem State.dmaWrite_pending (s : State) (c space a : Nat) (bs : List Byte) : (s.dmaWrite c space a bs).2.pending = s.pending
    := by
  simp only [State.dmaWrite]
  split <;> simp

@[simp] theorem State.dmaRaise_pending (s : State) (n : Nat) : (s.dmaRaise n).pending = s.pending := by simp [State.dmaRaise]

@[simp] theorem State.dmaEnd_pending (s : State) (n residue err : Nat) (aborted : Bool) :
    (s.dmaEnd n residue err aborted).pending = s.pending := by
  unfold State.dmaEnd
  extract_lets +onlyGivenNames done gen ok t dma u v w x y z a word iid b
  have ht : t.pending = s.pending := State.endRun_pending ..
  have hx : x.pending = s.pending := ht
  have hy : y.pending = s.pending := ite_pending ((State.pending_setF ..).trans hx) hx
  have hz : z.pending = s.pending := ite_pending ((State.pending_setF ..).trans hy) hy
  have ha : a.pending = s.pending := ite_pending ((State.pending_setF ..).trans hz) hz
  have hb : b.pending = s.pending :=
    ite_pending (ite_pending ((State.staleDiscard_pending ..).trans ha) ((State.dmaWrite_pending ..).trans ha)) ha
  exact (State.dmaRaise_pending ..).trans hb

@[simp] theorem State.dmaAsk_pending (s : State) (n : Nat) : (s.dmaAsk n).pending = s.pending := by
  simp only [State.dmaAsk]
  split <;> simp

@[simp] theorem State.dmaBurst_pending (s : State) (n : Nat) (host : Option (List Byte)) : (s.dmaBurst n host).pending = s.pending := by
  unfold State.dmaBurst
  split
  next => rfl
  next r _ =>
    extract_lets +onlyGivenNames iid
    refine ite_pending (State.dmaEnd_pending ..) (ite_pending ?_ ?_)
    · split
      next d t ht =>
        have htp : t.pending = s.pending := by rw [pending_of_eq ht, State.dmaRead_pending]
        clear ht
        have he : ∀ a b c, (t.dmaEnd n a b c).pending = s.pending := fun a b c => (State.dmaEnd_pending ..).trans htp
        split
        next => exact he ..
        next bs =>
          extract_lets +onlyGivenNames ws cnt owner
          refine ite_pending (he ..) (ite_pending (he ..) ?_)
          rw [State.dmaAsk_pending, State.setRun_pending, htp]
    · extract_lets +onlyGivenNames k
      split
      next d t ht =>
        have htp : t.pending = s.pending := by rw [pending_of_eq ht, State.dmaRead_pending]
        clear ht
        split
        next => exact (State.dmaEnd_pending ..).trans htp
        next bs =>
          split
          next e u hu =>
            have hup : u.pending = s.pending := by rw [pending_of_eq hu, State.dmaWrite_pending, htp]
            clear hu
            split
            next => exact (State.dmaEnd_pending ..).trans hup
            next =>
              extract_lets +onlyGivenNames r'
              have hr : ∀ x, (u.setRun n x).pending = s.pending := fun x => (State.setRun_pending ..).trans hup
              refine ite_pending (ite_pending ?_ ?_) ?_
              · exact (State.dmaEnd_pending ..).trans (hr _)
              · exact (State.dmaAsk_pending ..).trans (hr _)
              · extract_lets +onlyGivenNames r'' v
                have hv : v.pending = s.pending := hr _
                refine ite_pending ((State.dmaEnd_pending ..).trans hv) (ite_pending ((State.dmaEnd_pending ..).trans hv) ?_)
                extract_lets +onlyGivenNames w
                have hw : w.pending = s.pending := ite_pending ((State.dmaRaise_pending ..).trans hv) hv
                rw [State.dmaAsk_pending, State.setRun_pending, hw]

@[simp] theorem State.dmaAbort_pending (s : State) (n : Nat) : (s.dmaAbort n).pending = s.pending := by
  simp only [State.dmaAbort]
  repeat' split
  all_goals simp

@[simp] theorem State.dmaRelease_pending (s : State) (n : Nat) : (s.dmaRelease n).pending = s.pending := by
  simp only [State.dmaRelease]
  repeat' split
  all_goals simp

@[simp] theorem State.dmaReleaseMid_pending (s : State) (mid : Nat) : (s.dmaReleaseMid mid).pending = s.pending := by
  simp [State.dmaReleaseMid]

/-! ## Meanings of the DMA engines -/

@[simp] theorem dmaChannelCfgSpec_pending (c : Cmd) (s : State) : (dmaChannelCfgSpec.body c s).state.pending = s.pending := by
  simp [dmaChannelCfgSpec]

@[simp] theorem execDmaChannelCfg_leaves (e : AdminEntry) (s : State) :
    LeavesQueue s (execDmaChannelCfg e s) :=
  State.runCmd_pending dmaChannelCfgSpec_pending s e

@[simp] theorem State.dmaWriteBy_pending {s : State} {body : State → State} (mid n off : Nat) (h : (body s).pending = s.pending) :
    (s.dmaWriteBy mid n off body).pending = s.pending := by simp [State.dmaWriteBy, h]

@[simp] theorem State.dmaStart_pending (s : State) (n : Nat) : (s.dmaStart n).pending = s.pending := by
  simp only [State.dmaStart]
  repeat' split
  all_goals simp

@[simp] theorem execDmaChStart_leaves (mid : BitVec 13) (n : BitVec 7) (s : State) :
    LeavesQueue s (execDmaChStart mid n s) := by simp [execDmaChStart]

@[simp] theorem execDmaChAbort_leaves (mid : BitVec 13) (n : BitVec 7) (s : State) :
    LeavesQueue s (execDmaChAbort mid n s) := by simp [execDmaChAbort]

@[simp] theorem execDmaChannelSchedule_leaves (engine : Fin 16) (s : State) :
    LeavesQueue s (execDmaChannelSchedule engine s) := by
  simp only [execDmaChannelSchedule]
  repeat' split
  all_goals simp

@[simp] theorem execDmaBurstComplete_leaves (engine : Fin 16) (host : Option (List Byte)) (s : State) :
    LeavesQueue s (execDmaBurstComplete engine host s) := by
  simp only [execDmaBurstComplete]
  split <;> simp

/-! ## Operations on sequencer connections -/

@[simp] theorem State.completeTx_pending (s : State) (x : TxRef) (writes : List (Nat × Word)) (status reason : Nat) :
    (s.completeTx x writes status reason).pending = s.pending := by simp [State.completeTx]

@[simp] theorem State.endBuf_pending (s : State) (p : Pkt) : (s.endBuf p).pending = s.pending :=
  (State.endHold_pending ..).trans (State.freeHead_pending ..)

@[simp] theorem State.dropPkt_pending (s : State) (p : Pkt) (reason : Nat) : (s.dropPkt p reason).pending = s.pending := by
  simp only [State.dropPkt]
  split <;> simp

@[simp] theorem State.flushEntries_pending (s : State) (c status : Nat) : (s.flushEntries c status).pending = s.pending := by
  simp only [State.flushEntries]
  split <;> simp

@[simp] theorem State.nvmeFail_pending (s : State) (c : Nat) : (s.nvmeFail c).pending = s.pending := by
  simp only [State.nvmeFail]
  split <;> simp

@[simp] theorem State.transportLost_pending (s : State) (qp : Nat) : (s.transportLost qp).pending = s.pending := by
  simp only [State.transportLost]
  split <;> simp

@[simp] theorem State.qpError_pending (s : State) (c : Nat) : (s.qpError c).pending = s.pending := by
  simp only [State.qpError]
  split <;> simp

@[simp] theorem State.connFail_pending (s : State) (c : Nat) : (s.connFail c).pending = s.pending := by
  simp only [State.connFail]
  repeat' split
  all_goals simp

@[simp] theorem State.dropFrame_pending (s : State) (f : Option Pkt) : (s.dropFrame f).pending = s.pending := by
  simp only [State.dropFrame]
  split <;> simp

@[simp] theorem State.forgetConn_pending (s : State) (c : Nat) : (s.forgetConn c).pending = s.pending := by simp [State.forgetConn]

@[simp] theorem State.settleConn_pending (s : State) (c : Nat) : (s.settleConn c).pending = s.pending := by
  simp only [State.settleConn]
  repeat' split
  all_goals simp

@[simp] theorem State.closeConn_pending (s : State) (c status : Nat) : (s.closeConn c status).pending = s.pending := by
  simp only [State.closeConn]
  split <;> simp

@[simp] theorem State.connHostReset_pending (s : State) (i : Nat) : (s.connHostReset i).pending = s.pending := by
  simp only [State.connHostReset]
  refine foldl_pending (fun s e => ?_) _ _
  repeat' split
  all_goals simp

/-! ## Operations on Lantern regions -/

@[simp] theorem State.setRegion_pending (s : State) (r : Nat) (v : Region) : (s.setRegion r v).pending = s.pending := (rfl)

@[simp] theorem State.lanEnter_pending (s : State) (r st : Nat) : (s.lanEnter r st).pending = s.pending := by simp [State.lanEnter]

@[simp] theorem State.lanFinish_pending (s : State) (op r status reason : Nat) (ws : List Word) :
    (s.lanFinish op r status reason ws).pending = s.pending := by
  simp only [State.lanFinish]
  split <;> simp

@[simp] theorem State.lanLose_pending (s : State) (r : Nat) : (s.lanLose r).pending = s.pending := by simp [State.lanLose]

@[simp] theorem State.lanClear_pending (s : State) (r : Nat) : (s.lanClear r).pending = s.pending := by simp [State.lanClear]

@[simp] theorem State.lanRelease_pending (s : State) (r : Nat) : (s.lanRelease r).pending = s.pending := by simp [State.lanRelease]

@[simp] theorem State.lanUnload_pending (s : State) (r : Nat) : (s.lanUnload r).pending = s.pending :=
  (State.lanFinish_pending ..).trans ((State.lanEnter_pending ..).trans ((State.lanRelease_pending ..).trans
    ((State.lanClear_pending ..).trans (State.lanEnter_pending ..))))

@[simp] theorem State.lanQuiesce_pending (s : State) (r : Nat) (q : QuiesceFor) : (s.lanQuiesce r q).pending = s.pending :=
  (State.pending_emit ..).trans ((State.lanEnter_pending ..).trans (State.setRegion_pending ..))

@[simp] theorem State.lanStale_pending (s : State) (p : PendCmd) : (s.lanStale p).pending = s.pending := by simp [State.lanStale]

@[simp] theorem State.lanFree_pending (s : State) (r : Nat) : (s.lanFree r).pending = s.pending := by simp [State.lanFree]

@[simp] theorem State.lanRetire_pending (s : State) (r : Nat) : (s.lanRetire r).pending = s.pending := by simp [State.lanRetire]

/-! ## Modes of the device, Foghorn, the fault log and the leaky-bucket counters -/

@[simp] theorem State.showRetired_pending (s : State) : s.showRetired.pending = s.pending := by
  rw [State.showRetired, State.pending_setReg]
  exact (foldl_pending (fun _ _ => State.pending_setReg ..) _ _).trans (by simp only [State.pending_setReg, State.pending_setF])

@[simp] theorem State.setMode_pending (s : State) (mode cause : Nat) : (s.setMode mode cause).pending = s.pending := by simp [State.setMode]

@[simp] theorem State.fogMessages_pending (s : State) : s.fogMessages.pending = s.pending := by simp [State.fogMessages]

@[simp] theorem State.foghorn_pending (s : State) (cause : Nat) : (s.foghorn cause).pending = s.pending := by simp [State.foghorn]

@[simp] theorem State.fogClear_pending (s : State) (mask : Nat) : (s.fogClear mask).pending = s.pending := (rfl)

@[simp] theorem State.logResume_pending (s : State) : s.logResume.pending = s.pending := by simp [State.logResume]

@[simp] theorem State.setCounter_pending (s : State) (r v : Nat) : (s.setCounter r v).pending = s.pending := (rfl)

@[simp] theorem State.queueRetire_pending (s : State) (r : Nat) : (s.queueRetire r).pending = s.pending := by simp [State.queueRetire]

@[simp] theorem State.weigh_pending (s : State) (code r retry : Nat) (detail : List Nat) :
    (s.weigh code r retry detail).2.pending = s.pending := by simp [State.weigh]

@[simp] theorem State.fault_pending (s : State) (code r retry : Nat) (detail : List Nat) :
    (s.fault code r retry detail).pending = s.pending := by simp [State.fault]

/-! ## The two Keeper pairs -/

@[simp] theorem State.setPair_pending (s : State) (p : Nat) (x : PairPhase) : (s.setPair p x).pending = s.pending := by simp [State.setPair]

@[simp] theorem State.rebootPair_pending (s : State) (p : Nat) : (s.rebootPair p).pending = s.pending := State.setPair_pending ..

@[simp] theorem State.showRunning_pending (s : State) : s.showRunning.pending = s.pending := (rfl)

@[simp] theorem State.answerFaulted_pending (s : State) : s.answerFaulted.pending = s.pending := by simp [State.answerFaulted]

@[simp] theorem State.takeOver_pending (s : State) : s.takeOver.pending = s.pending := by simp [State.takeOver]

@[simp] theorem State.handOver_pending (s : State) : s.handOver.pending = s.pending := by simp [State.handOver]

@[simp] theorem State.endActivation_pending (s : State) (status reason : Nat) (ws : List Word) :
    (s.endActivation status reason ws).pending = s.pending := by simp [State.endActivation]

@[simp] theorem State.freeze_pending (s : State) : s.freeze.pending = s.pending := by simp [State.freeze]

@[simp] theorem State.pairsUp_pending (s : State) : s.pairsUp.pending = s.pending := by simp [State.pairsUp]

@[simp] theorem State.restartBoot_pending (s : State) : s.restartBoot.pending = s.pending := by simp [State.restartBoot]

@[simp] theorem State.fatalTaken_pending (s : State) : s.fatalTaken.pending = s.pending := by
  unfold State.fatalTaken
  extract_lets +onlyGivenNames a boot t other
  have ht : t.pending = s.pending := rfl
  refine ite_pending ((State.freeze_pending ..).trans ht) ?_
  extract_lets +onlyGivenNames u v boot' w
  have hw : w.pending = s.pending := by
    change v.pending = s.pending
    rw [State.log_pending, State.pending_bump, State.raiseEs_pending, State.foghorn_pending, ht]
  exact ite_pending ((State.takeOver_pending ..).trans hw) ((State.rebootPair_pending ..).trans hw)

@[simp] theorem State.takeEvents_pending (s : State) (fuel : Nat) : (s.takeEvents fuel).pending = s.pending := by
  induction fuel generalizing s with
  | zero => rfl
  | succ fuel ih =>
    unfold State.takeEvents
    refine ite_pending rfl ?_
    split
    next => rfl
    next => rfl
    next e =>
      extract_lets +onlyGivenNames boot t u
      have hu : u.pending = s.pending := ite_pending (State.fatalTaken_pending ..) rfl
      split
      next => exact (ih _).trans hu
      next => exact (State.pending_setF ..).trans hu

@[simp] theorem State.modeEvent_pending (s : State) (e : ModeEvent) : (s.modeEvent e).pending = s.pending := by simp [State.modeEvent]

@[simp] theorem State.endTransition_pending (s : State) : s.endTransition.pending = s.pending := by
  simp only [State.endTransition]
  split <;> simp [-State.setReg_pending, -State.setF_pending]

@[simp] theorem State.fatalActive_pending (s : State) : s.fatalActive.pending = s.pending := by simp [State.fatalActive]

@[simp] theorem State.fatalStandby_pending (s : State) (p : Nat) : (s.fatalStandby p).pending = s.pending := by simp [State.fatalStandby]

@[simp] theorem State.retireEnded_pending (s : State) (r : Nat) : (s.retireEnded r).pending = s.pending :=
  (State.pending_bump ..).trans ((State.raiseEs_pending ..).trans (State.log_pending ..))

@[simp] theorem State.holdAtLimit_pending (s : State) (r : Nat) : (s.holdAtLimit r).pending = s.pending := by simp [State.holdAtLimit]

@[simp] theorem State.pairFaultBy_pending {act : State → State} (h : ∀ t, (act t).pending = t.pending) (s : State) (p : Nat)
    (detail : List Nat) : (s.pairFaultBy p detail act).pending = s.pending := by
  unfold State.pairFaultBy
  refine ite_pending rfl ?_
  split
  next due t ht =>
    have htp : t.pending = s.pending := by rw [pending_of_eq ht, State.weigh_pending]
    clear ht
    extract_lets +onlyGivenNames due' go u ras v w
    have hu : u.pending = s.pending := ite_pending ((State.holdAtLimit_pending ..).trans htp) htp
    have hv : v.pending = s.pending := ite_pending ((State.showRetired_pending ..).trans hu) hu
    have hw : w.pending = s.pending := (h v).trans hv
    refine ite_pending ?_ hw
    rw [State.retireEnded_pending, State.foghorn_pending, State.modeEvent_pending, State.log_pending, hw]

@[simp] theorem State.pairFault_pending (s : State) (p : Nat) (detail : List Nat) : (s.pairFault p detail).pending = s.pending := by
  simp [State.pairFault]

/-! ## Operations on instances -/

@[simp] theorem State.updateStale_pending (s : State) (p : PendCmd) : (s.updateStale p).pending = s.pending := by
  simp only [State.updateStale]
  split <;> simp

@[simp] theorem State.endStale_pending (s : State) (i : Nat) : (s.endStale i).pending = s.pending := by simp [State.endStale]

@[simp] theorem State.bumpGen_pending (s : State) (i : Nat) : (s.bumpGen i).pending = s.pending := by simp [State.bumpGen]

@[simp] theorem State.startAdmin_pending (s : State) (i : Nat) : (s.startAdmin i).pending = s.pending := (rfl)

@[simp] theorem State.incGen_pending (s : State) (i : Nat) (w : IncWait) : (s.incGen i w).2.pending = s.pending := by simp [State.incGen]

@[simp] theorem State.dropWaiting_pending (s : State) (i : Nat) : (s.dropWaiting i).pending = s.pending := by simp [State.dropWaiting]

@[simp] theorem State.dropSubs_pending (s : State) (p : Telemetry → Bool) : (s.dropSubs p).pending = s.pending := by simp [State.dropSubs]

@[simp] theorem State.hostFacing_pending (s : State) (i : Nat) : (s.hostFacing i).pending = s.pending := by simp [State.hostFacing]

@[simp] theorem State.hostReset_pending (s : State) (i : Nat) (strong : Bool) : (s.hostReset i strong).pending = s.pending := by
  simp [State.hostReset]

@[simp] theorem State.hostResetAll_pending (s : State) (strong : Bool) (p : Nat → Bool) : (s.hostResetAll strong p).pending = s.pending
    := by
  simp [State.hostResetAll]

@[simp] theorem State.bindInst_pending (s : State) (i : Nat) : (s.bindInst i).pending = s.pending := by simp [State.bindInst]

@[simp] theorem State.bindAll_pending (s : State) : s.bindAll.pending = s.pending := by simp [State.bindAll]

@[simp] theorem State.hostResetEnd_pending (s : State) (i : Nat) : (s.hostResetEnd i).pending = s.pending := by
  unfold State.hostResetEnd
  extract_lets +onlyGivenNames fn t v
  have ht : t.pending = s.pending := ite_pending (State.pending_setFn ..) rfl
  refine ite_pending ht ?_
  extract_lets +onlyGivenNames u
  have hu : u.pending = s.pending := by
    refine ite_pending ?_ ((State.pending_setInst ..).trans ht)
    rw [State.keeperSend_pending, State.startAdmin_pending, State.pending_setInst, ht]
  split
  · exact (State.finish_pending ..).trans hu
  · exact hu

/-! ## The parser -/

@[simp] theorem State.swapBank_pending (s : State) (b : PrsBank) : (s.swapBank b).pending = s.pending := (rfl)

@[simp] theorem State.ruleParity_pending (s : State) (k : Nat) : (s.ruleParity k).pending = s.pending :=
  (State.faultElse_pending ..).trans ((State.raiseEs_pending ..).trans ((State.pending_bump ..).trans (State.pending_setReg ..)))

@[simp] theorem State.classify_pending (s : State) (stage owner profile : Nat) (key : List Byte) :
    (s.classify stage owner profile key).2.pending = s.pending := by simp [State.classify]

@[simp] theorem State.setClsInst_pending (s : State) (i : Nat) (c : ClsInst) : (s.setClsInst i c).pending = s.pending := (rfl)

@[simp] theorem State.clsCreate_pending (s : State) (i : Nat) : (s.clsCreate i).pending = s.pending := by
  obtain ⟨t, ht⟩ : ∃ t, s.clsCreate i = t := ⟨_, rfl⟩
  rw [ht]
  generalize hf : State.clsCreate = f at ht
  delta State.clsCreate at hf
  subst hf
  beta_reduce at ht
  rw [← ht, State.ssWrite_pending, State.setClsInst_pending]

/-! ## The table engines -/

@[simp] theorem State.setTable_pending (s : State) (t : Nat) (v : EmTable) : (s.setTable t v).pending = s.pending := (rfl)

@[simp] theorem State.freeTable_pending (s : State) (t : Nat) : (s.freeTable t).pending = s.pending := (rfl)

@[simp] theorem State.storeSlot_pending (s : State) (t i : Nat) : (s.storeSlot t i).pending = s.pending := by
  obtain ⟨x, hx⟩ : ∃ x, s.storeSlot t i = x := ⟨_, rfl⟩
  rw [hx]
  generalize hf : State.storeSlot = f at hx
  delta State.storeSlot at hf
  subst hf
  beta_reduce at hx
  extract_lets v off key u bs at hx
  split at hx
  · rw [hx]
  · rw [← hx, State.ssWrite_pending]
    clear hx
    subst u
    split
    · split
      next h u hu =>
        have e := pending_of_eq hu
        rw [State.takeLpd_pending] at e
        split
        · rw [State.install_pending, State.setPage_pending, e]
        · rw [e]
    · rfl

@[simp] theorem State.loadWarn_pending (s : State) (t : Nat) (before : EmTable) : (s.loadWarn t before).pending = s.pending := by
  simp [State.loadWarn]

@[simp] theorem State.emParity_pending (s : State) (t i : Nat) : (s.emParity t i).pending = s.pending :=
  (State.faultElse_pending ..).trans ((State.raiseEs_pending ..).trans ((State.pending_bump ..).trans ((State.pending_setReg ..).trans
    (State.pending_setReg ..))))

@[simp] theorem State.markHit_pending (s : State) (t i : Nat) : (s.markHit t i).pending = s.pending := by
  simp only [State.markHit]
  split <;> simp

@[simp] theorem State.emFind_pending (s : State) (t iid : Nat) (key : List Byte) : (s.emFind t iid key).2.pending = s.pending := by
  simp only [State.emFind]
  repeat' split
  all_goals simp

@[simp] theorem State.emLookup_pending (s : State) (t iid : Nat) (key : List Byte) : (s.emLookup t iid key).2.pending = s.pending := by
  simp only [State.emLookup]
  split <;> simp

@[simp] theorem State.setVrf_pending (s : State) (v : Nat) (x : Vrf) : (s.setVrf v x).pending = s.pending := (rfl)

@[simp] theorem State.lpmFind_pending (s : State) (vrf : Nat) (v6 : Bool) (addr : List Byte) :
    (s.lpmFind vrf v6 addr).2.pending = s.pending := by simp [State.lpmFind]

@[simp] theorem State.lpmLookup_pending (s : State) (vrf : Nat) (v6 : Bool) (addr : List Byte) :
    (s.lpmLookup vrf v6 addr).2.pending = s.pending := by simp [State.lpmLookup]

@[simp] theorem State.addPrefix_pending (s : State) (p : Prefix) : (s.addPrefix p).pending = s.pending := (rfl)

@[simp] theorem State.postLearn_pending (s : State) (t : Nat) (body : List Word) : (s.postLearn t body).pending = s.pending := by
  simp only [State.postLearn]
  split <;> simp

@[simp] theorem State.learnToken_pending (s : State) (t : Nat) : (s.learnToken t).2.pending = s.pending := by simp [State.learnToken]

@[simp] theorem State.learn_pending (s : State) (t : Nat) (body : List Word) (digest : Nat) :
    (s.learn t body digest).pending = s.pending := by
  simp [State.learn]

@[simp] theorem State.ageVisit_pending (s : State) (t : Nat) : (s.ageVisit t).pending = s.pending := by
  simp only [State.ageVisit]
  repeat' split
  all_goals simp

/-! ## Switching -/

@[simp] theorem State.edited_pending (s : State) (p : Pkt) : (s.edited p).2.pending = s.pending := by
  simp only [State.edited]
  split <;> simp

@[simp] theorem State.setPolicer_pending (s : State) (k : Nat) (v : Policer) : (s.setPolicer k v).pending = s.pending := (rfl)

@[simp] theorem State.commit_pending (s : State) (c : Commit) : (s.commit c).pending = s.pending := by
  simp only [State.commit]
  repeat' split
  all_goals simp

@[simp] theorem State.uncommit_pending (s : State) (c : Commit) : (s.uncommit c).pending = s.pending := by
  simp only [State.uncommit]
  repeat' split
  all_goals simp

@[simp] theorem State.commitFor_pending (s : State) (p : Pkt) (c : Commit) : (s.commitFor p c).pending = s.pending := by
  simp only [State.commitFor]
  split <;> simp

@[simp] theorem State.bumpFor_pending (s : State) (p : Pkt) (r : Nat) (event : Option Nat) : (s.bumpFor p r event).pending = s.pending := by
  simp [State.bumpFor]

@[simp] theorem State.countParse_pending (s : State) (p : Pkt) (source : Nat) (r : ParseRun) :
    (s.countParse p source r).pending = s.pending := by simp [State.countParse]

@[simp] theorem State.excPass_pending (s : State) (p : Pkt) (i : Nat) : (s.excPass p i).2.pending = s.pending := by simp [State.excPass]

/-! ## Fresnel -/

@[simp] theorem State.setNode_pending (s : State) (n : Nat) (v : Node) : (s.setNode n v).pending = s.pending := (rfl)

@[simp] theorem State.leafFor_pending (s : State) (p : Pkt) (port leaf : Nat) : (s.leafFor p port leaf).2.pending = s.pending := by
  unfold State.leafFor
  extract_lets +onlyGivenNames queue inst named
  have hm : (s.bump R.FRS_LEAF_MISMATCH).pending = s.pending := State.pending_bump ..
  refine snd_pending_of_ite rfl ?_
  split
  · exact snd_pending_of_ite rfl hm
  · exact hm

@[simp] theorem State.leafStat_pending (s : State) (leaf : Nat) (f : LeafStat → LeafStat) : (s.leafStat leaf f).pending = s.pending := (rfl)

@[simp] theorem State.enterLeaf_pending (s : State) (p : Pkt) (port leaf : Nat) : (s.enterLeaf p port leaf).pending = s.pending := by
  simp only [State.enterLeaf]
  repeat' split
  all_goals simp

@[simp] theorem State.setGates_pending (s : State) (p : Nat) (g : Gates) : (s.setGates p g).pending = s.pending := (rfl)

@[simp] theorem State.dropOversizeGates_pending (s : State) (port : Nat) : (s.dropOversizeGates port).pending = s.pending := by
  unfold State.dropOversizeGates
  refine ite_pending rfl ?_
  extract_lets +onlyGivenNames g
  refine foldl_pending (fun s e => ?_) _ _
  split
  · rfl
  · extract_lets +onlyGivenNames e above
    refine ite_pending rfl ?_
    extract_lets +onlyGivenNames node t frs u
    have ht : t.pending = s.pending := State.setNode_pending ..
    have hu : u.pending = s.pending := ht
    rw [State.dropPkt_pending, State.raiseLimited_pending, State.leafStat_pending, State.pending_bump, hu]

@[simp] theorem State.countHolds_pending (s : State) (port : Nat) : (s.countHolds port).pending = s.pending := by
  simp only [State.countHolds]
  split
  · rfl
  · refine foldl_pending (fun s e => ?_) _ _
    split <;> simp

@[simp] theorem State.choose_pending (s : State) (root : Nat) : (s.choose root).2.pending = s.pending := by
  simp only [State.choose]
  repeat' split
  all_goals simp

@[simp] theorem State.sideRecord_pending (s : State) (t source : Nat) (tx : Bool) (delay : Int) :
    (s.sideRecord t source tx delay).2.pending = s.pending := (rfl)

@[simp] theorem State.oneStep_pending (s : State) (p : Nat) (d : List Byte) (t : Nat) : (s.oneStep p d t).2.pending = s.pending := by
  simp only [State.oneStep]
  split <;> simp

@[simp] theorem State.countFrame_pending (s : State) (p base : Nat) (line : List Byte) : (s.countFrame p base line).pending = s.pending
    := by
  simp [State.countFrame]

@[simp] theorem State.startLine_pending (s : State) (port : Nat) (p : Pkt) : (s.startLine port p).pending = s.pending := by
  unfold State.startLine
  refine ite_pending ?_ ?_
  · extract_lets +onlyGivenNames t
    have ht : (t.endBuf p).pending = s.pending := (State.endBuf_pending ..).trans (State.stat_pending ..)
    split
    · exact (State.completeTx_pending ..).trans ht
    · exact ht
  · split
    split
    next bytes t ht =>
      have htp : t.pending = s.pending := by rw [pending_of_eq ht, State.oneStep_pending]
      clear ht
      extract_lets +onlyGivenNames line n ptp ask
      split
      next side u hu =>
        have hup : u.pending = s.pending := by rw [pending_of_eq hu, snd_pending_ite, State.sideRecord_pending, htp, ite_self]
        clear hu
        extract_lets +onlyGivenNames pipe v
        have hv : v.pending = s.pending := by
          unfold v
          split
          · exact (State.countFrame_pending ..).trans (ite_pending hup ((State.stat_pending ..).trans hup))
          · exact hup
        clear_value v
        extract_lets +onlyGivenNames x
        have hx : x.pending = s.pending := (State.endBuf_pending ..).trans hv
        split
        · exact (State.completeTx_pending ..).trans hx
        · exact hx

@[simp] theorem State.settleOpenings_pending (s : State) (p : Nat) : (s.settleOpenings p).pending = s.pending := (rfl)

@[simp] theorem State.dropGateClaim_pending (s : State) (p : Nat) : (s.dropGateClaim p).pending = s.pending := by
  simp only [State.dropGateClaim]
  split <;> simp

@[simp] theorem State.gclSwitch_pending (s : State) (p : Nat) : (s.gclSwitch p).pending = s.pending := by
  simp only [State.gclSwitch]
  repeat' split
  all_goals simp

@[simp] theorem State.gclResync_pending (s : State) : s.gclResync.pending = s.pending := by simp [State.gclResync]

@[simp] theorem State.setTime_pending (s : State) (t : Nat) : (s.setTime t).pending = s.pending := by simp [State.setTime]

@[simp] theorem State.stepped_pending (s : State) (off : Int) : (s.stepped off).2.pending = s.pending := by simp [State.stepped]

/-! ## Fills and parking of the State Pager -/

@[simp] theorem State.startFill_pending (s : State) (key : Nat) : (s.startFill key).pending = s.pending := by
  simp only [State.startFill]
  repeat' split
  all_goals simp

@[simp] theorem State.startWaiting_pending (s : State) : s.startWaiting.pending = s.pending := by simp [State.startWaiting]

@[simp] theorem State.fillPage_pending (s : State) (key : Nat) (bs : Option (List Byte)) : (s.fillPage key bs).pending = s.pending := by
  simp [State.fillPage]

@[simp] theorem State.park_pending (s : State) (p : Pkt) (ssid page : Nat) (r : Resume) : (s.park p ssid page r).pending = s.pending := by
  simp [State.park]

@[simp] theorem State.unpark_pending (s : State) (key : Nat) : (s.unpark key).2.pending = s.pending := (rfl)

@[simp] theorem State.poisonPage_pending (s : State) (key : Nat) : (s.poisonPage key).pending = s.pending := by simp [State.poisonPage]

@[simp] theorem State.fillFailed_pending (s : State) (key : Nat) : (s.fillFailed key).pending = s.pending := by simp [State.fillFailed]

/-! ## Frames that leave the action stage -/

@[simp] theorem State.rxImage_pending (s : State) (p : Pkt) (ok : Bool) : (s.rxImage p ok).2.pending = s.pending := by simp [State.rxImage]

@[simp] theorem State.rxFill_pending (s : State) (q : Nat) (m : RxMeta) (l : List Byte) (l' : List RxBuf) :
    (s.rxFill q m l l').pending = s.pending := by
  induction l' generalizing s l with
  | nil => rfl
  | cons b l' ih => simp [State.rxFill, ih]

@[simp] theorem State.rxDrop_pending (s : State) (q : Nat) (f : RxFrame) : (s.rxDrop q f).pending = s.pending := by simp [State.rxDrop]

@[simp] theorem State.rxDrain_pending (s : State) (q fuel : Nat) : (s.rxDrain q fuel).pending = s.pending := by
  induction fuel generalizing s with
  | zero => rfl
  | succ fuel ih =>
    simp only [State.rxDrain]
    repeat' split
    all_goals simp [ih]

@[simp] theorem State.rxQueue_pending (s : State) (q : Nat) (f : RxFrame) : (s.rxQueue q f).pending = s.pending := by
  unfold State.rxQueue
  split <;> simp

@[simp] theorem State.deliver_pending (s : State) (inst loc : Nat) (p : Pkt) (ok : Bool) :
    (s.deliver inst loc p ok).pending = s.pending := by
  unfold State.deliver
  extract_lets +onlyGivenNames bad v
  have hb : ∀ t, (bad t).pending = t.pending := fun t => (State.dropPkt_pending ..).trans (State.bumpFor_pending ..)
  refine ite_pending (hb _) ?_
  split
  next => exact hb _
  next q _ =>
    extract_lets +onlyGivenNames c
    refine ite_pending (hb _) ?_
    split
    next f t ht =>
      have htp : t.pending = s.pending := by rw [pending_of_eq ht, State.rxImage_pending]
      clear ht
      split
      next => rw [State.dropPkt_pending, State.bumpFor_pending, htp]
      next f =>
        extract_lets +onlyGivenNames u v
        have hu : u.pending = s.pending := (State.freeHead_pending ..).trans htp
        have hv : v.pending = s.pending := by
          unfold v
          split
          · exact (State.completeTx_pending ..).trans hu
          · exact hu
        refine ite_pending ((State.rxDrop_pending ..).trans (ite_pending ((State.pmeWake_pending ..).trans hv) hv)) (ite_pending ?_ ?_)
        · exact (State.rxDrop_pending ..).trans hv
        · exact (State.rxQueue_pending ..).trans hv

@[simp] theorem State.deliverTail_pending (s : State) (inst loc : Nat) (p : Pkt) : (s.deliverTail inst loc p).pending = s.pending := by
  simp only [State.deliverTail]
  split <;> simp

@[simp] theorem State.stage4_pending (s : State) (p : Pkt) (tpid : Nat) : (s.stage4 p tpid).2.pending = s.pending := by
  simp only [State.stage4]
  split <;> simp

@[simp] theorem State.cloveOffer_pending (s : State) (f : CloveFrame) : (s.cloveOffer f).pending = s.pending := by
  simp only [State.cloveOffer]
  split <;> simp

@[simp] theorem State.seqOffer_pending (s : State) (p : Pkt) (g named : Nat) : (s.seqOffer p g named).pending = s.pending := by
  simp only [State.seqOffer]
  repeat' split
  all_goals simp

@[simp] theorem State.safQueue_pending (s : State) (assoc : Nat) (r : SafReq) : (s.safQueue assoc r).pending = s.pending := (rfl)

@[simp] theorem State.safOffer_pending (s : State) (p : Pkt) (assoc : Nat) (encrypt reparse : Bool) :
    (s.safOffer p assoc encrypt reparse).pending = s.pending := (rfl)

@[simp] theorem State.tapOffer_pending (s : State) (p : Pkt) (r tap : Nat) : (s.tapOffer p r tap).2.pending = s.pending := by
  unfold State.tapOffer
  extract_lets +onlyGivenNames v t by_ full declared
  have hb : (s.bump (R.LAN_BYPASS r)).pending = s.pending := State.pending_bump ..
  refine snd_pending_of_ite hb ?_
  split
  next ok u hu =>
    have hup : u.pending = s.pending := by rw [pending_of_eq hu, State.transferBuf_pending]
    refine snd_pending_of_ite hb ?_
    split
    next x w hw =>
      have hwp : w.pending = s.pending := by rw [pending_of_eq hw, State.pending_draw, hup]
      split
      next => exact (State.pending_bump ..).trans hwp
      next =>
        extract_lets +onlyGivenNames q i late y
        have hy : y.pending = s.pending := hwp
        exact hy

/-! ## The pipelines -/

@[simp] theorem State.ownDrop_pending (s : State) (owner : Nat) (p : Pkt) (reason : Nat) : (s.ownDrop owner p reason).pending = s.pending :=
  (State.dropPkt_pending ..).trans (State.commitFor_pending ..)

@[simp] theorem State.exception_pending (s : State) (p : Pkt) (inst mark : Nat) : (s.exception p inst mark).pending = s.pending := by
  simp [State.exception]

@[simp] theorem State.sendCopy_pending (s : State) (p : Pkt) (bytes : List Byte) (session : Nat) :
    (s.sendCopy p bytes session).pending = s.pending := by
  unfold State.sendCopy
  split
  next => rfl
  next m _ =>
    extract_lets +onlyGivenNames lost trunc cut prof
    have hlost : ∀ t, (lost t).pending = t.pending := fun t => State.bumpFor_pending ..
    split
    next => exact hlost s
    next kind a b via _ =>
      extract_lets +onlyGivenNames by_ holder encap
      split
      next head t ht =>
        have htp : t.pending = s.pending := by
          rw [pending_of_eq ht, snd_pending_ite, State.allocBuf_pending, ite_self]
        clear ht
        refine ite_pending ((hlost t).trans htp) ?_
        extract_lets +onlyGivenNames c
        split
        next ok u hu =>
          have hup : u.pending = s.pending := by rw [pending_of_eq hu, State.shareBuf_pending, htp]
          clear hu
          refine ite_pending ?_ (ite_pending ?_ ?_)
          · rw [hlost, State.freeHead_pending, htp]
          · rw [State.deliverTail_pending, hup]
          · split
            next x w hw =>
              have hwp : w.pending = s.pending := by rw [pending_of_eq hw, State.stage4_pending, hup]
              clear hw
              have hend : (lost (w.endBuf c)).pending = s.pending := by rw [hlost, State.endBuf_pending, hwp]
              split
              · exact ite_pending ((State.enterLeaf_pending ..).trans hwp) hend
              · exact hend

@[simp] theorem State.leaveEgress_pending (s : State) (p : Pkt) (port leaf : Nat) : (s.leaveEgress p port leaf).pending = s.pending := by
  simp only [State.leaveEgress]
  split <;> simp

@[simp] theorem State.sendPort_pending (s : State) (p : Pkt) (port leaf : Nat) : (s.sendPort p port leaf).pending = s.pending := by
  simp only [State.sendPort]
  split <;> simp

@[simp] theorem State.finishActs_pending (s : State) (p : Pkt) : (s.finishActs p).pending = s.pending := by
  simp only [State.finishActs]
  repeat' split
  all_goals simp

@[simp] theorem State.pageLost_pending (s : State) (ssid k : Nat) (p : Pkt) : (s.pageLost ssid k p).pending = s.pending :=
  (State.dropPkt_pending ..).trans (State.stateFault_pending ..)

@[simp] theorem State.usePage_pending (s : State) (ssid k : Nat) : (s.usePage ssid k).pending = s.pending := by simp [State.usePage]

@[simp] theorem State.spreadEntry_pending (s : State) (inst : Nat) (p : Pkt) : (s.spreadEntry inst p).2.2.pending = s.pending := by
  simp only [State.spreadEntry]
  split <;> simp

@[simp] theorem State.spread_pending (s : State) (inst : Nat) (p : Pkt) : (s.spread inst p).pending = s.pending := by
  simp only [State.spread]
  repeat' split
  all_goals simp

@[simp] theorem transfer_pending (s : State) (p : Pkt) (k : Nat) : (transfer s p k).state.pending = s.pending := by
  simp only [transfer]
  split <;> simp

@[simp] theorem viaPath_pending (s : State) (p : Pkt) (path : Nat) : (viaPath s p path).state.pending = s.pending := by
  simp only [viaPath]
  split <;> simp

@[simp] theorem State.stage7_pending (s : State) (p : Pkt) (r : Resume) : (s.stage7 p r).state.pending = s.pending := by
  simp only [State.stage7]
  repeat' split
  all_goals simp

@[simp] theorem State.lpmFor_pending (s : State) (p : Pkt) (vrf : Nat) (v6 : Bool) (addr : List Byte) :
    (s.lpmFor p vrf v6 addr).2.pending = s.pending := by simp [State.lpmFor]

@[simp] theorem State.emFor_pending (s : State) (p : Pkt) (t iid : Nat) (key : List Byte) : (s.emFor p t iid key).2.pending = s.pending
    := by
  simp only [State.emFor]
  split <;> simp

@[simp] theorem doLpm_pending (s : State) (p : Pkt) (a : Act) : (doLpm s p a).state.pending = s.pending := by
  simp only [doLpm]
  repeat' split
  all_goals simp

@[simp] theorem doEm_pending (s : State) (here p : Pkt) (a : Act) : (doEm s here p a).state.pending = s.pending := by
  unfold doEm
  extract_lets t v key learns record parallel
  split
  extract_lets pages s0
  split
  · simp
  · simp
  · split
    next hit u he =>
      have hu : u.pending = s.pending := by
        rw [pending_of_eq he, State.emFor_pending]
        exact foldl_pending (fun s k => State.usePage_pending ..) _ _
      have hr : ∀ w k o, (record w k o).pending = w.pending := fun w k o => by
        unfold record
        split <;> simp
      have hp : ∀ w, (parallel w).pending = w.pending := fun w => by
        unfold parallel
        repeat' split
        all_goals simp
      clear_value record parallel
      split
      · extract_lets w p'
        have hw : w.pending = s.pending := by
          unfold w
          split <;> simp [hr, hu]
        have ht := transfer_pending (parallel w)
        split
        next h => exact (congrArg (·.state.pending) h.symm).trans ((ht ..).trans ((hp w).trans hw))
        next h =>
          have hg := (congrArg (·.state.pending) h.symm).trans ((ht ..).trans ((hp w).trans hw))
          simp only [Acted.state_go] at hg
          simp [hg]
      · extract_lets w
        have hw : w.pending = s.pending := (hr ..).trans hu
        split
        · split <;> simp [hp, hw]
        · simp [hw]
        · exact hw

@[simp] theorem doPolice_pending (s : State) (p : Pkt) (k : Nat) : (doPolice s p k).state.pending = s.pending := by
  obtain ⟨meter, hm⟩ : ∃ f, Policer.meter = f := ⟨_, rfl⟩
  unfold doPolice
  rw [hm]
  split
  · rfl
  · split
    extract_lets t act
    clear_value act
    split <;> simp [t]

@[simp] theorem doCopy_pending (s : State) (p : Pkt) (session : Nat) : (doCopy s p session).state.pending = s.pending := by simp [doCopy]

@[simp] theorem doAct_pending (s : State) (here p : Pkt) (a : Act) : (doAct s here p a).state.pending = s.pending := by
  unfold doAct
  extract_lets +onlyGivenNames edit edits tag
  refine Acted.ite_pending ?_ ?_
  · exact (State.dropPkt_pending ..).trans (State.bumpFor_pending ..)
  · split
    case h_6 =>
      extract_lets +onlyGivenNames i
      split
      next h w t ht =>
        extract_lets +onlyGivenNames q
        have htp : t.pending = s.pending := by rw [pending_of_eq_triple ht, State.spreadEntry_pending]
        split
        · exact (State.park_pending ..).trans htp
        · exact (State.pageLost_pending ..).trans htp
        · split
          · exact htp
          · exact (viaPath_pending ..).trans htp
          · exact (State.ownDrop_pending ..).trans htp
    case h_1 => exact doEm_pending ..
    case h_2 => exact doLpm_pending ..
    case h_5 => exact viaPath_pending ..
    case h_7 => exact State.ownDrop_pending ..
    case h_8 => exact State.exception_pending ..
    case h_12 =>
      extract_lets +onlyGivenNames t
      exact ite_pending (State.bumpFor_pending ..) rfl
    case h_14 => exact Acted.ite_pending ((State.exception_pending ..).trans (State.bumpFor_pending ..)) rfl
    case h_16 => exact State.commitFor_pending ..
    case h_17 => exact doCopy_pending ..
    case h_18 =>
      extract_lets +onlyGivenNames n
      exact Acted.ite_pending ((doCopy_pending ..).trans (State.pending_draw ..)) (State.pending_draw ..)
    case h_19 => exact doPolice_pending ..
    case h_20 => exact Acted.ite_pending rfl (State.safOffer_pending ..)
    case h_21 =>
      extract_lets +onlyGivenNames r tap
      split
      next ok t ht =>
        have htp : t.pending = s.pending := by rw [pending_of_eq ht, State.tapOffer_pending]
        exact Acted.ite_pending htp (Acted.ite_pending ((State.dropPkt_pending ..).trans htp) htp)
    case h_22 => exact State.cloveOffer_pending ..
    case h_23 => exact State.seqOffer_pending ..
    all_goals rfl

@[simp] theorem State.runActs_pending (fuel : Nat) (s : State) (p : Pkt) : (s.runActs fuel p).pending = s.pending := by
  induction fuel generalizing s p with
  | zero => exact State.finishActs_pending ..
  | succ fuel ih =>
    rw [State.runActs]
    split
    · rfl
    · split
      · simp
      · split
        · simp
        next a rest _ =>
          have hd := doAct_pending s p { p with acts := rest } a
          split
          · simp
          · split <;> simp_all

@[simp] theorem State.acts_pending (s : State) (p : Pkt) : (s.acts p).pending = s.pending := State.runActs_pending ..

@[simp] theorem State.actList_pending (s : State) (p : Pkt) (k : Nat) : (s.actList p k).pending = s.pending := by
  have h := transfer_pending s p k
  unfold State.actList
  split <;> simp_all

@[simp] theorem State.stage1_pending (s : State) (p : Pkt) (i : Nat) : (s.stage1 p i).pending = s.pending := by
  unfold State.stage1
  extract_lets +onlyGivenNames v
  refine ite_pending ?_ (ite_pending (State.ownDrop_pending ..) ?_)
  · exact (State.dropPkt_pending ..).trans (State.bumpFor_pending ..)
  · extract_lets +onlyGivenNames p' c p''
    split
    next m u hu =>
      have hup : u.pending = s.pending := by rw [pending_of_eq hu, State.classify_pending, State.bumpFor_pending]
      clear hu
      split
      next =>
        split
        · exact (State.spread_pending ..).trans hup
        · exact (State.exception_pending ..).trans hup
        · exact (State.ownDrop_pending ..).trans hup
      next =>
        extract_lets +onlyGivenNames q
        split
        · exact (State.deliverTail_pending ..).trans hup
        · exact (State.spread_pending ..).trans hup
        · exact (State.exception_pending ..).trans hup
        · exact (State.ownDrop_pending ..).trans hup

@[simp] theorem State.ingress_pending (s : State) (p : Pkt) : (s.ingress p).pending = s.pending := by
  unfold State.ingress
  extract_lets +onlyGivenNames r t p p'
  have ht : t.pending = s.pending := State.countParse_pending ..
  refine ite_pending ((State.exception_pending ..).trans ht) ?_
  extract_lets +onlyGivenNames prof
  split
  next m u hu =>
    have hup : u.pending = s.pending := by rw [pending_of_eq hu, State.classify_pending, State.bumpFor_pending, ht]
    clear hu
    split
    next => rw [State.exception_pending, State.bumpFor_pending, hup]
    next =>
      extract_lets +onlyGivenNames q
      split
      · exact (State.actList_pending ..).trans hup
      · exact (State.spread_pending ..).trans hup
      · exact (State.exception_pending ..).trans hup
      · exact (State.stage1_pending ..).trans hup
      · exact (State.ownDrop_pending ..).trans hup

@[simp] theorem State.egress_pending (s : State) (p : Pkt) : (s.egress p).pending = s.pending := by
  unfold State.egress
  extract_lets +onlyGivenNames start r t p p'
  have ht : t.pending = s.pending := State.countParse_pending ..
  refine ite_pending (ite_pending ((State.dropPkt_pending ..).trans ht) ((State.finishActs_pending ..).trans ht)) ?_
  extract_lets +onlyGivenNames prof
  split
  next m u hu =>
    have hup : u.pending = s.pending := by rw [pending_of_eq hu, State.classify_pending, State.bumpFor_pending, ht]
    clear hu
    split
    next => exact (State.finishActs_pending ..).trans hup
    next =>
      extract_lets +onlyGivenNames q
      split
      · exact (State.actList_pending ..).trans hup
      · exact (State.ownDrop_pending ..).trans hup

@[simp] theorem State.resumeParked_pending (s : State) (x : Parked) : (s.resumeParked x).pending = s.pending := by
  have h := State.stage7_pending s x.pkt .state
  unfold State.resumeParked
  split
  · simp
  · simp
  · split <;> simp_all

@[simp] theorem State.releasePage_pending (s : State) (key : Nat) : (s.releasePage key).pending = s.pending := by simp [State.releasePage]

@[simp] theorem State.releaseGone_pending (s : State) (ssid : Nat) : (s.releaseGone ssid).pending = s.pending := by simp [State.releaseGone]

@[simp] theorem State.resumeHeld_pending (s : State) (h : HoldAt) (p : Pkt) (ok : Bool) : (s.resumeHeld h p ok).pending = s.pending := by
  simp only [State.resumeHeld]
  split <;> simp

@[simp] theorem State.tail_pending (s : State) (frame : Nat) (ok : Bool) : (s.tail frame ok).pending = s.pending := by simp [State.tail]

@[simp] theorem State.allocAny_pending (s : State) (r len : Nat) : (s.allocAny r len).2.pending = s.pending := by
  simp only [State.allocAny]
  split <;> simp

@[simp] theorem State.allocLine_pending (s : State) (port prio len : Nat) : (s.allocLine port prio len).2.pending = s.pending := by
  simp only [State.allocLine]
  split <;> simp

@[simp] theorem State.receive_pending (s : State) (port : Nat) (bytes : List Byte) : (s.receive port bytes).pending = s.pending := by
  unfold State.receive
  extract_lets +onlyGivenNames v note n
  have hnote : ∀ t k b, (note t k b).pending = t.pending := fun _ _ _ => rfl
  refine ite_pending (hnote ..) ?_
  split
  next tags data _ =>
    extract_lets +onlyGivenNames prio est
    split
    next ptr t ht =>
      have htp : t.pending = s.pending := by rw [pending_of_eq ht, State.allocLine_pending]
      clear ht
      split
      next => rw [hnote, State.stat_pending, htp]
      next ptr =>
        refine ite_pending (by rw [hnote, State.freeFrame_pending, htp]) ?_
        extract_lets +onlyGivenNames b old u
        have hu : u.pending = s.pending := by
          rw [State.settleAccount_pending, State.storeBuf_pending, State.putBuf_pending, htp]
        clear_value u
        split
        next ts un delay _ =>
          extract_lets +onlyGivenNames plain
          split
          next side w hw =>
            have hwp : w.pending = s.pending := by rw [pending_of_eq hw, snd_pending_ite, State.sideRecord_pending, hu, ite_self]
            clear hw
            extract_lets +onlyGivenNames k pkt pipe x
            have hx : x.pending = s.pending := (hnote ..).trans hwp
            exact ite_pending ((State.ingress_pending ..).trans hx) hx

/-! ## The Spar fabric -/

@[simp] theorem State.setSport_pending (s : State) (p : Nat) (v : SparPort) : (s.setSport p v).pending = s.pending := (rfl)

@[simp] theorem State.putFlit_pending (s : State) (p : Nat) (f : SparFlit) (seq creditVc credits : Nat) :
    (s.putFlit p f seq creditVc credits).pending = s.pending := (rfl)

@[simp] theorem State.sparAck_pending (s : State) (p vc credits : Nat) : (s.sparAck p vc credits).pending = s.pending := (rfl)

@[simp] theorem State.sparPump_pending (s : State) (p fuel : Nat) : (s.sparPump p fuel).pending = s.pending := by
  induction fuel generalizing s with
  | zero => rfl
  | succ fuel ih =>
    simp only [State.sparPump]
    repeat' split
    all_goals simp [ih]

@[simp] theorem State.sparLose_pending (s : State) (fs : List SparFlit) : (s.sparLose fs).pending = s.pending := by
  simp only [State.sparLose]
  refine foldl_pending (fun s e => ?_) _ _
  repeat' split
  all_goals simp

@[simp] theorem State.sparQueue_pending (s : State) (p : Nat) (fs : List SparFlit) : (s.sparQueue p fs).pending = s.pending := by
  simp [State.sparQueue]

@[simp] theorem State.sparAcked_pending (s : State) (p ack : Nat) : (s.sparAcked p ack).pending = s.pending := by
  simp only [State.sparAcked]
  split
  · rfl
  · refine (foldl_pending (fun s f => ?_) _ _).trans (by simp)
    split <;> simp

@[simp] theorem State.sparFault_pending (s : State) (p code : Nat) : (s.sparFault p code).pending = s.pending := by simp [State.sparFault]

@[simp] theorem State.sparDown_pending (s : State) (p : Nat) : (s.sparDown p).pending = s.pending := by simp [State.sparDown]

@[simp] theorem State.sparRoute_pending (s : State) (epoch dst flow : Nat) : (s.sparRoute epoch dst flow).2.pending = s.pending := by
  simp only [State.sparRoute]
  repeat' split
  all_goals simp

@[simp] theorem State.sparLaunch_pending (s : State) (p : SparPkt) : (s.sparLaunch p).2.pending = s.pending := by simp [State.sparLaunch]

@[simp] theorem State.sparSend_pending (s : State) (p : SparPkt) : (s.sparSend p).2.pending = s.pending := by
  simp only [State.sparSend]
  split <;> simp

@[simp] theorem State.settleUpstream_pending (s : State) : s.settleUpstream.pending = s.pending := by simp [State.settleUpstream]

@[simp] theorem State.sparCorrect_pending (s : State) (off : Int) : (s.sparCorrect off).pending = s.pending := by simp [State.sparCorrect]

@[simp] theorem State.sendBeacon_pending (s : State) (p : Nat) : (s.sendBeacon p).pending = s.pending := by simp [State.sendBeacon]

@[simp] theorem State.takeBeacon_pending (s : State) (p : Nat) (b : Beacon) : (s.takeBeacon p b).pending = s.pending := by
  simp [State.takeBeacon]

@[simp] theorem State.setSchan_pending (s : State) (c : Nat) (v : SparChan) : (s.setSchan c v).pending = s.pending := (rfl)

@[simp] theorem State.settleGrants_pending (s : State) : s.settleGrants.pending = s.pending := by simp [State.settleGrants]

@[simp] theorem State.settleLeave_pending (s : State) : s.settleLeave.pending = s.pending := by simp [State.settleLeave]

@[simp] theorem State.sparComplete_pending (s : State) (c w status kind : Nat) : (s.sparComplete c w status kind).pending = s.pending := by
  simp only [State.sparComplete]
  split <;> simp

@[simp] theorem State.readLines_pending (s : State) (ssid off fuel : Nat) : (s.readLines ssid off fuel).2.pending = s.pending := by
  induction fuel generalizing s off with
  | zero => rfl
  | succ fuel ih =>
    simp only [State.readLines]
    split
    · simp
    · split <;> simp [ih]

@[simp] theorem State.writeLines_pending (s : State) (ssid off : Nat) (bs : List Byte) (fuel : Nat) :
    (s.writeLines ssid off bs fuel).2.pending = s.pending := by
  induction fuel generalizing s off bs with
  | zero => rfl
  | succ fuel ih =>
    simp only [State.writeLines]
    split <;> simp [ih]

@[simp] theorem State.sparAsk_pending (s : State) (c w : Nat) (p : SparPkt) : (s.sparAsk c w p).pending = s.pending := by
  simp [State.sparAsk]

@[simp] theorem State.sparHold_pending (s : State) (h : SparHeld) : (s.sparHold h).pending = s.pending := (rfl)

@[simp] theorem State.sparAskWrite_pending (s : State) (c mid w ssid : Nat) : (s.sparAskWrite c mid w ssid).pending = s.pending := by
  simp only [State.sparAskWrite]
  split <;> simp

@[simp] theorem State.sparRequest_pending (s : State) (c mid w : Nat) : (s.sparRequest c mid w).pending = s.pending := by
  unfold State.sparRequest
  extract_lets +onlyGivenNames op n chan t
  have ht : t.pending = s.pending := State.setSchan_pending ..
  clear_value t
  have hc : ∀ (u : State) a b, u.pending = s.pending → (u.sparComplete c w a b).pending = s.pending := fun u a b h =>
    (State.sparComplete_pending ..).trans h
  refine ite_pending (hc _ _ _ ht) ?_
  split
  next => exact hc _ _ _ ht
  next ssid requester _ =>
    refine ite_pending ?_ (ite_pending ?_ (ite_pending ?_ (hc _ _ _ ht)))
    · rw [State.sparAsk_pending, ht]
    · refine ite_pending ?_ ((State.sparAskWrite_pending ..).trans ht)
      exact (State.sparHold_pending ..).trans ((State.setSchan_pending ..).trans ht)
    · extract_lets +onlyGivenNames ptr len alone
      refine ite_pending (hc _ _ _ ht) ?_
      extract_lets +onlyGivenNames bytes
      split
      next r u hu =>
        have hup : u.pending = s.pending := by rw [pending_of_eq hu, State.sparLaunch_pending, ht]
        split
        next => exact hc _ _ _ hup
        next port q =>
          split
          next ok x hx =>
            have hxp : x.pending = s.pending := by rw [pending_of_eq hx, State.transferBuf_pending, hup]
            refine ite_pending (hc _ _ _ hxp) ?_
            exact (State.sparQueue_pending ..).trans ((State.setSchan_pending ..).trans hxp)

@[simp] theorem State.sparMail_pending (s : State) (c mid w : Nat) : (s.sparMail c mid w).pending = s.pending := by simp [State.sparMail]

@[simp] theorem State.sparKick_pending (s : State) (c : Nat) : (s.sparKick c).pending = s.pending := by
  unfold State.sparKick
  split
  next => rfl
  next a _ =>
    extract_lets +onlyGivenNames mid mine theirs
    refine ite_pending ?_ (ite_pending rfl ?_)
    · refine ite_pending ?_ rfl
      split
      next w t ht => rw [State.sparRequest_pending, pending_of_eq ht, State.buoyTake_pending]
    · extract_lets +onlyGivenNames t u
      have ht : t.pending = s.pending := by
        unfold t
        split
        next q _ =>
          refine ite_pending rfl ?_
          split
          next w hw => rw [State.setSchan_pending, pending_of_eq hw, State.sparSend_pending]
        next => rfl
      have hu : u.pending = s.pending := by
        unfold u
        refine ite_pending ht ?_
        split
        next ok w hw =>
          have hwp : w.pending = s.pending := by rw [pending_of_eq hw, State.sparSend_pending, ht]
          exact ite_pending ((State.setChan_pending ..).trans hwp) hwp
      refine ite_pending ?_ hu
      rw [State.sparMail_pending, State.setSchan_pending, hu]

@[simp] theorem State.sparAfter_pending (s : State) (c : ChanId) : (s.sparAfter c).pending = s.pending := by
  simp only [State.sparAfter]
  split <;> simp

@[simp] theorem State.mailSend_pending (s : State) (c : ChanId) (fromA : Bool) (w : Nat) : (s.mailSend c fromA w).pending = s.pending :=
  (State.sparAfter_pending ..).trans (State.buoySend_pending ..)

@[simp] theorem State.mailRing_pending (s : State) (c : ChanId) (toA : Bool) (bits : Nat) : (s.mailRing c toA bits).pending = s.pending :=
  (State.sparAfter_pending ..).trans (State.buoyRing_pending ..)

@[simp] theorem State.mailTake_pending (s : State) (c : ChanId) (a taken : Bool) : (s.mailTake c a taken).2.pending = s.pending := by
  simp [State.mailTake]

@[simp] theorem State.mailWithdraw_pending (s : State) (c : ChanId) (fromA : Bool) : (s.mailWithdraw c fromA).pending = s.pending := by
  simp only [State.mailWithdraw]
  split <;> simp

@[simp] theorem State.mailForceClear_pending (s : State) (c : ChanId) : (s.mailForceClear c).pending = s.pending := by
  simp only [State.mailForceClear]
  split <;> simp

@[simp] theorem State.takeMail_pending (s : State) (p : SparPkt) : (s.takeMail p).pending = s.pending := by
  unfold State.takeMail
  extract_lets +onlyGivenNames c kind v ok x
  have hr : ∀ q, (((s.bump R.SPR_MBX_REJECTED).sparSend q).2).pending = s.pending := fun q =>
    (State.sparSend_pending ..).trans (State.pending_bump ..)
  clear_value kind v
  split
  next => exact ite_pending (hr _) rfl
  next a _ =>
    split
    · refine ite_pending rfl (ite_pending (hr _) ?_)
      exact (State.buoyDeliver_pending ..).trans (State.setSchan_pending ..)
    · exact State.buoyRing_pending ..
    · refine ite_pending ?_ rfl
      split
      next w t ht =>
        rw [State.sparKick_pending, State.setSchan_pending, pending_of_eq ht, State.buoyTake_pending]
    · exact ite_pending (State.setSchan_pending ..) rfl
    · rfl

@[simp] theorem State.sparReply_pending (s : State) (p : SparPkt) (w status kind : Nat) (data : List Byte) :
    (s.sparReply p w status kind data).pending = s.pending := by simp [State.sparReply]

@[simp] theorem State.runRequest_pending (s : State) (p : SparPkt) (g : SparGrant) : (s.runRequest p g).pending = s.pending := by
  simp only [State.runRequest]
  repeat' split
  all_goals simp

@[simp] theorem State.takeRequest_pending (s : State) (p : SparPkt) : (s.takeRequest p).pending = s.pending := by
  simp only [State.takeRequest]
  split <;> simp

@[simp] theorem State.takeResponse_pending (s : State) (p : SparPkt) : (s.takeResponse p).pending = s.pending := by
  simp only [State.takeResponse]
  repeat' split
  all_goals simp

@[simp] theorem State.sparServe_pending (s : State) : s.sparServe.pending = s.pending := by
  simp only [State.sparServe, State.settleGrants_pending]
  refine foldl_pending (fun s h => ?_) _ _
  cases h
  all_goals simp only
  all_goals repeat' split
  all_goals simp

@[simp] theorem State.takeFrame_pending (s : State) (port : Nat) (p : SparPkt) : (s.takeFrame port p).pending = s.pending := by
  simp only [State.takeFrame]
  split <;> simp

@[simp] theorem State.takeTime_pending (s : State) (port : Nat) (p : SparPkt) : (s.takeTime port p).pending = s.pending := by
  simp [State.takeTime]

@[simp] theorem State.sparTake_pending (s : State) (port : Nat) (p : SparPkt) : (s.sparTake port p).pending = s.pending := by
  simp only [State.sparTake]
  repeat' split
  all_goals simp

@[simp] theorem State.sparPath_pending (s : State) (port : Nat) (h : SparPkt) : (s.sparPath port h).2.pending = s.pending := by
  simp only [State.sparPath]
  repeat' split
  all_goals simp

@[simp] theorem State.flitBody_pending (s : State) (port : Nat) (f : SparFlit) : (s.flitBody port f).pending = s.pending := by
  unfold State.flitBody
  extract_lets +onlyGivenNames here
  clear_value here
  split
  next path sofar t ht =>
    have htp : t.pending = s.pending := by
      rw [pending_of_eq_triple ht]
      split
      · split
        next h => exact (pending_of_eq h).trans (State.sparPath_pending ..)
      · cases here
        · rfl
        · rfl
    clear ht
    extract_lets +onlyGivenNames v whole u
    have hu : u.pending = s.pending := (State.setSport_pending ..).trans htp
    clear_value u
    split
    · exact (State.sparAck_pending ..).trans hu
    · extract_lets +onlyGivenNames w
      have hw : w.pending = s.pending := (State.sparAck_pending ..).trans hu
      exact ite_pending ((State.sparTake_pending ..).trans hw) hw
    · extract_lets +onlyGivenNames payload g
      exact (State.sparQueue_pending ..).trans ((State.sparAck_pending ..).trans hu)

@[simp] theorem State.sparReplay_pending (s : State) (p : Nat) : (s.sparReplay p).pending = s.pending := by simp [State.sparReplay]

@[simp] theorem State.sparNak_pending (s : State) (p : Nat) : (s.sparNak p).pending = s.pending := by simp [State.sparNak]

@[simp] theorem State.flitIn_pending (s : State) (p : Nat) (ws : List Word) : (s.flitIn p ws).pending = s.pending := by
  unfold State.flitIn
  refine ite_pending rfl (ite_pending (State.sparNak_pending ..) ?_)
  extract_lets +onlyGivenNames w0 vc first last t v back u w x y
  have hu : u.pending = s.pending := (State.setSport_pending ..).trans (State.sparAcked_pending ..)
  have hw : w.pending = s.pending := ite_pending ((State.sparReplay_pending ..).trans hu) hu
  have hx : x.pending = s.pending := (State.sparPump_pending ..).trans hw
  clear_value x
  refine ite_pending hx (ite_pending hx (ite_pending ((State.sparNak_pending ..).trans hx) ?_))
  extract_lets +onlyGivenNames z
  exact (State.flitBody_pending ..).trans ((State.setSport_pending ..).trans hx)

@[simp] theorem State.sparLink_pending (s : State) (p : Nat) (up : Bool) : (s.sparLink p up).pending = s.pending := by simp [State.sparLink]

@[simp] theorem State.sparRelane_pending (s : State) (p : Nat) : (s.sparRelane p).pending = s.pending := by simp [State.sparRelane]

/-! ## Meanings of the event controller, host vectors and Buoy mailboxes -/

@[simp] theorem execEventSourceEdge_leaves (source : BitVec 9) (s : State) :
    LeavesQueue s (execEventSourceEdge source s) := by simp [execEventSourceEdge]

@[simp] theorem execEvcSrcForce_leaves (mid : BitVec 13) (source : BitVec 9) (s : State) :
    LeavesQueue s (execEvcSrcForce mid source s) := by simp [execEvcSrcForce]

@[simp] theorem State.srcEnable_pending (s : State) (n : Nat) (on : Bool) : (s.srcEnable n on).pending = s.pending := by
  simp only [State.srcEnable]
  repeat' split
  all_goals simp

@[simp] theorem execEvcSrcEnable_leaves (mid : BitVec 13) (source : BitVec 9) (on : Bool) (s : State) :
    LeavesQueue s (execEvcSrcEnable mid source on s) := by simp [execEvcSrcEnable]

@[simp] theorem State.clearPending_pending (s : State) (k bits : Nat) : (s.clearPending k bits).pending = s.pending := by
  simp [State.clearPending]

@[simp] theorem execEvcPendingClear_leaves (mid : BitVec 13) (k : Fin 16) (bits : Word) (s : State) :
    LeavesQueue s (execEvcPendingClear mid k bits s) := by simp [execEvcPendingClear]

@[simp] theorem State.claim_pending (s : State) (t : Nat) : (s.claim t).2.pending = s.pending := by
  simp only [State.claim]
  split <;> simp

@[simp] theorem State.claimRead_pending (s : State) (mid t : Nat) : (s.claimRead mid t).2.pending = s.pending := by simp [State.claimRead]

@[simp] theorem execEvcClaimRead_leaves (mid : BitVec 13) (t : Fin 32) (s : State) :
    LeavesQueue s (execEvcClaimRead mid t s) := by simp [execEvcClaimRead]

@[simp] theorem execTargetIdle_leaves (t : Fin 4) (idle : Bool) (s : State) :
    LeavesQueue s (execTargetIdle t idle s) := by simp [execTargetIdle]

@[simp] theorem execModerationHoldExpiry_leaves (t : Fin 32) (s : State) :
    LeavesQueue s (execModerationHoldExpiry t s) := by simp [execModerationHoldExpiry]

@[simp] theorem execVectorModerationExpiry_leaves (iid : Fin 2048) (v : BitVec 11) (s : State) :
    LeavesQueue s (execVectorModerationExpiry iid v s) := by simp [execVectorModerationExpiry]

@[simp] theorem State.hint_pending (s : State) (i v : Nat) (idle : Bool) : (s.hint i v idle).pending = s.pending := by simp [State.hint]

@[simp] theorem execIdleHintWrite_leaves (iid : Fin 2048) (v : BitVec 11) (idle : Bool) (s : State) :
    LeavesQueue s (execIdleHintWrite iid v idle s) := by simp [execIdleHintWrite]

@[simp] theorem State.msixUnmask_pending (s : State) (i v : Nat) : (s.msixUnmask i v).pending = s.pending := by simp [State.msixUnmask]

@[simp] theorem execMsixUnmask_leaves (iid : Fin 2048) (v : BitVec 11) (s : State) :
    LeavesQueue s (execMsixUnmask iid v s) := by simp [execMsixUnmask]

@[simp] theorem State.atChan_pending {s : State} {body : Bool → State → State} (mid : Nat) (c : ChanId)
    (h : ∀ a, (body a s).pending = s.pending) : (s.atChan mid c body).pending = s.pending := by
  unfold State.atChan
  split
  · rfl
  · split <;> simp [h]

@[simp] theorem execBuoySend_leaves (mid : BitVec 13) (internal : Bool) (n : BitVec 11) (word : Dword) (s : State) :
    LeavesQueue s (execBuoySend mid internal n word s) := by simp [execBuoySend]

@[simp] theorem State.buoyRecv_pending (s : State) (mid : Nat) (c : ChanId) (a low : Bool) :
    (s.buoyRecv mid c a low).2.pending = s.pending := by
  simp only [State.buoyRecv]
  split <;> simp

@[simp] theorem State.buoyRead_pending (s : State) (mid : Nat) (c : ChanId) (a low : Bool) :
    (s.buoyRead mid c a low).pending = s.pending := by
  simp [State.buoyRead]

@[simp] theorem execBuoyRecvRead_leaves (mid : BitVec 13) (internal : Bool) (n : BitVec 11) (low : Bool) (s : State) :
    LeavesQueue s (execBuoyRecvRead mid internal n low s) := by simp [execBuoyRecvRead]

@[simp] theorem execBuoyWithdraw_leaves (mid : BitVec 13) (internal : Bool) (n : BitVec 11) (s : State) :
    LeavesQueue s (execBuoyWithdraw mid internal n s) := by simp [execBuoyWithdraw]

@[simp] theorem execBuoyDbSend_leaves (mid : BitVec 13) (internal : Bool) (n : BitVec 11) (bits : Word) (s : State) :
    LeavesQueue s (execBuoyDbSend mid internal n bits s) := by simp [execBuoyDbSend]

@[simp] theorem State.buoyDbClear_pending (s : State) (c : ChanId) (a : Bool) (bits : Nat) :
    (s.buoyDbClear c a bits).pending = s.pending := by
  simp [State.buoyDbClear]

@[simp] theorem execBuoyDbRecvClear_leaves (mid : BitVec 13) (internal : Bool) (n : BitVec 11) (bits : Word) (s : State) :
    LeavesQueue s (execBuoyDbRecvClear mid internal n bits s) := by simp [execBuoyDbRecvClear]

@[simp] theorem State.buoyVector_pending (s : State) (i vector : Nat) (on : Bool) : (s.buoyVector i vector on).pending = s.pending := by
  simp [State.buoyVector]

@[simp] theorem execBuoyVectorEnable_leaves (iid : Fin 2048) (vector : BitVec 16) (on : Bool) (s : State) :
    LeavesQueue s (execBuoyVectorEnable iid vector on s) := by simp [execBuoyVectorEnable]

@[simp] theorem execBuoyForceClear_leaves (mid : BitVec 13) (internal : Bool) (n : BitVec 11) (s : State) :
    LeavesQueue s (execBuoyForceClear mid internal n s) := by simp [execBuoyForceClear]

/-! ## DMA channels and Buoy channels as a master inside the device reaches them -/

@[simp] theorem State.plainWrite_pending (s : State) (a v : Nat) (locked : Bool) : (s.plainWrite a v locked).pending = s.pending := by
  simp only [State.plainWrite]
  split <;> simp

@[simp] theorem State.dmaRegWrite_pending (s : State) (n off v : Nat) : (s.dmaRegWrite n off v).pending = s.pending := by
  simp [State.dmaRegWrite]

@[simp] theorem State.chanRead_pending (s : State) (c : ChanId) (a : Bool) (off : Nat) : (s.chanRead c a off).2.pending = s.pending := by
  simp only [State.chanRead]
  split <;> simp

@[simp] theorem State.chanWrite_pending (s : State) (c : ChanId) (a : Bool) (off v : Nat) : (s.chanWrite c a off v).pending = s.pending
    := by
  simp only [State.chanWrite]
  split <;> simp

/-! ## Verification of signed images -/

@[simp] theorem withImage_pending {s : State} {body : Unit → Res} (f : Option (Nat × Nat × List Word))
    (h : (body ()).state.pending = s.pending) : (withImage s f body).state.pending = s.pending := by
  unfold withImage
  split
  · rfl
  · exact h

/-! ## Operations of the Clove packet engines -/

@[simp] theorem State.sliceWrite_pending (s : State) (k n a : Nat) (bs : List Byte) : (s.sliceWrite k n a bs).pending = s.pending := (rfl)

@[simp] theorem State.zeroSlice_pending (s : State) (k n : Nat) : (s.zeroSlice k n).pending = s.pending := (rfl)

@[simp] theorem State.setDesc_pending (s : State) (k n i v : Nat) : (s.setDesc k n i v).pending = s.pending := (rfl)

@[simp] theorem State.traceExcess_pending (s : State) (owner : Nat) : (s.traceExcess owner).2.pending = s.pending := by
  simp [State.traceExcess]

@[simp] theorem State.clvTrace_pending (s : State) (k n pc : Nat) (dispatch : Bool) : (s.clvTrace k n pc dispatch).pending = s.pending := by
  simp [State.clvTrace]

@[simp] theorem State.clvNotify_pending (s : State) (k n cause detail addr : Nat) :
    (s.clvNotify k n cause detail addr).pending = s.pending := by simp [State.clvNotify]

@[simp] theorem State.clvStop_pending (s : State) (k n cause detail addr : Nat) : (s.clvStop k n cause detail addr).pending = s.pending
    := by
  simp [State.clvStop]

@[simp] theorem State.clvFault_pending (s : State) (k n code kind addr : Nat) : (s.clvFault k n code kind addr).pending = s.pending :=
  (State.clvStop_pending ..).trans (State.pending_bump ..)

@[simp] theorem State.setMsg_pending (s : State) (k m : Nat) (v : MsgReg) : (s.setMsg k m v).pending = s.pending := (rfl)

@[simp] theorem State.releaseMsg_pending (s : State) (k m : Nat) (poison : Bool) : (s.releaseMsg k m poison).pending = s.pending := by
  simp [State.releaseMsg]

@[simp] theorem State.forceRelease_pending (s : State) (k m : Nat) : (s.forceRelease k m).2.pending = s.pending := by
  simp [State.forceRelease]

@[simp] theorem State.releaseLocks_pending (s : State) (k n : Nat) : (s.releaseLocks k n).pending = s.pending := by
  simp [State.releaseLocks]

@[simp] theorem State.cloveOut_pending (s : State) (p : Pkt) (w : Nat) : (s.cloveOut p w).pending = s.pending := by simp [State.cloveOut]

@[simp] theorem State.dropSlot_pending (s : State) (k : Nat) : (s.dropSlot k).pending = s.pending := (rfl)

@[simp] theorem State.orderOut_pending (s : State) (mask hash fuel : Nat) : (s.orderOut mask hash fuel).pending = s.pending := by
  induction fuel generalizing s with
  | zero => rfl
  | succ fuel ih =>
    simp only [State.orderOut]
    repeat' split
    all_goals simp [ih]

@[simp] theorem State.resolveSlot_pending (s : State) (o : Option Nat) : (s.resolveSlot o).pending = s.pending := by
  simp only [State.resolveSlot]
  split <;> simp

@[simp] theorem State.cloveEmit_pending (s : State) (p : Pkt) (w : Nat) : (s.cloveEmit p w).pending = s.pending := by
  simp only [State.cloveEmit]
  repeat' split
  all_goals simp

@[simp] theorem State.cloveDrop_pending (s : State) (k n counter : Nat) : (s.cloveDrop k n counter).pending = s.pending := by
  simp only [State.cloveDrop]
  split <;> simp

@[simp] theorem State.giveUpBufs_pending (s : State) (k n : Nat) : (s.giveUpBufs k n).pending = s.pending := by
  simp only [State.giveUpBufs]
  refine foldl_pending (fun s e => ?_) _ _
  repeat' split
  all_goals simp

@[simp] theorem State.freeThread_pending (s : State) (k n : Nat) : (s.freeThread k n).pending = s.pending := (rfl)

@[simp] theorem State.restartThread_pending (s : State) (k n : Nat) : (s.restartThread k n).pending = s.pending :=
  (State.freeThread_pending ..).trans ((State.releaseLocks_pending ..).trans ((State.giveUpBufs_pending ..).trans
    (State.cloveDrop_pending ..)))

@[simp] theorem State.startSup_pending (s : State) (k bank : Nat) : (s.startSup k bank).pending = s.pending := by simp [State.startSup]

@[simp] theorem State.restartSup_pending (s : State) (k : Nat) : (s.restartSup k).pending = s.pending := by simp [State.restartSup]

@[simp] theorem State.settleWaits_pending (s : State) (k : Nat) : (s.settleWaits k).pending = s.pending := by simp [State.settleWaits]

@[simp] theorem State.dropClvClaim_pending (s : State) (k feature : Nat) : (s.dropClvClaim k feature).pending = s.pending := by
  simp only [State.dropClvClaim]
  split <;> simp

@[simp] theorem State.settleUnload_pending (s : State) (k : Nat) : (s.settleUnload k).pending = s.pending := by
  simp only [State.settleUnload]
  repeat' split
  all_goals simp

@[simp] theorem State.clvSettle_pending (s : State) (k : Nat) : (s.clvSettle k).pending = s.pending :=
  (State.settleUnload_pending ..).trans (State.settleWaits_pending ..)

@[simp] theorem State.takeSlot_pending (s : State) (f : CloveFrame) : (s.takeSlot f).2.pending = s.pending := by simp [State.takeSlot]

@[simp] theorem State.toCluster_pending (s : State) (k ptr : Nat) : (s.toCluster k ptr).2.pending = s.pending := by
  simp only [State.toCluster]
  repeat' split
  all_goals simp

@[simp] theorem State.cloveDispatch_pending (s : State) (k : Nat) : (s.cloveDispatch k).pending = s.pending := by
  simp only [State.cloveDispatch]
  split <;> simp

@[simp] theorem State.reoffer_pending (s : State) (k : Nat) (fs : List CloveFrame) : (s.reoffer k fs).pending = s.pending := by
  simp only [State.reoffer]
  refine foldl_pending (fun s e => ?_) _ _
  repeat' split
  all_goals simp

@[simp] theorem State.dropOwn_pending (s : State) (k n : Nat) : (s.dropOwn k n).pending = s.pending := by
  simp only [State.dropOwn]
  split <;> simp

@[simp] theorem State.retireCore_pending (s : State) (k core : Nat) : (s.retireCore k core).pending = s.pending := by
  simp [State.retireCore]

/-! ## What a read of the LPDDR5X does when its check code fails -/

@[simp] theorem State.loseClove_pending (s : State) (hit : Pkt → Bool) : (s.loseClove hit).pending = s.pending := by
  simp only [State.loseClove]
  refine (foldl_pending (fun s e => ?_) _ _).trans (foldl_pending (fun s e => ?_) _ _)
  · split
    · simp
    · rfl
  · refine (foldl_pending (fun s t => ?_) _ _).trans (by simp)
    split <;> simp

@[simp] theorem State.loseRoutine_pending (s : State) (hit : Pkt → Bool) : (s.loseRoutine hit).pending = s.pending := by
  simp [State.loseRoutine]

@[simp] theorem State.loseHandOff_pending (s : State) (hit : Pkt → Bool) : (s.loseHandOff hit).pending = s.pending := by
  simp only [State.loseHandOff]
  refine (foldl_pending (fun s e => ?_) _ _).trans ?_
  · simp
  · refine foldl_pending (fun s w => ?_) _ _
    split <;> simp

@[simp] theorem State.loseBuffer_pending (s : State) (ptr : Nat) : (s.loseBuffer ptr).pending = s.pending := by
  unfold State.loseBuffer
  extract_lets +onlyGivenNames hit lv t pk pgr u v hd pipe w x qs y z
  have ht : t.pending = s.pending := foldl_pending (fun s e => by
    extract_lets +onlyGivenNames gone r
    exact (foldl_pending (fun s f => State.dropPkt_pending ..) _ _).trans (State.setNode_pending ..)) _ _
  have hv : v.pending = s.pending := (foldl_pending (fun s x => State.dropPkt_pending ..) _ _).trans ht
  have hx : x.pending = s.pending := (foldl_pending (fun s x => State.dropPkt_pending ..) _ _).trans hv
  have hy : y.pending = s.pending := (foldl_pending (fun s e => by
    extract_lets +onlyGivenNames r
    exact (foldl_pending (fun s f => State.endHold_pending ..) _ _).trans (State.setQ_pending ..)) _ _).trans hx
  have hz : z.pending = s.pending := by
    rw [State.loseHandOff_pending, State.loseRoutine_pending, State.loseClove_pending, hy]
  split
  · exact (State.putBuf_pending ..).trans hz
  · exact hz

@[simp] theorem State.rebuildTable_pending (s : State) (u : Nat) : (s.rebuildTable u).pending = s.pending := by simp [State.rebuildTable]

@[simp] theorem State.lostLine_pending (s : State) (a : Nat) : (s.lostLine a).pending = s.pending := by
  simp only [State.lostLine]
  repeat' split
  all_goals simp

@[simp] theorem State.eccRead_pending (s : State) (a : Nat) (r : EccResult) : (s.eccRead a r).pending = s.pending := by
  simp only [State.eccRead]
  split <;> simp

@[simp] theorem State.peerRead_pending (s : State) (a n : Nat) (ecc : EccResult) : (s.peerRead a n ecc).pending = s.pending := by
  simp [State.peerRead]

@[simp] theorem State.startMove_pending (s : State) : s.startMove.pending = s.pending := by
  simp only [State.startMove]
  repeat' split
  all_goals simp

theorem State.reserveMoves_pending {pick : State → Option Home × State} (h : ∀ s a t, pick s = (a, t) → t.pending = s.pending)
    (s : State) (keys : List Nat) : (s.reserveMoves pick keys).2.pending = s.pending := by
  unfold State.reserveMoves
  refine foldl_snd_pending (fun x k => ?_) _ _
  split
  extract_lets p
  split
  · rfl
  · split
    next h' t ht =>
      split
      · exact h _ _ _ ht
      · simp [h _ _ _ ht]

@[simp] theorem State.reserveMoves_takeHome_pending (s : State) (keys : List Nat) :
    (s.reserveMoves State.takeHome keys).2.pending = s.pending :=
  State.reserveMoves_pending (fun s a t h => by rw [pending_of_eq h, State.takeHome_pending]) s keys

@[simp] theorem State.cancelMoves_pending (s : State) (keys : List Nat) : (s.cancelMoves keys).pending = s.pending := by
  simp [State.cancelMoves]

@[simp] theorem State.dropDonation_pending (s : State) (d : Nat) : (s.dropDonation d).pending = s.pending := (rfl)

@[simp] theorem State.revokeDone_pending (s : State) (d : Nat) : (s.revokeDone d).pending = s.pending := by
  simp only [State.revokeDone]
  repeat' split
  all_goals simp

@[simp] theorem State.grantDone_pending (s : State) (g : Nat) : (s.grantDone g).pending = s.pending := by
  simp only [State.grantDone]
  repeat' split
  all_goals simp

@[simp] theorem State.settleMoves_pending (s : State) : s.settleMoves.pending = s.pending := by simp [State.settleMoves]

@[simp] theorem State.askDiscard_pending (s : State) (k : Nat) : (s.askDiscard k).pending = s.pending := (rfl)

@[simp] theorem State.settleDiscards_pending (s : State) : s.settleDiscards.pending = s.pending := by simp [State.settleDiscards]

@[simp] theorem State.landMove_pending (s : State) (key : Nat) : (s.landMove key).pending = s.pending := by
  unfold State.landMove
  extract_lets +onlyGivenNames p
  split
  next => exact State.setPage_pending ..
  next h _ =>
    extract_lets +onlyGivenNames t mem u v pgr w x
    have ht : t.pending = s.pending := State.writeHome_pending ..
    have hu : u.pending = s.pending := by
      unfold u
      split
      · exact ht
      · exact ht
    have hv : v.pending = s.pending := (State.pending_bump ..).trans ((State.setPage_pending ..).trans hu)
    have hw : w.pending = s.pending := hv
    have hx : x.pending = s.pending := by
      refine ite_pending ?_ (ite_pending ((State.startFill_pending ..).trans hw) hw)
      exact (State.releasePage_pending ..).trans ((State.fillPage_pending ..).trans hw)
    exact (State.settleMoves_pending ..).trans hx

@[simp] theorem State.withdrawDonations_pending (s : State) : s.withdrawDonations.pending = s.pending := by
  rw [State.withdrawDonations, State.startMove_pending, State.cancelMoves_pending]
  refine foldl_pending (fun s k => ?_) _ _
  extract_lets p
  split
  · split
    next h t ht =>
      have e := pending_of_eq ht
      rw [State.takeLpd_pending] at e
      split <;> simp [e]
  · rw [State.pending_bump, State.poisonPage_pending]

/-! ## Operations of the ring engines on fetched entries -/

@[simp] theorem State.endEntry_pending (s : State) (q units : Nat) (words : List Word) (status reason : Nat) :
    (s.endEntry q units words status reason).pending = s.pending := by simp [State.endEntry]

@[simp] theorem State.readEntry_pending {s : State} {body : Nat → State} (q type : Nat) (words : List Word) (mine : Nat → Bool)
    (need : Nat) (h : ∀ n, (body n).pending = s.pending) : (s.readEntry q type words mine need body).pending = s.pending := by
  simp [State.readEntry, h]

@[simp] theorem State.hostTapFrame_pending (s : State) (r q : Nat) (p : Pkt) (x : TxRef) : (s.hostTapFrame r q p x).pending = s.pending
    := by
  simp [State.hostTapFrame]

@[simp] theorem State.unbindQueue_pending (s : State) (q : Nat) : (s.unbindQueue q).pending = s.pending := by simp [State.unbindQueue]

@[simp] theorem State.freeQueue_pending (s : State) (q : Nat) (bump : Bool) : (s.freeQueue q bump).pending = s.pending := by
  simp [State.freeQueue]

@[simp] theorem State.abortEntries_pending (s : State) (q : Nat) : (s.abortEntries q).pending = s.pending := by simp [State.abortEntries]

@[simp] theorem State.abortBuffers_pending (s : State) (q : Nat) : (s.abortBuffers q).pending = s.pending := by simp [State.abortBuffers]

@[simp] theorem State.resumeServing_pending (s : State) (i : Nat) : (s.resumeServing i).pending = s.pending := by simp [State.resumeServing]

@[simp] theorem wrongStateAnswer_pending (s : State) (i : Nat) : (wrongStateAnswer s i).state.pending = s.pending := (rfl)

/-! ## How a Clove thread executes one instruction -/

@[simp] theorem State.clvEnd_pending (s : State) (k n len : Nat) (e : ClvEnd) : (s.clvEnd k n len e).pending = e.state.pending
    := by cases e <;> simp [State.clvEnd]

@[simp] theorem State.clvRun_pending {s : State} {body : State → Nat → ClvEnd} (k n : Nat) (op : ClvOp)
    (h : ∀ w, (body s w).state.pending = s.pending) : (s.clvRun k n op body).pending = s.pending := by
  unfold State.clvRun
  split
  · rfl
  · split <;> simp [h]

@[simp] theorem State.setFrame_pending (s : State) (k n : Nat) (p : Pkt) : (s.setFrame k n p).pending = s.pending := by
  simp [State.setFrame]

@[simp] theorem State.setLength_pending (s : State) (k n len : Nat) : (s.setLength k n len).pending = s.pending := (rfl)

@[simp] theorem State.clvLoad_pending (s : State) (k n a size : Nat) : (s.clvLoad k n a size).2.pending = s.pending := by
  obtain ⟨read, hr⟩ : ∃ f, State.chanRead = f := ⟨_, rfl⟩
  have read_pending : ∀ s c a off, (read s c a off).2.pending = s.pending := hr ▸ State.chanRead_pending
  unfold State.clvLoad
  rw [hr]
  extract_lets c mid code ch
  split
  · rfl
  · split
    · split <;> rfl
    · split
      · split <;> rfl
      · split
        · split <;> rfl
        · split
          · rfl
          · split
            · split
              · split
                next h => exact (pending_of_eq h).trans (State.claim_pending ..)
              · rfl
            · split
              · split <;> rfl
              · split
                · split
                  · split
                    next h => exact (pending_of_eq h).trans (read_pending ..)
                  · rfl
                · rfl

@[simp] theorem State.clvStore_pending (s : State) (k n a size v : Nat) : (s.clvStore k n a size v).2.pending = s.pending := by
  unfold State.clvStore
  extract_lets +onlyGivenNames c mid
  refine snd_pending_of_ite rfl (snd_pending_of_ite ?_ (snd_pending_of_ite ?_ (snd_pending_of_ite rfl (snd_pending_of_ite ?_
    (snd_pending_of_ite ?_ (snd_pending_of_ite ?_ rfl))))))
  · exact snd_pending_of_ite (State.sliceWrite_pending ..) rfl
  · extract_lets +onlyGivenNames off
    split
    · exact snd_pending_of_ite (State.setFrame_pending ..) rfl
    · rfl
  · exact snd_pending_of_ite (State.pending_setCl ..) rfl
  · exact snd_pending_of_ite (State.dmaRegWrite_pending ..) rfl
  · split
    · exact State.chanWrite_pending ..
    · rfl

theorem State.csrWrite_pending {s t : State} {k n a v : Nat} (h : s.csrWrite k n a v = some t) : t.pending = s.pending := by
  revert h
  unfold State.csrWrite
  split <;> rintro ⟨⟩ <;> exact State.setTh_pending ..

@[simp] theorem State.csrOp_pending (s : State) (k n w : Nat) : (s.csrOp k n w).state.pending = s.pending := by
  unfold State.csrOp
  extract_lets +onlyGivenNames f3 r1 src a
  split
  · rfl
  · split
    · rfl
    · extract_lets +onlyGivenNames new
      clear_value new
      split
      next h => exact State.csrWrite_pending h
      next => rfl

@[simp] theorem State.loadOp_pending (s : State) (k n w : Nat) : (s.loadOp k n w).state.pending = s.pending := by
  simp only [State.loadOp]
  repeat' split
  all_goals simp

@[simp] theorem State.storeOp_pending (s : State) (k n w : Nat) : (s.storeOp k n w).state.pending = s.pending := by
  simp only [State.storeOp]
  repeat' split
  all_goals simp

@[simp] theorem State.baseOp_pending (s : State) (k n len w : Nat) : (s.baseOp k n len w).state.pending = s.pending := by
  simp only [State.baseOp]
  repeat' split
  all_goals simp

/-! ## Meanings of the Clove packet engines -/

@[simp] theorem execCloveDispatch_leaves (cluster : Fin 16) (s : State) :
    LeavesQueue s (execCloveDispatch cluster s) :=
  (State.clvSettle_pending ..).trans (State.cloveDispatch_pending ..)

@[simp] theorem execOrderedSlotTimeout_leaves (slot : Nat) (s : State) :
    LeavesQueue s (execOrderedSlotTimeout slot s) := by
  simp only [execOrderedSlotTimeout]
  split <;> simp

@[simp] theorem pktLwbe_pending (k n : Nat) (s : State) (w : Nat) : (pktLwbe k n s w).state.pending = s.pending := by
  simp only [pktLwbe]
  split <;> simp

@[simp] theorem execPktLwbe_leaves (cluster : Fin 16) (thread : BitVec 7) (s : State) :
    LeavesQueue s (execPktLwbe cluster thread s) :=
  State.clvRun_pending _ _ _ (pktLwbe_pending _ _ s)

@[simp] theorem pktHead_pending (k n : Nat) (s : State) (w : Nat) : (pktHead k n s w).state.pending = s.pending := by
  unfold pktHead
  extract_lets +onlyGivenNames v d
  split
  next => rfl
  next p _ =>
    refine ClvEnd.ite_pending ?_ ?_
    · extract_lets +onlyGivenNames cut
      refine ClvEnd.ite_pending rfl ?_
      exact (State.setLength_pending ..).trans (State.setFrame_pending ..)
    · extract_lets +onlyGivenNames d'
      refine ClvEnd.ite_pending rfl (ClvEnd.ite_pending rfl ?_)
      split
      next h t ht =>
        have htp : t.pending = s.pending := by rw [pending_of_eq ht, snd_pending_ite, State.allocBuf_pending, ite_self]
        split
        next => exact htp
        next => exact (State.setLength_pending ..).trans ((State.setFrame_pending ..).trans htp)

@[simp] theorem execPktHead_leaves (cluster : Fin 16) (thread : BitVec 7) (s : State) :
    LeavesQueue s (execPktHead cluster thread s) :=
  State.clvRun_pending _ _ _ (pktHead_pending _ _ s)

@[simp] theorem pktLen_pending (k n : Nat) (s : State) (w : Nat) : (pktLen k n s w).state.pending = s.pending := by
  simp only [pktLen]
  split <;> simp

@[simp] theorem execPktLen_leaves (cluster : Fin 16) (thread : BitVec 7) (s : State) :
    LeavesQueue s (execPktLen cluster thread s) :=
  State.clvRun_pending _ _ _ (pktLen_pending _ _ s)

@[simp] theorem pktEmit_pending (k n : Nat) (s : State) (w : Nat) : (pktEmit k n s w).state.pending = s.pending := by
  unfold pktEmit
  extract_lets +onlyGivenNames v t
  split
  next => rfl
  next p _ =>
    extract_lets +onlyGivenNames w8 len ptr data
    refine ClvEnd.ite_pending rfl (ClvEnd.ite_pending rfl (ClvEnd.ite_pending rfl ?_))
    exact (State.cloveEmit_pending ..).trans (State.pending_setTh ..)

@[simp] theorem execPktEmit_leaves (cluster : Fin 16) (thread : BitVec 7) (s : State) :
    LeavesQueue s (execPktEmit cluster thread s) :=
  State.clvRun_pending _ _ _ (pktEmit_pending _ _ s)

@[simp] theorem pktDrop_pending (k n : Nat) (s : State) (fuel : Nat) : (pktDrop k n s fuel).state.pending = s.pending := by simp [pktDrop]

@[simp] theorem execPktDrop_leaves (cluster : Fin 16) (thread : BitVec 7) (s : State) :
    LeavesQueue s (execPktDrop cluster thread s) :=
  State.clvRun_pending _ _ _ (pktDrop_pending _ _ s)

@[simp] theorem pktNew_pending (k n : Nat) (s : State) (w : Nat) : (pktNew k n s w).state.pending = s.pending := by simp [pktNew]

@[simp] theorem execPktNew_leaves (cluster : Fin 16) (thread : BitVec 7) (s : State) :
    LeavesQueue s (execPktNew cluster thread s) :=
  State.clvRun_pending _ _ _ (pktNew_pending _ _ s)

@[simp] theorem tblEm_pending (k n : Nat) (s : State) (w : Nat) : (tblEm k n s w).state.pending = s.pending := by
  simp only [tblEm]
  repeat' split
  all_goals simp

@[simp] theorem execTblEm_leaves (cluster : Fin 16) (thread : BitVec 7) (s : State) :
    LeavesQueue s (execTblEm cluster thread s) :=
  State.clvRun_pending _ _ _ (tblEm_pending _ _ s)

@[simp] theorem tblLpm_pending (k n : Nat) (s : State) (w : Nat) : (tblLpm k n s w).state.pending = s.pending := by simp [tblLpm]

@[simp] theorem execTblLpm_leaves (cluster : Fin 16) (thread : BitVec 7) (s : State) :
    LeavesQueue s (execTblLpm cluster thread s) :=
  State.clvRun_pending _ _ _ (tblLpm_pending _ _ s)

@[simp] theorem pgrPage_pending (k n : Nat) (s : State) (w : Nat) : (pgrPage k n s w).state.pending = s.pending := (rfl)

@[simp] theorem execPgrPage_leaves (cluster : Fin 16) (thread : BitVec 7) (s : State) :
    LeavesQueue s (execPgrPage cluster thread s) :=
  State.clvRun_pending _ _ _ (pgrPage_pending _ _ s)

@[simp] theorem pgrWord_pending (k n : Nat) (s : State) (w rd : Nat) (f : Nat → Option Nat × Nat) :
    (pgrWord k n s w rd f).state.pending = s.pending := by
  simp only [pgrWord]
  repeat' split
  all_goals simp

@[simp] theorem pgrLw_pending (k n : Nat) (s : State) (w : Nat) : (pgrLw k n s w).state.pending = s.pending := by simp [pgrLw]

@[simp] theorem execPgrLw_leaves (cluster : Fin 16) (thread : BitVec 7) (s : State) :
    LeavesQueue s (execPgrLw cluster thread s) :=
  State.clvRun_pending _ _ _ (pgrLw_pending _ _ s)

@[simp] theorem pgrSw_pending (k n : Nat) (s : State) (w : Nat) : (pgrSw k n s w).state.pending = s.pending := by simp [pgrSw]

@[simp] theorem execPgrSw_leaves (cluster : Fin 16) (thread : BitVec 7) (s : State) :
    LeavesQueue s (execPgrSw cluster thread s) :=
  State.clvRun_pending _ _ _ (pgrSw_pending _ _ s)

@[simp] theorem pgrAmoadd_pending (k n : Nat) (s : State) (w : Nat) : (pgrAmoadd k n s w).state.pending = s.pending := by simp [pgrAmoadd]

@[simp] theorem execPgrAmoadd_leaves (cluster : Fin 16) (thread : BitVec 7) (s : State) :
    LeavesQueue s (execPgrAmoadd cluster thread s) :=
  State.clvRun_pending _ _ _ (pgrAmoadd_pending _ _ s)

@[simp] theorem pgrAmoswap_pending (k n : Nat) (s : State) (w : Nat) : (pgrAmoswap k n s w).state.pending = s.pending := by
  simp [pgrAmoswap]

@[simp] theorem execPgrAmoswap_leaves (cluster : Fin 16) (thread : BitVec 7) (s : State) :
    LeavesQueue s (execPgrAmoswap cluster thread s) :=
  State.clvRun_pending _ _ _ (pgrAmoswap_pending _ _ s)

@[simp] theorem pgrPref_pending (k n : Nat) (s : State) (w : Nat) : (pgrPref k n s w).state.pending = s.pending := by simp [pgrPref]

@[simp] theorem execPgrPref_leaves (cluster : Fin 16) (thread : BitVec 7) (s : State) :
    LeavesQueue s (execPgrPref cluster thread s) :=
  State.clvRun_pending _ _ _ (pgrPref_pending _ _ s)

@[simp] theorem msgLock_pending (k n : Nat) (s : State) (w : Nat) : (msgLock k n s w).state.pending = s.pending := by simp [msgLock]

@[simp] theorem execMsgLock_leaves (cluster : Fin 16) (thread : BitVec 7) (s : State) :
    LeavesQueue s (execMsgLock cluster thread s) :=
  State.clvRun_pending _ _ _ (msgLock_pending _ _ s)

@[simp] theorem msgUnlock_pending (k n : Nat) (s : State) (w : Nat) : (msgUnlock k n s w).state.pending = s.pending := by simp [msgUnlock]

@[simp] theorem execMsgUnlock_leaves (cluster : Fin 16) (thread : BitVec 7) (s : State) :
    LeavesQueue s (execMsgUnlock cluster thread s) :=
  State.clvRun_pending _ _ _ (msgUnlock_pending _ _ s)

@[simp] theorem msgRd_pending (k n : Nat) (s : State) (w : Nat) : (msgRd k n s w).state.pending = s.pending := by simp [msgRd]

@[simp] theorem execMsgRd_leaves (cluster : Fin 16) (thread : BitVec 7) (s : State) :
    LeavesQueue s (execMsgRd cluster thread s) :=
  State.clvRun_pending _ _ _ (msgRd_pending _ _ s)

@[simp] theorem msgWr_pending (k n : Nat) (s : State) (w : Nat) : (msgWr k n s w).state.pending = s.pending := by simp [msgWr]

@[simp] theorem execMsgWr_leaves (cluster : Fin 16) (thread : BitVec 7) (s : State) :
    LeavesQueue s (execMsgWr cluster thread s) :=
  State.clvRun_pending _ _ _ (msgWr_pending _ _ s)

@[simp] theorem State.takeCompare_pending (s : State) (k n : Nat) : (s.takeCompare k n).pending = s.pending := by simp [State.takeCompare]

@[simp] theorem clvWait_pending (k n : Nat) (s : State) (w : Nat) : (clvWait k n s w).state.pending = s.pending := by simp [clvWait]

@[simp] theorem execClvWait_leaves (cluster : Fin 16) (thread : BitVec 7) (s : State) :
    LeavesQueue s (execClvWait cluster thread s) :=
  State.clvRun_pending _ _ _ (clvWait_pending _ _ s)

@[simp] theorem clvDone_pending (k n : Nat) (s : State) (fuel : Nat) : (clvDone k n s fuel).state.pending = s.pending := by simp [clvDone]

@[simp] theorem execClvDone_leaves (cluster : Fin 16) (thread : BitVec 7) (s : State) :
    LeavesQueue s (execClvDone cluster thread s) :=
  State.clvRun_pending _ _ _ (clvDone_pending _ _ s)

@[simp] theorem clvWake_pending (k n : Nat) (s : State) (w : Nat) : (clvWake k n s w).state.pending = s.pending := by simp [clvWake]

@[simp] theorem execClvWake_leaves (cluster : Fin 16) (thread : BitVec 7) (s : State) :
    LeavesQueue s (execClvWake cluster thread s) :=
  State.clvRun_pending _ _ _ (clvWake_pending _ _ s)

@[simp] theorem bufAlloc_pending (k n : Nat) (s : State) (w : Nat) : (bufAlloc k n s w).state.pending = s.pending := by
  simp only [bufAlloc]
  split <;> simp

@[simp] theorem execBufAlloc_leaves (cluster : Fin 16) (thread : BitVec 7) (s : State) :
    LeavesQueue s (execBufAlloc cluster thread s) :=
  State.clvRun_pending _ _ _ (bufAlloc_pending _ _ s)

@[simp] theorem bufEnd_pending (k n ptr : Nat) (add : Bool) (r : Bool × State) :
    (bufEnd k n ptr add r).state.pending = r.2.pending := by simp [bufEnd]

@[simp] theorem execBufShare_leaves (cluster : Fin 16) (thread : BitVec 7) (s : State) :
    LeavesQueue s (execBufShare cluster thread s) := by simp [execBufShare]

@[simp] theorem execBufRelease_leaves (cluster : Fin 16) (thread : BitVec 7) (s : State) :
    LeavesQueue s (execBufRelease cluster thread s) := by simp [execBufRelease]

@[simp] theorem execBufFree_leaves (cluster : Fin 16) (thread : BitVec 7) (s : State) :
    LeavesQueue s (execBufFree cluster thread s) := by simp [execBufFree]

@[simp] theorem execBufXfer_leaves (cluster : Fin 16) (thread : BitVec 7) (s : State) :
    LeavesQueue s (execBufXfer cluster thread s) := by simp [execBufXfer]

@[simp] theorem supOnly_state (n : Nat) (s : State) (body : Unit → ClvEnd) :
    (supOnly n s body).state = if n = 0 then (body ()).state else s := ClvEnd.state_ite ..

@[simp] theorem supNext_pending (k n : Nat) (s : State) (w : Nat) : (supNext k n s w).state.pending = s.pending := by
  simp only [supNext]
  repeat' split
  all_goals simp

@[simp] theorem execSupNext_leaves (cluster : Fin 16) (thread : BitVec 7) (s : State) :
    LeavesQueue s (execSupNext cluster thread s) :=
  State.clvRun_pending _ _ _ (supNext_pending _ _ s)

@[simp] theorem supAct_pending (k n : Nat) (s : State) (w : Nat) : (supAct k n s w).state.pending = s.pending := by simp [supAct]

@[simp] theorem execSupAct_leaves (cluster : Fin 16) (thread : BitVec 7) (s : State) :
    LeavesQueue s (execSupAct cluster thread s) :=
  State.clvRun_pending _ _ _ (supAct_pending _ _ s)

@[simp] theorem supFrel_pending (k n : Nat) (s : State) (w : Nat) : (supFrel k n s w).state.pending = s.pending := by simp [supFrel]

@[simp] theorem execSupFrel_leaves (cluster : Fin 16) (thread : BitVec 7) (s : State) :
    LeavesQueue s (execSupFrel cluster thread s) :=
  State.clvRun_pending _ _ _ (supFrel_pending _ _ s)

@[simp] theorem supState_pending (k n : Nat) (s : State) (w : Nat) : (supState k n s w).state.pending = s.pending := by simp [supState]

@[simp] theorem execSupState_leaves (cluster : Fin 16) (thread : BitVec 7) (s : State) :
    LeavesQueue s (execSupState cluster thread s) :=
  State.clvRun_pending _ _ _ (supState_pending _ _ s)

@[simp] theorem execBaseInstruction_leaves (cluster : Fin 16) (thread : BitVec 7) (s : State) :
    LeavesQueue s (execBaseInstruction cluster thread s) := by simp [execBaseInstruction]

@[simp] theorem execEcall_leaves (cluster : Fin 16) (thread : BitVec 7) (s : State) :
    LeavesQueue s (execEcall cluster thread s) := by simp [execEcall]

@[simp] theorem State.haltThread_pending (s : State) (k n : Nat) : (s.haltThread k n).pending = s.pending := by simp [State.haltThread]

@[simp] theorem State.resumeThread_pending (s : State) (k n : Nat) : (s.resumeThread k n).pending = s.pending := by
  simp [State.resumeThread]

@[simp] theorem execEbreak_leaves (cluster : Fin 16) (thread : BitVec 7) (s : State) :
    LeavesQueue s (execEbreak cluster thread s) := by simp [execEbreak]

@[simp] theorem execBlockedResultReturn_leaves (cluster : Fin 16) (thread : BitVec 7) (s : State) :
    LeavesQueue s (execBlockedResultReturn cluster thread s) := by
  simp only [execBlockedResultReturn]
  split <;> simp

@[simp] theorem execCompareReached_leaves (cluster : Fin 16) (thread : BitVec 7) (s : State) :
    LeavesQueue s (execCompareReached cluster thread s) :=
  (State.clvSettle_pending ..).trans (State.takeCompare_pending ..)

@[simp] theorem State.supRestart_pending (s : State) (k : Nat) : (s.supRestart k).pending = s.pending := by simp [State.supRestart]

@[simp] theorem execSupRestart_leaves (mid : BitVec 13) (cluster : Fin 16) (s : State) :
    LeavesQueue s (execSupRestart mid cluster s) := by simp [execSupRestart]

@[simp] theorem State.wdogEnable_pending (s : State) (mid k : Nat) (on : Bool) (period : Nat) :
    (s.wdogEnable mid k on period).pending = s.pending := by
  simp only [State.wdogEnable]
  repeat' split
  all_goals simp

@[simp] theorem execClvWdogEnable_leaves (mid : BitVec 13) (cluster : Fin 16) (on : Bool) (period : BitVec 16) (s : State) :
    LeavesQueue s (execClvWdogEnable mid cluster on period s) := by simp [execClvWdogEnable]

@[simp] theorem execWdogExpiry_leaves (cluster : Fin 16) (s : State) :
    LeavesQueue s (execWdogExpiry cluster s) := by simp [execWdogExpiry]

@[simp] theorem clvLoadChecks_pending {s : State} {body : State → Res} (c : Cmd) (feature : Nat) (img : List Byte)
    (h : ∀ t, (body t).state.pending = t.pending) : (clvLoadChecks s c feature img body).state.pending = s.pending := by
  simp [clvLoadChecks, h]

@[simp] theorem clvProgramLoadSpec_pending (c : Cmd) (s : State) : (clvProgramLoadSpec.body c s).state.pending = s.pending := by
  simp [clvProgramLoadSpec]

@[simp] theorem execClvProgramLoad_leaves (e : AdminEntry) (s : State) :
    LeavesQueue s (execClvProgramLoad e s) := by
  simp only [execClvProgramLoad]
  split <;> simp

@[simp] theorem clvProgramSwapSpec_pending (c : Cmd) (s : State) : (clvProgramSwapSpec.body c s).state.pending = s.pending := by
  simp [clvProgramSwapSpec]

@[simp] theorem State.swapSwitch_pending (s : State) (k : Nat) : (s.swapSwitch k).pending = s.pending := by simp [State.swapSwitch]

@[simp] theorem State.abortSwap_pending (s : State) (k : Nat) : (s.abortSwap k).pending = s.pending := by simp [State.abortSwap]

@[simp] theorem execClvProgramSwap_leaves (e : AdminEntry) (s : State) :
    LeavesQueue s (execClvProgramSwap e s) :=
  State.runCmd_pending clvProgramSwapSpec_pending s e

@[simp] theorem execSwapDrainEnd_leaves (cluster : Fin 16) (s : State) :
    LeavesQueue s (execSwapDrainEnd cluster s) := by
  simp only [execSwapDrainEnd]
  repeat' split
  all_goals simp

@[simp] theorem clvProgramUnloadSpec_pending (c : Cmd) (s : State) : (clvProgramUnloadSpec.body c s).state.pending = s.pending := by
  simp [clvProgramUnloadSpec]

@[simp] theorem execClvProgramUnload_leaves (e : AdminEntry) (s : State) :
    LeavesQueue s (execClvProgramUnload e s) := by simp [execClvProgramUnload]

@[simp] theorem State.abortUnload_pending (s : State) (k : Nat) : (s.abortUnload k).pending = s.pending := (rfl)

@[simp] theorem clvClusterModeSpec_pending (c : Cmd) (s : State) : (clvClusterModeSpec.body c s).state.pending = s.pending := by
  simp [clvClusterModeSpec]

@[simp] theorem execClvClusterMode_leaves (e : AdminEntry) (s : State) :
    LeavesQueue s (execClvClusterMode e s) :=
  State.runCmd_pending clvClusterModeSpec_pending s e

@[simp] theorem clvMsgregReleaseSpec_pending (c : Cmd) (s : State) : (clvMsgregReleaseSpec.body c s).state.pending = s.pending := by
  simp [clvMsgregReleaseSpec]

@[simp] theorem execClvMsgregRelease_leaves (e : AdminEntry) (s : State) :
    LeavesQueue s (execClvMsgregRelease e s) :=
  State.runCmd_pending clvMsgregReleaseSpec_pending s e

/-! ## Port modes, links and lane degrade with the Fresnel trees that follow them -/

@[simp] theorem State.settleLeaf_pending (s : State) (l : Nat) : (s.settleLeaf l).pending = s.pending := by
  simp only [State.settleLeaf]
  repeat' split
  all_goals simp

@[simp] theorem State.dropPortFrames_pending (s : State) (port : Nat) : (s.dropPortFrames port).pending = s.pending := by
  simp [State.dropPortFrames]

@[simp] theorem State.deletePortNodes_pending (s : State) (port : Nat) : (s.deletePortNodes port).pending = s.pending := by
  simp [State.deletePortNodes]

@[simp] theorem State.addRoot_pending (s : State) (port : Nat) : (s.addRoot port).pending = s.pending := by simp [State.addRoot]

@[simp] theorem State.setLink_pending (s : State) (p : Nat) (up : Bool) : (s.setLink p up).pending = s.pending := by simp [State.setLink]

@[simp] theorem State.enterPortMode_pending (s : State) (mode mask : Nat) : (s.enterPortMode mode mask).pending = s.pending := by
  simp [State.enterPortMode]

@[simp] theorem State.relane_pending (s : State) (p : Nat) : (s.relane p).pending = s.pending := by simp [State.relane]

@[simp] theorem State.setLane_pending (s : State) (lane : Nat) (good : Bool) : (s.setLane lane good).pending = s.pending := by
  simp [State.setLane]

@[simp] theorem State.mgpLink_pending (s : State) (up : Bool) : (s.mgpLink up).pending = s.pending := by simp [State.mgpLink]

@[simp] theorem State.mctpDrop_pending (s : State) : s.mctpDrop.pending = s.pending :=
  (State.raiseEs_pending ..).trans (State.pending_bump ..)

@[simp] theorem State.mctpAnswer_pending (s : State) (src type : Nat) (setEid : Option Nat) :
    (s.mctpAnswer src type setEid).pending = s.pending := by
  simp only [State.mctpAnswer]
  split <;> simp

@[simp] theorem State.vendorAnswer_pending (s : State) (src code status detail : Nat) (body : List Byte) :
    (s.vendorAnswer src code status detail body).pending = s.pending := (rfl)

@[simp] theorem State.unserved_pending (s : State) (src code : Nat) : (s.unserved src code).pending = s.pending := by
  simp only [State.unserved]
  split <;> simp

@[simp] theorem State.mctpServe_pending (s : State) : s.mctpServe.pending = s.pending := by simp [State.mctpServe]

/-! ## Meanings of Fresnel's commands and events but the choice itself -/

@[simp] theorem State.putNode_pending (s : State) (x : NodeCfg) : (s.putNode x).pending = s.pending := by
  unfold State.putNode
  extract_lets +onlyGivenNames port leaf sub n n' n'' t frs u
  refine ite_pending rfl ?_
  extract_lets +onlyGivenNames frs' v d
  have hv : v.pending = s.pending := ite_pending rfl rfl
  exact ite_pending hv hv

@[simp] theorem frsNodeCfgSpec_pending (c : Cmd) (s : State) : (frsNodeCfgSpec.body c s).state.pending = s.pending := by
  dsimp -zeta only [frsNodeCfgSpec]
  extract_lets +onlyGivenNames k
  refine Res.ite_pending ?_ ?_
  · refine Cmd.checked_pending _ (guards_pending (by simp) ?_)
    split
    next => rfl
    next n _ =>
      refine guards_pending (by simp) ?_
      extract_lets +onlyGivenNames t u
      refine Res.ite_pending (State.settleLeaf_pending ..) rfl
  · extract_lets +onlyGivenNames leaf
    refine Cmd.checked_pending _ ?_
    extract_lets +onlyGivenNames x
    refine guards_pending (by simp) ?_
    split
    next => rfl
    next =>
      extract_lets +onlyGivenNames full
      exact Res.ite_pending rfl (State.putNode_pending ..)

@[simp] theorem execFrsNodeCfg_leaves (e : AdminEntry) (s : State) :
    LeavesQueue s (execFrsNodeCfg e s) :=
  State.runCmd_pending frsNodeCfgSpec_pending s e

@[simp] theorem frsShaperCfgSpec_pending (c : Cmd) (s : State) : (frsShaperCfgSpec.body c s).state.pending = s.pending := by
  dsimp -zeta only [frsShaperCfgSpec]
  extract_lets +onlyGivenNames k kind remove
  refine Cmd.checked_pending _ ?_
  split
  next => rfl
  next n _ =>
    refine Res.ite_pending (State.setNode_pending ..) ?_
    extract_lets +onlyGivenNames oh
    refine guards_pending (by simp) ?_
    extract_lets +onlyGivenNames sh before waits fresh m
    exact State.setNode_pending ..

@[simp] theorem execFrsShaperCfg_leaves (e : AdminEntry) (s : State) :
    LeavesQueue s (execFrsShaperCfg e s) :=
  State.runCmd_pending frsShaperCfgSpec_pending s e

@[simp] theorem execRefillEpoch_leaves (s : State) :
    LeavesQueue s (execRefillEpoch s) := by simp [execRefillEpoch]

@[simp] theorem frsGclWriteSpec_pending (c : Cmd) (s : State) : (frsGclWriteSpec.body c s).state.pending = s.pending := by
  dsimp -zeta only [frsGclWriteSpec]
  refine Cmd.checked_pending _ ?_
  extract_lets +onlyGivenNames port first count at_
  refine guards_pending (by simp) ?_
  split
  · rfl
  · exact State.setGates_pending ..

@[simp] theorem execFrsGclWrite_leaves (e : AdminEntry) (s : State) :
    LeavesQueue s (execFrsGclWrite e s) :=
  State.runCmd_pending frsGclWriteSpec_pending s e

@[simp] theorem frsGclCommitSpec_pending (c : Cmd) (s : State) : (frsGclCommitSpec.body c s).state.pending = s.pending := by
  unfold frsGclCommitSpec
  with_reducible change (Cmd.checked c s _ _).state.pending = s.pending
  refine Cmd.checked_pending _ ?_
  extract_lets port count enable cycle oh g entries base sw list go
  refine guards_pending (by simp) ?_
  have hg : ∀ t, (go t).state.pending = t.pending := fun t => State.setGates_pending ..
  clear_value go
  split
  · exact withClaims_pending ((hg _).trans (State.takeClaims_pending ..))
  · exact hg s

@[simp] theorem execFrsGclCommit_leaves (e : AdminEntry) (s : State) :
    LeavesQueue s (execFrsGclCommit e s) :=
  State.runCmd_pending frsGclCommitSpec_pending s e

@[simp] theorem State.gclDiscard_pending (s : State) (port : Nat) : (s.gclDiscard port).pending = s.pending := by simp [State.gclDiscard]

@[simp] theorem execGclSwitch_leaves (port : Fin 8) (s : State) :
    LeavesQueue s (execGclSwitch port s) := State.gclSwitch_pending ..

@[simp] theorem execGateEdge_leaves (port : Fin 8) (s : State) :
    LeavesQueue s (execGateEdge port s) := by simp [execGateEdge]

@[simp] theorem execGateStaging_leaves (port cls : Fin 8) (s : State) :
    LeavesQueue s (execGateStaging port cls s) := by simp [execGateStaging]

@[simp] theorem execLeafBelowMax_leaves (leaf : BitVec 15) (s : State) :
    LeavesQueue s (execLeafBelowMax leaf s) := by simp [execLeafBelowMax]

@[simp] theorem frsTelemetryCfgSpec_pending (c : Cmd) (s : State) : (frsTelemetryCfgSpec.body c s).state.pending = s.pending := by
  dsimp -zeta only [frsTelemetryCfgSpec]
  extract_lets +onlyGivenNames sub del
  refine Cmd.checked_pending _ ?_
  extract_lets +onlyGivenNames known
  refine Res.ite_pending (Res.ite_pending rfl rfl) ?_
  extract_lets +onlyGivenNames count first rest
  extract_lets +onlyGivenNames leaves owned
  refine guards_pending (by simp) ?_
  split
  · exact State.pending_draw ..
  · rfl

@[simp] theorem execFrsTelemetryCfg_leaves (e : AdminEntry) (s : State) :
    LeavesQueue s (execFrsTelemetryCfg e s) :=
  State.runCmd_pending frsTelemetryCfgSpec_pending s e

@[simp] theorem execTelemetrySample_leaves (sub : BitVec 8) (s : State) :
    LeavesQueue s (execTelemetrySample sub s) := by
  simp only [execTelemetrySample]
  repeat' split
  all_goals simp

@[simp] theorem State.nodeSel_pending (s : State) (k : Nat) : (s.nodeSel k).pending = s.pending := by
  simp only [State.nodeSel]
  exact foldl_pending (by simp) _ _

@[simp] theorem execFrsNodeSelWrite_leaves (mid : BitVec 13) (node : BitVec 16) (s : State) :
    LeavesQueue s (execFrsNodeSelWrite mid node s) := by simp [execFrsNodeSelWrite]

/-! ## Operations of the Saffron cipher engine -/

@[simp] theorem State.setAssoc_pending (s : State) (a : Nat) (r : List Word) : (s.setAssoc a r).pending = s.pending := (rfl)

@[simp] theorem State.cacheHit_pending (s : State) (a : Nat) (r : List Word) (k : Nat) : (s.cacheHit a r k).2.pending = s.pending := by
  simp only [State.cacheHit]
  split <;> simp

@[simp] theorem State.cachePut_pending (s : State) (e : SafKey) : (s.cachePut e).pending = s.pending := (rfl)

@[simp] theorem State.cacheDrop_pending (s : State) (p : SafKey → Bool) : (s.cacheDrop p).pending = s.pending := (rfl)

@[simp] theorem State.accept_pending (s : State) (w : SafWait) (k n : Nat) : (s.accept w k n).pending = s.pending := by simp [State.accept]

@[simp] theorem State.seqMarks_pending (s : State) (a k seq : Nat) : (s.seqMarks a k seq).pending = s.pending := by simp [State.seqMarks]

@[simp] theorem State.takeSeq_pending (s : State) (a k : Nat) : (s.takeSeq a k).2.pending = s.pending := by simp [State.takeSeq]

@[simp] theorem State.safReturn_pending (s : State) (p : Pkt) (reparse : Bool) : (s.safReturn p reparse).pending = s.pending := by
  simp only [State.safReturn]
  repeat' split
  all_goals simp

@[simp] theorem State.safDrop_pending (s : State) (w : SafWait) : (s.safDrop w).pending = s.pending := (rfl)

@[simp] theorem State.safFlush_pending (s : State) (a fuel : Nat) : (s.safFlush a fuel).pending = s.pending := by
  induction fuel generalizing s with
  | zero => rfl
  | succ fuel ih =>
    simp only [State.safFlush]
    repeat' split
    all_goals simp [ih]

@[simp] theorem State.safDone_pending (s : State) (conn gen : Nat) (args : List Dword) (status reason result : Nat) :
    (s.safDone conn gen args status reason result).pending = s.pending := by
  simp only [State.safDone]
  split <;> simp

@[simp] theorem State.safLose_pending (s : State) (w : SafWait) (p : Pkt) (reason : Nat) : (s.safLose w p reason).pending = s.pending := by
  simp [State.safLose]

@[simp] theorem State.safReady_pending (s : State) (w : SafWait) (p : Pkt) : (s.safReady w p).pending = s.pending := by
  simp [State.safReady]

@[simp] theorem State.authFail_pending (s : State) : s.authFail.pending = s.pending :=
  (State.raiseLimited_pending ..).trans (State.pending_bump ..)

@[simp] theorem State.replayDrop_pending (s : State) : s.replayDrop.pending = s.pending :=
  (State.raiseLimited_pending ..).trans (State.pending_bump ..)

@[simp] theorem State.setConnFrame_pending (s : State) (c : Nat) (d : List Byte) : (s.setConnFrame c d).pending = s.pending := by
  simp [State.setConnFrame]

@[simp] theorem State.safWrite_pending (s : State) (conn : Nat) (a : Dword) (bs : List Byte) :
    (s.safWrite conn a bs).2.pending = s.pending := by
  simp only [State.safWrite]
  repeat' split
  all_goals simp

@[simp] theorem State.safFrame_pending (s : State) (w : SafWait) (k : Nat) (p : Pkt) (key : List Byte × List Byte) :
    (s.safFrame w k p key).pending = s.pending := by
  unfold State.safFrame
  extract_lets +onlyGivenNames r keep
  have hk : ∀ t p, (keep t p).pending = t.pending := fun t p => (State.safReady_pending ..).trans (State.storeBuf_pending ..)
  have hl : ∀ t : State, t.pending = s.pending → (t.safLose w p 0x1000).pending = s.pending := fun t h => (State.safLose_pending ..).trans h
  have hd : s.replayDrop.pending = s.pending := State.replayDrop_pending ..
  refine ite_pending (ite_pending (hk ..) ?_) ?_
  · split
    next => exact hl _ (State.pending_bump ..)
    next =>
      refine ite_pending (hl _ hd) ?_
      split
      next => exact hl _ ((State.authFail_pending ..).trans (State.storeBuf_pending ..))
      next =>
        split
        exact (hk ..).trans (State.accept_pending ..)
  · split
    next => exact hl _ (State.pending_bump ..)
    next =>
      refine ite_pending (hk ..) (ite_pending (hl _ hd) ?_)
      split
      · exact hl _ ((State.authFail_pending ..).trans (State.storeBuf_pending ..))
      · exact hl _ ((State.pending_bump ..).trans (State.accept_pending ..))
      · exact (hk ..).trans (State.accept_pending ..)

@[simp] theorem State.safPort_pending (s : State) (w : SafWait) (conn gen : Nat) (args : List Dword) (key : List Byte × List Byte) :
    (s.safPort w conn gen args key).pending = s.pending := by
  unfold State.safPort
  extract_lets +onlyGivenNames r a0 cnt done
  have hd : ∀ t a b c, (done t a b c).pending = t.pending := fun t a b c => by
    unfold done
    rw [State.safDone_pending, State.safDrop_pending]
  split
  next => exact hd ..
  next d _ =>
    extract_lets +onlyGivenNames put
    have hp : ∀ t bs k, (put t bs k).pending = t.pending := fun t bs k => by
      unfold put
      split
      next ok u hu =>
        have hup : u.pending = t.pending := by rw [pending_of_eq hu, State.safWrite_pending]
        exact ite_pending ((hd ..).trans hup) ((hd ..).trans hup)
    refine ite_pending (hp ..) (ite_pending (hp ..) ?_)
    extract_lets +onlyGivenNames k live n
    split
    next =>
      extract_lets +onlyGivenNames t
      rw [State.connFail_pending, hd, State.authFail_pending, State.safWrite_pending]
    next plain inner _ =>
      extract_lets +onlyGivenNames t u
      have ht : t.pending = s.pending := ite_pending (State.setAssoc_pending ..) rfl
      have hu : u.pending = s.pending := by
        refine ite_pending ?_ ht
        rw [State.raiseEs_pending, State.pending_bump, State.setAssoc_pending, ht]
      exact (hp ..).trans hu

@[simp] theorem State.safUnwrapFail_pending (s : State) (w : SafWait) : (s.safUnwrapFail w).pending = s.pending := by
  simp only [State.safUnwrapFail]
  split <;> simp

@[simp] theorem State.safRun_pending (s : State) (w : SafWait) (key : List Byte × List Byte) : (s.safRun w key).pending = s.pending := by
  simp only [State.safRun]
  split <;> simp

@[simp] theorem State.safTake_pending (s : State) (w : SafWait) (k seq : Nat) : (s.safTake w k seq).pending = s.pending := by
  simp only [State.safTake]
  repeat' split
  all_goals simp

@[simp] theorem State.safEnterFrame_pending (s : State) (w : SafWait) (p : Pkt) (encrypt : Bool) :
    (s.safEnterFrame w p encrypt).pending = s.pending := by
  unfold State.safEnterFrame
  extract_lets r unusable format outward inward
  have hu : ∀ t, (unusable t).pending = t.pending := fun t => by simp [unusable]
  have hf : ∀ t, (format t).pending = t.pending := fun t => by simp [format]
  have ho : ∀ k, (outward k).pending = s.pending := fun k => by
    unfold outward
    split
    · exact hu s
    · split
      next h => simp [pending_of_eq h]
      next h => simp [pending_of_eq h]
  have hi : ∀ k n, (inward k n).pending = s.pending := fun k n => by
    unfold inward
    split
    · exact hu s
    · split <;> simp
  clear_value unusable format outward inward
  repeat' split
  all_goals simp [hu, hf, ho, hi]

@[simp] theorem State.safEnterPort_pending (s : State) (w : SafWait) (conn gen : Nat) (args : List Dword) :
    (s.safEnterPort w conn gen args).pending = s.pending := by
  unfold State.safEnterPort
  extract_lets r a0 done k owner
  have hd : ∀ t st rs, (done t st rs).pending = t.pending := fun t st rs => by simp [done]
  clear_value done
  split
  · exact hd ..
  · split
    · rfl
    · split
      · exact hd ..
      · split
        · exact hd ..
        · split
          · simp
          · split
            · split
              next h => simp [pending_of_eq h]
              next h => simp [hd, pending_of_eq h]
            · simp

@[simp] theorem State.dropSaf_pending (s : State) (i : Nat) : (s.dropSaf i).pending = s.pending := by
  simp only [State.dropSaf]
  refine foldl_pending (fun s e => ?_) _ _
  repeat' split
  all_goals simp

@[simp] theorem State.safEnter_pending (s : State) (place : Nat) : (s.safEnter place).pending = s.pending := by
  simp only [State.safEnter]
  repeat' split
  all_goals simp

@[simp] theorem State.derived_pending (s : State) (a k : Nat) : (s.derived a k).pending = s.pending := by
  simp only [State.derived]
  repeat' split
  all_goals simp

/-! ## Removal with work in flight -/

@[simp] theorem State.freeQueues_pending (s : State) (i : Nat) : (s.freeQueues i).pending = s.pending := by simp [State.freeQueues]

@[simp] theorem State.dropEntries_pending (s : State) (i : Nat) : (s.dropEntries i).pending = s.pending := by simp [State.dropEntries]

@[simp] theorem State.removeOwned_pending (s : State) (i : Nat) : (s.removeOwned i).pending = s.pending := by simp [State.removeOwned]

@[simp] theorem State.destroyEnd_pending (s : State) (i : Nat) : (s.destroyEnd i).pending = s.pending := by
  simp only [State.destroyEnd]
  split <;> simp

@[simp] theorem State.settleDestroy_pending (s : State) (i : Nat) : (s.settleDestroy i).pending = s.pending := by simp [State.settleDestroy]

@[simp] theorem State.settleDestroys_pending (s : State) : s.settleDestroys.pending = s.pending := by simp [State.settleDestroys]

@[simp] theorem State.destroyRest_pending (s : State) (i : Nat) : (s.destroyRest i).pending = s.pending := by
  simp only [State.destroyRest, State.settleDestroy_pending]
  refine (foldl_pending (fun s r => ?_) _ _).trans (by simp)
  split <;> simp

/-! ## Meanings of reception, the frame tail, the scheduler's choice and parked packets -/

@[simp] theorem execFrameReceive_leaves (port : Fin 8) (bytes : List Byte) (s : State) :
    LeavesQueue s (execFrameReceive port bytes s) := by simp [execFrameReceive]

@[simp] theorem State.countTail_pending (s : State) (port : Nat) (bytes : List Byte) (ok : Bool) :
    (s.countTail port bytes ok).pending = s.pending := by simp [State.countTail]

@[simp] theorem execFrameTail_leaves (port : Fin 8) (fcsGood : Bool) (s : State) :
    LeavesQueue s (execFrameTail port fcsGood s) := by
  simp only [execFrameTail]
  split <;> simp

@[simp] theorem State.loopback_pending (s : State) (p : Pkt) : (s.loopback p).pending = s.pending := by
  simp only [State.loopback]
  split <;> simp

@[simp] theorem execSchedulerChoice_leaves (root : Fin 9) (s : State) :
    LeavesQueue s (execSchedulerChoice root s) := by
  simp only [execSchedulerChoice]
  repeat' split
  all_goals simp

@[simp] theorem execPageFillComplete_leaves (page : BitVec 30) (ecc : EccResult) (s : State) :
    LeavesQueue s (execPageFillComplete page ecc s) := by
  simp only [execPageFillComplete]
  split <;> simp

@[simp] theorem execParkTimeout_leaves (place : BitVec 16) (s : State) :
    LeavesQueue s (execParkTimeout place s) := by
  simp only [execParkTimeout]
  split <;> simp

/-! ## Meanings of the Lantern regions' commands and events -/

@[simp] theorem State.tapBypass_pending (s : State) (r : Nat) (f : InFlight) : (s.tapBypass r f).pending = s.pending := by
  simp [State.tapBypass]

@[simp] theorem State.lanBypassAll_pending (s : State) (r : Nat) : (s.lanBypassAll r).pending = s.pending := by simp [State.lanBypassAll]

@[simp] theorem State.tapBytes_pending (s : State) (r : Nat) (p : Pkt) (bytes : List Byte) :
    (s.tapBytes r p bytes).2.pending = s.pending := by
  simp only [State.tapBytes]
  repeat' split
  all_goals simp

@[simp] theorem State.tapVerdict_pending (s : State) (r stream : Nat) (p : Pkt) (v : Nat) :
    (s.tapVerdict r stream p v).pending = s.pending := by simp [State.tapVerdict]

@[simp] theorem State.tapCreated_pending (s : State) (r mark v : Nat) (bytes : List Byte) :
    (s.tapCreated r mark v bytes).pending = s.pending := by
  simp only [State.tapCreated]
  repeat' split
  all_goals simp

@[simp] theorem State.tapReturn_pending (s : State) (r t token mark v : Nat) (bytes : List Byte) :
    (s.tapReturn r t token mark v bytes).pending = s.pending := by
  unfold State.tapReturn
  extract_lets g slot seq declared t' u
  split
  · rfl
  · split
    · split <;> simp [t']
    · split
      · split <;> simp [t']
      next f _ =>
        extract_lets src q
        have hu : u.pending = s.pending := by simp [u, t']
        clear_value u
        split
        · simp [hu]
        · split
          · simp [hu]
          · split
            next h => simp [hu, pending_of_eq h]
            next h => simp [hu, pending_of_eq h]

@[simp] theorem execRegionReturn_leaves (region : Fin 16) (stream : Fin 3) (token mark : BitVec 16) (verdict : Word) (bytes : List Byte)
    (s : State) :
    LeavesQueue s (execRegionReturn region stream token mark verdict bytes s) := by simp [execRegionReturn]

@[simp] theorem execTapHoldTimeout_leaves (region : Fin 16) (slot : BitVec 12) (s : State) :
    LeavesQueue s (execTapHoldTimeout region slot s) := by
  simp only [execTapHoldTimeout]
  split <;> simp

@[simp] theorem State.lanMemFault_pending (s : State) (r tag k : Nat) : (s.lanMemFault r tag k).pending = s.pending := (rfl)

@[simp] theorem State.lanMemory_pending (s : State) (r : Nat) (q : RegionReq) : (s.lanMemory r q).pending = s.pending := by
  unfold State.lanMemory
  split
  · split
    next h => simp [pending_of_eq h]
    next h => simp [pending_of_eq h]
  · split
    next h => simp [pending_of_eq h]
    next h => simp [pending_of_eq h]

@[simp] theorem State.lanServe_pending (s : State) (r : Nat) : (s.lanServe r).pending = s.pending := by simp [State.lanServe]

@[simp] theorem execRegionMemoryRequest_leaves (region : Fin 16) (write : Bool) (addr : BitVec 36) (lines tag : Fin 64)
    (data : List Byte) (s : State) :
    LeavesQueue s (execRegionMemoryRequest region write addr lines tag data s) := by simp [execRegionMemoryRequest]

@[simp] theorem State.regionSilent_pending (s : State) (mid r n : Nat) (read : Bool) :
    (s.regionSilent mid r n read).pending = s.pending := by
  simp [State.regionSilent]

@[simp] theorem State.regionAccess_pending (s : State) (mid r n : Nat) (value answer : Option Nat) :
    (s.regionAccess mid r n value answer).pending = s.pending := by
  simp only [State.regionAccess]
  repeat' split
  all_goals simp

@[simp] theorem execRegionRegisterAccess_leaves (mid : BitVec 13) (region : Fin 16) (reg : BitVec 12) (value : Option Word)
    (answer : Word) (s : State) :
    LeavesQueue s (execRegionRegisterAccess mid region reg value answer s) := by simp [execRegionRegisterAccess]

@[simp] theorem execRegionRegisterTimeout_leaves (mid : BitVec 13) (region : Fin 16) (reg : BitVec 12) (value : Option Word) (s : State) :
    LeavesQueue s (execRegionRegisterTimeout mid region reg value s) := by simp [execRegionRegisterTimeout]

@[simp] theorem execLxEventEdge_leaves (region : Fin 16) (s : State) :
    LeavesQueue s (execLxEventEdge region s) := by simp [execLxEventEdge]

@[simp] theorem State.lanFault_pending (s : State) (r reason : Nat) : (s.lanFault r reason).pending = s.pending := by simp [State.lanFault]

@[simp] theorem execConfigScrubPass_leaves (region : Fin 16) (corrected : BitVec 16) (uncorrectable : Bool) (s : State) :
    LeavesQueue s (execConfigScrubPass region corrected uncorrectable s) := by simp [execConfigScrubPass]

@[simp] theorem execRegionPowerSample_leaves (region : Fin 16) (sample : BitVec 12) (s : State) :
    LeavesQueue s (execRegionPowerSample region sample s) := by simp [execRegionPowerSample]

@[simp] theorem execThrottleStage2_leaves (region : Fin 16) (s : State) :
    LeavesQueue s (execThrottleStage2 region s) := by simp [execThrottleStage2]

@[simp] theorem execThrottleRecovery_leaves (region : Fin 16) (s : State) :
    LeavesQueue s (execThrottleRecovery region s) := by simp [execThrottleRecovery]

@[simp] theorem execPowerTrip_leaves (region : Fin 16) (s : State) :
    LeavesQueue s (execPowerTrip region s) := by simp [execPowerTrip]

@[simp] theorem regionState_pending (s : State) (r : Nat) : (regionState s r).state.pending = s.pending := (rfl)

@[simp] theorem lanRegionAssignSpec_pending (c : Cmd) (s : State) : (lanRegionAssignSpec.body c s).state.pending = s.pending := by
  dsimp -zeta only [lanRegionAssignSpec]
  extract_lets +onlyGivenNames release
  refine Cmd.checked_pending _ ?_
  extract_lets +onlyGivenNames r i v
  refine Res.ite_pending (Res.ite_pending (State.lanFree_pending ..) (regionState_pending ..)) ?_
  refine guards_pending (by simp) ?_
  rw [Res.state_ok, State.lanEnter_pending, State.reserveRange_pending, State.setRegion_pending]

@[simp] theorem execLanRegionAssign_leaves (e : AdminEntry) (s : State) :
    LeavesQueue s (execLanRegionAssign e s) :=
  State.runCmd_pending lanRegionAssignSpec_pending s e

@[simp] theorem Cmd.onRegion_pending {c : Cmd} {s : State} {body : Unit → Res} (r : Nat)
    (h : (body ()).state.pending = s.pending) : (c.onRegion s r body).state.pending = s.pending := by simp [Cmd.onRegion, h]

@[simp] theorem lanPowerCapSpec_pending (c : Cmd) (s : State) : (lanPowerCapSpec.body c s).state.pending = s.pending := by
  simp [lanPowerCapSpec]

@[simp] theorem execLanPowerCap_leaves (e : AdminEntry) (s : State) :
    LeavesQueue s (execLanPowerCap e s) :=
  State.runCmd_pending lanPowerCapSpec_pending s e

@[simp] theorem lanAllowanceSetSpec_pending (c : Cmd) (s : State) : (lanAllowanceSetSpec.body c s).state.pending = s.pending := by
  simp [lanAllowanceSetSpec]

@[simp] theorem execLanAllowanceSet_leaves (e : AdminEntry) (s : State) :
    LeavesQueue s (execLanAllowanceSet e s) :=
  State.runCmd_pending lanAllowanceSetSpec_pending s e

@[simp] theorem lanTapCfgSpec_pending (c : Cmd) (s : State) : (lanTapCfgSpec.body c s).state.pending = s.pending := by simp [lanTapCfgSpec]

@[simp] theorem execLanTapCfg_leaves (e : AdminEntry) (s : State) :
    LeavesQueue s (execLanTapCfg e s) :=
  State.runCmd_pending lanTapCfgSpec_pending s e

@[simp] theorem State.lanConfigure_pending (s : State) (r : Nat) (good : Bool) : (s.lanConfigure r good).pending = s.pending := by
  simp [State.lanConfigure]

@[simp] theorem State.lanStage_pending (s : State) (r : Nat) (good : Bool) : (s.lanStage r good).pending = s.pending := by
  simp [State.lanStage]

@[simp] theorem State.lanLoad_pending (s : State) (r : Nat) (img : List Byte) (good : Bool) :
    (s.lanLoad r img good).pending = s.pending := by
  simp only [State.lanLoad]
  split <;> simp

@[simp] theorem State.lanStaged_pending (s : State) (r : Nat) : (s.lanStaged r).pending = s.pending := by
  simp only [State.lanStaged]
  split <;> simp

@[simp] theorem State.abortLoad_pending (s : State) (r : Nat) : (s.abortLoad r).pending = s.pending := by simp [State.abortLoad]

@[simp] theorem lanImageLoadSpec_pending (c : Cmd) (s : State) : (lanImageLoadSpec.body c s).state.pending = s.pending := by
  simp only [lanImageLoadSpec, Cmd.checked_state, guards_cons, guards_nil]
  split
  · split
    · rfl
    · refine Cmd.onRegion_pending _ ?_
      split
      · rfl
      · split
        · rfl
        · split
          · rfl
          · split
            · rfl
            · refine withClaims_pending ?_
              simp
  · rfl

@[simp] theorem execLanImageLoad_leaves (e : AdminEntry) (readback : Bool) (s : State) :
    LeavesQueue s (execLanImageLoad e readback s) := by
  simp only [execLanImageLoad]
  split <;> simp

@[simp] theorem execLxReadyRise_leaves (region : Fin 16) (s : State) :
    LeavesQueue s (execLxReadyRise region s) := by
  simp only [execLxReadyRise]
  split <;> simp

@[simp] theorem execInitTimeout_leaves (region : Fin 16) (s : State) :
    LeavesQueue s (execInitTimeout region s) := by simp [execInitTimeout]

@[simp] theorem lanRegionQuiesceSpec_pending (c : Cmd) (s : State) : (lanRegionQuiesceSpec.body c s).state.pending = s.pending := by
  simp [lanRegionQuiesceSpec]

@[simp] theorem execLanRegionQuiesce_leaves (e : AdminEntry) (s : State) :
    LeavesQueue s (execLanRegionQuiesce e s) :=
  State.runCmd_pending lanRegionQuiesceSpec_pending s e

@[simp] theorem lanRegionUnloadSpec_pending (c : Cmd) (s : State) : (lanRegionUnloadSpec.body c s).state.pending = s.pending := by
  simp [lanRegionUnloadSpec]

@[simp] theorem execLanRegionUnload_leaves (e : AdminEntry) (s : State) :
    LeavesQueue s (execLanRegionUnload e s) := by
  simp only [execLanRegionUnload]
  split <;> simp

@[simp] theorem State.lanQuiesced_pending (s : State) (r : Nat) (good : Bool) : (s.lanQuiesced r good).pending = s.pending := by
  simp only [State.lanQuiesced]
  split <;> simp

@[simp] theorem execQuiesceDrained_leaves (region : Fin 16) (readback : Bool) (s : State) :
    LeavesQueue s (execQuiesceDrained region readback s) := by simp [execQuiesceDrained]

@[simp] theorem execQuiesceTimeout_leaves (region : Fin 16) (readback : Bool) (s : State) :
    LeavesQueue s (execQuiesceTimeout region readback s) := by simp [execQuiesceTimeout]

/-! ## Meanings of the memories, the State Pager and the buffer pools -/

@[simp] theorem execHostFillRetry_leaves (page : BitVec 30) (s : State) :
    LeavesQueue s (execHostFillRetry page s) := by
  simp only [execHostFillRetry]
  split <;> simp

@[simp] theorem execWriteBackComplete_leaves (page : BitVec 30) (ok : Bool) (s : State) :
    LeavesQueue s (execWriteBackComplete page ok s) := by
  generalize hf : execWriteBackComplete = f
  delta execWriteBackComplete at hf
  subst hf
  rw [leavesQueue_next]
  extract_lets k p
  split
  · rfl
  · split
    · split <;> simp
    · split
      next h t ht =>
        have e := pending_of_eq ht
        rw [State.takeOther_pending] at e
        split <;> rw [State.setPage_pending, e]

@[simp] theorem execPageEviction_leaves (s : State) :
    LeavesQueue s (execPageEviction s) := by
  simp only [execPageEviction]
  repeat' split
  all_goals simp

@[simp] theorem execPageDemotion_leaves (s : State) :
    LeavesQueue s (execPageDemotion s) := by
  unfold execPageDemotion
  rw [leavesQueue_next]
  extract_lets +onlyGivenNames go pgr t ps
  refine ite_pending rfl ?_
  split
  · extract_lets +onlyGivenNames page u pgr'
    have hu : u.pending = s.pending := State.setPage_pending ..
    exact (State.startMove_pending ..).trans hu
  · rfl

@[simp] theorem execPageCopyComplete_leaves (page : BitVec 30) (s : State) :
    LeavesQueue s (execPageCopyComplete page s) := by simp [execPageCopyComplete]

@[simp] theorem execPatrolScrubRead_leaves (line : BitVec 32) (ecc : EccResult) (s : State) :
    LeavesQueue s (execPatrolScrubRead line ecc s) := by simp [execPatrolScrubRead]

@[simp] theorem pgrChecks_pending {c : Cmd} {s : State} {body : Unit → Res} (most : Nat)
    (h : (body ()).state.pending = s.pending) : (pgrChecks c s most body).state.pending = s.pending := by simp [pgrChecks, h]

@[simp] theorem pgrPinSpec_pending (c : Cmd) (s : State) : (pgrPinSpec.body c s).state.pending = s.pending := by simp [pgrPinSpec]

@[simp] theorem execPgrPin_leaves (e : AdminEntry) (s : State) :
    LeavesQueue s (execPgrPin e s) :=
  State.runCmd_pending pgrPinSpec_pending s e

@[simp] theorem State.tidyPage_pending (s : State) (k : Nat) : (s.tidyPage k).pending = s.pending := by simp [State.tidyPage]

@[simp] theorem pgrUnpinSpec_pending (c : Cmd) (s : State) : (pgrUnpinSpec.body c s).state.pending = s.pending := by simp [pgrUnpinSpec]

@[simp] theorem execPgrUnpin_leaves (e : AdminEntry) (s : State) :
    LeavesQueue s (execPgrUnpin e s) :=
  State.runCmd_pending pgrUnpinSpec_pending s e

@[simp] theorem State.hintFill_pending (a : Nat × State) (k : Nat) : (State.hintFill a k).2.pending = a.2.pending := by
  simp [State.hintFill]

@[simp] theorem State.hintHome_pending (a : Nat × State) (k : Nat) : (State.hintHome a k).2.pending = a.2.pending := by
  unfold State.hintHome
  split
  next n s =>
    extract_lets p
    split
    · rfl
    · split
      next h t ht =>
        split
        · rfl
        · simp [pending_of_eq ht]

@[simp] theorem pgrPrefetchSpec_pending (c : Cmd) (s : State) : (pgrPrefetchSpec.body c s).state.pending = s.pending := by
  simp only [pgrPrefetchSpec]
  split <;> simp

@[simp] theorem execPgrPrefetch_leaves (e : AdminEntry) (s : State) :
    LeavesQueue s (execPgrPrefetch e s) :=
  State.runCmd_pending pgrPrefetchSpec_pending s e

@[simp] theorem memDonateSpec_pending (c : Cmd) (s : State) : (memDonateSpec.body c s).state.pending = s.pending := by simp [memDonateSpec]

@[simp] theorem execMemDonate_leaves (e : AdminEntry) (s : State) :
    LeavesQueue s (execMemDonate e s) :=
  State.runCmd_pending memDonateSpec_pending s e

@[simp] theorem memRevokeSpec_pending (c : Cmd) (s : State) : (memRevokeSpec.body c s).state.pending = s.pending := by
  simp only [memRevokeSpec]
  split <;> simp

@[simp] theorem execMemRevoke_leaves (e : AdminEntry) (s : State) :
    LeavesQueue s (execMemRevoke e s) := by simp [execMemRevoke]

@[simp] theorem State.abortRevoke_pending (s : State) (d : Nat) : (s.abortRevoke d).pending = s.pending := by
  simp only [State.abortRevoke]
  split <;> simp

@[simp] theorem State.grantRegion_pending (s : State) (base size : Nat) : (s.grantRegion base size).state.pending = s.pending := by
  simp [State.grantRegion]

@[simp] theorem State.programWindow_pending (s : State) (n : Nat) (c : Cmd) : (s.programWindow n c).state.pending = s.pending := by
  simp [State.programWindow]

@[simp] theorem memPeerWindowSpec_pending (c : Cmd) (s : State) : (memPeerWindowSpec.body c s).state.pending = s.pending := by
  dsimp -zeta only [memPeerWindowSpec]
  extract_lets +onlyGivenNames n masks
  refine Cmd.checked_pending _ ?_
  extract_lets +onlyGivenNames base size
  split
  · exact guards_pending (by simp) (State.grantRegion_pending ..)
  · split
    next => rfl
    next => exact guards_pending (by simp) rfl
  · exact State.programWindow_pending ..
  · rfl

@[simp] theorem execMemPeerWindow_leaves (e : AdminEntry) (s : State) :
    LeavesQueue s (execMemPeerWindow e s) := by simp [execMemPeerWindow]

@[simp] theorem bpmPoolCfgSpec_pending (c : Cmd) (s : State) : (bpmPoolCfgSpec.body c s).state.pending = s.pending := by
  simp [bpmPoolCfgSpec]

@[simp] theorem execBpmPoolCfg_leaves (e : AdminEntry) (s : State) :
    LeavesQueue s (execBpmPoolCfg e s) :=
  State.runCmd_pending bpmPoolCfgSpec_pending s e

@[simp] theorem State.abortCarve_pending (s : State) (tier : Nat) : (s.abortCarve tier).pending = s.pending := (rfl)

@[simp] theorem bpmSetQuotaSpec_pending (c : Cmd) (s : State) : (bpmSetQuotaSpec.body c s).state.pending = s.pending := by
  simp [bpmSetQuotaSpec]

@[simp] theorem execBpmSetQuota_leaves (e : AdminEntry) (s : State) :
    LeavesQueue s (execBpmSetQuota e s) :=
  State.runCmd_pending bpmSetQuotaSpec_pending s e

@[simp] theorem execAlloc_leaves (requester : BitVec 12) (length : BitVec 17) (s : State) :
    LeavesQueue s (execAlloc requester length s) := by simp [execAlloc]

@[simp] theorem State.bufBy_pending {s : State} {body : State → State} (mid : Nat) (h : (body s).pending = s.pending) :
    (s.bufBy mid body).pending = s.pending := by simp [State.bufBy, h]

@[simp] theorem execShare_leaves (mid : BitVec 13) (ptr : Word) (requester holder : BitVec 12) (s : State) :
    LeavesQueue s (execShare mid ptr requester holder s) := by simp [execShare]

@[simp] theorem execRelease_leaves (mid : BitVec 13) (ptr : Word) (requester : BitVec 12) (s : State) :
    LeavesQueue s (execRelease mid ptr requester s) := by simp [execRelease]

@[simp] theorem execTransfer_leaves (mid : BitVec 13) (ptr : Word) (requester dest : BitVec 12) (s : State) :
    LeavesQueue s (execTransfer mid ptr requester dest s) := by simp [execTransfer]

@[simp] theorem execFree_leaves (mid : BitVec 13) (ptr : Word) (requester : BitVec 12) (s : State) :
    LeavesQueue s (execFree mid ptr requester s) := by simp [execFree]

/-! ## Meanings of the Spar fabric's commands and events -/

@[simp] theorem execSparLinkChange_leaves (port : Fin 4) (up : Bool) (s : State) :
    LeavesQueue s (execSparLinkChange port up s) := by simp [execSparLinkChange]

@[simp] theorem execFlitReceive_leaves (port : Fin 4) (words : List Word) (s : State) :
    LeavesQueue s (execFlitReceive port words s) := by simp [execFlitReceive]

@[simp] theorem execReplayTimeout_leaves (port : Fin 4) (s : State) :
    LeavesQueue s (execReplayTimeout port s) := by simp [execReplayTimeout]

@[simp] theorem execBeaconSend_leaves (s : State) :
    LeavesQueue s (execBeaconSend s) := by simp [execBeaconSend]

@[simp] theorem execBeaconReceive_leaves (port : Fin 4) (body : List Byte) (s : State) :
    LeavesQueue s (execBeaconReceive port body s) := by simp [execBeaconReceive]

@[simp] theorem State.packetOf_pending (s : State) (port cls : Nat) (bytes : List Byte) :
    (s.packetOf port cls bytes).pending = s.pending := by
  simp [State.packetOf]

@[simp] theorem execMailboxPacketReceive_leaves (port : Fin 4) (packet : List Byte) (s : State) :
    LeavesQueue s (execMailboxPacketReceive port packet s) := State.packetOf_pending ..

@[simp] theorem execRemoteRequestReceive_leaves (port : Fin 4) (packet : List Byte) (s : State) :
    LeavesQueue s (execRemoteRequestReceive port packet s) := State.packetOf_pending ..

@[simp] theorem execRemoteResponseReceive_leaves (port : Fin 4) (packet : List Byte) (s : State) :
    LeavesQueue s (execRemoteResponseReceive port packet s) := State.packetOf_pending ..

@[simp] theorem execFramePacketReceive_leaves (port : Fin 4) (packet : List Byte) (s : State) :
    LeavesQueue s (execFramePacketReceive port packet s) := State.packetOf_pending ..

@[simp] theorem execMailboxResend_leaves (chan : Fin 64) (s : State) :
    LeavesQueue s (execMailboxResend chan s) := by
  simp only [execMailboxResend]
  split <;> simp

@[simp] theorem execSparRequestTimeout_leaves (chan : Fin 64) (s : State) :
    LeavesQueue s (execSparRequestTimeout chan s) := by
  simp only [execSparRequestTimeout]
  split <;> simp

@[simp] theorem execTimeExchange_leaves (t1 t2 t3 t4 ts tr : Int) (s : State) :
    LeavesQueue s (execTimeExchange t1 t2 t3 t4 ts tr s) := by
  simp only [execTimeExchange]
  split <;> simp

@[simp] theorem State.unjoin_pending (s : State) (note : List Nat) : (s.unjoin note).pending = s.pending := by
  simp only [State.unjoin]
  split <;> simp

@[simp] theorem sprJoinSpec_pending (c : Cmd) (s : State) : (sprJoinSpec.body c s).state.pending = s.pending := by simp [sprJoinSpec]

@[simp] theorem execSprJoin_leaves (e : AdminEntry) (s : State) :
    LeavesQueue s (execSprJoin e s) :=
  State.runCmd_pending sprJoinSpec_pending s e

@[simp] theorem execJoinWaitEnd_leaves (s : State) :
    LeavesQueue s (execJoinWaitEnd s) := by
  simp only [execJoinWaitEnd]
  repeat' split
  all_goals simp

@[simp] theorem whenJoined_pending {s : State} {body : Unit → Res} (h : (body ()).state.pending = s.pending) :
    (whenJoined s body).state.pending = s.pending := by simp [whenJoined, h]

@[simp] theorem sprLeaveSpec_pending (c : Cmd) (s : State) : (sprLeaveSpec.body c s).state.pending = s.pending := by simp [sprLeaveSpec]

@[simp] theorem execSprLeave_leaves (e : AdminEntry) (s : State) :
    LeavesQueue s (execSprLeave e s) := by simp [execSprLeave]

@[simp] theorem sprRouteWriteSpec_pending (c : Cmd) (s : State) : (sprRouteWriteSpec.body c s).state.pending = s.pending := by
  dsimp -zeta only [sprRouteWriteSpec]
  refine whenJoined_pending (Cmd.checked_pending _ ?_)
  extract_lets +onlyGivenNames first n es base
  exact guards_pending (by simp) rfl

@[simp] theorem execSprRouteWrite_leaves (e : AdminEntry) (s : State) :
    LeavesQueue s (execSprRouteWrite e s) :=
  State.runCmd_pending sprRouteWriteSpec_pending s e

@[simp] theorem sprEpochCommitSpec_pending (c : Cmd) (s : State) : (sprEpochCommitSpec.body c s).state.pending = s.pending := by
  simp only [sprEpochCommitSpec]
  split <;> simp

@[simp] theorem execSprEpochCommit_leaves (e : AdminEntry) (s : State) :
    LeavesQueue s (execSprEpochCommit e s) :=
  State.runCmd_pending sprEpochCommitSpec_pending s e

@[simp] theorem execPreviousEpochDiscard_leaves (s : State) :
    LeavesQueue s (execPreviousEpochDiscard s) := by simp [execPreviousEpochDiscard]

@[simp] theorem sprRemoteGrantSpec_pending (c : Cmd) (s : State) : (sprRemoteGrantSpec.body c s).state.pending = s.pending := by
  dsimp -zeta only [sprRemoteGrantSpec]
  refine whenJoined_pending ?_
  extract_lets +onlyGivenNames g
  refine Res.ite_pending (Cmd.checked_pending _ ?_) (Cmd.checked_pending _ ?_)
  · split
    · rfl
    · rfl
  · extract_lets +onlyGivenNames ssid pages
    exact guards_pending (by simp) rfl

@[simp] theorem execSprRemoteGrant_leaves (e : AdminEntry) (s : State) :
    LeavesQueue s (execSprRemoteGrant e s) := by simp [execSprRemoteGrant]

@[simp] theorem State.chanMap_pending (s : State) (c v : Nat) : (s.chanMap c v).pending = s.pending := by simp [State.chanMap]

@[simp] theorem execSprChanMapWrite_leaves (mid : BitVec 13) (chan : Fin 64) (value : Word) (s : State) :
    LeavesQueue s (execSprChanMapWrite mid chan value s) := by simp [execSprChanMapWrite]

/-! ## Meanings of the table engines -/

@[simp] theorem State.freeBuckets_pending (s : State) (t : EmTable) : (s.freeBuckets t).pending = s.pending := by simp [State.freeBuckets]

@[simp] theorem tblCreateSpec_pending (c : Cmd) (s : State) : (tblCreateSpec.body c s).state.pending = s.pending := by
  dsimp -zeta only [tblCreateSpec]
  refine Cmd.checked_pending _ ?_
  extract_lets +onlyGivenNames n ws v of_ live top pct
  refine guards_pending (by simp) ?_
  split
  next => rfl
  next =>
    extract_lets +onlyGivenNames b
    refine Res.ite_pending (withClaims_pending ?_) (State.setTable_pending ..)
    exact (State.setTable_pending ..).trans ((State.setTable_pending ..).trans (State.takeClaims_pending ..))

@[simp] theorem execTblCreate_leaves (e : AdminEntry) (s : State) :
    LeavesQueue s (execTblCreate e s) :=
  State.runCmd_pending tblCreateSpec_pending s e

@[simp] theorem State.dropShadow_pending (s : State) (n : Nat) : (s.dropShadow n).pending = s.pending := (rfl)

@[simp] theorem execShadowCopyEnd_leaves (n : BitVec 8) (s : State) :
    LeavesQueue s (execShadowCopyEnd n s) := by
  simp only [execShadowCopyEnd]
  repeat' split
  all_goals simp

@[simp] theorem tblDestroySpec_pending (c : Cmd) (s : State) : (tblDestroySpec.body c s).state.pending = s.pending := by
  simp only [tblDestroySpec]
  repeat' split
  all_goals simp

@[simp] theorem execTblDestroy_leaves (e : AdminEntry) (s : State) :
    LeavesQueue s (execTblDestroy e s) := by simp [execTblDestroy]

@[simp] theorem RecEnd.state_res (r : RecEnd) : r.res.state = r.state := by cases r <;> rfl

@[simp] theorem recParam_pending (s : State) (n : Nat) : (recParam s n).state.pending = s.pending := (rfl)

@[simp] theorem recRefuse_pending (s : State) (r : Nat) : (recRefuse s r).state.pending = s.pending := (rfl)

@[simp] theorem recGuards_nil (body : Unit → RecEnd) : recGuards [] body = body () := rfl

@[simp] theorem recGuards_cons (b : Bool) (r : RecEnd) (gs : List (Bool × RecEnd)) (body : Unit → RecEnd) :
    recGuards ((b, r) :: gs) body = if b then r else recGuards gs body := rfl

theorem recGuards_pending {s : State} {gs : List (Bool × RecEnd)} {body : Unit → RecEnd}
    (hg : ∀ g ∈ gs, g.2.state.pending = s.pending) (hb : (body ()).state.pending = s.pending) :
    (recGuards gs body).state.pending = s.pending := by
  induction gs with
  | nil => exact hb
  | cons g gs ih =>
    rw [recGuards_cons]
    split
    · exact hg g List.mem_cons_self
    · exact ih fun g h => hg g (List.mem_cons_of_mem _ h)

@[simp] theorem State.rehash_pending (s : State) (which : Nat) : (s.rehash which).state.pending = s.pending := by simp [State.rehash]

@[simp] theorem State.storePath_pending (s : State) (t : Nat) (path : List Nat) : (s.storePath t path).pending = s.pending := by
  simp [State.storePath]

@[simp] theorem State.emInsert_pending (s : State) (n owner : Nat) (manager : Bool) (ws : List Word) :
    (s.emInsert n owner manager ws).state.pending = s.pending := by
  unfold State.emInsert
  extract_lets +onlyGivenNames v w port page e flushing
  refine recGuards_pending (by simp) ?_
  split
  next => rfl
  next => exact State.rehash_pending ..
  next t i moves old path _ =>
    extract_lets +onlyGivenNames charge
    clear_value charge
    split
    next => rfl
    next => rfl
    next =>
      extract_lets +onlyGivenNames both mirror
      clear_value mirror
      split
      next => exact State.rehash_pending ..
      next =>
        extract_lets +onlyGivenNames u v
        have hu : u.pending = s.pending := State.storePath_pending ..
        have hv : v.pending = s.pending := by
          unfold v
          split
          · exact ite_pending ((State.storePath_pending ..).trans hu) hu
          · exact hu
        rw [RecEnd.state_ok, State.loadWarn_pending, State.pending_bumpBy, State.pending_bump, hv]

@[simp] theorem State.emErase_pending (s : State) (n i : Nat) : (s.emErase n i).pending = s.pending := by
  simp only [State.emErase]
  repeat' split
  all_goals simp

@[simp] theorem State.emDelete_pending (s : State) (n owner : Nat) (manager : Bool) (ws : List Word) :
    (s.emDelete n owner manager ws).state.pending = s.pending := by
  unfold State.emDelete
  extract_lets +onlyGivenNames v byIndex
  refine recGuards_pending (by simp) ?_
  extract_lets +onlyGivenNames hit
  clear_value hit
  split
  · rfl
  · exact State.emErase_pending ..

@[simp] theorem runRecords_pending {f : State → List Word → RecEnd} (hf : ∀ s ws, (f s ws).state.pending = s.pending)
    (s : State) (done : Nat) (rs : List (List Word)) : (runRecords f s done rs).1.pending = s.pending := by
  induction rs generalizing s done with
  | nil => rfl
  | cons r rest ih =>
    have hr := hf s r
    unfold runRecords
    split <;> simp_all

@[simp] theorem batch_pending {f : State → List Word → RecEnd} (hf : ∀ s ws, (f s ws).state.pending = s.pending) (c : Cmd)
    (s : State) (size maxCount mask : Nat) : (batch c s size maxCount mask f).state.pending = s.pending := by
  simp [batch, runRecords_pending hf]

@[simp] theorem tableRecord_pending {f : List Word → RecEnd} {s : State} (hf : ∀ ws, (f ws).state.pending = s.pending)
    (ws : List Word) : (tableRecord f s ws).state.pending = s.pending := by
  unfold tableRecord
  split <;> simp [hf]

@[simp] theorem tblInsertSpec_pending (c : Cmd) (s : State) : (tblInsertSpec.body c s).state.pending = s.pending := by simp [tblInsertSpec]

@[simp] theorem execTblInsert_leaves (e : AdminEntry) (s : State) :
    LeavesQueue s (execTblInsert e s) :=
  State.runCmd_pending tblInsertSpec_pending s e

@[simp] theorem tblDeleteSpec_pending (c : Cmd) (s : State) : (tblDeleteSpec.body c s).state.pending = s.pending := by simp [tblDeleteSpec]

@[simp] theorem execTblDelete_leaves (e : AdminEntry) (s : State) :
    LeavesQueue s (execTblDelete e s) :=
  State.runCmd_pending tblDeleteSpec_pending s e

@[simp] theorem tblSearchSpec_pending (c : Cmd) (s : State) : (tblSearchSpec.body c s).state.pending = s.pending := by
  dsimp -zeta only [tblSearchSpec]
  refine Cmd.checked_pending _ ?_
  extract_lets +onlyGivenNames v
  refine guards_pending (by simp) ?_
  split
  · rfl
  · split
    · exact Res.ite_pending rfl rfl
    · rfl

@[simp] theorem execTblSearch_leaves (e : AdminEntry) (s : State) :
    LeavesQueue s (execTblSearch e s) :=
  State.runCmd_pending tblSearchSpec_pending s e

@[simp] theorem tblNextSpec_pending (c : Cmd) (s : State) : (tblNextSpec.body c s).state.pending = s.pending := by
  simp only [tblNextSpec]
  split <;> simp

@[simp] theorem execTblNext_leaves (e : AdminEntry) (s : State) :
    LeavesQueue s (execTblNext e s) :=
  State.runCmd_pending tblNextSpec_pending s e

@[simp] theorem tblFlushPortSpec_pending (c : Cmd) (s : State) : (tblFlushPortSpec.body c s).state.pending = s.pending := by
  simp [tblFlushPortSpec]

@[simp] theorem execTblFlushPort_leaves (e : AdminEntry) (s : State) :
    LeavesQueue s (execTblFlushPort e s) :=
  State.runCmd_pending tblFlushPortSpec_pending s e

@[simp] theorem execTableFlushEnd_leaves (n : BitVec 8) (s : State) :
    LeavesQueue s (execTableFlushEnd n s) := by
  simp only [execTableFlushEnd]
  repeat' split
  all_goals simp

@[simp] theorem tblShadowSwitchSpec_pending (c : Cmd) (s : State) : (tblShadowSwitchSpec.body c s).state.pending = s.pending := by
  simp [tblShadowSwitchSpec]

@[simp] theorem execTblShadowSwitch_leaves (e : AdminEntry) (s : State) :
    LeavesQueue s (execTblShadowSwitch e s) :=
  State.runCmd_pending tblShadowSwitchSpec_pending s e

theorem State.prefixFault_pending {s : State} {ws : List Word} {bad1 : Bool} {r : RecEnd} (h : s.prefixFault ws bad1 = some r) :
    r.state.pending = s.pending := by
  unfold State.prefixFault at h
  extract_lets p zero at h
  clear_value zero
  rcases eq_or_of_ite_eq_some h with rfl | h
  · rfl
  · rcases eq_or_of_ite_eq_some h with rfl | h
    · rfl
    · split at h
      · exact Option.some.inj h ▸ rfl
      · exact Option.some.inj (Option.ite_none_right_eq_some.mp h).2 ▸ rfl

@[simp] theorem State.lpmAdd_pending (s : State) (ws : List Word) : (s.lpmAdd ws).state.pending = s.pending := by
  unfold State.lpmAdd
  split
  next h => exact State.prefixFault_pending h
  next => simp

@[simp] theorem lpmAddSpec_pending (c : Cmd) (s : State) : (lpmAddSpec.body c s).state.pending = s.pending := by simp [lpmAddSpec]

@[simp] theorem execLpmAdd_leaves (e : AdminEntry) (s : State) :
    LeavesQueue s (execLpmAdd e s) :=
  State.runCmd_pending lpmAddSpec_pending s e

@[simp] theorem lpmDeleteSpec_pending (c : Cmd) (s : State) : (lpmDeleteSpec.body c s).state.pending = s.pending := by
  simp only [lpmDeleteSpec]
  split
  next r h => rw [RecEnd.state_res, State.prefixFault_pending h]
  next => split <;> simp

@[simp] theorem execLpmDelete_leaves (e : AdminEntry) (s : State) :
    LeavesQueue s (execLpmDelete e s) :=
  State.runCmd_pending lpmDeleteSpec_pending s e

@[simp] theorem lpmVrfCfgSpec_pending (c : Cmd) (s : State) : (lpmVrfCfgSpec.body c s).state.pending = s.pending := by
  dsimp -zeta only [lpmVrfCfgSpec]
  refine Cmd.checked_pending _ ?_
  extract_lets +onlyGivenNames n on flush v4 v6
  refine guards_pending (by simp) ?_
  extract_lets +onlyGivenNames old t
  have ht : t.pending = s.pending := State.setVrf_pending ..
  exact Res.ite_pending ht ht

@[simp] theorem execLpmVrfCfg_leaves (e : AdminEntry) (s : State) :
    LeavesQueue s (execLpmVrfCfg e s) :=
  State.runCmd_pending lpmVrfCfgSpec_pending s e

@[simp] theorem execVrfFlushEnd_leaves (n : BitVec 12) (s : State) :
    LeavesQueue s (execVrfFlushEnd n s) := by
  simp only [execVrfFlushEnd]
  repeat' split
  all_goals simp

@[simp] theorem execLpmNodeRebuild_leaves (s : State) :
    LeavesQueue s (execLpmNodeRebuild s) := by simp [execLpmNodeRebuild]

@[simp] theorem learnCfgSpec_pending (c : Cmd) (s : State) : (learnCfgSpec.body c s).state.pending = s.pending := by simp [learnCfgSpec]

@[simp] theorem execLearnCfg_leaves (e : AdminEntry) (s : State) :
    LeavesQueue s (execLearnCfg e s) :=
  State.runCmd_pending learnCfgSpec_pending s e

@[simp] theorem execLearnTokenRefill_leaves (n : BitVec 8) (s : State) :
    LeavesQueue s (execLearnTokenRefill n s) := by simp [execLearnTokenRefill]

@[simp] theorem execAgeingScanVisit_leaves (n : BitVec 8) (s : State) :
    LeavesQueue s (execAgeingScanVisit n s) := State.ageVisit_pending ..

@[simp] theorem State.tblSel_pending (s : State) (n : Nat) : (s.tblSel n).pending = s.pending := by
  simp only [State.tblSel]
  exact foldl_pending (by simp) _ _

@[simp] theorem execTblSelWrite_leaves (mid : BitVec 13) (n : BitVec 8) (s : State) :
    LeavesQueue s (execTblSelWrite mid n s) := by simp [execTblSelWrite]

/-! ## What an abort of a PENDING command leaves -/

@[simp] theorem State.abortDestroy_pending (s : State) (q : Nat) : (s.abortDestroy q).pending = s.pending := by simp [State.abortDestroy]

@[simp] theorem State.abortCopy_pending (s : State) (n : Nat) : (s.abortCopy n).pending = s.pending :=
  (State.raiseEs_pending ..).trans ((State.dropShadow_pending ..).trans (State.freeBuckets_pending ..))

@[simp] theorem State.stopFlush_pending (s : State) (n : Nat) : (s.stopFlush n).pending = s.pending :=
  (State.raiseEs_pending ..).trans ((State.pending_dropClaim ..).trans (State.setTable_pending ..))

@[simp] theorem State.abortFlush_pending (s : State) (n : Nat) : (s.abortFlush n).pending = s.pending := by
  simp only [State.abortFlush]
  split <;> simp

theorem State.aborted_pending {s t : State} {p : PendCmd} (h : s.aborted p = some t) : t.pending = s.pending := by
  unfold State.aborted at h
  extract_lets w at h
  split at h
  · exact Option.some.inj h ▸ State.abortDestroy_pending ..
  · exact Option.some.inj h ▸ State.abortRevoke_pending ..
  · exact Option.some.inj h ▸ State.abortCarve_pending ..
  · exact Option.some.inj (Option.ite_none_right_eq_some.mp h).2 ▸ State.abortCopy_pending ..
  · exact Option.some.inj h ▸ State.abortFlush_pending ..
  · exact Option.some.inj (Option.ite_none_right_eq_some.mp h).2 ▸ State.abortSwap_pending ..
  · exact Option.some.inj h ▸ State.abortUnload_pending ..
  · exact Option.some.inj h ▸ State.gclDiscard_pending ..
  · exact Option.some.inj (Option.ite_none_right_eq_some.mp h).2 ▸ State.abortLoad_pending ..
  · cases h

@[simp] theorem State.cancelGrant_pending (s : State) (base : Nat) : (s.cancelGrant base).pending = s.pending := by
  simp only [State.cancelGrant]
  split <;> simp

@[simp] theorem State.undo_pending (s : State) (p : PendCmd) : (s.undo p).pending = s.pending := by
  simp only [State.undo]
  repeat' split
  all_goals simp

@[simp] theorem State.undoStale_pending (s : State) : s.undoStale.pending = s.pending := by simp [State.undoStale]

/-! ## Meanings of the host endpoint's and the downstream ports' events and registers -/

@[simp] theorem State.kickHost_pending (s : State) : s.kickHost.pending = s.pending := by simp [State.kickHost]

@[simp] theorem State.linkChange_pending (s : State) (up : Bool) (rate width : Nat) : (s.linkChange up rate width).pending = s.pending := by
  simp [State.linkChange]

@[simp] theorem execUpstreamLinkChange_leaves (up : Bool) (rate : BitVec 4) (width : BitVec 5) (s : State) :
    LeavesQueue s (execUpstreamLinkChange up rate width s) := State.linkChange_pending ..

@[simp] theorem State.fillConfig_pending (s : State) : s.fillConfig.pending = s.pending := (rfl)

@[simp] theorem State.msixOn_pending (s : State) (f : Nat) : (s.msixOn f).pending = s.pending := by simp [State.msixOn]

@[simp] theorem State.cfgWrite_pending (s : State) (f : Nat) (a : CfgAccess) : (s.cfgWrite f a).pending = s.pending := by
  unfold State.cfgWrite
  extract_lets +onlyGivenNames c pf
  have hf : ∀ h, (pf h).pending = s.pending := fun h => ite_pending rfl rfl
  split
  case h_2 => exact ite_pending (State.pending_setFn ..) rfl
  case h_3 => exact ite_pending rfl ((State.kickHost_pending ..).trans (State.pending_setFn ..))
  case h_6 =>
    extract_lets +onlyGivenNames t
    have ht : t.pending = s.pending := State.pending_setFn ..
    exact ite_pending ((State.msixOn_pending ..).trans ht) ht
  case h_12 => exact ite_pending (hf _) rfl
  case h_1 | h_4 | h_5 | h_13 => rfl
  all_goals exact hf _

@[simp] theorem State.configRequest_pending (s : State) (f : Nat) (a : CfgAccess) : (s.configRequest f a).pending = s.pending := by
  simp [State.configRequest]

@[simp] theorem execConfigRequest_leaves (fn : Fin 2048) (access : CfgAccess) (s : State) :
    LeavesQueue s (execConfigRequest fn access s) := State.configRequest_pending ..

@[simp] theorem State.showVfs_pending (s : State) : s.showVfs.pending = s.pending := by simp [State.showVfs]

@[simp] theorem State.vfsChanged_pending (s : State) : s.vfsChanged.pending = s.pending := by simp [State.vfsChanged]

@[simp] theorem execVfEnableSet_leaves (s : State) :
    LeavesQueue s (execVfEnableSet s) := by simp [execVfEnableSet]

@[simp] theorem State.vfDisable_pending (s : State) : s.vfDisable.pending = s.pending := by simp [State.vfDisable]

@[simp] theorem execVfEnableClear_leaves (s : State) :
    LeavesQueue s (execVfEnableClear s) := by simp [execVfEnableClear]

@[simp] theorem execNumvfsWrite_leaves (value : BitVec 16) (s : State) :
    LeavesQueue s (execNumvfsWrite value s) := by simp [execNumvfsWrite]

@[simp] theorem State.powerState_pending (s : State) (f : Nat) (d3 : Bool) : (s.powerState f d3).pending = s.pending := by
  simp [State.powerState]

@[simp] theorem execPowerstateWrite_leaves (fn : Fin 2048) (d3hot : Bool) (s : State) :
    LeavesQueue s (execPowerstateWrite fn d3hot s) := by simp [execPowerstateWrite]

@[simp] theorem execPmeTurnOff_leaves (s : State) :
    LeavesQueue s (execPmeTurnOff s) := by simp [execPmeTurnOff]

@[simp] theorem State.entryReadFailed_pending (s : State) (q : Nat) : (s.entryReadFailed q).pending = s.pending := by
  simp [State.entryReadFailed]

@[simp] theorem State.staleRead_pending (s : State) (r : TagReq) : (s.staleRead r).pending = s.pending := by
  simp only [State.staleRead]
  repeat' split
  all_goals simp

@[simp] theorem State.readFailed_pending (s : State) (r : TagReq) : (s.readFailed r).pending = s.pending := by
  simp only [State.readFailed]
  split <;> simp

@[simp] theorem State.readData_pending (s : State) (r : TagReq) (data : List Byte) : (s.readData r data).pending = s.pending := by
  simp only [State.readData]
  split <;> simp

@[simp] theorem execHostReadCompletion_leaves (tag : BitVec 14) (status : CplStatus) (data : List Byte) (s : State) :
    LeavesQueue s (execHostReadCompletion tag status data s) := by
  simp only [execHostReadCompletion]
  repeat' split
  all_goals simp

@[simp] theorem execCompletionTimeout_leaves (tag : BitVec 14) (s : State) :
    LeavesQueue s (execCompletionTimeout tag s) := by
  simp only [execCompletionTimeout]
  split <;> simp

@[simp] theorem execLateCompletion_leaves (tag : BitVec 14) (s : State) :
    LeavesQueue s (execLateCompletion tag s) := by
  simp only [execLateCompletion]
  split <;> simp

@[simp] theorem execTagQuarantineExpiry_leaves (tag : BitVec 14) (s : State) :
    LeavesQueue s (execTagQuarantineExpiry tag s) := by
  simp only [execTagQuarantineExpiry]
  split <;> simp

@[simp] theorem State.peerRequest_pending (s : State) (rid off bytes : Nat) (access : PeerAccess) (atomic : Bool) :
    (s.peerRequest rid off bytes access atomic).pending = s.pending := by
  simp only [State.peerRequest]
  repeat' split
  all_goals simp

@[simp] theorem execPeerWindowRequest_leaves (rid : BitVec 16) (offset : BitVec 38) (bytes : BitVec 13) (access : PeerAccess)
    (atomic : Bool) (s : State) :
    LeavesQueue s (execPeerWindowRequest rid offset bytes access atomic s) := by simp [execPeerWindowRequest]

@[simp] theorem State.winCtl_pending (s : State) (n v : Nat) : (s.winCtl n v).pending = s.pending := by simp [State.winCtl]

@[simp] theorem execPeerWinCommit_leaves (mid : BitVec 13) (window : Fin 64) (value : Word) (s : State) :
    LeavesQueue s (execPeerWinCommit mid window value s) := by simp [execPeerWinCommit]

@[simp] theorem State.winNext_pending (s : State) (n : Nat) (p : PendCmd) : (s.winNext n p).pending = s.pending := by simp [State.winNext]

@[simp] theorem State.winDrained_pending (s : State) (n : Nat) : (s.winDrained n).pending = s.pending := by
  simp only [State.winDrained]
  repeat' split
  all_goals simp

@[simp] theorem execPeerWinDrained_leaves (window : Fin 64) (s : State) :
    LeavesQueue s (execPeerWinDrained window s) := State.winDrained_pending ..

@[simp] theorem execL0pNarrow_leaves (s : State) :
    LeavesQueue s (execL0pNarrow s) := by simp [execL0pNarrow]

@[simp] theorem execL0pWiden_leaves (s : State) :
    LeavesQueue s (execL0pWiden s) := by simp [execL0pWiden]

@[simp] theorem execL1Request_leaves (s : State) :
    LeavesQueue s (execL1Request s) := by simp [execL1Request]

@[simp] theorem State.pmCfg_pending (s : State) (v : Nat) : (s.pmCfg v).pending = s.pending := by simp [State.pmCfg]

@[simp] theorem execHstPmCfgEnable_leaves (mid : BitVec 13) (value : Word) (s : State) :
    LeavesQueue s (execHstPmCfgEnable mid value s) := by simp [execHstPmCfgEnable]

@[simp] theorem State.cplCfg_pending (s : State) (v : Nat) : (s.cplCfg v).pending = s.pending := by simp [State.cplCfg]

@[simp] theorem execHstCplTimeoutOverride_leaves (mid : BitVec 13) (value : Word) (s : State) :
    LeavesQueue s (execHstCplTimeoutOverride mid value s) := by simp [execHstCplTimeoutOverride]

/-! ## Meanings of the instances' commands and events -/

@[simp] theorem State.createAdmin_pending (s : State) (i : Nat) : (s.createAdmin i).pending = s.pending := by
  simp only [State.createAdmin]
  split <;> simp

@[simp] theorem State.createDone_pending (s : State) (i : Nat) : (s.createDone i).1.pending = s.pending := by simp [State.createDone]

@[simp] theorem insState_pending (s : State) (i : Nat) : (insState s i).state.pending = s.pending := (rfl)

@[simp] theorem State.makeInst_pending (s : State) (i : Nat) (v : Inst) : (s.makeInst i v).2.2.pending = s.pending := by
  obtain ⟨x, hx⟩ : ∃ x, s.makeInst i v = x := ⟨_, rfl⟩
  rw [hx]
  generalize hf : State.makeInst = f at hx
  delta State.makeInst at hf
  subst hf
  beta_reduce at hx
  extract_lets size t u at hx
  split at hx
  next now w h =>
    have e := pending_of_eq h
    rw [State.incGen_pending, State.clsCreate_pending, State.pending_setInst, State.reserveRange_pending] at e
    split at hx
    · split at hx
      next h' =>
        have e' := State.createDone_pending w i
        rw [h'] at e'
        rw [← hx, ← e, ← e']
    · rw [← hx, ← e]

@[simp] theorem insCreateSpec_pending (c : Cmd) (s : State) : (insCreateSpec.body c s).state.pending = s.pending := by
  change (guards _ _).state.pending = _
  extract_lets owed short
  refine guards_pending (by simp) (Cmd.checked_pending _ (guards_pending (by simp [owed, short, Cmd.adminRing]) ?_))
  split
  next h => exact (pending_of_eq_triple h).trans (State.makeInst_pending ..)
  next h => exact (pending_of_eq_triple h).trans (State.makeInst_pending ..)

@[simp] theorem execInsCreate_leaves (e : AdminEntry) (s : State) :
    LeavesQueue s (execInsCreate e s) :=
  State.runCmd_pending insCreateSpec_pending s e

@[simp] theorem insDestroySpec_pending (c : Cmd) (s : State) : (insDestroySpec.body c s).state.pending = s.pending := by
  simp [insDestroySpec]

@[simp] theorem execInsDestroy_leaves (e : AdminEntry) (s : State) :
    LeavesQueue s (execInsDestroy e s) := by
  simp only [execInsDestroy]
  split <;> simp

@[simp] theorem insResetSpec_pending (c : Cmd) (s : State) : (insResetSpec.body c s).state.pending = s.pending := by
  simp only [insResetSpec, Cmd.checked_state]
  by_cases h : bitAt (c.p 0) 0 <;> simp [h, Cmd.adminRing]

@[simp] theorem execInsReset_leaves (e : AdminEntry) (s : State) :
    LeavesQueue s (execInsReset e s) := by simp [execInsReset]

@[simp] theorem insSetQuotaSpec_pending (c : Cmd) (s : State) : (insSetQuotaSpec.body c s).state.pending = s.pending := by
  simp [insSetQuotaSpec]

@[simp] theorem execInsSetQuota_leaves (e : AdminEntry) (s : State) :
    LeavesQueue s (execInsSetQuota e s) :=
  State.runCmd_pending insSetQuotaSpec_pending s e

@[simp] theorem insQuerySpec_pending (c : Cmd) (s : State) : (insQuerySpec.body c s).state.pending = s.pending := (rfl)

@[simp] theorem execInsQuery_leaves (e : AdminEntry) (s : State) :
    LeavesQueue s (execInsQuery e s) :=
  State.runCmd_pending insQuerySpec_pending s e

@[simp] theorem insSuspendSpec_pending (c : Cmd) (s : State) : (insSuspendSpec.body c s).state.pending = s.pending := by
  simp [insSuspendSpec]

@[simp] theorem execInsSuspend_leaves (e : AdminEntry) (s : State) :
    LeavesQueue s (execInsSuspend e s) := by
  simp only [execInsSuspend]
  split <;> simp

@[simp] theorem insResumeSpec_pending (c : Cmd) (s : State) : (insResumeSpec.body c s).state.pending = s.pending := by simp [insResumeSpec]

@[simp] theorem execInsResume_leaves (e : AdminEntry) (s : State) :
    LeavesQueue s (execInsResume e s) :=
  State.runCmd_pending insResumeSpec_pending s e

@[simp] theorem execHostFacingResetEnd_leaves (iid : Fin 2048) (s : State) :
    LeavesQueue s (execHostFacingResetEnd iid s) := State.hostResetEnd_pending ..

@[simp] theorem execGenerationIncrementDue_leaves (iid : Fin 2048) (s : State) :
    LeavesQueue s (execGenerationIncrementDue iid s) := by
  simp only [execGenerationIncrementDue]
  repeat' split
  all_goals simp

@[simp] theorem State.mgrAdmin_pending (s : State) (v : Nat) : (s.mgrAdmin v).pending = s.pending := by
  simp only [State.mgrAdmin]
  repeat' split
  all_goals simp

@[simp] theorem execInsMgrAdminEnable_leaves (mid : BitVec 13) (value : Word) (s : State) :
    LeavesQueue s (execInsMgrAdminEnable mid value s) := by simp [execInsMgrAdminEnable]

@[simp] theorem State.insSel_pending (s : State) (i : Nat) : (s.insSel i).pending = s.pending := by
  simp only [State.insSel]
  exact foldl_pending (by simp) _ _

@[simp] theorem execInsSelWrite_leaves (mid : BitVec 13) (iid : Fin 2048) (s : State) :
    LeavesQueue s (execInsSelWrite mid iid s) := by simp [execInsSelWrite]

/-! ## The enable, check and lock of a block -/

@[simp] theorem State.dropBlock_pending (s : State) (b : Nat) : (s.dropBlock b).pending = s.pending := (rfl)

@[simp] theorem State.blkOff_pending (s : State) (b : Nat) : (s.blkOff b).pending = s.pending := (rfl)

@[simp] theorem State.blkApply_pending (s : State) (b v : Nat) : (s.blkApply b v).pending = s.pending := by simp [State.blkApply]

@[simp] theorem State.blkWrite_pending (s : State) (b v : Nat) : (s.blkWrite b v).pending = s.pending := by simp [State.blkWrite]

@[simp] theorem State.blkVerdict_pending (s : State) (b : Nat) : (s.blkVerdict b).pending = s.pending := by
  simp only [State.blkVerdict]
  split <;> simp [-State.setReg_pending, -State.setF_pending]

@[simp] theorem State.blkCheckEnd_pending (s : State) (b : Nat) : (s.blkCheckEnd b).pending = s.pending := by
  simp only [State.blkCheckEnd]
  repeat' split
  all_goals simp

@[simp] theorem State.blkBoot_pending (s : State) (b : Nat) : (s.blkBoot b).pending = s.pending :=
  (State.pending_setF ..).trans (State.blkVerdict_pending ..)

/-! ## The boot record in MRAM -/

@[simp] theorem State.writeBoot_pending (s : State) (f : Nat → Nat) : (s.writeBoot f).pending = s.pending := by simp [State.writeBoot]

/-! ## Operations on the downstream slots and the drives behind them -/

@[simp] theorem State.slotPerst_pending (s : State) (p : Nat) (asserted : Bool) : (s.slotPerst p asserted).pending = s.pending := (rfl)

@[simp] theorem State.slotPowerOn_pending (s : State) (p : Nat) : (s.slotPowerOn p).pending = s.pending := (rfl)

@[simp] theorem State.setTarget_pending (s : State) (p : Nat) (on : Bool) : (s.setTarget p on).pending = s.pending := (rfl)

@[simp] theorem State.slotOff_pending (s : State) (p pwr attn : Nat) : (s.slotOff p pwr attn).pending = s.pending := by simp [State.slotOff]

@[simp] theorem State.linkLost_pending (s : State) (p : Nat) : (s.linkLost p).pending = s.pending := by simp [State.linkLost]

@[simp] theorem State.driveAnswer_pending (s : State) (d : DriveCmd) (status : Nat) : (s.driveAnswer d status).pending = s.pending := by
  simp only [State.driveAnswer]
  split <;> simp

@[simp] theorem State.driveGone_pending (s : State) (d : DriveCmd) : (s.driveGone d).pending = s.pending := by
  simp only [State.driveGone]
  split <;> simp

@[simp] theorem State.failHeld_pending (s : State) (p : Nat) : (s.failHeld p).pending = s.pending := by simp [State.failHeld]

@[simp] theorem State.failDrive_pending (s : State) (p : Nat) : (s.failDrive p).pending = s.pending := by simp [State.failDrive]

@[simp] theorem State.dpc_pending (s : State) (p reason source : Nat) : (s.dpc p reason source).pending = s.pending := by simp [State.dpc]

/-! ## The sequencers -/

@[simp] theorem State.settleSwap_pending (s : State) (g : Nat) : (s.settleSwap g).pending = s.pending := by
  simp only [State.settleSwap]
  repeat' split
  all_goals simp

@[simp] theorem State.trapBoundary_pending (s : State) (q : Nat) : (s.trapBoundary q).pending = s.pending := by simp [State.trapBoundary]

@[simp] theorem State.takeTrap_pending (s : State) (q : Nat) (r : Routine) (cause code : Nat) :
    (s.takeTrap q r cause code).pending = s.pending := by
  simp only [State.takeTrap]
  split <;> simp

@[simp] theorem State.slotFreed_pending (s : State) (q : Nat) : (s.slotFreed q).pending = s.pending := by
  simp only [State.slotFreed]
  split <;> simp

@[simp] theorem State.abortConn_pending (s : State) (r : Routine) : (s.abortConn r).pending = s.pending := by
  simp only [State.abortConn]
  repeat' split
  all_goals simp

@[simp] theorem State.trapGo_pending (s : State) (q slot : Nat) (abort : Bool) : (s.trapGo q slot abort).pending = s.pending := by
  simp only [State.trapGo]
  split <;> simp

@[simp] theorem State.drawRegs_pending (s : State) (fuel : Nat) : (s.drawRegs fuel).2.pending = s.pending := by
  induction fuel generalizing s with
  | zero => rfl
  | succ fuel ih => simp [State.drawRegs, ih]

@[simp] theorem State.context_pending (s : State) (c : Nat) : (s.context c).2.pending = s.pending := by
  obtain ⟨x, hx⟩ : ∃ x, s.context c = x := ⟨_, rfl⟩
  rw [hx]
  generalize hf : State.context = f at hx
  delta State.context at hf
  subst hf
  beta_reduce at hx
  split at hx
  next h => rw [← hx]
  next h => rw [← hx, pending_of_eq h, State.reach_pending]

@[simp] theorem State.startRoutine_pending (s : State) (q n : Nat) : (s.startRoutine q n).pending = s.pending := by
  obtain ⟨context, hc⟩ : ∃ f, State.context = f := ⟨_, rfl⟩
  obtain ⟨drawRegs, hd⟩ : ∃ f, State.drawRegs = f := ⟨_, rfl⟩
  have context_pending : ∀ s n, (context s n).2.pending = s.pending := hc ▸ State.context_pending
  have drawRegs_pending : ∀ s n, (drawRegs s n).2.pending = s.pending := hd ▸ State.drawRegs_pending
  unfold State.startRoutine
  rw [hc, hd]
  extract_lets v g
  split
  · rfl
  · split
    · rfl
    · split
      · rfl
      · split
        · rfl
        · split
          next h1 =>
            split
            next h2 =>
              split
              next h3 =>
                rw [State.setSeq_pending, pending_of_eq h3, context_pending, pending_of_eq h2, State.pending_draw, pending_of_eq h1,
                  drawRegs_pending]

@[simp] theorem State.endRoutine_pending (s : State) (q : Nat) (r : Routine) : (s.endRoutine q r).pending = s.pending := by
  simp only [State.endRoutine]
  split
  · simp
  · simp
    split <;> simp

@[simp] theorem ctxPort_leaves (s : State) (r : Routine) (o : PortOp) :
    PortLeaves s (ctxPort s r o) := by
  simp only [ctxPort]
  repeat' split
  all_goals simp

@[simp] theorem framePort_leaves (s : State) (r : Routine) (o : PortOp) :
    PortLeaves s (framePort s r o) := by
  unfold framePort
  split
  · trivial
  next p _ =>
    extract_lets +onlyGivenNames a n room put
    have hp : ∀ t d, t.pending = s.pending → PortLeaves s (put t d) := fun t d h => (State.storeBuf_pending ..).trans h
    split
    · exact PortLeaves.of_ite trivial rfl
    · exact PortLeaves.of_ite trivial (hp _ _ rfl)
    · refine PortLeaves.of_ite trivial ?_
      split
      next bs t ht => exact hp _ _ ((pending_of_eq ht).trans (State.drawBytes_pending ..))
    · exact PortLeaves.of_ite trivial (hp _ _ rfl)
    · exact PortLeaves.of_ite trivial (hp _ _ rfl)
    · exact rfl

@[simp] theorem entryPort_leaves (s : State) (r : Routine) (o : PortOp) :
    PortLeaves s (entryPort s r o) := by
  unfold entryPort
  extract_lets +onlyGivenNames a
  refine (portLeaves_ite ..).2 ?_
  split
  · exact rfl
  · split
    · trivial
    · extract_lets +onlyGivenNames bytes
      split
      · split
        · trivial
        · exact rfl
      · split
        · trivial
        · extract_lets +onlyGivenNames touched e' t
          have ht : t.pending = s.pending := by
            unfold t
            split
            · exact State.setConn_pending ..
            · rfl
          exact ht
      · extract_lets +onlyGivenNames st t qp
        have ht : t.pending = s.pending := State.completeAt_pending ..
        exact ite_pending ((State.qpError_pending ..).trans ht) ht
      · exact rfl

@[simp] theorem State.post_pending (s : State) (r : Routine) (o : PortOp) : (s.post r o).pending = s.pending := (rfl)

@[simp] theorem postedPort_leaves (s : State) (r : Routine) (o : PortOp) :
    PortLeaves s (postedPort s r o) := by simp [postedPort]

@[simp] theorem State.setTimer_pending (s : State) (c : Nat) (b : Bool) : (s.setTimer c b).pending = s.pending := by
  simp only [State.setTimer]
  split <;> simp

@[simp] theorem emitPort_leaves (s : State) (q : Nat) (r : Routine) (o : PortOp) :
    PortLeaves s (emitPort s q r o) := by
  simp only [emitPort]
  repeat' split
  all_goals simp

@[simp] theorem notifyPort_leaves (s : State) (q : Nat) (r : Routine) (o : PortOp) :
    PortLeaves s (notifyPort s q r o) := by
  simp only [notifyPort]
  repeat' split
  all_goals simp

@[simp] theorem devPort_leaves (s : State) (r : Routine) (o : PortOp) :
    PortLeaves s (devPort s r o) := by
  simp only [devPort]
  split <;> simp

@[simp] theorem portStep_leaves (s : State) (q : Nat) (r : Routine) (o : PortOp) :
    PortLeaves s (portStep s q r o) := by
  simp only [portStep]
  split <;> simp

theorem microword_pending {s : State} {q : Nat} {r : Routine} {parity : Option Bool} {x : State × Routine × Bool × Option Nat}
    (h : microword s q r parity = .ok x) : x.1.pending = s.pending := by
  unfold microword at h
  extract_lets +onlyGivenNames bank mw n at h
  split at h
  next => cases h
  next =>
    rcases ite_eq_iff.1 h with ⟨-, h'⟩ | ⟨-, h'⟩
    next => cases h'
    next =>
      clear h
      extract_lets +onlyGivenNames imm r0 b at h'
      split at h'
      next => cases h'
      next t r1 ld1 h1 =>
        split at h'
        next => cases h'
        next u r2 ld2 h2 =>
          have hu : u.pending = s.pending := ((portStep_leaves ..).of_eq h2).trans ((portStep_leaves ..).of_eq h1)
          split at h'
          next res flags _ =>
            split at h'
            next v w hw =>
              have hwp : w.pending = s.pending := by rw [pending_of_eq hw, State.pending_draw, hu]
              extract_lets +onlyGivenNames r3 r4 load r5 f r6 at h'
              split at h'
              next => cases h'
              next =>
                cases h'
                exact hwp

/-! ## Meanings of the downstream ports' events and registers -/

@[simp] theorem State.contain_pending (s : State) (p reason source : Nat) : (s.contain p reason source).pending = s.pending := by
  simp [State.contain]

@[simp] theorem execSlotPresenceChange_leaves (port : Fin 4) (present : Bool) (s : State) :
    LeavesQueue s (execSlotPresenceChange port present s) := by
  simp only [execSlotPresenceChange]
  repeat' split
  all_goals simp

@[simp] theorem State.powerOn_pending (s : State) (p : Nat) : (s.powerOn p).pending = s.pending := by
  simp only [State.powerOn]
  split <;> simp

@[simp] theorem State.slotCtl_pending (s : State) (p v : Nat) : (s.slotCtl p v).pending = s.pending := by simp [State.slotCtl]

@[simp] theorem execSlotPowerOn_leaves (mid : BitVec 13) (port : Fin 4) (value : Word) (s : State) :
    LeavesQueue s (execSlotPowerOn mid port value s) := by simp [execSlotPowerOn]

@[simp] theorem execSlotPowerGood_leaves (port : Fin 4) (s : State) :
    LeavesQueue s (execSlotPowerGood port s) := by simp [execSlotPowerGood]

@[simp] theorem State.latchPower_pending (s : State) (p : Nat) : (s.latchPower p).pending = s.pending := by simp [State.latchPower]

@[simp] theorem execSlotPowerGoodTimeout_leaves (port : Fin 4) (s : State) :
    LeavesQueue s (execSlotPowerGoodTimeout port s) := by simp [execSlotPowerGoodTimeout]

@[simp] theorem execSlotLinkActive_leaves (port : Fin 4) (rate : BitVec 4) (width : BitVec 5) (s : State) :
    LeavesQueue s (execSlotLinkActive port rate width s) := by simp [execSlotLinkActive]

@[simp] theorem execSlotTrainingTimeout_leaves (port : Fin 4) (s : State) :
    LeavesQueue s (execSlotTrainingTimeout port s) := by simp [execSlotTrainingTimeout]

@[simp] theorem execAttentionButton_leaves (port : Fin 4) (s : State) :
    LeavesQueue s (execAttentionButton port s) := by
  simp only [execAttentionButton]
  repeat' split
  all_goals simp

@[simp] theorem execRemovalTimeout_leaves (port : Fin 4) (s : State) :
    LeavesQueue s (execRemovalTimeout port s) := by simp [execRemovalTimeout]

@[simp] theorem execRemovalDrainEnd_leaves (port : Fin 4) (s : State) :
    LeavesQueue s (execRemovalDrainEnd port s) := by simp [execRemovalDrainEnd]

@[simp] theorem execSlotPowerFault_leaves (port : Fin 4) (s : State) :
    LeavesQueue s (execSlotPowerFault port s) := by simp [execSlotPowerFault]

@[simp] theorem execDpcErrMessage_leaves (port : Fin 4) (severity : Fin 3) (source : BitVec 16) (s : State) :
    LeavesQueue s (execDpcErrMessage port severity source s) := by simp [execDpcErrMessage]

@[simp] theorem execSurpriseDown_leaves (port : Fin 4) (s : State) :
    LeavesQueue s (execSurpriseDown port s) := by simp [execSurpriseDown]

@[simp] theorem State.dpcCtl_pending (s : State) (p v : Nat) : (s.dpcCtl p v).pending = s.pending := by simp [State.dpcCtl]

@[simp] theorem execDpcSwTrigger_leaves (mid : BitVec 13) (port : Fin 4) (value : Word) (s : State) :
    LeavesQueue s (execDpcSwTrigger mid port value s) := by simp [execDpcSwTrigger]

@[simp] theorem State.dpcStatus_pending (s : State) (p v : Nat) : (s.dpcStatus p v).pending = s.pending := by simp [State.dpcStatus]

@[simp] theorem execDpcRelease_leaves (mid : BitVec 13) (port : Fin 4) (value : Word) (s : State) :
    LeavesQueue s (execDpcRelease mid port value s) := by simp [execDpcRelease]

@[simp] theorem execDriveRequest_leaves (port : Fin 4) (addr : BitVec 40) (bytes : BitVec 13) (access : PeerAccess) (s : State) :
    LeavesQueue s (execDriveRequest port addr bytes access s) := by
  unfold execDriveRequest
  split <;> simp

/-! ## Resources taken out of service and brought back, for retirement and for test -/

@[simp] theorem State.chanLeave_pending (s : State) (c : Nat) : (s.chanLeave c).pending = s.pending := by
  obtain ⟨t, ht⟩ : ∃ t, s.chanLeave c = t := ⟨_, rfl⟩
  rw [ht]
  generalize hf : State.chanLeave = f at ht
  delta State.chanLeave at hf
  subst hf
  beta_reduce at ht
  extract_lets on homed bound at ht
  split at ht
  next lost u h =>
    have hp : ∀ (s : State) a t, s.takeOther none = (a, t) → t.pending = s.pending :=
      fun s a t h => by rw [pending_of_eq h, State.takeOther_pending]
    have e := pending_of_eq h
    rw [State.reserveMoves_pending hp, State.moveTables_pending, State.cancelMoves_pending] at e
    rw [← ht, State.startMove_pending, foldl_pending (by simp), e]

@[simp] theorem State.routineAbort_pending (s : State) (r : Routine) : (s.routineAbort r).pending = s.pending :=
  (State.settleConn_pending ..).trans ((State.abortConn_pending ..).trans (State.dropFrame_pending ..))

@[simp] theorem State.seqLeave_pending (s : State) (q : Nat) : (s.seqLeave q).pending = s.pending := by simp [State.seqLeave]

@[simp] theorem State.portLeave_pending (s : State) (p : Nat) : (s.portLeave p).pending = s.pending := by simp [State.portLeave]

@[simp] theorem State.takeOut_pending (s : State) (r : Nat) (retiring : Bool) : (s.takeOut r retiring).pending = s.pending := by
  simp only [State.takeOut]
  split <;> simp

@[simp] theorem State.coreBack_pending (s : State) (k c : Nat) : (s.coreBack k c).pending = s.pending := by simp [State.coreBack]

@[simp] theorem State.regionBack_pending (s : State) (i : Nat) : (s.regionBack i).pending = s.pending := by simp [State.regionBack]

@[simp] theorem State.putBack_pending (s : State) (r : Nat) : (s.putBack r).pending = s.pending := by
  simp only [State.putBack]
  split <;> simp

@[simp] theorem State.runChecker_pending (s : State) (n : Nat) : (s.runChecker n).pending = s.pending := by simp [State.runChecker]

@[simp] theorem State.stopLane_pending (s : State) (n : Nat) : (s.stopLane n).pending = s.pending := by simp [State.stopLane]

@[simp] theorem State.endTest_pending (s : State) (r : Nat) : (s.endTest r).pending = s.pending := by
  unfold State.endTest
  split
  next => rfl
  next =>
    extract_lets +onlyGivenNames s₁ t s₂
    have hs₁ : s₁.pending = s.pending := by
      unfold s₁
      split
      next => rw [State.setF_pending, State.stopLane_pending]
      next => rfl
    have hs₂ : s₂.pending = s₁.pending := State.dropClaim_pending ..
    split
    next => rw [State.modeEvent_pending, hs₂, hs₁]
    next => rw [hs₂, hs₁]

@[simp] theorem State.retireBegin_pending (s : State) (r : Nat) : (s.retireBegin r).pending = s.pending := by
  simp only [State.retireBegin]
  split <;> simp

@[simp] theorem State.retireNext_pending (s : State) (kind : Nat) : (s.retireNext kind).pending = s.pending := by
  simp only [State.retireNext]
  repeat' split
  all_goals simp

@[simp] theorem State.settlePlaced_pending (s : State) : s.settlePlaced.pending = s.pending := by simp [State.settlePlaced]

@[simp] theorem State.retireFinish_pending (s : State) (r : Nat) : (s.retireFinish r).pending = s.pending := by
  simp only [State.retireFinish]
  repeat' split
  all_goals simp

@[simp] theorem State.releaseHold_pending (s : State) (kind : Nat) : (s.releaseHold kind).pending = s.pending := by
  simp only [State.releaseHold]
  split <;> simp

@[simp] theorem State.restored_pending (s : State) (r : Nat) : (s.restored r).pending = s.pending := by simp [State.restored]

/-! ## The protocols of the shipped microcode -/

@[simp] theorem State.scatter_pending (s : State) (inst : Nat) (l : List Seg) (fuel : Nat) (l' : List Byte) :
    (s.scatter inst l fuel l').pending = s.pending := by
  induction l generalizing s fuel l' with
  | nil => rfl
  | cons x l ih => simp [State.scatter, ih]

@[simp] theorem State.modConn_pending (s : State) (c : Nat) (f : Conn → Conn) : (s.modConn c f).pending = s.pending := by
  simp only [State.modConn]
  split <;> simp

@[simp] theorem State.connFrameOut_pending (s : State) (v : Conn) (bytes : List Byte) : (s.connFrameOut v bytes).pending = s.pending := by
  simp only [State.connFrameOut]
  split <;> simp

@[simp] theorem State.roceSend_pending (s : State) (c op psn : Nat) (ext data : List Byte) :
    (s.roceSend c op psn ext data).pending = s.pending := by
  simp only [State.roceSend]
  split <;> simp

@[simp] theorem State.nak_pending (s : State) (c syndrome psn : Nat) : (s.nak c syndrome psn).pending = s.pending := by
  simp only [State.nak]
  split <;> simp

@[simp] theorem State.ackUp_pending (s : State) (c : Nat) : (s.ackUp c).pending = s.pending := by
  simp only [State.ackUp]
  split <;> simp

@[simp] theorem State.qpFail_pending (s : State) (c index status : Nat) : (s.qpFail c index status).pending = s.pending :=
  (State.qpError_pending ..).trans (State.completeAt_pending ..)

@[simp] theorem State.qpFailOldest_pending (s : State) (c status : Nat) : (s.qpFailOldest c status).pending = s.pending := by
  simp only [State.qpFailOldest]
  split <;> simp

@[simp] theorem State.qpStart_pending (s : State) (c : Nat) (data : Option (List Byte)) : (s.qpStart c data).pending = s.pending := by
  unfold State.qpStart
  split
  next => rfl
  next v _ =>
    split
    next => rfl
    next e _ =>
      extract_lets +onlyGivenNames w read reads
      refine ite_pending rfl (ite_pending (State.qpFail_pending ..) ?_)
      split
      next => exact State.qpFail_pending ..
      next bytes _ =>
        extract_lets +onlyGivenNames total pkts n e' t
        have ht : t.pending = s.pending := State.setConn_pending ..
        exact (foldl_pending (fun s p => State.connFrameOut_pending ..) _ _).trans ht

@[simp] theorem State.qpAcked_pending (s : State) (c psn : Nat) : (s.qpAcked c psn).pending = s.pending := by
  simp only [State.qpAcked]
  split <;> simp

@[simp] theorem State.qpResend_pending (s : State) (c : Nat) : (s.qpResend c).pending = s.pending := by
  simp only [State.qpResend]
  split <;> simp

@[simp] theorem State.qpRetry_pending (s : State) (c : Nat) : (s.qpRetry c).pending = s.pending := by
  simp only [State.qpRetry]
  split <;> simp

@[simp] theorem State.qpAnswer_pending (s : State) (c syndrome psn : Nat) : (s.qpAnswer c syndrome psn).pending = s.pending := by
  simp only [State.qpAnswer]
  repeat' split
  all_goals simp

@[simp] theorem State.readResponse_pending (s : State) (c psn : Nat) (bytes : List Byte) :
    (s.readResponse c psn bytes).pending = s.pending := by
  simp only [State.readResponse]
  repeat' split
  all_goals simp

@[simp] theorem State.cnpIn_pending (s : State) (c : Nat) : (s.cnpIn c).pending = s.pending := by
  simp only [State.cnpIn]
  split <;> simp

@[simp] theorem State.rateRise_pending (s : State) (c : Nat) : (s.rateRise c).pending = s.pending := State.modConn_pending ..

@[simp] theorem State.nvmeData_pending (s : State) (c index offset : Nat) (bytes : List Byte) :
    (s.nvmeData c index offset bytes).pending = s.pending := by
  simp only [State.nvmeData]
  repeat' split
  all_goals simp

@[simp] theorem State.nvmeDone_pending (s : State) (c index : Nat) (cqe : List Word) : (s.nvmeDone c index cqe).pending = s.pending := by
  simp only [State.nvmeDone]
  repeat' split
  all_goals simp

@[simp] theorem State.remotePut_pending (s : State) (qp owner key addr : Nat) (bs : List Byte) :
    (s.remotePut qp owner key addr bs).pending = s.pending := by
  simp only [State.remotePut]
  repeat' split
  all_goals simp

theorem State.takeRecv_pending {s t : State} {v : Conn} {e : WorkEntry} (h : s.takeRecv v = some (e, t)) : t.pending = s.pending := by
  revert h
  unfold State.takeRecv
  split <;> rintro ⟨⟩
  rfl

@[simp] theorem State.recvDone_pending (s : State) (v : Conn) (e : WorkEntry) (bytes : Nat) (imm : Option Nat) (solicited : Bool) :
    (s.recvDone v e bytes imm solicited).pending = s.pending := State.completeWork_pending ..

@[simp] theorem State.respondFail_pending (s : State) (c syndrome psn : Nat) : (s.respondFail c syndrome psn).pending = s.pending :=
  (State.qpError_pending ..).trans (State.nak_pending ..)

@[simp] theorem State.accepted_pending (s : State) (c n : Nat) (last : Bool) : (s.accepted c n last).pending = s.pending := by
  simp only [State.accepted]
  split <;> simp

@[simp] theorem State.capsuleIn_pending (s : State) (c : Nat) (last : Bool) (data : List Byte) :
    (s.capsuleIn c last data).pending = s.pending := by
  simp only [State.capsuleIn]
  split <;> simp

@[simp] theorem State.sendIn_pending (s : State) (c psn : Nat) (first last : Bool) (imm : Option Nat) (solicited : Bool)
    (data : List Byte) :
    (s.sendIn c psn first last imm solicited data).pending = s.pending := by
  unfold State.sendIn
  split
  · rfl
  next v _ =>
    extract_lets start
    have hs : ∀ e n t, start = some (e, n, t) → t.pending = s.pending := by
      intro e n t h
      unfold start at h
      split at h
      · cases h
        rfl
      · obtain ⟨⟨e', t'⟩, ht, hx⟩ := Option.map_eq_some_iff.1 h
        cases hx
        exact State.takeRecv_pending ht
    clear_value start
    split
    · simp
    · split
      · simp
      · split
        · simp
        next e got u =>
          have hp := hs e got u rfl
          extract_lets segs t n t'
          split
          · simp [hp]
          · split
            · simp [hp]
            · split <;> simp +zetaDelta [hp]

@[simp] theorem State.writeIn_pending (s : State) (c psn : Nat) (reth : Option (Nat × Nat × Nat)) (last : Bool) (imm : Option Nat)
    (solicited : Bool) (data : List Byte) :
    (s.writeIn c psn reth last imm solicited data).pending = s.pending := by
  unfold State.writeIn
  split
  · rfl
  next v _ =>
    split
    · simp
    · split
      · simp
      · extract_lets take
        have hs : ∀ e t, take = some (e, t) → t.pending = s.pending := by
          intro e t h
          unfold take at h
          split at h
          · exact State.takeRecv_pending h
          · cases h
        clear_value take
        split
        · simp
        · split
          next e u hu =>
            have hp : u.pending = s.pending := by
              split at hu
              · cases hu
                exact hs _ _ rfl
              · cases hu
                rfl
            extract_lets a b d
            unfold d
            split <;> simp +zetaDelta [hp]

@[simp] theorem State.readOut_pending (s : State) (c psn len : Nat) (host : List Byte) : (s.readOut c psn len host).pending = s.pending
    := by
  simp only [State.readOut]
  split <;> simp

@[simp] theorem State.cnpOut_pending (s : State) (c : Nat) : (s.cnpOut c).pending = s.pending := by
  simp only [State.cnpOut]
  split <;> simp

@[simp] theorem State.roceIn_pending (s : State) (c : Nat) (b host : List Byte) : (s.roceIn c b host).pending = s.pending := by
  unfold State.roceIn
  split
  · rfl
  · extract_lets op flags psn pad body se opens ahead reth
    refine ite_pending rfl (ite_pending (by simp) (ite_pending (ite_pending (by simp) rfl) (ite_pending (ite_pending (by simp) rfl)
      (ite_pending rfl (ite_pending (by simp) (ite_pending ?_ (ite_pending (ite_pending rfl (by simp)) (ite_pending ?_ (by simp)))))))))
    · clear_value op
      split
      case h_13 => exact ite_pending (by simp) (by simp)
      all_goals simp
    · exact ite_pending (by simp) (by simp)

@[simp] theorem State.roceFrame_pending (s : State) (c : Nat) (p : Pkt) (icrcGood : Bool) (host : List Byte) :
    (s.roceFrame c p icrcGood host).pending = s.pending := by
  simp only [State.roceFrame]
  repeat' split
  all_goals simp

@[simp] theorem State.pduOut_pending (s : State) (c : Nat) (v : Conn) (bytes : List Byte) : (s.pduOut c v bytes).pending = s.pending := by
  simp only [State.pduOut]
  split
  · simp
  · refine foldl_pending (fun s i => ?_) _ _
    split
    next h => simp [pending_of_eq h]
    next => rfl

@[simp] theorem State.connectFail_pending (s : State) (c cause : Nat) : (s.connectFail c cause).pending = s.pending := by
  simp only [State.connectFail]
  split <;> simp

@[simp] theorem State.qpMessage_pending (s : State) (c : Nat) (data : List Byte) : (s.qpMessage c data).pending = s.pending := by
  simp only [State.qpMessage]
  split <;> simp

@[simp] theorem State.nvmeSubmit_pending (s : State) (c : Nat) (data : Option (List Byte)) : (s.nvmeSubmit c data).pending = s.pending := by
  simp only [State.nvmeSubmit]
  repeat' split
  all_goals simp

@[simp] theorem State.h2cData_pending (s : State) (c index ttag offset : Nat) (data : List Byte) :
    (s.h2cData c index ttag offset data).pending = s.pending := by
  simp only [State.h2cData]
  split <;> simp

@[simp] theorem State.tcpRto_pending (s : State) (c : Nat) : (s.tcpRto c).pending = s.pending := by
  simp only [State.tcpRto]
  split <;> simp

@[simp] theorem State.driveDone_pending (s : State) (c index : Nat) (cqe : List Word) (data : List Byte) :
    (s.driveDone c index cqe data).pending = s.pending := by
  simp only [State.driveDone]
  repeat' split
  all_goals simp

@[simp] theorem State.settleKeys_pending (s : State) : s.settleKeys.pending = s.pending := by
  simp only [State.settleKeys]
  refine foldl_pending (fun s e => ?_) _ _
  repeat' split
  all_goals simp

@[simp] theorem State.takeFrameOf_pending (s : State) (q c : Nat) : (s.takeFrameOf q c).2.pending = s.pending := by
  simp only [State.takeFrameOf]
  split <;> simp

@[simp] theorem State.protoStep_pending (s : State) (q c : Nat) (x : ProtoStep) : (s.protoStep q c x).pending = s.pending := by
  unfold State.protoStep
  extract_lets nvme fail
  have hf : ∀ t, (fail t).pending = t.pending := fun t => by
    unfold fail
    split <;> simp
  clear_value fail
  split
  case h_2 =>
    split
    next h => simp [pending_of_eq h]
    next h => simp [pending_of_eq h]
  all_goals repeat' split
  all_goals simp [hf]

@[simp] theorem State.runMicroword_pending (s : State) (q c : Nat) (parity : Option Bool) (steps : List ProtoStep) :
    (s.runMicroword q c parity steps).pending = s.pending := by
  unfold State.runMicroword
  extract_lets v
  split
  · rfl
  · split
    · split <;> simp
    next t r' fin trap hm =>
      have e := microword_pending hm
      extract_lets v t1 t2
      have e2 : t2.pending = s.pending := by
        unfold t2
        rw [State.settleKeys_pending, foldl_pending (fun s x => State.protoStep_pending s q c x), ← e]
        exact State.setSeq_pending ..
      split
      · exact e2
      · split
        · simp [e2]
        · split <;> simp [e2]

/-! ## Meanings of the sequencers' events and commands -/

@[simp] theorem State.refetch_pending (s : State) (q : Nat) : (s.refetch q).pending = s.pending := by simp [State.refetch]

@[simp] theorem execRoutineStart_leaves (seq : Fin 32) (conn : BitVec 16) (s : State) :
    LeavesQueue s (execRoutineStart seq conn s) :=
  (State.refetch_pending ..).trans (State.startRoutine_pending ..)

@[simp] theorem execMicrowordExecute_leaves (seq : Fin 32) (conn : BitVec 16) (parity : Option Bool) (steps : List ProtoStep) (s : State) :
    LeavesQueue s (execMicrowordExecute seq conn parity steps s) := by simp [execMicrowordExecute]

@[simp] theorem execConnectionTimerExpiry_leaves (conn : BitVec 16) (s : State) :
    LeavesQueue s (execConnectionTimerExpiry conn s) := by
  simp only [execConnectionTimerExpiry]
  split <;> simp

@[simp] theorem execTrapResume_leaves (mid : BitVec 13) (seq : Fin 32) (slot : Fin 4) (s : State) :
    LeavesQueue s (execTrapResume mid seq slot s) := by simp [execTrapResume]

@[simp] theorem execTrapAbort_leaves (mid : BitVec 13) (seq : Fin 32) (slot : Fin 4) (s : State) :
    LeavesQueue s (execTrapAbort mid seq slot s) := by simp [execTrapAbort]

@[simp] theorem State.postedRun_pending (s : State) (o : PostedOp) (owner : Nat) (data : Option (List Byte)) :
    (s.postedRun o owner data).2.pending = s.pending := by
  unfold State.postedRun
  extract_lets +onlyGivenNames arg host dev n pas t
  have ht : t.pending = s.pending := by
    unfold t
    split
    · exact State.readNow_pending ..
    · rfl
  clear_value t n dev
  split
  · cases data with
    | none => exact ht
    | some bs => exact snd_pending_of_ite ((State.physWrite_pending ..).trans ht) ht
  · exact snd_pending_of_ite ht ht
  · split
    · exact ht
    · refine snd_pending_of_ite ?_ ht
      dsimp only
      rw [State.setConnFrame_pending, ht]
    · exact ht
  · split
    · exact snd_pending_of_ite ht ht
    · exact ht

@[simp] theorem State.postedEnd_pending (s : State) (o : PostedOp) (data : Option (List Byte)) :
    (s.postedEnd o data).pending = s.pending := by
  simp only [State.postedEnd]
  split <;> simp

@[simp] theorem State.driveEnd_pending (s : State) (d : DriveCmd) (status : Nat) : (s.driveEnd d status).pending = s.pending := by
  simp only [State.driveEnd]
  split <;> simp

@[simp] theorem execPortOperationComplete_leaves (drive : Bool) (index : BitVec 16) (data : Option (List Byte)) (s : State) :
    LeavesQueue s (execPortOperationComplete drive index data s) := by
  simp only [execPortOperationComplete]
  repeat' split
  all_goals simp

@[simp] theorem execDriveCommandTimeout_leaves (index : BitVec 16) (s : State) :
    LeavesQueue s (execDriveCommandTimeout index s) := by
  simp only [execDriveCommandTimeout]
  repeat' split
  all_goals simp

@[simp] theorem State.workEntry_pending (s : State) (q : Nat) (w : List Word) : (s.workEntry q w).pending = s.pending := by
  unfold State.workEntry
  split
  next => rfl
  next c v _ =>
    extract_lets +onlyGivenNames recv need
    refine State.readEntry_pending _ _ _ _ _ fun len => ?_
    extract_lets +onlyGivenNames fault
    clear_value fault
    split
    next => exact State.endEntry_pending ..
    next =>
      refine ite_pending ?_ ?_
      · extract_lets +onlyGivenNames t
        exact (State.endEntry_pending ..).trans (ite_pending (State.pending_bump ..) rfl)
      · extract_lets +onlyGivenNames x w0 e t psq u
        have ht : t.pending = s.pending := State.takeUnits_pending ..
        have hu : u.pending = s.pending := ite_pending ht ((State.setConn_pending ..).trans ht)
        rw [State.fetched_pending, State.trigger_pending, hu]

@[simp] theorem execWorkEntryFetch_leaves (qid : BitVec 16) (words : List Word) (s : State) :
    LeavesQueue s (execWorkEntryFetch qid words s) := State.workEntry_pending ..

@[simp] theorem psqUcodeStageSpec_pending (c : Cmd) (s : State) : (psqUcodeStageSpec.body c s).state.pending = s.pending := by
  unfold psqUcodeStageSpec
  with_reducible change (Cmd.checked c s _ _).state.pending = s.pending
  refine Cmd.checked_pending _ (guards_pending (by simp) ?_)
  obtain ⟨u, hu⟩ : ∃ u, s.readImage c none = u := ⟨_, rfl⟩
  have e : u.pending = s.pending := by rw [← hu, State.readImage_pending]
  rw [hu]
  extract_lets t drop
  unfold drop t
  refine (withClaims_pending (withImage_pending _ ?_)).trans e
  rw [Res.state_pend]
  refine (foldl_pending_of_eq (fun s g t h => ?_) _ _).trans (State.takeClaims_pending ..)
  beta_reduce at h
  rw [← h]
  exact State.markMram_pending ..

@[simp] theorem execPsqUcodeStage_leaves (e : AdminEntry) (s : State) :
    LeavesQueue s (execPsqUcodeStage e s) :=
  State.runCmd_pending psqUcodeStageSpec_pending s e

@[simp] theorem State.stageGroup_pending (s : State) (img : List Byte) (g : Nat) : (s.stageGroup img g).pending = s.pending
    := by rw [State.stageGroup, State.pending_dropClaim, State.setGroup_pending, State.putMram_pending]

@[simp] theorem execUcodeStageEnd_leaves (group : Fin 4) (s : State) :
    LeavesQueue s (execUcodeStageEnd group s) := by
  simp only [execUcodeStageEnd]
  split <;> simp

@[simp] theorem psqBankSwapSpec_pending (c : Cmd) (s : State) : (psqBankSwapSpec.body c s).state.pending = s.pending := by
  simp [psqBankSwapSpec]

@[simp] theorem execPsqBankSwap_leaves (e : AdminEntry) (s : State) :
    LeavesQueue s (execPsqBankSwap e s) := by simp [execPsqBankSwap]

@[simp] theorem State.newConn_pending {s : State} {body : Nat → State → Res} (v : Conn)
    (h : ∀ n t, (body n t).state.pending = t.pending) : (s.newConn v body).state.pending = s.pending := by
  simp only [State.newConn, guards_cons, guards_nil]
  split
  · simp
  · split
    · simp
    · split <;> simp [h]

@[simp] theorem rdmaQpCreateSpec_pending (c : Cmd) (s : State) : (rdmaQpCreateSpec.body c s).state.pending = s.pending := by
  simp [rdmaQpCreateSpec]

@[simp] theorem execRdmaQpCreate_leaves (e : AdminEntry) (s : State) :
    LeavesQueue s (execRdmaQpCreate e s) :=
  State.runCmd_pending rdmaQpCreateSpec_pending s e

@[simp] theorem State.qpMoved_pending (s : State) (c : Cmd) (n : Nat) (v : Conn) (new : Nat) :
    (s.qpMoved c n v new).pending = s.pending := by
  obtain ⟨x, hx⟩ : ∃ x, s.qpMoved c n v new = x := ⟨_, rfl⟩
  rw [hx]
  unfold State.qpMoved at hx
  extract_lets +onlyGivenNames keep t at hx
  rw [← hx, State.trigger_pending]
  subst t
  split
  all_goals simp [-List.reduceReplicate]

@[simp] theorem rdmaQpModifySpec_pending (c : Cmd) (s : State) : (rdmaQpModifySpec.body c s).state.pending = s.pending := by
  dsimp -zeta only [rdmaQpModifySpec]
  extract_lets +onlyGivenNames n new
  refine Cmd.checked_pending _ (guards_pending (by simp) ?_)
  split
  next => rfl
  next => exact Res.ite_pending rfl (State.qpMoved_pending ..)

@[simp] theorem execRdmaQpModify_leaves (e : AdminEntry) (s : State) :
    LeavesQueue s (execRdmaQpModify e s) :=
  State.runCmd_pending rdmaQpModifySpec_pending s e

@[simp] theorem State.finishGone_pending (s : State) : s.finishGone.pending = s.pending := by simp [State.finishGone]

theorem destroySpec_pending {close : Nat → State → State} (op : Nat) (kind : ConnKind)
    (h : ∀ n s, (close n s).pending = s.pending) (c : Cmd) (s : State) :
    ((destroySpec op kind close).body c s).state.pending = s.pending := by
  simp only [destroySpec, Cmd.checked_state]
  split
  · split
    · rfl
    · exact h ..
  · rfl

@[simp] theorem execRdmaQpDestroy_leaves (e : AdminEntry) (s : State) :
    LeavesQueue s (execRdmaQpDestroy e s) := by
  rw [execRdmaQpDestroy, leavesQueue_next, State.finishGone_pending]
  exact State.runCmd_pending (destroySpec_pending _ _ fun n s => State.closeConn_pending ..) _ _

@[simp] theorem rdmaMrRegisterSpec_pending (c : Cmd) (s : State) : (rdmaMrRegisterSpec.body c s).state.pending = s.pending := by
  dsimp -zeta only [rdmaMrRegisterSpec]
  refine Cmd.checked_pending _ ?_
  extract_lets +onlyGivenNames i len mine
  refine guards_pending (by simp) ?_
  have hd : s.draw.2.draw.2.pending = s.pending := (State.pending_draw ..).trans (State.pending_draw ..)
  split
  · exact hd
  · exact hd

@[simp] theorem execRdmaMrRegister_leaves (e : AdminEntry) (s : State) :
    LeavesQueue s (execRdmaMrRegister e s) :=
  State.runCmd_pending rdmaMrRegisterSpec_pending s e

@[simp] theorem rdmaMrDeregisterSpec_pending (c : Cmd) (s : State) : (rdmaMrDeregisterSpec.body c s).state.pending = s.pending := by
  simp only [rdmaMrDeregisterSpec]
  split <;> simp

@[simp] theorem execRdmaMrDeregister_leaves (e : AdminEntry) (s : State) :
    LeavesQueue s (execRdmaMrDeregister e s) := by simp [execRdmaMrDeregister]

@[simp] theorem nvmeCtrlConnectSpec_pending (c : Cmd) (s : State) : (nvmeCtrlConnectSpec.body c s).state.pending = s.pending := by
  dsimp -zeta only [nvmeCtrlConnectSpec]
  refine Cmd.checked_pending _ ?_
  extract_lets +onlyGivenNames i roce tls qp used qpBad ring
  refine guards_pending (by simp) ?_
  refine State.newConn_pending _ fun n t => ?_
  exact Res.ite_pending rfl rfl

@[simp] theorem execNvmeCtrlConnect_leaves (e : AdminEntry) (s : State) :
    LeavesQueue s (execNvmeCtrlConnect e s) :=
  State.runCmd_pending nvmeCtrlConnectSpec_pending s e

@[simp] theorem execNvmeCtrlDisconnect_leaves (e : AdminEntry) (s : State) :
    LeavesQueue s (execNvmeCtrlDisconnect e s) := by
  rw [execNvmeCtrlDisconnect, leavesQueue_next, State.finishGone_pending]
  exact State.runCmd_pending (destroySpec_pending _ _ fun n s => State.closeConn_pending ..) _ _

@[simp] theorem nvmeLocalNsAttachSpec_pending (c : Cmd) (s : State) : (nvmeLocalNsAttachSpec.body c s).state.pending = s.pending := by
  simp [nvmeLocalNsAttachSpec]

@[simp] theorem execNvmeLocalNsAttach_leaves (e : AdminEntry) (s : State) :
    LeavesQueue s (execNvmeLocalNsAttach e s) :=
  State.runCmd_pending nvmeLocalNsAttachSpec_pending s e

@[simp] theorem State.detach_pending (s : State) (n : Nat) : (s.detach n).pending = s.pending := by
  simp only [State.detach]
  split <;> simp

@[simp] theorem execNvmeLocalNsDetach_leaves (e : AdminEntry) (s : State) :
    LeavesQueue s (execNvmeLocalNsDetach e s) := by
  rw [execNvmeLocalNsDetach, leavesQueue_next, State.finishGone_pending]
  exact State.runCmd_pending (destroySpec_pending _ _ fun n s => State.detach_pending ..) _ _

/-! ## Fundamental reset, secure boot and the application of a snapshot -/

@[simp] theorem State.sampleStraps_pending (s : State) : s.sampleStraps.pending = s.pending := (rfl)

@[simp] theorem State.readBoard_pending (s : State) : s.readBoard.pending = s.pending := by simp [State.readBoard]

@[simp] theorem State.reapplyRetired_pending (s : State) : s.reapplyRetired.pending = s.pending := by
  simp only [State.reapplyRetired, State.showRetired_pending]
  refine (foldl_pending (fun s r => ?_) _ _).trans rfl
  split <;> simp

@[simp] theorem State.senseSlots_pending (s : State) (old : NMap Slot) : (s.senseSlots old).pending = s.pending := by
  simp [State.senseSlots]

@[simp] theorem State.wipe_pending (s : State) (power : Bool) : (s.wipe power).pending = s.pending := by simp [State.wipe]

@[simp] theorem State.bootStart_pending (s : State) (cause : Nat) : (s.bootStart cause).pending = s.pending := by
  rw [State.bootStart, State.raiseEs_pending, State.pending_setF, State.pairsUp_pending, State.pending_setF, State.setMode_pending]

@[simp] theorem State.loaderStart_pending (s : State) : s.loaderStart.pending = s.pending := by simp [State.loaderStart]

@[simp] theorem State.setBank_pending (s : State) (b : Nat) (v : BankInfo) : (s.setBank b v).pending = s.pending := (rfl)

@[simp] theorem State.bankCheck_pending (s : State) (b : Nat) : (s.bankCheck b).2.pending = s.pending := by
  unfold State.bankCheck
  split <;> simp

@[simp] theorem State.bootBank_pending (s : State) : s.bootBank.2.pending = s.pending := by
  obtain ⟨x, hx⟩ : ∃ x, s.bootBank = x := ⟨_, rfl⟩
  rw [hx]
  delta State.bootBank at hx
  extract_lets a at hx
  split at hx
  next h => rw [← hx, pending_of_eq h, State.bankCheck_pending]
  next h =>
    split at hx
    next h' =>
      rw [← hx]
      split <;> simp [pending_of_eq h', pending_of_eq h]
    next h' => rw [← hx, pending_of_eq h', State.bankCheck_pending, pending_of_eq h, State.bankCheck_pending]

@[simp] theorem State.setRunning_pending (s : State) (p b : Nat) : (s.setRunning p b).pending = s.pending := (rfl)

@[simp] theorem State.bootRanges_pending (s : State) : s.bootRanges.pending = s.pending := by simp [State.bootRanges]

@[simp] theorem State.bootGroup_pending (s : State) (g : Nat) : (s.bootGroup g).pending = s.pending := (rfl)

@[simp] theorem State.seedTime_pending (s : State) : s.seedTime.pending = s.pending := by
  unfold State.seedTime
  extract_lets +onlyGivenNames good t time u h
  have hu : u.pending = s.pending := State.pending_setF ..
  clear_value u
  refine ite_pending hu ?_
  split
  · exact (State.claimRefused_pending ..).trans hu
  · exact (State.takeClaims_pending ..).trans hu

@[simp] theorem State.restoreClaim_pending (s : State) (c : Nat × Nat) : (s.restoreClaim c).pending = s.pending := by
  simp only [State.restoreClaim]
  repeat' split
  all_goals simp

@[simp] theorem State.restoreGrant_pending (s : State) (g : Nat × Nat) : (s.restoreGrant g).pending = s.pending := by
  have h := State.grantRegion_pending s g.1 g.2
  unfold State.restoreGrant
  split <;> simp_all

@[simp] theorem State.restoreWin_pending (s : State) (n : Nat) (w : PeerWin) : (s.restoreWin n w).pending = s.pending := by
  simp [State.restoreWin]

@[simp] theorem State.restoreRegion_pending (s : State) (r : Nat) (v : Region) : (s.restoreRegion r v).pending = s.pending := by
  simp [State.restoreRegion]

@[simp] theorem State.restore_pending (s : State) (c : SnapConfig) : (s.restore c).pending = s.pending := by
  unfold State.restore
  extract_lets t1 t2 t3 bpm cls tbl swx time frs lan spr t4 t5 t6 t7 t8 t9
  have h3 : t3.pending = s.pending := by
    refine (foldl_pending (fun s e => State.setPort_pending ..) _ _).trans ((State.enterPortMode_pending ..).trans ?_)
    exact foldl_pending (fun s e => State.pending_setReg ..) _ _
  have h5 : t5.pending = s.pending := by
    unfold t5
    split
    · exact (State.setClsInst_pending ..).trans h3
    · exact h3
  have h7 : t7.pending = s.pending := by
    refine (foldl_pending (fun s e => State.pending_setCl ..) _ _).trans ?_
    rw [State.pending_setReg, State.pending_setF, h5]
  rw [State.settleLines_pending, State.settleUpstream_pending, foldl_pending (fun s e => State.restoreWin_pending ..)]
  refine (foldl_pending State.restoreGrant_pending _ _).trans ?_
  exact (foldl_pending State.restoreClaim_pending _ _).trans h7

@[simp] theorem State.recreate_pending (s : State) (i : Nat) (v : Inst) : (s.recreate i v).2.pending = s.pending := by
  obtain ⟨x, hx⟩ : ∃ x, s.recreate i v = x := ⟨_, rfl⟩
  rw [hx]
  generalize hf : State.recreate = f at hx
  delta State.recreate at hf
  subst hf
  beta_reduce at hx
  split at hx
  · exact pending_of_mk hx
  · exact (pending_of_mk hx).trans (State.makeInst_pending ..)

@[simp] theorem State.applySnap_pending (s : State) (k : Nat) : (s.applySnap k).pending = s.pending := by
  simp only [State.applySnap]
  split <;> simp

@[simp] theorem State.bootDone_pending (s : State) : s.bootDone.pending = s.pending := by
  simp only [State.bootDone]
  split <;> simp

@[simp] theorem State.streamBank_pending (s : State) (b : Nat) : (s.streamBank b).pending = s.pending := by simp [State.streamBank]

@[simp] theorem State.relocate_pending (s : State) : s.relocate.pending = s.pending := (rfl)

@[simp] theorem State.bootAct_pending (s : State) (n : Nat) : (s.bootAct n).pending = s.pending := by
  unfold State.bootAct
  extract_lets other
  split
  · simp
  · simp
  · split
    next h => simp [pending_of_eq h]
    next h => simp [pending_of_eq h]
  · simp
  · simp
  · split <;> simp
  · split
    next h => simp [pending_of_eq h]
  · exact foldl_pending (fun s k => State.bootGroup_pending ..) _ _
  · simp +zetaDelta
  · split <;> simp
  · simp
  · simp
  · rfl

@[simp] theorem State.bootStep_pending (s : State) : s.bootStep.pending = s.pending := by simp [State.bootStep]

/-! ## Meanings of the supplies, the power limit and the thermal events -/

@[simp] theorem State.writeBlocks_pending (s : State) (ws : List (Nat × List Byte)) (blocks : Nat) :
    (s.writeBlocks ws blocks).pending = s.pending := by
  unfold State.writeBlocks
  refine List.foldlRecOn (motive := fun x : State × Nat => x.1.pending = s.pending) _ _ rfl fun x hx w _ => ?_
  exact (State.putMram_pending ..).trans hx

@[simp] theorem State.cutWrites_pending (s : State) : s.cutWrites.pending = s.pending := by
  simp only [State.cutWrites]
  refine foldl_pending (fun s e => ?_) _ _
  repeat' split
  all_goals simp

@[simp] theorem State.mainLoss_pending (s : State) : s.mainLoss.pending = s.pending := by simp [State.mainLoss]

@[simp] theorem State.perstRestart_pending (s : State) : s.perstRestart.pending = s.pending := by simp [State.perstRestart]

@[simp] theorem State.mainGood_pending (s : State) : s.mainGood.pending = s.pending := by simp [State.mainGood]

@[simp] theorem State.setStraps_pending (s : State) (boot : Nat) (retainN mgpDis : Bool) :
    (s.setStraps boot retainN mgpDis).pending = s.pending := (rfl)

@[simp] theorem execMainSuppliesGood_leaves (strapBoot : BitVec 2) (strapRetainN strapMgpDis : Bool) (s : State) :
    LeavesQueue s (execMainSuppliesGood strapBoot strapRetainN strapMgpDis s) := by simp [execMainSuppliesGood]

@[simp] theorem execMainSuppliesLost_leaves (s : State) :
    LeavesQueue s (execMainSuppliesLost s) := by simp [execMainSuppliesLost]

@[simp] theorem execSequencingFault_leaves (s : State) :
    LeavesQueue s (execSequencingFault s) := by simp [execSequencingFault]

@[simp] theorem execAuxSuppliesGood_leaves (strapBoot : BitVec 2) (strapRetainN strapMgpDis : Bool) (s : State) :
    LeavesQueue s (execAuxSuppliesGood strapBoot strapRetainN strapMgpDis s) := by
  unfold execAuxSuppliesGood
  rw [leavesQueue_next]
  refine ite_pending rfl ?_
  extract_lets +onlyGivenNames t u v w wake time x
  have ht : t.pending = s.pending := State.resetRegs_pending ..
  have hv : v.pending = s.pending := ht
  have hw : w.pending = s.pending := by
    rw [State.raiseEs_pending, State.readBoard_pending, State.sampleStraps_pending, State.setStraps_pending, hv]
  clear_value w
  refine ite_pending ((State.mainGood_pending ..).trans hw) ?_
  extract_lets +onlyGivenNames y
  have hy : y.pending = s.pending := (State.raiseEs_pending ..).trans hw
  exact ite_pending ((State.raiseEs_pending ..).trans hy) hy

@[simp] theorem execAuxSuppliesLost_leaves (s : State) :
    LeavesQueue s (execAuxSuppliesLost s) := by simp [execAuxSuppliesLost]

@[simp] theorem execVbatSample_leaves (mv : BitVec 12) (s : State) :
    LeavesQueue s (execVbatSample mv s) := by simp [execVbatSample]

@[simp] theorem execRailExcursion_leaves (s : State) :
    LeavesQueue s (execRailExcursion s) := by simp [execRailExcursion]

@[simp] theorem State.enterThrottle_pending (s : State) : s.enterThrottle.pending = s.pending := by simp [State.enterThrottle]

@[simp] theorem State.leaveThrottle_pending (s : State) : s.leaveThrottle.pending = s.pending := by simp [State.leaveThrottle]

@[simp] theorem execPowerSample_leaves (rails : Vector (BitVec 12 × BitVec 12) 11) (average : BitVec 16) (s : State) :
    LeavesQueue s (execPowerSample rails average s) := by
  unfold execPowerSample
  rw [leavesQueue_next]
  split
  · rfl
  · extract_lets rs t ok u w
    have hw : w.pending = s.pending := by
      unfold w u t
      rw [State.pending_setReg, State.pending_setReg]
      exact foldl_pending (fun _ _ => State.pending_setReg ..) _ _
    split <;> simp [hw]

@[simp] theorem execPowerLimitClear_leaves (s : State) :
    LeavesQueue s (execPowerLimitClear s) := by simp [execPowerLimitClear]

@[simp] theorem State.limitWrite_pending (s : State) (v : Nat) : (s.limitWrite v).pending = s.pending := by simp [State.limitWrite]

@[simp] theorem execPwrLimitWrite_leaves (mid : BitVec 13) (value : Word) (s : State) :
    LeavesQueue s (execPwrLimitWrite mid value s) := by simp [execPwrLimitWrite]

@[simp] theorem State.readTemps_pending (s : State) (temps : List (BitVec 16)) : (s.readTemps temps).2.pending = s.pending := by
  simp only [State.readTemps]
  exact foldl_pending (by simp) _ _

@[simp] theorem execThermalWarning_leaves (temps : Vector (BitVec 16) 16) (s : State) :
    LeavesQueue s (execThermalWarning temps s) := by
  simp only [execThermalWarning]
  repeat' split
  all_goals simp

@[simp] theorem execThermalThrottle_leaves (temps : Vector (BitVec 16) 16) (s : State) :
    LeavesQueue s (execThermalThrottle temps s) := by simp [execThermalThrottle]

@[simp] theorem execThrottleExit_leaves (temps : Vector (BitVec 16) 16) (s : State) :
    LeavesQueue s (execThrottleExit temps s) := by simp [execThrottleExit]

@[simp] theorem execThermalTrip_leaves (temps : Vector (BitVec 16) 16) (s : State) :
    LeavesQueue s (execThermalTrip temps s) := by simp [execThermalTrip]

@[simp] theorem State.thermWrite_pending (s : State) (v : Nat) : (s.thermWrite v).pending = s.pending := by simp [State.thermWrite]

@[simp] theorem execPwrThermCfgWrite_leaves (mid : BitVec 13) (value : Word) (s : State) :
    LeavesQueue s (execPwrThermCfgWrite mid value s) := by simp [execPwrThermCfgWrite]

/-! ## Meanings of modes, Keeper pairs and island resets -/

@[simp] theorem State.transitionDone_pending (s : State) : s.transitionDone.pending = s.pending := by simp [State.transitionDone]

@[simp] theorem execModeTransitionEnd_leaves (s : State) :
    LeavesQueue s (execModeTransitionEnd s) := by simp [execModeTransitionEnd]

@[simp] theorem devStartServiceSpec_pending (c : Cmd) (s : State) : (devStartServiceSpec.body c s).state.pending = s.pending := by
  simp [devStartServiceSpec]

@[simp] theorem execDevStartService_leaves (e : AdminEntry) (s : State) :
    LeavesQueue s (execDevStartService e s) :=
  State.runCmd_pending devStartServiceSpec_pending s e

@[simp] theorem execRevalidationEnd_leaves (block : Option (Fin 32)) (s : State) :
    LeavesQueue s (execRevalidationEnd block s) := by
  simp only [execRevalidationEnd]
  repeat' split
  all_goals simp

@[simp] theorem execStandbyPairReady_leaves (s : State) :
    LeavesQueue s (execStandbyPairReady s) := by
  simp only [execStandbyPairReady, leavesQueue_next]
  split
  · rfl
  · split
    next h => simp [pending_of_eq h]
    next h => simp [pending_of_eq h]

@[simp] theorem State.regionReset_pending (s : State) (r : Nat) : (s.regionReset r).pending = s.pending := by simp [State.regionReset]

@[simp] theorem State.islandReset_pending (s : State) (i : Nat) : (s.islandReset i).pending = s.pending := by simp [State.islandReset]

@[simp] theorem State.islandGo_pending (s : State) (i : Nat) : (s.islandGo i).pending = s.pending := by
  simp only [State.islandGo]
  repeat' split
  all_goals simp

@[simp] theorem execIslandResetGo_leaves (mid : BitVec 13) (island : BitVec 6) (s : State) :
    LeavesQueue s (execIslandResetGo mid island s) := by simp [execIslandResetGo]

@[simp] theorem execIslandResetEnd_leaves (s : State) :
    LeavesQueue s (execIslandResetEnd s) := by
  simp only [execIslandResetEnd]
  split <;> simp

/-! ## Meanings of the parser and classifier commands -/

@[simp] theorem prsGraphWriteSpec_pending (c : Cmd) (s : State) : (prsGraphWriteSpec.body c s).state.pending = s.pending := by
  dsimp -zeta only [prsGraphWriteSpec]
  refine Res.ite_pending (badParam_pending ..) (Cmd.checked_pending _ ?_)
  extract_lets +onlyGivenNames object first count size broken
  refine guards_pending (by simp) ?_
  extract_lets +onlyGivenNames base b
  refine Res.ite_pending rfl ?_
  split
  next => exact State.raiseEs_pending ..
  next =>
    extract_lets +onlyGivenNames bank t u
    have hu : u.pending = s.pending := by
      rw [State.pending_setF, State.pending_setF, State.swapBank_pending]
    rw [Res.state_ok, State.raiseEs_pending, State.pending_bump, hu]

@[simp] theorem execPrsGraphWrite_leaves (e : AdminEntry) (s : State) :
    LeavesQueue s (execPrsGraphWrite e s) :=
  State.runCmd_pending prsGraphWriteSpec_pending s e

@[simp] theorem clsRuleWriteSpec_pending (c : Cmd) (s : State) : (clsRuleWriteSpec.body c s).state.pending = s.pending := by
  dsimp -zeta only [clsRuleWriteSpec]
  refine Cmd.checked_pending _ ?_
  extract_lets +onlyGivenNames stage kind value owner key mask create bits kindBad
  refine guards_pending (by simp) ?_
  extract_lets +onlyGivenNames rule put
  refine Res.ite_pending rfl ?_
  split
  next => rfl
  next => rfl
  next =>
    split
    · rfl
    · rfl

@[simp] theorem execClsRuleWrite_leaves (e : AdminEntry) (s : State) :
    LeavesQueue s (execClsRuleWrite e s) :=
  State.runCmd_pending clsRuleWriteSpec_pending s e

@[simp] theorem clsRuleDeleteSpec_pending (c : Cmd) (s : State) : (clsRuleDeleteSpec.body c s).state.pending = s.pending := by
  simp only [clsRuleDeleteSpec]
  split <;> simp

@[simp] theorem execClsRuleDelete_leaves (e : AdminEntry) (s : State) :
    LeavesQueue s (execClsRuleDelete e s) :=
  State.runCmd_pending clsRuleDeleteSpec_pending s e

@[simp] theorem clsHashCfgSpec_pending (c : Cmd) (s : State) : (clsHashCfgSpec.body c s).state.pending = s.pending := by
  simp [clsHashCfgSpec]

@[simp] theorem execClsHashCfg_leaves (e : AdminEntry) (s : State) :
    LeavesQueue s (execClsHashCfg e s) :=
  State.runCmd_pending clsHashCfgSpec_pending s e

@[simp] theorem clsIndirWriteSpec_pending (c : Cmd) (s : State) : (clsIndirWriteSpec.body c s).state.pending = s.pending := by
  unfold clsIndirWriteSpec
  with_reducible change (Cmd.checked c s _ _).state.pending = s.pending
  refine Cmd.checked_pending _ ?_
  extract_lets low count start entry bad bs
  refine guards_pending (by simp) ?_
  obtain ⟨x, hx⟩ : ∃ x, s.ssWrite internalSsid (indirOff c.target low) bs = x := ⟨_, rfl⟩
  have e : x.2.pending = s.pending := by rw [← hx, State.ssWrite_pending]
  rw [hx]
  clear_value bad
  split
  · split <;> rfl
  · obtain ⟨f, t⟩ := x
    dsimp only
    split
    · rfl
    · exact e

@[simp] theorem execClsIndirWrite_leaves (e : AdminEntry) (s : State) :
    LeavesQueue s (execClsIndirWrite e s) :=
  State.runCmd_pending clsIndirWriteSpec_pending s e

@[simp] theorem clsExcPolicerSpec_pending (c : Cmd) (s : State) : (clsExcPolicerSpec.body c s).state.pending = s.pending := by
  simp [clsExcPolicerSpec]

@[simp] theorem execClsExcPolicer_leaves (e : AdminEntry) (s : State) :
    LeavesQueue s (execClsExcPolicer e s) :=
  State.runCmd_pending clsExcPolicerSpec_pending s e

@[simp] theorem execExcPolicerRefill_leaves (s : State) :
    LeavesQueue s (execExcPolicerRefill s) := by simp [execExcPolicerRefill]

/-! ## Meanings of the device commands of the third chapter -/

@[simp] theorem devIdentifySpec_pending (c : Cmd) (s : State) : (devIdentifySpec.body c s).state.pending = s.pending := (rfl)

@[simp] theorem execDevIdentify_leaves (e : AdminEntry) (s : State) :
    LeavesQueue s (execDevIdentify e s) :=
  State.runCmd_pending devIdentifySpec_pending s e

@[simp] theorem devNopSpec_pending (c : Cmd) (s : State) : (devNopSpec.body c s).state.pending = s.pending := (rfl)

@[simp] theorem execDevNop_leaves (e : AdminEntry) (s : State) :
    LeavesQueue s (execDevNop e s) :=
  State.runCmd_pending devNopSpec_pending s e

@[simp] theorem devCmdAbortSpec_pending (c : Cmd) (s : State) : (devCmdAbortSpec.body c s).state.pending = s.pending := by
  simp only [devCmdAbortSpec]
  refine Cmd.checked_pending _ ?_
  split
  · rfl
  · split
    · rfl
    next h => exact (State.finish_pending ..).trans (State.aborted_pending h)

@[simp] theorem execDevCmdAbort_leaves (e : AdminEntry) (s : State) :
    LeavesQueue s (execDevCmdAbort e s) :=
  State.runCmd_pending devCmdAbortSpec_pending s e

@[simp] theorem devClaimQuerySpec_pending (c : Cmd) (s : State) : (devClaimQuerySpec.body c s).state.pending = s.pending := by
  simp [devClaimQuerySpec]

@[simp] theorem execDevClaimQuery_leaves (e : AdminEntry) (s : State) :
    LeavesQueue s (execDevClaimQuery e s) :=
  State.runCmd_pending devClaimQuerySpec_pending s e

@[simp] theorem execRclQueryResWrite_leaves (mid : BitVec 13) (value : Word) (s : State) :
    LeavesQueue s (execRclQueryResWrite mid value s) := State.gatedWrite_pending _ _ rfl

/-! ## Meanings of firmware staging and activation, of the recovery image -/

@[simp] theorem devImageStageSpec_pending (c : Cmd) (s : State) : (devImageStageSpec.body c s).state.pending = s.pending := by
  simp [devImageStageSpec]

@[simp] theorem execDevImageStage_leaves (e : AdminEntry) (s : State) :
    LeavesQueue s (execDevImageStage e s) :=
  State.runCmd_pending devImageStageSpec_pending s e

@[simp] theorem execImageStageEnd_leaves (s : State) :
    LeavesQueue s (execImageStageEnd s) := by
  unfold execImageStageEnd
  rw [leavesQueue_next]
  split
  · rfl
  · extract_lets b img t
    split <;> simp +zetaDelta [-State.dropClaim_pending, -State.setReg_pending, -State.setF_pending]

@[simp] theorem devImageActivateSpec_pending (c : Cmd) (s : State) : (devImageActivateSpec.body c s).state.pending = s.pending := by
  simp [devImageActivateSpec]

@[simp] theorem execDevImageActivate_leaves (e : AdminEntry) (s : State) :
    LeavesQueue s (execDevImageActivate e s) :=
  State.runCmd_pending devImageActivateSpec_pending s e

@[simp] theorem State.handedOver_pending (s : State) (pauseUs : Nat) : (s.handedOver pauseUs).pending = s.pending := by
  simp [State.handedOver]

@[simp] theorem State.faultHanded_pending (s : State) (pauseUs : Nat) : (s.faultHanded pauseUs).pending = s.pending := by
  simp [State.faultHanded]

@[simp] theorem execHandoverRequest_leaves (course : Handover) (s : State) :
    LeavesQueue s (execHandoverRequest course s) := by simp [execHandoverRequest]

@[simp] theorem execActivationTimeout_leaves (s : State) :
    LeavesQueue s (execActivationTimeout s) := by simp [execActivationTimeout]

@[simp] theorem execActivationVerifyFail_leaves (s : State) :
    LeavesQueue s (execActivationVerifyFail s) := by
  simp only [execActivationVerifyFail]
  repeat' split
  all_goals simp

@[simp] theorem devImageQuerySpec_pending (c : Cmd) (s : State) : (devImageQuerySpec.body c s).state.pending = s.pending := by
  simp [devImageQuerySpec]

@[simp] theorem execDevImageQuery_leaves (e : AdminEntry) (s : State) :
    LeavesQueue s (execDevImageQuery e s) :=
  State.runCmd_pending devImageQuerySpec_pending s e

@[simp] theorem execRecoveryCommit_leaves (src : BitVec 8) (length : Word) (s : State) :
    LeavesQueue s (execRecoveryCommit src length s) := by
  unfold execRecoveryCommit
  rw [leavesQueue_next]
  extract_lets +onlyGivenNames n
  split
  · rfl
  · extract_lets +onlyGivenNames img answer mem dropped len slot
    have ha : ∀ t a b, (answer t a b).pending = t.pending := fun _ _ _ => State.vendorAnswer_pending ..
    refine ite_pending (ha ..) (ite_pending (ha ..) (ite_pending (ha ..) (ite_pending (ha ..) (ite_pending (ha ..) ?_))))
    extract_lets +onlyGivenNames t u
    rw [State.bootStart_pending, ha, State.setBank_pending, State.writeBoot_pending, State.putMram_pending]
  · exact State.unserved_pending ..

@[simp] theorem devSnapshotSaveSpec_pending (c : Cmd) (s : State) : (devSnapshotSaveSpec.body c s).state.pending = s.pending := by
  simp [devSnapshotSaveSpec]

@[simp] theorem execDevSnapshotSave_leaves (e : AdminEntry) (s : State) :
    LeavesQueue s (execDevSnapshotSave e s) :=
  State.runCmd_pending devSnapshotSaveSpec_pending s e

@[simp] theorem State.clearApply_pending (s : State) (k : Nat) : (s.clearApply k).pending = s.pending := by simp [State.clearApply]

@[simp] theorem execSnapshotSaveEnd_leaves (slot : Fin 4) (s : State) :
    LeavesQueue s (execSnapshotSaveEnd slot s) := by
  simp only [execSnapshotSaveEnd]
  split <;> simp

@[simp] theorem devSnapshotQuerySpec_pending (c : Cmd) (s : State) : (devSnapshotQuerySpec.body c s).state.pending = s.pending := by
  simp [devSnapshotQuerySpec]

@[simp] theorem execDevSnapshotQuery_leaves (e : AdminEntry) (s : State) :
    LeavesQueue s (execDevSnapshotQuery e s) :=
  State.runCmd_pending devSnapshotQuerySpec_pending s e

@[simp] theorem devSnapshotEraseSpec_pending (c : Cmd) (s : State) : (devSnapshotEraseSpec.body c s).state.pending = s.pending := by
  simp [devSnapshotEraseSpec]

@[simp] theorem execDevSnapshotErase_leaves (e : AdminEntry) (s : State) :
    LeavesQueue s (execDevSnapshotErase e s) :=
  State.runCmd_pending devSnapshotEraseSpec_pending s e

/-! ## Meanings of the line ports, the management port and MCTP messages -/

@[simp] theorem portModeSetSpec_pending (c : Cmd) (s : State) : (portModeSetSpec.body c s).state.pending = s.pending := by
  simp [portModeSetSpec]

@[simp] theorem execPortModeSet_leaves (e : AdminEntry) (s : State) :
    LeavesQueue s (execPortModeSet e s) := by
  simp only [execPortModeSet]
  split <;> simp

@[simp] theorem execPortLinkChange_leaves (port : Fin 8) (up : Bool) (s : State) :
    LeavesQueue s (execPortLinkChange port up s) := by simp [execPortLinkChange]

@[simp] theorem portCfgSpec_pending (c : Cmd) (s : State) : (portCfgSpec.body c s).state.pending = s.pending := by simp [portCfgSpec]

@[simp] theorem execPortCfg_leaves (e : AdminEntry) (s : State) :
    LeavesQueue s (execPortCfg e s) :=
  State.runCmd_pending portCfgSpec_pending s e

@[simp] theorem portStatsReadSpec_pending (c : Cmd) (s : State) : (portStatsReadSpec.body c s).state.pending = s.pending := by
  dsimp -zeta only [portStatsReadSpec]
  refine Cmd.checked_pending _ ?_
  extract_lets +onlyGivenNames p first n
  refine guards_pending (by simp) ?_
  extract_lets +onlyGivenNames v ks ws t
  have ht : t.pending = s.pending := ite_pending (State.setPort_pending ..) rfl
  exact Res.ite_pending ((State.pending_emit ..).trans ht) ht

@[simp] theorem execPortStatsRead_leaves (e : AdminEntry) (s : State) :
    LeavesQueue s (execPortStatsRead e s) :=
  State.runCmd_pending portStatsReadSpec_pending s e

@[simp] theorem portPfcCfgSpec_pending (c : Cmd) (s : State) : (portPfcCfgSpec.body c s).state.pending = s.pending := by
  dsimp -zeta only [portPfcCfgSpec]
  refine Cmd.checked_pending _ ?_
  extract_lets +onlyGivenNames p prio on v rest room others
  refine guards_pending (by simp) (Res.ite_pending ?_ (guards_pending (by simp) (withClaims_pending ?_)))
  · extract_lets +onlyGivenNames t u
    have ht : t.pending = s.pending := State.setPort_pending ..
    have hu : u.pending = s.pending := ite_pending ((State.raiseEs_pending ..).trans ((State.sendPause_pending ..).trans ht)) ht
    exact ite_pending ((State.pending_dropClaim ..).trans hu) hu
  · rw [Res.state_ok, State.settleAccount_pending, State.setPort_pending, State.takeClaims_pending]

@[simp] theorem execPortPfcCfg_leaves (e : AdminEntry) (s : State) :
    LeavesQueue s (execPortPfcCfg e s) :=
  State.runCmd_pending portPfcCfgSpec_pending s e

@[simp] theorem execPauseRepeat_leaves (port prio : Fin 8) (s : State) :
    LeavesQueue s (execPauseRepeat port prio s) := by
  simp only [execPauseRepeat]
  split <;> simp

@[simp] theorem State.honourPause_pending (s : State) (p enable : Nat) (quanta : List Nat) :
    (s.honourPause p enable quanta).pending = s.pending := (rfl)

@[simp] theorem execPauseFrameReceived_leaves (port : Fin 8) (pfc : Bool) (enable : BitVec 8) (quanta : Vector (BitVec 16) 8) (s : State) :
    LeavesQueue s (execPauseFrameReceived port pfc enable quanta s) := by simp [execPauseFrameReceived]

@[simp] theorem execPauseExpiry_leaves (port cls : Fin 8) (s : State) :
    LeavesQueue s (execPauseExpiry port cls s) := by simp [execPauseExpiry]

@[simp] theorem execMgpFrameReceived_leaves (frame : List Byte) (s : State) :
    LeavesQueue s (execMgpFrameReceived frame s) := by simp [execMgpFrameReceived]

@[simp] theorem execMgpLinkChange_leaves (up : Bool) (speed : Fin 3) (full : Bool) (s : State) :
    LeavesQueue s (execMgpLinkChange up speed full s) := by simp [execMgpLinkChange]

@[simp] theorem execMgpCollision_leaves (frame : List Byte) (late : Bool) (s : State) :
    LeavesQueue s (execMgpCollision frame late s) := by simp [execMgpCollision]

@[simp] theorem execBackoffExpiry_leaves (s : State) :
    LeavesQueue s (execBackoffExpiry s) := by
  simp only [execBackoffExpiry]
  split <;> simp

@[simp] theorem execSmbusBusError_leaves (s : State) :
    LeavesQueue s (execSmbusBusError s) := by simp [execSmbusBusError]

@[simp] theorem State.mctpMessage_pending (s : State) (src type : Nat) (setEid : Option Nat) (complete : Bool) :
    (s.mctpMessage src type setEid complete).pending = s.pending := by
  simp only [State.mctpMessage]
  split <;> simp

@[simp] theorem execMctpControlMessage_leaves (src : BitVec 8) (setEid : Option Byte) (complete : Bool) (s : State) :
    LeavesQueue s (execMctpControlMessage src setEid complete s) := State.mctpMessage_pending ..

@[simp] theorem execSpdmMessage_leaves (src : BitVec 8) (complete : Bool) (s : State) :
    LeavesQueue s (execSpdmMessage src complete s) := State.mctpMessage_pending ..

@[simp] theorem execYadopex_leaves (src : BitVec 8) (entry : List Word) (complete : Bool) (s : State) :
    LeavesQueue s (execYadopex src entry complete s) := by
  simp only [execYadopex]
  split <;> simp

@[simp] theorem execWake_leaves (src : BitVec 8) (s : State) :
    LeavesQueue s (execWake src s) := by
  simp only [execWake]
  split <;> simp

@[simp] theorem execRecoveryWrite_leaves (src : BitVec 8) (offset : Word) (bytes : List Byte) (s : State) :
    LeavesQueue s (execRecoveryWrite src offset bytes s) := by
  simp only [execRecoveryWrite]
  split <;> simp

/-! ## Meanings of the queue manager's events and commands -/

@[simp] theorem State.ringDoorbell_pending (s : State) (iid loc : Nat) (p : QCtx → Bool) (value : Nat) (arm : Bool) :
    (s.ringDoorbell iid loc p value arm).pending = s.pending := by
  simp only [State.ringDoorbell]
  repeat' split
  all_goals simp

@[simp] theorem execDoorbellWrite_leaves (iid : Fin 2048) (loc : BitVec 16) (value : Word) (s : State) :
    LeavesQueue s (execDoorbellWrite iid loc value s) := State.ringDoorbell_pending ..

@[simp] theorem execEvqDoorbellWrite_leaves (iid : Fin 2048) (loc : BitVec 16) (value : Word) (arm : Bool) (s : State) :
    LeavesQueue s (execEvqDoorbellWrite iid loc value arm s) := State.ringDoorbell_pending ..

@[simp] theorem execContextFillComplete_leaves (qid : BitVec 16) (ok : Bool) (s : State) :
    LeavesQueue s (execContextFillComplete qid ok s) := by simp [execContextFillComplete]

@[simp] theorem State.readSegs_pending (s : State) (q : Nat) (words : List Word) : (s.readSegs q words).pending = s.pending := by
  simp [State.readSegs]

@[simp] theorem State.segFailed_pending (s : State) (q : Nat) (p : SegRead) : (s.segFailed q p).pending = s.pending := by
  simp only [State.segFailed]
  repeat' split
  all_goals simp

@[simp] theorem State.txFrame_pending (s : State) (q : Nat) (words : List Word) (payload : SegRead) :
    (s.txFrame q words payload).pending = s.pending := by
  unfold State.txFrame
  refine ite_pending rfl ?_
  extract_lets +onlyGivenNames n total segs
  refine State.readEntry_pending _ _ _ _ _ fun len => ?_
  have he : ∀ (t : State) a b, t.pending = s.pending → (t.endEntry q len words a b).pending = s.pending := fun t a b h =>
    (State.endEntry_pending ..).trans h
  refine ite_pending (he _ _ _ rfl) (ite_pending (he _ _ _ rfl) ?_)
  split
  next => exact he _ _ _ rfl
  next =>
    extract_lets +onlyGivenNames t
    have ht : t.pending = s.pending := State.readSegs_pending ..
    clear_value t
    split
    · exact he _ _ _ ((State.segFailed_pending ..).trans ht)
    · exact he _ _ _ ((State.segFailed_pending ..).trans ht)
    · exact he _ _ _ ((State.segFailed_pending ..).trans ht)
    · exact he _ _ _ ((State.segFailed_pending ..).trans ht)
    next bytes =>
      extract_lets +onlyGivenNames c w0 d d' d'' notify tag
      split
      next ptr u hu =>
        have hup : u.pending = s.pending := by rw [pending_of_eq hu, State.allocBuf_pending, ht]
        split
        next => exact he _ _ _ hup
        next ptr =>
          extract_lets +onlyGivenNames v tx tags p
          have hv : v.pending = s.pending := by
            rw [State.takeUnits_pending, State.storeBuf_pending, hup]
          clear_value v
          rw [State.fetched_pending]
          split
          · exact (State.hostTapFrame_pending ..).trans hv
          · exact (State.egress_pending ..).trans hv

@[simp] theorem execTxFrame_leaves (qid : BitVec 16) (words : List Word) (payload : SegRead) (s : State) :
    LeavesQueue s (execTxFrame qid words payload s) := State.txFrame_pending ..

@[simp] theorem State.rxBuffer_pending (s : State) (q : Nat) (words : List Word) : (s.rxBuffer q words).pending = s.pending := by
  unfold State.rxBuffer
  extract_lets +onlyGivenNames bytes
  refine State.readEntry_pending _ _ _ _ _ fun len => ?_
  extract_lets +onlyGivenNames reserved
  refine ite_pending (State.endEntry_pending ..) ?_
  split
  next => exact State.endEntry_pending ..
  next =>
    extract_lets +onlyGivenNames c w0 tag notify
    refine ite_pending (State.endEntry_pending ..) ?_
    extract_lets +onlyGivenNames b t ctx u
    rw [State.fetched_pending, State.rxDrain_pending, State.setQ_pending, State.takeUnits_pending]

@[simp] theorem execRxBuffer_leaves (qid : BitVec 16) (words : List Word) (s : State) :
    LeavesQueue s (execRxBuffer qid words s) := State.rxBuffer_pending ..

@[simp] theorem execPadEntry_leaves (qid : BitVec 16) (words : List Word) (s : State) :
    LeavesQueue s (execPadEntry qid words s) := by simp [execPadEntry]

@[simp] theorem execCoalesceTimerExpiry_leaves (qid : BitVec 16) (s : State) :
    LeavesQueue s (execCoalesceTimerExpiry qid s) := by
  simp only [execCoalesceTimerExpiry]
  split <;> simp

theorem State.evqCheck_pending {s : State} {i w : Nat} {f : State → Res} (h : (s.evqCheck i w).2 = some f) (t : State) :
    (f t).state.pending = t.pending := by
  unfold State.evqCheck at h
  extract_lets evq v at h
  split at h
  · dsimp only at h
    split at h
    · cases h
    · exact Option.some.inj h ▸ rfl
  · split at h
    · exact Option.some.inj h ▸ rfl
    · dsimp only at h
      split at h
      · cases h
      · exact Option.some.inj h ▸ rfl

@[simp] theorem State.evqCheck_getD_pending (s t : State) (i w : Nat) :
    ((s.evqCheck i w).2.getD notFound t).state.pending = t.pending := by
  cases h : (s.evqCheck i w).2 with
  | none => rfl
  | some f => exact State.evqCheck_pending h t

@[simp] theorem State.evqCheck_ite_pending (b : Prop) [Decidable b] (s t : State) (i w : Nat) (v : Option Nat) :
    ((if b then s.evqCheck i w else (v, none)).2.getD notFound t).state.pending = t.pending := by
  split <;> simp [notFound]

@[simp] theorem State.newQueue_pending (s : State) (i : Nat) (c : QCtx) : (s.newQueue i c).state.pending = s.pending := by
  unfold State.newQueue
  extract_lets pool
  simp only [guards_cons, guards_nil]
  split
  · simp
  · split
    · simp
    · split
      · simp
      · split
        next h => simp [pending_of_eq h]
        next h => simp [pending_of_eq h]

@[simp] theorem queueCreateSpec_pending (c : Cmd) (s : State) : (queueCreateSpec.body c s).state.pending = s.pending := by
  dsimp -zeta only [queueCreateSpec]
  refine Cmd.checked_pending _ ?_
  extract_lets +onlyGivenNames i type log2 loc base wb wbEn
  extract_lets +onlyGivenNames leaf
  refine guards_pending (by simp) (State.newQueue_pending ..)

@[simp] theorem execQueueCreate_leaves (e : AdminEntry) (s : State) :
    LeavesQueue s (execQueueCreate e s) :=
  State.runCmd_pending queueCreateSpec_pending s e

@[simp] theorem evqCreateSpec_pending (c : Cmd) (s : State) : (evqCreateSpec.body c s).state.pending = s.pending := by
  dsimp -zeta only [evqCreateSpec]
  refine Cmd.checked_pending _ ?_
  extract_lets +onlyGivenNames i log2 loc base wb wbEn
  exact guards_pending (by simp) (State.newQueue_pending ..)

@[simp] theorem execEvqCreate_leaves (e : AdminEntry) (s : State) :
    LeavesQueue s (execEvqCreate e s) :=
  State.runCmd_pending evqCreateSpec_pending s e

@[simp] theorem Cmd.onQueue_pending {c : Cmd} {s : State} {body : Nat → Res} (loc : Nat)
    (h : ∀ q, (body q).state.pending = s.pending) : (c.onQueue s loc body).state.pending = s.pending := by
  simp only [Cmd.onQueue, guards_cons, guards_nil]
  split
  · simp
  · split
    · rfl
    · exact h _

@[simp] theorem queueDestroySpec_pending (c : Cmd) (s : State) : (queueDestroySpec.body c s).state.pending = s.pending := by
  simp [queueDestroySpec]

@[simp] theorem execQueueDestroy_leaves (e : AdminEntry) (s : State) :
    LeavesQueue s (execQueueDestroy e s) :=
  State.runCmd_pending queueDestroySpec_pending s e

@[simp] theorem execQueueDrainEnd_leaves (qid : BitVec 16) (s : State) :
    LeavesQueue s (execQueueDrainEnd qid s) := by
  simp only [execQueueDrainEnd]
  repeat' split
  all_goals simp

@[simp] theorem evqDestroySpec_pending (c : Cmd) (s : State) : (evqDestroySpec.body c s).state.pending = s.pending := by
  simp [evqDestroySpec]

@[simp] theorem execEvqDestroy_leaves (e : AdminEntry) (s : State) :
    LeavesQueue s (execEvqDestroy e s) :=
  State.runCmd_pending evqDestroySpec_pending s e

@[simp] theorem queueModifySpec_pending (c : Cmd) (s : State) : (queueModifySpec.body c s).state.pending = s.pending := by
  simp only [queueModifySpec]
  refine Cmd.checked_pending _ (guards_pending (by simp) (Cmd.onQueue_pending _ fun q => guards_pending ?_ rfl))
  simp

@[simp] theorem execQueueModify_leaves (e : AdminEntry) (s : State) :
    LeavesQueue s (execQueueModify e s) :=
  State.runCmd_pending queueModifySpec_pending s e

@[simp] theorem queueQuerySpec_pending (c : Cmd) (s : State) : (queueQuerySpec.body c s).state.pending = s.pending := by
  simp [queueQuerySpec]

@[simp] theorem execQueueQuery_leaves (e : AdminEntry) (s : State) :
    LeavesQueue s (execQueueQuery e s) :=
  State.runCmd_pending queueQuerySpec_pending s e

@[simp] theorem State.catchUp_pending (s : State) (e : Nat) (x : Nat × State) (q : Nat) :
    (s.catchUp e x q).2.pending = x.2.pending := by simp [State.catchUp]

@[simp] theorem evqRearmSpec_pending (c : Cmd) (s : State) : (evqRearmSpec.body c s).state.pending = s.pending := by simp [evqRearmSpec]

@[simp] theorem execEvqRearm_leaves (e : AdminEntry) (s : State) :
    LeavesQueue s (execEvqRearm e s) :=
  State.runCmd_pending evqRearmSpec_pending s e

@[simp] theorem State.ctxSel_pending (s : State) (q : Nat) : (s.ctxSel q).pending = s.pending := by
  simp only [State.ctxSel]
  exact foldl_pending (by simp) _ _

@[simp] theorem execQmgCtxSelWrite_leaves (mid : BitVec 13) (qid : BitVec 16) (s : State) :
    LeavesQueue s (execQmgCtxSelWrite mid qid s) := by simp [execQmgCtxSelWrite]

/-! ## Meanings of faults, retirement, Foghorn and the fault log -/

@[simp] theorem execLeakTick_leaves (resource : BitVec 16) (s : State) :
    LeavesQueue s (execLeakTick resource s) := State.setCounter_pending ..

@[simp] theorem execHighBerEvent_leaves (lane : Fin 8) (s : State) :
    LeavesQueue s (execHighBerEvent lane s) := by simp [execHighBerEvent]

@[simp] theorem execKeeperLockstepMismatch_leaves (pair : Fin 2) (s : State) :
    LeavesQueue s (execKeeperLockstepMismatch pair s) := State.pairFault_pending ..

@[simp] theorem execHeartbeatTimeout_leaves (s : State) :
    LeavesQueue s (execHeartbeatTimeout s) := by simp [execHeartbeatTimeout]

@[simp] theorem execKeeperMemoryError_leaves (pair : Fin 2) (corrected : Bool) (s : State) :
    LeavesQueue s (execKeeperMemoryError pair corrected s) := by simp [execKeeperMemoryError]

@[simp] theorem execHostLinkError_leaves (error : LinkError) (s : State) :
    LeavesQueue s (execHostLinkError error s) := by simp [execHostLinkError]

@[simp] theorem execRetirementStart_leaves (kind : Fin 9) (s : State) :
    LeavesQueue s (execRetirementStart kind s) := by simp [execRetirementStart]

@[simp] theorem execRetirementEnd_leaves (resource : BitVec 16) (s : State) :
    LeavesQueue s (execRetirementEnd resource s) := State.retireFinish_pending ..

@[simp] theorem rasRetireSpec_pending (c : Cmd) (s : State) : (rasRetireSpec.body c s).state.pending = s.pending := by simp [rasRetireSpec]

@[simp] theorem execRasRetire_leaves (e : AdminEntry) (s : State) :
    LeavesQueue s (execRasRetire e s) :=
  State.runCmd_pending rasRetireSpec_pending s e

@[simp] theorem rasRestoreSpec_pending (c : Cmd) (s : State) : (rasRestoreSpec.body c s).state.pending = s.pending := by
  simp [rasRestoreSpec]

@[simp] theorem execRasRestore_leaves (e : AdminEntry) (s : State) :
    LeavesQueue s (execRasRestore e s) :=
  State.runCmd_pending rasRestoreSpec_pending s e

@[simp] theorem State.selftestEnd_pending (s : State) (r : Nat) (pass : Bool) : (s.selftestEnd r pass).pending = s.pending := by
  simp only [State.selftestEnd]
  repeat' split
  all_goals simp

@[simp] theorem execSelftestEnd_leaves (resource : BitVec 16) (pass : Bool) (s : State) :
    LeavesQueue s (execSelftestEnd resource pass s) := by simp [execSelftestEnd]

@[simp] theorem State.setKind_pending (s : State) (k v : Nat) : (s.setKind k v).pending = s.pending := by simp [State.setKind]

@[simp] theorem rasThresholdSetSpec_pending (c : Cmd) (s : State) : (rasThresholdSetSpec.body c s).state.pending = s.pending := by
  simp [rasThresholdSetSpec]

@[simp] theorem execRasThresholdSet_leaves (e : AdminEntry) (s : State) :
    LeavesQueue s (execRasThresholdSet e s) :=
  State.runCmd_pending rasThresholdSetSpec_pending s e

@[simp] theorem rasFoghornAckSpec_pending (c : Cmd) (s : State) : (rasFoghornAckSpec.body c s).state.pending = s.pending := by
  simp [rasFoghornAckSpec]

@[simp] theorem execRasFoghornAck_leaves (e : AdminEntry) (s : State) :
    LeavesQueue s (execRasFoghornAck e s) :=
  State.runCmd_pending rasFoghornAckSpec_pending s e

@[simp] theorem rasLogReadSpec_pending (c : Cmd) (s : State) : (rasLogReadSpec.body c s).state.pending = s.pending := by
  simp [rasLogReadSpec]

@[simp] theorem execRasLogRead_leaves (e : AdminEntry) (s : State) :
    LeavesQueue s (execRasLogRead e s) :=
  State.runCmd_pending rasLogReadSpec_pending s e

@[simp] theorem execRasHeartbeatWrite_leaves (mid : BitVec 13) (s : State) :
    LeavesQueue s (execRasHeartbeatWrite mid s) := by simp [execRasHeartbeatWrite]

@[simp] theorem State.rasSel_pending (s : State) (r : Nat) : (s.rasSel r).pending = s.pending := (rfl)

@[simp] theorem execRasCntSelWrite_leaves (mid : BitVec 13) (resource : BitVec 16) (s : State) :
    LeavesQueue s (execRasCntSelWrite mid resource s) := by simp [execRasCntSelWrite]

/-! ## Meanings of Saffron's commands and events -/

@[simp] theorem execSaffronRequest_leaves (place : BitVec 16) (s : State) :
    LeavesQueue s (execSaffronRequest place s) := State.safEnter_pending ..

@[simp] theorem execDerivationComplete_leaves (assoc : BitVec 20) (slotB : Bool) (s : State) :
    LeavesQueue s (execDerivationComplete assoc slotB s) := State.derived_pending ..

@[simp] theorem State.setRoot_pending (s : State) (k : Nat) (key : Option (List Byte)) : (s.setRoot k key).pending = s.pending := by
  simp [State.setRoot]

@[simp] theorem safRootKeyLoadSpec_pending (c : Cmd) (s : State) : (safRootKeyLoadSpec.body c s).state.pending = s.pending := by
  dsimp -zeta only [safRootKeyLoadSpec]
  refine Cmd.checked_pending _ ?_
  extract_lets +onlyGivenNames k erase wrapped kek
  refine guards_pending (by simp) (Res.ite_pending ?_ ?_)
  · rw [Res.state_ok, State.setRoot_pending]
  · extract_lets +onlyGivenNames key
    clear_value key
    split
    · rfl
    · rw [Res.state_ok, State.setRoot_pending]

@[simp] theorem execSafRootKeyLoad_leaves (e : AdminEntry) (s : State) :
    LeavesQueue s (execSafRootKeyLoad e s) :=
  State.runCmd_pending safRootKeyLoadSpec_pending s e

@[simp] theorem safAssocCreateSpec_pending (c : Cmd) (s : State) : (safAssocCreateSpec.body c s).state.pending = s.pending := by
  dsimp -zeta only [safAssocCreateSpec]
  refine Cmd.checked_pending _ ?_
  extract_lets +onlyGivenNames r pool
  refine guards_pending (by simp) ?_
  split
  next => exact State.pending_draw ..
  next => exact (State.setAssoc_pending ..).trans (State.pending_draw ..)

@[simp] theorem execSafAssocCreate_leaves (e : AdminEntry) (s : State) :
    LeavesQueue s (execSafAssocCreate e s) :=
  State.runCmd_pending safAssocCreateSpec_pending s e

@[simp] theorem safAssocRekeySpec_pending (c : Cmd) (s : State) : (safAssocRekeySpec.body c s).state.pending = s.pending := by
  dsimp -zeta only [safAssocRekeySpec]
  refine Cmd.checked_pending _ ?_
  extract_lets +onlyGivenNames a r load switch macIn k
  refine guards_pending (by simp) ?_
  extract_lets +onlyGivenNames epoch ctx fresh t r' an w1 u
  have hf : ∀ x, (fresh x).pending = x.pending := fun _ => rfl
  have ht : t.pending = s.pending := by
    refine ite_pending ((hf _).trans ?_) rfl
    rw [State.cacheDrop_pending, State.setAssoc_pending]
  have hu : u.pending = s.pending := ite_pending ht ((hf _).trans ((State.setAssoc_pending ..).trans ht))
  exact hu

@[simp] theorem execSafAssocRekey_leaves (e : AdminEntry) (s : State) :
    LeavesQueue s (execSafAssocRekey e s) :=
  State.runCmd_pending safAssocRekeySpec_pending s e

@[simp] theorem safAssocDestroySpec_pending (c : Cmd) (s : State) : (safAssocDestroySpec.body c s).state.pending = s.pending := by
  simp [safAssocDestroySpec]

@[simp] theorem execSafAssocDestroy_leaves (e : AdminEntry) (s : State) :
    LeavesQueue s (execSafAssocDestroy e s) :=
  State.runCmd_pending safAssocDestroySpec_pending s e

@[simp] theorem State.assocSel_pending (s : State) (a : Nat) : (s.assocSel a).pending = s.pending := by
  simp only [State.assocSel]
  exact foldl_pending (by simp) _ _

@[simp] theorem execSafAssocSelWrite_leaves (mid : BitVec 13) (assoc : BitVec 20) (s : State) :
    LeavesQueue s (execSafAssocSelWrite mid assoc s) := by simp [execSafAssocSelWrite]

@[simp] theorem State.putOpKey_pending (s : State) (k state : Nat) (hash : List Word) : (s.putOpKey k state hash).pending = s.pending := by
  simp [State.putOpKey]

@[simp] theorem safOpkeyEnrolSpec_pending (c : Cmd) (s : State) : (safOpkeyEnrolSpec.body c s).state.pending = s.pending := by
  simp [safOpkeyEnrolSpec]

@[simp] theorem execSafOpkeyEnrol_leaves (e : AdminEntry) (s : State) :
    LeavesQueue s (execSafOpkeyEnrol e s) :=
  State.runCmd_pending safOpkeyEnrolSpec_pending s e

@[simp] theorem safOpkeyRevokeSpec_pending (c : Cmd) (s : State) : (safOpkeyRevokeSpec.body c s).state.pending = s.pending := by
  simp [safOpkeyRevokeSpec]

@[simp] theorem execSafOpkeyRevoke_leaves (e : AdminEntry) (s : State) :
    LeavesQueue s (execSafOpkeyRevoke e s) :=
  State.runCmd_pending safOpkeyRevokeSpec_pending s e

/-! ## Meanings of the switching commands -/

theorem State.listFault_pending {s : State} {acts : List Act} {f : State → Res} (h : s.listFault acts = some f) (t : State) :
    (f t).state.pending = t.pending := by
  revert h
  unfold State.listFault
  extract_lets n at_ bad many
  repeat' split
  all_goals rintro ⟨⟩
  all_goals rfl

theorem State.pathFault_pending {s : State} {ms : List Nat} {f : State → Res} (h : s.pathFault ms = some f) (t : State) :
    (f t).state.pending = t.pending := by
  revert h
  unfold State.pathFault
  extract_lets bad leafBad
  split
  · rintro ⟨⟩
    rfl
  · intro h
    obtain ⟨k, _, rfl⟩ := Option.map_eq_some_iff.1 h
    rfl

@[simp] theorem swxActionWriteSpec_pending (c : Cmd) (s : State) : (swxActionWriteSpec.body c s).state.pending = s.pending := by
  simp only [swxActionWriteSpec, Cmd.checked_state]
  split
  · split
    · rfl
    · split
      · split <;> exact guards_pending (by simp) rfl
      · split
        · split
          · rfl
          · split
            next h => exact State.pathFault_pending h s
            next => rfl
        · split
          next f h =>
            rcases Option.or_eq_some_iff.1 h with h | ⟨_, h⟩
            · exact State.listFault_pending h s
            · obtain ⟨k, _, rfl⟩ := Option.map_eq_some_iff.1 h
              rfl
          next => rfl
  · rfl

@[simp] theorem execSwxActionWrite_leaves (e : AdminEntry) (s : State) :
    LeavesQueue s (execSwxActionWrite e s) :=
  State.runCmd_pending swxActionWriteSpec_pending s e

@[simp] theorem swxTunnelCfgSpec_pending (c : Cmd) (s : State) : (swxTunnelCfgSpec.body c s).state.pending = s.pending := by
  dsimp -zeta only [swxTunnelCfgSpec]
  refine Cmd.checked_pending _ ?_
  extract_lets +onlyGivenNames k type
  refine Res.ite_pending (guards_pending (by simp) rfl) (Cmd.checked_pending _ (guards_pending (by simp) rfl))

@[simp] theorem execSwxTunnelCfg_leaves (e : AdminEntry) (s : State) :
    LeavesQueue s (execSwxTunnelCfg e s) :=
  State.runCmd_pending swxTunnelCfgSpec_pending s e

@[simp] theorem swxMirrorCfgSpec_pending (c : Cmd) (s : State) : (swxMirrorCfgSpec.body c s).state.pending = s.pending := by
  dsimp -zeta only [swxMirrorCfgSpec]
  refine Cmd.checked_pending _ ?_
  extract_lets +onlyGivenNames k
  refine Res.ite_pending (guards_pending (by simp) rfl) (Cmd.checked_pending _ ?_)
  extract_lets +onlyGivenNames kind cut prof
  exact guards_pending (by simp) rfl

@[simp] theorem execSwxMirrorCfg_leaves (e : AdminEntry) (s : State) :
    LeavesQueue s (execSwxMirrorCfg e s) :=
  State.runCmd_pending swxMirrorCfgSpec_pending s e

@[simp] theorem swxPolicerCfgSpec_pending (c : Cmd) (s : State) : (swxPolicerCfgSpec.body c s).state.pending = s.pending := by
  dsimp -zeta only [swxPolicerCfgSpec]
  refine Cmd.checked_pending _ ?_
  extract_lets +onlyGivenNames k old
  refine Res.ite_pending (guards_pending (by simp) rfl) (Cmd.checked_pending _ ?_)
  extract_lets +onlyGivenNames rate size ov
  refine guards_pending (by simp) ?_
  exact State.setPolicer_pending ..

@[simp] theorem execSwxPolicerCfg_leaves (e : AdminEntry) (s : State) :
    LeavesQueue s (execSwxPolicerCfg e s) :=
  State.runCmd_pending swxPolicerCfgSpec_pending s e

@[simp] theorem execPolicerRefill_leaves (s : State) :
    LeavesQueue s (execPolicerRefill s) := by simp [execPolicerRefill]

@[simp] theorem State.cntSel_pending (s : State) (k : Nat) (clear : Bool) : (s.cntSel k clear).pending = s.pending := by simp [State.cntSel]

@[simp] theorem execSwxCntSelWrite_leaves (mid : BitVec 13) (k : BitVec 18) (clear : Bool) (s : State) :
    LeavesQueue s (execSwxCntSelWrite mid k clear s) := by simp [execSwxCntSelWrite]

/-! ## Meanings of resources under test, patterns, loopbacks and the debug units -/

@[simp] theorem State.place_pending (s : State) (r : Nat) : (s.place r).pending = s.pending := by
  simp only [State.place]
  repeat' split
  all_goals simp

@[simp] theorem tstPlaceUnderTestSpec_pending (c : Cmd) (s : State) : (tstPlaceUnderTestSpec.body c s).state.pending = s.pending := by
  simp [tstPlaceUnderTestSpec]

@[simp] theorem execTstPlaceUnderTest_leaves (e : AdminEntry) (s : State) :
    LeavesQueue s (execTstPlaceUnderTest e s) := by simp [execTstPlaceUnderTest]

@[simp] theorem tstReleaseSpec_pending (c : Cmd) (s : State) : (tstReleaseSpec.body c s).state.pending = s.pending := by
  simp [tstReleaseSpec]

@[simp] theorem execTstRelease_leaves (e : AdminEntry) (s : State) :
    LeavesQueue s (execTstRelease e s) := by
  simp only [execTstRelease]
  split <;> simp

@[simp] theorem State.laneZero_pending (s : State) (n : Nat) : (s.laneZero n).pending = s.pending := (rfl)

@[simp] theorem State.laneCtl_pending (s : State) (n v : Nat) : (s.laneCtl n v).pending = s.pending := by
  simp only [State.laneCtl]
  split <;> simp

@[simp] theorem execTstLaneCtlEnable_leaves (mid : BitVec 13) (lane : Fin 49) (value : Word) (s : State) :
    LeavesQueue s (execTstLaneCtlEnable mid lane value s) := by simp [execTstLaneCtlEnable]

@[simp] theorem execTstLaneClear_leaves (mid : BitVec 13) (lane : Fin 49) (s : State) :
    LeavesQueue s (execTstLaneClear mid lane s) := by simp [execTstLaneClear]

@[simp] theorem laneChecks_pending {s : State} {body : Nat → Res} (r : Nat) (h : ∀ n, (body n).state.pending = s.pending) :
    (laneChecks s r body).state.pending = s.pending := by
  unfold laneChecks
  split <;> simp [h]

@[simp] theorem tstPatternCfgSpec_pending (c : Cmd) (s : State) : (tstPatternCfgSpec.body c s).state.pending = s.pending := by
  simp [tstPatternCfgSpec]

@[simp] theorem execTstPatternCfg_leaves (e : AdminEntry) (s : State) :
    LeavesQueue s (execTstPatternCfg e s) :=
  State.runCmd_pending tstPatternCfgSpec_pending s e

@[simp] theorem tstLoopbackCfgSpec_pending (c : Cmd) (s : State) : (tstLoopbackCfgSpec.body c s).state.pending = s.pending := by
  simp [tstLoopbackCfgSpec]

@[simp] theorem execTstLoopbackCfg_leaves (e : AdminEntry) (s : State) :
    LeavesQueue s (execTstLoopbackCfg e s) :=
  State.runCmd_pending tstLoopbackCfgSpec_pending s e

@[simp] theorem tstResultReadSpec_pending (c : Cmd) (s : State) : (tstResultReadSpec.body c s).state.pending = s.pending := by
  simp [tstResultReadSpec]

@[simp] theorem execTstResultRead_leaves (e : AdminEntry) (s : State) :
    LeavesQueue s (execTstResultRead e s) :=
  State.runCmd_pending tstResultReadSpec_pending s e

@[simp] theorem execCheckerLock_leaves (lane : Fin 49) (s : State) :
    LeavesQueue s (execCheckerLock lane s) := by simp [execCheckerLock]

@[simp] theorem execCheckerLockLoss_leaves (lane : Fin 49) (s : State) :
    LeavesQueue s (execCheckerLockLoss lane s) := by simp [execCheckerLockLoss]

@[simp] theorem execCheckerDurationEnd_leaves (lane : Fin 49) (s : State) :
    LeavesQueue s (execCheckerDurationEnd lane s) := by simp [execCheckerDurationEnd]

@[simp] theorem execBypass_leaves (s : State) :
    LeavesQueue s (execBypass s) :=
  (State.pending_emit ..).trans (State.pending_setF ..)

@[simp] theorem execIdcode_leaves (s : State) :
    LeavesQueue s (execIdcode s) :=
  (State.pending_emit ..).trans (State.pending_setF ..)

@[simp] theorem execSamplePreload_leaves (s : State) :
    LeavesQueue s (execSamplePreload s) := by simp [execSamplePreload]

@[simp] theorem execExtest_leaves (s : State) :
    LeavesQueue s (execExtest s) := by simp [execExtest]

@[simp] theorem execKeeperDebugHalt_leaves (core : Fin 4) (s : State) :
    LeavesQueue s (execKeeperDebugHalt core s) := by simp [execKeeperDebugHalt]

@[simp] theorem execKeeperDebugResume_leaves (core : Fin 4) (s : State) :
    LeavesQueue s (execKeeperDebugResume core s) := by simp [execKeeperDebugResume]

@[simp] theorem State.haltBits_pending (s : State) (k w v : Nat) : (s.haltBits k w v).pending = s.pending := by simp [State.haltBits]

@[simp] theorem execTstClvHaltWrite_leaves (mid : BitVec 13) (cluster : Fin 16) (word : Fin 4) (value : Word) (s : State) :
    LeavesQueue s (execTstClvHaltWrite mid cluster word value s) := by simp [execTstClvHaltWrite]

@[simp] theorem State.clvRegWrite_pending (s : State) (v : Nat) : (s.clvRegWrite v).pending = s.pending := by simp [State.clvRegWrite]

@[simp] theorem execTstClvRegDataWrite_leaves (mid : BitVec 13) (value : Word) (s : State) :
    LeavesQueue s (execTstClvRegDataWrite mid value s) := by simp [execTstClvRegDataWrite]

/-! ## Meanings of the time unit, the calibration table and Daymark -/

@[simp] theorem timeAdjustSpec_pending (c : Cmd) (s : State) : (timeAdjustSpec.body c s).state.pending = s.pending := by
  dsimp -zeta only [timeAdjustSpec]
  refine Cmd.checked_pending _ (guards_pending (by simp) ?_)
  extract_lets +onlyGivenNames off
  split
  · refine guards_pending (by simp) ?_
    rw [Res.state_ok, State.setTime_pending]
  · rw [Res.state_ok, State.setTime_pending, State.stepped_pending]
  · extract_lets +onlyGivenNames f
    refine Res.ite_pending rfl ?_
    rw [Res.state_ok, State.showRate_pending]
  · refine guards_pending (by simp) ?_
    rw [Res.state_ok, State.showRate_pending]

@[simp] theorem execTimeAdjust_leaves (e : AdminEntry) (s : State) :
    LeavesQueue s (execTimeAdjust e s) :=
  State.runCmd_pending timeAdjustSpec_pending s e

@[simp] theorem execSlewEnd_leaves (s : State) :
    LeavesQueue s (execSlewEnd s) := by simp [execSlewEnd]

@[simp] theorem State.timeSnap_pending (s : State) : s.timeSnap.pending = s.pending := (rfl)

@[simp] theorem execTimSnapCapture_leaves (mid : BitVec 13) (s : State) :
    LeavesQueue s (execTimSnapCapture mid s) := by simp [execTimSnapCapture]

@[simp] theorem State.sideSel_pending (s : State) (index : Nat) : (s.sideSel index).pending = s.pending := by
  simp only [State.sideSel]
  exact foldl_pending (by simp) _ _

@[simp] theorem execTimSideSelWrite_leaves (mid : BitVec 13) (index : BitVec 16) (s : State) :
    LeavesQueue s (execTimSideSelWrite mid index s) := by simp [execTimSideSelWrite]

@[simp] theorem timePpsCfgSpec_pending (c : Cmd) (s : State) : (timePpsCfgSpec.body c s).state.pending = s.pending := by
  simp [timePpsCfgSpec]

@[simp] theorem execTimePpsCfg_leaves (e : AdminEntry) (s : State) :
    LeavesQueue s (execTimePpsCfg e s) :=
  State.runCmd_pending timePpsCfgSpec_pending s e

@[simp] theorem execPpsEdge_leaves (wholeSecond : Bool) (s : State) :
    LeavesQueue s (execPpsEdge wholeSecond s) := by simp [execPpsEdge]

@[simp] theorem execTimeInEdge_leaves (falling : Bool) (s : State) :
    LeavesQueue s (execTimeInEdge falling s) := by simp [execTimeInEdge]

@[simp] theorem execPtmExchange_leaves (host : Option Dword) (s : State) :
    LeavesQueue s (execPtmExchange host s) := by
  simp only [execPtmExchange]
  repeat' split
  all_goals simp

@[simp] theorem State.alarmOff_pending (s : State) : s.alarmOff.pending = s.pending := by
  simp only [State.alarmOff]
  split <;> simp

@[simp] theorem timeDaymarkAlarmSpec_pending (c : Cmd) (s : State) : (timeDaymarkAlarmSpec.body c s).state.pending = s.pending := by
  simp [timeDaymarkAlarmSpec]

@[simp] theorem execTimeDaymarkAlarm_leaves (e : AdminEntry) (s : State) :
    LeavesQueue s (execTimeDaymarkAlarm e s) :=
  State.runCmd_pending timeDaymarkAlarmSpec_pending s e

@[simp] theorem execDaymarkAlarmFire_leaves (s : State) :
    LeavesQueue s (execDaymarkAlarmFire s) := by simp [execDaymarkAlarmFire]

@[simp] theorem execDaymarkFollowCheck_leaves (s : State) :
    LeavesQueue s (execDaymarkFollowCheck s) := by simp [execDaymarkFollowCheck]

@[simp] theorem execVbatLoss_leaves (s : State) :
    LeavesQueue s (execVbatLoss s) := by
  have e : ∀ (x : State) (v : TimeSt), ({ x with time := v } : State).pending = x.pending := fun _ _ => rfl
  rw [execVbatLoss, leavesQueue_next]
  split
  · rfl
  · extract_lets t u
    rw [State.raiseEs_pending, e]
    simp only [u, t, State.pending_setReg, State.pending_setF, State.setDm_pending]

@[simp] theorem calTableWriteSpec_pending (c : Cmd) (s : State) : (calTableWriteSpec.body c s).state.pending = s.pending := by
  simp only [calTableWriteSpec]
  repeat' split
  all_goals simp

@[simp] theorem execCalTableWrite_leaves (e : AdminEntry) (s : State) :
    LeavesQueue s (execCalTableWrite e s) :=
  State.runCmd_pending calTableWriteSpec_pending s e

@[simp] theorem execCalTableWriteEnd_leaves (s : State) :
    LeavesQueue s (execCalTableWriteEnd s) := by
  rw [execCalTableWriteEnd, leavesQueue_next]
  split
  · rfl
  · extract_lets bs seq tbl t u
    have ht : t.pending = s.pending := foldl_pending_of_eq (fun s k t h => by rw [← h, State.putMram_pending]) _ _
    clear_value t
    rw [State.finish_pending, State.dropClaim_pending, State.pending_setF]
    unfold u
    split
    · rw [State.calLive_pending, ht]
    · exact ht

@[simp] theorem calTableReadSpec_pending (c : Cmd) (s : State) : (calTableReadSpec.body c s).state.pending = s.pending := by
  simp [calTableReadSpec]

@[simp] theorem execCalTableRead_leaves (e : AdminEntry) (s : State) :
    LeavesQueue s (execCalTableRead e s) :=
  State.runCmd_pending calTableReadSpec_pending s e

/-! ## The fetch of an entry -/

@[simp] theorem lanImageLoadDrawn_leaves (e : AdminEntry) (s : State) :
    LeavesQueue s (lanImageLoadDrawn e s) := by
  unfold lanImageLoadDrawn
  split
  next v t h => exact (execLanImageLoad_leaves ..).trans ((pending_of_eq h).trans (State.pending_draw s))

@[simp] theorem unknownSpec_pending (op : Nat) (c : Cmd) (s : State) : ((unknownSpec op).body c s).state.pending = s.pending := (rfl)

/-- Every command of the catalogue leaves the queue. -/
theorem leavesQueue_of_commandOf {op : Nat} {f : AdminMeaning} (h : commandOf op = some f) (e : AdminEntry) (s : State) :
    LeavesQueue s (f e s) := by
  obtain ⟨x, hx, rfl⟩ := Option.map_eq_some_iff.mp h
  have all : (commands1 ++ commands2 ++ commands3).Forall fun x => ∀ e s, LeavesQueue s (x.2 e s) := by
    simp only [commands1, commands2, commands3, List.cons_append, List.nil_append, List.forall_cons]
    and_intros
    on_goal -1 => exact trivial
    all_goals intro e s
    all_goals simp
  exact List.forall_iff_forall_mem.mp all x (List.mem_of_find?_eq_some hx) e s

@[simp] theorem State.adminPad_pending (s : State) (e : AdminEntry) : (s.adminPad e).pending = s.pending := by
  simp only [State.adminPad]
  repeat' split
  all_goals simp

@[simp] theorem execAdminCommandFetch_leaves (e : AdminEntry) (s : State) :
    LeavesQueue s (execAdminCommandFetch e s) := by
  rw [execAdminCommandFetch]
  split
  · exact State.adminPad_pending ..
  · split
    next f hf => exact leavesQueue_of_commandOf hf e s
    next => exact State.runCmd_pending (unknownSpec_pending _) s e

/-! ## Meanings of PERST#, hot reset and FLR -/

@[simp] theorem State.showD0_pending (s : State) : s.showD0.pending = s.pending := by simp [State.showD0]

@[simp] theorem State.hostDomainReset_pending (s : State) : s.hostDomainReset.pending = s.pending := by simp [State.hostDomainReset]

@[simp] theorem execPerstAssert_leaves (s : State) :
    LeavesQueue s (execPerstAssert s) := by
  simp only [execPerstAssert]
  repeat' split
  all_goals simp

@[simp] theorem execPerstDeassert_leaves (s : State) :
    LeavesQueue s (execPerstDeassert s) := by simp [execPerstDeassert]

@[simp] theorem execHotReset_leaves (s : State) :
    LeavesQueue s (execHotReset s) := by simp [execHotReset]

@[simp] theorem execFlrPf0_leaves (s : State) :
    LeavesQueue s (execFlrPf0 s) := by simp [execFlrPf0]

@[simp] theorem execFlrVf_leaves (vf : Fin 2048) (s : State) :
    LeavesQueue s (execFlrVf vf s) := by simp [execFlrVf]

/-! ## Reads and writes of the register windows -/

@[simp] theorem State.pgrCfg_pending (s : State) (a v : Nat) : (s.pgrCfg a v).pending = s.pending := by simp [State.pgrCfg]

@[simp] theorem State.mgpCfg_pending (s : State) (v : Nat) : (s.mgpCfg v).pending = s.pending := by simp [State.mgpCfg]

@[simp] theorem State.smbCfg_pending (s : State) (v : Nat) : (s.smbCfg v).pending = s.pending := by simp [State.smbCfg]

@[simp] theorem State.trapWrite_pending (s : State) (q slot n v : Nat) : (s.trapWrite q slot n v).pending = s.pending := by
  simp only [State.trapWrite]
  split <;> simp

theorem writeEffects_pending {x : Nat × (Nat → Nat → Nat → State → State)} (h : x ∈ writeEffects) (mid i v : Nat) (s : State) :
    (x.2 mid i v s).pending = s.pending := by
  have all : writeEffects.Forall fun x => ∀ mid i v s, (x.2 mid i v s).pending = s.pending := by
    simp only [writeEffects, List.forall_cons]
    and_intros
    all_goals intros
    all_goals repeat' split
    all_goals simp
  exact List.forall_iff_forall_mem.1 all x h mid i v s

@[simp] theorem State.mapWrite_pending (s : State) (mid a v : Nat) (d : RegDef) (i : Nat) :
    (s.mapWrite mid a v d i).pending = s.pending := by
  unfold State.mapWrite
  split
  · simp
  · split
    · exact State.dmaWriteBy_pending _ _ _ (State.dmaRegWrite_pending ..)
    · split
      next f hf => exact writeEffects_pending (mem_of_lookup hf) mid i v s
      next => simp

@[simp] theorem State.ctlWrite32_pending (s : State) (mid a v : Nat) : (s.ctlWrite32 mid a v).pending = s.pending := by
  refine State.gatedWrite_pending _ _ ?_
  repeat' split
  all_goals simp

@[simp] theorem State.ctlWrite64_pending (s : State) (mid a v : Nat) : (s.ctlWrite64 mid a v).pending = s.pending := by
  unfold State.ctlWrite64
  split
  · refine State.gatedWrite_pending _ _ ?_
    split <;> simp
  · simp

@[simp] theorem State.mapRead_pending (s : State) (mid a : Nat) (d : RegDef) (i : Nat) : (s.mapRead mid a d i).2.pending = s.pending := by
  simp [State.mapRead]

@[simp] theorem State.regionRead_pending (s : State) (r n : Nat) : (s.regionRead r n).2.pending = s.pending := by simp [State.regionRead]

@[simp] theorem State.ctlRead32_pending (s : State) (mid a : Nat) : (s.ctlRead32 mid a).2.pending = s.pending := by
  refine State.gatedValue_pending _ _ ?_
  split
  · split
    · simp
    · split
      · split
        next h => simp [pending_of_eq h]
      · simp
  · split
    · simp
    · split
      · split
        next h => simp [pending_of_eq h]
      · split
        · split <;> simp
        · simp

@[simp] theorem State.ctlRead64_pending (s : State) (mid a : Nat) : (s.ctlRead64 mid a).2.pending = s.pending := by
  unfold State.ctlRead64
  split
  · refine State.gatedValue_pending _ _ ?_
    split <;> simp
  · simp

@[simp] theorem State.windowDoorbell_pending (s : State) (i l v : Nat) (arm : Bool) : (s.windowDoorbell i l v arm).pending = s.pending := by
  simp [State.windowDoorbell]

@[simp] theorem State.instWrite32_pending (s : State) (i o v : Nat) : (s.instWrite32 i o v).pending = s.pending := by
  unfold State.instWrite32
  split
  · exact ite_pending (State.buoyVector_pending ..) (State.chanWrite_pending ..)
  · exact ite_pending (State.hint_pending ..) rfl
  · exact ite_pending (State.windowDoorbell_pending ..) rfl
  · extract_lets +onlyGivenNames n e
    split
    · exact State.pending_setVec ..
    · exact State.pending_setVec ..
    · exact State.pending_setVec ..
    · exact ite_pending (State.pending_setVec ..) (ite_pending (State.msixUnmask_pending ..) rfl)
  · exact State.urPosted_pending ..
  · rfl

@[simp] theorem State.instWrite64_pending (s : State) (i o v : Nat) : (s.instWrite64 i o v).pending = s.pending := by
  simp only [State.instWrite64]
  split <;> simp

@[simp] theorem State.instRead32_pending (s : State) (i o : Nat) : (s.instRead32 i o).2.pending = s.pending := by
  simp only [State.instRead32]
  split <;> simp

@[simp] theorem State.instRead64_pending (s : State) (i o : Nat) : (s.instRead64 i o).2.pending = s.pending := by
  simp only [State.instRead64]
  split <;> simp

@[simp] theorem State.notOwnedRead_pending (s : State) (i o : Nat) : (s.notOwnedRead i o).pending = s.pending := by
  simp [State.notOwnedRead]

@[simp] theorem State.regWrite_pending (s : State) (r : RegAccess) (v : Nat) : (s.regWrite r v).pending = s.pending := by
  unfold State.regWrite
  split <;> simp

@[simp] theorem State.regRead_pending (s : State) (r : RegAccess) : (s.regRead r).pending = s.pending := by
  unfold State.regRead
  split <;> simp

/-! ## Meanings of register accesses, block control and the debug port's accesses -/

@[simp] theorem execRegisterWrite_leaves (acc : RegAccess) (value : Dword) (s : State) :
    LeavesQueue s (execRegisterWrite acc value s) := State.regWrite_pending ..

@[simp] theorem execRcRegisterRead_leaves (acc : RegAccess) (s : State) :
    LeavesQueue s (execRcRegisterRead acc s) := State.regRead_pending ..

@[simp] theorem State.blkCtlWrite_pending (s : State) (mid b v : Nat) : (s.blkCtlWrite mid b v).pending = s.pending := by
  simp [State.blkCtlWrite]

@[simp] theorem execBlkCtlEnableWrite_leaves (mid : BitVec 13) (block : Fin 32) (s : State) :
    LeavesQueue s (execBlkCtlEnableWrite mid block s) := State.blkCtlWrite_pending ..

@[simp] theorem execBlkCtlDisableWrite_leaves (mid : BitVec 13) (block : Fin 32) (s : State) :
    LeavesQueue s (execBlkCtlDisableWrite mid block s) := State.blkCtlWrite_pending ..

@[simp] theorem execBlkCtlLockWrite_leaves (mid : BitVec 13) (block : Fin 32) (enable : Bool) (s : State) :
    LeavesQueue s (execBlkCtlLockWrite mid block enable s) := State.blkCtlWrite_pending ..

@[simp] theorem execConsistencyCheckEnd_leaves (block : Fin 32) (s : State) :
    LeavesQueue s (execConsistencyCheckEnd block s) := State.blkCheckEnd_pending ..

@[simp] theorem State.dbgMram_pending (s : State) (a : Nat) (bs : List Byte) : (s.dbgMram a bs).pending = s.pending := by
  simp only [State.dbgMram]
  split <;> simp

@[simp] theorem State.dbgMemory_pending (s : State) (a n : Nat) (write : Option (List Byte)) :
    (s.dbgMemory a n write).pending = s.pending := by
  simp only [State.dbgMemory]
  split <;> simp

@[simp] theorem execDbgAccess_leaves (addr : BitVec 40) (size : Nat) (full : Bool) (write : Option (List Byte)) (s : State) :
    LeavesQueue s (execDbgAccess addr size full write s) := by
  unfold execDbgAccess
  split <;> simp

/-! ## The dispatch -/

@[simp] theorem exec_leaves (i : Instr) (s : State) :
    LeavesQueue s (exec i s) := by
  unfold exec
  cases i with
  | registerWrite => exact execRegisterWrite_leaves ..
  | rcRegisterRead => exact execRcRegisterRead_leaves ..
  | blkCtlEnableWrite => exact execBlkCtlEnableWrite_leaves ..
  | consistencyCheckEnd => exact execConsistencyCheckEnd_leaves ..
  | blkCtlDisableWrite => exact execBlkCtlDisableWrite_leaves ..
  | blkCtlLockWrite => exact execBlkCtlLockWrite_leaves ..
  | auxSuppliesGood => exact execAuxSuppliesGood_leaves ..
  | auxSuppliesLost => exact execAuxSuppliesLost_leaves ..
  | mainSuppliesGood => exact execMainSuppliesGood_leaves ..
  | mainSuppliesLost => exact execMainSuppliesLost_leaves ..
  | sequencingFault => exact execSequencingFault_leaves ..
  | railExcursion => exact execRailExcursion_leaves ..
  | keeperLockstepMismatch => exact execKeeperLockstepMismatch_leaves ..
  | heartbeatTimeout => exact execHeartbeatTimeout_leaves ..
  | revalidationEnd => exact execRevalidationEnd_leaves ..
  | standbyPairReady => exact execStandbyPairReady_leaves ..
  | islandResetGo => exact execIslandResetGo_leaves ..
  | islandResetEnd => exact execIslandResetEnd_leaves ..
  | devStartService => exact execDevStartService_leaves ..
  | devSnapshotSave => exact execDevSnapshotSave_leaves ..
  | snapshotSaveEnd => exact execSnapshotSaveEnd_leaves ..
  | devSnapshotQuery => exact execDevSnapshotQuery_leaves ..
  | devSnapshotErase => exact execDevSnapshotErase_leaves ..
  | devImageStage => exact execDevImageStage_leaves ..
  | imageStageEnd => exact execImageStageEnd_leaves ..
  | devImageActivate => exact execDevImageActivate_leaves ..
  | handoverRequest => exact execHandoverRequest_leaves ..
  | activationTimeout => exact execActivationTimeout_leaves ..
  | devImageQuery => exact execDevImageQuery_leaves ..
  | perstAssert => exact execPerstAssert_leaves ..
  | perstDeassert => exact execPerstDeassert_leaves ..
  | hotReset => exact execHotReset_leaves ..
  | flrPf0 => exact execFlrPf0_leaves ..
  | flrVf => exact execFlrVf_leaves ..
  | hostFacingResetEnd => exact execHostFacingResetEnd_leaves ..
  | generationIncrementDue => exact execGenerationIncrementDue_leaves ..
  | adminCommandFetch => exact execAdminCommandFetch_leaves ..
  | devIdentify => exact execDevIdentify_leaves ..
  | devNop => exact execDevNop_leaves ..
  | devCmdAbort => exact execDevCmdAbort_leaves ..
  | devClaimQuery => exact execDevClaimQuery_leaves ..
  | rclQueryResWrite => exact execRclQueryResWrite_leaves ..
  | upstreamLinkChange => exact execUpstreamLinkChange_leaves ..
  | configRequest => exact execConfigRequest_leaves ..
  | vfEnableSet => exact execVfEnableSet_leaves ..
  | vfEnableClear => exact execVfEnableClear_leaves ..
  | numvfsWrite => exact execNumvfsWrite_leaves ..
  | powerstateWrite => exact execPowerstateWrite_leaves ..
  | pmeTurnOff => exact execPmeTurnOff_leaves ..
  | hostReadCompletion => exact execHostReadCompletion_leaves ..
  | completionTimeout => exact execCompletionTimeout_leaves ..
  | lateCompletion => exact execLateCompletion_leaves ..
  | tagQuarantineExpiry => exact execTagQuarantineExpiry_leaves ..
  | peerWindowRequest => exact execPeerWindowRequest_leaves ..
  | peerWinCommit => exact execPeerWinCommit_leaves ..
  | peerWinDrained => exact execPeerWinDrained_leaves ..
  | l0pNarrow => exact execL0pNarrow_leaves ..
  | l0pWiden => exact execL0pWiden_leaves ..
  | l1Request => exact execL1Request_leaves ..
  | hstPmCfgEnable => exact execHstPmCfgEnable_leaves ..
  | hstCplTimeoutOverride => exact execHstCplTimeoutOverride_leaves ..
  | slotPresenceChange => exact execSlotPresenceChange_leaves ..
  | slotPowerOn => exact execSlotPowerOn_leaves ..
  | slotPowerGood => exact execSlotPowerGood_leaves ..
  | slotPowerGoodTimeout => exact execSlotPowerGoodTimeout_leaves ..
  | slotLinkActive => exact execSlotLinkActive_leaves ..
  | slotTrainingTimeout => exact execSlotTrainingTimeout_leaves ..
  | attentionButton => exact execAttentionButton_leaves ..
  | removalTimeout => exact execRemovalTimeout_leaves ..
  | removalDrainEnd => exact execRemovalDrainEnd_leaves ..
  | slotPowerFault => exact execSlotPowerFault_leaves ..
  | dpcErrMessage => exact execDpcErrMessage_leaves ..
  | surpriseDown => exact execSurpriseDown_leaves ..
  | dpcSwTrigger => exact execDpcSwTrigger_leaves ..
  | dpcRelease => exact execDpcRelease_leaves ..
  | driveRequest => exact execDriveRequest_leaves ..
  | doorbellWrite => exact execDoorbellWrite_leaves ..
  | evqDoorbellWrite => exact execEvqDoorbellWrite_leaves ..
  | contextFillComplete => exact execContextFillComplete_leaves ..
  | txFrame => exact execTxFrame_leaves ..
  | rxBuffer => exact execRxBuffer_leaves ..
  | padEntry => exact execPadEntry_leaves ..
  | coalesceTimerExpiry => exact execCoalesceTimerExpiry_leaves ..
  | queueCreate => exact execQueueCreate_leaves ..
  | queueDestroy => exact execQueueDestroy_leaves ..
  | queueDrainEnd => exact execQueueDrainEnd_leaves ..
  | queueModify => exact execQueueModify_leaves ..
  | queueQuery => exact execQueueQuery_leaves ..
  | evqCreate => exact execEvqCreate_leaves ..
  | evqDestroy => exact execEvqDestroy_leaves ..
  | evqRearm => exact execEvqRearm_leaves ..
  | qmgCtxSelWrite => exact execQmgCtxSelWrite_leaves ..
  | dmaChannelCfg => exact execDmaChannelCfg_leaves ..
  | dmaChStart => exact execDmaChStart_leaves ..
  | dmaChAbort => exact execDmaChAbort_leaves ..
  | dmaChannelSchedule => exact execDmaChannelSchedule_leaves ..
  | dmaBurstComplete => exact execDmaBurstComplete_leaves ..
  | eventSourceEdge => exact execEventSourceEdge_leaves ..
  | evcSrcForce => exact execEvcSrcForce_leaves ..
  | evcSrcEnable => exact execEvcSrcEnable_leaves ..
  | evcPendingClear => exact execEvcPendingClear_leaves ..
  | evcClaimRead => exact execEvcClaimRead_leaves ..
  | targetIdle => exact execTargetIdle_leaves ..
  | moderationHoldExpiry => exact execModerationHoldExpiry_leaves ..
  | vectorModerationExpiry => exact execVectorModerationExpiry_leaves ..
  | idleHintWrite => exact execIdleHintWrite_leaves ..
  | msixUnmask => exact execMsixUnmask_leaves ..
  | buoySend => exact execBuoySend_leaves ..
  | buoyRecvRead => exact execBuoyRecvRead_leaves ..
  | buoyWithdraw => exact execBuoyWithdraw_leaves ..
  | buoyDbSend => exact execBuoyDbSend_leaves ..
  | buoyDbRecvClear => exact execBuoyDbRecvClear_leaves ..
  | buoyVectorEnable => exact execBuoyVectorEnable_leaves ..
  | buoyForceClear => exact execBuoyForceClear_leaves ..
  | insCreate => exact execInsCreate_leaves ..
  | insDestroy => exact execInsDestroy_leaves ..
  | insReset => exact execInsReset_leaves ..
  | insQuery => exact execInsQuery_leaves ..
  | insSetQuota => exact execInsSetQuota_leaves ..
  | insSuspend => exact execInsSuspend_leaves ..
  | insResume => exact execInsResume_leaves ..
  | insMgrAdminEnable => exact execInsMgrAdminEnable_leaves ..
  | insSelWrite => exact execInsSelWrite_leaves ..
  | frameReceive => exact execFrameReceive_leaves ..
  | frameTail => exact execFrameTail_leaves ..
  | pageFillComplete => exact execPageFillComplete_leaves ..
  | parkTimeout => exact execParkTimeout_leaves ..
  | hostFillRetry => exact execHostFillRetry_leaves ..
  | writeBackComplete => exact execWriteBackComplete_leaves ..
  | pageEviction => exact execPageEviction_leaves ..
  | pageDemotion => exact execPageDemotion_leaves ..
  | pageCopyComplete => exact execPageCopyComplete_leaves ..
  | patrolScrubRead => exact execPatrolScrubRead_leaves ..
  | pgrPin => exact execPgrPin_leaves ..
  | pgrUnpin => exact execPgrUnpin_leaves ..
  | pgrPrefetch => exact execPgrPrefetch_leaves ..
  | memDonate => exact execMemDonate_leaves ..
  | memRevoke => exact execMemRevoke_leaves ..
  | memPeerWindow => exact execMemPeerWindow_leaves ..
  | bpmPoolCfg => exact execBpmPoolCfg_leaves ..
  | bpmSetQuota => exact execBpmSetQuota_leaves ..
  | alloc => exact execAlloc_leaves ..
  | share => exact execShare_leaves ..
  | release => exact execRelease_leaves ..
  | transfer => exact execTransfer_leaves ..
  | free => exact execFree_leaves ..
  | prsGraphWrite => exact execPrsGraphWrite_leaves ..
  | clsRuleWrite => exact execClsRuleWrite_leaves ..
  | clsRuleDelete => exact execClsRuleDelete_leaves ..
  | clsHashCfg => exact execClsHashCfg_leaves ..
  | clsIndirWrite => exact execClsIndirWrite_leaves ..
  | clsExcPolicer => exact execClsExcPolicer_leaves ..
  | excPolicerRefill => exact execExcPolicerRefill_leaves ..
  | tblCreate => exact execTblCreate_leaves ..
  | shadowCopyEnd => exact execShadowCopyEnd_leaves ..
  | tblDestroy => exact execTblDestroy_leaves ..
  | tblInsert => exact execTblInsert_leaves ..
  | tblDelete => exact execTblDelete_leaves ..
  | tblSearch => exact execTblSearch_leaves ..
  | tblNext => exact execTblNext_leaves ..
  | tblFlushPort => exact execTblFlushPort_leaves ..
  | tableFlushEnd => exact execTableFlushEnd_leaves ..
  | tblShadowSwitch => exact execTblShadowSwitch_leaves ..
  | lpmAdd => exact execLpmAdd_leaves ..
  | lpmDelete => exact execLpmDelete_leaves ..
  | lpmVrfCfg => exact execLpmVrfCfg_leaves ..
  | vrfFlushEnd => exact execVrfFlushEnd_leaves ..
  | lpmNodeRebuild => exact execLpmNodeRebuild_leaves ..
  | learnCfg => exact execLearnCfg_leaves ..
  | learnTokenRefill => exact execLearnTokenRefill_leaves ..
  | ageingScanVisit => exact execAgeingScanVisit_leaves ..
  | tblSelWrite => exact execTblSelWrite_leaves ..
  | swxActionWrite => exact execSwxActionWrite_leaves ..
  | swxTunnelCfg => exact execSwxTunnelCfg_leaves ..
  | swxMirrorCfg => exact execSwxMirrorCfg_leaves ..
  | swxPolicerCfg => exact execSwxPolicerCfg_leaves ..
  | policerRefill => exact execPolicerRefill_leaves ..
  | orderedSlotTimeout => exact execOrderedSlotTimeout_leaves ..
  | swxCntSelWrite => exact execSwxCntSelWrite_leaves ..
  | saffronRequest => exact execSaffronRequest_leaves ..
  | derivationComplete => exact execDerivationComplete_leaves ..
  | safRootKeyLoad => exact execSafRootKeyLoad_leaves ..
  | safAssocCreate => exact execSafAssocCreate_leaves ..
  | safAssocRekey => exact execSafAssocRekey_leaves ..
  | safAssocDestroy => exact execSafAssocDestroy_leaves ..
  | safOpkeyEnrol => exact execSafOpkeyEnrol_leaves ..
  | safOpkeyRevoke => exact execSafOpkeyRevoke_leaves ..
  | safAssocSelWrite => exact execSafAssocSelWrite_leaves ..
  | cloveDispatch => exact execCloveDispatch_leaves ..
  | pktLwbe => exact execPktLwbe_leaves ..
  | pktHead => exact execPktHead_leaves ..
  | pktLen => exact execPktLen_leaves ..
  | pktEmit => exact execPktEmit_leaves ..
  | pktDrop => exact execPktDrop_leaves ..
  | pktNew => exact execPktNew_leaves ..
  | tblEm => exact execTblEm_leaves ..
  | tblLpm => exact execTblLpm_leaves ..
  | pgrPage => exact execPgrPage_leaves ..
  | pgrLw => exact execPgrLw_leaves ..
  | pgrSw => exact execPgrSw_leaves ..
  | pgrAmoadd => exact execPgrAmoadd_leaves ..
  | pgrAmoswap => exact execPgrAmoswap_leaves ..
  | pgrPref => exact execPgrPref_leaves ..
  | msgLock => exact execMsgLock_leaves ..
  | msgUnlock => exact execMsgUnlock_leaves ..
  | msgRd => exact execMsgRd_leaves ..
  | msgWr => exact execMsgWr_leaves ..
  | clvWait => exact execClvWait_leaves ..
  | clvDone => exact execClvDone_leaves ..
  | clvWake => exact execClvWake_leaves ..
  | bufAlloc => exact execBufAlloc_leaves ..
  | bufShare => exact execBufShare_leaves ..
  | bufRelease => exact execBufRelease_leaves ..
  | bufFree => exact execBufFree_leaves ..
  | bufXfer => exact execBufXfer_leaves ..
  | supNext => exact execSupNext_leaves ..
  | supAct => exact execSupAct_leaves ..
  | supFrel => exact execSupFrel_leaves ..
  | supState => exact execSupState_leaves ..
  | baseInstruction => exact execBaseInstruction_leaves ..
  | ecall => exact execEcall_leaves ..
  | ebreak => exact execEbreak_leaves ..
  | blockedResultReturn => exact execBlockedResultReturn_leaves ..
  | compareReached => exact execCompareReached_leaves ..
  | wdogExpiry => exact execWdogExpiry_leaves ..
  | supRestart => exact execSupRestart_leaves ..
  | clvWdogEnable => exact execClvWdogEnable_leaves ..
  | clvProgramLoad => exact execClvProgramLoad_leaves ..
  | clvProgramSwap => exact execClvProgramSwap_leaves ..
  | swapDrainEnd => exact execSwapDrainEnd_leaves ..
  | clvProgramUnload => exact execClvProgramUnload_leaves ..
  | clvClusterMode => exact execClvClusterMode_leaves ..
  | clvMsgregRelease => exact execClvMsgregRelease_leaves ..
  | routineStart => exact execRoutineStart_leaves ..
  | workEntryFetch => exact execWorkEntryFetch_leaves ..
  | connectionTimerExpiry => exact execConnectionTimerExpiry_leaves ..
  | portOperationComplete => exact execPortOperationComplete_leaves ..
  | microwordExecute => exact execMicrowordExecute_leaves ..
  | trapResume => exact execTrapResume_leaves ..
  | trapAbort => exact execTrapAbort_leaves ..
  | driveCommandTimeout => exact execDriveCommandTimeout_leaves ..
  | psqUcodeStage => exact execPsqUcodeStage_leaves ..
  | psqBankSwap => exact execPsqBankSwap_leaves ..
  | rdmaQpCreate => exact execRdmaQpCreate_leaves ..
  | rdmaQpModify => exact execRdmaQpModify_leaves ..
  | rdmaQpDestroy => exact execRdmaQpDestroy_leaves ..
  | rdmaMrRegister => exact execRdmaMrRegister_leaves ..
  | rdmaMrDeregister => exact execRdmaMrDeregister_leaves ..
  | nvmeCtrlConnect => exact execNvmeCtrlConnect_leaves ..
  | nvmeCtrlDisconnect => exact execNvmeCtrlDisconnect_leaves ..
  | nvmeLocalNsAttach => exact execNvmeLocalNsAttach_leaves ..
  | nvmeLocalNsDetach => exact execNvmeLocalNsDetach_leaves ..
  | frsNodeCfg => exact execFrsNodeCfg_leaves ..
  | frsShaperCfg => exact execFrsShaperCfg_leaves ..
  | frsGclWrite => exact execFrsGclWrite_leaves ..
  | frsGclCommit => exact execFrsGclCommit_leaves ..
  | frsTelemetryCfg => exact execFrsTelemetryCfg_leaves ..
  | schedulerChoice => exact execSchedulerChoice_leaves ..
  | refillEpoch => exact execRefillEpoch_leaves ..
  | gateEdge => exact execGateEdge_leaves ..
  | gateStaging => exact execGateStaging_leaves ..
  | gclSwitch => exact execGclSwitch_leaves ..
  | leafBelowMax => exact execLeafBelowMax_leaves ..
  | telemetrySample => exact execTelemetrySample_leaves ..
  | frsNodeSelWrite => exact execFrsNodeSelWrite_leaves ..
  | portModeSet => exact execPortModeSet_leaves ..
  | portLinkChange => exact execPortLinkChange_leaves ..
  | portCfg => exact execPortCfg_leaves ..
  | portStatsRead => exact execPortStatsRead_leaves ..
  | portPfcCfg => exact execPortPfcCfg_leaves ..
  | pauseRepeat => exact execPauseRepeat_leaves ..
  | pauseFrameReceived => exact execPauseFrameReceived_leaves ..
  | pauseExpiry => exact execPauseExpiry_leaves ..
  | mgpFrameReceived => exact execMgpFrameReceived_leaves ..
  | mgpLinkChange => exact execMgpLinkChange_leaves ..
  | mgpCollision => exact execMgpCollision_leaves ..
  | backoffExpiry => exact execBackoffExpiry_leaves ..
  | mctpControlMessage => exact execMctpControlMessage_leaves ..
  | spdmMessage => exact execSpdmMessage_leaves ..
  | yadopex => exact execYadopex_leaves ..
  | wake => exact execWake_leaves ..
  | recoveryWrite => exact execRecoveryWrite_leaves ..
  | recoveryCommit => exact execRecoveryCommit_leaves ..
  | timeAdjust => exact execTimeAdjust_leaves ..
  | slewEnd => exact execSlewEnd_leaves ..
  | timePpsCfg => exact execTimePpsCfg_leaves ..
  | ppsEdge => exact execPpsEdge_leaves ..
  | timeInEdge => exact execTimeInEdge_leaves ..
  | ptmExchange => exact execPtmExchange_leaves ..
  | timeDaymarkAlarm => exact execTimeDaymarkAlarm_leaves ..
  | daymarkAlarmFire => exact execDaymarkAlarmFire_leaves ..
  | daymarkFollowCheck => exact execDaymarkFollowCheck_leaves ..
  | vbatLoss => exact execVbatLoss_leaves ..
  | calTableWrite => exact execCalTableWrite_leaves ..
  | calTableRead => exact execCalTableRead_leaves ..
  | timSnapCapture => exact execTimSnapCapture_leaves ..
  | timSideSelWrite => exact execTimSideSelWrite_leaves ..
  | lanRegionAssign => exact execLanRegionAssign_leaves ..
  | lanImageLoad => exact execLanImageLoad_leaves ..
  | initTimeout => exact execInitTimeout_leaves ..
  | lanRegionQuiesce => exact execLanRegionQuiesce_leaves ..
  | lanRegionUnload => exact execLanRegionUnload_leaves ..
  | quiesceDrained => exact execQuiesceDrained_leaves ..
  | quiesceTimeout => exact execQuiesceTimeout_leaves ..
  | lanPowerCap => exact execLanPowerCap_leaves ..
  | lanAllowanceSet => exact execLanAllowanceSet_leaves ..
  | lanTapCfg => exact execLanTapCfg_leaves ..
  | regionReturn => exact execRegionReturn_leaves ..
  | tapHoldTimeout => exact execTapHoldTimeout_leaves ..
  | regionMemoryRequest => exact execRegionMemoryRequest_leaves ..
  | regionRegisterAccess => exact execRegionRegisterAccess_leaves ..
  | regionRegisterTimeout => exact execRegionRegisterTimeout_leaves ..
  | lxEventEdge => exact execLxEventEdge_leaves ..
  | configScrubPass => exact execConfigScrubPass_leaves ..
  | regionPowerSample => exact execRegionPowerSample_leaves ..
  | throttleStage2 => exact execThrottleStage2_leaves ..
  | throttleRecovery => exact execThrottleRecovery_leaves ..
  | powerTrip => exact execPowerTrip_leaves ..
  | flitReceive => exact execFlitReceive_leaves ..
  | replayTimeout => exact execReplayTimeout_leaves ..
  | beaconSend => exact execBeaconSend_leaves ..
  | beaconReceive => exact execBeaconReceive_leaves ..
  | sprJoin => exact execSprJoin_leaves ..
  | joinWaitEnd => exact execJoinWaitEnd_leaves ..
  | sprLeave => exact execSprLeave_leaves ..
  | sprRouteWrite => exact execSprRouteWrite_leaves ..
  | sprEpochCommit => exact execSprEpochCommit_leaves ..
  | previousEpochDiscard => exact execPreviousEpochDiscard_leaves ..
  | sprRemoteGrant => exact execSprRemoteGrant_leaves ..
  | sprChanMapWrite => exact execSprChanMapWrite_leaves ..
  | mailboxPacketReceive => exact execMailboxPacketReceive_leaves ..
  | mailboxResend => exact execMailboxResend_leaves ..
  | remoteRequestReceive => exact execRemoteRequestReceive_leaves ..
  | remoteResponseReceive => exact execRemoteResponseReceive_leaves ..
  | sparRequestTimeout => exact execSparRequestTimeout_leaves ..
  | framePacketReceive => exact execFramePacketReceive_leaves ..
  | timeExchange => exact execTimeExchange_leaves ..
  | leakTick => exact execLeakTick_leaves ..
  | retirementStart => exact execRetirementStart_leaves ..
  | retirementEnd => exact execRetirementEnd_leaves ..
  | rasRetire => exact execRasRetire_leaves ..
  | rasRestore => exact execRasRestore_leaves ..
  | selftestEnd => exact execSelftestEnd_leaves ..
  | rasThresholdSet => exact execRasThresholdSet_leaves ..
  | rasFoghornAck => exact execRasFoghornAck_leaves ..
  | rasLogRead => exact execRasLogRead_leaves ..
  | rasHeartbeatWrite => exact execRasHeartbeatWrite_leaves ..
  | rasCntSelWrite => exact execRasCntSelWrite_leaves ..
  | tstPlaceUnderTest => exact execTstPlaceUnderTest_leaves ..
  | tstRelease => exact execTstRelease_leaves ..
  | tstPatternCfg => exact execTstPatternCfg_leaves ..
  | tstLoopbackCfg => exact execTstLoopbackCfg_leaves ..
  | tstResultRead => exact execTstResultRead_leaves ..
  | tstLaneCtlEnable => exact execTstLaneCtlEnable_leaves ..
  | tstLaneClear => exact execTstLaneClear_leaves ..
  | checkerLock => exact execCheckerLock_leaves ..
  | checkerLockLoss => exact execCheckerLockLoss_leaves ..
  | checkerDurationEnd => exact execCheckerDurationEnd_leaves ..
  | bypass => exact execBypass_leaves ..
  | idcode => exact execIdcode_leaves ..
  | samplePreload => exact execSamplePreload_leaves ..
  | extest => exact execExtest_leaves ..
  | dbgAccess => exact execDbgAccess_leaves ..
  | keeperDebugHalt => exact execKeeperDebugHalt_leaves ..
  | tstClvHaltWrite => exact execTstClvHaltWrite_leaves ..
  | tstClvRegDataWrite => exact execTstClvRegDataWrite_leaves ..
  | powerSample => exact execPowerSample_leaves ..
  | powerLimitClear => exact execPowerLimitClear_leaves ..
  | thermalWarning => exact execThermalWarning_leaves ..
  | thermalThrottle => exact execThermalThrottle_leaves ..
  | throttleExit => exact execThrottleExit_leaves ..
  | thermalTrip => exact execThermalTrip_leaves ..
  | vbatSample => exact execVbatSample_leaves ..
  | pwrLimitWrite => exact execPwrLimitWrite_leaves ..
  | pwrThermCfgWrite => exact execPwrThermCfgWrite_leaves ..
  | sparLinkChange => exact execSparLinkChange_leaves ..
  | highBerEvent => exact execHighBerEvent_leaves ..
  | keeperMemoryError => exact execKeeperMemoryError_leaves ..
  | hostLinkError => exact execHostLinkError_leaves ..
  | smbusBusError => exact execSmbusBusError_leaves ..
  | lxReadyRise => exact execLxReadyRise_leaves ..
  | ucodeStageEnd => exact execUcodeStageEnd_leaves ..
  | calTableWriteEnd => exact execCalTableWriteEnd_leaves ..
  | modeTransitionEnd => exact execModeTransitionEnd_leaves ..
  | keeperDebugResume => exact execKeeperDebugResume_leaves ..
  | activationVerifyFail => exact execActivationVerifyFail_leaves ..

/-! ## What the block does of itself on an empty queue -/

@[simp] theorem State.workDone_pending (s : State) : s.workDone.pending = s.pending := by simp [State.workDone]

@[simp] theorem State.idle_pending (s : State) : s.idle.pending = s.pending := by simp [State.idle]

/-- Settles O50, by what the front of the queue is: nothing, and an idle step; or a command, whose meaning leaves the rest. -/
theorem stepTakesFront : Obligations.StepTakesFront := by
  unfold Obligations.StepTakesFront
  intro s t h
  unfold step at h
  split at h
  next hq => rw [← Host.Outcome.next.inj h, State.idle_pending, hq, List.tail_nil]
  next c rest hq =>
    have hc := exec_leaves c { s with pending := rest }
    rw [h, leavesQueue_next] at hc
    rw [hc, hq, List.tail_cons]

end Sys2Proof.Machine
end

section
/-! Family 04_host_endpoint: peer windows and link power (O12), the downstream ports (O13), faults, retirement and the fault log (O43),
and the doorbells of queues that an instance does not own (O57). -/

namespace Sys2Proof.Machine

/-! ## What an edge on an event source leaves (R243 to R251) -/

/-- t has the queues of s, and holds what s does in every register below the event controller's block. -/
def State.EventsOnly (s t : State) : Prop := t.queues = s.queues ∧ ∀ a < 4 * 2 ^ 20, t.reg a = s.reg a

theorem State.EventsOnly.refl (s : State) : s.EventsOnly s := ⟨rfl, fun _ _ => rfl⟩

theorem State.EventsOnly.trans {s t u : State} : s.EventsOnly t → t.EventsOnly u → s.EventsOnly u
  | ⟨hqueues, hregs⟩, ⟨hqueues', hregs'⟩ => ⟨hqueues'.trans hqueues, fun a ha => (hregs' a ha).trans (hregs a ha)⟩

theorem State.EventsOnly.foldl {α : Type} {f : State → α → State} (hf : ∀ u x, State.EventsOnly u (f u x)) (l : List α) (s : State) :
    s.EventsOnly (l.foldl f s) := by
  induction l generalizing s with
  | nil => exact .refl s
  | cons x l ih => exact (hf s x).trans (ih (f s x))

theorem State.setReg_eventsOnly (s : State) {a : Nat} (v : Nat) (h : 4 * 2 ^ 20 ≤ a) : s.EventsOnly (s.setReg a v) :=
  ⟨rfl, fun _ hb => s.reg_setReg_ne v (by omega)⟩

theorem State.bump_eventsOnly (s : State) {a : Nat} (h : 4 * 2 ^ 20 ≤ a) : s.EventsOnly (s.bump a) := s.setReg_eventsOnly _ h

theorem State.emit_eventsOnly (s : State) (o : Out) : s.EventsOnly (s.emit o) := ⟨rfl, fun _ _ => rfl⟩

theorem State.settleLine_eventsOnly (s : State) (t : Nat) : s.EventsOnly (s.settleLine t) := by
  have hset (v : Nat) : s.EventsOnly (s.setF (F.EVC_TGT_CFG_line t) v) :=
    s.setReg_eventsOnly _ (show _ ≤ 0x401200 + t * 0x4 by omega)
  have hline (v : Nat) (o : Out) : s.EventsOnly ((s.setF (F.EVC_TGT_CFG_line t) v).emit o) :=
    (hset v).trans (State.emit_eventsOnly _ o)
  simp only [State.settleLine]
  split_ifs
  · exact (hset 1).trans ((State.bump_eventsOnly _ (by decide : _ ≤ R.EVC_BYPASS)).trans (State.emit_eventsOnly _ _))
  · exact .refl s
  · exact hline 1 _
  · exact hline 0 _
  · exact (hline 0 (.targetLine t false)).trans ⟨rfl, fun _ _ => rfl⟩
  · exact .refl s

theorem State.tryWake_eventsOnly (s : State) (k n : Nat) : s.EventsOnly (s.tryWake k n) := by
  simp only [State.tryWake]
  split
  · exact ⟨rfl, fun _ _ => rfl⟩
  · exact .refl s

theorem State.settleLines_eventsOnly (s : State) : s.EventsOnly s.settleLines :=
  (State.EventsOnly.foldl State.settleLine_eventsOnly _ s).trans (.foldl (fun u k => u.tryWake_eventsOnly k 0) _ _)

theorem State.raiseEs_eventsOnly (s : State) (n : Nat) : s.EventsOnly (s.raiseEs n) := by
  simp only [State.raiseEs]
  split_ifs
  · exact ⟨rfl, fun _ _ => rfl⟩
  · exact s.bump_eventsOnly (by decide : _ ≤ R.EVC_EDGES_MERGED)
  · exact (s.setReg_eventsOnly _ (show _ ≤ 0x401000 + n / 32 * 0x4 by omega)).trans (State.settleLines_eventsOnly _)

/-- An error is logged in the configuration of its function; beyond it only its event shows (R156, R177). -/
theorem State.aer_eventsOnly (s : State) (f : Nat) (e : AerError) : s.EventsOnly (s.aer f e) := by
  unfold State.aer
  extract_lets c first
  have hdraw : s.EventsOnly (if first then s.draw else (c.header, s)).2 := by
    split
    · exact ⟨rfl, fun _ _ => rfl⟩
    · exact .refl s
  split
  next v t heq =>
    rw [heq] at hdraw
    have hlog : t.EventsOnly (t.setFn f { c with aer := c.aer ++ [e], header := v }) := ⟨rfl, fun _ _ => rfl⟩
    exact hdraw.trans (hlog.trans (State.raiseEs_eventsOnly _ _))

/-! ## Doorbells of queues that an instance does not own (R142, R144, R146) -/

/-- The queues stay as they were, and one more doorbell counts as bad. -/
def State.CountsBadDoorbell (s t : State) : Prop :=
  t.queues = s.queues ∧ t.reg R.HST_DB_BAD = min (s.reg R.HST_DB_BAD + 1) (2 ^ 32 - 1)

/-- The doorbell of a local queue that the instance does not own is discarded, whatever its form (R146). -/
theorem State.ringDoorbell_foreign {s : State} {i l : Nat} (p : QCtx → Bool) (v : Nat) (arm : Bool) (ho : s.fnOpen i = true)
    (hl : i = 0 ∨ l < 6144) (hq : s.findQ i l = none) (hown : s.ownsLoc i l = false) :
    s.CountsBadDoorbell (s.ringDoorbell i l p v arm) := by
  have hrange : (i != 0 && decide (l ≥ 6144)) = false := by
    rw [Bool.and_eq_false_iff, bne_eq_false_iff_eq, decide_eq_false_iff_not, not_le]
    exact hl
  have hring : s.ringDoorbell i l p v arm = (s.bump R.HST_DB_BAD).urPosted i := by
    simp only [State.ringDoorbell, ho, hrange, hq, hown, Bool.not_true, Bool.or_self, Bool.false_eq_true, if_false]
  obtain ⟨hqueues, hregs⟩ := (s.bump R.HST_DB_BAD).aer_eventsOnly i .unsupportedPosted
  rw [hring]
  refine ⟨hqueues, (hregs R.HST_DB_BAD (by decide)).trans ?_⟩
  rw [State.bump, State.bumpBy, State.reg_setReg_self, satAdd]
  exact Nat.mod_eq_of_lt (by omega)

theorem State.windowDoorbell_foreign {s : State} {i l : Nat} (v : Nat) (arm : Bool) (ho : s.fnOpen i = true)
    (hl : i = 0 ∨ l < 6144) (hq : s.findQ i l = none) (hown : s.ownsLoc i l = false) :
    s.CountsBadDoorbell (s.windowDoorbell i l v arm) := State.ringDoorbell_foreign _ v _ ho hl hq hown

theorem within_eq_some_iff {o base n x : Nat} : within o base n = some x ↔ o = base + x ∧ x < n := by
  rw [within, Option.ite_none_right_eq_some, Bool.and_eq_true, decide_eq_true_eq, decide_eq_true_eq, Option.some_inj]
  constructor
  · rintro ⟨⟨hle, hlt⟩, rfl⟩
    exact ⟨(Nat.add_sub_cancel' hle).symm, Nat.sub_lt_left_of_lt_add hle hlt⟩
  · rintro ⟨rfl, hx⟩
    exact ⟨⟨Nat.le_add_right _ _, Nat.add_lt_add_left hx _⟩, Nat.add_sub_cancel_left ..⟩

/-- An offset from beyond a window's end is not in it. -/
theorem within_add_eq_none {base n k : Nat} (o : Nat) (h : base + n ≤ k) : within (k + o) base n = none := by
  rw [within, if_neg]
  rw [Bool.and_eq_true, decide_eq_true_eq, decide_eq_true_eq]
  omega

/-- The doorbells of the manager's window (R142). -/
theorem instArea_manager_doorbells {o : Nat} (h : o < 0x80000) : instArea 0 (0x10000 + o) = .doorbells o := by
  simp (disch := decide) only [instArea, if_true, List.findSome?, within_add_eq_none o, within_eq_some_iff.mpr ⟨rfl, h⟩,
    Option.map_none, Option.map_some, Option.getD_some]

/-- The doorbells of another instance's window (R144). -/
theorem instArea_doorbells {i o : Nat} (hi : i ≠ 0) (h : o < 0xC000) : instArea i (0x4000 + o) = .doorbells o := by
  simp (disch := decide) only [instArea, if_neg hi, List.findSome?, within_add_eq_none o, within_eq_some_iff.mpr ⟨rfl, h⟩,
    Option.map_none, Option.map_some, Option.getD_some]

/-- Of a list of windows with the areas in them, the one that an offset is in. -/
theorem area_of_pick {l : List (Nat × Nat × (Nat → InstArea))} {off : Nat} {a : InstArea} (ha : a ≠ .reserved)
    (h : (l.findSome? fun e => (within off e.1 e.2.1).map e.2.2).getD .reserved = a) :
    ∃ e ∈ l, ∃ x, off = e.1 + x ∧ x < e.2.1 ∧ e.2.2 x = a := by
  cases hf : l.findSome? fun e => (within off e.1 e.2.1).map e.2.2 with
  | none => exact absurd (by rw [← h, hf, Option.getD_none]) ha
  | some b =>
    obtain ⟨e, he, hb⟩ := List.exists_of_findSome?_eq_some hf
    obtain ⟨x, hx, hex⟩ := Option.map_eq_some_iff.mp hb
    obtain ⟨hoff, hlt⟩ := within_eq_some_iff.mp hx
    rw [hf, Option.getD_some] at h
    exact ⟨e, he, x, hoff, hlt, hex.trans h⟩

/-- An offset in the doorbells of an instance window (R142, R144). -/
theorem eq_of_instArea_doorbells {i off o : Nat} (h : instArea i off = .doorbells o) :
    (i = 0 ∧ off = 0x10000 + o ∧ o < 0x80000) ∨ (i ≠ 0 ∧ off = 0x4000 + o ∧ o < 0xC000) := by
  by_cases hi : i = 0
  · rw [instArea, if_pos hi] at h
    obtain ⟨e, he, x, hoff, hlt, hx⟩ := area_of_pick InstArea.noConfusion h
    simp only [List.mem_cons, List.not_mem_nil, or_false] at he
    rcases he with rfl | rfl | rfl | rfl | rfl | rfl <;> cases hx
    exact .inl ⟨hi, hoff, hlt⟩
  · rw [instArea, if_neg hi] at h
    obtain ⟨e, he, x, hoff, hlt, hx⟩ := area_of_pick InstArea.noConfusion h
    simp only [List.mem_cons, List.not_mem_nil, or_false] at he
    rcases he with rfl | rfl | rfl | rfl | rfl | rfl <;> cases hx
    exact .inr ⟨hi, hoff, hlt⟩

/-- A request of a function reaches its window where the function is open. -/
theorem State.masterOpen_fn (s : State) (i : Fin 2048) : s.masterOpen i.val = s.fnOpen i.val := if_pos i.isLt

/-- A doorbell is 8 bytes of the window: the word after its low one is a doorbell's too. -/
theorem instArea_doorbells_high {i off o : Nat} (h : instArea i off = .doorbells o) (h8 : off % 8 = 0) :
    instArea i (off + 4) = .doorbells (o + 4) := by
  rcases eq_of_instArea_doorbells h with ⟨rfl, rfl, hlt⟩ | ⟨hi, rfl, hlt⟩
  · exact instArea_manager_doorbells (show o + 4 < _ by omega)
  · exact instArea_doorbells hi (show o + 4 < _ by omega)

theorem State.instRead32_doorbells {s : State} {i off o : Nat} (h : instArea i off = .doorbells o) : s.instRead32 i off = (0, s) := by
  simp only [State.instRead32, h]

theorem State.instRead64_doorbells {s : State} {i off o : Nat} (h : instArea i off = .doorbells o) (h8 : off % 8 = 0) :
    s.instRead64 i off = (0, s) := by
  simp only [State.instRead64, h, State.instRead32_doorbells h, State.instRead32_doorbells (instArea_doorbells_high h h8),
    Nat.zero_mul]

/-- An access that a window serves is one of 4 bytes, or one of 8 bytes at a multiple of 8 (R772). -/
theorem size_of_accessGood {off size : Nat} {full : Bool} (h : accessGood off size full = true) :
    size = 4 ∨ size = 8 ∧ off % 8 = 0 := by
  simp only [accessGood, Bool.and_eq_true, Bool.or_eq_true, decide_eq_true_eq] at h
  obtain ⟨⟨-, hsize⟩, hoff⟩ := h
  rcases hsize with rfl | rfl
  · exact .inl rfl
  · exact .inr ⟨rfl, hoff⟩

/-- A good write of a function's own window that starts at a doorbell is one of that doorbell, of either size (R199, R772). -/
theorem State.regWrite_doorbell {s : State} {r : RegAccess} {i : Fin 2048} {o : Nat} (v : Nat) (hw : r.window = .inst i)
    (hmid : r.mid.toNat = i.val) (ho : s.fnOpen i.val = true) (hg : accessGood r.offset.toNat r.size r.full = true)
    (h8 : r.offset.toNat % 8 = 0) (ha : instArea i.val r.offset.toNat = .doorbells o) :
    ∃ arm, s.regWrite r v = s.windowDoorbell i.val (o / 8) (v % 2 ^ 32) arm := by
  have hm : s.masterOpen i.val = true := (s.masterOpen_fn i).trans ho
  have ho8 : o % 8 = 0 := by
    rcases eq_of_instArea_doorbells ha with ⟨-, hoff, -⟩ | ⟨-, hoff, -⟩ <;> omega
  rcases size_of_accessGood hg with hs | ⟨hs, -⟩
  · refine ⟨false, ?_⟩
    rw [hs] at hg
    simp [State.regWrite, State.instWrite32, hw, hmid, hm, hs, hg, ha, ho8]
  · refine ⟨bitAt v 32, ?_⟩
    rw [hs] at hg
    simp [State.regWrite, State.instWrite64, hw, hmid, hm, hs, hg, ha]

/-- A good read of a function's own window that starts in a doorbell answers 0, and leaves at most an error logged (R146, R156). -/
theorem State.regRead_doorbell {s : State} {r : RegAccess} {i : Fin 2048} {o : Nat} (hw : r.window = .inst i)
    (hmid : r.mid.toNat = i.val) (ho : s.fnOpen i.val = true) (hg : accessGood r.offset.toNat r.size r.full = true)
    (ha : instArea i.val r.offset.toNat = .doorbells o) :
    ∃ t, s.EventsOnly t ∧ s.regRead r = t.emit (.readData i.val 0) := by
  have hm : s.masterOpen i.val = true := (s.masterOpen_fn i).trans ho
  cases hown : s.notOwned i.val r.offset.toNat with
  | true =>
    refine ⟨_, s.aer_eventsOnly i.val .unsupportedNonPosted, ?_⟩
    simp [State.regRead, State.notOwnedRead, hw, hmid, hm, hg, hown, ha]
  | false =>
    refine ⟨s, .refl s, ?_⟩
    rcases size_of_accessGood hg with hs | ⟨hs, h8⟩
    · rw [hs] at hg
      simp [State.regRead, hw, hmid, hm, hs, hg, hown, State.instRead32_doorbells ha]
    · rw [hs] at hg
      simp [State.regRead, hw, hmid, hm, hs, hg, hown, State.instRead64_doorbells ha h8]

/-! ## Peer windows and link power (R150, R158 to R168) -/

/-- A read of LPDDR5X by a peer or a drive ends in its data, or in a Completer Abort where they are lost (R315). -/
theorem State.peerRead_eq (s : State) (a n : Nat) (ecc : EccResult) :
    s.peerRead a n ecc = if ecc = .uncorrectable false then (s.eccRead a ecc).emit (.peerAbort a)
      else (s.eccRead a ecc).emit (.peerData a (Mem.bytes (s.eccRead a ecc).mem.ddr a n)) :=
  if_congr beq_iff_eq rfl rfl

/-- A read of a peer that BAR index 4-5 takes is served by the window that it uses, and is a miss where it uses none (R159, R160). -/
theorem State.peerRequest_read {s : State} {rid off n : Nat} (ecc : EccResult) (hl : s.loaderUr 0 = false) (ho : s.fnOpen 0 = true)
    (hb : s.host.bar4Absent = false) (hr : off + n ≤ s.host.bar4GiB * 2 ^ 30) :
    s.peerRequest rid off n (.read ecc) false =
      (s.peerAddr off n rid false).elim ((s.bump R.HST_PEER_MISS).urRead 0) fun a => s.peerRead a n ecc := by
  simp only [State.peerRequest, hl, ho, hb, Nat.not_lt.mpr hr, decide_false, Bool.not_true, Bool.or_self, Bool.false_eq_true,
    if_false, PeerAccess.isWrite, PeerAccess.count, Bool.false_and]
  cases s.peerAddr off n rid false <;> rfl

/-- A write of a window's control with `commit` starts the commit of its shadow (R161). -/
theorem State.winCtl_commit (s : State) (n : Nat) {v : Nat} (h : bitAt v 31 = true) :
    s.winCtl n v = (s.setReg (R.HST_PEER_WIN_CTL n) (putField (s.reg (R.HST_PEER_WIN_CTL n)) 2 0 v)).winCommit n := by
  rw [State.winCtl, if_pos h]

/-- A good word is taken as it stands (R167). -/
theorem State.pmCfg_good (s : State) {v : Nat} (h : l0pGood v = true) : s.pmCfg v = s.setReg R.HST_PM_CFG v := by
  simp [State.pmCfg, h]

/-- A word that enables L0p with bad values leaves it disabled, with the reason (R167). -/
theorem State.pmCfg_bad (s : State) {v : Nat} (he : bitAt v 31 = true) (h : l0pGood v = false) :
    s.pmCfg v = (s.setReg R.HST_PM_CFG (v % 2 ^ 31)).setF F.HST_BLK_STATUS_reason 0x0105 := by
  simp [State.pmCfg, he, h]

/-- An override in range is taken (R168). -/
theorem State.cplCfg_good (s : State) {v : Nat} (he : bitAt v 31 = true) (hlo : 50 ≤ field v 25 0) (hhi : field v 25 0 ≤ 64000000) :
    s.cplCfg v = s.setReg R.HST_CPL_TIMEOUT (2 ^ 31 + field v 25 0) := by
  simp [State.cplCfg, he, hlo, hhi, b2n]

/-- An override that is too short is not taken, and the reason is shown (R168). -/
theorem State.cplCfg_short (s : State) {v : Nat} (he : bitAt v 31 = true) (hlo : field v 25 0 < 50) :
    s.cplCfg v = (s.setReg R.HST_CPL_TIMEOUT (field v 25 0)).setF F.HST_BLK_STATUS_reason 0x0106 := by
  simp [State.cplCfg, he, Nat.not_le.mpr hlo]

/-! ## The downstream ports (R170 to R176) -/

@[simp] theorem State.slot_setF (s : State) (f : FRef) (v p : Nat) : (s.setF f v).slot p = s.slot p := rfl

/-- A write of a slot's control with power_on comes to the check of R176. -/
theorem State.slotCtl_powerOn (s : State) (p : Nat) {v : Nat} (h : bitAt v 6 = true) :
    s.slotCtl p v = (s.setReg (R.DNP_SLOT_CTL p) ((v &&& 0x78F) + (s.reg (R.DNP_SLOT_CTL p) &&& 0x40))).powerOn p := by
  rw [State.slotCtl, if_pos h]

/-- power_on that R176 refuses leaves the reason. -/
theorem State.powerOn_refused {s : State} {p r : Nat} (h : s.powerOnFault p = some r) :
    s.powerOn p = (s.setF (F.DNP_SLOT_CTL_power_on p) 0).setF (F.DNP_SLOT_STATUS_reason p) r := by
  rw [State.powerOn, h]

/-- power_on that R176 does not refuse powers a slot that is Off and whose port is in service (R171, R724). -/
theorem State.powerOn_accepted {s : State} {p : Nat} (h : s.powerOnFault p = none) :
    s.powerOn p = if s.slot p == .off && !s.isOut (0x800 + p) then
      ((s.setF (F.DNP_SLOT_CTL_power_on p) 1).slotPowerOn p).setSlot p .powering else s.setF (F.DNP_SLOT_CTL_power_on p) 1 := by
  rw [State.powerOn, h]
  rfl

/-- A write of a port's containment control with sw_trigger and enable contains the port with reason 5 (R173). -/
theorem State.dpcCtl_trigger (s : State) (p : Nat) {v : Nat} (ht : bitAt v 2 = true) (he : bitAt v 0 = true) :
    s.dpcCtl p v = (s.setReg (R.DNP_DPC_CTL p) (v % 4)).contain p 5 0 := by
  simp [State.dpcCtl, ht, he]

/-! ## Faults, retirement and the fault log (R156, R720 to R738) -/

/-- Every condition of the link is logged as the error that R156 names, in the function that it names. -/
theorem exec_hostLinkError {s : State} (error : LinkError) (hm : s.mainOn = true) :
    exec (.hostLinkError error) s = .next (s.aer (s.errorFn error) error.aer) := by
  exact congrArg Host.Outcome.next (if_neg (by simp [hm]))

/-- The first retirement of a kind that waits starts where none of the kind runs, or is held at the kind's limit (R725). -/
theorem State.retireNext_starts {s : State} {kind r : Nat} (hrun : s.ras.running.any (resKind · = kind) = false)
    (hq : s.ras.queued.find? (resKind · = kind) = some r) (hc : s.canStart r = true) :
    s.retireNext kind =
      (let u := { s with ras := { s.ras with queued := s.ras.queued.filter (· != r) } }
       if u.retireAllowed r then u.retireBegin r else u.holdAtLimit r) := by
  simp only [State.retireNext, hrun, hq, hc, Bool.not_true, Bool.false_eq_true, if_false]

/-- The self-test of a restore has passed: the claim ends, the resource is back, and the command completes (R727). -/
theorem State.selftestEnd_restore {s : State} {r : Nat} {p : PendCmd}
    (hp : s.findPend (fun p => p.cmd.opcode = 0x0E02 && p.cmd.p 0 % 65536 = r) = some p) :
    s.selftestEnd r true = ((s.dropClaim (testClaim r)).restored r).finish p 0 0 [] := by
  simp only [State.selftestEnd, hp, if_true]

/-- RAS_RETIRE of a resource that is in service, that no retirement waits for, and whose mode may do without it (R726). -/
theorem rasRetireSpec_body {c : Cmd} {s : State} (hres : c.reserved [(0, 0xFFFF)] = none) (hknown : resKnown (c.p 0 % 65536) = true)
    (hret : s.isRetired (c.p 0 % 65536) = false) (hq : s.ras.queued.contains (c.p 0 % 65536) = false)
    (hpair : resKind (c.p 0 % 65536) ≠ 7) (hallow : s.retireAllowed (c.p 0 % 65536) = true) :
    rasRetireSpec.body c s = .pend (s.queueRetire (c.p 0 % 65536)) := by
  simp only [rasRetireSpec, Cmd.checked_of_none _ _ hres, guards, hknown, hret, hq, hpair, hallow, Bool.not_true, Bool.or_self,
    decide_false, Bool.false_and, Bool.false_eq_true, if_false]

/-- RAS_RESTORE of a retired resource takes the claim of its self-test (R727). -/
theorem rasRestoreSpec_body {c : Cmd} {s : State} (hres : c.reserved [(0, 0xFFFF)] = none)
    (hrun : s.ras.running.contains (c.p 0 % 65536) = false) (hret : s.ras.retired.contains (c.p 0 % 65536) = true)
    (hclaim : s.firstRefused [(testClaim (c.p 0 % 65536), holderWord 0x17 0x01 c.mid)] = none) :
    rasRestoreSpec.body c s = .pend (s.takeClaims [(testClaim (c.p 0 % 65536), holderWord 0x17 0x01 c.mid)]) := by
  simp only [rasRestoreSpec, Cmd.checked_of_none _ _ hres, guards, hrun, hret, withClaims, hclaim, Bool.not_true, Bool.false_eq_true,
    if_false]

/-- RAS_THRESHOLD_SET of a kind of R721 with a value in range (R727, R738). -/
theorem rasThresholdSetSpec_body {c : Cmd} (s : State) (hres : c.reserved [(0, 15)] = none) (h1 : 1 ≤ c.p 0) (h8 : c.p 0 ≤ 8)
    (hgood : kindGood (c.p 1) = true) : rasThresholdSetSpec.body c s = .ok (s.setKind (c.p 0) (c.p 1)) [] := by
  simp only [rasThresholdSetSpec, Cmd.checked_of_none _ _ hres, guards, hgood, Nat.one_le_iff_ne_zero.mp h1, Nat.not_lt.mpr h8,
    gt_iff_lt, decide_false, Bool.or_self, Bool.not_true, Bool.false_eq_true, if_false]

/-- RAS_FOGHORN_ACK answers with the causes as they stood (R732). -/
theorem rasFoghornAckSpec_body {c : Cmd} (s : State) (hres : c.reserved [(0, 0x1F)] = none) :
    rasFoghornAckSpec.body c s = .ok ((s.fogClear (c.p 0)).log 6 {}) (results [s.reg R.RAS_FOGHORN % 32]) := by
  simp only [rasFoghornAckSpec, Cmd.checked_of_none _ _ hres]

/-- The bytes of the records that a RAS_LOG_READ of at most n records finds from a sequence on (R735). -/
def State.logBytes (s : State) (first n : Nat) : List Byte :=
  (List.range (s.logSpan first n).2).flatMap fun j =>
    Mem.bytes s.mem.mram (logBase + add32 (s.logSpan first n).1 j % logSlots * 64) 64

/-- The result words that precede the records (R735). -/
def State.logHead (s : State) (first n : Nat) : List Word :=
  results [(s.logSpan first n).1, (s.logSpan first n).2, s.reg R.RAS_LOG_OLDEST, s.reg R.RAS_LOG_NEWEST]

/-- RAS_LOG_READ of 1 to 3 records answers with them (R735). -/
theorem rasLogReadSpec_body_inline {c : Cmd} (s : State) (hres : c.reserved [(0, 0x8001FFFF)] = none) (hb : bitAt (c.p 0) 31 = false)
    (h1 : 1 ≤ c.p 0 % 2 ^ 17) (h3 : c.p 0 % 2 ^ 17 ≤ 3) :
    rasLogReadSpec.body c s =
      .ok s (s.logHead (c.p 1) (c.p 0 % 2 ^ 17) ++ bytesWords (s.logBytes (c.p 1) (c.p 0 % 2 ^ 17))) := by
  simp only [rasLogReadSpec, Cmd.checked_of_none _ _ hres, guards, hb, Nat.one_le_iff_ne_zero.mp h1, Nat.not_lt.mpr h3, gt_iff_lt,
    decide_false, Bool.or_self, Bool.false_and, Bool.false_eq_true, if_false]
  rfl

/-- RAS_LOG_READ of the manager to host memory writes the records there (R735). -/
theorem rasLogReadSpec_body_toHost {c : Cmd} (s : State) (hres : c.reserved [(0, 0x8001FFFF)] = none) (hb : bitAt (c.p 0) 31 = true)
    (hmgr : c.fromManager = true) (h1 : 1 ≤ c.p 0 % 2 ^ 17) (hmax : c.p 0 % 2 ^ 17 ≤ 81920) :
    rasLogReadSpec.body c s =
      .ok (if (s.logSpan (c.p 1) (c.p 0 % 2 ^ 17)).2 = 0 then s
        else s.emit (.hostWrite 0 (s.q (s.inst 0).adminQid).pas (c.p 2 + c.p 3 * 2 ^ 32) (s.logBytes (c.p 1) (c.p 0 % 2 ^ 17))))
        (s.logHead (c.p 1) (c.p 0 % 2 ^ 17)) := by
  simp only [rasLogReadSpec, Cmd.checked_of_none _ _ hres, guards, hb, hmgr, Nat.one_le_iff_ne_zero.mp h1, Nat.not_lt.mpr hmax,
    gt_iff_lt, decide_false, Bool.or_self, Bool.not_true, Bool.and_false, Bool.false_eq_true, if_false, if_true]
  rfl

/-! ## The obligations -/

/-- Settles O12: each clause takes its request, event or register write down the branch that the hypotheses open. That L0p goes to the
next half width (log entry 25), and that each request is one entry into L1, with the 60 microseconds recorded (log entry 59), are the
model's choices. -/
theorem hostWindowActs : Obligations.HostWindowActs := by
  unfold Obligations.HostWindowActs
  refine ⟨?miss, ?served, ?commit, ?drained, ?narrow, ?widen, ?l1, ?pmGood, ?pmBad, ?overrideGood, ?overrideShort⟩
  case miss =>
    intro rid offset bytes ecc s hl ho hb hr ha
    show Host.Outcome.next (s.peerRequest ..) = _
    rw [State.peerRequest_read ecc hl ho hb hr, ha, Option.elim_none]
  case served =>
    intro rid offset bytes a ecc s hl ho hb hr ha
    show Host.Outcome.next (s.peerRequest ..) = _
    rw [State.peerRequest_read ecc hl ho hb hr, ha, Option.elim_some, State.peerRead_eq]
  case commit =>
    intro mid window value s hg hc
    exact congrArg _ ((State.gatedWrite_open _ hg).trans (s.winCtl_commit window.val hc))
  case drained =>
    intro window s hc
    exact congrArg Host.Outcome.next (if_neg (by simp [hc]))
  case narrow =>
    intro s hon h1 hmin
    exact congrArg Host.Outcome.next (if_pos (by simp [hon, h1, hmin]))
  case widen =>
    intro s hon hw
    exact congrArg Host.Outcome.next (if_pos (by simp [hon, hw]))
  case l1 =>
    intro s h
    exact congrArg Host.Outcome.next (if_pos h)
  case pmGood =>
    intro mid value s hg h
    exact congrArg _ ((State.gatedWrite_open _ hg).trans (s.pmCfg_good h))
  case pmBad =>
    intro mid value s hg he h
    exact congrArg _ ((State.gatedWrite_open _ hg).trans (s.pmCfg_bad he h))
  case overrideGood =>
    intro mid value s hg he hlo hhi
    exact congrArg _ ((State.gatedWrite_open _ hg).trans (s.cplCfg_good he hlo hhi))
  case overrideShort =>
    intro mid value s hg he hlo
    exact congrArg _ ((State.gatedWrite_open _ hg).trans (s.cplCfg_short he hlo))

/-- Settles O13: each clause takes its event or register write down the branch that the hypotheses open. The ranges that a drive may reach
(log entry 3), the release of a slot contained without a trigger, the draining that counts as removal pending (log entry 25), the order
of the refusals of power_on, and the drive's reads that end within their step (log entry 59) are the model's choices. -/
theorem slotActs : Obligations.SlotActs := by
  unfold Obligations.SlotActs
  refine ⟨?presence, ?refused, ?powerOn, ?powerGood, ?powerTimeout, ?linkActive, ?trainingTimeout, ?button, ?removal, ?drained,
    ?powerFault, ?correctable, ?fatal, ?surprise, ?trigger, ?release, ?drive⟩
  case presence =>
    rintro port present s hm rfl hp hs - hi
    show execSlotPresenceChange port true s = _
    simp [execSlotPresenceChange, hm, hp, hs, hi, b2n]
  case refused =>
    intro mid port value r s hg hv hf
    exact congrArg _ ((State.gatedWrite_open _ hg).trans ((s.slotCtl_powerOn port.val hv).trans (State.powerOn_refused hf)))
  case powerOn =>
    intro mid port value s hg hv hf
    exact congrArg _ ((State.gatedWrite_open _ hg).trans ((s.slotCtl_powerOn port.val hv).trans (State.powerOn_accepted hf)))
  case powerGood =>
    intro port s ho hs
    exact congrArg Host.Outcome.next (if_pos (by simp [ho, hs]))
  case powerTimeout =>
    intro port s hm hs
    exact congrArg Host.Outcome.next (if_pos (by simp [hm, hs]))
  case linkActive =>
    intro port rate width s ho hs hperst h1 h5 hw
    have hwidth : [1, 2, 4].contains width.toNat = true := by simp [hw]
    refine congrArg Host.Outcome.next (if_pos ?_)
    simp only [ho, hs, hperst, h1, h5, hwidth, beq_self_eq_true, decide_true, Bool.and_self]
  case trainingTimeout =>
    intro port s hm hs
    exact congrArg Host.Outcome.next (if_pos (by simp [hm, hs]))
  case button =>
    intro port s hm
    exact congrArg Host.Outcome.next (if_neg (by simp [hm]))
  case removal =>
    intro port s hm hs
    exact congrArg Host.Outcome.next (if_pos (by simp [hm, hs]))
  case drained =>
    intro port s hm hs
    exact congrArg Host.Outcome.next (if_pos (by simp [hm, hs]))
  case powerFault =>
    intro port s hm
    exact congrArg Host.Outcome.next (if_neg (by simp [hm]))
  case correctable =>
    intro port severity source s hm hv
    show execDpcErrMessage port severity source s = _
    simp [execDpcErrMessage, hm, hv]
  case fatal =>
    intro port severity source s hm hv he
    show execDpcErrMessage port severity source s = _
    simp [execDpcErrMessage, hm, hv, he]
  case surprise =>
    intro port s hm hl
    exact congrArg Host.Outcome.next (if_pos (by simp [hm, hl]))
  case trigger =>
    intro mid port value s hg ht he
    exact congrArg _ ((State.gatedWrite_open _ hg).trans (s.dpcCtl_trigger port.val ht he))
  case release =>
    intro mid port value s hg hv
    show Host.Outcome.next (s.gatedWrite ..) = _
    rw [State.gatedWrite_open _ hg]
    exact congrArg Host.Outcome.next (if_neg (by simp [hv]))
  case drive =>
    intro port addr bytes ecc s hm hl
    have hruns : ¬ (!s.mainOn || !(s.slot port.val).live) = true := by simp [hm, hl]
    exact congrArg Host.Outcome.next ((if_neg hruns).trans (if_congr Iff.rfl (s.peerRead_eq ..) rfl))

/-- Settles O43: each event takes the branch that the hypotheses open, each command is accepted and its body answers as R726 to R735
say, and a write that the gate lets through sets its register. What the records of these faults carry (log entry 23), and how the
errors of the link are classed (log entry 29), is the model's reading. -/
theorem faultActs : Obligations.FaultActs := by
  unfold Obligations.FaultActs
  refine ⟨fun resource s => rfl, ?highBer, ?lockstep, ?heartbeat, ?corrected, ?uncorrected, ?link, ?start, ?ended, ?retire, ?restore,
    ?selftest, ?threshold, ?foghorn, ?logInline, ?logToHost, ?beat, ?select⟩
  case highBer =>
    intro lane s hm hout hport
    show execHighBerEvent lane s = _
    simp [execHighBerEvent, hm, hout, hport]
  case lockstep => exact fun pair s _ => rfl
  case heartbeat =>
    intro s hk
    exact congrArg Host.Outcome.next (if_neg (by simp [hk]))
  case corrected =>
    rintro pair corrected s hm hp rfl
    show execKeeperMemoryError pair true s = _
    simp [execKeeperMemoryError, hm, hp]
  case uncorrected =>
    rintro pair corrected s hm hp rfl
    show execKeeperMemoryError pair false s = _
    simp [execKeeperMemoryError, hm, hp]
  case link =>
    intro error s hm
    rw [exec_hostLinkError error hm]
    cases error <;> rfl
  case start =>
    intro kind r s hm hrun hq hc
    exact congrArg Host.Outcome.next ((if_pos hm).trans (State.retireNext_starts hrun hq hc))
  case ended =>
    intro resource s hrun hdone
    exact congrArg Host.Outcome.next (if_neg (by rw [hrun, hdone]; exact Bool.false_ne_true))
  case retire =>
    exact fun s e h ⟨hres, hknown, hret, hq, hpair, hallow⟩ =>
      congrArg _ (runCmd_pend h (rasRetireSpec_body hres hknown hret hq hpair hallow))
  case restore =>
    exact fun s e h ⟨hres, hrun, hret, hclaim⟩ => congrArg _ (runCmd_pend h (rasRestoreSpec_body hres hrun hret hclaim))
  case selftest =>
    rintro resource pass p s hp hdone rfl
    exact congrArg Host.Outcome.next ((if_pos hdone).trans (State.selftestEnd_restore hp))
  case threshold =>
    exact fun s e h ⟨hres, h1, h8, hgood⟩ => congrArg _ (runCmd_ok h (rasThresholdSetSpec_body _ hres h1 h8 hgood))
  case foghorn => exact fun s e h hres => congrArg _ (runCmd_ok h (rasFoghornAckSpec_body _ hres))
  case logInline =>
    exact fun s e h ⟨hres, hb, h1, h3⟩ => congrArg _ (runCmd_ok h (rasLogReadSpec_body_inline _ hres hb h1 h3))
  case logToHost =>
    exact fun s e h ⟨hres, hb, hmgr, h1, hmax⟩ => congrArg _ (runCmd_ok h (rasLogReadSpec_body_toHost _ hres hb hmgr h1 hmax))
  case beat => exact fun mid s hg => congrArg _ (State.gatedWrite_open _ hg)
  case select => exact fun mid resource s hg => congrArg _ (State.gatedWrite_open _ hg)

/-- Settles O57: every form of the write comes to `ringDoorbell`, which counts it, and a read ends in data 0. That either is logged as an
unsupported request besides is the model's reading (log entries 56 and 60). -/
theorem foreignDoorbell : Obligations.ForeignDoorbell := by
  unfold Obligations.ForeignDoorbell
  refine ⟨?ring, ?event, ?window, ?read⟩
  case ring =>
    intro iid loc value s ho hl hq hown
    exact ⟨_, rfl, State.ringDoorbell_foreign _ _ _ ho hl hq hown⟩
  case event =>
    intro iid loc value arm s ho hl hq hown
    exact ⟨_, rfl, State.ringDoorbell_foreign _ _ _ ho hl hq hown⟩
  case window =>
    intro acc value i o s hw hmid ho hg h8 ha hq hown
    have hl : i.val = 0 ∨ o / 8 < 6144 :=
      (eq_of_instArea_doorbells ha).imp (fun ⟨hi, _, _⟩ => hi) fun ⟨_, _, hlt⟩ => Nat.div_lt_of_lt_mul hlt
    obtain ⟨arm, hwrite⟩ := State.regWrite_doorbell value.toNat hw hmid ho hg h8 ha
    exact ⟨_, by rw [exec_registerWrite, hwrite], State.windowDoorbell_foreign _ arm ho hl hq hown⟩
  case read =>
    intro acc i o s hw hmid ho hg ha
    obtain ⟨t, ⟨hqueues, -⟩, hread⟩ := State.regRead_doorbell hw hmid ho hg ha
    exact ⟨t.emit (.readData i.val 0), by rw [exec_rcRegisterRead, hread], hqueues, rfl⟩

end Sys2Proof.Machine
end

section
/-! Family 06_events_buoy: the event controller (O6), host vectors (O7) and the Buoy mailboxes (O8), with one law for each branch of an
operation on a source, a vector or a channel. -/

namespace Sys2Proof.Machine

/-! ## Event sources, targets and claims (R243 to R251) -/

/-- A rising edge sets a pending bit that is 0, and the lines follow (R243, R250). -/
theorem State.raiseEs_sets {s : State} {n : Nat} (hm : s.mainOn = true) (hp : bitAt (s.reg (R.EVC_PENDING (n / 32))) (n % 32) = false) :
    s.raiseEs n =
      (s.setReg (R.EVC_PENDING (n / 32)) (s.reg (R.EVC_PENDING (n / 32)) + 2 ^ (n % 32))).settleLines :=
  (if_neg (ne_true_of_eq_false (congrArg not hm))).trans (if_neg (ne_true_of_eq_false hp))

/-- An edge on a source that is pending is merged (R243). -/
theorem State.raiseEs_merges {s : State} {n : Nat} (hm : s.mainOn = true) (hp : bitAt (s.reg (R.EVC_PENDING (n / 32))) (n % 32) = true) :
    s.raiseEs n = s.bump R.EVC_EDGES_MERGED :=
  (if_neg (ne_true_of_eq_false (congrArg not hm))).trans (if_pos hp)

/-- A source that the device raises has its edges (R243). -/
theorem exec_eventSourceEdge {source : BitVec 9} (s : State) (hn : neverRaised source.toNat = false) :
    exec (.eventSourceEdge source) s = .next (s.raiseEs source.toNat) :=
  congrArg Host.Outcome.next (if_neg (ne_true_of_eq_false hn))

/-- A source with a good target mask is enabled (R246). -/
theorem State.srcEnable_good {s : State} {n : Nat} (h : srcFault (s.reg (R.EVC_SRC_MASK n)) = none) :
    s.srcEnable n true = (s.setF (F.EVC_SRC_CTL_enable n) 1).settleLines := by
  rw [State.srcEnable, h]
  rfl

/-- A write that reaches a source's control sets its enable (R246). -/
theorem exec_evcSrcEnable_open {mid : BitVec 13} {source : BitVec 9} {s : State} (on : Bool)
    (hg : s.gate mid.toNat (R.EVC_SRC_CTL source.toNat) false = .open_) :
    exec (.evcSrcEnable mid source on) s = .next (s.srcEnable source.toNat on) :=
  congrArg Host.Outcome.next (State.gatedWrite_open _ hg)

theorem State.srcEnable_off (s : State) (n : Nat) : s.srcEnable n false = (s.setF (F.EVC_SRC_CTL_enable n) 0).settleLines := rfl

/-- A write that reaches a word of pending bits clears those that it names (R244). -/
theorem exec_evcPendingClear_open {mid : BitVec 13} {k : Fin 16} {s : State} (bits : Word)
    (hg : s.gate mid.toNat (R.EVC_PENDING k.val) false = .open_) :
    exec (.evcPendingClear mid k bits) s = .next (s.clearPending k.val bits.toNat) :=
  congrArg Host.Outcome.next (State.gatedWrite_open _ hg)

/-- A claim takes the source that it answers (R247). -/
theorem State.claim_some {s : State} {t n : Nat} (h : s.claimFor t = some n) :
    s.claim t = (n, s.clearPending (n / 32) (2 ^ (n % 32))) := by
  rw [State.claim, h]

/-- A claim that finds no source is spurious (R247). -/
theorem State.claim_none {s : State} {t : Nat} (h : s.claimFor t = none) : s.claim t = (0xFFFF, s.bump R.EVC_SPURIOUS) := by
  rw [State.claim, h]

/-- The target's own master claims by its read (R249). -/
theorem State.claimRead_own {s : State} {mid t : Nat} (h : s.ownsTarget t mid = true) : s.claimRead mid t = s.claim t := if_pos h

/-- A read that reaches its register answers what its body does (R29). -/
theorem State.gatedRead_open {s : State} {mid a : Nat} (body : State → Nat × State) (h : s.gate mid a true = .open_) :
    s.gatedRead mid a body = (body s).2.emit (.readData mid (body s).1) := by
  rw [State.gatedRead, State.gatedValue, h]
  rfl

/-- A Keeper core claims through the control window (R249). -/
theorem exec_evcClaimRead_keeper {mid : BitVec 13} {t : Fin 32} {s : State} (hg : s.gate mid.toNat (R.EVC_CLAIM t.val) true = .open_)
    (ht : t.val < 4) (ho : s.ownsTarget t.val mid.toNat = true) :
    exec (.evcClaimRead mid t) s = .next ((s.claim t.val).2.emit (.readData mid.toNat (s.claim t.val).1)) := by
  have hwindow : (s.ownsTarget t.val mid.toNat && decide (4 ≤ t.val)) = false := by
    rw [decide_eq_false (Nat.not_le.mpr ht), Bool.and_false]
  refine congrArg Host.Outcome.next ((if_neg (ne_true_of_eq_false hwindow)).trans ?_)
  rw [State.gatedRead_open _ hg, State.claimRead_own ho]

/-- A supervisor claims through its own cluster (R249). -/
theorem exec_evcClaimRead_supervisor {mid : BitVec 13} {t : Fin 32} {s : State} (ht : 4 ≤ t.val)
    (ho : s.ownsTarget t.val mid.toNat = true) :
    exec (.evcClaimRead mid t) s = .next ((s.claim t.val).2.emit (.readData mid.toNat (s.claim t.val).1)) :=
  congrArg Host.Outcome.next (if_pos (by rw [ho, decide_eq_true ht, Bool.and_self]))

/-! ## Host vectors (R252 to R255) -/

/-- A timer that expires with a raise held sends it (R252). -/
theorem exec_vectorModerationExpiry_held {iid : Fin 2048} {v : BitVec 11} {s : State} (ht : (s.vec iid.val v.toNat).timer = true)
    (hh : (s.vec iid.val v.toNat).held = true) :
    exec (.vectorModerationExpiry iid v) s =
      .next ((s.setVec iid.val v.toNat { s.vec iid.val v.toNat with timer := false }).sendVec iid.val v.toNat) :=
  congrArg Host.Outcome.next ((if_neg (ne_true_of_eq_false (congrArg not ht))).trans (if_pos hh))

/-- A timer that expires with no raise held stops (R252). -/
theorem exec_vectorModerationExpiry_quiet {iid : Fin 2048} {v : BitVec 11} {s : State} (ht : (s.vec iid.val v.toNat).timer = true)
    (hh : (s.vec iid.val v.toNat).held = false) :
    exec (.vectorModerationExpiry iid v) s = .next (s.setVec iid.val v.toNat { s.vec iid.val v.toNat with timer := false }) :=
  congrArg Host.Outcome.next ((if_neg (ne_true_of_eq_false (congrArg not ht))).trans (if_neg (ne_true_of_eq_false hh)))

/-- An open function's write of an idle hint reaches it (R254). -/
theorem exec_idleHintWrite_open {iid : Fin 2048} {s : State} (v : BitVec 11) (idle : Bool) (ho : s.fnOpen iid.val = true) :
    exec (.idleHintWrite iid v idle) s = .next (s.hint iid.val v.toNat idle) := congrArg Host.Outcome.next (if_pos ho)

/-- A hint for a vector outside the quota is discarded (R254). -/
theorem State.hint_beyond {s : State} {i v : Nat} (idle : Bool) (h : s.vectorQuota i ≤ v) : s.hint i v idle = s.bump R.EVC_HINT_BAD :=
  if_pos h

/-- A hint sends the raise that its vector holds (R254). -/
theorem State.hint_sends {s : State} {i v : Nat} (hq : v < s.vectorQuota i) (hh : (s.vec i v).held = true)
    (hmask : (s.vec i v).masked = false) (hx : (s.fn i).msixEnable = true) :
    s.hint i v true = ((s.setVec i v { s.vec i v with idle := false }).sendVec i v).bump R.EVC_BYPASS := by
  have hfree : ((s.vec i v).held && ((s.vec i v).masked || !(s.fn i).msixEnable)) = false := by
    rw [hmask, hx, Bool.not_true, Bool.or_self, Bool.and_false]
  exact (if_neg (Nat.not_le.mpr hq)).trans
    ((if_neg Bool.false_ne_true).trans ((if_neg (ne_true_of_eq_false hfree)).trans (if_pos hh)))

/-- The raise that a vector which cannot send holds becomes pending at a hint (R255). -/
theorem State.hint_pends {s : State} {i v : Nat} (hq : v < s.vectorQuota i) (hh : (s.vec i v).held = true)
    (hmask : (s.vec i v).masked = true ∨ (s.fn i).msixEnable = false) :
    s.hint i v true = s.setVec i v { s.vec i v with idle := true, held := false, pba := true } := by
  have hblocked : ((s.vec i v).held && ((s.vec i v).masked || !(s.fn i).msixEnable)) = true :=
    Bool.and_eq_true_iff.mpr ⟨hh, Bool.or_eq_true_iff.mpr (hmask.imp_right (congrArg not))⟩
  exact (if_neg (Nat.not_le.mpr hq)).trans ((if_neg Bool.false_ne_true).trans (if_pos hblocked))

/-- A hint with no raise held is kept (R253). -/
theorem State.hint_stays {s : State} {i v : Nat} (hq : v < s.vectorQuota i) (hh : (s.vec i v).held = false) :
    s.hint i v true = s.setVec i v { s.vec i v with idle := true } := by
  have hfree : ((s.vec i v).held && ((s.vec i v).masked || !(s.fn i).msixEnable)) = false := by rw [hh, Bool.false_and]
  exact (if_neg (Nat.not_le.mpr hq)).trans
    ((if_neg Bool.false_ne_true).trans ((if_neg (ne_true_of_eq_false hfree)).trans (if_neg (ne_true_of_eq_false hh))))

/-- An open function's unmask reaches its vector (R255). -/
theorem exec_msixUnmask_open {iid : Fin 2048} {s : State} (v : BitVec 11) (ho : s.fnOpen iid.val = true) :
    exec (.msixUnmask iid v) s = .next (s.msixUnmask iid.val v.toNat) := congrArg Host.Outcome.next (if_pos ho)

/-- An unmask with the PBA bit at 0 sends nothing (R255). -/
theorem State.msixUnmask_quiet {s : State} {i v : Nat} (hp : (s.vec i v).pba = false) :
    s.msixUnmask i v = s.setVec i v { s.vec i v with masked := false } := by
  have hquiet : ((s.vec i v).pba && (s.fn i).msixEnable && decide (v < s.vectorQuota i)) = false := by
    rw [hp, Bool.false_and, Bool.false_and]
  exact if_neg (ne_true_of_eq_false hquiet)

/-- An unmask with the PBA bit at 1 sends the message (R255). -/
theorem State.msixUnmask_sends {s : State} {i v : Nat} (hp : (s.vec i v).pba = true) (hx : (s.fn i).msixEnable = true)
    (hq : v < s.vectorQuota i) : s.msixUnmask i v = (s.setVec i v { s.vec i v with masked := false }).sendVec i v := by
  have hsends : ((s.vec i v).pba && (s.fn i).msixEnable && decide (v < s.vectorQuota i)) = true := by
    rw [hp, hx, decide_eq_true hq, Bool.and_self, Bool.and_self]
  exact if_pos hsends

/-! ## Operations of a Buoy channel (R256 to R271) -/

/-- A word sent to a side that has none unread arrives there (R257). -/
theorem State.buoySend_empty {s : State} {c : ChanId} {a : Bool} (w : Nat) (hb : s.blkStopped 0x05 = false)
    (hr : ((s.chan c).side (!a)).rxFull = false) : s.buoySend c a w = s.buoyDeliver c (!a) w := by
  rw [State.buoySend, hb, hr]
  rfl

/-- A word sent to a side that has one unread is an overrun (R257). -/
theorem State.buoySend_full {s : State} {c : ChanId} {a : Bool} (w : Nat) (hb : s.blkStopped 0x05 = false)
    (hr : ((s.chan c).side (!a)).rxFull = true) :
    s.buoySend c a w =
      ((s.setChan c ((s.chan c).setSide a { (s.chan c).side a with overrun := true })).bump R.BUOY_OVERRUNS).raiseEs 498 := by
  rw [State.buoySend, hb, hr]
  rfl

/-- Doorbell bits latched at one side (R256). -/
def State.dbLatched (s : State) (c : ChanId) (toA : Bool) (bits : Nat) : State :=
  s.setChan c ((s.chan c).setSide toA { (s.chan c).side toA with dbRecv := ((s.chan c).side toA).dbRecv ||| bits })

/-- The bits that rise at a side and that its mask lets through (R261). -/
def BuoySide.risen (x : BuoySide) (bits : Nat) : Nat :=
  (bits - (bits &&& x.dbRecv)) - ((bits - (bits &&& x.dbRecv)) &&& x.dbMask)

/-- Doorbell bits latch while the block runs, and notify where one rises unmasked (R256, R261). -/
theorem State.buoyRing_running {s : State} (c : ChanId) (toA : Bool) (bits : Nat) (hb : s.blkStopped 0x05 = false) :
    s.buoyRing c toA bits =
      if ((s.chan c).side toA).risen bits ≠ 0 then (s.dbLatched c toA bits).buoyNotify c toA 0 else s.dbLatched c toA bits :=
  (if_neg (ne_true_of_eq_false hb)).trans (if_congr bne_iff_ne rfl rfl)

/-- A word that is unread is taken back (R259). -/
theorem State.buoyWithdraw_unread {s : State} {c : ChanId} {a : Bool} (hr : ((s.chan c).side (!a)).rxFull = true) :
    s.buoyWithdraw c a = s.setChan c ((s.chan c).setSide (!a) { (s.chan c).side (!a) with rx := 0, rxFull := false }) := if_pos hr

/-- A withdrawal of a word that has been read is too late (R259). -/
theorem State.buoyWithdraw_late {s : State} {c : ChanId} {a : Bool} (hr : ((s.chan c).side (!a)).rxFull = false) :
    s.buoyWithdraw c a = s.setChan c ((s.chan c).setSide a { (s.chan c).side a with tooLate := true }) :=
  if_neg (ne_true_of_eq_false hr)

/-- After a withdrawal Keeper sends an instance the next word that it holds (R259, R270). -/
theorem State.mailWithdraw_inst (s : State) (i : Nat) (a : Bool) :
    s.mailWithdraw (.inst i) a = (s.buoyWithdraw (.inst i) a).keeperNext i := rfl

/-- A word of an internal channel that has not left for a remote device is withdrawn as R259 says (R703). -/
theorem State.mailWithdraw_here {s : State} {n : Nat} {a : Bool}
    (h : ((s.schan n).sent && s.engineSide n == some (!a)) = false) :
    s.mailWithdraw (.int n) a = (s.buoyWithdraw (.int n) a).setSchan n { s.schan n with rejected := false } :=
  if_neg (ne_true_of_eq_false h)

/-- One that has left can no longer be withdrawn (R703). -/
theorem State.mailWithdraw_gone {s : State} {n : Nat} {a : Bool}
    (h : ((s.schan n).sent && s.engineSide n == some (!a)) = true) :
    s.mailWithdraw (.int n) a = s.setChan (.int n) ((s.chan (.int n)).setSide a { (s.chan (.int n)).side a with tooLate := true }) :=
  if_pos h

/-- Nothing is taken from a side whose rx_full is 0 (R258). -/
theorem State.buoyTake_empty {s : State} {c : ChanId} {a : Bool} (taken : Bool) (hr : ((s.chan c).side a).rxFull = false) :
    s.buoyTake c a taken = (0, s) := if_pos (congrArg not hr)

/-- A read of a receive word answers it, and clears rx_full where it takes it (R258). -/
theorem State.buoyTake_full {s : State} {c : ChanId} {a : Bool} (taken : Bool) (hr : ((s.chan c).side a).rxFull = true) :
    s.buoyTake c a taken = (((s.chan c).side a).rx,
      if taken then s.setChan c ((s.chan c).setSide a { (s.chan c).side a with rxFull := false }) else s) :=
  if_neg (ne_true_of_eq_false (congrArg not hr))

/-- A read that leaves the flag as it is has no effect but the Spar engine's look at an internal channel (R258, R702). -/
theorem State.buoyRecv_leaves {s : State} {mid : Nat} {c : ChanId} {a low : Bool}
    (h : ((!low && mid != 0x1040) && ((s.chan c).side a).rxFull) = false) :
    s.buoyRecv mid c a low =
      ((s.buoyTake c a (!low && mid != 0x1040)).1, (s.buoyTake c a (!low && mid != 0x1040)).2.sparAfter c) := by
  cases c with
  | inst i => exact if_pos (congrArg not h)
  | int n => rfl

/-- A read that takes a word of an instance's channel frees Keeper to send the next one, or is Keeper's, which answers (R265, R270). -/
theorem State.buoyRecv_takes {s : State} {mid i : Nat} {a low : Bool}
    (h : ((!low && mid != 0x1040) && ((s.chan (.inst i)).side a).rxFull) = true) :
    s.buoyRecv mid (.inst i) a low = ((s.buoyTake (.inst i) a (!low && mid != 0x1040)).1,
      if a then (s.buoyTake (.inst i) a (!low && mid != 0x1040)).2.keeperNext i else s.keeperRead i) :=
  (if_neg (ne_true_of_eq_false (congrArg not h))).trans (by cases a <;> rfl)

theorem State.buoyRecv_int (s : State) (mid n : Nat) (a low : Bool) :
    s.buoyRecv mid (.int n) a low = ((s.buoyTake (.int n) a (!low && mid != 0x1040)).1,
      (s.buoyTake (.int n) a (!low && mid != 0x1040)).2.sparKick n) := rfl

/-- A read of either size answers 0 while rx_full is 0 (R258). -/
theorem State.buoyRead_empty {s : State} {mid : Nat} {c : ChanId} {a : Bool} (low : Bool) (hr : ((s.chan c).side a).rxFull = false) :
    s.buoyRead mid c a low = (s.sparAfter c).emit (.readData mid 0) := by
  rw [State.buoyRead, State.buoyRecv_leaves (by rw [hr, Bool.and_false]), State.buoyTake_empty _ hr]
  cases low <;> rfl

/-- A read of the lower half leaves the word unread (R258). -/
theorem State.buoyRead_low {s : State} {mid : Nat} {c : ChanId} {a : Bool} (hr : ((s.chan c).side a).rxFull = true) :
    s.buoyRead mid c a true = (s.sparAfter c).emit (.readData mid (((s.chan c).side a).rx % 2 ^ 32)) := by
  rw [State.buoyRead, State.buoyRecv_leaves rfl, State.buoyTake_full _ hr]
  rfl

/-- An instance that reads its word frees Keeper to send the next one (R258, R270). -/
theorem State.buoyRead_inst {s : State} {mid i : Nat} (hmid : mid ≠ 0x1040) (hr : ((s.chan (.inst i)).side true).rxFull = true) :
    s.buoyRead mid (.inst i) true false =
      ((s.setChan (.inst i) ((s.chan (.inst i)).setSide true { (s.chan (.inst i)).side true with rxFull := false })).keeperNext i).emit
        (.readData mid ((s.chan (.inst i)).side true).rx) := by
  have htaken : (!false && mid != 0x1040) = true := bne_iff_ne.mpr hmid
  rw [State.buoyRead, State.buoyRecv_takes (Bool.and_eq_true_iff.mpr ⟨htaken, hr⟩), htaken, State.buoyTake_full _ hr]
  rfl

/-- Keeper answers the word that it reads (R258, R265, R266). -/
theorem State.buoyRead_keeper {s : State} {mid i : Nat} (hmid : mid ≠ 0x1040) (hr : ((s.chan (.inst i)).side false).rxFull = true) :
    s.buoyRead mid (.inst i) false false = (s.keeperRead i).emit (.readData mid ((s.chan (.inst i)).side false).rx) := by
  have htaken : (!false && mid != 0x1040) = true := bne_iff_ne.mpr hmid
  rw [State.buoyRead, State.buoyRecv_takes (Bool.and_eq_true_iff.mpr ⟨htaken, hr⟩), htaken, State.buoyTake_full _ hr]
  rfl

/-- A master that reads the word of an internal channel clears its flag (R258). -/
theorem State.buoyRead_internal {s : State} {mid n : Nat} {a : Bool} (hmid : mid ≠ 0x1040)
    (hr : ((s.chan (.int n)).side a).rxFull = true) :
    s.buoyRead mid (.int n) a false =
      ((s.setChan (.int n) ((s.chan (.int n)).setSide a { (s.chan (.int n)).side a with rxFull := false })).sparKick n).emit
        (.readData mid ((s.chan (.int n)).side a).rx) := by
  have htaken : (!false && mid != 0x1040) = true := bne_iff_ne.mpr hmid
  rw [State.buoyRead, State.buoyRecv_int, htaken, State.buoyTake_full _ hr]
  rfl

/-- Side a of an instance's channel is the instance's (R263). -/
theorem State.eq_of_sideOf_inst {s : State} {i mid : Nat} (h : s.sideOf (.inst i) mid = some true) : mid = i := by
  by_contra hmid
  have hkeeper : (if s.activeKeeper mid then some false else none) = some true := (if_neg hmid).symm.trans h
  exact Bool.false_ne_true (Option.some.inj (Option.ite_none_right_eq_some.mp hkeeper).2)

/-- A vector within the quota, for which the pool has room, is taken (R262). -/
theorem State.buoyVector_taken {s : State} {i v : Nat} (hq : v < s.vectorQuota i) (hs : s.vectorShort i v = false) :
    s.buoyVector i v true = s.setChan (.inst i) { s.chan (.inst i) with vecEnable := true, vector := v } := by
  rw [State.buoyVector, decide_eq_false (Nat.not_le.mpr hq), hs]
  rfl

/-- A vector outside the quota, or for which the pool has no room, is refused (R262, log entry 61). -/
theorem State.buoyVector_refused {s : State} {i v : Nat} (h : s.vectorQuota i ≤ v ∨ s.vectorShort i v = true) :
    s.buoyVector i v true = s.setChan (.inst i) { s.chan (.inst i) with vecEnable := false, vector := v, reason := 0x0503 } :=
  if_pos (Bool.or_eq_true_iff.mpr (h.imp_left decide_eq_true))

/-- A channel that the Spar engine has no state for is cleared alone (R271). -/
theorem State.mailForceClear_local {s : State} {n : Nat} (h : (lookup s.spr.chans n).isSome = false) :
    s.mailForceClear (.int n) = s.buoyForceClear (.int n) := if_neg (ne_true_of_eq_false h)

/-- The word that the Spar engine holds for a channel is cleared with it (R271, R703). -/
theorem State.mailForceClear_spar {s : State} {n : Nat} (h : (lookup s.spr.chans n).isSome = true) :
    s.mailForceClear (.int n) =
      (s.buoyForceClear (.int n)).setSchan n { s.schan n with sent := false, rejected := false, owed := none } := if_pos h

/-! ## Commands of a master at its side of a channel -/

/-- A master reaches the side of a channel that it has (R263, R267). -/
theorem State.atChan_side {s : State} {mid : Nat} {c : ChanId} {a : Bool} (body : Bool → State → State)
    (hm : s.masterOpen mid = true) (hs : s.sideOf c mid = some a) : s.atChan mid c body = body a s := by
  rw [State.atChan, hm, hs]
  rfl

theorem chanOf_inst (n : Nat) : chanOf false n = .inst n := rfl
theorem chanOf_int (n : Nat) : chanOf true n = .int (n % 64) := rfl

section
variable {s : State} {mid : BitVec 13} {internal : Bool} {n : BitVec 11} {a : Bool} {c : ChanId} (hc : chanOf internal n.toNat = c)
  (hm : s.masterOpen mid.toNat = true) (hs : s.sideOf c mid.toNat = some a)
include hc hm hs

theorem exec_buoySend_side (w : Dword) : exec (.buoySend mid internal n w) s = .next (s.mailSend c a w.toNat) := by
  subst hc
  exact congrArg Host.Outcome.next (State.atChan_side _ hm hs)

theorem exec_buoyRecvRead_side (low : Bool) :
    exec (.buoyRecvRead mid internal n low) s = .next (s.buoyRead mid.toNat c a low) := by
  subst hc
  exact congrArg Host.Outcome.next (State.atChan_side _ hm hs)

theorem exec_buoyWithdraw_side : exec (.buoyWithdraw mid internal n) s = .next (s.mailWithdraw c a) := by
  subst hc
  exact congrArg Host.Outcome.next (State.atChan_side _ hm hs)

theorem exec_buoyDbSend_side (bits : Word) :
    exec (.buoyDbSend mid internal n bits) s = .next (s.mailRing c (!a) bits.toNat) := by
  subst hc
  exact congrArg Host.Outcome.next (State.atChan_side _ hm hs)

theorem exec_buoyDbRecvClear_side (bits : Word) :
    exec (.buoyDbRecvClear mid internal n bits) s = .next (s.buoyDbClear c a bits.toNat) := by
  subst hc
  exact congrArg Host.Outcome.next (State.atChan_side _ hm hs)

/-- On either kind of channel, a word sent to a side that has none unread arrives there. -/
theorem exec_buoySend_empty (w : Dword) (hb : s.blkStopped 0x05 = false) (hr : ((s.chan c).side (!a)).rxFull = false) :
    exec (.buoySend mid internal n w) s = .next ((s.buoyDeliver c (!a) w.toNat).sparAfter c) := by
  rw [exec_buoySend_side hc hm hs, State.mailSend, State.buoySend_empty _ hb hr]

/-- On either kind of channel, a word sent to a side that has one unread is an overrun. -/
theorem exec_buoySend_full (w : Dword) (hb : s.blkStopped 0x05 = false) (hr : ((s.chan c).side (!a)).rxFull = true) :
    exec (.buoySend mid internal n w) s = .next ((((s.setChan c ((s.chan c).setSide a
      { (s.chan c).side a with overrun := true })).bump R.BUOY_OVERRUNS).raiseEs 498).sparAfter c) := by
  rw [exec_buoySend_side hc hm hs, State.mailSend, State.buoySend_full _ hb hr]

/-- On either kind of channel, a read of the lower half leaves the word unread. -/
theorem exec_buoyRecvRead_low (hr : ((s.chan c).side a).rxFull = true) :
    exec (.buoyRecvRead mid internal n true) s =
      .next ((s.sparAfter c).emit (.readData mid.toNat (((s.chan c).side a).rx % 2 ^ 32))) := by
  rw [exec_buoyRecvRead_side hc hm hs, State.buoyRead_low hr]

/-- On either kind of channel, a read of either size answers 0 while rx_full is 0. -/
theorem exec_buoyRecvRead_empty (low : Bool) (hr : ((s.chan c).side a).rxFull = false) :
    exec (.buoyRecvRead mid internal n low) s = .next ((s.sparAfter c).emit (.readData mid.toNat 0)) := by
  rw [exec_buoyRecvRead_side hc hm hs, State.buoyRead_empty low hr]

/-- On either kind of channel, doorbell bits of which one rises unmasked latch and notify. -/
theorem exec_buoyDbSend_notifies (bits : Word) (hb : s.blkStopped 0x05 = false)
    (hr : ((s.chan c).side (!a)).risen bits.toNat ≠ 0) :
    exec (.buoyDbSend mid internal n bits) s = .next (((s.dbLatched c (!a) bits.toNat).buoyNotify c (!a) 0).sparAfter c) := by
  rw [exec_buoyDbSend_side hc hm hs, State.mailRing, State.buoyRing_running _ _ _ hb, if_pos hr]

/-- On either kind of channel, doorbell bits of which none rises unmasked only latch. -/
theorem exec_buoyDbSend_quiet (bits : Word) (hb : s.blkStopped 0x05 = false)
    (hr : ((s.chan c).side (!a)).risen bits.toNat = 0) :
    exec (.buoyDbSend mid internal n bits) s = .next ((s.dbLatched c (!a) bits.toNat).sparAfter c) := by
  rw [exec_buoyDbSend_side hc hm hs, State.mailRing, State.buoyRing_running _ _ _ hb, if_neg (not_not_intro hr)]

end

/-- The active pair's write of BUOY_FORCE_CLEAR clears its channel (R271). -/
theorem exec_buoyForceClear_active {s : State} {mid : BitVec 13} (internal : Bool) (n : BitVec 11)
    (hg : s.gate mid.toNat R.BUOY_FORCE_CLEAR false = .open_) (hk : s.activeKeeper mid.toNat = true) :
    exec (.buoyForceClear mid internal n) s = .next ((s.mailForceClear (chanOf internal n.toNat)).bump R.BUOY_FORCE_CLEARS) :=
  congrArg Host.Outcome.next ((State.gatedWrite_open _ hg).trans (if_pos hk))

/-- An open function's write of BUOY_VECTOR reaches its channel (R262). -/
theorem exec_buoyVectorEnable_open {iid : Fin 2048} {s : State} (v : BitVec 16) (on : Bool) (ho : s.fnOpen iid.val = true) :
    exec (.buoyVectorEnable iid v on) s = .next (s.buoyVector iid.val v.toNat on) := congrArg Host.Outcome.next (if_pos ho)

/-! ## The obligations -/

/-- Settles O6: each clause takes its event, write or claim read down the branch that the hypotheses open. -/
theorem eventActs : Obligations.EventActs := by
  unfold Obligations.EventActs
  refine ⟨?edge, ?merged, ?force, ?enable, ?disable, ?clear, ?claim, ?spurious, fun t idle s => rfl, fun t s => rfl⟩
  case edge => exact fun source s hn hm hp => (exec_eventSourceEdge s hn).trans (congrArg _ (State.raiseEs_sets hm hp))
  case merged => exact fun source s hn hm hp => (exec_eventSourceEdge s hn).trans (congrArg _ (State.raiseEs_merges hm hp))
  case force => exact fun mid source s hg => congrArg _ (State.gatedWrite_open _ hg)
  case enable =>
    rintro mid source on s hg rfl hmask
    rw [exec_evcSrcEnable_open true hg, State.srcEnable_good hmask]
  case disable =>
    rintro mid source on s hg rfl
    rw [exec_evcSrcEnable_open false hg, State.srcEnable_off]
  case clear => exact fun mid k bits s hg => exec_evcPendingClear_open bits hg
  case claim =>
    intro mid t n s hg ht ho hn
    rw [exec_evcClaimRead_keeper hg ht ho, State.claim_some hn]
  case spurious =>
    intro mid t s ht ho hn
    rw [exec_evcClaimRead_supervisor ht ho, State.claim_none hn]

/-- Settles O7: the timer, the hint and the unmask each take the branch of R252 to R255 that the hypotheses open. That a vector whose
function has MSI-X Enable 0 holds its message as a masked one does is the model's choice (log entry 25). -/
theorem vectorActs : Obligations.VectorActs := by
  unfold Obligations.VectorActs
  refine ⟨fun iid v s => exec_vectorModerationExpiry_held, fun iid v s => exec_vectorModerationExpiry_quiet, ?sends, ?pends, ?stays,
    ?beyond, ?quiet, ?unmasked⟩
  case sends =>
    rintro iid v idle s ho hq rfl hh hmask hx
    rw [exec_idleHintWrite_open v true ho, State.hint_sends hq hh hmask hx]
  case pends =>
    rintro iid v idle s ho hq rfl hh hmask
    rw [exec_idleHintWrite_open v true ho, State.hint_pends hq hh hmask]
  case stays =>
    rintro iid v idle s ho hq rfl hh
    rw [exec_idleHintWrite_open v true ho, State.hint_stays hq hh]
  case beyond =>
    intro iid v idle s ho hq
    rw [exec_idleHintWrite_open v idle ho, State.hint_beyond idle hq]
  case quiet =>
    intro iid v s ho hp
    rw [exec_msixUnmask_open v ho, State.msixUnmask_quiet hp]
  case unmasked =>
    intro iid v s ho hp hx hq
    rw [exec_msixUnmask_open v ho, State.msixUnmask_sends hp hx hq]

/-- Settles O8: a master that has a side reaches the operation of its channel, and the operation takes the branch that the hypotheses
open; sends, doorbells and reads that leave the word are one argument for both kinds of channel. That Keeper holds a later word (log
entry 27), that a vector for which the pool has no room is refused as one outside the quota (log entry 61), and when the block counts
as stopped (log entry 57), are the model's choices. -/
theorem buoyActs : Obligations.BuoyActs := by
  unfold Obligations.BuoyActs
  refine ⟨?instSend, ?instOverrun, ?instRead, ?keeperRead, ?instLow, ?instNone, ?instWithdraw, ?instLate, ?instRing, ?instLatch,
    ?instClear, ?intSend, ?intOverrun, ?intRead, ?intLow, ?intNone, ?intWithdraw, ?intLate, ?intGone, ?intRing, ?intLatch, ?intClear,
    ?vectorOn, ?vectorOff, ?vectorRefused, ?forceInst, ?forceLocal, ?forceSpar⟩
  case instSend => exact fun mid n w a s hm hs hb hr => exec_buoySend_empty (chanOf_inst _) hm hs w hb hr
  case intSend => exact fun mid n w a s hm hs hb hr => exec_buoySend_empty (chanOf_int _) hm hs w hb hr
  case instOverrun => exact fun mid n w a s hm hs hb hr => exec_buoySend_full (chanOf_inst _) hm hs w hb hr
  case intOverrun => exact fun mid n w a s hm hs hb hr => exec_buoySend_full (chanOf_int _) hm hs w hb hr
  case instRead =>
    rintro mid n a s hm hs rfl hr
    have hmid : mid.toNat ≠ 0x1040 := by
      rw [State.eq_of_sideOf_inst hs]
      exact Nat.ne_of_lt (n.isLt.trans (by decide))
    rw [exec_buoyRecvRead_side (chanOf_inst _) hm hs, State.buoyRead_inst hmid hr]
  case keeperRead =>
    rintro mid n a s hm hs rfl hmid hr
    rw [exec_buoyRecvRead_side (chanOf_inst _) hm hs, State.buoyRead_keeper hmid hr]
  case intRead =>
    intro mid n a s hm hs hmid hr
    rw [exec_buoyRecvRead_side (chanOf_int _) hm hs, State.buoyRead_internal hmid hr]
  case instLow => exact fun mid n a s hm hs hr => exec_buoyRecvRead_low (chanOf_inst _) hm hs hr
  case intLow => exact fun mid n a s hm hs hr => exec_buoyRecvRead_low (chanOf_int _) hm hs hr
  case instNone => exact fun mid n low a s hm hs hr => exec_buoyRecvRead_empty (chanOf_inst _) hm hs low hr
  case intNone => exact fun mid n low a s hm hs hr => exec_buoyRecvRead_empty (chanOf_int _) hm hs low hr
  case instWithdraw =>
    intro mid n a s hm hs hr
    rw [exec_buoyWithdraw_side (chanOf_inst _) hm hs, State.mailWithdraw_inst, State.buoyWithdraw_unread hr]
  case instLate =>
    intro mid n a s hm hs hr
    rw [exec_buoyWithdraw_side (chanOf_inst _) hm hs, State.mailWithdraw_inst, State.buoyWithdraw_late hr]
  case intWithdraw =>
    intro mid n a s hm hs hsent hr
    rw [exec_buoyWithdraw_side (chanOf_int _) hm hs, State.mailWithdraw_here hsent, State.buoyWithdraw_unread hr]
  case intLate =>
    intro mid n a s hm hs hsent hr
    rw [exec_buoyWithdraw_side (chanOf_int _) hm hs, State.mailWithdraw_here hsent, State.buoyWithdraw_late hr]
  case intGone =>
    intro mid n a s hm hs hsent
    rw [exec_buoyWithdraw_side (chanOf_int _) hm hs, State.mailWithdraw_gone hsent]
  case instRing => exact fun mid n bits a s hm hs hb hr => exec_buoyDbSend_notifies (chanOf_inst _) hm hs bits hb hr
  case intRing => exact fun mid n bits a s hm hs hb hr => exec_buoyDbSend_notifies (chanOf_int _) hm hs bits hb hr
  case instLatch => exact fun mid n bits a s hm hs hb hr => exec_buoyDbSend_quiet (chanOf_inst _) hm hs bits hb hr
  case intLatch => exact fun mid n bits a s hm hs hb hr => exec_buoyDbSend_quiet (chanOf_int _) hm hs bits hb hr
  case instClear => exact fun mid n bits a s hm hs => exec_buoyDbRecvClear_side (chanOf_inst _) hm hs bits
  case intClear => exact fun mid n bits a s hm hs => exec_buoyDbRecvClear_side (chanOf_int _) hm hs bits
  case vectorOn =>
    intro iid v s ho hq hs
    rw [exec_buoyVectorEnable_open v true ho, State.buoyVector_taken hq hs]
  case vectorOff => exact fun iid v s ho => exec_buoyVectorEnable_open v false ho
  case vectorRefused =>
    intro iid v s ho h
    rw [exec_buoyVectorEnable_open v true ho, State.buoyVector_refused h]
  case forceInst => exact fun mid n s hg hk => exec_buoyForceClear_active false n hg hk
  case forceLocal =>
    intro mid n s hg hk hl
    rw [exec_buoyForceClear_active true n hg hk, chanOf_int, State.mailForceClear_local hl]
    rfl
  case forceSpar =>
    intro mid n s hg hk hl
    rw [exec_buoyForceClear_active true n hg hk, chanOf_int, State.mailForceClear_spar hl]
    rfl

end Sys2Proof.Machine
end

section
/-! Family 07_instances: what the instance commands and events do (O17), with one law for the body of each command where its checks
pass. -/

namespace Sys2Proof.Machine

/-! ## Bodies of the instance commands (R294 to R302) -/

/-- Where no refusal of a list holds, the body runs. -/
theorem guards_of_all_false {gs : List (Bool × (Unit → Res))} (body : Unit → Res) (h : ∀ g ∈ gs, g.1 = false) :
    guards gs body = body () := by
  induction gs with
  | nil => rfl
  | cons g gs ih =>
    rw [guards_cons, h g List.mem_cons_self, if_neg Bool.false_ne_true, ih fun g' hg => h g' (List.mem_cons_of_mem _ hg)]

/-- An admin ring of a good size at an aligned address is not refused (R225, R296). -/
theorem Cmd.adminRing_false {c : Cmd} {s : State} (h6 : 6 ≤ field (c.p 14) 23 16) (h16 : field (c.p 14) 23 16 ≤ 16)
    (ha : c.p 12 % 4096 = 0) : ∀ g ∈ c.adminRing s, g.1 = false := by
  simp [Cmd.adminRing, Nat.not_lt.mpr h6, Nat.not_lt.mpr h16, ha]

/-- INS_CREATE of an Undefined instance with a good record and ring, and room in the pools, makes the instance, and answers at once where
its generation has incremented (R284, R295, R296). -/
theorem insCreateSpec_body {c : Cmd} {s : State} {m : Bool × List Word × State} (hr : c.reserved [(14, 0xFF0000), (15, 0xFFFFF800)] = none)
    (hq : quotaRange (c.params.take 12) = none) (h0 : (s.inst c.target).state = 0) (ho : quotaOrder (c.params.take 12) = false)
    (hring : ∀ g ∈ c.adminRing s, g.1 = false) (hs : s.poolShort c.target (c.params.take 12) true = none)
    (hm : s.makeInst c.target ({ s.inst c.target with quota := c.params.take 12 }.withRing c) = m) :
    insCreateSpec.body c s = if m.1 then .ok m.2.2 m.2.1 else .pend m.2.2 := by
  change guards _ _ = _
  extract_lets first short
  have hfirst : ∀ g ∈ first, g.1 = false := by simp [first, h0, ho]
  have hshort : ∀ g ∈ short, g.1 = false := by simp [short, hs]
  rw [guards_of_all_false _ (by simp [hq]), Cmd.checked_of_none _ _ hr,
    guards_of_all_false _ (List.forall_mem_append.mpr ⟨List.forall_mem_append.mpr ⟨hfirst, hring⟩, hshort⟩)]
  split
  next h =>
    obtain rfl := hm.symm.trans h
    rfl
  next h =>
    obtain rfl := hm.symm.trans h
    rfl

/-- INS_DESTROY of an instance that exists and is not Destroying starts its removal (R302). -/
theorem insDestroySpec_body {c : Cmd} {s : State} (ht : c.target ≠ 0) (h0 : (s.inst c.target).state ≠ 0)
    (h5 : (s.inst c.target).state ≠ 5) :
    insDestroySpec.body c s = .pend ((s.setInst c.target { s.inst c.target with state := 5 }).incGen c.target .destroy).2 :=
  guards_of_all_false _ (by simp [ht, h0, h5])

/-- INS_RESET without a new ring resets an Active instance's host side (R299). -/
theorem insResetSpec_body {c : Cmd} {s : State} (hnew : bitAt (c.p 0) 0 = false) (hr : c.reserved [(0, 1)] = none) (ht : c.target ≠ 0)
    (h2 : (s.inst c.target).state = 2) : insResetSpec.body c s = .pend (s.hostReset c.target false) := by
  simp [insResetSpec, hnew, Cmd.checked_of_none _ _ hr, ht, h2]

/-- INS_SET_QUOTA with a good record that the pools can hold replaces the record and tells the instance (R297). -/
theorem insSetQuotaSpec_body {c : Cmd} {s : State} (ht : c.target ≠ 0) (hq : quotaRange (c.params.take 12) = none)
    (h0 : (s.inst c.target).state ≠ 0) (h5 : (s.inst c.target).state ≠ 5) (hu : s.quotaBelowUse c.target (c.params.take 12) = false)
    (ho : quotaOrder (c.params.take 12) = false) (hm : quotaMin (c.params.take 12) 7 = (s.rangeOf c.target).2)
    (hs : s.poolShort c.target (c.params.take 12) false = none) :
    insSetQuotaSpec.body c s =
      .ok ((s.setInst c.target { s.inst c.target with quota := c.params.take 12 }).keeperSend c.target 0x03 0) [] :=
  guards_of_all_false _ (by simp [ht, hq, h0, h5, hu, ho, hm, hs])

/-- INS_SUSPEND of an Active instance stops its queues (R300). -/
theorem insSuspendSpec_body {c : Cmd} {s : State} (ht : c.target ≠ 0) (h2 : (s.inst c.target).state = 2) :
    insSuspendSpec.body c s = .pend ((s.setInst c.target { s.inst c.target with state := 3 }).stopQueues c.target) :=
  guards_of_all_false _ (by simp [ht, h2])

/-- INS_RESUME of a Suspended instance serves its queues again (R300). -/
theorem insResumeSpec_body {c : Cmd} {s : State} (ht : c.target ≠ 0) (h3 : (s.inst c.target).state = 3) :
    insResumeSpec.body c s = .ok ((s.setInst c.target { s.inst c.target with state := 2 }).resumeServing c.target) [] :=
  guards_of_all_false _ (by simp [ht, h3])

/-! ## What follows an entry -/

/-- What INS_DESTROY does in its own step to the state t that its entry leaves of s: the command that waits now is the one just taken (R302). -/
def State.destroyStarted (s t : State) : State :=
  match t.findPend (fun p => p.cmd.opcode = 0x0101 && !s.cmds.pend.contains p) with
  | none => t
  | some p =>
    let u := t.hostFacing p.cmd.target
    (if (u.inst p.cmd.target).waits.contains .destroy then u else u.destroyRest p.cmd.target).undoStale

/-- What INS_SUSPEND does in its own step to the state t that its entry leaves of s (R300). -/
def State.suspendEnded (s t : State) : State :=
  match t.findPend (fun p => p.cmd.opcode = 0x0105 && !s.cmds.pend.contains p) with
  | some p => t.finish p 0 0 []
  | none => t

theorem exec_insDestroy (e : AdminEntry) (s : State) :
    exec (.insDestroy e) s = .next (s.destroyStarted (s.runCmd insDestroySpec e)) := rfl
theorem exec_insSuspend (e : AdminEntry) (s : State) :
    exec (.insSuspend e) s = .next (s.suspendEnded (s.runCmd insSuspendSpec e)) := rfl
theorem exec_insCreate (e : AdminEntry) (s : State) : exec (.insCreate e) s = .next (s.runCmd insCreateSpec e) := rfl
theorem exec_insReset (e : AdminEntry) (s : State) : exec (.insReset e) s = .next (s.runCmd insResetSpec e).undoStale := rfl

/-! ## The generation and the manager's admin ring (R284, R308, R309) -/

theorem exec_generationIncrementDue_idle {iid : Fin 2048} {s : State} (h : (s.inst iid.val).waits = []) :
    exec (.generationIncrementDue iid) s = .next (s.setInst iid.val { s.inst iid.val with recent := false }) := by
  change execGenerationIncrementDue iid s = _
  simp only [execGenerationIncrementDue, h]

theorem exec_generationIncrementDue_plain {iid : Fin 2048} {t : List IncWait} {s : State} (h : (s.inst iid.val).waits = .plain :: t) :
    exec (.generationIncrementDue iid) s =
      .next (((s.setInst iid.val { s.inst iid.val with waits := t }).bumpGen iid.val).undoStale) := by
  change execGenerationIncrementDue iid s = _
  simp only [execGenerationIncrementDue, h]

/-- A write with enable 0 records the size of the ring and leaves an active ring as it is (R309). -/
theorem State.mgrAdmin_off {s : State} {v : Nat} (h : bitAt v 31 = false) :
    s.mgrAdmin v = (s.setF F.INS_MGR_ADMIN_CFG_ring_size_log2 (field v 23 16)).setF F.INS_MGR_ADMIN_CFG_enable 0 := by
  simp [State.mgrAdmin, h]

/-- Instance 0 with the admin ring of the manager's base registers and a size (R308). -/
def State.mgrRing (s : State) (log2 : Nat) : State :=
  let u := s.setF F.INS_MGR_ADMIN_CFG_ring_size_log2 log2
  u.setInst 0 { u.inst 0 with
    adminBase := s.reg R.INS_MGR_ADMIN_BASE_LO + s.reg R.INS_MGR_ADMIN_BASE_HI * 2 ^ 32, adminLog2 := log2, adminPasid := 0, aborted := false }

/-- The manager's admin queue starts again on the ring last set, or is created on it (R308). -/
def State.mgrStart (s : State) : State :=
  match s.adminQ 0 with
  | some q => (s.setInst 0 { s.inst 0 with adminQid := q }).startAdmin 0
  | none => s.createAdmin 0

/-- A write with enable 1 and a good size starts a ring that is not active (R308, R309). -/
theorem State.mgrAdmin_starts {s : State} {v : Nat} (h : bitAt v 31 = true) (ha : s.rfb F.INS_MGR_ADMIN_CFG_active = false)
    (h6 : 6 ≤ field v 23 16) (h16 : field v 23 16 ≤ 16) :
    s.mgrAdmin v = (((s.mgrRing (field v 23 16)).mgrStart.setF F.INS_MGR_ADMIN_CFG_enable 1).setF F.INS_MGR_ADMIN_CFG_active 1).setF
      F.INS_MGR_ADMIN_CFG_reason 0 := by
  have hsize : (field v 23 16 < 6 || field v 23 16 > 16) = false := by simp [h6, h16]
  simp only [State.mgrAdmin, h, ha, hsize, Bool.and_false, Bool.not_true, Bool.false_eq_true, if_false]
  rfl

/-- A write that reaches INS_SEL shows the record of its instance (R308). -/
theorem exec_insSelWrite_open {mid : BitVec 13} {iid : Fin 2048} {s : State} (hg : s.gate mid.toNat R.INS_SEL false = .open_) :
    exec (.insSelWrite mid iid) s = .next (s.insSel iid.val) :=
  congrArg Host.Outcome.next (State.gatedWrite_open (fun s => s.insSel iid.val) hg)

/-! ## The obligation -/

/-- Settles O17: each command's checks pass and its body acts, and each event or write takes the branch that the hypotheses open. That a
suspend ends in its own step, and that a generation increment with nothing waiting ends the period, are the model's choices (log
entry 28). -/
theorem instanceActs : Obligations.InstanceActs := by
  unfold Obligations.InstanceActs
  refine ⟨?create, ?destroy, ?reset, ?setQuota, ?query, ?suspend, ?resume, fun iid s => rfl,
    fun iid s => exec_generationIncrementDue_idle, fun iid t s => exec_generationIncrementDue_plain, ?mgrOff, ?mgrOn, ?select⟩
  case create =>
    intro s e h ⟨hr, hq, h0, ho, h6, h16, ha, hs⟩
    rw [exec_insCreate, runCmd_accepted h, insCreateSpec_body hr hq h0 ho (Cmd.adminRing_false h6 h16 ha) hs rfl]
    beta_reduce
    generalize (s.taken insCreateSpec e).makeInst _ _ = m
    obtain ⟨_ | _, ws, u⟩ := m
    · rfl
    · rfl
  case destroy =>
    intro s e h ht ⟨h0, h5⟩
    rw [exec_insDestroy, runCmd_pend h (insDestroySpec_body ht h0 h5)]
    rfl
  case reset =>
    intro s e h hnew hr ht h2
    rw [exec_insReset, runCmd_pend h (insResetSpec_body hnew hr ht h2)]
    rfl
  case setQuota =>
    exact fun s e h ⟨ht, hq, h0, h5, hu, ho, hm, hs⟩ => congrArg _ (runCmd_ok h (insSetQuotaSpec_body ht hq h0 h5 hu ho hm hs))
  case query => exact fun s e h _ => congrArg _ (runCmd_ok h rfl)
  case suspend =>
    intro s e h ht h2
    rw [exec_insSuspend, runCmd_pend h (insSuspendSpec_body ht h2)]
    rfl
  case resume => exact fun s e h ⟨ht, h3⟩ => congrArg _ (runCmd_ok h (insResumeSpec_body ht h3))
  case mgrOff => exact fun mid value s hg hoff => congrArg _ ((State.gatedWrite_open _ hg).trans (State.mgrAdmin_off hoff))
  case mgrOn =>
    exact fun mid value s hg hon ha h6 h16 => congrArg _ ((State.gatedWrite_open _ hg).trans (State.mgrAdmin_starts hon ha h6 h16))
  case select =>
    intro mid iid s hg
    rw [exec_insSelWrite_open hg, State.insSel]

end Sys2Proof.Machine
end

section
/-! Family 08_memory_paging: the canonical form of the memories that a step leaves (O48).

Most of the model's functions leave the memories as they are, and one lemma for each says so; a meaning that writes none is said to leave
them (`LeavesMem`). Each function that does write has a lemma that it keeps their canonical form (`MemSt.Canon`), from `Mem.wf_write` and
`Mem.wf_clear` at the writes and from the lemmas of the functions that it calls, in the model's order; `exec_canon` gathers them over the
instructions, and the obligation follows from it. As for the queue of commands, a proof names the answer of a long computation or the
function that computes it before it splits, so that the kernel compares terms as they stand. -/

namespace Sys2Proof.Machine

-- There are many lemmas here; checked one after another they need less memory than at the same time.
set_option Elab.async false

/-! ## Canonical memories -/

/-- The byte memories are in canonical form. -/
structure MemSt.Canon (m : MemSt) : Prop where
  mram : Mem.wf m.mram = true
  ddr : Mem.wf m.ddr = true
  pbuf : Mem.wf m.pbuf = true
  cache : Mem.wf m.cache = true
  donated : Mem.wf m.donated = true

theorem State.memoriesOk_iff (s : State) : s.memoriesOk = true ↔ s.mem.Canon := by
  simp only [State.memoriesOk, Bool.and_eq_true]
  exact ⟨fun ⟨⟨⟨⟨h₁, h₂⟩, h₃⟩, h₄⟩, h₅⟩ => ⟨h₁, h₂, h₃, h₄, h₅⟩, fun ⟨h₁, h₂, h₃, h₄, h₅⟩ => ⟨⟨⟨⟨h₁, h₂⟩, h₃⟩, h₄⟩, h₅⟩⟩

/-! ## Functions that leave the memories

Functions that write no memory leave all of it. -/

/-- A port operation that ends leaves the memories of s. -/
def PortLeavesMem (s : State) : PortEnd → Prop
  | .ok x => x.1.mem = s.mem
  | .error _ => True

/-- A command that answers a next state leaves the memories of s. -/
def LeavesMem (s : State) : Host.Outcome State Fault Refusal → Prop
  | .next t => t.mem = s.mem
  | _ => True

@[simp] theorem portLeavesMem_ok (s : State) (x : State × Routine × Option (Nat × Nat)) :
    PortLeavesMem s (.ok x) ↔ x.1.mem = s.mem := Iff.rfl
@[simp] theorem portLeavesMem_error (s : State) (t : Nat × Nat) : PortLeavesMem s (.error t) := trivial
@[simp] theorem leavesMem_next (s t : State) : LeavesMem s (.next t) ↔ t.mem = s.mem := Iff.rfl

/-! ## Branches and folds -/

/-- `State.setReg_mem` holds by unfolding, and the kernel then unfolds the setter again wherever one was rewritten; a rewriting by this
leaves it none to unfold. -/
theorem State.mem_setReg (s : State) (a v : Nat) : (s.setReg a v).mem = s.mem := (rfl)
theorem State.mem_setF (s : State) (f : FRef) (v : Nat) : (s.setF f v).mem = s.mem := (rfl)

@[simp] theorem State.mem_ite (c : Prop) [Decidable c] (s t : State) :
    (if c then s else t).mem = if c then s.mem else t.mem := apply_ite ..
theorem ite_mem {c : Prop} [Decidable c] {s t u : State} (ht : t.mem = s.mem) (hu : u.mem = s.mem) :
    (if c then t else u).mem = s.mem := by
  rw [State.mem_ite, ht, hu, ite_self]

theorem snd_mem_of_ite {α : Type} {c : Prop} [Decidable c] {s : State} {x y : α × State} (hx : x.2.mem = s.mem)
    (hy : y.2.mem = s.mem) : (if c then x else y).2.mem = s.mem := by
  split
  · exact hx
  · exact hy

theorem Res.ite_mem {c : Prop} [Decidable c] {s : State} {x y : Res} (hx : x.state.mem = s.mem)
    (hy : y.state.mem = s.mem) : (if c then x else y).state.mem = s.mem := by
  split
  · exact hx
  · exact hy

theorem Acted.ite_mem {c : Prop} [Decidable c] {s : State} {x y : Acted} (hx : x.state.mem = s.mem)
    (hy : y.state.mem = s.mem) : (if c then x else y).state.mem = s.mem := by
  split
  · exact hx
  · exact hy

theorem ClvEnd.ite_mem {c : Prop} [Decidable c] {s : State} {x y : ClvEnd} (hx : x.state.mem = s.mem)
    (hy : y.state.mem = s.mem) : (if c then x else y).state.mem = s.mem := by
  split
  · exact hx
  · exact hy

theorem PortLeavesMem.of_ite {c : Prop} [Decidable c] {s : State} {x y : PortEnd} (hx : PortLeavesMem s x) (hy : PortLeavesMem s y) :
    PortLeavesMem s (if c then x else y) := by
  split
  · exact hx
  · exact hy

@[simp] theorem snd_mem_ite {α : Type} (c : Prop) [Decidable c] (x y : α × State) :
    (if c then x else y).2.mem = if c then x.2.mem else y.2.mem := apply_ite (fun x : α × State => x.2.mem) ..
@[simp] theorem portLeavesMem_ite (s : State) (c : Prop) [Decidable c] (x y : PortEnd) :
    PortLeavesMem s (if c then x else y) ↔ if c then PortLeavesMem s x else PortLeavesMem s y := by split <;> rfl

/-- A fold of steps that each leave the memories leaves them. -/
@[simp] theorem foldl_mem {α : Type} {f : State → α → State} (hf : ∀ s a, (f s a).mem = s.mem) (l : List α)
    (s : State) : (l.foldl f s).mem = s.mem := by
  induction l generalizing s with
  | nil => rfl
  | cons a l ih => rw [List.foldl_cons, ih, hf]

/-- The same, with each step's result under a name: the kernel compares the steps as they stand. -/
theorem foldl_mem_of_eq {α : Type} {f : State → α → State} (hf : ∀ s a t, f s a = t → t.mem = s.mem) (l : List α)
    (s : State) : (l.foldl f s).mem = s.mem :=
  foldl_mem (fun s a => hf s a _ rfl) l s

/-- A fold from the right of steps that each leave the memories leaves them. -/
@[simp] theorem foldr_mem {α : Type} {f : α → State → State} (hf : ∀ a s, (f a s).mem = s.mem) (l : List α)
    (s : State) : (l.foldr f s).mem = s.mem := by
  rw [← List.foldl_reverse]
  exact foldl_mem (fun s a => hf a s) _ s

/-- A fold that carries a value beside the state leaves the memories where each step does. -/
@[simp] theorem foldl_snd_mem {α β : Type} {f : β × State → α → β × State} (hf : ∀ x a, (f x a).2.mem = x.2.mem)
    (l : List α) (x : β × State) : (l.foldl f x).2.mem = x.2.mem := by
  induction l generalizing x with
  | nil => rfl
  | cons a l ih => rw [List.foldl_cons, ih, hf]

/-! ## Answers taken apart -/

/-- The state of a pair that has been taken apart. -/
theorem mem_of_eq {α : Type} {x : α × State} {a : α} {t : State} (h : x = (a, t)) : t.mem = x.2.mem := by rw [h]

/-- What a command on a state with the same memories leaves. -/
theorem LeavesMem.trans {s t : State} {x : Host.Outcome State Fault Refusal} (h : LeavesMem t x) (e : t.mem = s.mem) :
    LeavesMem s x := by
  cases x with
  | next u => exact Eq.trans h e
  | _ => trivial

/-- The state of a pair that has been put together. -/
theorem mem_of_mk {α : Type} {x : α × State} {a : α} {t : State} (h : (a, t) = x) : x.2.mem = t.mem := by rw [← h]

/-- The state of a port operation that ended. -/
theorem PortLeavesMem.of_eq {s : State} {e : PortEnd} {x : State × Routine × Option (Nat × Nat)} (hp : PortLeavesMem s e)
    (h : e = .ok x) : x.1.mem = s.mem := by
  subst h
  exact hp

/-- The state of a triple that has been taken apart. -/
theorem mem_of_eq_triple {α β : Type} {x : α × β × State} {a : α} {b : β} {t : State} (h : x = (a, b, t)) :
    t.mem = x.2.2.mem := by rw [h]

/-! ## The named operations over registers, event sources, claims, host vectors and free values -/

@[simp] theorem State.resetRegs_mem (s : State) (p : RegDef → Nat → Bool) : (s.resetRegs p).mem = s.mem := (rfl)

@[simp] theorem State.drawBytes_mem (s : State) : s.drawBytes.2.mem = s.mem := (rfl)

@[simp] theorem State.settleLine_mem (s : State) (t : Nat) : (s.settleLine t).mem = s.mem := by simp [State.settleLine]

@[simp] theorem State.tryWake_mem (s : State) (k n : Nat) : (s.tryWake k n).mem = s.mem := by simp [State.tryWake]

@[simp] theorem State.latchWake_mem (s : State) (k n bit : Nat) : (s.latchWake k n bit).mem = s.mem := by simp [State.latchWake]

@[simp] theorem State.postWake_mem (s : State) (k n : Nat) : (s.postWake k n).mem = s.mem := by simp [State.postWake]

@[simp] theorem State.settleLines_mem (s : State) : s.settleLines.mem = s.mem := by simp [State.settleLines]

@[simp] theorem State.raiseEs_mem (s : State) (n : Nat) : (s.raiseEs n).mem = s.mem := by simp [State.raiseEs]

@[simp] theorem State.raiseLimited_mem (s : State) (n : Nat) : (s.raiseLimited n).mem = s.mem := by simp [State.raiseLimited]

@[simp] theorem State.sendVec_mem (s : State) (i v : Nat) : (s.sendVec i v).mem = s.mem := by simp [State.sendVec]

@[simp] theorem State.raiseVec_mem (s : State) (i v : Nat) : (s.raiseVec i v).mem = s.mem := by simp [State.raiseVec]

@[simp] theorem State.claimRefused_mem (s : State) (res holder : Nat) : (s.claimRefused res holder).mem = s.mem :=
  (State.raiseLimited_mem ..).trans ((State.setReg_mem ..).trans ((State.setReg_mem ..).trans (State.bump_mem ..)))

@[simp] theorem State.takeClaim_mem (s : State) (res holder : Nat) : (s.takeClaim res holder).mem = s.mem := by
  simp only [State.takeClaim]
  split <;> simp

@[simp] theorem State.takeClaims_mem (s : State) (cs : List (Nat × Nat)) : (s.takeClaims cs).mem = s.mem := by
  simp [State.takeClaims]

@[simp] theorem State.dropClaims_mem (s : State) (p : Nat → Bool) : (s.dropClaims p).mem = s.mem := (rfl)

/-! ## The host functions -/

@[simp] theorem State.aer_mem (s : State) (f : Nat) (e : AerError) : (s.aer f e).mem = s.mem := by simp [State.aer]

@[simp] theorem State.urPosted_mem (s : State) (f : Nat) : (s.urPosted f).mem = s.mem := State.aer_mem ..

@[simp] theorem State.urRead_mem (s : State) (f : Nat) : (s.urRead f).mem = s.mem :=
  (State.emit_mem ..).trans (State.aer_mem ..)

/-! ## Operations of the time unit, Daymark and the calibration table -/

@[simp] theorem State.showRate_mem (s : State) : s.showRate.mem = s.mem := (rfl)

@[simp] theorem State.timeCycle_mem (s : State) : s.timeCycle.mem = s.mem := by simp [State.timeCycle]

@[simp] theorem State.setDm_mem (s : State) (sec sub : Nat) : (s.setDm sec sub).mem = s.mem := (rfl)

@[simp] theorem State.dmCycle_mem (s : State) : s.dmCycle.mem = s.mem := by simp [State.dmCycle]

@[simp] theorem State.setPpsBall_mem (s : State) (level : Bool) : (s.setPpsBall level).mem = s.mem := by simp [State.setPpsBall]

@[simp] theorem State.markMram_mem (s : State) (a : Nat) (on : Bool) : (s.markMram a on).mem = s.mem := by
  simp only [State.markMram]
  split <;> simp

@[simp] theorem State.calLive_mem (s : State) (tbl : List Byte) : (s.calLive tbl).mem = s.mem := (rfl)

/-! ## The operations of the queue manager -/

@[simp] theorem State.setQ_mem (s : State) (q : Nat) (c : QCtx) : (s.setQ q c).mem = s.mem := (rfl)

@[simp] theorem State.assertWake_mem (s : State) : s.assertWake.mem = s.mem := by simp [State.assertWake]

@[simp] theorem State.pmeOf_mem (s : State) (f : Nat) : (s.pmeOf f).mem = s.mem := by simp [State.pmeOf]

@[simp] theorem State.pmeWake_mem (s : State) (i : Nat) : (s.pmeWake i).mem = s.mem := by simp [State.pmeWake]

@[simp] theorem State.postUnit_mem (s : State) (e : Nat) (body : List Word) : (s.postUnit e body).mem = s.mem := by
  simp [State.postUnit]

@[simp] theorem State.postDue_mem (s : State) (e n : Nat) (body : List Word) : (s.postDue e n body).mem = s.mem := by
  simp [State.postDue]

@[simp] theorem State.postNotify_mem (s : State) (q : Nat) : (s.postNotify q).mem = s.mem := by
  simp only [State.postNotify]
  split <;> simp

@[simp] theorem State.notify_mem (s : State) (q status tag : Nat) : (s.notify q status tag).mem = s.mem := by
  simp only [State.notify]
  split <;> simp

@[simp] theorem State.writeDone_mem (s : State) (q : Nat) (d : Done) : (s.writeDone q d).mem = s.mem := by
  simp [State.writeDone]

@[simp] theorem State.writeReady_mem (s : State) (q fuel : Nat) : (s.writeReady q fuel).mem = s.mem := by
  induction fuel generalizing s with
  | zero => rfl
  | succ fuel ih =>
    simp only [State.writeReady]
    split <;> simp [ih]

@[simp] theorem State.completeEntry_mem (s : State) (q idx units w0 : Nat) (writes : List (Nat × Word)) (status reason tag : Nat)
    (notify : Bool) :
    (s.completeEntry q idx units w0 writes status reason tag notify).mem = s.mem := by simp [State.completeEntry]

@[simp] theorem State.takeUnits_mem (s : State) (q units w0 tag : Nat) (notify : Bool) :
    (s.takeUnits q units w0 tag notify).mem = s.mem := (rfl)

@[simp] theorem State.freeQid_mem (s : State) : s.freeQid.2.mem = s.mem := (rfl)

@[simp] theorem State.makeHotRoom_mem (s : State) : s.makeHotRoom.mem = s.mem := by simp [State.makeHotRoom]

@[simp] theorem State.ringPi_mem (s : State) (q v : Nat) : (s.ringPi q v).mem = s.mem := by simp [State.ringPi]

@[simp] theorem State.ringCi_mem (s : State) (q v : Nat) (arm : Bool) : (s.ringCi q v arm).mem = s.mem := by simp [State.ringCi]

@[simp] theorem State.applyDoorbell_mem (s : State) (q v : Nat) (arm : Bool) : (s.applyDoorbell q v arm).mem = s.mem := by
  simp [State.applyDoorbell]

@[simp] theorem State.doorbell_mem (s : State) (q v : Nat) (arm : Bool) : (s.doorbell q v arm).mem = s.mem := by
  simp [State.doorbell]

@[simp] theorem State.replayDoorbells_mem (s : State) (q : Nat) : (s.replayDoorbells q).mem = s.mem := by
  simp [State.replayDoorbells]

@[simp] theorem State.abortQueues_mem (s : State) (i : Nat) : (s.abortQueues i).mem = s.mem := (rfl)

@[simp] theorem State.stopQueues_mem (s : State) (i : Nat) : (s.stopQueues i).mem = s.mem := (rfl)

@[simp] theorem State.resumeQueues_mem (s : State) (i : Nat) : (s.resumeQueues i).mem = s.mem := by simp [State.resumeQueues]

@[simp] theorem State.padEntry_mem (s : State) (q len tag w0 : Nat) : (s.padEntry q len tag w0).mem = s.mem := by
  simp [State.padEntry]

@[simp] theorem State.staleQueue_mem (s : State) (q : Nat) : (s.staleQueue q).mem = s.mem := by simp [State.staleQueue]

@[simp] theorem State.staleDiscard_mem (s : State) (i : Nat) (q : Option Nat) : (s.staleDiscard i q).mem = s.mem := by
  simp only [State.staleDiscard]
  split <;> simp

@[simp] theorem State.dropRef_mem (s : State) (q iid igen : Nat) : (s.dropRef q iid igen).mem = s.mem := by simp [State.dropRef]

/-! ## Yadopex commands -/

@[simp] theorem refuse_mem (s : State) (reason : Nat) : (refuse s reason).state.mem = s.mem := (rfl)

@[simp] theorem badParam_mem (s : State) (word : Nat) : (badParam s word).state.mem = s.mem := (rfl)

@[simp] theorem notFound_mem (s : State) : (notFound s).state.mem = s.mem := (rfl)

@[simp] theorem noResource_mem (s : State) : (noResource s).state.mem = s.mem := (rfl)

@[simp] theorem quotaExceeded_mem (s : State) : (quotaExceeded s).state.mem = s.mem := (rfl)

@[simp] theorem busy_mem (s : State) : (busy s).state.mem = s.mem := (rfl)

@[simp] theorem State.turn_mem (s : State) (i : Issuer) : (s.turn i).mem = s.mem := by simp [State.turn]

@[simp] theorem State.answer_mem (s : State) (c : Cmd) (consumed status reason : Nat) (ws : List Word) :
    (s.answer c consumed status reason ws).mem = s.mem := by
  unfold State.answer
  extract_lets +onlyGivenNames t u
  have ht : t.mem = s.mem := ite_mem rfl (State.bump_mem ..)
  have hu : u.mem = s.mem := ite_mem ((State.bump_mem ..).trans ht) ht
  clear_value u
  split
  · split
    · exact ite_mem ((State.completeEntry_mem ..).trans hu) ((State.staleDiscard_mem ..).trans hu)
    · exact (State.staleDiscard_mem ..).trans hu
  · exact (State.emit_mem ..).trans hu

@[simp] theorem State.opEnded_mem (s : State) (c : Cmd) : (s.opEnded c).mem = s.mem := by simp [State.opEnded]

@[simp] theorem State.reply_mem (s : State) (c : Cmd) (consumed status reason : Nat) (ws : List Word) :
    (s.reply c consumed status reason ws).mem = s.mem :=
  (State.opEnded_mem ..).trans (State.answer_mem ..)

@[simp] theorem State.replyPending_mem (s : State) (c : Cmd) (locks : List Lock) (note : List Nat) :
    (s.replyPending c locks note).mem = s.mem := by
  unfold State.replyPending
  extract_lets +onlyGivenNames t cmds u
  have ht : t.mem = s.mem := by
    unfold t
    split
    · split
      · exact State.emit_mem ..
      · rfl
    · rfl
  have hu : u.mem = s.mem := ht
  exact ite_mem ((State.raiseEs_mem ..).trans hu) hu

@[simp] theorem State.finish_mem (s : State) (p : PendCmd) (status reason : Nat) (ws : List Word) :
    (s.finish p status reason ws).mem = s.mem := by simp [State.finish]

@[simp] theorem State.finishOp_mem (s : State) (op status reason : Nat) (ws : List Word) :
    (s.finishOp op status reason ws).mem = s.mem := by
  simp only [State.finishOp]
  split <;> simp

@[simp] theorem badP_mem (s : State) (n : Nat) : (badP s n).state.mem = s.mem := (rfl)

theorem Cmd.checked_mem {c : Cmd} {s : State} {body : Unit → Res} (ws : List (Nat × Nat))
    (h : (body ()).state.mem = s.mem) : (c.checked s ws body).state.mem = s.mem := by
  rw [Cmd.checked_state]
  split
  · exact h
  · rfl

theorem guards_mem {gs : List (Bool × (Unit → Res))} {body : Unit → Res} {s : State}
    (hg : ∀ g ∈ gs, (g.2 ()).state.mem = s.mem) (hb : (body ()).state.mem = s.mem) :
    (guards gs body).state.mem = s.mem := by
  induction gs with
  | nil => exact hb
  | cons g gs ih =>
    rw [guards_cons]
    split
    · exact hg g List.mem_cons_self
    · exact ih fun g h => hg g (List.mem_cons_of_mem _ h)

@[simp] theorem Cmd.tried_mem {c : Cmd} {s : State} {body : Unit → Res} (fault : Option (Nat × Nat × List Word))
    (h : (body ()).state.mem = s.mem) : (c.tried s fault body).state.mem = s.mem := by
  unfold Cmd.tried
  split
  · rfl
  · exact h

@[simp] theorem claimAnswer_mem (s : State) (res reason holder : Nat) : (claimAnswer s res reason holder).state.mem = s.mem
    := by
  simp [claimAnswer]

@[simp] theorem withClaims_mem {s : State} {cs : List (Nat × Nat)} {body : State → Res}
    (h : (body (s.takeClaims cs)).state.mem = s.mem) : (withClaims s cs body).state.mem = s.mem := by
  unfold withClaims
  split
  · simp
  · exact h

/-! ## Operations of the line ports -/

@[simp] theorem State.setPort_mem (s : State) (p : Nat) (v : LinePort) : (s.setPort p v).mem = s.mem := (rfl)

@[simp] theorem State.statBy_mem (s : State) (p k n : Nat) : (s.statBy p k n).mem = s.mem := (rfl)

@[simp] theorem State.stat_mem (s : State) (p k : Nat) : (s.stat p k).mem = s.mem := (rfl)

@[simp] theorem State.sendPause_mem (s : State) (p prio quanta : Nat) : (s.sendPause p prio quanta).mem = s.mem := by
  simp [State.sendPause]

@[simp] theorem State.settleAccount_mem (s : State) (p prio : Nat) : (s.settleAccount p prio).mem = s.mem := by
  simp only [State.settleAccount]
  split <;> simp

@[simp] theorem State.settlePort_mem (s : State) (p : Nat) : (s.settlePort p).mem = s.mem := by simp [State.settlePort]

@[simp] theorem State.settleRequester_mem (s : State) (r : Nat) : (s.settleRequester r).mem = s.mem := by
  simp [State.settleRequester]

/-! ## Operations of the buffer pool manager -/

@[simp] theorem State.pickBuf_mem (s : State) (r tier c : Nat) : (s.pickBuf r tier c).2.mem = s.mem := by simp [State.pickBuf]

@[simp] theorem State.pickFrom_mem (s : State) (r : Nat) (l : List (Nat × Nat)) : (s.pickFrom r l).2.mem = s.mem := by
  induction l generalizing s with
  | nil => rfl
  | cons x l ih =>
    simp only [State.pickFrom]
    split <;> simp [ih]

@[simp] theorem State.allocBuf_mem (s : State) (r len : Nat) : (s.allocBuf r len).2.mem = s.mem := by
  simp only [State.allocBuf]
  split <;> simp

@[simp] theorem State.badPtr_mem (s : State) (p op cause mid : Nat) : (s.badPtr p op cause mid).mem = s.mem := (rfl)

@[simp] theorem State.fitCarve_mem (s : State) : s.fitCarve.mem = s.mem := by simp [State.fitCarve]

@[simp] theorem State.settleCarve_mem (s : State) (tier : Nat) : (s.settleCarve tier).mem = s.mem := by
  unfold State.settleCarve
  split
  next => rfl
  next n _ =>
    refine ite_mem rfl ?_
    extract_lets +onlyGivenNames bpm t
    split
    · exact State.finish_mem ..
    · rfl

@[simp] theorem State.putBuf_mem (s : State) (p : Nat) (b : Buf) : (s.putBuf p b).mem = s.mem := by simp [State.putBuf]

@[simp] theorem State.shareBuf_mem (s : State) (p by_ holder mid : Nat) : (s.shareBuf p by_ holder mid).2.mem = s.mem := by
  simp only [State.shareBuf]
  split <;> simp

@[simp] theorem State.releaseBuf_mem (s : State) (p by_ mid : Nat) : (s.releaseBuf p by_ mid).2.mem = s.mem := by
  simp only [State.releaseBuf]
  split <;> simp

@[simp] theorem State.transferBuf_mem (s : State) (p by_ dest mid : Nat) : (s.transferBuf p by_ dest mid).2.mem = s.mem := by
  simp only [State.transferBuf]
  split <;> simp

@[simp] theorem State.freeBufBy_mem (s : State) (p by_ mid : Nat) : (s.freeBufBy p by_ mid).2.mem = s.mem := by
  simp only [State.freeBufBy]
  split <;> simp

@[simp] theorem State.freeFrame_mem (s : State) (p : Nat) : (s.freeFrame p).mem = s.mem := by
  simp only [State.freeFrame]
  split <;> simp

@[simp] theorem State.endHold_mem (s : State) (p : Nat) (holder : Option Nat) : (s.endHold p holder).mem = s.mem := by
  simp only [State.endHold]
  repeat' split
  all_goals simp

@[simp] theorem State.freeHead_mem (s : State) (p : Pkt) : (s.freeHead p).mem = s.mem := by
  simp only [State.freeHead]
  split <;> simp

@[simp] theorem State.moveFrame_mem (s : State) (p dest : Nat) : (s.moveFrame p dest).mem = s.mem := by
  simp only [State.moveFrame]
  split <;> simp

@[simp] theorem State.purgeRequester_mem (s : State) (r : Nat) (keep : List Nat) : (s.purgeRequester r keep).mem = s.mem := by
  simp [State.purgeRequester]

@[simp] theorem State.setPage_mem (s : State) (key : Nat) (p : Page) : (s.setPage key p).mem = s.mem := (rfl)

@[simp] theorem State.touch_mem (s : State) (key : Nat) : (s.touch key).mem = s.mem := (rfl)

@[simp] theorem State.stateFault_mem (s : State) (kind ssid off : Nat) : (s.stateFault kind ssid off).mem = s.mem := (rfl)

@[simp] theorem State.placeTables_mem (s : State) (u n : Nat) : (s.placeTables u n).mem = s.mem := (rfl)

@[simp] theorem State.moveTables_mem (s : State) (p : Nat → Bool) : (s.moveTables p).mem = s.mem := by simp [State.moveTables]

@[simp] theorem State.takeLpd_mem (s : State) : s.takeLpd.2.mem = s.mem := by simp [State.takeLpd]

@[simp] theorem State.takeHome_mem (s : State) : s.takeHome.2.mem = s.mem := by
  simp only [State.takeHome]
  repeat' split
  all_goals simp

@[simp] theorem State.takeOther_mem (s : State) (d : Option Nat) : (s.takeOther d).2.mem = s.mem := by
  obtain ⟨x, hx⟩ : ∃ x, s.takeOther d = x := ⟨_, rfl⟩
  rw [hx]
  generalize hf : State.takeOther = f at hx
  delta State.takeOther at hf
  subst hf
  beta_reduce at hx
  split at hx
  next h t ht =>
    split at hx
    · rw [mem_of_mk hx, mem_of_eq ht, State.takeLpd_mem]
    · exact mem_of_mk hx

@[simp] theorem State.rehomeHost_mem (s : State) (key : Nat) : (s.rehomeHost key).mem = s.mem := by
  obtain ⟨x, hx⟩ : ∃ x, s.rehomeHost key = x := ⟨_, rfl⟩
  rw [hx]
  generalize hf : State.rehomeHost = f at hx
  delta State.rehomeHost at hf
  subst hf
  beta_reduce at hx
  extract_lets p at hx
  clear_value p
  split at hx
  · split at hx
    · split at hx
      next h t ht =>
        have e := mem_of_eq ht
        rw [State.takeLpd_mem] at e
        split at hx <;> rw [← hx]
        · rw [State.bump_mem, State.setPage_mem, e]
        · exact e
    · rw [hx]
  · rw [hx]

@[simp] theorem State.pinDone_mem (s : State) : s.pinDone.mem = s.mem := by simp [State.pinDone]

@[simp] theorem State.reserveRange_mem (s : State) (ssid base size : Nat) : (s.reserveRange ssid base size).mem = s.mem := by
  simp [State.reserveRange]

/-! ## Who reaches a register -/

@[simp] theorem State.badMaster_mem (s : State) (mid : Nat) (read : Bool) (addr : Option Nat) :
    (s.badMaster mid read addr).mem = s.mem := by simp [State.badMaster]

@[simp] theorem State.dbgRefused_mem (s : State) : s.dbgRefused.mem = s.mem :=
  (State.raiseLimited_mem ..).trans (State.bump_mem ..)

@[simp] theorem State.closedWrite_mem (s : State) (mid : Nat) : (s.closedWrite mid).mem = s.mem := by simp [State.closedWrite]

@[simp] theorem State.closedRead_mem (s : State) (mid : Nat) : (s.closedRead mid).mem = s.mem := by simp [State.closedRead]

/-! ## Operations of the Buoy mailboxes -/

@[simp] theorem State.setGroup_mem (s : State) (g : Nat) (v : Group) : (s.setGroup g v).mem = s.mem := (rfl)

@[simp] theorem State.setSeq_mem (s : State) (q : Nat) (v : Sequencer) : (s.setSeq q v).mem = s.mem := (rfl)

@[simp] theorem State.setConn_mem (s : State) (c : Nat) (v : Conn) : (s.setConn c v).mem = s.mem := (rfl)

@[simp] theorem State.trigger_mem (s : State) (g : Nat) (t : Trigger) : (s.trigger g t).mem = s.mem := by
  simp only [State.trigger]
  split <;> simp

@[simp] theorem State.setChan_mem (s : State) (c : ChanId) (v : BuoyChan) : (s.setChan c v).mem = s.mem := by
  simp only [State.setChan]
  split <;> simp

@[simp] theorem State.buoyNotify_mem (s : State) (c : ChanId) (toA : Bool) (word : Nat) :
    (s.buoyNotify c toA word).mem = s.mem := by
  simp only [State.buoyNotify]
  split <;> simp

@[simp] theorem State.buoyDeliver_mem (s : State) (c : ChanId) (toA : Bool) (w : Nat) : (s.buoyDeliver c toA w).mem = s.mem
    := by
  simp [State.buoyDeliver]

@[simp] theorem State.buoySend_mem (s : State) (c : ChanId) (fromA : Bool) (w : Nat) : (s.buoySend c fromA w).mem = s.mem := by
  simp [State.buoySend]

@[simp] theorem State.buoyRing_mem (s : State) (c : ChanId) (toA : Bool) (bits : Nat) : (s.buoyRing c toA bits).mem = s.mem
    := by
  simp [State.buoyRing]

@[simp] theorem State.buoyForceClear_mem (s : State) (c : ChanId) : (s.buoyForceClear c).mem = s.mem := by
  simp [State.buoyForceClear]

@[simp] theorem State.buoyWithdraw_mem (s : State) (c : ChanId) (fromA : Bool) : (s.buoyWithdraw c fromA).mem = s.mem := by
  simp [State.buoyWithdraw]

@[simp] theorem State.buoyBadMaster_mem (s : State) : s.buoyBadMaster.mem = s.mem :=
  (State.raiseEs_mem ..).trans (State.bump_mem ..)

@[simp] theorem State.buoyTake_mem (s : State) (c : ChanId) (a taken : Bool) : (s.buoyTake c a taken).2.mem = s.mem := by
  simp [State.buoyTake]

@[simp] theorem State.keeperSend_mem (s : State) (i code payload : Nat) : (s.keeperSend i code payload).mem = s.mem := by
  simp [State.keeperSend]

@[simp] theorem State.keeperNext_mem (s : State) (i : Nat) : (s.keeperNext i).mem = s.mem := by
  simp only [State.keeperNext]
  split <;> simp

@[simp] theorem State.keeperRead_mem (s : State) (i : Nat) : (s.keeperRead i).mem = s.mem := by simp [State.keeperRead]

@[simp] theorem State.buoyHostReset_mem (s : State) (i : Nat) : (s.buoyHostReset i).mem = s.mem := (rfl)

/-! ## Operations of the host endpoint -/

@[simp] theorem State.issueRead_mem (s : State) (x : ReadReq) : (s.issueRead x).mem = s.mem := by
  simp only [State.issueRead]
  split <;> simp

@[simp] theorem State.hostRead_mem (s : State) (iid qgen : Nat) (u : ReadUnit) (pasid : Option Nat) (addr count : Nat) :
    (s.hostRead iid qgen u pasid addr count).mem = s.mem := by simp [State.hostRead]

@[simp] theorem State.readNow_mem (s : State) (iid : Nat) (pasid : Option Nat) (addr count : Nat) :
    (s.readNow iid pasid addr count).mem = s.mem := by
  simp only [State.readNow]
  split <;> simp

@[simp] theorem State.tagTimeout_mem (s : State) (t : Nat) (r : TagReq) : (s.tagTimeout t r).mem = s.mem := by
  simp [State.tagTimeout]

@[simp] theorem State.releaseTag_mem (s : State) (t : Nat) : (s.releaseTag t).mem = s.mem := by
  simp only [State.releaseTag]
  split <;> simp

@[simp] theorem State.readDone_mem (s : State) (u : ReadUnit) : (s.readDone u).mem = s.mem := by
  simp only [State.readDone]
  split <;> simp

@[simp] theorem State.ensureFetch_mem (s : State) (q : Nat) : (s.ensureFetch q).mem = s.mem := by simp [State.ensureFetch]

@[simp] theorem State.fetched_mem (s : State) (q : Nat) : (s.fetched q).mem = s.mem :=
  (State.ensureFetch_mem ..).trans (State.readDone_mem ..)

@[simp] theorem State.takeEntry_mem (s : State) (c : Cmd) (units : Nat) : (s.takeEntry c units).mem = s.mem := by
  simp only [State.takeEntry]
  repeat' split
  all_goals simp

@[simp] theorem State.readBlock_mem (s : State) (c : Cmd) : (s.readBlock c).mem = s.mem := by
  simp only [State.readBlock]
  split <;> simp

@[simp] theorem State.readImage_mem (s : State) (c : Cmd) (pasid : Option (Option Nat)) : (s.readImage c pasid).mem = s.mem
    := by
  simp only [State.readImage]
  split <;> simp

@[simp] theorem State.runCmd_mem {spec : CmdSpec} (h : ∀ c t, (spec.body c t).state.mem = t.mem) (s : State)
    (e : AdminEntry) : (s.runCmd spec e).mem = s.mem := by
  unfold State.runCmd
  split
  · rfl
  · split
    next idx span _ =>
      extract_lets c t u
      split
      · simp +zetaDelta
      · split
        · simp +zetaDelta
        next row _ =>
          split
          · simp +zetaDelta
          · have hu : u.mem = s.mem := by simp +zetaDelta
            have hb := h c u
            clear_value u
            split
            next hx => split <;> simp_all
            next hx => split <;> simp_all
            next hx => split <;> simp_all
            next hx => split <;> simp_all

@[simp] theorem State.winCommit_mem (s : State) (n : Nat) : (s.winCommit n).mem = s.mem := by
  simp only [State.winCommit]
  repeat' split
  all_goals simp

@[simp] theorem State.setSlot_mem (s : State) (p : Nat) (x : Slot) : (s.setSlot p x).mem = s.mem := (rfl)

@[simp] theorem State.slotLink_mem (s : State) (p : Nat) (up : Bool) : (s.slotLink p up).mem = s.mem := by simp [State.slotLink]

@[simp] theorem State.completeWork_mem (s : State) (e : WorkEntry) (writes : List (Nat × Word)) (status reason : Nat) :
    (s.completeWork e writes status reason).mem = s.mem := by simp [State.completeWork]

@[simp] theorem State.completeAt_mem (s : State) (c index : Nat) (writes : List (Nat × Word)) (status reason : Nat) :
    (s.completeAt c index writes status reason).mem = s.mem := by
  simp only [State.completeAt]
  repeat' split
  all_goals simp

/-! ## The DMA engines -/

@[simp] theorem State.setRun_mem (s : State) (n : Nat) (r : DmaRun) : (s.setRun n r).mem = s.mem := (rfl)

@[simp] theorem State.endRun_mem (s : State) (n : Nat) : (s.endRun n).mem = s.mem := (rfl)

@[simp] theorem State.dmaRaise_mem (s : State) (n : Nat) : (s.dmaRaise n).mem = s.mem := by simp [State.dmaRaise]

@[simp] theorem State.dmaAsk_mem (s : State) (n : Nat) : (s.dmaAsk n).mem = s.mem := by
  simp only [State.dmaAsk]
  split <;> simp

/-! ## Meanings of the DMA engines -/

@[simp] theorem State.dmaStart_mem (s : State) (n : Nat) : (s.dmaStart n).mem = s.mem := by
  simp only [State.dmaStart]
  repeat' split
  all_goals simp

@[simp] theorem execDmaChannelSchedule_leavesMem (engine : Fin 16) (s : State) :
    LeavesMem s (execDmaChannelSchedule engine s) := by
  simp only [execDmaChannelSchedule]
  repeat' split
  all_goals simp

/-! ## Operations on sequencer connections -/

@[simp] theorem State.completeTx_mem (s : State) (x : TxRef) (writes : List (Nat × Word)) (status reason : Nat) :
    (s.completeTx x writes status reason).mem = s.mem := by simp [State.completeTx]

@[simp] theorem State.endBuf_mem (s : State) (p : Pkt) : (s.endBuf p).mem = s.mem :=
  (State.endHold_mem ..).trans (State.freeHead_mem ..)

@[simp] theorem State.dropPkt_mem (s : State) (p : Pkt) (reason : Nat) : (s.dropPkt p reason).mem = s.mem := by
  simp only [State.dropPkt]
  split <;> simp

@[simp] theorem State.flushEntries_mem (s : State) (c status : Nat) : (s.flushEntries c status).mem = s.mem := by
  simp only [State.flushEntries]
  split <;> simp

@[simp] theorem State.nvmeFail_mem (s : State) (c : Nat) : (s.nvmeFail c).mem = s.mem := by
  simp only [State.nvmeFail]
  split <;> simp

@[simp] theorem State.transportLost_mem (s : State) (qp : Nat) : (s.transportLost qp).mem = s.mem := by
  simp only [State.transportLost]
  split <;> simp

@[simp] theorem State.qpError_mem (s : State) (c : Nat) : (s.qpError c).mem = s.mem := by
  simp only [State.qpError]
  split <;> simp

@[simp] theorem State.connFail_mem (s : State) (c : Nat) : (s.connFail c).mem = s.mem := by
  simp only [State.connFail]
  repeat' split
  all_goals simp

@[simp] theorem State.dropFrame_mem (s : State) (f : Option Pkt) : (s.dropFrame f).mem = s.mem := by
  simp only [State.dropFrame]
  split <;> simp

@[simp] theorem State.forgetConn_mem (s : State) (c : Nat) : (s.forgetConn c).mem = s.mem := by simp [State.forgetConn]

@[simp] theorem State.settleConn_mem (s : State) (c : Nat) : (s.settleConn c).mem = s.mem := by
  simp only [State.settleConn]
  repeat' split
  all_goals simp

@[simp] theorem State.closeConn_mem (s : State) (c status : Nat) : (s.closeConn c status).mem = s.mem := by
  simp only [State.closeConn]
  split <;> simp

@[simp] theorem State.connHostReset_mem (s : State) (i : Nat) : (s.connHostReset i).mem = s.mem := by
  simp only [State.connHostReset]
  refine foldl_mem (fun s e => ?_) _ _
  repeat' split
  all_goals simp

/-! ## Operations on Lantern regions -/

@[simp] theorem State.setRegion_mem (s : State) (r : Nat) (v : Region) : (s.setRegion r v).mem = s.mem := (rfl)

@[simp] theorem State.lanEnter_mem (s : State) (r st : Nat) : (s.lanEnter r st).mem = s.mem := by simp [State.lanEnter]

@[simp] theorem State.lanFinish_mem (s : State) (op r status reason : Nat) (ws : List Word) :
    (s.lanFinish op r status reason ws).mem = s.mem := by
  simp only [State.lanFinish]
  split <;> simp

@[simp] theorem State.lanLose_mem (s : State) (r : Nat) : (s.lanLose r).mem = s.mem := by simp [State.lanLose]

@[simp] theorem State.lanClear_mem (s : State) (r : Nat) : (s.lanClear r).mem = s.mem := by simp [State.lanClear]

@[simp] theorem State.lanQuiesce_mem (s : State) (r : Nat) (q : QuiesceFor) : (s.lanQuiesce r q).mem = s.mem :=
  (State.emit_mem ..).trans ((State.lanEnter_mem ..).trans (State.setRegion_mem ..))

@[simp] theorem State.lanFree_mem (s : State) (r : Nat) : (s.lanFree r).mem = s.mem := by simp [State.lanFree]

/-! ## Modes of the device, Foghorn, the fault log and the leaky-bucket counters -/

@[simp] theorem State.showRetired_mem (s : State) : s.showRetired.mem = s.mem := by
  rw [State.showRetired, State.setReg_mem]
  exact (foldl_mem (fun _ _ => State.setReg_mem ..) _ _).trans (by simp only [State.setReg_mem, State.setF_mem])

@[simp] theorem State.setMode_mem (s : State) (mode cause : Nat) : (s.setMode mode cause).mem = s.mem := by simp [State.setMode]

@[simp] theorem State.fogMessages_mem (s : State) : s.fogMessages.mem = s.mem := by simp [State.fogMessages]

@[simp] theorem State.foghorn_mem (s : State) (cause : Nat) : (s.foghorn cause).mem = s.mem := by simp [State.foghorn]

@[simp] theorem State.fogClear_mem (s : State) (mask : Nat) : (s.fogClear mask).mem = s.mem := (rfl)

@[simp] theorem State.logResume_mem (s : State) : s.logResume.mem = s.mem := by simp [State.logResume]

@[simp] theorem State.setCounter_mem (s : State) (r v : Nat) : (s.setCounter r v).mem = s.mem := (rfl)

@[simp] theorem State.queueRetire_mem (s : State) (r : Nat) : (s.queueRetire r).mem = s.mem := by simp [State.queueRetire]

/-! ## The two Keeper pairs -/

@[simp] theorem State.setPair_mem (s : State) (p : Nat) (x : PairPhase) : (s.setPair p x).mem = s.mem := by simp [State.setPair]

@[simp] theorem State.rebootPair_mem (s : State) (p : Nat) : (s.rebootPair p).mem = s.mem := State.setPair_mem ..

@[simp] theorem State.showRunning_mem (s : State) : s.showRunning.mem = s.mem := (rfl)

@[simp] theorem State.answerFaulted_mem (s : State) : s.answerFaulted.mem = s.mem := by simp [State.answerFaulted]

@[simp] theorem State.takeOver_mem (s : State) : s.takeOver.mem = s.mem := by simp [State.takeOver]

@[simp] theorem State.handOver_mem (s : State) : s.handOver.mem = s.mem := by simp [State.handOver]

@[simp] theorem State.endActivation_mem (s : State) (status reason : Nat) (ws : List Word) :
    (s.endActivation status reason ws).mem = s.mem := by simp [State.endActivation]

@[simp] theorem State.freeze_mem (s : State) : s.freeze.mem = s.mem := by simp [State.freeze]

@[simp] theorem State.pairsUp_mem (s : State) : s.pairsUp.mem = s.mem := by simp [State.pairsUp]

@[simp] theorem State.fatalStandby_mem (s : State) (p : Nat) : (s.fatalStandby p).mem = s.mem := by simp [State.fatalStandby]

/-! ## Operations on instances -/

@[simp] theorem State.startAdmin_mem (s : State) (i : Nat) : (s.startAdmin i).mem = s.mem := (rfl)

@[simp] theorem State.dropWaiting_mem (s : State) (i : Nat) : (s.dropWaiting i).mem = s.mem := by simp [State.dropWaiting]

@[simp] theorem State.dropSubs_mem (s : State) (p : Telemetry → Bool) : (s.dropSubs p).mem = s.mem := by simp [State.dropSubs]

@[simp] theorem State.bindInst_mem (s : State) (i : Nat) : (s.bindInst i).mem = s.mem := by simp [State.bindInst]

@[simp] theorem State.bindAll_mem (s : State) : s.bindAll.mem = s.mem := by simp [State.bindAll]

@[simp] theorem State.hostResetEnd_mem (s : State) (i : Nat) : (s.hostResetEnd i).mem = s.mem := by
  unfold State.hostResetEnd
  extract_lets +onlyGivenNames fn t v
  have ht : t.mem = s.mem := ite_mem (State.setFn_mem ..) rfl
  refine ite_mem ht ?_
  extract_lets +onlyGivenNames u
  have hu : u.mem = s.mem := by
    refine ite_mem ?_ ((State.setInst_mem ..).trans ht)
    rw [State.keeperSend_mem, State.startAdmin_mem, State.setInst_mem, ht]
  split
  · exact (State.finish_mem ..).trans hu
  · exact hu

/-! ## The parser -/

@[simp] theorem State.swapBank_mem (s : State) (b : PrsBank) : (s.swapBank b).mem = s.mem := (rfl)

@[simp] theorem State.setClsInst_mem (s : State) (i : Nat) (c : ClsInst) : (s.setClsInst i c).mem = s.mem := (rfl)

/-! ## The table engines -/

@[simp] theorem State.setTable_mem (s : State) (t : Nat) (v : EmTable) : (s.setTable t v).mem = s.mem := (rfl)

@[simp] theorem State.freeTable_mem (s : State) (t : Nat) : (s.freeTable t).mem = s.mem := (rfl)

@[simp] theorem State.loadWarn_mem (s : State) (t : Nat) (before : EmTable) : (s.loadWarn t before).mem = s.mem := by
  simp [State.loadWarn]

@[simp] theorem State.setVrf_mem (s : State) (v : Nat) (x : Vrf) : (s.setVrf v x).mem = s.mem := (rfl)

@[simp] theorem State.addPrefix_mem (s : State) (p : Prefix) : (s.addPrefix p).mem = s.mem := (rfl)

@[simp] theorem State.postLearn_mem (s : State) (t : Nat) (body : List Word) : (s.postLearn t body).mem = s.mem := by
  simp only [State.postLearn]
  split <;> simp

@[simp] theorem State.learnToken_mem (s : State) (t : Nat) : (s.learnToken t).2.mem = s.mem := by simp [State.learnToken]

@[simp] theorem State.learn_mem (s : State) (t : Nat) (body : List Word) (digest : Nat) :
    (s.learn t body digest).mem = s.mem := by
  simp [State.learn]

/-! ## Switching -/

@[simp] theorem State.edited_mem (s : State) (p : Pkt) : (s.edited p).2.mem = s.mem := by
  simp only [State.edited]
  split <;> simp

@[simp] theorem State.setPolicer_mem (s : State) (k : Nat) (v : Policer) : (s.setPolicer k v).mem = s.mem := (rfl)

@[simp] theorem State.uncommit_mem (s : State) (c : Commit) : (s.uncommit c).mem = s.mem := by
  simp only [State.uncommit]
  repeat' split
  all_goals simp

/-! ## Fresnel -/

@[simp] theorem State.setNode_mem (s : State) (n : Nat) (v : Node) : (s.setNode n v).mem = s.mem := (rfl)

@[simp] theorem State.leafFor_mem (s : State) (p : Pkt) (port leaf : Nat) : (s.leafFor p port leaf).2.mem = s.mem := by
  unfold State.leafFor
  extract_lets +onlyGivenNames queue inst named
  have hm : (s.bump R.FRS_LEAF_MISMATCH).mem = s.mem := State.bump_mem ..
  refine snd_mem_of_ite rfl ?_
  split
  · exact snd_mem_of_ite rfl hm
  · exact hm

@[simp] theorem State.leafStat_mem (s : State) (leaf : Nat) (f : LeafStat → LeafStat) : (s.leafStat leaf f).mem = s.mem := (rfl)

@[simp] theorem State.enterLeaf_mem (s : State) (p : Pkt) (port leaf : Nat) : (s.enterLeaf p port leaf).mem = s.mem := by
  simp only [State.enterLeaf]
  repeat' split
  all_goals simp

@[simp] theorem State.setGates_mem (s : State) (p : Nat) (g : Gates) : (s.setGates p g).mem = s.mem := (rfl)

@[simp] theorem State.dropOversizeGates_mem (s : State) (port : Nat) : (s.dropOversizeGates port).mem = s.mem := by
  unfold State.dropOversizeGates
  refine ite_mem rfl ?_
  extract_lets +onlyGivenNames g
  refine foldl_mem (fun s e => ?_) _ _
  split
  · rfl
  · extract_lets +onlyGivenNames e above
    refine ite_mem rfl ?_
    extract_lets +onlyGivenNames node t frs u
    have ht : t.mem = s.mem := State.setNode_mem ..
    have hu : u.mem = s.mem := ht
    rw [State.dropPkt_mem, State.raiseLimited_mem, State.leafStat_mem, State.bump_mem, hu]

@[simp] theorem State.countHolds_mem (s : State) (port : Nat) : (s.countHolds port).mem = s.mem := by
  simp only [State.countHolds]
  split
  · rfl
  · refine foldl_mem (fun s e => ?_) _ _
    split <;> simp

@[simp] theorem State.choose_mem (s : State) (root : Nat) : (s.choose root).2.mem = s.mem := by
  simp only [State.choose]
  repeat' split
  all_goals simp

@[simp] theorem State.sideRecord_mem (s : State) (t source : Nat) (tx : Bool) (delay : Int) :
    (s.sideRecord t source tx delay).2.mem = s.mem := (rfl)

@[simp] theorem State.oneStep_mem (s : State) (p : Nat) (d : List Byte) (t : Nat) : (s.oneStep p d t).2.mem = s.mem := by
  simp only [State.oneStep]
  split <;> simp

@[simp] theorem State.countFrame_mem (s : State) (p base : Nat) (line : List Byte) : (s.countFrame p base line).mem = s.mem
    := by
  simp [State.countFrame]

@[simp] theorem State.startLine_mem (s : State) (port : Nat) (p : Pkt) : (s.startLine port p).mem = s.mem := by
  unfold State.startLine
  refine ite_mem ?_ ?_
  · extract_lets +onlyGivenNames t
    have ht : (t.endBuf p).mem = s.mem := (State.endBuf_mem ..).trans (State.stat_mem ..)
    split
    · exact (State.completeTx_mem ..).trans ht
    · exact ht
  · split
    split
    next bytes t ht =>
      have htp : t.mem = s.mem := by rw [mem_of_eq ht, State.oneStep_mem]
      clear ht
      extract_lets +onlyGivenNames line n ptp ask
      split
      next side u hu =>
        have hup : u.mem = s.mem := by rw [mem_of_eq hu, snd_mem_ite, State.sideRecord_mem, htp, ite_self]
        clear hu
        extract_lets +onlyGivenNames pipe v
        have hv : v.mem = s.mem := by
          unfold v
          split
          · exact (State.emit_mem ..).trans ((State.countFrame_mem ..).trans (ite_mem hup ((State.stat_mem ..).trans hup)))
          · exact hup
        clear_value v
        extract_lets +onlyGivenNames x
        have hx : x.mem = s.mem := (State.endBuf_mem ..).trans hv
        split
        · exact (State.completeTx_mem ..).trans hx
        · exact hx

@[simp] theorem State.settleOpenings_mem (s : State) (p : Nat) : (s.settleOpenings p).mem = s.mem := (rfl)

@[simp] theorem State.dropGateClaim_mem (s : State) (p : Nat) : (s.dropGateClaim p).mem = s.mem := by
  simp only [State.dropGateClaim]
  split <;> simp

@[simp] theorem State.gclSwitch_mem (s : State) (p : Nat) : (s.gclSwitch p).mem = s.mem := by
  simp only [State.gclSwitch]
  repeat' split
  all_goals simp

@[simp] theorem State.gclResync_mem (s : State) : s.gclResync.mem = s.mem := by simp [State.gclResync]

@[simp] theorem State.setTime_mem (s : State) (t : Nat) : (s.setTime t).mem = s.mem := by simp [State.setTime]

@[simp] theorem State.stepped_mem (s : State) (off : Int) : (s.stepped off).2.mem = s.mem := by simp [State.stepped]

/-! ## Fills and parking of the State Pager -/

@[simp] theorem State.startFill_mem (s : State) (key : Nat) : (s.startFill key).mem = s.mem := by
  simp only [State.startFill]
  repeat' split
  all_goals simp

@[simp] theorem State.startWaiting_mem (s : State) : s.startWaiting.mem = s.mem := by simp [State.startWaiting]

@[simp] theorem State.park_mem (s : State) (p : Pkt) (ssid page : Nat) (r : Resume) : (s.park p ssid page r).mem = s.mem := by
  simp [State.park]

@[simp] theorem State.unpark_mem (s : State) (key : Nat) : (s.unpark key).2.mem = s.mem := (rfl)

/-! ## Frames that leave the action stage -/

@[simp] theorem State.rxImage_mem (s : State) (p : Pkt) (ok : Bool) : (s.rxImage p ok).2.mem = s.mem := by simp [State.rxImage]

@[simp] theorem State.rxFill_mem (s : State) (q : Nat) (m : RxMeta) (l : List Byte) (l' : List RxBuf) :
    (s.rxFill q m l l').mem = s.mem := by
  induction l' generalizing s l with
  | nil => rfl
  | cons b l' ih => simp [State.rxFill, ih]

@[simp] theorem State.rxDrop_mem (s : State) (q : Nat) (f : RxFrame) : (s.rxDrop q f).mem = s.mem := by simp [State.rxDrop]

@[simp] theorem State.rxDrain_mem (s : State) (q fuel : Nat) : (s.rxDrain q fuel).mem = s.mem := by
  induction fuel generalizing s with
  | zero => rfl
  | succ fuel ih =>
    simp only [State.rxDrain]
    repeat' split
    all_goals simp [ih]

@[simp] theorem State.rxQueue_mem (s : State) (q : Nat) (f : RxFrame) : (s.rxQueue q f).mem = s.mem := by
  unfold State.rxQueue
  split <;> simp

@[simp] theorem State.stage4_mem (s : State) (p : Pkt) (tpid : Nat) : (s.stage4 p tpid).2.mem = s.mem := by
  simp only [State.stage4]
  split <;> simp

@[simp] theorem State.cloveOffer_mem (s : State) (f : CloveFrame) : (s.cloveOffer f).mem = s.mem := by
  simp only [State.cloveOffer]
  split <;> simp

@[simp] theorem State.seqOffer_mem (s : State) (p : Pkt) (g named : Nat) : (s.seqOffer p g named).mem = s.mem := by
  simp only [State.seqOffer]
  repeat' split
  all_goals simp

@[simp] theorem State.safQueue_mem (s : State) (assoc : Nat) (r : SafReq) : (s.safQueue assoc r).mem = s.mem := (rfl)

@[simp] theorem State.safOffer_mem (s : State) (p : Pkt) (assoc : Nat) (encrypt reparse : Bool) :
    (s.safOffer p assoc encrypt reparse).mem = s.mem := (rfl)

@[simp] theorem State.tapOffer_mem (s : State) (p : Pkt) (r tap : Nat) : (s.tapOffer p r tap).2.mem = s.mem := by
  unfold State.tapOffer
  extract_lets +onlyGivenNames v t by_ full declared
  have hb : (s.bump (R.LAN_BYPASS r)).mem = s.mem := State.bump_mem ..
  refine snd_mem_of_ite hb ?_
  split
  next ok u hu =>
    have hup : u.mem = s.mem := by rw [mem_of_eq hu, State.transferBuf_mem]
    refine snd_mem_of_ite hb ?_
    split
    next x w hw =>
      have hwp : w.mem = s.mem := by rw [mem_of_eq hw, State.draw_mem, hup]
      split
      next => exact (State.bump_mem ..).trans hwp
      next =>
        extract_lets +onlyGivenNames q i late y
        have hy : y.mem = s.mem := hwp
        exact hy

/-! ## The pipelines -/

@[simp] theorem State.pageLost_mem (s : State) (ssid k : Nat) (p : Pkt) : (s.pageLost ssid k p).mem = s.mem :=
  (State.dropPkt_mem ..).trans (State.stateFault_mem ..)

@[simp] theorem State.usePage_mem (s : State) (ssid k : Nat) : (s.usePage ssid k).mem = s.mem := by simp [State.usePage]

@[simp] theorem State.stage7_mem (s : State) (p : Pkt) (r : Resume) : (s.stage7 p r).state.mem = s.mem := by
  simp only [State.stage7]
  repeat' split
  all_goals simp

@[simp] theorem State.allocAny_mem (s : State) (r len : Nat) : (s.allocAny r len).2.mem = s.mem := by
  simp only [State.allocAny]
  split <;> simp

@[simp] theorem State.allocLine_mem (s : State) (port prio len : Nat) : (s.allocLine port prio len).2.mem = s.mem := by
  simp only [State.allocLine]
  split <;> simp

/-! ## The Spar fabric -/

@[simp] theorem State.setSport_mem (s : State) (p : Nat) (v : SparPort) : (s.setSport p v).mem = s.mem := (rfl)

@[simp] theorem State.putFlit_mem (s : State) (p : Nat) (f : SparFlit) (seq creditVc credits : Nat) :
    (s.putFlit p f seq creditVc credits).mem = s.mem := (rfl)

@[simp] theorem State.sparAck_mem (s : State) (p vc credits : Nat) : (s.sparAck p vc credits).mem = s.mem := (rfl)

@[simp] theorem State.sparPump_mem (s : State) (p fuel : Nat) : (s.sparPump p fuel).mem = s.mem := by
  induction fuel generalizing s with
  | zero => rfl
  | succ fuel ih =>
    simp only [State.sparPump]
    repeat' split
    all_goals simp [ih]

@[simp] theorem State.sparLose_mem (s : State) (fs : List SparFlit) : (s.sparLose fs).mem = s.mem := by
  simp only [State.sparLose]
  refine foldl_mem (fun s e => ?_) _ _
  repeat' split
  all_goals simp

@[simp] theorem State.sparQueue_mem (s : State) (p : Nat) (fs : List SparFlit) : (s.sparQueue p fs).mem = s.mem := by
  simp [State.sparQueue]

@[simp] theorem State.sparAcked_mem (s : State) (p ack : Nat) : (s.sparAcked p ack).mem = s.mem := by
  simp only [State.sparAcked]
  split
  · rfl
  · refine (foldl_mem (fun s f => ?_) _ _).trans (by simp)
    split <;> simp

@[simp] theorem State.sparDown_mem (s : State) (p : Nat) : (s.sparDown p).mem = s.mem := by simp [State.sparDown]

@[simp] theorem State.sparRoute_mem (s : State) (epoch dst flow : Nat) : (s.sparRoute epoch dst flow).2.mem = s.mem := by
  simp only [State.sparRoute]
  repeat' split
  all_goals simp

@[simp] theorem State.sparLaunch_mem (s : State) (p : SparPkt) : (s.sparLaunch p).2.mem = s.mem := by simp [State.sparLaunch]

@[simp] theorem State.sparSend_mem (s : State) (p : SparPkt) : (s.sparSend p).2.mem = s.mem := by
  simp only [State.sparSend]
  split <;> simp

@[simp] theorem State.settleUpstream_mem (s : State) : s.settleUpstream.mem = s.mem := by simp [State.settleUpstream]

@[simp] theorem State.sparCorrect_mem (s : State) (off : Int) : (s.sparCorrect off).mem = s.mem := by simp [State.sparCorrect]

@[simp] theorem State.sendBeacon_mem (s : State) (p : Nat) : (s.sendBeacon p).mem = s.mem := by simp [State.sendBeacon]

@[simp] theorem State.takeBeacon_mem (s : State) (p : Nat) (b : Beacon) : (s.takeBeacon p b).mem = s.mem := by
  simp [State.takeBeacon]

@[simp] theorem State.setSchan_mem (s : State) (c : Nat) (v : SparChan) : (s.setSchan c v).mem = s.mem := (rfl)

@[simp] theorem State.settleGrants_mem (s : State) : s.settleGrants.mem = s.mem := by simp [State.settleGrants]

@[simp] theorem State.settleLeave_mem (s : State) : s.settleLeave.mem = s.mem := by simp [State.settleLeave]

@[simp] theorem State.sparComplete_mem (s : State) (c w status kind : Nat) : (s.sparComplete c w status kind).mem = s.mem := by
  simp only [State.sparComplete]
  split <;> simp

@[simp] theorem State.sparAsk_mem (s : State) (c w : Nat) (p : SparPkt) : (s.sparAsk c w p).mem = s.mem := by
  simp [State.sparAsk]

@[simp] theorem State.sparHold_mem (s : State) (h : SparHeld) : (s.sparHold h).mem = s.mem := (rfl)

@[simp] theorem State.sparMail_mem (s : State) (c mid w : Nat) : (s.sparMail c mid w).mem = s.mem := by simp [State.sparMail]

@[simp] theorem State.mailWithdraw_mem (s : State) (c : ChanId) (fromA : Bool) : (s.mailWithdraw c fromA).mem = s.mem := by
  simp only [State.mailWithdraw]
  split <;> simp

@[simp] theorem State.mailForceClear_mem (s : State) (c : ChanId) : (s.mailForceClear c).mem = s.mem := by
  simp only [State.mailForceClear]
  split <;> simp

@[simp] theorem State.sparReply_mem (s : State) (p : SparPkt) (w status kind : Nat) (data : List Byte) :
    (s.sparReply p w status kind data).mem = s.mem := by simp [State.sparReply]

@[simp] theorem State.takeTime_mem (s : State) (port : Nat) (p : SparPkt) : (s.takeTime port p).mem = s.mem := by
  simp [State.takeTime]

@[simp] theorem State.sparPath_mem (s : State) (port : Nat) (h : SparPkt) : (s.sparPath port h).2.mem = s.mem := by
  simp only [State.sparPath]
  repeat' split
  all_goals simp

@[simp] theorem State.sparNak_mem (s : State) (p : Nat) : (s.sparNak p).mem = s.mem := by simp [State.sparNak]

@[simp] theorem State.sparLink_mem (s : State) (p : Nat) (up : Bool) : (s.sparLink p up).mem = s.mem := by simp [State.sparLink]

@[simp] theorem State.sparRelane_mem (s : State) (p : Nat) : (s.sparRelane p).mem = s.mem := by simp [State.sparRelane]

/-! ## Meanings of the event controller, host vectors and Buoy mailboxes -/

@[simp] theorem execEventSourceEdge_leavesMem (source : BitVec 9) (s : State) :
    LeavesMem s (execEventSourceEdge source s) := by simp [execEventSourceEdge]

@[simp] theorem State.srcEnable_mem (s : State) (n : Nat) (on : Bool) : (s.srcEnable n on).mem = s.mem := by
  simp only [State.srcEnable]
  repeat' split
  all_goals simp

@[simp] theorem State.clearPending_mem (s : State) (k bits : Nat) : (s.clearPending k bits).mem = s.mem := by
  simp [State.clearPending]

@[simp] theorem State.claim_mem (s : State) (t : Nat) : (s.claim t).2.mem = s.mem := by
  simp only [State.claim]
  split <;> simp

@[simp] theorem State.claimRead_mem (s : State) (mid t : Nat) : (s.claimRead mid t).2.mem = s.mem := by simp [State.claimRead]

@[simp] theorem execTargetIdle_leavesMem (t : Fin 4) (idle : Bool) (s : State) :
    LeavesMem s (execTargetIdle t idle s) := by simp [execTargetIdle]

@[simp] theorem execModerationHoldExpiry_leavesMem (t : Fin 32) (s : State) :
    LeavesMem s (execModerationHoldExpiry t s) := by simp [execModerationHoldExpiry]

@[simp] theorem execVectorModerationExpiry_leavesMem (iid : Fin 2048) (v : BitVec 11) (s : State) :
    LeavesMem s (execVectorModerationExpiry iid v s) := by simp [execVectorModerationExpiry]

@[simp] theorem State.hint_mem (s : State) (i v : Nat) (idle : Bool) : (s.hint i v idle).mem = s.mem := by simp [State.hint]

@[simp] theorem execIdleHintWrite_leavesMem (iid : Fin 2048) (v : BitVec 11) (idle : Bool) (s : State) :
    LeavesMem s (execIdleHintWrite iid v idle s) := by simp [execIdleHintWrite]

@[simp] theorem State.msixUnmask_mem (s : State) (i v : Nat) : (s.msixUnmask i v).mem = s.mem := by simp [State.msixUnmask]

@[simp] theorem execMsixUnmask_leavesMem (iid : Fin 2048) (v : BitVec 11) (s : State) :
    LeavesMem s (execMsixUnmask iid v s) := by simp [execMsixUnmask]

@[simp] theorem State.atChan_mem {s : State} {body : Bool → State → State} (mid : Nat) (c : ChanId)
    (h : ∀ a, (body a s).mem = s.mem) : (s.atChan mid c body).mem = s.mem := by
  unfold State.atChan
  split
  · rfl
  · split <;> simp [h]

@[simp] theorem execBuoyWithdraw_leavesMem (mid : BitVec 13) (internal : Bool) (n : BitVec 11) (s : State) :
    LeavesMem s (execBuoyWithdraw mid internal n s) := by simp [execBuoyWithdraw]

@[simp] theorem State.buoyDbClear_mem (s : State) (c : ChanId) (a : Bool) (bits : Nat) :
    (s.buoyDbClear c a bits).mem = s.mem := by
  simp [State.buoyDbClear]

@[simp] theorem execBuoyDbRecvClear_leavesMem (mid : BitVec 13) (internal : Bool) (n : BitVec 11) (bits : Word) (s : State) :
    LeavesMem s (execBuoyDbRecvClear mid internal n bits s) := by simp [execBuoyDbRecvClear]

@[simp] theorem State.buoyVector_mem (s : State) (i vector : Nat) (on : Bool) : (s.buoyVector i vector on).mem = s.mem := by
  simp [State.buoyVector]

@[simp] theorem execBuoyVectorEnable_leavesMem (iid : Fin 2048) (vector : BitVec 16) (on : Bool) (s : State) :
    LeavesMem s (execBuoyVectorEnable iid vector on s) := by simp [execBuoyVectorEnable]

/-! ## DMA channels and Buoy channels as a master inside the device reaches them -/

@[simp] theorem State.plainWrite_mem (s : State) (a v : Nat) (locked : Bool) : (s.plainWrite a v locked).mem = s.mem := by
  simp only [State.plainWrite]
  split <;> simp

/-! ## Verification of signed images -/

@[simp] theorem withImage_mem {s : State} {body : Unit → Res} (f : Option (Nat × Nat × List Word))
    (h : (body ()).state.mem = s.mem) : (withImage s f body).state.mem = s.mem := by
  unfold withImage
  split
  · rfl
  · exact h

/-! ## Operations of the Clove packet engines -/

@[simp] theorem State.sliceWrite_mem (s : State) (k n a : Nat) (bs : List Byte) : (s.sliceWrite k n a bs).mem = s.mem := (rfl)

@[simp] theorem State.zeroSlice_mem (s : State) (k n : Nat) : (s.zeroSlice k n).mem = s.mem := (rfl)

@[simp] theorem State.setDesc_mem (s : State) (k n i v : Nat) : (s.setDesc k n i v).mem = s.mem := (rfl)

@[simp] theorem State.traceExcess_mem (s : State) (owner : Nat) : (s.traceExcess owner).2.mem = s.mem := by
  simp [State.traceExcess]

@[simp] theorem State.clvTrace_mem (s : State) (k n pc : Nat) (dispatch : Bool) : (s.clvTrace k n pc dispatch).mem = s.mem := by
  simp [State.clvTrace]

@[simp] theorem State.clvNotify_mem (s : State) (k n cause detail addr : Nat) :
    (s.clvNotify k n cause detail addr).mem = s.mem := by simp [State.clvNotify]

@[simp] theorem State.clvStop_mem (s : State) (k n cause detail addr : Nat) : (s.clvStop k n cause detail addr).mem = s.mem
    := by
  simp [State.clvStop]

@[simp] theorem State.clvFault_mem (s : State) (k n code kind addr : Nat) : (s.clvFault k n code kind addr).mem = s.mem :=
  (State.clvStop_mem ..).trans (State.bump_mem ..)

@[simp] theorem State.setMsg_mem (s : State) (k m : Nat) (v : MsgReg) : (s.setMsg k m v).mem = s.mem := (rfl)

@[simp] theorem State.releaseMsg_mem (s : State) (k m : Nat) (poison : Bool) : (s.releaseMsg k m poison).mem = s.mem := by
  simp [State.releaseMsg]

@[simp] theorem State.forceRelease_mem (s : State) (k m : Nat) : (s.forceRelease k m).2.mem = s.mem := by
  simp [State.forceRelease]

@[simp] theorem State.releaseLocks_mem (s : State) (k n : Nat) : (s.releaseLocks k n).mem = s.mem := by
  simp [State.releaseLocks]

@[simp] theorem State.dropSlot_mem (s : State) (k : Nat) : (s.dropSlot k).mem = s.mem := (rfl)

@[simp] theorem State.giveUpBufs_mem (s : State) (k n : Nat) : (s.giveUpBufs k n).mem = s.mem := by
  simp only [State.giveUpBufs]
  refine foldl_mem (fun s e => ?_) _ _
  repeat' split
  all_goals simp

@[simp] theorem State.freeThread_mem (s : State) (k n : Nat) : (s.freeThread k n).mem = s.mem := (rfl)

@[simp] theorem State.startSup_mem (s : State) (k bank : Nat) : (s.startSup k bank).mem = s.mem := by simp [State.startSup]

@[simp] theorem State.restartSup_mem (s : State) (k : Nat) : (s.restartSup k).mem = s.mem := by simp [State.restartSup]

@[simp] theorem State.settleWaits_mem (s : State) (k : Nat) : (s.settleWaits k).mem = s.mem := by simp [State.settleWaits]

@[simp] theorem State.dropClvClaim_mem (s : State) (k feature : Nat) : (s.dropClvClaim k feature).mem = s.mem := by
  simp only [State.dropClvClaim]
  split <;> simp

@[simp] theorem State.settleUnload_mem (s : State) (k : Nat) : (s.settleUnload k).mem = s.mem := by
  simp only [State.settleUnload]
  repeat' split
  all_goals simp

@[simp] theorem State.clvSettle_mem (s : State) (k : Nat) : (s.clvSettle k).mem = s.mem :=
  (State.settleUnload_mem ..).trans (State.settleWaits_mem ..)

@[simp] theorem State.takeSlot_mem (s : State) (f : CloveFrame) : (s.takeSlot f).2.mem = s.mem := by simp [State.takeSlot]

@[simp] theorem State.toCluster_mem (s : State) (k ptr : Nat) : (s.toCluster k ptr).2.mem = s.mem := by
  simp only [State.toCluster]
  repeat' split
  all_goals simp

@[simp] theorem State.cloveDispatch_mem (s : State) (k : Nat) : (s.cloveDispatch k).mem = s.mem := by
  simp only [State.cloveDispatch]
  split <;> simp

@[simp] theorem State.dropOwn_mem (s : State) (k n : Nat) : (s.dropOwn k n).mem = s.mem := by
  simp only [State.dropOwn]
  split <;> simp

/-! ## What a read of the LPDDR5X does when its check code fails -/

@[simp] theorem State.loseRoutine_mem (s : State) (hit : Pkt → Bool) : (s.loseRoutine hit).mem = s.mem := by
  simp [State.loseRoutine]

@[simp] theorem State.loseHandOff_mem (s : State) (hit : Pkt → Bool) : (s.loseHandOff hit).mem = s.mem := by
  simp only [State.loseHandOff]
  refine (foldl_mem (fun s e => ?_) _ _).trans ?_
  · simp
  · refine foldl_mem (fun s w => ?_) _ _
    split <;> simp

@[simp] theorem State.startMove_mem (s : State) : s.startMove.mem = s.mem := by
  simp only [State.startMove]
  repeat' split
  all_goals simp

theorem State.reserveMoves_mem {pick : State → Option Home × State} (h : ∀ s a t, pick s = (a, t) → t.mem = s.mem)
    (s : State) (keys : List Nat) : (s.reserveMoves pick keys).2.mem = s.mem := by
  unfold State.reserveMoves
  refine foldl_snd_mem (fun x k => ?_) _ _
  split
  extract_lets p
  split
  · rfl
  · split
    next h' t ht =>
      split
      · exact h _ _ _ ht
      · simp [h _ _ _ ht]

@[simp] theorem State.reserveMoves_takeHome_mem (s : State) (keys : List Nat) :
    (s.reserveMoves State.takeHome keys).2.mem = s.mem :=
  State.reserveMoves_mem (fun s a t h => by rw [mem_of_eq h, State.takeHome_mem]) s keys

@[simp] theorem State.cancelMoves_mem (s : State) (keys : List Nat) : (s.cancelMoves keys).mem = s.mem := by
  simp [State.cancelMoves]

@[simp] theorem State.dropDonation_mem (s : State) (d : Nat) : (s.dropDonation d).mem = s.mem := (rfl)

@[simp] theorem State.revokeDone_mem (s : State) (d : Nat) : (s.revokeDone d).mem = s.mem := by
  simp only [State.revokeDone]
  repeat' split
  all_goals simp

@[simp] theorem State.askDiscard_mem (s : State) (k : Nat) : (s.askDiscard k).mem = s.mem := (rfl)

/-! ## Operations of the ring engines on fetched entries -/

@[simp] theorem State.endEntry_mem (s : State) (q units : Nat) (words : List Word) (status reason : Nat) :
    (s.endEntry q units words status reason).mem = s.mem := by simp [State.endEntry]

@[simp] theorem State.readEntry_mem {s : State} {body : Nat → State} (q type : Nat) (words : List Word) (mine : Nat → Bool)
    (need : Nat) (h : ∀ n, (body n).mem = s.mem) : (s.readEntry q type words mine need body).mem = s.mem := by
  simp [State.readEntry, h]

@[simp] theorem State.unbindQueue_mem (s : State) (q : Nat) : (s.unbindQueue q).mem = s.mem := by simp [State.unbindQueue]

@[simp] theorem State.freeQueue_mem (s : State) (q : Nat) (bump : Bool) : (s.freeQueue q bump).mem = s.mem := by
  simp [State.freeQueue]

@[simp] theorem State.abortEntries_mem (s : State) (q : Nat) : (s.abortEntries q).mem = s.mem := by simp [State.abortEntries]

@[simp] theorem State.abortBuffers_mem (s : State) (q : Nat) : (s.abortBuffers q).mem = s.mem := by simp [State.abortBuffers]

@[simp] theorem State.resumeServing_mem (s : State) (i : Nat) : (s.resumeServing i).mem = s.mem := by simp [State.resumeServing]

@[simp] theorem wrongStateAnswer_mem (s : State) (i : Nat) : (wrongStateAnswer s i).state.mem = s.mem := (rfl)

/-! ## How a Clove thread executes one instruction -/

@[simp] theorem State.clvEnd_mem (s : State) (k n len : Nat) (e : ClvEnd) : (s.clvEnd k n len e).mem = e.state.mem
    := by cases e <;> simp [State.clvEnd]

@[simp] theorem State.clvRun_mem {s : State} {body : State → Nat → ClvEnd} (k n : Nat) (op : ClvOp)
    (h : ∀ w, (body s w).state.mem = s.mem) : (s.clvRun k n op body).mem = s.mem := by
  unfold State.clvRun
  split
  · rfl
  · split <;> simp [h]

@[simp] theorem State.setLength_mem (s : State) (k n len : Nat) : (s.setLength k n len).mem = s.mem := (rfl)

theorem State.csrWrite_mem {s t : State} {k n a v : Nat} (h : s.csrWrite k n a v = some t) : t.mem = s.mem := by
  revert h
  unfold State.csrWrite
  split <;> rintro ⟨⟩ <;> exact State.setTh_mem ..

@[simp] theorem State.csrOp_mem (s : State) (k n w : Nat) : (s.csrOp k n w).state.mem = s.mem := by
  unfold State.csrOp
  extract_lets +onlyGivenNames f3 r1 src a
  split
  · rfl
  · split
    · rfl
    · extract_lets +onlyGivenNames new
      clear_value new
      split
      next h => exact State.csrWrite_mem h
      next => rfl

/-! ## Meanings of the Clove packet engines -/

@[simp] theorem execCloveDispatch_leavesMem (cluster : Fin 16) (s : State) :
    LeavesMem s (execCloveDispatch cluster s) :=
  (State.clvSettle_mem ..).trans (State.cloveDispatch_mem ..)

@[simp] theorem pktLwbe_mem (k n : Nat) (s : State) (w : Nat) : (pktLwbe k n s w).state.mem = s.mem := by
  simp only [pktLwbe]
  split <;> simp

@[simp] theorem execPktLwbe_leavesMem (cluster : Fin 16) (thread : BitVec 7) (s : State) :
    LeavesMem s (execPktLwbe cluster thread s) :=
  State.clvRun_mem _ _ _ (pktLwbe_mem _ _ s)

@[simp] theorem pktNew_mem (k n : Nat) (s : State) (w : Nat) : (pktNew k n s w).state.mem = s.mem := by simp [pktNew]

@[simp] theorem execPktNew_leavesMem (cluster : Fin 16) (thread : BitVec 7) (s : State) :
    LeavesMem s (execPktNew cluster thread s) :=
  State.clvRun_mem _ _ _ (pktNew_mem _ _ s)

@[simp] theorem pgrPage_mem (k n : Nat) (s : State) (w : Nat) : (pgrPage k n s w).state.mem = s.mem := (rfl)

@[simp] theorem execPgrPage_leavesMem (cluster : Fin 16) (thread : BitVec 7) (s : State) :
    LeavesMem s (execPgrPage cluster thread s) :=
  State.clvRun_mem _ _ _ (pgrPage_mem _ _ s)

@[simp] theorem pgrPref_mem (k n : Nat) (s : State) (w : Nat) : (pgrPref k n s w).state.mem = s.mem := by simp [pgrPref]

@[simp] theorem execPgrPref_leavesMem (cluster : Fin 16) (thread : BitVec 7) (s : State) :
    LeavesMem s (execPgrPref cluster thread s) :=
  State.clvRun_mem _ _ _ (pgrPref_mem _ _ s)

@[simp] theorem msgLock_mem (k n : Nat) (s : State) (w : Nat) : (msgLock k n s w).state.mem = s.mem := by simp [msgLock]

@[simp] theorem execMsgLock_leavesMem (cluster : Fin 16) (thread : BitVec 7) (s : State) :
    LeavesMem s (execMsgLock cluster thread s) :=
  State.clvRun_mem _ _ _ (msgLock_mem _ _ s)

@[simp] theorem msgUnlock_mem (k n : Nat) (s : State) (w : Nat) : (msgUnlock k n s w).state.mem = s.mem := by simp [msgUnlock]

@[simp] theorem execMsgUnlock_leavesMem (cluster : Fin 16) (thread : BitVec 7) (s : State) :
    LeavesMem s (execMsgUnlock cluster thread s) :=
  State.clvRun_mem _ _ _ (msgUnlock_mem _ _ s)

@[simp] theorem msgRd_mem (k n : Nat) (s : State) (w : Nat) : (msgRd k n s w).state.mem = s.mem := by simp [msgRd]

@[simp] theorem execMsgRd_leavesMem (cluster : Fin 16) (thread : BitVec 7) (s : State) :
    LeavesMem s (execMsgRd cluster thread s) :=
  State.clvRun_mem _ _ _ (msgRd_mem _ _ s)

@[simp] theorem msgWr_mem (k n : Nat) (s : State) (w : Nat) : (msgWr k n s w).state.mem = s.mem := by simp [msgWr]

@[simp] theorem execMsgWr_leavesMem (cluster : Fin 16) (thread : BitVec 7) (s : State) :
    LeavesMem s (execMsgWr cluster thread s) :=
  State.clvRun_mem _ _ _ (msgWr_mem _ _ s)

@[simp] theorem State.takeCompare_mem (s : State) (k n : Nat) : (s.takeCompare k n).mem = s.mem := by simp [State.takeCompare]

@[simp] theorem clvWait_mem (k n : Nat) (s : State) (w : Nat) : (clvWait k n s w).state.mem = s.mem := by simp [clvWait]

@[simp] theorem execClvWait_leavesMem (cluster : Fin 16) (thread : BitVec 7) (s : State) :
    LeavesMem s (execClvWait cluster thread s) :=
  State.clvRun_mem _ _ _ (clvWait_mem _ _ s)

@[simp] theorem clvWake_mem (k n : Nat) (s : State) (w : Nat) : (clvWake k n s w).state.mem = s.mem := by simp [clvWake]

@[simp] theorem execClvWake_leavesMem (cluster : Fin 16) (thread : BitVec 7) (s : State) :
    LeavesMem s (execClvWake cluster thread s) :=
  State.clvRun_mem _ _ _ (clvWake_mem _ _ s)

@[simp] theorem bufAlloc_mem (k n : Nat) (s : State) (w : Nat) : (bufAlloc k n s w).state.mem = s.mem := by
  simp only [bufAlloc]
  split <;> simp

@[simp] theorem execBufAlloc_leavesMem (cluster : Fin 16) (thread : BitVec 7) (s : State) :
    LeavesMem s (execBufAlloc cluster thread s) :=
  State.clvRun_mem _ _ _ (bufAlloc_mem _ _ s)

@[simp] theorem bufEnd_mem (k n ptr : Nat) (add : Bool) (r : Bool × State) :
    (bufEnd k n ptr add r).state.mem = r.2.mem := by simp [bufEnd]

@[simp] theorem execBufShare_leavesMem (cluster : Fin 16) (thread : BitVec 7) (s : State) :
    LeavesMem s (execBufShare cluster thread s) := by simp [execBufShare]

@[simp] theorem execBufRelease_leavesMem (cluster : Fin 16) (thread : BitVec 7) (s : State) :
    LeavesMem s (execBufRelease cluster thread s) := by simp [execBufRelease]

@[simp] theorem execBufFree_leavesMem (cluster : Fin 16) (thread : BitVec 7) (s : State) :
    LeavesMem s (execBufFree cluster thread s) := by simp [execBufFree]

@[simp] theorem execBufXfer_leavesMem (cluster : Fin 16) (thread : BitVec 7) (s : State) :
    LeavesMem s (execBufXfer cluster thread s) := by simp [execBufXfer]

@[simp] theorem supNext_mem (k n : Nat) (s : State) (w : Nat) : (supNext k n s w).state.mem = s.mem := by
  simp only [supNext]
  repeat' split
  all_goals simp

@[simp] theorem execSupNext_leavesMem (cluster : Fin 16) (thread : BitVec 7) (s : State) :
    LeavesMem s (execSupNext cluster thread s) :=
  State.clvRun_mem _ _ _ (supNext_mem _ _ s)

@[simp] theorem supFrel_mem (k n : Nat) (s : State) (w : Nat) : (supFrel k n s w).state.mem = s.mem := by simp [supFrel]

@[simp] theorem execSupFrel_leavesMem (cluster : Fin 16) (thread : BitVec 7) (s : State) :
    LeavesMem s (execSupFrel cluster thread s) :=
  State.clvRun_mem _ _ _ (supFrel_mem _ _ s)

@[simp] theorem supState_mem (k n : Nat) (s : State) (w : Nat) : (supState k n s w).state.mem = s.mem := by simp [supState]

@[simp] theorem execSupState_leavesMem (cluster : Fin 16) (thread : BitVec 7) (s : State) :
    LeavesMem s (execSupState cluster thread s) :=
  State.clvRun_mem _ _ _ (supState_mem _ _ s)

@[simp] theorem execEcall_leavesMem (cluster : Fin 16) (thread : BitVec 7) (s : State) :
    LeavesMem s (execEcall cluster thread s) := by simp [execEcall]

@[simp] theorem State.haltThread_mem (s : State) (k n : Nat) : (s.haltThread k n).mem = s.mem := by simp [State.haltThread]

@[simp] theorem State.resumeThread_mem (s : State) (k n : Nat) : (s.resumeThread k n).mem = s.mem := by
  simp [State.resumeThread]

@[simp] theorem execEbreak_leavesMem (cluster : Fin 16) (thread : BitVec 7) (s : State) :
    LeavesMem s (execEbreak cluster thread s) := by simp [execEbreak]

@[simp] theorem execBlockedResultReturn_leavesMem (cluster : Fin 16) (thread : BitVec 7) (s : State) :
    LeavesMem s (execBlockedResultReturn cluster thread s) := by
  simp only [execBlockedResultReturn]
  split <;> simp

@[simp] theorem execCompareReached_leavesMem (cluster : Fin 16) (thread : BitVec 7) (s : State) :
    LeavesMem s (execCompareReached cluster thread s) :=
  (State.clvSettle_mem ..).trans (State.takeCompare_mem ..)

@[simp] theorem State.supRestart_mem (s : State) (k : Nat) : (s.supRestart k).mem = s.mem := by simp [State.supRestart]

@[simp] theorem State.wdogEnable_mem (s : State) (mid k : Nat) (on : Bool) (period : Nat) :
    (s.wdogEnable mid k on period).mem = s.mem := by
  simp only [State.wdogEnable]
  repeat' split
  all_goals simp

@[simp] theorem execWdogExpiry_leavesMem (cluster : Fin 16) (s : State) :
    LeavesMem s (execWdogExpiry cluster s) := by simp [execWdogExpiry]

@[simp] theorem clvLoadChecks_mem {s : State} {body : State → Res} (c : Cmd) (feature : Nat) (img : List Byte)
    (h : ∀ t, (body t).state.mem = t.mem) : (clvLoadChecks s c feature img body).state.mem = s.mem := by
  simp [clvLoadChecks, h]

@[simp] theorem clvProgramLoadSpec_mem (c : Cmd) (s : State) : (clvProgramLoadSpec.body c s).state.mem = s.mem := by
  simp [clvProgramLoadSpec]

@[simp] theorem execClvProgramLoad_leavesMem (e : AdminEntry) (s : State) :
    LeavesMem s (execClvProgramLoad e s) := by
  simp only [execClvProgramLoad]
  split <;> simp

@[simp] theorem clvProgramSwapSpec_mem (c : Cmd) (s : State) : (clvProgramSwapSpec.body c s).state.mem = s.mem := by
  simp [clvProgramSwapSpec]

@[simp] theorem State.swapSwitch_mem (s : State) (k : Nat) : (s.swapSwitch k).mem = s.mem := by simp [State.swapSwitch]

@[simp] theorem State.abortSwap_mem (s : State) (k : Nat) : (s.abortSwap k).mem = s.mem := by simp [State.abortSwap]

@[simp] theorem execClvProgramSwap_leavesMem (e : AdminEntry) (s : State) :
    LeavesMem s (execClvProgramSwap e s) :=
  State.runCmd_mem clvProgramSwapSpec_mem s e

@[simp] theorem execSwapDrainEnd_leavesMem (cluster : Fin 16) (s : State) :
    LeavesMem s (execSwapDrainEnd cluster s) := by
  simp only [execSwapDrainEnd]
  repeat' split
  all_goals simp

@[simp] theorem State.abortUnload_mem (s : State) (k : Nat) : (s.abortUnload k).mem = s.mem := (rfl)

@[simp] theorem clvClusterModeSpec_mem (c : Cmd) (s : State) : (clvClusterModeSpec.body c s).state.mem = s.mem := by
  simp [clvClusterModeSpec]

@[simp] theorem execClvClusterMode_leavesMem (e : AdminEntry) (s : State) :
    LeavesMem s (execClvClusterMode e s) :=
  State.runCmd_mem clvClusterModeSpec_mem s e

@[simp] theorem clvMsgregReleaseSpec_mem (c : Cmd) (s : State) : (clvMsgregReleaseSpec.body c s).state.mem = s.mem := by
  simp [clvMsgregReleaseSpec]

@[simp] theorem execClvMsgregRelease_leavesMem (e : AdminEntry) (s : State) :
    LeavesMem s (execClvMsgregRelease e s) :=
  State.runCmd_mem clvMsgregReleaseSpec_mem s e

/-! ## Port modes, links and lane degrade with the Fresnel trees that follow them -/

@[simp] theorem State.settleLeaf_mem (s : State) (l : Nat) : (s.settleLeaf l).mem = s.mem := by
  simp only [State.settleLeaf]
  repeat' split
  all_goals simp

@[simp] theorem State.dropPortFrames_mem (s : State) (port : Nat) : (s.dropPortFrames port).mem = s.mem := by
  simp [State.dropPortFrames]

@[simp] theorem State.deletePortNodes_mem (s : State) (port : Nat) : (s.deletePortNodes port).mem = s.mem := by
  simp [State.deletePortNodes]

@[simp] theorem State.addRoot_mem (s : State) (port : Nat) : (s.addRoot port).mem = s.mem := by simp [State.addRoot]

@[simp] theorem State.setLink_mem (s : State) (p : Nat) (up : Bool) : (s.setLink p up).mem = s.mem := by simp [State.setLink]

@[simp] theorem State.enterPortMode_mem (s : State) (mode mask : Nat) : (s.enterPortMode mode mask).mem = s.mem := by
  simp [State.enterPortMode]

@[simp] theorem State.relane_mem (s : State) (p : Nat) : (s.relane p).mem = s.mem := by simp [State.relane]

@[simp] theorem State.setLane_mem (s : State) (lane : Nat) (good : Bool) : (s.setLane lane good).mem = s.mem := by
  simp [State.setLane]

@[simp] theorem State.mgpLink_mem (s : State) (up : Bool) : (s.mgpLink up).mem = s.mem := by simp [State.mgpLink]

@[simp] theorem State.mctpDrop_mem (s : State) : s.mctpDrop.mem = s.mem :=
  (State.raiseEs_mem ..).trans (State.bump_mem ..)

@[simp] theorem State.mctpAnswer_mem (s : State) (src type : Nat) (setEid : Option Nat) :
    (s.mctpAnswer src type setEid).mem = s.mem := by
  simp only [State.mctpAnswer]
  split <;> simp

@[simp] theorem State.vendorAnswer_mem (s : State) (src code status detail : Nat) (body : List Byte) :
    (s.vendorAnswer src code status detail body).mem = s.mem := (rfl)

@[simp] theorem State.unserved_mem (s : State) (src code : Nat) : (s.unserved src code).mem = s.mem := by
  simp only [State.unserved]
  split <;> simp

@[simp] theorem State.mctpServe_mem (s : State) : s.mctpServe.mem = s.mem := by simp [State.mctpServe]

/-! ## Meanings of Fresnel's commands and events but the choice itself -/

@[simp] theorem State.putNode_mem (s : State) (x : NodeCfg) : (s.putNode x).mem = s.mem := by
  unfold State.putNode
  extract_lets +onlyGivenNames port leaf sub n n' n'' t frs u
  refine ite_mem rfl ?_
  extract_lets +onlyGivenNames frs' v d
  have hv : v.mem = s.mem := ite_mem rfl rfl
  exact ite_mem hv hv

@[simp] theorem frsNodeCfgSpec_mem (c : Cmd) (s : State) : (frsNodeCfgSpec.body c s).state.mem = s.mem := by
  dsimp -zeta only [frsNodeCfgSpec]
  extract_lets +onlyGivenNames k
  refine Res.ite_mem ?_ ?_
  · refine Cmd.checked_mem _ (guards_mem (by simp) ?_)
    split
    next => rfl
    next n _ =>
      refine guards_mem (by simp) ?_
      extract_lets +onlyGivenNames t u
      refine Res.ite_mem (State.settleLeaf_mem ..) rfl
  · extract_lets +onlyGivenNames leaf
    refine Cmd.checked_mem _ ?_
    extract_lets +onlyGivenNames x
    refine guards_mem (by simp) ?_
    split
    next => rfl
    next =>
      extract_lets +onlyGivenNames full
      exact Res.ite_mem rfl (State.putNode_mem ..)

@[simp] theorem execFrsNodeCfg_leavesMem (e : AdminEntry) (s : State) :
    LeavesMem s (execFrsNodeCfg e s) :=
  State.runCmd_mem frsNodeCfgSpec_mem s e

@[simp] theorem frsShaperCfgSpec_mem (c : Cmd) (s : State) : (frsShaperCfgSpec.body c s).state.mem = s.mem := by
  dsimp -zeta only [frsShaperCfgSpec]
  extract_lets +onlyGivenNames k kind remove
  refine Cmd.checked_mem _ ?_
  split
  next => rfl
  next n _ =>
    refine Res.ite_mem (State.setNode_mem ..) ?_
    extract_lets +onlyGivenNames oh
    refine guards_mem (by simp) ?_
    extract_lets +onlyGivenNames sh before waits fresh m
    exact State.setNode_mem ..

@[simp] theorem execFrsShaperCfg_leavesMem (e : AdminEntry) (s : State) :
    LeavesMem s (execFrsShaperCfg e s) :=
  State.runCmd_mem frsShaperCfgSpec_mem s e

@[simp] theorem execRefillEpoch_leavesMem (s : State) :
    LeavesMem s (execRefillEpoch s) := by simp [execRefillEpoch]

@[simp] theorem frsGclWriteSpec_mem (c : Cmd) (s : State) : (frsGclWriteSpec.body c s).state.mem = s.mem := by
  dsimp -zeta only [frsGclWriteSpec]
  refine Cmd.checked_mem _ ?_
  extract_lets +onlyGivenNames port first count at_
  refine guards_mem (by simp) ?_
  split
  · rfl
  · exact State.setGates_mem ..

@[simp] theorem execFrsGclWrite_leavesMem (e : AdminEntry) (s : State) :
    LeavesMem s (execFrsGclWrite e s) :=
  State.runCmd_mem frsGclWriteSpec_mem s e

@[simp] theorem frsGclCommitSpec_mem (c : Cmd) (s : State) : (frsGclCommitSpec.body c s).state.mem = s.mem := by
  unfold frsGclCommitSpec
  with_reducible change (Cmd.checked c s _ _).state.mem = s.mem
  refine Cmd.checked_mem _ ?_
  extract_lets port count enable cycle oh g entries base sw list go
  refine guards_mem (by simp) ?_
  have hg : ∀ t, (go t).state.mem = t.mem := fun t => State.setGates_mem ..
  clear_value go
  split
  · exact withClaims_mem ((hg _).trans (State.takeClaims_mem ..))
  · exact hg s

@[simp] theorem execFrsGclCommit_leavesMem (e : AdminEntry) (s : State) :
    LeavesMem s (execFrsGclCommit e s) :=
  State.runCmd_mem frsGclCommitSpec_mem s e

@[simp] theorem State.gclDiscard_mem (s : State) (port : Nat) : (s.gclDiscard port).mem = s.mem := by simp [State.gclDiscard]

@[simp] theorem execGclSwitch_leavesMem (port : Fin 8) (s : State) :
    LeavesMem s (execGclSwitch port s) := State.gclSwitch_mem ..

@[simp] theorem execGateEdge_leavesMem (port : Fin 8) (s : State) :
    LeavesMem s (execGateEdge port s) := by simp [execGateEdge]

@[simp] theorem execGateStaging_leavesMem (port cls : Fin 8) (s : State) :
    LeavesMem s (execGateStaging port cls s) := by simp [execGateStaging]

@[simp] theorem execLeafBelowMax_leavesMem (leaf : BitVec 15) (s : State) :
    LeavesMem s (execLeafBelowMax leaf s) := by simp [execLeafBelowMax]

@[simp] theorem frsTelemetryCfgSpec_mem (c : Cmd) (s : State) : (frsTelemetryCfgSpec.body c s).state.mem = s.mem := by
  dsimp -zeta only [frsTelemetryCfgSpec]
  extract_lets +onlyGivenNames sub del
  refine Cmd.checked_mem _ ?_
  extract_lets +onlyGivenNames known
  refine Res.ite_mem (Res.ite_mem rfl rfl) ?_
  extract_lets +onlyGivenNames count first rest
  extract_lets +onlyGivenNames leaves owned
  refine guards_mem (by simp) ?_
  split
  · exact State.draw_mem ..
  · rfl

@[simp] theorem execFrsTelemetryCfg_leavesMem (e : AdminEntry) (s : State) :
    LeavesMem s (execFrsTelemetryCfg e s) :=
  State.runCmd_mem frsTelemetryCfgSpec_mem s e

@[simp] theorem execTelemetrySample_leavesMem (sub : BitVec 8) (s : State) :
    LeavesMem s (execTelemetrySample sub s) := by
  simp only [execTelemetrySample]
  repeat' split
  all_goals simp

@[simp] theorem State.nodeSel_mem (s : State) (k : Nat) : (s.nodeSel k).mem = s.mem := by
  simp only [State.nodeSel]
  exact foldl_mem (by simp) _ _

/-! ## Operations of the Saffron cipher engine -/

@[simp] theorem State.setAssoc_mem (s : State) (a : Nat) (r : List Word) : (s.setAssoc a r).mem = s.mem := (rfl)

@[simp] theorem State.cacheHit_mem (s : State) (a : Nat) (r : List Word) (k : Nat) : (s.cacheHit a r k).2.mem = s.mem := by
  simp only [State.cacheHit]
  split <;> simp

@[simp] theorem State.cachePut_mem (s : State) (e : SafKey) : (s.cachePut e).mem = s.mem := (rfl)

@[simp] theorem State.cacheDrop_mem (s : State) (p : SafKey → Bool) : (s.cacheDrop p).mem = s.mem := (rfl)

@[simp] theorem State.accept_mem (s : State) (w : SafWait) (k n : Nat) : (s.accept w k n).mem = s.mem := by simp [State.accept]

@[simp] theorem State.seqMarks_mem (s : State) (a k seq : Nat) : (s.seqMarks a k seq).mem = s.mem := by simp [State.seqMarks]

@[simp] theorem State.takeSeq_mem (s : State) (a k : Nat) : (s.takeSeq a k).2.mem = s.mem := by simp [State.takeSeq]

@[simp] theorem State.safDrop_mem (s : State) (w : SafWait) : (s.safDrop w).mem = s.mem := (rfl)

@[simp] theorem State.safDone_mem (s : State) (conn gen : Nat) (args : List Dword) (status reason result : Nat) :
    (s.safDone conn gen args status reason result).mem = s.mem := by
  simp only [State.safDone]
  split <;> simp

@[simp] theorem State.authFail_mem (s : State) : s.authFail.mem = s.mem :=
  (State.raiseLimited_mem ..).trans (State.bump_mem ..)

@[simp] theorem State.replayDrop_mem (s : State) : s.replayDrop.mem = s.mem :=
  (State.raiseLimited_mem ..).trans (State.bump_mem ..)

@[simp] theorem State.setConnFrame_mem (s : State) (c : Nat) (d : List Byte) : (s.setConnFrame c d).mem = s.mem := by
  simp [State.setConnFrame]

@[simp] theorem State.dropSaf_mem (s : State) (i : Nat) : (s.dropSaf i).mem = s.mem := by
  simp only [State.dropSaf]
  refine foldl_mem (fun s e => ?_) _ _
  repeat' split
  all_goals simp

/-! ## Removal with work in flight -/

@[simp] theorem State.freeQueues_mem (s : State) (i : Nat) : (s.freeQueues i).mem = s.mem := by simp [State.freeQueues]

/-! ## Meanings of reception, the frame tail, the scheduler's choice and parked packets -/

@[simp] theorem State.countTail_mem (s : State) (port : Nat) (bytes : List Byte) (ok : Bool) :
    (s.countTail port bytes ok).mem = s.mem := by simp [State.countTail]

@[simp] theorem execParkTimeout_leavesMem (place : BitVec 16) (s : State) :
    LeavesMem s (execParkTimeout place s) := by
  simp only [execParkTimeout]
  split <;> simp

/-! ## Meanings of the Lantern regions' commands and events -/

@[simp] theorem State.lanMemFault_mem (s : State) (r tag k : Nat) : (s.lanMemFault r tag k).mem = s.mem := (rfl)

@[simp] theorem execLxEventEdge_leavesMem (region : Fin 16) (s : State) :
    LeavesMem s (execLxEventEdge region s) := by simp [execLxEventEdge]

@[simp] theorem execThrottleStage2_leavesMem (region : Fin 16) (s : State) :
    LeavesMem s (execThrottleStage2 region s) := by simp [execThrottleStage2]

@[simp] theorem execThrottleRecovery_leavesMem (region : Fin 16) (s : State) :
    LeavesMem s (execThrottleRecovery region s) := by simp [execThrottleRecovery]

@[simp] theorem regionState_mem (s : State) (r : Nat) : (regionState s r).state.mem = s.mem := (rfl)

@[simp] theorem lanRegionAssignSpec_mem (c : Cmd) (s : State) : (lanRegionAssignSpec.body c s).state.mem = s.mem := by
  dsimp -zeta only [lanRegionAssignSpec]
  extract_lets +onlyGivenNames release
  refine Cmd.checked_mem _ ?_
  extract_lets +onlyGivenNames r i v
  refine Res.ite_mem (Res.ite_mem (State.lanFree_mem ..) (regionState_mem ..)) ?_
  refine guards_mem (by simp) ?_
  rw [Res.state_ok, State.lanEnter_mem, State.reserveRange_mem, State.setRegion_mem]

@[simp] theorem execLanRegionAssign_leavesMem (e : AdminEntry) (s : State) :
    LeavesMem s (execLanRegionAssign e s) :=
  State.runCmd_mem lanRegionAssignSpec_mem s e

@[simp] theorem Cmd.onRegion_mem {c : Cmd} {s : State} {body : Unit → Res} (r : Nat)
    (h : (body ()).state.mem = s.mem) : (c.onRegion s r body).state.mem = s.mem := by simp [Cmd.onRegion, h]

@[simp] theorem lanPowerCapSpec_mem (c : Cmd) (s : State) : (lanPowerCapSpec.body c s).state.mem = s.mem := by
  simp [lanPowerCapSpec]

@[simp] theorem execLanPowerCap_leavesMem (e : AdminEntry) (s : State) :
    LeavesMem s (execLanPowerCap e s) :=
  State.runCmd_mem lanPowerCapSpec_mem s e

@[simp] theorem lanAllowanceSetSpec_mem (c : Cmd) (s : State) : (lanAllowanceSetSpec.body c s).state.mem = s.mem := by
  simp [lanAllowanceSetSpec]

@[simp] theorem execLanAllowanceSet_leavesMem (e : AdminEntry) (s : State) :
    LeavesMem s (execLanAllowanceSet e s) :=
  State.runCmd_mem lanAllowanceSetSpec_mem s e

@[simp] theorem lanTapCfgSpec_mem (c : Cmd) (s : State) : (lanTapCfgSpec.body c s).state.mem = s.mem := by simp [lanTapCfgSpec]

@[simp] theorem execLanTapCfg_leavesMem (e : AdminEntry) (s : State) :
    LeavesMem s (execLanTapCfg e s) :=
  State.runCmd_mem lanTapCfgSpec_mem s e

@[simp] theorem State.lanConfigure_mem (s : State) (r : Nat) (good : Bool) : (s.lanConfigure r good).mem = s.mem := by
  simp [State.lanConfigure]

@[simp] theorem State.lanStage_mem (s : State) (r : Nat) (good : Bool) : (s.lanStage r good).mem = s.mem := by
  simp [State.lanStage]

@[simp] theorem State.lanLoad_mem (s : State) (r : Nat) (img : List Byte) (good : Bool) :
    (s.lanLoad r img good).mem = s.mem := by
  simp only [State.lanLoad]
  split <;> simp

@[simp] theorem State.lanStaged_mem (s : State) (r : Nat) : (s.lanStaged r).mem = s.mem := by
  simp only [State.lanStaged]
  split <;> simp

@[simp] theorem State.abortLoad_mem (s : State) (r : Nat) : (s.abortLoad r).mem = s.mem := by simp [State.abortLoad]

@[simp] theorem lanImageLoadSpec_mem (c : Cmd) (s : State) : (lanImageLoadSpec.body c s).state.mem = s.mem := by
  simp only [lanImageLoadSpec, Cmd.checked_state, guards_cons, guards_nil]
  split
  · split
    · rfl
    · refine Cmd.onRegion_mem _ ?_
      split
      · rfl
      · split
        · rfl
        · split
          · rfl
          · split
            · rfl
            · refine withClaims_mem ?_
              simp
  · rfl

@[simp] theorem execLanImageLoad_leavesMem (e : AdminEntry) (readback : Bool) (s : State) :
    LeavesMem s (execLanImageLoad e readback s) := by
  simp only [execLanImageLoad]
  split <;> simp

@[simp] theorem execLxReadyRise_leavesMem (region : Fin 16) (s : State) :
    LeavesMem s (execLxReadyRise region s) := by
  simp only [execLxReadyRise]
  split <;> simp

@[simp] theorem execInitTimeout_leavesMem (region : Fin 16) (s : State) :
    LeavesMem s (execInitTimeout region s) := by simp [execInitTimeout]

@[simp] theorem lanRegionQuiesceSpec_mem (c : Cmd) (s : State) : (lanRegionQuiesceSpec.body c s).state.mem = s.mem := by
  simp [lanRegionQuiesceSpec]

@[simp] theorem execLanRegionQuiesce_leavesMem (e : AdminEntry) (s : State) :
    LeavesMem s (execLanRegionQuiesce e s) :=
  State.runCmd_mem lanRegionQuiesceSpec_mem s e

@[simp] theorem lanRegionUnloadSpec_mem (c : Cmd) (s : State) : (lanRegionUnloadSpec.body c s).state.mem = s.mem := by
  simp [lanRegionUnloadSpec]

/-! ## Meanings of the memories, the State Pager and the buffer pools -/

@[simp] theorem execHostFillRetry_leavesMem (page : BitVec 30) (s : State) :
    LeavesMem s (execHostFillRetry page s) := by
  simp only [execHostFillRetry]
  split <;> simp

@[simp] theorem execPageDemotion_leavesMem (s : State) :
    LeavesMem s (execPageDemotion s) := by
  unfold execPageDemotion
  rw [leavesMem_next]
  extract_lets +onlyGivenNames go pgr t ps
  refine ite_mem rfl ?_
  split
  · extract_lets +onlyGivenNames page u pgr'
    have hu : u.mem = s.mem := State.setPage_mem ..
    exact (State.startMove_mem ..).trans hu
  · rfl

@[simp] theorem pgrChecks_mem {c : Cmd} {s : State} {body : Unit → Res} (most : Nat)
    (h : (body ()).state.mem = s.mem) : (pgrChecks c s most body).state.mem = s.mem := by simp [pgrChecks, h]

@[simp] theorem pgrPinSpec_mem (c : Cmd) (s : State) : (pgrPinSpec.body c s).state.mem = s.mem := by simp [pgrPinSpec]

@[simp] theorem execPgrPin_leavesMem (e : AdminEntry) (s : State) :
    LeavesMem s (execPgrPin e s) :=
  State.runCmd_mem pgrPinSpec_mem s e

@[simp] theorem State.tidyPage_mem (s : State) (k : Nat) : (s.tidyPage k).mem = s.mem := by simp [State.tidyPage]

@[simp] theorem pgrUnpinSpec_mem (c : Cmd) (s : State) : (pgrUnpinSpec.body c s).state.mem = s.mem := by simp [pgrUnpinSpec]

@[simp] theorem execPgrUnpin_leavesMem (e : AdminEntry) (s : State) :
    LeavesMem s (execPgrUnpin e s) :=
  State.runCmd_mem pgrUnpinSpec_mem s e

@[simp] theorem State.hintFill_mem (a : Nat × State) (k : Nat) : (State.hintFill a k).2.mem = a.2.mem := by
  simp [State.hintFill]

@[simp] theorem State.hintHome_mem (a : Nat × State) (k : Nat) : (State.hintHome a k).2.mem = a.2.mem := by
  unfold State.hintHome
  split
  next n s =>
    extract_lets p
    split
    · rfl
    · split
      next h t ht =>
        split
        · rfl
        · simp [mem_of_eq ht]

@[simp] theorem memDonateSpec_mem (c : Cmd) (s : State) : (memDonateSpec.body c s).state.mem = s.mem := by simp [memDonateSpec]

@[simp] theorem execMemDonate_leavesMem (e : AdminEntry) (s : State) :
    LeavesMem s (execMemDonate e s) :=
  State.runCmd_mem memDonateSpec_mem s e

@[simp] theorem memRevokeSpec_mem (c : Cmd) (s : State) : (memRevokeSpec.body c s).state.mem = s.mem := by
  simp only [memRevokeSpec]
  split <;> simp

@[simp] theorem State.abortRevoke_mem (s : State) (d : Nat) : (s.abortRevoke d).mem = s.mem := by
  simp only [State.abortRevoke]
  split <;> simp

@[simp] theorem State.programWindow_mem (s : State) (n : Nat) (c : Cmd) : (s.programWindow n c).state.mem = s.mem := by
  simp [State.programWindow]

@[simp] theorem bpmPoolCfgSpec_mem (c : Cmd) (s : State) : (bpmPoolCfgSpec.body c s).state.mem = s.mem := by
  simp [bpmPoolCfgSpec]

@[simp] theorem execBpmPoolCfg_leavesMem (e : AdminEntry) (s : State) :
    LeavesMem s (execBpmPoolCfg e s) :=
  State.runCmd_mem bpmPoolCfgSpec_mem s e

@[simp] theorem State.abortCarve_mem (s : State) (tier : Nat) : (s.abortCarve tier).mem = s.mem := (rfl)

@[simp] theorem bpmSetQuotaSpec_mem (c : Cmd) (s : State) : (bpmSetQuotaSpec.body c s).state.mem = s.mem := by
  simp [bpmSetQuotaSpec]

@[simp] theorem execBpmSetQuota_leavesMem (e : AdminEntry) (s : State) :
    LeavesMem s (execBpmSetQuota e s) :=
  State.runCmd_mem bpmSetQuotaSpec_mem s e

@[simp] theorem execAlloc_leavesMem (requester : BitVec 12) (length : BitVec 17) (s : State) :
    LeavesMem s (execAlloc requester length s) := by simp [execAlloc]

@[simp] theorem State.bufBy_mem {s : State} {body : State → State} (mid : Nat) (h : (body s).mem = s.mem) :
    (s.bufBy mid body).mem = s.mem := by simp [State.bufBy, h]

@[simp] theorem execShare_leavesMem (mid : BitVec 13) (ptr : Word) (requester holder : BitVec 12) (s : State) :
    LeavesMem s (execShare mid ptr requester holder s) := by simp [execShare]

@[simp] theorem execRelease_leavesMem (mid : BitVec 13) (ptr : Word) (requester : BitVec 12) (s : State) :
    LeavesMem s (execRelease mid ptr requester s) := by simp [execRelease]

@[simp] theorem execTransfer_leavesMem (mid : BitVec 13) (ptr : Word) (requester dest : BitVec 12) (s : State) :
    LeavesMem s (execTransfer mid ptr requester dest s) := by simp [execTransfer]

@[simp] theorem execFree_leavesMem (mid : BitVec 13) (ptr : Word) (requester : BitVec 12) (s : State) :
    LeavesMem s (execFree mid ptr requester s) := by simp [execFree]

/-! ## Meanings of the Spar fabric's commands and events -/

@[simp] theorem execSparLinkChange_leavesMem (port : Fin 4) (up : Bool) (s : State) :
    LeavesMem s (execSparLinkChange port up s) := by simp [execSparLinkChange]

@[simp] theorem execBeaconSend_leavesMem (s : State) :
    LeavesMem s (execBeaconSend s) := by simp [execBeaconSend]

@[simp] theorem execBeaconReceive_leavesMem (port : Fin 4) (body : List Byte) (s : State) :
    LeavesMem s (execBeaconReceive port body s) := by simp [execBeaconReceive]

@[simp] theorem execMailboxResend_leavesMem (chan : Fin 64) (s : State) :
    LeavesMem s (execMailboxResend chan s) := by
  simp only [execMailboxResend]
  split <;> simp

@[simp] theorem execSparRequestTimeout_leavesMem (chan : Fin 64) (s : State) :
    LeavesMem s (execSparRequestTimeout chan s) := by
  simp only [execSparRequestTimeout]
  split <;> simp

@[simp] theorem execTimeExchange_leavesMem (t1 t2 t3 t4 ts tr : Int) (s : State) :
    LeavesMem s (execTimeExchange t1 t2 t3 t4 ts tr s) := by
  simp only [execTimeExchange]
  split <;> simp

@[simp] theorem State.unjoin_mem (s : State) (note : List Nat) : (s.unjoin note).mem = s.mem := by
  simp only [State.unjoin]
  split <;> simp

@[simp] theorem sprJoinSpec_mem (c : Cmd) (s : State) : (sprJoinSpec.body c s).state.mem = s.mem := by simp [sprJoinSpec]

@[simp] theorem execSprJoin_leavesMem (e : AdminEntry) (s : State) :
    LeavesMem s (execSprJoin e s) :=
  State.runCmd_mem sprJoinSpec_mem s e

@[simp] theorem whenJoined_mem {s : State} {body : Unit → Res} (h : (body ()).state.mem = s.mem) :
    (whenJoined s body).state.mem = s.mem := by simp [whenJoined, h]

@[simp] theorem sprLeaveSpec_mem (c : Cmd) (s : State) : (sprLeaveSpec.body c s).state.mem = s.mem := by simp [sprLeaveSpec]

@[simp] theorem execSprLeave_leavesMem (e : AdminEntry) (s : State) :
    LeavesMem s (execSprLeave e s) := by simp [execSprLeave]

@[simp] theorem sprRouteWriteSpec_mem (c : Cmd) (s : State) : (sprRouteWriteSpec.body c s).state.mem = s.mem := by
  dsimp -zeta only [sprRouteWriteSpec]
  refine whenJoined_mem (Cmd.checked_mem _ ?_)
  extract_lets +onlyGivenNames first n es base
  exact guards_mem (by simp) rfl

@[simp] theorem execSprRouteWrite_leavesMem (e : AdminEntry) (s : State) :
    LeavesMem s (execSprRouteWrite e s) :=
  State.runCmd_mem sprRouteWriteSpec_mem s e

@[simp] theorem sprEpochCommitSpec_mem (c : Cmd) (s : State) : (sprEpochCommitSpec.body c s).state.mem = s.mem := by
  simp only [sprEpochCommitSpec]
  split <;> simp

@[simp] theorem execSprEpochCommit_leavesMem (e : AdminEntry) (s : State) :
    LeavesMem s (execSprEpochCommit e s) :=
  State.runCmd_mem sprEpochCommitSpec_mem s e

@[simp] theorem execPreviousEpochDiscard_leavesMem (s : State) :
    LeavesMem s (execPreviousEpochDiscard s) := by simp [execPreviousEpochDiscard]

@[simp] theorem sprRemoteGrantSpec_mem (c : Cmd) (s : State) : (sprRemoteGrantSpec.body c s).state.mem = s.mem := by
  dsimp -zeta only [sprRemoteGrantSpec]
  refine whenJoined_mem ?_
  extract_lets +onlyGivenNames g
  refine Res.ite_mem (Cmd.checked_mem _ ?_) (Cmd.checked_mem _ ?_)
  · split
    · rfl
    · rfl
  · extract_lets +onlyGivenNames ssid pages
    exact guards_mem (by simp) rfl

@[simp] theorem execSprRemoteGrant_leavesMem (e : AdminEntry) (s : State) :
    LeavesMem s (execSprRemoteGrant e s) := by simp [execSprRemoteGrant]

/-! ## Meanings of the table engines -/

@[simp] theorem tblCreateSpec_mem (c : Cmd) (s : State) : (tblCreateSpec.body c s).state.mem = s.mem := by
  dsimp -zeta only [tblCreateSpec]
  refine Cmd.checked_mem _ ?_
  extract_lets +onlyGivenNames n ws v of_ live top pct
  refine guards_mem (by simp) ?_
  split
  next => rfl
  next =>
    extract_lets +onlyGivenNames b
    refine Res.ite_mem (withClaims_mem ?_) (State.setTable_mem ..)
    exact (State.setTable_mem ..).trans ((State.setTable_mem ..).trans (State.takeClaims_mem ..))

@[simp] theorem execTblCreate_leavesMem (e : AdminEntry) (s : State) :
    LeavesMem s (execTblCreate e s) :=
  State.runCmd_mem tblCreateSpec_mem s e

@[simp] theorem State.dropShadow_mem (s : State) (n : Nat) : (s.dropShadow n).mem = s.mem := (rfl)

@[simp] theorem recParam_mem (s : State) (n : Nat) : (recParam s n).state.mem = s.mem := (rfl)

@[simp] theorem recRefuse_mem (s : State) (r : Nat) : (recRefuse s r).state.mem = s.mem := (rfl)

@[simp] theorem State.rehash_mem (s : State) (which : Nat) : (s.rehash which).state.mem = s.mem := by simp [State.rehash]

@[simp] theorem runRecords_mem {f : State → List Word → RecEnd} (hf : ∀ s ws, (f s ws).state.mem = s.mem)
    (s : State) (done : Nat) (rs : List (List Word)) : (runRecords f s done rs).1.mem = s.mem := by
  induction rs generalizing s done with
  | nil => rfl
  | cons r rest ih =>
    have hr := hf s r
    unfold runRecords
    split <;> simp_all

@[simp] theorem batch_mem {f : State → List Word → RecEnd} (hf : ∀ s ws, (f s ws).state.mem = s.mem) (c : Cmd)
    (s : State) (size maxCount mask : Nat) : (batch c s size maxCount mask f).state.mem = s.mem := by
  simp [batch, runRecords_mem hf]

@[simp] theorem tableRecord_mem {f : List Word → RecEnd} {s : State} (hf : ∀ ws, (f ws).state.mem = s.mem)
    (ws : List Word) : (tableRecord f s ws).state.mem = s.mem := by
  unfold tableRecord
  split <;> simp [hf]

@[simp] theorem tblSearchSpec_mem (c : Cmd) (s : State) : (tblSearchSpec.body c s).state.mem = s.mem := by
  dsimp -zeta only [tblSearchSpec]
  refine Cmd.checked_mem _ ?_
  extract_lets +onlyGivenNames v
  refine guards_mem (by simp) ?_
  split
  · rfl
  · split
    · exact Res.ite_mem rfl rfl
    · rfl

@[simp] theorem execTblSearch_leavesMem (e : AdminEntry) (s : State) :
    LeavesMem s (execTblSearch e s) :=
  State.runCmd_mem tblSearchSpec_mem s e

@[simp] theorem tblNextSpec_mem (c : Cmd) (s : State) : (tblNextSpec.body c s).state.mem = s.mem := by
  simp only [tblNextSpec]
  split <;> simp

@[simp] theorem execTblNext_leavesMem (e : AdminEntry) (s : State) :
    LeavesMem s (execTblNext e s) :=
  State.runCmd_mem tblNextSpec_mem s e

@[simp] theorem tblFlushPortSpec_mem (c : Cmd) (s : State) : (tblFlushPortSpec.body c s).state.mem = s.mem := by
  simp [tblFlushPortSpec]

@[simp] theorem execTblFlushPort_leavesMem (e : AdminEntry) (s : State) :
    LeavesMem s (execTblFlushPort e s) :=
  State.runCmd_mem tblFlushPortSpec_mem s e

theorem State.prefixFault_mem {s : State} {ws : List Word} {bad1 : Bool} {r : RecEnd} (h : s.prefixFault ws bad1 = some r) :
    r.state.mem = s.mem := by
  unfold State.prefixFault at h
  extract_lets p zero at h
  clear_value zero
  rcases eq_or_of_ite_eq_some h with rfl | h
  · rfl
  · rcases eq_or_of_ite_eq_some h with rfl | h
    · rfl
    · split at h
      · exact Option.some.inj h ▸ rfl
      · exact Option.some.inj (Option.ite_none_right_eq_some.mp h).2 ▸ rfl

@[simp] theorem State.lpmAdd_mem (s : State) (ws : List Word) : (s.lpmAdd ws).state.mem = s.mem := by
  unfold State.lpmAdd
  split
  next h => exact State.prefixFault_mem h
  next => simp

@[simp] theorem lpmAddSpec_mem (c : Cmd) (s : State) : (lpmAddSpec.body c s).state.mem = s.mem := by simp [lpmAddSpec]

@[simp] theorem execLpmAdd_leavesMem (e : AdminEntry) (s : State) :
    LeavesMem s (execLpmAdd e s) :=
  State.runCmd_mem lpmAddSpec_mem s e

@[simp] theorem lpmDeleteSpec_mem (c : Cmd) (s : State) : (lpmDeleteSpec.body c s).state.mem = s.mem := by
  simp only [lpmDeleteSpec]
  split
  next r h => rw [RecEnd.state_res, State.prefixFault_mem h]
  next => split <;> simp

@[simp] theorem execLpmDelete_leavesMem (e : AdminEntry) (s : State) :
    LeavesMem s (execLpmDelete e s) :=
  State.runCmd_mem lpmDeleteSpec_mem s e

@[simp] theorem lpmVrfCfgSpec_mem (c : Cmd) (s : State) : (lpmVrfCfgSpec.body c s).state.mem = s.mem := by
  dsimp -zeta only [lpmVrfCfgSpec]
  refine Cmd.checked_mem _ ?_
  extract_lets +onlyGivenNames n on flush v4 v6
  refine guards_mem (by simp) ?_
  extract_lets +onlyGivenNames old t
  have ht : t.mem = s.mem := State.setVrf_mem ..
  exact Res.ite_mem ht ht

@[simp] theorem execLpmVrfCfg_leavesMem (e : AdminEntry) (s : State) :
    LeavesMem s (execLpmVrfCfg e s) :=
  State.runCmd_mem lpmVrfCfgSpec_mem s e

@[simp] theorem execVrfFlushEnd_leavesMem (n : BitVec 12) (s : State) :
    LeavesMem s (execVrfFlushEnd n s) := by
  simp only [execVrfFlushEnd]
  repeat' split
  all_goals simp

@[simp] theorem execLpmNodeRebuild_leavesMem (s : State) :
    LeavesMem s (execLpmNodeRebuild s) := by simp [execLpmNodeRebuild]

@[simp] theorem learnCfgSpec_mem (c : Cmd) (s : State) : (learnCfgSpec.body c s).state.mem = s.mem := by simp [learnCfgSpec]

@[simp] theorem execLearnCfg_leavesMem (e : AdminEntry) (s : State) :
    LeavesMem s (execLearnCfg e s) :=
  State.runCmd_mem learnCfgSpec_mem s e

@[simp] theorem State.tblSel_mem (s : State) (n : Nat) : (s.tblSel n).mem = s.mem := by
  simp only [State.tblSel]
  exact foldl_mem (by simp) _ _

/-! ## What an abort of a PENDING command leaves -/

@[simp] theorem State.abortDestroy_mem (s : State) (q : Nat) : (s.abortDestroy q).mem = s.mem := by simp [State.abortDestroy]

@[simp] theorem State.stopFlush_mem (s : State) (n : Nat) : (s.stopFlush n).mem = s.mem :=
  (State.raiseEs_mem ..).trans ((State.dropClaim_mem ..).trans (State.setTable_mem ..))

/-! ## Meanings of the host endpoint's and the downstream ports' events and registers -/

@[simp] theorem State.kickHost_mem (s : State) : s.kickHost.mem = s.mem := by simp [State.kickHost]

@[simp] theorem State.linkChange_mem (s : State) (up : Bool) (rate width : Nat) : (s.linkChange up rate width).mem = s.mem := by
  simp [State.linkChange]

@[simp] theorem execUpstreamLinkChange_leavesMem (up : Bool) (rate : BitVec 4) (width : BitVec 5) (s : State) :
    LeavesMem s (execUpstreamLinkChange up rate width s) := State.linkChange_mem ..

@[simp] theorem State.fillConfig_mem (s : State) : s.fillConfig.mem = s.mem := (rfl)

@[simp] theorem State.msixOn_mem (s : State) (f : Nat) : (s.msixOn f).mem = s.mem := by simp [State.msixOn]

@[simp] theorem State.cfgWrite_mem (s : State) (f : Nat) (a : CfgAccess) : (s.cfgWrite f a).mem = s.mem := by
  unfold State.cfgWrite
  extract_lets +onlyGivenNames c pf
  have hf : ∀ h, (pf h).mem = s.mem := fun h => ite_mem rfl rfl
  split
  case h_2 => exact ite_mem (State.setFn_mem ..) rfl
  case h_3 => exact ite_mem rfl ((State.kickHost_mem ..).trans (State.setFn_mem ..))
  case h_6 =>
    extract_lets +onlyGivenNames t
    have ht : t.mem = s.mem := State.setFn_mem ..
    exact ite_mem ((State.msixOn_mem ..).trans ht) ht
  case h_12 => exact ite_mem (hf _) rfl
  case h_1 | h_4 | h_5 | h_13 => rfl
  all_goals exact hf _

@[simp] theorem State.configRequest_mem (s : State) (f : Nat) (a : CfgAccess) : (s.configRequest f a).mem = s.mem := by
  simp [State.configRequest]

@[simp] theorem execConfigRequest_leavesMem (fn : Fin 2048) (access : CfgAccess) (s : State) :
    LeavesMem s (execConfigRequest fn access s) := State.configRequest_mem ..

@[simp] theorem State.showVfs_mem (s : State) : s.showVfs.mem = s.mem := by simp [State.showVfs]

@[simp] theorem State.powerState_mem (s : State) (f : Nat) (d3 : Bool) : (s.powerState f d3).mem = s.mem := by
  simp [State.powerState]

@[simp] theorem execPowerstateWrite_leavesMem (fn : Fin 2048) (d3hot : Bool) (s : State) :
    LeavesMem s (execPowerstateWrite fn d3hot s) := by simp [execPowerstateWrite]

@[simp] theorem execPmeTurnOff_leavesMem (s : State) :
    LeavesMem s (execPmeTurnOff s) := by simp [execPmeTurnOff]

@[simp] theorem State.entryReadFailed_mem (s : State) (q : Nat) : (s.entryReadFailed q).mem = s.mem := by
  simp [State.entryReadFailed]

@[simp] theorem State.staleRead_mem (s : State) (r : TagReq) : (s.staleRead r).mem = s.mem := by
  simp only [State.staleRead]
  repeat' split
  all_goals simp

@[simp] theorem execLateCompletion_leavesMem (tag : BitVec 14) (s : State) :
    LeavesMem s (execLateCompletion tag s) := by
  simp only [execLateCompletion]
  split <;> simp

@[simp] theorem execTagQuarantineExpiry_leavesMem (tag : BitVec 14) (s : State) :
    LeavesMem s (execTagQuarantineExpiry tag s) := by
  simp only [execTagQuarantineExpiry]
  split <;> simp

@[simp] theorem State.winCtl_mem (s : State) (n v : Nat) : (s.winCtl n v).mem = s.mem := by simp [State.winCtl]

@[simp] theorem State.winNext_mem (s : State) (n : Nat) (p : PendCmd) : (s.winNext n p).mem = s.mem := by simp [State.winNext]

@[simp] theorem State.winDrained_mem (s : State) (n : Nat) : (s.winDrained n).mem = s.mem := by
  simp only [State.winDrained]
  repeat' split
  all_goals simp

@[simp] theorem execPeerWinDrained_leavesMem (window : Fin 64) (s : State) :
    LeavesMem s (execPeerWinDrained window s) := State.winDrained_mem ..

@[simp] theorem execL0pNarrow_leavesMem (s : State) :
    LeavesMem s (execL0pNarrow s) := by simp [execL0pNarrow]

@[simp] theorem execL0pWiden_leavesMem (s : State) :
    LeavesMem s (execL0pWiden s) := by simp [execL0pWiden]

@[simp] theorem execL1Request_leavesMem (s : State) :
    LeavesMem s (execL1Request s) := by simp [execL1Request]

@[simp] theorem State.pmCfg_mem (s : State) (v : Nat) : (s.pmCfg v).mem = s.mem := by simp [State.pmCfg]

@[simp] theorem State.cplCfg_mem (s : State) (v : Nat) : (s.cplCfg v).mem = s.mem := by simp [State.cplCfg]

/-! ## Meanings of the instances' commands and events -/

@[simp] theorem State.createAdmin_mem (s : State) (i : Nat) : (s.createAdmin i).mem = s.mem := by
  simp only [State.createAdmin]
  split <;> simp

@[simp] theorem State.createDone_mem (s : State) (i : Nat) : (s.createDone i).1.mem = s.mem := by simp [State.createDone]

@[simp] theorem insState_mem (s : State) (i : Nat) : (insState s i).state.mem = s.mem := (rfl)

@[simp] theorem insSetQuotaSpec_mem (c : Cmd) (s : State) : (insSetQuotaSpec.body c s).state.mem = s.mem := by
  simp [insSetQuotaSpec]

@[simp] theorem execInsSetQuota_leavesMem (e : AdminEntry) (s : State) :
    LeavesMem s (execInsSetQuota e s) :=
  State.runCmd_mem insSetQuotaSpec_mem s e

@[simp] theorem insQuerySpec_mem (c : Cmd) (s : State) : (insQuerySpec.body c s).state.mem = s.mem := (rfl)

@[simp] theorem execInsQuery_leavesMem (e : AdminEntry) (s : State) :
    LeavesMem s (execInsQuery e s) :=
  State.runCmd_mem insQuerySpec_mem s e

@[simp] theorem insSuspendSpec_mem (c : Cmd) (s : State) : (insSuspendSpec.body c s).state.mem = s.mem := by
  simp [insSuspendSpec]

@[simp] theorem execInsSuspend_leavesMem (e : AdminEntry) (s : State) :
    LeavesMem s (execInsSuspend e s) := by
  simp only [execInsSuspend]
  split <;> simp

@[simp] theorem insResumeSpec_mem (c : Cmd) (s : State) : (insResumeSpec.body c s).state.mem = s.mem := by simp [insResumeSpec]

@[simp] theorem execInsResume_leavesMem (e : AdminEntry) (s : State) :
    LeavesMem s (execInsResume e s) :=
  State.runCmd_mem insResumeSpec_mem s e

@[simp] theorem execHostFacingResetEnd_leavesMem (iid : Fin 2048) (s : State) :
    LeavesMem s (execHostFacingResetEnd iid s) := State.hostResetEnd_mem ..

@[simp] theorem State.mgrAdmin_mem (s : State) (v : Nat) : (s.mgrAdmin v).mem = s.mem := by
  simp only [State.mgrAdmin]
  repeat' split
  all_goals simp

@[simp] theorem State.insSel_mem (s : State) (i : Nat) : (s.insSel i).mem = s.mem := by
  simp only [State.insSel]
  exact foldl_mem (by simp) _ _

/-! ## The enable, check and lock of a block -/

@[simp] theorem State.dropBlock_mem (s : State) (b : Nat) : (s.dropBlock b).mem = s.mem := (rfl)

@[simp] theorem State.blkOff_mem (s : State) (b : Nat) : (s.blkOff b).mem = s.mem := (rfl)

@[simp] theorem State.blkApply_mem (s : State) (b v : Nat) : (s.blkApply b v).mem = s.mem := by simp [State.blkApply]

@[simp] theorem State.blkWrite_mem (s : State) (b v : Nat) : (s.blkWrite b v).mem = s.mem := by simp [State.blkWrite]

@[simp] theorem State.blkVerdict_mem (s : State) (b : Nat) : (s.blkVerdict b).mem = s.mem := by
  simp only [State.blkVerdict]
  split <;> simp [-State.setReg_mem, -State.setF_mem, State.mem_setF]

@[simp] theorem State.blkCheckEnd_mem (s : State) (b : Nat) : (s.blkCheckEnd b).mem = s.mem := by
  simp only [State.blkCheckEnd]
  repeat' split
  all_goals simp

@[simp] theorem State.blkBoot_mem (s : State) (b : Nat) : (s.blkBoot b).mem = s.mem :=
  (State.setF_mem ..).trans (State.blkVerdict_mem ..)

/-! ## Operations on the downstream slots and the drives behind them -/

@[simp] theorem State.slotPerst_mem (s : State) (p : Nat) (asserted : Bool) : (s.slotPerst p asserted).mem = s.mem := (rfl)

@[simp] theorem State.slotPowerOn_mem (s : State) (p : Nat) : (s.slotPowerOn p).mem = s.mem := (rfl)

@[simp] theorem State.setTarget_mem (s : State) (p : Nat) (on : Bool) : (s.setTarget p on).mem = s.mem := (rfl)

@[simp] theorem State.slotOff_mem (s : State) (p pwr attn : Nat) : (s.slotOff p pwr attn).mem = s.mem := by simp [State.slotOff]

@[simp] theorem State.linkLost_mem (s : State) (p : Nat) : (s.linkLost p).mem = s.mem := by simp [State.linkLost]

@[simp] theorem State.driveAnswer_mem (s : State) (d : DriveCmd) (status : Nat) : (s.driveAnswer d status).mem = s.mem := by
  simp only [State.driveAnswer]
  split <;> simp

@[simp] theorem State.driveGone_mem (s : State) (d : DriveCmd) : (s.driveGone d).mem = s.mem := by
  simp only [State.driveGone]
  split <;> simp

@[simp] theorem State.failHeld_mem (s : State) (p : Nat) : (s.failHeld p).mem = s.mem := by simp [State.failHeld]

@[simp] theorem State.failDrive_mem (s : State) (p : Nat) : (s.failDrive p).mem = s.mem := by simp [State.failDrive]

@[simp] theorem State.dpc_mem (s : State) (p reason source : Nat) : (s.dpc p reason source).mem = s.mem := by simp [State.dpc]

/-! ## The sequencers -/

@[simp] theorem State.abortConn_mem (s : State) (r : Routine) : (s.abortConn r).mem = s.mem := by
  simp only [State.abortConn]
  repeat' split
  all_goals simp

@[simp] theorem State.drawRegs_mem (s : State) (fuel : Nat) : (s.drawRegs fuel).2.mem = s.mem := by
  induction fuel generalizing s with
  | zero => rfl
  | succ fuel ih => simp [State.drawRegs, ih]

@[simp] theorem ctxPort_leavesMem (s : State) (r : Routine) (o : PortOp) :
    PortLeavesMem s (ctxPort s r o) := by
  simp only [ctxPort]
  repeat' split
  all_goals simp

@[simp] theorem entryPort_leavesMem (s : State) (r : Routine) (o : PortOp) :
    PortLeavesMem s (entryPort s r o) := by
  unfold entryPort
  extract_lets +onlyGivenNames a
  refine (portLeavesMem_ite ..).2 ?_
  split
  · exact rfl
  · split
    · trivial
    · extract_lets +onlyGivenNames bytes
      split
      · split
        · trivial
        · exact rfl
      · split
        · trivial
        · extract_lets +onlyGivenNames touched e' t
          have ht : t.mem = s.mem := by
            unfold t
            split
            · exact State.setConn_mem ..
            · rfl
          exact ht
      · extract_lets +onlyGivenNames st t qp
        have ht : t.mem = s.mem := State.completeAt_mem ..
        exact ite_mem ((State.qpError_mem ..).trans ht) ht
      · exact rfl

@[simp] theorem State.post_mem (s : State) (r : Routine) (o : PortOp) : (s.post r o).mem = s.mem := (rfl)

@[simp] theorem postedPort_leavesMem (s : State) (r : Routine) (o : PortOp) :
    PortLeavesMem s (postedPort s r o) := by simp [postedPort]

@[simp] theorem State.setTimer_mem (s : State) (c : Nat) (b : Bool) : (s.setTimer c b).mem = s.mem := by
  simp only [State.setTimer]
  split <;> simp

@[simp] theorem devPort_leavesMem (s : State) (r : Routine) (o : PortOp) :
    PortLeavesMem s (devPort s r o) := by
  simp only [devPort]
  split <;> simp

/-! ## Meanings of the downstream ports' events and registers -/

@[simp] theorem State.powerOn_mem (s : State) (p : Nat) : (s.powerOn p).mem = s.mem := by
  simp only [State.powerOn]
  split <;> simp

@[simp] theorem State.slotCtl_mem (s : State) (p v : Nat) : (s.slotCtl p v).mem = s.mem := by simp [State.slotCtl]

@[simp] theorem execSlotPowerGood_leavesMem (port : Fin 4) (s : State) :
    LeavesMem s (execSlotPowerGood port s) := by simp [execSlotPowerGood]

@[simp] theorem State.latchPower_mem (s : State) (p : Nat) : (s.latchPower p).mem = s.mem := by simp [State.latchPower]

@[simp] theorem execSlotPowerGoodTimeout_leavesMem (port : Fin 4) (s : State) :
    LeavesMem s (execSlotPowerGoodTimeout port s) := by simp [execSlotPowerGoodTimeout]

@[simp] theorem execSlotLinkActive_leavesMem (port : Fin 4) (rate : BitVec 4) (width : BitVec 5) (s : State) :
    LeavesMem s (execSlotLinkActive port rate width s) := by simp [execSlotLinkActive]

@[simp] theorem execSlotTrainingTimeout_leavesMem (port : Fin 4) (s : State) :
    LeavesMem s (execSlotTrainingTimeout port s) := by simp [execSlotTrainingTimeout]

@[simp] theorem execAttentionButton_leavesMem (port : Fin 4) (s : State) :
    LeavesMem s (execAttentionButton port s) := by
  simp only [execAttentionButton]
  repeat' split
  all_goals simp

@[simp] theorem execRemovalTimeout_leavesMem (port : Fin 4) (s : State) :
    LeavesMem s (execRemovalTimeout port s) := by simp [execRemovalTimeout]

@[simp] theorem execRemovalDrainEnd_leavesMem (port : Fin 4) (s : State) :
    LeavesMem s (execRemovalDrainEnd port s) := by simp [execRemovalDrainEnd]

@[simp] theorem State.dpcStatus_mem (s : State) (p v : Nat) : (s.dpcStatus p v).mem = s.mem := by simp [State.dpcStatus]

/-! ## Resources taken out of service and brought back, for retirement and for test -/

@[simp] theorem State.routineAbort_mem (s : State) (r : Routine) : (s.routineAbort r).mem = s.mem :=
  (State.settleConn_mem ..).trans ((State.abortConn_mem ..).trans (State.dropFrame_mem ..))

@[simp] theorem State.seqLeave_mem (s : State) (q : Nat) : (s.seqLeave q).mem = s.mem := by simp [State.seqLeave]

@[simp] theorem State.portLeave_mem (s : State) (p : Nat) : (s.portLeave p).mem = s.mem := by simp [State.portLeave]

@[simp] theorem State.coreBack_mem (s : State) (k c : Nat) : (s.coreBack k c).mem = s.mem := by simp [State.coreBack]

@[simp] theorem State.regionBack_mem (s : State) (i : Nat) : (s.regionBack i).mem = s.mem := by simp [State.regionBack]

@[simp] theorem State.putBack_mem (s : State) (r : Nat) : (s.putBack r).mem = s.mem := by
  simp only [State.putBack]
  split <;> simp

@[simp] theorem State.runChecker_mem (s : State) (n : Nat) : (s.runChecker n).mem = s.mem := by simp [State.runChecker]

@[simp] theorem State.stopLane_mem (s : State) (n : Nat) : (s.stopLane n).mem = s.mem := by simp [State.stopLane]

@[simp] theorem State.settlePlaced_mem (s : State) : s.settlePlaced.mem = s.mem := by simp [State.settlePlaced]

/-! ## The protocols of the shipped microcode -/

@[simp] theorem State.scatter_mem (s : State) (inst : Nat) (l : List Seg) (fuel : Nat) (l' : List Byte) :
    (s.scatter inst l fuel l').mem = s.mem := by
  induction l generalizing s fuel l' with
  | nil => rfl
  | cons x l ih => simp [State.scatter, ih]

@[simp] theorem State.modConn_mem (s : State) (c : Nat) (f : Conn → Conn) : (s.modConn c f).mem = s.mem := by
  simp only [State.modConn]
  split <;> simp

@[simp] theorem State.qpFail_mem (s : State) (c index status : Nat) : (s.qpFail c index status).mem = s.mem :=
  (State.qpError_mem ..).trans (State.completeAt_mem ..)

@[simp] theorem State.qpFailOldest_mem (s : State) (c status : Nat) : (s.qpFailOldest c status).mem = s.mem := by
  simp only [State.qpFailOldest]
  split <;> simp

@[simp] theorem State.qpAcked_mem (s : State) (c psn : Nat) : (s.qpAcked c psn).mem = s.mem := by
  simp only [State.qpAcked]
  split <;> simp

@[simp] theorem State.readResponse_mem (s : State) (c psn : Nat) (bytes : List Byte) :
    (s.readResponse c psn bytes).mem = s.mem := by
  simp only [State.readResponse]
  repeat' split
  all_goals simp

@[simp] theorem State.cnpIn_mem (s : State) (c : Nat) : (s.cnpIn c).mem = s.mem := by
  simp only [State.cnpIn]
  split <;> simp

@[simp] theorem State.rateRise_mem (s : State) (c : Nat) : (s.rateRise c).mem = s.mem := State.modConn_mem ..

@[simp] theorem State.nvmeData_mem (s : State) (c index offset : Nat) (bytes : List Byte) :
    (s.nvmeData c index offset bytes).mem = s.mem := by
  simp only [State.nvmeData]
  repeat' split
  all_goals simp

@[simp] theorem State.nvmeDone_mem (s : State) (c index : Nat) (cqe : List Word) : (s.nvmeDone c index cqe).mem = s.mem := by
  simp only [State.nvmeDone]
  repeat' split
  all_goals simp

@[simp] theorem State.remotePut_mem (s : State) (qp owner key addr : Nat) (bs : List Byte) :
    (s.remotePut qp owner key addr bs).mem = s.mem := by
  simp only [State.remotePut]
  repeat' split
  all_goals simp

theorem State.takeRecv_mem {s t : State} {v : Conn} {e : WorkEntry} (h : s.takeRecv v = some (e, t)) : t.mem = s.mem := by
  revert h
  unfold State.takeRecv
  split <;> rintro ⟨⟩
  rfl

@[simp] theorem State.recvDone_mem (s : State) (v : Conn) (e : WorkEntry) (bytes : Nat) (imm : Option Nat) (solicited : Bool) :
    (s.recvDone v e bytes imm solicited).mem = s.mem := State.completeWork_mem ..

@[simp] theorem State.pduOut_mem (s : State) (c : Nat) (v : Conn) (bytes : List Byte) : (s.pduOut c v bytes).mem = s.mem := by
  simp only [State.pduOut]
  split
  · simp
  · refine foldl_mem (fun s i => ?_) _ _
    split
    next h => simp [mem_of_eq h]
    next => rfl

@[simp] theorem State.connectFail_mem (s : State) (c cause : Nat) : (s.connectFail c cause).mem = s.mem := by
  simp only [State.connectFail]
  split <;> simp

@[simp] theorem State.h2cData_mem (s : State) (c index ttag offset : Nat) (data : List Byte) :
    (s.h2cData c index ttag offset data).mem = s.mem := by
  simp only [State.h2cData]
  split <;> simp

@[simp] theorem State.tcpRto_mem (s : State) (c : Nat) : (s.tcpRto c).mem = s.mem := by
  simp only [State.tcpRto]
  split <;> simp

@[simp] theorem State.driveDone_mem (s : State) (c index : Nat) (cqe : List Word) (data : List Byte) :
    (s.driveDone c index cqe data).mem = s.mem := by
  simp only [State.driveDone]
  repeat' split
  all_goals simp

@[simp] theorem State.settleKeys_mem (s : State) : s.settleKeys.mem = s.mem := by
  simp only [State.settleKeys]
  refine foldl_mem (fun s e => ?_) _ _
  repeat' split
  all_goals simp

@[simp] theorem State.takeFrameOf_mem (s : State) (q c : Nat) : (s.takeFrameOf q c).2.mem = s.mem := by
  simp only [State.takeFrameOf]
  split <;> simp

/-! ## Meanings of the sequencers' events and commands -/

@[simp] theorem State.refetch_mem (s : State) (q : Nat) : (s.refetch q).mem = s.mem := by simp [State.refetch]

@[simp] theorem execConnectionTimerExpiry_leavesMem (conn : BitVec 16) (s : State) :
    LeavesMem s (execConnectionTimerExpiry conn s) := by
  simp only [execConnectionTimerExpiry]
  split <;> simp

@[simp] theorem State.driveEnd_mem (s : State) (d : DriveCmd) (status : Nat) : (s.driveEnd d status).mem = s.mem := by
  simp only [State.driveEnd]
  split <;> simp

@[simp] theorem execDriveCommandTimeout_leavesMem (index : BitVec 16) (s : State) :
    LeavesMem s (execDriveCommandTimeout index s) := by
  simp only [execDriveCommandTimeout]
  repeat' split
  all_goals simp

@[simp] theorem State.workEntry_mem (s : State) (q : Nat) (w : List Word) : (s.workEntry q w).mem = s.mem := by
  unfold State.workEntry
  split
  next => rfl
  next c v _ =>
    extract_lets +onlyGivenNames recv need
    refine State.readEntry_mem _ _ _ _ _ fun len => ?_
    extract_lets +onlyGivenNames fault
    clear_value fault
    split
    next => exact State.endEntry_mem ..
    next =>
      refine ite_mem ?_ ?_
      · extract_lets +onlyGivenNames t
        exact (State.endEntry_mem ..).trans (ite_mem (State.bump_mem ..) rfl)
      · extract_lets +onlyGivenNames x w0 e t psq u
        have ht : t.mem = s.mem := State.takeUnits_mem ..
        have hu : u.mem = s.mem := ite_mem ht ((State.setConn_mem ..).trans ht)
        rw [State.fetched_mem, State.trigger_mem, hu]

@[simp] theorem execWorkEntryFetch_leavesMem (qid : BitVec 16) (words : List Word) (s : State) :
    LeavesMem s (execWorkEntryFetch qid words s) := State.workEntry_mem ..

@[simp] theorem psqUcodeStageSpec_mem (c : Cmd) (s : State) : (psqUcodeStageSpec.body c s).state.mem = s.mem := by
  unfold psqUcodeStageSpec
  with_reducible change (Cmd.checked c s _ _).state.mem = s.mem
  refine Cmd.checked_mem _ (guards_mem (by simp) ?_)
  obtain ⟨u, hu⟩ : ∃ u, s.readImage c none = u := ⟨_, rfl⟩
  have e : u.mem = s.mem := by rw [← hu, State.readImage_mem]
  rw [hu]
  extract_lets t drop
  unfold drop t
  refine (withClaims_mem (withImage_mem _ ?_)).trans e
  rw [Res.state_pend]
  refine (foldl_mem_of_eq (fun s g t h => ?_) _ _).trans (State.takeClaims_mem ..)
  beta_reduce at h
  rw [← h]
  exact State.markMram_mem ..

@[simp] theorem execPsqUcodeStage_leavesMem (e : AdminEntry) (s : State) :
    LeavesMem s (execPsqUcodeStage e s) :=
  State.runCmd_mem psqUcodeStageSpec_mem s e

@[simp] theorem psqBankSwapSpec_mem (c : Cmd) (s : State) : (psqBankSwapSpec.body c s).state.mem = s.mem := by
  simp [psqBankSwapSpec]

@[simp] theorem State.newConn_mem {s : State} {body : Nat → State → Res} (v : Conn)
    (h : ∀ n t, (body n t).state.mem = t.mem) : (s.newConn v body).state.mem = s.mem := by
  simp only [State.newConn, guards_cons, guards_nil]
  split
  · simp
  · split
    · simp
    · split <;> simp [h]

@[simp] theorem rdmaQpCreateSpec_mem (c : Cmd) (s : State) : (rdmaQpCreateSpec.body c s).state.mem = s.mem := by
  simp [rdmaQpCreateSpec]

@[simp] theorem execRdmaQpCreate_leavesMem (e : AdminEntry) (s : State) :
    LeavesMem s (execRdmaQpCreate e s) :=
  State.runCmd_mem rdmaQpCreateSpec_mem s e

@[simp] theorem State.finishGone_mem (s : State) : s.finishGone.mem = s.mem := by simp [State.finishGone]

theorem destroySpec_mem {close : Nat → State → State} (op : Nat) (kind : ConnKind)
    (h : ∀ n s, (close n s).mem = s.mem) (c : Cmd) (s : State) :
    ((destroySpec op kind close).body c s).state.mem = s.mem := by
  simp only [destroySpec, Cmd.checked_state]
  split
  · split
    · rfl
    · exact h ..
  · rfl

@[simp] theorem execRdmaQpDestroy_leavesMem (e : AdminEntry) (s : State) :
    LeavesMem s (execRdmaQpDestroy e s) := by
  rw [execRdmaQpDestroy, leavesMem_next, State.finishGone_mem]
  exact State.runCmd_mem (destroySpec_mem _ _ fun n s => State.closeConn_mem ..) _ _

@[simp] theorem rdmaMrRegisterSpec_mem (c : Cmd) (s : State) : (rdmaMrRegisterSpec.body c s).state.mem = s.mem := by
  dsimp -zeta only [rdmaMrRegisterSpec]
  refine Cmd.checked_mem _ ?_
  extract_lets +onlyGivenNames i len mine
  refine guards_mem (by simp) ?_
  have hd : s.draw.2.draw.2.mem = s.mem := (State.draw_mem ..).trans (State.draw_mem ..)
  split
  · exact hd
  · exact hd

@[simp] theorem execRdmaMrRegister_leavesMem (e : AdminEntry) (s : State) :
    LeavesMem s (execRdmaMrRegister e s) :=
  State.runCmd_mem rdmaMrRegisterSpec_mem s e

@[simp] theorem rdmaMrDeregisterSpec_mem (c : Cmd) (s : State) : (rdmaMrDeregisterSpec.body c s).state.mem = s.mem := by
  simp only [rdmaMrDeregisterSpec]
  split <;> simp

@[simp] theorem execRdmaMrDeregister_leavesMem (e : AdminEntry) (s : State) :
    LeavesMem s (execRdmaMrDeregister e s) := by simp [execRdmaMrDeregister]

@[simp] theorem nvmeCtrlConnectSpec_mem (c : Cmd) (s : State) : (nvmeCtrlConnectSpec.body c s).state.mem = s.mem := by
  dsimp -zeta only [nvmeCtrlConnectSpec]
  refine Cmd.checked_mem _ ?_
  extract_lets +onlyGivenNames i roce tls qp used qpBad ring
  refine guards_mem (by simp) ?_
  refine State.newConn_mem _ fun n t => ?_
  exact Res.ite_mem rfl rfl

@[simp] theorem execNvmeCtrlConnect_leavesMem (e : AdminEntry) (s : State) :
    LeavesMem s (execNvmeCtrlConnect e s) :=
  State.runCmd_mem nvmeCtrlConnectSpec_mem s e

@[simp] theorem execNvmeCtrlDisconnect_leavesMem (e : AdminEntry) (s : State) :
    LeavesMem s (execNvmeCtrlDisconnect e s) := by
  rw [execNvmeCtrlDisconnect, leavesMem_next, State.finishGone_mem]
  exact State.runCmd_mem (destroySpec_mem _ _ fun n s => State.closeConn_mem ..) _ _

@[simp] theorem nvmeLocalNsAttachSpec_mem (c : Cmd) (s : State) : (nvmeLocalNsAttachSpec.body c s).state.mem = s.mem := by
  simp [nvmeLocalNsAttachSpec]

@[simp] theorem execNvmeLocalNsAttach_leavesMem (e : AdminEntry) (s : State) :
    LeavesMem s (execNvmeLocalNsAttach e s) :=
  State.runCmd_mem nvmeLocalNsAttachSpec_mem s e

@[simp] theorem State.detach_mem (s : State) (n : Nat) : (s.detach n).mem = s.mem := by
  simp only [State.detach]
  split <;> simp

@[simp] theorem execNvmeLocalNsDetach_leavesMem (e : AdminEntry) (s : State) :
    LeavesMem s (execNvmeLocalNsDetach e s) := by
  rw [execNvmeLocalNsDetach, leavesMem_next, State.finishGone_mem]
  exact State.runCmd_mem (destroySpec_mem _ _ fun n s => State.detach_mem ..) _ _

/-! ## Fundamental reset, secure boot and the application of a snapshot -/

@[simp] theorem State.sampleStraps_mem (s : State) : s.sampleStraps.mem = s.mem := (rfl)

@[simp] theorem State.readBoard_mem (s : State) : s.readBoard.mem = s.mem := by simp [State.readBoard]

@[simp] theorem State.reapplyRetired_mem (s : State) : s.reapplyRetired.mem = s.mem := by
  simp only [State.reapplyRetired, State.showRetired_mem]
  refine (foldl_mem (fun s r => ?_) _ _).trans rfl
  split <;> simp

@[simp] theorem State.senseSlots_mem (s : State) (old : NMap Slot) : (s.senseSlots old).mem = s.mem := by
  simp [State.senseSlots]

@[simp] theorem State.bootStart_mem (s : State) (cause : Nat) : (s.bootStart cause).mem = s.mem := by
  rw [State.bootStart, State.raiseEs_mem, State.setF_mem, State.pairsUp_mem, State.setF_mem, State.setMode_mem]

@[simp] theorem State.loaderStart_mem (s : State) : s.loaderStart.mem = s.mem := by simp [State.loaderStart]

@[simp] theorem State.setBank_mem (s : State) (b : Nat) (v : BankInfo) : (s.setBank b v).mem = s.mem := (rfl)

@[simp] theorem State.bankCheck_mem (s : State) (b : Nat) : (s.bankCheck b).2.mem = s.mem := by
  unfold State.bankCheck
  split <;> simp

@[simp] theorem State.bootBank_mem (s : State) : s.bootBank.2.mem = s.mem := by
  obtain ⟨x, hx⟩ : ∃ x, s.bootBank = x := ⟨_, rfl⟩
  rw [hx]
  delta State.bootBank at hx
  extract_lets a at hx
  split at hx
  next h => rw [← hx, mem_of_eq h, State.bankCheck_mem]
  next h =>
    split at hx
    next h' =>
      rw [← hx]
      split <;> simp [mem_of_eq h', mem_of_eq h]
    next h' => rw [← hx, mem_of_eq h', State.bankCheck_mem, mem_of_eq h, State.bankCheck_mem]

@[simp] theorem State.setRunning_mem (s : State) (p b : Nat) : (s.setRunning p b).mem = s.mem := (rfl)

@[simp] theorem State.bootGroup_mem (s : State) (g : Nat) : (s.bootGroup g).mem = s.mem := (rfl)

@[simp] theorem State.seedTime_mem (s : State) : s.seedTime.mem = s.mem := by
  unfold State.seedTime
  extract_lets +onlyGivenNames good t time u h
  have hu : u.mem = s.mem := State.setF_mem ..
  clear_value u
  refine ite_mem hu ?_
  split
  · exact (State.claimRefused_mem ..).trans hu
  · exact (State.takeClaims_mem ..).trans hu

@[simp] theorem State.restoreClaim_mem (s : State) (c : Nat × Nat) : (s.restoreClaim c).mem = s.mem := by
  simp only [State.restoreClaim]
  repeat' split
  all_goals simp

@[simp] theorem State.restoreWin_mem (s : State) (n : Nat) (w : PeerWin) : (s.restoreWin n w).mem = s.mem := by
  simp [State.restoreWin]

@[simp] theorem State.restoreRegion_mem (s : State) (r : Nat) (v : Region) : (s.restoreRegion r v).mem = s.mem := by
  simp [State.restoreRegion]

/-! ## Meanings of the supplies, the power limit and the thermal events -/

@[simp] theorem State.mainGood_mem (s : State) : s.mainGood.mem = s.mem := by simp [State.mainGood]

@[simp] theorem State.setStraps_mem (s : State) (boot : Nat) (retainN mgpDis : Bool) :
    (s.setStraps boot retainN mgpDis).mem = s.mem := (rfl)

@[simp] theorem execMainSuppliesGood_leavesMem (strapBoot : BitVec 2) (strapRetainN strapMgpDis : Bool) (s : State) :
    LeavesMem s (execMainSuppliesGood strapBoot strapRetainN strapMgpDis s) := by simp [execMainSuppliesGood]

@[simp] theorem execSequencingFault_leavesMem (s : State) :
    LeavesMem s (execSequencingFault s) := by simp [execSequencingFault]

@[simp] theorem execAuxSuppliesGood_leavesMem (strapBoot : BitVec 2) (strapRetainN strapMgpDis : Bool) (s : State) :
    LeavesMem s (execAuxSuppliesGood strapBoot strapRetainN strapMgpDis s) := by
  unfold execAuxSuppliesGood
  rw [leavesMem_next]
  refine ite_mem rfl ?_
  extract_lets +onlyGivenNames t u v w wake time x
  have ht : t.mem = s.mem := State.resetRegs_mem ..
  have hv : v.mem = s.mem := ht
  have hw : w.mem = s.mem := by
    rw [State.raiseEs_mem, State.readBoard_mem, State.sampleStraps_mem, State.setStraps_mem, hv]
  clear_value w
  refine ite_mem ((State.mainGood_mem ..).trans hw) ?_
  extract_lets +onlyGivenNames y
  have hy : y.mem = s.mem := (State.raiseEs_mem ..).trans hw
  exact ite_mem ((State.raiseEs_mem ..).trans hy) hy

@[simp] theorem execVbatSample_leavesMem (mv : BitVec 12) (s : State) :
    LeavesMem s (execVbatSample mv s) := by simp [execVbatSample]

@[simp] theorem execRailExcursion_leavesMem (s : State) :
    LeavesMem s (execRailExcursion s) := by simp [execRailExcursion]

@[simp] theorem State.enterThrottle_mem (s : State) : s.enterThrottle.mem = s.mem := by simp [State.enterThrottle]

@[simp] theorem State.leaveThrottle_mem (s : State) : s.leaveThrottle.mem = s.mem := by simp [State.leaveThrottle]

@[simp] theorem execPowerSample_leavesMem (rails : Vector (BitVec 12 × BitVec 12) 11) (average : BitVec 16) (s : State) :
    LeavesMem s (execPowerSample rails average s) := by
  unfold execPowerSample
  rw [leavesMem_next]
  split
  · rfl
  · extract_lets rs t ok u w
    have hw : w.mem = s.mem := by
      unfold w u t
      rw [State.setReg_mem, State.setReg_mem]
      exact foldl_mem (fun _ _ => State.setReg_mem ..) _ _
    split <;> simp [hw]

@[simp] theorem execPowerLimitClear_leavesMem (s : State) :
    LeavesMem s (execPowerLimitClear s) := by simp [execPowerLimitClear]

@[simp] theorem State.limitWrite_mem (s : State) (v : Nat) : (s.limitWrite v).mem = s.mem := by simp [State.limitWrite]

@[simp] theorem State.readTemps_mem (s : State) (temps : List (BitVec 16)) : (s.readTemps temps).2.mem = s.mem := by
  simp only [State.readTemps]
  exact foldl_mem (by simp) _ _

@[simp] theorem execThermalWarning_leavesMem (temps : Vector (BitVec 16) 16) (s : State) :
    LeavesMem s (execThermalWarning temps s) := by
  simp only [execThermalWarning]
  repeat' split
  all_goals simp

@[simp] theorem execThermalThrottle_leavesMem (temps : Vector (BitVec 16) 16) (s : State) :
    LeavesMem s (execThermalThrottle temps s) := by simp [execThermalThrottle]

@[simp] theorem execThrottleExit_leavesMem (temps : Vector (BitVec 16) 16) (s : State) :
    LeavesMem s (execThrottleExit temps s) := by simp [execThrottleExit]

@[simp] theorem State.thermWrite_mem (s : State) (v : Nat) : (s.thermWrite v).mem = s.mem := by simp [State.thermWrite]

/-! ## Meanings of modes, Keeper pairs and island resets -/

@[simp] theorem execStandbyPairReady_leavesMem (s : State) :
    LeavesMem s (execStandbyPairReady s) := by
  simp only [execStandbyPairReady, leavesMem_next]
  split
  · rfl
  · split
    next h => simp [mem_of_eq h]
    next h => simp [mem_of_eq h]

@[simp] theorem execIslandResetEnd_leavesMem (s : State) :
    LeavesMem s (execIslandResetEnd s) := by
  simp only [execIslandResetEnd]
  split <;> simp

/-! ## Meanings of the parser and classifier commands -/

@[simp] theorem prsGraphWriteSpec_mem (c : Cmd) (s : State) : (prsGraphWriteSpec.body c s).state.mem = s.mem := by
  dsimp -zeta only [prsGraphWriteSpec]
  refine Res.ite_mem (badParam_mem ..) (Cmd.checked_mem _ ?_)
  extract_lets +onlyGivenNames object first count size broken
  refine guards_mem (by simp) ?_
  extract_lets +onlyGivenNames base b
  refine Res.ite_mem rfl ?_
  split
  next => exact State.raiseEs_mem ..
  next =>
    extract_lets +onlyGivenNames bank t u
    have hu : u.mem = s.mem := by
      rw [State.setF_mem, State.setF_mem, State.swapBank_mem]
    rw [Res.state_ok, State.raiseEs_mem, State.bump_mem, hu]

@[simp] theorem execPrsGraphWrite_leavesMem (e : AdminEntry) (s : State) :
    LeavesMem s (execPrsGraphWrite e s) :=
  State.runCmd_mem prsGraphWriteSpec_mem s e

@[simp] theorem clsRuleWriteSpec_mem (c : Cmd) (s : State) : (clsRuleWriteSpec.body c s).state.mem = s.mem := by
  dsimp -zeta only [clsRuleWriteSpec]
  refine Cmd.checked_mem _ ?_
  extract_lets +onlyGivenNames stage kind value owner key mask create bits kindBad
  refine guards_mem (by simp) ?_
  extract_lets +onlyGivenNames rule cls put
  have hp : ∀ k n, (put k n).mem = s.mem := fun _ _ => rfl
  clear_value put rule
  refine Res.ite_mem (hp ..) ?_
  split
  next => exact quotaExceeded_mem _
  next => exact noResource_mem _
  next =>
    split
    · exact noResource_mem _
    · exact hp ..

@[simp] theorem execClsRuleWrite_leavesMem (e : AdminEntry) (s : State) :
    LeavesMem s (execClsRuleWrite e s) :=
  State.runCmd_mem clsRuleWriteSpec_mem s e

@[simp] theorem clsRuleDeleteSpec_mem (c : Cmd) (s : State) : (clsRuleDeleteSpec.body c s).state.mem = s.mem := by
  simp only [clsRuleDeleteSpec]
  split <;> simp

@[simp] theorem execClsRuleDelete_leavesMem (e : AdminEntry) (s : State) :
    LeavesMem s (execClsRuleDelete e s) :=
  State.runCmd_mem clsRuleDeleteSpec_mem s e

@[simp] theorem clsHashCfgSpec_mem (c : Cmd) (s : State) : (clsHashCfgSpec.body c s).state.mem = s.mem := by
  simp [clsHashCfgSpec]

@[simp] theorem execClsHashCfg_leavesMem (e : AdminEntry) (s : State) :
    LeavesMem s (execClsHashCfg e s) :=
  State.runCmd_mem clsHashCfgSpec_mem s e

@[simp] theorem clsExcPolicerSpec_mem (c : Cmd) (s : State) : (clsExcPolicerSpec.body c s).state.mem = s.mem := by
  simp [clsExcPolicerSpec]

@[simp] theorem execClsExcPolicer_leavesMem (e : AdminEntry) (s : State) :
    LeavesMem s (execClsExcPolicer e s) :=
  State.runCmd_mem clsExcPolicerSpec_mem s e

@[simp] theorem execExcPolicerRefill_leavesMem (s : State) :
    LeavesMem s (execExcPolicerRefill s) := by simp [execExcPolicerRefill]

/-! ## Meanings of the device commands of the third chapter -/

@[simp] theorem devIdentifySpec_mem (c : Cmd) (s : State) : (devIdentifySpec.body c s).state.mem = s.mem := (rfl)

@[simp] theorem execDevIdentify_leavesMem (e : AdminEntry) (s : State) :
    LeavesMem s (execDevIdentify e s) :=
  State.runCmd_mem devIdentifySpec_mem s e

@[simp] theorem devNopSpec_mem (c : Cmd) (s : State) : (devNopSpec.body c s).state.mem = s.mem := (rfl)

@[simp] theorem execDevNop_leavesMem (e : AdminEntry) (s : State) :
    LeavesMem s (execDevNop e s) :=
  State.runCmd_mem devNopSpec_mem s e

@[simp] theorem devClaimQuerySpec_mem (c : Cmd) (s : State) : (devClaimQuerySpec.body c s).state.mem = s.mem := by
  simp [devClaimQuerySpec]

@[simp] theorem execDevClaimQuery_leavesMem (e : AdminEntry) (s : State) :
    LeavesMem s (execDevClaimQuery e s) :=
  State.runCmd_mem devClaimQuerySpec_mem s e

/-! ## Meanings of firmware staging and activation, of the recovery image -/

@[simp] theorem devImageStageSpec_mem (c : Cmd) (s : State) : (devImageStageSpec.body c s).state.mem = s.mem := by
  simp [devImageStageSpec]

@[simp] theorem execDevImageStage_leavesMem (e : AdminEntry) (s : State) :
    LeavesMem s (execDevImageStage e s) :=
  State.runCmd_mem devImageStageSpec_mem s e

@[simp] theorem devImageActivateSpec_mem (c : Cmd) (s : State) : (devImageActivateSpec.body c s).state.mem = s.mem := by
  simp [devImageActivateSpec]

@[simp] theorem execDevImageActivate_leavesMem (e : AdminEntry) (s : State) :
    LeavesMem s (execDevImageActivate e s) :=
  State.runCmd_mem devImageActivateSpec_mem s e

@[simp] theorem execActivationTimeout_leavesMem (s : State) :
    LeavesMem s (execActivationTimeout s) := by simp [execActivationTimeout]

@[simp] theorem execActivationVerifyFail_leavesMem (s : State) :
    LeavesMem s (execActivationVerifyFail s) := by
  simp only [execActivationVerifyFail]
  repeat' split
  all_goals simp

@[simp] theorem devImageQuerySpec_mem (c : Cmd) (s : State) : (devImageQuerySpec.body c s).state.mem = s.mem := by
  simp [devImageQuerySpec]

@[simp] theorem execDevImageQuery_leavesMem (e : AdminEntry) (s : State) :
    LeavesMem s (execDevImageQuery e s) :=
  State.runCmd_mem devImageQuerySpec_mem s e

@[simp] theorem devSnapshotSaveSpec_mem (c : Cmd) (s : State) : (devSnapshotSaveSpec.body c s).state.mem = s.mem := by
  simp [devSnapshotSaveSpec]

@[simp] theorem execDevSnapshotSave_leavesMem (e : AdminEntry) (s : State) :
    LeavesMem s (execDevSnapshotSave e s) :=
  State.runCmd_mem devSnapshotSaveSpec_mem s e

@[simp] theorem devSnapshotQuerySpec_mem (c : Cmd) (s : State) : (devSnapshotQuerySpec.body c s).state.mem = s.mem := by
  simp [devSnapshotQuerySpec]

@[simp] theorem execDevSnapshotQuery_leavesMem (e : AdminEntry) (s : State) :
    LeavesMem s (execDevSnapshotQuery e s) :=
  State.runCmd_mem devSnapshotQuerySpec_mem s e

/-! ## Meanings of the line ports, the management port and MCTP messages -/

@[simp] theorem portModeSetSpec_mem (c : Cmd) (s : State) : (portModeSetSpec.body c s).state.mem = s.mem := by
  simp [portModeSetSpec]

@[simp] theorem execPortModeSet_leavesMem (e : AdminEntry) (s : State) :
    LeavesMem s (execPortModeSet e s) := by
  simp only [execPortModeSet]
  split <;> simp

@[simp] theorem execPortLinkChange_leavesMem (port : Fin 8) (up : Bool) (s : State) :
    LeavesMem s (execPortLinkChange port up s) := by simp [execPortLinkChange]

@[simp] theorem portCfgSpec_mem (c : Cmd) (s : State) : (portCfgSpec.body c s).state.mem = s.mem := by simp [portCfgSpec]

@[simp] theorem execPortCfg_leavesMem (e : AdminEntry) (s : State) :
    LeavesMem s (execPortCfg e s) :=
  State.runCmd_mem portCfgSpec_mem s e

@[simp] theorem portStatsReadSpec_mem (c : Cmd) (s : State) : (portStatsReadSpec.body c s).state.mem = s.mem := by
  dsimp -zeta only [portStatsReadSpec]
  refine Cmd.checked_mem _ ?_
  extract_lets +onlyGivenNames p first n
  refine guards_mem (by simp) ?_
  extract_lets +onlyGivenNames v ks ws t
  have ht : t.mem = s.mem := ite_mem (State.setPort_mem ..) rfl
  exact Res.ite_mem ((State.emit_mem ..).trans ht) ht

@[simp] theorem execPortStatsRead_leavesMem (e : AdminEntry) (s : State) :
    LeavesMem s (execPortStatsRead e s) :=
  State.runCmd_mem portStatsReadSpec_mem s e

@[simp] theorem portPfcCfgSpec_mem (c : Cmd) (s : State) : (portPfcCfgSpec.body c s).state.mem = s.mem := by
  dsimp -zeta only [portPfcCfgSpec]
  refine Cmd.checked_mem _ ?_
  extract_lets +onlyGivenNames p prio on v rest room others
  refine guards_mem (by simp) (Res.ite_mem ?_ (guards_mem (by simp) (withClaims_mem ?_)))
  · extract_lets +onlyGivenNames t u
    have ht : t.mem = s.mem := State.setPort_mem ..
    have hu : u.mem = s.mem := ite_mem ((State.raiseEs_mem ..).trans ((State.sendPause_mem ..).trans ht)) ht
    exact ite_mem ((State.dropClaim_mem ..).trans hu) hu
  · rw [Res.state_ok, State.settleAccount_mem, State.setPort_mem, State.takeClaims_mem]

@[simp] theorem execPortPfcCfg_leavesMem (e : AdminEntry) (s : State) :
    LeavesMem s (execPortPfcCfg e s) :=
  State.runCmd_mem portPfcCfgSpec_mem s e

@[simp] theorem execPauseRepeat_leavesMem (port prio : Fin 8) (s : State) :
    LeavesMem s (execPauseRepeat port prio s) := by
  simp only [execPauseRepeat]
  split <;> simp

@[simp] theorem State.honourPause_mem (s : State) (p enable : Nat) (quanta : List Nat) :
    (s.honourPause p enable quanta).mem = s.mem := (rfl)

@[simp] theorem execPauseFrameReceived_leavesMem (port : Fin 8) (pfc : Bool) (enable : BitVec 8) (quanta : Vector (BitVec 16) 8)
    (s : State) : LeavesMem s (execPauseFrameReceived port pfc enable quanta s) := by simp [execPauseFrameReceived]

@[simp] theorem execPauseExpiry_leavesMem (port cls : Fin 8) (s : State) :
    LeavesMem s (execPauseExpiry port cls s) := by simp [execPauseExpiry]

@[simp] theorem execMgpFrameReceived_leavesMem (frame : List Byte) (s : State) :
    LeavesMem s (execMgpFrameReceived frame s) := by simp [execMgpFrameReceived]

@[simp] theorem execMgpLinkChange_leavesMem (up : Bool) (speed : Fin 3) (full : Bool) (s : State) :
    LeavesMem s (execMgpLinkChange up speed full s) := by simp [execMgpLinkChange]

@[simp] theorem execMgpCollision_leavesMem (frame : List Byte) (late : Bool) (s : State) :
    LeavesMem s (execMgpCollision frame late s) := by simp [execMgpCollision]

@[simp] theorem execBackoffExpiry_leavesMem (s : State) :
    LeavesMem s (execBackoffExpiry s) := by
  simp only [execBackoffExpiry]
  split <;> simp

@[simp] theorem execSmbusBusError_leavesMem (s : State) :
    LeavesMem s (execSmbusBusError s) := by simp [execSmbusBusError]

@[simp] theorem State.mctpMessage_mem (s : State) (src type : Nat) (setEid : Option Nat) (complete : Bool) :
    (s.mctpMessage src type setEid complete).mem = s.mem := by
  simp only [State.mctpMessage]
  split <;> simp

@[simp] theorem execMctpControlMessage_leavesMem (src : BitVec 8) (setEid : Option Byte) (complete : Bool) (s : State) :
    LeavesMem s (execMctpControlMessage src setEid complete s) := State.mctpMessage_mem ..

@[simp] theorem execSpdmMessage_leavesMem (src : BitVec 8) (complete : Bool) (s : State) :
    LeavesMem s (execSpdmMessage src complete s) := State.mctpMessage_mem ..

@[simp] theorem execYadopex_leavesMem (src : BitVec 8) (entry : List Word) (complete : Bool) (s : State) :
    LeavesMem s (execYadopex src entry complete s) := by
  simp only [execYadopex]
  split <;> simp

@[simp] theorem execWake_leavesMem (src : BitVec 8) (s : State) :
    LeavesMem s (execWake src s) := by
  simp only [execWake]
  split <;> simp

/-! ## Meanings of the queue manager's events and commands -/

@[simp] theorem State.ringDoorbell_mem (s : State) (iid loc : Nat) (p : QCtx → Bool) (value : Nat) (arm : Bool) :
    (s.ringDoorbell iid loc p value arm).mem = s.mem := by
  simp only [State.ringDoorbell]
  repeat' split
  all_goals simp

@[simp] theorem execDoorbellWrite_leavesMem (iid : Fin 2048) (loc : BitVec 16) (value : Word) (s : State) :
    LeavesMem s (execDoorbellWrite iid loc value s) := State.ringDoorbell_mem ..

@[simp] theorem execEvqDoorbellWrite_leavesMem (iid : Fin 2048) (loc : BitVec 16) (value : Word) (arm : Bool) (s : State) :
    LeavesMem s (execEvqDoorbellWrite iid loc value arm s) := State.ringDoorbell_mem ..

@[simp] theorem execContextFillComplete_leavesMem (qid : BitVec 16) (ok : Bool) (s : State) :
    LeavesMem s (execContextFillComplete qid ok s) := by simp [execContextFillComplete]

@[simp] theorem State.readSegs_mem (s : State) (q : Nat) (words : List Word) : (s.readSegs q words).mem = s.mem := by
  simp [State.readSegs]

@[simp] theorem State.segFailed_mem (s : State) (q : Nat) (p : SegRead) : (s.segFailed q p).mem = s.mem := by
  simp only [State.segFailed]
  repeat' split
  all_goals simp

@[simp] theorem State.rxBuffer_mem (s : State) (q : Nat) (words : List Word) : (s.rxBuffer q words).mem = s.mem := by
  unfold State.rxBuffer
  extract_lets +onlyGivenNames bytes
  refine State.readEntry_mem _ _ _ _ _ fun len => ?_
  extract_lets +onlyGivenNames reserved
  refine ite_mem (State.endEntry_mem ..) ?_
  split
  next => exact State.endEntry_mem ..
  next =>
    extract_lets +onlyGivenNames c w0 tag notify
    refine ite_mem (State.endEntry_mem ..) ?_
    extract_lets +onlyGivenNames b t ctx u
    rw [State.fetched_mem, State.rxDrain_mem, State.setQ_mem, State.takeUnits_mem]

@[simp] theorem execRxBuffer_leavesMem (qid : BitVec 16) (words : List Word) (s : State) :
    LeavesMem s (execRxBuffer qid words s) := State.rxBuffer_mem ..

@[simp] theorem execPadEntry_leavesMem (qid : BitVec 16) (words : List Word) (s : State) :
    LeavesMem s (execPadEntry qid words s) := by simp [execPadEntry]

@[simp] theorem execCoalesceTimerExpiry_leavesMem (qid : BitVec 16) (s : State) :
    LeavesMem s (execCoalesceTimerExpiry qid s) := by
  simp only [execCoalesceTimerExpiry]
  split <;> simp

theorem State.evqCheck_mem {s : State} {i w : Nat} {f : State → Res} (h : (s.evqCheck i w).2 = some f) (t : State) :
    (f t).state.mem = t.mem := by
  unfold State.evqCheck at h
  extract_lets evq v at h
  split at h
  · dsimp only at h
    split at h
    · cases h
    · exact Option.some.inj h ▸ rfl
  · split at h
    · exact Option.some.inj h ▸ rfl
    · dsimp only at h
      split at h
      · cases h
      · exact Option.some.inj h ▸ rfl

@[simp] theorem State.evqCheck_getD_mem (s t : State) (i w : Nat) :
    ((s.evqCheck i w).2.getD notFound t).state.mem = t.mem := by
  cases h : (s.evqCheck i w).2 with
  | none => rfl
  | some f => exact State.evqCheck_mem h t

@[simp] theorem State.evqCheck_ite_mem (b : Prop) [Decidable b] (s t : State) (i w : Nat) (v : Option Nat) :
    ((if b then s.evqCheck i w else (v, none)).2.getD notFound t).state.mem = t.mem := by
  split <;> simp [notFound]

@[simp] theorem State.newQueue_mem (s : State) (i : Nat) (c : QCtx) : (s.newQueue i c).state.mem = s.mem := by
  unfold State.newQueue
  extract_lets pool
  simp only [guards_cons, guards_nil]
  split
  · simp
  · split
    · simp
    · split
      · simp
      · split
        next h => simp [mem_of_eq h]
        next h => simp [mem_of_eq h]

@[simp] theorem queueCreateSpec_mem (c : Cmd) (s : State) : (queueCreateSpec.body c s).state.mem = s.mem := by
  dsimp -zeta only [queueCreateSpec]
  refine Cmd.checked_mem _ ?_
  extract_lets +onlyGivenNames i type log2 loc base wb wbEn
  extract_lets +onlyGivenNames leaf
  refine guards_mem (by simp) (State.newQueue_mem ..)

@[simp] theorem execQueueCreate_leavesMem (e : AdminEntry) (s : State) :
    LeavesMem s (execQueueCreate e s) :=
  State.runCmd_mem queueCreateSpec_mem s e

@[simp] theorem evqCreateSpec_mem (c : Cmd) (s : State) : (evqCreateSpec.body c s).state.mem = s.mem := by
  dsimp -zeta only [evqCreateSpec]
  refine Cmd.checked_mem _ ?_
  extract_lets +onlyGivenNames i log2 loc base wb wbEn
  exact guards_mem (by simp) (State.newQueue_mem ..)

@[simp] theorem execEvqCreate_leavesMem (e : AdminEntry) (s : State) :
    LeavesMem s (execEvqCreate e s) :=
  State.runCmd_mem evqCreateSpec_mem s e

@[simp] theorem Cmd.onQueue_mem {c : Cmd} {s : State} {body : Nat → Res} (loc : Nat)
    (h : ∀ q, (body q).state.mem = s.mem) : (c.onQueue s loc body).state.mem = s.mem := by
  simp only [Cmd.onQueue, guards_cons, guards_nil]
  split
  · simp
  · split
    · rfl
    · exact h _

@[simp] theorem queueDestroySpec_mem (c : Cmd) (s : State) : (queueDestroySpec.body c s).state.mem = s.mem := by
  simp [queueDestroySpec]

@[simp] theorem execQueueDestroy_leavesMem (e : AdminEntry) (s : State) :
    LeavesMem s (execQueueDestroy e s) :=
  State.runCmd_mem queueDestroySpec_mem s e

@[simp] theorem execQueueDrainEnd_leavesMem (qid : BitVec 16) (s : State) :
    LeavesMem s (execQueueDrainEnd qid s) := by
  simp only [execQueueDrainEnd]
  repeat' split
  all_goals simp

@[simp] theorem evqDestroySpec_mem (c : Cmd) (s : State) : (evqDestroySpec.body c s).state.mem = s.mem := by
  simp [evqDestroySpec]

@[simp] theorem execEvqDestroy_leavesMem (e : AdminEntry) (s : State) :
    LeavesMem s (execEvqDestroy e s) :=
  State.runCmd_mem evqDestroySpec_mem s e

@[simp] theorem queueModifySpec_mem (c : Cmd) (s : State) : (queueModifySpec.body c s).state.mem = s.mem := by
  simp only [queueModifySpec]
  refine Cmd.checked_mem _ (guards_mem (by simp) (Cmd.onQueue_mem _ fun q => guards_mem ?_ rfl))
  simp

@[simp] theorem execQueueModify_leavesMem (e : AdminEntry) (s : State) :
    LeavesMem s (execQueueModify e s) :=
  State.runCmd_mem queueModifySpec_mem s e

@[simp] theorem queueQuerySpec_mem (c : Cmd) (s : State) : (queueQuerySpec.body c s).state.mem = s.mem := by
  simp [queueQuerySpec]

@[simp] theorem execQueueQuery_leavesMem (e : AdminEntry) (s : State) :
    LeavesMem s (execQueueQuery e s) :=
  State.runCmd_mem queueQuerySpec_mem s e

@[simp] theorem State.catchUp_mem (s : State) (e : Nat) (x : Nat × State) (q : Nat) :
    (s.catchUp e x q).2.mem = x.2.mem := by simp [State.catchUp]

@[simp] theorem evqRearmSpec_mem (c : Cmd) (s : State) : (evqRearmSpec.body c s).state.mem = s.mem := by simp [evqRearmSpec]

@[simp] theorem execEvqRearm_leavesMem (e : AdminEntry) (s : State) :
    LeavesMem s (execEvqRearm e s) :=
  State.runCmd_mem evqRearmSpec_mem s e

@[simp] theorem State.ctxSel_mem (s : State) (q : Nat) : (s.ctxSel q).mem = s.mem := by
  simp only [State.ctxSel]
  exact foldl_mem (by simp) _ _

/-! ## Meanings of faults, retirement, Foghorn and the fault log -/

@[simp] theorem execLeakTick_leavesMem (resource : BitVec 16) (s : State) :
    LeavesMem s (execLeakTick resource s) := State.setCounter_mem ..

@[simp] theorem execHostLinkError_leavesMem (error : LinkError) (s : State) :
    LeavesMem s (execHostLinkError error s) := by simp [execHostLinkError]

@[simp] theorem rasRetireSpec_mem (c : Cmd) (s : State) : (rasRetireSpec.body c s).state.mem = s.mem := by simp [rasRetireSpec]

@[simp] theorem execRasRetire_leavesMem (e : AdminEntry) (s : State) :
    LeavesMem s (execRasRetire e s) :=
  State.runCmd_mem rasRetireSpec_mem s e

@[simp] theorem rasRestoreSpec_mem (c : Cmd) (s : State) : (rasRestoreSpec.body c s).state.mem = s.mem := by
  simp [rasRestoreSpec]

@[simp] theorem execRasRestore_leavesMem (e : AdminEntry) (s : State) :
    LeavesMem s (execRasRestore e s) :=
  State.runCmd_mem rasRestoreSpec_mem s e

@[simp] theorem rasLogReadSpec_mem (c : Cmd) (s : State) : (rasLogReadSpec.body c s).state.mem = s.mem := by
  simp [rasLogReadSpec]

@[simp] theorem execRasLogRead_leavesMem (e : AdminEntry) (s : State) :
    LeavesMem s (execRasLogRead e s) :=
  State.runCmd_mem rasLogReadSpec_mem s e

@[simp] theorem State.rasSel_mem (s : State) (r : Nat) : (s.rasSel r).mem = s.mem := (rfl)

/-! ## Meanings of Saffron's commands and events -/

@[simp] theorem State.setRoot_mem (s : State) (k : Nat) (key : Option (List Byte)) : (s.setRoot k key).mem = s.mem := by
  simp [State.setRoot]

@[simp] theorem safRootKeyLoadSpec_mem (c : Cmd) (s : State) : (safRootKeyLoadSpec.body c s).state.mem = s.mem := by
  dsimp -zeta only [safRootKeyLoadSpec]
  refine Cmd.checked_mem _ ?_
  extract_lets +onlyGivenNames k erase wrapped kek
  refine guards_mem (by simp) (Res.ite_mem ?_ ?_)
  · rw [Res.state_ok, State.setRoot_mem]
  · extract_lets +onlyGivenNames key
    clear_value key
    split
    · rfl
    · rw [Res.state_ok, State.setRoot_mem]

@[simp] theorem execSafRootKeyLoad_leavesMem (e : AdminEntry) (s : State) :
    LeavesMem s (execSafRootKeyLoad e s) :=
  State.runCmd_mem safRootKeyLoadSpec_mem s e

@[simp] theorem safAssocCreateSpec_mem (c : Cmd) (s : State) : (safAssocCreateSpec.body c s).state.mem = s.mem := by
  dsimp -zeta only [safAssocCreateSpec]
  refine Cmd.checked_mem _ ?_
  extract_lets +onlyGivenNames r pool
  refine guards_mem (by simp) ?_
  split
  next => exact State.draw_mem ..
  next => exact (State.setAssoc_mem ..).trans (State.draw_mem ..)

@[simp] theorem execSafAssocCreate_leavesMem (e : AdminEntry) (s : State) :
    LeavesMem s (execSafAssocCreate e s) :=
  State.runCmd_mem safAssocCreateSpec_mem s e

@[simp] theorem safAssocRekeySpec_mem (c : Cmd) (s : State) : (safAssocRekeySpec.body c s).state.mem = s.mem := by
  dsimp -zeta only [safAssocRekeySpec]
  refine Cmd.checked_mem _ ?_
  extract_lets +onlyGivenNames a r load switch macIn k
  refine guards_mem (by simp) ?_
  extract_lets +onlyGivenNames epoch ctx fresh t r' an w1 u
  have hf : ∀ x, (fresh x).mem = x.mem := fun _ => rfl
  have ht : t.mem = s.mem := by
    refine ite_mem ((hf _).trans ?_) rfl
    rw [State.cacheDrop_mem, State.setAssoc_mem]
  have hu : u.mem = s.mem := ite_mem ht ((hf _).trans ((State.setAssoc_mem ..).trans ht))
  exact hu

@[simp] theorem execSafAssocRekey_leavesMem (e : AdminEntry) (s : State) :
    LeavesMem s (execSafAssocRekey e s) :=
  State.runCmd_mem safAssocRekeySpec_mem s e

@[simp] theorem safAssocDestroySpec_mem (c : Cmd) (s : State) : (safAssocDestroySpec.body c s).state.mem = s.mem := by
  simp [safAssocDestroySpec]

@[simp] theorem execSafAssocDestroy_leavesMem (e : AdminEntry) (s : State) :
    LeavesMem s (execSafAssocDestroy e s) :=
  State.runCmd_mem safAssocDestroySpec_mem s e

@[simp] theorem State.assocSel_mem (s : State) (a : Nat) : (s.assocSel a).mem = s.mem := by
  simp only [State.assocSel]
  exact foldl_mem (by simp) _ _

/-! ## Meanings of the switching commands -/

theorem State.listFault_mem {s : State} {acts : List Act} {f : State → Res} (h : s.listFault acts = some f) (t : State) :
    (f t).state.mem = t.mem := by
  revert h
  unfold State.listFault
  extract_lets n at_ bad many
  repeat' split
  all_goals rintro ⟨⟩
  all_goals rfl

theorem State.pathFault_mem {s : State} {ms : List Nat} {f : State → Res} (h : s.pathFault ms = some f) (t : State) :
    (f t).state.mem = t.mem := by
  revert h
  unfold State.pathFault
  extract_lets bad leafBad
  split
  · rintro ⟨⟩
    rfl
  · intro h
    obtain ⟨k, _, rfl⟩ := Option.map_eq_some_iff.1 h
    rfl

@[simp] theorem swxActionWriteSpec_mem (c : Cmd) (s : State) : (swxActionWriteSpec.body c s).state.mem = s.mem := by
  simp only [swxActionWriteSpec, Cmd.checked_state]
  split
  · split
    · rfl
    · split
      · split <;> exact guards_mem (by simp) rfl
      · split
        · split
          · rfl
          · split
            next h => exact State.pathFault_mem h s
            next => rfl
        · split
          next f h =>
            rcases Option.or_eq_some_iff.1 h with h | ⟨_, h⟩
            · exact State.listFault_mem h s
            · obtain ⟨k, _, rfl⟩ := Option.map_eq_some_iff.1 h
              rfl
          next => rfl
  · rfl

@[simp] theorem execSwxActionWrite_leavesMem (e : AdminEntry) (s : State) :
    LeavesMem s (execSwxActionWrite e s) :=
  State.runCmd_mem swxActionWriteSpec_mem s e

@[simp] theorem swxTunnelCfgSpec_mem (c : Cmd) (s : State) : (swxTunnelCfgSpec.body c s).state.mem = s.mem := by
  dsimp -zeta only [swxTunnelCfgSpec]
  refine Cmd.checked_mem _ ?_
  extract_lets +onlyGivenNames k type
  refine Res.ite_mem (guards_mem (by simp) rfl) (Cmd.checked_mem _ (guards_mem (by simp) rfl))

@[simp] theorem execSwxTunnelCfg_leavesMem (e : AdminEntry) (s : State) :
    LeavesMem s (execSwxTunnelCfg e s) :=
  State.runCmd_mem swxTunnelCfgSpec_mem s e

@[simp] theorem swxMirrorCfgSpec_mem (c : Cmd) (s : State) : (swxMirrorCfgSpec.body c s).state.mem = s.mem := by
  dsimp -zeta only [swxMirrorCfgSpec]
  refine Cmd.checked_mem _ ?_
  extract_lets +onlyGivenNames k
  refine Res.ite_mem (guards_mem (by simp) rfl) (Cmd.checked_mem _ ?_)
  extract_lets +onlyGivenNames kind cut prof
  exact guards_mem (by simp) rfl

@[simp] theorem execSwxMirrorCfg_leavesMem (e : AdminEntry) (s : State) :
    LeavesMem s (execSwxMirrorCfg e s) :=
  State.runCmd_mem swxMirrorCfgSpec_mem s e

@[simp] theorem swxPolicerCfgSpec_mem (c : Cmd) (s : State) : (swxPolicerCfgSpec.body c s).state.mem = s.mem := by
  dsimp -zeta only [swxPolicerCfgSpec]
  refine Cmd.checked_mem _ ?_
  extract_lets +onlyGivenNames k old
  refine Res.ite_mem (guards_mem (by simp) rfl) (Cmd.checked_mem _ ?_)
  extract_lets +onlyGivenNames rate size ov
  refine guards_mem (by simp) ?_
  exact State.setPolicer_mem ..

@[simp] theorem execSwxPolicerCfg_leavesMem (e : AdminEntry) (s : State) :
    LeavesMem s (execSwxPolicerCfg e s) :=
  State.runCmd_mem swxPolicerCfgSpec_mem s e

@[simp] theorem execPolicerRefill_leavesMem (s : State) :
    LeavesMem s (execPolicerRefill s) := by simp [execPolicerRefill]

@[simp] theorem State.cntSel_mem (s : State) (k : Nat) (clear : Bool) : (s.cntSel k clear).mem = s.mem := by simp [State.cntSel]

/-! ## Meanings of resources under test, patterns, loopbacks and the debug units -/

@[simp] theorem tstReleaseSpec_mem (c : Cmd) (s : State) : (tstReleaseSpec.body c s).state.mem = s.mem := by
  simp [tstReleaseSpec]

@[simp] theorem State.laneZero_mem (s : State) (n : Nat) : (s.laneZero n).mem = s.mem := (rfl)

@[simp] theorem State.laneCtl_mem (s : State) (n v : Nat) : (s.laneCtl n v).mem = s.mem := by
  simp only [State.laneCtl]
  split <;> simp

@[simp] theorem laneChecks_mem {s : State} {body : Nat → Res} (r : Nat) (h : ∀ n, (body n).state.mem = s.mem) :
    (laneChecks s r body).state.mem = s.mem := by
  unfold laneChecks
  split <;> simp [h]

@[simp] theorem tstPatternCfgSpec_mem (c : Cmd) (s : State) : (tstPatternCfgSpec.body c s).state.mem = s.mem := by
  simp [tstPatternCfgSpec]

@[simp] theorem execTstPatternCfg_leavesMem (e : AdminEntry) (s : State) :
    LeavesMem s (execTstPatternCfg e s) :=
  State.runCmd_mem tstPatternCfgSpec_mem s e

@[simp] theorem tstLoopbackCfgSpec_mem (c : Cmd) (s : State) : (tstLoopbackCfgSpec.body c s).state.mem = s.mem := by
  simp [tstLoopbackCfgSpec]

@[simp] theorem execTstLoopbackCfg_leavesMem (e : AdminEntry) (s : State) :
    LeavesMem s (execTstLoopbackCfg e s) :=
  State.runCmd_mem tstLoopbackCfgSpec_mem s e

@[simp] theorem tstResultReadSpec_mem (c : Cmd) (s : State) : (tstResultReadSpec.body c s).state.mem = s.mem := by
  simp [tstResultReadSpec]

@[simp] theorem execTstResultRead_leavesMem (e : AdminEntry) (s : State) :
    LeavesMem s (execTstResultRead e s) :=
  State.runCmd_mem tstResultReadSpec_mem s e

@[simp] theorem execCheckerLock_leavesMem (lane : Fin 49) (s : State) :
    LeavesMem s (execCheckerLock lane s) := by simp [execCheckerLock]

@[simp] theorem execCheckerLockLoss_leavesMem (lane : Fin 49) (s : State) :
    LeavesMem s (execCheckerLockLoss lane s) := by simp [execCheckerLockLoss]

@[simp] theorem execCheckerDurationEnd_leavesMem (lane : Fin 49) (s : State) :
    LeavesMem s (execCheckerDurationEnd lane s) := by simp [execCheckerDurationEnd]

@[simp] theorem execBypass_leavesMem (s : State) :
    LeavesMem s (execBypass s) :=
  (State.emit_mem ..).trans (State.setF_mem ..)

@[simp] theorem execIdcode_leavesMem (s : State) :
    LeavesMem s (execIdcode s) :=
  (State.emit_mem ..).trans (State.setF_mem ..)

@[simp] theorem execSamplePreload_leavesMem (s : State) :
    LeavesMem s (execSamplePreload s) := by simp [execSamplePreload]

@[simp] theorem execExtest_leavesMem (s : State) :
    LeavesMem s (execExtest s) := by simp [execExtest]

@[simp] theorem execKeeperDebugHalt_leavesMem (core : Fin 4) (s : State) :
    LeavesMem s (execKeeperDebugHalt core s) := by simp [execKeeperDebugHalt]

@[simp] theorem execKeeperDebugResume_leavesMem (core : Fin 4) (s : State) :
    LeavesMem s (execKeeperDebugResume core s) := by simp [execKeeperDebugResume]

@[simp] theorem State.haltBits_mem (s : State) (k w v : Nat) : (s.haltBits k w v).mem = s.mem := by simp [State.haltBits]

@[simp] theorem State.clvRegWrite_mem (s : State) (v : Nat) : (s.clvRegWrite v).mem = s.mem := by simp [State.clvRegWrite]

/-! ## Meanings of the time unit, the calibration table and Daymark -/

@[simp] theorem timeAdjustSpec_mem (c : Cmd) (s : State) : (timeAdjustSpec.body c s).state.mem = s.mem := by
  dsimp -zeta only [timeAdjustSpec]
  refine Cmd.checked_mem _ (guards_mem (by simp) ?_)
  extract_lets +onlyGivenNames off
  split
  · refine guards_mem (by simp) ?_
    rw [Res.state_ok, State.setTime_mem]
  · rw [Res.state_ok, State.setTime_mem, State.stepped_mem]
  · extract_lets +onlyGivenNames f
    refine Res.ite_mem rfl ?_
    rw [Res.state_ok, State.showRate_mem]
  · refine guards_mem (by simp) ?_
    rw [Res.state_ok, State.showRate_mem]

@[simp] theorem execTimeAdjust_leavesMem (e : AdminEntry) (s : State) :
    LeavesMem s (execTimeAdjust e s) :=
  State.runCmd_mem timeAdjustSpec_mem s e

@[simp] theorem execSlewEnd_leavesMem (s : State) :
    LeavesMem s (execSlewEnd s) := by simp [execSlewEnd]

@[simp] theorem State.timeSnap_mem (s : State) : s.timeSnap.mem = s.mem := (rfl)

@[simp] theorem State.sideSel_mem (s : State) (index : Nat) : (s.sideSel index).mem = s.mem := by
  simp only [State.sideSel]
  exact foldl_mem (by simp) _ _

@[simp] theorem timePpsCfgSpec_mem (c : Cmd) (s : State) : (timePpsCfgSpec.body c s).state.mem = s.mem := by
  simp [timePpsCfgSpec]

@[simp] theorem execTimePpsCfg_leavesMem (e : AdminEntry) (s : State) :
    LeavesMem s (execTimePpsCfg e s) :=
  State.runCmd_mem timePpsCfgSpec_mem s e

@[simp] theorem execPpsEdge_leavesMem (wholeSecond : Bool) (s : State) :
    LeavesMem s (execPpsEdge wholeSecond s) := by simp [execPpsEdge]

@[simp] theorem execTimeInEdge_leavesMem (falling : Bool) (s : State) :
    LeavesMem s (execTimeInEdge falling s) := by simp [execTimeInEdge]

@[simp] theorem execPtmExchange_leavesMem (host : Option Dword) (s : State) :
    LeavesMem s (execPtmExchange host s) := by
  simp only [execPtmExchange]
  repeat' split
  all_goals simp

@[simp] theorem State.alarmOff_mem (s : State) : s.alarmOff.mem = s.mem := by
  simp only [State.alarmOff]
  split <;> simp

@[simp] theorem timeDaymarkAlarmSpec_mem (c : Cmd) (s : State) : (timeDaymarkAlarmSpec.body c s).state.mem = s.mem := by
  simp [timeDaymarkAlarmSpec]

@[simp] theorem execTimeDaymarkAlarm_leavesMem (e : AdminEntry) (s : State) :
    LeavesMem s (execTimeDaymarkAlarm e s) :=
  State.runCmd_mem timeDaymarkAlarmSpec_mem s e

@[simp] theorem execDaymarkAlarmFire_leavesMem (s : State) :
    LeavesMem s (execDaymarkAlarmFire s) := by simp [execDaymarkAlarmFire]

@[simp] theorem execDaymarkFollowCheck_leavesMem (s : State) :
    LeavesMem s (execDaymarkFollowCheck s) := by simp [execDaymarkFollowCheck]

@[simp] theorem execVbatLoss_leavesMem (s : State) :
    LeavesMem s (execVbatLoss s) := by
  have e : ∀ (x : State) (v : TimeSt), ({ x with time := v } : State).mem = x.mem := fun _ _ => rfl
  rw [execVbatLoss, leavesMem_next]
  split
  · rfl
  · extract_lets t u
    rw [State.raiseEs_mem, e]
    simp only [u, t, State.mem_setReg, State.mem_setF, State.setDm_mem]

@[simp] theorem calTableWriteSpec_mem (c : Cmd) (s : State) : (calTableWriteSpec.body c s).state.mem = s.mem := by
  simp only [calTableWriteSpec]
  repeat' split
  all_goals simp

@[simp] theorem execCalTableWrite_leavesMem (e : AdminEntry) (s : State) :
    LeavesMem s (execCalTableWrite e s) :=
  State.runCmd_mem calTableWriteSpec_mem s e

@[simp] theorem calTableReadSpec_mem (c : Cmd) (s : State) : (calTableReadSpec.body c s).state.mem = s.mem := by
  simp [calTableReadSpec]

@[simp] theorem execCalTableRead_leavesMem (e : AdminEntry) (s : State) :
    LeavesMem s (execCalTableRead e s) :=
  State.runCmd_mem calTableReadSpec_mem s e

/-! ## The fetch of an entry -/

@[simp] theorem lanImageLoadDrawn_leavesMem (e : AdminEntry) (s : State) :
    LeavesMem s (lanImageLoadDrawn e s) := by
  unfold lanImageLoadDrawn
  split
  next v t h => exact (execLanImageLoad_leavesMem ..).trans ((mem_of_eq h).trans (State.draw_mem s))

@[simp] theorem unknownSpec_mem (op : Nat) (c : Cmd) (s : State) : ((unknownSpec op).body c s).state.mem = s.mem := (rfl)

@[simp] theorem State.adminPad_mem (s : State) (e : AdminEntry) : (s.adminPad e).mem = s.mem := by
  simp only [State.adminPad]
  repeat' split
  all_goals simp

/-! ## Meanings of PERST#, hot reset and FLR -/

@[simp] theorem State.showD0_mem (s : State) : s.showD0.mem = s.mem := by simp [State.showD0]

@[simp] theorem execPerstDeassert_leavesMem (s : State) :
    LeavesMem s (execPerstDeassert s) := by simp [execPerstDeassert]

/-! ## Reads and writes of the register windows -/

@[simp] theorem State.pgrCfg_mem (s : State) (a v : Nat) : (s.pgrCfg a v).mem = s.mem := by simp [State.pgrCfg]

@[simp] theorem State.mgpCfg_mem (s : State) (v : Nat) : (s.mgpCfg v).mem = s.mem := by simp [State.mgpCfg]

@[simp] theorem State.smbCfg_mem (s : State) (v : Nat) : (s.smbCfg v).mem = s.mem := by simp [State.smbCfg]

@[simp] theorem State.trapWrite_mem (s : State) (q slot n v : Nat) : (s.trapWrite q slot n v).mem = s.mem := by
  simp only [State.trapWrite]
  split <;> simp

@[simp] theorem State.mapRead_mem (s : State) (mid a : Nat) (d : RegDef) (i : Nat) : (s.mapRead mid a d i).2.mem = s.mem := by
  simp [State.mapRead]

@[simp] theorem State.windowDoorbell_mem (s : State) (i l v : Nat) (arm : Bool) : (s.windowDoorbell i l v arm).mem = s.mem := by
  simp [State.windowDoorbell]

@[simp] theorem State.notOwnedRead_mem (s : State) (i o : Nat) : (s.notOwnedRead i o).mem = s.mem := by
  simp [State.notOwnedRead]

/-! ## Meanings of register accesses, block control and the debug port's accesses -/

@[simp] theorem execConsistencyCheckEnd_leavesMem (block : Fin 32) (s : State) :
    LeavesMem s (execConsistencyCheckEnd block s) := State.blkCheckEnd_mem ..

/-- A command that answers a next state leaves the memories in canonical form. -/
def CanonNext : Host.Outcome State Fault Refusal → Prop
  | .next t => t.mem.Canon
  | _ => True

/-- A port operation that ends leaves the memories in canonical form. -/
def CanonPort : PortEnd → Prop
  | .ok x => x.1.mem.Canon
  | .error _ => True

@[simp] theorem canonNext_next (t : State) : CanonNext (.next t) ↔ t.mem.Canon := Iff.rfl
@[simp] theorem canonPort_ok (x : State × Routine × Option (Nat × Nat)) : CanonPort (.ok x) ↔ x.1.mem.Canon := Iff.rfl
@[simp] theorem canonPort_error (t : Nat × Nat) : CanonPort (.error t) := trivial

theorem MemSt.Canon.of_eq {m n : MemSt} (h : m.Canon) (e : n = m) : n.Canon := e ▸ h

theorem LeavesMem.canon {s : State} {x : Host.Outcome State Fault Refusal} (h : LeavesMem s x) (hm : s.mem.Canon) : CanonNext x := by
  cases x with
  | next t => exact hm.of_eq h
  | _ => trivial

/-! ## Writes of one memory -/

@[simp] theorem MemSt.canon_mk (a b c d e : Mem) (g : NMap (Nat × Nat)) (v : List Nat) :
    (MemSt.mk a b c d e g v).Canon ↔
      Mem.wf a = true ∧ Mem.wf b = true ∧ Mem.wf c = true ∧ Mem.wf d = true ∧ Mem.wf e = true :=
  ⟨fun ⟨ha, hb, hc, hd, he⟩ => ⟨ha, hb, hc, hd, he⟩, fun ⟨ha, hb, hc, hd, he⟩ => ⟨ha, hb, hc, hd, he⟩⟩

theorem MemSt.Canon.withMram {m : MemSt} (h : m.Canon) {x : Mem} (hx : Mem.wf x = true) : ({ m with mram := x } : MemSt).Canon :=
  ⟨hx, h.ddr, h.pbuf, h.cache, h.donated⟩

theorem MemSt.Canon.withDdr {m : MemSt} (h : m.Canon) {x : Mem} (hx : Mem.wf x = true) : ({ m with ddr := x } : MemSt).Canon :=
  ⟨h.mram, hx, h.pbuf, h.cache, h.donated⟩

theorem MemSt.Canon.withPbuf {m : MemSt} (h : m.Canon) {x : Mem} (hx : Mem.wf x = true) : ({ m with pbuf := x } : MemSt).Canon :=
  ⟨h.mram, h.ddr, hx, h.cache, h.donated⟩

theorem MemSt.Canon.withCache {m : MemSt} (h : m.Canon) {x : Mem} (hx : Mem.wf x = true) : ({ m with cache := x } : MemSt).Canon :=
  ⟨h.mram, h.ddr, h.pbuf, hx, h.donated⟩

theorem MemSt.Canon.withDonated {m : MemSt} (h : m.Canon) {x : Mem} (hx : Mem.wf x = true) :
    ({ m with donated := x } : MemSt).Canon := ⟨h.mram, h.ddr, h.pbuf, h.cache, hx⟩

/-- The peer grants are no part of the form. -/
theorem MemSt.Canon.withGrants {m : MemSt} (h : m.Canon) (g : NMap (Nat × Nat)) (v : List Nat) :
    ({ m with grants := g, vacating := v } : MemSt).Canon := ⟨h.mram, h.ddr, h.pbuf, h.cache, h.donated⟩

/-! ## Branches, folds and answers taken apart -/

@[simp] theorem MemSt.canon_ite (c : Prop) [Decidable c] (m n : MemSt) :
    (if c then m else n).Canon ↔ if c then m.Canon else n.Canon := by split <;> rfl

theorem ite_canon {c : Prop} [Decidable c] {t u : State} (ht : t.mem.Canon) (hu : u.mem.Canon) :
    (if c then t else u).mem.Canon := by
  split
  · exact ht
  · exact hu

theorem snd_canon_of_ite {α : Type} {c : Prop} [Decidable c] {x y : α × State} (hx : x.2.mem.Canon) (hy : y.2.mem.Canon) :
    (if c then x else y).2.mem.Canon := by
  split
  · exact hx
  · exact hy

theorem Res.ite_canon {c : Prop} [Decidable c] {x y : Res} (hx : x.state.mem.Canon) (hy : y.state.mem.Canon) :
    (if c then x else y).state.mem.Canon := by
  split
  · exact hx
  · exact hy

theorem Acted.ite_canon {c : Prop} [Decidable c] {x y : Acted} (hx : x.state.mem.Canon) (hy : y.state.mem.Canon) :
    (if c then x else y).state.mem.Canon := by
  split
  · exact hx
  · exact hy

theorem ClvEnd.ite_canon {c : Prop} [Decidable c] {x y : ClvEnd} (hx : x.state.mem.Canon) (hy : y.state.mem.Canon) :
    (if c then x else y).state.mem.Canon := by
  split
  · exact hx
  · exact hy

theorem CanonPort.of_ite {c : Prop} [Decidable c] {x y : PortEnd} (hx : CanonPort x) (hy : CanonPort y) :
    CanonPort (if c then x else y) := by
  split
  · exact hx
  · exact hy

@[simp] theorem canonPort_ite (c : Prop) [Decidable c] (x y : PortEnd) :
    CanonPort (if c then x else y) ↔ if c then CanonPort x else CanonPort y := by split <;> rfl

/-- A fold of steps that each keep the canonical form keeps it. -/
theorem foldl_canon {α : Type} {f : State → α → State} (hf : ∀ s a, s.mem.Canon → (f s a).mem.Canon) (l : List α) {s : State}
    (hm : s.mem.Canon) : (l.foldl f s).mem.Canon := by
  induction l generalizing s with
  | nil => exact hm
  | cons a l ih => exact ih (hf s a hm)

/-- A fold that carries a value beside the state keeps the canonical form where each step does. -/
theorem foldl_snd_canon {α β : Type} {f : β × State → α → β × State} (hf : ∀ x a, x.2.mem.Canon → (f x a).2.mem.Canon)
    (l : List α) {x : β × State} (hm : x.2.mem.Canon) : (l.foldl f x).2.mem.Canon := by
  induction l generalizing x with
  | nil => exact hm
  | cons a l ih => exact ih (hf x a hm)

theorem CanonPort.of_eq {e : PortEnd} {x : State × Routine × Option (Nat × Nat)} (hp : CanonPort e) (h : e = .ok x) :
    x.1.mem.Canon := by
  subst h
  exact hp

/-- A command whose body keeps the canonical form keeps it, however its entry is answered. -/
theorem State.runCmd_canon {spec : CmdSpec} (h : ∀ c t, t.mem.Canon → (spec.body c t).state.mem.Canon) {s : State} {e : AdminEntry}
    (hm : s.mem.Canon) : (s.runCmd spec e).mem.Canon := by
  unfold State.runCmd
  split
  · exact hm
  · split
    next idx span _ =>
      extract_lets c t u
      split
      · simp +zetaDelta [hm]
      · split
        · simp +zetaDelta [hm]
        next row _ =>
          split
          · simp +zetaDelta [hm]
          · have hu : u.mem.Canon := by simp +zetaDelta [hm]
            have hb := h c u hu
            clear_value u
            split
            next hx => split <;> simp_all
            next hx => split <;> simp_all
            next hx => split <;> simp_all
            next hx => split <;> simp_all

/-- An instruction whose effect keeps the canonical form keeps it, however it ends. -/
theorem State.clvRun_canon {s : State} {body : State → Nat → ClvEnd} {k n : Nat} {op : ClvOp} (hm : s.mem.Canon)
    (h : ∀ w, (body s w).state.mem.Canon) : (s.clvRun k n op body).mem.Canon := by
  unfold State.clvRun
  split
  · exact hm
  · split <;> simp [h, hm]

theorem Cmd.checked_canon {c : Cmd} {s : State} {body : Unit → Res} {ws : List (Nat × Nat)} (hm : s.mem.Canon)
    (h : (body ()).state.mem.Canon) : (c.checked s ws body).state.mem.Canon := by
  rw [Cmd.checked_state]
  exact ite_canon h hm

/-- Checks that turn a command away leave the memories; its effect is the last one's. -/
theorem guards_canon {gs : List (Bool × (Unit → Res))} {body : Unit → Res} {s : State}
    (hg : ∀ g ∈ gs, (g.2 ()).state.mem = s.mem) (hm : s.mem.Canon) (hb : (body ()).state.mem.Canon) :
    (guards gs body).state.mem.Canon := by
  induction gs with
  | nil => exact hb
  | cons g gs ih =>
    rw [guards_cons]
    exact Res.ite_canon (hm.of_eq (hg g List.mem_cons_self)) (ih fun g h => hg g (List.mem_cons_of_mem _ h))

theorem recGuards_canon {s : State} {gs : List (Bool × RecEnd)} {body : Unit → RecEnd}
    (hg : ∀ g ∈ gs, g.2.state.mem = s.mem) (hm : s.mem.Canon) (hb : (body ()).state.mem.Canon) :
    (recGuards gs body).state.mem.Canon := by
  induction gs with
  | nil => exact hb
  | cons g gs ih =>
    rw [recGuards_cons]
    split
    · exact hm.of_eq (hg g List.mem_cons_self)
    · exact ih fun g h => hg g (List.mem_cons_of_mem _ h)

theorem runRecords_canon {f : State → List Word → RecEnd} (hf : ∀ s ws, s.mem.Canon → (f s ws).state.mem.Canon) {s : State}
    (hm : s.mem.Canon) (done : Nat) (rs : List (List Word)) : (runRecords f s done rs).1.mem.Canon := by
  induction rs generalizing s done with
  | nil => exact hm
  | cons r rest ih =>
    have hr := hf s r hm
    unfold runRecords
    split
    next t ws h => exact ih (hr.of_eq (congrArg (·.state.mem) h.symm)) _
    next t st rs ws h => exact hr.of_eq (congrArg (·.state.mem) h.symm)

theorem batch_canon {f : State → List Word → RecEnd} (hf : ∀ s ws, s.mem.Canon → (f s ws).state.mem.Canon) {c : Cmd} {s : State}
    (hm : s.mem.Canon) {size maxCount mask : Nat} : (batch c s size maxCount mask f).state.mem.Canon :=
  guards_canon (by simp) hm (runRecords_canon hf hm ..)

theorem tableRecord_canon {f : List Word → RecEnd} {s : State} (hf : ∀ ws, (f ws).state.mem.Canon) (hm : s.mem.Canon)
    (ws : List Word) : (tableRecord f s ws).state.mem.Canon := by
  unfold tableRecord
  split
  · exact hm
  · exact hf ws

/-! ## Operations of the time unit, Daymark and the calibration table -/

@[simp] theorem State.putMram_canon {s : State} {a : Nat} {bs : List Byte} (hm : s.mem.Canon) :
    (s.putMram a bs).mem.Canon :=
  (hm.withMram (Mem.wf_write _ _ hm.mram)).of_eq (State.markMram_mem ..)

@[simp] theorem State.calLoad_canon {s : State} (hm : s.mem.Canon) :
    s.calLoad.2.mem.Canon := by
  obtain ⟨offset, h⟩ : ∃ f, calOffset = f := ⟨_, rfl⟩
  unfold State.calLoad
  rw [h]
  extract_lets +onlyGivenNames v same pick
  clear_value pick
  split
  · exact hm.of_eq ((State.raiseEs_mem ..).trans ((State.raiseEs_mem ..).trans
      ((State.setReg_mem ..).trans (State.calLive_mem ..))))
  · extract_lets +onlyGivenNames bad t u w
    have ht : t.mem.Canon := foldl_canon (fun _ _ h => State.putMram_canon h) _ hm
    have hw : w.mem.Canon := ht.of_eq ((State.setReg_mem ..).trans (State.calLive_mem ..))
    clear_value w
    exact ite_canon hw (hw.of_eq (State.raiseEs_mem ..))

/-! ## Records of the fault log and how they are written -/

@[simp] theorem State.log_canon {s : State} {type : Nat} {x : Record} (hm : s.mem.Canon) :
    (s.log type x).mem.Canon := by
  unfold State.log
  refine ite_canon hm ?_
  extract_lets +onlyGivenNames seq a above ws t oldest ras u v w
  have ht : t.mem.Canon := State.putMram_canon hm
  have hv : v.mem.Canon := ht
  have hw : w.mem.Canon := ite_canon (hv.of_eq (State.raiseLimited_mem ..)) hv
  exact ite_canon (hw.of_eq (State.raiseEs_mem ..)) hw

@[simp] theorem State.faultRecord_canon {s : State} {x : Record} {force : Bool} (hm : s.mem.Canon) :
    (s.faultRecord x force).mem.Canon := by
  simp only [State.faultRecord]
  repeat' split
  all_goals simp [hm]

@[simp] theorem State.faultElse_canon {s : State} {block : Nat} {detail : List Nat} (hm : s.mem.Canon) :
    (s.faultElse block detail).mem.Canon :=
  State.faultRecord_canon (hm.of_eq ((State.draw_mem ..).trans (State.draw_mem ..)))

/-! ## Operations of the buffer pool manager -/

@[simp] theorem State.storeBuf_canon {s : State} {p : Nat} {bs : List Byte} (hm : s.mem.Canon) :
    (s.storeBuf p bs).mem.Canon :=
  ite_canon (hm.withPbuf (Mem.wf_write _ _ hm.pbuf)) (hm.withDdr (Mem.wf_write _ _ hm.ddr))

@[simp] theorem State.writeHome_canon {s : State} {h : Home} {bs : List Byte} (hm : s.mem.Canon) :
    (s.writeHome h bs).mem.Canon := by
  cases h with
  | zero => exact hm
  | ddr f => exact hm.withDdr (Mem.wf_write _ _ hm.ddr)
  | host d p => exact hm.withDonated (Mem.wf_write _ _ hm.donated)

@[simp] theorem State.dropCached_canon {s : State} {key : Nat} (hm : s.mem.Canon) :
    (s.dropCached key).mem.Canon := by
  unfold State.dropCached
  extract_lets +onlyGivenNames p
  split
  · exact hm
  · extract_lets +onlyGivenNames bs t mem u
    have ht : t.mem.Canon := ite_canon ((State.writeHome_canon hm).of_eq (State.bump_mem ..)) hm
    exact MemSt.Canon.of_eq (ht.withCache (Mem.wf_clear _ _ ht.cache)) (State.setPage_mem ..)

@[simp] theorem State.cleanPage_canon {s : State} {key : Nat} (hm : s.mem.Canon) :
    (s.cleanPage key).mem.Canon := by simp [State.cleanPage, hm]

@[simp] theorem State.evict_canon {s : State} {key : Nat} (hm : s.mem.Canon) :
    (s.evict key).mem.Canon :=
  State.dropCached_canon (hm.of_eq (State.rehomeHost_mem ..))

@[simp] theorem State.makeCacheRoom_canon {s : State} (hm : s.mem.Canon) :
    s.makeCacheRoom.mem.Canon := by
  unfold State.makeCacheRoom
  refine ite_canon hm ?_
  extract_lets +onlyGivenNames es
  split
  next v t ht =>
    have h : t.mem.Canon := (hm.of_eq (State.draw_mem s)).of_eq (mem_of_eq ht)
    split
    · exact State.evict_canon h
    · exact h

@[simp] theorem State.install_canon {s : State} {key : Nat} {bs : List Byte} {dirty : Bool} (hm : s.mem.Canon) :
    (s.install key bs dirty).mem.Canon := by
  unfold State.install
  extract_lets +onlyGivenNames t used
  have ht : t.mem.Canon := State.makeCacheRoom_canon hm
  split
  next v u hu =>
    have h : u.mem.Canon := (ht.of_eq (State.draw_mem t)).of_eq (mem_of_eq hu)
    split
    · exact h
    · exact MemSt.Canon.of_eq (h.withCache (Mem.wf_write _ _ h.cache))
        ((State.pinDone_mem ..).trans ((State.touch_mem ..).trans (State.setPage_mem ..)))

@[simp] theorem State.reach_canon {s : State} {ssid off : Nat} {write : Bool} (hm : s.mem.Canon) :
    (s.reach ssid off write).2.mem.Canon := by
  unfold State.reach
  split
  · exact hm.of_eq (State.stateFault_mem ..)
  · extract_lets +onlyGivenNames key p
    refine snd_canon_of_ite (hm.of_eq (State.stateFault_mem ..)) (snd_canon_of_ite ?_ ?_)
    · exact (ite_canon (hm.of_eq (State.setPage_mem ..)) hm).of_eq (State.touch_mem ..)
    · split
      · refine snd_canon_of_ite hm ?_
        split
        next home t ht =>
          have h : t.mem.Canon := (hm.of_eq (State.takeHome_mem s)).of_eq (mem_of_eq ht)
          split
          · exact (h.of_eq (State.bump_mem ..)).of_eq (State.stateFault_mem ..)
          · exact State.install_canon (h.of_eq (State.setPage_mem ..))
      · exact State.install_canon (hm.of_eq (State.bump_mem ..))
      · exact State.install_canon (hm.of_eq (State.bump_mem ..))

@[simp] theorem State.ssStore_canon {s : State} {ssid off : Nat} {bs : List Byte} (hm : s.mem.Canon) :
    (s.ssStore ssid off bs).mem.Canon := by
  unfold State.ssStore
  split
  · exact hm.withCache (Mem.wf_write _ _ hm.cache)
  · exact hm

@[simp] theorem State.ssRead_canon {s : State} {ssid off n : Nat} (hm : s.mem.Canon) :
    (s.ssRead ssid off n).2.mem.Canon := by
  simp only [State.ssRead]
  split <;> simp [hm]

@[simp] theorem State.ssWrite_canon {s : State} {ssid off : Nat} {bs : List Byte} (hm : s.mem.Canon) :
    (s.ssWrite ssid off bs).2.mem.Canon := by
  simp only [State.ssWrite]
  split <;> simp [hm]

@[simp] theorem State.zeroPage_canon {s : State} {key : Nat} (hm : s.mem.Canon) :
    (s.zeroPage key).mem.Canon := by
  unfold State.zeroPage
  extract_lets +onlyGivenNames p mem t mem' u pgr v
  have ht : t.mem.Canon := by
    unfold t
    split
    · exact hm.withCache (Mem.wf_clear _ _ hm.cache)
    · exact hm
  have hu : u.mem.Canon := by
    unfold u
    split
    · exact ht.withDdr (Mem.wf_clear _ _ ht.ddr)
    · exact ht
  clear_value u
  exact ite_canon (hu.of_eq (State.setPage_mem ..)) hu

@[simp] theorem State.poison_canon {s : State} {key : Nat} (hm : s.mem.Canon) :
    (s.poison key).mem.Canon := by
  unfold State.poison
  extract_lets +onlyGivenNames p mem t
  have ht : t.mem.Canon := by
    unfold t
    split
    · exact hm.withCache (Mem.wf_clear _ _ hm.cache)
    · exact hm
  exact ht.of_eq ((State.bump_mem ..).trans (State.setPage_mem ..))

@[simp] theorem State.releaseRange_canon {s : State} {ssid : Nat} (hm : s.mem.Canon) :
    (s.releaseRange ssid).mem.Canon := by
  unfold State.releaseRange
  split
  next base size _ =>
    extract_lets +onlyGivenNames mine t
    have ht : t.mem.Canon := foldl_canon (fun s k h => State.zeroPage_canon (h.of_eq (State.setPage_mem ..))) _ hm
    exact ite_canon (t := t) ht ht

/-! ## Who reaches a register -/

@[simp] theorem State.ddrWrite_canon {s : State} {mid a : Nat} {bs : List Byte} (hm : s.mem.Canon) :
    (s.ddrWrite mid a bs).mem.Canon :=
  ite_canon (hm.of_eq (State.badMaster_mem ..)) (hm.withDdr (Mem.wf_write _ _ hm.ddr))

@[simp] theorem State.crossingFailed_canon {s : State} {a island : Nat} {read : Bool} (hm : s.mem.Canon) :
    (s.crossingFailed a island read).mem.Canon := by simp [State.crossingFailed, hm]

@[simp] theorem State.gatedWrite_canon {s : State} {body : State → State} {mid a : Nat} (h : (body s).mem.Canon)
    (hm : s.mem.Canon) : (s.gatedWrite mid a body).mem.Canon := by
  unfold State.gatedWrite
  split <;> simp [h, hm]

@[simp] theorem State.gatedValue_canon {s : State} {body : State → Nat × State} {mid a : Nat} (h : (body s).2.mem.Canon)
    (hm : s.mem.Canon) : (s.gatedValue mid a body).2.mem.Canon := by
  unfold State.gatedValue
  split <;> simp [h, hm]

@[simp] theorem State.gatedRead_canon {s : State} {body : State → Nat × State} {mid a : Nat} (h : (body s).2.mem.Canon)
    (hm : s.mem.Canon) : (s.gatedRead mid a body).mem.Canon := by simp [State.gatedRead, h, hm]

/-! ## The DMA engines -/

@[simp] theorem State.physWrite_canon {s : State} {mid a : Nat} {bs : List Byte} (hm : s.mem.Canon) :
    (s.physWrite mid a bs).mem.Canon :=
  ite_canon (hm.withPbuf (Mem.wf_write _ _ hm.pbuf)) (State.ddrWrite_canon hm)

@[simp] theorem State.dmaRead_canon {s : State} {c space a n : Nat} {host : Option (List Byte)} (hm : s.mem.Canon) :
    (s.dmaRead c space a n host).2.mem.Canon := by
  simp only [State.dmaRead]
  repeat' split
  all_goals simp [hm]

@[simp] theorem State.dmaWrite_canon {s : State} {c space a : Nat} {bs : List Byte} (hm : s.mem.Canon) :
    (s.dmaWrite c space a bs).2.mem.Canon := by
  simp only [State.dmaWrite]
  split <;> simp [hm]

@[simp] theorem State.dmaEnd_canon {s : State} {n residue err : Nat} {aborted : Bool} (hm : s.mem.Canon) :
    (s.dmaEnd n residue err aborted).mem.Canon := by
  unfold State.dmaEnd
  extract_lets +onlyGivenNames done gen ok t dma u v w x y z a word iid b
  have ht : t.mem.Canon := hm.of_eq (State.endRun_mem ..)
  have hx : x.mem.Canon := ht
  have hy : y.mem.Canon := ite_canon (hx.of_eq (State.setF_mem ..)) hx
  have hz : z.mem.Canon := ite_canon (hy.of_eq (State.setF_mem ..)) hy
  have ha : a.mem.Canon := ite_canon (hz.of_eq (State.setF_mem ..)) hz
  have hb : b.mem.Canon :=
    ite_canon (ite_canon (ha.of_eq (State.staleDiscard_mem ..)) (State.dmaWrite_canon ha)) ha
  exact hb.of_eq (State.dmaRaise_mem ..)

@[simp] theorem State.dmaBurst_canon {s : State} {n : Nat} {host : Option (List Byte)} (hm : s.mem.Canon) :
    (s.dmaBurst n host).mem.Canon := by
  unfold State.dmaBurst
  split
  next => exact hm
  next r _ =>
    extract_lets +onlyGivenNames iid
    refine ite_canon (State.dmaEnd_canon hm) (ite_canon ?_ ?_)
    · split
      next d t ht =>
        have htp : t.mem.Canon := (State.dmaRead_canon hm).of_eq (mem_of_eq ht)
        clear ht
        have he : ∀ a b c, (t.dmaEnd n a b c).mem.Canon := fun a b c => State.dmaEnd_canon htp
        split
        next => exact he ..
        next bs =>
          extract_lets +onlyGivenNames ws cnt owner
          refine ite_canon (he ..) (ite_canon (he ..) ?_)
          exact (htp.of_eq (State.setRun_mem ..)).of_eq (State.dmaAsk_mem ..)
    · extract_lets +onlyGivenNames k
      split
      next d t ht =>
        have htp : t.mem.Canon := (State.dmaRead_canon hm).of_eq (mem_of_eq ht)
        clear ht
        split
        next => exact State.dmaEnd_canon htp
        next bs =>
          split
          next e u hu =>
            have hup : u.mem.Canon := (State.dmaWrite_canon htp).of_eq (mem_of_eq hu)
            clear hu
            split
            next => exact State.dmaEnd_canon hup
            next =>
              extract_lets +onlyGivenNames r'
              have hr : ∀ x, (u.setRun n x).mem.Canon := fun x => hup.of_eq (State.setRun_mem ..)
              refine ite_canon (ite_canon ?_ ?_) ?_
              · exact State.dmaEnd_canon (hr _)
              · exact (hr _).of_eq (State.dmaAsk_mem ..)
              · extract_lets +onlyGivenNames r'' v
                have hv : v.mem.Canon := hr _
                refine ite_canon (State.dmaEnd_canon hv) (ite_canon (State.dmaEnd_canon hv) ?_)
                extract_lets +onlyGivenNames w
                have hw : w.mem.Canon := ite_canon (hv.of_eq (State.dmaRaise_mem ..)) hv
                exact (hw.of_eq (State.setRun_mem ..)).of_eq (State.dmaAsk_mem ..)

@[simp] theorem State.dmaAbort_canon {s : State} {n : Nat} (hm : s.mem.Canon) :
    (s.dmaAbort n).mem.Canon := by
  simp only [State.dmaAbort]
  repeat' split
  all_goals simp [hm]

@[simp] theorem State.dmaRelease_canon {s : State} {n : Nat} (hm : s.mem.Canon) :
    (s.dmaRelease n).mem.Canon := by
  simp only [State.dmaRelease]
  repeat' split
  all_goals simp [hm]

@[simp] theorem State.dmaReleaseMid_canon {s : State} {mid : Nat} (hm : s.mem.Canon) :
    (s.dmaReleaseMid mid).mem.Canon :=
  foldl_canon (fun _ _ h => ite_canon (State.dmaRelease_canon h) h) _ hm

/-! ## Meanings of the DMA engines -/

@[simp] theorem dmaChannelCfgSpec_canon {c : Cmd} {s : State} (hm : s.mem.Canon) :
    (dmaChannelCfgSpec.body c s).state.mem.Canon := by
  simp [dmaChannelCfgSpec, hm]

@[simp] theorem execDmaChannelCfg_canon {e : AdminEntry} {s : State} (hm : s.mem.Canon) :
    CanonNext (execDmaChannelCfg e s) :=
  State.runCmd_canon (fun _ _ => dmaChannelCfgSpec_canon) hm

@[simp] theorem State.dmaWriteBy_canon {s : State} {body : State → State} {mid n off : Nat} (h : (body s).mem.Canon)
    (hm : s.mem.Canon) : (s.dmaWriteBy mid n off body).mem.Canon := by simp [State.dmaWriteBy, h, hm]

@[simp] theorem execDmaChStart_canon {mid : BitVec 13} {n : BitVec 7} {s : State} (hm : s.mem.Canon) :
    CanonNext (execDmaChStart mid n s) := by simp [execDmaChStart, hm]

@[simp] theorem execDmaChAbort_canon {mid : BitVec 13} {n : BitVec 7} {s : State} (hm : s.mem.Canon) :
    CanonNext (execDmaChAbort mid n s) := by simp [execDmaChAbort, hm]

@[simp] theorem execDmaBurstComplete_canon {engine : Fin 16} {host : Option (List Byte)} {s : State} (hm : s.mem.Canon) :
    CanonNext (execDmaBurstComplete engine host s) := by
  simp only [execDmaBurstComplete]
  split <;> simp [hm]

/-! ## Operations on Lantern regions -/

@[simp] theorem State.lanRelease_canon {s : State} {r : Nat} (hm : s.mem.Canon) :
    (s.lanRelease r).mem.Canon := by simp [State.lanRelease, hm]

@[simp] theorem State.lanUnload_canon {s : State} {r : Nat} (hm : s.mem.Canon) :
    (s.lanUnload r).mem.Canon :=
  (State.lanRelease_canon (hm.of_eq ((State.lanClear_mem ..).trans (State.lanEnter_mem ..)))).of_eq
    ((State.lanFinish_mem ..).trans (State.lanEnter_mem ..))

@[simp] theorem State.lanStale_canon {s : State} {p : PendCmd} (hm : s.mem.Canon) :
    (s.lanStale p).mem.Canon := by
  unfold State.lanStale
  extract_lets +onlyGivenNames r t v
  have ht : t.mem.Canon := hm.of_eq (State.dropClaim_mem ..)
  exact ite_canon hm (ite_canon (ht.of_eq (State.setRegion_mem ..)) (ite_canon (ht.of_eq (State.setRegion_mem ..))
    (ite_canon (State.lanUnload_canon ht) ht)))

@[simp] theorem State.lanRetire_canon {s : State} {r : Nat} (hm : s.mem.Canon) :
    (s.lanRetire r).mem.Canon := by simp [State.lanRetire, hm]

/-! ## Modes of the device, Foghorn, the fault log and the leaky-bucket counters -/

@[simp] theorem State.weigh_canon {s : State} {code r retry : Nat} {detail : List Nat} (hm : s.mem.Canon) :
    (s.weigh code r retry detail).2.mem.Canon := by simp [State.weigh, hm]

@[simp] theorem State.fault_canon {s : State} {code r retry : Nat} {detail : List Nat} (hm : s.mem.Canon) :
    (s.fault code r retry detail).mem.Canon := by simp [State.fault, hm]

/-! ## The two Keeper pairs -/

@[simp] theorem State.restartBoot_canon {s : State} (hm : s.mem.Canon) :
    s.restartBoot.mem.Canon := by
  have ht : (s.foghorn 2).pairsUp.mem.Canon := hm.of_eq ((State.pairsUp_mem ..).trans (State.foghorn_mem ..))
  exact ite_canon (ht.withCache Mem.wf_nil) (ht.of_eq (State.setF_mem ..))

@[simp] theorem State.fatalTaken_canon {s : State} (hm : s.mem.Canon) :
    s.fatalTaken.mem.Canon := by
  unfold State.fatalTaken
  extract_lets +onlyGivenNames a boot t other
  have ht : t.mem.Canon := hm
  refine ite_canon (ht.of_eq (State.freeze_mem ..)) ?_
  extract_lets +onlyGivenNames u v boot' w
  have hu : u.mem.Canon := ht.of_eq ((State.bump_mem ..).trans ((State.raiseEs_mem ..).trans (State.foghorn_mem ..)))
  have hw : w.mem.Canon := State.log_canon (s := u) hu
  exact ite_canon (hw.of_eq (State.takeOver_mem ..)) (hw.of_eq (State.rebootPair_mem ..))

@[simp] theorem State.takeEvents_canon {s : State} {fuel : Nat} (hm : s.mem.Canon) :
    (s.takeEvents fuel).mem.Canon := by
  induction fuel generalizing s with
  | zero => exact hm
  | succ fuel ih =>
    unfold State.takeEvents
    refine ite_canon hm ?_
    split
    next => exact hm
    next => exact hm
    next e =>
      extract_lets +onlyGivenNames boot t u
      have hu : u.mem.Canon := ite_canon (State.fatalTaken_canon (s := t) hm) hm
      split
      next => exact ih hu
      next => exact hu.of_eq (State.setF_mem ..)

@[simp] theorem State.modeEvent_canon {s : State} {e : ModeEvent} (hm : s.mem.Canon) :
    (s.modeEvent e).mem.Canon := by simp [State.modeEvent, hm]

@[simp] theorem State.endTransition_canon {s : State} (hm : s.mem.Canon) :
    s.endTransition.mem.Canon := by
  unfold State.endTransition
  split
  next => exact hm
  next m cause _ =>
    extract_lets +onlyGivenNames boot t u v boot' w
    have hu : u.mem.Canon :=
      MemSt.Canon.of_eq (m := t.mem) hm ((State.raiseEs_mem ..).trans ((State.setF_mem ..).trans (State.setMode_mem ..)))
    have hv : v.mem.Canon := foldl_canon (fun _ _ h => h.of_eq (State.fogMessages_mem ..)) _ hu
    exact State.takeEvents_canon (s := w) hv

@[simp] theorem State.fatalActive_canon {s : State} (hm : s.mem.Canon) :
    s.fatalActive.mem.Canon := by simp [State.fatalActive, hm]

@[simp] theorem State.retireEnded_canon {s : State} {r : Nat} (hm : s.mem.Canon) :
    (s.retireEnded r).mem.Canon :=
  ((State.log_canon hm).of_eq (State.raiseEs_mem ..)).of_eq (State.bump_mem ..)

@[simp] theorem State.holdAtLimit_canon {s : State} {r : Nat} (hm : s.mem.Canon) :
    (s.holdAtLimit r).mem.Canon := by simp [State.holdAtLimit, hm]

@[simp] theorem State.pairFaultBy_canon {act : State → State} (h : ∀ t, t.mem.Canon → (act t).mem.Canon) {s : State} {p : Nat}
    {detail : List Nat} (hm : s.mem.Canon) : (s.pairFaultBy p detail act).mem.Canon := by
  unfold State.pairFaultBy
  refine ite_canon hm ?_
  split
  next due t ht =>
    have htp : t.mem.Canon := (State.weigh_canon hm).of_eq (mem_of_eq ht)
    clear ht
    extract_lets +onlyGivenNames due' go u ras v w
    have hu : u.mem.Canon := ite_canon (State.holdAtLimit_canon htp) htp
    have hv : v.mem.Canon := ite_canon (hu.of_eq (State.showRetired_mem ..)) hu
    have hw : w.mem.Canon := h v hv
    refine ite_canon ?_ hw
    exact State.retireEnded_canon ((State.modeEvent_canon (State.log_canon hw)).of_eq (State.foghorn_mem ..))

@[simp] theorem State.pairFault_canon {s : State} {p : Nat} {detail : List Nat} (hm : s.mem.Canon) :
    (s.pairFault p detail).mem.Canon :=
  State.pairFaultBy_canon (fun _ h => ite_canon (State.fatalActive_canon h) (h.of_eq (State.fatalStandby_mem ..))) hm

/-! ## Operations on instances -/

@[simp] theorem State.updateStale_canon {s : State} {p : PendCmd} (hm : s.mem.Canon) :
    (s.updateStale p).mem.Canon := by
  simp only [State.updateStale]
  split <;> simp [hm]

@[simp] theorem State.endStale_canon {s : State} {i : Nat} (hm : s.mem.Canon) :
    (s.endStale i).mem.Canon := by
  unfold State.endStale
  extract_lets +onlyGivenNames mine cmds t
  exact foldl_canon (s := t) (fun _ _ h => State.updateStale_canon (h.of_eq (State.finish_mem ..))) _ hm

@[simp] theorem State.bumpGen_canon {s : State} {i : Nat} (hm : s.mem.Canon) :
    (s.bumpGen i).mem.Canon := State.endStale_canon hm

@[simp] theorem State.incGen_canon {s : State} {i : Nat} {w : IncWait} (hm : s.mem.Canon) :
    (s.incGen i w).2.mem.Canon := by simp [State.incGen, hm]

@[simp] theorem State.hostFacing_canon {s : State} {i : Nat} (hm : s.mem.Canon) :
    (s.hostFacing i).mem.Canon := by
  unfold State.hostFacing
  extract_lets +onlyGivenNames a b c d evc e host f v mine
  have hd : d.mem.Canon := hm.of_eq ((State.abortQueues_mem ..).trans ((State.dropWaiting_mem ..).trans ((State.setInst_mem ..).trans
    ((State.raiseEs_mem ..).trans (State.bump_mem ..)))))
  have hf : v.mem.Canon := MemSt.Canon.of_eq (m := f.mem) hd
    ((State.dropSubs_mem ..).trans ((State.connHostReset_mem ..).trans (State.buoyHostReset_mem ..)))
  exact foldl_canon (fun _ _ h => State.dmaEnd_canon h) _ hf

@[simp] theorem State.hostReset_canon {s : State} {i : Nat} {strong : Bool} (hm : s.mem.Canon) :
    (s.hostReset i strong).mem.Canon := by
  simp [State.hostReset, hm]

@[simp] theorem State.hostResetAll_canon {s : State} {strong : Bool} {p : Nat → Bool} (hm : s.mem.Canon) :
    (s.hostResetAll strong p).mem.Canon :=
  foldl_canon (fun _ _ h => ite_canon (State.hostReset_canon h) h) _ hm

/-! ## The parser -/

@[simp] theorem State.ruleParity_canon {s : State} {k : Nat} (hm : s.mem.Canon) :
    (s.ruleParity k).mem.Canon :=
  State.faultElse_canon (((hm.of_eq (State.setReg_mem ..)).of_eq (State.bump_mem ..)).of_eq (State.raiseEs_mem ..))

@[simp] theorem State.classify_canon {s : State} {stage owner profile : Nat} {key : List Byte} (hm : s.mem.Canon) :
    (s.classify stage owner profile key).2.mem.Canon :=
  foldl_canon (fun _ _ h => State.ruleParity_canon h) _ hm

@[simp] theorem State.clsCreate_canon {s : State} {i : Nat} (hm : s.mem.Canon) :
    (s.clsCreate i).mem.Canon := by
  obtain ⟨t, ht⟩ : ∃ t, s.clsCreate i = t := ⟨_, rfl⟩
  rw [ht]
  generalize hf : State.clsCreate = f at ht
  delta State.clsCreate at hf
  subst hf
  beta_reduce at ht
  rw [← ht]
  exact State.ssWrite_canon (hm.of_eq (State.setClsInst_mem ..))

/-! ## The table engines -/

@[simp] theorem State.storeSlot_canon {s : State} {t i : Nat} (hm : s.mem.Canon) :
    (s.storeSlot t i).mem.Canon := by
  obtain ⟨x, hx⟩ : ∃ x, s.storeSlot t i = x := ⟨_, rfl⟩
  rw [hx]
  generalize hf : State.storeSlot = f at hx
  delta State.storeSlot at hf
  subst hf
  beta_reduce at hx
  extract_lets v off key u bs at hx
  split at hx
  · rw [← hx]
    exact hm
  · have hu : u.mem.Canon := by
      clear hx
      subst u
      refine ite_canon ?_ hm
      split
      next home w hw =>
        have h : w.mem.Canon := (hm.of_eq (State.takeLpd_mem ..)).of_eq (mem_of_eq hw)
        split
        · exact State.install_canon (h.of_eq (State.setPage_mem ..))
        · exact h
    clear_value u bs
    rw [← hx]
    exact State.ssWrite_canon hu

@[simp] theorem State.emParity_canon {s : State} {t i : Nat} (hm : s.mem.Canon) :
    (s.emParity t i).mem.Canon :=
  State.faultElse_canon (hm.of_eq ((State.raiseEs_mem ..).trans ((State.bump_mem ..).trans
    ((State.setReg_mem ..).trans (State.setReg_mem ..)))))

@[simp] theorem State.markHit_canon {s : State} {t i : Nat} (hm : s.mem.Canon) :
    (s.markHit t i).mem.Canon := by
  simp only [State.markHit]
  split <;> simp [hm]

@[simp] theorem State.emFind_canon {s : State} {t iid : Nat} {key : List Byte} (hm : s.mem.Canon) :
    (s.emFind t iid key).2.mem.Canon := by
  unfold State.emFind
  extract_lets +onlyGivenNames v key
  refine snd_canon_of_ite hm ?_
  split
  extract_lets +onlyGivenNames bad u
  have hu : u.mem.Canon := foldl_canon (fun _ _ h => State.emParity_canon h) _ hm
  split
  · exact hu
  · exact hu

@[simp] theorem State.emLookup_canon {s : State} {t iid : Nat} {key : List Byte} (hm : s.mem.Canon) :
    (s.emLookup t iid key).2.mem.Canon := by
  unfold State.emLookup
  split
  next hit u hu =>
    have h : u.mem.Canon := (State.emFind_canon (hm.of_eq (State.bump_mem ..))).of_eq (mem_of_eq hu)
    split
    · exact State.markHit_canon (h.of_eq (State.bump_mem ..))
    · exact h

@[simp] theorem State.lpmFind_canon {s : State} {vrf : Nat} {v6 : Bool} {addr : List Byte} (hm : s.mem.Canon) :
    (s.lpmFind vrf v6 addr).2.mem.Canon := by simp [State.lpmFind, hm]

@[simp] theorem State.lpmLookup_canon {s : State} {vrf : Nat} {v6 : Bool} {addr : List Byte} (hm : s.mem.Canon) :
    (s.lpmLookup vrf v6 addr).2.mem.Canon := by simp [State.lpmLookup, hm]

@[simp] theorem State.ageVisit_canon {s : State} {t : Nat} (hm : s.mem.Canon) :
    (s.ageVisit t).mem.Canon := by
  simp only [State.ageVisit]
  repeat' split
  all_goals simp [hm]

/-! ## Switching -/

@[simp] theorem State.commit_canon {s : State} {c : Commit} (hm : s.mem.Canon) :
    (s.commit c).mem.Canon := by
  simp only [State.commit]
  repeat' split
  all_goals simp [hm]

@[simp] theorem State.commitFor_canon {s : State} {p : Pkt} {c : Commit} (hm : s.mem.Canon) :
    (s.commitFor p c).mem.Canon := by
  simp only [State.commitFor]
  split <;> simp [hm]

@[simp] theorem State.bumpFor_canon {s : State} {p : Pkt} {r : Nat} {event : Option Nat} (hm : s.mem.Canon) :
    (s.bumpFor p r event).mem.Canon := by
  simp [State.bumpFor, hm]

@[simp] theorem State.countParse_canon {s : State} {p : Pkt} {source : Nat} {r : ParseRun} (hm : s.mem.Canon) :
    (s.countParse p source r).mem.Canon := by
  unfold State.countParse
  extract_lets +onlyGivenNames t u v c
  have ht : t.mem.Canon := State.bumpFor_canon hm
  have hu : u.mem.Canon := ite_canon (State.bumpFor_canon ht) ht
  have hv : v.mem.Canon := ite_canon (State.bumpFor_canon hu) hu
  exact ite_canon hv (State.commitFor_canon (State.bumpFor_canon (State.bumpFor_canon hv)))

@[simp] theorem State.excPass_canon {s : State} {p : Pkt} {i : Nat} (hm : s.mem.Canon) :
    (s.excPass p i).2.mem.Canon := by simp [State.excPass, hm]

/-! ## Fills and parking of the State Pager -/

@[simp] theorem State.fillPage_canon {s : State} {key : Nat} {bs : Option (List Byte)} (hm : s.mem.Canon) :
    (s.fillPage key bs).mem.Canon := by
  simp [State.fillPage, hm]

@[simp] theorem State.poisonPage_canon {s : State} {key : Nat} (hm : s.mem.Canon) :
    (s.poisonPage key).mem.Canon := by simp [State.poisonPage, hm]

@[simp] theorem State.fillFailed_canon {s : State} {key : Nat} (hm : s.mem.Canon) :
    (s.fillFailed key).mem.Canon := by simp [State.fillFailed, hm]

/-! ## Frames that leave the action stage -/

@[simp] theorem State.deliver_canon {s : State} {inst loc : Nat} {p : Pkt} {ok : Bool} (hm : s.mem.Canon) :
    (s.deliver inst loc p ok).mem.Canon := by
  unfold State.deliver
  extract_lets +onlyGivenNames bad v
  have hb : (bad s).mem.Canon := (State.bumpFor_canon hm).of_eq (State.dropPkt_mem ..)
  refine ite_canon hb ?_
  split
  next => exact hb
  next q _ =>
    extract_lets +onlyGivenNames c
    refine ite_canon hb ?_
    split
    next f t ht =>
      have htp : t.mem.Canon := (hm.of_eq (State.rxImage_mem ..)).of_eq (mem_of_eq ht)
      clear ht
      split
      next => exact (State.bumpFor_canon htp).of_eq (State.dropPkt_mem ..)
      next f =>
        extract_lets +onlyGivenNames u v
        have hu : u.mem.Canon := htp.of_eq (State.freeHead_mem ..)
        have hv : v.mem.Canon := by
          unfold v
          split
          · exact hu.of_eq (State.completeTx_mem ..)
          · exact hu
        refine ite_canon ((ite_canon (hv.of_eq (State.pmeWake_mem ..)) hv).of_eq (State.rxDrop_mem ..)) (ite_canon ?_ ?_)
        · exact hv.of_eq (State.rxDrop_mem ..)
        · exact hv.of_eq (State.rxQueue_mem ..)

@[simp] theorem State.deliverTail_canon {s : State} {inst loc : Nat} {p : Pkt} (hm : s.mem.Canon) :
    (s.deliverTail inst loc p).mem.Canon := by
  simp only [State.deliverTail]
  split <;> simp [hm]

/-! ## The pipelines -/

@[simp] theorem State.ownDrop_canon {s : State} {owner : Nat} {p : Pkt} {reason : Nat} (hm : s.mem.Canon) :
    (s.ownDrop owner p reason).mem.Canon :=
  (State.commitFor_canon hm).of_eq (State.dropPkt_mem ..)

@[simp] theorem State.exception_canon {s : State} {p : Pkt} {inst mark : Nat} (hm : s.mem.Canon) :
    (s.exception p inst mark).mem.Canon := by
  simp [State.exception, hm]

@[simp] theorem State.sendCopy_canon {s : State} {p : Pkt} {bytes : List Byte} {session : Nat} (hm : s.mem.Canon) :
    (s.sendCopy p bytes session).mem.Canon := by
  unfold State.sendCopy
  split
  next => exact hm
  next m _ =>
    extract_lets +onlyGivenNames lost trunc cut prof
    have hlost : ∀ {t : State}, t.mem.Canon → (lost t).mem.Canon := State.bumpFor_canon
    split
    next => exact hlost hm
    next kind a b via _ =>
      extract_lets +onlyGivenNames by_ holder encap
      split
      next head t ht =>
        have htp : t.mem.Canon := (snd_canon_of_ite (hm.of_eq (State.allocBuf_mem ..)) hm).of_eq (mem_of_eq ht)
        clear ht
        refine ite_canon (hlost htp) ?_
        extract_lets +onlyGivenNames c
        split
        next ok u hu =>
          have hup : u.mem.Canon := (htp.of_eq (State.shareBuf_mem ..)).of_eq (mem_of_eq hu)
          clear hu
          refine ite_canon (hlost (htp.of_eq (State.freeHead_mem ..))) (ite_canon (State.deliverTail_canon hup) ?_)
          split
          next x w hw =>
            have hwp : w.mem.Canon := (hup.of_eq (State.stage4_mem ..)).of_eq (mem_of_eq hw)
            clear hw
            have hend : (lost (w.endBuf c)).mem.Canon := hlost (hwp.of_eq (State.endBuf_mem ..))
            split
            · exact ite_canon (hwp.of_eq (State.enterLeaf_mem ..)) hend
            · exact hend

@[simp] theorem State.leaveEgress_canon {s : State} {p : Pkt} {port leaf : Nat} (hm : s.mem.Canon) :
    (s.leaveEgress p port leaf).mem.Canon := by
  unfold State.leaveEgress
  split
  · exact hm.of_eq (State.safOffer_mem ..)
  · exact (foldl_canon (fun _ _ h => State.sendCopy_canon h) _ hm).of_eq (State.enterLeaf_mem ..)

@[simp] theorem State.sendPort_canon {s : State} {p : Pkt} {port leaf : Nat} (hm : s.mem.Canon) :
    (s.sendPort p port leaf).mem.Canon := by
  simp only [State.sendPort]
  split <;> simp [hm]

@[simp] theorem State.finishActs_canon {s : State} {p : Pkt} (hm : s.mem.Canon) :
    (s.finishActs p).mem.Canon := by
  simp only [State.finishActs]
  repeat' split
  all_goals simp [hm]

@[simp] theorem State.spreadEntry_canon {s : State} {inst : Nat} {p : Pkt} (hm : s.mem.Canon) :
    (s.spreadEntry inst p).2.2.mem.Canon := by
  simp only [State.spreadEntry]
  split <;> simp [hm]

@[simp] theorem State.spread_canon {s : State} {inst : Nat} {p : Pkt} (hm : s.mem.Canon) :
    (s.spread inst p).mem.Canon := by
  simp only [State.spread]
  repeat' split
  all_goals simp [hm]

@[simp] theorem transfer_canon {s : State} {p : Pkt} {k : Nat} (hm : s.mem.Canon) :
    (transfer s p k).state.mem.Canon := by
  simp only [transfer]
  split <;> simp [hm]

@[simp] theorem viaPath_canon {s : State} {p : Pkt} {path : Nat} (hm : s.mem.Canon) :
    (viaPath s p path).state.mem.Canon := by
  simp only [viaPath]
  split <;> simp [hm]

@[simp] theorem State.lpmFor_canon {s : State} {p : Pkt} {vrf : Nat} {v6 : Bool} {addr : List Byte} (hm : s.mem.Canon) :
    (s.lpmFor p vrf v6 addr).2.mem.Canon := by simp [State.lpmFor, hm]

@[simp] theorem State.emFor_canon {s : State} {p : Pkt} {t iid : Nat} {key : List Byte} (hm : s.mem.Canon) :
    (s.emFor p t iid key).2.mem.Canon := by
  unfold State.emFor
  split
  next hit u hu =>
    have h : u.mem.Canon := (State.emFind_canon (State.bumpFor_canon hm)).of_eq (mem_of_eq hu)
    split
    · exact State.commitFor_canon (State.bumpFor_canon h)
    · exact h

@[simp] theorem doLpm_canon {s : State} {p : Pkt} {a : Act} (hm : s.mem.Canon) :
    (doLpm s p a).state.mem.Canon := by
  simp only [doLpm]
  repeat' split
  all_goals simp [hm]

@[simp] theorem doEm_canon {s : State} {here p : Pkt} {a : Act} (hm : s.mem.Canon) :
    (doEm s here p a).state.mem.Canon := by
  unfold doEm
  extract_lets +onlyGivenNames t v key
  split
  extract_lets +onlyGivenNames pages
  split
  · exact hm.of_eq (State.pageLost_mem ..)
  · exact (State.bumpFor_canon hm).of_eq (State.park_mem ..)
  · extract_lets +onlyGivenNames s0
    have h0 : s0.mem.Canon := foldl_canon (fun _ _ h => h.of_eq (State.usePage_mem ..)) _ hm
    split
    next hit u he =>
      have hu : u.mem.Canon := (State.emFor_canon h0).of_eq (mem_of_eq he)
      clear he
      extract_lets +onlyGivenNames learns record parallel
      have hr : ∀ {w : State} {k o}, w.mem.Canon → (record w k o).mem.Canon := fun h => ite_canon h (State.commitFor_canon h)
      have hp : ∀ {w : State}, w.mem.Canon → (parallel w).mem.Canon := by
        intro w h
        unfold parallel
        split
        · refine ite_canon ?_ h
          split
          · exact State.lpmFor_canon h
          · exact h
        · exact h
      clear_value record parallel
      split
      · extract_lets +onlyGivenNames w p'
        have hw : w.mem.Canon := ite_canon (hr hu) hu
        have ht := fun q k => transfer_canon (p := q) (k := k) (hp hw)
        split
        next x hx => exact (ht ..).of_eq (congrArg (·.state.mem) hx.symm)
        next x q hx => exact MemSt.Canon.of_eq ((ht ..).of_eq (congrArg (·.state.mem) hx.symm)) (State.stage7_mem ..)
      · extract_lets +onlyGivenNames w
        have hw : w.mem.Canon := hr hu
        split
        · exact Acted.ite_canon hw (transfer_canon (hp hw))
        · exact State.ownDrop_canon (State.bumpFor_canon hw)
        · exact hw

@[simp] theorem doPolice_canon {s : State} {p : Pkt} {k : Nat} (hm : s.mem.Canon) :
    (doPolice s p k).state.mem.Canon := by
  obtain ⟨meter, he⟩ : ∃ f, Policer.meter = f := ⟨_, rfl⟩
  unfold doPolice
  rw [he]
  split
  · exact hm
  · split
    extract_lets +onlyGivenNames t act
    have ht : t.mem.Canon := State.commitFor_canon (hm.of_eq (State.setPolicer_mem ..))
    clear_value act
    split
    · exact State.ownDrop_canon ht
    · exact ht
    · exact ht

@[simp] theorem doCopy_canon {s : State} {p : Pkt} {session : Nat} (hm : s.mem.Canon) :
    (doCopy s p session).state.mem.Canon := by simp [doCopy, hm]

@[simp] theorem doAct_canon {s : State} {here p : Pkt} {a : Act} (hm : s.mem.Canon) :
    (doAct s here p a).state.mem.Canon := by
  unfold doAct
  extract_lets +onlyGivenNames edit edits tag
  refine Acted.ite_canon ?_ ?_
  · exact (State.bumpFor_canon hm).of_eq (State.dropPkt_mem ..)
  · split
    case h_6 =>
      extract_lets +onlyGivenNames i
      split
      next h w t ht =>
        extract_lets +onlyGivenNames q
        have htp : t.mem.Canon := (State.spreadEntry_canon hm).of_eq (mem_of_eq_triple ht)
        split
        · exact htp.of_eq (State.park_mem ..)
        · exact htp.of_eq (State.pageLost_mem ..)
        · split
          · exact htp
          · exact viaPath_canon htp
          · exact State.ownDrop_canon htp
    case h_1 => exact doEm_canon hm
    case h_2 => exact doLpm_canon hm
    case h_5 => exact viaPath_canon hm
    case h_7 => exact State.ownDrop_canon hm
    case h_8 => exact State.exception_canon hm
    case h_12 =>
      extract_lets +onlyGivenNames t
      exact ite_canon (State.bumpFor_canon hm) hm
    case h_14 => exact Acted.ite_canon (State.exception_canon (State.bumpFor_canon hm)) hm
    case h_16 => exact State.commitFor_canon hm
    case h_17 => exact doCopy_canon hm
    case h_18 =>
      extract_lets +onlyGivenNames n
      exact Acted.ite_canon (doCopy_canon (hm.of_eq (State.draw_mem ..))) (hm.of_eq (State.draw_mem ..))
    case h_19 => exact doPolice_canon hm
    case h_20 => exact Acted.ite_canon hm (hm.of_eq (State.safOffer_mem ..))
    case h_21 =>
      extract_lets +onlyGivenNames r tap
      split
      next ok t ht =>
        have htp : t.mem.Canon := (hm.of_eq (State.tapOffer_mem ..)).of_eq (mem_of_eq ht)
        exact Acted.ite_canon htp (Acted.ite_canon (htp.of_eq (State.dropPkt_mem ..)) htp)
    case h_22 => exact hm.of_eq (State.cloveOffer_mem ..)
    case h_23 => exact hm.of_eq (State.seqOffer_mem ..)
    all_goals exact hm

@[simp] theorem State.runActs_canon {fuel : Nat} {s : State} {p : Pkt} (hm : s.mem.Canon) :
    (s.runActs fuel p).mem.Canon := by
  induction fuel generalizing s p with
  | zero => exact State.finishActs_canon hm
  | succ fuel ih =>
    rw [State.runActs]
    refine ite_canon hm (ite_canon (hm.of_eq (State.dropPkt_mem ..)) ?_)
    split
    · exact State.finishActs_canon hm
    next a rest _ =>
      refine ite_canon (hm.of_eq (State.dropPkt_mem ..)) ?_
      have hd := doAct_canon (here := p) (p := { p with acts := rest }) (a := a) hm
      split
      next t q h => exact ih (hd.of_eq (congrArg (·.state.mem) h.symm))
      next t h => exact hd.of_eq (congrArg (·.state.mem) h.symm)

@[simp] theorem State.acts_canon {s : State} {p : Pkt} (hm : s.mem.Canon) :
    (s.acts p).mem.Canon := State.runActs_canon hm

@[simp] theorem State.actList_canon {s : State} {p : Pkt} {k : Nat} (hm : s.mem.Canon) :
    (s.actList p k).mem.Canon := by
  have hd := transfer_canon (p := p) (k := k) hm
  unfold State.actList
  split
  next t q h => exact State.acts_canon (hd.of_eq (congrArg (·.state.mem) h.symm))
  next t h => exact hd.of_eq (congrArg (·.state.mem) h.symm)

@[simp] theorem State.stage1_canon {s : State} {p : Pkt} {i : Nat} (hm : s.mem.Canon) :
    (s.stage1 p i).mem.Canon := by
  unfold State.stage1
  extract_lets +onlyGivenNames v
  refine ite_canon ?_ (ite_canon (State.ownDrop_canon hm) ?_)
  · exact (State.bumpFor_canon hm).of_eq (State.dropPkt_mem ..)
  · extract_lets +onlyGivenNames p' c p''
    split
    next m u hu =>
      have hup : u.mem.Canon := (State.classify_canon (State.bumpFor_canon hm)).of_eq (mem_of_eq hu)
      clear hu
      split
      next =>
        split
        · exact State.spread_canon hup
        · exact State.exception_canon hup
        · exact State.ownDrop_canon hup
      next =>
        extract_lets +onlyGivenNames q
        split
        · exact State.deliverTail_canon hup
        · exact State.spread_canon hup
        · exact State.exception_canon hup
        · exact State.ownDrop_canon hup

@[simp] theorem State.ingress_canon {s : State} {p : Pkt} (hm : s.mem.Canon) :
    (s.ingress p).mem.Canon := by
  unfold State.ingress
  extract_lets +onlyGivenNames r t p p'
  have ht : t.mem.Canon := State.countParse_canon hm
  refine ite_canon (State.exception_canon ht) ?_
  extract_lets +onlyGivenNames prof
  split
  next m u hu =>
    have hup : u.mem.Canon := (State.classify_canon (State.bumpFor_canon ht)).of_eq (mem_of_eq hu)
    clear hu
    split
    next => exact State.exception_canon (State.bumpFor_canon hup)
    next =>
      extract_lets +onlyGivenNames q
      split
      · exact State.actList_canon hup
      · exact State.spread_canon hup
      · exact State.exception_canon hup
      · exact State.stage1_canon hup
      · exact State.ownDrop_canon hup

@[simp] theorem State.egress_canon {s : State} {p : Pkt} (hm : s.mem.Canon) :
    (s.egress p).mem.Canon := by
  unfold State.egress
  extract_lets +onlyGivenNames start r t p p'
  have ht : t.mem.Canon := State.countParse_canon hm
  refine ite_canon (ite_canon (ht.of_eq (State.dropPkt_mem ..)) (State.finishActs_canon ht)) ?_
  extract_lets +onlyGivenNames prof
  split
  next m u hu =>
    have hup : u.mem.Canon := (State.classify_canon (State.bumpFor_canon ht)).of_eq (mem_of_eq hu)
    clear hu
    split
    next => exact State.finishActs_canon hup
    next =>
      extract_lets +onlyGivenNames q
      split
      · exact State.actList_canon hup
      · exact State.ownDrop_canon hup

@[simp] theorem State.resumeParked_canon {s : State} {x : Parked} (hm : s.mem.Canon) :
    (s.resumeParked x).mem.Canon := by
  have h := State.stage7_mem s x.pkt .state
  unfold State.resumeParked
  split
  · simp [hm]
  · simp [hm]
  · split <;> simp_all

@[simp] theorem State.releasePage_canon {s : State} {key : Nat} (hm : s.mem.Canon) :
    (s.releasePage key).mem.Canon :=
  foldl_canon (fun _ _ h => State.resumeParked_canon h) _ (hm.of_eq (State.unpark_mem ..))

@[simp] theorem State.releaseGone_canon {s : State} {ssid : Nat} (hm : s.mem.Canon) :
    (s.releaseGone ssid).mem.Canon :=
  foldl_canon (fun _ _ h => State.resumeParked_canon h) _ hm

@[simp] theorem State.resumeHeld_canon {s : State} {h : HoldAt} {p : Pkt} {ok : Bool} (hm : s.mem.Canon) :
    (s.resumeHeld h p ok).mem.Canon := by
  simp only [State.resumeHeld]
  split <;> simp [hm]

@[simp] theorem State.tail_canon {s : State} {frame : Nat} {ok : Bool} (hm : s.mem.Canon) :
    (s.tail frame ok).mem.Canon := by
  unfold State.tail
  extract_lets +onlyGivenNames a t cs b u v hs c w ts d x y
  have hv : v.mem.Canon := foldl_canon (s := u) (fun _ _ h => ite_canon (State.commit_canon h) (h.of_eq (State.uncommit_mem ..))) _ hm
  have hy : y.mem.Canon := foldl_canon (s := x) (fun _ _ h => (ite_canon h (h.of_eq (State.stat_mem ..))).of_eq
    ((State.emit_mem ..).trans (State.countFrame_mem ..))) _ hv
  exact foldl_canon (fun _ _ h => State.resumeHeld_canon h) _ hy

@[simp] theorem State.receive_canon {s : State} {port : Nat} {bytes : List Byte} (hm : s.mem.Canon) :
    (s.receive port bytes).mem.Canon := by
  unfold State.receive
  extract_lets +onlyGivenNames v note n
  have hnote : ∀ {t : State} {k b}, t.mem.Canon → (note t k b).mem.Canon := fun h => h
  refine ite_canon (hnote hm) ?_
  split
  next tags data _ =>
    extract_lets +onlyGivenNames prio est
    split
    next ptr t ht =>
      have htp : t.mem.Canon := (hm.of_eq (State.allocLine_mem ..)).of_eq (mem_of_eq ht)
      clear ht
      split
      next => exact hnote (htp.of_eq (State.stat_mem ..))
      next ptr =>
        refine ite_canon (hnote (htp.of_eq (State.freeFrame_mem ..))) ?_
        extract_lets +onlyGivenNames b old u
        have hu : u.mem.Canon := (State.storeBuf_canon (htp.of_eq (State.putBuf_mem ..))).of_eq (State.settleAccount_mem ..)
        clear_value u
        split
        next ts un delay _ =>
          extract_lets +onlyGivenNames plain
          split
          next side w hw =>
            have hwp : w.mem.Canon := (snd_canon_of_ite (hu.of_eq (State.sideRecord_mem ..)) hu).of_eq (mem_of_eq hw)
            clear hw
            extract_lets +onlyGivenNames k pkt pipe x
            have hx : x.mem.Canon := hnote hwp
            exact ite_canon (State.ingress_canon hx) hx

/-! ## The Spar fabric -/

@[simp] theorem State.sparFault_canon {s : State} {p code : Nat} (hm : s.mem.Canon) :
    (s.sparFault p code).mem.Canon := foldl_canon (fun _ _ h => State.fault_canon h) _ hm

@[simp] theorem State.readLines_canon {s : State} {ssid off fuel : Nat} (hm : s.mem.Canon) :
    (s.readLines ssid off fuel).2.mem.Canon := by
  induction fuel generalizing s off with
  | zero => exact hm
  | succ fuel ih =>
    simp only [State.readLines]
    split
    · simp [hm]
    · split <;> simp [ih, hm]

@[simp] theorem State.writeLines_canon {s : State} {ssid off : Nat} {bs : List Byte} {fuel : Nat} (hm : s.mem.Canon) :
    (s.writeLines ssid off bs fuel).2.mem.Canon := by
  induction fuel generalizing s off bs with
  | zero => exact hm
  | succ fuel ih =>
    simp only [State.writeLines]
    split <;> simp [ih, hm]

@[simp] theorem State.sparAskWrite_canon {s : State} {c mid w ssid : Nat} (hm : s.mem.Canon) :
    (s.sparAskWrite c mid w ssid).mem.Canon := by
  simp only [State.sparAskWrite]
  split <;> simp [hm]

@[simp] theorem State.sparRequest_canon {s : State} {c mid w : Nat} (hm : s.mem.Canon) :
    (s.sparRequest c mid w).mem.Canon := by
  unfold State.sparRequest
  extract_lets +onlyGivenNames op n chan t
  have ht : t.mem.Canon := hm.of_eq (State.setSchan_mem ..)
  clear_value t
  have hc : ∀ (u : State) a b, u.mem.Canon → (u.sparComplete c w a b).mem.Canon := fun u a b h =>
    h.of_eq (State.sparComplete_mem ..)
  refine ite_canon (hc _ _ _ ht) ?_
  split
  next => exact hc _ _ _ ht
  next ssid requester _ =>
    refine ite_canon ?_ (ite_canon ?_ (ite_canon ?_ (hc _ _ _ ht)))
    · exact ht.of_eq (State.sparAsk_mem ..)
    · refine ite_canon ?_ (State.sparAskWrite_canon ht)
      exact (ht.of_eq (State.setSchan_mem ..)).of_eq (State.sparHold_mem ..)
    · extract_lets +onlyGivenNames ptr len alone
      refine ite_canon (hc _ _ _ ht) ?_
      extract_lets +onlyGivenNames bytes
      split
      next r u hu =>
        have hup : u.mem.Canon := (ht.of_eq (State.sparLaunch_mem ..)).of_eq (mem_of_eq hu)
        split
        next => exact hc _ _ _ hup
        next port q =>
          split
          next ok x hx =>
            have hxp : x.mem.Canon := (hup.of_eq (State.transferBuf_mem ..)).of_eq (mem_of_eq hx)
            refine ite_canon (hc _ _ _ hxp) ?_
            exact (hxp.of_eq (State.setSchan_mem ..)).of_eq (State.sparQueue_mem ..)

@[simp] theorem State.sparKick_canon {s : State} {c : Nat} (hm : s.mem.Canon) :
    (s.sparKick c).mem.Canon := by
  unfold State.sparKick
  split
  next => exact hm
  next a _ =>
    extract_lets +onlyGivenNames mid mine theirs
    refine ite_canon ?_ (ite_canon hm ?_)
    · refine ite_canon ?_ hm
      split
      next w t ht => exact State.sparRequest_canon ((hm.of_eq (State.buoyTake_mem ..)).of_eq (mem_of_eq ht))
    · extract_lets +onlyGivenNames t u
      have ht : t.mem.Canon := by
        unfold t
        split
        next q _ =>
          refine ite_canon hm ?_
          split
          next w hw => exact ((hm.of_eq (State.sparSend_mem ..)).of_eq (mem_of_eq hw)).of_eq (State.setSchan_mem ..)
        next => exact hm
      have hu : u.mem.Canon := by
        unfold u
        refine ite_canon ht ?_
        split
        next ok w hw =>
          have hwp : w.mem.Canon := (ht.of_eq (State.sparSend_mem ..)).of_eq (mem_of_eq hw)
          exact ite_canon (hwp.of_eq (State.setChan_mem ..)) hwp
      refine ite_canon ?_ hu
      exact (hu.of_eq (State.setSchan_mem ..)).of_eq (State.sparMail_mem ..)

@[simp] theorem State.sparAfter_canon {s : State} {c : ChanId} (hm : s.mem.Canon) :
    (s.sparAfter c).mem.Canon := by
  simp only [State.sparAfter]
  split <;> simp [hm]

@[simp] theorem State.mailSend_canon {s : State} {c : ChanId} {fromA : Bool} {w : Nat} (hm : s.mem.Canon) :
    (s.mailSend c fromA w).mem.Canon :=
  State.sparAfter_canon (hm.of_eq (State.buoySend_mem ..))

@[simp] theorem State.mailRing_canon {s : State} {c : ChanId} {toA : Bool} {bits : Nat} (hm : s.mem.Canon) :
    (s.mailRing c toA bits).mem.Canon :=
  State.sparAfter_canon (hm.of_eq (State.buoyRing_mem ..))

@[simp] theorem State.mailTake_canon {s : State} {c : ChanId} {a taken : Bool} (hm : s.mem.Canon) :
    (s.mailTake c a taken).2.mem.Canon := by
  simp [State.mailTake, hm]

@[simp] theorem State.takeMail_canon {s : State} {p : SparPkt} (hm : s.mem.Canon) :
    (s.takeMail p).mem.Canon := by
  unfold State.takeMail
  extract_lets +onlyGivenNames c kind v ok x
  have hr : ∀ q, (((s.bump R.SPR_MBX_REJECTED).sparSend q).2).mem.Canon := fun q =>
    (hm.of_eq (State.bump_mem ..)).of_eq (State.sparSend_mem ..)
  clear_value kind v
  split
  next => exact ite_canon (hr _) hm
  next a _ =>
    split
    · refine ite_canon hm (ite_canon (hr _) ?_)
      exact (hm.of_eq (State.setSchan_mem ..)).of_eq (State.buoyDeliver_mem ..)
    · exact hm.of_eq (State.buoyRing_mem ..)
    · refine ite_canon ?_ hm
      split
      next w t ht =>
        exact State.sparKick_canon (((hm.of_eq (State.buoyTake_mem ..)).of_eq (mem_of_eq ht)).of_eq (State.setSchan_mem ..))
    · exact ite_canon (hm.of_eq (State.setSchan_mem ..)) hm
    · exact hm

@[simp] theorem State.runRequest_canon {s : State} {p : SparPkt} {g : SparGrant} (hm : s.mem.Canon) :
    (s.runRequest p g).mem.Canon := by
  simp only [State.runRequest]
  repeat' split
  all_goals simp [hm]

@[simp] theorem State.takeRequest_canon {s : State} {p : SparPkt} (hm : s.mem.Canon) :
    (s.takeRequest p).mem.Canon := by
  simp only [State.takeRequest]
  split <;> simp [hm]

@[simp] theorem State.takeResponse_canon {s : State} {p : SparPkt} (hm : s.mem.Canon) :
    (s.takeResponse p).mem.Canon := by
  simp only [State.takeResponse]
  repeat' split
  all_goals simp [hm]

@[simp] theorem State.sparServe_canon {s : State} (hm : s.mem.Canon) :
    s.sparServe.mem.Canon := by
  simp only [State.sparServe, State.settleGrants_mem]
  refine foldl_canon (fun s h hm => ?_) _ hm
  cases h
  all_goals simp only
  all_goals repeat' split
  all_goals simp [hm]

@[simp] theorem State.takeFrame_canon {s : State} {port : Nat} {p : SparPkt} (hm : s.mem.Canon) :
    (s.takeFrame port p).mem.Canon := by
  simp only [State.takeFrame]
  split <;> simp [hm]

@[simp] theorem State.sparTake_canon {s : State} {port : Nat} {p : SparPkt} (hm : s.mem.Canon) :
    (s.sparTake port p).mem.Canon := by
  simp only [State.sparTake]
  repeat' split
  all_goals simp [hm]

@[simp] theorem State.flitBody_canon {s : State} {port : Nat} {f : SparFlit} (hm : s.mem.Canon) :
    (s.flitBody port f).mem.Canon := by
  unfold State.flitBody
  extract_lets +onlyGivenNames here
  clear_value here
  split
  next path sofar t ht =>
    have htp : t.mem.Canon := by
      refine MemSt.Canon.of_eq ?_ (mem_of_eq_triple ht)
      split
      · split
        next h => exact (hm.of_eq (State.sparPath_mem ..)).of_eq (mem_of_eq h)
      · cases here
        · exact hm
        · exact hm
    clear ht
    extract_lets +onlyGivenNames v whole u
    have hu : u.mem.Canon := htp.of_eq (State.setSport_mem ..)
    clear_value u
    split
    · exact hu.of_eq (State.sparAck_mem ..)
    · extract_lets +onlyGivenNames w
      have hw : w.mem.Canon := hu.of_eq (State.sparAck_mem ..)
      exact ite_canon (State.sparTake_canon hw) hw
    · extract_lets +onlyGivenNames payload g
      exact (hu.of_eq (State.sparAck_mem ..)).of_eq (State.sparQueue_mem ..)

@[simp] theorem State.sparReplay_canon {s : State} {p : Nat} (hm : s.mem.Canon) :
    (s.sparReplay p).mem.Canon := by
  unfold State.sparReplay
  extract_lets +onlyGivenNames v
  refine ite_canon hm (ite_canon ?_ ?_)
  · refine MemSt.Canon.of_eq (State.sparFault_canon (MemSt.Canon.of_eq ?_ ((State.raiseEs_mem ..).trans
      ((State.raiseEs_mem ..).trans (State.sparDown_mem ..))))) (State.settleUpstream_mem ..)
    exact State.sparFault_canon (hm.of_eq (State.bump_mem ..))
  · extract_lets +onlyGivenNames t u
    have hu : u.mem.Canon := foldl_canon (fun _ _ h => h.of_eq (State.putFlit_mem ..)) _ (hm.of_eq (State.setSport_mem ..))
    exact State.sparFault_canon (hu.of_eq (State.bump_mem ..))

@[simp] theorem State.flitIn_canon {s : State} {p : Nat} {ws : List Word} (hm : s.mem.Canon) :
    (s.flitIn p ws).mem.Canon := by
  unfold State.flitIn
  refine ite_canon hm (ite_canon (hm.of_eq (State.sparNak_mem ..)) ?_)
  extract_lets +onlyGivenNames w0 vc first last t v back u w x y
  have hu : u.mem.Canon := (hm.of_eq (State.sparAcked_mem ..)).of_eq (State.setSport_mem ..)
  have hw : w.mem.Canon := ite_canon (State.sparReplay_canon hu) hu
  have hx : x.mem.Canon := hw.of_eq (State.sparPump_mem ..)
  clear_value x
  refine ite_canon hx (ite_canon hx (ite_canon (hx.of_eq (State.sparNak_mem ..)) ?_))
  extract_lets +onlyGivenNames z
  exact State.flitBody_canon (hx.of_eq (State.setSport_mem ..))

/-! ## Meanings of the event controller, host vectors and Buoy mailboxes -/

@[simp] theorem execEvcSrcForce_canon {mid : BitVec 13} {source : BitVec 9} {s : State} (hm : s.mem.Canon) :
    CanonNext (execEvcSrcForce mid source s) := by simp [execEvcSrcForce, hm]

@[simp] theorem execEvcSrcEnable_canon {mid : BitVec 13} {source : BitVec 9} {on : Bool} {s : State} (hm : s.mem.Canon) :
    CanonNext (execEvcSrcEnable mid source on s) := by simp [execEvcSrcEnable, hm]

@[simp] theorem execEvcPendingClear_canon {mid : BitVec 13} {k : Fin 16} {bits : Word} {s : State} (hm : s.mem.Canon) :
    CanonNext (execEvcPendingClear mid k bits s) := by simp [execEvcPendingClear, hm]

@[simp] theorem execEvcClaimRead_canon {mid : BitVec 13} {t : Fin 32} {s : State} (hm : s.mem.Canon) :
    CanonNext (execEvcClaimRead mid t s) := by simp [execEvcClaimRead, hm]

theorem State.atChan_canon {s : State} {body : Bool → State → State} {mid : Nat} {c : ChanId} (hm : s.mem.Canon)
    (h : ∀ a, (body a s).mem.Canon) : (s.atChan mid c body).mem.Canon := by
  unfold State.atChan
  split
  · exact hm
  · split
    · exact h _
    · exact ite_canon (hm.of_eq (State.bump_mem ..)) (hm.of_eq (State.buoyBadMaster_mem ..))

@[simp] theorem execBuoySend_canon {mid : BitVec 13} {internal : Bool} {n : BitVec 11} {word : Dword} {s : State}
    (hm : s.mem.Canon) : CanonNext (execBuoySend mid internal n word s) := State.atChan_canon hm fun _ => State.mailSend_canon hm

@[simp] theorem State.buoyRecv_canon {s : State} {mid : Nat} {c : ChanId} {a low : Bool} (hm : s.mem.Canon) :
    (s.buoyRecv mid c a low).2.mem.Canon := by
  simp only [State.buoyRecv]
  split <;> simp [hm]

@[simp] theorem State.buoyRead_canon {s : State} {mid : Nat} {c : ChanId} {a low : Bool} (hm : s.mem.Canon) :
    (s.buoyRead mid c a low).mem.Canon := by
  simp [State.buoyRead, hm]

@[simp] theorem execBuoyRecvRead_canon {mid : BitVec 13} {internal : Bool} {n : BitVec 11} {low : Bool} {s : State}
    (hm : s.mem.Canon) : CanonNext (execBuoyRecvRead mid internal n low s) := State.atChan_canon hm fun _ => State.buoyRead_canon hm

@[simp] theorem execBuoyDbSend_canon {mid : BitVec 13} {internal : Bool} {n : BitVec 11} {bits : Word} {s : State}
    (hm : s.mem.Canon) : CanonNext (execBuoyDbSend mid internal n bits s) := State.atChan_canon hm fun _ => State.mailRing_canon hm

@[simp] theorem execBuoyForceClear_canon {mid : BitVec 13} {internal : Bool} {n : BitVec 11} {s : State} (hm : s.mem.Canon) :
    CanonNext (execBuoyForceClear mid internal n s) := by simp [execBuoyForceClear, hm]

/-! ## DMA channels and Buoy channels as a master inside the device reaches them -/

@[simp] theorem State.dmaRegWrite_canon {s : State} {n off v : Nat} (hm : s.mem.Canon) :
    (s.dmaRegWrite n off v).mem.Canon := by
  simp [State.dmaRegWrite, hm]

@[simp] theorem State.chanRead_canon {s : State} {c : ChanId} {a : Bool} {off : Nat} (hm : s.mem.Canon) :
    (s.chanRead c a off).2.mem.Canon := by
  simp only [State.chanRead]
  split <;> simp [hm]

@[simp] theorem State.chanWrite_canon {s : State} {c : ChanId} {a : Bool} {off v : Nat} (hm : s.mem.Canon) :
    (s.chanWrite c a off v).mem.Canon := by
  simp only [State.chanWrite]
  split <;> simp [hm]

/-! ## Operations of the Clove packet engines -/

@[simp] theorem State.cloveOut_canon {s : State} {p : Pkt} {w : Nat} (hm : s.mem.Canon) :
    (s.cloveOut p w).mem.Canon := by simp [State.cloveOut, hm]

@[simp] theorem State.orderOut_canon {s : State} {mask hash fuel : Nat} (hm : s.mem.Canon) :
    (s.orderOut mask hash fuel).mem.Canon := by
  induction fuel generalizing s with
  | zero => exact hm
  | succ fuel ih =>
    simp only [State.orderOut]
    repeat' split
    all_goals simp [ih, hm]

@[simp] theorem State.resolveSlot_canon {s : State} {o : Option Nat} (hm : s.mem.Canon) :
    (s.resolveSlot o).mem.Canon := by
  simp only [State.resolveSlot]
  split <;> simp [hm]

@[simp] theorem State.cloveEmit_canon {s : State} {p : Pkt} {w : Nat} (hm : s.mem.Canon) :
    (s.cloveEmit p w).mem.Canon := by
  unfold State.cloveEmit
  split
  · exact State.cloveOut_canon hm
  · split
    · exact State.cloveOut_canon (hm.of_eq (State.bump_mem ..))
    · exact State.orderOut_canon hm

@[simp] theorem State.cloveDrop_canon {s : State} {k n counter : Nat} (hm : s.mem.Canon) :
    (s.cloveDrop k n counter).mem.Canon := by
  simp only [State.cloveDrop]
  split <;> simp [hm]

@[simp] theorem State.restartThread_canon {s : State} {k n : Nat} (hm : s.mem.Canon) :
    (s.restartThread k n).mem.Canon :=
  (((State.cloveDrop_canon hm).of_eq (State.giveUpBufs_mem ..)).of_eq (State.releaseLocks_mem ..)).of_eq (State.freeThread_mem ..)

@[simp] theorem State.reoffer_canon {s : State} {k : Nat} {fs : List CloveFrame} (hm : s.mem.Canon) :
    (s.reoffer k fs).mem.Canon := by
  simp only [State.reoffer]
  refine foldl_canon (fun s e hm => ?_) _ hm
  repeat' split
  all_goals simp [hm]

@[simp] theorem State.retireCore_canon {s : State} {k core : Nat} (hm : s.mem.Canon) :
    (s.retireCore k core).mem.Canon := by
  simp [State.retireCore, hm]

/-! ## What a read of the LPDDR5X does when its check code fails -/

@[simp] theorem State.loseClove_canon {s : State} {hit : Pkt → Bool} (hm : s.mem.Canon) :
    (s.loseClove hit).mem.Canon := by
  have lose : ∀ {t : State} {p : Pkt} {k : Option Nat}, t.mem.Canon → ((t.dropPkt p 0x0700).resolveSlot k).mem.Canon :=
    fun h => State.resolveSlot_canon (h.of_eq (State.dropPkt_mem ..))
  refine foldl_canon (fun s e h => ?_) _ (foldl_canon (fun s e h => ?_) _ hm)
  · split
    · exact ite_canon (lose h) h
    · exact h
  · refine foldl_canon (fun s t h => ?_) _ (foldl_canon (fun _ _ h => lose h) _ (h.of_eq (State.setCl_mem ..)))
    split
    · exact lose (h.of_eq (State.setTh_mem ..))
    · exact h.of_eq (State.setTh_mem ..)

@[simp] theorem State.loseBuffer_canon {s : State} {ptr : Nat} (hm : s.mem.Canon) :
    (s.loseBuffer ptr).mem.Canon := by
  unfold State.loseBuffer
  extract_lets +onlyGivenNames hit lv t pk pgr u v hd pipe w x qs y z
  have ht : t.mem.Canon := foldl_canon (fun s e hm => by
    extract_lets +onlyGivenNames gone r
    exact foldl_canon (fun s f hm => hm.of_eq (State.dropPkt_mem ..)) _ (hm.of_eq (State.setNode_mem ..))) _ hm
  have hv : v.mem.Canon := foldl_canon (fun s x hm => hm.of_eq (State.dropPkt_mem ..)) _ ht
  have hx : x.mem.Canon := foldl_canon (fun s x hm => hm.of_eq (State.dropPkt_mem ..)) _ hv
  have hy : y.mem.Canon := foldl_canon (fun s e hm => by
    extract_lets +onlyGivenNames r
    exact foldl_canon (fun s f hm => hm.of_eq (State.endHold_mem ..)) _ (hm.of_eq (State.setQ_mem ..))) _ hx
  have hz : z.mem.Canon := by
    exact ((State.loseClove_canon hy).of_eq (State.loseRoutine_mem ..)).of_eq (State.loseHandOff_mem ..)
  split
  · exact hz.of_eq (State.putBuf_mem ..)
  · exact hz

@[simp] theorem State.rebuildTable_canon {s : State} {u : Nat} (hm : s.mem.Canon) :
    (s.rebuildTable u).mem.Canon := foldl_canon (fun _ _ h => State.poisonPage_canon h) _ hm

@[simp] theorem State.lostLine_canon {s : State} {a : Nat} (hm : s.mem.Canon) :
    (s.lostLine a).mem.Canon := by
  simp only [State.lostLine]
  repeat' split
  all_goals simp [hm]

@[simp] theorem State.eccRead_canon {s : State} {a : Nat} {r : EccResult} (hm : s.mem.Canon) :
    (s.eccRead a r).mem.Canon := by
  unfold State.eccRead
  extract_lets +onlyGivenNames ch
  have hb : ∀ {k}, (s.bump k).mem.Canon := hm.of_eq (State.bump_mem ..)
  split
  · exact hm
  · exact State.fault_canon hb
  · exact State.fault_canon hb
  · exact State.lostLine_canon (State.fault_canon hb)

@[simp] theorem State.peerRead_canon {s : State} {a n : Nat} {ecc : EccResult} (hm : s.mem.Canon) :
    (s.peerRead a n ecc).mem.Canon := by
  simp [State.peerRead, hm]

@[simp] theorem State.grantDone_canon {s : State} {g : Nat} (hm : s.mem.Canon) :
    (s.grantDone g).mem.Canon := by
  unfold State.grantDone
  split
  · exact hm
  · refine ite_canon ?_ hm
    extract_lets +onlyGivenNames mem t u
    have ht : t.mem.Canon := (hm.withDdr (Mem.wf_clear _ _ hm.ddr)).withGrants ..
    have hu : u.mem.Canon := ht.of_eq ((State.setReg_mem ..).trans (State.setReg_mem ..))
    split
    · exact hu.of_eq (State.finish_mem ..)
    · exact hu

@[simp] theorem State.settleMoves_canon {s : State} (hm : s.mem.Canon) :
    s.settleMoves.mem.Canon :=
  MemSt.Canon.of_eq (foldl_canon (fun _ _ h => State.grantDone_canon h) _
    (foldl_canon (fun _ _ h => h.of_eq (State.revokeDone_mem ..)) _ hm)) (State.startMove_mem ..)

@[simp] theorem State.settleDiscards_canon {s : State} (hm : s.mem.Canon) :
    s.settleDiscards.mem.Canon := by
  unfold State.settleDiscards
  extract_lets +onlyGivenNames refs ks
  have hz : (ks.foldl (fun s k => (s.zeroPage k).releasePage k) s).mem.Canon :=
    foldl_canon (fun _ _ h => State.releasePage_canon (State.zeroPage_canon h)) _ hm
  exact ite_canon hm (State.settleMoves_canon (hz.of_eq ((State.pinDone_mem ..).trans (State.startWaiting_mem ..))))

@[simp] theorem State.landMove_canon {s : State} {key : Nat} (hm : s.mem.Canon) :
    (s.landMove key).mem.Canon := by
  unfold State.landMove
  extract_lets +onlyGivenNames p
  split
  next => exact hm.of_eq (State.setPage_mem ..)
  next h _ =>
    extract_lets +onlyGivenNames t mem u v pgr w x
    have ht : t.mem.Canon := State.writeHome_canon hm
    have hu : u.mem.Canon := by
      unfold u
      split
      · exact ht.withDdr (Mem.wf_clear _ _ ht.ddr)
      · exact ht
    have hv : v.mem.Canon := (hu.of_eq (State.setPage_mem ..)).of_eq (State.bump_mem ..)
    have hw : w.mem.Canon := hv
    have hx : x.mem.Canon := by
      refine ite_canon ?_ (ite_canon (hw.of_eq (State.startFill_mem ..)) hw)
      exact State.releasePage_canon (State.fillPage_canon hw)
    exact State.settleMoves_canon hx

@[simp] theorem State.withdrawDonations_canon {s : State} (hm : s.mem.Canon) :
    s.withdrawDonations.mem.Canon := by
  unfold State.withdrawDonations
  extract_lets +onlyGivenNames keys t cut pgr u away
  have ht : t.mem.Canon := by
    refine foldl_canon (fun s k h => ?_) _ hm
    have lost : ∀ {u : State}, u.mem.Canon → ((u.poisonPage k).bump R.PGR_LOST_PAGES).mem.Canon :=
      fun h => (State.poisonPage_canon h).of_eq (State.bump_mem ..)
    refine ite_canon ?_ (lost h)
    split
    next home u hu =>
      have hp : u.mem.Canon := (h.of_eq (State.takeLpd_mem ..)).of_eq (mem_of_eq hu)
      split
      · exact hp.of_eq (State.setPage_mem ..)
      · exact lost hp
  exact MemSt.Canon.of_eq (m := u.mem) ht ((State.startMove_mem ..).trans (State.cancelMoves_mem ..))

/-! ## Operations of the ring engines on fetched entries -/

@[simp] theorem State.hostTapFrame_canon {s : State} {r q : Nat} {p : Pkt} {x : TxRef} (hm : s.mem.Canon) :
    (s.hostTapFrame r q p x).mem.Canon := by
  simp [State.hostTapFrame, hm]

/-! ## How a Clove thread executes one instruction -/

@[simp] theorem State.setFrame_canon {s : State} {k n : Nat} {p : Pkt} (hm : s.mem.Canon) :
    (s.setFrame k n p).mem.Canon := by
  have ht := hm.of_eq (State.setTh_mem s k n { s.th k n with frame := some p })
  exact ite_canon (State.storeBuf_canon ht) ht

@[simp] theorem State.clvLoad_canon {s : State} {k n a size : Nat} (hm : s.mem.Canon) :
    (s.clvLoad k n a size).2.mem.Canon := by
  obtain ⟨read, hr⟩ : ∃ f, State.chanRead = f := ⟨_, rfl⟩
  have hread : ∀ {c a off}, (read s c a off).2.mem.Canon := hr ▸ State.chanRead_canon hm
  unfold State.clvLoad
  rw [hr]
  extract_lets +onlyGivenNames c mid
  refine snd_canon_of_ite hm (snd_canon_of_ite ?_ (snd_canon_of_ite ?_ (snd_canon_of_ite ?_ (snd_canon_of_ite hm
    (snd_canon_of_ite ?_ (snd_canon_of_ite ?_ (snd_canon_of_ite ?_ hm)))))))
  · extract_lets +onlyGivenNames code
    exact snd_canon_of_ite hm hm
  · exact snd_canon_of_ite hm hm
  · split
    · exact hm
    · exact hm
  · refine snd_canon_of_ite ?_ hm
    split
    next h => exact (hm.of_eq (State.claim_mem ..)).of_eq (mem_of_eq h)
  · exact snd_canon_of_ite hm hm
  · split
    · split
      next h => exact hread.of_eq (mem_of_eq h)
    · exact hm

@[simp] theorem State.clvStore_canon {s : State} {k n a size v : Nat} (hm : s.mem.Canon) :
    (s.clvStore k n a size v).2.mem.Canon := by
  unfold State.clvStore
  extract_lets +onlyGivenNames c mid
  refine snd_canon_of_ite hm (snd_canon_of_ite ?_ (snd_canon_of_ite ?_ (snd_canon_of_ite hm (snd_canon_of_ite ?_
    (snd_canon_of_ite ?_ (snd_canon_of_ite ?_ hm))))))
  · exact snd_canon_of_ite (hm.of_eq (State.sliceWrite_mem ..)) hm
  · extract_lets +onlyGivenNames off
    split
    · exact snd_canon_of_ite (State.setFrame_canon hm) hm
    · exact hm
  · exact snd_canon_of_ite (hm.of_eq (State.setCl_mem ..)) hm
  · exact snd_canon_of_ite (State.dmaRegWrite_canon hm) hm
  · split
    · exact State.chanWrite_canon hm
    · exact hm

@[simp] theorem State.loadOp_canon {s : State} {k n w : Nat} (hm : s.mem.Canon) :
    (s.loadOp k n w).state.mem.Canon := by
  simp only [State.loadOp]
  repeat' split
  all_goals simp [hm]

@[simp] theorem State.storeOp_canon {s : State} {k n w : Nat} (hm : s.mem.Canon) :
    (s.storeOp k n w).state.mem.Canon := by
  simp only [State.storeOp]
  repeat' split
  all_goals simp [hm]

@[simp] theorem State.baseOp_canon {s : State} {k n len w : Nat} (hm : s.mem.Canon) :
    (s.baseOp k n len w).state.mem.Canon := by
  simp only [State.baseOp]
  repeat' split
  all_goals simp [hm]

/-! ## Meanings of the Clove packet engines -/

@[simp] theorem execOrderedSlotTimeout_canon {slot : Nat} {s : State} (hm : s.mem.Canon) :
    CanonNext (execOrderedSlotTimeout slot s) := by
  simp only [execOrderedSlotTimeout]
  split <;> simp [hm]

@[simp] theorem pktHead_canon {k n : Nat} {s : State} {w : Nat} (hm : s.mem.Canon) :
    (pktHead k n s w).state.mem.Canon := by
  unfold pktHead
  extract_lets +onlyGivenNames v d
  split
  next => exact hm
  next p _ =>
    refine ClvEnd.ite_canon ?_ ?_
    · extract_lets +onlyGivenNames cut
      refine ClvEnd.ite_canon hm ?_
      exact (State.setFrame_canon hm).of_eq (State.setLength_mem ..)
    · extract_lets +onlyGivenNames d'
      refine ClvEnd.ite_canon hm (ClvEnd.ite_canon hm ?_)
      split
      next h t ht =>
        have htp : t.mem.Canon := (snd_canon_of_ite hm (hm.of_eq (State.allocBuf_mem ..))).of_eq (mem_of_eq ht)
        split
        next => exact htp
        next => exact (State.setFrame_canon htp).of_eq (State.setLength_mem ..)

@[simp] theorem execPktHead_canon {cluster : Fin 16} {thread : BitVec 7} {s : State} (hm : s.mem.Canon) :
    CanonNext (execPktHead cluster thread s) :=
  State.clvRun_canon hm fun _ => pktHead_canon hm

@[simp] theorem pktLen_canon {k n : Nat} {s : State} {w : Nat} (hm : s.mem.Canon) :
    (pktLen k n s w).state.mem.Canon := by
  simp only [pktLen]
  split <;> simp [hm]

@[simp] theorem execPktLen_canon {cluster : Fin 16} {thread : BitVec 7} {s : State} (hm : s.mem.Canon) :
    CanonNext (execPktLen cluster thread s) :=
  State.clvRun_canon hm fun _ => pktLen_canon hm

@[simp] theorem pktEmit_canon {k n : Nat} {s : State} {w : Nat} (hm : s.mem.Canon) :
    (pktEmit k n s w).state.mem.Canon := by
  unfold pktEmit
  extract_lets +onlyGivenNames v t
  split
  next => exact hm
  next p _ =>
    extract_lets +onlyGivenNames w8 len ptr data
    refine ClvEnd.ite_canon hm (ClvEnd.ite_canon hm (ClvEnd.ite_canon hm ?_))
    exact State.cloveEmit_canon (hm.of_eq (State.setTh_mem ..))

@[simp] theorem execPktEmit_canon {cluster : Fin 16} {thread : BitVec 7} {s : State} (hm : s.mem.Canon) :
    CanonNext (execPktEmit cluster thread s) :=
  State.clvRun_canon hm fun _ => pktEmit_canon hm

@[simp] theorem pktDrop_canon {k n : Nat} {s : State} {fuel : Nat} (hm : s.mem.Canon) :
    (pktDrop k n s fuel).state.mem.Canon := by simp [pktDrop, hm]

@[simp] theorem execPktDrop_canon {cluster : Fin 16} {thread : BitVec 7} {s : State} (hm : s.mem.Canon) :
    CanonNext (execPktDrop cluster thread s) :=
  State.clvRun_canon hm fun _ => pktDrop_canon hm

@[simp] theorem tblEm_canon {k n : Nat} {s : State} {w : Nat} (hm : s.mem.Canon) :
    (tblEm k n s w).state.mem.Canon := by
  simp only [tblEm]
  repeat' split
  all_goals simp [hm]

@[simp] theorem execTblEm_canon {cluster : Fin 16} {thread : BitVec 7} {s : State} (hm : s.mem.Canon) :
    CanonNext (execTblEm cluster thread s) :=
  State.clvRun_canon hm fun _ => tblEm_canon hm

@[simp] theorem tblLpm_canon {k n : Nat} {s : State} {w : Nat} (hm : s.mem.Canon) :
    (tblLpm k n s w).state.mem.Canon := by simp [tblLpm, hm]

@[simp] theorem execTblLpm_canon {cluster : Fin 16} {thread : BitVec 7} {s : State} (hm : s.mem.Canon) :
    CanonNext (execTblLpm cluster thread s) :=
  State.clvRun_canon hm fun _ => tblLpm_canon hm

@[simp] theorem pgrWord_canon {k n : Nat} {s : State} {w rd : Nat} {f : Nat → Option Nat × Nat} (hm : s.mem.Canon) :
    (pgrWord k n s w rd f).state.mem.Canon := by
  simp only [pgrWord]
  repeat' split
  all_goals simp [hm]

@[simp] theorem pgrLw_canon {k n : Nat} {s : State} {w : Nat} (hm : s.mem.Canon) :
    (pgrLw k n s w).state.mem.Canon := by simp [pgrLw, hm]

@[simp] theorem execPgrLw_canon {cluster : Fin 16} {thread : BitVec 7} {s : State} (hm : s.mem.Canon) :
    CanonNext (execPgrLw cluster thread s) :=
  State.clvRun_canon hm fun _ => pgrLw_canon hm

@[simp] theorem pgrSw_canon {k n : Nat} {s : State} {w : Nat} (hm : s.mem.Canon) :
    (pgrSw k n s w).state.mem.Canon := by simp [pgrSw, hm]

@[simp] theorem execPgrSw_canon {cluster : Fin 16} {thread : BitVec 7} {s : State} (hm : s.mem.Canon) :
    CanonNext (execPgrSw cluster thread s) :=
  State.clvRun_canon hm fun _ => pgrSw_canon hm

@[simp] theorem pgrAmoadd_canon {k n : Nat} {s : State} {w : Nat} (hm : s.mem.Canon) :
    (pgrAmoadd k n s w).state.mem.Canon := by simp [pgrAmoadd, hm]

@[simp] theorem execPgrAmoadd_canon {cluster : Fin 16} {thread : BitVec 7} {s : State} (hm : s.mem.Canon) :
    CanonNext (execPgrAmoadd cluster thread s) :=
  State.clvRun_canon hm fun _ => pgrAmoadd_canon hm

@[simp] theorem pgrAmoswap_canon {k n : Nat} {s : State} {w : Nat} (hm : s.mem.Canon) :
    (pgrAmoswap k n s w).state.mem.Canon := by
  simp [pgrAmoswap, hm]

@[simp] theorem execPgrAmoswap_canon {cluster : Fin 16} {thread : BitVec 7} {s : State} (hm : s.mem.Canon) :
    CanonNext (execPgrAmoswap cluster thread s) :=
  State.clvRun_canon hm fun _ => pgrAmoswap_canon hm

@[simp] theorem clvDone_canon {k n : Nat} {s : State} {fuel : Nat} (hm : s.mem.Canon) :
    (clvDone k n s fuel).state.mem.Canon := by
  have ht : (((s.bump (R.CLV_DONE k)).cloveDrop k n (R.CLV_DONE_DROPS k)).releaseLocks k n).mem.Canon :=
    (State.cloveDrop_canon (hm.of_eq (State.bump_mem ..))).of_eq (State.releaseLocks_mem ..)
  exact ite_canon (ht.of_eq (State.startSup_mem ..)) (ht.of_eq (State.freeThread_mem ..))

@[simp] theorem execClvDone_canon {cluster : Fin 16} {thread : BitVec 7} {s : State} (hm : s.mem.Canon) :
    CanonNext (execClvDone cluster thread s) :=
  State.clvRun_canon hm fun _ => clvDone_canon hm

@[simp] theorem supAct_canon {k n : Nat} {s : State} {w : Nat} (hm : s.mem.Canon) :
    (supAct k n s w).state.mem.Canon := by simp [supAct, hm]

@[simp] theorem execSupAct_canon {cluster : Fin 16} {thread : BitVec 7} {s : State} (hm : s.mem.Canon) :
    CanonNext (execSupAct cluster thread s) :=
  State.clvRun_canon hm fun _ => supAct_canon hm

@[simp] theorem execBaseInstruction_canon {cluster : Fin 16} {thread : BitVec 7} {s : State} (hm : s.mem.Canon) :
    CanonNext (execBaseInstruction cluster thread s) :=
  State.clvRun_canon (body := fun s w => s.baseOp cluster.val thread.toNat _ w) hm fun _ => State.baseOp_canon hm

@[simp] theorem execSupRestart_canon {mid : BitVec 13} {cluster : Fin 16} {s : State} (hm : s.mem.Canon) :
    CanonNext (execSupRestart mid cluster s) := by simp [execSupRestart, hm]

@[simp] theorem execClvWdogEnable_canon {mid : BitVec 13} {cluster : Fin 16} {on : Bool} {period : BitVec 16} {s : State}
    (hm : s.mem.Canon) : CanonNext (execClvWdogEnable mid cluster on period s) := by simp [execClvWdogEnable, hm]

@[simp] theorem clvProgramUnloadSpec_canon {c : Cmd} {s : State} (hm : s.mem.Canon) :
    (clvProgramUnloadSpec.body c s).state.mem.Canon := by
  simp only [clvProgramUnloadSpec, Cmd.checked_state, guards_cons, guards_nil]
  split
  · split
    · exact hm
    · split
      · exact hm
      · have ht := State.reoffer_canon (k := c.p 0 % 16) (fs := (s.cl (c.p 0 % 16)).queue)
          (hm.of_eq (State.setCl_mem s (c.p 0 % 16) { s.cl (c.p 0 % 16) with busy := .unloading, queue := [] }))
        exact ite_canon (foldl_canon (fun _ _ h => ite_canon (State.restartThread_canon h) h) _ ht) ht
  · exact hm

@[simp] theorem execClvProgramUnload_canon {e : AdminEntry} {s : State} (hm : s.mem.Canon) :
    CanonNext (execClvProgramUnload e s) := by
  rw [execClvProgramUnload, canonNext_next]
  exact foldl_canon (fun _ _ h => h.of_eq (State.settleUnload_mem ..)) _ (State.runCmd_canon (fun _ _ => clvProgramUnloadSpec_canon) hm)

/-! ## Meanings of Fresnel's commands and events but the choice itself -/

@[simp] theorem execFrsNodeSelWrite_canon {mid : BitVec 13} {node : BitVec 16} {s : State} (hm : s.mem.Canon) :
    CanonNext (execFrsNodeSelWrite mid node s) := by simp [execFrsNodeSelWrite, hm]

/-! ## Operations of the Saffron cipher engine -/

@[simp] theorem State.safReturn_canon {s : State} {p : Pkt} {reparse : Bool} (hm : s.mem.Canon) :
    (s.safReturn p reparse).mem.Canon := by
  simp only [State.safReturn]
  repeat' split
  all_goals simp [hm]

@[simp] theorem State.safFlush_canon {s : State} {a fuel : Nat} (hm : s.mem.Canon) :
    (s.safFlush a fuel).mem.Canon := by
  induction fuel generalizing s with
  | zero => exact hm
  | succ fuel ih =>
    simp only [State.safFlush]
    repeat' split
    all_goals simp [ih, hm]

@[simp] theorem State.safLose_canon {s : State} {w : SafWait} {p : Pkt} {reason : Nat} (hm : s.mem.Canon) :
    (s.safLose w p reason).mem.Canon := by
  simp [State.safLose, hm]

@[simp] theorem State.safReady_canon {s : State} {w : SafWait} {p : Pkt} (hm : s.mem.Canon) :
    (s.safReady w p).mem.Canon := by
  simp [State.safReady, hm]

@[simp] theorem State.safWrite_canon {s : State} {conn : Nat} {a : Dword} {bs : List Byte} (hm : s.mem.Canon) :
    (s.safWrite conn a bs).2.mem.Canon := by
  simp only [State.safWrite]
  repeat' split
  all_goals simp [hm]

@[simp] theorem State.safFrame_canon {s : State} {w : SafWait} {k : Nat} {p : Pkt} {key : List Byte × List Byte}
    (hm : s.mem.Canon) : (s.safFrame w k p key).mem.Canon := by
  unfold State.safFrame
  extract_lets +onlyGivenNames r keep
  have hk : ∀ {t p}, t.mem.Canon → (keep t p).mem.Canon := fun h => State.safReady_canon (State.storeBuf_canon h)
  have hl : ∀ {t : State}, t.mem.Canon → (t.safLose w p 0x1000).mem.Canon := State.safLose_canon
  have hd : s.replayDrop.mem.Canon := hm.of_eq (State.replayDrop_mem ..)
  have ha : (s.accept w k w.seq).mem.Canon := hm.of_eq (State.accept_mem ..)
  clear_value keep
  refine ite_canon (ite_canon (hk hm) ?_) ?_
  · split
    next => exact hl (hm.of_eq (State.bump_mem ..))
    next =>
      refine ite_canon (hl hd) ?_
      split
      next => exact hl ((State.storeBuf_canon hm).of_eq (State.authFail_mem ..))
      next =>
        split
        exact hk ha
  · split
    next => exact hl (hm.of_eq (State.bump_mem ..))
    next =>
      refine ite_canon (hk hm) (ite_canon (hl hd) ?_)
      split
      · exact hl ((State.storeBuf_canon hm).of_eq (State.authFail_mem ..))
      · exact hl (ha.of_eq (State.bump_mem ..))
      · exact hk ha

@[simp] theorem State.safPort_canon {s : State} {w : SafWait} {conn gen : Nat} {args : List Dword} {key : List Byte × List Byte}
    (hm : s.mem.Canon) : (s.safPort w conn gen args key).mem.Canon := by
  unfold State.safPort
  extract_lets +onlyGivenNames r a0 cnt done
  have hd : ∀ {t a b c}, t.mem.Canon → (done t a b c).mem.Canon :=
    fun h => h.of_eq ((State.safDone_mem ..).trans (State.safDrop_mem ..))
  clear_value done
  split
  next => exact hd hm
  next d _ =>
    extract_lets +onlyGivenNames put
    have hp : ∀ {t bs k}, t.mem.Canon → (put t bs k).mem.Canon := by
      intro t bs k h
      unfold put
      split
      next ok u hu =>
        have hup : u.mem.Canon := (State.safWrite_canon h).of_eq (mem_of_eq hu)
        exact ite_canon (hd hup) (hd hup)
    clear_value put
    refine ite_canon (hp hm) (ite_canon (hp hm) ?_)
    extract_lets +onlyGivenNames k live n
    split
    next =>
      extract_lets +onlyGivenNames t
      have ht : t.mem.Canon := State.safWrite_canon hm
      clear_value t
      exact (hd (ht.of_eq (State.authFail_mem ..))).of_eq (State.connFail_mem ..)
    next plain inner _ =>
      extract_lets +onlyGivenNames t u
      have ht : t.mem.Canon := ite_canon (hm.of_eq (State.setAssoc_mem ..)) hm
      have hu : u.mem.Canon := by
        refine ite_canon ?_ ht
        exact ((ht.of_eq (State.setAssoc_mem ..)).of_eq (State.bump_mem ..)).of_eq (State.raiseEs_mem ..)
      exact hp hu

@[simp] theorem State.safUnwrapFail_canon {s : State} {w : SafWait} (hm : s.mem.Canon) :
    (s.safUnwrapFail w).mem.Canon := by
  simp only [State.safUnwrapFail]
  split <;> simp [hm]

@[simp] theorem State.safRun_canon {s : State} {w : SafWait} {key : List Byte × List Byte} (hm : s.mem.Canon) :
    (s.safRun w key).mem.Canon := by
  simp only [State.safRun]
  split <;> simp [hm]

@[simp] theorem State.safTake_canon {s : State} {w : SafWait} {k seq : Nat} (hm : s.mem.Canon) :
    (s.safTake w k seq).mem.Canon := by
  simp only [State.safTake]
  repeat' split
  all_goals simp [hm]

@[simp] theorem State.safEnterFrame_canon {s : State} {w : SafWait} {p : Pkt} {encrypt : Bool} (hm : s.mem.Canon) :
    (s.safEnterFrame w p encrypt).mem.Canon := by
  unfold State.safEnterFrame
  extract_lets +onlyGivenNames r unusable format outward inward
  have hu : (unusable s).mem.Canon := State.safLose_canon (hm.of_eq (State.bump_mem ..))
  have hf : (format s).mem.Canon := State.safLose_canon (hm.of_eq (State.bump_mem ..))
  have ho : ∀ k, (outward k).mem.Canon := by
    intro k
    refine ite_canon hu ?_
    split
    next h => exact State.safTake_canon ((hm.of_eq (State.takeSeq_mem ..)).of_eq (mem_of_eq h))
    next h => exact State.safLose_canon (((hm.of_eq (State.takeSeq_mem ..)).of_eq (mem_of_eq h)).of_eq (State.bump_mem ..))
  have hi : ∀ k n, (inward k n).mem.Canon := fun k n =>
    ite_canon hu (ite_canon (State.safLose_canon (hm.of_eq (State.replayDrop_mem ..))) (State.safTake_canon hm))
  clear_value unusable format outward inward
  refine ite_canon hu (ite_canon (ite_canon (ite_canon hf (ho _)) (ite_canon hf ?_)) ?_)
  · split
    · exact hf
    · exact hi ..
  · split
    · exact hf
    · refine ite_canon (ho _) ?_
      split
      · exact hf
      · exact hi ..

@[simp] theorem State.safEnterPort_canon {s : State} {w : SafWait} {conn gen : Nat} {args : List Dword} (hm : s.mem.Canon) :
    (s.safEnterPort w conn gen args).mem.Canon := by
  unfold State.safEnterPort
  extract_lets +onlyGivenNames r a0 done k owner
  have hd : ∀ {t st rs}, t.mem.Canon → (done t st rs).mem.Canon :=
    fun h => h.of_eq ((State.safDone_mem ..).trans (State.safDrop_mem ..))
  have ht : ∀ {t n}, t.mem.Canon → (State.safTake t w k n).mem.Canon := fun h => State.safTake_canon h
  clear_value done
  refine ite_canon (hd hm) (ite_canon hm (ite_canon (hd hm) (ite_canon (hd hm) (ite_canon (ht hm) (ite_canon ?_ (ht hm))))))
  split
  next h => exact ht ((hm.of_eq (State.takeSeq_mem ..)).of_eq (mem_of_eq h))
  next h => exact hd ((hm.of_eq (State.takeSeq_mem ..)).of_eq (mem_of_eq h))

@[simp] theorem State.safEnter_canon {s : State} {place : Nat} (hm : s.mem.Canon) :
    (s.safEnter place).mem.Canon := by
  simp only [State.safEnter]
  repeat' split
  all_goals simp [hm]

@[simp] theorem State.derived_canon {s : State} {a k : Nat} (hm : s.mem.Canon) :
    (s.derived a k).mem.Canon := by
  unfold State.derived
  extract_lets +onlyGivenNames ws
  clear_value ws
  refine ite_canon (hm.of_eq (State.dropSaf_mem ..)) ?_
  split
  · exact hm
  · extract_lets +onlyGivenNames same t
    have ht : t.mem.Canon := hm.of_eq (State.bump_mem ..)
    split
    · exact foldl_canon (fun _ _ h => State.safUnwrapFail_canon h) _ ht
    · exact foldl_canon (fun _ _ h => State.safRun_canon h) _ (ht.of_eq (State.cachePut_mem ..))

/-! ## Removal with work in flight -/

@[simp] theorem State.dropEntries_canon {s : State} {i : Nat} (hm : s.mem.Canon) :
    (s.dropEntries i).mem.Canon :=
  foldl_canon (fun _ _ h => foldl_canon (fun _ _ h => State.storeSlot_canon h) _ (h.of_eq (State.setTable_mem ..))) _ hm

@[simp] theorem State.removeOwned_canon {s : State} {i : Nat} (hm : s.mem.Canon) :
    (s.removeOwned i).mem.Canon := by simp [State.removeOwned, hm]

@[simp] theorem State.destroyEnd_canon {s : State} {i : Nat} (hm : s.mem.Canon) : (s.destroyEnd i).mem.Canon := by
  have ht : ((((s.removeOwned i).releaseRange i).releaseGone i).settleMoves).mem.Canon :=
    State.settleMoves_canon (State.releaseGone_canon (State.releaseRange_canon (State.removeOwned_canon hm)))
  have free (l : List Nat) {t : State} (h : t.mem.Canon) : (l.foldl State.lanFree t).mem.Canon :=
    foldl_canon (f := State.lanFree) (fun _ _ h => h.of_eq (State.lanFree_mem ..)) l h
  simp only [State.destroyEnd]
  split
  · exact (free _ (State.dmaReleaseMid_canon (ht.of_eq (State.dropClaims_mem ..)))).of_eq
      ((State.raiseEs_mem ..).trans ((State.finish_mem ..).trans ((State.bump_mem ..).trans (State.setInst_mem ..))))
  · exact (free _ (State.dmaReleaseMid_canon (ht.of_eq (State.dropClaims_mem ..)))).of_eq
      ((State.bump_mem ..).trans (State.setInst_mem ..))

@[simp] theorem State.settleDestroy_canon {s : State} {i : Nat} (hm : s.mem.Canon) : (s.settleDestroy i).mem.Canon := by
  unfold State.settleDestroy
  refine ite_canon hm ?_
  extract_lets +onlyGivenNames at_ t
  have ht : t.mem.Canon := foldl_canon (f := State.lanUnload) (fun _ _ h => State.lanUnload_canon h) _ hm
  exact ite_canon (State.destroyEnd_canon ht) ht

@[simp] theorem State.settleDestroys_canon {s : State} (hm : s.mem.Canon) :
    s.settleDestroys.mem.Canon := foldl_canon (fun _ _ h => State.settleDestroy_canon h) _ hm

@[simp] theorem State.destroyRest_canon {s : State} {i : Nat} (hm : s.mem.Canon) :
    (s.destroyRest i).mem.Canon := by
  refine State.settleDestroy_canon (foldl_canon (fun s r h => ?_) _ (hm.of_eq ((State.setInst_mem ..).trans (State.freeQueues_mem ..))))
  extract_lets +onlyGivenNames v
  split
  · exact State.lanUnload_canon h
  · exact h.of_eq (State.lanQuiesce_mem ..)
  · exact h.of_eq (State.setRegion_mem ..)
  · exact h

/-! ## Meanings of reception, the frame tail, the scheduler's choice and parked packets -/

@[simp] theorem execFrameReceive_canon {port : Fin 8} {bytes : List Byte} {s : State} (hm : s.mem.Canon) :
    CanonNext (execFrameReceive port bytes s) := by simp [execFrameReceive, hm]

@[simp] theorem execFrameTail_canon {port : Fin 8} {fcsGood : Bool} {s : State} (hm : s.mem.Canon) :
    CanonNext (execFrameTail port fcsGood s) := by
  simp only [execFrameTail]
  split <;> simp [hm]

@[simp] theorem State.loopback_canon {s : State} {p : Pkt} (hm : s.mem.Canon) :
    (s.loopback p).mem.Canon := by
  simp only [State.loopback]
  split <;> simp [hm]

@[simp] theorem execSchedulerChoice_canon {root : Fin 9} {s : State} (hm : s.mem.Canon) :
    CanonNext (execSchedulerChoice root s) := by
  simp only [execSchedulerChoice]
  repeat' split
  all_goals simp [hm]

@[simp] theorem execPageFillComplete_canon {page : BitVec 30} {ecc : EccResult} {s : State} (hm : s.mem.Canon) :
    CanonNext (execPageFillComplete page ecc s) := by
  simp only [execPageFillComplete]
  split <;> simp [hm]

/-! ## Meanings of the Lantern regions' commands and events -/

@[simp] theorem State.tapBypass_canon {s : State} {r : Nat} {f : InFlight} (hm : s.mem.Canon) :
    (s.tapBypass r f).mem.Canon := by
  simp [State.tapBypass, hm]

@[simp] theorem State.lanBypassAll_canon {s : State} {r : Nat} (hm : s.mem.Canon) :
    (s.lanBypassAll r).mem.Canon :=
  foldl_canon (fun _ _ h => State.tapBypass_canon (h.of_eq (State.bump_mem ..))) _ (hm.of_eq (State.setRegion_mem ..))

@[simp] theorem State.tapBytes_canon {s : State} {r : Nat} {p : Pkt} {bytes : List Byte} (hm : s.mem.Canon) :
    (s.tapBytes r p bytes).2.mem.Canon := by
  simp only [State.tapBytes]
  repeat' split
  all_goals simp [hm]

@[simp] theorem State.tapVerdict_canon {s : State} {r stream : Nat} {p : Pkt} {v : Nat} (hm : s.mem.Canon) :
    (s.tapVerdict r stream p v).mem.Canon := by simp [State.tapVerdict, hm]

@[simp] theorem State.tapCreated_canon {s : State} {r mark v : Nat} {bytes : List Byte} (hm : s.mem.Canon) :
    (s.tapCreated r mark v bytes).mem.Canon := by
  simp only [State.tapCreated]
  repeat' split
  all_goals simp [hm]

@[simp] theorem State.tapReturn_canon {s : State} {r t token mark v : Nat} {bytes : List Byte} (hm : s.mem.Canon) :
    (s.tapReturn r t token mark v bytes).mem.Canon := by
  unfold State.tapReturn
  extract_lets +onlyGivenNames g slot seq declared t'
  refine ite_canon hm ?_
  have ht : t'.mem.Canon := hm.of_eq (State.bump_mem ..)
  refine ite_canon (ite_canon (State.tapCreated_canon ht) (ht.of_eq (State.bump_mem ..))) ?_
  split
  · exact ite_canon (ht.of_eq ((State.bump_mem ..).trans (State.setRegion_mem ..))) (ht.of_eq (State.bump_mem ..))
  next f _ =>
    extract_lets +onlyGivenNames u q
    have hu : u.mem.Canon := ht.of_eq (State.setRegion_mem ..)
    clear_value u
    refine ite_canon (State.tapVerdict_canon hu) (ite_canon (hu.of_eq ((State.dropPkt_mem ..).trans (State.bump_mem ..))) ?_)
    split
    next h => exact (State.tapBytes_canon hu).of_eq (mem_of_eq h)
    next h => exact State.tapVerdict_canon ((State.tapBytes_canon hu).of_eq (mem_of_eq h))

@[simp] theorem execRegionReturn_canon {region : Fin 16} {stream : Fin 3} {token mark : BitVec 16} {verdict : Word} {bytes : List Byte} {s : State}
    (hm : s.mem.Canon) : CanonNext (execRegionReturn region stream token mark verdict bytes s) := by simp [execRegionReturn, hm]

@[simp] theorem execTapHoldTimeout_canon {region : Fin 16} {slot : BitVec 12} {s : State} (hm : s.mem.Canon) :
    CanonNext (execTapHoldTimeout region slot s) := by
  simp only [execTapHoldTimeout]
  split <;> simp [hm]

@[simp] theorem State.lanMemory_canon {s : State} {r : Nat} {q : RegionReq} (hm : s.mem.Canon) :
    (s.lanMemory r q).mem.Canon := by
  unfold State.lanMemory
  split
  · split
    next h => simp [mem_of_eq h, hm]
    next h => simp [mem_of_eq h, hm]
  · split
    next h => simp [mem_of_eq h, hm]
    next h => simp [mem_of_eq h, hm]

@[simp] theorem State.lanServe_canon {s : State} {r : Nat} (hm : s.mem.Canon) :
    (s.lanServe r).mem.Canon :=
  ite_canon hm (foldl_canon (fun _ _ h => State.lanMemory_canon h) _ (hm.of_eq (State.setRegion_mem ..)))

@[simp] theorem execRegionMemoryRequest_canon {region : Fin 16} {write : Bool} {addr : BitVec 36} {lines tag : Fin 64} {data : List Byte} {s : State}
    (hm : s.mem.Canon) : CanonNext (execRegionMemoryRequest region write addr lines tag data s) := by simp [execRegionMemoryRequest, hm]

@[simp] theorem State.regionSilent_canon {s : State} {mid r n : Nat} {read : Bool} (hm : s.mem.Canon) :
    (s.regionSilent mid r n read).mem.Canon := by
  have ht := State.crossingFailed_canon (a := regionWindow r n) (island := 16 + r) (read := read)
    (hm.of_eq (State.bump_mem s (R.LAN_REG_TIMEOUTS r)))
  exact ite_canon (ht.of_eq (State.emit_mem ..)) ht

@[simp] theorem State.regionAccess_canon {s : State} {mid r n : Nat} {value answer : Option Nat} (hm : s.mem.Canon) :
    (s.regionAccess mid r n value answer).mem.Canon := by
  simp only [State.regionAccess]
  repeat' split
  all_goals simp [hm]

@[simp] theorem execRegionRegisterAccess_canon {mid : BitVec 13} {region : Fin 16} {reg : BitVec 12} {value : Option Word} {answer : Word} {s : State}
    (hm : s.mem.Canon) : CanonNext (execRegionRegisterAccess mid region reg value answer s) := by simp [execRegionRegisterAccess, hm]

@[simp] theorem execRegionRegisterTimeout_canon {mid : BitVec 13} {region : Fin 16} {reg : BitVec 12} {value : Option Word} {s : State}
    (hm : s.mem.Canon) : CanonNext (execRegionRegisterTimeout mid region reg value s) := by simp [execRegionRegisterTimeout, hm]

@[simp] theorem State.lanFault_canon {s : State} {r reason : Nat} (hm : s.mem.Canon) :
    (s.lanFault r reason).mem.Canon := by simp [State.lanFault, hm]

@[simp] theorem execConfigScrubPass_canon {region : Fin 16} {corrected : BitVec 16} {uncorrectable : Bool} {s : State}
    (hm : s.mem.Canon) : CanonNext (execConfigScrubPass region corrected uncorrectable s) := by
  unfold execConfigScrubPass
  extract_lets +onlyGivenNames r t
  rw [canonNext_next]
  have ht : t.mem.Canon := foldl_canon (fun _ _ h => State.fault_canon (h.of_eq (State.bump_mem ..))) _ hm
  clear_value t
  exact ite_canon hm (ite_canon (State.fault_canon (State.lanFault_canon ht)) ht)

@[simp] theorem execRegionPowerSample_canon {region : Fin 16} {sample : BitVec 12} {s : State} (hm : s.mem.Canon) :
    CanonNext (execRegionPowerSample region sample s) := by simp [execRegionPowerSample, hm]

@[simp] theorem execPowerTrip_canon {region : Fin 16} {s : State} (hm : s.mem.Canon) :
    CanonNext (execPowerTrip region s) := by simp [execPowerTrip, hm]

@[simp] theorem execLanRegionUnload_canon {e : AdminEntry} {s : State} (hm : s.mem.Canon) :
    CanonNext (execLanRegionUnload e s) := by
  simp only [execLanRegionUnload]
  split <;> simp [hm]

@[simp] theorem State.lanQuiesced_canon {s : State} {r : Nat} {good : Bool} (hm : s.mem.Canon) :
    (s.lanQuiesced r good).mem.Canon := by
  simp only [State.lanQuiesced]
  split <;> simp [hm]

@[simp] theorem execQuiesceDrained_canon {region : Fin 16} {readback : Bool} {s : State} (hm : s.mem.Canon) :
    CanonNext (execQuiesceDrained region readback s) := by simp [execQuiesceDrained, hm]

@[simp] theorem execQuiesceTimeout_canon {region : Fin 16} {readback : Bool} {s : State} (hm : s.mem.Canon) :
    CanonNext (execQuiesceTimeout region readback s) := by simp [execQuiesceTimeout, hm]

/-! ## Meanings of the memories, the State Pager and the buffer pools -/

@[simp] theorem execWriteBackComplete_canon {page : BitVec 30} {ok : Bool} {s : State} (hm : s.mem.Canon) :
    CanonNext (execWriteBackComplete page ok s) := by
  unfold execWriteBackComplete
  rw [canonNext_next]
  extract_lets +onlyGivenNames k p
  refine ite_canon hm (ite_canon (ite_canon (State.cleanPage_canon hm) (State.dropCached_canon hm)) ?_)
  split
  next h t ht =>
    have e : t.mem.Canon := (hm.of_eq (State.takeOther_mem ..)).of_eq (mem_of_eq ht)
    split
    · exact e.of_eq (State.setPage_mem ..)
    · exact e.of_eq (State.setPage_mem ..)

@[simp] theorem execPageEviction_canon {s : State} (hm : s.mem.Canon) :
    CanonNext (execPageEviction s) := by
  simp only [execPageEviction]
  repeat' split
  all_goals simp [hm]

@[simp] theorem execPageCopyComplete_canon {page : BitVec 30} {s : State} (hm : s.mem.Canon) :
    CanonNext (execPageCopyComplete page s) := by simp [execPageCopyComplete, hm]

@[simp] theorem execPatrolScrubRead_canon {line : BitVec 32} {ecc : EccResult} {s : State} (hm : s.mem.Canon) :
    CanonNext (execPatrolScrubRead line ecc s) := by simp [execPatrolScrubRead, hm]

theorem pgrChecks_canon {c : Cmd} {s : State} {most : Nat} {body : Unit → Res} (hm : s.mem.Canon)
    (h : (body ()).state.mem.Canon) : (pgrChecks c s most body).state.mem.Canon := guards_canon (by simp) hm h

@[simp] theorem pgrPrefetchSpec_canon {c : Cmd} {s : State} (hm : s.mem.Canon) :
    (pgrPrefetchSpec.body c s).state.mem.Canon := by
  dsimp -zeta only [pgrPrefetchSpec]
  refine Cmd.checked_canon hm (guards_canon (by simp) hm (pgrChecks_canon hm ?_))
  extract_lets +onlyGivenNames ks
  split
  · exact hm.of_eq (foldl_snd_mem State.hintFill_mem ks (0, s))
  · exact hm.of_eq ((State.startMove_mem ..).trans (foldl_snd_mem State.hintHome_mem ks (0, s)))
  · exact State.settleDiscards_canon (hm.of_eq (foldl_mem State.askDiscard_mem ks s))

@[simp] theorem execPgrPrefetch_canon {e : AdminEntry} {s : State} (hm : s.mem.Canon) :
    CanonNext (execPgrPrefetch e s) :=
  State.runCmd_canon (fun _ _ => pgrPrefetchSpec_canon) hm

@[simp] theorem execMemRevoke_canon {e : AdminEntry} {s : State} (hm : s.mem.Canon) :
    CanonNext (execMemRevoke e s) := by simp [execMemRevoke, hm]

@[simp] theorem State.grantRegion_canon {s : State} {base size : Nat} (hm : s.mem.Canon) :
    (s.grantRegion base size).state.mem.Canon := by
  unfold State.grantRegion
  extract_lets +onlyGivenNames g inside homed bound mem t u units
  have hu : u.mem.Canon := MemSt.Canon.of_eq (m := t.mem) (hm.withGrants ..) (State.moveTables_mem ..)
  split
  next lost v hv =>
    have h : v.mem.Canon := (hu.of_eq ((State.reserveMoves_takeHome_mem ..).trans (State.cancelMoves_mem ..))).of_eq (mem_of_eq hv)
    exact Res.ite_canon hm h

@[simp] theorem memPeerWindowSpec_canon {c : Cmd} {s : State} (hm : s.mem.Canon) :
    (memPeerWindowSpec.body c s).state.mem.Canon := by
  dsimp -zeta only [memPeerWindowSpec]
  extract_lets +onlyGivenNames n masks
  refine Cmd.checked_canon hm ?_
  extract_lets +onlyGivenNames base size
  split
  · exact guards_canon (by simp) hm (State.grantRegion_canon hm)
  · split
    next => exact hm
    next =>
      refine guards_canon (by simp) hm (MemSt.Canon.of_eq ?_ ((State.setReg_mem ..).trans (State.setReg_mem ..)))
      exact (hm.withDdr (Mem.wf_clear _ _ hm.ddr)).withGrants ..
  · exact hm.of_eq (State.programWindow_mem ..)
  · exact hm

@[simp] theorem execMemPeerWindow_canon {e : AdminEntry} {s : State} (hm : s.mem.Canon) :
    CanonNext (execMemPeerWindow e s) :=
  State.settleMoves_canon (State.runCmd_canon (fun _ _ => memPeerWindowSpec_canon) hm)

/-! ## Meanings of the Spar fabric's commands and events -/

@[simp] theorem execFlitReceive_canon {port : Fin 4} {words : List Word} {s : State} (hm : s.mem.Canon) :
    CanonNext (execFlitReceive port words s) := by simp [execFlitReceive, hm]

@[simp] theorem execReplayTimeout_canon {port : Fin 4} {s : State} (hm : s.mem.Canon) :
    CanonNext (execReplayTimeout port s) := by simp [execReplayTimeout, hm]

@[simp] theorem State.packetOf_canon {s : State} {port cls : Nat} {bytes : List Byte} (hm : s.mem.Canon) :
    (s.packetOf port cls bytes).mem.Canon := by
  simp [State.packetOf, hm]

@[simp] theorem execMailboxPacketReceive_canon {port : Fin 4} {packet : List Byte} {s : State} (hm : s.mem.Canon) :
    CanonNext (execMailboxPacketReceive port packet s) := State.packetOf_canon hm

@[simp] theorem execRemoteRequestReceive_canon {port : Fin 4} {packet : List Byte} {s : State} (hm : s.mem.Canon) :
    CanonNext (execRemoteRequestReceive port packet s) := State.packetOf_canon hm

@[simp] theorem execRemoteResponseReceive_canon {port : Fin 4} {packet : List Byte} {s : State} (hm : s.mem.Canon) :
    CanonNext (execRemoteResponseReceive port packet s) := State.packetOf_canon hm

@[simp] theorem execFramePacketReceive_canon {port : Fin 4} {packet : List Byte} {s : State} (hm : s.mem.Canon) :
    CanonNext (execFramePacketReceive port packet s) := State.packetOf_canon hm

@[simp] theorem execJoinWaitEnd_canon {s : State} (hm : s.mem.Canon) :
    CanonNext (execJoinWaitEnd s) := by
  unfold execJoinWaitEnd
  rw [canonNext_next]
  refine ite_canon hm ?_
  extract_lets +onlyGivenNames spr t
  have ht : t.mem.Canon := hm
  split
  · exact ht.of_eq ((State.finishOp_mem ..).trans ((State.unjoin_mem ..).trans (State.raiseEs_mem ..)))
  · extract_lets +onlyGivenNames spr u
    have hu : u.mem.Canon := MemSt.Canon.of_eq (m := t.mem) ht (State.settleUpstream_mem ..)
    exact foldl_canon (fun _ _ h => State.sparKick_canon h) _ (hu.of_eq (State.finishOp_mem ..))

@[simp] theorem State.chanMap_canon {s : State} {c v : Nat} (hm : s.mem.Canon) :
    (s.chanMap c v).mem.Canon := by
  unfold State.chanMap
  extract_lets +onlyGivenNames w t
  have ht : t.mem.Canon := hm.of_eq (State.setReg_mem ..)
  exact ite_canon ht (ite_canon (State.sparKick_canon ht) (ht.of_eq ((State.setF_mem ..).trans (State.setF_mem ..))))

@[simp] theorem execSprChanMapWrite_canon {mid : BitVec 13} {chan : Fin 64} {value : Word} {s : State} (hm : s.mem.Canon) :
    CanonNext (execSprChanMapWrite mid chan value s) := by simp [execSprChanMapWrite, hm]

/-! ## Meanings of the table engines -/

@[simp] theorem State.freeBuckets_canon {s : State} {t : EmTable} (hm : s.mem.Canon) :
    (s.freeBuckets t).mem.Canon := foldl_canon (fun _ _ h => State.zeroPage_canon h) _ hm

@[simp] theorem execShadowCopyEnd_canon {n : BitVec 8} {s : State} (hm : s.mem.Canon) :
    CanonNext (execShadowCopyEnd n s) := by
  unfold execShadowCopyEnd
  extract_lets +onlyGivenNames n v
  rw [canonNext_next]
  refine ite_canon hm ?_
  split
  · extract_lets +onlyGivenNames t u
    have hu : u.mem.Canon :=
      foldl_canon (fun _ _ h => State.storeSlot_canon h) _ (hm.of_eq ((State.raiseEs_mem ..).trans (State.setTable_mem ..)))
    split
    · exact hu.of_eq (State.finish_mem ..)
    · exact hu
  · extract_lets +onlyGivenNames p t
    have ht : t.mem.Canon := (State.freeBuckets_canon hm).of_eq ((State.raiseEs_mem ..).trans ((State.raiseEs_mem ..).trans
      ((State.bump_mem ..).trans (State.dropShadow_mem ..))))
    clear_value p
    split
    · exact ht.of_eq (State.finish_mem ..)
    · exact ht

@[simp] theorem tblDestroySpec_canon {c : Cmd} {s : State} (hm : s.mem.Canon) :
    (tblDestroySpec.body c s).state.mem.Canon := by
  simp only [tblDestroySpec]
  repeat' split
  all_goals simp [hm]

@[simp] theorem execTblDestroy_canon {e : AdminEntry} {s : State} (hm : s.mem.Canon) :
    CanonNext (execTblDestroy e s) :=
  (State.runCmd_canon (fun _ _ => tblDestroySpec_canon) hm).of_eq (State.finishOp_mem ..)

@[simp] theorem State.storePath_canon {s : State} {t : Nat} {path : List Nat} (hm : s.mem.Canon) :
    (s.storePath t path).mem.Canon := foldl_canon (fun _ _ h => State.storeSlot_canon h) _ hm

@[simp] theorem State.emInsert_canon {s : State} {n owner : Nat} {manager : Bool} {ws : List Word} (hm : s.mem.Canon) :
    (s.emInsert n owner manager ws).state.mem.Canon := by
  unfold State.emInsert
  extract_lets +onlyGivenNames v w port page e flushing
  refine recGuards_canon (by simp) hm ?_
  split
  next => exact hm
  next => exact hm.of_eq (State.rehash_mem ..)
  next t i moves old path _ =>
    extract_lets +onlyGivenNames charge
    clear_value charge
    split
    next => exact hm
    next => exact hm
    next =>
      extract_lets +onlyGivenNames both mirror
      clear_value mirror
      split
      next => exact hm.of_eq (State.rehash_mem ..)
      next =>
        extract_lets +onlyGivenNames u v
        have hu : u.mem.Canon := State.storePath_canon (hm.of_eq (State.setTable_mem ..))
        have hv : v.mem.Canon := by
          unfold v
          split
          · exact ite_canon (State.storePath_canon (hu.of_eq (State.setTable_mem ..))) hu
          · exact hu
        exact hv.of_eq ((State.loadWarn_mem ..).trans ((State.bumpBy_mem ..).trans (State.bump_mem ..)))

@[simp] theorem State.emErase_canon {s : State} {n i : Nat} (hm : s.mem.Canon) :
    (s.emErase n i).mem.Canon := by
  simp only [State.emErase]
  repeat' split
  all_goals simp [hm]

@[simp] theorem State.emDelete_canon {s : State} {n owner : Nat} {manager : Bool} {ws : List Word} (hm : s.mem.Canon) :
    (s.emDelete n owner manager ws).state.mem.Canon := by
  unfold State.emDelete
  extract_lets +onlyGivenNames v byIndex
  refine recGuards_canon (by simp) hm ?_
  extract_lets +onlyGivenNames hit
  clear_value hit
  split
  · exact hm
  · exact State.emErase_canon hm

@[simp] theorem tblInsertSpec_canon {c : Cmd} {s : State} (hm : s.mem.Canon) :
    (tblInsertSpec.body c s).state.mem.Canon := by
  refine Res.ite_canon (batch_canon (fun s ws h => tableRecord_canon (fun _ => State.emInsert_canon h) h _) hm) ?_
  exact (State.emInsert_canon hm).of_eq (congrArg _ (RecEnd.state_res _))

@[simp] theorem execTblInsert_canon {e : AdminEntry} {s : State} (hm : s.mem.Canon) :
    CanonNext (execTblInsert e s) :=
  State.runCmd_canon (fun _ _ => tblInsertSpec_canon) hm

@[simp] theorem tblDeleteSpec_canon {c : Cmd} {s : State} (hm : s.mem.Canon) :
    (tblDeleteSpec.body c s).state.mem.Canon := by
  refine Res.ite_canon (batch_canon (fun s ws h => tableRecord_canon (fun _ => State.emDelete_canon h) h _) hm) ?_
  exact (State.emDelete_canon hm).of_eq (congrArg _ (RecEnd.state_res _))

@[simp] theorem execTblDelete_canon {e : AdminEntry} {s : State} (hm : s.mem.Canon) :
    CanonNext (execTblDelete e s) :=
  State.runCmd_canon (fun _ _ => tblDeleteSpec_canon) hm

@[simp] theorem execTableFlushEnd_canon {n : BitVec 8} {s : State} (hm : s.mem.Canon) :
    CanonNext (execTableFlushEnd n s) := by
  unfold execTableFlushEnd
  extract_lets +onlyGivenNames n v
  rw [canonNext_next]
  split
  · exact hm
  · extract_lets +onlyGivenNames gone t u w
    have hu : u.mem.Canon := foldl_canon (fun _ _ h => State.emErase_canon h) _ (hm.of_eq (State.setTable_mem ..))
    have hw : w.mem.Canon := hu.of_eq ((State.raiseEs_mem ..).trans (State.dropClaim_mem ..))
    split
    · exact hw.of_eq (State.finish_mem ..)
    · exact hw

@[simp] theorem tblShadowSwitchSpec_canon {c : Cmd} {s : State} (hm : s.mem.Canon) :
    (tblShadowSwitchSpec.body c s).state.mem.Canon := by
  simp [tblShadowSwitchSpec, hm]

@[simp] theorem execTblShadowSwitch_canon {e : AdminEntry} {s : State} (hm : s.mem.Canon) :
    CanonNext (execTblShadowSwitch e s) :=
  State.runCmd_canon (fun _ _ => tblShadowSwitchSpec_canon) hm

@[simp] theorem execLearnTokenRefill_canon {n : BitVec 8} {s : State} (hm : s.mem.Canon) :
    CanonNext (execLearnTokenRefill n s) := by simp [execLearnTokenRefill, hm]

@[simp] theorem execAgeingScanVisit_canon {n : BitVec 8} {s : State} (hm : s.mem.Canon) :
    CanonNext (execAgeingScanVisit n s) := State.ageVisit_canon hm

@[simp] theorem execTblSelWrite_canon {mid : BitVec 13} {n : BitVec 8} {s : State} (hm : s.mem.Canon) :
    CanonNext (execTblSelWrite mid n s) := by simp [execTblSelWrite, hm]

/-! ## What an abort of a PENDING command leaves -/

@[simp] theorem State.abortCopy_canon {s : State} {n : Nat} (hm : s.mem.Canon) :
    (s.abortCopy n).mem.Canon :=
  ((State.freeBuckets_canon hm).of_eq (State.dropShadow_mem ..)).of_eq (State.raiseEs_mem ..)

@[simp] theorem State.abortFlush_canon {s : State} {n : Nat} (hm : s.mem.Canon) :
    (s.abortFlush n).mem.Canon := by
  unfold State.abortFlush
  extract_lets +onlyGivenNames v
  split
  · exact hm
  · extract_lets +onlyGivenNames gone
    split
    next k t ht =>
      have h : t.mem.Canon := (hm.of_eq (State.draw_mem s)).of_eq (mem_of_eq ht)
      exact MemSt.Canon.of_eq (foldl_canon (fun _ _ h => State.emErase_canon h) _ (h.of_eq (State.setTable_mem ..)))
        ((State.raiseEs_mem ..).trans (State.dropClaim_mem ..))

theorem State.aborted_canon {s t : State} {p : PendCmd} (h : s.aborted p = some t) (hm : s.mem.Canon) :
    t.mem.Canon := by
  unfold State.aborted at h
  extract_lets w at h
  split at h
  · exact Option.some.inj h ▸ hm.of_eq (State.abortDestroy_mem ..)
  · exact Option.some.inj h ▸ hm.of_eq (State.abortRevoke_mem ..)
  · exact Option.some.inj h ▸ hm.of_eq (State.abortCarve_mem ..)
  · exact Option.some.inj (Option.ite_none_right_eq_some.mp h).2 ▸ State.abortCopy_canon hm
  · exact Option.some.inj h ▸ State.abortFlush_canon hm
  · exact Option.some.inj (Option.ite_none_right_eq_some.mp h).2 ▸ hm.of_eq (State.abortSwap_mem ..)
  · exact Option.some.inj h ▸ hm.of_eq (State.abortUnload_mem ..)
  · exact Option.some.inj h ▸ hm.of_eq (State.gclDiscard_mem ..)
  · exact Option.some.inj (Option.ite_none_right_eq_some.mp h).2 ▸ hm.of_eq (State.abortLoad_mem ..)
  · cases h

@[simp] theorem State.cancelGrant_canon {s : State} {base : Nat} (hm : s.mem.Canon) :
    (s.cancelGrant base).mem.Canon := by
  unfold State.cancelGrant
  split
  · exact hm
  · extract_lets +onlyGivenNames inside mine mem t
    exact MemSt.Canon.of_eq (m := t.mem) (hm.withGrants ..) ((State.startMove_mem ..).trans (State.cancelMoves_mem ..))

@[simp] theorem State.undo_canon {s : State} {p : PendCmd} (hm : s.mem.Canon) :
    (s.undo p).mem.Canon := by
  simp only [State.undo]
  repeat' split
  all_goals simp [hm]

@[simp] theorem State.undoStale_canon {s : State} (hm : s.mem.Canon) :
    s.undoStale.mem.Canon := foldl_canon (fun _ _ h => State.undo_canon h) _ hm

/-! ## Meanings of the host endpoint's and the downstream ports' events and registers -/

@[simp] theorem State.vfsChanged_canon {s : State} (hm : s.mem.Canon) :
    s.vfsChanged.mem.Canon := by simp [State.vfsChanged, hm]

@[simp] theorem execVfEnableSet_canon {s : State} (hm : s.mem.Canon) :
    CanonNext (execVfEnableSet s) := by simp [execVfEnableSet, hm]

@[simp] theorem State.vfDisable_canon {s : State} (hm : s.mem.Canon) :
    s.vfDisable.mem.Canon := by simp [State.vfDisable, hm]

@[simp] theorem execVfEnableClear_canon {s : State} (hm : s.mem.Canon) :
    CanonNext (execVfEnableClear s) := by simp [execVfEnableClear, hm]

@[simp] theorem execNumvfsWrite_canon {value : BitVec 16} {s : State} (hm : s.mem.Canon) :
    CanonNext (execNumvfsWrite value s) := by simp [execNumvfsWrite, hm]

@[simp] theorem State.readFailed_canon {s : State} {r : TagReq} (hm : s.mem.Canon) :
    (s.readFailed r).mem.Canon := by
  simp only [State.readFailed]
  split <;> simp [hm]

@[simp] theorem State.readData_canon {s : State} {r : TagReq} {data : List Byte} (hm : s.mem.Canon) :
    (s.readData r data).mem.Canon := by
  simp only [State.readData]
  split <;> simp [hm]

@[simp] theorem execHostReadCompletion_canon {tag : BitVec 14} {status : CplStatus} {data : List Byte} {s : State}
    (hm : s.mem.Canon) : CanonNext (execHostReadCompletion tag status data s) := by
  simp only [execHostReadCompletion]
  repeat' split
  all_goals simp [hm]

@[simp] theorem execCompletionTimeout_canon {tag : BitVec 14} {s : State} (hm : s.mem.Canon) :
    CanonNext (execCompletionTimeout tag s) := by
  simp only [execCompletionTimeout]
  split <;> simp [hm]

@[simp] theorem State.peerRequest_canon {s : State} {rid off bytes : Nat} {access : PeerAccess} {atomic : Bool}
    (hm : s.mem.Canon) : (s.peerRequest rid off bytes access atomic).mem.Canon := by
  unfold State.peerRequest
  refine ite_canon (ite_canon (hm.of_eq (State.closedWrite_mem ..)) (hm.of_eq (State.closedRead_mem ..))) (ite_canon hm ?_)
  extract_lets +onlyGivenNames n mem t
  split
  · split
    · exact MemSt.Canon.of_eq (hm.withDdr (Mem.wf_write _ _ hm.ddr)) (State.emit_mem ..)
    · exact State.peerRead_canon hm
  · have ht : t.mem.Canon := hm.of_eq (State.bump_mem ..)
    exact ite_canon (ht.of_eq (State.urPosted_mem ..)) (ht.of_eq (State.urRead_mem ..))

@[simp] theorem execPeerWindowRequest_canon {rid : BitVec 16} {offset : BitVec 38} {bytes : BitVec 13} {access : PeerAccess} {atomic : Bool} {s : State}
    (hm : s.mem.Canon) : CanonNext (execPeerWindowRequest rid offset bytes access atomic s) := by simp [execPeerWindowRequest, hm]

@[simp] theorem execPeerWinCommit_canon {mid : BitVec 13} {window : Fin 64} {value : Word} {s : State} (hm : s.mem.Canon) :
    CanonNext (execPeerWinCommit mid window value s) := by simp [execPeerWinCommit, hm]

@[simp] theorem execHstPmCfgEnable_canon {mid : BitVec 13} {value : Word} {s : State} (hm : s.mem.Canon) :
    CanonNext (execHstPmCfgEnable mid value s) := by simp [execHstPmCfgEnable, hm]

@[simp] theorem execHstCplTimeoutOverride_canon {mid : BitVec 13} {value : Word} {s : State} (hm : s.mem.Canon) :
    CanonNext (execHstCplTimeoutOverride mid value s) := by simp [execHstCplTimeoutOverride, hm]

/-! ## Meanings of the instances' commands and events -/

@[simp] theorem State.makeInst_canon {s : State} {i : Nat} {v : Inst} (hm : s.mem.Canon) :
    (s.makeInst i v).2.2.mem.Canon := by
  obtain ⟨x, hx⟩ : ∃ x, s.makeInst i v = x := ⟨_, rfl⟩
  rw [hx]
  generalize hf : State.makeInst = f at hx
  delta State.makeInst at hf
  subst hf
  beta_reduce at hx
  extract_lets size t u at hx
  have hu : u.mem.Canon := State.clsCreate_canon (hm.of_eq ((State.setInst_mem ..).trans (State.reserveRange_mem ..)))
  clear_value u
  split at hx
  next now w h =>
    have hw : w.mem.Canon := (State.incGen_canon hu).of_eq (mem_of_eq h)
    split at hx
    · split at hx
      next h' =>
        have e' := State.createDone_mem w i
        rw [h'] at e'
        rw [← hx]
        exact hw.of_eq e'
    · rw [← hx]
      exact hw

@[simp] theorem insCreateSpec_canon {c : Cmd} {s : State} (hm : s.mem.Canon) :
    (insCreateSpec.body c s).state.mem.Canon := by
  dsimp -zeta only [insCreateSpec]
  extract_lets +onlyGivenNames i v q
  refine guards_canon (by simp) hm (Cmd.checked_canon hm ?_)
  extract_lets +onlyGivenNames first short
  refine guards_canon (by simp [first, short, Cmd.adminRing]) hm ?_
  split
  next h => exact (State.makeInst_canon hm).of_eq (mem_of_eq_triple h)
  next h => exact (State.makeInst_canon hm).of_eq (mem_of_eq_triple h)

@[simp] theorem execInsCreate_canon {e : AdminEntry} {s : State} (hm : s.mem.Canon) :
    CanonNext (execInsCreate e s) :=
  State.runCmd_canon (fun _ _ => insCreateSpec_canon) hm

@[simp] theorem insDestroySpec_canon {c : Cmd} {s : State} (hm : s.mem.Canon) :
    (insDestroySpec.body c s).state.mem.Canon :=
  guards_canon (by simp) hm (State.incGen_canon (hm.of_eq (State.setInst_mem ..)))

@[simp] theorem execInsDestroy_canon {e : AdminEntry} {s : State} (hm : s.mem.Canon) :
    CanonNext (execInsDestroy e s) := by
  unfold execInsDestroy
  extract_lets +onlyGivenNames t
  rw [canonNext_next]
  have ht : t.mem.Canon := State.runCmd_canon (fun _ _ => insDestroySpec_canon) hm
  clear_value t
  split
  · exact ht
  · extract_lets +onlyGivenNames i u
    have hu : u.mem.Canon := State.hostFacing_canon ht
    exact State.undoStale_canon (ite_canon hu (State.destroyRest_canon hu))

@[simp] theorem insResetSpec_canon {c : Cmd} {s : State} (hm : s.mem.Canon) :
    (insResetSpec.body c s).state.mem.Canon := by
  dsimp -zeta only [insResetSpec]
  extract_lets +onlyGivenNames new
  refine Cmd.checked_canon hm ?_
  extract_lets +onlyGivenNames i v
  refine guards_canon ?_ hm (State.hostReset_canon (ite_canon (hm.of_eq (State.setInst_mem ..)) hm))
  cases new <;> simp [Cmd.adminRing]

@[simp] theorem execInsReset_canon {e : AdminEntry} {s : State} (hm : s.mem.Canon) :
    CanonNext (execInsReset e s) :=
  State.undoStale_canon (State.runCmd_canon (fun _ _ => insResetSpec_canon) hm)

@[simp] theorem execGenerationIncrementDue_canon {iid : Fin 2048} {s : State} (hm : s.mem.Canon) :
    CanonNext (execGenerationIncrementDue iid s) := by
  unfold execGenerationIncrementDue
  extract_lets +onlyGivenNames i v
  rw [canonNext_next]
  split
  · exact hm.of_eq (State.setInst_mem ..)
  next w ws _ =>
    extract_lets +onlyGivenNames t
    have ht : t.mem.Canon := State.undoStale_canon (State.bumpGen_canon (hm.of_eq (State.setInst_mem ..)))
    clear_value t
    split
    · exact ht
    · exact State.destroyRest_canon ht
    · split
      next u rs hu =>
        have e := State.createDone_mem t i
        rw [hu] at e
        split
        · exact (ht.of_eq e).of_eq (State.finish_mem ..)
        · exact ht.of_eq e

@[simp] theorem execInsMgrAdminEnable_canon {mid : BitVec 13} {value : Word} {s : State} (hm : s.mem.Canon) :
    CanonNext (execInsMgrAdminEnable mid value s) := by simp [execInsMgrAdminEnable, hm]

@[simp] theorem execInsSelWrite_canon {mid : BitVec 13} {iid : Fin 2048} {s : State} (hm : s.mem.Canon) :
    CanonNext (execInsSelWrite mid iid s) := by simp [execInsSelWrite, hm]

/-! ## The boot record in MRAM -/

@[simp] theorem State.writeBoot_canon {s : State} {f : Nat → Nat} (hm : s.mem.Canon) :
    (s.writeBoot f).mem.Canon := by simp [State.writeBoot, hm]

/-! ## The sequencers -/

@[simp] theorem State.settleSwap_canon {s : State} {g : Nat} (hm : s.mem.Canon) :
    (s.settleSwap g).mem.Canon := by
  simp only [State.settleSwap]
  repeat' split
  all_goals simp [hm]

@[simp] theorem State.trapBoundary_canon {s : State} {q : Nat} (hm : s.mem.Canon) :
    (s.trapBoundary q).mem.Canon := by simp [State.trapBoundary, hm]

@[simp] theorem State.takeTrap_canon {s : State} {q : Nat} {r : Routine} {cause code : Nat} (hm : s.mem.Canon) :
    (s.takeTrap q r cause code).mem.Canon := by
  simp only [State.takeTrap]
  split <;> simp [hm]

@[simp] theorem State.slotFreed_canon {s : State} {q : Nat} (hm : s.mem.Canon) :
    (s.slotFreed q).mem.Canon := by
  simp only [State.slotFreed]
  split <;> simp [hm]

@[simp] theorem State.trapGo_canon {s : State} {q slot : Nat} {abort : Bool} (hm : s.mem.Canon) :
    (s.trapGo q slot abort).mem.Canon := by
  simp only [State.trapGo]
  split <;> simp [hm]

@[simp] theorem State.context_canon {s : State} {c : Nat} (hm : s.mem.Canon) :
    (s.context c).2.mem.Canon := by
  obtain ⟨x, hx⟩ : ∃ x, s.context c = x := ⟨_, rfl⟩
  rw [hx]
  generalize hf : State.context = f at hx
  delta State.context at hf
  subst hf
  beta_reduce at hx
  split at hx
  next h =>
    rw [← hx]
    exact hm
  next h =>
    rw [← hx]
    exact (State.reach_canon hm).of_eq (mem_of_eq h)

@[simp] theorem State.startRoutine_canon {s : State} {q n : Nat} (hm : s.mem.Canon) :
    (s.startRoutine q n).mem.Canon := by
  obtain ⟨context, hc⟩ : ∃ f, State.context = f := ⟨_, rfl⟩
  obtain ⟨drawRegs, hd⟩ : ∃ f, State.drawRegs = f := ⟨_, rfl⟩
  have context_canon : ∀ {s : State} {n}, s.mem.Canon → (context s n).2.mem.Canon := hc ▸ State.context_canon
  have drawRegs_mem : ∀ s n, (drawRegs s n).2.mem = s.mem := hd ▸ State.drawRegs_mem
  unfold State.startRoutine
  rw [hc, hd]
  extract_lets v g
  split
  · exact hm
  · split
    · exact hm
    · split
      · exact hm
      · split
        · exact hm
        · split
          next h1 =>
            split
            next h2 =>
              split
              next h3 =>
                have h := ((hm.of_eq (drawRegs_mem ..)).of_eq (mem_of_eq h1)).of_eq (State.draw_mem _)
                exact ((context_canon (h.of_eq (mem_of_eq h2))).of_eq (mem_of_eq h3)).of_eq (State.setSeq_mem ..)

@[simp] theorem State.endRoutine_canon {s : State} {q : Nat} {r : Routine} (hm : s.mem.Canon) :
    (s.endRoutine q r).mem.Canon := by
  simp only [State.endRoutine]
  split
  · simp [hm]
  · simp
    split <;> simp [hm]

@[simp] theorem framePort_canon {s : State} {r : Routine} {o : PortOp} (hm : s.mem.Canon) :
    CanonPort (framePort s r o) := by
  unfold framePort
  split
  · trivial
  next p _ =>
    extract_lets +onlyGivenNames a n room put
    have hp : ∀ t d, t.mem.Canon → CanonPort (put t d) := fun t d h => State.storeBuf_canon h
    split
    · exact CanonPort.of_ite trivial hm
    · exact CanonPort.of_ite trivial (hp _ _ hm)
    · refine CanonPort.of_ite trivial ?_
      split
      next bs t ht => exact hp _ _ ((hm.of_eq (State.drawBytes_mem ..)).of_eq (mem_of_eq ht))
    · exact CanonPort.of_ite trivial (hp _ _ hm)
    · exact CanonPort.of_ite trivial (hp _ _ hm)
    · exact hm

@[simp] theorem emitPort_canon {s : State} {q : Nat} {r : Routine} {o : PortOp} (hm : s.mem.Canon) :
    CanonPort (emitPort s q r o) := by
  simp only [emitPort]
  repeat' split
  all_goals simp [hm]

@[simp] theorem notifyPort_canon {s : State} {q : Nat} {r : Routine} {o : PortOp} (hm : s.mem.Canon) :
    CanonPort (notifyPort s q r o) := by
  simp only [notifyPort]
  repeat' split
  all_goals simp [hm]

theorem PortLeavesMem.canon {s : State} {e : PortEnd} (h : PortLeavesMem s e) (hm : s.mem.Canon) : CanonPort e := by
  cases e with
  | ok x => exact hm.of_eq h
  | error _ => trivial

@[simp] theorem portStep_canon {s : State} {q : Nat} {r : Routine} {o : PortOp} (hm : s.mem.Canon) :
    CanonPort (portStep s q r o) := by
  unfold portStep
  split
  · exact (ctxPort_leavesMem s r o).canon hm
  · exact framePort_canon hm
  · exact (entryPort_leavesMem s r o).canon hm
  · exact (postedPort_leavesMem s r o).canon hm
  · exact (postedPort_leavesMem s r o).canon hm
  · exact CanonPort.of_ite hm (hm.of_eq (State.setTimer_mem ..))
  · exact emitPort_canon hm
  · exact notifyPort_canon hm
  · exact (devPort_leavesMem s r o).canon hm
  · exact hm

theorem microword_canon {s : State} {q : Nat} {r : Routine} {parity : Option Bool} {x : State × Routine × Bool × Option Nat}
    (h : microword s q r parity = .ok x) (hm : s.mem.Canon) : x.1.mem.Canon := by
  unfold microword at h
  extract_lets +onlyGivenNames bank mw n at h
  split at h
  next => cases h
  next =>
    rcases ite_eq_iff.1 h with ⟨-, h'⟩ | ⟨-, h'⟩
    next => cases h'
    next =>
      clear h
      extract_lets +onlyGivenNames imm r0 b at h'
      split at h'
      next => cases h'
      next t r1 ld1 h1 =>
        split at h'
        next => cases h'
        next u r2 ld2 h2 =>
          have hu : u.mem.Canon := (portStep_canon ((portStep_canon hm).of_eq h1)).of_eq h2
          split at h'
          next res flags _ =>
            split at h'
            next v w hw =>
              have hwp : w.mem.Canon := (hu.of_eq (State.draw_mem ..)).of_eq (mem_of_eq hw)
              extract_lets +onlyGivenNames r3 r4 load r5 f r6 at h'
              split at h'
              next => cases h'
              next =>
                cases h'
                exact hwp

/-! ## Meanings of the downstream ports' events and registers -/

@[simp] theorem State.contain_canon {s : State} {p reason source : Nat} (hm : s.mem.Canon) :
    (s.contain p reason source).mem.Canon := by
  simp [State.contain, hm]

@[simp] theorem execSlotPresenceChange_canon {port : Fin 4} {present : Bool} {s : State} (hm : s.mem.Canon) :
    CanonNext (execSlotPresenceChange port present s) := by
  unfold execSlotPresenceChange
  extract_lets +onlyGivenNames p
  rw [canonNext_next]
  refine ite_canon hm ?_
  extract_lets +onlyGivenNames t u
  have ht : t.mem.Canon := hm.of_eq ((State.setF_mem ..).trans (State.setF_mem ..))
  have hu : u.mem.Canon := ite_canon (ht.of_eq (State.raiseEs_mem ..)) ht
  clear_value u
  split
  · exact ite_canon (hu.of_eq (State.setSlot_mem ..)) hu
  · exact ite_canon hu (hu.of_eq (State.setSlot_mem ..))
  · exact ite_canon hu (State.contain_canon hu)
  · exact ite_canon hu (State.contain_canon hu)
  · exact ite_canon hu (State.contain_canon hu)
  · exact hu

@[simp] theorem execSlotPowerOn_canon {mid : BitVec 13} {port : Fin 4} {value : Word} {s : State} (hm : s.mem.Canon) :
    CanonNext (execSlotPowerOn mid port value s) := by simp [execSlotPowerOn, hm]

@[simp] theorem execSlotPowerFault_canon {port : Fin 4} {s : State} (hm : s.mem.Canon) :
    CanonNext (execSlotPowerFault port s) := by simp [execSlotPowerFault, hm]

@[simp] theorem execDpcErrMessage_canon {port : Fin 4} {severity : Fin 3} {source : BitVec 16} {s : State} (hm : s.mem.Canon) :
    CanonNext (execDpcErrMessage port severity source s) :=
  ite_canon (c := !s.mainOn) hm
    (ite_canon (State.fault_canon (hm.of_eq (State.bump_mem ..))) (ite_canon (State.contain_canon hm) hm))

@[simp] theorem execSurpriseDown_canon {port : Fin 4} {s : State} (hm : s.mem.Canon) :
    CanonNext (execSurpriseDown port s) := by simp [execSurpriseDown, hm]

@[simp] theorem State.dpcCtl_canon {s : State} {p v : Nat} (hm : s.mem.Canon) : (s.dpcCtl p v).mem.Canon :=
  ite_canon (State.contain_canon (hm.of_eq (State.setReg_mem ..))) (hm.of_eq (State.setReg_mem ..))

@[simp] theorem execDpcSwTrigger_canon {mid : BitVec 13} {port : Fin 4} {value : Word} {s : State} (hm : s.mem.Canon) :
    CanonNext (execDpcSwTrigger mid port value s) := by simp [execDpcSwTrigger, hm]

@[simp] theorem execDpcRelease_canon {mid : BitVec 13} {port : Fin 4} {value : Word} {s : State} (hm : s.mem.Canon) :
    CanonNext (execDpcRelease mid port value s) := by simp [execDpcRelease, hm]

@[simp] theorem execDriveRequest_canon {port : Fin 4} {addr : BitVec 40} {bytes : BitVec 13} {access : PeerAccess} {s : State}
    (hm : s.mem.Canon) : CanonNext (execDriveRequest port addr bytes access s) := by
  unfold execDriveRequest
  extract_lets +onlyGivenNames p n mem t
  have ht : t.mem.Canon := hm.of_eq (State.bump_mem ..)
  rw [canonNext_next]
  refine ite_canon hm (ite_canon ?_ (ite_canon ht (ht.of_eq (State.emit_mem ..))))
  split
  · exact hm.withDdr (Mem.wf_write _ _ hm.ddr)
  · exact State.peerRead_canon hm

/-! ## Resources taken out of service and brought back, for retirement and for test -/

@[simp] theorem State.reserveMoves_takeOther_mem (s : State) (a : Option Nat) (keys : List Nat) :
    (s.reserveMoves (·.takeOther a) keys).2.mem = s.mem :=
  State.reserveMoves_mem (fun s a t h => by rw [mem_of_eq h, State.takeOther_mem]) s keys

@[simp] theorem State.chanLeave_canon {s : State} {c : Nat} (hm : s.mem.Canon) :
    (s.chanLeave c).mem.Canon := by
  obtain ⟨t, ht⟩ : ∃ t, s.chanLeave c = t := ⟨_, rfl⟩
  rw [ht]
  generalize hf : State.chanLeave = f at ht
  delta State.chanLeave at hf
  subst hf
  beta_reduce at ht
  extract_lets on homed bound at ht
  split at ht
  next lost u h =>
    have hu : u.mem.Canon := (hm.of_eq ((State.reserveMoves_takeOther_mem ..).trans
      ((State.moveTables_mem ..).trans (State.cancelMoves_mem ..)))).of_eq (mem_of_eq h)
    rw [← ht]
    refine MemSt.Canon.of_eq (foldl_canon (fun _ _ h => ?_) _ hu) (State.startMove_mem ..)
    exact (State.poisonPage_canon h).of_eq (State.bump_mem ..)

@[simp] theorem State.takeOut_canon {s : State} {r : Nat} {retiring : Bool} (hm : s.mem.Canon) :
    (s.takeOut r retiring).mem.Canon := by
  simp only [State.takeOut]
  split <;> simp [hm]

@[simp] theorem State.endTest_canon {s : State} {r : Nat} (hm : s.mem.Canon) :
    (s.endTest r).mem.Canon := by
  unfold State.endTest
  refine ite_canon hm ?_
  extract_lets +onlyGivenNames t tst u
  have ht : t.mem.Canon := by
    unfold t
    split
    · exact hm.of_eq ((State.setF_mem ..).trans (State.stopLane_mem ..))
    · exact hm
  have hu : u.mem.Canon := MemSt.Canon.of_eq (m := t.mem) ht (State.dropClaim_mem ..)
  exact ite_canon (State.modeEvent_canon hu) hu

@[simp] theorem State.retireBegin_canon {s : State} {r : Nat} (hm : s.mem.Canon) :
    (s.retireBegin r).mem.Canon := by
  unfold State.retireBegin
  extract_lets +onlyGivenNames ras t u v w
  have ht : t.mem.Canon := MemSt.Canon.of_eq (m := s.mem) hm (State.showRetired_mem ..)
  have hu : u.mem.Canon := State.endTest_canon ht
  have hv : v.mem.Canon := by
    unfold v
    clear_value u
    split
    · exact hu.of_eq (State.finish_mem ..)
    · exact hu
  exact (State.modeEvent_canon (State.takeOut_canon (State.log_canon hv))).of_eq (State.foghorn_mem ..)

@[simp] theorem State.retireNext_canon {s : State} {kind : Nat} (hm : s.mem.Canon) :
    (s.retireNext kind).mem.Canon := by
  simp only [State.retireNext]
  repeat' split
  all_goals simp [hm]

@[simp] theorem State.retireFinish_canon {s : State} {r : Nat} (hm : s.mem.Canon) :
    (s.retireFinish r).mem.Canon := by
  simp only [State.retireFinish]
  repeat' split
  all_goals simp [hm]

@[simp] theorem State.releaseHold_canon {s : State} {kind : Nat} (hm : s.mem.Canon) :
    (s.releaseHold kind).mem.Canon := by
  simp only [State.releaseHold]
  split <;> simp [hm]

@[simp] theorem State.restored_canon {s : State} {r : Nat} (hm : s.mem.Canon) :
    (s.restored r).mem.Canon := by simp [State.restored, hm]

/-! ## The protocols of the shipped microcode -/

@[simp] theorem State.connFrameOut_canon {s : State} {v : Conn} {bytes : List Byte} (hm : s.mem.Canon) :
    (s.connFrameOut v bytes).mem.Canon := by
  simp only [State.connFrameOut]
  split <;> simp [hm]

@[simp] theorem State.roceSend_canon {s : State} {c op psn : Nat} {ext data : List Byte} (hm : s.mem.Canon) :
    (s.roceSend c op psn ext data).mem.Canon := by
  simp only [State.roceSend]
  split <;> simp [hm]

@[simp] theorem State.nak_canon {s : State} {c syndrome psn : Nat} (hm : s.mem.Canon) :
    (s.nak c syndrome psn).mem.Canon := by
  unfold State.nak
  split
  · exact State.roceSend_canon (hm.of_eq (State.bump_mem ..))
  · exact hm

@[simp] theorem State.ackUp_canon {s : State} {c : Nat} (hm : s.mem.Canon) :
    (s.ackUp c).mem.Canon := by
  simp only [State.ackUp]
  split <;> simp [hm]

@[simp] theorem State.qpStart_canon {s : State} {c : Nat} {data : Option (List Byte)} (hm : s.mem.Canon) :
    (s.qpStart c data).mem.Canon := by
  unfold State.qpStart
  split
  next => exact hm
  next v _ =>
    split
    next => exact hm
    next e _ =>
      extract_lets +onlyGivenNames w read reads
      refine ite_canon hm (ite_canon (hm.of_eq (State.qpFail_mem ..)) ?_)
      split
      next => exact hm.of_eq (State.qpFail_mem ..)
      next bytes _ =>
        extract_lets +onlyGivenNames total pkts n e' t
        have ht : t.mem.Canon := hm.of_eq (State.setConn_mem ..)
        exact foldl_canon (fun s p hm => State.connFrameOut_canon hm) _ ht

@[simp] theorem State.qpResend_canon {s : State} {c : Nat} (hm : s.mem.Canon) :
    (s.qpResend c).mem.Canon := by
  unfold State.qpResend
  split
  · exact hm
  · exact foldl_canon (fun _ _ h => State.connFrameOut_canon h) _ (hm.of_eq (State.bumpBy_mem ..))

@[simp] theorem State.qpRetry_canon {s : State} {c : Nat} (hm : s.mem.Canon) :
    (s.qpRetry c).mem.Canon := by
  simp only [State.qpRetry]
  split <;> simp [hm]

@[simp] theorem State.qpAnswer_canon {s : State} {c syndrome psn : Nat} (hm : s.mem.Canon) :
    (s.qpAnswer c syndrome psn).mem.Canon := by
  simp only [State.qpAnswer]
  repeat' split
  all_goals simp [hm]

@[simp] theorem State.respondFail_canon {s : State} {c syndrome psn : Nat} (hm : s.mem.Canon) :
    (s.respondFail c syndrome psn).mem.Canon :=
  (State.nak_canon hm).of_eq (State.qpError_mem ..)

@[simp] theorem State.accepted_canon {s : State} {c n : Nat} {last : Bool} (hm : s.mem.Canon) :
    (s.accepted c n last).mem.Canon := by
  simp only [State.accepted]
  split <;> simp [hm]

@[simp] theorem State.capsuleIn_canon {s : State} {c : Nat} {last : Bool} {data : List Byte} (hm : s.mem.Canon) :
    (s.capsuleIn c last data).mem.Canon := by
  simp only [State.capsuleIn]
  split <;> simp [hm]

@[simp] theorem State.sendIn_canon {s : State} {c psn : Nat} {first last : Bool} {imm : Option Nat} {solicited : Bool}
    {data : List Byte} (hm : s.mem.Canon) : (s.sendIn c psn first last imm solicited data).mem.Canon := by
  unfold State.sendIn
  split
  · exact hm
  next v _ =>
    extract_lets start
    have hs : ∀ e n t, start = some (e, n, t) → t.mem.Canon := by
      intro e n t h
      unfold start at h
      split at h
      · cases h
        exact hm
      · obtain ⟨⟨e', t'⟩, ht, hx⟩ := Option.map_eq_some_iff.1 h
        cases hx
        exact hm.of_eq (State.takeRecv_mem ht)
    clear_value start
    refine ite_canon (State.capsuleIn_canon hm) (ite_canon (State.respondFail_canon hm) ?_)
    split
    · exact State.nak_canon hm
    next e got u =>
      have hu : u.mem.Canon := hs e got u rfl
      have hc : ∀ w st, (((u.setConn c w).completeWork e [] st 0)).mem.Canon := fun w st =>
        hu.of_eq ((State.completeWork_mem ..).trans (State.setConn_mem ..))
      extract_lets segs t n t'
      have ht : t'.mem.Canon := hu.of_eq ((State.setConn_mem ..).trans (State.scatter_mem ..))
      refine ite_canon (hu.of_eq ((State.qpError_mem ..).trans ((State.completeWork_mem ..).trans (State.setConn_mem ..)))) ?_
      refine ite_canon (State.respondFail_canon (hu.of_eq ((State.completeWork_mem ..).trans (State.setConn_mem ..)))) ?_
      exact State.accepted_canon (ite_canon (ht.of_eq (State.recvDone_mem ..)) ht)

@[simp] theorem State.writeIn_canon {s : State} {c psn : Nat} {reth : Option (Nat × Nat × Nat)} {last : Bool} {imm : Option Nat}
    {solicited : Bool} {data : List Byte} (hm : s.mem.Canon) : (s.writeIn c psn reth last imm solicited data).mem.Canon := by
  unfold State.writeIn
  split
  · exact hm
  next v _ =>
    split
    · exact State.respondFail_canon hm
    · refine ite_canon (State.respondFail_canon hm) ?_
      extract_lets take
      have hs : ∀ e t, take = some (e, t) → t.mem.Canon := by
        intro e t h
        unfold take at h
        split at h
        · exact hm.of_eq (State.takeRecv_mem h)
        · cases h
      clear_value take
      refine ite_canon (State.nak_canon hm) ?_
      split
      next e u hu =>
        have hp : u.mem.Canon := by
          split at hu
          · cases hu
            exact hs _ _ rfl
          · cases hu
            exact hm
        extract_lets a b d
        have hb : b.mem.Canon := hp.of_eq ((State.setConn_mem ..).trans (State.remotePut_mem ..))
        refine State.accepted_canon ?_
        unfold d
        split
        · exact hb.of_eq (State.recvDone_mem ..)
        · exact hb

@[simp] theorem State.readOut_canon {s : State} {c psn len : Nat} {host : List Byte} (hm : s.mem.Canon) :
    (s.readOut c psn len host).mem.Canon := by
  unfold State.readOut
  split
  · exact hm
  · exact foldl_canon (fun _ _ h => State.roceSend_canon h) _ hm

@[simp] theorem State.cnpOut_canon {s : State} {c : Nat} (hm : s.mem.Canon) :
    (s.cnpOut c).mem.Canon := by
  simp only [State.cnpOut]
  split <;> simp [hm]

@[simp] theorem State.roceIn_canon {s : State} {c : Nat} {b host : List Byte} (hm : s.mem.Canon) :
    (s.roceIn c b host).mem.Canon := by
  unfold State.roceIn
  split
  · exact hm
  · extract_lets op flags psn pad body se opens ahead reth
    refine ite_canon hm (ite_canon (hm.of_eq (State.cnpIn_mem ..)) (ite_canon (ite_canon (State.qpAnswer_canon hm) hm)
      (ite_canon (ite_canon (hm.of_eq (State.readResponse_mem ..)) hm) (ite_canon hm (ite_canon (State.nak_canon hm)
      (ite_canon ?_ (ite_canon (ite_canon hm (State.nak_canon (hm.of_eq (State.setConn_mem ..)))) (ite_canon ?_
      (State.ackUp_canon hm)))))))))
    · clear_value op
      split
      case h_13 =>
        exact ite_canon (State.respondFail_canon hm) (State.accepted_canon (State.readOut_canon hm))
      case h_1 | h_2 | h_3 | h_4 | h_5 | h_6 => exact State.sendIn_canon hm
      all_goals exact State.writeIn_canon hm
    · exact ite_canon (State.respondFail_canon hm) (State.readOut_canon hm)

@[simp] theorem State.roceFrame_canon {s : State} {c : Nat} {p : Pkt} {icrcGood : Bool} {host : List Byte} (hm : s.mem.Canon) :
    (s.roceFrame c p icrcGood host).mem.Canon := by
  simp only [State.roceFrame]
  repeat' split
  all_goals simp [hm]

@[simp] theorem State.qpMessage_canon {s : State} {c : Nat} {data : List Byte} (hm : s.mem.Canon) :
    (s.qpMessage c data).mem.Canon := by
  unfold State.qpMessage
  split
  · exact hm
  · exact ite_canon hm (foldl_canon (fun _ _ h => State.connFrameOut_canon h) _ (hm.of_eq (State.setConn_mem ..)))

@[simp] theorem State.nvmeSubmit_canon {s : State} {c : Nat} {data : Option (List Byte)} (hm : s.mem.Canon) :
    (s.nvmeSubmit c data).mem.Canon := by
  simp only [State.nvmeSubmit]
  repeat' split
  all_goals simp [hm]

@[simp] theorem State.protoStep_canon {s : State} {q c : Nat} {x : ProtoStep} (hm : s.mem.Canon) :
    (s.protoStep q c x).mem.Canon := by
  unfold State.protoStep
  extract_lets nvme fail
  have hf : ∀ {t}, t.mem.Canon → (fail t).mem.Canon := fun h => ite_canon (h.of_eq (State.connFail_mem ..)) h
  have hb : ∀ {n}, (s.bump n).mem.Canon := hm.of_eq (State.bump_mem ..)
  clear_value fail nvme
  split
  case h_1 => exact State.qpStart_canon hm
  case h_2 =>
    split
    next h => exact State.roceFrame_canon ((hm.of_eq (State.takeFrameOf_mem ..)).of_eq (mem_of_eq h))
    next h => exact (hm.of_eq (State.takeFrameOf_mem ..)).of_eq (mem_of_eq h)
  case h_3 =>
    split
    · exact ite_canon (State.ackUp_canon hm) hm
    · exact hm
  case h_4 =>
    split
    · exact ite_canon (State.qpRetry_canon hm) hm
    · exact hm
  case h_5 =>
    split
    · exact ite_canon (State.qpResend_canon hm) hm
    · exact hm
  case h_6 => exact hm.of_eq (State.rateRise_mem ..)
  case h_7 =>
    split
    · exact ite_canon (hm.of_eq (State.pduOut_mem ..)) hm
    · exact hm
  case h_8 =>
    refine ite_canon (hm.of_eq (State.connectFail_mem ..)) ?_
    split
    · exact hm.of_eq ((State.finish_mem ..).trans (State.setConn_mem ..))
    · exact hm
  case h_9 => exact hm.of_eq (State.connectFail_mem ..)
  case h_10 => exact State.nvmeSubmit_canon hm
  case h_11 => exact hm.of_eq (State.h2cData_mem ..)
  case h_12 => exact hm.of_eq (State.nvmeData_mem ..)
  case h_13 => exact ite_canon (hm.of_eq (State.nvmeDone_mem ..)) hm
  case h_14 => exact ite_canon (hb.of_eq (State.completeAt_mem ..)) hm
  case h_15 => exact ite_canon (hf hb) hm
  case h_16 | h_18 => exact hf hm
  case h_17 =>
    split
    · exact ite_canon (hm.of_eq (State.connectFail_mem ..)) (hf hm)
    · exact hm
  case h_19 => exact ite_canon (hm.of_eq (State.tcpRto_mem ..)) hm
  case h_20 => exact ite_canon hb hm
  case h_21 => exact hm.of_eq (State.modConn_mem ..)
  case h_22 => exact hm.of_eq (State.driveDone_mem ..)

@[simp] theorem State.runMicroword_canon {s : State} {q c : Nat} {parity : Option Bool} {steps : List ProtoStep}
    (hm : s.mem.Canon) : (s.runMicroword q c parity steps).mem.Canon := by
  unfold State.runMicroword
  extract_lets v
  split
  · exact hm
  · split
    · exact State.takeTrap_canon (MemSt.Canon.of_eq (ite_canon (hm.of_eq (State.stateFault_mem ..)) hm) (State.setSeq_mem ..))
    next t r' fin trap h =>
      have ht : t.mem.Canon := microword_canon h hm
      extract_lets v t1 t2
      have h2 : t2.mem.Canon := MemSt.Canon.of_eq
        (foldl_canon (fun _ _ h => State.protoStep_canon h) _ (ht.of_eq (State.setSeq_mem ..))) (State.settleKeys_mem ..)
      clear_value t2
      split
      · exact h2
      · split
        · exact State.takeTrap_canon h2
        · exact ite_canon (State.endRoutine_canon h2) h2

/-! ## Meanings of the sequencers' events and commands -/

@[simp] theorem execRoutineStart_canon {seq : Fin 32} {conn : BitVec 16} {s : State} (hm : s.mem.Canon) :
    CanonNext (execRoutineStart seq conn s) :=
  (State.startRoutine_canon hm).of_eq (State.refetch_mem ..)

@[simp] theorem execMicrowordExecute_canon {seq : Fin 32} {conn : BitVec 16} {parity : Option Bool} {steps : List ProtoStep} {s : State}
    (hm : s.mem.Canon) : CanonNext (execMicrowordExecute seq conn parity steps s) := by simp [execMicrowordExecute, hm]

@[simp] theorem execTrapResume_canon {mid : BitVec 13} {seq : Fin 32} {slot : Fin 4} {s : State} (hm : s.mem.Canon) :
    CanonNext (execTrapResume mid seq slot s) := by simp [execTrapResume, hm]

@[simp] theorem execTrapAbort_canon {mid : BitVec 13} {seq : Fin 32} {slot : Fin 4} {s : State} (hm : s.mem.Canon) :
    CanonNext (execTrapAbort mid seq slot s) := by simp [execTrapAbort, hm]

@[simp] theorem State.postedRun_canon {s : State} {o : PostedOp} {owner : Nat} {data : Option (List Byte)} (hm : s.mem.Canon) :
    (s.postedRun o owner data).2.mem.Canon := by
  unfold State.postedRun
  extract_lets +onlyGivenNames arg host dev n pas t
  have ht : t.mem.Canon := by
    unfold t
    split
    · exact hm.of_eq (State.readNow_mem ..)
    · exact hm
  clear_value t n dev
  split
  · cases data with
    | none => exact ht
    | some bs => exact snd_canon_of_ite (State.physWrite_canon ht) ht
  · exact snd_canon_of_ite ht ht
  · split
    · exact ht
    · refine snd_canon_of_ite ?_ ht
      dsimp only
      exact ht.of_eq (State.setConnFrame_mem ..)
    · exact ht
  · split
    · exact snd_canon_of_ite ht ht
    · exact ht

@[simp] theorem State.postedEnd_canon {s : State} {o : PostedOp} {data : Option (List Byte)} (hm : s.mem.Canon) :
    (s.postedEnd o data).mem.Canon := by
  simp only [State.postedEnd]
  split <;> simp [hm]

@[simp] theorem execPortOperationComplete_canon {drive : Bool} {index : BitVec 16} {data : Option (List Byte)} {s : State}
    (hm : s.mem.Canon) : CanonNext (execPortOperationComplete drive index data s) := by
  simp only [execPortOperationComplete]
  repeat' split
  all_goals simp [hm]

@[simp] theorem State.stageGroup_canon {s : State} {img : List Byte} {g : Nat} (hm : s.mem.Canon) :
    (s.stageGroup img g).mem.Canon :=
  (State.putMram_canon hm).of_eq ((State.dropClaim_mem ..).trans (State.setGroup_mem ..))

@[simp] theorem execUcodeStageEnd_canon {group : Fin 4} {s : State} (hm : s.mem.Canon) :
    CanonNext (execUcodeStageEnd group s) := by
  unfold execUcodeStageEnd
  rw [canonNext_next]
  split
  · exact hm
  · exact MemSt.Canon.of_eq (foldl_canon (fun _ _ h => State.stageGroup_canon h) _ hm) (State.finish_mem ..)

@[simp] theorem execPsqBankSwap_canon {e : AdminEntry} {s : State} (hm : s.mem.Canon) :
    CanonNext (execPsqBankSwap e s) := by
  unfold execPsqBankSwap
  rw [canonNext_next]
  exact foldl_canon (f := State.settleSwap) (fun _ _ h => State.settleSwap_canon h) _
    (State.runCmd_canon (fun _ _ h => h.of_eq (psqBankSwapSpec_mem ..)) hm)

@[simp] theorem State.qpMoved_canon {s : State} {c : Cmd} {n : Nat} {v : Conn} {new : Nat} (hm : s.mem.Canon) :
    (s.qpMoved c n v new).mem.Canon := by
  obtain ⟨x, hx⟩ : ∃ x, s.qpMoved c n v new = x := ⟨_, rfl⟩
  rw [hx]
  unfold State.qpMoved at hx
  extract_lets +onlyGivenNames keep t at hx
  rw [← hx, State.trigger_mem]
  subst t
  split
  all_goals simp [-List.reduceReplicate, hm]

@[simp] theorem rdmaQpModifySpec_canon {c : Cmd} {s : State} (hm : s.mem.Canon) :
    (rdmaQpModifySpec.body c s).state.mem.Canon := by
  dsimp -zeta only [rdmaQpModifySpec]
  extract_lets +onlyGivenNames n new
  refine Cmd.checked_canon hm (guards_canon (by simp) hm ?_)
  split
  next => exact hm
  next => exact Res.ite_canon hm (State.qpMoved_canon hm)

@[simp] theorem execRdmaQpModify_canon {e : AdminEntry} {s : State} (hm : s.mem.Canon) :
    CanonNext (execRdmaQpModify e s) :=
  State.runCmd_canon (fun _ _ => rdmaQpModifySpec_canon) hm

/-! ## Fundamental reset, secure boot and the application of a snapshot -/

@[simp] theorem State.wipe_canon {s : State} {power : Bool} (hm : s.mem.Canon) :
    (s.wipe power).mem.Canon := by
  unfold State.wipe
  extract_lets mode slots u w t mgp x
  have hw : w.mem.Canon := hm.of_eq ((State.setReg_mem ..).trans (State.resetRegs_mem ..))
  have hx : x.mem.Canon := ⟨hw.mram, rfl, rfl, rfl, rfl⟩
  exact hx.of_eq ((State.senseSlots_mem ..).trans (State.reapplyRetired_mem ..))

@[simp] theorem State.bootRanges_canon {s : State} (hm : s.mem.Canon) :
    s.bootRanges.mem.Canon := by simp [State.bootRanges, hm]

@[simp] theorem State.restoreGrant_canon {s : State} {g : Nat × Nat} (hm : s.mem.Canon) :
    (s.restoreGrant g).mem.Canon := by
  unfold State.restoreGrant
  split
  next t h => exact State.settleMoves_canon ((State.grantRegion_canon hm).of_eq (congrArg (·.state.mem) h.symm))
  · exact hm

@[simp] theorem State.restore_canon {s : State} {c : SnapConfig} (hm : s.mem.Canon) :
    (s.restore c).mem.Canon := by
  unfold State.restore
  extract_lets t1 t2 t3 bpm cls tbl swx time frs lan spr t4 t5 t6 t7 t8 t9
  have h3 : t3.mem.Canon := by
    refine foldl_canon (fun s e h => h.of_eq (State.setPort_mem ..)) _ (MemSt.Canon.of_eq ?_ (State.enterPortMode_mem ..))
    exact foldl_canon (fun s e h => h.of_eq (State.setReg_mem ..)) _ hm
  have h5 : t5.mem.Canon := by
    unfold t5
    split
    · exact MemSt.Canon.of_eq (m := t3.mem) h3 (State.setClsInst_mem ..)
    · exact h3
  have h7 : t7.mem.Canon := by
    refine foldl_canon (fun s e h => h.of_eq (State.setCl_mem ..)) _ ?_
    exact h5.of_eq ((State.setReg_mem ..).trans (State.setF_mem ..))
  have h8 : t8.mem.Canon := foldl_canon (fun s e h => h.of_eq (State.restoreClaim_mem ..)) _ h7
  have h9 : t9.mem.Canon := foldl_canon (fun _ _ h => State.restoreGrant_canon h) _ h8
  exact MemSt.Canon.of_eq (foldl_canon (fun s e h => h.of_eq (State.restoreWin_mem ..)) _ h9)
    ((State.settleLines_mem ..).trans (State.settleUpstream_mem ..))

@[simp] theorem State.recreate_canon {s : State} {i : Nat} {v : Inst} (hm : s.mem.Canon) :
    (s.recreate i v).2.mem.Canon := by
  obtain ⟨x, hx⟩ : ∃ x, s.recreate i v = x := ⟨_, rfl⟩
  rw [hx]
  generalize hf : State.recreate = f at hx
  delta State.recreate at hf
  subst hf
  beta_reduce at hx
  split at hx
  · exact hm.of_eq (mem_of_mk hx)
  · exact (State.makeInst_canon hm).of_eq (mem_of_mk hx)

@[simp] theorem State.applySnap_canon {s : State} {k : Nat} (hm : s.mem.Canon) :
    (s.applySnap k).mem.Canon := by
  unfold State.applySnap
  extract_lets +onlyGivenNames known t refused u insts
  have ht : t.mem.Canon := by
    unfold t
    clear_value known
    split
    · exact State.restore_canon hm
    · exact hm
  have hu : u.mem.Canon := foldl_canon (fun _ _ h => h.of_eq (State.blkVerdict_mem ..)) _ ht
  clear_value refused u insts
  split
  next made w hw =>
    have h : w.mem.Canon := by
      refine (foldl_snd_canon (fun x e h => ?_) insts hu).of_eq (mem_of_eq hw)
      obtain ⟨n, t⟩ := x
      exact State.recreate_canon h
    exact MemSt.Canon.of_eq (foldl_canon (fun _ _ h => h.of_eq (State.restoreRegion_mem ..)) _ h)
      ((State.raiseEs_mem ..).trans ((State.setReg_mem ..).trans (State.setF_mem ..)))

@[simp] theorem State.bootDone_canon {s : State} (hm : s.mem.Canon) :
    s.bootDone.mem.Canon := by
  simp only [State.bootDone]
  split <;> simp [hm]

@[simp] theorem State.streamBank_canon {s : State} {b : Nat} (hm : s.mem.Canon) : (s.streamBank b).mem.Canon :=
  hm.withCache (Mem.wf_write _ _ Mem.wf_nil)

@[simp] theorem State.relocate_canon {s : State} (hm : s.mem.Canon) : s.relocate.mem.Canon :=
  ⟨hm.mram, Mem.wf_write _ _ hm.ddr, hm.pbuf, Mem.wf_nil, hm.donated⟩

@[simp] theorem State.bootAct_canon {s : State} {n : Nat} (hm : s.mem.Canon) :
    (s.bootAct n).mem.Canon := by
  unfold State.bootAct
  extract_lets other
  split
  · exact hm.of_eq (State.setF_mem ..)
  · exact State.streamBank_canon hm
  · split
    next b t h =>
      have ht : t.mem.Canon := (hm.of_eq (State.bootBank_mem ..)).of_eq (mem_of_eq h)
      exact (State.streamBank_canon ht).of_eq ((State.showRunning_mem ..).trans (State.setRunning_mem ..))
    next t h =>
      have ht : t.mem.Canon := (hm.of_eq (State.bootBank_mem ..)).of_eq (mem_of_eq h)
      exact MemSt.Canon.of_eq (ht.withCache Mem.wf_nil) (State.loaderStart_mem ..)
  · exact State.bootRanges_canon hm
  · exact (State.relocate_canon hm).of_eq (State.logResume_mem ..)
  · exact ite_canon (hm.of_eq ((State.bankCheck_mem ..).trans ((State.setRunning_mem ..).trans (State.setPair_mem ..)))) hm
  · split
    next h => exact State.log_canon ((State.calLoad_canon hm).of_eq (mem_of_eq h))
  · exact foldl_canon (fun _ _ h => h.of_eq (State.bootGroup_mem ..)) _ hm
  · exact MemSt.Canon.of_eq (m := s.mem) hm ((State.addRoot_mem ..).trans (State.enterPortMode_mem ..))
  · exact ite_canon (hm.of_eq (State.setPair_mem ..)) hm
  · exact hm.of_eq (State.seedTime_mem ..)
  · exact State.bootDone_canon hm
  · exact hm

@[simp] theorem State.bootStep_canon {s : State} (hm : s.mem.Canon) : s.bootStep.mem.Canon :=
  ite_canon hm (State.bootAct_canon (hm.of_eq (State.setF_mem ..)))

/-! ## Meanings of the supplies, the power limit and the thermal events -/

@[simp] theorem State.writeBlocks_canon {s : State} {ws : List (Nat × List Byte)} {blocks : Nat} (hm : s.mem.Canon) :
    (s.writeBlocks ws blocks).mem.Canon := by
  unfold State.writeBlocks
  refine List.foldlRecOn (motive := fun x : State × Nat => x.1.mem.Canon) _ _ hm fun x hx w _ => ?_
  exact State.putMram_canon hx

@[simp] theorem State.cutWrites_canon {s : State} (hm : s.mem.Canon) : s.cutWrites.mem.Canon := by
  refine foldl_canon (fun t p h => ?_) _ hm
  split
  · exact h
  next =>
    extract_lets total
    split
    next v u hu =>
      have h' : u.mem.Canon := (h.of_eq (State.draw_mem t)).of_eq (mem_of_eq hu)
      exact ite_canon (State.putMram_canon (State.writeBlocks_canon h')) (State.writeBlocks_canon h')

@[simp] theorem State.mainLoss_canon {s : State} (hm : s.mem.Canon) :
    s.mainLoss.mem.Canon := by simp [State.mainLoss, hm]

@[simp] theorem State.perstRestart_canon {s : State} (hm : s.mem.Canon) :
    s.perstRestart.mem.Canon := by simp [State.perstRestart, hm]

@[simp] theorem execMainSuppliesLost_canon {s : State} (hm : s.mem.Canon) :
    CanonNext (execMainSuppliesLost s) := by simp [execMainSuppliesLost, hm]

@[simp] theorem execAuxSuppliesLost_canon {s : State} (hm : s.mem.Canon) :
    CanonNext (execAuxSuppliesLost s) := by simp [execAuxSuppliesLost, hm]

@[simp] theorem execPwrLimitWrite_canon {mid : BitVec 13} {value : Word} {s : State} (hm : s.mem.Canon) :
    CanonNext (execPwrLimitWrite mid value s) := by simp [execPwrLimitWrite, hm]

@[simp] theorem execThermalTrip_canon {temps : Vector (BitVec 16) 16} {s : State} (hm : s.mem.Canon) :
    CanonNext (execThermalTrip temps s) := by simp [execThermalTrip, hm]

@[simp] theorem execPwrThermCfgWrite_canon {mid : BitVec 13} {value : Word} {s : State} (hm : s.mem.Canon) :
    CanonNext (execPwrThermCfgWrite mid value s) := by simp [execPwrThermCfgWrite, hm]

/-! ## Meanings of modes, Keeper pairs and island resets -/

@[simp] theorem State.transitionDone_canon {s : State} (hm : s.mem.Canon) :
    s.transitionDone.mem.Canon := by simp [State.transitionDone, hm]

@[simp] theorem execModeTransitionEnd_canon {s : State} (hm : s.mem.Canon) :
    CanonNext (execModeTransitionEnd s) := by simp [execModeTransitionEnd, hm]

@[simp] theorem devStartServiceSpec_canon {c : Cmd} {s : State} (hm : s.mem.Canon) :
    (devStartServiceSpec.body c s).state.mem.Canon := by
  simp [devStartServiceSpec, hm]

@[simp] theorem execDevStartService_canon {e : AdminEntry} {s : State} (hm : s.mem.Canon) :
    CanonNext (execDevStartService e s) :=
  State.runCmd_canon (fun _ _ => devStartServiceSpec_canon) hm

@[simp] theorem execRevalidationEnd_canon {block : Option (Fin 32)} {s : State} (hm : s.mem.Canon) :
    CanonNext (execRevalidationEnd block s) := by
  simp only [execRevalidationEnd]
  repeat' split
  all_goals simp [hm]

theorem State.withPgr_canon {s : State} {x : PgrSt} (hm : s.mem.Canon) : ({ s with pgr := x } : State).mem.Canon := hm

@[simp] theorem State.regionReset_canon {s : State} {r : Nat} (hm : s.mem.Canon) : (s.regionReset r).mem.Canon := by
  have ht : ((s.lanClear r).lanRelease r).mem.Canon := State.lanRelease_canon (hm.of_eq (State.lanClear_mem ..))
  simp only [State.regionReset]
  refine ite_canon ?_ (MemSt.Canon.of_eq ?_ (State.raiseEs_mem ..))
  all_goals
    refine foldl_canon (fun _ _ h => h.of_eq (State.lanFinish_mem ..)) _ ?_
    exact (State.withPgr_canon ht).of_eq (State.setRegion_mem ..)

@[simp] theorem State.islandReset_canon {s : State} {i : Nat} (hm : s.mem.Canon) :
    (s.islandReset i).mem.Canon := by simp [State.islandReset, hm]

theorem State.withBoot_canon {s : State} {x : Boot} (hm : s.mem.Canon) : ({ s with boot := x } : State).mem.Canon := hm

@[simp] theorem State.islandGo_canon {s : State} {i : Nat} (hm : s.mem.Canon) : (s.islandGo i).mem.Canon := by
  have ht : (s.setF F.GLB_ISLAND_RST_island i).mem.Canon := hm.of_eq (State.setF_mem ..)
  simp only [State.islandGo]
  refine ite_canon hm ?_
  split
  · exact ht.of_eq (State.setF_mem ..)
  · exact State.withBoot_canon ((State.islandReset_canon ht).of_eq ((State.setF_mem ..).trans (State.setF_mem ..)))

@[simp] theorem execIslandResetGo_canon {mid : BitVec 13} {island : BitVec 6} {s : State} (hm : s.mem.Canon) :
    CanonNext (execIslandResetGo mid island s) := by simp [execIslandResetGo, hm]

/-! ## Meanings of the parser and classifier commands -/

@[simp] theorem clsIndirWriteSpec_canon {c : Cmd} {s : State} (hm : s.mem.Canon) :
    (clsIndirWriteSpec.body c s).state.mem.Canon := by
  unfold clsIndirWriteSpec
  with_reducible change (Cmd.checked c s _ _).state.mem.Canon
  refine Cmd.checked_canon hm ?_
  extract_lets low count start entry bad bs
  refine guards_canon (by simp) hm ?_
  obtain ⟨x, hx⟩ : ∃ x, s.ssWrite internalSsid (indirOff c.target low) bs = x := ⟨_, rfl⟩
  have e : x.2.mem.Canon := by
    rw [← hx]
    exact State.ssWrite_canon hm
  rw [hx]
  clear_value bad
  split
  · split <;> exact hm
  · obtain ⟨f, t⟩ := x
    exact Res.ite_canon hm e

@[simp] theorem execClsIndirWrite_canon {e : AdminEntry} {s : State} (hm : s.mem.Canon) :
    CanonNext (execClsIndirWrite e s) :=
  State.runCmd_canon (fun _ _ => clsIndirWriteSpec_canon) hm

/-! ## Meanings of the device commands of the third chapter -/

@[simp] theorem devCmdAbortSpec_canon {c : Cmd} {s : State} (hm : s.mem.Canon) :
    (devCmdAbortSpec.body c s).state.mem.Canon := by
  dsimp -zeta only [devCmdAbortSpec]
  refine Cmd.checked_canon hm ?_
  split
  · exact hm
  · split
    · exact hm
    next h => exact (State.aborted_canon h hm).of_eq (State.finish_mem ..)

@[simp] theorem execDevCmdAbort_canon {e : AdminEntry} {s : State} (hm : s.mem.Canon) :
    CanonNext (execDevCmdAbort e s) :=
  State.runCmd_canon (fun _ _ => devCmdAbortSpec_canon) hm

@[simp] theorem execRclQueryResWrite_canon {mid : BitVec 13} {value : Word} {s : State} (hm : s.mem.Canon) :
    CanonNext (execRclQueryResWrite mid value s) := State.gatedWrite_canon (hm.of_eq (State.setReg_mem ..)) hm

/-! ## Meanings of firmware staging and activation, of the recovery image -/

@[simp] theorem execImageStageEnd_canon {s : State} (hm : s.mem.Canon) :
    CanonNext (execImageStageEnd s) := by
  unfold execImageStageEnd
  rw [canonNext_next]
  split
  · exact hm
  · extract_lets b img t
    have ht : t.mem.Canon := (State.putMram_canon hm).of_eq (State.dropClaim_mem ..)
    clear_value t
    split
    · exact ht.of_eq ((State.finish_mem ..).trans (State.setBank_mem ..))
    · exact ht.of_eq ((State.finish_mem ..).trans (State.setBank_mem ..))

@[simp] theorem State.handedOver_canon {s : State} {pauseUs : Nat} (hm : s.mem.Canon) :
    (s.handedOver pauseUs).mem.Canon := by
  simp [State.handedOver, hm]

@[simp] theorem State.faultHanded_canon {s : State} {pauseUs : Nat} (hm : s.mem.Canon) :
    (s.faultHanded pauseUs).mem.Canon := by
  unfold State.faultHanded
  extract_lets t u
  have ht : t.mem.Canon :=
    State.log_canon (hm.of_eq ((State.bump_mem ..).trans ((State.raiseEs_mem ..).trans (State.foghorn_mem ..))))
  exact State.modeEvent_canon (s := { u with boot := _ }) (State.handedOver_canon ht)

@[simp] theorem execHandoverRequest_canon {course : Handover} {s : State} (hm : s.mem.Canon) :
    CanonNext (execHandoverRequest course s) := by
  unfold execHandoverRequest
  rw [canonNext_next]
  exact ite_canon hm (ite_canon (State.pairFaultBy_canon (fun _ h => State.faultHanded_canon h) hm) (State.handedOver_canon hm))

@[simp] theorem execRecoveryCommit_canon {src : BitVec 8} {length : Word} {s : State} (hm : s.mem.Canon) :
    CanonNext (execRecoveryCommit src length s) := by
  unfold execRecoveryCommit
  rw [canonNext_next]
  extract_lets +onlyGivenNames n
  split
  · exact hm
  · extract_lets +onlyGivenNames img answer mem dropped len slot
    have ha : ∀ {t a b}, t.mem.Canon → (answer t a b).mem.Canon := fun h => h.of_eq (State.vendorAnswer_mem ..)
    have hd : dropped.mem.Canon := hm.withCache Mem.wf_nil
    refine ite_canon (ha hm) (ite_canon (ha hd) (ite_canon (ha hm) (ite_canon (ha hd) (ite_canon (ha hd) ?_))))
    extract_lets +onlyGivenNames t u
    have hu : u.mem.Canon := (State.writeBoot_canon (State.putMram_canon hd)).of_eq (State.setBank_mem ..)
    exact (ha hu).of_eq (State.bootStart_mem ..)
  · exact hm.of_eq (State.unserved_mem ..)

@[simp] theorem State.clearApply_canon {s : State} {k : Nat} (hm : s.mem.Canon) :
    (s.clearApply k).mem.Canon := by simp [State.clearApply, hm]

theorem State.withSnaps_canon {s : State} {x : NMap SnapConfig} (hm : s.mem.Canon) : ({ s with snaps := x } : State).mem.Canon := hm

@[simp] theorem execSnapshotSaveEnd_canon {slot : Fin 4} {s : State} (hm : s.mem.Canon) :
    CanonNext (execSnapshotSaveEnd slot s) := by
  unfold execSnapshotSaveEnd
  obtain ⟨slotAt, h⟩ : ∃ f, snapAt = f := ⟨_, rfl⟩
  rw [canonNext_next, h]
  extract_lets k seq sec
  split
  · exact hm
  · extract_lets body crc apply w x t u
    have ht : t.mem.Canon := State.withSnaps_canon (State.putMram_canon (State.putMram_canon hm))
    have hu : u.mem.Canon := ite_canon (foldl_canon (fun _ _ h => State.clearApply_canon h) _ ht) ht
    exact hu.of_eq ((State.raiseEs_mem ..).trans (State.finish_mem ..))

@[simp] theorem devSnapshotEraseSpec_canon {c : Cmd} {s : State} (hm : s.mem.Canon) :
    (devSnapshotEraseSpec.body c s).state.mem.Canon := by
  dsimp -zeta only [devSnapshotEraseSpec]
  exact Cmd.checked_canon hm (State.withSnaps_canon ((State.putMram_canon hm).of_eq (State.raiseEs_mem ..)))

@[simp] theorem execDevSnapshotErase_canon {e : AdminEntry} {s : State} (hm : s.mem.Canon) :
    CanonNext (execDevSnapshotErase e s) :=
  State.runCmd_canon (fun _ _ => devSnapshotEraseSpec_canon) hm

/-! ## Meanings of the line ports, the management port and MCTP messages -/

@[simp] theorem execRecoveryWrite_canon {src : BitVec 8} {offset : Word} {bytes : List Byte} {s : State} (hm : s.mem.Canon) :
    CanonNext (execRecoveryWrite src offset bytes s) := by
  unfold execRecoveryWrite
  rw [canonNext_next]
  extract_lets n o
  split
  · exact hm
  · refine ite_canon (hm.of_eq (State.vendorAnswer_mem ..)) ?_
    exact MemSt.Canon.of_eq (hm.withCache (Mem.wf_write _ _ hm.cache)) (State.vendorAnswer_mem ..)
  · exact hm.of_eq (State.unserved_mem ..)

/-! ## Meanings of the queue manager's events and commands -/

theorem State.readEntry_canon {s : State} {q type : Nat} {words : List Word} {mine : Nat → Bool} {need : Nat} {body : Nat → State}
    (hm : s.mem.Canon) (h : ∀ n, (body n).mem.Canon) : (s.readEntry q type words mine need body).mem.Canon :=
  ite_canon hm (ite_canon hm (ite_canon (hm.of_eq (State.endEntry_mem ..)) (ite_canon (hm.of_eq (State.endEntry_mem ..))
    (ite_canon (hm.of_eq (State.endEntry_mem ..)) (h _)))))

@[simp] theorem State.txFrame_canon {s : State} {q : Nat} {words : List Word} {payload : SegRead} (hm : s.mem.Canon) :
    (s.txFrame q words payload).mem.Canon := by
  unfold State.txFrame
  refine ite_canon hm ?_
  extract_lets +onlyGivenNames n total segs
  refine State.readEntry_canon hm fun len => ?_
  have he : ∀ {t : State} {a b}, t.mem.Canon → (t.endEntry q len words a b).mem.Canon := fun h => h.of_eq (State.endEntry_mem ..)
  refine ite_canon (he hm) (ite_canon (he hm) ?_)
  split
  next => exact he hm
  next =>
    extract_lets +onlyGivenNames t
    have ht : t.mem.Canon := hm.of_eq (State.readSegs_mem ..)
    clear_value t
    split
    · exact he (ht.of_eq (State.segFailed_mem ..))
    · exact he (ht.of_eq (State.segFailed_mem ..))
    · exact he (ht.of_eq (State.segFailed_mem ..))
    · exact he (ht.of_eq (State.segFailed_mem ..))
    next bytes =>
      extract_lets +onlyGivenNames c w0 d d' d'' notify tag
      split
      next ptr u hu =>
        have hup : u.mem.Canon := (ht.of_eq (State.allocBuf_mem ..)).of_eq (mem_of_eq hu)
        split
        next => exact he hup
        next ptr =>
          extract_lets +onlyGivenNames v tx tags p
          have hv : v.mem.Canon := (State.storeBuf_canon hup).of_eq (State.takeUnits_mem ..)
          clear_value v
          refine MemSt.Canon.of_eq ?_ (State.fetched_mem ..)
          split
          · exact State.hostTapFrame_canon hv
          · exact State.egress_canon hv

@[simp] theorem execTxFrame_canon {qid : BitVec 16} {words : List Word} {payload : SegRead} {s : State} (hm : s.mem.Canon) :
    CanonNext (execTxFrame qid words payload s) := State.txFrame_canon hm

@[simp] theorem execQmgCtxSelWrite_canon {mid : BitVec 13} {qid : BitVec 16} {s : State} (hm : s.mem.Canon) :
    CanonNext (execQmgCtxSelWrite mid qid s) := by simp [execQmgCtxSelWrite, hm]

/-! ## Meanings of faults, retirement, Foghorn and the fault log -/

@[simp] theorem execHighBerEvent_canon {lane : Fin 8} {s : State} (hm : s.mem.Canon) :
    CanonNext (execHighBerEvent lane s) := by simp [execHighBerEvent, hm]

@[simp] theorem execKeeperLockstepMismatch_canon {pair : Fin 2} {s : State} (hm : s.mem.Canon) :
    CanonNext (execKeeperLockstepMismatch pair s) := State.pairFault_canon hm

@[simp] theorem execHeartbeatTimeout_canon {s : State} (hm : s.mem.Canon) :
    CanonNext (execHeartbeatTimeout s) := by simp [execHeartbeatTimeout, hm]

@[simp] theorem execKeeperMemoryError_canon {pair : Fin 2} {corrected : Bool} {s : State} (hm : s.mem.Canon) :
    CanonNext (execKeeperMemoryError pair corrected s) := by simp [execKeeperMemoryError, hm]

@[simp] theorem execRetirementStart_canon {kind : Fin 9} {s : State} (hm : s.mem.Canon) :
    CanonNext (execRetirementStart kind s) := by simp [execRetirementStart, hm]

@[simp] theorem execRetirementEnd_canon {resource : BitVec 16} {s : State} (hm : s.mem.Canon) :
    CanonNext (execRetirementEnd resource s) := State.retireFinish_canon hm

@[simp] theorem State.selftestEnd_canon {s : State} {r : Nat} {pass : Bool} (hm : s.mem.Canon) :
    (s.selftestEnd r pass).mem.Canon := by
  unfold State.selftestEnd
  extract_lets fails t
  have hf : ∀ {t}, t.mem.Canon → (fails t).mem.Canon := fun h => by
    refine ite_canon h (ite_canon (State.fault_canon (h.of_eq (State.bump_mem ..))) (h.of_eq (State.bump_mem ..)))
  clear_value fails
  split
  · have ht : t.mem.Canon := hm.of_eq (State.dropClaim_mem ..)
    exact ite_canon ((State.restored_canon ht).of_eq (State.finish_mem ..)) ((hf ht).of_eq (State.finish_mem ..))
  · split
    · exact (hf hm).of_eq ((State.raiseEs_mem ..).trans (State.finish_mem ..))
    · exact hm

@[simp] theorem execSelftestEnd_canon {resource : BitVec 16} {pass : Bool} {s : State} (hm : s.mem.Canon) :
    CanonNext (execSelftestEnd resource pass s) := by simp [execSelftestEnd, hm]

@[simp] theorem State.setKind_canon {s : State} {k v : Nat} (hm : s.mem.Canon) : (s.setKind k v).mem.Canon := by
  refine foldl_canon (fun t e h => ?_) _ (hm.of_eq (State.setReg_mem ..))
  exact ite_canon (h.of_eq (State.queueRetire_mem ..)) ((State.log_canon h).of_eq (State.raiseEs_mem ..))

@[simp] theorem rasThresholdSetSpec_canon {c : Cmd} {s : State} (hm : s.mem.Canon) :
    (rasThresholdSetSpec.body c s).state.mem.Canon := by
  simp [rasThresholdSetSpec, hm]

@[simp] theorem execRasThresholdSet_canon {e : AdminEntry} {s : State} (hm : s.mem.Canon) :
    CanonNext (execRasThresholdSet e s) :=
  State.runCmd_canon (fun _ _ => rasThresholdSetSpec_canon) hm

@[simp] theorem rasFoghornAckSpec_canon {c : Cmd} {s : State} (hm : s.mem.Canon) :
    (rasFoghornAckSpec.body c s).state.mem.Canon := by
  simp [rasFoghornAckSpec, hm]

@[simp] theorem execRasFoghornAck_canon {e : AdminEntry} {s : State} (hm : s.mem.Canon) :
    CanonNext (execRasFoghornAck e s) :=
  State.runCmd_canon (fun _ _ => rasFoghornAckSpec_canon) hm

@[simp] theorem execRasHeartbeatWrite_canon {mid : BitVec 13} {s : State} (hm : s.mem.Canon) :
    CanonNext (execRasHeartbeatWrite mid s) := by simp [execRasHeartbeatWrite, hm]

@[simp] theorem execRasCntSelWrite_canon {mid : BitVec 13} {resource : BitVec 16} {s : State} (hm : s.mem.Canon) :
    CanonNext (execRasCntSelWrite mid resource s) := by simp [execRasCntSelWrite, hm]

/-! ## Meanings of Saffron's commands and events -/

@[simp] theorem execSaffronRequest_canon {place : BitVec 16} {s : State} (hm : s.mem.Canon) :
    CanonNext (execSaffronRequest place s) := State.safEnter_canon hm

@[simp] theorem execDerivationComplete_canon {assoc : BitVec 20} {slotB : Bool} {s : State} (hm : s.mem.Canon) :
    CanonNext (execDerivationComplete assoc slotB s) := State.derived_canon hm

@[simp] theorem execSafAssocSelWrite_canon {mid : BitVec 13} {assoc : BitVec 20} {s : State} (hm : s.mem.Canon) :
    CanonNext (execSafAssocSelWrite mid assoc s) := by simp [execSafAssocSelWrite, hm]

@[simp] theorem State.putOpKey_canon {s : State} {k state : Nat} {hash : List Word} (hm : s.mem.Canon) :
    (s.putOpKey k state hash).mem.Canon := by
  simp [State.putOpKey, hm]

@[simp] theorem safOpkeyEnrolSpec_canon {c : Cmd} {s : State} (hm : s.mem.Canon) :
    (safOpkeyEnrolSpec.body c s).state.mem.Canon := by
  simp [safOpkeyEnrolSpec, hm]

@[simp] theorem execSafOpkeyEnrol_canon {e : AdminEntry} {s : State} (hm : s.mem.Canon) :
    CanonNext (execSafOpkeyEnrol e s) :=
  State.runCmd_canon (fun _ _ => safOpkeyEnrolSpec_canon) hm

@[simp] theorem safOpkeyRevokeSpec_canon {c : Cmd} {s : State} (hm : s.mem.Canon) :
    (safOpkeyRevokeSpec.body c s).state.mem.Canon := by
  simp [safOpkeyRevokeSpec, hm]

@[simp] theorem execSafOpkeyRevoke_canon {e : AdminEntry} {s : State} (hm : s.mem.Canon) :
    CanonNext (execSafOpkeyRevoke e s) :=
  State.runCmd_canon (fun _ _ => safOpkeyRevokeSpec_canon) hm

/-! ## Meanings of the switching commands -/

@[simp] theorem execSwxCntSelWrite_canon {mid : BitVec 13} {k : BitVec 18} {clear : Bool} {s : State} (hm : s.mem.Canon) :
    CanonNext (execSwxCntSelWrite mid k clear s) := by simp [execSwxCntSelWrite, hm]

/-! ## Meanings of resources under test, patterns, loopbacks and the debug units -/

@[simp] theorem State.place_canon {s : State} {r : Nat} (hm : s.mem.Canon) : (s.place r).mem.Canon := by
  unfold State.place
  extract_lets tst t u v
  have hu : u.mem.Canon := by
    unfold u
    split
    · exact MemSt.Canon.of_eq (m := s.mem) hm (State.setF_mem ..)
    · exact hm
  have hv : v.mem.Canon := (State.takeOut_canon hu).of_eq (State.bump_mem ..)
  exact ite_canon (State.modeEvent_canon hv) hv

/-- A body that takes its claims first keeps the canonical form where it keeps that of the state with the claims taken. -/
theorem withClaims_canon {s : State} {cs : List (Nat × Nat)} {body : State → Res} (hm : s.mem.Canon)
    (h : (body (s.takeClaims cs)).state.mem.Canon) : (withClaims s cs body).state.mem.Canon := by
  unfold withClaims
  split
  · exact hm.of_eq (claimAnswer_mem ..)
  · exact h

@[simp] theorem tstPlaceUnderTestSpec_canon {c : Cmd} {s : State} (hm : s.mem.Canon) :
    (tstPlaceUnderTestSpec.body c s).state.mem.Canon := by
  dsimp -zeta only [tstPlaceUnderTestSpec]
  extract_lets r
  refine Cmd.checked_canon hm (guards_canon (by simp) hm (withClaims_canon hm ?_))
  exact State.place_canon (hm.of_eq (State.takeClaims_mem ..))

@[simp] theorem execTstPlaceUnderTest_canon {e : AdminEntry} {s : State} (hm : s.mem.Canon) :
    CanonNext (execTstPlaceUnderTest e s) :=
  (State.runCmd_canon (fun _ _ => tstPlaceUnderTestSpec_canon) hm).of_eq (State.settlePlaced_mem ..)

@[simp] theorem execTstRelease_canon {e : AdminEntry} {s : State} (hm : s.mem.Canon) :
    CanonNext (execTstRelease e s) := by
  unfold execTstRelease
  extract_lets t
  have ht : t.mem.Canon := State.runCmd_canon (fun _ _ h => h.of_eq (tstReleaseSpec_mem ..)) hm
  clear_value t
  rw [canonNext_next]
  split
  · refine MemSt.Canon.of_eq (State.releaseHold_canon ?_) ((State.raiseEs_mem ..).trans (State.finish_mem ..))
    exact (State.endTest_canon ht).of_eq (State.putBack_mem ..)
  · exact ht

@[simp] theorem execTstLaneCtlEnable_canon {mid : BitVec 13} {lane : Fin 49} {value : Word} {s : State} (hm : s.mem.Canon) :
    CanonNext (execTstLaneCtlEnable mid lane value s) := by simp [execTstLaneCtlEnable, hm]

@[simp] theorem execTstLaneClear_canon {mid : BitVec 13} {lane : Fin 49} {s : State} (hm : s.mem.Canon) :
    CanonNext (execTstLaneClear mid lane s) := by simp [execTstLaneClear, hm]

@[simp] theorem execTstClvHaltWrite_canon {mid : BitVec 13} {cluster : Fin 16} {word : Fin 4} {value : Word} {s : State}
    (hm : s.mem.Canon) : CanonNext (execTstClvHaltWrite mid cluster word value s) := by simp [execTstClvHaltWrite, hm]

@[simp] theorem execTstClvRegDataWrite_canon {mid : BitVec 13} {value : Word} {s : State} (hm : s.mem.Canon) :
    CanonNext (execTstClvRegDataWrite mid value s) := by simp [execTstClvRegDataWrite, hm]

/-! ## Meanings of the time unit, the calibration table and Daymark -/

@[simp] theorem execTimSnapCapture_canon {mid : BitVec 13} {s : State} (hm : s.mem.Canon) :
    CanonNext (execTimSnapCapture mid s) := by simp [execTimSnapCapture, hm]

@[simp] theorem execTimSideSelWrite_canon {mid : BitVec 13} {index : BitVec 16} {s : State} (hm : s.mem.Canon) :
    CanonNext (execTimSideSelWrite mid index s) := by simp [execTimSideSelWrite, hm]

@[simp] theorem execCalTableWriteEnd_canon {s : State} (hm : s.mem.Canon) :
    CanonNext (execCalTableWriteEnd s) := by
  obtain ⟨offset, h⟩ : ∃ f, calOffset = f := ⟨_, rfl⟩
  rw [execCalTableWriteEnd, canonNext_next, h]
  split
  · exact hm
  · extract_lets bs seq tbl t u
    have ht : t.mem.Canon := foldl_canon (fun _ _ h => State.putMram_canon h) _ hm
    clear_value t
    have hu : u.mem.Canon := ite_canon (ht.of_eq (State.calLive_mem ..)) ht
    exact hu.of_eq ((State.finish_mem ..).trans ((State.dropClaim_mem ..).trans (State.setF_mem ..)))

/-! ## The fetch of an entry -/

/-- Every command of the catalogue keeps the canonical form of the memories. -/
theorem canonNext_of_commandOf {op : Nat} {f : AdminMeaning} (h : commandOf op = some f) {e : AdminEntry} {s : State}
    (hm : s.mem.Canon) : CanonNext (f e s) := by
  obtain ⟨x, hx, rfl⟩ := Option.map_eq_some_iff.mp h
  have all : (commands1 ++ commands2 ++ commands3).Forall fun x =>
      ∀ e s, s.mem.Canon → (∀ y, LeavesMem s y → CanonNext y) → CanonNext (x.2 e s) := by
    simp only [commands1, commands2, commands3, List.cons_append, List.nil_append, List.forall_cons]
    and_intros
    on_goal -1 => exact trivial
    all_goals intro e s hm leaves
    all_goals simp [hm, leaves]
  exact List.forall_iff_forall_mem.mp all x (List.mem_of_find?_eq_some hx) e s hm fun _ h => h.canon hm

@[simp] theorem execAdminCommandFetch_canon {e : AdminEntry} {s : State} (hm : s.mem.Canon) :
    CanonNext (execAdminCommandFetch e s) := by
  rw [execAdminCommandFetch]
  split
  · exact hm.of_eq (State.adminPad_mem ..)
  · split
    next f hf => exact canonNext_of_commandOf hf hm
    next => exact State.runCmd_canon (fun _ _ h => h.of_eq (unknownSpec_mem ..)) hm

/-! ## Meanings of PERST#, hot reset and FLR -/

theorem State.withHost_canon {s : State} {x : HostSt} (hm : s.mem.Canon) : ({ s with host := x } : State).mem.Canon := hm

@[simp] theorem State.hostDomainReset_canon {s : State} (hm : s.mem.Canon) : s.hostDomainReset.mem.Canon := by
  unfold State.hostDomainReset
  extract_lets t u v w x old y
  have ht : t.mem.Canon := hm.of_eq (State.showD0_mem ..)
  have hu : u.mem.Canon := ite_canon (ht.of_eq (State.raiseEs_mem ..)) ht
  have hv : v.mem.Canon := ite_canon (hu.of_eq (State.linkChange_mem ..)) hu
  have hw : w.mem.Canon := State.hostResetAll_canon (State.withdrawDonations_canon hv)
  clear_value w
  have hx : x.mem.Canon := hw.of_eq (State.resetRegs_mem ..)
  clear_value x
  have hy : y.mem.Canon := State.withHost_canon hx
  clear_value old y
  exact State.undoStale_canon (foldl_canon (fun _ _ h => h.of_eq (State.winDrained_mem ..)) _ hy)

@[simp] theorem execPerstAssert_canon {s : State} (hm : s.mem.Canon) :
    CanonNext (execPerstAssert s) := by
  simp only [execPerstAssert]
  repeat' split
  all_goals simp [hm]

@[simp] theorem execHotReset_canon {s : State} (hm : s.mem.Canon) :
    CanonNext (execHotReset s) := by simp [execHotReset, hm]

@[simp] theorem execFlrPf0_canon {s : State} (hm : s.mem.Canon) : CanonNext (execFlrPf0 s) := by
  unfold execFlrPf0
  rw [canonNext_next]
  refine ite_canon hm ?_
  extract_lets t h vfs u v w
  have ht : t.mem.Canon := hm.of_eq (State.showD0_mem ..)
  have hv : v.mem.Canon := MemSt.Canon.of_eq (m := t.mem) ht ((State.showVfs_mem ..).trans (State.fillConfig_mem ..))
  have hw : w.mem.Canon := ite_canon (hv.of_eq (State.raiseEs_mem ..)) hv
  exact (State.undoStale_canon (State.hostResetAll_canon (State.withdrawDonations_canon hw))).of_eq (State.raiseEs_mem ..)

@[simp] theorem execFlrVf_canon {vf : Fin 2048} {s : State} (hm : s.mem.Canon) :
    CanonNext (execFlrVf vf s) := by simp [execFlrVf, hm]

/-! ## Reads and writes of the register windows -/

theorem writeEffects_canon {x : Nat × (Nat → Nat → Nat → State → State)} {mid i v : Nat} {s : State} (h : x ∈ writeEffects)
    (hm : s.mem.Canon) : (x.2 mid i v s).mem.Canon := by
  have all : writeEffects.Forall fun x => ∀ mid i v s, s.mem.Canon → (x.2 mid i v s).mem.Canon := by
    simp only [writeEffects, List.forall_cons]
    and_intros
    on_goal -1 => exact trivial
    all_goals intro mid i v s hm
    all_goals repeat' split
    all_goals simp [hm]
  exact List.forall_iff_forall_mem.1 all x h mid i v s hm

@[simp] theorem State.mapWrite_canon {s : State} {mid a v : Nat} {d : RegDef} {i : Nat} (hm : s.mem.Canon) :
    (s.mapWrite mid a v d i).mem.Canon := by
  unfold State.mapWrite
  refine ite_canon (hm.of_eq (State.blkWrite_mem ..)) (ite_canon (State.dmaWriteBy_canon (State.dmaRegWrite_canon hm) hm) ?_)
  split
  next f hf => exact writeEffects_canon (mem_of_lookup hf) hm
  next => exact hm.of_eq (State.plainWrite_mem ..)

@[simp] theorem State.ctlWrite32_canon {s : State} {mid a v : Nat} (hm : s.mem.Canon) : (s.ctlWrite32 mid a v).mem.Canon := by
  refine State.gatedWrite_canon ?_ hm
  split
  · split
    · exact State.chanWrite_canon hm
    · exact hm.of_eq (State.buoyBadMaster_mem ..)
  · split
    · exact State.regionAccess_canon hm
    · split
      · exact State.mapWrite_canon hm
      · exact ite_canon (hm.of_eq (State.trapWrite_mem ..)) hm

@[simp] theorem State.ctlWrite64_canon {s : State} {mid a v : Nat} (hm : s.mem.Canon) : (s.ctlWrite64 mid a v).mem.Canon := by
  unfold State.ctlWrite64
  split
  · refine State.gatedWrite_canon ?_ hm
    split
    · exact State.mailSend_canon hm
    · exact hm.of_eq (State.buoyBadMaster_mem ..)
  · have hb := State.ctlWrite32_canon (mid := mid) (a := a + 4) (v := v / 2 ^ 32)
      (State.ctlWrite32_canon (mid := mid) (a := a) (v := v % 2 ^ 32) hm)
    exact ite_canon (State.gatedWrite_canon hb hm) hb

@[simp] theorem State.regionRead_canon {s : State} {r n : Nat} (hm : s.mem.Canon) : (s.regionRead r n).2.mem.Canon :=
  snd_canon_of_ite (hm.of_eq ((State.emit_mem ..).trans (State.draw_mem ..)))
    (State.crossingFailed_canon (hm.of_eq (State.bump_mem ..)))

@[simp] theorem State.ctlRead32_canon {s : State} {mid a : Nat} (hm : s.mem.Canon) :
    (s.ctlRead32 mid a).2.mem.Canon := by
  obtain ⟨read, hr⟩ : ∃ f, State.chanRead = f := ⟨_, rfl⟩
  have read_canon : ∀ c b off, (read s c b off).2.mem.Canon := fun c b off => hr ▸ State.chanRead_canon hm
  unfold State.ctlRead32
  rw [hr]
  refine State.gatedValue_canon ?_ hm
  split
  · split
    · exact hm.of_eq (State.buoyBadMaster_mem ..)
    · split
      · split
        next h => exact (State.buoyRecv_canon hm).of_eq (mem_of_eq h)
      · exact read_canon ..
  · split
    · exact State.regionRead_canon hm
    · split
      · split
        next h => exact (hm.of_eq (State.mapRead_mem ..)).of_eq (mem_of_eq h)
      · split
        · exact snd_canon_of_ite hm hm
        · exact hm

@[simp] theorem State.ctlRead64_canon {s : State} {mid a : Nat} (hm : s.mem.Canon) :
    (s.ctlRead64 mid a).2.mem.Canon := by
  unfold State.ctlRead64
  split
  · refine State.gatedValue_canon ?_ hm
    split
    · exact State.buoyRecv_canon hm
    · exact hm.of_eq (State.buoyBadMaster_mem ..)
  · extract_lets both
    have hb : (both s).2.mem.Canon := by
      unfold both
      split
      next h₁ =>
        split
        next h₂ => exact (State.ctlRead32_canon ((State.ctlRead32_canon hm).of_eq (mem_of_eq h₁))).of_eq (mem_of_eq h₂)
    clear_value both
    exact snd_canon_of_ite (State.gatedValue_canon hb hm) hb

@[simp] theorem State.instWrite32_canon {s : State} {i o v : Nat} (hm : s.mem.Canon) :
    (s.instWrite32 i o v).mem.Canon := by
  unfold State.instWrite32
  split
  · exact ite_canon (hm.of_eq (State.buoyVector_mem ..)) (State.chanWrite_canon hm)
  · exact ite_canon (hm.of_eq (State.hint_mem ..)) hm
  · exact ite_canon (hm.of_eq (State.windowDoorbell_mem ..)) hm
  · extract_lets +onlyGivenNames n e
    split
    · exact hm.of_eq (State.setVec_mem ..)
    · exact hm.of_eq (State.setVec_mem ..)
    · exact hm.of_eq (State.setVec_mem ..)
    · exact ite_canon (hm.of_eq (State.setVec_mem ..)) (ite_canon (hm.of_eq (State.msixUnmask_mem ..)) hm)
  · exact hm.of_eq (State.urPosted_mem ..)
  · exact hm

@[simp] theorem State.instWrite64_canon {s : State} {i o v : Nat} (hm : s.mem.Canon) :
    (s.instWrite64 i o v).mem.Canon := by
  simp only [State.instWrite64]
  split <;> simp [hm]

@[simp] theorem State.instRead32_canon {s : State} {i o : Nat} (hm : s.mem.Canon) :
    (s.instRead32 i o).2.mem.Canon := by
  simp only [State.instRead32]
  split <;> simp [hm]

@[simp] theorem State.instRead64_canon {s : State} {i o : Nat} (hm : s.mem.Canon) :
    (s.instRead64 i o).2.mem.Canon := by
  simp only [State.instRead64]
  split <;> simp [hm]

@[simp] theorem State.regWrite_canon {s : State} {r : RegAccess} {v : Nat} (hm : s.mem.Canon) :
    (s.regWrite r v).mem.Canon := by
  unfold State.regWrite
  split <;> simp [hm]

@[simp] theorem State.regRead_canon {s : State} {r : RegAccess} (hm : s.mem.Canon) :
    (s.regRead r).mem.Canon := by
  unfold State.regRead
  split <;> simp [hm]

/-! ## Meanings of register accesses, block control and the debug port's accesses -/

@[simp] theorem execRegisterWrite_canon {acc : RegAccess} {value : Dword} {s : State} (hm : s.mem.Canon) :
    CanonNext (execRegisterWrite acc value s) := State.regWrite_canon hm

@[simp] theorem execRcRegisterRead_canon {acc : RegAccess} {s : State} (hm : s.mem.Canon) :
    CanonNext (execRcRegisterRead acc s) := State.regRead_canon hm

@[simp] theorem State.blkCtlWrite_canon {s : State} {mid b v : Nat} (hm : s.mem.Canon) :
    (s.blkCtlWrite mid b v).mem.Canon := by
  simp [State.blkCtlWrite, hm]

@[simp] theorem execBlkCtlEnableWrite_canon {mid : BitVec 13} {block : Fin 32} {s : State} (hm : s.mem.Canon) :
    CanonNext (execBlkCtlEnableWrite mid block s) := State.blkCtlWrite_canon hm

@[simp] theorem execBlkCtlDisableWrite_canon {mid : BitVec 13} {block : Fin 32} {s : State} (hm : s.mem.Canon) :
    CanonNext (execBlkCtlDisableWrite mid block s) := State.blkCtlWrite_canon hm

@[simp] theorem execBlkCtlLockWrite_canon {mid : BitVec 13} {block : Fin 32} {enable : Bool} {s : State} (hm : s.mem.Canon) :
    CanonNext (execBlkCtlLockWrite mid block enable s) := State.blkCtlWrite_canon hm

@[simp] theorem State.dbgMram_canon {s : State} {a : Nat} {bs : List Byte} (hm : s.mem.Canon) :
    (s.dbgMram a bs).mem.Canon := by
  unfold State.dbgMram
  split
  · exact ite_canon (hm.withMram (Mem.wf_write _ _ hm.mram)) (hm.of_eq (State.bump_mem ..))
  · exact hm.of_eq (State.bump_mem ..)

@[simp] theorem State.dbgMemory_canon {s : State} {a n : Nat} {write : Option (List Byte)} (hm : s.mem.Canon) :
    (s.dbgMemory a n write).mem.Canon := by
  simp only [State.dbgMemory]
  split <;> simp [hm]

@[simp] theorem execDbgAccess_canon {addr : BitVec 40} {size : Nat} {full : Bool} {write : Option (List Byte)} {s : State}
    (hm : s.mem.Canon) : CanonNext (execDbgAccess addr size full write s) := by
  unfold execDbgAccess
  extract_lets a t r
  have ht : t.mem.Canon := hm.of_eq (State.setF_mem ..)
  clear_value t
  rw [canonNext_next]
  refine ite_canon ht (ite_canon ?_ (ite_canon (ite_canon ?_ ?_) (State.dbgMemory_canon ht)))
  · split
    · exact State.regWrite_canon ht
    · exact State.regRead_canon ht
  · exact ht.of_eq ((State.emit_mem ..).trans (State.dbgRefused_mem ..))
  · exact ht.of_eq (State.dbgRefused_mem ..)

/-! ## What the block does of itself on an empty queue -/

@[simp] theorem State.workDone_canon {s : State} (hm : s.mem.Canon) : s.workDone.mem.Canon := by
  refine State.settleDiscards_canon (State.settleDestroys_canon ?_)
  refine MemSt.Canon.of_eq (State.sparServe_canon ?_) (State.settlePlaced_mem ..)
  refine foldl_canon (fun t k h => ?_) _ hm
  exact (State.lanServe_canon (h.of_eq (State.lanStaged_mem ..))).of_eq (State.swapSwitch_mem ..)

@[simp] theorem State.idle_canon {s : State} (hm : s.mem.Canon) :
    s.idle.mem.Canon := by simp [State.idle, hm]

/-! ## The dispatch -/

theorem exec_canon {i : Instr} {s : State} (hm : s.mem.Canon) : CanonNext (exec i s) := by
  unfold exec
  cases i with
  | registerWrite => exact execRegisterWrite_canon hm
  | rcRegisterRead => exact execRcRegisterRead_canon hm
  | blkCtlEnableWrite => exact execBlkCtlEnableWrite_canon hm
  | consistencyCheckEnd => exact (execConsistencyCheckEnd_leavesMem ..).canon hm
  | blkCtlDisableWrite => exact execBlkCtlDisableWrite_canon hm
  | blkCtlLockWrite => exact execBlkCtlLockWrite_canon hm
  | auxSuppliesGood => exact (execAuxSuppliesGood_leavesMem ..).canon hm
  | auxSuppliesLost => exact execAuxSuppliesLost_canon hm
  | mainSuppliesGood => exact (execMainSuppliesGood_leavesMem ..).canon hm
  | mainSuppliesLost => exact execMainSuppliesLost_canon hm
  | sequencingFault => exact (execSequencingFault_leavesMem ..).canon hm
  | railExcursion => exact (execRailExcursion_leavesMem ..).canon hm
  | keeperLockstepMismatch => exact execKeeperLockstepMismatch_canon hm
  | heartbeatTimeout => exact execHeartbeatTimeout_canon hm
  | revalidationEnd => exact execRevalidationEnd_canon hm
  | standbyPairReady => exact (execStandbyPairReady_leavesMem ..).canon hm
  | islandResetGo => exact execIslandResetGo_canon hm
  | islandResetEnd => exact (execIslandResetEnd_leavesMem ..).canon hm
  | devStartService => exact execDevStartService_canon hm
  | devSnapshotSave => exact (execDevSnapshotSave_leavesMem ..).canon hm
  | snapshotSaveEnd => exact execSnapshotSaveEnd_canon hm
  | devSnapshotQuery => exact (execDevSnapshotQuery_leavesMem ..).canon hm
  | devSnapshotErase => exact execDevSnapshotErase_canon hm
  | devImageStage => exact (execDevImageStage_leavesMem ..).canon hm
  | imageStageEnd => exact execImageStageEnd_canon hm
  | devImageActivate => exact (execDevImageActivate_leavesMem ..).canon hm
  | handoverRequest => exact execHandoverRequest_canon hm
  | activationTimeout => exact (execActivationTimeout_leavesMem ..).canon hm
  | devImageQuery => exact (execDevImageQuery_leavesMem ..).canon hm
  | perstAssert => exact execPerstAssert_canon hm
  | perstDeassert => exact (execPerstDeassert_leavesMem ..).canon hm
  | hotReset => exact execHotReset_canon hm
  | flrPf0 => exact execFlrPf0_canon hm
  | flrVf => exact execFlrVf_canon hm
  | hostFacingResetEnd => exact (execHostFacingResetEnd_leavesMem ..).canon hm
  | generationIncrementDue => exact execGenerationIncrementDue_canon hm
  | adminCommandFetch => exact execAdminCommandFetch_canon hm
  | devIdentify => exact (execDevIdentify_leavesMem ..).canon hm
  | devNop => exact (execDevNop_leavesMem ..).canon hm
  | devCmdAbort => exact execDevCmdAbort_canon hm
  | devClaimQuery => exact (execDevClaimQuery_leavesMem ..).canon hm
  | rclQueryResWrite => exact execRclQueryResWrite_canon hm
  | upstreamLinkChange => exact (execUpstreamLinkChange_leavesMem ..).canon hm
  | configRequest => exact (execConfigRequest_leavesMem ..).canon hm
  | vfEnableSet => exact execVfEnableSet_canon hm
  | vfEnableClear => exact execVfEnableClear_canon hm
  | numvfsWrite => exact execNumvfsWrite_canon hm
  | powerstateWrite => exact (execPowerstateWrite_leavesMem ..).canon hm
  | pmeTurnOff => exact (execPmeTurnOff_leavesMem ..).canon hm
  | hostReadCompletion => exact execHostReadCompletion_canon hm
  | completionTimeout => exact execCompletionTimeout_canon hm
  | lateCompletion => exact (execLateCompletion_leavesMem ..).canon hm
  | tagQuarantineExpiry => exact (execTagQuarantineExpiry_leavesMem ..).canon hm
  | peerWindowRequest => exact execPeerWindowRequest_canon hm
  | peerWinCommit => exact execPeerWinCommit_canon hm
  | peerWinDrained => exact (execPeerWinDrained_leavesMem ..).canon hm
  | l0pNarrow => exact (execL0pNarrow_leavesMem ..).canon hm
  | l0pWiden => exact (execL0pWiden_leavesMem ..).canon hm
  | l1Request => exact (execL1Request_leavesMem ..).canon hm
  | hstPmCfgEnable => exact execHstPmCfgEnable_canon hm
  | hstCplTimeoutOverride => exact execHstCplTimeoutOverride_canon hm
  | slotPresenceChange => exact execSlotPresenceChange_canon hm
  | slotPowerOn => exact execSlotPowerOn_canon hm
  | slotPowerGood => exact (execSlotPowerGood_leavesMem ..).canon hm
  | slotPowerGoodTimeout => exact (execSlotPowerGoodTimeout_leavesMem ..).canon hm
  | slotLinkActive => exact (execSlotLinkActive_leavesMem ..).canon hm
  | slotTrainingTimeout => exact (execSlotTrainingTimeout_leavesMem ..).canon hm
  | attentionButton => exact (execAttentionButton_leavesMem ..).canon hm
  | removalTimeout => exact (execRemovalTimeout_leavesMem ..).canon hm
  | removalDrainEnd => exact (execRemovalDrainEnd_leavesMem ..).canon hm
  | slotPowerFault => exact execSlotPowerFault_canon hm
  | dpcErrMessage => exact execDpcErrMessage_canon hm
  | surpriseDown => exact execSurpriseDown_canon hm
  | dpcSwTrigger => exact execDpcSwTrigger_canon hm
  | dpcRelease => exact execDpcRelease_canon hm
  | driveRequest => exact execDriveRequest_canon hm
  | doorbellWrite => exact (execDoorbellWrite_leavesMem ..).canon hm
  | evqDoorbellWrite => exact (execEvqDoorbellWrite_leavesMem ..).canon hm
  | contextFillComplete => exact (execContextFillComplete_leavesMem ..).canon hm
  | txFrame => exact execTxFrame_canon hm
  | rxBuffer => exact (execRxBuffer_leavesMem ..).canon hm
  | padEntry => exact (execPadEntry_leavesMem ..).canon hm
  | coalesceTimerExpiry => exact (execCoalesceTimerExpiry_leavesMem ..).canon hm
  | queueCreate => exact (execQueueCreate_leavesMem ..).canon hm
  | queueDestroy => exact (execQueueDestroy_leavesMem ..).canon hm
  | queueDrainEnd => exact (execQueueDrainEnd_leavesMem ..).canon hm
  | queueModify => exact (execQueueModify_leavesMem ..).canon hm
  | queueQuery => exact (execQueueQuery_leavesMem ..).canon hm
  | evqCreate => exact (execEvqCreate_leavesMem ..).canon hm
  | evqDestroy => exact (execEvqDestroy_leavesMem ..).canon hm
  | evqRearm => exact (execEvqRearm_leavesMem ..).canon hm
  | qmgCtxSelWrite => exact execQmgCtxSelWrite_canon hm
  | dmaChannelCfg => exact execDmaChannelCfg_canon hm
  | dmaChStart => exact execDmaChStart_canon hm
  | dmaChAbort => exact execDmaChAbort_canon hm
  | dmaChannelSchedule => exact (execDmaChannelSchedule_leavesMem ..).canon hm
  | dmaBurstComplete => exact execDmaBurstComplete_canon hm
  | eventSourceEdge => exact (execEventSourceEdge_leavesMem ..).canon hm
  | evcSrcForce => exact execEvcSrcForce_canon hm
  | evcSrcEnable => exact execEvcSrcEnable_canon hm
  | evcPendingClear => exact execEvcPendingClear_canon hm
  | evcClaimRead => exact execEvcClaimRead_canon hm
  | targetIdle => exact (execTargetIdle_leavesMem ..).canon hm
  | moderationHoldExpiry => exact (execModerationHoldExpiry_leavesMem ..).canon hm
  | vectorModerationExpiry => exact (execVectorModerationExpiry_leavesMem ..).canon hm
  | idleHintWrite => exact (execIdleHintWrite_leavesMem ..).canon hm
  | msixUnmask => exact (execMsixUnmask_leavesMem ..).canon hm
  | buoySend => exact execBuoySend_canon hm
  | buoyRecvRead => exact execBuoyRecvRead_canon hm
  | buoyWithdraw => exact (execBuoyWithdraw_leavesMem ..).canon hm
  | buoyDbSend => exact execBuoyDbSend_canon hm
  | buoyDbRecvClear => exact (execBuoyDbRecvClear_leavesMem ..).canon hm
  | buoyVectorEnable => exact (execBuoyVectorEnable_leavesMem ..).canon hm
  | buoyForceClear => exact execBuoyForceClear_canon hm
  | insCreate => exact execInsCreate_canon hm
  | insDestroy => exact execInsDestroy_canon hm
  | insReset => exact execInsReset_canon hm
  | insQuery => exact (execInsQuery_leavesMem ..).canon hm
  | insSetQuota => exact (execInsSetQuota_leavesMem ..).canon hm
  | insSuspend => exact (execInsSuspend_leavesMem ..).canon hm
  | insResume => exact (execInsResume_leavesMem ..).canon hm
  | insMgrAdminEnable => exact execInsMgrAdminEnable_canon hm
  | insSelWrite => exact execInsSelWrite_canon hm
  | frameReceive => exact execFrameReceive_canon hm
  | frameTail => exact execFrameTail_canon hm
  | pageFillComplete => exact execPageFillComplete_canon hm
  | parkTimeout => exact (execParkTimeout_leavesMem ..).canon hm
  | hostFillRetry => exact (execHostFillRetry_leavesMem ..).canon hm
  | writeBackComplete => exact execWriteBackComplete_canon hm
  | pageEviction => exact execPageEviction_canon hm
  | pageDemotion => exact (execPageDemotion_leavesMem ..).canon hm
  | pageCopyComplete => exact execPageCopyComplete_canon hm
  | patrolScrubRead => exact execPatrolScrubRead_canon hm
  | pgrPin => exact (execPgrPin_leavesMem ..).canon hm
  | pgrUnpin => exact (execPgrUnpin_leavesMem ..).canon hm
  | pgrPrefetch => exact execPgrPrefetch_canon hm
  | memDonate => exact (execMemDonate_leavesMem ..).canon hm
  | memRevoke => exact execMemRevoke_canon hm
  | memPeerWindow => exact execMemPeerWindow_canon hm
  | bpmPoolCfg => exact (execBpmPoolCfg_leavesMem ..).canon hm
  | bpmSetQuota => exact (execBpmSetQuota_leavesMem ..).canon hm
  | alloc => exact (execAlloc_leavesMem ..).canon hm
  | share => exact (execShare_leavesMem ..).canon hm
  | release => exact (execRelease_leavesMem ..).canon hm
  | transfer => exact (execTransfer_leavesMem ..).canon hm
  | free => exact (execFree_leavesMem ..).canon hm
  | prsGraphWrite => exact (execPrsGraphWrite_leavesMem ..).canon hm
  | clsRuleWrite => exact (execClsRuleWrite_leavesMem ..).canon hm
  | clsRuleDelete => exact (execClsRuleDelete_leavesMem ..).canon hm
  | clsHashCfg => exact (execClsHashCfg_leavesMem ..).canon hm
  | clsIndirWrite => exact execClsIndirWrite_canon hm
  | clsExcPolicer => exact (execClsExcPolicer_leavesMem ..).canon hm
  | excPolicerRefill => exact (execExcPolicerRefill_leavesMem ..).canon hm
  | tblCreate => exact (execTblCreate_leavesMem ..).canon hm
  | shadowCopyEnd => exact execShadowCopyEnd_canon hm
  | tblDestroy => exact execTblDestroy_canon hm
  | tblInsert => exact execTblInsert_canon hm
  | tblDelete => exact execTblDelete_canon hm
  | tblSearch => exact (execTblSearch_leavesMem ..).canon hm
  | tblNext => exact (execTblNext_leavesMem ..).canon hm
  | tblFlushPort => exact (execTblFlushPort_leavesMem ..).canon hm
  | tableFlushEnd => exact execTableFlushEnd_canon hm
  | tblShadowSwitch => exact execTblShadowSwitch_canon hm
  | lpmAdd => exact (execLpmAdd_leavesMem ..).canon hm
  | lpmDelete => exact (execLpmDelete_leavesMem ..).canon hm
  | lpmVrfCfg => exact (execLpmVrfCfg_leavesMem ..).canon hm
  | vrfFlushEnd => exact (execVrfFlushEnd_leavesMem ..).canon hm
  | lpmNodeRebuild => exact (execLpmNodeRebuild_leavesMem ..).canon hm
  | learnCfg => exact (execLearnCfg_leavesMem ..).canon hm
  | learnTokenRefill => exact execLearnTokenRefill_canon hm
  | ageingScanVisit => exact execAgeingScanVisit_canon hm
  | tblSelWrite => exact execTblSelWrite_canon hm
  | swxActionWrite => exact (execSwxActionWrite_leavesMem ..).canon hm
  | swxTunnelCfg => exact (execSwxTunnelCfg_leavesMem ..).canon hm
  | swxMirrorCfg => exact (execSwxMirrorCfg_leavesMem ..).canon hm
  | swxPolicerCfg => exact (execSwxPolicerCfg_leavesMem ..).canon hm
  | policerRefill => exact (execPolicerRefill_leavesMem ..).canon hm
  | orderedSlotTimeout => exact execOrderedSlotTimeout_canon hm
  | swxCntSelWrite => exact execSwxCntSelWrite_canon hm
  | saffronRequest => exact execSaffronRequest_canon hm
  | derivationComplete => exact execDerivationComplete_canon hm
  | safRootKeyLoad => exact (execSafRootKeyLoad_leavesMem ..).canon hm
  | safAssocCreate => exact (execSafAssocCreate_leavesMem ..).canon hm
  | safAssocRekey => exact (execSafAssocRekey_leavesMem ..).canon hm
  | safAssocDestroy => exact (execSafAssocDestroy_leavesMem ..).canon hm
  | safOpkeyEnrol => exact execSafOpkeyEnrol_canon hm
  | safOpkeyRevoke => exact execSafOpkeyRevoke_canon hm
  | safAssocSelWrite => exact execSafAssocSelWrite_canon hm
  | cloveDispatch => exact (execCloveDispatch_leavesMem ..).canon hm
  | pktLwbe => exact (execPktLwbe_leavesMem ..).canon hm
  | pktHead => exact execPktHead_canon hm
  | pktLen => exact execPktLen_canon hm
  | pktEmit => exact execPktEmit_canon hm
  | pktDrop => exact execPktDrop_canon hm
  | pktNew => exact (execPktNew_leavesMem ..).canon hm
  | tblEm => exact execTblEm_canon hm
  | tblLpm => exact execTblLpm_canon hm
  | pgrPage => exact (execPgrPage_leavesMem ..).canon hm
  | pgrLw => exact execPgrLw_canon hm
  | pgrSw => exact execPgrSw_canon hm
  | pgrAmoadd => exact execPgrAmoadd_canon hm
  | pgrAmoswap => exact execPgrAmoswap_canon hm
  | pgrPref => exact (execPgrPref_leavesMem ..).canon hm
  | msgLock => exact (execMsgLock_leavesMem ..).canon hm
  | msgUnlock => exact (execMsgUnlock_leavesMem ..).canon hm
  | msgRd => exact (execMsgRd_leavesMem ..).canon hm
  | msgWr => exact (execMsgWr_leavesMem ..).canon hm
  | clvWait => exact (execClvWait_leavesMem ..).canon hm
  | clvDone => exact execClvDone_canon hm
  | clvWake => exact (execClvWake_leavesMem ..).canon hm
  | bufAlloc => exact (execBufAlloc_leavesMem ..).canon hm
  | bufShare => exact (execBufShare_leavesMem ..).canon hm
  | bufRelease => exact (execBufRelease_leavesMem ..).canon hm
  | bufFree => exact (execBufFree_leavesMem ..).canon hm
  | bufXfer => exact (execBufXfer_leavesMem ..).canon hm
  | supNext => exact (execSupNext_leavesMem ..).canon hm
  | supAct => exact execSupAct_canon hm
  | supFrel => exact (execSupFrel_leavesMem ..).canon hm
  | supState => exact (execSupState_leavesMem ..).canon hm
  | baseInstruction => exact execBaseInstruction_canon hm
  | ecall => exact (execEcall_leavesMem ..).canon hm
  | ebreak => exact (execEbreak_leavesMem ..).canon hm
  | blockedResultReturn => exact (execBlockedResultReturn_leavesMem ..).canon hm
  | compareReached => exact (execCompareReached_leavesMem ..).canon hm
  | wdogExpiry => exact (execWdogExpiry_leavesMem ..).canon hm
  | supRestart => exact execSupRestart_canon hm
  | clvWdogEnable => exact execClvWdogEnable_canon hm
  | clvProgramLoad => exact (execClvProgramLoad_leavesMem ..).canon hm
  | clvProgramSwap => exact (execClvProgramSwap_leavesMem ..).canon hm
  | swapDrainEnd => exact (execSwapDrainEnd_leavesMem ..).canon hm
  | clvProgramUnload => exact execClvProgramUnload_canon hm
  | clvClusterMode => exact (execClvClusterMode_leavesMem ..).canon hm
  | clvMsgregRelease => exact (execClvMsgregRelease_leavesMem ..).canon hm
  | routineStart => exact execRoutineStart_canon hm
  | workEntryFetch => exact (execWorkEntryFetch_leavesMem ..).canon hm
  | connectionTimerExpiry => exact (execConnectionTimerExpiry_leavesMem ..).canon hm
  | portOperationComplete => exact execPortOperationComplete_canon hm
  | microwordExecute => exact execMicrowordExecute_canon hm
  | trapResume => exact execTrapResume_canon hm
  | trapAbort => exact execTrapAbort_canon hm
  | driveCommandTimeout => exact (execDriveCommandTimeout_leavesMem ..).canon hm
  | psqUcodeStage => exact (execPsqUcodeStage_leavesMem ..).canon hm
  | psqBankSwap => exact execPsqBankSwap_canon hm
  | rdmaQpCreate => exact (execRdmaQpCreate_leavesMem ..).canon hm
  | rdmaQpModify => exact execRdmaQpModify_canon hm
  | rdmaQpDestroy => exact (execRdmaQpDestroy_leavesMem ..).canon hm
  | rdmaMrRegister => exact (execRdmaMrRegister_leavesMem ..).canon hm
  | rdmaMrDeregister => exact (execRdmaMrDeregister_leavesMem ..).canon hm
  | nvmeCtrlConnect => exact (execNvmeCtrlConnect_leavesMem ..).canon hm
  | nvmeCtrlDisconnect => exact (execNvmeCtrlDisconnect_leavesMem ..).canon hm
  | nvmeLocalNsAttach => exact (execNvmeLocalNsAttach_leavesMem ..).canon hm
  | nvmeLocalNsDetach => exact (execNvmeLocalNsDetach_leavesMem ..).canon hm
  | frsNodeCfg => exact (execFrsNodeCfg_leavesMem ..).canon hm
  | frsShaperCfg => exact (execFrsShaperCfg_leavesMem ..).canon hm
  | frsGclWrite => exact (execFrsGclWrite_leavesMem ..).canon hm
  | frsGclCommit => exact (execFrsGclCommit_leavesMem ..).canon hm
  | frsTelemetryCfg => exact (execFrsTelemetryCfg_leavesMem ..).canon hm
  | schedulerChoice => exact execSchedulerChoice_canon hm
  | refillEpoch => exact (execRefillEpoch_leavesMem ..).canon hm
  | gateEdge => exact (execGateEdge_leavesMem ..).canon hm
  | gateStaging => exact (execGateStaging_leavesMem ..).canon hm
  | gclSwitch => exact (execGclSwitch_leavesMem ..).canon hm
  | leafBelowMax => exact (execLeafBelowMax_leavesMem ..).canon hm
  | telemetrySample => exact (execTelemetrySample_leavesMem ..).canon hm
  | frsNodeSelWrite => exact execFrsNodeSelWrite_canon hm
  | portModeSet => exact (execPortModeSet_leavesMem ..).canon hm
  | portLinkChange => exact (execPortLinkChange_leavesMem ..).canon hm
  | portCfg => exact (execPortCfg_leavesMem ..).canon hm
  | portStatsRead => exact (execPortStatsRead_leavesMem ..).canon hm
  | portPfcCfg => exact (execPortPfcCfg_leavesMem ..).canon hm
  | pauseRepeat => exact (execPauseRepeat_leavesMem ..).canon hm
  | pauseFrameReceived => exact (execPauseFrameReceived_leavesMem ..).canon hm
  | pauseExpiry => exact (execPauseExpiry_leavesMem ..).canon hm
  | mgpFrameReceived => exact (execMgpFrameReceived_leavesMem ..).canon hm
  | mgpLinkChange => exact (execMgpLinkChange_leavesMem ..).canon hm
  | mgpCollision => exact (execMgpCollision_leavesMem ..).canon hm
  | backoffExpiry => exact (execBackoffExpiry_leavesMem ..).canon hm
  | mctpControlMessage => exact (execMctpControlMessage_leavesMem ..).canon hm
  | spdmMessage => exact (execSpdmMessage_leavesMem ..).canon hm
  | yadopex => exact (execYadopex_leavesMem ..).canon hm
  | wake => exact (execWake_leavesMem ..).canon hm
  | recoveryWrite => exact execRecoveryWrite_canon hm
  | recoveryCommit => exact execRecoveryCommit_canon hm
  | timeAdjust => exact (execTimeAdjust_leavesMem ..).canon hm
  | slewEnd => exact (execSlewEnd_leavesMem ..).canon hm
  | timePpsCfg => exact (execTimePpsCfg_leavesMem ..).canon hm
  | ppsEdge => exact (execPpsEdge_leavesMem ..).canon hm
  | timeInEdge => exact (execTimeInEdge_leavesMem ..).canon hm
  | ptmExchange => exact (execPtmExchange_leavesMem ..).canon hm
  | timeDaymarkAlarm => exact (execTimeDaymarkAlarm_leavesMem ..).canon hm
  | daymarkAlarmFire => exact (execDaymarkAlarmFire_leavesMem ..).canon hm
  | daymarkFollowCheck => exact (execDaymarkFollowCheck_leavesMem ..).canon hm
  | vbatLoss => exact (execVbatLoss_leavesMem ..).canon hm
  | calTableWrite => exact (execCalTableWrite_leavesMem ..).canon hm
  | calTableRead => exact (execCalTableRead_leavesMem ..).canon hm
  | timSnapCapture => exact execTimSnapCapture_canon hm
  | timSideSelWrite => exact execTimSideSelWrite_canon hm
  | lanRegionAssign => exact (execLanRegionAssign_leavesMem ..).canon hm
  | lanImageLoad => exact (execLanImageLoad_leavesMem ..).canon hm
  | initTimeout => exact (execInitTimeout_leavesMem ..).canon hm
  | lanRegionQuiesce => exact (execLanRegionQuiesce_leavesMem ..).canon hm
  | lanRegionUnload => exact execLanRegionUnload_canon hm
  | quiesceDrained => exact execQuiesceDrained_canon hm
  | quiesceTimeout => exact execQuiesceTimeout_canon hm
  | lanPowerCap => exact (execLanPowerCap_leavesMem ..).canon hm
  | lanAllowanceSet => exact (execLanAllowanceSet_leavesMem ..).canon hm
  | lanTapCfg => exact (execLanTapCfg_leavesMem ..).canon hm
  | regionReturn => exact execRegionReturn_canon hm
  | tapHoldTimeout => exact execTapHoldTimeout_canon hm
  | regionMemoryRequest => exact execRegionMemoryRequest_canon hm
  | regionRegisterAccess => exact execRegionRegisterAccess_canon hm
  | regionRegisterTimeout => exact execRegionRegisterTimeout_canon hm
  | lxEventEdge => exact (execLxEventEdge_leavesMem ..).canon hm
  | configScrubPass => exact execConfigScrubPass_canon hm
  | regionPowerSample => exact execRegionPowerSample_canon hm
  | throttleStage2 => exact (execThrottleStage2_leavesMem ..).canon hm
  | throttleRecovery => exact (execThrottleRecovery_leavesMem ..).canon hm
  | powerTrip => exact execPowerTrip_canon hm
  | flitReceive => exact execFlitReceive_canon hm
  | replayTimeout => exact execReplayTimeout_canon hm
  | beaconSend => exact (execBeaconSend_leavesMem ..).canon hm
  | beaconReceive => exact (execBeaconReceive_leavesMem ..).canon hm
  | sprJoin => exact (execSprJoin_leavesMem ..).canon hm
  | joinWaitEnd => exact execJoinWaitEnd_canon hm
  | sprLeave => exact (execSprLeave_leavesMem ..).canon hm
  | sprRouteWrite => exact (execSprRouteWrite_leavesMem ..).canon hm
  | sprEpochCommit => exact (execSprEpochCommit_leavesMem ..).canon hm
  | previousEpochDiscard => exact (execPreviousEpochDiscard_leavesMem ..).canon hm
  | sprRemoteGrant => exact (execSprRemoteGrant_leavesMem ..).canon hm
  | sprChanMapWrite => exact execSprChanMapWrite_canon hm
  | mailboxPacketReceive => exact execMailboxPacketReceive_canon hm
  | mailboxResend => exact (execMailboxResend_leavesMem ..).canon hm
  | remoteRequestReceive => exact execRemoteRequestReceive_canon hm
  | remoteResponseReceive => exact execRemoteResponseReceive_canon hm
  | sparRequestTimeout => exact (execSparRequestTimeout_leavesMem ..).canon hm
  | framePacketReceive => exact execFramePacketReceive_canon hm
  | timeExchange => exact (execTimeExchange_leavesMem ..).canon hm
  | leakTick => exact (execLeakTick_leavesMem ..).canon hm
  | retirementStart => exact execRetirementStart_canon hm
  | retirementEnd => exact execRetirementEnd_canon hm
  | rasRetire => exact (execRasRetire_leavesMem ..).canon hm
  | rasRestore => exact (execRasRestore_leavesMem ..).canon hm
  | selftestEnd => exact execSelftestEnd_canon hm
  | rasThresholdSet => exact execRasThresholdSet_canon hm
  | rasFoghornAck => exact execRasFoghornAck_canon hm
  | rasLogRead => exact (execRasLogRead_leavesMem ..).canon hm
  | rasHeartbeatWrite => exact execRasHeartbeatWrite_canon hm
  | rasCntSelWrite => exact execRasCntSelWrite_canon hm
  | tstPlaceUnderTest => exact execTstPlaceUnderTest_canon hm
  | tstRelease => exact execTstRelease_canon hm
  | tstPatternCfg => exact (execTstPatternCfg_leavesMem ..).canon hm
  | tstLoopbackCfg => exact (execTstLoopbackCfg_leavesMem ..).canon hm
  | tstResultRead => exact (execTstResultRead_leavesMem ..).canon hm
  | tstLaneCtlEnable => exact execTstLaneCtlEnable_canon hm
  | tstLaneClear => exact execTstLaneClear_canon hm
  | checkerLock => exact (execCheckerLock_leavesMem ..).canon hm
  | checkerLockLoss => exact (execCheckerLockLoss_leavesMem ..).canon hm
  | checkerDurationEnd => exact (execCheckerDurationEnd_leavesMem ..).canon hm
  | bypass => exact (execBypass_leavesMem ..).canon hm
  | idcode => exact (execIdcode_leavesMem ..).canon hm
  | samplePreload => exact (execSamplePreload_leavesMem ..).canon hm
  | extest => exact (execExtest_leavesMem ..).canon hm
  | dbgAccess => exact execDbgAccess_canon hm
  | keeperDebugHalt => exact (execKeeperDebugHalt_leavesMem ..).canon hm
  | tstClvHaltWrite => exact execTstClvHaltWrite_canon hm
  | tstClvRegDataWrite => exact execTstClvRegDataWrite_canon hm
  | powerSample => exact (execPowerSample_leavesMem ..).canon hm
  | powerLimitClear => exact (execPowerLimitClear_leavesMem ..).canon hm
  | thermalWarning => exact (execThermalWarning_leavesMem ..).canon hm
  | thermalThrottle => exact (execThermalThrottle_leavesMem ..).canon hm
  | throttleExit => exact (execThrottleExit_leavesMem ..).canon hm
  | thermalTrip => exact execThermalTrip_canon hm
  | vbatSample => exact (execVbatSample_leavesMem ..).canon hm
  | pwrLimitWrite => exact execPwrLimitWrite_canon hm
  | pwrThermCfgWrite => exact execPwrThermCfgWrite_canon hm
  | sparLinkChange => exact (execSparLinkChange_leavesMem ..).canon hm
  | highBerEvent => exact execHighBerEvent_canon hm
  | keeperMemoryError => exact execKeeperMemoryError_canon hm
  | hostLinkError => exact (execHostLinkError_leavesMem ..).canon hm
  | smbusBusError => exact (execSmbusBusError_leavesMem ..).canon hm
  | lxReadyRise => exact (execLxReadyRise_leavesMem ..).canon hm
  | ucodeStageEnd => exact execUcodeStageEnd_canon hm
  | calTableWriteEnd => exact execCalTableWriteEnd_canon hm
  | modeTransitionEnd => exact execModeTransitionEnd_canon hm
  | keeperDebugResume => exact (execKeeperDebugResume_leavesMem ..).canon hm
  | activationVerifyFail => exact (execActivationVerifyFail_leavesMem ..).canon hm

/-- Settles O48, by what the front of the queue is: nothing, and an idle step; or a command, whose meaning writes the memories by
their operations only. The memories are the five of `State.memoriesOk`: MRAM, LPDDR5X data, packet buffer, state cache and donated
memory; a cluster's own memory is not among them. -/
theorem stepKeepsMemoriesOk : Obligations.StepKeepsMemoriesOk := by
  unfold Obligations.StepKeepsMemoriesOk
  intro s t hs h
  rw [State.memoriesOk_iff] at hs ⊢
  unfold step at h
  split at h
  next => rw [← Host.Outcome.next.inj h]; exact State.idle_canon hs
  next c rest hq =>
    have hc : CanonNext (exec c { s with pending := rest }) := exec_canon hs
    rwa [h, canonNext_next] at hc

end Sys2Proof.Machine
end

section
/-! Family 08_memory_paging: what the byte memories answer to reads (O52, O47).

`Mem.rd` takes the first cell of its address, whatever the list; a memory is read here as one that keeps the cells of some addresses
(`Mem.rd_filter`), as two lists of cells one of which has none of the address (`Mem.rd_append_left`, `Mem.rd_append_right`), or as the
cells of a string (`Mem.rd_cells`). No canonical form is asked for. -/

namespace Sys2Proof.Machine

/-! ## Reads of cells -/

/-- A memory that keeps the cells of some addresses reads as before at those and 0 elsewhere. -/
theorem Mem.rd_filter (q : Nat → Bool) (m : Mem) (x : Nat) :
    Mem.rd (m.filter fun c => q c.1) x = if q x then Mem.rd m x else 0#8 := by
  induction m with
  | nil => exact (ite_self _).symm
  | cons c t ih =>
    obtain ⟨k, b⟩ := c
    by_cases hq : q k <;> by_cases hk : k = x
    · subst hk
      simp [hq, Mem.rd]
    · simp [hq, hk, Mem.rd, ih]
    · subst hk
      simp [hq, ih]
    · simp [hq, hk, Mem.rd, ih]

/-- No cell of an address: it reads 0. -/
theorem Mem.rd_of_no_cell {m : Mem} {x : Nat} (h : ∀ c ∈ m, c.1 ≠ x) : Mem.rd m x = 0#8 := by
  induction m with
  | nil => rfl
  | cons c t ih =>
    rw [Mem.rd, if_neg (h c List.mem_cons_self)]
    exact ih fun c hc => h c (List.mem_cons_of_mem _ hc)

theorem Mem.rd_append_right {m n : Mem} {x : Nat} (h : ∀ c ∈ m, c.1 ≠ x) : Mem.rd (m ++ n) x = Mem.rd n x := by
  induction m with
  | nil => rfl
  | cons c t ih =>
    rw [List.cons_append, Mem.rd, if_neg (h c List.mem_cons_self)]
    exact ih fun c hc => h c (List.mem_cons_of_mem _ hc)

theorem Mem.rd_append_left {m n : Mem} {x : Nat} (h : ∀ c ∈ n, c.1 ≠ x) : Mem.rd (m ++ n) x = Mem.rd m x := by
  induction m with
  | nil => exact Mem.rd_of_no_cell h
  | cons c t ih => rw [List.cons_append, Mem.rd, Mem.rd, ih]

/-- The cells of a string read as the string, its zeros too. -/
theorem Mem.rd_cells {a x : Nat} (bs : List Byte) (h : a ≤ x) : Mem.rd (Mem.cells a bs) x = bs.getD (x - a) 0#8 := by
  induction bs generalizing a with
  | nil => rfl
  | cons b t ih =>
    rcases Nat.eq_or_lt_of_le h with rfl | hx
    · have hr : Mem.rd (Mem.cells (a + 1) t) a = 0#8 :=
        Mem.rd_of_no_cell fun c hc => by have := (Mem.mem_cells hc).1; omega
      by_cases hb : b = 0#8 <;> simp [Mem.cells, Mem.rd, hb, hr]
    · have hd : x - a = x - (a + 1) + 1 := by omega
      rw [hd, List.getD_cons_succ, ← ih hx]
      by_cases hb : b = 0#8 <;> simp [Mem.cells, Mem.rd, hb, hx.ne]

/-! ## Reads after a write and after a range is cleared -/

/-- The addresses below a write, in it and above it: only one of its three parts has cells of an address. -/
theorem Mem.rd_write (m : Mem) (a : Nat) (bs : List Byte) (x : Nat) :
    Mem.rd (Mem.write m a bs) x = if a ≤ x ∧ x < a + bs.length then bs.getD (x - a) 0#8 else Mem.rd m x := by
  have below : ∀ c ∈ m.filter (fun c => decide (c.1 < a)), c.1 < a := fun c hc => by simpa using (List.mem_filter.mp hc).2
  have above : ∀ c ∈ m.filter (fun c => decide (a + bs.length ≤ c.1)), a + bs.length ≤ c.1 := fun c hc => by
    simpa using (List.mem_filter.mp hc).2
  have inside : ∀ c ∈ Mem.cells a bs, a ≤ c.1 ∧ c.1 < a + bs.length := fun c hc => ⟨(Mem.mem_cells hc).1, (Mem.mem_cells hc).2.1⟩
  unfold Mem.write
  by_cases hx : a ≤ x
  · rw [Mem.rd_append_right fun c hc => by have := below c hc; omega]
    by_cases hy : x < a + bs.length
    · rw [Mem.rd_append_left fun c hc => by have := above c hc; omega, Mem.rd_cells bs hx, if_pos ⟨hx, hy⟩]
    · rw [Mem.rd_append_right fun c hc => by have := inside c hc; omega, Mem.rd_filter fun k => decide (a + bs.length ≤ k),
        if_pos (decide_eq_true (not_lt.mp hy)), if_neg fun h => hy h.2]
  · rw [Mem.rd_append_left fun c hc => ?_, Mem.rd_filter fun k => decide (k < a), if_pos (decide_eq_true (not_le.mp hx)),
      if_neg fun h => hx h.1]
    rcases List.mem_append.mp hc with hc | hc
    · have := inside c hc
      omega
    · have := above c hc
      omega

theorem Mem.rd_clear (m : Mem) (a n x : Nat) :
    Mem.rd (Mem.clear m a n) x = if a ≤ x ∧ x < a + n then 0#8 else Mem.rd m x := by
  rw [Mem.clear, Mem.rd_filter fun k => decide (k < a) || decide (a + n ≤ k)]
  by_cases h : a ≤ x ∧ x < a + n
  · rw [if_pos h, if_neg (by simp; omega)]
  · rw [if_neg h, if_pos (by simp; omega)]

/-! ## The obligations -/

/-- Settles O52: the two reads, of any list of cells. -/
theorem memoryReadAfterWrite : Obligations.MemoryReadAfterWrite := ⟨Mem.rd_write, Mem.rd_clear⟩

/-- Settles O47: the five memories hold no cell after reset. -/
theorem resetMemoriesOk : Obligations.ResetMemoriesOk := by
  obtain ⟨hmram, hddr, hpbuf, hcache, hdonated⟩ := Mem.wf_reset
  exact (State.memoriesOk_iff _).mpr ⟨hmram, hddr, hpbuf, hcache, hdonated⟩

end Sys2Proof.Machine
end

section
/-! Family 08_memory_paging: what the pager's events do to the pages (O19). Each event looks at its page or at the watermarks and acts or
does nothing; one law states each case in which it acts. -/

namespace Sys2Proof.Machine

/-! ## Fills, write backs and evictions (R315, R329, R331 to R333) -/

/-- The second read of a page that a host's failed completion left filling (R337). -/
theorem execHostFillRetry_asks {page : BitVec 30} {d n : Nat} {s : State} (hh : (s.page page.toNat).home = .host d n)
    (hf : (s.page page.toNat).filling = true) (h1 : (s.page page.toNat).fails = 1) (hp : s.hostPaging = true)
    (ha : s.asked (.pageFill page.toNat) = false) :
    execHostFillRetry page s = .next (s.hostRead 0 0 (.pageFill page.toNat) (pasidWord (lookupD s.pgr.donations d {}).pasid)
      ((lookupD s.pgr.donations d {}).addr + n * 4096) 4096) := by
  simp only [execHostFillRetry, hh]
  rw [if_pos (by simp [hf, h1, hp, ha])]

/-- A write back is served: its page is being written from the state cache to a home that is reached. -/
theorem State.writeBack_served {p : Page} {away : Bool} (hw : p.writing = true) (hc : p.cached.isSome = true) (hh : away = false) :
    (!p.writing || p.cached.isNone || away) = false := by
  rw [← Option.not_isSome, hw, hc, hh]
  rfl

/-- A write back that ends well leaves a page in use clean and takes any other out of the state cache (R331). -/
theorem execWriteBackComplete_done {page : BitVec 30} {s : State} (hw : (s.page page.toNat).writing = true)
    (hc : (s.page page.toNat).cached.isSome = true) (hh : ((s.page page.toNat).onHost && !s.hostPaging) = false) :
    execWriteBackComplete page true s = .next (
      if (s.page page.toNat).pinned || s.references.contains page.toNat then s.cleanPage page.toNat else s.dropCached page.toNat) := by
  obtain ⟨take, ht⟩ : ∃ f, State.takeOther = f := ⟨_, rfl⟩
  unfold execWriteBackComplete
  extract_lets k p
  rw [ht, if_neg (ne_true_of_eq_false (State.writeBack_served hw hc hh)), if_pos rfl]

/-- A write back that fails gives the page another home, where there is one (R331). -/
theorem execWriteBackComplete_failed {page : BitVec 30} {s : State} (hw : (s.page page.toNat).writing = true)
    (hc : (s.page page.toNat).cached.isSome = true) (hh : ((s.page page.toNat).onHost && !s.hostPaging) = false) :
    ∀ x, s.takeOther (s.page page.toNat).home.donation = x → execWriteBackComplete page false s = .next (match x with
      | (some h, u) => u.setPage page.toNat { s.page page.toNat with home := h, writing := false, dirty := true }
      | (none, u) => u.setPage page.toNat { s.page page.toNat with writing := false, stuck := true, dirty := true }) := by
  intro x hx
  unfold execWriteBackComplete
  extract_lets k p
  rw [if_neg (ne_true_of_eq_false (State.writeBack_served hw hc hh)), if_neg Bool.false_ne_true, show s.takeOther p.home.donation = x from hx]
  obtain ⟨_ | h, u⟩ := x <;> rfl

/-- An eviction where the state cache has too few free frames (R333). -/
theorem execPageEviction_evicts {s : State} (h : 8192 < s.cachedFrames.length + s.rf F.PGR_CACHE_CFG_free_target) :
    execPageEviction s = .next (match s.evictable[s.draw.1 % max 1 s.evictable.length]? with
      | none => s.draw.2
      | some k =>
        let u := s.draw.2.rehomeHost k
        if (u.page k).dirty then u.setPage k { u.page k with writing := true } else u.dropCached k) := by
  exact congrArg Host.Outcome.next (if_neg (Nat.not_le.mpr h))

/-! ## Demotion and the patrol read (R315, R334) -/

/-- A demotion under the low watermark, or once begun under the high one, moves the least used page that may move (R334). -/
theorem execPageDemotion_goes {s : State}
    (hlow : s.pgr.demoting = true ∨ s.freeLpd * 100 < s.rf F.PGR_LPD_WMARK_low_pct * s.pagerFrames)
    (hhigh : s.freeLpd * 100 < s.rf F.PGR_LPD_WMARK_high_pct * s.pagerFrames) :
    execPageDemotion s = .next (
      let u : State := { s with pgr := { s.pgr with demoting := true } }
      let ps := u.pgr.pages.filter fun e => (e.2.home.frame).isSome && e.2.cached.isNone && e.2.reserve.isNone && !e.2.filling
        && !e.2.poisoned && !u.firmPage e.1
      match leastUsed ps, u.takeDon with
      | some k, some h =>
        let u := u.setPage k { u.page k with reserve := some h }
        { u with pgr := { u.pgr with moves := u.pgr.moves ++ [k] } }.startMove
      | _, _ => u) := by
  have hgo : ((s.pgr.demoting || decide (s.freeLpd * 100 < s.rf F.PGR_LPD_WMARK_low_pct * s.pagerFrames)) &&
      decide (s.freeLpd * 100 < s.rf F.PGR_LPD_WMARK_high_pct * s.pagerFrames)) = true := by
    simp [hlow, hhigh]
  unfold execPageDemotion
  rw [hgo]
  rfl

/-- A patrol read of a line that is not of the last frames, on a channel in service (R315). -/
theorem execPatrolScrubRead_reads {line : BitVec 32} {ecc : EccResult} {s : State} (hm : s.mainOn = true)
    (he : s.rfb F.MEM_SCRUB_CFG_enable = true) (hl : line.toNat * 64 / 4096 + 32 < lpdFrames)
    (hr : s.ras.retired.contains (0x300 + line.toNat * 64 / 4096 % 32) = false) :
    execPatrolScrubRead line ecc s = .next (s.eccRead (line.toNat * 64) ecc) := by
  have hg : (!s.mainOn || !s.rfb F.MEM_SCRUB_CFG_enable || decide (line.toNat * 64 / 4096 ≥ lpdFrames) ||
      s.ras.retired.contains (0x300 + line.toNat * 64 / 4096 % 32)) = false := by
    rw [hm, he, hr, decide_eq_false (by omega)]
    rfl
  have hlast : (decide (line.toNat * 64 / 4096 + 32 ≥ lpdFrames) && decide (line.toNat * 64 % 4096 = 4032)) = false := by
    rw [decide_eq_false (by omega), Bool.false_and]
  simp only [execPatrolScrubRead, hg, hlast, Bool.false_eq_true, if_false]

/-! ## The obligation -/

/-- Settles O19, one clause for each event and each of its effects. -/
theorem pagerActs : Obligations.PagerActs := by
  unfold Obligations.PagerActs
  refine ⟨?retry, ?drop, ?clean, ?failed, ?evict, ?demote, ?copy, ?scrub⟩
  case retry => exact fun page d n s hh hf h1 hp ha => execHostFillRetry_asks hh hf h1 hp ha
  case drop =>
    intro page ok s hw hc hh rfl hk
    exact (execWriteBackComplete_done hw hc hh).trans (congrArg _ (if_neg (ne_true_of_eq_false hk)))
  case clean =>
    intro page ok s hw hc hh rfl hk
    exact (execWriteBackComplete_done hw hc hh).trans (congrArg _ (if_pos hk))
  case failed =>
    intro page ok s hw hc hh rfl
    generalize hx : s.takeOther _ = x
    exact execWriteBackComplete_failed hw hc hh x hx
  case evict => exact fun s h => execPageEviction_evicts h
  case demote => exact fun s hl hh => execPageDemotion_goes hl hh
  case copy => exact fun page s hm => congrArg Host.Outcome.next (if_pos hm)
  case scrub => exact fun line ecc s hm he hl hr => execPatrolScrubRead_reads hm he hl hr

end Sys2Proof.Machine
end

section
/-! Family 08_memory_paging: what the memory commands and the buffer operations of masters answer (O20), with one law for the body of each
command where its checks pass. -/

namespace Sys2Proof.Machine

/-! ## Pins and prefetches (R337) -/

/-- The range that a command names starts at a page, holds one to `most` pages, and lies in the range of its instance. -/
structure Cmd.PagesFit (c : Cmd) (s : State) (most : Nat) : Prop where
  aligned : c.p 0 % 4096 = 0
  one_le : 1 ≤ c.p 2 % 2 ^ 17
  le_most : c.p 2 % 2 ^ 17 ≤ most
  inRange : c.p 0 + c.p 1 * 2 ^ 32 + c.p 2 % 2 ^ 17 * 4096 ≤ (s.rangeOf c.target).2 * 2 ^ 21

/-- A range that fits passes the checks that the three commands share. -/
theorem pgrChecks_of_fits {c : Cmd} {s : State} {most : Nat} (body : Unit → Res) (h : c.PagesFit s most) :
    pgrChecks c s most body = body () := by
  obtain ⟨ha, h1, hm, hin⟩ := h
  have hn : (decide (c.p 2 % 2 ^ 17 = 0) || decide (c.p 2 % 2 ^ 17 > most)) = false := by
    rw [decide_eq_false (Nat.one_le_iff_ne_zero.mp h1), decide_eq_false (Nat.not_lt.mpr hm), Bool.or_self]
  simp only [pgrChecks, guards_cons, guards_nil, ha, bne_self_eq_false, hn, gt_iff_lt, Nat.not_lt.mpr hin, decide_false,
    Bool.false_eq_true, if_false]

/-- The pages that PGR_PIN names and that are not pinned yet. -/
def State.newPins (s : State) (c : Cmd) : List Nat := (s.namedPages c).filter fun k => !(s.page k).pinned

/-- The pages of PGR_PIN are pinned, and those not settled begin to fill. -/
def State.pinNamed (s : State) (c : Cmd) : State :=
  (s.namedPages c).foldl (fun u k => if (u.page k).settled then u else u.startFill k)
    ((s.newPins c).foldl (fun u k => u.setPage k { u.page k with pinned := true }) s)

/-- PGR_PIN within the quota of its instance and above the floor of unpinned frames answers once its pages are all settled. -/
theorem pgrPinSpec_body {c : Cmd} {s : State} (hr : c.reserved [(2, 0x1FFFF)] = none) (hfit : c.PagesFit s 4096)
    (hquota : c.target = 0 ∨ s.pinnedOf c.target + (s.newPins c).length ≤ wd (s.inst c.target).quota 6 % 2 ^ 13)
    (hfloor : s.pinnedAll + (s.newPins c).length + s.rf F.PGR_CACHE_CFG_unpinned_floor ≤ 8192) :
    pgrPinSpec.body c s = if (s.namedPages c).all fun k => ((s.pinNamed c).page k).settled then
        .ok (s.pinNamed c) (results [(s.newPins c).length])
      else .pendNote (s.pinNamed c) ((s.newPins c).length :: s.newPins c) := by
  have hq : (c.target != 0 && decide (s.pinnedOf c.target + (s.newPins c).length > wd (s.inst c.target).quota 6 % 2 ^ 13)) = false := by
    rcases hquota with ht | hn
    · rw [ht, bne_self_eq_false, Bool.false_and]
    · rw [decide_eq_false (Nat.not_lt.mpr hn), Bool.and_false]
  simp only [pgrPinSpec, Cmd.checked_of_none _ _ hr, pgrChecks_of_fits _ hfit]
  refine guards_of_all_false _ ?_
  exact List.forall_mem_cons.mpr ⟨hq, List.forall_mem_cons.mpr ⟨decide_eq_false (Nat.not_lt.mpr hfloor), List.forall_mem_nil _⟩⟩

/-- PGR_UNPIN answers with the number of pages that were pinned. -/
theorem pgrUnpinSpec_body {c : Cmd} {s : State} (hr : c.reserved [(2, 0x1FFFF)] = none) (hfit : c.PagesFit s 65536) :
    pgrUnpinSpec.body c s =
      .ok (((s.namedPages c).filter fun k => (s.page k).pinned).foldl
          (fun u k => (u.setPage k { u.page k with pinned := false }).tidyPage k) s)
        (results [((s.namedPages c).filter fun k => (s.page k).pinned).length]) := by
  simp only [pgrUnpinSpec, Cmd.checked_of_none _ _ hr, pgrChecks_of_fits _ hfit]

/-- PGR_PREFETCH to the state cache answers with the number of pages queued. -/
theorem pgrPrefetchSpec_body_fill {c : Cmd} {s : State} (hr : c.reserved [(2, 0x1FFFF), (3, 3)] = none) (h0 : c.p 3 = 0)
    (hfit : c.PagesFit s 65536) :
    pgrPrefetchSpec.body c s =
      .ok ((s.namedPages c).foldl State.hintFill (0, s)).2 (results [((s.namedPages c).foldl State.hintFill (0, s)).1]) := by
  simp only [pgrPrefetchSpec, Cmd.checked_of_none _ _ hr, guards_cons, guards_nil, pgrChecks_of_fits _ hfit, h0]
  rfl

/-- PGR_PREFETCH that discards marks its pages and drops those without references. -/
theorem pgrPrefetchSpec_body_discard {c : Cmd} {s : State} (hr : c.reserved [(2, 0x1FFFF), (3, 3)] = none) (h2 : c.p 3 = 2)
    (hfit : c.PagesFit s 65536) :
    pgrPrefetchSpec.body c s = .ok ((s.namedPages c).foldl State.askDiscard s).settleDiscards [] := by
  simp only [pgrPrefetchSpec, Cmd.checked_of_none _ _ hr, guards_cons, guards_nil, pgrChecks_of_fits _ hfit, h2]
  rfl

/-! ## Donations and grants (R338, R339, R341) -/

/-- A donation's entry is set. -/
def State.setDonation (s : State) (d : Nat) (don : Donation) : State :=
  { s with pgr := { s.pgr with donations := insertKey s.pgr.donations d don } }

/-- The lowest index that no donation has. -/
def State.freeDonation (s : State) : Nat := ((List.range 64).find? fun d => (lookup s.pgr.donations d).isNone).getD 0

/-- MEM_DONATE of an aligned range answers with the donation's index and its pages. -/
theorem memDonateSpec_body {c : Cmd} {s : State} (hr : c.reserved [(2, 0x3FFFF), (3, 0xFFFFF800)] = none) (h1 : 1 ≤ c.p 2)
    (hmost : c.p 2 ≤ 131072) (hroom : s.pgr.donations.length < 64) (ha : (c.p 0 + c.p 1 * 2 ^ 32) % 2 ^ 21 = 0) :
    memDonateSpec.body c s =
      .ok (s.setDonation s.freeDonation { addr := c.p 0 + c.p 1 * 2 ^ 32, size := c.p 2, pasid := c.p 3 })
        (results [s.freeDonation, c.p 2 * 512]) := by
  simp only [memDonateSpec, Cmd.checked_of_none _ _ hr, guards_cons, guards_nil, Nat.one_le_iff_ne_zero.mp h1, gt_iff_lt, ge_iff_le,
    Nat.not_lt.mpr hmost, Nat.not_le.mpr hroom, ha, bne_self_eq_false, decide_false, Bool.or_self, Bool.false_eq_true, if_false]
  rfl

/-- A donation is being revoked, and the reservations in it have been given other homes. -/
def State.revokeStarted (s : State) (d : Nat) : State :=
  let there := (s.pgr.pages.filter fun e => e.2.reserve.any fun h => (h.donPage d).isSome).map (·.1)
  let u := s.setDonation d { lookupD s.pgr.donations d {} with revoking := true, pages := (s.donPages d).length }
  ((u.cancelMoves there).reserveMoves State.takeHome there).2

/-- MEM_REVOKE of a donation whose pages have room elsewhere moves them. -/
theorem memRevokeSpec_body {c : Cmd} {s : State} (hr : c.reserved [(0, 0x3F)] = none)
    (hd : (lookup s.pgr.donations (c.p 0)).isSome = true)
    (hroom : (s.donPages (c.p 0)).length ≤ (s.revokeStarted (c.p 0)).freeLpd + (s.revokeStarted (c.p 0)).freeDon) :
    memRevokeSpec.body c s =
      .pendNote ((s.revokeStarted (c.p 0)).reserveMoves State.takeHome (s.pagesOfDon (c.p 0))).2 [(s.donPages (c.p 0)).length] := by
  obtain ⟨don, hdon⟩ := Option.isSome_iff_exists.mp hd
  have hD : lookupD s.pgr.donations (c.p 0) {} = don := by rw [lookupD, hdon, Option.getD_some]
  simp only [memRevokeSpec, Cmd.checked_of_none _ _ hr, hdon]
  obtain ⟨move, hm⟩ : ∃ f, State.reserveMoves = f := ⟨_, rfl⟩
  simp only [State.revokeStarted, hD, hm] at hroom ⊢
  exact if_neg (Nat.not_lt.mpr hroom)

/-- The grant of a region that is not still to be vacated. -/
def State.grantOf (s : State) (base size : Nat) : Option (Nat × Nat × Nat) :=
  s.mem.grants.find? fun g => g.2.1 = base && g.2.2 = size && !s.mem.vacating.contains g.1

/-- A region is given back: its grant ends and its memory is cleared. -/
def State.dropGrant (s : State) (g base size : Nat) : State :=
  { s with mem := { s.mem with grants := eraseKey s.mem.grants g, ddr := Mem.clear s.mem.ddr (base * 2 ^ 21) (size * 2 ^ 21) } }

/-- MEM_PEER_WINDOW that gives a region back clears its memory and its registers. -/
theorem memPeerWindowSpec_body_release {c : Cmd} {s : State} {g : Nat × Nat × Nat} (h1 : c.p 0 % 4 = 1)
    (hr : c.reserved [(0, 0x3F0003), (1, 0x1FFFF), (2, 0x1FFFF)] = none) (hg : s.grantOf (c.p 1) (c.p 2) = some g)
    (hw : s.windowTargets (c.p 1) (c.p 2) = false) :
    memPeerWindowSpec.body c s =
      .ok (((s.dropGrant g.1 (c.p 1) (c.p 2)).setReg (R.MEM_GRANT g.1) 0).setReg (R.MEM_GRANT_SIZE g.1) 0) [] := by
  unfold State.grantOf at hg
  simp only [memPeerWindowSpec, h1, OfNat.one_ne_ofNat, if_false, Cmd.checked_of_none _ _ hr, hg, guards_cons, guards_nil, hw,
    Bool.false_eq_true]
  rfl

/-! ## Carves and quotas (R351, R352) -/

/-- The carve that a BPM_POOL_CFG names: the buffers of each class. -/
def Cmd.carve (c : Cmd) : List Nat := [c.p 1, c.p 2, c.p 3, c.p 4]

/-- A carve waits on the on-die tier. -/
def State.awaitCarve0 (s : State) (carve : List Nat) : State := { s with bpm := { s.bpm with next0 := some carve } }

/-- BPM_POOL_CFG of the on-die tier with a carve that fits is in force at once, or once the old carve's buffers have gone. -/
theorem bpmPoolCfgSpec_body_onDie {c : Cmd} {s : State}
    (hr : c.reserved [(0, 1), (1, 0x1FFFFFFF), (2, 0x1FFFFFFF), (3, 0x1FFFFFFF), (4, 0x1FFFFFFF)] = none) (h0 : c.p 0 = 0)
    (hfit : carveUnits c.carve ≤ 375000) :
    bpmPoolCfgSpec.body c s = if (s.awaitCarve0 c.carve).carveReady 0 c.carve then .ok ((s.awaitCarve0 c.carve).settleCarve 0) []
      else .pend (s.awaitCarve0 c.carve) := by
  unfold Cmd.carve State.awaitCarve0 at *
  simp only [bpmPoolCfgSpec, Cmd.checked_of_none _ _ hr, guards_cons, guards_nil, h0, if_true, gt_iff_lt, Nat.not_lt.mpr hfit,
    decide_false, Bool.false_eq_true, if_false]

/-- BPM_POOL_CFG of the on-die tier locks it. -/
theorem bpmPoolCfgSpec_locks {c : Cmd} {s : State} (h0 : c.p 0 = 0) : bpmPoolCfgSpec.locks s c = [⟨.tier, 0⟩] := by
  change [(⟨.tier, c.p 0 % 2⟩ : Lock)] = _
  rw [h0]

/-- A requester's whole quota is set. -/
def State.withQuota (s : State) (r : Nat) (q : Quota) : State := { s with bpm := { s.bpm with quotas := insertKey s.bpm.quotas r q } }

/-- BPM_SET_QUOTA of a whole quota, of a requester that is not an instance, sets it where the minimums still fit. -/
theorem bpmSetQuotaSpec_body {c : Cmd} {s : State}
    (hr : c.reserved [(0, 0x80000FFF), (1, 0xFFFF), (2, 0xFFFF), (3, 0x1FFFFFF)] = none)
    (hk : requesterKnown (field (c.p 0) 11 0) = true) (hi : 0x800 ≤ field (c.p 0) 11 0) (hall : bitAt (c.p 0) 31 = false)
    (hmin : (s.withQuota (field (c.p 0) 11 0) ⟨c.p 1, c.p 2, c.p 3⟩).minSum ≤ 23437) :
    bpmSetQuotaSpec.body c s = .ok (s.withQuota (field (c.p 0) 11 0) ⟨c.p 1, c.p 2, c.p 3⟩) [] := by
  unfold State.withQuota at hmin ⊢
  simp only [bpmSetQuotaSpec, Cmd.checked_of_none _ _ hr, guards_cons, guards_nil, hk, hall, gt_iff_lt, Nat.not_lt.mpr hi,
    Nat.not_lt.mpr hmin, decide_false, Bool.false_and, Bool.not_true, Bool.false_eq_true, if_false]

/-! ## Buffer operations of masters (R347, R349, R773) -/

/-- A master with an assigned MID is served. -/
theorem State.bufBy_assigned {s : State} {mid : Nat} (body : State → State) (hon : s.mainOn = true) (hm : midAssigned mid = true) :
    s.bufBy mid body = body s := by
  simp [State.bufBy, hon, hm]

/-- One whose MID is never assigned is refused as a bad master's (R773). -/
theorem State.bufBy_unassigned {s : State} {mid : Nat} (body : State → State) (hon : s.mainOn = true) (hm : midAssigned mid = false) :
    s.bufBy mid body = s.badMaster mid false none := by
  simp [State.bufBy, hon, hm]

/-! ## The obligation -/

theorem exec_memRevoke (e : AdminEntry) (s : State) : exec (.memRevoke e) s = .next (s.runCmd memRevokeSpec e).settleMoves := rfl
theorem exec_memPeerWindow (e : AdminEntry) (s : State) :
    exec (.memPeerWindow e) s = .next (s.runCmd memPeerWindowSpec e).settleMoves := rfl

/-- Settles O20: each command's checks pass and its body acts, and each operation of a master is served or refused by its MID. Which pages
are settled, the zero and the poisoned ones among them (log entry 42), that a donation takes the lowest free index, and that a region given
back is cleared are the model's choices. -/
theorem memoryCommands : Obligations.MemoryCommands := by
  unfold Obligations.MemoryCommands
  refine ⟨?pin, ?unpin, ?fill, ?discard, ?donate, ?revoke, ?release, ?carve, ?quota, ?alloc, ?share, ?releaseBuf, ?transfer, ?bad,
    ?free⟩
  case pin =>
    intro s e h ⟨hr, ha, h1, hm, hin, hquota, hfloor⟩
    have hb := pgrPinSpec_body hr ⟨ha, h1, hm, hin⟩ hquota hfloor
    by_cases hall : ((s.taken pgrPinSpec e).namedPages (s.heard pgrPinSpec e)).all fun k =>
        (((s.taken pgrPinSpec e).pinNamed (s.heard pgrPinSpec e)).page k).settled
    · exact congrArg Host.Outcome.next ((runCmd_ok h (hb.trans (if_pos hall))).trans (if_pos hall).symm)
    · exact congrArg Host.Outcome.next ((runCmd_pendNote h (hb.trans (if_neg hall))).trans (if_neg hall).symm)
  case unpin => exact fun s e h ⟨hr, ha, h1, hm, hin⟩ => congrArg _ (runCmd_ok h (pgrUnpinSpec_body hr ⟨ha, h1, hm, hin⟩))
  case fill =>
    exact fun s e h ⟨hr, h0, ha, h1, hm, hin⟩ => congrArg _ (runCmd_ok h (pgrPrefetchSpec_body_fill hr h0 ⟨ha, h1, hm, hin⟩))
  case discard =>
    exact fun s e h ⟨hr, h2, ha, h1, hm, hin⟩ => congrArg _ (runCmd_ok h (pgrPrefetchSpec_body_discard hr h2 ⟨ha, h1, hm, hin⟩))
  case donate => exact fun s e h ⟨hr, h1, hm, hroom, ha⟩ => congrArg _ (runCmd_ok h (memDonateSpec_body hr h1 hm hroom ha))
  case revoke =>
    intro s e h ⟨hr, hd, hroom⟩
    rw [exec_memRevoke, runCmd_pendNote h (memRevokeSpec_body hr hd hroom)]
    rfl
  case release =>
    intro s e h ⟨h1, hr, hg, hw⟩
    obtain ⟨g, hg⟩ := Option.isSome_iff_exists.mp hg
    rw [exec_memPeerWindow, runCmd_ok h (memPeerWindowSpec_body_release h1 hr hg hw)]
    beta_reduce
    rw [hg]
    rfl
  case carve =>
    intro s e h ⟨hr, h0, hfit⟩
    have hb := bpmPoolCfgSpec_body_onDie (s := s.taken bpmPoolCfgSpec e) hr h0 hfit
    by_cases hready : ((s.taken bpmPoolCfgSpec e).awaitCarve0 (s.heard bpmPoolCfgSpec e).carve).carveReady 0
        (s.heard bpmPoolCfgSpec e).carve
    · exact congrArg Host.Outcome.next ((runCmd_ok h (hb.trans (if_pos hready))).trans (if_pos hready).symm)
    · have hp := runCmd_pend h (hb.trans (if_neg hready))
      rw [bpmPoolCfgSpec_locks h0] at hp
      exact congrArg Host.Outcome.next (hp.trans (if_neg hready).symm)
  case quota => exact fun s e h ⟨hr, hk, hi, hall, hmin⟩ => congrArg _ (runCmd_ok h (bpmSetQuotaSpec_body hr hk hi hall hmin))
  case alloc => exact fun r n s hon hk => congrArg _ (if_pos (by rw [hon, hk, Bool.and_self]))
  case share => exact fun mid ptr r holder s hon hm => congrArg _ (State.bufBy_assigned _ hon hm)
  case releaseBuf => exact fun mid ptr r s hon hm => congrArg _ (State.bufBy_assigned _ hon hm)
  case transfer => exact fun mid ptr r dest s hon hm => congrArg _ (State.bufBy_assigned _ hon hm)
  case bad => exact fun mid ptr r holder s hon hm => congrArg _ (State.bufBy_unassigned _ hon hm)
  case free => exact fun mid ptr r s hon hm => congrArg _ (State.bufBy_assigned _ hon hm)

end Sys2Proof.Machine
end

section
/-! Family 08_memory_paging: what the BUF instructions and the events of threads do (O29). A BUF instruction runs as `clvRun_runs` says and
ends as `bufAlloc` or `bufEnd` say of the answer of the buffer pool manager. The cluster that BUF.SHARE adds as a holder and the fault 7 of
a transfer past its quota are the model's choices (log entry 49). -/

namespace Sys2Proof.Machine

/-! ## BUF instructions (R347, R471) -/

/-- The end of BUF.ALLOC, of the answer of the pool. -/
theorem bufAlloc_eq {k n w : Nat} {s : State} : ∀ x, s.allocBuf (clvReq k) (s.rs1 k n w) = x → bufAlloc k n s w = match x with
    | (some p, u) => .block (u.setTh k n { u.th k n with bufs := (u.th k n).bufs ++ [p] }) (rdOf w) p
    | (none, u) => .block u (rdOf w) 0xFFFFFFFF := by
  intro x hx
  unfold bufAlloc
  extract_lets len
  rw [show s.allocBuf (clvReq k) len = x from hx]
  obtain ⟨_ | p, u⟩ := x <;> rfl

/-- A BUF instruction that the pool serves blocks its thread and changes the thread's list of buffers. -/
theorem clvRun_buf_served {s u : State} {k n w len ptr : Nat} {op : ClvOp} {body : State → Nat → ClvEnd} {add : Bool}
    {r : Bool × State} (h : s.runs k n op w len = true) (hb : body s w = bufEnd k n ptr add r) (hr : r = (true, u)) :
    s.clvRun k n op body = s.ended k n len (.block (u.setTh k n { u.th k n with
      bufs := if add then (u.th k n).bufs ++ [ptr] else (u.th k n).bufs.erase ptr }) 0 0) := by
  rw [clvRun_runs h, hb, hr]
  rfl

/-- One that the pool refuses faults (R347). -/
theorem clvRun_buf_refused {s u : State} {k n w len ptr : Nat} {op : ClvOp} {body : State → Nat → ClvEnd} {add : Bool}
    {r : Bool × State} (h : s.runs k n op w len = true) (hb : body s w = bufEnd k n ptr add r) (hr : r = (false, u)) :
    s.clvRun k n op body = s.ended k n len (.fault u 7 0 0) := by
  rw [clvRun_runs h, hb, hr]
  rfl

/-! ## Events of threads (R464, R465, R475) -/

/-- A frame that is dispatched for the first time and keeps no order takes no slot. -/
theorem State.takeSlot_unordered (s : State) (pkt : Pkt) (mask : Nat) (desc : List Word) (seq : Nat) :
    s.takeSlot { pkt := pkt, mask := mask, ordered := false, desc := desc, seq := seq } = (pkt, s) := rfl

/-- The head of a cluster's queue, a frame not yet described that keeps no order, starts on the thread picked for it (R464, R465). -/
theorem State.cloveDispatch_starts {s u : State} {k n : Nat} {f : CloveFrame} {rest : List CloveFrame} (hq : (s.cl k).queue = f :: rest)
    (ho : f.ordered = false) (hd : f.desc = []) (hopen : s.cloveOpen k = true) (hn : s.pickThread k = some n)
    (hu : s.toCluster k f.pkt.ptr = (true, u)) : s.cloveDispatch k = (
      let base := (u.cl k).sliceBase n
      let desc := descOf f.pkt false (s.cl k).seq
      let v := (u.setCl k { u.cl k with queue := rest, seq := ((u.cl k).seq + 1) % 65536 }).sliceWrite k n base (wordsBytes desc)
      let pc := (v.prog k (u.cl k).bank).thrEntry
      let v := v.setTh k n { v.th k n with
          state := 2, pc := pc, armed := false, wakeEn := 1, spage := wd desc 11 % 2 ^ 30, latched := 0
          x := (((v.th k n).x.set 2 (w32 (base + (u.cl k).sliceSize))).set 10 (w32 base)).set 11 (w32 f.pkt.data.length)
          frame := some f.pkt, orig := some { f with pkt := f.pkt, desc := desc, seq := (s.cl k).seq }, bank := (u.cl k).bank
          seq := (s.cl k).seq, result := none, returned := false, bufs := [] }
      (v.bump (R.CLV_DISPATCHED k)).clvTrace k n pc true) := by
  obtain ⟨pkt, mask, ordered, desc, seq⟩ := f
  subst ho hd
  have hpick : (if s.cloveOpen k then s.pickThread k else none) = some n := by rw [hopen, if_pos rfl, hn]
  unfold State.cloveDispatch
  extract_lets c
  rw [hpick, show c.queue = _ from hq]
  dsimp only at hu ⊢
  rw [hu]
  simp only [State.takeSlot_unordered, List.isEmpty_nil, Bool.not_true, Bool.false_eq_true, if_false]
  rfl

/-! ## The obligation -/

/-- Settles O29: the BUF instructions served and refused, the dispatch of a frame, and the events of a thread. -/
theorem bufferInstructions : Obligations.BufferInstructions := by
  unfold Obligations.BufferInstructions
  refine ⟨?alloc, ?share, ?shareBad, ?release, ?releaseBad, ?free, ?freeBad, ?xfer, ?xferBad, ?dispatch, ?slot, ?result, ?waiting, ?compare⟩
  case alloc =>
    intro k n w len s h
    generalize hx : s.allocBuf _ _ = x
    exact congrArg Host.Outcome.next ((clvRun_runs h).trans (congrArg _ (bufAlloc_eq x hx)))
  case share => exact fun k n w len u s h hu => congrArg Host.Outcome.next (clvRun_buf_served (add := true) h rfl hu)
  case shareBad => exact fun k n w len u s h hu => congrArg Host.Outcome.next (clvRun_buf_refused h rfl hu)
  case release => exact fun k n w len u s h hu => congrArg Host.Outcome.next (clvRun_buf_served (add := false) h rfl hu)
  case releaseBad => exact fun k n w len u s h hu => congrArg Host.Outcome.next (clvRun_buf_refused h rfl hu)
  case free => exact fun k n w len u s h hu => congrArg Host.Outcome.next (clvRun_buf_served (add := false) h rfl hu)
  case freeBad => exact fun k n w len u s h hu => congrArg Host.Outcome.next (clvRun_buf_refused h rfl hu)
  case xfer => exact fun k n w len u s h hu => congrArg Host.Outcome.next (clvRun_buf_served (add := false) h rfl hu)
  case xferBad => exact fun k n w len u s h hu => congrArg Host.Outcome.next (clvRun_buf_refused h rfl hu)
  case dispatch =>
    intro cluster f rest n u s hq ho hd hopen hn hu
    exact congrArg (fun t : State => Host.Outcome.next (t.clvSettle cluster.val)) (State.cloveDispatch_starts hq ho hd hopen hn hu)
  case slot =>
    intro slot x s hx ho
    change execOrderedSlotTimeout slot s = _
    simp [execOrderedSlotTimeout, hx, ho]
  case result =>
    intro cluster thread r v s hr h3
    change execBlockedResultReturn cluster thread s = _
    simp [execBlockedResultReturn, hr, h3]
  case waiting =>
    intro cluster thread r v s hr h6
    change execBlockedResultReturn cluster thread s = _
    simp [execBlockedResultReturn, hr, h6]
  case compare =>
    intro cluster thread s h
    exact congrArg (fun t : State => Host.Outcome.next (t.clvSettle cluster.val)) (if_pos h)

end Sys2Proof.Machine
end
